-- ==== Sys2Proof/Word.lean ====
section
/-!
DEFINITION. The word types of the Trelian and the numbering of its units (R16), and the sparse
table every collection of like things in the state is kept in. Nothing here computes: bit fields,
byte orders and table operations are in Machine/Tab.lean and Machine/Bits.lean.
-/
set_option linter.unusedVariables false

namespace Sys2Proof

/-- An octet. -/
abbrev Byte := BitVec 8
/-- A 64-bit register. -/
abbrev Word := BitVec 64
/-- A 64-byte line as one number, byte 0 in bits [7:0] (R10). -/
abbrev Line := BitVec 512
/-- A sparse table: keys strictly rising, no entry equal to the table's default (see `tabGet`). -/
abbrev Tab (α : Type) := List (Nat × α)

/-- Compute dies CD0–CD11 (R16). -/
abbrev DieN := Fin 12
/-- Harts 0–215 (R2). -/
abbrev HartN := Fin 216
/-- Hub slices S0–S15 and, with the same number, DDR5 channels CH0–CH15 (R16). -/
abbrev SliceN := Fin 16
/-- Benches B0–B3 (R16). -/
abbrev BenchN := Fin 4
/-- Bench functions: 0 is the PF, f is VF(f−1) (R317). -/
abbrev FnN := Fin 257
/-- A ring pair of a function, or a Feed channel of a bench. -/
abbrev RingN := Fin 16
/-- Inlay sites IS0, IS1 (R16). -/
abbrev SiteN := Fin 2
/-- SPDM session slots (R395: at most 8 sessions). -/
abbrev SessN := Fin 8

end Sys2Proof
end

