-- ==== Sys2Proof/Syntax.lean ====
section
/-!
DEFINITION. The commands of the Trelian: one constructor of `Instr` per row of spec/opcode_table.json,
with the operands the row's rules give it. A command is a message or access that reaches the package,
an event on a pin or link, the expiry of one of its timers, or the instruction of a hart that acts on
the package. Facts of the world that the package only observes (a lane test's result, a DIMM's
answer, flash bytes, a temperature) are operands.
-/
set_option linter.unusedVariables false

namespace Sys2Proof

/-! ### Operand types -/

/-- Atomic operations of a hart (RVA23 A, Zacas; R187). -/
inductive AmoOp where
  | swap | add | xor | and | or | min | max | minu | maxu | cas
deriving DecidableEq, Repr

/-- A general or floating-point register number. -/
abbrev RegN := Fin 32

/-- Where a load's value goes: an integer register, a floating-point register, or the instruction stream. -/
inductive Dst where
  | x (r : Nat)
  | f (r : Nat)
  | inst
deriving DecidableEq, Repr

/-- What a core test (R105) does: it begins, or it ends with the core passing or failing. -/
inductive TestEvt where
  | start | pass | fail
deriving DecidableEq, Repr

/-- Cache-block operations (R193). -/
inductive CboOp where
  | clean | flush | inval | zero
deriving DecidableEq, Repr

/-- Kinds of SPDM responses (R395, R396). -/
inductive SpdmOut where
  | keyExchange | finish | measurements | certificate | challengeAuth | keyUpdateAck | heartbeatAck | endSessionAck
  | errSessionLimit | errUnspecified
deriving DecidableEq, Repr

/-- Interrupt sources the hub raises through the APLICs. -/
inductive AplicSrc where
  | dieLoss (die : Nat)
  | containment (site : Nat)
  | pcieWake (rp : Nat)
  | pairEvent
  | worldEvent
  | other (n : Nat)
deriving DecidableEq, Repr

/-- Output pins. -/
inductive PinName where
  | thermtripN | prochotN | kerfSync | errN | flashHighZ | gaugePulse
deriving DecidableEq, Repr

/-- Frames of the management segment (R454–R457). -/
inductive SegKind where
  | mctp | announce | takeoverReq | takeoverAns | beacon
deriving DecidableEq, Repr


/-! ### Fabric messages (chapter "Coherence Protocol") -/

/-- The opcodes of R179. -/
inductive Op where
  | rds | rdc | rdw | rdx | upg | zro | cln | fls | inv | ncrd | ncwr | imsw
  | fwdS | fwdX | snpInv | snpPeek | snpClean | snpFlush | binv
  | snpAck | fwdAck | killDone | protEnd | cmp | wbAck | wbXack | kdone
  | dataS | dataE | dataM | dataNc | dataSnp | wbM | evn | wbP
deriving DecidableEq, Repr

/-- A fabric message: the die it comes from or is addressed to, and the fields of R178. -/
structure FMsg where
  op : Op
  up : Bool          -- it travels from the die to the hub
  die : Nat
  inc : Nat
  txid : Nat
  rtag : Nat
  core : Nat
  poison : Bool
  dirty : Bool
  kp : Bool
  prot : Bool
  held : Bool
  addr : Nat
  size : Nat
  reqDie : Nat
  data : Line
deriving DecidableEq, Repr

/-- What an agent asks of a line (R186, R188, R189). -/
inductive AgentOp where
  | read
  | write (data : Line) (mask : Nat)
  | atomic (off : Nat) (op : Nat) (a b : Nat)   -- 8 naturally aligned bytes; SUBOP of R163
deriving DecidableEq, Repr

/-- What the IOMMU translates a device's access under: the virtual machine and process of the device's context, the address the
device gave, the guest physical address between the stages, and where the walk reads. -/
structure IoTr where
  gscid : Option Nat
  pscid : Option Nat
  iova : Nat
  gpa : Nat
  tables : List Nat   -- physical addresses of the entries the walk of the tables reads, in order
deriving DecidableEq, Repr

/-- Who an agent access is for: a bench, an inlay site with its TAG, or a device with its tag and what it is translated under
(none: untranslated). -/
inductive AgentId where
  | bench (b : Nat) (tag : Nat)
  | inlay (site : Nat) (tag : Nat)
  | device (rp : Nat) (tag : Nat) (tr : Option IoTr)
  | hub (tag : Nat)
deriving DecidableEq, Repr


/-- What a lane test of one bundle finds bad (R147): data lanes 0–63, spares 0–3, clocks 0–1, as bit masks. -/
structure LaneTest where
  data : Nat
  spares : Nat
  clocks : Nat
deriving DecidableEq, Repr

/-- What training a link meets: whether the PLLs lock, and both bundles' lane tests. -/
structure LinkObs where
  pll : Bool
  up : LaneTest
  down : LaneTest
deriving DecidableEq, Repr

/-- The fields of an inlay transaction's 16-byte header (R163). -/
structure InlayHdr where
  op : Nat
  tag : Nat
  status : Nat
  subop : Nat
  addr : Nat
  size : Nat
  rsvd : Nat
deriving DecidableEq, Repr

/-- What a UCIe training attempt gives: success, rate code and width (R169). -/
structure UcieObs where
  ok : Bool
  rate : Nat
  width : Nat
deriving DecidableEq, Repr


/-- What an error check of an array or of DRAM finds (R228, R260). -/
inductive MemErr where
  | none | corrected | uncorrectable | badMeta
deriving DecidableEq, Repr


/-- What the package measures of a core in the epoch that closes (R349): its steps, its mean setpoint while it ran, its junction temperature. -/
structure CoreObs where
  steps : Nat
  vMean : Nat
  tj : Nat
deriving DecidableEq, Repr

/-- An account number (R342). -/
abbrev AcctN := Fin 225


/-- What happens inside the engine that runs a descriptor, besides its work (R294, R305): nothing, a failed consistency check, a corrected
scratchpad error, or an uncorrectable one at a source offset. -/
inductive EngObs where
  | ok | fault | spadCorrected | spadPoison (off : Nat)
deriving DecidableEq, Repr

/-- What the words of a program buffer do to the halted hart (R386): one access of memory, or one of a CSR through a general register. -/
inductive PbOp where
  | load (rd rs1 : RegN) (imm : BitVec 12) (size : Nat) (signed : Bool)
  | store (rs2 rs1 : RegN) (imm : BitVec 12) (size : Nat)
  | csrRead (rd : RegN) (n : BitVec 12)
  | csrWrite (rs1 : RegN) (n : BitVec 12)
  | ebreak
deriving DecidableEq, Repr

/-- The headers a segment frame is taken by (R454): hop limit 255, a link-local source, VERSION 1 and a known KIND. -/
structure SegHdr where
  hop : Nat
  linkLocal : Bool
  version : Nat
  kind : Nat
deriving DecidableEq, Repr

/-- The body of an ANNOUNCE (R455). -/
structure Announce where
  node : Nat
  role : Nat          -- SEG_ROLE
  state : Nat         -- STATE of SEG_STATE
  stage : Nat
  kerfMode : Nat
  kerfPeriod : Nat
  serial : List Byte
  pairId : Nat
  seq : Nat
  grants : List Nat
deriving DecidableEq, Repr

/-- What the certificate chain of a node says, once fetched (R457): it verifies, the hash of its DevID key, its alias key. -/
structure ChainObs where
  ok : Bool
  devHash : List Byte
  aliasKey : List Byte
deriving DecidableEq, Repr

/-- A TAKEOVER_REQ body (R456). -/
structure TakeReq where
  pair : Nat
  role : Nat
  node : Nat
  seqEcho : Nat
  lastCommit : Nat
  own : List Byte
  peer : List Byte
  sig : List Byte
deriving DecidableEq, Repr

/-- A TAKEOVER_ANS body (R456). -/
structure TakeAns where
  pair : Nat
  result : Nat
  winner : Nat
  dest : Nat
  seqEcho : Nat
  sig : List Byte
deriving DecidableEq, Repr

/-- The binding an MCTP packet arrives on (R459). -/
inductive McBinding where
  | i3c | vdm (rp : Nat) | segment (hdr : SegHdr)
deriving DecidableEq, Repr

/-- What the mirror's dry fit and formation learn of the partner over the Dowel link (R19, R405): it is present, it has authenticated, its
kerf period in µs, its region map is equal, its enable reads 1, its enable becomes current at the same kerf, the local serial is the lower,
its segment node. -/
structure PartnerObs where
  present : Bool
  auth : Bool
  kerfPeriod : Nat
  mapEqual : Bool
  enabled : Bool
  together : Bool
  localLower : Bool
  node : Nat
deriving DecidableEq, Repr

/-- What the core knows of a tagged micro-operation when it retires or is squashed (R478): FLAGS, SOURCE, addresses, latencies in steps,
the encoding. -/
structure SampleObs where
  flags : Nat
  source : Nat
  pc : Nat
  vaddr : Nat
  paddr : Nat
  issueLat : Nat
  execLat : Nat
  retireLat : Nat
  tlbLat : Nat
  insn : BitVec 32
deriving DecidableEq, Repr

/-- A list message but for its opcode (R45, R46): the vendor identifier of its MCTP header, the SPDM session it travels in, if any, VERSION, TAG
and the body. -/
structure ListMsg where
  vendor : Nat
  sess : Option SessN
  version : Nat
  tag : Nat
  body : List Byte
deriving DecidableEq, Repr

/-- What a kerf meets: whether its instant fell before the previous sequence's step 7 and by how many µs its cut is late (R35), the length in
µs of the epoch it closes, how long the sequence takes in ns, what the ledger measures of each core and of the hub die (R349), the level of
GAUGE_VERIFY, and what the package learns of its Dowel partner. -/
structure KerfObs where
  overrun : Bool
  late : Nat
  lastUs : Nat
  seqNs : Nat
  cores : List CoreObs
  tjHub : Nat
  verify : Bool
  partner : PartnerObs
deriving DecidableEq, Repr

/-- A hub store in which initialisation at stage 0x08 meets an SRAM fault (R58): an MSC or directory array by slice, the POT cache, or another. -/
inductive HubFault where
  | msc (slice : SliceN) | directory (slice : SliceN) | pot | other
deriving DecidableEq, Repr

/-- What the xSPI flash gives of a slot: its programmed bytes from the slot's start, whether it answers, and the capacity it reports. -/
structure FlashObs where
  bytes : List Byte
  answers : Bool
  capacity : Nat
deriving DecidableEq, Repr

/-- What training a root port ends in: a PLL that does not lock, or a device with its protocol, rate and width (R467). -/
structure PortObs where
  pllFailed : Bool
  device : Bool
  protocol : Nat
  rate : Nat
  width : Nat
deriving DecidableEq, Repr

/-- What the SPD hub of a DIMM says of its organisation (R239). -/
structure DimmOrg where
  kind : Nat         -- 0 RDIMM, 1 3DS RDIMM, 2 any other
  gb : Nat           -- density of a device in Gb
  x4 : Bool          -- built from x4 devices
  pranks : Nat       -- package ranks
  stack : Nat        -- dies of a stack; 1: none
deriving DecidableEq, Repr

/-- What the DIMM sideband of a channel shows and training finds: whether every socket in use answers, its DIMMs, the SPD minimums as `DimmObs` of the
state has them, and whether every byte lane has an eye. -/
structure DimmSeen where
  answers : Bool
  dimms : List DimmOrg
  spd : List (List Nat)
  eye : Bool
deriving DecidableEq, Repr

/-- A register whose write has no row of its own (REGISTER_WRITE), with the hart that writes it: a CSR, by the instruction that names it; the hub
control range; the BAR0 and configuration registers of a bench function; a hart's resume by the Debug Module. -/
inductive RegTarget where
  | csr (h : HartN) (insn : BitVec 32)
  | hub (h : HartN) (addr size : Nat)
  | sqBase (h : HartN) (b : BenchN) (f : FnN) (r : RingN)
  | cqBase (h : HartN) (b : BenchN) (f : FnN) (r : RingN)
  | fchMemAddr (h : HartN) (b : BenchN) (f : FnN) (c : RingN)
  | fchSpadOff (h : HartN) (b : BenchN) (f : FnN) (c : RingN)
  | fchCount (h : HartN) (b : BenchN) (f : FnN) (c : RingN)
  | fchCtl (h : HartN) (b : BenchN) (f : FnN) (c : RingN)
  | msix (h : HartN) (b : BenchN) (f : FnN) (word : Fin 68)
  | ftIoatp (h : HartN) (b : BenchN) (f : FnN)
  | ftDlogBase (h : HartN) (b : BenchN) (f : FnN)
  | ftDlogIova (h : HartN) (b : BenchN) (f : FnN)
  | ftDlogPages (h : HartN) (b : BenchN) (f : FnN)
  | ftTenant (h : HartN) (b : BenchN) (f : FnN)
  | pfQdone (h : HartN) (b : BenchN) (i : Fin 5)
  | btuInvalIova (h : HartN) (b : BenchN)
  | vfEnable (b : BenchN)
  | powerState (b : BenchN) (f : FnN)
  | dmResume (h : HartN)
deriving DecidableEq, Repr


/-- The commands, in the order of the opcode table. -/
inductive Instr where
  /-- T0 (R53): The later of PWR_GOOD rising and PKG_RESET_N rising starts bring-up. -/
  | t0 (segId : Fin 64) (segRole : Fin 4) (failed : BitVec 13)
  /-- POWER_OFF (R53): A falling edge of PWR_GOOD powers the package off, losing everything except the Gauge run. -/
  | powerOff
  /-- PACKAGE_RESET (R53): PKG_RESET_N asserted for at least 10 µs resets the package, abandons bring-up and closes the open Gauge interval. -/
  | packageReset
  /-- RAIL_FAULT (R493): A monitored rail leaves tolerance for more than 2 µs while PWR_GOOD is high, and the package acts as on power-off. -/
  | railFault
  /-- BOOT_ROM (R55): Stage 0x02: the HMC starts the boot ROM, checks time-base lock and starts the SPDM responder and the segment port. -/
  | bootRom (locked : Bool)
  /-- IMAGE_READ (R60): Stage 0x03: the HMC reads and hashes the image header and image from the current flash slot. -/
  | imageRead (obs : FlashObs)
  /-- IMAGE_CHECK (R63): Stage 0x04: the HMC checks the image's format, key, security version and signature in that order. -/
  | imageCheck
  /-- APPLY (R64): Stage 0x05: the HMC applies the image's entry records and sets every omitted entry to its default. -/
  | apply
  /-- TENON_STAGE (R148): Stage 0x06: all twelve tenon links are retested, repaired and trained in parallel. -/
  | tenonStage (obs : List LinkObs)
  /-- DRAM_STAGE (R251): Stage 0x07: each enabled channel is dry-fitted and trained. -/
  | dramStage (obs : List DimmSeen)
  /-- HUB_STORES (R70): Stage 0x08: the hub invalidates the MSC, clears the directory and initialises the POT and POT cache. -/
  | hubStores (faults : List HubFault)
  /-- PCIE_STAGE (R55): Stage 0x09: the root complexes lock their PLLs and train each root port to L0, or find no device. -/
  | pcieStage (ports : List PortObs) (w0 w1 : Fin 4) (sites : List UcieObs)
  /-- LOAD_SECTIONS (R55): Stage 0x0A: the HMC copies each LOAD section to DRAM at its load address. -/
  | loadSections
  /-- RELEASE (R71): Stage 0x0B: the HMC plans epoch 0, dry-fits the remaining enables and releases the harts. -/
  | release (cores : List CoreObs) (tjHub : Nat) (partner : PartnerObs)
  /-- STAGE_TIMEOUT (R58): A bring-up stage exceeds its bound and fails with RC 0x0107 STAGE_TIMEOUT. -/
  | stageTimeout (stage : Fin 12) (locked : Bool)
  /-- HELD_STATE (R66): Once every running stage has stopped after a failure, the package enters the held state. -/
  | heldState
  /-- ROLLBACK_COMMIT (R63): After release, the HMC blows floor fuses one at a time up to the image's security version. -/
  | rollbackCommit
  /-- WARM_RESET (R74): A write of HUB_RESET_CTL with KEY 0x5754 and WARM 1 stops the harts, writes back the caches, zeroes protected pages and restarts at stage 0x02. -/
  | warmReset (h : HartN) (v : Word)
  /-- PACKAGE_RESET_REQUEST (R73): A write of HUB_RESET_CTL with KEY 0x5754 and PACKAGE 1 acts as a package reset. -/
  | packageResetRequest (h : HartN) (v : Word)
  /-- READ (R46): A list READ message returns an entry's current value or, when STAGED is set, its staged value. -/
  | read (m : ListMsg)
  /-- WRITE (R29): A list WRITE message is checked, dry-fitted where required, and applied or staged by the entry's swap class. -/
  | write (m : ListMsg) (p : PartnerObs) (u : UcieObs)
  /-- DOMAIN_WRITE_BEGIN (R48): The message opens a DOMAIN write transfer on an entry. -/
  | domainWriteBegin (m : ListMsg)
  /-- DOMAIN_WRITE_SEGMENT (R48): The message appends an in-order segment to the session's open write transfer. -/
  | domainWriteSegment (m : ListMsg)
  /-- DOMAIN_WRITE_END (R48): The message closes a write transfer and applies the value as a whole by its swap class. -/
  | domainWriteEnd (m : ListMsg) (p : PartnerObs)
  /-- DOMAIN_READ_BEGIN (R48): The message opens a DOMAIN read transfer, capturing values of up to 64 KiB. -/
  | domainReadBegin (m : ListMsg)
  /-- DOMAIN_READ_SEGMENT (R48): The message returns a segment of the captured or live DOMAIN value. -/
  | domainReadSegment (m : ListMsg)
  /-- TRANSFER_CANCEL (R48): The message closes the session's open transfer and arms the TRANSFER_CANCELLED report. -/
  | transferCancel (m : ListMsg)
  /-- KERF_WAIT (R47): The message parks a wait for the kerf counter to reach TARGET. -/
  | kerfWait (m : ListMsg)
  /-- KERF_WAIT_RESPONSE (R47): A parked KERF_WAIT responds once its target kerf's step 7 has completed. -/
  | kerfWaitResponse (sess : SessN)
  /-- TRANSFER_IDLE_TIMEOUT (R48): A DOMAIN transfer idle for 1 s is closed, and its write is discarded. -/
  | transferIdleTimeout (sess : SessN)
  /-- STAGED_DISCARD (R37): A write of 1 to 0x2000:06 discards every staged value, accepted enables included. -/
  | stagedDiscard (sess : Option SessN) (tag : Nat) (v : Byte)
  /-- KERF_CUT (R34): At the kerf instant the HMC cuts, increments the kerf counter and runs the kerf sequence. -/
  | kerfCut (obs : KerfObs)
  /-- SPDM_KEY_EXCHANGE (R395): KEY_EXCHANGE opens an SPDM session, or is refused with SessionLimitExceeded beyond 8 sessions. -/
  | spdmKeyExchange (req : List Byte)
  /-- SPDM_FINISH (R397): FINISH completes the session and fixes its role from ROLE_KEY. -/
  | spdmFinish (sess : SessN) (leaf : Option (List Byte)) (req : List Byte)
  /-- SPDM_GET_MEASUREMENTS (R396): The request returns the signed measurement blocks 1 to 11. -/
  | spdmGetMeasurements (sess : Option SessN) (index : Nat) (sign : Bool) (nonce : List Byte)
  /-- SPDM_GET_CERTIFICATE (R395): The request returns the certificate chain of slot 0. -/
  | spdmGetCertificate (sess : Option SessN) (slot off len : Nat)
  /-- SPDM_HEARTBEAT (R395): A session heartbeat keeps the session alive. -/
  | spdmHeartbeat (sess : SessN)
  /-- SPDM_END_SESSION (R48): The end of a session discards its transfers and ends its parked wait. -/
  | spdmEndSession (sess : SessN)
  /-- SPDM_SESSION_TIMEOUT (R395): A session with no message for 60 s ends. -/
  | spdmSessionTimeout (sess : SessN)
  /-- TSYNC (R120): The instruction waits until the hart's prior stores have performed and every kill they caused is done. -/
  | tsync (h : HartN)
  /-- EENTER (R381): The instruction enters or resumes an enclave slot, or returns a failure code in a0. -/
  | eenter (h : HartN) (rs1 : RegN)
  /-- EEXIT (R382): The instruction frees the slot and restores the caller's state. -/
  | eexit (h : HartN)
  /-- WSWITCH (R366): The instruction saves the current lower world's state to the switch record, loads the other world's, and inverts the world. -/
  | wswitch (h : HartN) (rs1 : RegN)
  /-- POQ (R91): The instruction translates an address and returns its page's POT entry. -/
  | poq (h : HartN) (rd : RegN) (rs1 : RegN)
  /-- WFI (R99): The instruction enters the effective rest mode, or completes or traps. -/
  | wfi (h : HartN)
  /-- HART_WAKE (R101): A wake condition ends a hart's rest within the wake bound of its mode. -/
  | hartWake (h : HartN)
  /-- HART_INTERRUPT (R101): A pending, enabled interrupt is taken, making an asynchronous exit where the hart is inside an enclave. -/
  | hartInterrupt (h : HartN)
  /-- HART_LOAD (R197): A load is translated, owner-checked and served from one copy. -/
  | hartLoad (h : HartN) (dst : Dst) (rs1 : RegN) (imm : BitVec 12) (size : Nat) (signed : Bool) (compressed : Bool)
  /-- HART_STORE (R197): A store obtains ownership of the line and performs. -/
  | hartStore (h : HartN) (fp : Bool) (rs2 : RegN) (rs1 : RegN) (imm : BitVec 12) (size : Nat) (compressed : Bool)
  /-- AMO (R187): An atomic executes in the core's L1D or L2 once the line is held in E or M. -/
  | amo (h : HartN) (op : AmoOp) (rd : RegN) (rs1 : RegN) (rs2 : RegN) (size : Nat)
  /-- LR (R187): Load-reserved obtains the line and defers forwards for up to 128 steps. -/
  | lr (h : HartN) (rd : RegN) (rs1 : RegN) (size : Nat)
  /-- SC (R187): Store-conditional succeeds while the reservation holds. -/
  | sc (h : HartN) (rd : RegN) (rs1 : RegN) (rs2 : RegN) (size : Nat)
  /-- LR_RESERVATION_TIMEOUT (R187): After 128 steps the core stops deferring forwards for a reserved line. -/
  | lrReservationTimeout (h : HartN)
  /-- SFENCE_VMA (R127): The instruction kills the matching local translation entries, with the privileged semantics. -/
  | sfenceVma (h : HartN) (rs1 : RegN) (rs2 : RegN)
  /-- HFENCE_VVMA (R127): The instruction kills the matching VS-stage entries locally. -/
  | hfenceVvma (h : HartN) (rs1 : RegN) (rs2 : RegN)
  /-- HFENCE_GVMA (R127): The instruction kills the matching G-stage entries locally. -/
  | hfenceGvma (h : HartN) (rs1 : RegN) (rs2 : RegN)
  /-- SINVAL_VMA (R127): The instruction queues an invalidation sweep. -/
  | sinvalVma (h : HartN) (rs1 : RegN) (rs2 : RegN)
  /-- SFENCE_W_INVAL (R127): The instruction waits for the hart's preceding stores to perform. -/
  | sfenceWInval (h : HartN)
  /-- SFENCE_INVAL_IR (R127): The instruction waits for every queued sweep of the hart. -/
  | sfenceInvalIr (h : HartN)
  /-- CBO_CLEAN (R193): The instruction cleans the line in every cache of the package. -/
  | cboClean (h : HartN) (rs1 : RegN)
  /-- CBO_FLUSH (R193): The instruction writes back the line and invalidates it everywhere. -/
  | cboFlush (h : HartN) (rs1 : RegN)
  /-- CBO_INVAL (R193): The instruction invalidates the line everywhere, or flushes it as CBIE selects. -/
  | cboInval (h : HartN) (rs1 : RegN)
  /-- CBO_ZERO (R193): The instruction takes the line in M without data and zeroes it. -/
  | cboZero (h : HartN) (rs1 : RegN)
  /-- SVREQ_WRITE (R86): A write of svreq.VCEIL sets the setpoint ceiling from the next kerf step 4. -/
  | svreqWrite (h : HartN) (insn : BitVec 32) (value : Word)
  /-- RETENTION_IDLE (R103): A domain woken only for snoops returns to retention or fold after its snoop queue stays empty for 10 µs. -/
  | retentionIdle (die : DieN)
  /-- CORE_TEST (R105): At CORE_TEST_INTERVAL the HMC tests a resting core without changing its retained state. -/
  | coreTest (h : HartN) (spare : Bool) (evt : TestEvt)
  /-- OVERSPEND_STEP_DOWN (R354): A core account whose spend reaches its grant steps to 550 mV within 2 µs. -/
  | overspendStepDown (h : HartN)
  /-- BENCH_OVERSPEND (R355): A bench account whose spend reaches its grant plus drawn reserve steps the bench to 0.65 V. -/
  | benchOverspend (b : BenchN)
  /-- LEDGER_SUM_TICK (R357): Each microsecond the hub sums every account's charge and judges it against the hard limit. -/
  | ledgerSumTick (charges : List Nat)
  /-- HARD_LIMIT_W (R357): A write of HARD_LIMIT_W takes effect at once and is judged by the next sum. -/
  | hardLimitW (sess : Option SessN) (tag : Nat) (v : BitVec 16)
  /-- SENSOR_FAIL (R358): A regulator sensor that fails its self-check switches its account to grant-based charging. -/
  | sensorFail (a : AcctN)
  /-- THERMAL_THROTTLE (R497): A sensor at 105 °C or more starts the throttle whatever HARD_LIMIT_W holds. -/
  | thermalThrottle (temp : Nat)
  /-- THERMTRIP (R497): A junction at 115 °C stops every hart, records a fatal check, sends LOSS and drives THERMTRIP_N low. -/
  | thermtrip (die : Nat) (core : Nat)
  /-- MESSAGE_FLIT (R144): A received message flit is CRC-checked, accepted once per SEQ, or discarded with a RETRY_REQ. -/
  | messageFlit (die : DieN) (up : Bool) (flit : List Byte)
  /-- CONTROL_FLIT (R143): A control flit returns cumulative credits and may request a replay. -/
  | controlFlit (die : DieN) (up : Bool) (flit : List Byte)
  /-- REPLAY_TIMEOUT (R144): When ACK has not advanced for 1 µs, the transmitter replays its unacknowledged flits. -/
  | replayTimeout (die : DieN) (up : Bool)
  /-- LINK_RECOVERY (R145): Eight failed replays, lost alignment or a PHY PLL unlock starts link recovery with a short retest. -/
  | linkRecovery (die : DieN) (up : LaneTest) (down : LaneTest)
  /-- RECOVERY_TIMEOUT (R145): Recovery that exceeds 3 ms, or a fifth recovery in 1 s, is the unplanned loss of the die. -/
  | recoveryTimeout (die : DieN) (supply : Bool)
  /-- LINK_TRAINING (R148): The link start runs PLL lock, clock select, retest, sheet build, deskew, agreement and flit lock. -/
  | linkTraining (die : DieN) (obs : LinkObs)
  /-- TRAINING_FRAME (R149): A received training frame carries sheet digests, site and binding for width agreement. -/
  | trainingFrame (die : DieN) (upDigest : Nat) (downDigest : Nat) (crcOk : Bool)
  /-- LINK_RETRAIN (R151): A write of 1 to LINK_RETRAIN while the link is up runs retrain steps 5 to 7. -/
  | linkRetrain (sess : Option SessN) (tag : Nat) (die : DieN) (v : Byte)
  /-- WAKE_PATTERN (R153): A detected wake pattern takes a folded link and die out of fold. -/
  | wakePattern (die : DieN) (byHub : Bool)
  /-- FOLD_WAKE_TIMEOUT (R103): A folded die that does not answer a wake pattern within 200 µs is fenced with cause 3. -/
  | foldWakeTimeout (die : DieN)
  /-- DIE_TIME_BASE_UNLOCK (R154): A compute die's time-base PLL relocks to the forwarded clock and sets TB_FALLBACK. -/
  | dieTimeBaseUnlock (die : DieN)
  /-- HUB_TIME_BASE_UNLOCK (R154): The hub time base enters holdover. -/
  | hubTimeBaseUnlock
  /-- HUB_TIME_BASE_RELOCK (R154): On relock the hub slews the time counter until it agrees again. -/
  | hubTimeBaseRelock
  /-- JIG_ENTER (R158): The jig instruction puts a die into jig mode. -/
  | jigEnter (die : Fin 13)
  /-- JIG_LOOP (R158): The jig instruction runs a PRBS31 loop test on all 70 lanes. -/
  | jigLoop (die : Fin 13) (dr : BitVec 32) (errors : List Nat)
  /-- JIG_RESULT (R158): The jig instruction returns the per-lane error counts. -/
  | jigResult (die : Fin 13)
  /-- JIG_SHEET (R158): The jig instruction returns the fused up and down sheets of the selected port. -/
  | jigSheet (die : Fin 13)
  /-- UCIE_RETRAIN (R162): A write of 1 to UCIE_RETRAIN starts a UCIe training attempt. -/
  | ucieRetrain (sess : Option SessN) (tag : Nat) (site : SiteN) (v : Byte) (u : UcieObs)
  /-- RD64 (R164): An inlay coherent read of a line passes the firewall and returns the current value. -/
  | rd64 (site : SiteN) (hdr : BitVec 128)
  /-- RDF64 (R164): An inlay instruction-fetch read of a line passes the firewall and returns it. -/
  | rdf64 (site : SiteN) (hdr : BitVec 128)
  /-- WR64 (R164): An inlay full-line write passes the firewall and performs. -/
  | wr64 (site : SiteN) (hdr : BitVec 128) (data : Line)
  /-- WRP64 (R164): An inlay partial write merges its masked bytes. -/
  | wrp64 (site : SiteN) (hdr : BitVec 128) (data : Line) (mask : Nat)
  /-- INLAY_AMO (R188): An inlay atomic executes in the hub atomic unit. -/
  | inlayAmo (site : SiteN) (hdr : BitVec 128) (a : Nat) (b : Nat)
  /-- INLAY_MSI (R163): An inlay MSI writes an IMSIC interrupt file. -/
  | inlayMsi (site : SiteN) (hdr : BitVec 128) (data : Nat)
  /-- INLAY_CPL_UP (R163): An inlay completion answers a downstream hart request. -/
  | inlayCplUp (site : SiteN) (hdr : BitVec 128) (data : Nat)
  /-- MMRD (R163): A hart load from the inlay's address space is sent downstream. -/
  | mmrd (site : SiteN) (m : FMsg)
  /-- MMWR (R163): A hart store to the inlay's address space is posted downstream. -/
  | mmwr (site : SiteN) (m : FMsg)
  /-- INLAY_CPL_DOWN (R163): The hub completes an upstream request to the inlay. -/
  | inlayCplDown (site : SiteN)
  /-- CRD (R165): The hub grants the site upstream request credits. -/
  | crd (site : SiteN) (n : Nat)
  /-- INLAY_DOWNSTREAM_TIMEOUT (R168): A downstream request unanswered for 1 ms contains the site. -/
  | inlayDownstreamTimeout (site : SiteN)
  /-- UCIE_LINK_LOST (R168): Loss of the UCIe link contains the site. -/
  | ucieLinkLost (site : SiteN)
  /-- UCIE_ADAPTER_ERROR (R168): An uncorrectable UCIe adapter error contains the site. -/
  | ucieAdapterError (site : SiteN)
  /-- RDS (R186): A load-miss read request is handled by the home slice's directory. -/
  | rds (m : FMsg)
  /-- RDC (R186): An instruction-fetch read request is granted S. -/
  | rdc (m : FMsg)
  /-- RDW (R192): A walk read request is granted S, protected when PROT is set. -/
  | rdw (m : FMsg)
  /-- RDX (R186): A read with ownership request is handled by the directory. -/
  | rdx (m : FMsg)
  /-- UPG (R186): An ownership request for a held copy invalidates the other holders. -/
  | upg (m : FMsg)
  /-- ZRO (R186): An ownership-without-data request serves CBO.ZERO. -/
  | zro (m : FMsg)
  /-- CLN (R193): A clean request writes the dirty copy to memory and keeps clean copies. -/
  | cln (m : FMsg)
  /-- FLS (R193): A flush request writes the dirty copy back and invalidates every copy. -/
  | fls (m : FMsg)
  /-- INV (R193): An invalidate request invalidates every copy and discards dirty data. -/
  | inv (m : FMsg)
  /-- NCRD (R197): An uncached read of 1 to 8 bytes from a device region. -/
  | ncrd (m : FMsg)
  /-- NCWR (R197): An uncached write of 1 to 8 bytes to a device region. -/
  | ncwr (m : FMsg)
  /-- IMSW (R211): A 4-byte write to an IMSIC file of a hart on the die. -/
  | imsw (m : FMsg) (file : Fin 9)
  /-- FWD_S (R184): A forward asks the owner to supply the line shared to the requester. -/
  | fwdS (m : FMsg)
  /-- FWD_X (R184): A forward asks the owner to supply the line with ownership and invalidate its copy. -/
  | fwdX (m : FMsg)
  /-- SNP_INV (R186): A snoop invalidates a clean copy, killing derived translations. -/
  | snpInv (m : FMsg)
  /-- SNP_PEEK (R186): A snoop sends the current data to the hub and keeps the state. -/
  | snpPeek (m : FMsg)
  /-- SNP_CLEAN (R193): A snoop sends dirty data to the hub and keeps a clean copy. -/
  | snpClean (m : FMsg)
  /-- SNP_FLUSH (R188): A snoop sends dirty data to the hub and invalidates. -/
  | snpFlush (m : FMsg)
  /-- BINV (R177): A back-invalidation for a directory eviction flushes the line. -/
  | binv (m : FMsg)
  /-- SNP_ACK (R190): A die reports snoop completion without data to the hub tracker. -/
  | snpAck (m : FMsg)
  /-- FWD_ACK (R184): An owner reports a forward served, with whether it kept a dirty copy. -/
  | fwdAck (m : FMsg)
  /-- KILL_DONE (R190): A die reports the done phase of the kills a snoop caused. -/
  | killDone (m : FMsg)
  /-- PROT_END (R192): The walking die ends a protected walk, releasing the deferred requests. -/
  | protEnd (m : FMsg)
  /-- WALK_PROTECT_TIMEOUT (R192): Walk protection of a line ends 2 µs after its entry. -/
  | walkProtectTimeout (line : Nat)
  /-- CMP (R179): The hub completes a request to the die. -/
  | cmp (m : FMsg)
  /-- WB_ACK (R195): The hub accepts a write-back. -/
  | wbAck (m : FMsg)
  /-- WB_XACK (R195): The hub takes a crossed write-back as a data-less acknowledgement. -/
  | wbXack (m : FMsg)
  /-- KDONE (R190): The hub reports that every kill caused by the request is done. -/
  | kdone (m : FMsg)
  /-- DATA_S (R179): A data message grants the line in S. -/
  | dataS (m : FMsg)
  /-- DATA_E (R179): A data message grants the line in E. -/
  | dataE (m : FMsg)
  /-- DATA_M (R179): A data message grants the line in M with responsibility for dirty data. -/
  | dataM (m : FMsg)
  /-- DATA_NC (R179): A data message carries NCRD data. -/
  | dataNc (m : FMsg)
  /-- DATA_SNP (R179): A data message carries the die's answer to a hub snoop. -/
  | dataSnp (m : FMsg)
  /-- WB_M (R186): A dirty-line write-back is written to memory. -/
  | wbM (m : FMsg)
  /-- EVN (R186): A clean eviction notice clears the holder's PRES bit. -/
  | evn (m : FMsg)
  /-- WB_P (R186): A poisoned dirty-line write-back is written with its poison mark. -/
  | wbP (m : FMsg)
  /-- AGENT_READ (R186): A bench, inlay or device read returns the current value without a tracked copy. -/
  | agentRead (who : AgentId) (addr : Nat)
  /-- AGENT_WRITE (R189): An agent write takes the line into H, merges or replaces it, and writes it to memory. -/
  | agentWrite (who : AgentId) (addr : Nat) (data : Line) (mask : Nat)
  /-- AGENT_ATOMIC (R188): A bench or inlay atomic takes the line into H and performs in the hub atomic unit. -/
  | agentAtomic (who : AgentId) (addr : Nat) (op : Nat) (a : Nat) (b : Nat)
  /-- HUB_ATOMIC_RELEASE (R188): The hub atomic unit releases a line to I when its queue is empty or after 1 µs. -/
  | hubAtomicRelease (line : Nat)
  /-- TRACKER_ENTRY_FREE (R202): A freed tracker entry goes to the oldest waiting request that may take it. -/
  | trackerEntryFree (slice : SliceN)
  /-- SET_RETRY_CREDIT (R206): When a line stops counting in a set, the oldest waiting request for that set proceeds. -/
  | setRetryCredit (slice : SliceN) (set : Nat)
  /-- MIRROR_CLEANER (R410): The die cleans dirty mirrored lines, oldest first, while the count exceeds half of DIRTY_MAX. -/
  | mirrorCleaner (die : DieN)
  /-- WITHDRAW_DRAIN_COMPLETE (R210): When nothing names the die, the hub stops its traffic and retires its incarnation. -/
  | withdrawDrainComplete (die : DieN)
  /-- WITHDRAW_TIMEOUT (R210): A withdraw not drained within 3 ms fences the die with cause 5. -/
  | withdrawTimeout (die : DieN)
  /-- FABRIC_RESP_TIMEOUT (R212): A forward, snoop or kill unanswered for the timeout while the link is up fences the die with cause 4. -/
  | fabricRespTimeout (die : DieN)
  /-- DIRECTORY_SWEEP_COMPLETE (R213): Every slice has swept the fenced die's entries, and PHASE becomes 5. -/
  | directorySweepComplete (die : DieN)
  /-- DIE_READMIT (R216): A write of 1 to DIE_READMIT starts re-admission with the next incarnation. -/
  | dieReadmit (sess : Option SessN) (tag : Nat) (die : DieN) (v : Byte)
  /-- MSC_ENABLE (R229): A write of 1 to MSC_ENABLE is dry-fitted and staged. -/
  | mscEnable (sess : Option SessN) (tag : Nat) (slice : SliceN)
  /-- MSC_DISABLE (R230): A write of 0 to MSC_ENABLE is dry-fitted and disables the slice at the swap. -/
  | mscDisable (sess : Option SessN) (tag : Nat) (slice : SliceN)
  /-- MSC_FLUSH_THEN_DISABLE (R231): A write of 2 to MSC_ENABLE flushes and disables the slice from the swap. -/
  | mscFlushThenDisable (sess : Option SessN) (tag : Nat) (slice : SliceN)
  /-- MSC_FLUSH_COMPLETE (R231): The flush ends with STATE 0 and STALE 1. -/
  | mscFlushComplete (slice : SliceN)
  /-- MSC_MAINT_CLEAN (R234): A maintenance command writes the dirty lines of its scope to DRAM and keeps them. -/
  | mscMaintClean (sess : Option SessN) (tag : Nat) (scope : Bool) (slices : BitVec 16)
  /-- MSC_MAINT_INVALIDATE (R234): A maintenance command invalidates its scope, writing back dirty lines first. -/
  | mscMaintInvalidate (sess : Option SessN) (tag : Nat) (scope : Bool) (slices : BitVec 16)
  /-- MSC_MAINT_CLEAN_INVALIDATE (R234): A maintenance command writes back and invalidates its scope. -/
  | mscMaintCleanInvalidate (sess : Option SessN) (tag : Nat) (scope : Bool) (slices : BitVec 16)
  /-- MSC_MAINT_DONE (R235): The maintenance command completes and sets DONE. -/
  | mscMaintDone
  /-- MSC_PATROL_SCRUB (R228): The scrubber reads and corrects every index of an enabled slice each 10 s. -/
  | mscPatrolScrub (slice : SliceN) (index : Nat) (err : MemErr)
  /-- EVICTION_BUFFER_DRAIN (R227): The eviction buffer drains an entry to the channel's write queue as room allows. -/
  | evictionBufferDrain (slice : SliceN)
  /-- DRAM_READ_ISSUE (R246): The subchannel issues a read by its scheduling rules. -/
  | dramReadIssue (ch : SliceN) (sub : Bool) (err : MemErr)
  /-- DRAM_WRITE_ISSUE (R246): The subchannel issues a write by its scheduling rules. -/
  | dramWriteIssue (ch : SliceN) (sub : Bool)
  /-- ROW_PRECHARGE_IDLE (R246): A row with no access for 100 ns is precharged. -/
  | rowPrechargeIdle (ch : SliceN) (sub : Bool) (rank : Nat) (bank : Nat)
  /-- DRAM_REFRESH (R248): At TREFI a rank is refreshed, or its refresh is postponed up to REF_POSTPONE_MAX. -/
  | dramRefresh (ch : SliceN) (rank : Nat)
  /-- POWER_DOWN_ENTRY (R249): A rank idle for 200 ns enters precharge power-down. -/
  | powerDownEntry (ch : SliceN) (rank : Nat)
  /-- SELF_REFRESH_ENTRY (R249): A channel idle for SR_IDLE enters self-refresh. -/
  | selfRefreshEntry (ch : SliceN)
  /-- SELF_REFRESH_EXIT (R249): An access to a channel in self-refresh exits it within 3 µs. -/
  | selfRefreshExit (ch : SliceN)
  /-- DIMM_TEMP_READ (R250): Every 10 ms the controller reads the DIMM temperatures and throttles at the limit. -/
  | dimmTempRead (ch : SliceN) (temp : Nat)
  /-- RETRAIN_PAUSE (R253): A due retraining pause re-centres one rank's delays. -/
  | retrainPause (ch : SliceN) (sub : Bool)
  /-- RETRAIN_FORCED (R254): A channel whose last round is older than RETRAIN_FORCE_AFTER runs a round at once. -/
  | retrainForced (ch : SliceN)
  /-- DRAM_RETRAIN_NOW (R254): A write of 1 to DRAM_RETRAIN_NOW runs one retraining round. -/
  | dramRetrainNow (sess : Option SessN) (tag : Nat) (ch : SliceN) (v : Byte)
  /-- GRANULE_ZERO (R258): The background engine zeroes the next granule within its ZERO_SHARE. -/
  | granuleZero (ch : SliceN)
  /-- DRAM_PATROL_SCRUB (R261): The scrubber reads each line once per SCRUB_PERIOD in idle slots. -/
  | dramPatrolScrub (line : Nat) (err : MemErr)
  /-- CXL_TIMEOUT (R263): A CXL read without completion in 10 ms returns POISON and marks the window FAILED. -/
  | cxlTimeout (win : Fin 16) (line : Nat)
  /-- SQ_TAIL_WRITE (R283): The doorbell write posts descriptors, or stops the ring with CAUSE 2 when out of range. -/
  | sqTailWrite (h : HartN) (b : BenchN) (f : FnN) (r : RingN) (v : Nat)
  /-- CQ_HEAD_WRITE (R286): The write frees completion slots. -/
  | cqHeadWrite (h : HartN) (b : BenchN) (f : FnN) (r : RingN) (v : Nat)
  /-- RING_ENABLE (R281): A write of ENABLE 1 resets the indexes and phase and starts the ring. -/
  | ringEnable (h : HartN) (b : BenchN) (f : FnN) (r : RingN) (cfg : Nat)
  /-- RING_DISABLE (R281): A write of ENABLE 0 stops the fetch, and ENABLE clears once the ring's work is done. -/
  | ringDisable (h : HartN) (b : BenchN) (f : FnN) (r : RingN) (cfg : Nat)
  /-- DESCRIPTOR_FETCH (R284): The bench fetches a descriptor when in-flight room and a completion slot allow. -/
  | descriptorFetch (b : BenchN)
  /-- DESCRIPTOR_COMPLETE (R285): The bench writes the outputs and then the completion record, and raises an MSI when IRQ is set. -/
  | descriptorComplete (b : BenchN) (id : Nat)
  /-- RING_IRQ_HOLDOFF (R286): When IRQ_HOLDOFF ends, one MSI covers the records written meanwhile. -/
  | ringIrqHoldoff (b : BenchN) (f : FnN) (r : RingN)
  /-- HASH (R289): The HME computes a digest. -/
  | hash (b : BenchN) (id : Nat) (obs : EngObs)
  /-- HMAC_GEN (R289): The HME computes an HMAC tag. -/
  | hmacGen (b : BenchN) (id : Nat) (obs : EngObs)
  /-- HMAC_VERIFY (R289): The HME verifies an HMAC tag. -/
  | hmacVerify (b : BenchN) (id : Nat) (obs : EngObs)
  /-- CMAC_GEN (R289): The SYE computes a CMAC tag. -/
  | cmacGen (b : BenchN) (id : Nat) (obs : EngObs)
  /-- CMAC_VERIFY (R289): The SYE verifies a CMAC tag. -/
  | cmacVerify (b : BenchN) (id : Nat) (obs : EngObs)
  /-- MAC3_GEN (R289): The SYE computes an ISO 9797-1 MAC algorithm 3 tag. -/
  | mac3Gen (b : BenchN) (id : Nat) (obs : EngObs)
  /-- MAC3_VERIFY (R289): The SYE verifies a MAC algorithm 3 tag. -/
  | mac3Verify (b : BenchN) (id : Nat) (obs : EngObs)
  /-- AES_ENC (R289): The SYE encrypts in AES ECB, CBC or CTR mode. -/
  | aesEnc (b : BenchN) (id : Nat) (obs : EngObs)
  /-- AES_DEC (R289): The SYE decrypts in AES ECB, CBC or CTR mode. -/
  | aesDec (b : BenchN) (id : Nat) (obs : EngObs)
  /-- GCM_ENC (R289): The SYE encrypts with AES-GCM and appends the tag. -/
  | gcmEnc (b : BenchN) (id : Nat) (obs : EngObs)
  /-- GCM_DEC (R295): The SYE decrypts with AES-GCM and zeroes its output on failure. -/
  | gcmDec (b : BenchN) (id : Nat) (obs : EngObs)
  /-- TDES_ENC (R289): The SYE encrypts with TDES. -/
  | tdesEnc (b : BenchN) (id : Nat) (obs : EngObs)
  /-- TDES_DEC (R289): The SYE decrypts with TDES. -/
  | tdesDec (b : BenchN) (id : Nat) (obs : EngObs)
  /-- KW_WRAP (R289): The SYE wraps data with RFC 3394 AES key wrap. -/
  | kwWrap (b : BenchN) (id : Nat) (obs : EngObs)
  /-- KW_UNWRAP (R289): The SYE unwraps data with AES key wrap. -/
  | kwUnwrap (b : BenchN) (id : Nat) (obs : EngObs)
  /-- ED_SIGN (R269): The PKE makes an Ed25519 signature. -/
  | edSign (b : BenchN) (id : Nat) (obs : EngObs)
  /-- ED_VERIFY (R269): The PKE verifies an Ed25519 signature. -/
  | edVerify (b : BenchN) (id : Nat) (obs : EngObs)
  /-- ECDSA_SIGN (R269): The PKE makes an ECDSA signature on P-256 or P-384. -/
  | ecdsaSign (b : BenchN) (id : Nat) (obs : EngObs)
  /-- ECDSA_VERIFY (R269): The PKE verifies an ECDSA signature. -/
  | ecdsaVerify (b : BenchN) (id : Nat) (obs : EngObs)
  /-- RSA_SIGN (R269): The PKE makes an RSA PKCS #1 v1.5 or PSS signature. -/
  | rsaSign (b : BenchN) (id : Nat) (obs : EngObs)
  /-- RSA_VERIFY (R269): The PKE verifies an RSA signature. -/
  | rsaVerify (b : BenchN) (id : Nat) (obs : EngObs)
  /-- X25519 (R269): The PKE computes an X25519 shared secret into a new SECRET key. -/
  | x25519 (b : BenchN) (id : Nat) (obs : EngObs)
  /-- ECDH (R269): The PKE computes an ECDH shared secret into a new SECRET key. -/
  | ecdh (b : BenchN) (id : Nat) (obs : EngObs)
  /-- PIN_TRANSLATE (R270): The PTE translates a PIN block between formats and keys. -/
  | pinTranslate (b : BenchN) (id : Nat) (obs : EngObs)
  /-- PIN_VERIFY (R270): The PTE compares a presented PIN block with a reference block. -/
  | pinVerify (b : BenchN) (id : Nat) (obs : EngObs)
  /-- KEY_GEN (R276): The engine generates keys from attribute records, all or nothing. -/
  | keyGen (b : BenchN) (id : Nat) (obs : EngObs)
  /-- KEY_DESTROY (R279): The engine invalidates the listed handles, waits for their users and zeroes the records. -/
  | keyDestroy (b : BenchN) (id : Nat) (obs : EngObs)
  /-- KEY_IMPORT_KW (R276): The engine unwraps a key and creates a record. -/
  | keyImportKw (b : BenchN) (id : Nat) (obs : EngObs)
  /-- KEY_IMPORT_PUB (R276): The engine imports a public key into a record. -/
  | keyImportPub (b : BenchN) (id : Nat) (obs : EngObs)
  /-- KEY_EXPORT_PUB (R290): The engine writes a key's public encoding. -/
  | keyExportPub (b : BenchN) (id : Nat) (obs : EngObs)
  /-- KEY_IMPORT_BLOCK (R272): The engine imports an X9.143 key block into a record. -/
  | keyImportBlock (b : BenchN) (id : Nat) (obs : EngObs)
  /-- KEY_EXPORT_BLOCK (R272): The engine exports an exportable key as an X9.143 version D key block. -/
  | keyExportBlock (b : BenchN) (id : Nat) (obs : EngObs)
  /-- KEY_DERIVE (R278): The engine derives a key by counter-mode HMAC-SHA-256. -/
  | keyDerive (b : BenchN) (id : Nat) (obs : EngObs)
  /-- FCH_START (R309): A write of START checks the channel's registers and runs it or records the CAUSE. -/
  | fchStart (h : HartN) (b : BenchN) (f : FnN) (c : RingN) (ctl : Nat)
  /-- FCH_RESUME (R312): A write of RESUME re-checks a stopped channel and continues it from POS. -/
  | fchResume (h : HartN) (b : BenchN) (f : FnN) (c : RingN) (ctl : Nat)
  /-- FCH_ABORT (R312): A write of ABORT ends a running or stopped channel. -/
  | fchAbort (h : HartN) (b : BenchN) (f : FnN) (c : RingN) (ctl : Nat)
  /-- FEED_UNIT_TRANSFER (R310): The channel moves a 64-byte unit between memory and the scratchpad. -/
  | feedUnitTransfer (b : BenchN) (c : RingN) (err : MemErr)
  /-- FEED_CHANNEL_DONE (R311): A channel whose every unit is written reads DONE and sends vector 16 + c. -/
  | feedChannelDone (b : BenchN) (c : RingN)
  /-- FEED_STOP (R312): A failed prefetch-stream read stops all channels of the bench. -/
  | feedStop (b : BenchN) (line : Nat) (poison : Bool) (reading : Nat)
  /-- SPAD_OWNER_WRITE (R302): A write of SPAD_OWNER moves a granule to a new owner and zeroes it. -/
  | spadOwnerWrite (h : HartN) (b : BenchN) (g : Fin 124) (v : Nat)
  /-- SPAD_GRANULE_ZEROED (R302): The granule's zeroing ends and the new owner's stalled accesses are served. -/
  | spadGranuleZeroed (b : BenchN) (g : Fin 124)
  /-- FCH_OWNER_WRITE (R306): A write of FCH_OWNER reassigns an idle channel and resets its registers. -/
  | fchOwnerWrite (h : HartN) (b : BenchN) (c : RingN) (v : Nat)
  /-- SPAD_BAR2_ACCESS (R303): A hart's uncached access to the function's segment through BAR2. -/
  | spadBar2Access (h : HartN) (b : BenchN) (f : FnN) (write : Bool) (off : Nat) (size : Nat) (data : Nat) (err : MemErr)
  /-- SPAD_BANK_RETENTION (R313): A bank idle for SPAD_IDLE_US drops to retention. -/
  | spadBankRetention (b : BenchN) (bank : Fin 32)
  /-- BENCH_ZEROISE (R314): A write of 1 to BENCH_ZEROISE ends the bench's work and zeroes all banks and the register file. -/
  | benchZeroise (sess : Option SessN) (tag : Nat) (b : BenchN) (v : Byte)
  /-- BENCH_SUPPLY_COLLAPSE (R314): A collapse of the bench supply loses its arrays, which are zeroised at power-up. -/
  | benchSupplyCollapse (b : BenchN)
  /-- QUIESCE_DRAIN (R333): A write of QUIESCE 1 stops fetch and lets the function's work complete. -/
  | quiesceDrain (h : HartN) (b : BenchN) (f : FnN) (ctl : Nat)
  /-- QUIESCE_ABANDON (R333): A write of QUIESCE 2 stops fetch and abandons the function's work. -/
  | quiesceAbandon (h : HartN) (b : BenchN) (f : FnN) (ctl : Nat)
  /-- QUIESCE_RUN (R333): A write of QUIESCE 0 lets the bench fetch again and sets QSTATE 0. -/
  | quiesceRun (h : HartN) (b : BenchN) (f : FnN) (ctl : Nat)
  /-- QUIESCE_COMPLETE (R333): With nothing in flight, QSTATE becomes 2 and the PF's vector 33 is sent. -/
  | quiesceComplete (b : BenchN) (f : FnN)
  /-- D3HOT_ENTRY (R318): Entry to D3hot stops fetch as a drain quiesce. -/
  | d3hotEntry (b : BenchN) (f : FnN)
  /-- FUNCTION_BIND (R324): A write of FT_CTL bind fields changes or requests the function's owner binding. -/
  | functionBind (h : HartN) (b : BenchN) (f : FnN) (ctl : Nat)
  /-- FN_CLAIM (R324): A write of 1 by a hart of the right world or enclave completes a pending binding. -/
  | fnClaim (h : HartN) (b : BenchN) (f : FnN) (v : Nat)
  /-- DIRTY_LOG_ENABLE (R331): A write of LOG from 0 to 1 clears DLOG_OVERFLOW and the DIRTY_SET bits. -/
  | dirtyLogEnable (h : HartN) (b : BenchN) (f : FnN) (ctl : Nat)
  /-- FUNCTION_LEVEL_RESET (R334): A VF reset stops fetch and holds for a quiesce when work is in flight. -/
  | functionLevelReset (b : BenchN) (f : FnN)
  /-- FLR_REVOKE (R334): At 90 ms without QSTATE 2, the reset revokes the function's translations and abandons its work. -/
  | flrRevoke (b : BenchN) (f : FnN)
  /-- PF_FLR (R336): A PF function-level reset revokes and resets every function of the bench. -/
  | pfFlr (b : BenchN)
  /-- VF_ENABLE_CLEAR (R318): A write of 0 to VF Enable resets every VF at once. -/
  | vfEnableClear (b : BenchN)
  /-- BTU_INVAL_ALL (R330): A BTU invalidation of SCOPE 0 kills the entries of every function. -/
  | btuInvalAll (h : HartN) (b : BenchN)
  /-- BTU_INVAL_FUNCTION (R330): A BTU invalidation of SCOPE 1 kills the entries of one function. -/
  | btuInvalFunction (h : HartN) (b : BenchN) (f : FnN)
  /-- BTU_INVAL_PAGE (R330): A BTU invalidation of SCOPE 2 kills one page of one function. -/
  | btuInvalPage (h : HartN) (b : BenchN) (f : FnN)
  /-- BTU_INVAL_DONE (R330): Every access that used a killed entry has performed, and DONE is set. -/
  | btuInvalDone (b : BenchN)
  /-- MICROCODE_LOAD (R338): Once started work has drained, the bench loads and self-tests the microcode, or reverts. -/
  | microcodeLoad (b : BenchN) (ok : Bool)
  /-- SET_OWNER (R375): The hub command changes the owner class of up to 512 pages, zeroing where required. -/
  | setOwner (h : HartN)
  /-- ECREATE (R378): The hub command creates an enclave with its control region and starts the measurement. -/
  | ecreate (h : HartN)
  /-- EADD (R379): The hub command copies or zeroes a page into the enclave and measures it. -/
  | eadd (h : HartN)
  /-- EINIT (R380): The hub command fixes the measurement and sets the enclave READY. -/
  | einit (h : HartN)
  /-- ESTOP (R383): The hub command sets the enclave DEAD. -/
  | estop (h : HartN)
  /-- EREMOVE (R383): The hub command zeroes and releases an enclave page or the control region. -/
  | eremove (h : HartN)
  /-- EQUERY (R373): The hub command returns the enclave's state, slots and page count. -/
  | equery (h : HartN)
  /-- HOLD_REGISTER_WRITE (R391): A write of the hold registers holds blocks or releases pending withdraws and bench stops. -/
  | holdRegisterWrite (h : HartN) (r : Fin 5) (v : Word)
  /-- ENCLAVE_REPORT_REQ (R398): The write records an EID and nonce for a report. -/
  | enclaveReportReq (sess : Option SessN) (tag : Nat) (eid : BitVec 16) (nonce : List Byte)
  /-- ENCLAVE_REPORT (R398): The read builds and returns the signed enclave report. -/
  | enclaveReport (sess : Option SessN) (tag : Nat)
  /-- ROLE_KEY (R397): A write sets a key hash and role for later sessions. -/
  | roleKey (sess : Option SessN) (tag : Nat) (k : Fin 16) (key : Option (List Byte × Nat))
  /-- FUSE_OWNER_SLOT (R394): FUSE_REQUEST action 1 fuses an owner key slot. -/
  | fuseOwnerSlot (sess : Option SessN) (tag : Nat) (slot : Nat) (hash : List Byte)
  /-- REVOKE_OWNER_SLOT (R394): FUSE_REQUEST action 2 revokes an owner key slot. -/
  | revokeOwnerSlot (sess : Option SessN) (tag : Nat) (slot : Nat)
  /-- REVOKE_VENDOR_SLOT (R394): FUSE_REQUEST action 3 revokes a vendor key slot. -/
  | revokeVendorSlot (sess : Option SessN) (tag : Nat) (slot : Nat)
  /-- FORBID_DEBUG_ENABLE (R394): FUSE_REQUEST action 4 fuses off a debug enable. -/
  | forbidDebugEnable (sess : Option SessN) (tag : Nat) (bit : Nat)
  /-- DEBUG_HALT_REQUEST (R388): A halt request halts the hart at the first boundary in a permitted context. -/
  | debugHaltRequest (h : HartN)
  /-- ABSTRACT_ACCESS_REGISTER (R388): The Debug Module accesses a halted hart's register, subject to world rules. -/
  | abstractAccessRegister (h : HartN) (regno : Nat) (write : Bool) (v : Word)
  /-- PROGRAM_BUFFER (R388): The program buffer executes with the halted context's privilege. -/
  | programBuffer (h : HartN) (ops : List PbOp)
  /-- SYSTEM_BUS_ACCESS (R388): A Debug Module system bus access is checked against the POT. -/
  | systemBusAccess (addr : Nat) (size : Nat) (write : Bool) (v : Word)
  /-- IOTINVAL_VMA (R139): The IOMMU command invalidates first-stage translation cache entries. -/
  | iotinvalVma (gv : Bool) (gscid : Nat) (av : Bool) (addr : Nat) (pscv : Bool) (pscid : Nat)
  /-- IOTINVAL_GVMA (R139): The IOMMU command invalidates G-stage translation cache entries. -/
  | iotinvalGvma (gv : Bool) (gscid : Nat) (av : Bool) (addr : Nat)
  /-- IOFENCE_C (R139): The IOMMU command orders completion of earlier invalidations. -/
  | iofenceC (av : Bool) (addr : Nat) (data : Nat)
  /-- LINE (R409): The STANDBY logs a mirrored line write of the epoch. -/
  | lineRec (epoch : Nat) (line : Nat) (poison : Bool) (data : Line)
  /-- OUTPUT (R417): The STANDBY logs a held outbound write. -/
  | outputRec (rp : Nat) (kind : Nat) (oseq : Nat) (addr : Nat) (data : List Byte)
  /-- SEAL (R416): The STANDBY recomputes the digest and answers SEAL_ACK or SEAL_NAK. -/
  | sealRec (kerf : Nat) (counts : List Nat) (outs : Nat) (digest : List Byte) (offline : List HartN)
  /-- SEAL_ACK (R418): The PRIMARY releases the epoch's held outputs. -/
  | sealAckRec (kerf : Nat)
  /-- SEAL_NAK (R421): The PRIMARY goes ALONE on a refused seal. -/
  | sealNakRec (kerf : Nat)
  /-- HEARTBEAT (R420): The partner's heartbeat reports its role, phase, kerf and release point. -/
  | heartbeatRec (role : Nat) (phase : Nat) (kerf : Nat) (lastAck : Nat) (released : Nat) (time : Nat)
  /-- HEARTBEAT_SEND (R420): Every 10 µs a package sends a HEARTBEAT on each sub-link that is up. -/
  | heartbeatSend
  /-- PARTNER_SUSPECT (R420): No HEARTBEAT for 50 µs sets PHASE 3 and starts takeover requests. -/
  | partnerSuspect
  /-- LOSS (R420): A LOSS record confirms the partner's loss, and the receiver takes over. -/
  | lossRec (cause : Nat) (kerf : Nat)
  /-- ENTRY (R419): The STANDBY receives a paired entry's value segment. -/
  | entryRec (idx : Nat) (sub : Nat) (total : Nat) (off : Nat) (v : List Byte)
  /-- KERF (R406): The STANDBY aligns its cut to the PRIMARY's KERF record. -/
  | kerfRec (kerf : Nat) (time : Nat)
  /-- COPY (R407): The STANDBY writes a formation copy of a mirrored line into place. -/
  | copyRec (epoch : Nat) (line : Nat) (poison : Bool) (data : Line)
  /-- KEYS (R407): The STANDBY takes a bench's key-store key. -/
  | keysRec (b : BenchN) (gen : Nat) (key : List Byte)
  /-- REPAIR_REQ (R423): The PRIMARY re-sends a line that the STANDBY cannot read. -/
  | repairReqRec (line : Nat)
  /-- DOWEL_SUBLINK_DOWN (R404): A sub-link going down moves every record to the other sub-link. -/
  | dowelSublinkDown (sub : Fin 2)
  /-- TAKEOVER_REQ (R457): The master checks a signed takeover request, binds the register and answers. -/
  | takeoverReq (hdr : SegHdr) (q : TakeReq)
  /-- TAKEOVER_ANS (R421): A requester accepts a grant or refusal and acts on it. -/
  | takeoverAns (hdr : SegHdr) (master : Nat) (a : TakeAns)
  /-- TAKEOVER_RETRY (R421): A suspecting package re-sends its request every 1 ms. -/
  | takeoverRetry
  /-- TAKEOVER_STANDBY_GRANT (R421): After the register stays OPEN for 2 ms with no PRIMARY request, the master grants the STANDBY. -/
  | takeoverStandbyGrant (pair : Fin 32)
  /-- CONFIRM_TIMEOUT (R421): No answer within 12 ms of suspicion sets PHASE 7 HELD. -/
  | confirmTimeout
  /-- FORCE_PROMOTE (R421): A write of FORCE_PROMOTE in PHASE 7 promotes a STANDBY, or releases a PRIMARY as on a grant. -/
  | forcePromote (sess : Option SessN) (tag : Nat) (v : Byte)
  /-- TAKEOVER_OPEN (R457): A write of TAKEOVER_OPEN sets the register OPEN and clears its binding. -/
  | takeoverOpen (sess : Option SessN) (tag : Nat) (pair : Fin 32) (v : Byte)
  /-- GAUGE_RUN_START (R431): VGAUGE rising starts a run with a new RUN_ID, a cleared ring and SEQ 0. -/
  | gaugeRunStart
  /-- GAUGE_RUN_END (R431): Loss of VGAUGE ends the run. -/
  | gaugeRunEnd
  /-- GAUGE_RESET (R431): GAUGE_RST_N restarts the sequencer, loses the open interval and keeps the run. -/
  | gaugeReset (low : Bool)
  /-- GAUGE_SLOT (R432): At each 10 µs boundary the Gauge latches domain energies and attributes them to tags. -/
  | gaugeSlot (charges : List Nat) (ref : Nat)
  /-- GAUGE_TAG_SAMPLE (R434): Every 1 µs the Gauge samples the tags of functions holding engines or running Feed channels. -/
  | gaugeTagSample
  /-- GAUGE_RECORDS_SIGNED (R440): The records of a close are signed and become visible in the ring. -/
  | gaugeRecordsSigned
  /-- GAUGE_CAL (R444): A signed calibration package blows a seal fuse and changes calibration or ROM selection. -/
  | gaugeCal (verify : Bool) (pkg : List Byte) (calib : Option (List Byte)) (rom : Option (Fin 4))
  /-- GAUGE_WINDOW_WRITE (R446): A write to the export window is ignored and counted as an error. -/
  | gaugeWindowWrite (addr : Nat) (v : Word)
  /-- MCTP (R454): A segment MCTP frame is received, and on the master is bridged. -/
  | mctp (b : McBinding) (src : Nat) (dst : Nat) (typ : Nat) (body : List Byte) (sess : Option SessN) (p : PartnerObs) (u : UcieObs)
  /-- ANNOUNCE (R455): A received ANNOUNCE updates the node view, conflicts and, on a backup, the copied GRANTS. -/
  | announce (hdr : SegHdr) (a : Announce) (chain : ChainObs)
  /-- ANNOUNCE_SEND (R455): Each node sends an ANNOUNCE every 100 ms, and a master every 1 ms. -/
  | announceSend
  /-- MASTER_LISTEN_EXPIRY (R453): A master-strapped node that hears no BEACON for 5 ms becomes coordinator. -/
  | masterListenExpiry
  /-- BACKUP_TAKEOVER (R453): A backup that hears no BEACON for 5 ms becomes acting master. -/
  | backupTakeover
  /-- KERF_SYNC_EDGE (R463): An accepted KERF_SYNC_IN edge sets the follower's master instant and schedule. -/
  | kerfSyncEdge (t : Nat) (sinceRelease : Nat) (cut : Option Nat)
  /-- KERF_SYNC_MISS (R463): No edge within KERF_SYNC_COMP + 5 µs of a scheduled cut sets HOLDOVER. -/
  | kerfSyncMiss (t : Nat)
  /-- SET_ENDPOINT_ID (R460): The MCTP control command is accepted only with the package's own EID. -/
  | setEndpointId (eid : Nat)
  /-- GET_ENDPOINT_ID (R460): The MCTP control command reports a static EID. -/
  | getEndpointId
  /-- ENTDAA (R459): The I3C controller assigns the target's dynamic address. -/
  | entdaa (addr : Nat)
  /-- GETSTATUS (R67): The I3C command returns status with the stage code in bits [15:8]. -/
  | getstatus
  /-- HSMPCTL_WRITE (R477): A write of hsmpctl turns sampling on or off and clears STOP. -/
  | hsmpctlWrite (h : HartN) (insn : BitVec 32) (value : Word)
  /-- SAMPLE_COUNTDOWN (R475): The countdown reaching 0 tags the next micro-operation, or drops the sample. -/
  | sampleCountdown (h : HartN)
  /-- SAMPLE_RECORD (R479): A tagged micro-operation retiring or squashing writes a sampling record. -/
  | sampleRecord (h : HartN) (o : SampleObs)
  /-- CE_WINDOW_ROLL (R483): At each CE_WINDOW the per-unit corrected-error counts restart. -/
  | ceWindowRoll
  /-- OVF_CLEAR (R468): A write of 1 clears every OVF bit. -/
  | ovfClear (sess : Option SessN) (tag : Nat) (v : Byte)
  /-- REGISTER_WRITE (R12): A write to a register without its own row stores its RW fields and discards RSVD bits. -/
  | registerWrite (t : RegTarget) (v : Word)
  /-- FREQUENCY_SWITCH_COMPLETE (R256): At the end of switch step 4 the channel exits self-refresh on the new slot and resumes its stalled accesses, write buffer first. -/
  | frequencySwitchComplete (ch : SliceN)
  /-- SPARE_MOVE_COMPLETE (R108): When the old core has written its dirty lines into the L3, the HMC powers off and isolates it, sets SPARED and SPARE_USED, and records the move. -/
  | spareMoveComplete (h : HartN)
  /-- OFFLINE_POWER_OFF (R109): An offlined core that has written its dirty lines back powers off. -/
  | offlinePowerOff (h : HartN)
  /-- READMIT_TRAINING_TIMEOUT (R216): A re-admitted die whose link has not trained within the 17.1 ms bound is fenced again with cause 1. -/
  | readmitTrainingTimeout (die : DieN)
  /-- THERMAL_THROTTLE_RELEASE (R497): When every sensor reads 100 °C or less, the thermal throttle releases. -/
  | thermalThrottleRelease (temp : Nat)
  /-- DOWEL_SUBLINK_UP (R404): A Dowel sub-link that returns to up carries its slices' records again. -/
  | dowelSublinkUp (sub : Fin 2) (width : Fin 3)
  /-- PCIE_WAKE (R101): A PCIe wake signal wakes the hub's I/O domains and reaches a hart as an interrupt through the APLICs. -/
  | pcieWake (port : Fin 32) (target : Option (HartN × Fin 9 × Fin 256))
  /-- PLCA_BEACON (R453): A heard PLCA BEACON defers a listening master-strapped node, restarts the 5 ms absence timers, and ends CSMA/CD fallback. -/
  | plcaBeacon
  /-- BENCH_POWER_UP (R314): When a collapsed bench supply returns, the bench zeroises its arrays before it serves any access. -/
  | benchPowerUp (b : BenchN)
  /-- SPDM_CHALLENGE (R395): A CHALLENGE request is answered with a response signed by the highest available identity key. -/
  | spdmChallenge (slot : Nat) (nonce : List Byte)
  /-- SPDM_KEY_UPDATE (R395): A KEY_UPDATE request updates the session's keys. -/
  | spdmKeyUpdate (sess : SessN)
deriving DecidableEq, Repr

end Sys2Proof
end

