-- ==== Sys2Proof/WellFormed.lean ====
section
/-!
DEFINITION. Which commands are well formed: the operands the spec bounds and their types do not (R163, R165, R178, R197, R386).
A meaning does not rest on it; it says which commands the package can meet.
-/
set_option linter.unusedVariables false

namespace Sys2Proof

/-- Sizes of an access in bytes. -/
def sizeOk (n : Nat) : Bool := n == 1 || n == 2 || n == 4 || n == 8
def atomicSizeOk (n : Nat) : Bool := n == 4 || n == 8
/-- AMOs and Zacas: 16 bytes is AMOCAS.Q's. -/
def amoSizeOk (n : Nat) : Bool := sizeOk n || n == 16

/-- The fields of a fabric message hold what R178 gives them room for. -/
def messageOk (m : FMsg) : Bool :=
  decide (m.die < 12) && decide (m.inc < 64) && decide (m.txid < 16384) && decide (m.rtag < 4096) && decide (m.core < 32) &&
  decide (m.addr < 2 ^ 56) && decide (m.size ≤ 8) && decide (m.reqDie < 16)

/-- At most 8 words, and accesses of the sizes there are (R386). -/
def bufferOk (ops : List PbOp) : Bool :=
  decide (ops.length ≤ 8) && ops.all (fun o => match o with
    | .load _ _ _ size _ => sizeOk size
    | .store _ _ _ size => sizeOk size
    | _ => true)

/-- A hub register lies in the hub control range, within one aligned access. -/
def targetOk : RegTarget → Bool
  | .hub _ addr size => sizeOk size && addr % size == 0 && decide (0x3FF0_0000_0000 ≤ addr) && decide (addr ≤ 0x3FF0_001F_FFFF)
  | _ => true

/-- A well-formed command. -/
def Instr.wellFormed : Instr → Bool
  | .t0 _ _ _ => true
  | .powerOff => true
  | .packageReset => true
  | .railFault => true
  | .bootRom _ => true
  | .imageRead _ => true
  | .imageCheck => true
  | .apply => true
  | .tenonStage _ => true
  | .dramStage _ => true
  | .hubStores _ => true
  | .pcieStage _ _ _ _ => true
  | .loadSections => true
  | .release _ _ _ => true
  | .stageTimeout _ _ => true
  | .heldState => true
  | .rollbackCommit => true
  | .warmReset _ _ => true
  | .packageResetRequest _ _ => true
  | .read _ => true
  | .write _ _ _ => true
  | .domainWriteBegin _ => true
  | .domainWriteSegment _ => true
  | .domainWriteEnd _ _ => true
  | .domainReadBegin _ => true
  | .domainReadSegment _ => true
  | .transferCancel _ => true
  | .kerfWait _ => true
  | .kerfWaitResponse _ => true
  | .transferIdleTimeout _ => true
  | .stagedDiscard _ _ _ => true
  | .kerfCut _ => true
  | .spdmKeyExchange _ => true
  | .spdmFinish _ _ _ => true
  | .spdmGetMeasurements _ _ _ _ => true
  | .spdmGetCertificate _ _ _ _ => true
  | .spdmHeartbeat _ => true
  | .spdmEndSession _ => true
  | .spdmSessionTimeout _ => true
  | .tsync _ => true
  | .eenter _ _ => true
  | .eexit _ => true
  | .wswitch _ _ => true
  | .poq _ _ _ => true
  | .wfi _ => true
  | .hartWake _ => true
  | .hartInterrupt _ => true
  | .hartLoad _ _ _ _ size _ _ => sizeOk size
  | .hartStore _ _ _ _ _ size _ => sizeOk size
  | .amo _ _ _ _ _ size => amoSizeOk size
  | .lr _ _ _ size => atomicSizeOk size
  | .sc _ _ _ _ size => atomicSizeOk size
  | .lrReservationTimeout _ => true
  | .sfenceVma _ _ _ => true
  | .hfenceVvma _ _ _ => true
  | .hfenceGvma _ _ _ => true
  | .sinvalVma _ _ _ => true
  | .sfenceWInval _ => true
  | .sfenceInvalIr _ => true
  | .cboClean _ _ => true
  | .cboFlush _ _ => true
  | .cboInval _ _ => true
  | .cboZero _ _ => true
  | .svreqWrite _ _ _ => true
  | .retentionIdle _ => true
  | .coreTest _ _ _ => true
  | .overspendStepDown _ => true
  | .benchOverspend _ => true
  | .ledgerSumTick _ => true
  | .hardLimitW _ _ _ => true
  | .sensorFail _ => true
  | .thermalThrottle _ => true
  | .thermtrip _ _ => true
  | .messageFlit _ _ _ => true
  | .controlFlit _ _ _ => true
  | .replayTimeout _ _ => true
  | .linkRecovery _ _ _ => true
  | .recoveryTimeout _ _ => true
  | .linkTraining _ _ => true
  | .trainingFrame _ _ _ _ => true
  | .linkRetrain _ _ _ _ => true
  | .wakePattern _ _ => true
  | .foldWakeTimeout _ => true
  | .dieTimeBaseUnlock _ => true
  | .hubTimeBaseUnlock => true
  | .hubTimeBaseRelock => true
  | .jigEnter _ => true
  | .jigLoop _ _ _ => true
  | .jigResult _ => true
  | .jigSheet _ => true
  | .ucieRetrain _ _ _ _ _ => true
  | .rd64 _ _ => true
  | .rdf64 _ _ => true
  | .wr64 _ _ _ => true
  | .wrp64 _ _ _ mask => decide (mask < 2 ^ 64)
  | .inlayAmo _ _ _ _ => true
  | .inlayMsi _ _ _ => true
  | .inlayCplUp _ _ _ => true
  | .mmrd _ m => messageOk m
  | .mmwr _ m => messageOk m
  | .inlayCplDown _ => true
  | .crd _ n => (decide (1 ≤ n) && decide (n ≤ 255))
  | .inlayDownstreamTimeout _ => true
  | .ucieLinkLost _ => true
  | .ucieAdapterError _ => true
  | .rds m => messageOk m
  | .rdc m => messageOk m
  | .rdw m => messageOk m
  | .rdx m => messageOk m
  | .upg m => messageOk m
  | .zro m => messageOk m
  | .cln m => messageOk m
  | .fls m => messageOk m
  | .inv m => messageOk m
  | .ncrd m => messageOk m
  | .ncwr m => messageOk m
  | .imsw m _ => messageOk m
  | .fwdS m => messageOk m
  | .fwdX m => messageOk m
  | .snpInv m => messageOk m
  | .snpPeek m => messageOk m
  | .snpClean m => messageOk m
  | .snpFlush m => messageOk m
  | .binv m => messageOk m
  | .snpAck m => messageOk m
  | .fwdAck m => messageOk m
  | .killDone m => messageOk m
  | .protEnd m => messageOk m
  | .walkProtectTimeout _ => true
  | .cmp m => messageOk m
  | .wbAck m => messageOk m
  | .wbXack m => messageOk m
  | .kdone m => messageOk m
  | .dataS m => messageOk m
  | .dataE m => messageOk m
  | .dataM m => messageOk m
  | .dataNc m => messageOk m
  | .dataSnp m => messageOk m
  | .wbM m => messageOk m
  | .evn m => messageOk m
  | .wbP m => messageOk m
  | .agentRead _ _ => true
  | .agentWrite _ _ _ _ => true
  | .agentAtomic _ _ _ _ _ => true
  | .hubAtomicRelease _ => true
  | .trackerEntryFree _ => true
  | .setRetryCredit _ _ => true
  | .mirrorCleaner _ => true
  | .withdrawDrainComplete _ => true
  | .withdrawTimeout _ => true
  | .fabricRespTimeout _ => true
  | .directorySweepComplete _ => true
  | .dieReadmit _ _ _ _ => true
  | .mscEnable _ _ _ => true
  | .mscDisable _ _ _ => true
  | .mscFlushThenDisable _ _ _ => true
  | .mscFlushComplete _ => true
  | .mscMaintClean _ _ _ _ => true
  | .mscMaintInvalidate _ _ _ _ => true
  | .mscMaintCleanInvalidate _ _ _ _ => true
  | .mscMaintDone => true
  | .mscPatrolScrub _ _ _ => true
  | .evictionBufferDrain _ => true
  | .dramReadIssue _ _ _ => true
  | .dramWriteIssue _ _ => true
  | .rowPrechargeIdle _ _ _ _ => true
  | .dramRefresh _ _ => true
  | .powerDownEntry _ _ => true
  | .selfRefreshEntry _ => true
  | .selfRefreshExit _ => true
  | .dimmTempRead _ _ => true
  | .retrainPause _ _ => true
  | .retrainForced _ => true
  | .dramRetrainNow _ _ _ _ => true
  | .granuleZero _ => true
  | .dramPatrolScrub _ _ => true
  | .cxlTimeout _ _ => true
  | .sqTailWrite _ _ _ _ _ => true
  | .cqHeadWrite _ _ _ _ _ => true
  | .ringEnable _ _ _ _ _ => true
  | .ringDisable _ _ _ _ _ => true
  | .descriptorFetch _ => true
  | .descriptorComplete _ _ => true
  | .ringIrqHoldoff _ _ _ => true
  | .hash _ _ _ => true
  | .hmacGen _ _ _ => true
  | .hmacVerify _ _ _ => true
  | .cmacGen _ _ _ => true
  | .cmacVerify _ _ _ => true
  | .mac3Gen _ _ _ => true
  | .mac3Verify _ _ _ => true
  | .aesEnc _ _ _ => true
  | .aesDec _ _ _ => true
  | .gcmEnc _ _ _ => true
  | .gcmDec _ _ _ => true
  | .tdesEnc _ _ _ => true
  | .tdesDec _ _ _ => true
  | .kwWrap _ _ _ => true
  | .kwUnwrap _ _ _ => true
  | .edSign _ _ _ => true
  | .edVerify _ _ _ => true
  | .ecdsaSign _ _ _ => true
  | .ecdsaVerify _ _ _ => true
  | .rsaSign _ _ _ => true
  | .rsaVerify _ _ _ => true
  | .x25519 _ _ _ => true
  | .ecdh _ _ _ => true
  | .pinTranslate _ _ _ => true
  | .pinVerify _ _ _ => true
  | .keyGen _ _ _ => true
  | .keyDestroy _ _ _ => true
  | .keyImportKw _ _ _ => true
  | .keyImportPub _ _ _ => true
  | .keyExportPub _ _ _ => true
  | .keyImportBlock _ _ _ => true
  | .keyExportBlock _ _ _ => true
  | .keyDerive _ _ _ => true
  | .fchStart _ _ _ _ _ => true
  | .fchResume _ _ _ _ _ => true
  | .fchAbort _ _ _ _ _ => true
  | .feedUnitTransfer _ _ _ => true
  | .feedChannelDone _ _ => true
  | .feedStop _ _ _ _ => true
  | .spadOwnerWrite _ _ _ _ => true
  | .spadGranuleZeroed _ _ => true
  | .fchOwnerWrite _ _ _ _ => true
  | .spadBar2Access _ _ _ _ _ size _ _ => sizeOk size
  | .spadBankRetention _ _ => true
  | .benchZeroise _ _ _ _ => true
  | .benchSupplyCollapse _ => true
  | .quiesceDrain _ _ _ _ => true
  | .quiesceAbandon _ _ _ _ => true
  | .quiesceRun _ _ _ _ => true
  | .quiesceComplete _ _ => true
  | .d3hotEntry _ _ => true
  | .functionBind _ _ _ _ => true
  | .fnClaim _ _ _ _ => true
  | .dirtyLogEnable _ _ _ _ => true
  | .functionLevelReset _ _ => true
  | .flrRevoke _ _ => true
  | .pfFlr _ => true
  | .vfEnableClear _ => true
  | .btuInvalAll _ _ => true
  | .btuInvalFunction _ _ _ => true
  | .btuInvalPage _ _ _ => true
  | .btuInvalDone _ => true
  | .microcodeLoad _ _ => true
  | .setOwner _ => true
  | .ecreate _ => true
  | .eadd _ => true
  | .einit _ => true
  | .estop _ => true
  | .eremove _ => true
  | .equery _ => true
  | .holdRegisterWrite _ _ _ => true
  | .enclaveReportReq _ _ _ _ => true
  | .enclaveReport _ _ => true
  | .roleKey _ _ _ _ => true
  | .fuseOwnerSlot _ _ _ _ => true
  | .revokeOwnerSlot _ _ _ => true
  | .revokeVendorSlot _ _ _ => true
  | .forbidDebugEnable _ _ _ => true
  | .debugHaltRequest _ => true
  | .abstractAccessRegister _ regno _ _ => decide (regno < 65536)
  | .programBuffer _ ops => bufferOk ops
  | .systemBusAccess _ size _ _ => sizeOk size
  | .iotinvalVma _ _ _ _ _ _ => true
  | .iotinvalGvma _ _ _ _ => true
  | .iofenceC _ _ _ => true
  | .lineRec _ _ _ _ => true
  | .outputRec _ _ _ _ _ => true
  | .sealRec _ _ _ _ _ => true
  | .sealAckRec _ => true
  | .sealNakRec _ => true
  | .heartbeatRec _ _ _ _ _ _ => true
  | .heartbeatSend => true
  | .partnerSuspect => true
  | .lossRec _ _ => true
  | .entryRec _ _ _ _ _ => true
  | .kerfRec _ _ => true
  | .copyRec _ _ _ _ => true
  | .keysRec _ _ _ => true
  | .repairReqRec _ => true
  | .dowelSublinkDown _ => true
  | .takeoverReq _ _ => true
  | .takeoverAns _ _ _ => true
  | .takeoverRetry => true
  | .takeoverStandbyGrant _ => true
  | .confirmTimeout => true
  | .forcePromote _ _ _ => true
  | .takeoverOpen _ _ _ _ => true
  | .gaugeRunStart => true
  | .gaugeRunEnd => true
  | .gaugeReset _ => true
  | .gaugeSlot _ _ => true
  | .gaugeTagSample => true
  | .gaugeRecordsSigned => true
  | .gaugeCal _ _ _ _ => true
  | .gaugeWindowWrite _ _ => true
  | .mctp _ _ _ _ _ _ _ _ => true
  | .announce _ _ _ => true
  | .announceSend => true
  | .masterListenExpiry => true
  | .backupTakeover => true
  | .kerfSyncEdge _ _ _ => true
  | .kerfSyncMiss _ => true
  | .setEndpointId _ => true
  | .getEndpointId => true
  | .entdaa _ => true
  | .getstatus => true
  | .hsmpctlWrite _ _ _ => true
  | .sampleCountdown _ => true
  | .sampleRecord _ _ => true
  | .ceWindowRoll => true
  | .ovfClear _ _ _ => true
  | .registerWrite t _ => targetOk t
  | .frequencySwitchComplete _ => true
  | .spareMoveComplete _ => true
  | .offlinePowerOff _ => true
  | .readmitTrainingTimeout _ => true
  | .thermalThrottleRelease _ => true
  | .dowelSublinkUp _ _ => true
  | .pcieWake _ _ => true
  | .plcaBeacon => true
  | .benchPowerUp _ => true
  | .spdmChallenge _ _ => true
  | .spdmKeyUpdate _ => true

end Sys2Proof
end

