-- ==== Sys2Proof/Decode.lean ====
section
/-!
DEFINITION. The command a word spells. No row of spec/opcode_table.json gives a command any bits, so no word spells one (log entry 1).
-/
set_option linter.unusedVariables false

namespace Sys2Proof

/-- The rows that give bits: none. -/
def decodeTableWord (nbits w : Nat) : Option Instr := none

end Sys2Proof
end

