-- ==== Sys2Proof/Config.lean ====
section
/-!
DEFINITION. What an implementation fixes and what the spec leaves open. Every constant here is opaque:
no proof can see a value of it, so a theorem about the model holds whatever it is. The functions of the
cryptographic and interface standards the spec cites but does not restate are constants here as well
(log entry 5).
-/
set_option linter.unusedVariables false

namespace Sys2Proof.Config

/-- A free value: what the spec leaves open, drawn with the model's counter `freeCtr` (log entry 4). -/
opaque freeNat : Nat → Nat

/-- A set's pseudo-LRU field after a way is touched (R175 gives the field, not its update; log entry 10). -/
opaque plruTouch : Nat → Nat → Nat
/-- Which of the eligible ways a pseudo-LRU field names, as an index into them (R177; log entry 10). -/
opaque plruVictim : Nat → Nat → Nat

/-- The bit positions a line takes in an ANCESTRY filter, first and second (R115 gives their number, not the hash; log entry 12). -/
opaque ancHash : Nat → Nat → Nat

/-- By how many Mstep/s the pace a hart's replica ring measures at an instant lies above the guaranteed minimum of R83 (log entry 63). -/
opaque paceOver : Nat → Nat → Nat
/-- What a core's temperature sensor gives at an instant, in °C (R98, log entry 63). -/
opaque junction : Nat → Nat → Nat
/-- A transmit opportunity of the segment falls at an instant (R458, log entry 64). -/
opaque txTurn : Nat → Bool

/-- The hart and interrupt file an address selects in the IMSICs, as 9·hart + file: 0 machine, 1 supervisor, 1 + g guest g; none where it is no file's
(R163, R166; log entry 67). -/
opaque imsicAt : Nat → Option Nat
/-- The address lies in a bench's scratchpad window, where enumeration has placed BAR2 (R166, log entry 67). -/
opaque spadWindow : Nat → Bool

/-- The root port a device address is routed to: what enumeration has set up, which the spec does not lay out (log entry 18). -/
opaque rootPort : Nat → Nat
/-- The kind of a write to a device address (R403): 0 memory, 1 I/O, 2 configuration, 3 MSI (log entry 18). -/
opaque outKind : Nat → Nat

/-- The byte at an address of DRAM whose contents the spec leaves undefined, by the number of the event that left them so (log entry 21). -/
opaque undefByte : Nat → Nat → BitVec 8

/-- The functions of the standards the spec cites (R269–R272, R395–R398, R440) and does not restate, by name. -/
inductive Std where
  | sha | hmac | cmac | mac3 | aesEnc | aesDec | gcmEnc | gcmDec | tdesEnc | tdesDec | kwWrap | kwUnwrap
  | edSign | edVerify | ecdsaSign | ecdsaVerify | rsaSign | rsaVerify | x25519 | ecdh
  | pinDecode | pinEncode | dukpt | keyGen | keyPublic | keyValid | publicValid | blockOpen | blockMake
  | storeSeal | storeOpen | imageVerify | reportSign | measureSign | calVerify | requestVerify | kerfDigest | spdm | pairCheck
deriving DecidableEq, Repr

/-- What a function of a standard gives for its arguments (log entry 5). -/
opaque std : Std → List (List (BitVec 8)) → List (BitVec 8)
/-- Whether a check of a standard passes for its arguments (log entry 5). -/
opaque stdOk : Std → List (List (BitVec 8)) → Bool

end Sys2Proof.Config
end

