-- ==== Sys2Proof/Machine/Bits.lean ====
section
/-!
DEFINITION. Bit fields, little-endian bytes (R10) and checksums: the arithmetic every register
layout, message body and flit of the model is read and written with.
-/
set_option linter.unusedVariables false

namespace Sys2Proof.Machine

/-- Bits [lo + w − 1 : lo] of a number. -/
def getBits (n lo w : Nat) : Nat := n / 2 ^ lo % 2 ^ w

/-- Bit `i` of a number. -/
def getBit (n i : Nat) : Bool := n / 2 ^ i % 2 == 1

/-- A Bool as a bit. -/
def b2n (b : Bool) : Nat := if b then 1 else 0

/-- Fields (value, low bit, width) laid side by side; each value is cut to its width. -/
def packFields : List (Nat × Nat × Nat) → Nat
  | [] => 0
  | (v, lo, w) :: r => v % 2 ^ w * 2 ^ lo + packFields r

/-- `n` with bits [lo + w − 1 : lo] replaced by `v`. -/
def setBits (n lo w v : Nat) : Nat := n - getBits n lo w * 2 ^ lo + v % 2 ^ w * 2 ^ lo

/-- `n` with bit `i` set to `b`. -/
def setBit (n i : Nat) (b : Bool) : Nat := setBits n i 1 (b2n b)

/-- The number of ones among the low `w` bits. -/
def popCount : Nat → Nat → Nat
  | _, 0 => 0
  | n, w + 1 => n % 2 + popCount (n / 2) w

/-- The positions, from low to high, of the ones among the low `w` bits. -/
def onesOf (n w : Nat) : List Nat := (List.range w).filter (fun i => getBit n i)

/-- A number from little-endian bytes. -/
def leNat : List Byte → Nat
  | [] => 0
  | b :: bs => b.toNat + 256 * leNat bs

/-- `k` little-endian bytes of a number. -/
def leBytes : Nat → Nat → List Byte
  | 0, _ => []
  | k + 1, n => BitVec.ofNat 8 n :: leBytes k (n / 256)

/-- A number from big-endian bytes. -/
def beNat (bs : List Byte) : Nat := leNat bs.reverse

/-- `k` big-endian bytes of a number. -/
def beBytes (k n : Nat) : List Byte := (leBytes k n).reverse

/-- Bytes [off, off + len) of a byte string, as far as it reaches. -/
def sliceOf (bs : List Byte) (off len : Nat) : List Byte := (bs.drop off).take len

/-- The little-endian number of `len` bytes at `off`. -/
def leAt (bs : List Byte) (off len : Nat) : Nat := leNat (sliceOf bs off len)

/-- `bs` cut or zero-filled to `k` bytes. -/
def padTo (k : Nat) (bs : List Byte) : List Byte := (bs ++ List.replicate (k - bs.length) 0).take k

/-- `bs` with `v` written over it at `off`. -/
def spliceAt (bs : List Byte) (off : Nat) (v : List Byte) : List Byte :=
  bs.take off ++ v ++ bs.drop (off + v.length)

/-- Every byte is zero. -/
def allZero (bs : List Byte) : Bool := bs.all (fun b => b == 0)

/-- The 64 bytes of a line, lowest address first. -/
def lineBytes (l : Line) : List Byte := leBytes 64 l.toNat

/-- A line from its bytes. -/
def bytesLine (bs : List Byte) : Line := BitVec.ofNat 512 (leNat bs)

/-- `old` with the bytes that `mask` selects taken from `new` (byte-masked write). -/
def mergeLine (old new : Line) (mask : Nat) : Line :=
  bytesLine ((List.range 64).map (fun i =>
    if getBit mask i then (lineBytes new).getD i 0 else (lineBytes old).getD i 0))

/-- `l` with bytes `v` written at byte offset `off`. -/
def lineSplice (l : Line) (off : Nat) (v : List Byte) : Line := bytesLine (spliceAt (lineBytes l) off v)

/-- One bit into a reflected CRC register with polynomial `p`. -/
def crcBit (p c : Nat) (b : Nat) : Nat :=
  let x := Nat.xor c b
  if x % 2 == 1 then Nat.xor (x / 2) p else x / 2

/-- Eight bits, least significant first, into a reflected CRC register. -/
def crcByte (p : Nat) (c : Nat) (b : Byte) : Nat :=
  (List.range 8).foldl (fun c i => crcBit p c (b.toNat / 2 ^ i % 2)) c

/-- A 32-bit reflected CRC: initial value all ones, result inverted. -/
def crc32With (p : Nat) (bs : List Byte) : Nat :=
  Nat.xor (bs.foldl (crcByte p) 0xFFFFFFFF) 0xFFFFFFFF

/-- CRC-32C (the Castagnoli polynomial, reflected). -/
def crc32c (bs : List Byte) : Nat := crc32With 0x82F63B78 bs

/-- The IEEE 802.3 CRC-32, reflected. -/
def crc32 (bs : List Byte) : Nat := crc32With 0xEDB88320 bs

/-- A two's-complement value of `w` bits as an integer. -/
def toSigned (w n : Nat) : Int :=
  if 2 ^ (w - 1) ≤ n % 2 ^ w then (n % 2 ^ w : Nat) - (2 ^ w : Nat) else (n % 2 ^ w : Nat)

/-- An integer as a two's-complement value of `w` bits. -/
def ofSigned (w : Nat) (z : Int) : Nat := (z % (2 ^ w : Nat)).toNat

/-- Quotient rounded up. -/
def ceilDiv (a b : Nat) : Nat := (a + b - 1) / b

end Sys2Proof.Machine
end

