-- ==== Sys2Proof/Machine/State.lean ====
section
/-!
DEFINITION. The state of the package: every register, memory, queue, counter, mode and pin the spec
gives it, as plain data, and the machine right after reset.
-/
set_option linter.unusedVariables false

namespace Sys2Proof.Machine

/-- Why the machine stops with a fault. No command of the block faults: every event the rules describe has
an effect they state, and an event that cannot occur in a state changes nothing (log entry 3). -/
inductive Fault where
  /-- Never raised. Safe: a run that ended here would only prove less. -/
  | none
deriving DecidableEq, Repr

/-- Why a command is refused. -/
inductive Refusal where
  /-- A command whose meaning has not been written. Raised by Dispatch only. Safe: nothing is proved of it. -/
  | notModelled (mnemonic : String)
deriving DecidableEq, Repr

/-! ### What leaves the block -/

/-- Everything the package sends or drives, in the order it is sent: the model's log of outputs. -/
inductive Out where
  /-- A list response, of MCTP message type 0x7F (R45, R46): vendor identifier, session if any, opcode with bit 7 set, TAG, ABORT, body after ABORT. -/
  | listResp (vendor : Nat) (sess : Option Nat) (opcode tag abort : Nat) (body : List Byte)
  /-- An SPDM response: session if any, kind, body. -/
  | spdm (sess : Option Nat) (kind : SpdmOut) (body : List Byte)
  /-- An MSI-X message of a bench function: bench, function, vector. -/
  | msi (bench fn vector : Nat)
  /-- An interrupt raised through the hub APLICs. -/
  | aplic (src : AplicSrc)
  /-- A pin driven or released. -/
  | pin (p : PinName) (level : Nat)
  /-- A Dowel record: sub-link, type, epoch, body. -/
  | dowel (sub : Nat) (typ : Nat) (epoch : Nat) (body : List Byte)
  /-- What a SEAL carries beside its record (R110): kerf, the harts taken offline at it. -/
  | sealOffline (kerf : Nat) (harts : List Nat)
  /-- A management-segment frame: destination (none: broadcast), kind, body. -/
  | seg (dst : Option Nat) (kind : SegKind) (body : List Byte)
  /-- An I3C or PCIe VDM MCTP packet bridged out. -/
  | mctp (port : Nat) (src dst typ : Nat) (body : List Byte)
  /-- The GETSTATUS response bits [15:0]. -/
  | getStatus (v : Nat)
  /-- A message flit sent on a bundle (R141, R142): die, up, SEQ, ACK, message; `flitBytes` gives its 80 bytes. -/
  | flit (die : Nat) (up : Bool) (seq ack : Nat) (m : FMsg)
  /-- A control flit sent on a bundle (R143): die, up, the five credit counters, RETRY_REQ, ACK; `controlBytes` gives its 80 bytes. -/
  | control (die : Nat) (up : Bool) (returned : List Nat) (retry : Option Nat) (ack : Nat)
  /-- The unacknowledged flits of a bundle sent again (R144, R145): die, up, the first SEQ, their number. -/
  | replay (die : Nat) (up : Bool) (seq n : Nat)
  /-- A wake pattern driven (R153): die, by the hub. -/
  | wake (die : Nat) (byHub : Bool)
  /-- A training frame of a die's link: digests of both working sheets. -/
  | training (die : Nat) (up down : Nat)
  /-- The hub's full working sheet in a frame, after a disagreement (R149): die, up, sheet. -/
  | sheet (die : Nat) (up : Bool) (sheet : Nat)
  /-- A downstream or completion transaction to an inlay site (R163): opcode, tag, status, address, SIZE or SUBOP, data. -/
  | inlay (site op tag status addr arg : Nat) (data : List Byte)
  /-- An access completed towards an agent: bench, device or hub; poison, data. -/
  | agentDone (who : Nat) (tag : Nat) (poison : Bool) (data : List Byte)
  /-- An access of an agent answered with an error: agent, tag. -/
  | agentError (who : Nat) (tag : Nat)
  /-- A device-region access sent to a device (NCRD, NCWR, clamp release): write, address, size, data. -/
  | device (write : Bool) (addr size data : Nat)
  /-- A JTAG data register shifted out. -/
  | jtag (die : Nat) (bits : Nat)
  /-- A Debug Module command on a hart answered: cmderr, value. -/
  | debug (hart : Nat) (err : Nat) (value : Nat)
  /-- A system bus access of the Debug Module answered: sberror, value. -/
  | sysBus (err : Nat) (value : Nat)
  /-- An IOMMU fault record to its queue: cause, address. -/
  | iommuFault (cause addr : Nat)
  /-- An MCTP control command answered: command code, completion code, endpoint ID, and its type where a Get reports it: 1 static (R460). -/
  | mctpControl (cmd code eid typ : Nat)
  /-- The I3C identity given during ENTDAA: PID, BCR, DCR (R459). -/
  | i3cId (pid bcr dcr : Nat)
  /-- A register read of the block answered with a value. -/
  | readData (value : Nat)
deriving DecidableEq, Repr

/-! ### Cutting List entries (chapter "Cutting List, Kerf and Dry Fit") -/

/-- Entry types (R27). -/
inductive EType where
  | bool | u8 | u16 | u32 | u64 | i64 | enum | bits | string | domain
deriving DecidableEq, Repr

/-- Swap classes (R29). -/
inductive Swap where
  | imm | kerf | boot | sealed_
deriving DecidableEq, Repr

/-- A row of an entry table: a rectangle of index:subindex pairs of one name. Access codes per R14,
observer first: 0 none, 1 read, 2 read and write. -/
structure EntryRow where
  idxLo : Nat
  idxHi : Nat
  subLo : Nat
  subHi : Nat
  name : String
  typ : EType
  max : Nat          -- of a STRING or DOMAIN
  access : List Nat
  dflt : Nat
  fromImage : Bool   -- the Default column says "image" (R28)
  swap : Swap
deriving DecidableEq, Repr

/-- An entry's value: a number, or octets for STRING and DOMAIN. -/
inductive Val where
  | num (n : Nat)
  | bytes (b : List Byte)
deriving DecidableEq, Repr

/-- A dry-fit status entry (R42). -/
structure DryStatus where
  reason : Nat
  index : Nat
  sub : Nat
  atKerf : Bool
  pend : Bool
deriving DecidableEq, Repr

/-- A status entry at reset. -/
def dryInit : DryStatus := { reason := 0, index := 0, sub := 0, atKerf := false, pend := false }

/-! ### Harts (chapters "Clockless Cores", "Translation and Coherent TLBs") -/

/-- The privilege modes in which a hart executes (R90, R96, R99). -/
inductive Mode where
  | m | hs | u | vs | vu
deriving DecidableEq, Repr

/-- The rest a hart is in (R99): running, or one of the three rest modes. -/
inductive Rest where
  | running | idle | retain | fold
deriving DecidableEq, Repr

/-- One entry of a core's TLBs or walk caches with the tags of R115. -/
structure Tlb where
  va : Nat            -- first virtual address covered; in the G-stage walk cache a guest physical address
  size : Nat          -- log2 of the bytes covered
  full : Nat          -- log2 of the bytes of the leaf it comes from: more than size in a 1 GiB fragment (R114)
  level : Nat         -- 0 a leaf translation; k + 1 a non-leaf entry of level k + 1, whose table is at pa
  pa : Nat            -- first physical address
  gpa : Option Nat    -- first guest physical address, of a two-stage entry
  twoStage : Bool
  virt : Bool         -- belongs to a V = 1 context
  bare : Bool         -- the VS stage was Bare
  asid : Nat
  vmid : Nat
  glob : Bool
  perm : Nat          -- PTE bits [7:0] of the VS or single stage: V R W X U G A D
  gperm : Nat         -- PTE bits [7:0] of the G stage; 255 when single-stage
  pbmt : Nat
  leafLine : Nat      -- LEAF_LINE, line address (byte address / 64)
  pair : Bool         -- LEAF_LINE is the 128-byte pair of lines of a 64 KiB NAPOT entry
  anc : Nat           -- ANCESTRY: the 32-bit filter of every other line the walk depended on
  gen : Bool          -- GEN: the generation tag of the walk that filled it (R136)
  owner : Nat         -- OWNER_OK for the world and enclave of the fill: bit 0 read, 1 write, 2 execute
  secure : Bool       -- world of the fill
  eid : Nat           -- enclave of the fill
deriving DecidableEq, Repr

/-- The memory operations a hart can be waiting to perform (R183: performed when the data arrives). Addresses are
virtual; `len` is the length of the instruction. -/
inductive MemOp where
  | load (va size : Nat) (dst : Dst) (signed : Bool) (len : Nat)
  | store (va size : Nat) (val : Nat) (len : Nat)
  | amo (va size : Nat) (op : AmoOp) (val expected : Nat) (rd : Nat)
  | lr (va size : Nat) (rd : Nat)
  | sc (va size : Nat) (val : Nat) (rd : Nat)
  | cbo (va : Nat) (op : CboOp)
  | poq (va : Nat) (rd : Nat)
  | tsync
deriving DecidableEq, Repr

/-- A hart operation that waits for the fabric: the operation, the line it waits for, and the number of its
walk's restarts in a row (R137). -/
structure Waiting where
  op : MemOp
  line : Nat
  walked : List Nat    -- lines the walk in flight has read or requested
  restarts : Nat
  gen : Bool           -- the generation tag of the walk in flight (R136)
  prot : List Nat      -- lines a protected walk has asked for with PROT (R137)
  deps : List Tlb      -- entries an uncached or maintenance access in flight was translated with (R119)
deriving DecidableEq, Repr

/-- A store that has performed and whose kills are not all done (R120): its line and miss tag. -/
structure StoreDebt where
  line : Nat
  rtag : Option Nat    -- none: kills within the hart's own die (R191)
deriving DecidableEq, Repr

/-- One IMSIC interrupt file (R77): pending and enabled identities 1–255. -/
structure ImsicFile where
  pending : List Nat
  enabled : List Nat
  delivery : Nat     -- eidelivery
  threshold : Nat    -- eithreshold
deriving DecidableEq, Repr

/-- A load reservation (R187): the line and whether the 128-step deferral still runs. -/
structure Reservation where
  line : Nat
  addr : Nat
  size : Nat
  deferring : Bool
deriving DecidableEq, Repr

/-- A hart: its architectural state, its rest, its supply and its private structures. -/
structure Hart where
  released : Bool          -- released at stage 0x0B (R71)
  parked : Bool            -- released, and not begun: waits for its first interrupt (R71)
  offline : Bool           -- taken offline (R109)
  powered : Bool           -- the core is powered (R109 step 4)
  mode : Mode
  pc : Nat
  x : Tab Word             -- x1–x31
  f : Tab Word             -- f0–f31
  v : Tab (BitVec 256)     -- v0–v31, VLEN = 256 (R77)
  csr : Tab Word           -- standard CSRs by number
  lowerSecure : Bool       -- the lower world is secure (R365, R366)
  eid : Nat                -- tworld.EID; 0 outside an enclave
  slot : Nat               -- the enclave slot the hart is in, while eid is not 0 (R381)
  -- vendor CSRs (R92–R98)
  spw : Bool
  wpf : Bool
  restMax : Nat
  mPC : Bool               -- mtlnen.PC
  sPC : Bool               -- stlnen.PC
  hPC : Bool               -- htlnen.PC
  mcoresave : Nat
  grace : Nat
  spareUsed : Bool
  spared : Bool
  retirePend : Bool
  srest : Nat
  vceil : Nat
  vset : Nat
  tj : Nat
  tpace : Nat
  tenergy : Nat            -- µJ since package reset
  bLedger : Bool
  bOverspend : Bool
  bThrottle : Bool
  bHeldSecure : Bool
  bThermal : Bool
  -- rest
  rest : Rest
  wantRest : Rest          -- effective mode of the WFI in force (R100, R102)
  restSince : Nat          -- time its rest began (R105)
  domainUp : Bool          -- the resting domain is awake for snoops only (R103)
  coreTest : Bool          -- a core test runs on it (R105)
  testedAt : Nat           -- time its last test ended
  spareMove : Nat          -- 0 none, 1 triggered (R108 step 1), 2 copied, old core draining (step 3)
  spareAt : Nat            -- time of that trigger
  ckptCurrent : Bool       -- its checkpoint is current (R104)
  -- interrupts
  irqPending : List Nat    -- pending local interrupts (mip bits)
  imsicM : ImsicFile
  imsicS : ImsicFile
  imsicG : Tab ImsicFile   -- guest files 1–7
  -- memory operations
  resv : Option Reservation
  waiting : Option Waiting
  debts : List StoreDebt
  itlb : List Tlb          -- L1 ITLB, 64 entries, newest first (R114)
  dtlb : List Tlb          -- L1 DTLB, 96 entries
  tlb : List Tlb           -- L2 TLB, 256 sets of 12 ways
  wcache : List Tlb        -- walk cache, 64 entries
  gcache : List Tlb        -- G-stage walk cache, 32 entries
  sweeps : List (Nat × Option Nat × Option Nat × Nat × Nat)  -- queued SINVAL sweeps: kind, address, ASID or VMID, EID and VMID at the queueing
  -- debug (R386–R388)
  halted : Bool
  haltReq : Bool
  haltMode : Mode
  dscratch : Word
  -- attribution and sampling (R433, R475–R477)
  htenant : Nat
  tevBank : Bool           -- tevsel.BANK (R472)
  tevEvent : Nat           -- tevsel.EVENT
  hsJitter : Nat           -- hsmpctl fields (R477)
  hsPeriod : Nat
  hsStop : Nat
  hsIrq : Bool
  hsWrap : Bool
  hsEn : Bool
  hsBase : Nat             -- hsmpbuf.BASE, a byte address
  hsSize : Nat
  hsPos : Nat              -- hsmppos.INDEX
  hsCount : Nat            -- micro-operations left until the next tag (R475)
  hsTagged : Bool          -- a tagged micro-operation is in flight
deriving DecidableEq, Repr

/-- An interrupt file with nothing pending or enabled. -/
def imsicInit : ImsicFile := { pending := [], enabled := [], delivery := 0, threshold := 0 }

/-- A hart as package reset leaves it: not yet released, every register at the reset value of R92–R98,
standard registers 0 (log entry: the RISC-V privileged specification gives the rest). -/
def hartInit : Hart :=
  { released := false, parked := false, offline := false, powered := true, mode := .m, pc := 0, x := [], f := [], v := [], csr := [],
    lowerSecure := false, eid := 0, slot := 0, spw := true, wpf := true, restMax := 2, mPC := false, sPC := false,
    hPC := false, mcoresave := 0, grace := 0, spareUsed := true, spared := false, retirePend := false, srest := 0,
    vceil := 950, vset := 800, tj := 0, tpace := 0, tenergy := 0, bLedger := false, bOverspend := false,
    bThrottle := false, bHeldSecure := false, bThermal := false, rest := .running, wantRest := .running,
    restSince := 0, domainUp := false, coreTest := false, testedAt := 0, spareMove := 0, spareAt := 0, ckptCurrent := false, irqPending := [],
    imsicM := imsicInit, imsicS := imsicInit, imsicG := [], resv := none, waiting := none, debts := [], itlb := [], dtlb := [], tlb := [], wcache := [], gcache := [],
    sweeps := [], halted := false, haltReq := false, haltMode := .m, dscratch := 0, htenant := 0, tevBank := false,
    tevEvent := 0, hsJitter := 0, hsPeriod := 0, hsStop := 0, hsIrq := false, hsWrap := false, hsEn := false,
    hsBase := 0, hsSize := 0, hsPos := 0, hsCount := 0, hsTagged := false }

/-! ### Tenon links, clocks, jig mode and inlay sites (chapter "Tenon Links, Die Identity and Inlay Sites") -/

/-- LINK_STATUS.STATE (R160). -/
inductive LinkSt where
  | untrained | training | up | recovery | fenced | withdrawn | jig | folded
deriving DecidableEq, Repr

/-- One bundle of a link: its transmitter's retry buffer and credits and its receiver's sequence (R142–R144). -/
structure Bundle where
  txSeq : Nat                  -- SEQ of the next new message flit, modulo 4,096
  unacked : List (Nat × FMsg)  -- the retry buffer, oldest first
  queue : List FMsg            -- messages that wait for a credit or retry-buffer room
  used : Tab Nat               -- message flits sent per VC since flit lock
  returned : Tab Nat           -- cumulative credits returned per VC, modulo 65,536
  rxSeq : Nat                  -- next expected SEQ at the receiver
  discarding : Bool            -- the receiver discards until the replay arrives
  ackSeen : Nat                -- last ACK value received for this bundle
  replaySeq : Option Nat       -- SEQ the last replay began with, until an ACK advances
  failedReplays : Nat          -- replays sent in a row from that SEQ
  got : Tab Nat                -- receiver: message flits accepted per VC, modulo 65,536
  taken : Tab Nat              -- receiver: cumulative credits returned per VC, modulo 65,536
deriving DecidableEq, Repr

/-- A tenon link and its mortise port (R146–R160). Sheets are 64-bit registers in the layout of R146. -/
structure Link where
  state : LinkSt
  reason : Nat
  retrains : Nat
  upWidth : Nat
  downWidth : Nat
  upAdopted : Bool
  downAdopted : Bool
  idMismatch : Bool
  tbFallback : Bool
  hubUp : Nat                  -- hub's working sheets
  hubDown : Nat
  dieUp : Nat                  -- die's working sheets
  dieDown : Nat
  upBad : Nat                  -- data lanes the hub knows bad and unrepaired, by lane (R147)
  downBad : Nat
  agreeUp : Nat                -- consecutive frames whose digests agreed (R149)
  agreeDown : Nat
  wakeSent : Bool              -- the hub's wake pattern has not been answered yet (R103)
  replays : Nat                -- LINK_REPLAYS
  recoveries : List Nat        -- times of the recoveries of the last second (R145)
  up : Bundle
  down : Bundle
deriving DecidableEq, Repr

/-- The fuses of one die (R146, R155). -/
structure DieFuses where
  ident : Nat                  -- DIE_IDENT, 64 bits
  binding : Nat                -- 32-bit package binding (R150)
  upSheet : Nat
  downSheet : Nat
  defects : Nat                -- CORE_DEFECT_MAP, 64 bits
deriving DecidableEq, Repr

/-- One inlay site (R161–R170). -/
structure SiteSt where
  uState : Nat                 -- UCIE_STATUS.STATE
  uRate : Nat
  uWidth : Nat
  cause : Nat                  -- CONTAIN_STATUS
  kerfLow : Nat
  violations : Nat
  lastViolation : Nat
  credits : Nat                -- upstream request credits the inlay holds
  tokens : Nat                 -- rate limiter, hundredths of a byte
  tokAt : Nat                  -- time the bucket was last filled
  mmrd : List (Nat × FMsg)     -- outstanding MMRDs: TAG and the hart's uncached read
  nextTag : Nat
  nextOrder : Nat              -- arrival number of the next upstream request (R164)
  done : List (Nat × Nat × List Byte)  -- upstream requests ready to complete: TAG, STATUS, data
deriving DecidableEq, Repr

/-- A die's jig-mode wrapper (R156–R158). -/
structure JigSt where
  inJig : Bool
  port : Nat                   -- port JIG_LOOP selected last
  result : List Nat            -- 70 saturating 16-bit error counts
deriving DecidableEq, Repr

/-- A bundle at flit lock: full credits, sequence 0 (R143, R148 step 7). -/
def bundleInit : Bundle :=
  { txSeq := 0, unacked := [], queue := [], used := [], returned := [], rxSeq := 0, discarding := false,
    ackSeen := 0, replaySeq := none, failedReplays := 0, got := [], taken := [] }

/-- An untrained link (R160 reset values). -/
def linkInit : Link :=
  { state := .untrained, reason := 0, retrains := 0, upWidth := 0, downWidth := 0, upAdopted := false,
    downAdopted := false, idMismatch := false, tbFallback := false, hubUp := 0, hubDown := 0, dieUp := 0, dieDown := 0,
    upBad := 0, downBad := 0, agreeUp := 0, agreeDown := 0, wakeSent := false, replays := 0, recoveries := [], up := bundleInit, down := bundleInit }

/-- A lane sheet with no bad lane: SHEET_VER 1, WIDTH 3, CHECK over it (R146). -/
def sheetClean : Nat := 0x38100C0000000000

/-- The fuses of die `n` as the model takes them before any fuse event: site `n` or 15 for the hub, clean sheets, no defect, no spare. -/
def dieFusesInit : DieFuses := { ident := 0, binding := 0, upSheet := sheetClean, downSheet := sheetClean, defects := 31 * 2 ^ 19 }

/-- An inlay site with nothing trained. -/
def siteInit : SiteSt :=
  { uState := 0, uRate := 0, uWidth := 0, cause := 0, kerfLow := 0, violations := 0, lastViolation := 0, credits := 0,
    tokens := 0, tokAt := 0, mmrd := [], nextTag := 0, nextOrder := 0, done := [] }

/-- A die not in jig mode. -/
def jigInit : JigSt := { inJig := false, port := 0, result := [] }

/-! ### Sessions, transfers, the kerf and bring-up -/

/-- The four access roles (R7, R14). -/
inductive Role where
  | observer | operator | owner | secure
deriving DecidableEq, Repr

/-- An open DOMAIN transfer (R48). -/
structure Transfer where
  write : Bool
  idx : Nat
  sub : Nat
  total : Nat
  data : List Byte       -- bytes received, or the captured copy of a read
  live : Bool            -- a read of an entry above 65,536 bytes
  staged : Bool          -- a read of the staged value
deriving DecidableEq, Repr

/-- The report a closed transfer leaves (R48). -/
inductive Report where
  | timeout | cancelled
deriving DecidableEq, Repr

/-- An SPDM session (R395, R397) with its list-protocol state (R47, R48). -/
structure Session where
  finished : Bool                -- FINISH done; list messages are in session from here
  role : Role
  keyHash : Option (List Byte)   -- SHA-512 of the requester's key, if it authenticated
  keyUpdates : Nat
  transfer : Option Transfer
  report : Option Report
  parked : Option (Nat × Nat)    -- TAG and TARGET of the parked KERF_WAIT
deriving DecidableEq, Repr

/-- What a list command asks of the Cutting List server: one message, by its opcode (R46), or a row of the table that stands for a write or a read of one
entry. -/
inductive ListJob where
  | msg (op : Nat) (m : ListMsg) (p : PartnerObs) (u : UcieObs)
  | write (sess : Option SessN) (tag idx sub size v : Nat) (u : UcieObs)
  | whole (sess : Option SessN) (tag idx sub : Nat) (v : List Byte)
  | report (sess : Option SessN) (tag : Nat)
deriving DecidableEq, Repr

/-- The list server: values, staging, sessions (R29, R30). -/
structure ListSt where
  cur : Tab (Option Val)         -- current values, by index·256 + subindex; none: the default
  stg : Tab (Option Val)         -- staged values
  status : Tab DryStatus         -- dry-fit status entries, by their key
  sessions : Tab (Option Session)
  held : List ListJob            -- list commands that arrived during a kerf sequence, oldest first (R36)
deriving DecidableEq, Repr

/-- The kerf sequencer (R32–R36). -/
structure KerfSt where
  counter : Nat
  overruns : Nat
  seqMax : Nat
  lastSeq : Nat                  -- kerf whose step 7 has completed
  epochUs : Nat                  -- length planned for the epoch in progress
  cutAt : Nat                    -- time of the last cut
  seqEnd : Nat                   -- time step 7 of the last kerf completed
  step1 : Option KerfObs         -- a sequence that has cut and waits in step 1 (R34, R152)
  warmDue : Bool                 -- a warm reset requested meanwhile starts after step 7 (R74)
deriving DecidableEq, Repr

/-- Where bring-up stands (R53–R59). -/
inductive BootPhase where
  | off | inReset | running | failing | held | released
deriving DecidableEq, Repr

/-- Bring-up (R53–R72). -/
structure Boot where
  phase : BootPhase
  warm : Bool                    -- the sequence follows a warm reset (R74)
  done : List Nat                -- stages completed
  running : List Nat             -- stages begun and not completed
  failStage : Nat                -- 0: none
  failReason : Nat
  slotB : Bool
  slotBegun : Bool               -- stage 0x03 has begun (bit 7 of BRINGUP_STAGE counts)
  image : List Byte              -- the image read at stage 0x03
  signerSlot : Nat               -- IMAGE_SIGNER
  pendingCommit : Option Nat     -- floor to reach after release (ROLLBACK_COMMIT)
  flashHighZ : Bool
  resetVector : Nat
  lockedTimeBase : Bool
  fuseBad : Nat                  -- dies (12: the hub) whose fuse load failed
  microcode : Option (List Byte) -- BENCH_MICROCODE section contents that passed R504
deriving DecidableEq, Repr

/-- The fuses of the package (R51, R63, R394). -/
structure Fuses where
  ordering : Nat                 -- 0 216P, 1 204S, 2 216I
  serial : List Byte
  stepping : Nat
  vendorId : Nat
  inlayIdent : Tab (List Byte)   -- by site; empty when unpopulated
  cores : Tab Nat                -- CORES_PRESENT, by die
  die : Tab DieFuses             -- 0–11 compute dies, 12 the hub
  vendorHash : Tab (List Byte)   -- by slot 0–3; empty: not fused
  ownerHash : Tab (List Byte)
  vendorRevoked : List Nat
  ownerRevoked : List Nat
  floor : Nat                    -- blown fuses of the 64-fuse thermometer
  debugOff : Nat                 -- DEBUG_FUSES: enables fused off
  pciIds : Tab Nat
  gaugeSeal : Nat                -- seal counter fuses (R444)
  gaugeRom : Nat                 -- ROM selection
  gaugeRomId : Tab (List Byte)   -- SHA-512 of each mask ROM image
  gaugeCalib : List Byte         -- CALIB_ID
  gaugeCert : List Byte
  gaugePub : List Byte
deriving DecidableEq, Repr

/-- Pins the package reads (R53, "Lands, Supplies and Ratings"). -/
structure Pins where
  pwrGood : Bool
  pkgReset : Bool                -- PKG_RESET_N is low
  vgauge : Bool
  gaugeRst : Bool                -- GAUGE_RST_N is low: the Gauge is held in its own reset
  gaugeVerify : Bool
  segId : Nat                    -- SEG_ID[5:0]
  segRole : Nat                  -- SEG_ROLE[1:0]
  thermtrip : Bool               -- THERMTRIP_N driven low
deriving DecidableEq, Repr

/-- No session state beyond the handshake. -/
def sessInit : Session :=
  { finished := false, role := .observer, keyHash := none, keyUpdates := 0, transfer := none, report := none, parked := none }

/-- Nothing set, staged or open. -/
def listInit : ListSt := { cur := [], stg := [], status := [], sessions := [], held := [] }

/-- No kerf yet. -/
def kerfInit : KerfSt := { counter := 0, overruns := 0, seqMax := 0, lastSeq := 0, epochUs := 1000, cutAt := 0, seqEnd := 0, step1 := none, warmDue := false }

/-- Before the first T0. The flash pins are at high impedance until it: R68 speaks of them from T0 onward only (DESIGN CHOICE, log entry 59). -/
def bootInit : Boot :=
  { phase := .off, warm := false, done := [], running := [], failStage := 0, failReason := 0, slotB := false,
    slotBegun := false, image := [], signerSlot := 0, pendingCommit := none, flashHighZ := true, resetVector := 0,
    lockedTimeBase := false, fuseBad := 0, microcode := none }

/-- The die-identity fuses of the thirteen dies: SITE n, clean lane sheets, no defect, no spare (DESIGN CHOICE, log entry 6). -/
def dieFusesAll : Tab DieFuses :=
  [(1, { dieFusesInit with ident := 1 }), (2, { dieFusesInit with ident := 2 }), (3, { dieFusesInit with ident := 3 }),
   (4, { dieFusesInit with ident := 4 }), (5, { dieFusesInit with ident := 5 }), (6, { dieFusesInit with ident := 6 }),
   (7, { dieFusesInit with ident := 7 }), (8, { dieFusesInit with ident := 8 }), (9, { dieFusesInit with ident := 9 }),
   (10, { dieFusesInit with ident := 10 }), (11, { dieFusesInit with ident := 11 }), (12, { dieFusesInit with ident := 15 })]

/-- The fuse values the model takes where the spec says only "fuse": ordering code 216P, every core present,
no key fused, every debug enable permitted (DESIGN CHOICE, log entry 6). -/
def fusesInit : Fuses :=
  { ordering := 0, serial := [], stepping := 0, vendorId := 0, inlayIdent := [], cores := [], die := dieFusesAll,
    vendorHash := [], ownerHash := [], vendorRevoked := [], ownerRevoked := [], floor := 0, debugOff := 0, pciIds := [],
    gaugeSeal := 0, gaugeRom := 0, gaugeRomId := [], gaugeCalib := [], gaugeCert := [], gaugePub := [] }

/-- Pins before power is good. -/
def pinsInit : Pins :=
  { pwrGood := false, pkgReset := true, vgauge := false, gaugeRst := false, gaugeVerify := false, segId := 0, segRole := 0, thermtrip := false }

/-! ### Coherence, fabric capacity and die loss -/

/-- MOESI states (R172). -/
inductive Moesi where
  | mm | oo | ee | ss | ii
deriving DecidableEq, Repr

/-- A line held on a compute die: its die-level state (R184), its data, and where on the die it is: the snoop-filter entry (R174), the
L3's copy and the L1 copies (R171). The state of each core's L2 and of the L3 follows from them (`coreState`, `l3State`). -/
structure DLine where
  st : Moesi
  data : Line
  poison : Bool
  cores : Nat       -- 18-bit core presence vector
  owner : Nat       -- core-level owner: a core, or 18 for the L3
  walked : Nat      -- 18-bit walked marks (R117)
  l3 : Bool         -- the L3 holds the line
  l1i : Nat         -- cores whose L1I holds it
  l1d : Nat         -- cores whose L1D holds it
deriving DecidableEq, Repr

/-- An entry of the die's 96-entry write-back buffer (R195). -/
structure WbEnt where
  line : Nat
  data : Line
  poison : Bool
  dirty : Bool
  st : Moesi        -- the state the line had when it was evicted
  acked : Nat       -- 0 not acknowledged, 1 WB_ACK, 2 WB_XACK
deriving DecidableEq, Repr

/-- A request a die has sent and not yet seen completed: its miss tag. -/
structure Miss where
  rtag : Nat
  op : Op
  line : Nat
  core : Nat
  kind : Nat        -- 0 data access, 1 instruction fetch, 2 walk, 3 maintenance, 4 zero, 5 uncached
  gotData : Bool
  gotCmp : Bool
  needCmp : Bool
  kdone : Bool      -- its KDONE has arrived before its data or completion
  queued : List FMsg  -- forwards and snoops behind the fill (R183)
deriving DecidableEq, Repr

/-- DIE_STATE.PHASE (R220) but for 1, which a staged value shows, and 2, which lasts only within the swap that withdraws the die. -/
inductive DiePhase where
  | inService | draining | withdrawn | fenced | sweeping | readmitting
deriving DecidableEq, Repr

/-- A compute die: its caches, its requests and its place in the machine. -/
structure Die where
  phase : DiePhase
  cause : Nat
  inc : Nat              -- incarnation (R208)
  retired : Bool         -- the incarnation is retired
  fences : Nat
  poisoned : Nat
  lateDrops : Nat
  fenceTime : Nat
  withdrawReset : Bool   -- DIE_WITHDRAW 2: reset after the drain
  fromWithdraw : Bool    -- the readmission resumes parked harts
  linkUpSinceReadmit : Bool
  cache : Tab (Option DLine)  -- by line address
  wb : List WbEnt
  misses : List Miss
  nextTag : Nat
  deferred : List FMsg   -- forwards and snoops held back by an LR reservation (R187)
  owed : List (Nat × Nat)  -- KILL_DONEs not yet reported: TXID of the snoop, line (R119, R190)
  snoopBusy : Bool       -- woken only for snoops (R103)
  spareTest : Bool       -- a test runs on the die's spare core (R105)
  spareTestedAt : Nat    -- time the spare's last test ended
  dirtyOrder : List Nat  -- dirty mirrored lines, oldest first (R410)
deriving DecidableEq, Repr

/-- DSTATE (R173). -/
inductive DState where
  | i | s | x | o | h
  | bad              -- a code of 5–7
deriving DecidableEq, Repr

/-- A directory entry (R176); the tag is the table key. -/
structure DirEnt where
  st : DState
  owner : Nat
  pres : Nat        -- 12 bits
  bpres : Nat       -- 4 bits
  way : Nat
deriving DecidableEq, Repr

/-- The request a tracker entry or an ingress queue entry holds. -/
inductive Req where
  | die (m : FMsg)
  | agent (who : AgentId) (op : AgentOp)
deriving DecidableEq, Repr

/-- A hub tracker entry (R200). -/
structure Trk where
  txid : Nat
  holder : Nat          -- 0–11 dies, 12–15 benches, 16–17 inlay sites, 18 devices and the hub
  pool : Bool
  line : Nat
  req : Req
  started : Bool
  acted : Bool          -- the directory action has been taken
  counted : Bool        -- the line counts against its set (R205)
  acks : List Nat       -- dies that owe an answer
  kills : List Nat      -- dies that owe KILL_DONE
  hadKills : Bool
  fwdTo : Option Nat
  routed : Bool         -- the forwarded owner's data has been routed to the requester (R179)
  needCmp : Bool        -- a CMP follows the data (R184)
  granted : Bool        -- the requester has its CMP or data
  reading : Bool        -- waits for a DRAM or CXL read
  data : Option Line
  poison : Bool
  dirty : Bool
  victims : List Nat    -- dies that owe the answer to a BINV of the victim
  victim : Option Nat   -- the victim line being evicted
  way : Option Nat      -- the way its directory entry will take
  order : Nat           -- arrival number of an inlay site's request (R164)
  exclusive : Bool      -- later requests for the line wait
  late : Bool           -- a later request took the line while its forward was in flight
  noted : Bool          -- its wait for walk protection or for the read queue has been counted
deriving DecidableEq, Repr

/-- One home slice: directory slice, tracker slice and queues. -/
structure SliceSt where
  dir : Tab (Option DirEnt)   -- by line address
  plru : Tab Nat              -- pseudo-LRU fields by set
  trk : List Trk              -- in order of arrival
  ingress : List (Nat × Nat × Req × Nat)  -- requests without an entry, oldest first: holder, line, request, arrival number of a site's
  setWait : List Nat          -- txids that wait for a set's retry credit, oldest first
  protect : List (Nat × Nat)  -- walk-protect table: line, walking die, oldest first (R192)
  hLine : List (Nat × Line × Bool)  -- lines the hub atomic unit holds in H: line, data, poison
  swept : List Nat            -- fenced dies whose sweep this slice has finished
deriving DecidableEq, Repr

/-- A die in service with empty caches and incarnation 1 (R208, R71). -/
def dieInit : Die :=
  { phase := .inService, cause := 0, inc := 1, retired := false, fences := 0, poisoned := 0, lateDrops := 0,
    fenceTime := 0, withdrawReset := false, fromWithdraw := false, linkUpSinceReadmit := false, cache := [], wb := [],
    misses := [], nextTag := 0, deferred := [], owed := [], snoopBusy := false, spareTest := false, spareTestedAt := 0, dirtyOrder := [] }

/-- An empty home slice (R71). -/
def sliceInit : SliceSt :=
  { dir := [], plru := [], trk := [], ingress := [], setWait := [], protect := [], hLine := [], swept := [] }

/-! ### Memory-side cache and DDR5 channels -/

/-- A line held by the MSC array (R223), by slice and index. -/
structure MscLine where
  line : Nat      -- line address
  data : Line
  dirty : Bool
  poison : Bool
deriving DecidableEq, Repr

/-- An MSC slice's control state (R226–R236). -/
structure MscSt where
  state : Nat     -- 0 disabled, 1 enabled, 2 flushing
  stale : Bool
  maint : Bool
  evb : List (Nat × Line × Bool)  -- eviction buffer, oldest first: line, data, poison
deriving DecidableEq, Repr

/-- The maintenance command in progress (R233–R235). -/
structure MaintSt where
  busy : Bool
  done : Bool
  written : Nat
  op : Nat
  scopeAll : Bool
  slices : Nat
  base : Nat
  limit : Nat
  fromDisabled : Nat   -- slices whose STATE read 0 at the start (R232)
deriving DecidableEq, Repr

/-- A queued DRAM read: the waiting tracker entry, the line and its arrival time. -/
structure RdEnt where
  slice : Nat
  txid : Nat
  line : Nat
  at_ : Nat
deriving DecidableEq, Repr

/-- A queued DRAM write. -/
structure WrEnt where
  line : Nat
  data : Line
  poison : Bool
  at_ : Nat
deriving DecidableEq, Repr

/-- A subchannel (R245, R246). -/
structure SubSt where
  rq : List RdEnt
  wq : List WrEnt
  draining : Bool          -- rule 1 of R246 is in force
  openRow : Tab (Option (Nat × Nat))  -- by rank and bank: open row, time of last access
  lastPause : Nat          -- package ranks served in the running round
deriving DecidableEq, Repr

/-- What the DIMM sideband shows of a channel (R239, R240). -/
structure DimmObs where
  answers : Bool           -- every socket the channel uses answers
  dpc : Nat                -- DIMMs, 0–2
  supported : Bool         -- type and organisation within R239
  org : Nat                -- organisation: row of the table of R239, 0–6
  capLog2 : Nat            -- log2 of the channel's capacity
  ranks : Nat              -- logical ranks of the channel
  pranks : Nat             -- package ranks of the channel
  spd : List (List Nat)    -- per speed code 1–7: the SPD minimum of the 14 tCK fields of R255 (TCL … TRFC2)
deriving DecidableEq, Repr

/-- A DDR5 channel (R239–R266). -/
structure ChanSt where
  state : Nat              -- 0 disabled, 1 training, 2 trained, 3 failed
  dimm : DimmObs
  slot : Nat               -- slot in use
  speed : Nat              -- speed code of that slot
  trainedSlots : List Nat
  temp : Nat
  hot : Bool               -- hottest DIMM above 85 °C: halved refresh interval
  throttle : Bool
  selfRefresh : Bool
  switching : Bool
  swapSlot : Nat           -- slot being switched to
  zeroDone : Bool
  zeroNext : Nat           -- next granule the engine zeroes
  granules : Tab Bool      -- zeroed granules
  mapOff : Bool            -- after a warm reset every granule counts as zeroed
  owed : Tab Nat           -- refreshes owed, by rank
  powerDown : List Nat     -- ranks in precharge power-down
  pauseDue : Nat           -- retraining owed: 0 none, 1 a pause or round, 2 a forced round (R254, R264)
  lastRound : Nat          -- time the last retraining round ended
  trainedMasks : List Nat  -- masks and enables in force at training (R74)
deriving DecidableEq, Repr

/-- A disabled, empty MSC slice. -/
def mscInit : MscSt := { state := 0, stale := false, maint := false, evb := [] }

/-- No maintenance command given. -/
def maintInit : MaintSt :=
  { busy := false, done := false, written := 0, op := 0, scopeAll := false, slices := 0, base := 0, limit := 0, fromDisabled := 0 }

/-- An idle subchannel. -/
def subInit : SubSt := { rq := [], wq := [], draining := false, openRow := [], lastPause := 0 }

/-- No DIMM seen. -/
def dimmInit : DimmObs :=
  { answers := false, dpc := 0, supported := false, org := 0, capLog2 := 0, ranks := 0, pranks := 0, spd := [] }

/-- A disabled channel (R266 reset values). -/
def chanInit : ChanSt :=
  { state := 0, dimm := dimmInit, slot := 0, speed := 0, trainedSlots := [], temp := 0, hot := false, throttle := false,
    selfRefresh := false, switching := false, swapSlot := 0, zeroDone := false, zeroNext := 0, granules := [], mapOff := false,
    owed := [], powerDown := [], pauseDue := 0, lastRound := 0, trainedMasks := [] }

/-! ### The benches (chapters "Cryptographic Benches", "The Feed", "Bench Instances and Migration") -/

/-- A ring pair of a function (R280–R286). -/
structure Ring where
  sqBase : Nat
  cqBase : Nat
  holdoff : Nat
  cqLog2 : Nat
  sqLog2 : Nat
  enable : Bool        -- ENABLE as it reads
  stopping : Bool      -- ENABLE 0 has been written; the ring's work is not done
  sqTail : Nat
  sqHead : Nat
  cqHead : Nat
  cqTail : Nat
  phase : Bool         -- PHASE of the next record
  cause : Nat
  dropped : Nat
  lastMsi : Option Nat
  msiDue : Bool
deriving DecidableEq, Repr

/-- A Feed channel (R306–R308). -/
structure FeedChan where
  mem : Nat
  off : Nat
  count : Nat
  wrap : Nat
  dir : Nat
  pos : Nat
  state : Nat
  cause : Nat
  prefetching : Bool
deriving DecidableEq, Repr

/-- An entry of the function table, with what the bench keeps of the function (R321–R324). -/
structure Fn where
  weight : Nat
  cap : Nat
  bindIdReq : Nat
  bindClassReq : Nat
  rings : Nat
  quiesce : Nat
  log : Bool
  bindId : Nat
  bindClass : Nat
  bindPending : Bool
  overflow : Bool
  revoked : Bool
  flrHeld : Bool
  qstate : Nat
  ioatp : Nat
  dlogBase : Nat
  dlogIova : Nat
  dlogPages : Nat
  abandoned : Nat
  tenant : Nat         -- FT_TENANT (R434)
  d3 : Bool
  nextRing : Nat       -- whose turn it is (R339)
  msix : Tab Word      -- MSI-X table, by 8-byte word (R318, R319)
deriving DecidableEq, Repr

/-- A key record (R273–R277). The owner is a class (0 instance, 1 normal, 2 secure, 3 enclave) and its number. -/
structure KeyRec where
  gen : Nat
  typ : Nat
  exportable : Bool
  bits : Nat
  usage : Nat
  rsaE : Nat
  label : List Byte
  ownClass : Nat
  ownId : Nat
  key : List Byte
deriving DecidableEq, Repr

/-- How an operation has ended before its outputs and record are written. -/
structure JobRes where
  status : Nat
  detail : Nat
  out : List Byte
  engine : Nat         -- ENGINE of the record: class and number
deriving DecidableEq, Repr

/-- A descriptor in flight (R284). -/
structure Job where
  id : Nat
  fn : Nat
  ring : Nat
  slot : Nat
  bytes : List Byte    -- the 128 bytes
  started : Bool
  admitted : Bool
  deferred : Bool
  waited : Nat         -- kerfs waited for admission
  startAt : Nat        -- when its engine began
  base : Nat           -- its cost in nJ before the bench's scale (R351)
  keys : List Nat      -- record indexes loaded
  res : Option JobRes
deriving DecidableEq, Repr

/-- A BTU TLB entry (R327). -/
structure BtuEnt where
  fn : Nat
  va : Nat             -- first address covered
  size : Nat           -- log2 of the bytes covered
  pa : Nat
  r : Bool
  w : Bool
  dirtySet : Bool
deriving DecidableEq, Repr

/-- A bench. -/
structure BenchSt where
  state : Nat              -- BENCH_STATE.STATE
  keyed : Bool             -- holds a key-store key
  ksKey : List Byte        -- the key-store key
  rings : Tab Ring         -- by function·16 + ring
  fns : Tab Fn             -- by function number
  chans : Tab FeedChan
  chanOwner : Tab Nat      -- FCH_OWNER
  granOwner : Tab Nat      -- SPAD_OWNER; 0 the PF, 0xFFFF none
  zeroing : List Nat       -- granules being zeroed
  retained : List Nat      -- banks in retention
  jobs : List Job          -- in flight; the deferred in the order they became ready
  nextId : Nat
  rrFn : Nat               -- deficit round robin: function at turn and its fetches left
  rrLeft : Nat
  keys : Tab (Option KeyRec)
  gens : Tab Nat           -- generation of the last record at an index
  lostGen : Tab Nat        -- generations up to which the last zeroisation lost the record
  window : List Nat        -- records in the key window, newest first
  desc : List (Nat × Line) -- descriptor cache: line, data, newest first, 256 lines (R171)
  btu : List BtuEnt        -- newest first
  inval : Nat              -- BTU_INVAL
  invalIova : Nat
  invalBusy : Bool
  invalDone : Bool
  qdone : Nat              -- PF_QDONE, one bit per function
  ops : Nat                -- OPS_COMPLETED
  zeroises : Nat
  version : Nat            -- MICROCODE_VERSION
  newVersion : Option Nat  -- update in progress: the version it loads (R338)
  feedStops : Nat
  feedUnits : Nat
  wakes : Nat
  vfs : Nat                -- VFs enabled
  flrRevokes : Nat
  abandonedTotal : Nat
  supply : Bool            -- the bench supply stands
deriving DecidableEq, Repr

/-- A ring at reset. -/
def ringInit : Ring :=
  { sqBase := 0, cqBase := 0, holdoff := 0, cqLog2 := 0, sqLog2 := 0, enable := false, stopping := false, sqTail := 0, sqHead := 0,
    cqHead := 0, cqTail := 0, phase := true, cause := 0, dropped := 0, lastMsi := none, msiDue := false }

/-- A Feed channel at reset. -/
def feedInit : FeedChan :=
  { mem := 0, off := 0, count := 0, wrap := 0, dir := 0, pos := 0, state := 0, cause := 0, prefetching := false }

/-- A function at reset (R322, R323). -/
def fnInit : Fn :=
  { weight := 16, cap := 4096, bindIdReq := 0, bindClassReq := 0, rings := 16, quiesce := 0, log := false, bindId := 0, bindClass := 0,
    bindPending := false, overflow := false, revoked := false, flrHeld := false, qstate := 0, ioatp := 0, dlogBase := 0, dlogIova := 0,
    dlogPages := 0, abandoned := 0, tenant := 0, d3 := false, nextRing := 0, msix := [] }

/-- A bench at package reset: disabled, everything owned by the PF (R301, R306). -/
def benchInit : BenchSt :=
  { state := 0, keyed := false, ksKey := [], rings := [], fns := [], chans := [], chanOwner := [], granOwner := [], zeroing := [],
    retained := [], jobs := [], nextId := 0, rrFn := 0, rrLeft := 0, keys := [], gens := [], lostGen := [], window := [], desc := [], btu := [], inval := 0,
    invalIova := 0, invalBusy := false, invalDone := false, qdone := 0, ops := 0, zeroises := 0, version := 0, newVersion := none,
    feedStops := 0, feedUnits := 0, wakes := 0, vfs := 0, flrRevokes := 0, abandonedTotal := 0, supply := true }

/-! ### The energy ledger (chapter "The Energy Ledger") -/

/-- An account (R342): energies in nanojoules but for the grant and OVERRUN, which are whole microjoules. -/
structure Acct where
  grant : Nat
  spend : Nat          -- in the current epoch
  closed : Nat         -- in the epoch that the last cut closed
  total : Nat
  overrun : Nat
  thermalCap : Bool
  sensorFail : Bool
  inactive : Bool
  isOver : Bool
  low : Bool
  throttled : Bool
  deferring : Bool
  refusing : Bool
  draw : Bool
  vset : Nat           -- setpoint in force, mV; cores and benches
  plan : Nat           -- setpoint that step 4 planned
  hist : Bool          -- the last epoch counts as history (R349)
  allow : Nat          -- bench: admission allowance left
  drawn : Nat          -- bench: assured reserve drawn
  doneCost : Nat       -- bench: cost of the descriptors completed in this epoch
  admCost : Nat        -- bench: cost admitted in this epoch
  scaleN : Nat         -- bench: scale as a fraction
  scaleD : Nat
deriving DecidableEq, Repr

/-- The ledger (R342–R364). -/
structure LedgerSt where
  accts : Tab Acct
  epoch : Nat          -- e_epoch, µJ
  reserve : Nat        -- assured reserve left, nJ
  meanMw : Nat         -- PKG_POWER_MW
  throttles : Nat
  tjHot : Nat
  addW : Nat
  carryFlag : Bool
  carry : Nat          -- µJ
  short : Bool
  throttle : Bool      -- the hard-limit throttle acts
  hot : Bool           -- the thermal throttle acts (R497)
  sums : List Nat      -- the last sums of 1 µs, nJ, newest first
  calm : Nat           -- consecutive sums within 0.95 of the limit
  lastT : Nat          -- length of the last closed epoch, µs
deriving DecidableEq, Repr

/-- An account before epoch 0. -/
def acctInit : Acct :=
  { grant := 0, spend := 0, closed := 0, total := 0, overrun := 0, thermalCap := false, sensorFail := false, inactive := false, isOver := false, low := false,
    throttled := false, deferring := false, refusing := false, draw := false, vset := 0, plan := 0, hist := false, allow := 0, drawn := 0,
    doneCost := 0, admCost := 0, scaleN := 1, scaleD := 1 }

/-- The ledger before epoch 0. -/
def ledgerInit : LedgerSt :=
  { accts := [], epoch := 0, reserve := 0, meanMw := 0, throttles := 0, tjHot := 0, addW := 0, carryFlag := false, carry := 0, short := false,
    throttle := false, hot := false, sums := [], calm := 0, lastT := 1000 }

/-! ### The Page Owner Table and enclaves (chapter "Worlds, Enclaves and Identity") -/

/-- Where the POT lies and what it covers (R368). The table itself is in memory. -/
structure PotSt where
  base : Nat
  size : Nat
  cover : Nat
  ready : Bool       -- initialised, POT cache included (R70)
deriving DecidableEq, Repr

/-- No POT yet. -/
def potInit : PotSt := { base := 0, size := 0, cover := 0, ready := false }

/-- The lower-mode state of a hart (R366), with its resume address and mode. -/
structure Lower where
  pc : Nat
  mode : Mode
  x : Tab Word
  f : Tab Word
  v : Tab (BitVec 256)
  csr : Tab Word          -- U-, S-, HS- and VS-level CSRs, mepc and the lower-mode fields of mstatus
  srest : Nat
  vceil : Nat
  sPC : Bool
  hPC : Bool
deriving DecidableEq, Repr

/-- A slot of an enclave in use (R381, R382). -/
structure Slot where
  hart : Nat
  interrupted : Bool
  caller : Lower          -- its pc is the EENTER's address
  inner : Lower           -- the enclave's state, while interrupted
deriving DecidableEq, Repr

/-- An enclave (R377–R385). The contents of its hub-private control region are given by no rule; the model
keeps the record and the slots here (log entry 13). -/
structure Enclave where
  state : Nat             -- 0 FREE, 1 BUILDING, 2 READY, 3 BROKEN, 4 DEAD
  attr : Nat              -- ARG2 of ECREATE (R378)
  entry : Nat
  ctrl : Nat              -- control region
  roots : List Nat        -- ROOT pages held, oldest first
  report : Option Nat     -- REPORT page
  input : List Byte       -- records hashed so far (R380)
  meas : List Byte        -- measurement, once fixed
  pages : Nat
  slots : Tab (Option Slot)
deriving DecidableEq, Repr

/-- A FREE EID. -/
def enclaveInit : Enclave :=
  { state := 0, attr := 0, entry := 0, ctrl := 0, roots := [], report := none, input := [], meas := [], pages := 0, slots := [] }

/-- A hart's command slot at the hub (R372). -/
structure CmdSlot where
  a0 : Nat
  a1 : Nat
  a2 : Nat
  a3 : Nat
  cmd : Nat          -- the command that runs while BUSY reads 1
  busy : Bool
  code : Nat
  result : Nat
  latched : List Nat -- ARG0–ARG3 of a command that waits for inlay requests (R376)
deriving DecidableEq, Repr

/-- An idle command slot. -/
def cmdSlotInit : CmdSlot := { a0 := 0, a1 := 0, a2 := 0, a3 := 0, cmd := 0, busy := false, code := 0, result := 0, latched := [] }

/-- An entry of the IOMMU's address translation cache (R139), for one 4 KiB page. -/
structure IoEnt where
  gscid : Option Nat
  pscid : Option Nat
  page : Nat         -- of the device's address
  gpage : Nat        -- of the guest physical address
  pa : Nat           -- first physical address
deriving DecidableEq, Repr

/-! ### The mirrored pair (chapter "Mirrored Pair and Recovery") -/

/-- A write held in the output clamp (R417). -/
structure Held where
  oseq : Nat
  rp : Nat
  kind : Nat         -- 0 memory, 1 I/O, 2 configuration, 3 MSI
  addr : Nat
  data : List Byte
  kerf : Nat         -- kerf that opened the epoch it was produced in
deriving DecidableEq, Repr

/-- A takeover register of the segment master (R421, R429, R457). -/
structure Takeover where
  state : Nat        -- 0 OPEN, 1 granted to the PRIMARY, 2 granted to the STANDBY
  winner : Nat
  bound : List (Nat × List Byte)   -- binding: nodes and key hashes (R457)
  openSince : Nat
  primaryAsked : Bool
  standbyAsked : Option Nat
  lastNonce : List Byte
deriving DecidableEq, Repr

/-- The mirror's state on one package. Phases and roles are numbered as MIRROR_STATE numbers them (R429). -/
structure MirrorSt where
  role : Nat
  phase : Nat
  partnerNode : Nat
  copied : Nat
  w0 : Nat           -- D0_WIDTH
  w1 : Nat
  lastCommit : Nat
  clampStalls : Nat
  failovers : Nat
  sealNaks : Nat
  clamp : List Held
  nextOseq : Nat
  released : Nat     -- OSEQ below which every output has been released
  stalled : List (Held × Option FMsg)  -- writes that wait for room, and the hart's request to answer (R418)
  waitReads : List (Nat × Nat × FMsg)  -- NCRDs behind held writes: root port, OSEQ, request (R418)
  lineLog : Tab (List (List Byte))     -- PRIMARY: LINE records of the open epoch, by slice
  outLog : List (List Byte)            -- PRIMARY: OUTPUT and ENTRY records of the open epoch
  unacked : List Nat                   -- kerfs of seals not yet acknowledged
  copyNext : Nat                       -- formation: next line of the set to copy
  copyDone : Bool                      -- the last COPY record has been sent
  firstSeal : Option Nat               -- kerf of the formation seal
  pendSeal : Option (List Byte)        -- STANDBY: a seal some of whose records have not arrived
  pendOff : List Nat                   -- STANDBY: the harts that seal takes offline (R110)
  committedOut : List Held             -- STANDBY: committed outputs the PRIMARY has not reported released
  log : List (Nat × List Byte)         -- STANDBY: uncommitted records, (slice or 16) and bytes, arrival order
  pairedVals : List (Nat × Nat × List Byte)  -- STANDBY: committed paired values awaiting the swap
  entrySegs : List (Nat × Nat × List Byte)   -- STANDBY: segments of paired values received
  pRole : Nat        -- the partner as its HEARTBEATs report it
  pPhase : Nat
  pKerf : Nat
  pLastAck : Nat
  pReleased : Nat
  lastHeard : Nat
  suspectAt : Nat
  lossCause : Nat    -- of the LOSS sent when this package stopped
  keys : Tab (List Byte)   -- STANDBY: partner's key-store keys by bench
  keyGen : Tab Nat
  nonce : List Byte  -- of the open takeover request
  setPrivate : Bool  -- STANDBY: the set and log are hub-private
  lost : List Nat    -- lines the STANDBY asked to be repaired
  kerfTime : Nat     -- time of the PRIMARY's last KERF record
deriving DecidableEq, Repr

/-- No pair (R429 reset values). -/
def mirrorInit : MirrorSt :=
  { role := 0, phase := 0, partnerNode := 0, copied := 0, w0 := 0, w1 := 0, lastCommit := 0, clampStalls := 0,
    failovers := 0, sealNaks := 0, clamp := [], nextOseq := 0, released := 0, stalled := [], waitReads := [], lineLog := [], outLog := [],
    unacked := [], copyNext := 0, copyDone := false, firstSeal := none, pendSeal := none, pendOff := [], committedOut := [], log := [], pairedVals := [], entrySegs := [],
    pRole := 0, pPhase := 0, pKerf := 0, pLastAck := 0, pReleased := 0, lastHeard := 0, suspectAt := 0, lossCause := 0,
    keys := [], keyGen := [], nonce := [], setPrivate := false, lost := [], kerfTime := 0 }

/-- An OPEN register bound to nobody. -/
def takeoverInit : Takeover :=
  { state := 0, winner := 0, bound := [], openSince := 0, primaryAsked := false, standbyAsked := none, lastNonce := [] }


/-! ### The Gauge (chapter "The Gauge") -/

/-- What the open interval has for one tag (R442): µJ, hart slots, operation counts by bench·8 + class, bytes by bench. -/
structure Tenant where
  core : Nat
  bench : Nat
  slots : Nat
  ops : Tab Nat
  bytes : Tab Nat
deriving DecidableEq, Repr

/-- Nothing yet for a tag. -/
def tenantInit : Tenant := { core := 0, bench := 0, slots := 0, ops := [], bytes := [] }

/-- The Gauge (R431–R449). Domains: 0–11 dies, 12–15 benches, 16 memory, 17 I/O, 18 hub, 19–20 inlay sites, 21–24 unattributed of a
bench, 25 the reference load. -/
structure GaugeSt where
  runId : Nat
  seq : Nat                    -- number of the next record
  signed : Nat                 -- records of the run signed so far
  ring : Tab (List Byte)       -- by slot
  closing : List (List Byte)   -- closed and not yet signed: bytes 0x000–0x1BF
  gap : Bool
  verifyOn : Bool
  boots : Nat                  -- BOOT_COUNT
  openKind : Nat               -- 0 no interval open, 1 an interval, 3 the bring-up record
  kerfFirst : Nat
  lost : Bool                  -- VGAUGE was lost while 0x2040:01 read 1: settled at the next kerf (R450)
  timeStart : Nat
  verifySeen : Bool            -- the reference load was on in the open interval
  holdSeen : Bool              -- the time base was in holdover in the open interval
  enabled : Bool               -- as sampled at the last kerf
  interval : Nat               -- ms applied
  period : Nat                 -- kerf period sampled, µs
  dom : Tab Nat                -- µJ by domain
  tenants : Tab Tenant         -- by tag
  hartTag : Tab Nat            -- tags sampled at the start of the slot
  samples : Tab Nat            -- 1 µs samples of the slot, by bench·4096 + tag
deriving DecidableEq, Repr

/-- The Gauge with no run. -/
def gaugeInit : GaugeSt :=
  { runId := 0, seq := 0, signed := 0, ring := [], closing := [], gap := false, verifyOn := false, boots := 0, openKind := 0, kerfFirst := 0, lost := false,
    timeStart := 0, verifySeen := false, holdSeen := false, enabled := false, interval := 1000, period := 1000, dom := [], tenants := [],
    hartTag := [], samples := [] }


/-! ### The management segment and KERF_SYNC (chapter "Management Segment and Host Links") -/

/-- What the package knows of a segment node (R455, R457). -/
structure SegNode where
  announce : Announce
  heard : Nat            -- time of its last ANNOUNCE
  chain : ChainObs
deriving DecidableEq, Repr

/-- The segment port (R451–R461, R467). -/
structure SegSt where
  state : Nat            -- SEG_STATE.STATE
  reason : Nat           -- SEG_STATE.REASON
  drops : Nat
  nodes : Tab (Option SegNode)
  seq : Nat              -- ANNOUNCE_SEQ of this node as master
  lastSeqs : List Nat    -- its last three values, newest first
  beaconHeard : Bool     -- since stage 0x02
  lastBeacon : Nat
  csma : Bool            -- no BEACON is heard: CSMA/CD (R451)
  plcaId : Nat
  masterSeq : Nat        -- latest ANNOUNCE_SEQ heard from a master
  grants : List Nat      -- GRANTS copied by a backup
  conflictAt : Option Nat  -- time an ANNOUNCE last carried this node's ID with another serial
  routes : List (Nat × Nat × Nat)  -- EIDs seen as source: EID, binding (16: I3C), time
  dynAddr : Option Nat   -- I3C dynamic address
  reqSeq : Option Nat    -- SEQ_ECHO of the takeover request last sent
  queue : List (Option Nat × SegKind × List Byte)  -- frames that wait for a transmit opportunity, oldest first: destination, kind, body (R458)
deriving DecidableEq, Repr

/-- The port before stage 0x02. -/
def segInit : SegSt :=
  { state := 0, reason := 0, drops := 0, nodes := [], seq := 0, lastSeqs := [], beaconHeard := false, lastBeacon := 0, csma := true, plcaId := 0,
    masterSeq := 0, grants := [], conflictAt := none, routes := [], dynAddr := none, reqSeq := none, queue := [] }

/-- KERF_SYNC of a follower (R463, R467); times in ns. -/
structure SyncSt where
  misses : Nat
  reason : Nat
  holdover : Bool
  locked : Bool
  lastEdge : Option Nat
  mLast : Option Nat
  mPrev : Option Nat
  diff : Int             -- 0x2010:02
  level : Bool           -- KERF_SYNC_OUT
deriving DecidableEq, Repr

/-- No edge yet. -/
def syncInit : SyncSt :=
  { misses := 0, reason := 0, holdover := false, locked := false, lastEdge := none, mLast := none, mPrev := none, diff := 0, level := false }

/-! ### Counters, sampling and error records -/

/-- A machine-check record (R481). -/
structure McRec where
  severity : Nat
  source : Nat
  unit : Nat
  code : Nat
  paddr : Nat
  kerf : Nat
  time : Nat
  detail0 : Nat
  detail1 : Nat
  count : Nat
  flags : Nat
  hart : Nat
  seq : Nat
deriving DecidableEq, Repr

/-- Observation state (R468–R486). Counter keys: bank index · 2^20 + unit · 2^8 + slot; bit 63 of a value is OVF. -/
structure ObsSt where
  ctr : Tab Nat
  snap : Tab Nat
  snapKerf : Nat
  mc : Tab (List McRec)        -- by bank index · 2^8 + unit, oldest first
  mcOvf : Tab Bool             -- the bank has overwritten since its last record
  mcSeq : Nat
  ce : Tab Nat                 -- corrected errors in this window: source · 2^16 + unit
  ceActed : Tab Bool           -- the unit has crossed in this window
  ceFailover : Bool            -- a crossing awaits the first SEAL_ACK (R483)
  windowStart : Nat
  enclBroken : Nat             -- ENCLAVES_BROKEN (R385)
deriving DecidableEq, Repr

/-- Every counter and bank clear (R468, R481: at release). -/
def obsInit : ObsSt :=
  { ctr := [], snap := [], snapKerf := 0, mc := [], mcOvf := [], mcSeq := 0, ce := [], ceActed := [],
    ceFailover := false, windowStart := 0, enclBroken := 0 }

/-! ### The machine -/

/-- Everything the package holds but the queue of waiting commands. -/
structure Dev where
  /-- everything that has left the package, oldest first -/
  out : List Out
  /-- the model's own counter of free values drawn; no register of the spec -/
  freeCtr : Nat
  /-- the package time counter, in ticks of 10 ns (R79) -/
  now : Nat
  /-- the pins the package reads and drives -/
  pins : Pins
  /-- the fuses -/
  fuses : Fuses
  /-- bring-up -/
  boot : Boot
  /-- the Cutting List server -/
  list : ListSt
  /-- the kerf sequencer -/
  kerf : KerfSt
  /-- the harts, by hart number; a hart not listed is as package reset leaves it -/
  harts : Tab Hart
  /-- the tenon links, by die -/
  links : Tab Link
  /-- the dies' jig wrappers, by die (12: the hub) -/
  jig : Tab JigSt
  /-- the hub time base is in holdover (R154) -/
  holdover : Bool
  /-- the inlay sites -/
  sites : Tab SiteSt
  /-- the compute dies -/
  dies : Tab Die
  /-- the home slices -/
  slices : Tab SliceSt
  /-- fabric messages sent and not yet received, oldest first -/
  flight : List FMsg
  /-- DRAM and CXL memory by physical address, each byte as its difference from what an unlisted byte reads (R69) -/
  mem : Tab Byte
  /-- what a byte not listed in mem reads: 0 while this is 0, else an undefined byte (R74, log entry 21) -/
  memGen : Nat
  /-- lines whose poison mark stands in DRAM, by line address -/
  poison : Tab Bool
  /-- the MSC arrays, by slice·2^19 + index -/
  msc : Tab (Option MscLine)
  /-- the MSC slices' control state -/
  mscs : Tab MscSt
  /-- the MSC maintenance command -/
  maint : MaintSt
  /-- the DDR5 channels -/
  chans : Tab ChanSt
  /-- the subchannels, by 2·channel + (0 A, 1 B) -/
  subs : Tab SubSt
  /-- CXL_WIN_STATE of windows 0–15 -/
  cxlState : Tab Nat
  /-- CXL reads without completion: slice·1024-based txid, line -/
  cxlWait : List (Nat × Nat)
  /-- counters, snapshots, machine-check banks and corrected-error windows -/
  obs : ObsSt
  /-- the mirror -/
  mirror : MirrorSt
  /-- the segment master's takeover registers, by PAIR_ID -/
  takeover : Tab Takeover
  /-- the Page Owner Table's placement -/
  pot : PotSt
  /-- the enclaves, by EID -/
  encl : Tab Enclave
  /-- the harts' command slots at the hub, by hart -/
  cmds : Tab CmdSlot
  /-- HOLD_HARTS0–3: bit h holds the core of hart h -/
  holds : Nat
  /-- HOLD_UNITS: [19:16] benches, [11:0] dies -/
  holdUnits : Nat
  /-- the enclave report each session asked for: EID and nonce -/
  reports : Tab (Option (Nat × List Byte))
  /-- the benches' scratchpads, by bench·8 MiB + offset; a byte not listed is 0 -/
  spad : Tab Byte
  /-- a fatal machine check has stopped every hart (R228, R481) -/
  fatal : Bool
  /-- the benches -/
  benches : Tab BenchSt
  /-- the energy ledger -/
  ledger : LedgerSt
  /-- the IOMMU's address translation cache, oldest first (R139) -/
  iommu : List IoEnt
  /-- the Gauge -/
  gauge : GaugeSt
  /-- the segment port -/
  seg : SegSt
  /-- KERF_SYNC of a follower -/
  sync : SyncSt
  /-- ROOT_PORT_STATE, by root port (R467) -/
  rootPorts : Tab Nat
deriving DecidableEq, Repr

/-- The package right after power-on, before T0: nothing has been commanded. -/
def devInit : Dev :=
  { out := [],
    freeCtr := 0,
    now := 0,
    pins := pinsInit,
    fuses := fusesInit,
    boot := bootInit,
    list := listInit,
    kerf := kerfInit,
    harts := [],
    links := [],
    jig := [],
    holdover := false,
    sites := [],
    dies := [],
    slices := [],
    flight := [],
    mem := [],
    memGen := 0,
    poison := [],
    msc := [],
    mscs := [],
    maint := maintInit,
    chans := [],
    subs := [],
    cxlState := [],
    cxlWait := [],
    obs := obsInit,
    mirror := mirrorInit,
    takeover := [],
    pot := potInit,
    encl := [],
    cmds := [],
    holds := 0,
    holdUnits := 0,
    reports := [],
    spad := [],
    fatal := false,
    benches := [],
    ledger := ledgerInit,
    iommu := [],
    gauge := gaugeInit,
    seg := segInit,
    sync := syncInit,
    rootPorts := [] }

/-- The block: the commands that wait, first in first out, and the package. -/
structure State where
  /-- Commands that have arrived and not yet been taken, oldest first. -/
  pending : List Instr
  /-- The package. -/
  dev : Dev
deriving DecidableEq, Repr

/-- The machine right after reset. -/
def State.reset : State := { pending := [], dev := devInit }

end Sys2Proof.Machine
end

