-- ==== Sys2Proof/Machine/EntryTable.lean ====
section
/-!
DEFINITION. The Cutting List: every entry the spec's entry tables list (R25), with its type, access,
default and swap class (R27, R14, R28, R29). A rectangle of indexes and subindexes with one name is one row.
-/
set_option linter.unusedVariables false

namespace Sys2Proof.Machine

/-- Range 0x1000 (R51). -/
def entries1000 : List EntryRow :=
  [ ⟨0x1000, 0x1000, 0x00, 0x00, "ORDERING_CODE", .enum, 0, [1, 1, 1, 1], 0, false, .sealed_⟩,
    ⟨0x1000, 0x1000, 0x01, 0x01, "PACKAGE_SERIAL", .string, 16, [1, 1, 1, 1], 0, false, .sealed_⟩,
    ⟨0x1000, 0x1000, 0x02, 0x02, "STEPPING", .u16, 0, [1, 1, 1, 1], 0, false, .sealed_⟩,
    ⟨0x1000, 0x1000, 0x03, 0x03, "HARTS_PRESENT", .u8, 0, [1, 1, 1, 1], 0, false, .sealed_⟩,
    ⟨0x1000, 0x1000, 0x04, 0x04, "IMAGE_VERSION", .string, 32, [1, 1, 1, 1], 0, true, .sealed_⟩,
    ⟨0x1000, 0x1000, 0x05, 0x05, "MCTP_VENDOR_ID", .u32, 0, [1, 1, 1, 1], 0, false, .sealed_⟩,
    ⟨0x1000, 0x1000, 0x06, 0x06, "IMAGE_SIGNER", .enum, 0, [1, 1, 1, 1], 0, true, .sealed_⟩,
    ⟨0x1000, 0x1000, 0x07, 0x07, "IMAGE_SECURITY_VERSION", .u32, 0, [1, 1, 1, 1], 0, true, .sealed_⟩,
    ⟨0x1000, 0x1000, 0x08, 0x08, "INLAY_IS0_IDENT", .string, 64, [1, 1, 1, 1], 0, false, .sealed_⟩,
    ⟨0x1000, 0x1000, 0x09, 0x09, "INLAY_IS1_IDENT", .string, 64, [1, 1, 1, 1], 0, false, .sealed_⟩,
    ⟨0x1000, 0x1000, 0x0A, 0x0A, "DEVICE_CERT_CHAIN", .domain, 65536, [1, 1, 1, 1], 0, false, .sealed_⟩,
    ⟨0x1001, 0x1001, 0x01, 0x0C, "CORES_PRESENT_CDn", .bits, 0, [1, 1, 1, 1], 0, false, .sealed_⟩ ]

/-- Range 0x2000, part 1 (R52). -/
def entries2000_0 : List EntryRow :=
  [ ⟨0x2000, 0x2000, 0x01, 0x01, "KERF_PERIOD", .u32, 0, [1, 1, 2, 2], 1000, false, .kerf⟩,
    ⟨0x2000, 0x2000, 0x02, 0x02, "KERF_COUNTER", .u64, 0, [1, 1, 1, 1], 0, false, .sealed_⟩,
    ⟨0x2000, 0x2000, 0x03, 0x03, "KERF_OVERRUNS", .u64, 0, [1, 1, 1, 1], 0, false, .sealed_⟩,
    ⟨0x2000, 0x2000, 0x04, 0x04, "KERF_SEQ_MAX", .u32, 0, [1, 1, 1, 1], 0, false, .sealed_⟩,
    ⟨0x2000, 0x2000, 0x05, 0x05, "STAGED_COUNT", .u16, 0, [1, 1, 1, 1], 0, false, .sealed_⟩,
    ⟨0x2000, 0x2000, 0x06, 0x06, "STAGED_DISCARD", .bool, 0, [0, 2, 2, 2], 0, false, .imm⟩,
    ⟨0x2000, 0x2000, 0x07, 0x07, "BRINGUP_STAGE", .u8, 0, [1, 1, 1, 1], 0, false, .sealed_⟩,
    ⟨0x2000, 0x2000, 0x08, 0x08, "BRINGUP_REASON", .u16, 0, [1, 1, 1, 1], 0, false, .sealed_⟩,
    ⟨0x2010, 0x2010, 0x01, 0x01, "KERF_SYNC_MODE", .enum, 0, [1, 1, 1, 1], 0, false, .boot⟩,
    ⟨0x2010, 0x2010, 0x02, 0x02, "KERF_SYNC_SKEW", .i64, 0, [1, 1, 1, 1], 0, false, .sealed_⟩,
    ⟨0x2040, 0x2040, 0x01, 0x01, "GAUGE_ENABLE", .bool, 0, [1, 1, 2, 2], 1, false, .kerf⟩,
    ⟨0x2040, 0x2040, 0x02, 0x02, "GAUGE_INTERVAL", .u32, 0, [1, 1, 2, 2], 1000, false, .kerf⟩ ]

/-- Range 0x2000, part 2 (R52). -/
def entries2000_1 : List EntryRow :=
  [ ⟨0x2040, 0x2040, 0x03, 0x03, "GAUGE_STATUS", .bits, 0, [1, 1, 1, 1], 0, false, .sealed_⟩ ]

/-- Range 0x3000, part 1 (R362). -/
def entries3000_0 : List EntryRow :=
  [ ⟨0x3000, 0x3000, 0x01, 0x01, "PKG_BUDGET_W", .u16, 0, [1, 1, 2, 2], 500, false, .kerf⟩,
    ⟨0x3000, 0x3000, 0x02, 0x02, "HARD_LIMIT_W", .u16, 0, [1, 2, 2, 2], 600, false, .imm⟩,
    ⟨0x3000, 0x3000, 0x03, 0x03, "THERMAL_RESERVE_W", .u16, 0, [1, 1, 2, 2], 20, false, .kerf⟩,
    ⟨0x3000, 0x3000, 0x04, 0x04, "TJ_SOFT", .u8, 0, [1, 1, 2, 2], 90, false, .kerf⟩,
    ⟨0x3000, 0x3000, 0x05, 0x05, "ASSURED_RESERVE_W", .u16, 0, [1, 1, 2, 2], 20, false, .kerf⟩,
    ⟨0x3000, 0x3000, 0x06, 0x06, "SPARE_MARGIN_PCT", .u8, 0, [1, 1, 2, 2], 25, false, .kerf⟩,
    ⟨0x3001, 0x3001, 0x00, 0x00, "LEDGER_STATUS", .bits, 0, [1, 1, 1, 1], 0, false, .sealed_⟩,
    ⟨0x3002, 0x3002, 0x00, 0x00, "LEDGER_STATE", .bits, 0, [1, 1, 1, 1], 0, false, .sealed_⟩,
    ⟨0x3003, 0x3003, 0x00, 0x00, "EPOCH_ENERGY", .u64, 0, [1, 1, 1, 1], 0, false, .sealed_⟩,
    ⟨0x3003, 0x3003, 0x01, 0x01, "ASSURED_DRAWN", .u64, 0, [1, 1, 1, 1], 0, false, .sealed_⟩,
    ⟨0x3003, 0x3003, 0x02, 0x02, "PKG_POWER_MW", .u32, 0, [1, 1, 1, 1], 0, false, .sealed_⟩,
    ⟨0x3003, 0x3003, 0x03, 0x03, "THROTTLE_EVENTS", .u64, 0, [1, 1, 1, 1], 0, false, .sealed_⟩ ]

/-- Range 0x3000, part 2 (R362). -/
def entries3000_1 : List EntryRow :=
  [ ⟨0x3010, 0x3010, 0x01, 0x01, "CORE_FLOOR", .u32, 0, [1, 1, 2, 2], 80, false, .kerf⟩,
    ⟨0x3010, 0x3010, 0x02, 0x02, "BENCH_FLOOR", .u32, 0, [1, 1, 2, 2], 2000, false, .kerf⟩,
    ⟨0x3010, 0x3010, 0x03, 0x03, "MEM_FLOOR", .u32, 0, [1, 1, 2, 2], 15000, false, .kerf⟩,
    ⟨0x3010, 0x3010, 0x04, 0x04, "IO_FLOOR", .u32, 0, [1, 1, 2, 2], 10000, false, .kerf⟩,
    ⟨0x3010, 0x3010, 0x05, 0x05, "HUB_FLOOR", .u32, 0, [1, 1, 2, 2], 25000, false, .kerf⟩,
    ⟨0x3010, 0x3010, 0x06, 0x06, "INLAY_FLOOR", .u32, 0, [1, 1, 2, 2], 0, false, .kerf⟩,
    ⟨0x3020, 0x3020, 0x01, 0xE1, "ACCOUNT_WEIGHT", .u8, 0, [1, 1, 2, 2], 16, false, .kerf⟩,
    ⟨0x3021, 0x3021, 0x01, 0xE1, "ACCOUNT_GRANT", .u64, 0, [1, 1, 1, 1], 0, false, .sealed_⟩,
    ⟨0x3022, 0x3022, 0x01, 0xE1, "ACCOUNT_SPEND", .u64, 0, [1, 1, 1, 1], 0, false, .sealed_⟩,
    ⟨0x3023, 0x3023, 0x01, 0xE1, "ACCOUNT_TOTAL", .u64, 0, [1, 1, 1, 1], 0, false, .sealed_⟩,
    ⟨0x3024, 0x3024, 0x01, 0xE1, "ACCOUNT_STATE", .bits, 0, [1, 1, 1, 1], 0, false, .sealed_⟩ ]

/-- Range 0x4000, part 1 (R265). -/
def entries4000_0 : List EntryRow :=
  [ ⟨0x4000, 0x4000, 0x01, 0x10, "DRAM_ENABLE", .bool, 0, [1, 1, 1, 1], 0, true, .boot⟩,
    ⟨0x4001, 0x4001, 0x01, 0x10, "DRAM_STATUS", .bits, 0, [1, 1, 1, 1], 0, false, .sealed_⟩,
    ⟨0x4002, 0x4002, 0x01, 0x10, "DRAM_CHAN_STATE", .bits, 0, [1, 1, 1, 1], 0, false, .sealed_⟩,
    ⟨0x4003, 0x4003, 0x01, 0x10, "DRAM_SPEED_SLOT", .u8, 0, [1, 1, 2, 2], 0, false, .kerf⟩,
    ⟨0x4004, 0x4004, 0x01, 0x10, "DRAM_RETRAIN_NOW", .bool, 0, [0, 2, 2, 2], 0, false, .imm⟩,
    ⟨0x4010, 0x4010, 0x01, 0x10, "SLOT_SPEED_0-3", .enum, 0, [1, 1, 1, 1], 5, false, .boot⟩,
    ⟨0x4011, 0x4013, 0x01, 0x10, "SLOT_SPEED_0-3", .enum, 0, [1, 1, 1, 1], 0, false, .boot⟩,
    ⟨0x4014, 0x4017, 0x01, 0x10, "SLOT_TIMING_0-3", .domain, 64, [1, 1, 2, 2], 0, false, .kerf⟩,
    ⟨0x4020, 0x4020, 0x00, 0x00, "ADDR_MASK", .u64, 0, [1, 1, 1, 1], 4467856769280, false, .boot⟩,
    ⟨0x4020, 0x4020, 0x01, 0x01, "ADDR_MASK", .u64, 0, [1, 1, 1, 1], 8935713538560, false, .boot⟩,
    ⟨0x4020, 0x4020, 0x02, 0x02, "ADDR_MASK", .u64, 0, [1, 1, 1, 1], 17871427077120, false, .boot⟩,
    ⟨0x4020, 0x4020, 0x03, 0x03, "ADDR_MASK", .u64, 0, [1, 1, 1, 1], 35742854154240, false, .boot⟩ ]

/-- Range 0x4000, part 2 (R265). -/
def entries4000_1 : List EntryRow :=
  [ ⟨0x4020, 0x4020, 0x04, 0x04, "ADDR_MASK", .u64, 0, [1, 1, 1, 1], 1116964130816, false, .boot⟩,
    ⟨0x4020, 0x4020, 0x05, 0x05, "ADDR_MASK", .u64, 0, [1, 1, 1, 1], 2233928261632, false, .boot⟩,
    ⟨0x4020, 0x4020, 0x06, 0x06, "ADDR_MASK", .u64, 0, [1, 1, 1, 1], 275955859456, false, .boot⟩,
    ⟨0x4020, 0x4020, 0x07, 0x07, "ADDR_MASK", .u64, 0, [1, 1, 1, 1], 551911718912, false, .boot⟩,
    ⟨0x4020, 0x4020, 0x08, 0x08, "ADDR_MASK", .u64, 0, [1, 1, 1, 1], 1103823437824, false, .boot⟩,
    ⟨0x4020, 0x4020, 0x09, 0x09, "ADDR_MASK", .u64, 0, [1, 1, 1, 1], 2207646875648, false, .boot⟩,
    ⟨0x4021, 0x4021, 0x00, 0x00, "WQ_HIGH", .u8, 0, [1, 1, 2, 2], 48, false, .kerf⟩,
    ⟨0x4021, 0x4021, 0x01, 0x01, "WQ_LOW", .u8, 0, [1, 1, 2, 2], 16, false, .kerf⟩,
    ⟨0x4022, 0x4022, 0x00, 0x00, "REF_POSTPONE_MAX", .u8, 0, [1, 1, 2, 2], 8, false, .kerf⟩,
    ⟨0x4023, 0x4023, 0x00, 0x00, "RETRAIN_PERIOD", .u32, 0, [1, 1, 2, 2], 100, false, .kerf⟩,
    ⟨0x4023, 0x4023, 0x01, 0x01, "RETRAIN_POLICY", .enum, 0, [1, 1, 2, 2], 0, false, .kerf⟩,
    ⟨0x4023, 0x4023, 0x02, 0x02, "RETRAIN_FORCE_AFTER", .u32, 0, [1, 1, 2, 2], 1000, false, .kerf⟩ ]

/-- Range 0x4000, part 3 (R238, R265). -/
def entries4000_2 : List EntryRow :=
  [ ⟨0x4024, 0x4024, 0x00, 0x00, "SCRUB_PERIOD", .u16, 0, [1, 1, 2, 2], 24, false, .kerf⟩,
    ⟨0x4025, 0x4025, 0x00, 0x00, "ZERO_SHARE", .u8, 0, [1, 1, 2, 2], 25, false, .kerf⟩,
    ⟨0x4026, 0x4026, 0x00, 0x00, "SR_IDLE", .u32, 0, [1, 1, 2, 2], 1000, false, .kerf⟩,
    ⟨0x4027, 0x4027, 0x00, 0x00, "DIMM_TEMP_LIMIT", .u8, 0, [1, 1, 2, 2], 95, false, .kerf⟩,
    ⟨0x4030, 0x4030, 0x01, 0x10, "CXL_WIN_BASE", .u64, 0, [1, 1, 1, 1], 0, false, .boot⟩,
    ⟨0x4031, 0x4031, 0x01, 0x10, "CXL_WIN_SIZE", .u64, 0, [1, 1, 1, 1], 0, false, .boot⟩,
    ⟨0x4032, 0x4032, 0x01, 0x10, "CXL_WIN_PORT", .u8, 0, [1, 1, 1, 1], 0, false, .boot⟩,
    ⟨0x4033, 0x4033, 0x01, 0x10, "CXL_WIN_STATE", .bits, 0, [1, 1, 1, 1], 0, false, .sealed_⟩,
    ⟨0x4100, 0x4100, 0x01, 0x10, "MSC_ENABLE", .enum, 0, [1, 1, 2, 2], 1, false, .kerf⟩,
    ⟨0x4101, 0x4101, 0x01, 0x10, "MSC_STATUS", .bits, 0, [1, 1, 1, 1], 0, false, .sealed_⟩,
    ⟨0x4102, 0x4102, 0x01, 0x10, "MSC_EVICT_MODE", .enum, 0, [1, 1, 2, 2], 1, false, .kerf⟩,
    ⟨0x4103, 0x4103, 0x01, 0x10, "MSC_SLICE_STATE", .bits, 0, [1, 1, 1, 1], 0, false, .sealed_⟩ ]

/-- Range 0x4000, part 4 (R238). -/
def entries4000_3 : List EntryRow :=
  [ ⟨0x4104, 0x4104, 0x01, 0x10, "MSC_DIRTY_LINES", .u32, 0, [1, 1, 1, 1], 0, false, .sealed_⟩,
    ⟨0x4110, 0x4110, 0x00, 0x00, "MSC_MAINT_BASE", .u64, 0, [1, 1, 2, 2], 0, false, .imm⟩,
    ⟨0x4110, 0x4110, 0x01, 0x01, "MSC_MAINT_LIMIT", .u64, 0, [1, 1, 2, 2], 63, false, .imm⟩,
    ⟨0x4110, 0x4110, 0x02, 0x02, "MSC_MAINT_CMD", .bits, 0, [1, 1, 2, 2], 0, false, .imm⟩,
    ⟨0x4110, 0x4110, 0x03, 0x03, "MSC_MAINT_STATUS", .bits, 0, [1, 1, 1, 1], 0, false, .sealed_⟩ ]

/-- Range 0x5000, part 1 (R298, R316). -/
def entries5000_0 : List EntryRow :=
  [ ⟨0x5000, 0x5000, 0x01, 0x04, "BENCH_ENABLE", .bool, 0, [1, 1, 2, 2], 0, false, .kerf⟩,
    ⟨0x5001, 0x5001, 0x01, 0x04, "BENCH_STATUS", .bits, 0, [1, 1, 1, 1], 0, false, .sealed_⟩,
    ⟨0x5002, 0x5002, 0x01, 0x04, "BENCH_STATE", .bits, 0, [1, 1, 1, 1], 0, false, .sealed_⟩,
    ⟨0x5003, 0x5003, 0x01, 0x04, "KEYSTORE_BASE", .u64, 0, [1, 1, 1, 1], 0, false, .boot⟩,
    ⟨0x5004, 0x5004, 0x01, 0x04, "KEYSTORE_SIZE", .u64, 0, [1, 1, 1, 1], 0, false, .boot⟩,
    ⟨0x5005, 0x5005, 0x01, 0x04, "KEYS_IN_USE", .u32, 0, [1, 1, 1, 1], 0, false, .sealed_⟩,
    ⟨0x5006, 0x5006, 0x01, 0x04, "OPS_COMPLETED", .u64, 0, [1, 1, 1, 1], 0, false, .sealed_⟩,
    ⟨0x5007, 0x5007, 0x01, 0x04, "ZEROISE_COUNT", .u32, 0, [1, 1, 1, 1], 0, false, .sealed_⟩,
    ⟨0x5008, 0x5008, 0x01, 0x04, "MICROCODE_VERSION", .u32, 0, [1, 1, 1, 1], 0, false, .sealed_⟩,
    ⟨0x5010, 0x5010, 0x01, 0x04, "SPAD_IDLE_US", .u32, 0, [1, 1, 2, 2], 50, false, .kerf⟩,
    ⟨0x5011, 0x5011, 0x01, 0x04, "BENCH_ZEROISE", .bool, 0, [0, 0, 2, 2], 0, false, .imm⟩,
    ⟨0x5012, 0x5012, 0x01, 0x04, "FEED_STOPS", .u64, 0, [1, 1, 1, 1], 0, false, .sealed_⟩ ]

/-- Range 0x5000, part 2 (R316, R341). -/
def entries5000_1 : List EntryRow :=
  [ ⟨0x5013, 0x5013, 0x01, 0x04, "FEED_UNITS", .u64, 0, [1, 1, 1, 1], 0, false, .sealed_⟩,
    ⟨0x5014, 0x5014, 0x01, 0x04, "SPAD_WAKES", .u64, 0, [1, 1, 1, 1], 0, false, .sealed_⟩,
    ⟨0x5020, 0x5020, 0x01, 0x04, "BENCH_MICROCODE", .domain, 1048576, [0, 0, 2, 2], 0, false, .kerf⟩,
    ⟨0x5021, 0x5021, 0x01, 0x04, "PCI_IDS", .u32, 0, [1, 1, 1, 1], 0, false, .sealed_⟩,
    ⟨0x5022, 0x5022, 0x01, 0x04, "VFS_ENABLED", .u16, 0, [1, 1, 1, 1], 0, false, .sealed_⟩,
    ⟨0x5023, 0x5023, 0x01, 0x04, "FLR_REVOKES", .u64, 0, [1, 1, 1, 1], 0, false, .sealed_⟩,
    ⟨0x5024, 0x5024, 0x01, 0x04, "ABANDONED_TOTAL", .u64, 0, [1, 1, 1, 1], 0, false, .sealed_⟩ ]

/-- Range 0x6000, part 1 (R428). -/
def entries6000_0 : List EntryRow :=
  [ ⟨0x6000, 0x6000, 0x01, 0x01, "MIRROR_ENABLE", .bool, 0, [1, 1, 2, 2], 0, false, .kerf⟩,
    ⟨0x6000, 0x6000, 0x02, 0x02, "MIRROR_STATUS", .bits, 0, [1, 1, 1, 1], 0, false, .sealed_⟩,
    ⟨0x6000, 0x6000, 0x03, 0x03, "MIRROR_STATE", .bits, 0, [1, 1, 1, 1], 0, false, .sealed_⟩,
    ⟨0x6000, 0x6000, 0x04, 0x04, "PAIR_ID", .u8, 0, [1, 1, 1, 1], 0, false, .boot⟩,
    ⟨0x6000, 0x6000, 0x05, 0x05, "PEER_KEY_HASH", .domain, 64, [1, 1, 1, 1], 0, false, .boot⟩,
    ⟨0x6000, 0x6000, 0x06, 0x06, "FORCE_PROMOTE", .bool, 0, [0, 0, 2, 2], 0, false, .imm⟩,
    ⟨0x6000, 0x6000, 0x08, 0x08, "DIRTY_MAX", .u16, 0, [1, 1, 2, 2], 256, false, .kerf⟩,
    ⟨0x6001, 0x6001, 0x00, 0x00, "CKPT_BASE", .u64, 0, [1, 1, 1, 1], 0, false, .boot⟩,
    ⟨0x6001, 0x6001, 0x01, 0x01, "LOG_BASE", .u64, 0, [1, 1, 1, 1], 0, false, .boot⟩,
    ⟨0x6001, 0x6001, 0x02, 0x02, "LOG_SIZE", .u64, 0, [1, 1, 1, 1], 0, false, .boot⟩,
    ⟨0x6010, 0x6010, 0x01, 0x10, "REGION_BASE", .u64, 0, [1, 1, 1, 1], 0, false, .boot⟩,
    ⟨0x6011, 0x6011, 0x01, 0x10, "REGION_SIZE", .u64, 0, [1, 1, 1, 1], 0, false, .boot⟩ ]

/-- Range 0x6000, part 2 (R428). -/
def entries6000_1 : List EntryRow :=
  [ ⟨0x6020, 0x6020, 0x00, 0x00, "LAST_COMMIT", .u64, 0, [1, 1, 1, 1], 0, false, .sealed_⟩,
    ⟨0x6020, 0x6020, 0x01, 0x01, "CLAMP_BYTES", .u64, 0, [1, 1, 1, 1], 0, false, .sealed_⟩,
    ⟨0x6020, 0x6020, 0x02, 0x02, "CLAMP_STALLS", .u64, 0, [1, 1, 1, 1], 0, false, .sealed_⟩,
    ⟨0x6020, 0x6020, 0x03, 0x03, "LOG_BYTES", .u64, 0, [1, 1, 1, 1], 0, false, .sealed_⟩,
    ⟨0x6020, 0x6020, 0x04, 0x04, "FAILOVERS", .u32, 0, [1, 1, 1, 1], 0, false, .sealed_⟩,
    ⟨0x6020, 0x6020, 0x05, 0x05, "SEAL_NAKS", .u32, 0, [1, 1, 1, 1], 0, false, .sealed_⟩,
    ⟨0x6030, 0x6030, 0x01, 0x20, "TAKEOVER", .bits, 0, [1, 1, 1, 1], 0, false, .sealed_⟩,
    ⟨0x6031, 0x6031, 0x01, 0x20, "TAKEOVER_OPEN", .bool, 0, [0, 0, 2, 2], 0, false, .imm⟩ ]

/-- Range 0x7000, part 1 (R400). -/
def entries7000_0 : List EntryRow :=
  [ ⟨0x7000, 0x7000, 0x01, 0x01, "SECURE_ENABLE", .bool, 0, [1, 1, 1, 1], 0, false, .boot⟩,
    ⟨0x7000, 0x7000, 0x02, 0x02, "SECURE_STATUS", .bits, 0, [1, 1, 1, 1], 0, false, .sealed_⟩,
    ⟨0x7000, 0x7000, 0x03, 0x03, "POT_BASE", .u64, 0, [1, 1, 1, 1], 0, false, .boot⟩,
    ⟨0x7000, 0x7000, 0x04, 0x04, "POT_SIZE", .u64, 0, [1, 1, 1, 1], 0, false, .boot⟩,
    ⟨0x7000, 0x7000, 0x05, 0x05, "POT_COVER", .u64, 0, [1, 1, 1, 1], 0, false, .sealed_⟩,
    ⟨0x7001, 0x7001, 0x00, 0x00, "DEBUG_FUSES", .bits, 0, [1, 1, 1, 1], 0, false, .sealed_⟩,
    ⟨0x7002, 0x7002, 0x01, 0x01, "DBG_NORMAL_INV", .bool, 0, [1, 1, 2, 2], 0, false, .kerf⟩,
    ⟨0x7002, 0x7002, 0x02, 0x02, "DBG_NORMAL_NONINV", .bool, 0, [1, 1, 2, 2], 0, false, .kerf⟩,
    ⟨0x7002, 0x7002, 0x03, 0x03, "DBG_SECURE_INV", .bool, 0, [1, 1, 1, 2], 0, false, .kerf⟩,
    ⟨0x7002, 0x7002, 0x04, 0x04, "DBG_SECURE_NONINV", .bool, 0, [1, 1, 1, 2], 0, false, .kerf⟩,
    ⟨0x7003, 0x7003, 0x00, 0x00, "HOLD_STATE", .bits, 0, [1, 1, 1, 1], 0, false, .sealed_⟩,
    ⟨0x7010, 0x7010, 0x00, 0x00, "ENCLAVE_REPORT_REQ", .domain, 34, [0, 2, 2, 2], 0, false, .imm⟩ ]

/-- Range 0x7000, part 2 (R400). -/
def entries7000_1 : List EntryRow :=
  [ ⟨0x7010, 0x7010, 0x01, 0x01, "ENCLAVE_REPORT", .domain, 320, [1, 1, 1, 1], 0, false, .sealed_⟩,
    ⟨0x7011, 0x7011, 0x00, 0x00, "ENCLAVES_LIVE", .u16, 0, [1, 1, 1, 1], 0, false, .sealed_⟩,
    ⟨0x7011, 0x7011, 0x01, 0x01, "ENCLAVES_BROKEN", .u32, 0, [1, 1, 1, 1], 0, false, .sealed_⟩,
    ⟨0x7020, 0x7020, 0x01, 0x08, "SEC_REGION_BASE", .u64, 0, [1, 1, 1, 1], 0, false, .boot⟩,
    ⟨0x7021, 0x7021, 0x01, 0x08, "SEC_REGION_SIZE", .u64, 0, [1, 1, 1, 1], 0, false, .boot⟩,
    ⟨0x7030, 0x7030, 0x01, 0x10, "ROLE_KEY", .domain, 65, [0, 0, 2, 2], 0, false, .imm⟩,
    ⟨0x7040, 0x7040, 0x01, 0x04, "OWNER_KEY_HASH", .domain, 64, [1, 1, 1, 1], 0, false, .sealed_⟩,
    ⟨0x7040, 0x7040, 0x05, 0x08, "VENDOR_KEY_HASH", .domain, 64, [1, 1, 1, 1], 0, false, .sealed_⟩,
    ⟨0x7041, 0x7041, 0x00, 0x00, "KEY_SLOT_STATE", .bits, 0, [1, 1, 1, 1], 0, false, .sealed_⟩,
    ⟨0x7042, 0x7042, 0x00, 0x00, "FUSE_REQUEST", .domain, 66, [0, 0, 2, 2], 0, false, .imm⟩ ]

/-- Range 0x8000 (R448). -/
def entries8000 : List EntryRow :=
  [ ⟨0x8000, 0x8000, 0x00, 0x00, "GAUGE_STATE", .bits, 0, [1, 1, 1, 1], 0, false, .sealed_⟩,
    ⟨0x8000, 0x8000, 0x01, 0x01, "RUN_ID", .u64, 0, [1, 1, 1, 1], 0, false, .sealed_⟩,
    ⟨0x8000, 0x8000, 0x02, 0x02, "NEWEST_SEQ", .u64, 0, [1, 1, 1, 1], 0, false, .sealed_⟩,
    ⟨0x8000, 0x8000, 0x03, 0x03, "OLDEST_SEQ", .u64, 0, [1, 1, 1, 1], 0, false, .sealed_⟩,
    ⟨0x8000, 0x8000, 0x04, 0x04, "ROM_ID", .domain, 64, [1, 1, 1, 1], 0, false, .sealed_⟩,
    ⟨0x8000, 0x8000, 0x05, 0x05, "CALIB_ID", .domain, 16, [1, 1, 1, 1], 0, false, .sealed_⟩,
    ⟨0x8000, 0x8000, 0x06, 0x06, "GAUGE_CERT", .domain, 4096, [1, 1, 1, 1], 0, false, .sealed_⟩,
    ⟨0x8000, 0x8000, 0x07, 0x07, "GAUGE_PUBKEY", .domain, 32, [1, 1, 1, 1], 0, false, .sealed_⟩,
    ⟨0x8010, 0x8010, 0x00, 0x00, "RING", .domain, 8388608, [1, 1, 1, 1], 0, false, .sealed_⟩ ]

/-- Range 0x9000, part 1 (R485, R486). -/
def entries9000_0 : List EntryRow :=
  [ ⟨0x9000, 0x9000, 0x01, 0xD8, "CORE_BANK_N", .domain, 512, [1, 1, 1, 1], 0, false, .sealed_⟩,
    ⟨0x9001, 0x9001, 0x01, 0xD8, "CORE_BANK_S", .domain, 512, [0, 0, 0, 1], 0, false, .sealed_⟩,
    ⟨0x9010, 0x9010, 0x01, 0x10, "SLICE_BANK", .domain, 512, [1, 1, 1, 1], 0, false, .sealed_⟩,
    ⟨0x9011, 0x9011, 0x01, 0x10, "CHANNEL_BANK", .domain, 128, [1, 1, 1, 1], 0, false, .sealed_⟩,
    ⟨0x9012, 0x9012, 0x01, 0x04, "BENCH_BANK", .domain, 128, [1, 1, 1, 1], 0, false, .sealed_⟩,
    ⟨0x9013, 0x9013, 0x01, 0x0C, "DIE_BANK", .domain, 128, [1, 1, 1, 1], 0, false, .sealed_⟩,
    ⟨0x9014, 0x9014, 0x00, 0x00, "PKG_BANK", .domain, 128, [1, 1, 1, 1], 0, false, .sealed_⟩,
    ⟨0x9020, 0x9020, 0x00, 0x00, "SNAP_SELECT", .bits, 0, [1, 1, 2, 2], 0, false, .kerf⟩,
    ⟨0x9020, 0x9020, 0x01, 0x01, "SNAP_KERF", .u64, 0, [1, 1, 1, 1], 0, false, .sealed_⟩,
    ⟨0x9030, 0x9030, 0x00, 0x00, "OVF_CLEAR", .bool, 0, [0, 2, 2, 2], 0, false, .imm⟩,
    ⟨0x9040, 0x9040, 0x00, 0x00, "CORE_TEST_INTERVAL", .u32, 0, [1, 1, 2, 2], 3600, false, .kerf⟩,
    ⟨0x9041, 0x9041, 0x00, 0x00, "CE_WINDOW", .u32, 0, [1, 1, 2, 2], 86400, false, .kerf⟩ ]

/-- Range 0x9000, part 2 (R485, R486). -/
def entries9000_1 : List EntryRow :=
  [ ⟨0x9042, 0x9042, 0x01, 0x01, "CE_THRESHOLD", .u16, 0, [1, 1, 2, 2], 16, false, .kerf⟩,
    ⟨0x9042, 0x9042, 0x02, 0x02, "CE_THRESHOLD", .u16, 0, [1, 1, 2, 2], 64, false, .kerf⟩,
    ⟨0x9042, 0x9042, 0x03, 0x03, "CE_THRESHOLD", .u16, 0, [1, 1, 2, 2], 256, false, .kerf⟩,
    ⟨0x9042, 0x9042, 0x04, 0x04, "CE_THRESHOLD", .u16, 0, [1, 1, 2, 2], 256, false, .kerf⟩,
    ⟨0x9042, 0x9042, 0x05, 0x05, "CE_THRESHOLD", .u16, 0, [1, 1, 2, 2], 64, false, .kerf⟩,
    ⟨0x9042, 0x9042, 0x06, 0x06, "CE_THRESHOLD", .u16, 0, [1, 1, 2, 2], 64, false, .kerf⟩,
    ⟨0x9043, 0x9043, 0x00, 0x00, "CE_FAILOVER", .bool, 0, [1, 1, 2, 2], 0, false, .kerf⟩,
    ⟨0x9100, 0x9100, 0x01, 0xD8, "SNAP_CORE_BANK_N", .domain, 512, [1, 1, 1, 1], 0, false, .sealed_⟩,
    ⟨0x9101, 0x9101, 0x01, 0xD8, "SNAP_CORE_BANK_S", .domain, 512, [0, 0, 0, 1], 0, false, .sealed_⟩,
    ⟨0x9110, 0x9110, 0x01, 0x10, "SNAP_SLICE_BANK", .domain, 512, [1, 1, 1, 1], 0, false, .sealed_⟩,
    ⟨0x9111, 0x9111, 0x01, 0x10, "SNAP_CHANNEL_BANK", .domain, 128, [1, 1, 1, 1], 0, false, .sealed_⟩,
    ⟨0x9112, 0x9112, 0x01, 0x04, "SNAP_BENCH_BANK", .domain, 128, [1, 1, 1, 1], 0, false, .sealed_⟩ ]

/-- Range 0x9000, part 3 (R486). -/
def entries9000_2 : List EntryRow :=
  [ ⟨0x9113, 0x9113, 0x01, 0x0C, "SNAP_DIE_BANK", .domain, 128, [1, 1, 1, 1], 0, false, .sealed_⟩,
    ⟨0x9114, 0x9114, 0x00, 0x00, "SNAP_PKG_BANK", .domain, 128, [1, 1, 1, 1], 0, false, .sealed_⟩,
    ⟨0x9200, 0x9200, 0x01, 0x0C, "MC_DIE", .domain, 4096, [1, 1, 1, 1], 0, false, .sealed_⟩,
    ⟨0x9201, 0x9201, 0x01, 0x10, "MC_SLICE", .domain, 4096, [1, 1, 1, 1], 0, false, .sealed_⟩,
    ⟨0x9202, 0x9202, 0x01, 0x04, "MC_BENCH", .domain, 4096, [1, 1, 1, 1], 0, false, .sealed_⟩,
    ⟨0x9203, 0x9203, 0x00, 0x00, "MC_HUB", .domain, 16384, [1, 1, 1, 1], 0, false, .sealed_⟩,
    ⟨0x9204, 0x9204, 0x00, 0x00, "MC_NEWEST_SEQ", .u64, 0, [1, 1, 1, 1], 0, false, .sealed_⟩ ]

/-- Range 0xA000, part 1 (R159, R219). -/
def entriesA000_0 : List EntryRow :=
  [ ⟨0xA000, 0xA000, 0x01, 0x0C, "LINK_STATUS_CDn", .bits, 0, [1, 1, 1, 1], 0, false, .sealed_⟩,
    ⟨0xA001, 0xA001, 0x01, 0x0C, "LINK_RETRAIN_CDn", .bool, 0, [0, 2, 2, 2], 0, false, .imm⟩,
    ⟨0xA002, 0xA002, 0x01, 0x0C, "LINK_REPLAYS_CDn", .u64, 0, [1, 1, 1, 1], 0, false, .sealed_⟩,
    ⟨0xA010, 0xA010, 0x01, 0x0C, "UP_SHEET_FUSED_CDn", .bits, 0, [1, 1, 1, 1], 0, false, .sealed_⟩,
    ⟨0xA011, 0xA011, 0x01, 0x0C, "DOWN_SHEET_FUSED_CDn", .bits, 0, [1, 1, 1, 1], 0, false, .sealed_⟩,
    ⟨0xA012, 0xA012, 0x01, 0x0C, "UP_SHEET_WORKING_CDn", .bits, 0, [1, 1, 1, 1], 0, false, .sealed_⟩,
    ⟨0xA013, 0xA013, 0x01, 0x0C, "DOWN_SHEET_WORKING_CDn", .bits, 0, [1, 1, 1, 1], 0, false, .sealed_⟩,
    ⟨0xA020, 0xA020, 0x01, 0x0D, "DIE_IDENT", .bits, 0, [1, 1, 1, 1], 0, false, .sealed_⟩,
    ⟨0xA021, 0xA021, 0x01, 0x0C, "CORE_DEFECT_MAP_CDn", .bits, 0, [1, 1, 1, 1], 0, false, .sealed_⟩,
    ⟨0xA030, 0xA030, 0x01, 0x0C, "DIE_WITHDRAW", .enum, 0, [0, 0, 2, 2], 0, false, .kerf⟩,
    ⟨0xA031, 0xA031, 0x01, 0x0C, "DIE_READMIT", .bool, 0, [0, 0, 2, 2], 0, false, .imm⟩,
    ⟨0xA032, 0xA032, 0x01, 0x0C, "DIE_STATE", .bits, 0, [1, 1, 1, 1], 0, false, .sealed_⟩ ]

/-- Range 0xA000, part 2 (R170, R219). -/
def entriesA000_1 : List EntryRow :=
  [ ⟨0xA033, 0xA033, 0x01, 0x0C, "DIE_POISONED", .u64, 0, [1, 1, 1, 1], 0, false, .sealed_⟩,
    ⟨0xA034, 0xA034, 0x01, 0x0C, "DIE_LATE_DROPS", .u64, 0, [1, 1, 1, 1], 0, false, .sealed_⟩,
    ⟨0xA040, 0xA040, 0x00, 0x00, "FABRIC_RESP_TIMEOUT", .u32, 0, [1, 1, 2, 2], 1000, false, .kerf⟩,
    ⟨0xA041, 0xA041, 0x00, 0x00, "POOL_CAP", .u16, 0, [1, 1, 2, 2], 96, false, .kerf⟩,
    ⟨0xA100, 0xA100, 0x01, 0x02, "INLAY_ENABLE", .bool, 0, [1, 1, 2, 2], 0, false, .kerf⟩,
    ⟨0xA101, 0xA101, 0x01, 0x02, "INLAY_STATUS", .bits, 0, [1, 1, 1, 1], 0, false, .sealed_⟩,
    ⟨0xA102, 0xA102, 0x01, 0x02, "UCIE_STATUS", .bits, 0, [1, 1, 1, 1], 0, false, .sealed_⟩,
    ⟨0xA103, 0xA103, 0x01, 0x02, "UCIE_RETRAIN", .bool, 0, [0, 2, 2, 2], 0, false, .imm⟩,
    ⟨0xA104, 0xA104, 0x01, 0x02, "CONTAIN_STATUS", .bits, 0, [1, 1, 1, 1], 0, false, .sealed_⟩,
    ⟨0xA105, 0xA105, 0x01, 0x02, "VIOLATIONS", .u64, 0, [1, 1, 1, 1], 0, false, .sealed_⟩,
    ⟨0xA106, 0xA106, 0x01, 0x02, "LAST_VIOLATION", .u64, 0, [1, 1, 1, 1], 0, false, .sealed_⟩,
    ⟨0xA107, 0xA107, 0x01, 0x02, "VIOLATION_LIMIT", .u16, 0, [1, 1, 2, 2], 16, false, .kerf⟩ ]

/-- Range 0xA000, part 3 (R170). -/
def entriesA000_2 : List EntryRow :=
  [ ⟨0xA108, 0xA108, 0x01, 0x02, "RATE_MBPS", .u32, 0, [1, 1, 2, 2], 64000, false, .kerf⟩,
    ⟨0xA109, 0xA109, 0x01, 0x02, "RATE_BURST", .u32, 0, [1, 1, 2, 2], 64, false, .kerf⟩,
    ⟨0xA110, 0xA110, 0x01, 0x10, "IS0_WIN_BASE", .u64, 0, [1, 1, 2, 2], 0, false, .kerf⟩,
    ⟨0xA111, 0xA111, 0x01, 0x10, "IS0_WIN_LIMIT", .u64, 0, [1, 1, 2, 2], 4095, false, .kerf⟩,
    ⟨0xA112, 0xA112, 0x01, 0x10, "IS0_WIN_ATTR", .bits, 0, [1, 1, 2, 2], 0, false, .kerf⟩,
    ⟨0xA120, 0xA120, 0x01, 0x10, "IS1_WIN_BASE", .u64, 0, [1, 1, 2, 2], 0, false, .kerf⟩,
    ⟨0xA121, 0xA121, 0x01, 0x10, "IS1_WIN_LIMIT", .u64, 0, [1, 1, 2, 2], 4095, false, .kerf⟩,
    ⟨0xA122, 0xA122, 0x01, 0x10, "IS1_WIN_ATTR", .bits, 0, [1, 1, 2, 2], 0, false, .kerf⟩ ]

/-- Range 0xB000 (R466). -/
def entriesB000 : List EntryRow :=
  [ ⟨0xB000, 0xB000, 0x01, 0x08, "PORT_BIFURCATION", .enum, 0, [1, 1, 1, 1], 0, false, .boot⟩,
    ⟨0xB001, 0xB001, 0x01, 0x20, "ROOT_PORT_STATE", .bits, 0, [1, 1, 1, 1], 0, false, .sealed_⟩,
    ⟨0xB100, 0xB100, 0x01, 0x01, "SEG_ENABLE", .bool, 0, [1, 1, 2, 2], 0, false, .kerf⟩,
    ⟨0xB100, 0xB100, 0x02, 0x02, "SEG_STATUS", .bits, 0, [1, 1, 1, 1], 0, false, .sealed_⟩,
    ⟨0xB100, 0xB100, 0x03, 0x03, "SEG_NODE_ID", .u8, 0, [1, 1, 1, 1], 255, false, .boot⟩,
    ⟨0xB100, 0xB100, 0x04, 0x04, "SEG_NODE_COUNT", .u8, 0, [1, 1, 2, 2], 64, false, .kerf⟩,
    ⟨0xB100, 0xB100, 0x05, 0x05, "SEG_UDP_PORT", .u16, 0, [1, 1, 1, 1], 47008, false, .boot⟩,
    ⟨0xB100, 0xB100, 0x06, 0x06, "SEG_STATE", .bits, 0, [1, 1, 1, 1], 0, false, .sealed_⟩,
    ⟨0xB100, 0xB100, 0x07, 0x07, "SEG_DROPS", .u64, 0, [1, 1, 1, 1], 0, false, .sealed_⟩,
    ⟨0xB200, 0xB200, 0x00, 0x00, "KERF_SYNC_COMP", .u16, 0, [1, 1, 2, 2], 0, false, .kerf⟩,
    ⟨0xB200, 0xB200, 0x01, 0x01, "KERF_SYNC_STATE", .bits, 0, [1, 1, 1, 1], 0, false, .sealed_⟩ ]

/-- The whole Cutting List (R25). -/
def entryRows : List EntryRow :=
  entries1000 ++ entries2000_0 ++ entries2000_1 ++ entries3000_0 ++ entries3000_1 ++ entries4000_0 ++ entries4000_1 ++ entries4000_2 ++ entries4000_3 ++ entries5000_0 ++ entries5000_1 ++ entries6000_0 ++ entries6000_1 ++ entries7000_0 ++ entries7000_1 ++ entries8000 ++ entries9000_0 ++ entries9000_1 ++ entries9000_2 ++ entriesA000_0 ++ entriesA000_1 ++ entriesA000_2 ++ entriesB000

end Sys2Proof.Machine
end

