-- ==== Sys2Proof/Machine/Image.lean ====
section
/-!
DEFINITION. The Chifiek image (R60–R64) and the microcode value (R337): their headers, section tables and entry records.
-/
set_option linter.unusedVariables false

namespace Sys2Proof.Machine

/-! ### The header (R61) -/

def imgMagic : List Byte := [0x43, 0x48, 0x49, 0x46, 0x49, 0x45, 0x4B, 0x31]
def imgMagicOk (i : List Byte) : Bool := sliceOf i 0 8 == imgMagic
def imgVersion (i : List Byte) : Nat := leAt i 8 2
def imgCount (i : List Byte) : Nat := leAt i 0x0A 2
def imgFlags (i : List Byte) : Nat := leAt i 0x0C 4
def imgLength (i : List Byte) : Nat := leAt i 0x10 4
def imgSecurity (i : List Byte) : Nat := leAt i 0x14 4
def imgReset (i : List Byte) : Nat := leAt i 0x18 8
def imgString (i : List Byte) : List Byte := (sliceOf i 0x20 32).takeWhile (fun b => b != 0)
def imgSigner (i : List Byte) : List Byte := sliceOf i 0x40 32
def imgSignature (i : List Byte) : List Byte := sliceOf i 0x60 64

/-- A section table entry (R62). -/
structure Sect where
  typ : Nat
  len : Nat
  off : Nat
  load : Nat
  rsvd : Nat
deriving DecidableEq, Repr

/-- The section table. -/
def imgSects (i : List Byte) : List Sect :=
  (List.range (imgCount i)).map (fun k =>
    let a := 0xA0 + 24 * k
    { typ := leAt i a 2, len := leAt i (a + 4) 4, off := leAt i (a + 8) 4, load := leAt i (a + 16) 8, rsvd := leAt i (a + 2) 2 + leAt i (a + 12) 4 })
def sectsOf (t : Nat) (i : List Byte) : List Sect := (imgSects i).filter (fun s => s.typ == t)
def sectBytes (i : List Byte) (s : Sect) : List Byte := sliceOf i s.off s.len
def sectCount (t : Nat) (i : List Byte) : Nat := (sectsOf t i).length

/-- A byte string is well-formed UTF-8 (R27): no overlong form, no surrogate, nothing above U+10FFFF. -/
def utf8Ok : List Byte → Bool
  | [] => true
  | a :: r =>
    let c (b : Byte) : Bool := decide (0x80 ≤ b.toNat) && decide (b.toNat ≤ 0xBF)
    let n := a.toNat
    if n < 0x80 then utf8Ok r
    else if 0xC2 ≤ n ∧ n ≤ 0xDF then (match r with | b :: r => c b && utf8Ok r | _ => false)
    else if 0xE0 ≤ n ∧ n ≤ 0xEF then
      (match r with
       | b :: b2 :: r =>
         c b && c b2 && !(n == 0xE0 && decide (b.toNat < 0xA0)) && !(n == 0xED && decide (0xA0 ≤ b.toNat)) && utf8Ok r
       | _ => false)
    else if 0xF0 ≤ n ∧ n ≤ 0xF4 then
      (match r with
       | b :: b2 :: b3 :: r =>
         c b && c b2 && c b3 && !(n == 0xF0 && decide (b.toNat < 0x90)) && !(n == 0xF4 && decide (0x90 ≤ b.toNat)) && utf8Ok r
       | _ => false)
    else false

/-- Two ranges of addresses share a byte. -/
def rangesMeet (a : Nat × Nat) (b : Nat × Nat) : Bool := decide (a.1 < b.1 + b.2) && decide (b.1 < a.1 + a.2) && decide (0 < a.2) && decide (0 < b.2)
/-- Some two ranges of a list share a byte. -/
def anyMeet : List (Nat × Nat) → Bool
  | [] => false
  | r :: rs => rs.any (rangesMeet r) || anyMeet rs

/-- What stage 0x03 checks of the header: the reason code, 0 for none (R61). -/
def headerReason (i : List Byte) : Nat :=
  if imgMagicOk i = false then 0x0101
  else if imgVersion i ≠ 1 ∨ imgCount i = 0 ∨ 64 < imgCount i ∨ imgLength i < 0xA0 + 24 * imgCount i ∨ 33554432 < imgLength i then 0x0103
  else 0

/-- One section's rules (R62). -/
def sectOk (i : List Byte) (s : Sect) : Bool :=
  s.rsvd == 0 && s.off % 8 == 0 && decide (s.off + s.len ≤ imgLength i) && (if s.typ = 4 then s.load % 64 == 0 else s.load == 0)
/-- No two sections overlap, and IMAGE_LENGTH ends with the last. -/
def sectsApart (i : List Byte) : Bool :=
  !anyMeet ((imgSects i).map (fun s => (s.off, s.len))) && (imgSects i).foldl (fun n s => max n (s.off + s.len)) 0 == imgLength i

/-- The rules stage 0x04 checks of an image before the key (R61, R62). -/
def formatOk (i : List Byte) : Bool :=
  decide (imgFlags i < 2) && decide (imgSecurity i ≤ 64) && imgReset i % 4 == 0 &&
  (sectsOf 4 i).any (fun s => decide (s.load ≤ imgReset i) && decide (imgReset i < s.load + s.len)) &&
  utf8Ok (imgString i) && allZero ((sliceOf i 0x20 32).drop (imgString i).length) &&
  (imgSects i).all (sectOk i) && sectsApart i && (imgSects i).all (fun s => decide (1 ≤ s.typ) && decide (s.typ ≤ 4)) &&
  decide (1 ≤ sectCount 1 i) && decide (sectCount 1 i ≤ 8) && sectCount 2 i == 1 && decide (sectCount 3 i ≤ 1) &&
  decide (1 ≤ sectCount 4 i) && decide (sectCount 4 i ≤ 55) && !anyMeet ((sectsOf 4 i).map (fun s => (s.load, s.len)))

/-- The header and section rules of a microcode value (R337). -/
def microcodeFormat (v : List Byte) : Nat :=
  if headerReason v ≠ 0 then headerReason v
  else if imgFlags v = 0 ∧ imgReset v = 0 ∧ imgSecurity v ≤ 64 ∧ imgLength v = v.length ∧ imgCount v = 1 ∧ utf8Ok (imgString v) ∧
      allZero ((sliceOf v 0x20 32).drop (imgString v).length) ∧ (imgSects v).all (fun s => s.typ == 3 && sectOk v s) ∧ sectsApart v then 0
  else 0x0103

/-- The message an image's signature is over (R63). -/
def imgMessage (sha : List Byte → List Byte) (i : List Byte) : List Byte := sha (i.take 0x60) ++ (i.take (imgLength i)).drop 0xA0

/-! ### Entry records (R64) -/

/-- A record of an ENTRIES section. -/
structure ImgRec where
  idx : Nat
  sub : Nat
  typ : Nat
  val : List Byte
deriving DecidableEq, Repr

/-- The records of a section; none where one does not fit it. -/
def recsOf : Nat → List Byte → Option (List ImgRec)
  | 0, bs => if bs = [] then some [] else none
  | fuel + 1, bs =>
    if bs = [] then some []
    else
      let n := leAt bs 4 4
      if bs.length < 8 + n then none
      else
        let used := (8 + n + 7) / 8 * 8
        (recsOf fuel (bs.drop used)).map (fun r => { idx := leAt bs 0 2, sub := leAt bs 2 1, typ := leAt bs 3 1, val := sliceOf bs 8 n } :: r)

/-- Every record of an image, in section-table order. -/
def imgRecs (i : List Byte) : Option (List ImgRec) :=
  (sectsOf 1 i).foldl (fun a s =>
    match a, recsOf (s.len / 8 + 1) (sectBytes i s) with
    | some x, some y => some (x ++ y)
    | _, _ => none) (some [])

end Sys2Proof.Machine
end

