-- ==== Sys2Proof/Machine/Tab.lean ====
section
/-!
DEFINITION. Sparse tables: reading and writing one entry of a `Tab`, and the canonical form
(keys strictly rising, no entry equal to the default) that makes equal tables equal data.
-/
set_option linter.unusedVariables false

namespace Sys2Proof.Machine

/-- The entry at key `i`, the default `d` where none is listed. -/
def tabGet {α : Type} (d : α) : Tab α → Nat → α
  | [], _ => d
  | (j, w) :: t, i => if i = j then w else tabGet d t i

/-- `t` with `v` listed at key `i`, at its place in rising order. -/
def tabInsert {α : Type} (i : Nat) (v : α) : Tab α → Tab α
  | [] => [(i, v)]
  | (j, w) :: t =>
    if i < j then (i, v) :: (j, w) :: t
    else if i = j then (i, v) :: t
    else (j, w) :: tabInsert i v t

/-- `t` with no entry at key `i`. -/
def tabErase {α : Type} (i : Nat) : Tab α → Tab α
  | [] => []
  | (j, w) :: t => if i = j then tabErase i t else (j, w) :: tabErase i t

/-- `t` with entry `v` at key `i`; the default is never listed. -/
def tabSet {α : Type} [DecidableEq α] (d : α) (t : Tab α) (i : Nat) (v : α) : Tab α :=
  if v = d then tabErase i t else tabInsert i v t

/-- `t` with the entry at `i` replaced by its image under `f`. -/
def tabUpd {α : Type} [DecidableEq α] (d : α) (t : Tab α) (i : Nat) (f : α → α) : Tab α :=
  tabSet d t i (f (tabGet d t i))

/-- Write the values of a list at the keys `i`, `i + 1`, … -/
def tabSetMany {α : Type} [DecidableEq α] (d : α) (t : Tab α) (i : Nat) : List α → Tab α
  | [] => t
  | v :: vs => tabSetMany d (tabSet d t i v) (i + 1) vs

/-- Apply `f` to the entries at the keys of a list, in its order. -/
def tabUpdMany {α : Type} [DecidableEq α] (d : α) (t : Tab α) (ks : List Nat) (f : Nat → α → α) : Tab α :=
  ks.foldl (fun t k => tabUpd d t k (f k)) t

/-- The keys of a table are above `n` and strictly rising, and no entry is the default. -/
def tabWfFrom {α : Type} [DecidableEq α] (d : α) (lo : Nat) : Tab α → Bool
  | [] => true
  | (j, w) :: t => decide (lo ≤ j) && decide (w ≠ d) && tabWfFrom d (j + 1) t

/-- The canonical form of a table. -/
def tabWf {α : Type} [DecidableEq α] (d : α) (t : Tab α) : Bool := tabWfFrom d 0 t

/-- Keep the entries a test passes. -/
def tabFilter {α : Type} (p : Nat → α → Bool) (t : Tab α) : Tab α := t.filter (fun e => p e.1 e.2)

/-- Map the listed entries, dropping those that become the default. -/
def tabMap {α : Type} [DecidableEq α] (d : α) (f : Nat → α → α) (t : Tab α) : Tab α :=
  (t.map (fun e => (e.1, f e.1 e.2))).filter (fun e => decide (e.2 ≠ d))

/-- A list of numbers with later repeats dropped. -/
def nubNat : List Nat → List Nat
  | [] => []
  | x :: xs => x :: (nubNat xs).filter (fun y => y != x)

end Sys2Proof.Machine
end

