-- ==== Sys2Proof/Machine/Ops.lean ====
section
/-!
DEFINITION. The named operations every meaning is written over: how a meaning reaches the state, reading
and writing one unit, Cutting List values, outputs, free values, counters and machine-check records.
-/
set_option linter.unusedVariables false
set_option linter.constructorNameAsVariable false

namespace Sys2Proof.Machine

open Host (Outcome)

/-- A meaning that changes the package and leaves the queue: the one way a command acts. -/
def onDev (f : Dev → Dev) (s : State) : Outcome State Fault Refusal := .next { s with dev := f s.dev }

/-! ### Units -/

def hartOf (d : Dev) (h : Nat) : Hart := tabGet hartInit d.harts h
def updHart (d : Dev) (h : Nat) (f : Hart → Hart) : Dev := { d with harts := tabUpd hartInit d.harts h f }
def linkOf (d : Dev) (n : Nat) : Link := tabGet linkInit d.links n
def updLink (d : Dev) (n : Nat) (f : Link → Link) : Dev := { d with links := tabUpd linkInit d.links n f }
def dieOf (d : Dev) (n : Nat) : Die := tabGet dieInit d.dies n
def updDie (d : Dev) (n : Nat) (f : Die → Die) : Dev := { d with dies := tabUpd dieInit d.dies n f }
def sliceOf_ (d : Dev) (n : Nat) : SliceSt := tabGet sliceInit d.slices n
def updSlice (d : Dev) (n : Nat) (f : SliceSt → SliceSt) : Dev := { d with slices := tabUpd sliceInit d.slices n f }
def mscOf (d : Dev) (n : Nat) : MscSt := tabGet mscInit d.mscs n
def updMsc (d : Dev) (n : Nat) (f : MscSt → MscSt) : Dev := { d with mscs := tabUpd mscInit d.mscs n f }
def chanOf (d : Dev) (n : Nat) : ChanSt := tabGet chanInit d.chans n
def updChan (d : Dev) (n : Nat) (f : ChanSt → ChanSt) : Dev := { d with chans := tabUpd chanInit d.chans n f }
def subOf (d : Dev) (n : Nat) : SubSt := tabGet subInit d.subs n
def updSub (d : Dev) (n : Nat) (f : SubSt → SubSt) : Dev := { d with subs := tabUpd subInit d.subs n f }
def siteOf (d : Dev) (n : Nat) : SiteSt := tabGet siteInit d.sites n
def updSite (d : Dev) (n : Nat) (f : SiteSt → SiteSt) : Dev := { d with sites := tabUpd siteInit d.sites n f }
def jigOf (d : Dev) (n : Nat) : JigSt := tabGet jigInit d.jig n
def sessOf (d : Dev) (n : Nat) : Option Session := tabGet none d.list.sessions n
def updSess (d : Dev) (n : Nat) (f : Session → Session) : Dev :=
  { d with list := { d.list with sessions := tabUpd none d.list.sessions n (Option.map f) } }

/-- The die a hart is on, and its core there (R2). -/
def dieOfHart (h : Nat) : Nat := h / 18
def coreOfHart (h : Nat) : Nat := h % 18
/-- The harts of a die (R2). -/
def hartsOfDie (n : Nat) : List Nat := (List.range 18).map (fun k => 18 * n + k)

/-! ### Outputs and free values -/

/-- Append to the log of what leaves the package. -/
def emit (o : Out) (d : Dev) : Dev := { d with out := d.out ++ [o] }
def emitAll (os : List Out) (d : Dev) : Dev := { d with out := d.out ++ os }

/-- The free value next in line. -/
def freeVal (d : Dev) : Nat := Config.freeNat d.freeCtr
/-- Advance past a free value drawn. -/
def drawn (d : Dev) : Dev := { d with freeCtr := d.freeCtr + 1 }

/-! ### Digests and signatures (log entry 5) -/

/-- SHA-512. -/
def sha512 (bs : List Byte) : List Byte := padTo 64 (Config.std .sha [[2], bs])
/-- An Ed25519 signature by the key an identifier names. -/
def signWith (key : List Byte) (bs : List Byte) : List Byte := padTo 64 (Config.std .reportSign [key, bs])
/-- The public key of one. -/
def publicOf (key : List Byte) : List Byte := padTo 32 (Config.std .keyPublic [key])
/-- DEBUG_FUSES (R401): the enables that may be set. -/
def debugFuses (d : Dev) : Nat := packFields ((List.range 4).map (fun k => (b2n (!getBit d.fuses.debugOff k), k, 1)))
/-- KEY_SLOT_STATE (R401). -/
def slotState (d : Dev) : Nat :=
  let fused (t : Tab (List Byte)) (lo : Nat) : List (Nat × Nat × Nat) := (List.range 4).map (fun k => (b2n (tabGet [] t k != []), lo + k, 1))
  let revoked (l : List Nat) (lo : Nat) : List (Nat × Nat × Nat) := (List.range 4).map (fun k => (b2n (l.contains k), lo + k, 1))
  packFields ([(d.fuses.floor, 16, 7)] ++ revoked d.fuses.ownerRevoked 12 ++ fused d.fuses.ownerHash 8 ++ revoked d.fuses.vendorRevoked 4 ++
    fused d.fuses.vendorHash 0)
/-- The package's own keys (R393, R441), each by what it is derived from: DevID, boot ROM alias, firmware alias, the Gauge key. -/
def keyDevId : List Byte := [0]
def keyRom (d : Dev) : List Byte := [1] ++ leBytes 1 (debugFuses d) ++ leBytes 3 (slotState d)
def keyFirmware (d : Dev) : List Byte :=
  [2] ++ keyRom d ++ (sectsOf 2 d.boot.image).flatMap (fun s => sha512 (sectBytes d.boot.image s)) ++ sha512 (imgSigner d.boot.image) ++
    leBytes 4 (imgSecurity d.boot.image)
def keyGauge : List Byte := [3]
/-- The key of the highest layer available (R67, R395). -/
def keyTop (d : Dev) : List Byte := if d.boot.done.contains 5 then keyFirmware d else keyRom d
/-- The certificate of a key, signed by another. -/
def certOf (key signer : List Byte) : List Byte := Config.std .spdm [[0], key, signer]
/-- DEVICE_CERT_CHAIN. -/
def certChain (d : Dev) : List Byte :=
  certOf keyDevId [] ++ certOf (keyRom d) keyDevId ++ (if d.boot.done.contains 5 then certOf (keyFirmware d) (keyRom d) else [])

/-! ### Cores present (R2, R51) -/

/-- The ordering code is 204S. -/
def is204S (d : Dev) : Bool := d.fuses.ordering == 1
/-- The cores a die can run, by logical number: a physical core with its DEFECT bit set is never used, and of a 204S's the spare is set apart and the
logical cores are the rest in order, at most 17 (R1–R3, R155; DEDUCED, log entry 6). -/
def usableCores (d : Dev) (n : Nat) : Nat :=
  let f := (tabGet dieFusesInit d.fuses.die n).defects
  if is204S d then
    let spare := getBits f 19 5
    2 ^ min 17 (((List.range 18).filter (fun k => !getBit f k && k != spare)).length) - 1
  else 2 ^ 18 - 1 - f % 2 ^ 18
/-- CORES_PRESENT of a die: the fused map, without the cores that cannot run. -/
def coresPresent (d : Dev) (n : Nat) : Nat := Nat.land (tabGet (2 ^ 18 - 1) d.fuses.cores n) (usableCores d n)
/-- The hart exists on this package. -/
def hartPresent (d : Dev) (h : Nat) : Bool := decide (h < 216) && getBit (coresPresent d (h / 18)) (h % 18)

/-! ### Cutting List values (R25–R30) -/

/-- The key of index:subindex. -/
def ekey (idx sub : Nat) : Nat := idx * 256 + sub

/-- The row that lists an entry. -/
def entryRow (idx sub : Nat) : Option EntryRow :=
  entryRows.find? (fun r => decide (r.idxLo ≤ idx) && decide (idx ≤ r.idxHi) && decide (r.subLo ≤ sub) && decide (sub ≤ r.subHi))

/-- Some entry has this index. -/
def indexExists (idx : Nat) : Bool := entryRows.any (fun r => decide (r.idxLo ≤ idx) && decide (idx ≤ r.idxHi))

/-- The default of a stored numeric entry. -/
def entryDefault (idx sub : Nat) : Nat := match entryRow idx sub with | some r => r.dflt | none => 0

/-- A stored numeric entry's current value. -/
def ent (d : Dev) (idx sub : Nat) : Nat :=
  match tabGet none d.list.cur (ekey idx sub) with
  | some (.num n) => n
  | _ => entryDefault idx sub

/-- The value a stored numeric entry will hold after the next swap (R38). -/
def entNext (d : Dev) (idx sub : Nat) : Nat :=
  match tabGet none d.list.stg (ekey idx sub) with
  | some (.num n) => n
  | _ => ent d idx sub

/-- A stored octet entry's current value; empty when unset. -/
def entBytes (d : Dev) (idx sub : Nat) : List Byte :=
  match tabGet none d.list.cur (ekey idx sub) with
  | some (.bytes b) => b
  | _ => []

/-- The octets an entry will hold after the next swap. -/
def entBytesNext (d : Dev) (idx sub : Nat) : List Byte :=
  match tabGet none d.list.stg (ekey idx sub) with
  | some (.bytes b) => b
  | _ => entBytes d idx sub

/-- Set a stored entry's current value. -/
def setCur (d : Dev) (idx sub : Nat) (v : Option Val) : Dev :=
  { d with list := { d.list with cur := tabSet none d.list.cur (ekey idx sub) v } }
def setCurNat (d : Dev) (idx sub n : Nat) : Dev := setCur d idx sub (some (.num n))
/-- Stage a value, or withdraw what is staged (R30). -/
def setStg (d : Dev) (idx sub : Nat) (v : Option Val) : Dev :=
  { d with list := { d.list with stg := tabSet none d.list.stg (ekey idx sub) v } }
/-- An entry holds a staged value. -/
def isStaged (d : Dev) (idx sub : Nat) : Bool := (tabGet none d.list.stg (ekey idx sub)).isSome

/-- A dry-fit status entry (R42, R43). -/
def dryOf (d : Dev) (idx sub : Nat) : DryStatus := tabGet dryInit d.list.status (ekey idx sub)
def updDry (d : Dev) (idx sub : Nat) (f : DryStatus → DryStatus) : Dev :=
  { d with list := { d.list with status := tabUpd dryInit d.list.status (ekey idx sub) f } }
/-- R42's layout. -/
def dryPack (x : DryStatus) : Nat :=
  packFields [(x.reason, 32, 16), (x.index, 16, 16), (x.sub, 8, 8), (b2n x.atKerf, 1, 1), (b2n x.pend, 0, 1)]

/-! ### Counters (R468) and machine-check records (R481) -/

def ctrKey (bank unit slot : Nat) : Nat := bank * 2 ^ 20 + unit * 2 ^ 8 + slot
/-- `n` more on a 48-bit counter, OVF in bit 63 once it wraps. -/
def ctrAdd (v n : Nat) : Nat :=
  let c := v % 2 ^ 48 + n
  packFields [(c % 2 ^ 48, 0, 48), (b2n (getBit v 63 || decide (2 ^ 48 ≤ c)), 63, 1)]
/-- Count `n` events. -/
def count (bank unit slot n : Nat) (d : Dev) : Dev :=
  { d with obs := { d.obs with ctr := tabUpd 0 d.obs.ctr (ctrKey bank unit slot) (fun v => ctrAdd v n) } }

/-- The package bank's slots (R473). -/
def pkgMsiOffline : Nat := 0
def pkgImswLost : Nat := 1
def pkgBar2 : Nat := 2
def pkgClaimDenied : Nat := 3
def pkgFnDenied : Nat := 4
def pkgGaugeWrite : Nat := 5
def pkgMmwrDiscarded : Nat := 6
def pkgMcRecords : Nat := 7
def pkgMcOverwritten : Nat := 8
def pkgIommuFaults : Nat := 9
def pkgSampleStops : Nat := 10
def pkgHoldDeferrals : Nat := 11
def countPkg (slot : Nat) (d : Dev) : Dev := count 0x9014 0 slot 1 d
/-! ### Worlds and enclaves (R365, R370, R377) -/

/-- The secure world exists (R365). -/
def secureExists (d : Dev) : Bool := ent d 0x7000 1 == 1
/-- tworld.WORLD in a mode of a hart. -/
def worldSecure (d : Dev) (x : Hart) (m : Mode) : Bool := secureExists d && (m == .m || x.lowerSecure)
def enclOf (d : Dev) (e : Nat) : Enclave := tabGet enclaveInit d.encl e
def updEncl (d : Dev) (e : Nat) (f : Enclave → Enclave) : Dev := { d with encl := tabUpd enclaveInit d.encl e f }
/-- The DEBUG_FUSES bit of the enable 0x7002:(k + 1) (R401). -/
def debugFuseBit (k : Nat) : Nat := match k with | 0 => 1 | 1 => 0 | 2 => 3 | _ => 2
/-- An enable that the fuses forbid is never in force (R387). -/
def debugEnable (d : Dev) (k : Nat) : Bool := ent d 0x7002 (k + 1) == 1 && !getBit d.fuses.debugOff (debugFuseBit k)
/-- Non-invasive permission of an enclave (R387): the enable of its WORLD and DBG_NONINV. -/
def enclNonInv (d : Dev) (e : Nat) : Bool :=
  debugEnable d (if getBit (enclOf d e).attr 2 then 3 else 1) && getBit (enclOf d e).attr 0
/-- Invasive permission of an enclave (R387). -/
def enclInv (d : Dev) (e : Nat) : Bool :=
  debugEnable d (if getBit (enclOf d e).attr 2 then 2 else 0) && getBit (enclOf d e).attr 1

/-- The bank an event of a hart counts into (R469): by the context of a hart that runs, by the lower world of one that rests. -/
def eventBank (d : Dev) (h : Nat) : Option Nat :=
  let x := hartOf d h
  let s := if x.rest == .running then worldSecure d x x.mode else secureExists d && x.lowerSecure
  if x.eid ≠ 0 then
    (if enclNonInv d x.eid then some (if getBit (enclOf d x.eid).attr 2 then 0x9001 else 0x9000) else none)
  else some (if s then 0x9001 else 0x9000)

/-- The mode filters of an mhpmevent: MINH, SINH, UINH, VSINH, VUINH (R471). -/
def hpmFiltered (ev : Nat) : Mode → Bool
  | .m => getBit ev 62
  | .hs => getBit ev 61
  | .u => getBit ev 60
  | .vs => getBit ev 59
  | .vu => getBit ev 58

/-- mhpmcounters that count event `c` step by `n`; one that overflows sets its OF and, where OF was 0, makes local interrupt 13 pending (R471). -/
def hpmStep (c n : Nat) (x : Hart) : Hart :=
  (List.range 29).foldl (fun x i =>
    let ev := (tabGet 0 x.csr (0x323 + i)).toNat
    if ev % 256 = c ∧ getBit (tabGet 0 x.csr 0x320).toNat (i + 3) = false ∧ hpmFiltered ev x.mode = false then
      let v := (tabGet 0 x.csr (0xB03 + i)).toNat
      let x := { x with csr := tabSet 0 x.csr (0xB03 + i) (BitVec.ofNat 64 (v + n)) }
      if 2 ^ 64 ≤ v + n ∧ getBit ev 63 = false then
        { x with csr := tabSet 0 x.csr (0x323 + i) (BitVec.ofNat 64 (setBit ev 63 true)), irqPending := nubNat (x.irqPending ++ [13]) }
      else x
    else x) x

/-- Count `n` events of a hart (R469–R471): event code `c` occupies slot c − 1. -/
def countHartN (h c n : Nat) (d : Dev) : Dev :=
  match eventBank d h with
  | none => d
  | some b =>
    let d := count b h (c - 1) n d
    if b = 0x9000 ∨ debugEnable d 3 then updHart d h (hpmStep c n) else d
/-- Count one event of a hart. -/
def countHart (h c : Nat) (d : Dev) : Dev := countHartN h c 1 d
def countSlice (n slot : Nat) (d : Dev) : Dev := count 0x9010 n slot 1 d
def countChan (n slot : Nat) (d : Dev) : Dev := count 0x9011 n slot 1 d
def countBench (n slot : Nat) (d : Dev) : Dev := count 0x9012 n slot 1 d
def countDie (n slot : Nat) (d : Dev) : Dev := count 0x9013 n slot 1 d

/-- The fields a unit gives its record; the rest is filled in when it is written. -/
structure McEvent where
  bank : Nat        -- 0x9200 dies, 0x9201 slices, 0x9202 benches, 0x9203 the hub
  unitNo : Nat
  severity : Nat
  source : Nat
  unit : Nat
  code : Nat := 0
  paddr : Option Nat := none
  detail0 : Nat := 0
  detail1 : Nat := 0
  count : Nat := 0
  speculative : Bool := false
  mirrored : Bool := false
  hart : Nat := 0xFFFF
deriving DecidableEq, Repr

/-- Records a bank holds (R486). -/
def mcCap (bank : Nat) : Nat := if bank = 0x9203 then 256 else 64

/-- The mark a record leaves: the ring, its overwrite count, and source 8 of the machine-level APLIC (R481). -/
def mcWrite (e : McEvent) (d : Dev) : Dev :=
  let key := e.bank * 2 ^ 8 + e.unitNo
  let ring := tabGet [] d.obs.mc key
  let full := decide (mcCap e.bank ≤ ring.length)
  let r : McRec :=
    { severity := e.severity, source := e.source, unit := e.unit, code := e.code, paddr := e.paddr.getD 0,
      kerf := d.kerf.counter, time := d.now, detail0 := e.detail0, detail1 := e.detail1, count := e.count,
      flags := packFields [(b2n e.speculative, 0, 1), (b2n (tabGet false d.obs.mcOvf key), 1, 1), (b2n e.mirrored, 2, 1), (b2n e.paddr.isSome, 3, 1)],
      hart := e.hart, seq := d.obs.mcSeq + 1 }
  let d := { d with obs := { d.obs with
    mc := tabSet [] d.obs.mc key (if full then ring.drop 1 ++ [r] else ring ++ [r]),
    mcOvf := tabSet false d.obs.mcOvf key full, mcSeq := d.obs.mcSeq + 1 } }
  let d := countPkg pkgMcRecords d
  let d := if full then countPkg pkgMcOverwritten d else d
  if e.severity = 0 then d else emit (.aplic (.other 8)) d

/-- R481's layout of a record. -/
def mcBytes (r : McRec) : List Byte :=
  leBytes 2 1 ++ leBytes 1 r.severity ++ leBytes 1 r.source ++ leBytes 2 r.unit ++ leBytes 2 r.code ++ leBytes 8 r.paddr ++
  leBytes 8 r.kerf ++ leBytes 8 r.time ++ leBytes 8 r.detail0 ++ leBytes 8 r.detail1 ++ leBytes 4 r.count ++
  leBytes 2 r.flags ++ leBytes 2 r.hart ++ leBytes 8 r.seq

/-- A hart's sampling stops with a code: EN clears, the stop is counted, and interrupt 25 rises where IRQ asks for it (R479). -/
def sampleStop (h code : Nat) (d : Dev) : Dev :=
  countPkg pkgSampleStops (updHart d h (fun x =>
    { x with hsEn := false, hsStop := code, irqPending := if x.hsIrq then nubNat (x.irqPending ++ [25]) else x.irqPending }))

end Sys2Proof.Machine
end

