-- ==== Sys2Proof/Machine/Address.lean ====
section
/-!
DEFINITION. Where a physical address lives: the mapping masks (R242–R244), main memory (R132, R241, R262),
the home slice (R175), the MSC index (R222) and the mirrored set (R408).
-/
set_option linter.unusedVariables false

namespace Sys2Proof.Machine

/-- The line address of a physical address. -/
def lineOf (pa : Nat) : Nat := pa / 64

/-- A mapping mask (R242). -/
def maskOf (d : Dev) (i : Nat) : Nat := ent d 0x4020 i

/-- The exclusive-or of the address bits a mask selects. -/
def maskBit (mask pa : Nat) : Nat := popCount (Nat.land mask pa) 46 % 2

/-- The pivot of a mask: its lowest set bit (R242). -/
def pivot (mask : Nat) : Option Nat := (onesOf mask 64).head?

/-- The channel of a DRAM address: CHAN3 CHAN2 CHAN1 CHAN0 (R244). -/
def chanOfPa (d : Dev) (pa : Nat) : Nat :=
  maskBit (maskOf d 0) pa + 2 * maskBit (maskOf d 1) pa + 4 * maskBit (maskOf d 2) pa + 8 * maskBit (maskOf d 3) pa

/-- The subchannel bit: 0 CHn.A, 1 CHn.B (R244). -/
def subOfPa (d : Dev) (pa : Nat) : Nat := maskBit (maskOf d 4) pa

/-- Close up the bits of `pa` at the positions of a list, in its order. -/
def gather (pa : Nat) : List Nat → Nat
  | [] => 0
  | p :: ps => b2n (getBit pa p) + 2 * gather pa ps

/-- Address bits [45:6] but the pivots of masks [0, n) (R244). -/
def keptBits (d : Dev) (n : Nat) : List Nat :=
  let piv := (List.range n).filterMap (fun i => pivot (maskOf d i))
  ((List.range 40).map (· + 6)).filter (fun b => !piv.contains b)

/-- The channel line number CLN (R222, R244). -/
def clnOf (d : Dev) (pa : Nat) : Nat := gather pa (keptBits d 4)

/-- Bank group and bank of a line, as one number of five bits (R244). -/
def bankOf (d : Dev) (pa : Nat) : Nat :=
  maskBit (maskOf d 5) pa + 2 * maskBit (maskOf d 6) pa + 4 * maskBit (maskOf d 7) pa +
  8 * maskBit (maskOf d 8) pa + 16 * maskBit (maskOf d 9) pa

/-- What is left inside the channel when every pivot is deleted: column, rank, row (R244). -/
def insideOf (d : Dev) (pa : Nat) : Nat := gather pa (keptBits d 10)
def columnOf (d : Dev) (pa : Nat) : Nat := insideOf d pa % 128 * 16
def rankOf (d : Dev) (pa : Nat) : Nat := insideOf d pa / 128 % max 1 (chanOf d (chanOfPa d pa)).dimm.ranks
def rowOf (d : Dev) (pa : Nat) : Nat := insideOf d pa / 128 / max 1 (chanOf d (chanOfPa d pa)).dimm.ranks

/-- Channels whose enable is 1 (R240). -/
def enabledChans (d : Dev) : List Nat := (List.range 16).filter (fun n => ent d 0x4000 (n + 1) == 1)

/-- The installed total (R241): enabled channels times the channel capacity. -/
def installed (d : Dev) : Nat :=
  match enabledChans d with
  | [] => 0
  | c :: cs => (cs.length + 1) * 2 ^ (chanOf d c).dimm.capLog2

/-- An address of DRAM of a trained and enabled channel (R132, R241). -/
def isDram (d : Dev) (pa : Nat) : Bool :=
  decide (pa < installed d) && ent d 0x4000 (chanOfPa d pa + 1) == 1 && (chanOf d (chanOfPa d pa)).state == 2

/-- The window of a CXL Type 3 device that holds an address and has been mapped (R262, R263). -/
def cxlWindow (d : Dev) (pa : Nat) : Option Nat :=
  (List.range 16).find? (fun i =>
    let st := tabGet 0 d.cxlState i
    (st == 1 || st == 4) && decide (ent d 0x4030 (i + 1) ≤ pa) && decide (pa < ent d 0x4030 (i + 1) + ent d 0x4031 (i + 1)))

/-- Main memory (R132). -/
def isMain (d : Dev) (pa : Nat) : Bool := isDram d pa || (cxlWindow d pa).isSome

/-- The home slice of a main-memory line (R175). -/
def homeSlice (d : Dev) (pa : Nat) : Nat :=
  if pa < 0x1000_0000_0000 then chanOfPa d pa
  else Nat.xor (getBits pa 6 4) (getBits pa 10 4)

/-- The directory set of a line within its slice (R175). -/
def dirSet (line : Nat) : Nat := line % 2 ^ 41 % 81920

/-- The MSC index of a line (R222). -/
def mscIndex (d : Dev) (line : Nat) : Nat :=
  let c := clnOf d (line * 64)
  Nat.xor (getBits c 0 19) (getBits c 19 14 * 32 % 2 ^ 19)

/-- The MSC table's key of a line: slice and index. -/
def mscKey (d : Dev) (line : Nat) : Nat := chanOfPa d (line * 64) * 2 ^ 19 + mscIndex d line

/-- The granule of a line in its channel's map (R258). -/
def granuleOf (d : Dev) (line : Nat) : Nat := clnOf d (line * 64) / 16384

/-! ### The mirrored set (R408) -/

/-- An address lies in a region of the mirrored set other than its POT lines. -/
def inMirrorBase (d : Dev) (pa : Nat) : Bool :=
  (List.range 16).any (fun i => decide (ent d 0x6010 (i + 1) ≤ pa) && decide (pa < ent d 0x6010 (i + 1) + ent d 0x6011 (i + 1))) ||
  (decide (ent d 0x6001 0 ≤ pa) && decide (pa < ent d 0x6001 0 + 8388608)) ||
  (List.range 4).any (fun b => decide (ent d 0x5003 (b + 1) ≤ pa) && decide (pa < ent d 0x5003 (b + 1) + ent d 0x5004 (b + 1)))

/-- An address lies in the mirrored set: a region, the checkpoint block, a key store, or a POT line that
covers a page of these (R408). -/
def inMirror (d : Dev) (pa : Nat) : Bool :=
  inMirrorBase d pa ||
  (decide (d.pot.base ≤ pa) && decide (pa < d.pot.base + d.pot.size) &&
    (List.range 32).any (fun k => inMirrorBase d (((pa - d.pot.base) / 64 * 32 + k) * 4096)))

/-- The address lies in the STANDBY's log (R407, R416). -/
def inLog (d : Dev) (pa : Nat) : Bool :=
  decide (ent d 0x6001 1 ≤ pa) && decide (pa < ent d 0x6001 1 + ent d 0x6001 2)

end Sys2Proof.Machine
end

