-- ==== Sys2Proof/Machine/Dowel.lean ====
section
/-!
DEFINITION. What the mirror streams: Dowel records (R403, R404) and the LINE record of every write of a
mirrored line into memory (R409).
-/
set_option linter.unusedVariables false

namespace Sys2Proof.Machine

/-- The sub-link a slice's records take: S0–S7 on D0, S8–S15 on D1, the other one while it is down (R404). -/
def subLinkOf (d : Dev) (slice : Nat) : Nat :=
  if slice < 8 then (if d.mirror.w0 = 0 then 1 else 0) else (if d.mirror.w1 = 0 then 0 else 1)
/-- The sub-link of every other record: D0, or D1 while D0 is down (R404). -/
def subLinkMain (d : Dev) : Nat := if d.mirror.w0 = 0 then 1 else 0

/-- Send a record that no slice owns. -/
def sendDowel (typ : Nat) (body : List Byte) (d : Dev) : Dev :=
  emit (.dowel (subLinkMain d) typ d.kerf.counter body) d

/-- A LINE or COPY record (R403). -/
def lineRecBytes (typ epoch line : Nat) (data : Line) (poison : Bool) : List Byte :=
  leBytes 1 (typ * 16 + b2n poison * 8) ++ leBytes 1 epoch ++ leBytes 6 line ++ lineBytes data

/-- The package streams its writes of the mirrored set: the PRIMARY while forming or paired (R407, R409). -/
def streaming (d : Dev) : Bool := d.mirror.role == 1 && (d.mirror.phase == 1 || d.mirror.phase == 2)

/-- The LINE record of a write of a line into memory (R409); nothing for a line outside the set. -/
def mirrorLine (line : Nat) (data : Line) (poison : Bool) (d : Dev) : Dev :=
  if streaming d && inMirror d (line * 64) then
    let sl := homeSlice d (line * 64)
    let r := lineRecBytes 1 d.kerf.counter line data poison
    let d := { d with mirror := { d.mirror with
      lineLog := tabUpd [] d.mirror.lineLog sl (fun l => l ++ [r]) } }
    emit (.dowel (subLinkOf d sl) 1 d.kerf.counter r) d
  else d

end Sys2Proof.Machine
end

