-- ==== Sys2Proof/Machine/Memory.lean ====
section
/-!
DEFINITION. The memory side: DRAM contents and poison marks (R69, R258–R260), a channel's write queue (R245),
the eviction buffer and array of an MSC slice (R224–R231), and one read and one write of a line through them.
Waiting for room in a queue is taken within the access: the queue's oldest entry leaves first (log entry 8).
-/
set_option linter.unusedVariables false

namespace Sys2Proof.Machine

/-! ### Bytes -/

/-- What a byte that is not listed reads: zero (R69), or an undefined byte once contents have become undefined (R74). -/
def memBase (d : Dev) (a : Nat) : Byte := if d.memGen = 0 then 0 else Config.undefByte d.memGen a
/-- One byte of DRAM or CXL memory. -/
def memByte (d : Dev) (a : Nat) : Byte := tabGet 0 d.mem a ^^^ memBase d a
/-- The bytes `[a, a + n)`. -/
def memBytes (d : Dev) (a n : Nat) : List Byte := (List.range n).map (fun i => memByte d (a + i))
/-- Write a byte string at `a`. -/
def setMem (a : Nat) (bs : List Byte) (d : Dev) : Dev :=
  { d with mem := tabSetMany 0 d.mem a (bs.mapIdx (fun i b => b ^^^ memBase d (a + i))) }

/-- A line as DRAM holds it, with its poison mark. -/
def dramLine (d : Dev) (line : Nat) : Line × Bool :=
  (bytesLine (memBytes d (line * 64) 64), tabGet false d.poison line)

/-- Write a line into DRAM: data, poison mark, and the granule's zeroed mark (R258, R260). -/
def dramStore (line : Nat) (data : Line) (poison : Bool) (d : Dev) : Dev :=
  let d := { setMem (line * 64) (lineBytes data) d with poison := tabSet false d.poison line poison }
  if line * 64 < 0x1000_0000_0000 then
    updChan d (chanOfPa d (line * 64)) (fun c => { c with granules := tabSet false c.granules (granuleOf d line) true })
  else d

/-! ### A channel's write queue (R245) -/

/-- The subchannel table's key of a line. -/
def subKey (d : Dev) (line : Nat) : Nat := 2 * chanOfPa d (line * 64) + subOfPa d (line * 64)

/-- Write the oldest entry of a write queue into DRAM. -/
def wqIssueOldest (k : Nat) (d : Dev) : Dev :=
  match (subOf d k).wq with
  | [] => d
  | e :: r => countChan (k / 2) 1 (updSub (dramStore e.line e.data e.poison d) k (fun s => { s with wq := r }))

/-- Empty a write queue into DRAM (self-refresh entry, a switch, a warm reset). -/
def wqDrain (k : Nat) (d : Dev) : Dev :=
  (subOf d k).wq.foldl (fun d _ => wqIssueOldest k d) d

/-- Rule 1 of R246: the queue drains from WQ_HIGH down to WQ_LOW; the start of a drain is counted. -/
def wqMark (k : Nat) (d : Dev) : Dev :=
  let s := subOf d k
  if ent d 0x4021 0 ≤ s.wq.length then
    (if s.draining then d else countChan (k / 2) 5 (updSub d k (fun s => { s with draining := true })))
  else if s.wq.length ≤ ent d 0x4021 1 then updSub d k (fun s => { s with draining := false })
  else d

/-- Hand a line to the channel: an entry for it is replaced, else it joins the queue, whose oldest entry issues when all 64 are in use. -/
def chanWrite (line : Nat) (data : Line) (poison : Bool) (d : Dev) : Dev :=
  let k := subKey d line
  if (subOf d k).wq.any (fun e => e.line == line) then
    updSub d k (fun s => { s with wq := s.wq.map (fun e => if e.line = line then { e with data := data, poison := poison } else e) })
  else
    let full := decide (64 ≤ (subOf d k).wq.length)
    let d := if full then countChan (chanOfPa d (line * 64)) 4 (wqIssueOldest k d) else d
    wqMark k (updSub d k (fun s => { s with wq := s.wq ++ [{ line := line, data := data, poison := poison, at_ := d.now }] }))

/-- The queued write of a line, if any (R245: served from the queue). -/
def wqFind (d : Dev) (line : Nat) : Option (Line × Bool) :=
  ((subOf d (subKey d line)).wq.find? (fun e => e.line == line)).map (fun e => (e.data, e.poison))

/-- What the channel returns for a line: its queued write, else DRAM. -/
def chanRead (d : Dev) (line : Nat) : Line × Bool := (wqFind d line).getD (dramLine d line)

/-! ### An MSC slice (R224–R231) -/

/-- The array's line at the index of `line`. -/
def mscAt (d : Dev) (line : Nat) : Option MscLine := tabGet none d.msc (mscKey d line)
/-- The array holds `line`. -/
def mscHit (d : Dev) (line : Nat) : Option MscLine := (mscAt d line).filter (fun e => e.line == line)
/-- Set the index of `line`. -/
def mscPut (line : Nat) (e : Option MscLine) (d : Dev) : Dev := { d with msc := tabSet none d.msc (mscKey d line) e }
/-- The eviction buffer's entry for a line. -/
def evbFind (d : Dev) (line : Nat) : Option (Line × Bool) :=
  ((mscOf d (chanOfPa d (line * 64))).evb.find? (fun e => e.1 == line)).map (fun e => e.2)
/-- Free a line's eviction-buffer entry. -/
def evbFree (line : Nat) (d : Dev) : Dev :=
  updMsc d (chanOfPa d (line * 64)) (fun s => { s with evb := s.evb.filter (fun e => e.1 != line) })
/-- The oldest eviction-buffer entry leaves for the channel (R227). -/
def evbDrainOne (n : Nat) (d : Dev) : Dev :=
  match (mscOf d n).evb with
  | [] => d
  | e :: r => chanWrite e.1 e.2.1 e.2.2 (updMsc d n (fun s => { s with evb := r }))

/-- A dirty victim leaves by the slice's eviction mode (R226). -/
def mscVictim (e : MscLine) (d : Dev) : Dev :=
  let n := chanOfPa d (e.line * 64)
  let d := countSlice n 61 d
  if ent d 0x4102 (n + 1) = 0 then chanWrite e.line e.data e.poison d
  else
    let d := if 512 ≤ (mscOf d n).evb.length then evbDrainOne n (countSlice n 62 d) else d
    updMsc d n (fun s => { s with evb := s.evb ++ [(e.line, e.data, e.poison)] })

/-- Place a line in the array; a different dirty line at the index leaves first, a clean one is dropped. -/
def mscPlace (line : Nat) (data : Line) (dirty poison : Bool) (d : Dev) : Dev :=
  let d := match mscAt d line with
    | some e => if e.line ≠ line ∧ e.dirty then mscVictim e d else d
    | none => d
  mscPut line (some { line := line, data := data, dirty := dirty, poison := poison }) d

/-- A read that the slice serves without DRAM: from the array, or from the buffer, whose line moves back into an enabled array, dirty (R224, R227). That
hits and misses are counted of reads only, and those of a flushing slice too, is the model's choice (DESIGN CHOICE, log entry 59). -/
def mscServe (line : Nat) (d : Dev) : Option ((Line × Bool) × Dev) :=
  let n := chanOfPa d (line * 64)
  let st := (mscOf d n).state
  if st = 0 then none
  else match mscHit d line with
    | some e => some ((e.data, e.poison), countSlice n 59 d)
    | none => match evbFind d line with
      | some (x, p) =>
        if st = 1 then some ((x, p), mscPlace line x true p (evbFree line (countSlice n 59 d)))
        else some ((x, p), countSlice n 59 d)
      | none => none

/-- The fill of a read that missed (R224): an enabled slice takes the line clean. -/
def mscFill (line : Nat) (data : Line) (poison : Bool) (d : Dev) : Dev :=
  if (mscOf d (chanOfPa d (line * 64))).state = 1 ∧ mscHit d line = none then mscPlace line data false poison d else d

/-- A full-line write on the memory side (R224, R227, R231, R263); it counts no hit or miss (log entry 59). -/
def mscWrite (line : Nat) (data : Line) (poison : Bool) (d : Dev) : Dev :=
  if 0x1000_0000_0000 ≤ line * 64 then dramStore line data poison d
  else
    let n := chanOfPa d (line * 64)
    match (mscOf d n).state with
    | 0 => chanWrite line data poison d
    | 1 => mscPlace line data true poison (evbFree line d)
    | _ =>
      if (mscHit d line).isSome then chanWrite line data poison (mscPut line none d)
      else if (evbFind d line).isSome then
        updMsc d n (fun s => { s with evb := s.evb.map (fun e => if e.1 = line then (line, data, poison) else e) })
      else chanWrite line data poison d

/-- Memory as the directory sees it: the MSC in front of DRAM, or a CXL device (R171, R186). A failed CXL window
returns poison (R263). -/
def memLine (d : Dev) (line : Nat) : Line × Bool :=
  match cxlWindow d (line * 64) with
  | some w => if tabGet 0 d.cxlState w = 4 then (0, true) else dramLine d line
  | none =>
    if (mscOf d (chanOfPa d (line * 64))).state = 0 then chanRead d line
    else match mscHit d line with
      | some e => (e.data, e.poison)
      | none => (evbFind d line).getD (chanRead d line)

/-- Write a line into memory, and stream it when it is mirrored (R186, R224, R409). A write to a failed CXL window is lost (R263). -/
def memWrite (line : Nat) (data : Line) (poison : Bool) (d : Dev) : Dev :=
  match cxlWindow d (line * 64) with
  | some w => if tabGet 0 d.cxlState w = 4 then d else dramStore line data poison d
  | none => mirrorLine line data poison (mscWrite line data poison d)

end Sys2Proof.Machine
end

