-- ==== Sys2Proof/Machine/Sheets.lean ====
section
/-!
DEFINITION. Lane sheets: reading, extending, narrowing and checking them (R146, R147, R149).
-/
set_option linter.unusedVariables false

namespace Sys2Proof.Machine

/-- CRC-8 with polynomial 0x07 over bits [55:0], from the most significant bit (R146; the bit order is DEDUCED, log entry 15). -/
def crc8 (v : Nat) : Nat :=
  (List.range 56).foldl (fun c i =>
    let b := Nat.xor (c / 128) (v / 2 ^ (55 - i) % 2)
    let c := c * 2 % 256
    if b = 1 then Nat.xor c 7 else c) 0

/-- CRC-16 with polynomial 0x1021 and initial value 0xFFFF over the eight little-endian bytes (R149). -/
def sheetDigest (s : Nat) : Nat :=
  (leBytes 8 s).foldl (fun c b => (List.range 8).foldl (fun c i =>
    let x := Nat.xor (c / 2 ^ 15) (b.toNat / 2 ^ (7 - i) % 2)
    let c := c * 2 % 2 ^ 16
    if x = 1 then Nat.xor c 0x1021 else c) c) 0xFFFF

/-- A sheet with its CHECK written. -/
def sealSheet (s : Nat) : Nat := setBits s 56 8 (crc8 (s % 2 ^ 56))
/-- CHECK of a fused sheet holds, with SHEET_VER 1. -/
def sheetOk (s : Nat) : Bool := getBits s 56 8 == crc8 (s % 2 ^ 56) && getBits s 52 4 == 1

def sheetWidth (s : Nat) : Nat := getBits s 42 2
def sheetGroup (s : Nat) : Nat := getBits s 40 2
def spareBad (s : Nat) : Nat := getBits s 48 4
def clkBad (s : Nat) : Nat := getBits s 44 2
/-- The data lane on spare `k`, if its slot is valid. -/
def slotLane (s k : Nat) : Option Nat := if getBit s (8 * k + 7) then some (getBits s (8 * k) 6) else none
/-- The repaired lanes of a sheet. -/
def repaired (s : Nat) : List Nat := (List.range 4).filterMap (slotLane s)
/-- Put a lane on a spare. -/
def setSlot (s k lane : Nat) : Nat := setBits s (8 * k) 8 (128 + lane % 64)
def clearSlot (s k : Nat) : Nat := setBits s (8 * k) 8 0

/-- Lanes of a group at a width: 1 x16, 2 x32, 3 x64. -/
def groupLanes (width group : Nat) : List Nat :=
  match width with
  | 3 => List.range 64
  | 2 => (List.range 32).map (fun i => 32 * group + i)
  | _ => (List.range 16).map (fun i => 16 * group + i)

/-- The widest clean group no wider than `width`, lowest first (R147). -/
def chooseGroup (bad : Nat → Bool) (width : Nat) : Option (Nat × Nat) :=
  ((if 3 ≤ width then [(3, 0)] else []) ++ (if 2 ≤ width then [(2, 0), (2, 1)] else []) ++ [(1, 0), (1, 1), (1, 2), (1, 3)]).find?
    (fun wg => (groupLanes wg.1 wg.2).all (fun l => !bad l))

/-- Set WIDTH and GROUP. -/
def setShape (s w g : Nat) : Nat := sealSheet (setBits (setBits s 42 2 w) 40 2 g)

/-- A sheet extended by a lane test: newly bad spares and clocks are marked, a lane whose spare is bad is bad again, and newly bad lanes
take the free good spares in ascending order (R147). Answers the sheet and the mask of bad lanes left unrepaired. -/
def extendSheet (s known : Nat) (t : LaneTest) : Nat × Nat :=
  let s := setBits s 48 4 (Nat.lor (spareBad s) (t.spares % 16))
  let s := setBits s 44 2 (Nat.lor (clkBad s) (t.clocks % 4))
  let lost := (List.range 4).filterMap (fun k => if getBit (spareBad s) k then slotLane s k else none)
  let s := (List.range 4).foldl (fun s k => if getBit (spareBad s) k then clearSlot s k else s) s
  let want := (List.range 64).filter (fun l => (getBit t.data l || getBit known l || lost.contains l) && !(repaired s).contains l)
  let r := want.foldl (fun (a : Nat × List Nat) l =>
    match (List.range 4).find? (fun k => !getBit (spareBad a.1) k && (slotLane a.1 k).isNone) with
    | some k => (setSlot a.1 k l, a.2)
    | none => (a.1, a.2 ++ [l])) (s, [])
  (r.1, r.2.foldl (fun m l => m + 2 ^ l) 0)

/-- The working sheet the hub trains with: extended, then WIDTH and GROUP (R147); none where no x16 group is clean or no clock is usable. -/
def buildSheet (s known : Nat) (t : LaneTest) : Option (Nat × Nat) :=
  let r := extendSheet s known t
  if clkBad r.1 = 3 then none
  else (chooseGroup (fun l => getBit r.2 l) 3).map (fun wg => (setShape r.1 wg.1 wg.2, r.2))

/-- The next narrower sheet when the ends disagree (R149): lanes in only one sheet count as bad, and the group is clean in both; none at x16. -/
def narrowSheet (hub die hubBad : Nat) : Option Nat :=
  if sheetWidth hub ≤ 1 then none
  else
    let inHub := groupLanes (sheetWidth hub) (sheetGroup hub)
    let inDie := groupLanes (sheetWidth die) (sheetGroup die)
    let bad (l : Nat) : Bool := ((repaired hub).contains l != (repaired die).contains l) || getBit hubBad l || !inHub.contains l || !inDie.contains l
    (chooseGroup bad (sheetWidth hub - 1)).map (fun wg => setShape hub wg.1 wg.2)

end Sys2Proof.Machine
end

