-- ==== Sys2Proof/Machine/DieCache.lean ====
section
/-!
DEFINITION. Sending over a tenon link (R142–R145, R178–R181), and a compute die's caches: the lines it holds and where (R171–R174), the room of
the L1s, L2s, L3 and snoop filter (R21, R80, R174), the write-back buffer (R195), and what the loss of a line kills (R117, R118, R136, R187).
-/
set_option linter.unusedVariables false

namespace Sys2Proof.Machine

/-! ### Sending -/

/-- The virtual channel of an opcode (R142, R179). -/
def vcOf : Op → Nat
  | .rds | .rdc | .rdw | .rdx | .upg | .zro | .cln | .fls | .inv | .ncrd | .ncwr | .imsw => 0
  | .fwdS | .fwdX | .snpInv | .snpPeek | .snpClean | .snpFlush | .binv => 1
  | .snpAck | .fwdAck | .killDone | .protEnd | .cmp | .wbAck | .wbXack | .kdone => 2
  | .dataS | .dataE | .dataM | .dataNc | .dataSnp => 3
  | .wbM | .evn | .wbP => 4

/-- A blank message of a die with its current incarnation (R181). -/
def msgOf (d : Dev) (op : Op) (die : Nat) : FMsg :=
  { op := op, up := false, die := die, inc := (dieOf d die).inc, txid := 0, rtag := 0, core := 0, poison := false, dirty := false,
    kp := false, prot := false, held := false, addr := 0, size := 0, reqDie := 0, data := 0 }

def bundleOf (l : Link) (up : Bool) : Bundle := if up then l.up else l.down
def updBundle (n : Nat) (up : Bool) (f : Bundle → Bundle) (d : Dev) : Dev :=
  updLink d n (fun l => if up then { l with up := f l.up } else { l with down := f l.down })

/-- Credits a transmitter holds on a virtual channel (R143). -/
def creditsOf (b : Bundle) (vc : Nat) : Nat :=
  64 - (tabGet 0 b.used vc + 65536 - tabGet 0 b.returned vc) % 65536
/-- A message flit of a virtual channel may leave: a credit is held, and fewer than 512 are unacknowledged (R143, R144). -/
def mayLeave (b : Bundle) (vc : Nat) : Bool := decide (0 < creditsOf b vc) && decide (b.unacked.length < 512)
/-- Message flits stall while the link trains or recovers (R145, R151). -/
def linkStalls (l : Link) : Bool := l.state == .recovery || l.state == .training
/-- A message over a die's link arrives only while message flits pass there. -/
def overLink (m : FMsg) (f : Dev → Dev) (d : Dev) : Dev := if linkStalls (linkOf d m.die) then d else f d
/-- The ACK a bundle's flits carry: the last SEQ received in order on the opposite bundle (R142). -/
def ackOf (l : Link) (up : Bool) : Nat := ((bundleOf l (!up)).rxSeq + 4095) % 4096

/-- Queued messages leave as credits and room allow: in order within a virtual channel, one channel not waiting for another (R180). Answers the
bundle and the messages sent, each with its SEQ; `stuck` are the channels that wait, `kept` what stays queued. -/
def bundleDrain : List FMsg → List Nat → Bundle → List FMsg → List (Nat × FMsg) → Bundle × List (Nat × FMsg)
  | [], _, b, kept, sent => ({ b with queue := kept }, sent)
  | m :: q, stuck, b, kept, sent =>
    let vc := vcOf m.op
    if !stuck.contains vc && mayLeave b vc then
      bundleDrain q stuck
        { b with txSeq := (b.txSeq + 1) % 4096, unacked := b.unacked ++ [(b.txSeq, m)], used := tabUpd 0 b.used vc (fun n => (n + 1) % 65536) }
        kept (sent ++ [(b.txSeq, m)])
    else bundleDrain q (vc :: stuck) b (kept ++ [m]) sent

/-- What a bundle's queue can send leaves. -/
def drainBundle (n : Nat) (up : Bool) (d : Dev) : Dev :=
  let l := linkOf d n
  if linkStalls l then d
  else
    let b := bundleOf l up
    let r := bundleDrain b.queue [] b [] []
    let d := updBundle n up (fun _ => r.1) d
    emitAll (r.2.map (fun e => .flit n up e.1 (ackOf l up) e.2)) { d with flight := d.flight ++ r.2.map (fun e => e.2) }

/-- The hub drives a wake pattern on a folded link ahead of traffic for it, once per wake (R101, R103). -/
def sendWake (n : Nat) (d : Dev) : Dev :=
  if (linkOf d n).state = .folded ∧ (linkOf d n).wakeSent = false then emit (.wake n true) (updLink d n (fun l => { l with wakeSent := true })) else d

/-- Send a message over a die's link, up or down. One that must wait is counted (R470, R473). -/
def send (up : Bool) (m : FMsg) (d : Dev) : Dev :=
  let m := { m with up := up }
  let n := m.die
  let d := countDie n (if up then 0 else 1) (if up then d else sendWake n d)
  let d := drainBundle n up (updBundle n up (fun b => { b with queue := b.queue ++ [m] }) d)
  if (bundleOf (linkOf d n) up).queue.contains m then countDie n (if up then 2 else 3) d else d

/-- Take a received message out of flight; one that was not sent by the model is received all the same. -/
def arrive (m : FMsg) (d : Dev) : Dev := { d with flight := d.flight.erase m }

/-! ### Lines on a die -/

def dieLine (d : Dev) (n line : Nat) : Option DLine := tabGet none (dieOf d n).cache line
def setDieLine (n line : Nat) (v : Option DLine) (d : Dev) : Dev :=
  updDie d n (fun x => { x with cache := tabSet none x.cache line v })
/-- The write-back buffer's entry for a line. -/
def wbOf (d : Dev) (n line : Nat) : Option WbEnt := (dieOf d n).wb.find? (fun e => e.line == line)
/-- Requests that bring a line or its ownership to the die. -/
def fillOp : Op → Bool
  | .rds | .rdc | .rdw | .rdx | .upg | .zro => true
  | _ => false
/-- The open fill of a line on a die. -/
def missOf (d : Dev) (n line : Nat) : Option Miss := (dieOf d n).misses.find? (fun m => m.line == line && fillOp m.op)

/-- A dirty MOESI state (R172). -/
def isDirtyState : Moesi → Bool
  | .mm | .oo => true
  | _ => false

/-- The state of the core-level owner of a line (R184): the die's own, while no other core and no L3 copy stands beside it; else O where it is
dirty and S where it is clean. -/
def ownerState (l : DLine) : Moesi :=
  let alone := if l.owner = 18 then l.cores == 0 else l.cores == 2 ^ l.owner && !l.l3
  if alone then l.st else if isDirtyState l.st then .oo else .ss
/-- The state of a line in a core's L2 (R172); its L1D's is the same (R171). -/
def coreState (l : DLine) (k : Nat) : Moesi := if !getBit l.cores k then .ii else if l.owner = k then ownerState l else .ss
/-- The state of a line in the die's L3. -/
def l3State (l : DLine) : Moesi := if !l.l3 then .ii else if l.owner = 18 then ownerState l else .ss

/-- A forward or snoop of the line is on its way to the die, or deferred there. -/
def snoopComing (d : Dev) (n line : Nat) : Bool :=
  (d.flight ++ (linkOf d n).down.queue ++ (dieOf d n).deferred).any (fun m => m.die == n && lineOf m.addr == line && vcOf m.op == 1)

/-- A write-back buffer entry that has been acknowledged, with every forward answered, frees (R195). A line that a forward
left on the die, and whose write-back was not taken, returns to the L3: the directory still names the die. -/
def wbRelease (n line : Nat) (d : Dev) : Dev :=
  match wbOf d n line with
  | some e =>
    if e.acked ≠ 0 ∧ snoopComing d n line = false then
      let d := updDie d n (fun x => { x with wb := x.wb.filter (fun y => y.line != line) })
      if e.st = .ii ∨ e.acked = 1 then d
      else setDieLine n line (some { st := e.st, data := e.data, poison := e.poison, cores := 0, owner := 18, walked := 0, l3 := true, l1i := 0, l1d := 0 }) d
    else d
  | none => d

/-! ### What the loss of a line takes with it -/

/-- Both hashed positions of a line are set in an ANCESTRY filter (R115). -/
def ancHas (anc line : Nat) : Bool := getBit anc (Config.ancHash line 0 % 32) && getBit anc (Config.ancHash line 1 % 32)
/-- A filter with a line entered. -/
def ancAdd (anc line : Nat) : Nat := setBit (setBit anc (Config.ancHash line 0 % 32) true) (Config.ancHash line 1 % 32) true
/-- The entry is derived from a line (R117). -/
def derived (line : Nat) (t : Tlb) : Bool := t.leafLine == line || (t.pair && t.leafLine / 2 == line / 2) || ancHas t.anc line
/-- Keep the entries of every structure of R114 that pass a test. -/
def keepTlb (p : Tlb → Bool) (x : Hart) : Hart :=
  { x with itlb := x.itlb.filter p, dtlb := x.dtlb.filter p, tlb := x.tlb.filter p, wcache := x.wcache.filter p, gcache := x.gcache.filter p }
/-- Every entry of a hart's structures. -/
def allTlb (x : Hart) : List Tlb := x.itlb ++ x.dtlb ++ x.tlb ++ x.wcache ++ x.gcache

/-- Kill a core's entries derived from a line (R117), and tag its walk in flight that has read or requested the line (R136). -/
def killCore (h line : Nat) (d : Dev) : Dev :=
  let d := if (allTlb (hartOf d h)).any (derived line) then countHart h 0x13 (updHart d h (keepTlb (fun t => !derived line t))) else d
  updHart d h (fun x => { x with waiting := x.waiting.map (fun w => { w with gen := w.gen || w.walked.contains line }) })
/-- Kill a line's entries in every core of a die. -/
def killLine (n line : Nat) (d : Dev) : Dev := (hartsOfDie n).foldl (fun d h => killCore h line d) d

/-- Reservations of a line on a die end, but for one hart's (R187). -/
def loseResv (n line : Nat) (but : Option Nat) (d : Dev) : Dev :=
  (hartsOfDie n).foldl (fun d h => match (hartOf d h).resv with
    | some r => if r.line = line ∧ some h ≠ but then updHart d h (fun x => { x with resv := none }) else d
    | none => d) d

/-- The line leaves a die: derived translations die with it, and reservations of it end (R117, R118, R187). -/
def dropDieLine (n line : Nat) (d : Dev) : Dev :=
  let d := match dieLine d n line with
    | some l => if l.walked ≠ 0 then killLine n line d else d
    | none => d
  let d := setDieLine n line none d
  let d := updDie d n (fun x => { x with dirtyOrder := x.dirtyOrder.filter (· != line) })
  loseResv n line none d

/-! ### Room in the caches (R21, R80, R174); which line goes is given by no rule (a free value, log entry 60) -/

/-- A member of a list, as the next free value names it. -/
def pickOf (l : List Nat) (d : Dev) : Nat := l.getD (freeVal d % max 1 l.length) 0
/-- The lines of a die's caches that pass a test, with their records. -/
def linesWhere (d : Dev) (n : Nat) (p : Nat → DLine → Bool) : List Nat :=
  (dieOf d n).cache.filterMap (fun e => match e.2 with | some l => if p e.1 l then some e.1 else none | none => none)

/-- The L3 lets a line go: where no core holds it, it leaves the die through the write-back buffer, if there is room (R195); else only the L3's copy goes. -/
def l3Evict (n line : Nat) (d : Dev) : Dev :=
  match dieLine d n line with
  | some l =>
    if l.cores ≠ 0 then
      setDieLine n line (some { l with l3 := false, owner := if l.owner = 18 then ((onesOf l.cores 18).head?).getD 0 else l.owner }) d
    else if 96 ≤ (dieOf d n).wb.length then countDie n 9 d
    else
      let dirty := isDirtyState l.st
      let d := updDie (dropDieLine n line d) n (fun x =>
        { x with wb := x.wb ++ [{ line := line, data := l.data, poison := l.poison, dirty := dirty, st := l.st, acked := 0 }] })
      send true { msgOf d (if !dirty then .evn else if l.poison then .wbP else .wbM) n with addr := line * 64, data := if dirty then l.data else 0 } d
  | none => d
/-- Lines the L3 holds: at most 786,432 (R21). -/
def l3Lines (d : Dev) (n : Nat) : List Nat := linesWhere d n (fun _ l => l.l3)
/-- The L3 returns to its size. -/
def l3Trim (n : Nat) (d : Dev) : Dev :=
  let ls := l3Lines d n
  if 786432 < ls.length then l3Evict n (pickOf ls d) (drawn d) else d

/-- A core's L2 lets a line go to the L3 (R118, R171): its L1 copies go with it, and the entries the core derived from it. -/
def l2Drop (n k line : Nat) (d : Dev) : Dev :=
  match dieLine d n line with
  | some l =>
    if !getBit l.cores k then d
    else
      let d := if getBit l.walked k then killCore (18 * n + k) line d else d
      let d := match (hartOf d (18 * n + k)).resv with
        | some r => if r.line = line then updHart d (18 * n + k) (fun x => { x with resv := none }) else d
        | none => d
      l3Trim n (setDieLine n line (some
        { l with cores := setBit l.cores k false, walked := setBit l.walked k false, l1i := setBit l.l1i k false, l1d := setBit l.l1d k false,
                 l3 := true, owner := if l.owner = k then 18 else l.owner }) d)
  | none => d
/-- The snoop filter lets an entry go: every core loses the line, dirty data goes to the L3 (R174). -/
def filterEvict (n line : Nat) (d : Dev) : Dev :=
  match dieLine d n line with
  | some l => (onesOf l.cores 18).foldl (fun d k => l2Drop n k line d) (countDie n 7 d)
  | none => d

/-- Make room for a core's line: 16 ways in its L2's set of 2,048, 8 ways in an L1's set of 128, 12 ways in the filter's set of 65,536. -/
def makeRoom (n k line : Nat) (fetch : Bool) (d : Dev) : Dev :=
  let l2 := linesWhere d n (fun a l => getBit l.cores k && a % 2048 == line % 2048 && a != line)
  let d := if 16 ≤ l2.length then l2Drop n k (pickOf l2 d) (drawn d) else d
  let l1 := linesWhere d n (fun a l => getBit (if fetch then l.l1i else l.l1d) k && a % 128 == line % 128 && a != line)
  let d := if 8 ≤ l1.length then
      let v := pickOf l1 d
      (match dieLine d n v with
        | some l => setDieLine n v (some (if fetch then { l with l1i := setBit l.l1i k false } else { l with l1d := setBit l.l1d k false })) (drawn d)
        | none => d)
    else d
  let fl := linesWhere d n (fun a l => l.cores != 0 && a % 65536 == line % 65536 && a != line)
  if 12 ≤ fl.length then filterEvict n (pickOf fl d) (drawn d) else d

/-- A core's access found no copy in its L1 and, but for `l2`, none in its L2 (R470); with no copy in the L3 either the die counts an L3 miss (R473). -/
def countMiss (h : Nat) (fetch l2 l3 : Bool) (d : Dev) : Dev :=
  let d := countHart h (if fetch then 0x06 else 0x07) d
  if l2 then d
  else
    let d := countHart h 0x08 d
    if l3 then countDie (dieOfHart h) 4 d else countDie (dieOfHart h) 5 (countHart h 0x09 d)

/-- A core takes a line its die holds into its L2 and an L1 (R184, R185): the filter notes its presence. -/
def touchCore (h line : Nat) (fetch : Bool) (d : Dev) : Dev :=
  let n := dieOfHart h
  let k := coreOfHart h
  match dieLine d n line with
  | some l =>
    if getBit l.cores k && getBit (if fetch then l.l1i else l.l1d) k then d
    else
      makeRoom n k line fetch (setDieLine n line (some { l with
        cores := setBit l.cores k true, l1i := if fetch then setBit l.l1i k true else l.l1i, l1d := if fetch then l.l1d else setBit l.l1d k true })
        (countMiss h fetch (getBit l.cores k) l.l3 d))
  | none => d

/-! ### Wakes (R103) -/

/-- A folded link exits fold with its working sheets (R153): up where its digests agree, else its width is settled as R149 states. The harts of the
die rest in retain until they are woken themselves (R100). -/
def linkWakes (n : Nat) (d : Dev) : Dev :=
  let l := linkOf d n
  let agree := sheetDigest l.hubUp == sheetDigest l.dieUp && sheetDigest l.hubDown == sheetDigest l.dieDown
  let d := updLink d n (fun l => { l with state := if agree then .up else .recovery, wakeSent := false, agreeUp := 0, agreeDown := 0 })
  (hartsOfDie n).foldl (fun d h => updHart d h (fun x => if x.rest = .fold then { x with rest := .retain } else x)) (countDie n 12 d)
/-- A snoop for a line, or an access for one core, wakes the resting domain it needs, not the hart: a folded die, and of the cores in retain those
that `needs` names. -/
def wakeForSnoop (n : Nat) (needs : Nat → Bool) (d : Dev) : Dev :=
  let d := if (linkOf d n).state = .folded then updDie (linkWakes n (sendWake n d)) n (fun x => { x with snoopBusy := true }) else d
  let sleeping := (hartsOfDie n).filter (fun h => needs (coreOfHart h) && (hartOf d h).rest == .retain && !(hartOf d h).domainUp)
  if sleeping = [] then d
  else sleeping.foldl (fun d h => updHart (countHart h 0x1B d) h (fun x => { x with domainUp := true })) (countDie n 13 d)
/-- The cores a snoop of a line reaches. -/
def snoopNeeds (d : Dev) (n line k : Nat) : Bool := match dieLine d n line with | some l => getBit l.cores k | none => false

end Sys2Proof.Machine
end

