-- ==== Sys2Proof/Machine/Fabric.lean ====
section
/-!
DEFINITION. The hub coherence fabric: the die's side of forwards and snoops (R183, R184, R190, R195), and the home slice's tracker, directory
and queues (R182, R186, R188–R194, R200–R206). A slice makes progress on a line with `pump`: it starts, acts on, grants and frees the line's
tracker entries until nothing more can move without another message.
-/
set_option linter.unusedVariables false

namespace Sys2Proof.Machine

/-- A hart of the die defers forwards of the line under its reservation (R187). -/
def resvDefers (d : Dev) (n line : Nat) : Option Nat :=
  (hartsOfDie n).find? (fun h => match (hartOf d h).resv with
    | some r => r.deferring && r.line == line
    | none => false)

/-- An uncached or maintenance access of the die is in flight that was translated with an entry derived from the line (R119). -/
def usesKilled (d : Dev) (n line : Nat) : Bool :=
  (hartsOfDie n).any (fun h => match (hartOf d h).waiting with | some w => w.deps.any (derived line) | none => false)
/-- The KILL_DONE a KP announced: at once, or, while such an access is in flight, when it has performed (R119, R190). -/
def killDone (n txid line : Nat) (d : Dev) : Dev :=
  if usesKilled d n line then updDie d n (fun x => { x with owed := x.owed ++ [(txid, line)] })
  else countDie n 10 (send true { msgOf d .killDone n with txid := txid, addr := line * 64 } d)

/-- A die answers the hub: SNP_ACK, with HELD and KP, and the KILL_DONE that KP announces (R190). -/
def answerAck (n : Nat) (m : FMsg) (op : Op) (held dirty kp : Bool) (d : Dev) : Dev :=
  let d := send true { msgOf d op n with txid := m.txid, addr := m.addr, held := held, dirty := dirty, kp := kp } d
  if kp then killDone n m.txid (lineOf m.addr) d else d

/-- A die sends a line's data to the hub (R179). -/
def answerData (n : Nat) (m : FMsg) (data : Line) (poison dirty kp : Bool) (d : Dev) : Dev :=
  let d := send true { msgOf d .dataSnp n with txid := m.txid, addr := m.addr, data := data, poison := poison, dirty := dirty, kp := kp, held := true } d
  if kp then killDone n m.txid (lineOf m.addr) d else d

/-- A line's directory entry. -/
def dirOf (d : Dev) (line : Nat) : Option DirEnt := tabGet none (sliceOf_ d (homeSlice d (line * 64))).dir line
def setDir (line : Nat) (e : Option DirEnt) (d : Dev) : Dev :=
  updSlice d (homeSlice d (line * 64)) (fun s => { s with dir := tabSet none s.dir line e })
/-- The directory stops naming a die for a line; no copy is left where it was the owner. -/
def forgetDie (n line : Nat) (d : Dev) : Dev :=
  match dirOf d line with
  | some e =>
    if (e.st == .x || e.st == .o) && e.owner == n then setDir line none d
    else if getBit e.pres n then
      (if setBit e.pres n false = 0 ∧ e.bpres = 0 then setDir line none d else setDir line (some { e with pres := setBit e.pres n false }) d)
    else d
  | none => d

/-- The tracker entry with a TXID; slice TXID / 1024. -/
def trkOf (d : Dev) (txid : Nat) : Option Trk := (sliceOf_ d (txid / 1024)).trk.find? (fun t => t.txid == txid)
def updTrk (txid : Nat) (f : Trk → Trk) (d : Dev) : Dev :=
  updSlice d (txid / 1024) (fun s => { s with trk := s.trk.map (fun t => if t.txid = txid then f t else t) })
/-- The die and miss tag a tracker entry's request came from. -/
def trkFrom (d : Dev) (txid : Nat) : Option (Nat × Nat) :=
  match trkOf d txid with
  | some t => (match t.req with | .die m => some (m.die, m.rtag) | .agent _ _ => none)
  | none => none

/-- The line a die holds for a forward or snoop: in its caches, or in its write-back buffer (R195). -/
def heldLine (d : Dev) (n line : Nat) : Option (Moesi × Line × Bool) :=
  match dieLine d n line with
  | some l => some (l.st, l.data, l.poison)
  | none => (wbOf d n line).bind (fun e => if e.st = .ii then none else some (e.st, e.data, e.poison))

/-- Set the state of the die's copy, wherever it is; I drops it, killing derived translations. -/
def setHeldState (n line : Nat) (st : Moesi) (d : Dev) : Dev :=
  let d := if isDirtyState st then d else updDie d n (fun x => { x with dirtyOrder := x.dirtyOrder.filter (· != line) })
  match dieLine d n line with
  | some l => if st = .ii then dropDieLine n line d else setDieLine n line (some { l with st := st }) d
  | none => updDie d n (fun x => { x with wb := x.wb.map (fun e => if e.line = line then { e with st := st } else e) })

/-- The copy is walked, so a snoop that ends it kills translations (R190). -/
def walkedOn (d : Dev) (n line : Nat) : Bool :=
  match dieLine d n line with
  | some l => l.walked != 0
  | none => false

/-- An owner answers a forward by sending its data up, addressed by TXID (R179). KP in the data says that a KDONE will follow (log entry 25). -/
def ownerData (n : Nat) (op : Op) (m : FMsg) (x : Line) (poison dirty kp : Bool) (d : Dev) : Dev :=
  send true { msgOf d op n with txid := m.txid, addr := m.addr, data := x, poison := poison, dirty := dirty, kp := kp } d

/-- A die serves a forward or snoop for a line (R184, R186, R190, R193, R195). A clean line whose EVN is on its way is not held any more for a
SNP_INV (R196). -/
def dieServe (n : Nat) (m : FMsg) (d : Dev) : Dev :=
  let line := lineOf m.addr
  let kp := walkedOn d n line
  let leaving := (dieLine d n line).isNone
  match m.op, heldLine d n line with
  | .fwdS, some (st, x, p) =>
    let d := ownerData n .dataS m x p (isDirtyState st) false d
    let d := answerAck n m .fwdAck true (isDirtyState st) false d
    setHeldState n line (if isDirtyState st then .oo else .ss) d
  | .fwdX, some (st, x, p) =>
    let d := ownerData n (if isDirtyState st then .dataM else .dataE) m x p (isDirtyState st) kp d
    setHeldState n line .ii (answerAck n m .fwdAck true false kp d)
  | .fwdS, none => answerAck n m .fwdAck false false false d
  | .fwdX, none => answerAck n m .fwdAck false false false d
  | .snpInv, some (st, _, _) => setHeldState n line .ii (answerAck n m .snpAck (!(leaving && !isDirtyState st)) false kp d)
  | .snpPeek, some (st, x, p) => answerData n m x p (isDirtyState st) false d
  | .snpClean, some (st, x, p) =>
    if isDirtyState st then
      setHeldState n line (if st = .mm then .ee else .ss) (answerData n m x p true false d)
    else answerAck n m .snpAck true false false d
  | .snpFlush, some (st, x, p) =>
    let d := if isDirtyState st then answerData n m x p true kp d else answerAck n m .snpAck true false kp d
    setHeldState n line .ii d
  | .binv, some (st, x, p) =>
    let d := if isDirtyState st then answerData n m x p true kp d else answerAck n m .snpAck true false kp d
    setHeldState n line .ii d
  | _, none => answerAck n m .snpAck false false false d
  | _, some _ => d

/-- The request of a die's open fill has not reached its home slice's tracker yet. -/
def requestComing (d : Dev) (n : Nat) (ms : Miss) : Bool :=
  let mine (m : FMsg) : Bool := m.die == n && m.rtag == ms.rtag && m.op == ms.op
  d.flight.any mine || (linkOf d n).up.queue.any mine ||
  (sliceOf_ d (homeSlice d (ms.line * 64))).ingress.any (fun e => match e.2.2.1 with | .die m => mine m | .agent _ _ => false)
/-- A forward or snoop belongs to a transaction the slice took before the die's own open fill, so the fill does not come before it (R182, R183). -/
def beforeFill (d : Dev) (n : Nat) (m : FMsg) (ms : Miss) : Bool :=
  let l := (sliceOf_ d (homeSlice d (ms.line * 64))).trk
  match l.findIdx? (fun t => t.line == ms.line && t.holder == n && (match t.req with | .die r => r.rtag == ms.rtag && r.op == ms.op | .agent _ _ => false)) with
  | some i => (match l.findIdx? (fun t => t.txid == m.txid) with | some j => decide (j < i) | none => false)
  | none => requestComing d n ms

/-- Snoops that end the die's copy: kills for the walks that have read or requested the line (R136). -/
def killsCopy : Op → Bool
  | .fwdX | .snpInv | .snpFlush | .binv => true
  | _ => false
/-- Walks in flight that have requested the line are tagged by a kill of it (R136). -/
def tagWalks (n line : Nat) (d : Dev) : Dev :=
  (hartsOfDie n).foldl (fun d h => updHart d h (fun x =>
    { x with waiting := x.waiting.map (fun w => { w with gen := w.gen || w.walked.contains line }) })) d

/-- Serve now, or hold back under a reservation (R187). -/
def serveOrDefer (n : Nat) (m : FMsg) (d : Dev) : Dev :=
  let line := lineOf m.addr
  match resvDefers d n line with
  | some h => countHart h 0x20 (updDie d n (fun x => { x with deferred := x.deferred ++ [m] }))
  | none => wbRelease n line (dieServe n m d)

/-- A forward or snoop reaches a die: a stale incarnation is discarded (R209); behind an open fill it queues (R183);
under a reservation it is deferred (R187); otherwise it is served. -/
def dieSnoop (n : Nat) (m : FMsg) (d : Dev) : Dev :=
  if m.inc ≠ (dieOf d n).inc then d
  else
    let line := lineOf m.addr
    let d := wakeForSnoop n (snoopNeeds d n line) d
    let d := if killsCopy m.op then tagWalks n line d else d
    match missOf d n line with
    | some ms =>
      if beforeFill d n m ms then serveOrDefer n m d
      else updDie d n (fun x => { x with misses := x.misses.map (fun y => if y.rtag = ms.rtag then { y with queued := y.queued ++ [m] } else y) })
    | none => serveOrDefer n m d

/-- Forwards and snoops held back for lines no reservation holds any more are served in order (R187). -/
def flushDeferred (n : Nat) (d : Dev) : Dev :=
  let ready := (dieOf d n).deferred.filter (fun m => (resvDefers d n (lineOf m.addr)).isNone)
  if ready = [] then d
  else
    let d := updDie d n (fun x => { x with deferred := x.deferred.filter (fun m => !ready.contains m) })
    ready.foldl (fun d m => dieSnoop n m d) d

/-! ### The directory -/

/-- DSTATE of a line; I where no entry is allocated (R173). -/
def dstate (d : Dev) (line : Nat) : DState := match dirOf d line with | some e => e.st | none => .i
/-- The dies PRES names. -/
def presOf (d : Dev) (line : Nat) : List Nat := match dirOf d line with | some e => onesOf e.pres 12 | none => []
def ownerOf (d : Dev) (line : Nat) : Nat := match dirOf d line with | some e => e.owner | none => 0

/-- The ways of a set in use, and one that is free (R175). -/
def setWays (s : SliceSt) (set : Nat) : List (Nat × Nat) :=
  s.dir.filterMap (fun e => match e.2 with | some x => if dirSet e.1 = set then some (x.way, e.1) else none | none => none)
/-- Ways of a set that open requests have reserved for the entries they will write (R177). -/
def reservedWays (s : SliceSt) (set : Nat) : List Nat :=
  s.trk.filterMap (fun t => if dirSet t.line = set then t.way else none)
def freeWay (s : SliceSt) (set : Nat) : Option Nat :=
  (List.range 16).find? (fun w => !(setWays s set).any (fun e => e.1 == w) && !(reservedWays s set).contains w)
/-- The way a line's new entry takes: the one its request has reserved, else a free one. -/
def wayFor (s : SliceSt) (line : Nat) : Option Nat :=
  (s.trk.findSome? (fun t => if t.line = line then t.way else none)).or (freeWay s (dirSet line))

/-- Touch a way: its set's pseudo-LRU field takes the value the implementation gives it. -/
def touchWay (line way : Nat) (d : Dev) : Dev :=
  updSlice d (homeSlice d (line * 64)) (fun s =>
    { s with plru := tabUpd 0 s.plru (dirSet line) (fun v => Config.plruTouch v way % 2 ^ 15) })

/-- Write a line's entry with DSTATE, owner and holders; an entry with no holder left is freed (R173, R186). -/
def putDir (line : Nat) (st : DState) (owner pres bpres : Nat) (d : Dev) : Dev :=
  match dirOf d line with
  | some e =>
    if st = .i then setDir line none d
    else touchWay line e.way (setDir line (some { e with st := st, owner := owner, pres := pres, bpres := bpres }) d)
  | none =>
    if st = .i then d
    else match wayFor (sliceOf_ d (homeSlice d (line * 64))) line with
      | some w => touchWay line w (setDir line (some { st := st, owner := owner, pres := pres, bpres := bpres, way := w }) d)
      | none => d

/-- A bench's descriptor cache drops a line: its BPRES bit clears, and an entry that names no holder is freed. -/
def dropBench (b line : Nat) (d : Dev) : Dev :=
  let d := { d with benches := tabUpd benchInit d.benches b (fun x => { x with desc := x.desc.filter (fun l => l.1 != line) }) }
  match dirOf d line with
  | some e =>
    if setBit e.bpres b false = 0 ∧ e.pres = 0 ∧ e.st = .s then setDir line none d else setDir line (some { e with bpres := setBit e.bpres b false }) d
  | none => d
/-- Bench descriptor caches drop their copies (R186: bench copies included). -/
def clearBpres (line : Nat) (d : Dev) : Dev :=
  match dirOf d line with
  | some e =>
    if e.bpres = 0 then d
    else
      let d := (onesOf e.bpres 4).foldl (fun d b => { d with benches := tabUpd benchInit d.benches b (fun x => { x with desc := x.desc.filter (fun l => l.1 != line) }) }) d
      setDir line (some { e with bpres := 0 }) d
  | none => d

/-! ### Poison and incarnations -/

/-- DSTATE's code (R173). -/
def dstateCode : DState → Nat
  | .i => 0 | .s => 1 | .x => 2 | .o => 3 | .h => 4 | .bad => 5
/-- R176's layout of an entry. -/
def dirPack (line : Nat) (e : DirEnt) : Nat :=
  packFields [(line % 2 ^ 41 / 81920, 23, 25), (dstateCode e.st, 20, 3), (e.owner, 16, 4), (e.pres, 4, 12), (e.bpres, 0, 4)]
/-- PRES and OWNER agree with DSTATE (R173). -/
def entryOk (e : DirEnt) : Bool :=
  match e.st with
  | .i => false
  | .s => e.owner == 0
  | .x => decide (e.owner < 12) && e.pres == 2 ^ e.owner
  | .o => decide (e.owner < 12) && getBit e.pres e.owner
  | .h => e.pres == 0 && e.owner == 0
  | .bad => false

/-- An uncorrectable directory error, or a forward that finds no line (R173, R195): the line is poisoned, every die that
might hold it loses it, and a machine check is recorded. -/
def dirError (line : Nat) (d : Dev) : Dev :=
  let sl := homeSlice d (line * 64)
  let x := memLine d line
  let was := match dirOf d line with | some e => dirPack line e | none => 0
  let d := (List.range 12).foldl (fun d n => if (heldLine d n line).isSome then setHeldState n line .ii d else d) (clearBpres line d)
  let d := memWrite line x.1 true (setDir line none d)
  mcWrite { bank := 0x9201, unitNo := sl, severity := 1, source := 4, unit := sl, paddr := some (line * 64), detail0 := was } d
/-- An entry that reads inconsistent is an error before anything is done with it (R173). -/
def checkEntry (line : Nat) (d : Dev) : Dev :=
  match dirOf d line with
  | some e => if entryOk e then d else dirError line d
  | none => d

/-- A message from a die is discarded and counted when its incarnation is stale or retired (R209). -/
def staleFrom (d : Dev) (m : FMsg) : Bool := decide (m.inc ≠ (dieOf d m.die).inc) || (dieOf d m.die).retired
def dropStale (m : FMsg) (d : Dev) : Dev := updDie d m.die (fun x => { x with lateDrops := x.lateDrops + 1 })

/-- Resolve what the directory says of a line for one fenced die (R214). -/
def resolveFenced (n line : Nat) (d : Dev) : Dev :=
  match dirOf d line with
  | none => d
  | some e =>
    if getBit e.pres n || (decide (e.owner = n) && (e.st == .x || e.st == .o)) then
      let pres := setBit e.pres n false
      match e.st with
      | .x => updDie (memWrite line (memLine d line).1 true (setDir line none d)) n (fun x => { x with poisoned := x.poisoned + 1 })
      | .o =>
        if e.owner = n then
          match (onesOf pres 12).find? (fun k => !(dieOf d k).retired && (heldLine d k line).isSome) with
          | some k =>
            (match heldLine d k line with
              | some (_, x, p) => memWrite line x p (putDir line .s 0 pres e.bpres d)
              | none => d)
          | none => updDie (memWrite line (memLine d line).1 true (setDir line none d)) n (fun x => { x with poisoned := x.poisoned + 1 })
        else putDir line .o e.owner pres e.bpres d
      | _ => putDir line (if pres = 0 ∧ e.bpres = 0 then .i else e.st) e.owner pres e.bpres d
    else d

/-- Fenced dies whose entries are not all swept: a request that reaches such an entry resolves it at once (R213). -/
def resolveLine (line : Nat) (d : Dev) : Dev :=
  (List.range 12).foldl (fun d n => if (dieOf d n).phase = .sweeping then resolveFenced n line d else d) d

/-! ### Tracker entries -/

/-- A holder's guaranteed entries in one slice (R201). -/
def shareOf (holder : Nat) : Nat := if holder < 12 then 56 else if holder < 16 then 32 else if holder < 18 then 16 else 0

/-- A slice may take a request of a holder: into its share, else into the pool within POOL_CAP (R202). -/
def entryFor (d : Dev) (sl holder : Nat) : Option Bool :=
  let t := (sliceOf_ d sl).trk
  if (t.filter (fun x => x.holder == holder && !x.pool)).length < shareOf holder then some false
  else if (t.filter (fun x => x.holder == holder && x.pool)).length < ent d 0xA041 0 ∧ (t.filter (fun x => x.pool)).length < 192 then some true
  else none

/-- The lowest TXID of a slice not in use. -/
def freeTxid (d : Dev) (sl : Nat) : Nat :=
  sl * 1024 + ((List.range 1024).find? (fun i => !(sliceOf_ d sl).trk.any (fun t => t.txid == sl * 1024 + i))).getD 0

/-- The line a request names. -/
def reqLine (line : Nat) : Req → Nat
  | .die m => lineOf m.addr
  | .agent _ _ => line

def reqOp : Req → Option Op
  | .die m => some m.op
  | .agent _ _ => none

/-- Requests that walk protection defers: ownership requests, INV, FLS and agent writes (R192). That an agent's atomic counts as a write here is the
model's choice (DESIGN CHOICE, log entry 59): the rule names writes only. -/
def protDefers : Req → Bool
  | .die m => m.op == .rdx || m.op == .upg || m.op == .zro || m.op == .inv || m.op == .fls
  | .agent _ .read => false
  | .agent _ _ => true

/-- Requests whose directory action shuts later requests out until they end (R193, R194, R188, R189). -/
def isExclusive : Req → Bool
  | .die m => m.op == .cln || m.op == .fls || m.op == .inv
  | .agent _ .read => false
  | .agent _ _ => true

/-- Requests that need a directory entry. -/
def needsEntry : Req → Bool
  | .die m => m.op == .rds || m.op == .rdc || m.op == .rdw || m.op == .rdx || m.op == .upg || m.op == .zro
  | .agent _ .read => false
  | .agent _ _ => true

/-- Push a new tracker entry. -/
def newTrk (sl holder line : Nat) (pool : Bool) (order : Nat) (req : Req) (d : Dev) : Dev :=
  let t : Trk :=
    { txid := freeTxid d sl, holder := holder, pool := pool, line := line, req := req, started := false,
      acted := false, counted := false, acks := [], kills := [], hadKills := false, fwdTo := none, routed := false, needCmp := false,
      granted := false, reading := false, data := none, poison := false, dirty := false, victims := [], victim := none,
      way := none, order := order, exclusive := isExclusive req, late := false, noted := false }
  updSlice d sl (fun s => { s with trk := s.trk ++ [t] })

/-- Lines that count against a directory set (R205). -/
def countedLines (d : Dev) (sl set : Nat) : List Nat :=
  nubNat (((sliceOf_ d sl).trk.filter (fun t => t.counted && dirSet t.line == set)).map (fun t => t.line))

/-- An access of an inlay site that writes. -/
def isSiteWrite : Req → Bool
  | .agent (.inlay _ _) (.write _ _) => true
  | .agent (.inlay _ _) (.atomic _ _ _ _) => true
  | _ => false
/-- An earlier upstream write of the same inlay site has not performed, at whatever slice (R164, R198). -/
def siteBlocked (d : Dev) (t : Trk) : Bool :=
  isSiteWrite t.req && d.slices.any (fun s =>
    s.2.trk.any (fun e => e.holder == t.holder && isSiteWrite e.req && decide (e.order < t.order) && !e.granted) ||
    s.2.ingress.any (fun e => e.1 == t.holder && isSiteWrite e.2.2.1 && decide (e.2.2.2 < t.order)))
/-- An earlier transaction shuts this one out (R182); a maintenance operation, an agent's write or atomic waits for every earlier fill (R194); a
line that is being evicted waits for its BINV (R186). -/
def blocked (d : Dev) (sl : Nat) (t : Trk) : Bool :=
  let earlier := (sliceOf_ d sl).trk.takeWhile (fun e => e.txid != t.txid)
  let st := dstate d t.line
  earlier.any (fun e => e.line == t.line && (!e.started || e.exclusive || t.exclusive || st == .i || st == .s || st == .h)) ||
  (sliceOf_ d sl).trk.any (fun e => e.victim == some t.line) || siteBlocked d t ||
  (st == .h && (sliceOf_ d sl).hLine.any (fun h => h.1 == t.line) &&
    (match t.req with | .agent _ (.atomic _ _ _ _) => false | _ => true))

/-- The die requester of a tracker entry. -/
def trkMsg (t : Trk) : Option FMsg := match t.req with | .die m => some m | .agent _ _ => none

/-- Data of a line on its way between its holders: the newest, with its poison mark (R183). -/
def movingData (d : Dev) (line : Nat) : Option FMsg :=
  (d.flight ++ d.links.flatMap (fun e => e.2.up.queue ++ e.2.down.queue)).find? (fun m =>
    lineOf m.addr == line && (m.op == .dataM || m.op == .dataE) && !(dieOf d m.die).retired)
/-- A die holds the line in M, O or E. -/
def ownsCopy (d : Dev) (n line : Nat) : Bool :=
  !(dieOf d n).retired && (match heldLine d n line with | some (st, _, _) => st == .mm || st == .oo || st == .ee | none => false)
/-- The current value of a line as an agent may read it at once: the H copy, an owner's copy, data on its way to its next owner, or memory. -/
def currentLine (d : Dev) (line : Nat) : Line × Bool :=
  match (sliceOf_ d (homeSlice d (line * 64))).hLine.find? (fun h => h.1 == line) with
  | some h => h.2
  | none =>
    match (List.range 12).find? (fun n => ownsCopy d n line) with
    | some n => (match heldLine d n line with | some (_, x, p) => (x, p) | none => memLine d line)
    | none => match movingData d line with
      | some m => (m.data, m.poison)
      | none => memLine d line

/-- Send a forward or snoop to a die under a tracker entry. -/
def sendSnoop (op : Op) (txid line reqDie n : Nat) (d : Dev) : Dev :=
  send false { msgOf d op n with txid := txid, addr := line * 64, reqDie := reqDie } d
def sendSnoops (op : Op) (txid line reqDie : Nat) (ns : List Nat) (d : Dev) : Dev :=
  ns.foldl (fun d n => sendSnoop op txid line reqDie n d) d

/-- Count the source of the data a core's request gets (R470): 0x0A another die, 0x0B the MSC, 0x0C DRAM, 0x0D CXL. -/
def countFill (txid c : Nat) (d : Dev) : Dev :=
  match trkOf d txid with
  | some t => (match t.req with | .die m => if fillOp m.op && decide (m.core < 18) then countHart (18 * m.die + m.core) c d else d | .agent _ _ => d)
  | none => d
/-- Mark a transaction's wait as counted, with `f`, once (R473). -/
def noteWait (t : Trk) (f : Dev → Dev) (d : Dev) : Option Dev :=
  if t.noted then none else some (f (updTrk t.txid (fun x => { x with noted := true }) d))

/-- Start the read of a line for a tracker entry: a hit is served at once, a miss waits in the channel's read queue (R224, R246), a CXL read for its
device, of which one with a failed window is answered at once (R263). A miss of a flushing slice counts as one too (log entry 59). It waits while all 96
entries of the read queue are in use (R245), a stall that is counted once. -/
def startRead (t : Trk) (d : Dev) : Option Dev :=
  match cxlWindow d (t.line * 64) with
  | some w =>
    if tabGet 0 d.cxlState w = 4 then
      some (mcWrite { bank := 0x9203, unitNo := 0, severity := 1, source := 7, unit := w, paddr := some (t.line * 64) }
        (updTrk t.txid (fun x => { x with data := some 0, poison := true }) d))
    else some { updTrk t.txid (fun x => { x with reading := true }) d with cxlWait := d.cxlWait ++ [(t.txid, t.line)] }
  | none =>
    match mscServe t.line d with
    | some (x, d) => some (countFill t.txid 0x0B (updTrk t.txid (fun y => { y with data := some x.1, poison := x.2 }) d))
    | none =>
      if (wqFind d t.line).isNone ∧ 96 ≤ (subOf d (subKey d t.line)).rq.length then noteWait t (countChan (chanOfPa d (t.line * 64)) 3) d else
      let n := chanOfPa d (t.line * 64)
      let d := if (mscOf d n).state = 0 then d else countSlice n 60 d
      match wqFind d t.line with
      | some x => some (updTrk t.txid (fun y => { y with data := some x.1, poison := x.2 }) (mscFill t.line x.1 x.2 d))
      | none =>
        let d := updTrk t.txid (fun y => { y with reading := true }) d
        some <| updSub d (subKey d t.line) (fun s => { s with rq := s.rq ++ [{ slice := t.txid / 1024, txid := t.txid, line := t.line, at_ := d.now }] })

/-- Dies with an open shared forward of the line: they hold or will hold an S copy the directory does not name yet. -/
def openSharers (d : Dev) (sl line : Nat) : List Nat :=
  ((sliceOf_ d sl).trk.filter (fun t => t.line == line && t.acted && t.fwdTo.isSome &&
    (match t.req with | .die m => m.op == .rds || m.op == .rdc || m.op == .rdw | _ => false))).map (fun t => t.holder)

/-- A request takes the line: forwards to earlier readers that are still in flight name no sharer any more. -/
def takeFromReaders (sl line : Nat) (d : Dev) : Dev :=
  updSlice d sl (fun s => { s with trk := s.trk.map (fun t => if t.line = line ∧ t.acted ∧ t.fwdTo.isSome then { t with late := true } else t) })

/-- The directory action of a die's request (R186, R192, R193). -/
def actDie (sl : Nat) (t : Trk) (m : FMsg) (d : Dev) : Dev :=
  let r := m.die
  let line := t.line
  let st := dstate d line
  let o := ownerOf d line
  let pres := presOf d line
  let set (acks : List Nat) (fwd : Option Nat) (cmp : Bool) (d : Dev) : Dev :=
    updTrk t.txid (fun x => { x with acted := true, acks := acks, fwdTo := fwd, needCmp := cmp }) d
  let readOp := m.op == .rds || m.op == .rdc || m.op == .rdw
  let d := if m.op == .rdw && m.prot && decide ((sliceOf_ d sl).protect.length < 32768) then
      updSlice d sl (fun s => { s with protect := if s.protect.contains (line, r) then s.protect else s.protect ++ [(line, r)] }) else d
  if readOp then
    match st with
    | .x | .o => if o = r then set [] none true d else sendSnoop .fwdS t.txid line r o (set [o] (some o) false d)
    | _ => set [] none false d
  else if m.op == .rdx || m.op == .zro || m.op == .upg then
    match st with
    | .i | .h | .bad => set [] none false d
    | .s =>
      let others := pres.filter (· != r)
      let d := putDir line .s 0 (if pres.contains r then 2 ^ r else 0) 0 (clearBpres line d)
      sendSnoops .snpInv t.txid line r others (set others none false d)
    | .x =>
      let sh := (openSharers d sl line).filter (fun n => n != r && n != o)
      let d := takeFromReaders sl line (putDir line .x r (2 ^ r) 0 d)
      if o = r then sendSnoops .snpInv t.txid line r sh (set sh none true d)
      else
        sendSnoops .snpInv t.txid line r sh (sendSnoop .fwdX t.txid line r o (set (o :: sh) (some o) (sh != []) d))
    | .o =>
      let sh := (nubNat (pres ++ openSharers d sl line)).filter (fun n => n != r && n != o)
      let d := takeFromReaders sl line (putDir line .x r (2 ^ r) 0 d)
      if o = r then sendSnoops .snpInv t.txid line r sh (set sh none true d)
      else sendSnoops .snpInv t.txid line r sh (sendSnoop .fwdX t.txid line r o (set (o :: sh) (some o) true d))
  else if m.op == .cln then
    match st with
    | .x | .o => sendSnoop .snpClean t.txid line 15 o (set [o] (some o) false d)
    | _ => set [] none false d
  else
    let others := pres.filter (fun n => !(n == o && (st == .x || st == .o)))
    let own := if st = .x ∨ st = .o then [o] else []
    let d := clearBpres line d
    sendSnoops .snpInv t.txid line 15 others (sendSnoops .snpFlush t.txid line 15 own (set (own ++ others) own.head? false d))

/-- The directory action of an agent's access (R186, R188, R189). -/
def actAgent (sl : Nat) (t : Trk) (op : AgentOp) (d : Dev) : Dev :=
  let line := t.line
  let st := dstate d line
  let o := ownerOf d line
  let set (acks : List Nat) (d : Dev) : Dev :=
    updTrk t.txid (fun x => { x with acted := true, acks := acks, fwdTo := if st = .x ∨ st = .o then some o else none }) d
  match op with
  | .read =>
    if st = .x ∨ st = .o then sendSnoop .snpPeek t.txid line 15 o (set [o] d) else set [] d
  | _ =>
    let own := if st = .x ∨ st = .o then [o] else []
    let others := (presOf d line).filter (fun n => !own.contains n)
    let d := if st = .h then d else putDir line .h 0 0 0 (clearBpres line d)
    sendSnoops .snpInv t.txid line 15 others (sendSnoops .snpFlush t.txid line 15 own (set (own ++ others) d))

/-- No request that waits for the set's retry credit is older than a request (R206). -/
def firstForSet (s : SliceSt) (set txid : Nat) : Bool :=
  match s.setWait.find? (fun tx => match s.trk.find? (fun t => t.txid == tx) with | some t => dirSet t.line == set | none => false) with
  | some tx => tx == txid
  | none => true
/-- Hold a request for its set's retry credit (R205). -/
def waitForSet (sl : Nat) (t : Trk) (d : Dev) : Option Dev :=
  if (sliceOf_ d sl).setWait.contains t.txid then none
  else some (countSlice sl (36 + t.holder) (updSlice d sl (fun s => { s with setWait := s.setWait ++ [t.txid] })))
/-- The victim of a new allocation: BINV to every holder; a line the hub atomic unit holds is released to memory first (R177, R186, R188). -/
def evictVictim (sl : Nat) (t : Trk) (way v : Nat) (d : Dev) : Dev :=
  let holders := presOf d v
  let d := clearBpres v d
  let d := match (sliceOf_ d sl).hLine.find? (fun h => h.1 == v) with
    | some h => memWrite v h.2.1 h.2.2 (updSlice d sl (fun s => { s with hLine := s.hLine.filter (fun y => y.1 != v) }))
    | none => d
  let d := countSlice sl 56 (updTrk t.txid (fun x => { x with victim := some v, victims := holders, way := some way }) d)
  sendSnoops .binv t.txid v 15 holders d
/-- Start a tracker entry: walk protection, the set's limit of 12 lines with the order of those that wait, and a way of the set (R192, R205, R206, R177). A way is reserved
for the entry; where none is free one that no line counts in is evicted, unless walk protection holds every such line. -/
def startTrk (sl : Nat) (t : Trk) (d : Dev) : Option Dev :=
  let set := dirSet t.line
  let d := checkEntry t.line (resolveLine t.line d)
  if protDefers t.req && (sliceOf_ d sl).protect.any (fun p => p.1 == t.line) then noteWait t (countSlice sl 58) d
  else
    let counted := countedLines d sl set
    if !counted.contains t.line && (decide (12 ≤ counted.length) || !firstForSet (sliceOf_ d sl) set t.txid) then waitForSet sl t d
    else
      let start (d : Dev) : Dev :=
        updTrk t.txid (fun x => { x with started := true, counted := true, noted := false }) (updSlice d sl (fun s => { s with setWait := s.setWait.filter (· != t.txid) }))
      let here := (sliceOf_ d sl).trk.any (fun x => x.line == t.line && x.way.isSome)
      if needsEntry t.req && (dirOf d t.line).isNone && !here then
        match freeWay (sliceOf_ d sl) set with
        | some w => some (updTrk t.txid (fun x => { x with way := some w }) (start d))
        | none =>
          let s := sliceOf_ d sl
          let cands := (setWays s set).filter (fun e =>
            !s.trk.any (fun x => x.line == e.2 || x.victim == some e.2) && !s.protect.any (fun p => p.1 == e.2))
          match cands with
          | [] => waitForSet sl t d
          | c :: cs =>
            let pick := (c :: cs).getD (Config.plruVictim (tabGet 0 s.plru set) (c :: cs).length % (c :: cs).length) c
            some (evictVictim sl t pick.1 pick.2 (start d))
      else some (start d)

/-- One grant: the requester's data or completion, and the entry's next state (R186). That KP in the hub's CMP and DATA tells the requester that a
KDONE will follow is the model's choice (DESIGN CHOICE, log entry 25): R190 gives KP to SNP_ACK and FWD_ACK only. -/
def grantTrk (sl : Nat) (t : Trk) (d : Dev) : Option Dev :=
  let line := t.line
  match t.req with
  | .die m =>
    let r := m.die
    let reply (op : Op) (x : Line) (p : Bool) (d : Dev) : Dev :=
      let d := updTrk t.txid (fun y => { y with granted := true }) d
      if (dieOf d r).retired then d
      else send false { msgOf d op r with txid := t.txid, rtag := m.rtag, addr := m.addr, data := x, poison := p, kp := t.hadKills } d
    match m.op with
    | .cln => some (reply .cmp 0 false d)
    | .fls | .inv => some (reply .cmp 0 false (setDir line none d))
    | .zro =>
      if t.fwdTo.isSome then some (if t.needCmp then reply .cmp 0 false d else updTrk t.txid (fun y => { y with granted := true }) d)
      else some (reply .cmp 0 false (putDir line .x r (2 ^ r) 0 d))
    | _ =>
      if t.fwdTo.isSome || t.needCmp then
        some (if t.needCmp then reply .cmp 0 false d else updTrk t.txid (fun y => { y with granted := true }) d)
      else if m.op == .upg && (presOf d line).contains r then
        some (reply .cmp 0 false (putDir line .x r (2 ^ r) 0 d))
      else
        match t.data with
        | none => if t.reading then none else startRead t d
        | some x =>
          match m.op with
          | .rds =>
            if dstate d line = .s then
              some (reply .dataS x t.poison (putDir line .s 0 (match dirOf d line with | some e => setBit e.pres r true | none => 2 ^ r) (match dirOf d line with | some e => e.bpres | none => 0) d))
            else some (reply .dataE x t.poison (putDir line .x r (2 ^ r) 0 d))
          | .rdc | .rdw =>
            some (reply .dataS x t.poison (putDir line .s 0 (match dirOf d line with | some e => setBit e.pres r true | none => 2 ^ r) (match dirOf d line with | some e => e.bpres | none => 0) d))
          | _ => some (reply (if t.dirty then .dataM else .dataE) x t.poison (putDir line .x r (2 ^ r) 0 d))
  | .agent who op =>
    let finish (x : List Byte) (p : Bool) (d : Dev) : Dev :=
      let d := updTrk t.txid (fun y => { y with granted := true }) d
      match who with
      | .bench b tag => emit (.agentDone (12 + b) tag p x) d
      | .device rp tag _ => emit (.agentDone (32 + rp) tag p x) d
      | .hub tag => emit (.agentDone 18 tag p x) d
      | .inlay s tag => updSite d s (fun y => { y with done := y.done ++ [(tag, if p then 2 else 0, x)] })
    match op with
    | .read =>
      (match t.data with
        | none => if t.reading then none else startRead t d
        | some x => some (finish (if t.poison then List.replicate 64 0 else lineBytes x) t.poison d))
    | .write data mask =>
      if mask = 2 ^ 64 - 1 then some (finish [] false (memWrite line data false (setDir line none d)))
      else
        (match t.data with
          | none => if t.reading then none else startRead t d
          | some x => some (finish [] false (memWrite line (mergeLine x data mask) t.poison (setDir line none d))))
    | .atomic off op a b =>
      match (sliceOf_ d sl).hLine.find? (fun h => h.1 == line) with
      | some h =>
        let r := atomicOn h.2.1 off op a b
        some (finish (leBytes 8 r.2) h.2.2 (updSlice d sl (fun s => { s with hLine := s.hLine.map (fun y => if y.1 = line then (line, r.1, y.2.2) else y) })))
      | none =>
        match t.data with
        | none => if t.reading then none else startRead t d
        | some x =>
          let r := atomicOn x off op a b
          some (finish (leBytes 8 r.2) t.poison (updSlice d sl (fun s => { s with hLine := s.hLine ++ [(line, r.1, t.poison)] })))
where
  /-- The hub's atomics on 8 bytes at `off`: 0 ADD, 1 SWAP, 2 AND, 3 OR, 4 CAS (R163): new line and old value. -/
  atomicOn (x : Line) (off op a b : Nat) : Line × Nat :=
    let old := leAt (lineBytes x) off 8
    let new := match op with
      | 0 => (old + a) % 2 ^ 64
      | 1 => a
      | 2 => Nat.land old a
      | 3 => Nat.lor old a
      | _ => if old = a then b else old
    (lineSplice x off (leBytes 8 new), old)

/-- One move of a tracker entry: start, finish a victim, act, grant, or free; none when it waits for a message. -/
def stepTrk (sl : Nat) (t : Trk) (d : Dev) : Option Dev :=
  if !t.started then (if blocked d sl t then none else startTrk sl t d)
  else if t.victims ≠ [] then none
  else match t.victim with
    | some v => some (updTrk t.txid (fun x => { x with victim := none }) (setDir v none d))
    | none =>
      if !t.acted then
        some (match t.req with | .die m => actDie sl t m d | .agent _ op => actAgent sl t op d)
      else if t.acks ≠ [] then none
      else if !t.granted then grantTrk sl t d
      else if t.kills ≠ [] then none
      else if t.fwdTo.isSome && !t.routed && (match t.req with | .die m => fillOp m.op | .agent _ _ => false) then none
      else
        let d := match t.req with
          | .die m => if t.hadKills && !(dieOf d m.die).retired then
              send false { msgOf d .kdone m.die with txid := t.txid, rtag := m.rtag, addr := m.addr } d else d
          | .agent _ _ => d
        some (updSlice d sl (fun s => { s with trk := s.trk.filter (fun x => x.txid != t.txid) }))

/-- The first tracker entry of a line that can move, moved. -/
def pumpOnce (sl line : Nat) (d : Dev) : Option Dev :=
  ((sliceOf_ d sl).trk.filter (fun t => t.line == line)).findSome? (fun t => stepTrk sl t d)

/-- Move the tracker entries of a line until all of them wait. -/
def pumpFuel : Nat → Nat → Nat → Dev → Dev
  | 0, _, _, d => d
  | f + 1, sl, line, d => match pumpOnce sl line d with
    | some d' => pumpFuel f sl line d'
    | none => d

def pumpLine (line : Nat) (d : Dev) : Dev :=
  let sl := homeSlice d (line * 64)
  pumpFuel (8 * ((sliceOf_ d sl).trk.filter (fun t => t.line == line)).length + 8) sl line d
/-- Victims that requests for a line are evicting. -/
def victimsOf (d : Dev) (line : Nat) : List Nat :=
  ((sliceOf_ d (homeSlice d (line * 64))).trk.filter (fun t => t.line == line)).filterMap (fun t => t.victim)
/-- Lines of inlay writes that have not started. -/
def siteLines (d : Dev) : List Nat :=
  d.slices.flatMap (fun s => (s.2.trk.filter (fun t => isSiteWrite t.req && !t.started)).map (fun t => t.line))
/-- Move a line's requests, then those its progress lets go on: requests for a victim that is out, and later writes of an inlay site (R164). -/
def pump (line : Nat) (d : Dev) : Dev :=
  let vs := victimsOf d line
  let d := pumpLine line d
  let d := vs.foldl (fun d v => pumpLine v d) d
  let ls := siteLines d
  ls.foldl (fun d _ => (siteLines d).foldl (fun d l => pumpLine l d) d) d

/-- A request arrives at its home slice: it takes an entry, or waits in the ingress queue behind an older request of its holder or for its line
(R182, R202; that it waits for the line's older request too is DEDUCED from R182, log entry 61). `order` numbers a site's requests. -/
def takeReqAt (holder line order : Nat) (req : Req) (d : Dev) : Dev :=
  let sl := homeSlice d (line * 64)
  let d := if holder < 18 then countSlice sl holder d else d
  let behind := (sliceOf_ d sl).ingress.any (fun e => e.1 == holder || e.2.1 == line)
  match (if behind then none else entryFor d sl holder) with
  | some pool => pump line (newTrk sl holder line pool order req d)
  | none =>
    let d := if holder < 18 then countSlice sl (18 + holder) d else d
    let d := if 192 ≤ ((sliceOf_ d sl).trk.filter (fun x => x.pool)).length then countSlice sl 54 d else d
    updSlice d sl (fun s => { s with ingress := s.ingress ++ [(holder, line, req, order)] })
def takeReq (holder line : Nat) (req : Req) (d : Dev) : Dev := takeReqAt holder line 0 req d

/-! ### Accesses an agent makes within one command (log entry 9) -/

/-- Read a line coherently at once (R186, R189). -/
def cohRead (d : Dev) (line : Nat) : Line × Bool := currentLine d line
/-- Bytes read coherently; poison if any line of them is poisoned. -/
def cohBytes (d : Dev) (a n : Nat) : List Byte :=
  (List.range n).map (fun i => (lineBytes (cohRead d (lineOf (a + i))).1).getD ((a + i) % 64) 0)
/-- Lines an address range touches. -/
def linesIn (a n : Nat) : List Nat := if n = 0 then [] else (List.range ((a + n - 1) / 64 - a / 64 + 1)).map (fun i => a / 64 + i)
def cohPoison (d : Dev) (a n : Nat) : Bool := (linesIn a n).any (fun l => (cohRead d l).2)

/-- A request for the line is open: its data or ownership may be on its way. -/
def lineOpen (d : Dev) (line : Nat) : Bool :=
  let s := sliceOf_ d (homeSlice d (line * 64))
  s.trk.any (fun t => t.line == line && t.started) || (movingData d line).isSome ||
  d.flight.any (fun m => lineOf m.addr == line && m.op == .dataS)
/-- Take a line out of every cache before a write, killing derived translations (R117, R189). -/
def takeLine (line : Nat) (d : Dev) : Dev :=
  let d := (List.range 12).foldl (fun d n => if (dieLine d n line).isSome then dropDieLine n line d
    else if (wbOf d n line).isSome then setHeldState n line .ii d else d) (clearBpres line d)
  let sl := homeSlice d (line * 64)
  updSlice (setDir line none d) sl (fun s => { s with hLine := s.hLine.filter (fun h => h.1 != line) })
/-- Give a line a new value wherever it stands or moves, its holders unchanged: what an agent's write does while a request for the line is open,
as if it had been taken just before that request's grant (log entry 9). Derived translations die. -/
def patchLine (line : Nat) (x : Line) (poison : Bool) (d : Dev) : Dev :=
  let sl := homeSlice d (line * 64)
  let msg (m : FMsg) : FMsg := if lineOf m.addr = line ∧ (m.op = .dataS ∨ m.op = .dataE ∨ m.op = .dataM) then { m with data := x, poison := poison } else m
  let d := (List.range 12).foldl (fun d n =>
    let d := if walkedOn d n line then killLine n line d else d
    let d := match dieLine d n line with
      | some l => setDieLine n line (some { l with data := x, poison := poison, walked := 0 }) (loseResv n line none d)
      | none => d
    updDie d n (fun y => { y with wb := y.wb.map (fun e => if e.line = line then { e with data := x, poison := poison } else e) })) (clearBpres line d)
  let d := updSlice d sl (fun s => { s with
    hLine := s.hLine.map (fun h => if h.1 = line then (line, x, poison) else h),
    trk := s.trk.map (fun t => if t.line = line then { t with data := t.data.map (fun _ => x), poison := if t.data.isSome then poison else t.poison } else t) })
  memWrite line x poison { d with flight := d.flight.map msg, links := tabMap linkInit (fun _ l =>
    { l with up := { l.up with queue := l.up.queue.map msg }, down := { l.down with queue := l.down.queue.map msg } }) d.links }

/-- Write a whole line coherently at once (R189). -/
def writeNow (line : Nat) (x : Line) (poison : Bool) (d : Dev) : Dev :=
  let d := if lineOpen d line then patchLine line x poison d else memWrite line x poison (takeLine line d)
  (List.range 12).foldl (fun d n => flushDeferred n d) d
/-- A full-line write: poison clears. -/
def cohWriteLine (line : Nat) (data : Line) (d : Dev) : Dev := writeNow line data false d
/-- Write bytes of one line: a full line replaces, a part merges and keeps the poison mark (R189). -/
def cohMerge (line off : Nat) (bs : List Byte) (d : Dev) : Dev :=
  let x := cohRead d line
  if off = 0 ∧ bs.length = 64 then cohWriteLine line (bytesLine bs) d
  else writeNow line (lineSplice x.1 off bs) x.2 d
/-- Write a byte string coherently, line by line in ascending order. -/
def cohWrite (a : Nat) (bs : List Byte) (d : Dev) : Dev :=
  (linesIn a bs.length).foldl (fun d l =>
    let lo := max a (l * 64)
    let hi := min (a + bs.length) (l * 64 + 64)
    cohMerge l (lo - l * 64) (sliceOf bs (lo - a) (hi - lo)) d) d

end Sys2Proof.Machine
end

