-- ==== Sys2Proof/Machine/Hart.lean ====
section
/-!
DEFINITION. Harts: registers and CSRs, worlds (R365, R370), traps and interrupts as the RISC-V privileged specification
gives them (log entry 11), asynchronous exits (R382) and the saved lower-mode state (R366).
-/
set_option linter.unusedVariables false
set_option linter.constructorNameAsVariable false

namespace Sys2Proof.Machine

/-! ### Registers -/

/-- x0 reads 0. -/
def xReg (x : Hart) (r : Nat) : Nat := if r = 0 then 0 else (tabGet 0 x.x r).toNat
/-- A write to x0 is discarded. -/
def setX (r v : Nat) (x : Hart) : Hart := if r = 0 then x else { x with x := tabSet 0 x.x r (BitVec.ofNat 64 v) }
def fReg (x : Hart) (r : Nat) : Nat := (tabGet 0 x.f r).toNat
def setF (r v : Nat) (x : Hart) : Hart := { x with f := tabSet 0 x.f r (BitVec.ofNat 64 v) }
def csr (x : Hart) (n : Nat) : Nat := (tabGet 0 x.csr n).toNat
def setCsr (n v : Nat) (x : Hart) : Hart := { x with csr := tabSet 0 x.csr n (BitVec.ofNat 64 v) }

def mstatusN : Nat := 0x300
def medelegN : Nat := 0x302
def midelegN : Nat := 0x303
def mieN : Nat := 0x304
def mtvecN : Nat := 0x305
def mepcN : Nat := 0x341
def mcauseN : Nat := 0x342
def mtvalN : Nat := 0x343
def mtinstN : Nat := 0x34A
def mtval2N : Nat := 0x34B
def stvecN : Nat := 0x105
def sepcN : Nat := 0x141
def scauseN : Nat := 0x142
def stvalN : Nat := 0x143
def satpN : Nat := 0x180
def hstatusN : Nat := 0x600
def hedelegN : Nat := 0x602
def hidelegN : Nat := 0x603
def htvalN : Nat := 0x643
def htinstN : Nat := 0x64A
def hgatpN : Nat := 0x680
def vsstatusN : Nat := 0x200
def vsieN : Nat := 0x204
def vstvecN : Nat := 0x205
def vsepcN : Nat := 0x241
def vscauseN : Nat := 0x242
def vstvalN : Nat := 0x243
def vsatpN : Nat := 0x280
def menvcfgN : Nat := 0x30A
def senvcfgN : Nat := 0x10A
def henvcfgN : Nat := 0x60A

/-! ### Modes -/

def modeV : Mode → Bool
  | .vs | .vu => true
  | _ => false
/-- Privilege as two bits: 0 U, 1 S, 3 M. -/
def modePriv : Mode → Nat
  | .m => 3
  | .hs | .vs => 1
  | .u | .vu => 0
/-- The mode of a virtualisation bit and a privilege. -/
def modeOf (v : Bool) (p : Nat) : Mode :=
  if p = 3 then .m else if p = 1 then (if v then .vs else .hs) else (if v then .vu else .u)

/-! ### Worlds (R98) -/

/-- tworld (R98). -/
def tworldOf (d : Dev) (x : Hart) : Nat := packFields [(b2n (worldSecure d x x.mode), 15, 1), (x.eid, 0, 12)]

/-! ### Lower-mode state (R366) -/

/-- The fields of mstatus that lower-mode state holds: those of sstatus, MPP and MPV. -/
def lowerStatusMask : Nat :=
  2 ^ 1 + 2 ^ 5 + 2 ^ 6 + 2 ^ 8 + 3 * 2 ^ 9 + 3 * 2 ^ 11 + 3 * 2 ^ 13 + 3 * 2 ^ 15 + 2 ^ 18 + 2 ^ 19 + 3 * 2 ^ 32 + 2 ^ 39 + 2 ^ 63
/-- A CSR number of the U, S, HS or VS level, and mepc. -/
def isLowerCsr (n : Nat) : Bool := n / 256 % 4 != 3 || n == mepcN

def saveLower (x : Hart) : Lower :=
  { pc := x.pc, mode := x.mode, x := x.x, f := x.f, v := x.v,
    csr := tabSet 0 (tabFilter (fun n _ => isLowerCsr n) x.csr) mstatusN (BitVec.ofNat 64 (Nat.land (csr x mstatusN) lowerStatusMask)),
    srest := x.srest, vceil := x.vceil, sPC := x.sPC, hPC := x.hPC }

/-- The M-level CSRs of `c`, and the others of a saved state; mstatus is merged. -/
def mergeCsr (c l : Tab Word) : Tab Word :=
  let st := Nat.lor ((tabGet 0 c mstatusN).toNat - Nat.land (tabGet 0 c mstatusN).toNat lowerStatusMask)
    (Nat.land (tabGet 0 l mstatusN).toNat lowerStatusMask)
  let low := tabFilter (fun n _ => isLowerCsr n) l
  tabSet 0 (low.foldl (fun t e => tabSet 0 t e.1 e.2) (tabFilter (fun n _ => !isLowerCsr n) c)) mstatusN (BitVec.ofNat 64 st)

def loadLower (l : Lower) (x : Hart) : Hart :=
  { x with pc := l.pc, mode := l.mode, x := l.x, f := l.f, v := l.v, csr := mergeCsr x.csr l.csr, srest := l.srest,
           vceil := l.vceil, sPC := l.sPC, hPC := l.hPC }

/-! ### Running -/

/-- Every hart of the package is stopped: a loss stop (R217, R429), a thermal trip (R497), or the package is not released. -/
def packageStopped (d : Dev) : Bool := d.mirror.phase == 8 || d.fatal || d.pins.thermtrip || d.boot.phase != .released

/-- The die executes: in service, a staged withdraw included (R220). -/
def dieRuns (d : Dev) (n : Nat) : Bool := (dieOf d n).phase == .inService

/-- The hart can execute an instruction now. -/
def hartRuns (d : Dev) (h : Nat) : Bool :=
  let x := hartOf d h
  x.released && x.powered && !x.offline && x.rest == .running && !x.halted && x.waiting.isNone &&
  dieRuns d (dieOfHart h) && !packageStopped d

/-- Do `f` if the hart can execute an instruction; an instruction of any other hart is not executed (log entry 3). -/
def onHart (h : Nat) (f : Dev → Dev) (d : Dev) : Dev := if hartRuns d h then f d else d

/-- Invasive permission of the context a hart is in (R387). -/
def ctxInvasive (d : Dev) (x : Hart) (m : Mode) : Bool :=
  if x.eid ≠ 0 then enclInv d x.eid else debugEnable d (if worldSecure d x m then 2 else 0)

/-- A pending halt request acts at an instruction boundary in a permitted context (R388). -/
def haltIfDue (h : Nat) (d : Dev) : Dev :=
  let x := hartOf d h
  if x.haltReq && !x.halted && x.rest == .running && ctxInvasive d x x.mode then
    updHart d h (fun x => { x with halted := true, haltReq := false, haltMode := x.mode })
  else d

/-- An instruction retires: minstret counts it, unless mcountinhibit holds it (R79). -/
def retire (x : Hart) : Hart := if getBit (csr x 0x320) 2 then x else setCsr 0xB02 (csr x 0xB02 + 1) x
/-- The hart completes an instruction of `n` bytes; a fetch, of none, retires nothing. -/
def advance (h n : Nat) (d : Dev) : Dev :=
  let d := if n = 0 then d else countHart h 0x02 d
  haltIfDue h (updHart d h (fun x => (if n = 0 then id else retire) { x with pc := (x.pc + n) % 2 ^ 64, waiting := none }))

/-! ### Traps -/

/-- The hart leaves its enclave asynchronously (R382): the enclave's state goes to the slot, the caller's returns, pc at the EENTER. -/
def asyncExit (h : Nat) (d : Dev) : Dev :=
  let x := hartOf d h
  match tabGet none (enclOf d x.eid).slots x.slot with
  | some s =>
    let d := updEncl d x.eid (fun e => { e with slots := tabSet none e.slots x.slot (some { s with interrupted := true, inner := saveLower x }) })
    updHart d h (fun y => { loadLower s.caller y with eid := 0 })
  | none => updHart d h (fun y => { y with eid := 0 })

/-- A vectored interrupt adds four times its number to the base; all else enters at the base. -/
def tvecTarget (tvec cause : Nat) (irq : Bool) : Nat :=
  if irq && tvec % 4 == 1 then (tvec / 4 * 4 + 4 * cause) % 2 ^ 64 else tvec / 4 * 4

/-- mcause, scause and vscause hold Interrupt in bit 63. -/
def causeWord (cause : Nat) (irq : Bool) : Nat := cause + b2n irq * 2 ^ 63

/-- Entry into M mode. -/
def trapM (cause : Nat) (irq : Bool) (tval tval2 : Nat) (x : Hart) : Hart :=
  let st := csr x mstatusN
  let st := setBits st 11 2 (modePriv x.mode)
  let st := setBit st 39 (modeV x.mode)
  let st := setBit st 38 (modeV x.mode && tval != 0)
  let st := setBit (setBit st 7 (getBit st 3)) 3 false
  let x := setCsr mepcN x.pc (setCsr mcauseN (causeWord cause irq) (setCsr mtvalN tval (setCsr mtval2N tval2 (setCsr mtinstN 0 x))))
  let x := setCsr mstatusN st x
  { x with mode := .m, pc := tvecTarget (csr x mtvecN) cause irq }

/-- Entry into HS mode. -/
def trapHS (cause : Nat) (irq : Bool) (tval tval2 : Nat) (x : Hart) : Hart :=
  let st := csr x mstatusN
  let st := setBit st 8 (modePriv x.mode == 1)
  let st := setBit (setBit st 5 (getBit st 1)) 1 false
  let hs := csr x hstatusN
  let hs := setBit hs 7 (modeV x.mode)
  let hs := if modeV x.mode then setBit hs 8 (modePriv x.mode == 1) else hs
  let hs := setBit hs 6 (modeV x.mode && tval != 0)
  let x := setCsr sepcN x.pc (setCsr scauseN (causeWord cause irq) (setCsr stvalN tval (setCsr htvalN tval2 (setCsr htinstN 0 x))))
  let x := setCsr hstatusN hs (setCsr mstatusN st x)
  { x with mode := .hs, pc := tvecTarget (csr x stvecN) cause irq }

/-- Entry into VS mode; VS-level interrupts are numbered one lower there. -/
def trapVS (cause : Nat) (irq : Bool) (tval : Nat) (x : Hart) : Hart :=
  let c := if irq && (cause == 2 || cause == 6 || cause == 10) then cause - 1 else cause
  let st := csr x vsstatusN
  let st := setBit st 8 (modePriv x.mode == 1)
  let st := setBit (setBit st 5 (getBit st 1)) 1 false
  let x := setCsr vsepcN x.pc (setCsr vscauseN (causeWord c irq) (setCsr vstvalN tval x))
  let x := setCsr vsstatusN st x
  { x with mode := .vs, pc := tvecTarget (csr x vstvecN) c irq }

/-- Exceptions that hedeleg never delegates: its bits are read-only 0 (R130, R480). -/
def hedelegFixed (cause : Nat) : Bool :=
  cause == 19 || cause == 24 || cause == 25 || cause == 27 || (decide (48 ≤ cause) && decide (cause ≤ 59))

/-- The mode a trap enters. -/
def trapMode (x : Hart) (cause : Nat) (irq : Bool) : Mode :=
  let m := if irq then csr x midelegN else csr x medelegN
  let hd := if irq then csr x hidelegN else csr x hedelegN
  if x.mode == .m || !getBit m cause then .m
  else if modeV x.mode && getBit hd cause && (irq || !hedelegFixed cause) then .vs
  else .hs

/-- A trap of a hart. Inside an enclave it is an asynchronous exit first, and tval, tval2 and tinst read 0 (R382). -/
def takeTrap (h cause : Nat) (irq : Bool) (tval tval2 : Nat) (d : Dev) : Dev :=
  let inside := decide ((hartOf d h).eid ≠ 0)
  let d := if inside then haltIfDue h (asyncExit h (updHart d h (fun x => { x with waiting := none }))) else d
  let tv := if inside then 0 else tval
  let tv2 := if inside then 0 else tval2
  if inside && (hartOf d h).halted then d
  else haltIfDue h (updHart d h (fun x =>
    let x := { x with waiting := none }
    match trapMode x cause irq with
    | .vs => trapVS cause irq tv x
    | .hs => trapHS cause irq tv tv2 x
    | _ => trapM cause irq tv tv2 x))

/-- Exceptions of an instruction with encoding `w`: illegal (2) and virtual (22) instruction; tval holds the instruction (Sstvala of RVA23). -/
def trapIllegal (h w : Nat) (d : Dev) : Dev := takeTrap h 2 false w 0 d
def trapVirtual (h w : Nat) (d : Dev) : Dev := takeTrap h 22 false w 0 d

/-! ### Interrupts -/

/-- The most urgent pending and enabled identity of an IMSIC file. -/
def imsicTop (f : ImsicFile) : Option Nat :=
  if f.delivery = 1 then
    ((List.range 256).find? (fun i => f.pending.contains i && f.enabled.contains i)).filter (fun i => f.threshold == 0 || decide (i < f.threshold))
  else none

/-- Bits of mip that read 1: the latched local interrupts, those hvip raises, the timers, and the IMSIC's external interrupts. -/
def pendingIrqs (d : Dev) (h : Nat) : List Nat :=
  let x := hartOf d h
  let stce := getBit (csr x menvcfgN) 63
  x.irqPending ++
  ([2, 6, 10].filter (fun i => getBit (csr x 0x645) i)) ++
  (if stce && decide (csr x 0x14D ≤ d.now) then [5] else []) ++
  (if stce && getBit (csr x henvcfgN) 63 && decide (csr x 0x24D ≤ (d.now + csr x 0x605) % 2 ^ 64) then [6] else []) ++
  (if (imsicTop x.imsicM).isSome then [11] else []) ++ (if (imsicTop x.imsicS).isSome then [9] else []) ++
  (if (imsicTop (tabGet imsicInit x.imsicG (getBits (csr x hstatusN) 12 6))).isSome then [10] else []) ++
  (if (List.range 8).any (fun g => getBit (csr x 0x607) g && (imsicTop (tabGet imsicInit x.imsicG g)).isSome) then [12] else [])

/-- Default order of major interrupts, most urgent first; 24 and 25 last (log entry 11). -/
def irqOrder : List Nat := [11, 3, 7, 9, 1, 5, 12, 10, 2, 6, 13, 24, 25]

/-- Supervisor and guest external interrupts are not taken below M while the lower world is secure (R367). -/
def irqMasked (d : Dev) (x : Hart) (i : Nat) : Bool :=
  secureExists d && x.lowerSecure && (i == 9 || i == 10 || i == 12)

/-- The interrupt is pending and locally enabled: a wake condition (R101). -/
def irqWakes (d : Dev) (h : Nat) (i : Nat) : Bool :=
  (pendingIrqs d h).contains i && getBit (csr (hartOf d h) mieN) i

/-- The interrupt is taken in the hart's present mode. -/
def irqTaken (d : Dev) (h : Nat) (i : Nat) : Bool :=
  let x := hartOf d h
  irqWakes d h i &&
  (match trapMode x i true with
    | .vs => !irqMasked d x i && (x.mode == .vu || (x.mode == .vs && getBit (csr x vsstatusN) 1))
    | .hs => !irqMasked d x i && (modeV x.mode || x.mode == .u || (x.mode == .hs && getBit (csr x mstatusN) 1))
    | _ => !getBit (csr x midelegN) i && (x.mode != .m || getBit (csr x mstatusN) 3))

/-- The interrupt the hart takes next. -/
def nextIrq (d : Dev) (h : Nat) : Option Nat := irqOrder.find? (fun i => irqTaken d h i)

/-! ### The Page Owner Table as an access meets it (R368–R371) -/

/-- Who an access acts as (R370). -/
inductive Ident where
  | normal | secure | enclave (e : Nat) | inst (i : Nat)
deriving DecidableEq, Repr

/-- Pages the mirror makes hub-private with LOCK 1: the checkpoint block and the log while MIRROR_ENABLE reads 1 (R408), and on a STANDBY its
mirrored set and its log (R407). The table's own bytes keep what they record. -/
def mirrorPrivate (d : Dev) (pa : Nat) : Bool :=
  (ent d 0x6000 1 == 1 && ((decide (ent d 0x6001 0 ≤ pa) && decide (pa < ent d 0x6001 0 + 8388608)) || inLog d pa)) ||
  (d.mirror.setPrivate && (inMirror d pa || inLog d pa))

/-- The entry of a page: fixed outside the covered range and on CXL pages, hub-private in the table itself (R368) and where the mirror
makes it so. -/
def potEntry (d : Dev) (pa : Nat) : Nat :=
  if mirrorPrivate d pa then 0xC000
  else if d.pot.size ≠ 0 ∧ d.pot.base ≤ pa ∧ pa < d.pot.base + d.pot.size then 0xC000
  else if pa < d.pot.cover ∧ pa < 0x1000_0000_0000 then leNat (cohBytes d (d.pot.base + pa / 4096 * 2) 2)
  else 0
def potClass (e : Nat) : Nat := getBits e 12 3
def potOid (e : Nat) : Nat := getBits e 0 12
/-- The POT line of a page, where the table covers it. -/
def potLine (d : Dev) (pa : Nat) : Option Nat :=
  if pa < d.pot.cover ∧ pa < 0x1000_0000_0000 then some ((d.pot.base + pa / 4096 * 2) / 64) else none

/-- What an identity may do with a page of an entry (R370): bit 0 read, 1 write, 2 execute. -/
def potRights (e : Nat) : Ident → Nat
  | .normal => if potClass e = 0 then 7 else 0
  | .secure => if potClass e = 0 then 3 else if potClass e = 1 then 7 else 0
  | .enclave k => if potClass e = 0 then 3 else if potClass e = 2 ∧ potOid e = k then 7 else 0
  | .inst k => if potClass e = 0 then 3 else if potClass e = 3 ∧ potOid e = k then 3 else 0

/-- The hub control range and the Gauge export window (R371). -/
def inHubRange (pa : Nat) : Bool := decide (0x3FF0_0000_0000 ≤ pa) && decide (pa ≤ 0x3FF0_001F_FFFF)
def inGaugeWindow (pa : Nat) : Bool := decide (0x3FF0_0100_0000 ≤ pa) && decide (pa ≤ 0x3FF0_0180_0FFF)

/-- A hart's identity in a mode. -/
def hartIdent (d : Dev) (x : Hart) (m : Mode) : Ident :=
  if x.eid ≠ 0 ∧ m ≠ .m then .enclave x.eid else if worldSecure d x m then .secure else .normal

/-- Check 3 of R113 on a hart's access in mode `m`: what it may do (R371). -/
def ownerRights (d : Dev) (x : Hart) (m : Mode) (pa : Nat) : Nat :=
  if isMain d pa then potRights (potEntry d pa) (hartIdent d x m)
  else if inHubRange pa then (if m = .m then 7 else 0)
  else 7

/-- An entry read as class 5 or 7 is denied and recorded (R369). -/
def potRecord (pa : Nat) (d : Dev) : Dev :=
  if isMain d pa && (potClass (potEntry d pa) == 5 || potClass (potEntry d pa) == 7) then
    mcWrite { bank := 0x9203, unitNo := 0, severity := 4, source := 10, unit := 0, paddr := some (pa / 64 * 64) } d
  else d

/-! ### PMP (log entry 11) -/

/-- The configuration octet and address of PMP entry `i` (R413: pmpcfg0, pmpcfg2, pmpaddr0–15). -/
def pmpCfg (x : Hart) (i : Nat) : Nat := getBits (csr x (0x3A0 + i / 8 * 2)) (i % 8 * 8) 8
def pmpAddr (x : Hart) (i : Nat) : Nat := csr x (0x3B0 + i) % 2 ^ 54
/-- Trailing ones of a number, as far as `n` bits. -/
def trailingOnes (v : Nat) : Nat → Nat
  | 0 => 0
  | n + 1 => if v % 2 = 1 then trailingOnes (v / 2) n + 1 else 0
/-- The bytes PMP entry `i` covers: first and one past the last; none when it is off. -/
def pmpRange (x : Hart) (i : Nat) : Option (Nat × Nat) :=
  match getBits (pmpCfg x i) 3 2 with
  | 0 => none
  | 1 => some (if i = 0 then 0 else pmpAddr x (i - 1) * 4, pmpAddr x i * 4)
  | 2 => some (pmpAddr x i * 4, pmpAddr x i * 4 + 4)
  | _ =>
    let k := trailingOnes (pmpAddr x i) 54 + 3
    some (pmpAddr x i * 4 / 2 ^ k * 2 ^ k, pmpAddr x i * 4 / 2 ^ k * 2 ^ k + 2 ^ k)
/-- PMP entry `i` matches some byte of `[pa, pa + size)`. -/
def pmpMatch (x : Hart) (i pa size : Nat) : Bool :=
  match pmpRange x i with
  | some (lo, hi) => decide (pa < hi) && decide (lo < pa + size)
  | none => false
/-- PMP permits an access of `size` bytes: 0 fetch, 1 load, 3 store. The lowest-numbered entry that matches a byte must cover every byte; with no
match, M mode passes and lower modes fail. -/
def pmpOk (x : Hart) (m : Mode) (acc pa size : Nat) : Bool :=
  match (List.range 16).find? (fun i => pmpMatch x i pa size) with
  | none => m == .m
  | some i =>
    let c := pmpCfg x i
    (match pmpRange x i with | some (lo, hi) => decide (lo ≤ pa) && decide (pa + size ≤ hi) | none => false) &&
    ((m == .m && !getBit c 7) || (match acc with | 0 => getBit c 2 | 1 => getBit c 0 | _ => getBit c 1))

end Sys2Proof.Machine
end

