-- ==== Sys2Proof/Machine/Translate.lean ====
section
/-!
DEFINITION. Translation: walks and their ordered checks (R111–R113, R129–R133), the structures that hold translations with their tags (R114, R115,
R135), and what a walk leaves behind (R117, R136).
-/
set_option linter.unusedVariables false
set_option linter.constructorNameAsVariable false

namespace Sys2Proof.Machine

/-- What a walk has done so far: the lines it has read, the ANCESTRY filter of them but for the last entry's, and the non-leaf and G-stage entries
it will leave in the walk caches. -/
structure WalkAcc where
  read : List Nat
  anc : Nat
  steps : List Tlb
  gsteps : List Tlb
deriving DecidableEq, Repr

/-- A walk that has read nothing. -/
def walkStart : WalkAcc := { read := [], anc := 0, steps := [], gsteps := [] }

/-- What a walk or a translation ends in. -/
inductive Tr where
  /-- The physical address, the entry that gives it, and, where it was walked, what the walk fills. -/
  | ok (pa : Nat) (ent : Option Tlb) (fill : Option WalkAcc)
  /-- A line the walk needs is not on the die, or not yet protected (R137); the lines read so far. -/
  | miss (line : Nat) (walked : List Nat)
  /-- A fault: code, tval2, and the line whose read returned an error. -/
  | fault (cause tval2 : Nat) (bad : Option Nat)
  /-- Overlapping entries of different sizes (R135). -/
  | conflict
deriving DecidableEq, Repr

/-- Access fault, page fault and guest page fault codes of an access: 0 fetch, 1 load, 3 store (R129). -/
def accessFault (acc : Nat) : Nat := match acc with | 0 => 1 | 1 => 5 | _ => 7
def pageFault (acc : Nat) : Nat := 12 + acc
def guestFault (acc : Nat) : Nat := 20 + acc

/-- Enter the POT line of a page a walk touches (R115). -/
def ancPage (d : Dev) (pa anc : Nat) : Nat := match potLine d pa with | some l => ancAdd anc l | none => anc

/-- One table read of a walk by the checks of R113, through the core's L2 (R112): the entry and its line. `prot` are the lines a protected walk has
protected: any other is a miss (R137). -/
def walkRead (d : Dev) (h : Nat) (x : Hart) (md : Mode) (acc tval2 pa : Nat) (prot : Option (List Nat)) (w : WalkAcc) :
    Except Tr (Nat × Nat × WalkAcc) :=
  let line := lineOf pa
  if !isMain d pa then .error (.fault (52 + acc) tval2 none)
  else if !pmpOk x .hs 1 pa 8 then .error (.fault (accessFault acc) tval2 none)
  else if !getBit (ownerRights d x md pa) 0 then .error (.fault (24 + acc) tval2 none)
  else match dieLine d (dieOfHart h) line with
    | none => .error (.miss line w.read)
    | some l =>
      if (match prot with | some ps => !ps.contains line | none => false) then .error (.miss line w.read)
      else if l.poison then .error (.fault (48 + acc) tval2 (some line))
      else .ok (leAt (lineBytes l.data) (pa % 64) 8, line, { w with read := w.read ++ [line], anc := ancPage d pa w.anc })

/-- A leaf a walk found: entry, physical base of its page, log2 of the page's size, the line that holds it. -/
structure Leaf where
  pte : Nat
  base : Nat
  size : Nat
  line : Nat
deriving DecidableEq, Repr

/-- A walk over `n + 1` levels from a table's base: `rd` reads an entry, `mk` makes the walk-cache entry of a non-leaf, `pf` is the fault of a bad
entry; the top level of a G-stage table has four times the entries. -/
def ptWalk (rd : Nat → WalkAcc → Except Tr (Nat × Nat × WalkAcc)) (mk : Nat → Nat → Nat → Nat → Tlb) (pf : Tr) (pbmte : Bool) :
    Nat → Bool → Nat → Nat → WalkAcc → Except Tr (Leaf × WalkAcc)
  | 0, _, _, _, _ => .error pf
  | n + 1, x4, base, va, w =>
    let idx := getBits va (12 + 9 * n) (if x4 then 11 else 9)
    match rd (base + 8 * idx) w with
    | .error t => .error t
    | .ok (pte, pline, w) =>
      let ppn := getBits pte 10 44
      let pbmt := getBits pte 61 2
      if !getBit pte 0 || (!getBit pte 1 && getBit pte 2) || getBits pte 54 7 != 0 || pbmt == 3 || (pbmt != 0 && !pbmte) then .error pf
      else if !getBit pte 1 && !getBit pte 3 then
        if getBit pte 4 || getBit pte 6 || getBit pte 7 || pbmt != 0 || getBit pte 63 then .error pf
        else ptWalk rd mk pf pbmte n false (ppn * 4096) va { w with anc := ancAdd w.anc pline, steps := mk n (ppn * 4096) pline w.anc :: w.steps }
      else if getBit pte 63 then
        if n = 0 ∧ ppn % 16 = 8 then .ok ({ pte := pte, base := ppn / 16 * 65536, size := 16, line := pline }, w)
        else .error pf
      else if ppn % 2 ^ (9 * n) ≠ 0 then .error pf
      else .ok ({ pte := pte, base := ppn * 4096, size := 12 + 9 * n, line := pline }, w)

/-- Levels of a translation MODE: Sv39, Sv48, Sv57 (R111). -/
def levelsOf (mode : Nat) : Nat := match mode with | 8 => 3 | 9 => 4 | 10 => 5 | _ => 0

/-- A virtual address is the sign extension of its translated bits. -/
def canonical (va bits : Nat) : Bool :=
  let top := va / 2 ^ (bits - 1)
  top == 0 || top == 2 ^ (64 - (bits - 1)) - 1

/-- The permission bits of an entry allow an access (Svade: A, and D for a store, must be set). -/
def permOk (perm acc : Nat) (user sum mxr : Bool) : Bool :=
  (match acc with
    | 0 => getBit perm 3
    | 1 => getBit perm 1 || (mxr && getBit perm 3)
    | _ => getBit perm 2) &&
  (if user then getBit perm 4 else !getBit perm 4 || (sum && acc != 0)) &&
  getBit perm 6 && (acc != 3 || getBit perm 7)

/-! ### Tags (R115) -/

/-- The V = 1 context of a hart in a mode; an enclave has none. -/
def virtCtx (x : Hart) (md : Mode) : Bool := modeV md && x.eid == 0
/-- The ASID of an access: an enclave's tables are its own. -/
def asidOf (x : Hart) (md : Mode) : Nat := if x.eid ≠ 0 then 0 else getBits (csr x (if modeV md then vsatpN else satpN)) 44 16
def vmidOf (x : Hart) (md : Mode) : Nat := if virtCtx x md then getBits (csr x hgatpN) 44 14 else 0
/-- The G stage is on for an access. -/
def gStageOn (x : Hart) (md : Mode) : Bool := virtCtx x md && levelsOf (getBits (csr x hgatpN) 60 4) != 0
/-- The VS stage is Bare for an access. -/
def vsBare (x : Hart) (md : Mode) : Bool := virtCtx x md && levelsOf (getBits (csr x vsatpN) 60 4) == 0

/-- A blank entry with the tags of an access. -/
def tagged (d : Dev) (x : Hart) (md : Mode) : Tlb :=
  { va := 0, size := 0, full := 0, level := 0, pa := 0, gpa := none, twoStage := gStageOn x md, virt := virtCtx x md, bare := vsBare x md, asid := asidOf x md,
    vmid := vmidOf x md, glob := false, perm := 0, gperm := 255, pbmt := 0, leafLine := 0, pair := false, anc := 0, gen := false, owner := 0,
    secure := worldSecure d x md, eid := x.eid }
/-- The context of an entry is that of an access (R115, R366: filled in one world, used only there). -/
def sameCtx (d : Dev) (x : Hart) (md : Mode) (t : Tlb) : Bool :=
  t.virt == virtCtx x md && t.eid == x.eid && t.secure == worldSecure d x md && (t.glob || t.asid == asidOf x md) && t.vmid == vmidOf x md &&
  t.twoStage == gStageOn x md && t.bare == vsBare x md
/-- The entry covers an address. -/
def covers (va : Nat) (t : Tlb) : Bool := decide (t.va ≤ va) && decide (va < t.va + 2 ^ t.size)
/-- The deepest walk-cache entry for an address. -/
def deepest (va : Nat) (p : Tlb → Bool) (l : List Tlb) : Option Tlb :=
  let hits := l.filter (fun t => p t && decide (t.level ≠ 0) && covers va t)
  hits.find? (fun t => hits.all (fun u => decide (t.size ≤ u.size)))
/-- A walk-cache entry: the table of level `n` that a non-leaf at `pline` names. -/
def stepEntry (blank : Tlb) (va : Nat) (n base pline anc : Nat) : Tlb :=
  let sz := 12 + 9 * n
  { blank with va := va / 2 ^ sz * 2 ^ sz, size := sz, full := sz, level := n, pa := base, leafLine := pline, anc := anc }
/-- Walk from the root, or from the deepest table a walk cache names (R114). -/
def walkFrom (e : Option Tlb) (n root : Nat) (x4 : Bool) (go : Nat → Bool → Nat → WalkAcc → Except Tr (Leaf × WalkAcc)) (w : WalkAcc) :
    Except Tr (Leaf × WalkAcc) :=
  match e with
  | some t => go t.level false t.pa { w with anc := ancAdd (Nat.lor w.anc t.anc) t.leafLine }
  | none => go n x4 root w

/-! ### Walks -/

/-- The tag of G-stage entries: those of the virtual machine in the hart's world. -/
def gTagged (d : Dev) (x : Hart) (md : Mode) : Tlb := { tagged d x md with asid := 0, bare := false, glob := true }
def gCtx (d : Dev) (x : Hart) (md : Mode) (t : Tlb) : Bool := t.vmid == vmidOf x md && t.secure == worldSecure d x md && t.virt

/-- G-stage translation of a guest physical address: for a table read (`implicit`), whose result the G-stage walk cache keeps, or the access itself. -/
def gStage (d : Dev) (h : Nat) (x : Hart) (md : Mode) (acc : Nat) (implicit : Bool) (gpa : Nat) (prot : Option (List Nat)) (w : WalkAcc) :
    Except Tr (Nat × Option Leaf × WalkAcc) :=
  let hg := csr x hgatpN
  let n := levelsOf (getBits hg 60 4)
  if n = 0 then .ok (gpa, none, w)
  else
    let pf := Tr.fault (guestFault acc) (gpa / 4) none
    if 2 ^ (14 + 9 * n) ≤ gpa then .error pf
    else match (if implicit then x.gcache.find? (fun t => gCtx d x md t && t.level == 0 && covers gpa t) else none) with
    | some t => .ok (t.pa + gpa % 2 ^ t.size, none, { w with anc := ancAdd (Nat.lor w.anc t.anc) t.leafLine })
    | none =>
      let go (n : Nat) (x4 : Bool) (base : Nat) (v : WalkAcc) : Except Tr (Leaf × WalkAcc) :=
        ptWalk (fun a v => walkRead d h x md acc 0 a prot v) (stepEntry (gTagged d x md) gpa) pf (getBit (csr x menvcfgN) 62) n x4 base gpa v
      match walkFrom (deepest gpa (gCtx d x md) x.gcache) n (getBits hg 0 44 * 4096 / 16384 * 16384) true go { w with steps := [] } with
      | .error t => .error t
      | .ok (lf, v) =>
        if permOk lf.pte (if implicit then 1 else acc) true false (getBit (csr x mstatusN) 19) then
          let pa := lf.base / 2 ^ lf.size * 2 ^ lf.size + gpa % 2 ^ lf.size
          let leafEnt : Tlb := { gTagged d x md with
            va := gpa / 2 ^ lf.size * 2 ^ lf.size, size := lf.size, full := lf.size, pa := pa / 2 ^ lf.size * 2 ^ lf.size, gperm := lf.pte % 256,
            leafLine := lf.line, pair := lf.size == 16, anc := v.anc }
          .ok (pa, some lf, { v with
            anc := ancAdd v.anc lf.line, steps := w.steps, gsteps := (if implicit then [leafEnt] else []) ++ v.steps ++ w.gsteps })
        else .error pf

/-- The entry a completed walk fills: the smaller of the two leaf sizes (R114). -/
def tlbOf (d : Dev) (x : Hart) (md : Mode) (va : Nat) (leaf : Leaf) (g : Option (Nat × Leaf)) (pa : Nat) (w : WalkAcc) : Tlb :=
  let sz := match g with | some l => min leaf.size l.2.size | none => leaf.size
  { tagged d x md with
    va := va / 2 ^ sz * 2 ^ sz, size := sz, full := sz, pa := pa / 2 ^ sz * 2 ^ sz, gpa := g.map (fun l => l.1 / 2 ^ sz * 2 ^ sz),
    glob := getBit leaf.pte 5, perm := leaf.pte % 256, gperm := match g with | some l => l.2.pte % 256 | none => 255,
    pbmt := getBits leaf.pte 61 2, leafLine := leaf.line, pair := leaf.size == 16, anc := ancPage d pa w.anc, owner := ownerRights d x md pa }

/-- A walk of `va` for an access (R111–R113). -/
def walk (d : Dev) (h : Nat) (x : Hart) (md : Mode) (acc va : Nat) (prot : Option (List Nat)) : Tr :=
  let user := md == .u || md == .vu
  let st := csr x mstatusN
  let start := deepest va (sameCtx d x md) x.wcache
  let fin (sum mxr : Bool) (twoStage : Bool) : Except Tr (Leaf × WalkAcc) → Tr := fun r =>
    match r with
    | .error t => t
    | .ok (lf, w) =>
      if !permOk lf.pte acc user sum mxr then .fault (pageFault acc) 0 none
      else
        let ga := lf.base / 2 ^ lf.size * 2 ^ lf.size + va % 2 ^ lf.size
        if twoStage then
          (match gStage d h x md acc false ga prot w with
            | .error t => t
            | .ok (pa, g, w) => .ok pa (some (tlbOf d x md va lf (g.map (fun l => (ga, l))) pa w)) (some w))
        else .ok ga (some (tlbOf d x md va lf none ga w)) (some w)
  let pf := Tr.fault (pageFault acc) 0 none
  let mk := stepEntry (tagged d x md) va
  let direct (a : Nat) (w : WalkAcc) := walkRead d h x md acc 0 a prot w
  let single (n root : Nat) : Tr :=
    if !canonical va (12 + 9 * n) then pf
    else fin (getBit st 18) (getBit st 19) false
      (walkFrom start n root false (fun n x4 b w => ptWalk direct mk pf (getBit (csr x menvcfgN) 62) n x4 b va w) walkStart)
  if x.eid ≠ 0 ∧ md ≠ .m then single (3 + getBits (enclOf d x.eid).attr 4 2) ((enclOf d x.eid).roots.headD 0)
  else if modeV md then
    let vs := csr x vsatpN
    let n := levelsOf (getBits vs 60 4)
    let vst := csr x vsstatusN
    if n = 0 then
      (match gStage d h x md acc false va prot walkStart with
        | .error t => t
        | .ok (pa, some lf, w) =>
          .ok pa (some (tlbOf d x md va { lf with pte := 0xDF, base := va / 2 ^ lf.size * 2 ^ lf.size } (some (va, lf)) pa w)) (some w)
        | .ok (pa, none, _) => .ok pa none none)
    else if !canonical va (12 + 9 * n) then pf
    else fin (getBit vst 18) (getBit vst 19 || getBit st 19) true
      (walkFrom start n (getBits vs 0 44 * 4096) false (fun n x4 b w =>
        ptWalk (fun a w => match gStage d h x md acc true a prot w with
          | .error t => .error t
          | .ok (pa, _, w) => walkRead d h x md acc (a / 4) pa prot w) mk pf (getBit (csr x henvcfgN) 62) n x4 b va w) walkStart)
  else
    let sa := csr x satpN
    let n := levelsOf (getBits sa 60 4)
    if md = .m ∨ n = 0 then .ok va none none else single n (getBits sa 0 44 * 4096)

/-! ### Lookups (R114, R126, R135) -/

/-- Some stage translates an access. -/
def translates (x : Hart) (md : Mode) : Bool :=
  if md == .m then false
  else if x.eid ≠ 0 then true
  else if modeV md then gStageOn x md || !vsBare x md
  else levelsOf (getBits (csr x satpN) 60 4) != 0
/-- A TLB entry applies to an access of the hart in a mode. -/
def tlbHits (d : Dev) (x : Hart) (md : Mode) (va : Nat) (t : Tlb) : Bool := covers va t && sameCtx d x md t
/-- The L1 an access looks up. -/
def l1Of (x : Hart) (acc : Nat) : List Tlb := if acc = 0 then x.itlb else x.dtlb

/-- Translation through the TLBs, then, where the instruction accesses the `size` bytes at the address, the checks of the final access (R113): with
a stored entry its OWNER_OK answers check 3. -/
def translate (d : Dev) (h : Nat) (md : Mode) (acc va size : Nat) (access : Bool) (prot : Option (List Nat)) : Tr :=
  let x := hartOf d h
  let finish (pa : Nat) (ent : Option Tlb) (fill : Option WalkAcc) : Tr :=
    let tv2 := match ent with | some t => (match t.gpa with | some g => (g + va % 2 ^ t.size) / 4 | none => 0) | none => 0
    let rights := match ent with | some t => t.owner | none => ownerRights d x md pa
    if !access then .ok pa ent fill
    else if !pmpOk x md acc pa size then .fault (accessFault acc) tv2 none
    else if !getBit rights (match acc with | 0 => 2 | 1 => 0 | _ => 1) then .fault (24 + acc) tv2 none
    else .ok pa ent fill
  let walked : Tr := match walk d h x md acc va prot with | .ok pa ent fill => finish pa ent fill | t => t
  if translates x md = false then finish va none none
  else
    let h1 := (l1Of x acc).filter (tlbHits d x md va)
    let h2 := x.tlb.filter (tlbHits d x md va)
    match h1 ++ h2 with
    | [] => walked
    | t :: ts =>
      if ts.any (fun u => u.full != t.full) then .conflict
      else if 1 < h1.length ∨ (h1 = [] ∧ 1 < h2.length) then walked
      else
        let st := csr x mstatusN
        let sum := if t.virt then getBit (csr x vsstatusN) 18 else getBit st 18
        let mxr := getBit st 19 || (t.virt && getBit (csr x vsstatusN) 19)
        if !t.bare && !permOk t.perm acc (md == .u || md == .vu) sum mxr then .fault (pageFault acc) 0 none
        else if t.gperm != 255 && !permOk t.gperm acc true false (getBit st 19) then
          .fault (guestFault acc) ((t.gpa.getD 0 + va % 2 ^ t.size) / 4) none
        else finish (t.pa + va % 2 ^ t.size) (some t) none

/-! ### What a walk leaves -/

/-- Mark a line walked by a core of its die (R117). -/
def markWalked (h line : Nat) (d : Dev) : Dev :=
  let d := touchCore h line false d
  match dieLine d (dieOfHart h) line with
  | some l => setDieLine (dieOfHart h) line (some { l with walked := setBit l.walked (coreOfHart h) true }) d
  | none => d

/-- Put an entry first in a structure of `cap` entries; its oldest leaves (log entry 12). -/
def pushTlb (cap : Nat) (t : Tlb) (l : List Tlb) : List Tlb := (t :: l.filter (· != t)).take cap
/-- Put an entry in the L2 TLB: 256 sets of 12 ways; a leaf above 1 GiB is held as the 1 GiB fragment that contains the access (R114). -/
def pushL2 (va : Nat) (t : Tlb) (l : List Tlb) : List Tlb :=
  let t := if 30 < t.size then
      { t with va := va / 2 ^ 30 * 2 ^ 30, pa := t.pa + va % 2 ^ t.size / 2 ^ 30 * 2 ^ 30, gpa := t.gpa.map (fun g => g + va % 2 ^ t.size / 2 ^ 30 * 2 ^ 30), size := 30 }
    else t
  let set (u : Tlb) : Nat := u.va / 2 ^ u.size % 256
  t :: (l.filter (fun u => set u != set t && u != t)) ++ ((l.filter (fun u => set u == set t && u != t)).take 11)

/-- Discard the leaf entries of a hart that match an access (R125, R135). -/
def dropTlb (h va : Nat) (md : Mode) (d : Dev) : Dev :=
  updHart d h (fun x =>
    let keep (t : Tlb) : Bool := !tlbHits d x md va t
    { x with itlb := x.itlb.filter keep, dtlb := x.dtlb.filter keep, tlb := x.tlb.filter keep })

/-- A translated access leaves its entry in the L1 it looked up; a completed walk, which first discards what it replaces (R135), leaves it in the L2 TLB
as well, its non-leaf and G-stage entries in the walk caches, and its lines marked (R114, R115, R117). -/
def fillTlb (h : Nat) (md : Mode) (acc va : Nat) (ent : Option Tlb) (fill : Option WalkAcc) (d : Dev) : Dev :=
  match ent with
  | none => d
  | some t =>
    let l1 (x : Hart) : Hart := if acc = 0 then { x with itlb := pushTlb 64 t x.itlb } else { x with dtlb := pushTlb 96 t x.dtlb }
    match fill with
    | none => updHart (if (if acc = 0 then (hartOf d h).itlb else (hartOf d h).dtlb).contains t then d else countHart h (if acc = 0 then 0x0E else 0x0F) d) h l1
    | some w =>
      let d := w.read.foldl (fun d l => markWalked h l d) (dropTlb h va md d)
      countHart h 0x11 (countHart h 0x10 <| countHart h (if acc = 0 then 0x0E else 0x0F) <| updHart d h (fun x => l1 { x with
        tlb := pushL2 va t x.tlb,
        wcache := w.steps.foldr (pushTlb 64) x.wcache,
        gcache := w.gsteps.foldr (pushTlb 32) x.gcache }))

/-- Raise what a translation ended in (R129–R131, R135). -/
def raiseTr (h : Nat) (md : Mode) (acc va : Nat) (t : Tr) (d : Dev) : Dev :=
  match t with
  | .fault cause tv2 bad =>
    let d := dropTlb h va md d
    let d := match bad with
      | some l => countHart h 0x22 (mcWrite
          { bank := 0x9200, unitNo := dieOfHart h, severity := 1, source := 1, unit := dieOfHart h + 256 * coreOfHart h,
            paddr := some (l * 64), hart := h } d)
      | none => d
    let d := if cause = 52 + acc then countHart h 0x22 d else if cause = 24 + acc then countHart h 0x21 d else d
    takeTrap h cause false va tv2 d
  | .conflict => takeTrap h (56 + acc) false va 0 (countHart h 0x23 (dropTlb h va md d))
  | _ => d

end Sys2Proof.Machine
end

