-- ==== Sys2Proof/Machine/HartMem.lean ====
section
/-!
DEFINITION. A hart's memory accesses: translation, the line they need, the request its die sends (R185), and what the
access does once the line is there (R183, R187, R193, R197). An access that needs a message parks in `waiting`, and the
arrival that brings what it lacks tries it again from its translation. A hart performs one access at a time, in program
order, which RVWMO allows (log entry 14).
-/
set_option linter.unusedVariables false
set_option linter.constructorNameAsVariable false

namespace Sys2Proof.Machine

/-! ### Requests of a die -/

/-- A miss tag of the die not in use. -/
def freeTag (d : Dev) (n : Nat) : Nat :=
  let x := dieOf d n
  let used := x.misses.map (fun m => m.rtag) ++ (hartsOfDie n).flatMap (fun h => (hartOf d h).debts.filterMap (fun s => s.rtag))
  ((List.range 4096).find? (fun k => !used.contains ((x.nextTag + k) % 4096))).elim 0 (fun k => (x.nextTag + k) % 4096)

/-- Miss kinds: data, instruction fetch, walk, maintenance, zero, uncached. -/
def kindData : Nat := 0
def kindFetch : Nat := 1
def kindWalk : Nat := 2
def kindMaint : Nat := 3
def kindZero : Nat := 4
def kindNc : Nat := 5

/-- Open a miss and send its request (R178, R185). -/
def sendReq (h : Nat) (op : Op) (kind addr size : Nat) (prot : Bool) (data : Line) (d : Dev) : Dev :=
  let n := dieOfHart h
  let tag := freeTag d n
  let ms : Miss := { rtag := tag, op := op, line := lineOf addr, core := coreOfHart h, kind := kind, gotData := false, gotCmp := false, needCmp := false, kdone := false, queued := [] }
  let d := updDie d n (fun x => { x with misses := x.misses ++ [ms], nextTag := (tag + 1) % 4096 })
  let d := if op = .rds ∨ op = .rdc ∨ op = .rdx then countMiss h (kind == kindFetch) false false d else d
  send true { msgOf d op n with rtag := tag, core := coreOfHart h, addr := addr, size := size, prot := prot, data := data } d

/-- Why a line on a die does not yet serve an access; none when it does. -/
inductive Need where
  | wait                -- an open fill or a write-back of the line (R195)
  | ask (op : Op)
deriving DecidableEq, Repr

/-- What an access lacks of a line: `excl` for a store or atomic, `rd` the request of a read (R185). -/
def lineNeed (d : Dev) (n line : Nat) (excl : Bool) (rd : Op) : Option Need :=
  match dieLine d n line with
  | some l =>
    if !excl then none
    else if (missOf d n line).isSome then some .wait
    else if l.st == .mm || l.st == .ee then none
    else some (.ask .upg)
  | none =>
    if (missOf d n line).isSome || (wbOf d n line).isSome then some .wait
    else some (.ask (if excl then .rdx else rd))

/-- An operation that starts: nothing read, nothing translated. -/
def waitingFor (op : MemOp) : Waiting := { op := op, line := 0, walked := [], restarts := 0, gen := false, prot := [], deps := [] }
/-- Park an operation until the fabric brings what it lacks. -/
def park (h : Nat) (w : Waiting) (d : Dev) : Dev := updHart d h (fun x => { x with waiting := some w })
/-- Park an operation that waits for a line. -/
def parkOn (h : Nat) (op : MemOp) (line : Nat) (d : Dev) : Dev := park h { waitingFor op with line := line } d

/-! ### Translating an access of several bytes -/

/-- An access by the lines it touches: virtual address, offset in the access, length. -/
def splitAccess (va size : Nat) : List (Nat × Nat × Nat) :=
  if va % 64 + size ≤ 64 then [(va, 0, size)]
  else [(va, 0, 64 - va % 64), ((va / 64 * 64 + 64) % 2 ^ 64, 64 - va % 64, size - (64 - va % 64))]

/-- The privilege of an explicit access: MPRV in M mode takes that of MPP and MPV. -/
def accessMode (x : Hart) : Mode :=
  if x.mode == .m && getBit (csr x mstatusN) 17 then modeOf (getBit (csr x mstatusN) 39) (getBits (csr x mstatusN) 11 2) else x.mode

/-- What the translation of one part gives: its address, the entry used, and what its walk fills. -/
structure PartTr where
  va : Nat
  ent : Option Tlb
  fill : Option WalkAcc
deriving DecidableEq, Repr

/-- Translate every part: physical parts and entries, or the first part that stops, with its address. -/
def translateParts (d : Dev) (h : Nat) (md : Mode) (acc : Nat) (prot : Option (List Nat)) :
    List (Nat × Nat × Nat) → Except (Tr × Nat) (List (Nat × Nat × Nat) × List PartTr)
  | [] => .ok ([], [])
  | (va, off, len) :: r =>
    match translate d h md acc va len true prot with
    | .ok pa ent fill =>
      (match translateParts d h md acc prot r with
        | .ok (ps, fs) => .ok ((pa, off, len) :: ps, { va := va, ent := ent, fill := fill } :: fs)
        | .error e => .error e)
    | t => .error (t, va)

/-- A protected walk has ended: PROT_END for each line it protected (R137, R192). -/
def endProtected (h : Nat) (lines : List Nat) (d : Dev) : Dev :=
  (nubNat lines).foldl (fun d l => send true { msgOf d .protEnd (dieOfHart h) with addr := l * 64 } d) d
/-- The lines a walk may read: after 16 restarts in a row only those it has protected (R137). -/
def protLines (w : Waiting) : Option (List Nat) := if 16 ≤ w.restarts then some w.prot else none

/-- A walk stops at a line that is not on the die, or not yet protected: it asks for it, with PROT after 16 restarts in a row (R136, R137). -/
def walkMiss (h : Nat) (w : Waiting) (line : Nat) (read : List Nat) (d : Dev) : Dev :=
  let n := dieOfHart h
  let prot := decide (16 ≤ w.restarts)
  let busy := (missOf d n line).isSome || ((dieLine d n line).isNone && (wbOf d n line).isSome)
  let d := if busy then d else sendReq h .rdw kindWalk (line * 64) 0 prot 0 d
  park h { w with line := line, walked := nubNat (w.walked ++ read ++ [line]), gen := false,
                  prot := if prot && !busy then nubNat (w.prot ++ [line]) else w.prot } d

/-- A translation stopped short of an address. -/
def stopped (h : Nat) (w : Waiting) (md : Mode) (acc : Nat) (t : Tr) (va : Nat) (d : Dev) : Dev :=
  match t with
  | .miss line read => walkMiss h w line read d
  | t => raiseTr h md acc va t (endProtected h w.prot d)

/-- The first line of an access that is not held as it needs, asked for; none when every line serves. -/
def gatherLines (h : Nat) (op : MemOp) (excl : Bool) (rd : Op) (kind : Nat) (d : Dev) : List (Nat × Nat × Nat) → Option Dev
  | [] => none
  | (pa, _, _) :: r =>
    match lineNeed d (dieOfHart h) (lineOf pa) excl rd with
    | none => gatherLines h op excl rd kind d r
    | some n =>
      let d := match n with | .ask o => sendReq h o kind (pa / 64 * 64) 0 false 0 d | .wait => d
      some (parkOn h op (lineOf pa) d)

/-! ### Reading and writing lines the die holds -/

/-- The bytes of a physical access from the die's lines. -/
def readParts (d : Dev) (n : Nat) (ps : List (Nat × Nat × Nat)) : List Byte :=
  ps.flatMap (fun p => match dieLine d n (lineOf p.1) with
    | some l => sliceOf (lineBytes l.data) (p.1 % 64) p.2.2
    | none => List.replicate p.2.2 0)
/-- Some line of an access is poisoned. -/
def partsPoison (d : Dev) (n : Nat) (ps : List (Nat × Nat × Nat)) : Option Nat :=
  (ps.find? (fun p => match dieLine d n (lineOf p.1) with | some l => l.poison | none => false)).map (fun p => lineOf p.1)

/-- A dirty mirrored line joins the die's count (R410). -/
def noteDirty (n line : Nat) (d : Dev) : Dev :=
  if inMirror d (line * 64) && !(dieOf d n).dirtyOrder.contains line then updDie d n (fun x => { x with dirtyOrder := x.dirtyOrder ++ [line] }) else d

/-- The die's dirty mirrored lines, those in its write-back buffer included (R410). -/
def dirtyCount (d : Dev) (n : Nat) : Nat :=
  (dieOf d n).dirtyOrder.length + ((dieOf d n).wb.filter (fun e => e.dirty && inMirror d (e.line * 64))).length

/-- A store that would take the die's count above DIRTY_MAX waits for the cleaner (R410). -/
def dirtyBlocked (d : Dev) (n : Nat) (ps : List (Nat × Nat × Nat)) : Bool :=
  ent d 0x6000 1 == 1 && decide (ent d 0x6000 8 ≤ dirtyCount d n) &&
  ps.any (fun p => inMirror d p.1 && !(dieOf d n).dirtyOrder.contains (lineOf p.1))

/-- A store performs in a line the die owns: it becomes M, the other cores' and the L3's copies and reservations go, and translations derived
from it die; their done comes when the accesses in flight that used them have performed (R117, R119, R185, R191). The poison mark stays (R480). -/
def storeLine (h line off : Nat) (bs : List Byte) (d : Dev) : Dev :=
  let n := dieOfHart h
  match dieLine d n line with
  | some l =>
    let d := if l.walked ≠ 0 then killLine n line d else d
    let d := if l.walked ≠ 0 ∧ usesKilled d n line then updHart d h (fun x => { x with debts := x.debts ++ [{ line := line, rtag := none }] }) else d
    let k := coreOfHart h
    let d := setDieLine n line (some { l with
      st := .mm, data := lineSplice l.data off bs, cores := 2 ^ k, owner := k, walked := 0, l3 := false, l1i := 0, l1d := 2 ^ k }) (loseResv n line (some h) d)
    noteDirty n line d
  | none => d
/-- The core takes the lines of an access into its L2 and L1. -/
def touchParts (h : Nat) (fetch : Bool) (ps : List (Nat × Nat × Nat)) (d : Dev) : Dev := ps.foldl (fun d p => touchCore h (lineOf p.1) fetch d) d
/-- A store performs in every line it touches. -/
def storeParts (h : Nat) (bs : List Byte) (ps : List (Nat × Nat × Nat)) (d : Dev) : Dev :=
  flushDeferred (dieOfHart h)
    (ps.foldl (fun d p => storeLine h (lineOf p.1) (p.1 % 64) (sliceOf bs p.2.1 p.2.2) d) (touchParts h false ps d))

/-- A load's value of `size` bytes, extended to 64 bits. -/
def extendLoad (size : Nat) (signed : Bool) (v : Nat) : Nat := if signed then ofSigned 64 (toSigned (8 * size) v) else v % 2 ^ 64
/-- Floating-point state is off: FS of mstatus, or of vsstatus with V = 1, is 0 (log entry 11). -/
def fpOff (x : Hart) : Bool := getBits (csr x mstatusN) 13 2 == 0 || (modeV x.mode && getBits (csr x vsstatusN) 13 2 == 0)
/-- Vector state is off (log entry 11). -/
def vecOff (x : Hart) : Bool := getBits (csr x mstatusN) 9 2 == 0 || (modeV x.mode && getBits (csr x vsstatusN) 9 2 == 0)
/-- A status register with the two-bit field at a place, and SD, set. -/
def stDirty (at_ v : Nat) : Nat := setBit (setBits v at_ 2 3) 63 true
/-- A write of floating-point (`at_` = 13, FS) or vector (9, VS) state makes it dirty. -/
def dirtyState (at_ : Nat) (x : Hart) : Hart :=
  let y := setCsr mstatusN (stDirty at_ (csr x mstatusN)) x
  if modeV x.mode then setCsr vsstatusN (stDirty at_ (csr x vsstatusN)) y else y
/-- Deliver a load. A narrow floating-point value is NaN-boxed; a fetch writes no register. -/
def deliver (dst : Dst) (size : Nat) (signed : Bool) (v : Nat) (x : Hart) : Hart :=
  match dst with
  | .x r => setX r (extendLoad size signed v) x
  | .f r => dirtyState 13 (setF r (if size < 8 then v % 2 ^ (8 * size) + (2 ^ 64 - 2 ^ (8 * size)) else v) x)
  | .inst => x
/-- The length an instruction's load adds to pc; a fetch adds none. -/
def loadLen (dst : Dst) (len : Nat) : Nat := match dst with | .inst => 0 | _ => len

/-- A hart consumes poisoned data: exception 19 and a record, with the line where it is one of memory (R480, R507). -/
def machineCheckAt (h va : Nat) (line : Option Nat) (d : Dev) : Dev :=
  takeTrap h 19 false va 0 (mcWrite
    { bank := 0x9200, unitNo := dieOfHart h, severity := 2, source := 1, unit := dieOfHart h + 256 * coreOfHart h,
      paddr := line.map (· * 64), hart := h, mirrored := line.any (fun l => inMirror d (l * 64)) } d)
def machineCheck (h va line : Nat) (d : Dev) : Dev := machineCheckAt h va (some line) d

/-- The new value of an atomic on `size` bytes (RVA23 A, Zacas). -/
def amoResult (op : AmoOp) (size old val expected : Nat) : Nat :=
  let w := 8 * size
  match op with
  | .swap => val % 2 ^ w
  | .add => (old + val) % 2 ^ w
  | .xor => Nat.xor old (val % 2 ^ w)
  | .and => Nat.land old (val % 2 ^ w)
  | .or => Nat.lor old (val % 2 ^ w)
  | .min => if toSigned w old ≤ toSigned w val then old else val % 2 ^ w
  | .max => if toSigned w old ≤ toSigned w val then val % 2 ^ w else old
  | .minu => min old (val % 2 ^ w)
  | .maxu => max old (val % 2 ^ w)
  | .cas => if old = expected % 2 ^ w then val % 2 ^ w else old

/-- The old value an atomic returns: sign-extended, or a register pair for 16 bytes. -/
def setAmo (rd size old : Nat) (x : Hart) : Hart :=
  if size = 16 then (if rd = 0 then x else setX (rd + 1) (old / 2 ^ 64) (setX rd (old % 2 ^ 64) x))
  else setX rd (extendLoad size true old) x

/-! ### Reservations (R187) -/

/-- The hart's reservation ends: what waited behind it is served in order. -/
def clearResv (h : Nat) (d : Dev) : Dev :=
  match (hartOf d h).resv with
  | some _ => flushDeferred (dieOfHart h) (updHart d h (fun x => { x with resv := none }))
  | none => d

/-! ### Cache-block permissions (R193, Zicbom and Zicboz) -/

/-- Outcome of the envcfg checks: 0 illegal, 1 virtual instruction, 2 as written, 3 flush in place of invalidate. -/
def cboCheck (x : Hart) (op : CboOp) : Nat :=
  let me := csr x menvcfgN
  let se := csr x senvcfgN
  let he := csr x henvcfgN
  match op with
  | .inval =>
    let m := getBits me 4 2
    let s := getBits se 4 2
    let hh := getBits he 4 2
    (match x.mode with
      | .m => 2
      | .hs => if m = 0 then 0 else if m = 1 then 3 else 2
      | .u => if m = 0 ∨ s = 0 then 0 else if m = 1 ∨ s = 1 then 3 else 2
      | .vs => if m = 0 then 0 else if hh = 0 then 1 else if m = 1 ∨ hh = 1 then 3 else 2
      | .vu => if m = 0 then 0 else if hh = 0 ∨ s = 0 then 1 else if m = 1 ∨ hh = 1 ∨ s = 1 then 3 else 2)
  | _ =>
    let k := match op with | .zero => 7 | _ => 6
    (match x.mode with
      | .m => 2
      | .hs => if getBit me k then 2 else 0
      | .u => if getBit me k && getBit se k then 2 else 0
      | .vs => if !getBit me k then 0 else if getBit he k then 2 else 1
      | .vu => if !getBit me k then 0 else if getBit he k && getBit se k then 2 else 1)

/-- The encoding of a cache-block operation. -/
def cboWord (op : CboOp) (rs1 : Nat) : Nat :=
  (match op with | .inval => 0 | .clean => 1 | .flush => 2 | .zero => 4) * 2 ^ 20 + rs1 * 2 ^ 15 + 2 * 2 ^ 12 + 0x0F

/-! ### One attempt -/

/-- An uncached access of a hart to a device region: one aligned part of 1, 2, 4 or 8 bytes, else misaligned. -/
def ncAccess (h : Nat) (op : MemOp) (write : Bool) (va size : Nat) (ps : List (Nat × Nat × Nat)) (deps : List Tlb) (val : Nat) (d : Dev) : Dev :=
  match ps with
  | [(pa, _, _)] =>
    if (size = 1 ∨ size = 2 ∨ size = 4 ∨ size = 8) ∧ pa % size = 0 then
      park h { waitingFor op with line := lineOf pa, deps := deps } (sendReq h (if write then .ncwr else .ncrd) kindNc pa size false (BitVec.ofNat 512 val) d)
    else takeTrap h (if write then 6 else 4) false va 0 d
  | _ => takeTrap h (if write then 6 else 4) false va 0 d

/-- The identity's own pages show their OID to POQ (R91). -/
def poqValue (d : Dev) (x : Hart) (pa : Nat) : Nat :=
  let e := if isMain d pa then potEntry d pa else 0
  let own := match potClass e with
    | 0 => !worldSecure d x x.mode
    | 1 => worldSecure d x x.mode
    | 2 => x.eid != 0 && potOid e == x.eid
    | _ => false
  if own then e else e / 2 ^ 12 * 2 ^ 12

/-- A walk whose generation tag is set restarts from the root; a protected one does not (R136, R137). -/
def restarted (w : Waiting) : Bool := w.gen && decide (w.restarts < 16)

/-- Try a hart's memory operation, from its translation: it starts, or what it waited for has come. The reservation an SC needs is one of the same
address and size (log entry 62). -/
def attempt (h : Nat) (w : Waiting) (d : Dev) : Dev :=
  let d := if (hartOf d h).waiting.isSome then updHart d h (fun x => { x with waiting := none }) else d
  let again := restarted w
  let d := if again then countHart h 0x12 d else d
  let w := if again then { w with restarts := w.restarts + 1, walked := [] } else w
  let w := { w with gen := false }
  let x := hartOf d h
  let n := dieOfHart h
  let op := w.op
  let prot := protLines w
  let fill (md : Mode) (acc : Nat) (fs : List PartTr) (d : Dev) : Dev :=
    fs.foldl (fun d t => fillTlb h md acc t.va t.ent t.fill d) (endProtected h w.prot d)
  let ents (fs : List PartTr) : List Tlb := fs.filterMap (fun t => t.ent)
  match op with
  | .tsync =>
    if x.debts = [] then advance h 4 d else park h (waitingFor .tsync) d
  | .load va size dst signed len =>
    let md := match dst with | .inst => x.mode | _ => accessMode x
    let acc := match dst with | .inst => 0 | _ => 1
    (match translateParts d h md acc prot (splitAccess va size) with
      | .error (t, a) => stopped h w md acc t a d
      | .ok (ps, fs) =>
        let d := fill md acc fs d
        if ps.all (fun p => isMain d p.1) then
          (match gatherLines h op false (if acc = 0 then .rdc else .rds) (if acc = 0 then kindFetch else kindData) d ps with
            | some d => d
            | none =>
              match partsPoison d n ps with
              | some l => machineCheck h va l d
              | none => advance h (loadLen dst len) (updHart (touchParts h (acc == 0) ps d) h (deliver dst size signed (leNat (readParts d n ps)))))
        else ncAccess h op false va size ps (ents fs) 0 d)
  | .store va size val len =>
    let md := accessMode x
    (match translateParts d h md 3 prot (splitAccess va size) with
      | .error (t, a) => stopped h w md 3 t a d
      | .ok (ps, fs) =>
        let d := fill md 3 fs d
        if ps.all (fun p => isMain d p.1) then
          (match gatherLines h op true .rdx kindData d ps with
            | some d => d
            | none =>
              if dirtyBlocked d n ps then parkOn h op (lineOf ((ps.map (fun p => p.1)).headD 0)) d
              else advance h len (storeParts h (leBytes size val) ps d))
        else ncAccess h op true va size ps (ents fs) val d)
  | .amo va size aop val expected rd =>
    let md := accessMode x
    if 16 < va % 16 + size then takeTrap h 6 false va 0 d
    else
    (match translateParts d h md 3 prot [(va, 0, size)] with
      | .error (t, a) => stopped h w md 3 t a d
      | .ok (ps, fs) =>
        let d := fill md 3 fs d
        if !ps.all (fun p => isMain d p.1) then takeTrap h 7 false va 0 d
        else match gatherLines h op true .rdx kindData d ps with
          | some d => d
          | none =>
            match partsPoison d n ps with
            | some l => machineCheck h va l d
            | none =>
              let old := leNat (readParts d n ps)
              let d := storeParts h (leBytes size (amoResult aop size old val expected)) ps d
              advance h 4 (updHart d h (setAmo rd size old)))
  | .lr va size rd =>
    let md := accessMode x
    if va % size ≠ 0 then takeTrap h 4 false va 0 d
    else
    (match translateParts d h md 1 prot [(va, 0, size)] with
      | .error (t, a) => stopped h w md 1 t a d
      | .ok (ps, fs) =>
        let d := clearResv h (fill md 1 fs d)
        if !ps.all (fun p => isMain d p.1) then takeTrap h 5 false va 0 d
        else match gatherLines h op true .rdx kindData d ps with
          | some d => d
          | none =>
            match partsPoison d n ps with
            | some l => machineCheck h va l d
            | none =>
              let pa := (ps.map (fun p => p.1)).headD 0
              let v := leNat (readParts d n ps)
              let d := touchParts h false ps d
              advance h 4 (updHart d h (fun x => setX rd (extendLoad size true v) { x with resv := some { line := lineOf pa, addr := pa, size := size, deferring := true } })))
  | .sc va size val rd =>
    let md := accessMode x
    if va % size ≠ 0 then takeTrap h 6 false va 0 d
    else
    (match translateParts d h md 3 prot [(va, 0, size)] with
      | .error (t, a) => stopped h w md 3 t a d
      | .ok (ps, fs) =>
        let d := fill md 3 fs d
        let pa := (ps.map (fun p => p.1)).headD 0
        let good := match x.resv with | some r => r.addr == pa && r.size == size && isMain d pa | none => false
        if good then
          (match gatherLines h op true .rdx kindData d ps with
            | some d => d
            | none => advance h 4 (updHart (clearResv h (storeParts h (leBytes size val) ps d)) h (setX rd 0)))
        else advance h 4 (updHart (clearResv h d) h (setX rd 1)))
  | .cbo va cop =>
    let md := accessMode x
    let acc := match cop with | .zero => 3 | _ => 1
    let va := va / 64 * 64
    (match translate d h md acc va 64 true prot with
      | .ok pa ent f =>
        let d := fill md acc [{ va := va, ent := ent, fill := f }] d
        if !isMain d pa then (match cop with | .zero => takeTrap h 7 false va 0 d | _ => advance h 4 d)
        else
          (match cop with
            | .zero =>
              (match lineNeed d n (lineOf pa) true .zro with
                | none =>
                  let d := storeParts h (List.replicate 64 0) [(pa, 0, 64)] d
                  advance h 4 (match dieLine d n (lineOf pa) with
                    | some l => setDieLine n (lineOf pa) (some { l with poison := false }) d
                    | none => d)
                | some .wait => parkOn h op (lineOf pa) d
                | some (.ask _) => parkOn h op (lineOf pa) (sendReq h .zro kindZero pa 0 false 0 d))
            | _ =>
              park h { waitingFor op with line := lineOf pa, deps := ent.toList }
                (sendReq h (match cop with | .clean => .cln | .flush => .fls | _ => .inv) kindMaint pa 0 false 0 d))
      | .fault c tv2 bad => raiseTr h md 3 va (.fault (if acc = 3 then c else c + 2) tv2 bad) (endProtected h w.prot d)
      | t => stopped h w md acc t va d)
  | .poq va rd =>
    let md := accessMode x
    (match translate d h md 1 va 1 false prot with
      | .ok pa ent f =>
        let d := fill md 1 [{ va := va, ent := ent, fill := f }] d
        advance h 4 (updHart d h (fun x => setX rd (poqValue d x pa) x))
      | t => stopped h w md 1 t va d)
/-- Start a hart's memory operation. -/
def attemptNew (h : Nat) (op : MemOp) (d : Dev) : Dev := attempt h (waitingFor op) d

/-- Try again what a hart waits for, if it is on this line. -/
def retryHart (h : Nat) (d : Dev) : Dev :=
  match (hartOf d h).waiting with
  | some w => attempt h w d
  | none => d
/-- Every hart of a die that waits with no request of its own open tries again. -/
def wantsRetry (d : Dev) (h : Nat) : Bool :=
  match (hartOf d h).waiting with
  | some w => w.op != .tsync && !(dieOf d (dieOfHart h)).misses.any (fun m => m.core == coreOfHart h || m.line == w.line)
  | none => false
def retryAll (n : Nat) (d : Dev) : Dev :=
  (hartsOfDie n).foldl (fun d h => if wantsRetry d h then retryHart h d else d) d

/-- The hart's own maintenance or uncached request is still open. -/
def ownOpen (d : Dev) (h : Nat) : Bool :=
  (dieOf d (dieOfHart h)).misses.any (fun m => m.core == coreOfHart h && !fillOp m.op)
/-- The harts of a die that wait on a line try again, the requesting core's first (R183). -/
def retryLine (n line first : Nat) (d : Dev) : Dev :=
  ((18 * n + first) :: (hartsOfDie n).filter (fun h => h != 18 * n + first)).foldl (fun d h =>
    match (hartOf d h).waiting with
    | some w => if w.line = line ∧ w.op ≠ .tsync ∧ ownOpen d h = false then retryHart h d else d
    | none => d) d

/-- KILL_DONEs and the debts of kills within a die that no access in flight holds back any more are reported; a TSYNC that waited for the last
of its debts completes (R119, R120, R190, R191). -/
def settleKills (n : Nat) (d : Dev) : Dev :=
  let free (d : Dev) (line : Nat) : Bool := !usesKilled d n line
  let due := (dieOf d n).owed.filter (fun e => free d e.2)
  let d := updDie d n (fun x => { x with owed := x.owed.filter (fun e => !due.contains e) })
  let d := due.foldl (fun d e => killDone n e.1 e.2 d) d
  (hartsOfDie n).foldl (fun d h =>
    let done (s : StoreDebt) : Bool := s.rtag == none && free d s.line
    if (hartOf d h).debts.any done then
      let d := updHart d h (fun x => { x with debts := x.debts.filter (fun s => !done s) })
      match (hartOf d h).waiting with
      | some w => if w.op = .tsync then retryHart h d else d
      | none => d
    else d) d

end Sys2Proof.Machine
end

