-- ==== Sys2Proof/Machine/HomeSlice.lean ====
section
/-!
DEFINITION. Coherence messages that arrive at the hub, and agent accesses: the requests of R179, the answers to
forwards and snoops, write-backs, and the release of lines, entries and credits.
-/
set_option linter.unusedVariables false

namespace Sys2Proof.Machine

open Host (Outcome)

/-- The miss a request opens. -/
def missFrom (m : FMsg) : Miss :=
  { rtag := m.rtag, op := m.op, line := lineOf m.addr, core := m.core, kind := 0, gotData := false, gotCmp := false,
    needCmp := false, kdone := false, queued := [] }

/-- The miss a request belongs to, opened if the die has none for it. -/
def openMiss (m : FMsg) (d : Dev) : Dev :=
  if (dieOf d m.die).misses.any (fun x => x.rtag == m.rtag) then d
  else updDie d m.die (fun x => { x with misses := x.misses ++ [missFrom m] })

/-- A request of a die arrives at its home slice (R182, R202); a stale one is discarded (R209). Only main memory has a home slice. -/
def dieRequest (op : Op) (m : FMsg) (d : Dev) : Dev :=
  let m := { m with op := op, up := true }
  let d := arrive m d
  if staleFrom d m then dropStale m d
  else if isMain d m.addr then takeReq m.die (lineOf m.addr) (.die m) (openMiss m d)
  else d

def execRds (m : FMsg) (s : State) : Outcome State Fault Refusal := onDev (overLink m (dieRequest .rds m)) s
def execRdc (m : FMsg) (s : State) : Outcome State Fault Refusal := onDev (overLink m (dieRequest .rdc m)) s
/-- RDW: the line enters the walk-protect table when PROT is set (R192). -/
def execRdw (m : FMsg) (s : State) : Outcome State Fault Refusal := onDev (overLink m (dieRequest .rdw m)) s
def execRdx (m : FMsg) (s : State) : Outcome State Fault Refusal := onDev (overLink m (dieRequest .rdx m)) s
def execUpg (m : FMsg) (s : State) : Outcome State Fault Refusal := onDev (overLink m (dieRequest .upg m)) s
def execZro (m : FMsg) (s : State) : Outcome State Fault Refusal := onDev (overLink m (dieRequest .zro m)) s
def execCln (m : FMsg) (s : State) : Outcome State Fault Refusal := onDev (overLink m (dieRequest .cln m)) s
def execFls (m : FMsg) (s : State) : Outcome State Fault Refusal := onDev (overLink m (dieRequest .fls m)) s
def execInv (m : FMsg) (s : State) : Outcome State Fault Refusal := onDev (overLink m (dieRequest .inv m)) s

/-! ### Credits of the receivers (R143, R203) -/

/-- Requests of a die that wait in the slices' ingress queues. -/
def waitingOf (d : Dev) (n : Nat) : Nat := (d.slices.map (fun s => (s.2.ingress.filter (fun e => e.1 == n)).length)).foldl (· + ·) 0
/-- The receiver of a bundle returns the credits of the flits it has taken, with a control flit on the opposite bundle; the request channel of a
mortise port returns none while 64 of the die's requests wait. -/
def returnCredits (n : Nat) (up : Bool) (d : Dev) : Dev :=
  let b := bundleOf (linkOf d n) up
  let hold (vc : Nat) : Bool := up && vc == 0 && decide (64 ≤ waitingOf d n)
  let taken := (List.range 5).foldl (fun t vc => if hold vc then t else tabSet 0 t vc (tabGet 0 b.got vc)) b.taken
  if taken = b.taken then d
  else
    let d := updBundle n up (fun b => { b with taken := taken }) d
    emit (.control n (!up) ((List.range 5).map (fun vc => tabGet 0 taken vc)) none (ackOf (linkOf d n) (!up))) d

/-! ### Forwards and snoops reach a die -/

/-- Served; where the answer frees a write-back buffer entry, accesses that wait for it request the line anew (R195). -/
def dieForward (op : Op) (m : FMsg) (d : Dev) : Dev :=
  let m := { m with op := op, up := false }
  let line := lineOf m.addr
  let x := dieSnoop m.die m (arrive m d)
  if (wbOf d m.die line).isSome && (wbOf x m.die line).isNone then retryAll m.die x else x

def execFwdS (m : FMsg) (s : State) : Outcome State Fault Refusal := onDev (overLink m (dieForward .fwdS m)) s
def execFwdX (m : FMsg) (s : State) : Outcome State Fault Refusal := onDev (overLink m (dieForward .fwdX m)) s
def execSnpInv (m : FMsg) (s : State) : Outcome State Fault Refusal := onDev (overLink m (dieForward .snpInv m)) s
def execSnpPeek (m : FMsg) (s : State) : Outcome State Fault Refusal := onDev (overLink m (dieForward .snpPeek m)) s
def execSnpClean (m : FMsg) (s : State) : Outcome State Fault Refusal := onDev (overLink m (dieForward .snpClean m)) s
def execSnpFlush (m : FMsg) (s : State) : Outcome State Fault Refusal := onDev (overLink m (dieForward .snpFlush m)) s
def execBinv (m : FMsg) (s : State) : Outcome State Fault Refusal := onDev (overLink m (dieForward .binv m)) s

/-! ### Answers reach the hub -/

/-- Die `n` has answered what tracker entry `t` asked of it; KP makes a KILL_DONE due (R190). -/
def answered (txid n : Nat) (kp : Bool) (d : Dev) : Dev :=
  updTrk txid (fun t =>
    { t with acks := t.acks.filter (· != n), victims := t.victims.filter (· != n),
             kills := if kp then t.kills ++ [n] else t.kills, hadKills := t.hadKills || kp }) d

/-- The line whose transaction a tracker entry serves now: its victim's while one is being evicted. -/
def trkLine (d : Dev) (txid : Nat) : Nat := match trkOf d txid with | some t => t.line | none => 0

/-- SNP_ACK (R190). -/
def snpAckArrives (m : FMsg) (d : Dev) : Dev :=
  let m := { m with op := .snpAck, up := true }
  let d := arrive m d
  if staleFrom d m then dropStale m d else pump (trkLine d m.txid) (answered m.txid m.die m.kp d)

/-- FWD_ACK: the directory takes the state the owner reports (R184); HELD 0 is a directory error and the requester is
served the poisoned line (R195). -/
def fwdAckArrives (m : FMsg) (d : Dev) : Dev :=
  let m := { m with op := .fwdAck, up := true }
  let d := arrive m d
  if staleFrom d m then dropStale m d
  else match trkOf d m.txid with
    | none => d
    | some t =>
      let d := answered m.txid m.die m.kp d
      let d :=
        if !m.held then
          updTrk m.txid (fun x =>
            { x with fwdTo := none, needCmp := false, dirty := true, data := none,
                     req := match x.req with | .die q => .die { q with op := if q.op == .upg then .rdx else q.op } | r => r }) (dirError t.line d)
        else if t.holder < 12 ∧ (dieOf d t.holder).retired then
          (match dirOf d t.line with
            | some e => if (e.st == .x || e.st == .o) && e.owner == m.die then
                (if m.dirty then putDir t.line .o m.die e.pres e.bpres d else putDir t.line .s 0 e.pres e.bpres d) else d
            | none => d)
        else match dirOf d t.line, t.req with
          | some e, .die q =>
            if t.late then d
            else if (q.op == .rds || q.op == .rdc || q.op == .rdw) && e.owner == m.die && (e.st == .x || e.st == .o) then
              (if m.dirty then putDir t.line .o m.die (setBit e.pres t.holder true) e.bpres d
               else putDir t.line .s 0 (setBit e.pres t.holder true) e.bpres d)
            else if (q.op == .rds || q.op == .rdc || q.op == .rdw) && e.st == .s then
              putDir t.line .s 0 (setBit e.pres t.holder true) e.bpres d
            else d
          | _, _ => d
      pump t.line d

/-- KILL_DONE (R190). -/
def killDoneArrives (m : FMsg) (d : Dev) : Dev :=
  let m := { m with op := .killDone, up := true }
  let d := arrive m d
  if staleFrom d m then dropStale m d
  else pump (trkLine d m.txid) (updTrk m.txid (fun t => { t with kills := t.kills.erase m.die }) d)

/-- Protections of a line that a test names end. Deferred requests are taken in arrival order, and so are those that waited to evict the line (R192). -/
def endProtect (line : Nat) (p : Nat × Nat → Bool) (d : Dev) : Dev :=
  let sl := homeSlice d (line * 64)
  let d := pump line (updSlice d sl (fun s => { s with protect := s.protect.filter (fun e => !(e.1 == line && p e)) }))
  ((sliceOf_ d sl).trk.filter (fun t => (sliceOf_ d sl).setWait.contains t.txid && dirSet t.line == dirSet line)).foldl (fun d t => pump t.line d) d

/-- PROT_END: the walking die's protection ends (R192). -/
def protEndArrives (m : FMsg) (d : Dev) : Dev :=
  let m := { m with op := .protEnd, up := true }
  let d := arrive m d
  if staleFrom d m then dropStale m d else endProtect (lineOf m.addr) (fun e => e.2 == m.die) d
/-- WALK_PROTECT_TIMEOUT: 2 µs from the oldest entry of the line (R192). -/
def protTimeout (line : Nat) (d : Dev) : Dev :=
  match (sliceOf_ d (homeSlice d (line * 64))).protect.find? (fun e => e.1 == line) with
  | some e => endProtect line (fun x => x == e) d
  | none => d

/-- DATA_SNP: the answer to SNP_PEEK, SNP_CLEAN, SNP_FLUSH or BINV. Dirty data of a CLN, a FLS or an eviction goes to memory;
dirty data of an INV is discarded; agents take it as the line's value (R186, R188, R193). -/
def dataSnpArrives (m : FMsg) (d : Dev) : Dev :=
  let m := { m with op := .dataSnp, up := true }
  let d := arrive m d
  if staleFrom d m then dropStale m d
  else match trkOf d m.txid with
    | none => d
    | some t =>
      let evicts := t.victims.contains m.die
      let line := if evicts then t.victim.getD t.line else t.line
      let d :=
        if evicts then (if m.dirty then memWrite line m.data m.poison d else d)
        else match t.req with
          | .die q =>
            if q.op == .cln then
              let d := if m.dirty then memWrite line m.data m.poison d else d
              (match dirOf d line with
                | some e => if e.st = .o then putDir line .s 0 e.pres e.bpres d else d
                | none => d)
            else if q.op == .fls then (if m.dirty then memWrite line m.data m.poison d else d)
            else d
          | .agent _ _ => updTrk m.txid (fun x => { x with data := some m.data, poison := m.poison, dirty := m.dirty }) d
      pump t.line (answered m.txid m.die m.kp d)

/-- An owner's data arrives at the hub, which routes it down to the requester unchanged (R179), or into memory where that die is lost (R215). -/
def dataUp (op : Op) (m : FMsg) (d : Dev) : Dev :=
  let m := { m with op := op, up := true }
  let d := arrive m d
  if staleFrom d m then dropStale m d
  else match trkFrom d m.txid with
    | some (r, tag) =>
      let line := trkLine d m.txid
      let d := countFill m.txid 0x0A (updTrk m.txid (fun t => { t with routed := true }) d)
      let d := if (dieOf d r).retired then memWrite line m.data m.poison (forgetDie r line d)
        else send false { m with die := r, inc := (dieOf d r).inc, rtag := tag } d
      pump line d
    | none => d

def execSnpAck (m : FMsg) (s : State) : Outcome State Fault Refusal := onDev (overLink m (snpAckArrives m)) s
def execFwdAck (m : FMsg) (s : State) : Outcome State Fault Refusal := onDev (overLink m (fwdAckArrives m)) s
def execKillDone (m : FMsg) (s : State) : Outcome State Fault Refusal := onDev (overLink m (killDoneArrives m)) s
def execProtEnd (m : FMsg) (s : State) : Outcome State Fault Refusal := onDev (overLink m (protEndArrives m)) s
def execWalkProtectTimeout (line : Nat) (s : State) : Outcome State Fault Refusal := onDev (protTimeout line) s
def execDataSnp (m : FMsg) (s : State) : Outcome State Fault Refusal := onDev (overLink m (dataSnpArrives m)) s

/-! ### Write-backs (R186, R195) -/

/-- The line leaves the die's caches for the write-back buffer: derived translations die (R118, R195). -/
def evictToBuffer (n line : Nat) (d : Dev) : Dev :=
  match dieLine d n line with
  | some l =>
    let d := flushDeferred n (dropDieLine n line d)
    updDie d n (fun x => { x with wb := x.wb ++ [{ line := line, data := l.data, poison := l.poison, dirty := isDirtyState l.st, st := l.st, acked := 0 }] })
  | none => d

/-- A draining die's lines go to its write-back buffer, as far as its 96 entries reach, and on to the hub: WB_M or WB_P if dirty, EVN if clean (R195,
R210). -/
def drainLines (n : Nat) (d : Dev) : Dev :=
  ((dieOf d n).cache.take (96 - (dieOf d n).wb.length)).foldl (fun d e => match e.2 with
    | some l =>
      let op : Op := if isDirtyState l.st then (if l.poison then .wbP else .wbM) else .evn
      send true { msgOf d op n with addr := e.1 * 64, data := if isDirtyState l.st then l.data else 0 } (evictToBuffer n e.1 d)
    | none => d) d

/-- The slice has sent the die a forward or snoop for the line that is not answered (R195). -/
def snoopOpen (d : Dev) (n line : Nat) : Bool :=
  (sliceOf_ d (homeSlice d (line * 64))).trk.any (fun t =>
    (t.line == line && t.acks.contains n) || (t.victim == some line && t.victims.contains n))

/-- A write-back or notice that the model has not sent is one of an eviction that happens now: of a line the die holds, dirty for a write-back
and clean for a notice, with no fill or write-back of it open. Any other cannot occur (log entry 3). -/
def canEvict (d : Dev) (n line : Nat) (dirty : Bool) : Bool :=
  match dieLine d n line with
  | some l => isDirtyState l.st == dirty && (wbOf d n line).isNone && (missOf d n line).isNone && decide ((dieOf d n).wb.length < 96)
  | none => false

/-- The hub answers a write-back. -/
def wbAnswer (op : Op) (n line : Nat) (d : Dev) : Dev := send false { msgOf d op n with addr := line * 64 } d

/-- A dirty write-back arrives: written to memory from its owner with no forward in flight, else a data-less acknowledgement. -/
def wbArrives (op : Op) (m : FMsg) (d : Dev) : Dev :=
  let m := { m with op := op, up := true }
  let sent := d.flight.contains m
  let d := arrive m d
  if staleFrom d m then dropStale m d
  else if !sent && !canEvict d m.die (lineOf m.addr) true then d
  else
    let line := lineOf m.addr
    let d := evictToBuffer m.die line d
    let x : Line × Bool := match wbOf d m.die line with
      | some e => (e.data, e.poison || op == .wbP)
      | none => (m.data, op == .wbP)
    let st := dstate d line
    if (st = .x ∨ st = .o) ∧ ownerOf d line = m.die ∧ !snoopOpen d m.die line then
      let d := memWrite line x.1 x.2 d
      let d := match dirOf d line with
        | some e =>
          let pres := setBit e.pres m.die false
          if st = .x ∨ (pres = 0 ∧ e.bpres = 0) then setDir line none d else putDir line .s 0 pres e.bpres d
        | none => d
      pump line (wbAnswer .wbAck m.die line d)
    else pump line (wbAnswer .wbXack m.die line d)

/-- A clean eviction notice arrives: the PRES bit clears (R186); where it is clear already a snoop has crossed the notice (R196). -/
def evnArrives (m : FMsg) (d : Dev) : Dev :=
  let m := { m with op := .evn, up := true }
  let sent := d.flight.contains m
  let d := arrive m d
  if staleFrom d m then dropStale m d
  else if !sent && !canEvict d m.die (lineOf m.addr) false then d
  else
    let line := lineOf m.addr
    let d := evictToBuffer m.die line d
    let named := match dirOf d line with | some e => getBit e.pres m.die | none => false
    if named && snoopOpen d m.die line then pump line (wbAnswer .wbXack m.die line d)
    else
      let d := match dirOf d line with
        | some e =>
          let pres := setBit e.pres m.die false
          if !getBit e.pres m.die then d
          else match e.st with
            | .o => if e.owner = m.die then d else putDir line .o e.owner pres e.bpres d
            | st => if pres = 0 ∧ e.bpres = 0 then setDir line none d else putDir line (if st = .x then .s else st) 0 pres e.bpres d
        | none => d
      pump line (wbAnswer .wbAck m.die line d)

def execWbM (m : FMsg) (s : State) : Outcome State Fault Refusal := onDev (overLink m (wbArrives .wbM m)) s
def execWbP (m : FMsg) (s : State) : Outcome State Fault Refusal := onDev (overLink m (wbArrives .wbP m)) s
def execEvn (m : FMsg) (s : State) : Outcome State Fault Refusal := onDev (overLink m (evnArrives m)) s

/-! ### Agents, entries and credits -/

/-- The tracker holder an agent's accesses use (R201). -/
def holderOf : AgentId → Nat
  | .bench b _ => 12 + b % 4
  | .inlay s _ => 16 + s % 2
  | .device _ _ _ => 18
  | .hub _ => 18

/-- The IOMMU's cached translation for an access (R139). -/
def ioHit (d : Dev) (t : IoTr) : Option IoEnt :=
  d.iommu.find? (fun e => e.gscid == t.gscid && e.pscid == t.pscid && e.page == t.iova / 4096)
/-- The first read of an IOMMU walk that fails a check of R113: main memory, the owner check as the normal world, an error in the data (R139). -/
def ioWalkFails (d : Dev) (t : IoTr) : Bool :=
  t.tables.any (fun a => !isMain d a || !getBit (potRights (potEntry d a) .normal) 0 || (cohRead d (lineOf a)).2)
/-- The physical address a device's access has: the cached translation while one stands, whatever the tables now say; else what the
tables give, which is then cached; none where the walk fails a check. -/
def ioTranslate (tr : Option IoTr) (addr : Nat) (d : Dev) : Option Nat × Dev :=
  match tr with
  | none => (some addr, d)
  | some t =>
    match ioHit d t with
    | some e => (some (e.pa + t.iova % 4096), d)
    | none =>
      if ioWalkFails d t then (none, d)
      else (some addr, { d with iommu := d.iommu ++ [{ gscid := t.gscid, pscid := t.pscid, page := t.iova / 4096, gpage := t.gpa / 4096, pa := addr / 4096 * 4096 }] })

def opWrites : AgentOp → Bool
  | .read => false
  | _ => true

/-- An access of a device that the IOMMU or the owner check stops: a fault record with cause 5, or 7 for a write, and an error completion (R139, R371). -/
def deviceFault (rp tag pa : Nat) (write : Bool) (d : Dev) : Dev :=
  emit (.agentError (32 + rp) tag) (emit (.iommuFault (if write then 7 else 5) pa) (countPkg pkgIommuFaults d))
/-- A device's access: translated, and checked against the page's owner as the normal world (R370, R371). The hub control range and the Gauge
window are refused. -/
def deviceAccess (rp tag : Nat) (tr : Option IoTr) (addr : Nat) (op : AgentOp) (d : Dev) : Dev :=
  let r := ioTranslate tr addr d
  match r.1 with
  | none => deviceFault rp tag (match tr with | some t => t.iova | none => addr) (opWrites op) r.2
  | some pa =>
    let ok := if isMain d pa then getBit (potRights (potEntry d pa) .normal) (b2n (opWrites op)) else !(inHubRange pa || inGaugeWindow pa)
    if ok then
      (if isMain d pa then takeReq 18 (lineOf pa) (.agent (.device rp tag tr) op) r.2
       else emit (.agentDone (32 + rp) tag false (if opWrites op then [] else leBytes 64 (freeVal d))) (emit (.device (opWrites op) pa 64 0) (drawn r.2)))
    else deviceFault rp tag pa (opWrites op) (potRecord pa d)

/-- An agent's access reaches the home slice of a main-memory line (R186, R188, R189). -/
def agentAccess (who : AgentId) (addr : Nat) (op : AgentOp) (d : Dev) : Dev :=
  match who with
  | .device rp tag tr => deviceAccess rp tag tr addr op d
  | .inlay s _ =>
    if isMain d addr then
      takeReqAt (holderOf who) (lineOf addr) (siteOf d (s % 2)).nextOrder (.agent who op) (updSite d (s % 2) (fun x => { x with nextOrder := x.nextOrder + 1 }))
    else d
  | _ => if isMain d addr then takeReq (holderOf who) (lineOf addr) (.agent who op) d else d

def execAgentRead (who : AgentId) (addr : Nat) (s : State) : Outcome State Fault Refusal := onDev (agentAccess who addr .read) s
def execAgentWrite (who : AgentId) (addr : Nat) (data : Line) (mask : Nat) (s : State) : Outcome State Fault Refusal :=
  onDev (agentAccess who addr (.write data (mask % 2 ^ 64))) s
/-- A hub atomic on the 8 naturally aligned bytes that hold `addr` (R188). -/
def execAgentAtomic (who : AgentId) (addr op a b : Nat) (s : State) : Outcome State Fault Refusal :=
  onDev (agentAccess who addr (.atomic (addr % 64 / 8 * 8) op (a % 2 ^ 64) (b % 2 ^ 64))) s

/-- The hub atomic unit releases a line to memory, in state I (R188). -/
def releaseH (line : Nat) (d : Dev) : Dev :=
  let sl := homeSlice d (line * 64)
  match (sliceOf_ d sl).hLine.find? (fun h => h.1 == line) with
  | some h =>
    let d := updSlice d sl (fun s => { s with hLine := s.hLine.filter (fun y => y.1 != line) })
    pump line (memWrite line h.2.1 h.2.2 (setDir line none d))
  | none => d
def execHubAtomicRelease (line : Nat) (s : State) : Outcome State Fault Refusal := onDev (releaseH line) s

/-- The waiting request a free entry goes to: the oldest that has an entry free and no older one of its holder or for its line before it (R182, R202). -/
def nextWaiting (d : Dev) (sl : Nat) : List (Nat × Nat × Req × Nat) → List (Nat × Nat × Req × Nat) → Option (Nat × Nat × Req × Nat)
  | _, [] => none
  | older, e :: r =>
    if (entryFor d sl e.1).isSome && !older.any (fun o => o.1 == e.1 || o.2.1 == e.2.1) then some e else nextWaiting d sl (e :: older) r
/-- A free entry goes to that request, and what its die's request channel had withheld goes back (R202, R203). -/
def takeWaiting (sl : Nat) (d : Dev) : Dev :=
  match nextWaiting d sl [] (sliceOf_ d sl).ingress with
  | some e =>
    (match entryFor d sl e.1 with
      | some pool =>
        let d := updSlice d sl (fun s => { s with ingress := s.ingress.erase e })
        let d := pump e.2.1 (newTrk sl e.1 e.2.1 pool e.2.2.2 e.2.2.1 d)
        if e.1 < 12 then returnCredits e.1 true d else d
      | none => d)
  | none => d
def execTrackerEntryFree (slice : SliceN) (s : State) : Outcome State Fault Refusal := onDev (takeWaiting slice) s

/-- The set's retry credit goes to the oldest request that waits for the set (R206); it proceeds if a line has stopped counting. -/
def retrySet (sl set : Nat) (d : Dev) : Dev :=
  match (sliceOf_ d sl).setWait.find? (fun tx => match trkOf d tx with | some t => dirSet t.line == set | none => false) with
  | some tx => pump (trkLine d tx) d
  | none => d
def execSetRetryCredit (slice : SliceN) (set : Nat) (s : State) : Outcome State Fault Refusal := onDev (retrySet slice set) s

end Sys2Proof.Machine
end

