-- ==== Sys2Proof/Machine/DieSide.lean ====
section
/-!
DEFINITION. Messages that arrive at a compute die from the hub: data and completions (R179, R183, R184), the done report
of kills (R190), write-back acknowledgements (R195), uncached data, and IMSIC writes (R103, R211, R215).
-/
set_option linter.unusedVariables false

namespace Sys2Proof.Machine

open Host (Outcome)

def isDataOp : Op → Bool
  | .dataS | .dataE | .dataM => true
  | _ => false
/-- A message of some kind for a miss is on its way down to a die. -/
def comingDown (d : Dev) (n rtag : Nat) (p : Op → Bool) : Bool :=
  (d.flight ++ (linkOf d n).down.queue).any (fun m => !m.up && m.die == n && m.rtag == rtag && p m.op)
/-- Data for a miss is on its way: down to the die, or from an owner up to the hub (R179). -/
def dataComing (d : Dev) (n rtag : Nat) : Bool :=
  comingDown d n rtag isDataOp ||
  (d.flight ++ d.links.flatMap (fun e => e.2.up.queue)).any (fun m => m.up && isDataOp m.op && trkFrom d m.txid == some (n, rtag))

def missByTag (d : Dev) (n rtag : Nat) : Option Miss := (dieOf d n).misses.find? (fun m => m.rtag == rtag)
def updMiss (n rtag : Nat) (f : Miss → Miss) (d : Dev) : Dev :=
  updDie d n (fun x => { x with misses := x.misses.map (fun m => if m.rtag = rtag then f m else m) })
def dropMiss (n rtag : Nat) (d : Dev) : Dev := updDie d n (fun x => { x with misses := x.misses.filter (fun m => m.rtag != rtag) })

/-- The kills a store caused are not all done yet (R120, R190). -/
def oweKills (n : Nat) (ms : Miss) (kp : Bool) (d : Dev) : Dev :=
  if kp && !ms.kdone then updHart d (18 * n + ms.core) (fun x => { x with debts := x.debts ++ [{ line := ms.line, rtag := some ms.rtag }] }) else d

/-- A fill is complete: the waiting accesses are performed, and then the queued forwards are served (R183). Where a kill of the line is among them, a
walk that waited for it takes nothing from it and restarts after they are served (R136). -/
def finishFill (n : Nat) (ms : Miss) (d : Dev) : Dev :=
  let d := dropMiss n ms.rtag d
  let serve (d : Dev) : Dev := ms.queued.foldl (fun d m => dieSnoop n m d) d
  if ms.kind = kindWalk ∧ ms.queued.any (fun m => killsCopy m.op) then retryLine n ms.line ms.core (serve d)
  else flushDeferred n (serve (retryLine n ms.line ms.core d))

/-- The state a data message grants. -/
def grantState : Op → Moesi
  | .dataM => .mm
  | .dataE => .ee
  | _ => .ss

/-- A line with nothing in it. -/
def blankLine : DLine := { st := .ii, data := 0, poison := false, cores := 0, owner := 18, walked := 0, l3 := false, l1i := 0, l1d := 0 }
/-- The walked marks the die's copy of a line has. -/
def walkedMarks (d : Dev) (n line : Nat) : Nat := match dieLine d n line with | some l => l.walked | none => 0
/-- A miss's line is installed in the requesting core's L2 and, where it is granted shared, in the L3 (R171); marks of walks that have read the die's
earlier copy stay until the store kills what they derived (R117). -/
def fillLine (n : Nat) (ms : Miss) (l : DLine) (d : Dev) : Dev :=
  let k := ms.core
  let fetch := ms.kind == kindFetch
  let d := makeRoom n k ms.line fetch d
  l3Trim n (setDieLine n ms.line (some { l with
    cores := Nat.lor (2 ^ k) l.cores, walked := Nat.lor (walkedMarks d n ms.line) (if ms.kind = kindWalk then 2 ^ k else 0),
    l1i := if fetch then 2 ^ k else 0, l1d := if fetch then 0 else 2 ^ k }) d)
/-- A store of a whole line has performed: the die's entries derived from it die (R117). -/
def killWalked (n line : Nat) (d : Dev) : Dev :=
  match dieLine d n line with
  | some l => if l.walked ≠ 0 then setDieLine n line (some { l with walked := 0 }) (killLine n line d) else d
  | none => d

/-- Data for an open miss: the line is installed; a CBO.ZERO takes it zeroed and in M; an access that still needs its CMP waits (R184). -/
def dataArrives (op : Op) (m : FMsg) (d : Dev) : Dev :=
  let m := { m with op := op, up := false }
  let d := arrive m d
  let n := m.die
  if m.inc ≠ (dieOf d n).inc then d
  else match missByTag d n m.rtag with
    | none => d
    | some ms =>
      let zero := ms.op == .zro
      let st := if zero then .mm else grantState op
      let d := fillLine n ms { blankLine with
        st := st, data := if zero then 0 else m.data, poison := if zero then false else m.poison, owner := ms.core, l3 := st == .ss } d
      let d := oweKills n ms m.kp (if zero then killWalked n ms.line d else d)
      let d := if st = .mm then noteDirty n ms.line d else d
      let need := (match trkOf d m.txid with | some t => t.needCmp && t.line == ms.line && t.holder == n | none => false) ||
        comingDown d n m.rtag (fun o => o == .cmp)
      if need && !ms.gotCmp then updMiss n m.rtag (fun x => { x with gotData := true, needCmp := true }) d
      else finishFill n ms d

/-- A data message travels up from an owner, and down to the requester (R179). -/
def dataMsg (op : Op) (m : FMsg) (d : Dev) : Dev := if m.up then dataUp op m d else dataArrives op m d
def execDataS (m : FMsg) (s : State) : Outcome State Fault Refusal := onDev (overLink m (dataMsg .dataS m)) s
def execDataE (m : FMsg) (s : State) : Outcome State Fault Refusal := onDev (overLink m (dataMsg .dataE m)) s
def execDataM (m : FMsg) (s : State) : Outcome State Fault Refusal := onDev (overLink m (dataMsg .dataM m)) s

/-- A maintenance or uncached operation of a core ends: its instruction completes, and what waited for its performing is reported (R119). -/
def completeOp (n : Nat) (ms : Miss) (len : Nat) (d : Dev) : Dev :=
  let h := 18 * n + ms.core
  let d := dropMiss n ms.rtag d
  match (hartOf d h).waiting with
  | some w => if w.line = ms.line then settleKills n (advance h len d) else d
  | none => d

/-- The length of the instruction a hart waits on. -/
def waitLen (d : Dev) (h : Nat) : Nat :=
  match (hartOf d h).waiting with
  | some { op := .load _ _ dst _ len, .. } => loadLen dst len
  | some { op := .store _ _ _ len, .. } => len
  | _ => 4

/-- CMP: ownership granted, an operation performed, or an uncached write ordered (R179). -/
def cmpArrives (m : FMsg) (d : Dev) : Dev :=
  let m := { m with op := .cmp, up := false }
  let d := arrive m d
  let n := m.die
  if m.inc ≠ (dieOf d n).inc then d
  else match missByTag d n m.rtag with
    | none => d
    | some ms =>
      if ms.core = 31 then retryAll n (dropMiss n ms.rtag d)
      else if !fillOp ms.op then completeOp n ms (waitLen d (18 * n + ms.core)) d
      else
        let d := oweKills n ms m.kp d
        let ms := { ms with kdone := ms.kdone || m.kp }
        if ms.gotData then finishFill n ms d
        else if dataComing d n m.rtag then updMiss n m.rtag (fun x => { x with gotCmp := true, kdone := ms.kdone }) d
        else if ms.op == .zro then
          finishFill n ms (killWalked n ms.line (fillLine n ms { blankLine with st := .mm, owner := ms.core } d))
        else if ms.op == .rdw then finishFill n ms d
        else
          finishFill n ms (match dieLine d n ms.line with
            | some l => setDieLine n ms.line (some { l with
                  st := if isDirtyState l.st then .mm else .ee, cores := 2 ^ ms.core, owner := ms.core, l3 := false, l1i := 0, l1d := 2 ^ ms.core }) d
            | none => d)
def execCmp (m : FMsg) (s : State) : Outcome State Fault Refusal := onDev (overLink m (cmpArrives m)) s

/-- KDONE: every kill of the request is done, and a TSYNC that waited for it may complete (R120, R190). -/
def kdoneArrives (m : FMsg) (d : Dev) : Dev :=
  let m := { m with op := .kdone, up := false }
  let d := arrive m d
  let n := m.die
  if m.inc ≠ (dieOf d n).inc then d
  else
    let d := updMiss n m.rtag (fun x => { x with kdone := true }) d
    (hartsOfDie n).foldl (fun d h =>
      if (hartOf d h).debts.any (fun s => s.rtag == some m.rtag) then
        let d := updHart d h (fun x => { x with debts := x.debts.filter (fun s => s.rtag != some m.rtag) })
        match (hartOf d h).waiting with
        | some w => if w.op = .tsync then retryHart h d else d
        | none => d
      else d) d
def execKdone (m : FMsg) (s : State) : Outcome State Fault Refusal := onDev (overLink m (kdoneArrives m)) s

/-- WB_ACK or WB_XACK frees the buffer entry once the die has answered every forward (R195). Cores that need the line request it anew. -/
def wbAckArrives (op : Op) (m : FMsg) (d : Dev) : Dev :=
  let m := { m with op := op, up := false }
  let d := arrive m d
  let n := m.die
  let line := lineOf m.addr
  if m.inc ≠ (dieOf d n).inc then d
  else
    let d := l3Trim n (wbRelease n line (updDie d n (fun x => { x with wb := x.wb.map (fun e => if e.line = line then { e with acked := if op == .wbAck then 1 else 2 } else e) })))
    let d := if (dieOf d n).phase = .draining then drainLines n d else d
    if (wbOf d n line).isSome then d else retryLine n line 0 d
def execWbAck (m : FMsg) (s : State) : Outcome State Fault Refusal := onDev (overLink m (wbAckArrives .wbAck m)) s
def execWbXack (m : FMsg) (s : State) : Outcome State Fault Refusal := onDev (overLink m (wbAckArrives .wbXack m)) s

/-- DATA_NC: the uncached load completes with the bytes returned; poison is a machine check (R179, R480). -/
def dataNcArrives (m : FMsg) (d : Dev) : Dev :=
  let m := { m with op := .dataNc, up := false }
  let d := arrive m d
  let n := m.die
  if m.inc ≠ (dieOf d n).inc then d
  else match missByTag d n m.rtag with
    | none => d
    | some ms =>
      if fillOp ms.op then d
      else
        let h := 18 * n + ms.core
        let d := dropMiss n ms.rtag d
        match (hartOf d h).waiting with
        | some { op := .load va size dst signed len, line := l, .. } =>
          if l = ms.line then
            settleKills n (if m.poison then machineCheck h va l d
             else advance h (loadLen dst len) (updHart d h (deliver dst size signed (m.data.toNat % 2 ^ (8 * size)))))
          else d
        | _ => d
def execDataNc (m : FMsg) (s : State) : Outcome State Fault Refusal := onDev (overLink m (dataNcArrives m)) s

/-! ### IMSIC writes -/

/-- Set an identity pending in an interrupt file: 0 machine, 1 supervisor, 1 + g guest g. Identities are 1–255 (R77). -/
def imsicSet (file ident : Nat) (x : Hart) : Hart :=
  let put (f : ImsicFile) : ImsicFile := if 1 ≤ ident ∧ ident ≤ 255 ∧ !f.pending.contains ident then { f with pending := ident :: f.pending } else f
  match file with
  | 0 => { x with imsicM := put x.imsicM }
  | 1 => { x with imsicS := put x.imsicS }
  | k => { x with imsicG := tabUpd imsicInit x.imsicG (k - 1) put }

/-- An IMSIC write for a hart: to an offline hart, and to a lost die, it has no effect and counts an error (R109, R215); a parked hart's
image takes it (R211); a resting domain is woken, the hart is not (R103). -/
def imsicWrite (h file ident : Nat) (d : Dev) : Dev :=
  let n := dieOfHart h
  let x := hartOf d h
  if x.offline then countPkg pkgMsiOffline d
  else match (dieOf d n).phase with
    | .fenced | .sweeping | .readmitting => countPkg pkgImswLost d
    | .withdrawn => updHart d h (fun x => { imsicSet file ident x with ckptCurrent := false })
    | _ => updHart (wakeForSnoop n (fun k => k == coreOfHart h) d) h (fun x => { imsicSet file ident x with ckptCurrent := false })

/-- IMSW reaches a die (R179). -/
def imswArrives (m : FMsg) (file : Nat) (d : Dev) : Dev :=
  let m := { m with op := .imsw, up := false }
  let d := arrive m d
  if (dieOf d m.die).retired && (dieOf d m.die).phase != .withdrawn then countPkg pkgImswLost d
  else if m.inc ≠ (dieOf d m.die).inc then d
  else imsicWrite (18 * m.die + m.core % 18) file (m.data.toNat % 2 ^ 32) d
def execImsw (m : FMsg) (file : Fin 9) (s : State) : Outcome State Fault Refusal := onDev (overLink m (imswArrives m file)) s

end Sys2Proof.Machine
end

