-- ==== Sys2Proof/Machine/Csr.lean ====
section
/-!
DEFINITION. CSRs as numbers (R92–R98, R433, R472, R477), their WARL rules (R111, R130, R193), and the checkpoint layout
(R413) in which a hart's state is written to memory and read back.
-/
set_option linter.unusedVariables false

namespace Sys2Proof.Machine

/-- The fields of sstatus in mstatus. -/
def sstatusMask : Nat := lowerStatusMask - 3 * 2 ^ 11 - 2 ^ 39

/-- mip as a word: the latched interrupts. -/
def mipOf (x : Hart) : Nat := (nubNat x.irqPending).foldl (fun n i => n + 2 ^ i) 0

/-- mtlnen (R94). -/
def mtlnenOf (x : Hart) : Nat := packFields [(x.restMax, 4, 2), (b2n x.mPC, 0, 1)]
/-- mhealth (R95). -/
def mhealthOf (x : Hart) : Nat := packFields [(x.grace, 32, 16), (b2n x.spareUsed, 2, 1), (b2n x.spared, 1, 1), (b2n x.retirePend, 0, 1)]
/-- tvstat (R98). -/
def tvstatOf (x : Hart) : Nat :=
  packFields [(x.tj, 16, 8), (b2n x.bLedger, 15, 1), (b2n x.bOverspend, 14, 1), (b2n x.bThrottle, 13, 1), (b2n x.bHeldSecure, 12, 1),
    (b2n x.bThermal, 11, 1), (x.vset, 0, 10)]
/-- hsmpctl (R477). -/
def hsmpctlOf (x : Hart) : Nat :=
  packFields [(x.hsJitter, 40, 4), (x.hsPeriod, 16, 24), (x.hsStop, 8, 4), (b2n x.hsIrq, 3, 1), (b2n x.hsWrap, 2, 1), (b2n x.hsEn, 0, 1)]
/-- hsmpbuf (R477). -/
def hsmpbufOf (x : Hart) : Nat := x.hsBase + x.hsSize % 16

/-- The VS-level interrupts that hideleg delegates, as bits of mie. -/
def vsIrqMask (x : Hart) : Nat := Nat.land (csr x hidelegN) 0x444
/-- The interrupt file behind an indirect CSR set: machine 0x350, supervisor 0x150, the guest file of VGEIN 0x250. -/
def imsicOf (x : Hart) (base : Nat) : ImsicFile :=
  if base = 0x350 then x.imsicM else if base = 0x150 then x.imsicS else tabGet imsicInit x.imsicG (getBits (csr x hstatusN) 12 6)
def setImsic (base : Nat) (f : ImsicFile → ImsicFile) (x : Hart) : Hart :=
  if base = 0x350 then { x with imsicM := f x.imsicM }
  else if base = 0x150 then { x with imsicS := f x.imsicS }
  else
    let g := getBits (csr x hstatusN) 12 6
    if 1 ≤ g ∧ g ≤ 7 then { x with imsicG := tabUpd imsicInit x.imsicG g f } else x
/-- Identities as a word of 64 bits from identity `lo`. -/
def idWord (l : List Nat) (lo : Nat) : Nat := ((List.range 64).filter (fun i => l.contains (lo + i))).foldl (fun n i => n + 2 ^ i) 0
def putIdWord (l : List Nat) (lo v : Nat) : List Nat :=
  l.filter (fun i => i < lo || lo + 64 ≤ i) ++ (((List.range 64).filter (fun i => getBit v i && lo + i != 0)).map (fun i => lo + i))
/-- An IMSIC register by its indirect number (AIA): eidelivery, eithreshold, eip and eie. -/
def imsicReg (f : ImsicFile) (sel : Nat) : Nat :=
  if sel = 0x70 then f.delivery else if sel = 0x72 then f.threshold
  else if 0x80 ≤ sel ∧ sel < 0x88 ∧ sel % 2 = 0 then idWord f.pending (32 * (sel - 0x80))
  else if 0xC0 ≤ sel ∧ sel < 0xC8 ∧ sel % 2 = 0 then idWord f.enabled (32 * (sel - 0xC0))
  else 0
def imsicPut (sel v : Nat) (f : ImsicFile) : ImsicFile :=
  if sel = 0x70 then (if v = 0 ∨ v = 1 then { f with delivery := v } else f)
  else if sel = 0x72 then { f with threshold := v % 256 }
  else if 0x80 ≤ sel ∧ sel < 0x88 ∧ sel % 2 = 0 then { f with pending := putIdWord f.pending (32 * (sel - 0x80)) v }
  else if 0xC0 ≤ sel ∧ sel < 0xC8 ∧ sel % 2 = 0 then { f with enabled := putIdWord f.enabled (32 * (sel - 0xC0)) v }
  else f
/-- xtopei: the most urgent identity, twice. -/
def topei (f : ImsicFile) : Nat := match imsicTop f with | some i => i * 65536 + i | none => 0
/-- A claim: the most urgent identity is pending no more. -/
def claimTop (f : ImsicFile) : ImsicFile := match imsicTop f with | some i => { f with pending := f.pending.filter (· != i) } | none => f
/-- The most urgent interrupt that is pending, enabled and in a set, as mtopi and stopi show it. -/
def topi (d : Dev) (h : Nat) (p : Nat → Bool) : Nat :=
  match irqOrder.find? (fun i => irqWakes d h i && p i) with | some i => i * 65536 + 1 | none => 0
/-- misa: RVA23 with H and V (log entry 11). -/
def misaWord : Nat := 2 * 2 ^ 62 + [0, 1, 2, 3, 5, 7, 8, 12, 18, 20, 21].foldl (fun n i => n + 2 ^ i) 0

/-- A CSR's value. Views of another register are computed; a CSR with a home of its own is read from it. -/
def csrView (d : Dev) (h n : Nat) : Nat :=
  let x := hartOf d h
  match n with
  | 0x001 => csr x 0x003 % 32
  | 0x002 => getBits (csr x 0x003) 5 3
  | 0x009 => csr x 0x00F % 2
  | 0x00A => getBits (csr x 0x00F) 1 2
  | 0x100 => Nat.land (csr x mstatusN) sstatusMask
  | 0x204 => Nat.land (csr x mieN) (vsIrqMask x) / 2
  | 0x604 => Nat.land (csr x mieN) 0x1444
  | 0x151 => imsicReg (imsicOf x 0x150) (csr x 0x150)
  | 0x251 => imsicReg (imsicOf x 0x250) (csr x 0x250)
  | 0x351 => imsicReg (imsicOf x 0x350) (csr x 0x350)
  | 0x15C => topei (imsicOf x 0x150)
  | 0x25C => topei (imsicOf x 0x250)
  | 0x35C => topei (imsicOf x 0x350)
  | 0xFB0 => topi d h (fun i => !getBit (csr x midelegN) i)
  | 0xDB0 => topi d h (fun i => getBit (csr x midelegN) i && !getBit (csr x hidelegN) i)
  | 0xEB0 => topi d h (fun i => getBit (csr x hidelegN) i) - (if topi d h (fun i => getBit (csr x hidelegN) i) = 0 then 0 else 65536)
  | 0x644 => Nat.land (idWord (pendingIrqs d h) 0) 0x1444
  | 0x244 => Nat.land (idWord (pendingIrqs d h) 0) (vsIrqMask x) / 2
  | 0xE12 => ((List.range 8).filter (fun g => g != 0 && (imsicTop (tabGet imsicInit x.imsicG g)).isSome)).foldl (fun n g => n + 2 ^ g) 0
  | 0x301 => misaWord
  | 0xC22 => 32                                       -- vlenb
  | 0xC00 => csr x 0xB00
  | 0xC02 => csr x 0xB02
  | 0xDA0 => (List.range 29).foldl (fun n i => n + (if getBit (csr x (0x323 + i)) 63 then 2 ^ (i + 3) else 0)) 0
  | 0x104 => Nat.land (csr x mieN) (csr x midelegN)
  | 0x144 => Nat.land (mipOf x) (csr x midelegN)
  | 0x344 => mipOf x
  | 0xF11 => 0x613                                    -- mvendorid (R78)
  | 0xF12 => 0x8000000000000021                       -- marchid
  | 0xF13 => d.fuses.stepping % 2 ^ 16                -- mimpid
  | 0xF14 => h                                        -- mhartid
  | 0xC01 => d.now % 2 ^ 64                           -- time (R79)
  | 0x7C0 => packFields [(b2n x.spw, 1, 1), (b2n x.wpf, 0, 1)]
  | 0x7C1 => mtlnenOf x
  | 0x7C2 => x.mcoresave
  | 0xFC0 => mhealthOf x
  | 0x5C0 => x.srest
  | 0x5C1 => x.vceil
  | 0x5C2 => b2n x.sPC
  | 0x6C0 => b2n x.hPC
  | 0xCC0 => x.tpace % 2 ^ 32
  | 0xCC1 => x.tenergy % 2 ^ 64
  | 0xCC2 => tvstatOf x
  | 0xCC3 => tworldOf d x
  | 0x6C1 => x.htenant
  | 0x6C2 => hsmpctlOf x
  | 0x6C3 => hsmpbufOf x
  | 0x6C4 => x.hsPos
  | 0x8C0 => packFields [(b2n x.tevBank, 16, 1), (x.tevEvent, 0, 8)]
  | 0xCC4 =>                                          -- tevcnt (R472)
    if x.tevBank && !(x.mode == .m && secureExists d) && !(worldSecure d x x.mode) && !debugEnable d 3 then 0
    else if x.tevEvent = 0 then 0
    else tabGet 0 d.obs.ctr (ctrKey (if x.tevBank then 0x9001 else 0x9000) h (x.tevEvent - 1))
  | n => if 0xC03 ≤ n ∧ n ≤ 0xC1F then csr x (n - 0x100) else csr x n

/-- VCEIL as svreq holds it (R97): within 550–950, on the 5 mV grid. -/
def vceilOf (v : Nat) : Nat :=
  let n := v % 1024
  (if n < 550 then 550 else if 950 < n then 950 else n) / 5 * 5

/-- A translation MODE of R111; any other written value leaves the register unchanged. -/
def modeKnown (m : Nat) : Bool := m == 0 || m == 8 || m == 9 || m == 10

/-- The CBIE field keeps its value where the reserved encoding is written (R193). -/
def keepCbie (old v : Nat) : Nat := if getBits v 4 2 = 2 then setBits v 4 2 (getBits old 4 2) else v

/-- The bits of hedeleg that are read-only 0 (R130, R480). -/
def hedelegMask : Nat := 2 ^ 19 + 2 ^ 24 + 2 ^ 25 + 2 ^ 27 + (List.range 12).foldl (fun n i => n + 2 ^ (48 + i)) 0

/-- A write of a CSR by the rules of its fields. -/
def csrPut (n v : Nat) (x : Hart) : Hart :=
  match n with
  | 0x001 => dirtyState 13 (setCsr 0x003 (setBits (csr x 0x003) 0 5 v) x)
  | 0x002 => dirtyState 13 (setCsr 0x003 (setBits (csr x 0x003) 5 3 v) x)
  | 0x003 => dirtyState 13 (setCsr 0x003 (v % 256) x)
  | 0x008 => dirtyState 9 (setCsr 0x008 (v % 256) x)
  | 0x009 => dirtyState 9 (setCsr 0x00F (setBits (csr x 0x00F) 0 1 v) x)
  | 0x00A => dirtyState 9 (setCsr 0x00F (setBits (csr x 0x00F) 1 2 v) x)
  | 0x00F => dirtyState 9 (setCsr 0x00F (v % 8) x)
  | 0x204 =>
    let ie := csr x mieN
    setCsr mieN (ie - Nat.land ie (vsIrqMask x) + Nat.land (v * 2) (vsIrqMask x)) x
  | 0x604 =>
    let ie := csr x mieN
    setCsr mieN (ie - Nat.land ie 0x1444 + Nat.land v 0x1444) x
  | 0x144 =>
    let w := Nat.land (csr x midelegN) (2 ^ 1 + 2 ^ 13)
    { x with irqPending := x.irqPending.filter (fun i => !getBit w i) ++ onesOf (Nat.land v w) 64 }
  | 0x644 => setCsr 0x645 (setBits (csr x 0x645) 2 1 (getBits v 2 1)) x
  | 0x244 => if getBit (csr x hidelegN) 2 then setCsr 0x645 (setBits (csr x 0x645) 2 1 (getBits v 1 1)) x else x
  | 0x151 => setImsic 0x150 (imsicPut (csr x 0x150) v) x
  | 0x251 => setImsic 0x250 (imsicPut (csr x 0x250) v) x
  | 0x351 => setImsic 0x350 (imsicPut (csr x 0x350) v) x
  | 0x15C => setImsic 0x150 claimTop x
  | 0x25C => setImsic 0x250 claimTop x
  | 0x35C => setImsic 0x350 claimTop x
  | 0x301 => x
  | 0x341 => setCsr 0x341 (v / 2 * 2) x
  | 0x141 => setCsr 0x141 (v / 2 * 2) x
  | 0x241 => setCsr 0x241 (v / 2 * 2) x
  | 0x100 =>
    let st := csr x mstatusN
    setCsr mstatusN (st - Nat.land st sstatusMask + Nat.land v sstatusMask) x
  | 0x104 =>
    let ie := csr x mieN
    setCsr mieN (ie - Nat.land ie (csr x midelegN) + Nat.land v (csr x midelegN)) x
  | 0x344 => { x with irqPending := (onesOf v 64).filter (fun i => i != 24) ++ (if x.retirePend then [24] else []) }
  | 0x180 => if modeKnown (getBits v 60 4) then setCsr 0x180 v x else x
  | 0x280 => if modeKnown (getBits v 60 4) then setCsr 0x280 v x else x
  | 0x680 => if modeKnown (getBits v 60 4) then setCsr 0x680 (setBits v 58 2 0) x else x
  | 0x602 => setCsr 0x602 (v - Nat.land v hedelegMask) x
  | 0x30A => setCsr 0x30A (keepCbie (csr x 0x30A) v) x
  | 0x10A => setCsr 0x10A (keepCbie (csr x 0x10A) v) x
  | 0x60A => setCsr 0x60A (keepCbie (csr x 0x60A) v) x
  | 0x7C0 => { x with spw := getBit v 1, wpf := getBit v 0 }
  | 0x7C1 => { x with restMax := if getBits v 4 2 = 3 then x.restMax else getBits v 4 2, mPC := getBit v 0 }
  | 0x7C2 => { x with mcoresave := v / 4096 * 4096 }
  | 0x5C0 => if v % 4 = 3 then x else { x with srest := v % 4 }
  | 0x5C1 => { x with vceil := vceilOf v }
  | 0x5C2 => { x with sPC := getBit v 0 }
  | 0x6C0 => { x with hPC := getBit v 0 }
  | 0x6C1 => { x with htenant := v % 4096 }
  | 0x6C3 => { x with hsBase := v / 4096 * 4096, hsSize := min (v % 16) 12 }
  | 0x6C4 => if x.hsEn then x else { x with hsPos := v % 2 ^ 32 }
  | 0x8C0 => { x with tevBank := getBit v 16, tevEvent := v % 256 }
  | n => setCsr n v x

/-! ### The checkpoint layout (R413) -/

def lowerCsrs : List Nat :=
  [0x100, 0x104, 0x105, 0x140, 0x141, 0x142, 0x143, 0x180, 0x106, 0x10A, 0x14D, 0x600, 0x602, 0x603, 0x645, 0x608, 0x609, 0x607,
   0x643, 0x64A, 0x680, 0x606, 0x605, 0x60A, 0x200, 0x204, 0x205, 0x240, 0x241, 0x242, 0x243, 0x280, 0x24D, 0x5C0, 0x5C1, 0x5C2, 0x6C0]
def machineCsrs : List Nat :=
  [0x300, 0x302, 0x303, 0x304, 0x344, 0x305, 0x340, 0x342, 0x343, 0x34B, 0x34A, 0x30A, 0x747, 0x306, 0x320, 0x308, 0x309, 0x7C0, 0x7C1, 0x7C2]
def pmpCsrs : List Nat := [0x3A0, 0x3A2] ++ (List.range 16).map (fun i => 0x3B0 + i)

def restCode : Rest → Nat
  | .running => 0
  | .idle => 1
  | .retain => 2
  | .fold => 3
def restOf (n : Nat) : Rest := match n with | 0 => .running | 1 => .idle | 2 => .retain | _ => .fold

/-- STATE of R413. -/
def ckptState (x : Hart) : Nat :=
  let st := csr x mstatusN
  packFields [(restCode x.rest, 7, 2), (getBits st 39 1, 6, 1), (getBits st 11 2, 4, 2), (b2n x.lowerSecure, 3, 1), (b2n (modeV x.mode), 2, 1), (modePriv x.mode, 0, 2)]

/-- An IMSIC file: eip, eie, eidelivery, eithreshold, zero (R413). -/
def imsicBytes (f : ImsicFile) : List Byte :=
  let bits (l : List Nat) : Nat := (nubNat l).foldl (fun n i => n + 2 ^ i) 0
  leBytes 32 (bits f.pending) ++ leBytes 32 (bits f.enabled) ++ leBytes 4 f.delivery ++ leBytes 4 f.threshold ++ leBytes 8 0

/-- The resume address of R413: behind the WFI of a hart that rests in one, at the start of a hart that has not begun (R71). -/
def resumePc (x : Hart) : Nat := if x.rest = .running ∨ x.parked then x.pc else (x.pc + 4) % 2 ^ 64
/-- Bytes 0x000–0x7FF: what a WSWITCH area holds. -/
def ckptLower (d : Dev) (h kerf : Nat) : List Byte :=
  let x := hartOf d h
  leBytes 2 1 ++ leBytes 2 h ++ leBytes 4 (ckptState x) ++ leBytes 8 kerf ++ leBytes 8 (resumePc x) ++ leBytes 8 (tworldOf d x) ++
  leBytes 8 (csr x 0xC21) ++ leBytes 4 (csr x 0xC20) ++ leBytes 2 (csr x 0x008) ++ leBytes 1 (csr x 0x003) ++ leBytes 1 (csr x 0x00F) ++
  leBytes 8 (csr x 0xB00) ++ leBytes 8 (csr x 0xB02) ++
  (List.range 31).flatMap (fun i => leBytes 8 (xReg x (i + 1))) ++ leBytes 8 0 ++
  (List.range 32).flatMap (fun i => leBytes 8 (fReg x i)) ++
  (List.range 32).flatMap (fun i => leBytes 32 (tabGet 0 x.v i).toNat) ++
  leBytes 8 (csr x mepcN) ++ lowerCsrs.flatMap (fun n => leBytes 8 (csrView d h n)) ++ leBytes 144 0

/-- A whole slot; the park fields are zero but in park areas. -/
def ckptBytes (d : Dev) (h kerf : Nat) (park : Bool) : List Byte :=
  let x := hartOf d h
  ckptLower d h kerf ++ machineCsrs.flatMap (fun n => leBytes 8 (csrView d h n)) ++ pmpCsrs.flatMap (fun n => leBytes 8 (csr x n)) ++ leBytes 16 0 ++
  (List.range 29).flatMap (fun i => leBytes 8 (csr x (0xB03 + i))) ++ leBytes 8 0 ++
  (List.range 29).flatMap (fun i => leBytes 8 (csr x (0x323 + i))) ++ leBytes 40 0 ++
  imsicBytes x.imsicM ++ imsicBytes x.imsicS ++ (List.range 7).flatMap (fun g => imsicBytes (tabGet imsicInit x.imsicG (g + 1))) ++
  (if park then leBytes 8 x.htenant ++ leBytes 8 (hsmpctlOf x) ++ leBytes 8 (hsmpbufOf x) ++ leBytes 8 x.hsPos else leBytes 32 0) ++ leBytes 464 0

/-- Load the lower-mode state of bytes 0x000–0x7FF into a hart, its pc and mode untouched (R366). -/
def ckptLoadLower (b : List Byte) (x : Hart) : Hart :=
  let st := leAt b 4 4
  let x := (List.range 31).foldl (fun x i => setX (i + 1) (leAt b (0x40 + 8 * i) 8) x) x
  let x := (List.range 32).foldl (fun x i => setF i (leAt b (0x140 + 8 * i) 8) x) x
  let x := { x with v := (List.range 32).foldl (fun t i => tabSet 0 t i (BitVec.ofNat 256 (leAt b (0x240 + 32 * i) 32))) x.v }
  let x := setCsr 0xC21 (leAt b 0x20 8) (setCsr 0xC20 (leAt b 0x28 4) (setCsr 0x008 (leAt b 0x2C 2) (setCsr 0x003 (leAt b 0x2E 1) (setCsr 0x00F (leAt b 0x2F 1) x))))
  let x := setCsr mepcN (leAt b 0x640 8) x
  let x := (List.range 37).foldl (fun x i => csrPut (lowerCsrs.getD i 0) (leAt b (0x648 + 8 * i) 8) x) x
  setCsr mstatusN (setBits (setBits (csr x mstatusN) 39 1 (getBits st 6 1)) 11 2 (getBits st 4 2)) x

/-- An IMSIC file from its bytes. -/
def imsicFrom (b : List Byte) : ImsicFile :=
  { pending := (onesOf (leAt b 0 32) 256).filter (· != 0), enabled := (onesOf (leAt b 32 32) 256).filter (· != 0), delivery := leAt b 64 4, threshold := leAt b 68 4 }

/-- Load a whole slot: the hart resumes in the recorded mode, world, enclave and rest mode (R413, R422). -/
def ckptLoad (b : List Byte) (x : Hart) : Hart :=
  let st := leAt b 4 4
  let rests := decide (getBits st 7 2 ≠ 0)
  let x := { x with lowerSecure := getBit st 3, mode := modeOf (getBit st 2) (st % 4),
                    pc := if rests then (leAt b 0x10 8 + 2 ^ 64 - 4) % 2 ^ 64 else leAt b 0x10 8, eid := getBits (leAt b 0x18 8) 0 12,
                    rest := restOf (getBits st 7 2), wantRest := restOf (getBits st 7 2) }
  let x := (List.range 20).foldl (fun x i => csrPut (machineCsrs.getD i 0) (leAt b (0x800 + 8 * i) 8) x) x
  let x := ckptLoadLower b x
  let x := setCsr 0xB00 (leAt b 0x30 8) (setCsr 0xB02 (leAt b 0x38 8) x)
  let x := (List.range 18).foldl (fun x i => setCsr (pmpCsrs.getD i 0) (leAt b (0x8A0 + 8 * i) 8) x) x
  let x := (List.range 29).foldl (fun x i => setCsr (0xB03 + i) (leAt b (0x940 + 8 * i) 8) (setCsr (0x323 + i) (leAt b (0xA30 + 8 * i) 8) x)) x
  { x with imsicM := imsicFrom (sliceOf b 0xB40 80), imsicS := imsicFrom (sliceOf b 0xB90 80),
           imsicG := (List.range 7).foldl (fun t g => tabSet imsicInit t (g + 1) (imsicFrom (sliceOf b (0xBE0 + 80 * g) 80))) x.imsicG }

end Sys2Proof.Machine
end

