-- ==== Sys2Proof/Machine/Cores.lean ====
section
/-!
DEFINITION. What a hart executes on its own core: accesses, atomics, cache-block operations, fences, TSYNC and POQ
(R90, R91, R120, R127, R187, R193, R197).
-/
set_option linter.unusedVariables false

namespace Sys2Proof.Machine

open Host (Outcome)

/-- rs1 + imm, the address of a load or store. -/
def effAddr (x : Hart) (rs1 : Nat) (imm : BitVec 12) : Nat := ofSigned 64 ((xReg x rs1 : Nat) + imm.toInt)

/-- Sizes a load or store has. -/
def accSize (size : Nat) : Bool := size == 1 || size == 2 || size == 4 || size == 8

/-- The encoding of a floating-point load or store of `size` bytes: its opcode, funct3 = log2 of the size, and its fields (log entry 11). -/
def fpWord (store : Bool) (r rs1 : Nat) (imm : BitVec 12) (size : Nat) : Nat :=
  (if store then imm.toNat / 32 * 2 ^ 25 + r * 2 ^ 20 + imm.toNat % 32 * 2 ^ 7 + 0x27 else imm.toNat * 2 ^ 20 + r * 2 ^ 7 + 0x07) +
  rs1 * 2 ^ 15 + Nat.log2 size * 2 ^ 12
/-- A floating-point access with that state off is an illegal instruction. What tval holds of a compressed one is not in the command (log entry 11). -/
def fpIllegal (h : Nat) (store : Bool) (r rs1 : Nat) (imm : BitVec 12) (size : Nat) (compressed : Bool) (d : Dev) : Dev :=
  if compressed then trapIllegal h (freeVal d % 2 ^ 16) (drawn d) else trapIllegal h (fpWord store r rs1 imm size) d
/-- HART_LOAD: a load, or a fetch (`Dst.inst`) at the address (R197). -/
def hartLoad (h : Nat) (dst : Dst) (rs1 : Nat) (imm : BitVec 12) (size : Nat) (signed compressed : Bool) (d : Dev) : Dev :=
  let op : MemOp := .load (effAddr (hartOf d h) rs1 imm) size dst signed (if compressed then 2 else 4)
  if !accSize size then d
  else match dst with
    | .f r => if fpOff (hartOf d h) then fpIllegal h false r rs1 imm size compressed d else attemptNew h op d
    | _ => attemptNew h op d
def execHartLoad (h : HartN) (dst : Dst) (rs1 : RegN) (imm : BitVec 12) (size : Nat) (signed compressed : Bool) (s : State) : Outcome State Fault Refusal :=
  onDev (onHart h (hartLoad h dst rs1 imm size signed compressed)) s

/-- HART_STORE (R197). -/
def hartStore (h : Nat) (fp : Bool) (rs2 rs1 : Nat) (imm : BitVec 12) (size : Nat) (compressed : Bool) (d : Dev) : Dev :=
  let x := hartOf d h
  if !accSize size then d
  else if fp && fpOff x then fpIllegal h true rs2 rs1 imm size compressed d
  else attemptNew h (.store (effAddr x rs1 imm) size ((if fp then fReg x rs2 else xReg x rs2) % 2 ^ (8 * size)) (if compressed then 2 else 4)) d
def execHartStore (h : HartN) (fp : Bool) (rs2 rs1 : RegN) (imm : BitVec 12) (size : Nat) (compressed : Bool) (s : State) : Outcome State Fault Refusal :=
  onDev (onHart h (hartStore h fp rs2 rs1 imm size compressed)) s

/-- A 64-bit register, or the register pair a 16-byte operand is in. -/
def pairReg (x : Hart) (r size : Nat) : Nat :=
  if size = 16 then (if r = 0 then 0 else xReg x r + 2 ^ 64 * xReg x (r + 1)) else xReg x r

/-- AMO and Zacas; only AMOCAS has the 16-byte size. -/
def hartAmo (h : Nat) (op : AmoOp) (rd rs1 rs2 size : Nat) (d : Dev) : Dev :=
  let x := hartOf d h
  if accSize size || (size == 16 && op == .cas && rd % 2 == 0 && rs2 % 2 == 0) then
    attemptNew h (.amo (xReg x rs1) size op (pairReg x rs2 size) (pairReg x rd size) rd) d
  else d
def execAmo (h : HartN) (op : AmoOp) (rd rs1 rs2 : RegN) (size : Nat) (s : State) : Outcome State Fault Refusal :=
  onDev (onHart h (hartAmo h op rd rs1 rs2 size)) s

def hartLr (h rd rs1 size : Nat) (d : Dev) : Dev :=
  if size = 4 ∨ size = 8 then attemptNew h (.lr (xReg (hartOf d h) rs1) size rd) d else d
def execLr (h : HartN) (rd rs1 : RegN) (size : Nat) (s : State) : Outcome State Fault Refusal := onDev (onHart h (hartLr h rd rs1 size)) s

def hartSc (h rd rs1 rs2 size : Nat) (d : Dev) : Dev :=
  if size = 4 ∨ size = 8 then attemptNew h (.sc (xReg (hartOf d h) rs1) size (xReg (hartOf d h) rs2 % 2 ^ (8 * size)) rd) d else d
def execSc (h : HartN) (rd rs1 rs2 : RegN) (size : Nat) (s : State) : Outcome State Fault Refusal := onDev (onHart h (hartSc h rd rs1 rs2 size)) s

/-- 128 steps after the LR: the core stops deferring; the reservation stands (R187). -/
def lrTimeout (h : Nat) (d : Dev) : Dev :=
  match (hartOf d h).resv with
  | some r => if r.deferring then flushDeferred (dieOfHart h) (updHart d h (fun x => { x with resv := some { r with deferring := false } })) else d
  | none => d
def execLrReservationTimeout (h : HartN) (s : State) : Outcome State Fault Refusal := onDev (lrTimeout h) s

/-- TSYNC executes in M, HS and VS mode (R90, R120). -/
def hartTsync (h : Nat) (d : Dev) : Dev :=
  match (hartOf d h).mode with
  | .u => trapIllegal h 0x0000000B d
  | .vu => trapVirtual h 0x0000000B d
  | _ => attemptNew h .tsync (countHart h 0x14 d)
def execTsync (h : HartN) (s : State) : Outcome State Fault Refusal := onDev (onHart h (hartTsync h)) s

def poqWord (rd rs1 : Nat) : Nat := 0x0800000B + rs1 * 2 ^ 15 + rd * 2 ^ 7
/-- POQ executes in M, HS and VS mode (R90, R91). -/
def hartPoq (h rd rs1 : Nat) (d : Dev) : Dev :=
  match (hartOf d h).mode with
  | .u => trapIllegal h (poqWord rd rs1) d
  | .vu => trapVirtual h (poqWord rd rs1) d
  | _ => attemptNew h (.poq (xReg (hartOf d h) rs1) rd) d
def execPoq (h : HartN) (rd rs1 : RegN) (s : State) : Outcome State Fault Refusal := onDev (onHart h (hartPoq h rd rs1)) s

/-! ### Cache-block operations -/

def hartCbo (h : Nat) (op : CboOp) (rs1 : Nat) (d : Dev) : Dev :=
  let x := hartOf d h
  match cboCheck x op with
  | 0 => trapIllegal h (cboWord op rs1) d
  | 1 => trapVirtual h (cboWord op rs1) d
  | 3 => attemptNew h (.cbo (xReg x rs1) .flush) d
  | _ => attemptNew h (.cbo (xReg x rs1) op) d
def execCboClean (h : HartN) (rs1 : RegN) (s : State) : Outcome State Fault Refusal := onDev (onHart h (hartCbo h .clean rs1)) s
def execCboFlush (h : HartN) (rs1 : RegN) (s : State) : Outcome State Fault Refusal := onDev (onHart h (hartCbo h .flush rs1)) s
def execCboInval (h : HartN) (rs1 : RegN) (s : State) : Outcome State Fault Refusal := onDev (onHart h (hartCbo h .inval rs1)) s
def execCboZero (h : HartN) (rs1 : RegN) (s : State) : Outcome State Fault Refusal := onDev (onHart h (hartCbo h .zero rs1)) s

/-! ### Translation fences (R127) -/

/-- A sweep of the entries of one enclave or of none: whether it is of V = 1 entries, an address, an ASID or VMID, and which of these the last
number is. -/
def tlbMatches (virt byVmid : Bool) (eid vmid : Nat) (va : Option Nat) (id : Option Nat) (t : Tlb) : Bool :=
  t.virt == virt && t.eid == eid &&
  (match va with | some a => decide (t.va ≤ a) && decide (a < t.va + 2 ^ t.size) | none => true) &&
  (if virt then (if byVmid then (match id with | some v => t.vmid == v | none => true) else t.vmid == vmid) else true) &&
  (if byVmid then true else match id with | some a => t.asid == a && !t.glob | none => true)

/-- Kill a hart's matching entries of every structure; the G-stage walk cache holds guest physical addresses, which HFENCE.GVMA sweeps. -/
def sweepTlb (h : Nat) (virt byVmid : Bool) (eid vmid : Nat) (va id : Option Nat) (d : Dev) : Dev :=
  let keep (t : Tlb) : Bool := !tlbMatches virt byVmid eid vmid va id t
  updHart d h (fun x => { x with
    itlb := x.itlb.filter keep, dtlb := x.dtlb.filter keep, tlb := x.tlb.filter keep, wcache := x.wcache.filter keep,
    gcache := if byVmid then x.gcache.filter keep else x.gcache })
/-- The VMID in hgatp. -/
def hartVmid (x : Hart) : Nat := getBits (csr x hgatpN) 44 14

/-- An operand register of a fence: x0 selects everything. -/
def fenceReg (x : Hart) (r : Nat) : Option Nat := if r = 0 then none else some (xReg x r)

def fenceWord (base rs1 rs2 : Nat) : Nat := base + rs2 * 2 ^ 20 + rs1 * 2 ^ 15

/-- Where a fence of the supervisor's own entries may execute: TVM and VTVM trap it (the privileged specification's rules). -/
def sfenceAllowed (x : Hart) : Nat :=
  match x.mode with
  | .m => 2
  | .hs => if getBit (csr x mstatusN) 20 then 0 else 2
  | .u => 0
  | .vs => if getBit (csr x hstatusN) 20 then 1 else 2
  | .vu => 1
/-- Where a hypervisor fence may execute. -/
def hfenceAllowed (x : Hart) (gvma : Bool) : Nat :=
  match x.mode with
  | .m => 2
  | .hs => if gvma && getBit (csr x mstatusN) 20 then 0 else 2
  | .u => 0
  | _ => 1

/-- Execute a fence where it is allowed: its effect, and the next instruction. -/
def fenceDo (h ok w : Nat) (f : Dev → Dev) (d : Dev) : Dev :=
  match ok with
  | 0 => trapIllegal h w d
  | 1 => trapVirtual h w d
  | _ => advance h 4 (f (countHart h 0x16 d))

def execSfenceVma (h : HartN) (rs1 rs2 : RegN) (s : State) : Outcome State Fault Refusal :=
  onDev (onHart h (fun d =>
    let x := hartOf d h
    fenceDo h (sfenceAllowed x) (fenceWord 0x12000073 rs1 rs2)
      (sweepTlb h (virtCtx x x.mode) false x.eid (hartVmid x) (fenceReg x rs1) ((fenceReg x rs2).map (· % 2 ^ 16))) d)) s
def execHfenceVvma (h : HartN) (rs1 rs2 : RegN) (s : State) : Outcome State Fault Refusal :=
  onDev (onHart h (fun d =>
    let x := hartOf d h
    fenceDo h (hfenceAllowed x false) (fenceWord 0x22000073 rs1 rs2)
      (sweepTlb h true false 0 (hartVmid x) (fenceReg x rs1) ((fenceReg x rs2).map (· % 2 ^ 16))) d)) s
/-- By guest physical address the sweep takes every entry of the VMID: an entry maps its guest virtual address straight to a physical one (R114). -/
def execHfenceGvma (h : HartN) (rs1 rs2 : RegN) (s : State) : Outcome State Fault Refusal :=
  onDev (onHart h (fun d =>
    let x := hartOf d h
    fenceDo h (hfenceAllowed x true) (fenceWord 0x62000073 rs1 rs2)
      (sweepTlb h true true 0 (hartVmid x) none ((fenceReg x rs2).map (· % 2 ^ 14))) d)) s

/-- SINVAL.VMA queues its sweep, with the enclave and VMID it is of: kind 0 for the supervisor's entries, 1 for a guest's own. -/
def execSinvalVma (h : HartN) (rs1 rs2 : RegN) (s : State) : Outcome State Fault Refusal :=
  onDev (onHart h (fun d =>
    let x := hartOf d h
    fenceDo h (sfenceAllowed x) (fenceWord 0x16000073 rs1 rs2)
      (fun d => updHart d h (fun y => { y with sweeps := y.sweeps ++ [(b2n (virtCtx x x.mode), fenceReg x rs1, (fenceReg x rs2).map (· % 2 ^ 16), x.eid, hartVmid x)] })) d)) s

/-- The fences that bracket SINVAL: illegal in U mode, virtual-instruction in VU mode. -/
def invalFence (h w : Nat) (f : Dev → Dev) (d : Dev) : Dev :=
  match (hartOf d h).mode with
  | .u => trapIllegal h w d
  | .vu => trapVirtual h w d
  | _ => advance h 4 (f d)
/-- SFENCE.W.INVAL: the hart's preceding stores have performed, since it performs one access at a time. -/
def execSfenceWInval (h : HartN) (s : State) : Outcome State Fault Refusal := onDev (onHart h (invalFence h 0x18000073 id)) s
/-- SFENCE.INVAL.IR: every queued sweep of the hart takes place. -/
def runSweeps (h : Nat) (d : Dev) : Dev :=
  updHart ((hartOf d h).sweeps.foldl (fun d q => sweepTlb h (q.1 == 1) false q.2.2.2.1 q.2.2.2.2 q.2.1 q.2.2.1 d) d) h (fun x => { x with sweeps := [] })
def execSfenceInvalIr (h : HartN) (s : State) : Outcome State Fault Refusal := onDev (onHart h (invalFence h 0x18100073 (runSweeps h))) s

/-! ### Vendor CSR accesses (R92, R96) -/

/-- The lowest level that may access a CSR: bits [9:8] of its number. -/
def csrLevel (n : Nat) : Nat := n / 256 % 4

/-- A counter of 0xC00–0xC1F is open to a mode by mcounteren, hcounteren and scounteren (log entry 11). -/
def counterAccess (x : Hart) (i : Nat) : Nat :=
  let m := getBit (csr x 0x306) i
  let s := getBit (csr x 0x106) i
  let g := getBit (csr x 0x606) i
  match x.mode with
  | .m => 2
  | .hs => if m then 2 else 0
  | .u => if m && s then 2 else 0
  | .vs => if !m then 0 else if g then 2 else 1
  | .vu => if !m then 0 else if g && s then 2 else 1
/-- A CSR access is allowed (2), a virtual-instruction exception (1) or illegal (0). `w` is a write. -/
def csrAccess (x : Hart) (n : Nat) (w : Bool) : Nat :=
  let ro := n / 1024 % 4 == 3
  let perf := n == 0xCC0 || n == 0xCC1 || n == 0xCC2 || n == 0xCC4 || n == 0x8C0
  if w && ro then 0
  else if 0xC00 ≤ n ∧ n ≤ 0xC1F then counterAccess x (n - 0xC00)
  else if (decide (1 ≤ n) && decide (n ≤ 3) && fpOff x) || ([0x008, 0x009, 0x00A, 0x00F, 0xC20, 0xC21, 0xC22].contains n && vecOff x) then 0
  else if perf then
    (match x.mode with
      | .m => 2
      | .hs => if x.mPC then 2 else 0
      | .u => if x.mPC && x.sPC then 2 else 0
      | _ => if x.mPC && x.hPC then 2 else if x.mPC then 1 else 0)
  else match x.mode with
    | .m => 2
    | .hs => if csrLevel n ≤ 2 then 2 else 0
    | .u => if csrLevel n = 0 then 2 else 0
    | .vs => if csrLevel n = 0 then 2 else if 0x6C0 ≤ n ∧ n ≤ 0x6C4 then 0 else if csrLevel n ≤ 2 then (if csrLevel n = 1 ∧ n ≠ 0x5C0 ∧ n ≠ 0x5C1 ∧ n ≠ 0x5C2 then 2 else 1) else 0
    | .vu => if csrLevel n = 0 then 2 else if 0x6C0 ≤ n ∧ n ≤ 0x6C4 then 0 else if csrLevel n ≤ 2 then 1 else 0

/-- In VS mode an S-level CSR number names the VS-level register that stands in for it. -/
def csrHome (x : Hart) (n : Nat) : Nat :=
  if x.mode == .vs && [0x100, 0x104, 0x105, 0x140, 0x141, 0x142, 0x143, 0x144, 0x14D, 0x150, 0x151, 0x15C, 0x180, 0xDB0].contains n then n + 0x100 else n

/-- A CSR instruction writes its CSR: one that sets or clears the bits of x0 or of 0 only reads. -/
def csrWrites (insn : Nat) : Bool := !(decide (2 ≤ insn / 2 ^ 12 % 4) && insn / 2 ^ 15 % 32 == 0)
/-- The value it writes: funct3 1 and 5 replace, 2 and 6 set bits, 3 and 7 clear bits. -/
def csrNew (insn old v : Nat) : Nat :=
  match insn / 2 ^ 12 % 4 with
  | 2 => Nat.lor old v
  | 3 => old - Nat.land old v
  | _ => v
/-- A CSR instruction of encoding `insn` with operand `v`: the exception its mode raises on the access (R92, R96), or the old value in rd, the write,
and the next instruction. A write of satp, vsatp or hgatp changes what later walks use and kills nothing (R123). A counter that is written holds the
written value: the write is done in place of what the instruction itself would count (the unprivileged specification's rule, log entry 11). -/
def csrWrite (h n insn v old : Nat) (f : Nat → Hart → Hart) (d : Dev) : Dev :=
  match csrAccess (hartOf d h) n (csrWrites insn) with
  | 0 => trapIllegal h insn d
  | 1 => trapVirtual h insn d
  | _ =>
    let put (x : Hart) : Hart := if csrWrites insn then f (csrNew insn old v) x else x
    let d := advance h 4 (updHart d h (fun x => setX (insn / 2 ^ 7 % 32) old (put x)))
    if 0xB02 ≤ n ∧ n ≤ 0xB1F then updHart d h put else d

/-- SVREQ_WRITE: the ceiling takes effect at the next kerf step 4 (R86, R97). -/
def execSvreqWrite (h : HartN) (insn : BitVec 32) (value : Word) (s : State) : Outcome State Fault Refusal :=
  onDev (onHart h (fun d => csrWrite h 0x5C1 insn.toNat value.toNat (hartOf d h).vceil (fun v x => { x with vceil := vceilOf v }) d)) s

end Sys2Proof.Machine
end

