-- ==== Sys2Proof/Machine/Setpoints.lean ====
section
/-!
DEFINITION. Setpoints in force (R84–R86, R354, R355, R357) and the pace that follows from supply and temperature (R81–R83).
-/
set_option linter.unusedVariables false

namespace Sys2Proof.Machine

def acctOf (d : Dev) (a : Nat) : Acct := tabGet acctInit d.ledger.accts a
def updAcct (d : Dev) (a : Nat) (f : Acct → Acct) : Dev :=
  { d with ledger := { d.ledger with accts := tabUpd acctInit d.ledger.accts a f } }
def updLedger (d : Dev) (f : LedgerSt → LedgerSt) : Dev := { d with ledger := f d.ledger }

/-- The setpoint an account runs at while it is slowed. -/
def slowMv (a : Nat) : Nat := if a < 216 then 550 else 650

/-- The throttle acts, for the hard limit or for heat. -/
def throttling (d : Dev) : Bool := d.ledger.throttle || d.ledger.hot

/-- Put an account's setpoint in force; a core's shows in tvstat, and one written while its hart rests waits for the wake (R85). -/
def setMv (a mv : Nat) (d : Dev) : Dev :=
  if a < 216 && (hartOf d a).rest != .running then d
  else
    let d := updAcct d a (fun x => { x with vset := mv })
    if a < 216 then updHart d a (fun x => { x with vset := mv }) else d

/-- The setpoint the plan, R354 and the throttle give an account. -/
def dueMv (d : Dev) (a : Nat) : Nat :=
  if throttling d || (acctOf d a).isOver then slowMv a else (acctOf d a).plan

/-! ### Pace (R82, R83) -/

/-- Linear interpolation in a table of (point, value), the end values beyond it. -/
def interp (x : Rat) : List (Rat × Rat) → Rat
  | [] => 0
  | [(_, v)] => v
  | (p, v) :: (q, w) :: r =>
    if x ≤ p then v
    else if x ≤ q then v + (w - v) * (x - p) / (q - p)
    else interp x ((q, w) :: r)

/-- Typical pace in Gstep/s at a supply in mV and a temperature in °C (R82). -/
def pace (mv tj : Nat) : Rat :=
  let row (a b c e f : Rat) : Rat := interp tj [(0, a), (25, b), (60, c), (85, e), (95, f)]
  interp mv [(550, row 1.11 1.14 1.18 1.20 1.21), (650, row 1.99 2.03 2.08 2.10 2.11), (720, 2.70),
    (800, row 3.62 3.55 3.45 3.40 3.37), (875, row 4.19 4.11 3.98 3.90 3.86), (950, row 4.62 4.52 4.38 4.30 4.25)]
/-- Guaranteed minimum pace in Gstep/s (R83). -/
def minPace (mv tj : Nat) : Rat :=
  interp mv [(550, 1.00), (650, 1.80), (720, 2.35), (800, 3.00), (875, 3.45), (950, 3.80)] * pace mv tj / pace mv 85
/-- The pace a hart's replica ring measures at an instant, in Mstep/s: at least the guaranteed minimum (R81, R83, log entry 63). -/
def ringPace (h now : Nat) (x : Hart) : Nat := (minPace x.vset x.tj * 1000).ceil.toNat + Config.paceOver h now

end Sys2Proof.Machine
end

