-- ==== Sys2Proof/Machine/Rest.lean ====
section
/-!
DEFINITION. Rest, wake, core tests and retirement (R99–R109), interrupts (R101), and the checkpoint a hart writes as it rests (R104).
-/
set_option linter.unusedVariables false
set_option linter.constructorNameAsVariable false

namespace Sys2Proof.Machine

open Host (Outcome)

/-- The mirror is enabled (R104). -/
def mirrorEnabled (d : Dev) : Bool := ent d 0x6000 1 == 1

/-- A resting hart whose pc is already the instruction it resumes at, as a slot's PC then reads (R413): what its wake adds is taken off. -/
def atRest (h : Nat) (d : Dev) : Dev := updHart d h (fun x => if x.rest = .running then x else { x with pc := (x.pc + 2 ^ 64 - 4) % 2 ^ 64 })
/-- Write the lines of `bs` at `a` that differ from what memory holds (R411). -/
def writeChanged (a : Nat) (bs : List Byte) (d : Dev) : Dev :=
  (List.range (bs.length / 64)).foldl (fun d i =>
    let x := bytesLine (sliceOf bs (64 * i) 64)
    if (cohRead d (a / 64 + i)) = (x, false) then d else cohWriteLine (a / 64 + i) x d) d

/-- A hart's checkpoint goes to its slot (R104, R413). -/
def writeCkpt (h : Nat) (d : Dev) : Dev :=
  updHart (writeChanged (ent d 0x6001 0 + 0x1000 * h) (ckptBytes d h d.kerf.counter false) d) h (fun x => { x with ckptCurrent := true })

def restRank : Rest → Nat
  | .running => 0
  | .idle => 1
  | .retain => 2
  | .fold => 3

/-- The hart is in the normal world outside M of a secure package: its requests are what a hold alters (R391). -/
def normalHart (d : Dev) (x : Hart) : Bool := !worldSecure d x x.mode
/-- HOLD of a core, HOLD of a die (R390). -/
def coreHeld (d : Dev) (h : Nat) : Bool := getBit d.holds h
def dieHeld (d : Dev) (n : Nat) : Bool := getBit d.holdUnits n

/-- The harts of a die that are present and not offline. -/
def liveHarts (d : Dev) (n : Nat) : List Nat := (hartsOfDie n).filter (fun h => (hartOf d h).released && !(hartOf d h).offline)

/-- The die folds when every live hart is in WFI with fold as its effective mode (R100); harts that reached retain before the die was held stay
there (R391). -/
def tryFold (n : Nat) (d : Dev) : Dev :=
  let hs := liveHarts d n
  if hs ≠ [] ∧ hs.all (fun h => (hartOf d h).rest != .running && (hartOf d h).wantRest == .fold && !((hartOf d h).rest == .idle)) then
    if dieHeld d n && hs.any (fun h => normalHart d (hartOf d h)) then
      hs.foldl (fun d h => if normalHart d (hartOf d h) then updHart d h (fun x => { x with bHeldSecure := true }) else d) d
    else
      let d := hs.foldl (fun d h => updHart d h (fun x => { x with rest := .fold, domainUp := false })) d
      countDie n 11 (updDie (updLink d n (fun l => { l with state := if l.state = .up then .folded else l.state })) n (fun x => { x with snoopBusy := false }))
  else d

/-- A resting hart passes into its effective mode: its checkpoint first (R104), then the fold of its die where it is the last (R100). -/
def settleRest (h : Nat) (d : Dev) : Dev :=
  let want := (hartOf d h).wantRest
  let r : Rest := if want = .fold then .retain else want
  let d := updHart d h (fun x => { x with rest := r, domainUp := false })
  let d := if r ≠ .idle ∧ mirrorEnabled d then writeCkpt h d else d
  if want = .fold then tryFold (dieOfHart h) d else d
/-- A hart begins to rest with effective mode `want` (R99); while its core or its die is held a normal-world hart rests in idle instead (R102,
R106; log entry 45 on R391). -/
def enterRest (h : Nat) (want : Rest) (d : Dev) : Dev :=
  let x := hartOf d h
  let held := (coreHeld d h || dieHeld d (dieOfHart h)) && normalHart d x && decide (2 ≤ restRank want)
  let d := countHart h (if want = .fold then 0x19 else if want = .retain then 0x18 else 0x17) d
  let d := if held then countPkg pkgHoldDeferrals (countHart h 0x1A d) else d
  let d := updHart d h (fun x => { x with rest := .idle, wantRest := want, bHeldSecure := held, restSince := d.now, domainUp := false })
  if held then d else settleRest h d
/-- The secure world has released a block: harts that rest in idle for it pass into their effective mode, and dies whose fold it held fold (R102). -/
def releaseRest (d : Dev) : Dev :=
  (List.range 216).foldl (fun d h =>
    let x := hartOf d h
    if x.bHeldSecure && x.rest != .running && !coreHeld d h && !dieHeld d (dieOfHart h) && !x.offline then
      (if x.rest = .idle then settleRest h d else if x.rest = .retain ∧ x.wantRest = .fold then tryFold (dieOfHart h) d else d)
    else d) d

/-- A wake condition of the hart holds (R101): an interrupt pending and locally enabled, or a debug halt request. A hart that has not begun begins
at its first interrupt (R71): an identity pending in one of its interrupt files, whatever is enabled. -/
def wakeHolds (d : Dev) (h : Nat) : Bool :=
  let x := hartOf d h
  irqOrder.any (fun i => irqWakes d h i) || x.haltReq ||
  (x.parked && (x.irqPending != [] || x.imsicM.pending != [] || x.imsicS.pending != [] || x.imsicG.any (fun g => g.2.pending != [])))

def wfiWord : Nat := 0x10500073
def restFromMode (n : Nat) : Rest := match n with | 0 => .idle | 1 => .retain | _ => .fold

/-- WFI (R99). -/
def hartWfi (h : Nat) (d : Dev) : Dev :=
  let x := hartOf d h
  let tw := getBit (csr x mstatusN) 21
  if wakeHolds d h then advance h 4 d
  else match x.mode with
    | .m => enterRest h (restFromMode x.srest) d
    | .hs => if tw then trapIllegal h wfiWord d else enterRest h (restFromMode (min x.srest x.restMax)) d
    | .u => trapIllegal h wfiWord d
    | .vs => if tw then trapIllegal h wfiWord d else if getBit (csr x hstatusN) 21 then trapVirtual h wfiWord d else enterRest h .idle d
    | .vu => if tw then trapIllegal h wfiWord d else trapVirtual h wfiWord d
def execWfi (h : HartN) (s : State) : Outcome State Fault Refusal := onDev (onHart h (hartWfi h)) s

/-- A folded die comes up; its harts rest in retain until woken themselves (R100). -/
def unfold (n : Nat) (d : Dev) : Dev := if (linkOf d n).state = .folded then linkWakes n d else d

/-- The hart leaves WFI at the next instruction, at the setpoint it is due (R85, R101); one that has not begun starts at its pc (R71). A core test
on it is abandoned, and due again (R105). -/
def wakeHart (h : Nat) (d : Dev) : Dev :=
  let d := unfold (dieOfHart h) d
  let d := updHart d h (fun x =>
    let y := { x with rest := .running, wantRest := .running, domainUp := false, coreTest := false, ckptCurrent := false, parked := false }
    if x.parked then y else retire { y with pc := (x.pc + 4) % 2 ^ 64 })
  haltIfDue h (setMv h (dueMv d h) d)
def execHartWake (h : HartN) (s : State) : Outcome State Fault Refusal :=
  onDev (fun d => if (hartOf d h).rest ≠ .running ∧ wakeHolds d h ∧ dieRuns d (dieOfHart h) ∧ packageStopped d = false then wakeHart h d else d) s

/-- An uncached access of the hart is under way and cannot be discarded. -/
def ncOpen (d : Dev) (h : Nat) : Bool :=
  (dieOf d (dieOfHart h)).misses.any (fun m => m.core == coreOfHart h && (m.op == .ncrd || m.op == .ncwr))

/-- HART_INTERRUPT: the most urgent interrupt that the mode takes; an access that waits is given up and executed again (R101, R121, R382). -/
def hartInterrupt (h : Nat) (d : Dev) : Dev :=
  let x := hartOf d h
  if x.released && x.powered && !x.offline && x.rest == .running && !x.halted && dieRuns d (dieOfHart h) && !packageStopped d && !ncOpen d h then
    match nextIrq d h with
    | some i => takeTrap h i true 0 0 d
    | none => d
  else d
def execHartInterrupt (h : HartN) (s : State) : Outcome State Fault Refusal := onDev (hartInterrupt h) s

/-- RETENTION_IDLE: 10 µs with no snoop, a domain woken for snoops returns to retention, or its die to fold (R103). -/
def retentionIdle (n : Nat) (d : Dev) : Dev :=
  let d := (hartsOfDie n).foldl (fun d h => updHart d h (fun x => { x with domainUp := false })) d
  if (dieOf d n).snoopBusy then tryFold n d else d
def execRetentionIdle (die : DieN) (s : State) : Outcome State Fault Refusal := onDev (retentionIdle die) s

/-! ### Core tests and retirement (R105, R107–R109) -/


/-- A move to the die's spare core is under way: the spare is taken. -/
def spareBusy (d : Dev) (n : Nat) : Bool := (hartsOfDie n).any (fun h => (hartOf d h).spareMove != 0)
/-- A core is retired: to the spare where the 204S has a usable one that no other move takes, else its hart goes offline (R107–R109). Interrupt 24
alters what a checkpoint holds (R104). -/
def retireCore (h : Nat) (d : Dev) : Dev :=
  let x := hartOf d h
  if x.retirePend || x.offline || x.spareMove != 0 then d
  else if is204S d && !x.spareUsed && !spareBusy d (dieOfHart h) then
    wakeForSnoop (dieOfHart h) (fun k => k == coreOfHart h) (updHart d h (fun x => { x with spareMove := 1, spareAt := d.now }))
  else updHart d h (fun x => { x with retirePend := true, grace := 1000, irqPending := nubNat (x.irqPending ++ [24]), ckptCurrent := false })

/-- A retiring hart stops at this kerf's step 3: it is in WFI, or its GRACE is 0 (R109). -/
def stopsNow (x : Hart) : Bool := x.retirePend && !x.offline && (x.rest != .running || x.grace == 0)
/-- A hart goes offline (R109 step 3): one that ran leaves its state in the save area mcoresave names; where every other hart of the die is in WFI with
fold, the die folds (R100). -/
def takeOffline (h : Nat) (d : Dev) : Dev :=
  let ran := (hartOf d h).rest == .running
  let d := if (hartOf d h).eid ≠ 0 then asyncExit h d else d
  let x := hartOf d h
  let d := if ran ∧ x.mcoresave ≠ 0 then cohWrite x.mcoresave (ckptBytes d h d.kerf.counter false) d else d
  let d := updHart (clearResv h d) h (fun x => { x with offline := true, retirePend := false, waiting := none, irqPending := x.irqPending.filter (· != 24) })
  tryFold (dieOfHart h) d

/-- Every hart of a die finds the spare used (R107, R108). -/
def markSpareUsed (n : Nat) (d : Dev) : Dev := (hartsOfDie n).foldl (fun d h => updHart d h (fun x => { x with spareUsed := true })) d

/-- A test last ended at `last` is due: CORE_TEST_INTERVAL seconds have passed, and it is not 0 (R105). -/
def testDue (d : Dev) (last : Nat) : Bool := ent d 0x9040 0 != 0 && decide (last + ent d 0x9040 0 * 100000000 ≤ d.now)
/-- CORE_TEST: due tests begin on a core whose hart has rested in retain or fold for 1 ms, a wake pattern going ahead on a folded die, and on the
204S's spare; they end in a pass or a failure, which marks a spare unusable (R103, R105, R107). An aborted test stays due. -/
def coreTest (h : Nat) (spare : Bool) (evt : TestEvt) (d : Dev) : Dev :=
  let n := dieOfHart h
  let x := hartOf d h
  let resting := (x.rest == .retain || x.rest == .fold) && decide (x.restSince + 100000 ≤ d.now)
  if spare then
    match evt with
    | .start => if is204S d && !x.spareUsed && testDue d (dieOf d n).spareTestedAt then updDie (sendWake n d) n (fun y => { y with spareTest := true }) else d
    | _ =>
      if (dieOf d n).spareTest then
        let d := updDie d n (fun y => { y with spareTest := false, spareTestedAt := d.now })
        if evt = .fail then markSpareUsed n d else d
      else d
  else
    match evt with
    | .start => if resting && testDue d x.testedAt then updHart (sendWake n d) h (fun x => { x with coreTest := true }) else d
    | _ =>
      if x.coreTest then
        let d := updHart d h (fun x => { x with coreTest := false, testedAt := d.now })
        if evt = .fail then retireCore h d else d
      else d
def execCoreTest (h : HartN) (spare : Bool) (evt : TestEvt) (s : State) : Outcome State Fault Refusal := onDev (coreTest h spare evt) s

/-- The lines a core held pass to its die's L3, and its translations go (R108, R109). -/
def emptyCore (h : Nat) (d : Dev) : Dev :=
  let n := dieOfHart h
  let k := coreOfHart h
  let d := (linesWhere d n (fun _ l => getBit l.cores k)).foldl (fun d line => l2Drop n k line d) d
  updHart d h (fun x => { keepTlb (fun _ => false) x with sweeps := [] })

/-- SPARE_MOVE_COMPLETE: the old core is off, the move is recorded (R108 step 4). -/
def spareMoveComplete (h : Nat) (d : Dev) : Dev :=
  if (hartOf d h).spareMove = 3 then
    let d := updHart d h (fun x => { x with spareMove := 0, spared := true })
    mcWrite { bank := 0x9200, unitNo := dieOfHart h, severity := 4, source := 1, unit := dieOfHart h + 256 * coreOfHart h, hart := h } (markSpareUsed (dieOfHart h) d)
  else d
def execSpareMoveComplete (h : HartN) (s : State) : Outcome State Fault Refusal := onDev (spareMoveComplete h) s

/-- OFFLINE_POWER_OFF: the core of an offline hart has written its lines back and powers off (R109 step 4). -/
def offlinePowerOff (h : Nat) (d : Dev) : Dev :=
  if (hartOf d h).offline then updHart (emptyCore h d) h (fun x => { x with powered := false }) else d
def execOfflinePowerOff (h : HartN) (s : State) : Outcome State Fault Refusal := onDev (offlinePowerOff h) s

end Sys2Proof.Machine
end

