-- ==== Sys2Proof/Machine/Enclaves.lean ====
section
/-!
DEFINITION. World switches and enclave entry and exit (R366, R381, R382), and what breaks an enclave (R385).
-/
set_option linter.unusedVariables false

namespace Sys2Proof.Machine

open Host (Outcome)

/-- A small negative number as a register value. -/
def negWord (k : Nat) : Nat := 2 ^ 64 - k

/-- EENTER leaves a code in a0 and continues. -/
def eenterFails (h k : Nat) (d : Dev) : Dev := advance h 4 (updHart d h (setX 10 (negWord k)))

/-- A fresh entry: a0–a7 stay, tp holds the slot, every other register is 0, pc is the entry address (R381). -/
def freshInner (e : Enclave) (slot : Nat) (eid : Nat) (x : Hart) : Hart :=
  let keep := tabFilter (fun r _ => decide (10 ≤ r) && decide (r ≤ 17)) x.x
  let y := { x with x := keep, f := [], v := [], pc := e.entry, eid := eid, slot := slot }
  [0x001, 0x002, 0x003, 0x008, 0x009, 0x00A, 0x00F, 0xC20, 0xC21].foldl (fun y n => setCsr n 0 y) (setX 4 slot y)

def eenterWord (rs1 : Nat) : Nat := 0x0200000B + rs1 * 2 ^ 15

/-- EENTER (R381): in HS, U or VU mode. -/
def hartEenter (h rs1 : Nat) (d : Dev) : Dev :=
  let x := hartOf d h
  let eid := xReg x rs1
  let e := enclOf d eid
  match x.mode with
  | .m => trapIllegal h (eenterWord rs1) d
  | .vs => trapVirtual h (eenterWord rs1) d
  | _ =>
    if x.eid ≠ 0 then eenterFails h 5 d
    else if eid = 0 ∨ 4096 ≤ eid ∨ e.state ≠ 2 then eenterFails h 1 d
    else if getBit e.attr 2 != (secureExists d && x.lowerSecure) then eenterFails h 3 d
    else
      match (List.range (getBits e.attr 8 8)).find? (fun k => match tabGet none e.slots k with | some s => s.hart == h && s.interrupted | none => false) with
      | some k =>
        (match tabGet none e.slots k with
          | some s =>
            let d := updEncl d eid (fun e => { e with slots := tabSet none e.slots k (some { s with interrupted := false, caller := saveLower x }) })
            updHart d h (fun x => retire { loadLower s.inner x with eid := eid, slot := k })
          | none => d)
      | none =>
        match (List.range (getBits e.attr 8 8)).find? (fun k => (tabGet none e.slots k).isNone) with
        | none => eenterFails h 2 d
        | some k =>
          let d := updEncl d eid (fun e => { e with slots := tabSet none e.slots k (some { hart := h, interrupted := false, caller := saveLower x, inner := saveLower x }) })
          updHart d h (fun x => retire (freshInner e k eid x))
def execEenter (h : HartN) (rs1 : RegN) (s : State) : Outcome State Fault Refusal := onDev (onHart h (hartEenter h rs1)) s

/-- The caller's state returns with the given a0–a7, after its EENTER; the slot is free (R382). -/
def leaveEnclave (h : Nat) (args : List Nat) (d : Dev) : Dev :=
  let x := hartOf d h
  match tabGet none (enclOf d x.eid).slots x.slot with
  | some s =>
    let d := updEncl d x.eid (fun e => { e with slots := tabSet none e.slots x.slot none })
    let d := updHart d h (fun y => (List.range 8).foldl (fun y i => setX (10 + i) (args.getD i 0) y) { loadLower s.caller y with eid := 0 })
    advance h 4 d
  | none => d

/-- EEXIT (R382): inside an enclave only. -/
def hartEexit (h : Nat) (d : Dev) : Dev :=
  let x := hartOf d h
  if x.eid = 0 then trapIllegal h 0x0400000B d
  else leaveEnclave h ((List.range 8).map (fun i => xReg x (10 + i))) d
def execEexit (h : HartN) (s : State) : Outcome State Fault Refusal := onDev (onHart h (hartEexit h)) s

def wswitchWord (rs1 : Nat) : Nat := 0x0600000B + rs1 * 2 ^ 15

/-- WSWITCH (R366): M mode, while the secure world exists; the switch record is a 4 KiB page of class secure. -/
def hartWswitch (h rs1 : Nat) (d : Dev) : Dev :=
  let x := hartOf d h
  let a := xReg x rs1
  if x.mode ≠ .m ∨ secureExists d = false then trapIllegal h (wswitchWord rs1) d
  else if a % 4096 ≠ 0 ∨ isMain d a = false ∨ potClass (potEntry d a) ≠ 1 then takeTrap h 7 false a 0 d
  else
    let mine := if x.lowerSecure then a else a + 0x800
    let other := if x.lowerSecure then a + 0x800 else a
    let area := cohBytes d other 0x800
    let d := cohWrite mine (ckptLower d h d.kerf.counter) d
    let d := if x.hsEn then sampleStop h 4 d else updHart d h (fun x => { x with hsStop := 4 })
    advance h 4 (updHart d h (fun x => { ckptLoadLower area x with lowerSecure := !x.lowerSecure }))
def execWswitch (h : HartN) (rs1 : RegN) (s : State) : Outcome State Fault Refusal := onDev (onHart h (hartWswitch h rs1)) s

/-! ### Broken enclaves (R385) -/

/-- An enclave becomes BROKEN: its harts leave with −4, its slots are discarded, and the event is recorded. -/
def breakEnclave (eid : Nat) (d : Dev) : Dev :=
  if (enclOf d eid).state = 0 ∨ (enclOf d eid).state = 3 then d
  else
    let inside := (List.range 216).filter (fun h => (hartOf d h).eid == eid && dieRuns d (dieOfHart h))
    let d := inside.foldl (fun d h => leaveEnclave h [negWord 4] d) d
    let d := updEncl d eid (fun e => { e with state := 3, slots := [] })
    let d := { d with obs := { d.obs with enclBroken := d.obs.enclBroken + 1 } }
    mcWrite { bank := 0x9203, unitNo := 0, severity := 4, source := 10, unit := 0, detail1 := eid } d

/-- Enclaves with a slot bound to a hart of a die. -/
def enclavesOnDie (d : Dev) (n : Nat) : List Nat :=
  (d.encl.filter (fun e => e.2.slots.any (fun s => match s.2 with | some y => dieOfHart y.hart == n | none => false))).map (fun e => e.1)

/-- The enclave whose page or control region holds a line (R385). -/
def enclaveOfLine (d : Dev) (line : Nat) : Option Nat :=
  let e := potEntry d (line * 64)
  if isMain d (line * 64) = false then none
  else if potClass e = 2 then some (potOid e)
  else (d.encl.find? (fun e => e.2.state != 0 && decide (e.2.ctrl ≤ line * 64) && decide (line * 64 < e.2.ctrl + 4096 * (1 + getBits e.2.attr 8 8)))).map (fun e => e.1)

/-- A line of memory has been poisoned: the enclave it belongs to breaks (R385). -/
def linePoisoned (line : Nat) (d : Dev) : Dev :=
  match enclaveOfLine d line with
  | some e => breakEnclave e d
  | none => d

end Sys2Proof.Machine
end

