-- ==== Sys2Proof/Machine/DieLoss.lean ====
section
/-!
DEFINITION. A compute die leaves and returns: withdraw (R210, R211), the fence and what it completes (R212–R215, R217),
the sweep, re-admission (R216), and the die's mirror cleaner (R410).
-/
set_option linter.unusedVariables false

namespace Sys2Proof.Machine

open Host (Outcome)

/-- DIE_STATE.PHASE (R220). -/
def phaseCode : DiePhase → Nat
  | .inService => 0
  | .draining => 3
  | .withdrawn => 4
  | .fenced => 5
  | .sweeping => 6
  | .readmitting => 7
/-- A withdraw of a die in service is staged, or is current and waits for a hold to end (R220, R391). -/
def withdrawStaged (d : Dev) (n : Nat) : Bool := (dieOf d n).phase == .inService && (entNext d 0xA030 (n + 1) != 0 || ent d 0xA030 (n + 1) != 0)
/-- DIE_STATE.PHASE of a die as it reads. -/
def diePhase (d : Dev) (n : Nat) : Nat := if withdrawStaged d n then 1 else phaseCode (dieOf d n).phase
/-- DIE_STATE (R220). -/
def dieState (d : Dev) (n : Nat) : Nat :=
  let x := dieOf d n
  packFields [(x.fences, 24, 8), (x.cause, 16, 4), (x.inc, 8, 6), (diePhase d n, 0, 4)]

/-! ### The package as a loss for its pair -/

/-- The package is one of a pair that is forming or formed: R217 applies. -/
def inPair (d : Dev) : Bool := d.mirror.role != 0 && decide (1 ≤ d.mirror.phase) && decide (d.mirror.phase ≤ 5)

/-- The package stops as a loss for its partner: every hart stops, nothing more leaves the clamp, and a LOSS record goes out (R217, R403). -/
def lossStop (cause : Nat) (d : Dev) : Dev :=
  let d := sendDowel 7 ([0x70, BitVec.ofNat 8 cause] ++ leBytes 6 0 ++ leBytes 8 d.kerf.counter) d
  { d with mirror := { d.mirror with phase := 8, lossCause := cause } }

/-! ### The fence (R213–R215) -/

/-- A hart whose die is lost keeps nothing but what the package holds of it. -/
def hartLost (x : Hart) : Hart :=
  { hartInit with released := x.released, offline := x.offline, powered := x.powered, spareUsed := x.spareUsed, spared := x.spared,
                  bLedger := x.bLedger, bOverspend := x.bOverspend, bThrottle := x.bThrottle, bThermal := x.bThermal,
                  testedAt := x.testedAt, tenergy := x.tenergy, vset := x.vset, tj := x.tj }

/-- Lines the directory names a die for. -/
def linesOfDie (d : Dev) (n : Nat) : List Nat :=
  d.slices.flatMap (fun s => (s.2.dir.filter (fun e => match e.2 with
    | some x => getBit x.pres n || (x.owner == n && (x.st == .x || x.st == .o))
    | none => false)).map (fun e => e.1))

/-- The sweep will poison the line: R214 leaves no copy of it. -/
def willPoison (d : Dev) (n line : Nat) : Bool :=
  match dirOf d line with
  | some e =>
    e.owner == n && (e.st == .x ||
      (e.st == .o && !(onesOf (setBit e.pres n false) 12).any (fun k => !(dieOf d k).retired && (heldLine d k line).isSome)))
  | none => false

/-- A line whose only copy was on a lost die, and which its directory entry no longer names: a surviving copy goes to memory, else poison. -/
def recoverLine (n line : Nat) (d : Dev) : Dev :=
  match (List.range 12).find? (fun k => k != n && !(dieOf d k).retired && (heldLine d k line).isSome) with
  | some k => (match heldLine d k line with | some (_, x, p) => memWrite line x p d | none => d)
  | none => updDie (memWrite line (memLine d line).1 true d) n (fun x => { x with poisoned := x.poisoned + 1 })

/-- A forward to a lost die whose acknowledgement, or whose data, has not come. -/
def awaitsOwner (n : Nat) (t : Trk) : Bool := t.acted && t.fwdTo == some n && (t.acks.contains n || !t.routed)
/-- A tracker entry awaits a lost die. -/
def awaitsDie (n : Nat) (t : Trk) : Bool := t.acks.contains n || t.victims.contains n || t.kills.contains n || awaitsOwner n t
/-- A tracker entry that awaits a lost die gets its answers from the hub, and a requester that awaited the die's data is served by the hub (R215). -/
def lostResponse (n : Nat) (t : Trk) (d : Dev) : Dev :=
  let d := match t.victim with | some v => if t.victims.contains n then resolveFenced n v d else d | none => d
  let own := awaitsOwner n t
  let d :=
    if own then
      (match dirOf d t.line with
        | some e => if (e.st == .x || e.st == .o) && e.owner == n then resolveFenced n t.line d else recoverLine n t.line d
        | none => recoverLine n t.line d)
    else d
  updTrk t.txid (fun x =>
    { x with acks := x.acks.filter (· != n), victims := x.victims.filter (· != n), kills := x.kills.filter (· != n),
             fwdTo := if own then none else x.fwdTo, needCmp := !own && x.needCmp, granted := !own && x.granted, dirty := x.dirty || own,
             req := if own then
               (match x.req with | .die q => .die { q with op := if q.op == .upg then .rdx else q.op } | r => r) else x.req }) d

/-- Data on its way down to a lost die goes to memory (R215); what is still on its way up to the hub goes there when it arrives. -/
def saveData (n : Nat) (d : Dev) : Dev :=
  ((d.flight ++ (linkOf d n).down.queue).filter (fun m => !m.up && m.die == n && isDataOp m.op)).foldl (fun d m =>
    memWrite (lineOf m.addr) m.data m.poison (forgetDie n (lineOf m.addr) d)) d

/-- IMSIC writes on their way to a lost die are lost and counted (R215). -/
def loseImsw (n : Nat) (d : Dev) : Dev :=
  ((d.flight ++ (linkOf d n).down.queue).filter (fun m => m.die == n && m.op == .imsw)).foldl (fun d _ => countPkg pkgImswLost d) d

/-- The tracker entries and queue places of a lost die are freed; those whose answers are still due end by themselves. Protections of its walks end, and
of the lines `held` that the directory names it for (R218). -/
def dropRequests (n : Nat) (held : List Nat) (d : Dev) : Dev :=
  let ofDie (r : Req) : Bool := match r with | .die m => m.die == n | .agent _ _ => false
  { d with slices := tabMap sliceInit (fun _ s =>
      { s with trk := s.trk.filter (fun t => !(ofDie t.req && (!t.acted || (t.acks.isEmpty && t.victims.isEmpty && (t.fwdTo.isNone || t.routed))))),
               ingress := s.ingress.filter (fun q => !ofDie q.2.2.1),
               protect := s.protect.filter (fun p => p.2 != n && !held.contains p.1) }) d.slices }

/-- Every line with an open tracker entry. -/
def openLines (d : Dev) : List Nat := nubNat (d.slices.flatMap (fun s => s.2.trk.map (fun t => t.line)))

/-- The fence instant of an unplanned loss without the pair (R213–R215, R385). -/
def fenceNow (n cause : Nat) (d : Dev) : Dev :=
  let broken := nubNat (enclavesOnDie d n ++ ((linesOfDie d n).filter (willPoison d n)).filterMap (enclaveOfLine d))
  let held := linesOfDie d n
  let d := loseImsw n (saveData n d)
  let d := { d with flight := d.flight.filter (fun m => !(m.die == n && !m.up)) }
  let d := updDie d n (fun x =>
    { x with phase := .sweeping, cause := cause, retired := true, fences := min 255 (x.fences + 1), poisoned := 0, fenceTime := d.now,
             cache := [], wb := [], misses := [], deferred := [], owed := [], dirtyOrder := [], snoopBusy := false, spareTest := false, fromWithdraw := false })
  let d := updLink d n (fun l => { l with state := .fenced, up := bundleInit, down := bundleInit, wakeSent := false })
  let d := dropRequests n held d
  let waits := d.slices.flatMap (fun s => s.2.trk.filter (awaitsDie n))
  let d := waits.foldl (fun d t => lostResponse n t d) d
  let d := (hartsOfDie n).foldl (fun d h => updHart d h hartLost) d
  let d := broken.foldl (fun d e => breakEnclave e d) d
  let d := mcWrite { bank := 0x9200, unitNo := n, severity := 1, source := 9, unit := n, detail0 := dieState d n } d
  let d := emit (.aplic (.dieLoss n)) d
  (openLines d).foldl (fun d l => pump l d) d

/-- A die is fenced with a cause (R212); in a pair it is the loss of the package (R217). -/
def fenceDie (n cause : Nat) (d : Dev) : Dev :=
  match (dieOf d n).phase with
  | .fenced | .sweeping | .withdrawn => d
  | _ =>
    if inPair d then
      let d := updDie d n (fun x => { x with phase := .fenced, cause := cause, retired := true, fences := min 255 (x.fences + 1), poisoned := 0, fenceTime := d.now })
      let d := updLink d n (fun l => { l with state := .fenced })
      lossStop 1 (mcWrite { bank := 0x9200, unitNo := n, severity := 3, source := 9, unit := n, detail0 := dieState d n } d)
    else fenceNow n cause d

/-- DIRECTORY_SWEEP_COMPLETE: every entry that names the die is resolved by R214, and PHASE becomes 5 (R213). -/
def sweepComplete (n : Nat) (d : Dev) : Dev :=
  if (dieOf d n).phase = .sweeping then
    updDie ((linesOfDie d n).foldl (fun d l => resolveFenced n l d) d) n (fun x => { x with phase := .fenced })
  else d
def execDirectorySweepComplete (die : DieN) (s : State) : Outcome State Fault Refusal := onDev (sweepComplete die) s

/-- A forward, snoop or kill to the die is unanswered (R212 cause 4); the count runs only while the link is up. -/
def respTimeout (n : Nat) (d : Dev) : Dev :=
  if (linkOf d n).state = .up ∧ d.slices.any (fun s => s.2.trk.any (awaitsDie n)) then
    fenceDie n 4 d
  else d
def execFabricRespTimeout (die : DieN) (s : State) : Outcome State Fault Refusal := onDev (respTimeout die) s

/-- A folded die does not answer the wake pattern (R103, R212 cause 3). -/
def foldTimeout (n : Nat) (d : Dev) : Dev :=
  if (linkOf d n).state = .folded ∧ (linkOf d n).wakeSent then fenceDie n 3 d else d
def execFoldWakeTimeout (die : DieN) (s : State) : Outcome State Fault Refusal := onDev (foldTimeout die) s

/-! ### Withdraw (R210, R211) -/

/-- Steps 1 and 2 of a withdraw: harts are parked where they stand, an enclave's slot interrupted (R382), and the die drains. -/
def startWithdraw (n : Nat) (reset : Bool) (d : Dev) : Dev :=
  let d := (hartsOfDie n).foldl (fun d h =>
    let d := if (hartOf d h).eid ≠ 0 then asyncExit h d else d
    updHart d h (fun x => { x with waiting := none, resv := none })) d
  let d := updDie d n (fun x => { x with phase := .draining, withdrawReset := reset, misses := x.misses.filter (fun m => fillOp m.op) })
  drainLines n d

/-- Step 3 can be reached: no directory entry names the die, and no tracker entry is held for it. -/
def drained (d : Dev) (n : Nat) : Bool :=
  (linesOfDie d n).isEmpty && !d.slices.any (fun s => s.2.trk.any (fun t => t.holder == n)) && (dieOf d n).wb.isEmpty

/-- WITHDRAW_DRAIN_COMPLETE: traffic stops, the incarnation retires (R208), and the die is withdrawn; value 2 turns its supplies off. -/
def withdrawComplete (n : Nat) (d : Dev) : Dev :=
  if (dieOf d n).phase = .draining ∧ drained d n then
    let d := updDie d n (fun x => { x with phase := .withdrawn, retired := true, cache := [], misses := [], deferred := [], owed := [], dirtyOrder := [] })
    let d := updLink d n (fun l => { l with state := .withdrawn })
    let off := (dieOf d n).withdrawReset
    (hartsOfDie n).foldl (fun d h => updHart d h (fun x => { keepTlb (fun _ => false) x with sweeps := [], debts := [], powered := x.powered && !off })) d
  else d
def execWithdrawDrainComplete (die : DieN) (s : State) : Outcome State Fault Refusal := onDev (withdrawComplete die) s

def withdrawTimeout (n : Nat) (d : Dev) : Dev :=
  match (dieOf d n).phase with
  | .draining => fenceDie n 5 d
  | _ => d
def execWithdrawTimeout (die : DieN) (s : State) : Outcome State Fault Refusal := onDev (withdrawTimeout die) s

/-! ### Re-admission (R216) -/

/-- DIE_READMIT is accepted: withdrawn, or fenced for at least 10 ms. -/
def readmitOk (d : Dev) (n : Nat) : Bool :=
  (dieOf d n).phase == .withdrawn || ((dieOf d n).phase == .fenced && decide ((dieOf d n).fenceTime + 1000000 ≤ d.now))

/-- Steps 1 and 2: the next incarnation, supplies on, and the link starts again from the die's fused sheet. -/
def startReadmit (n : Nat) (d : Dev) : Dev :=
  let from_ := (dieOf d n).phase == .withdrawn
  let d := updDie d n (fun x =>
    { x with phase := .readmitting, inc := if x.inc = 63 then 1 else x.inc + 1, retired := false, fromWithdraw := from_, cache := [], wb := [], misses := [], deferred := [], owed := [], dirtyOrder := [] })
  let f := tabGet dieFusesInit d.fuses.die n
  let d := updLink d n (fun l =>
    { l with state := .training, up := bundleInit, down := bundleInit, agreeUp := 0, agreeDown := 0, dieUp := f.upSheet, dieDown := f.downSheet,
             upWidth := 0, downWidth := 0, upAdopted := false, downAdopted := false, idMismatch := false })
  (hartsOfDie n).foldl (fun d h => updHart d h (fun x => { x with powered := x.released && !x.offline })) d

/-- READMIT_TRAINING_TIMEOUT: the link has not trained within the bound: fenced again with cause 1. -/
def readmitTimeout (n : Nat) (d : Dev) : Dev :=
  if (dieOf d n).phase = .readmitting ∧ (linkOf d n).state ≠ .up then fenceDie n 1 d else d
def execReadmitTrainingTimeout (die : DieN) (s : State) : Outcome State Fault Refusal := onDev (readmitTimeout die) s

/-! ### The mirror cleaner (R410) -/

/-- MIRROR_CLEANER: above half of DIRTY_MAX, the oldest dirty mirrored line not yet being cleaned is sent CLN. -/
def mirrorCleaner (n : Nat) (d : Dev) : Dev :=
  if (dieOf d n).phase = .inService ∧ ent d 0x6000 8 < 2 * dirtyCount d n then
    match (dieOf d n).dirtyOrder.find? (fun l => !(dieOf d n).misses.any (fun m => m.line == l)) with
    | some l =>
      let tag := freeTag d n
      let ms : Miss := { rtag := tag, op := .cln, line := l, core := 31, kind := kindMaint, gotData := false, gotCmp := false, needCmp := false, kdone := false, queued := [] }
      let d := updDie d n (fun x => { x with misses := x.misses ++ [ms], nextTag := (tag + 1) % 4096 })
      send true { msgOf d .cln n with rtag := tag, core := 31, addr := l * 64 } d
    | none => d
  else d
def execMirrorCleaner (die : DieN) (s : State) : Outcome State Fault Refusal := onDev (mirrorCleaner die) s

end Sys2Proof.Machine
end

