-- ==== Sys2Proof/Machine/Checks.lean ====
section
/-!
DEFINITION. What errors do (R228, R260, R423, R481, R483, R507): the fatal stop, corrected-error counts and their thresholds,
and data found uncorrectable.
-/
set_option linter.unusedVariables false

namespace Sys2Proof.Machine

/-- A fatal machine check: in a pair, a loss with cause 2; else every hart stops until package reset (R217, R228). -/
def fatalStop (d : Dev) : Dev := if inPair d then lossStop 2 d else { d with fatal := true }

/-- The key of a unit's corrected-error count. -/
def ceKey (src unit : Nat) : Nat := src * 2 ^ 16 + unit

/-- A corrected error of a unit: source as R483 numbers them (1 core … 6 directory), the source code and UNIT of its record, its bank.
The record carries the window's count; the threshold acts once per window. -/
def corrected (src unit : Nat) (bank unitNo recSource recUnit : Nat) (line : Option Nat) (d : Dev) : Dev :=
  let k := ceKey src unit
  let n := tabGet 0 d.obs.ce k + 1
  let d := { d with obs := { d.obs with ce := tabSet 0 d.obs.ce k n } }
  let d := mcWrite { bank := bank, unitNo := unitNo, severity := 0, source := recSource, unit := recUnit, paddr := line.map (· * 64), count := n } d
  if ent d 0x9042 src ≤ n ∧ tabGet false d.obs.ceActed k = false then
    let d := { d with obs := { d.obs with ceActed := tabSet false d.obs.ceActed k true } }
    let d := mcWrite { bank := bank, unitNo := unitNo, severity := 4, source := 14, unit := recUnit % 256 + 256 * recSource, count := n } d
    if src = 1 then retireCore unit d
    else if d.mirror.role = 1 ∧ d.mirror.phase = 2 ∧ ent d 0x9043 0 = 1 then { d with obs := { d.obs with ceFailover := true } }
    else d
  else d

/-- Data of a line of memory has been found uncorrectable and is poisoned: its enclave breaks (R385); a mirrored line of the PRIMARY
stops the package with LOSS cause 3, and one of the STANDBY is asked for again (R423). -/
def poisonFound (e : McEvent) (line : Nat) (d : Dev) : Dev :=
  let mir := inMirror d (line * 64)
  let d := linePoisoned line (mcWrite { e with paddr := some (line * 64), mirrored := mir } d)
  if mir && inPair d then
    (if d.mirror.role = 1 then lossStop 3 d
     else
       let d := sendDowel 0xC ([0xC0, 0] ++ leBytes 6 line ++ leBytes 8 0) d
       { d with mirror := { d.mirror with lost := nubNat (d.mirror.lost ++ [line]) } })
  else d

end Sys2Proof.Machine
end

