-- ==== Sys2Proof/Machine/Msc.lean ====
section
/-!
DEFINITION. The memory-side cache's own commands (R226–R236): flush, maintenance, scrub, and the drain of the eviction buffer.
-/
set_option linter.unusedVariables false

namespace Sys2Proof.Machine

open Host (Outcome)

/-- The array entries of a slice, by key. -/
def mscOfSlice (d : Dev) (n : Nat) : List (Nat × MscLine) :=
  d.msc.filterMap (fun e => if e.1 / 2 ^ 19 = n then e.2.map (fun l => (e.1, l)) else none)

/-- Dirty lines in a slice's array (MSC_DIRTY_LINES, R238). -/
def mscDirty (d : Dev) (n : Nat) : Nat := ((mscOfSlice d n).filter (fun e => e.2.dirty)).length

/-- MSC_SLICE_STATE (R236). -/
def mscSliceState (d : Dev) (n : Nat) : Nat :=
  let s := mscOf d n
  packFields [(s.evb.length, 32, 10), (b2n s.stale, 7, 1), (b2n s.maint, 3, 1), (s.state, 0, 3)]

/-- Write an array entry to the channel if it is dirty, and keep it clean or drop it. -/
def mscWriteBack (key : Nat) (keep : Bool) (d : Dev) : Dev :=
  match tabGet none d.msc key with
  | some e =>
    let d := if e.dirty then chanWrite e.line e.data e.poison d else d
    { d with msc := tabSet none d.msc key (if keep then some { e with dirty := false } else none) }
  | none => d

/-- Empty a slice's eviction buffer into the channel. -/
def evbDrainAll (n : Nat) (d : Dev) : Dev := (mscOf d n).evb.foldl (fun d _ => evbDrainOne n d) d

/-- MSC_FLUSH_COMPLETE: every dirty line and buffered entry is written, the slice is disabled and stale, PENDING clears (R231). -/
def flushComplete (n : Nat) (d : Dev) : Dev :=
  if (mscOf d n).state = 2 then
    let d := (mscOfSlice d n).foldl (fun d e => if e.2.dirty then mscWriteBack e.1 true d else d) d
    let d := evbDrainAll n d
    updDry (updMsc d n (fun s => { s with state := 0, stale := true })) 0x4101 (n + 1) (fun x => { x with pend := false })
  else d
def execMscFlushComplete (slice : SliceN) (s : State) : Outcome State Fault Refusal := onDev (flushComplete slice) s

/-- EVICTION_BUFFER_DRAIN: the oldest entry leaves if the channel's write queue has room (R227). -/
def evbDrain (n : Nat) (d : Dev) : Dev :=
  match (mscOf d n).evb with
  | e :: _ => if (subOf d (subKey d e.1)).wq.length < 64 then evbDrainOne n d else d
  | [] => d
def execEvictionBufferDrain (slice : SliceN) (s : State) : Outcome State Fault Refusal := onDev (evbDrain slice) s

/-! ### Maintenance (R233–R236) -/

/-- A line lies in the command's scope. -/
def maintCovers (m : MaintSt) (n line : Nat) : Bool :=
  if m.scopeAll then getBit m.slices n else decide (m.base ≤ line * 64) && decide (line * 64 + 63 ≤ m.limit)

/-- Slices a command acts on. -/
def maintSlices (m : MaintSt) : List Nat := (List.range 16).filter (fun n => !m.scopeAll || getBit m.slices n)

/-- A write of MSC_MAINT_CMD starts a command (R233); one whose BASE lies above LIMIT completes at once (R234). -/
def maintStart (v : Nat) (d : Dev) : Dev :=
  let m : MaintSt :=
    { busy := true, done := false, written := 0, op := getBits v 0 2, scopeAll := getBit v 8, slices := getBits v 16 16,
      base := ent d 0x4110 0, limit := ent d 0x4110 1,
      fromDisabled := (List.range 16).foldl (fun a n => if (mscOf d n).state = 0 then a + 2 ^ n else a) 0 }
  if !m.scopeAll && decide (m.limit < m.base) then { d with maint := { m with busy := false, done := true } }
  else { (maintSlices m).foldl (fun d n => updMsc d n (fun s => { s with maint := true })) d with maint := m }

/-- Act on one slice: lines written, and the package after. -/
def maintSlice (m : MaintSt) (n : Nat) (x : Nat × Dev) : Nat × Dev :=
  let d := x.2
  let lines := (mscOfSlice d n).filter (fun e => maintCovers m n e.2.line)
  let buf := (mscOf d n).evb.filter (fun e => maintCovers m n e.1)
  let wrote := (lines.filter (fun e => e.2.dirty)).length + buf.length
  let d := lines.foldl (fun d e => mscWriteBack e.1 (m.op == 1) d) d
  let d := buf.foldl (fun d e => chanWrite e.1 e.2.1 e.2.2 (evbFree e.1 d)) d
  let d := updMsc d n (fun s => { s with maint := false, stale := s.stale && !(m.scopeAll && m.op != 1 && getBit m.fromDisabled n) })
  (x.1 + wrote, d)

/-- A line of the scope has an open transaction at its home slice (R235). -/
def maintWaits (d : Dev) : Bool :=
  d.slices.any (fun s => s.2.trk.any (fun t => t.started && decide (t.line * 64 < 0x1000_0000_0000) && maintCovers d.maint (chanOfPa d (t.line * 64)) t.line))

/-- MSC_MAINT_DONE: the command has acted on its whole scope, once no flush and no open transaction holds it (R234, R235). -/
def maintDone (d : Dev) : Dev :=
  let m := d.maint
  if !m.busy || (maintSlices m).any (fun n => (mscOf d n).state == 2) || maintWaits d then d
  else
    let r := (maintSlices m).foldl (fun x n => maintSlice m n x) (0, d)
    { r.2 with maint := { m with busy := false, done := true, written := min r.1 (2 ^ 32 - 1) } }
def execMscMaintDone (s : State) : Outcome State Fault Refusal := onDev maintDone s

/-- MSC_MAINT_STATUS (R236). -/
def maintStatus (d : Dev) : Nat := packFields [(d.maint.written, 32, 32), (b2n d.maint.done, 1, 1), (b2n d.maint.busy, 0, 1)]

/-! ### Errors (R228) -/

/-- The sideband word of a line, whose check codes the spec gives by name only: those bits are free values (R223). -/
def sideband (d : Dev) (e : MscLine) : Nat :=
  packFields [(clnOf d (e.line * 64) / 2 ^ 19, 50, 14), (1, 49, 1), (b2n e.dirty, 48, 1), (b2n e.poison, 47, 1),
    (freeVal d, 38, 6), (freeVal d / 64, 0, 36)]

/-- MSC_PATROL_SCRUB: what the scrubber finds at one index of an enabled slice. A META_CHECK error leaves the line unknown, and its record without an
address (R228). -/
def mscScrub (n index : Nat) (err : MemErr) (d : Dev) : Dev :=
  let key := n * 2 ^ 19 + index % 2 ^ 19
  if (mscOf d n).state ≠ 1 then d
  else match err with
    | .none => d
    | .corrected => corrected 4 n 0x9201 n 5 n ((tabGet none d.msc key).map (fun e => e.line)) (countSlice n 63 d)
    | .uncorrectable =>
      (match tabGet none d.msc key with
        | some e =>
          if e.dirty then
            poisonFound { bank := 0x9201, unitNo := n, severity := 1, source := 5, unit := n, detail0 := sideband d e } e.line
              (drawn { d with msc := tabSet none d.msc key (some { e with poison := true }) })
          else
            let x := chanRead d e.line
            corrected 4 n 0x9201 n 5 n (some e.line) (countSlice n 63 { d with msc := tabSet none d.msc key (some { e with data := x.1, poison := x.2 }) })
        | none => d)
    | .badMeta =>
      let held := match tabGet none d.msc key with | some e => sideband d e | none => 0
      fatalStop (mcWrite { bank := 0x9201, unitNo := n, severity := 3, source := 5, unit := n, detail0 := held } (drawn d))
def execMscPatrolScrub (slice : SliceN) (index : Nat) (err : MemErr) (s : State) : Outcome State Fault Refusal := onDev (mscScrub slice index err) s

/-- A value of MSC_ENABLE becomes current at a swap (R229–R231): 0 disable, 1 enable, 2 flush then disable. -/
def mscSwap (n v : Nat) (d : Dev) : Dev :=
  let d := updMsc d n (fun s =>
    if v = 1 then { s with state := 1 }
    else if v = 2 then (if s.state = 1 then { s with state := 2 } else s)
    else if s.state = 1 then { s with state := 0, stale := true } else s)
  setCurNat d 0x4100 (n + 1) (if v = 1 then 1 else 0)

end Sys2Proof.Machine
end

