-- ==== Sys2Proof/Machine/Dram.lean ====
section
/-!
DEFINITION. The DDR5 channels and CXL windows (R239–R266): scheduling, refresh, low power, temperature, retraining, frequency
change, granule zeroing, ECC and scrub, and CXL timeouts.
-/
set_option linter.unusedVariables false

namespace Sys2Proof.Machine

open Host (Outcome)

/-- A channel that issues commands: trained, not in self-refresh, not switching. -/
def chanLive (c : ChanSt) : Bool := c.state == 2 && !c.selfRefresh && !c.switching

/-- The row-buffer key of a rank and bank. -/
def bankKey (rank bank : Nat) : Nat := rank * 32 + bank % 32
def lineBank (d : Dev) (line : Nat) : Nat := bankKey (rankOf d (line * 64)) (bankOf d (line * 64))
/-- The line's row is open in its bank. -/
def rowHit (d : Dev) (line : Nat) : Bool :=
  match tabGet none (subOf d (subKey d line)).openRow (lineBank d line) with
  | some r => r.1 == rowOf d (line * 64)
  | none => false

/-- An access opens its row and brings its rank out of power-down (R246, R249). -/
def touchRow (line : Nat) (d : Dev) : Dev :=
  let n := chanOfPa d (line * 64)
  let d := if rowHit d line then countChan n 2 d else d
  let d := updSub d (subKey d line) (fun s => { s with openRow := tabSet none s.openRow (lineBank d line) (some (rowOf d (line * 64), d.now)) })
  updChan d n (fun c => { c with powerDown := c.powerDown.filter (· != rankOf d (line * 64)) })

/-- Precharge every bank of a rank, in both subchannels. -/
def closeRank (n rank : Nat) (d : Dev) : Dev :=
  let f (s : SubSt) : SubSt := { s with openRow := s.openRow.filter (fun e => e.1 / 32 != rank) }
  updSub (updSub d (2 * n) f) (2 * n + 1) f
/-- Precharge every bank of a channel. -/
def closeAll (n : Nat) (d : Dev) : Dev :=
  let f (s : SubSt) : SubSt := { s with openRow := [] }
  updSub (updSub d (2 * n) f) (2 * n + 1) f

/-! ### Errors found in DRAM (R259–R261) -/

def countErr (n : Nat) (scrub ue : Bool) (d : Dev) : Dev := countChan n (12 + b2n ue + 2 * b2n scrub) d

/-- What ECC finds on a read of a line from DRAM: corrected and written back, or poisoned and recorded; a line already poisoned records nothing
new, and a line of a granule not yet zeroed is not read from DRAM (R258, R260). -/
def eccCheck (line : Nat) (err : MemErr) (scrub : Bool) (d : Dev) : Dev :=
  let n := chanOfPa d (line * 64)
  let c := chanOf d n
  let rank := rankOf d (line * 64)
  if tabGet false d.poison line ∨ (c.mapOff = false ∧ tabGet false c.granules (granuleOf d line) = false) then d
  else match err with
    | .none => d
    | .corrected => corrected 3 (n * 16 + rank) 0x9201 n 6 (n + 256 * rank) (some line) (countErr n scrub false d)
    | _ =>
      poisonFound { bank := 0x9201, unitNo := n, severity := 1, source := 6, unit := n + 256 * rank } line
        (countErr n scrub true { d with poison := tabSet false d.poison line true })

/-! ### Scheduling (R245, R246) -/

/-- Refreshes a rank owes are issued back to back once its reads drain (R248). -/
def refreshDue (n rank : Nat) (d : Dev) : Dev :=
  let queued := [2 * n, 2 * n + 1].any (fun k => (subOf d k).rq.any (fun e => rankOf d (e.line * 64) == rank))
  let owed := tabGet 0 (chanOf d n).owed rank
  if owed = 0 ∨ (queued ∧ owed < ent d 0x4022 0) then d
  else
    let d := if 1 < owed then countChan n 7 d else d
    closeRank n rank (updChan d n (fun c => { c with owed := tabSet 0 c.owed rank 0, powerDown := c.powerDown.filter (· != rank) }))

/-- The read that issues next: one that has waited 2 µs, else the oldest to an open row, else the oldest; none while writes drain,
nor while a write older than it has waited 20 µs. -/
def nextRead (d : Dev) (k : Nat) : Option RdEnt :=
  let s := subOf d k
  if s.draining then none
  else
    let may (e : RdEnt) : Bool := !s.wq.any (fun w => decide (w.at_ + 2000 ≤ d.now) && decide (w.at_ ≤ e.at_))
    let rs := s.rq.filter may
    ((rs.find? (fun e => decide (e.at_ + 200 ≤ d.now))).or (rs.find? (fun e => rowHit d e.line))).or rs.head?

/-- Lines of transactions that wait for room in a subchannel's read queue, oldest first (R245). -/
def readWaiters (d : Dev) (k : Nat) : List Nat :=
  nubNat (((sliceOf_ d (k / 2)).trk.filter (fun t =>
    t.started && t.acted && t.acks.isEmpty && !t.granted && !t.reading && t.data.isNone && subKey d t.line == k)).map (fun t => t.line))
/-- DRAM_READ_ISSUE: the line reaches the transaction that waits, and fills the slice (R224, R246, R260); the place in the queue goes to a read that
waited for one. -/
def readIssue (n : Nat) (b : Bool) (err : MemErr) (d : Dev) : Dev :=
  let k := 2 * n + b2n b
  match (if chanLive (chanOf d n) then nextRead d k else none) with
  | none => d
  | some e =>
    let d := updSub d k (fun s => { s with rq := s.rq.erase e })
    let d := eccCheck e.line err false (touchRow e.line (countChan n 0 d))
    let x := chanRead d e.line
    let d := countFill e.txid 0x0C (updTrk e.txid (fun t => { t with data := some x.1, poison := x.2, reading := false }) d)
    let d := pump e.line (refreshDue n (rankOf d (e.line * 64)) (mscFill e.line x.1 x.2 d))
    (readWaiters d k).foldl (fun d l => pump l d) d
def execDramReadIssue (ch : SliceN) (sub : Bool) (err : MemErr) (s : State) : Outcome State Fault Refusal := onDev (readIssue ch sub err) s

/-- DRAM_WRITE_ISSUE: the oldest queued write goes to DRAM while writes drain, once it has waited 20 µs, or with no read queued (R246). -/
def writeIssue (n : Nat) (b : Bool) (d : Dev) : Dev :=
  let k := 2 * n + b2n b
  let s := subOf d k
  match s.wq with
  | [] => d
  | w :: _ =>
    if chanLive (chanOf d n) && (s.draining || decide (w.at_ + 2000 ≤ d.now) || s.rq == []) then
      wqMark k (wqIssueOldest k (touchRow w.line d))
    else d
def execDramWriteIssue (ch : SliceN) (sub : Bool) (s : State) : Outcome State Fault Refusal := onDev (writeIssue ch sub) s

def execRowPrechargeIdle (ch : SliceN) (sub : Bool) (rank bank : Nat) (s : State) : Outcome State Fault Refusal :=
  onDev (fun d => updSub d (2 * ch + b2n sub) (fun x => { x with openRow := tabSet none x.openRow (bankKey rank bank) none })) s

/-! ### Refresh, power-down, self-refresh, temperature (R248–R250) -/

/-- DRAM_REFRESH: a rank's refresh falls due; it is postponed while reads for the rank are queued and fewer than REF_POSTPONE_MAX are owed. -/
def refresh (n rank : Nat) (d : Dev) : Dev :=
  if chanLive (chanOf d n) && decide (rank < (chanOf d n).dimm.ranks) then
    let d := updChan d n (fun c => { c with owed := tabUpd 0 c.owed rank (· + 1) })
    let d2 := refreshDue n rank d
    if tabGet 0 (chanOf d2 n).owed rank = 0 then d2 else countChan n 6 d2
  else d
def execDramRefresh (ch : SliceN) (rank : Nat) (s : State) : Outcome State Fault Refusal := onDev (refresh ch rank) s

def powerDown (n rank : Nat) (d : Dev) : Dev :=
  if chanLive (chanOf d n) && decide (rank < (chanOf d n).dimm.ranks) then
    closeRank n rank (updChan d n (fun c => { c with powerDown := nubNat (c.powerDown ++ [rank]) }))
  else d
def execPowerDownEntry (ch : SliceN) (rank : Nat) (s : State) : Outcome State Fault Refusal := onDev (powerDown ch rank) s

/-- Drain both write queues and issue the owed refreshes (R249, R256). -/
def settleChan (n : Nat) (d : Dev) : Dev :=
  let d := wqMark (2 * n + 1) (wqMark (2 * n) (wqDrain (2 * n + 1) (wqDrain (2 * n) d)))
  closeAll n (updChan d n (fun c => { c with owed := [], powerDown := [] }))

/-- SELF_REFRESH_ENTRY: after SR_IDLE without an access; SR_IDLE 0 keeps the channel out of it (R249). -/
def selfRefreshIn (n : Nat) (d : Dev) : Dev :=
  if chanLive (chanOf d n) && ent d 0x4026 0 != 0 && (subOf d (2 * n)).rq == [] && (subOf d (2 * n + 1)).rq == [] then
    countChan n 10 (updChan (settleChan n d) n (fun c => { c with selfRefresh := true }))
  else d
def execSelfRefreshEntry (ch : SliceN) (s : State) : Outcome State Fault Refusal := onDev (selfRefreshIn ch) s

/-- DIMM_TEMP_READ: the hottest DIMM's reading; each crossing of the limit is recorded (R248, R250). -/
def tempRead (n temp : Nat) (d : Dev) : Dev :=
  if (chanOf d n).state = 2 then
    let t := decide (ent d 0x4027 0 ≤ temp)
    let crossed := t != (chanOf d n).throttle
    let d := updChan d n (fun c => { c with temp := temp % 256, hot := decide (85 < temp), throttle := t })
    if crossed then countChan n 11 (mcWrite { bank := 0x9201, unitNo := n, severity := 4, source := 6, unit := n } d) else d
  else d
def execDimmTempRead (ch : SliceN) (temp : Nat) (s : State) : Outcome State Fault Refusal := onDev (tempRead ch temp) s

/-! ### Retraining (R253, R254) -/

/-- A round ends. -/
def roundDone (n : Nat) (forced : Bool) (d : Dev) : Dev :=
  let d := countChan n 8 (if forced then countChan n 9 d else d)
  let f (s : SubSt) : SubSt := { s with lastPause := 0 }
  updChan (updSub (updSub d (2 * n) f) (2 * n + 1) f) n (fun c => { c with lastRound := d.now, pauseDue := 0 })

/-- A pause may run: not during a switch, self-refresh or step 1 of a kerf sequence (R254). -/
def mayPause (d : Dev) (n : Nat) : Bool := chanLive (chanOf d n) && d.kerf.step1.isNone
/-- One round at once; it waits out what a pause may not run in. -/
def roundNow (n : Nat) (forced : Bool) (d : Dev) : Dev :=
  if (chanOf d n).state ≠ 2 then d
  else if mayPause d n then roundDone n forced d
  else updChan d n (fun c => { c with pauseDue := max c.pauseDue (1 + b2n forced) })
/-- What fell due meanwhile runs (R264). -/
def dueRound (n : Nat) (d : Dev) : Dev :=
  if (chanOf d n).pauseDue ≠ 0 && mayPause d n then roundDone n ((chanOf d n).pauseDue == 2) d else d

def selfRefreshOut (n : Nat) (d : Dev) : Dev :=
  if (chanOf d n).switching then d else dueRound n (updChan d n (fun c => { c with selfRefresh := false }))
def execSelfRefreshExit (ch : SliceN) (s : State) : Outcome State Fault Refusal := onDev (selfRefreshOut ch) s

/-- RETRAIN_POLICY lets a due pause run now. -/
def pauseAllowed (d : Dev) (n : Nat) : Bool :=
  (chanOf d n).pauseDue != 0 ||
  (match ent d 0x4023 1 with
    | 0 => true
    | 1 => d.kerf.lastSeq == d.kerf.counter && decide (d.now ≤ d.kerf.seqEnd + 5000)
    | _ => false)

/-- RETRAIN_PAUSE: one package rank of a subchannel; the round ends when every package rank of both has had one. One that falls due where none may run is
owed (R264). -/
def retrainPause (n : Nat) (b : Bool) (d : Dev) : Dev :=
  let ranks := (chanOf d n).dimm.pranks
  let k := 2 * n + b2n b
  if (chanOf d n).state ≠ 2 || !pauseAllowed d n then d
  else if !mayPause d n then updChan d n (fun c => { c with pauseDue := max c.pauseDue 1 })
  else if (subOf d k).lastPause < ranks then
    let d := updSub d k (fun s => { s with lastPause := s.lastPause + 1 })
    if (subOf d (2 * n)).lastPause = ranks ∧ (subOf d (2 * n + 1)).lastPause = ranks then roundDone n false d else d
  else d
def execRetrainPause (ch : SliceN) (sub : Bool) (s : State) : Outcome State Fault Refusal := onDev (retrainPause ch sub) s
def execRetrainForced (ch : SliceN) (s : State) : Outcome State Fault Refusal := onDev (roundNow ch true) s

/-! ### Frequency change (R256) -/

/-- Steps 1 and 2 of a switch to a slot. -/
def startSwitch (n slot : Nat) (d : Dev) : Dev :=
  if (chanOf d n).state = 2 then updChan (settleChan n d) n (fun c => { c with switching := true, swapSlot := slot, selfRefresh := true }) else d
/-- FREQUENCY_SWITCH_COMPLETE: the end of step 4. -/
def switchDone (n : Nat) (d : Dev) : Dev :=
  if (chanOf d n).switching then
    let slot := (chanOf d n).swapSlot
    dueRound n (updChan d n (fun c => { c with switching := false, selfRefresh := false, slot := slot, speed := ent d (0x4010 + slot) (n + 1) }))
  else d
def execFrequencySwitchComplete (ch : SliceN) (s : State) : Outcome State Fault Refusal := onDev (switchDone ch) s

/-! ### Granules and scrub (R258, R261) -/

/-- Granules of 1 MiB in a channel. -/
def granuleCount (d : Dev) (n : Nat) : Nat := 2 ^ (chanOf d n).dimm.capLog2 / 1048576

/-- GRANULE_ZERO: the engine zeroes the next granule not yet zeroed; ZERO_DONE with the last. -/
def granuleZero (n : Nat) (d : Dev) : Dev :=
  let c := chanOf d n
  if c.state = 2 ∧ c.mapOff = false ∧ c.zeroDone = false then
    updChan d n (fun c => { c with granules := tabSet false c.granules c.zeroNext true, zeroNext := c.zeroNext + 1,
                                   zeroDone := decide (granuleCount d n ≤ c.zeroNext + 1) })
  else d
def execGranuleZero (ch : SliceN) (s : State) : Outcome State Fault Refusal := onDev (granuleZero ch) s

/-- DRAM_PATROL_SCRUB: the scrubber reads a line of an enabled channel. -/
def dramScrub (line : Nat) (err : MemErr) (d : Dev) : Dev := if isDram d (line * 64) then eccCheck line err true d else d
def execDramPatrolScrub (line : Nat) (err : MemErr) (s : State) : Outcome State Fault Refusal := onDev (dramScrub line err) s

/-- DRAM_CHAN_STATE (R266). -/
def chanState (d : Dev) (n : Nat) : Nat :=
  let c := chanOf d n
  packFields [(c.temp, 48, 8), (c.dimm.ranks, 32, 5), (c.dimm.capLog2, 24, 8), (c.dimm.dpc, 18, 2), (c.slot, 16, 2), (c.speed, 12, 4),
    (b2n c.throttle, 7, 1), (b2n c.zeroDone, 6, 1), (b2n c.selfRefresh, 5, 1), (b2n c.switching, 4, 1), (c.state, 0, 3)]

/-! ### CXL (R263) -/

/-- A read of a CXL line ends with the device's data, or with poison. -/
def cxlAnswer (txid line : Nat) (poison : Bool) (d : Dev) : Dev :=
  let x := if poison then (0, true) else dramLine d line
  pump line (countFill txid 0x0D <| updTrk txid (fun t => { t with data := some x.1, poison := x.2, reading := false }) { d with cxlWait := d.cxlWait.erase (txid, line) })

/-- CXL_TIMEOUT: the window fails, and its reads end with poison. -/
def cxlTimeout (w line : Nat) (d : Dev) : Dev :=
  let owed := d.cxlWait.filter (fun e => cxlWindow d (e.2 * 64) == some w)
  if owed.any (fun e => e.2 == line) then
    let d := { d with cxlState := tabSet 0 d.cxlState w 4 }
    let d := mcWrite { bank := 0x9203, unitNo := 0, severity := 1, source := 7, unit := w, paddr := some (line * 64) } d
    owed.foldl (fun d e => cxlAnswer e.1 e.2 true d) d
  else d
def execCxlTimeout (win : Fin 16) (line : Nat) (s : State) : Outcome State Fault Refusal := onDev (cxlTimeout win line) s

end Sys2Proof.Machine
end

