-- ==== Sys2Proof/Machine/Ledger.lean ====
section
/-!
DEFINITION. The energy ledger (R342–R364) and the thermal actions (R497): charging, the hard-limit throttle, overspend, and the plan of
kerf step 4. Energies are kept in nanojoules; grants are whole microjoules.
-/
set_option linter.unusedVariables false

namespace Sys2Proof.Machine

open Host (Outcome)

/-- The kinds of R363: 0 core, 1 bench, 2 memory, 3 I/O, 4 hub, 5 inlay. -/
def acctKind (a : Nat) : Nat := if a < 216 then 0 else if a < 220 then 1 else if a = 220 then 2 else if a = 221 then 3 else if a = 222 then 4 else 5


/-- The account is inactive (R344). -/
def acctInactive (d : Dev) (a : Nat) : Bool :=
  if a < 216 then
    !hartPresent d a || (hartOf d a).offline || !dieRuns d (dieOfHart a)
  else if a < 223 then false
  else !(d.fuses.ordering == 2 && tabGet [] d.fuses.inlayIdent (a - 223) != [])

/-- The account's floor, mW (R362). -/
def floorMw (d : Dev) (a : Nat) : Nat := ent d 0x3010 (acctKind a + 1)

/-- The rated maximum of an account's domain, mW (R489). -/
def ratedMw (a : Nat) : Nat := match acctKind a with | 0 => 2900 | 1 => 22000 | 2 => 52000 | 3 => 38000 | 4 => 100000 | _ => 60000

/-! ### Setpoints (R354, R355, R357) -/

/-- Bring every controllable account to the setpoint it is due. -/
def applyMv (d : Dev) : Dev := (List.range 220).foldl (fun d a => setMv a (dueMv d a) d) d

/-- The throttle begins to act: an event, and every core and bench slowed. -/
def throttleOn (f : LedgerSt → LedgerSt) (d : Dev) : Dev :=
  let began := !throttling d
  let d := updLedger d (fun l => { f l with throttles := if began then l.throttles + 1 else l.throttles })
  let d := (List.range 220).foldl (fun d a => updAcct d a (fun x => { x with throttled := true })) d
  applyMv ((List.range 216).foldl (fun d h => updHart d h (fun x => { x with bThrottle := true })) d)

/-- The throttle releases where nothing keeps it. -/
def throttleOff (f : LedgerSt → LedgerSt) (d : Dev) : Dev :=
  let d := updLedger d f
  if throttling d then d
  else applyMv ((List.range 216).foldl (fun d h => updHart d h (fun x => { x with bThrottle := false })) d)

/-- OVERSPEND_STEP_DOWN (R354). Between a cut and its step 4 nothing is judged (R346). -/
def overspend (h : Nat) (d : Dev) : Dev :=
  if (acctOf d h).grant * 1000 ≤ (acctOf d h).spend ∧ (acctOf d h).isOver = false ∧ acctInactive d h = false ∧ d.kerf.step1 = none then
    countHart h 0x1C (setMv h 550 (updHart (updAcct d h (fun x => { x with isOver := true })) h (fun x => { x with bOverspend := true })))
  else d
def execOverspendStepDown (h : HartN) (s : State) : Outcome State Fault Refusal := onDev (overspend h) s

/-- BENCH_OVERSPEND: the grant plus the reserve drawn is spent (R355). -/
def benchOverspend (b : Nat) (d : Dev) : Dev :=
  let a := 216 + b
  if (acctOf d a).grant * 1000 + (acctOf d a).drawn ≤ (acctOf d a).spend ∧ (acctOf d a).isOver = false ∧ d.kerf.step1 = none then
    setMv a 650 (updAcct d a (fun x => { x with isOver := true }))
  else d
def execBenchOverspend (b : BenchN) (s : State) : Outcome State Fault Refusal := onDev (benchOverspend b) s

/-! ### Charging (R343, R357, R358) -/

/-- A fenced die's accounts stop charging at the fence (R344). -/
def chargeStops (d : Dev) (a : Nat) : Bool :=
  let x := dieOf d (dieOfHart a)
  decide (a < 216) && (x.phase == .fenced || x.phase == .sweeping || (x.phase == .readmitting && !x.fromWithdraw))
/-- What an account is charged for one microsecond: its measurement, or its grant spread over the epoch once its sensor has failed. -/
def chargeOf (d : Dev) (charges : List Nat) (a : Nat) : Nat :=
  if chargeStops d a then 0
  else if (acctOf d a).sensorFail then (acctOf d a).grant * 1000 / max 1 d.kerf.epochUs
  else charges.getD a 0

/-- Charge an account; a core's running total is its tenergy (R92, R343). -/
def charge (a n : Nat) (d : Dev) : Dev :=
  let d := updAcct d a (fun x => { x with spend := x.spend + n, total := x.total + n })
  if a < 216 then updHart d a (fun x => { x with tenergy := (acctOf d a).total / 1000 }) else d

/-- LEDGER_SUM_TICK: every account is charged for 1 µs and the sum judged against the hard limit. -/
def sumTick (charges : List Nat) (d : Dev) : Dev :=
  let sum := (List.range 225).foldl (fun n a => n + (if (acctOf d a).sensorFail then ratedMw a else chargeOf d charges a)) 0
  let d := (List.range 225).foldl (fun d a => charge a (chargeOf d charges a) d) d
  let d := if throttling d then (List.range 216).foldl (fun d h => countHart h 0x1D d) d else d
  let limit := ent d 0x3000 2 * 1000
  let d := updLedger d (fun l => { l with sums := (sum :: l.sums).take 4, calm := if sum * 100 ≤ limit * 95 then l.calm + 1 else 0 })
  if limit * 4 < d.ledger.sums.foldl (· + ·) 0 ∧ d.ledger.sums.length = 4 then throttleOn (fun l => { l with throttle := true }) d
  else if d.ledger.throttle ∧ 100 ≤ d.ledger.calm then throttleOff (fun l => { l with throttle := false }) d
  else d
def execLedgerSumTick (charges : List Nat) (s : State) : Outcome State Fault Refusal := onDev (sumTick charges) s

/-- SENSOR_FAIL (R358). -/
def sensorFail (a : Nat) (d : Dev) : Dev :=
  mcWrite { bank := 0x9203, unitNo := 0, severity := 4, source := 12, unit := a } (updAcct d a (fun x => { x with sensorFail := true }))
def execSensorFail (a : AcctN) (s : State) : Outcome State Fault Refusal := onDev (sensorFail a) s

/-! ### Heat (R497) -/

def execThermalThrottle (temp : Nat) (s : State) : Outcome State Fault Refusal :=
  onDev (fun d => if 105 ≤ temp then throttleOn (fun l => { l with hot := true }) d else d) s
def execThermalThrottleRelease (temp : Nat) (s : State) : Outcome State Fault Refusal :=
  onDev (fun d => if temp ≤ 100 then throttleOff (fun l => { l with hot := false }) d else d) s

/-- THERMTRIP: every hart stops, the check is recorded, a paired package sends LOSS, and THERMTRIP_N goes low. -/
def thermtrip (die core : Nat) (d : Dev) : Dev :=
  let bank := if die < 12 then 0x9200 else 0x9203
  let d := mcWrite { bank := bank, unitNo := if die < 12 then die else 0, severity := 3, source := 15, unit := die % 256 + 256 * (core % 256) } d
  let d := if d.mirror.phase = 2 then lossStop 2 d else d
  emit (.pin .thermtripN 0) { d with fatal := true, pins := { d.pins with thermtrip := true } }
def execThermtrip (die core : Nat) (s : State) : Outcome State Fault Refusal := onDev (thermtrip die core) s

/-! ### The model of a core's spend (R82, R89, R349) -/

/-- Leakage, mW (R89). -/
def leak (mv : Rat) : Rat := interp mv [(550, 18), (650, 25), (720, 31), (800, 40), (875, 50), (950, 62)]
/-- Energy per instruction, nJ (R89). -/
def perInst (mv : Rat) : Rat := interp mv [(550, 0.076), (650, 0.106), (720, 0.130), (800, 0.160), (875, 0.191), (950, 0.226)]

/-- e(v) in nJ for an epoch of `t` µs. The steps of the last epoch cancel between b, pace and c, so only whether there were any matters. -/
def expected (hist : Bool) (spend tLast t : Nat) (o : CoreObs) (v : Nat) : Rat :=
  let leakT := leak v * t
  if !hist then t * (pace v o.tj * 1000) * perInst v + leakT
  else if o.steps = 0 then leakT
  else
    let dyn := spend - leak o.vMean * tLast
    dyn * t / tLast * (pace v o.tj / pace o.vMean o.tj) * ((v : Rat) / o.vMean) ^ 2 + leakT

/-- The highest grid point from `top` down to 550 mV whose expected spend fits (R349). -/
def fitMv (e : Nat → Rat) (grantUj : Nat) : Nat → Nat → Nat
  | 0, _ => 550
  | f + 1, v => if v ≤ 550 then 550 else if e v ≤ grantUj * 1000 then v else fitMv e grantUj f (v - 5)

/-! ### The plan of kerf step 4 (R345–R350, R359) -/

/-- Weighted max-min fairness: the level lam as a fraction, and whether every want is met (R348). `fs` are the wants and weights still above the level. -/
def fairLevel : Nat → Nat → List (Nat × Nat) → Option (Nat × Nat)
  | 0, _, _ => none
  | f + 1, d, fs =>
    let w := fs.foldl (fun n e => n + e.2) 0
    if w = 0 then none
    else
      let met := fs.filter (fun e => decide (e.1 * w ≤ d * e.2))
      if met = [] then some (d, w)
      else fairLevel f (d - met.foldl (fun n e => n + e.1) 0) (fs.filter (fun e => !decide (e.1 * w ≤ d * e.2)))

/-- What an account gets at a level: whole µJ. -/
def share (level : Option (Nat × Nat)) (want weight : Nat) : Nat :=
  match level with
  | none => want
  | some (n, w) => min want (n * weight / w)

/-- The cut ends an epoch of every account: what accrues from here on counts in the next (R346). -/
def cutAccounts (d : Dev) : Dev := (List.range 225).foldl (fun d a => updAcct d a (fun x => { x with closed := x.spend, spend := 0 })) d

/-- Close the epoch (R356, R363): OVERRUN, carry, the benches' scale, and what is read for the plan. -/
def closeEpoch (tLast : Nat) (d : Dev) : Dev :=
  let overOf (a : Nat) : Nat := ((acctOf d a).closed - (acctOf d a).grant * 1000) / 1000
  let carry := ([220, 221, 222, 223, 224].map overOf).foldl (· + ·) 0
  let mw := (List.range 225).foldl (fun n a => n + (acctOf d a).closed) 0 / tLast
  let d := (List.range 225).foldl (fun d a => updAcct d a (fun x => { x with
    overrun := min (2 ^ 32 - 1) (overOf a),
    scaleN := if x.doneCost = 0 then 1 else if x.closed * 2 ≤ x.doneCost then 1 else if x.doneCost * 2 ≤ x.closed then 2 else x.closed,
    scaleD := if x.doneCost = 0 then 1 else if x.closed * 2 ≤ x.doneCost then 2 else if x.doneCost * 2 ≤ x.closed then 1 else x.doneCost })) d
  updLedger d (fun l => { l with carry := carry, carryFlag := decide (0 < carry), meanMw := mw, lastT := tLast })

/-- A cost in nJ at a bench's present scale (R351, log entry 40). -/
def scaleCost (d : Dev) (b n : Nat) : Nat := n * (acctOf d (216 + b)).scaleN / max 1 (acctOf d (216 + b)).scaleD

/-- Demand of an account in whole µJ (R347). `deferred` is what each bench has deferred at the cut, in nJ before its scale. -/
def demand (first : Bool) (tLast t : Nat) (obs : Nat → CoreObs) (deferred : Nat → Nat) (d : Dev) (a : Nat) : Nat :=
  let x := acctOf d a
  let flr := floorMw d a * t
  let scaled (n : Nat) : Nat := n * t * 17 / (tLast * 16)
  if 220 ≤ a then (if first then flr else max (scaled x.closed) flr) / 1000
  else if first then 0
  else if 216 ≤ a then scaled (max x.closed (scaleCost d (a - 216) (deferred (a - 216)) + x.admCost)) / 1000
  else (expected x.hist x.closed tLast t (obs a) (hartOf d a).vceil * 17 / 16 / 1000).floor.toNat

/-- Set the grants and setpoints of an epoch of `t` µs; `first` for epoch 0. An inactive core keeps its setpoint. -/
def plan (first : Bool) (t : Nat) (tLast : Nat) (obs : Nat → CoreObs) (tjHub : Nat) (deferred : Nat → Nat) (d : Dev) : Dev :=
  let d := if first then updLedger d (fun l => { l with carry := 0, carryFlag := false }) else closeEpoch tLast d
  let budget := ent d 0x3000 1
  let hot := ((List.range 216).filter (hartPresent d)).foldl (fun n h => max n (obs h).tj) tjHub
  let soft := ent d 0x3000 4
  let add := if soft < hot then min (budget * 5 * (hot - soft) / 100) (budget - ent d 0x3000 3) else 0
  let e := (budget - ent d 0x3000 3 - add) * t - d.ledger.carry
  let active (a : Nat) : Bool := !acctInactive d a
  let dem := (List.range 225).map (fun a => if active a then demand first tLast t obs deferred d a else 0)
  let flr (a : Nat) : Nat := if active a then floorMw d a * t else 0
  let fixed := ((List.range 225).filter (fun a => 220 ≤ a)).foldl (fun n a => n + dem.getD a 0) 0
  let floors := (List.range 220).foldl (fun n a => n + flr a) 0
  let spent := fixed * 1000 + ent d 0x3000 5 * t * 1000 + floors
  let rest := (e * 1000 - spent) / 1000
  let weight (a : Nat) : Nat := if active a then ent d 0x3020 (a + 1) else 0
  let want (a : Nat) : Nat := dem.getD a 0 - flr a / 1000
  let wants := (List.range 220).filterMap (fun a => if 0 < weight a ∧ 0 < want a then some (want a, weight a) else none)
  let level := fairLevel 221 rest wants
  let left := if level = none then rest - wants.foldl (fun n w => n + w.1) 0 else 0
  let totalW := (List.range 220).foldl (fun n a => n + weight a) 0
  let grant (a : Nat) : Nat :=
    if !active a then 0
    else if 220 ≤ a then dem.getD a 0
    else flr a / 1000 + (if weight a = 0 then 0 else (if want a = 0 then 0 else share level (want a) (weight a)) + left * weight a / totalW)
  let grants := (List.range 225).map grant
  let d := (List.range 225).foldl (fun d a =>
    let g := grants.getD a 0
    let x := acctOf d a
    if a < 216 then
      let o := obs a
      let ceil := (hartOf d a).vceil
      let cap := if 95 ≤ o.tj then min ceil 720 else ceil
      let v := if active a then fitMv (expected (x.hist && !first) x.closed tLast t o) g 81 cap else x.plan
      let lowF := active a && decide (v < cap)
      let capF := active a && decide (cap < ceil) && !lowF
      let d := updAcct d a (fun x => { x with
        grant := g, inactive := !active a, isOver := false, low := lowF, thermalCap := capF,
        throttled := throttling d, plan := v, hist := active a, doneCost := 0, admCost := 0 })
      updHart d a (fun y => { y with bLedger := lowF, bThermal := capF, bOverspend := false, tj := o.tj })
    else
      updAcct d a (fun x => { x with
        grant := g, inactive := !active a, isOver := false, throttled := throttling d && decide (a < 220),
        deferring := false, refusing := false, draw := false, plan := if a < 220 then 750 else 0, hist := true,
        allow := g * 1000, drawn := 0, doneCost := 0, admCost := 0 })) d
  applyMv (updLedger d (fun l => { l with
    epoch := e, reserve := ent d 0x3000 5 * t * 1000, tjHot := hot, addW := add,
    short := decide (rest = 0) }))

/-- ACCOUNT_STATE (R363). -/
def acctState (d : Dev) (a : Nat) : Nat :=
  let x := acctOf d a
  packFields [(x.overrun, 32, 32), (acctKind a, 20, 4), (b2n x.thermalCap, 18, 1), (b2n x.sensorFail, 17, 1), (b2n x.inactive, 16, 1),
    (b2n x.isOver, 15, 1), (b2n x.low, 14, 1), (b2n x.throttled, 13, 1), (b2n x.deferring, 12, 1), (b2n x.refusing, 11, 1), (b2n x.draw, 10, 1),
    (if a < 220 then x.vset else 0, 0, 10)]

/-- LEDGER_STATE (R364). -/
def ledgerState (d : Dev) : Nat :=
  let l := d.ledger
  packFields [(l.tjHot, 32, 8), (l.addW, 16, 16), (b2n l.carryFlag, 2, 1), (b2n l.short, 1, 1), (b2n (throttling d), 0, 1)]

/-! ### Admission (R351–R353) -/

/-- A descriptor of a class passes admission at a cost in nJ: the decision, and the accounts after. 0 assured, 1 standard, 2 spare. -/
def chargeIn (b cls cost : Nat) (d : Dev) : Bool × Dev :=
  let a := 216 + b
  let x := acctOf d a
  match cls with
  | 0 =>
    let fromRes := min (cost - x.allow) d.ledger.reserve
    (true, updLedger (updAcct d a (fun x => { x with
      allow := x.allow - cost, drawn := x.drawn + fromRes, draw := x.draw || decide (0 < fromRes),
      admCost := x.admCost + cost })) (fun l => { l with reserve := l.reserve - fromRes }))
  | 1 =>
    if cost ≤ x.allow then (true, updAcct d a (fun x => { x with allow := x.allow - cost, admCost := x.admCost + cost }))
    else (false, updAcct d a (fun x => { x with deferring := true }))
  | _ =>
    if cost + x.grant * 1000 * ent d 0x3000 6 / 100 ≤ x.allow then (true, updAcct d a (fun x => { x with allow := x.allow - cost, admCost := x.admCost + cost }))
    else (false, updAcct d a (fun x => { x with refusing := true }))

end Sys2Proof.Machine
end

