-- ==== Sys2Proof/Machine/Btu.lean ====
section
/-!
DEFINITION. How a bench function reaches memory and its scratchpad segment: identity, the bench translation unit with its dirty log
(R326–R332), and the segment (R301–R303).
-/
set_option linter.unusedVariables false

namespace Sys2Proof.Machine

def benchOf (d : Dev) (b : Nat) : BenchSt := tabGet benchInit d.benches b
def updBench (d : Dev) (b : Nat) (f : BenchSt → BenchSt) : Dev := { d with benches := tabUpd benchInit d.benches b f }
def fnOf (d : Dev) (b f : Nat) : Fn := tabGet fnInit (benchOf d b).fns f
def updFn (b f : Nat) (g : Fn → Fn) (d : Dev) : Dev := updBench d b (fun x => { x with fns := tabUpd fnInit x.fns f g })
def ringKey (f r : Nat) : Nat := f * 16 + r
def ringOf (d : Dev) (b f r : Nat) : Ring := tabGet ringInit (benchOf d b).rings (ringKey f r)
def updRing (b f r : Nat) (g : Ring → Ring) (d : Dev) : Dev := updBench d b (fun x => { x with rings := tabUpd ringInit x.rings (ringKey f r) g })
def feedOf (d : Dev) (b c : Nat) : FeedChan := tabGet feedInit (benchOf d b).chans c
def updFeed (b c : Nat) (g : FeedChan → FeedChan) (d : Dev) : Dev := updBench d b (fun x => { x with chans := tabUpd feedInit x.chans c g })

/-- Statuses of class 0x03 (R294). -/
def stTranslation : Nat := 0x0301
def stBus : Nat := 0x0302
def stPoison : Nat := 0x0303

/-! ### Identity (R324, R328, R370) -/

/-- The number of a function's instance owner (R324). -/
def instanceNo (b f : Nat) : Nat := b * 512 + f
/-- The identity a function's binding presents. -/
def fnIdent (d : Dev) (b f : Nat) : Ident :=
  match (fnOf d b f).bindClass with
  | 0 => .inst (instanceNo b f)
  | 1 => .normal
  | 2 => .secure
  | _ => .enclave (fnOf d b f).bindId

/-- A page is owned by a secure or enclave binding; other bindings need no such page (R325). -/
def ringPageOk (d : Dev) (b f pa : Nat) : Bool :=
  match (fnOf d b f).bindClass with
  | 2 => potClass (potEntry d pa) == 1
  | 3 => potClass (potEntry d pa) == 2 && potOid (potEntry d pa) == (fnOf d b f).bindId
  | _ => true

/-- A hart's access to BAR0 or BAR2 of a bound function is served (R325). -/
def hartServed (d : Dev) (b f h : Nat) : Bool :=
  let x := hartOf d h
  match (fnOf d b f).bindClass with
  | 2 => worldSecure d x x.mode
  | 3 => x.eid == (fnOf d b f).bindId && x.eid != 0
  | _ => true

/-! ### The translation unit (R326–R330) -/

/-- A read by the walker: owner check, then data. -/
def btuWalkRead (d : Dev) (id : Ident) (pa : Nat) : Except Nat Nat :=
  if !isMain d pa then .error stBus
  else if potRights (potEntry d pa) id % 2 = 0 then .error stTranslation
  else if cohPoison d pa 8 then .error stPoison
  else .ok (leNat (cohBytes d pa 8))

/-- Walk G-stage tables from `level` down: the leaf, its level. -/
def btuWalk (rd : Nat → Except Nat Nat) (va : Nat) : Nat → Nat → Bool → Except Nat (Nat × Nat)
  | 0, _, _ => .error stTranslation
  | l + 1, base, top =>
    match rd (base + getBits va (12 + 9 * l) (if top then 11 else 9) * 8) with
    | .error e => .error e
    | .ok pte =>
      if !getBit pte 0 || (!getBit pte 1 && getBit pte 2) || getBits pte 54 10 != 0 then .error stTranslation
      else if getBit pte 1 || getBit pte 3 then .ok (pte, l)
      else if getBit pte 4 || getBit pte 6 || getBit pte 7 then .error stTranslation
      else btuWalk rd va l (getBits pte 10 44 * 4096) false

/-- Translate a page for a function: the entry that would be filled, or the status that refuses it. -/
def btuFill (d : Dev) (b f va : Nat) (write : Bool) : Except Nat BtuEnt :=
  let id := fnIdent d b f
  let x := fnOf d b f
  let finish (pa size : Nat) (r w : Bool) : Except Nat BtuEnt :=
    let here := pa + va % 2 ^ size
    let own := if isMain d here then potRights (potEntry d here) id else if inHubRange here || inGaugeWindow here then 0 else 7
    let r := r && own % 2 == 1
    let w := w && own / 2 % 2 == 1
    if (if write then w else r) then .ok { fn := f, va := va / 2 ^ size * 2 ^ size, size := size, pa := pa, r := r, w := w, dirtySet := false }
    else .error stTranslation
  let mode := getBits x.ioatp 60 4
  if mode = 0 then (if va < 2 ^ 56 then finish (va / 4096 * 4096) 12 true true else .error stTranslation)
  else
    let levels := levelsOf mode
    if levels = 0 ∨ 2 ^ (14 + 9 * levels) ≤ va then .error stTranslation
    else match btuWalk (btuWalkRead d id) va levels (getBits x.ioatp 0 44 * 4096) true with
      | .error e => .error e
      | .ok (pte, l) =>
        let size := 12 + 9 * min l 2
        let ppn := getBits pte 10 44
        if ppn % 2 ^ (9 * l) ≠ 0 ∨ !getBit pte 4 ∨ !getBit pte 6 ∨ (write ∧ !getBit pte 7) then .error stTranslation
        else finish (ppn * 4096 + va % 2 ^ (12 + 9 * l) / 2 ^ size * 2 ^ size) size (getBit pte 1) (getBit pte 2 && getBit pte 7)

/-- The BTU's capacity (R326). -/
def btuCap : Nat := 4096

/-- Find or fill the entry for an address: an entry serves only its own function, and keeps serving until it is lost or invalidated (R329). -/
def btuLookup (b f va : Nat) (write : Bool) (d : Dev) : Except Nat BtuEnt × Dev :=
  match (benchOf d b).btu.find? (fun e => e.fn == f && decide (e.va ≤ va) && decide (va < e.va + 2 ^ e.size)) with
  | some e =>
    if (fnOf d b f).revoked then (.error stTranslation, d)
    else if (if write then e.w else e.r) then (.ok e, d)
    else if write then
      let d := updBench d b (fun x => { x with btu := x.btu.erase e })
      (match btuFill d b f va write with
        | .ok e => (.ok e, countBench b 9 (updBench d b (fun x => { x with btu := e :: x.btu })))
        | .error s => (.error s, d))
    else (.error stTranslation, d)
  | none =>
    let d := countBench b 9 (countBench b 8 d)
    if (fnOf d b f).revoked then (.error stTranslation, d)
    else match btuFill d b f va write with
      | .ok e => (.ok e, updBench d b (fun x => { x with btu := (e :: x.btu).take btuCap }))
      | .error s => (.error s, d)

/-- Log a write through an entry (R331, R332). -/
def dirtyLog (b f va : Nat) (e : BtuEnt) (d : Dev) : Dev :=
  let x := fnOf d b f
  if !x.log || x.dlogBase == 0 || e.dirtySet then d
  else
    let i := (va - x.dlogIova) / 4096
    let word := x.dlogBase + i / 64 * 8
    if va < x.dlogIova ∨ x.dlogPages ≤ i ∨ isMain d word = false then updFn b f (fun x => { x with overflow := true }) d
    else
      let d := cohWrite word (leBytes 8 (Nat.lor (leNat (cohBytes d word 8)) (2 ^ (i % 64)))) d
      updBench d b (fun x => { x with btu := x.btu.map (fun y => if y = e ∧ e.size = 12 then { y with dirtySet := true } else y) })

/-! ### The scratchpad segment (R301–R303) -/

/-- Granules of a function, in ascending order. -/
def granulesOf (d : Dev) (b f : Nat) : List Nat := (List.range 124).filter (fun g => tabGet 0 (benchOf d b).granOwner g == f)
def segLength (d : Dev) (b f : Nat) : Nat := 65536 * (granulesOf d b f).length
/-- Where a segment offset lies in the general area. -/
def segAddr (d : Dev) (b f o : Nat) : Option Nat := ((granulesOf d b f)[o / 65536]?).map (fun g => g * 65536 + o % 65536)

def spadKey (b a : Nat) : Nat := b * 2 ^ 23 + a
def spadBytes (d : Dev) (b a n : Nat) : List Byte := (List.range n).map (fun i => tabGet 0 d.spad (spadKey b (a + i)))
/-- An access to a bank in retention wakes it, the key window's too (R313). -/
def bankWake (b bank : Nat) (d : Dev) : Dev :=
  updBench d b (fun x => { x with
    wakes := if x.retained.contains bank then x.wakes + 1 else x.wakes, retained := x.retained.filter (· != bank) })
/-- An access wakes its bank (R313) and waits out its granule's zeroing (R302, log entry 8). -/
def spadTouch (b a : Nat) (d : Dev) : Dev :=
  updBench (bankWake b (a / 262144) d) b (fun x => { x with zeroing := x.zeroing.filter (· != a / 65536) })
def setSpad (b a : Nat) (v : List Byte) (d : Dev) : Dev := { d with spad := tabSetMany 0 d.spad (spadKey b a) v }
/-- Zero bytes [a, a + n) of a bench's general area. -/
def zeroSpad (b a n : Nat) (d : Dev) : Dev :=
  { d with spad := d.spad.filter (fun e => !(decide (spadKey b a ≤ e.1) && decide (e.1 < spadKey b a + n))) }

/-- The aperture (R303). -/
def apertureBase : Nat := 0x01FF_0000_0000_0000
def inAperture (va : Nat) : Bool := decide (apertureBase ≤ va) && decide (va < apertureBase + 0x80_0000)

/-! ### Reads and writes of a function's buffers -/

/-- A buffer cut at page boundaries: offset, address, bytes. -/
def chunks (va len : Nat) : List (Nat × Nat × Nat) :=
  if len = 0 then []
  else (List.range ((va + len - 1) / 4096 - va / 4096 + 1)).map (fun i =>
    let lo := max va ((va / 4096 + i) * 4096)
    let hi := min (va + len) ((va / 4096 + i + 1) * 4096)
    (lo - va, lo, hi - lo))

/-- Read one chunk through the BTU. -/
def memRead (b f va n : Nat) (d : Dev) : Except (Nat × Nat) (List Byte) × Dev :=
  match btuLookup b f va false d with
    | (.error s, d) => (.error (s, 0), d)
    | (.ok e, d) =>
      let pa := e.pa + (va - e.va)
      if !isMain d pa then (.error (stBus, 0), d)
      else match (linesIn pa n).find? (fun l => (cohRead d l).2) with
        | some l => (.error (stPoison, l * 64 - pa), d)
        | none => (.ok (cohBytes d pa n), d)
/-- Read one chunk of a buffer: the aperture names the segment and passes no BTU (R303). -/
def chunkRead (b f va n : Nat) (d : Dev) : Except (Nat × Nat) (List Byte) × Dev :=
  if inAperture va then
    (match segAddr d b f (va - apertureBase) with
      | some a => (.ok (spadBytes d b a n), spadTouch b a d)
      | none => (.error (stTranslation, 0), d))
  else memRead b f va n d

/-- Read a buffer: its bytes, or the status and the offset of the failing access. -/
def bufRead (b f va len : Nat) (d : Dev) : Except (Nat × Nat) (List Byte) × Dev :=
  (chunks va len).foldl (fun r c =>
    match r with
    | (.error e, d) => (.error e, d)
    | (.ok acc, d) =>
      match chunkRead b f c.2.1 c.2.2 d with
      | (.ok x, d) => (.ok (acc ++ x), d)
      | (.error e, d) => (.error (e.1, c.1 + e.2), d)) (.ok [], d)

/-- Where a chunk may be written: nothing is written yet. -/
def chunkCheck (b f va : Nat) (d : Dev) : Option Nat × Dev :=
  if inAperture va then ((if (segAddr d b f (va - apertureBase)).isSome then none else some stTranslation), d)
  else match btuLookup b f va true d with
    | (.error s, d) => (some s, d)
    | (.ok e, d) => ((if isMain d (e.pa + (va - e.va)) then none else some stBus), d)

/-- Write one chunk through the BTU; the dirty log sees it (R332). -/
def memWriteVa (b f va : Nat) (x : List Byte) (d : Dev) : Option Nat × Dev :=
  match btuLookup b f va true d with
  | (.error s, d) => (some s, d)
  | (.ok e, d) =>
    let pa := e.pa + (va - e.va)
    if isMain d pa then (none, cohWrite pa x (dirtyLog b f va e d)) else (some stBus, d)
/-- Write one chunk of a buffer (R303). -/
def chunkWrite (b f va : Nat) (x : List Byte) (d : Dev) : Option Nat × Dev :=
  if inAperture va then
    (match segAddr d b f (va - apertureBase) with
      | some a => (none, setSpad b a x (spadTouch b a d))
      | none => (some stTranslation, d))
  else memWriteVa b f va x d

/-- Write a buffer up to the first access refused: its status and offset. -/
def bufWrite (b f va : Nat) (x : List Byte) (d : Dev) : Option (Nat × Nat) × Dev :=
  (chunks va x.length).foldl (fun r c =>
    match r with
    | (some e, d) => (some e, d)
    | (none, d) =>
      match chunkWrite b f c.2.1 (sliceOf x c.1 c.2.2) d with
      | (none, d) => (none, d)
      | (some s, d) => (some (s, c.1), d)) (none, d)

/-- Check a whole destination before the first byte. -/
def bufCheck (b f va len : Nat) (d : Dev) : Option (Nat × Nat) × Dev :=
  (chunks va len).foldl (fun r c =>
    match r with
    | (some e, d) => (some e, d)
    | (none, d) =>
      match chunkCheck b f c.2.1 d with
      | (none, d) => (none, d)
      | (some s, d) => (some (s, c.1), d)) (none, d)

/-- Kill the BTU entries a test selects (R329, R330). -/
def btuKill (b : Nat) (p : BtuEnt → Bool) (d : Dev) : Dev := updBench d b (fun x => { x with btu := x.btu.filter (fun e => !p e) })

end Sys2Proof.Machine
end

