-- ==== Sys2Proof/Machine/BenchCheck.lean ====
section
/-!
DEFINITION. Descriptors and keys (R273–R292): the opcode table, handles and records, attribute records, the checks a descriptor passes before
its buffers are read, and its cost.
-/
set_option linter.unusedVariables false

namespace Sys2Proof.Machine

/-! ### Descriptor fields (R287, R288) -/

def jobAt (j : Job) (off len : Nat) : Nat := leAt j.bytes off len
def jOp (j : Job) : Nat := jobAt j 0 2
def jFlags (j : Job) : Nat := jobAt j 2 2
def jLen (j : Job) : Nat := jobAt j 8 4
def jSrcBuf (j : Job) : Nat := jobAt j 0x0C 4
def jSrc (j : Job) : Nat := jobAt j 0x10 8
def jDst (j : Job) : Nat := jobAt j 0x18 8
def jDstBuf (j : Job) : Nat := jobAt j 0x20 4
def jAuxLen (j : Job) : Nat := jobAt j 0x24 4
def jAux (j : Job) : Nat := jobAt j 0x28 8
def jKey0 (j : Job) : Nat := jobAt j 0x30 8
def jKey1 (j : Job) : Nat := jobAt j 0x38 8
def jP0 (j : Job) : Nat := jobAt j 0x40 4
def jP1 (j : Job) : Nat := jobAt j 0x44 4
def jInline (j : Job) : List Byte := sliceOf j.bytes 0x48 48
def jDukpt (j : Job) : Bool := getBit (jFlags j) 7
def jPre (j : Job) : Bool := getBit (jFlags j) 6
def jClass (j : Job) : Nat := getBits (jFlags j) 4 2
def jIrq (j : Job) : Bool := getBit (jFlags j) 1
def jFence (j : Job) : Bool := getBit (jFlags j) 0

/-- A row of the opcode table (R289): engine class 1 PKE, 2 SYE, 3 HME, 4 PTE; key types and the usage bit needed; the fields it uses. -/
structure OpRow where
  code : Nat
  eng : Nat
  k0 : List Nat
  u0 : Nat
  k1 : List Nat
  u1 : Nat
  zeroOk : Bool
  dst : Bool
  aux : Bool
  p0 : Bool
  p1 : Bool
deriving DecidableEq, Repr

/-- R289. Usage bits are numbered as in R277. -/
def opRows : List OpRow := [
  ⟨0x0101, 3, [], 0, [], 0, true, true, false, true, false⟩, ⟨0x0102, 3, [4, 14], 4, [], 0, true, true, false, true, true⟩,
  ⟨0x0103, 3, [4, 14], 5, [], 0, true, false, true, true, true⟩, ⟨0x0104, 2, [1], 4, [], 0, true, true, false, false, true⟩,
  ⟨0x0105, 2, [1], 5, [], 0, true, false, true, false, true⟩, ⟨0x0106, 2, [2], 4, [], 0, true, true, false, true, true⟩,
  ⟨0x0107, 2, [2], 5, [], 0, true, false, true, true, true⟩, ⟨0x0201, 2, [1], 0, [], 0, false, true, false, true, false⟩,
  ⟨0x0202, 2, [1], 1, [], 0, false, true, false, true, false⟩, ⟨0x0203, 2, [1], 0, [], 0, false, true, true, false, true⟩,
  ⟨0x0204, 2, [1], 1, [], 0, false, true, true, false, true⟩, ⟨0x0205, 2, [2, 3], 0, [], 0, false, true, false, true, false⟩,
  ⟨0x0206, 2, [2, 3], 1, [], 0, false, true, false, true, false⟩, ⟨0x0207, 2, [1], 6, [], 0, false, true, false, false, false⟩,
  ⟨0x0208, 2, [1], 7, [], 0, false, true, false, false, false⟩, ⟨0x0301, 1, [5], 2, [], 0, false, true, false, false, false⟩,
  ⟨0x0302, 1, [5, 6], 3, [], 0, false, false, true, false, false⟩, ⟨0x0303, 1, [7, 9], 2, [], 0, false, true, false, true, false⟩,
  ⟨0x0304, 1, [7, 8, 9, 10], 3, [], 0, false, false, true, true, false⟩, ⟨0x0305, 1, [11], 2, [], 0, false, true, false, true, true⟩,
  ⟨0x0306, 1, [11, 12], 3, [], 0, false, false, true, true, true⟩, ⟨0x0307, 1, [13], 11, [], 0, false, true, false, false, false⟩,
  ⟨0x0308, 1, [7, 9], 11, [], 0, false, true, false, false, false⟩, ⟨0x0401, 4, [1, 2, 3], 8, [1, 2, 3], 8, false, true, false, true, false⟩,
  ⟨0x0402, 4, [1, 2, 3], 8, [1, 2, 3], 8, false, false, true, true, false⟩, ⟨0x0501, 2, [], 0, [], 0, false, true, false, false, false⟩,
  ⟨0x0502, 2, [], 0, [], 0, false, false, false, false, false⟩, ⟨0x0503, 2, [1], 7, [], 0, false, true, true, false, false⟩,
  ⟨0x0504, 1, [], 0, [], 0, false, true, true, false, false⟩, ⟨0x0505, 1, [], 0, [], 0, false, true, false, false, false⟩,
  ⟨0x0506, 2, [1, 2, 3], 12, [], 0, false, true, false, false, false⟩, ⟨0x0507, 2, [1], 12, [1, 2, 3, 4, 14], 99, false, true, false, false, false⟩,
  ⟨0x0508, 3, [4, 14], 10, [], 0, false, true, true, false, false⟩]

def opRow (code : Nat) : Option OpRow := opRows.find? (fun r => r.code == code)

/-- Digest bytes of a HALG (R269). -/
def digestLen (halg : Nat) : Nat := match halg with | 0 => 32 | 1 => 48 | 2 => 64 | 3 => 32 | _ => 64

/-! ### Keys (R273–R277) -/

/-- The owner a function's binding gives (R275). -/
def fnOwner (d : Dev) (b f : Nat) : Nat × Nat :=
  match (fnOf d b f).bindClass with
  | 0 => (0, instanceNo b f)
  | 3 => (3, (fnOf d b f).bindId)
  | c => (c, 0)

/-- The record an index and generation name for an owner (R274, R275): or HANDLE_INVALID, or KEY_LOST. -/
def findKey (d : Dev) (b f h : Nat) : Except Nat (Nat × KeyRec) :=
  let i := getBits h 0 32
  let gen := getBits h 40 22
  if getBits h 62 2 ≠ b ∨ getBits h 32 8 ≠ 0 ∨ gen = 0 then .error 0x0201
  else if gen ≤ tabGet 0 (benchOf d b).lostGen i then .error 0x0208
  else match tabGet none (benchOf d b).keys i with
    | some k => if k.gen = gen ∧ (k.ownClass, k.ownId) = fnOwner d b f then .ok (i, k) else .error 0x0201
    | none => .error 0x0201

/-- The handle of a record. -/
def handleOf (b i gen : Nat) : Nat := packFields [(b, 62, 2), (gen, 40, 22), (i, 0, 32)]

/-- Usage bits allowed for a type (R277). -/
def usageAllowed (typ : Nat) : List Nat :=
  match typ with
  | 1 => [0, 1, 4, 5, 6, 7, 8, 9, 12]
  | 2 => [0, 1, 4, 5, 8, 12]
  | 3 => [0, 1, 8, 12]
  | 4 => [4, 5, 10]
  | 5 | 11 => [2, 3]
  | 7 | 9 => [2, 3, 11]
  | 6 | 8 | 10 | 12 => [3]
  | 13 => [11]
  | 14 => [10, 4, 5]
  | _ => []

/-- SIZE allowed for a type (R276). -/
def sizeOk (typ bits : Nat) : Bool :=
  match typ with
  | 1 => bits == 128 || bits == 192 || bits == 256
  | 2 => bits == 128
  | 3 => bits == 192
  | 4 | 14 => decide (128 ≤ bits) && decide (bits ≤ 1024) && bits % 8 == 0
  | 5 | 6 | 13 | 7 | 8 => bits == 256
  | 9 | 10 => bits == 384
  | 11 | 12 => decide (2048 ≤ bits) && decide (bits ≤ 4096) && bits % 256 == 0
  | _ => false

def symmetric (typ : Nat) : Bool := [1, 2, 3, 4, 14].contains typ
def publicType (typ : Nat) : Bool := [6, 8, 10, 12].contains typ
/-- Types KEY_DERIVE makes (R276). -/
def derivable (typ : Nat) : Bool := [1, 2, 3, 4, 14].contains typ

/-- An attribute record follows R276 for one of the types `p` allows. -/
def attrOk (p : Nat → Bool) (r : List Byte) : Bool :=
  let typ := leAt r 0 1
  let ex := leAt r 1 1
  let bits := leAt r 2 2
  let use := leAt r 4 4
  let e := leAt r 8 4
  let bitsOf := onesOf use 32
  p typ && sizeOk typ bits && (ex == 0 || (ex == 1 && symmetric typ)) &&
  bitsOf != [] && bitsOf.all (fun i => (usageAllowed typ).contains i) &&
  ([8, 9, 12].all (fun i => !bitsOf.contains i || bitsOf == [i])) &&
  (if typ = 11 then e == 0 || (e % 2 == 1 && decide (3 ≤ e)) else e == 0) && leAt r 12 4 == 0

/-- The record that attributes and key bytes make, but for its generation. -/
def recordFrom (d : Dev) (b f : Nat) (r : List Byte) (key : List Byte) : KeyRec :=
  { gen := 0, typ := leAt r 0 1, exportable := leAt r 1 1 == 1, bits := leAt r 2 2, usage := leAt r 4 4,
    rsaE := if leAt r 8 4 = 0 then 65537 else leAt r 8 4, label := sliceOf r 16 16,
    ownClass := (fnOwner d b f).1, ownId := (fnOwner d b f).2, key := key }

/-- Records a key store can hold. -/
def storeCap (d : Dev) (b : Nat) : Nat := ent d 0x5004 (b + 1) / 2048

/-- The lowest free index (R274), where generations are left. -/
def freeIndex (d : Dev) (b : Nat) : Option Nat :=
  let x := benchOf d b
  (List.range (min (storeCap d b) (x.keys.length + x.gens.length + 1))).find? (fun i =>
    (tabGet none x.keys i).isNone && decide (tabGet 0 x.gens i < 4194303))

/-- A key record as bytes, before it is sealed. -/
def keyBytes (k : KeyRec) : List Byte :=
  leBytes 4 k.gen ++ leBytes 1 k.typ ++ leBytes 1 (b2n k.exportable) ++ leBytes 2 k.bits ++ leBytes 4 k.usage ++ leBytes 4 k.rsaE ++
  padTo 16 k.label ++ leBytes 1 k.ownClass ++ leBytes 4 k.ownId ++ leBytes 4 k.key.length ++ k.key
def keyFrom (x : List Byte) : KeyRec :=
  { gen := leAt x 0 4, typ := leAt x 4 1, exportable := leAt x 5 1 == 1, bits := leAt x 6 2, usage := leAt x 8 4, rsaE := leAt x 12 4,
    label := sliceOf x 16 16, ownClass := leAt x 32 1, ownId := leAt x 33 4, key := sliceOf x 41 (leAt x 37 4) }

/-- A record's place in the key store. -/
def keyAddr (d : Dev) (b i : Nat) : Nat := ent d 0x5003 (b + 1) + 2048 * i
/-- Seal a record into the key store in DRAM (R273). -/
def storeKey (b i : Nat) (k : KeyRec) (d : Dev) : Dev :=
  cohWrite (keyAddr d b i) (padTo 2048 (Config.std .storeSeal [(benchOf d b).ksKey, leBytes 4 i, leBytes 4 k.gen, keyBytes k])) d

/-- Create a record: its handle, or none when the store is full (R276). -/
def createKey (b : Nat) (k : KeyRec) (d : Dev) : Option Nat × Dev :=
  match freeIndex d b with
  | none => (none, d)
  | some i =>
    let gen := tabGet 0 (benchOf d b).gens i + 1
    let k := { k with gen := gen }
    let d := updBench d b (fun x => { x with keys := tabSet none x.keys i (some k), gens := tabSet 0 x.gens i gen })
    (some (handleOf b i gen), storeKey b i k d)

/-- Load a record into the key window, bank 31, which an engine then reads it from (R273, R300, R313). -/
def loadKey (b i : Nat) (d : Dev) : Dev :=
  let d := bankWake b 31 d
  if (benchOf d b).window.contains i then d
  else countBench b 7 (updBench d b (fun x => { x with window := (i :: x.window).take 128 }))

/-- Destroy a record: its handle is dead from here on. -/
def dropKey (b i : Nat) (d : Dev) : Dev :=
  updBench d b (fun x => { x with keys := tabSet none x.keys i none, window := x.window.filter (· != i) })
/-- Zero a destroyed record in DRAM. -/
def wipeKey (b i : Nat) (d : Dev) : Dev := cohWrite (keyAddr d b i) (List.replicate 2048 0) d

/-! ### The checks of R290 -/

/-- Length of a public key's encoding (R289). -/
def publicLen (typ bits : Nat) : Nat :=
  match typ with | 5 | 6 | 13 => 32 | 7 | 8 => 65 | 9 | 10 => 97 | _ => bits / 8 + 4
/-- Length of the encoding KEY_IMPORT_KW unwraps (R276). -/
def privateLen (typ bits : Nat) : Nat := if typ = 11 then bits / 8 + 8 + 5 * (bits / 16) else bits / 8
/-- Length of a signature under a key. -/
def sigLen (k : KeyRec) : Nat := match k.typ with | 7 | 8 | 5 | 6 => 64 | 9 | 10 => 96 | _ => k.bits / 8

def isPin (code : Nat) : Bool := code == 0x0401 || code == 0x0402
def pinFmt0 (j : Job) : Nat := getBits (jP0 j) 0 4
def pinFmt1 (j : Job) : Nat := if jOp j = 0x0401 then getBits (jP0 j) 4 4 else getBits (jP0 j) 8 4
/-- A PIN block's length by format (R269). -/
def pinLen (fmt : Nat) : Nat := if fmt = 4 then 16 else 8

/-- Inline bytes the opcode uses (R287). -/
def inlineUsed (j : Job) (i : Nat) : Bool :=
  (match jOp j with
    | 0x0201 | 0x0202 => jP0 j != 0 && decide (i < 16)
    | 0x0203 | 0x0204 => decide (i < 12)
    | 0x0205 | 0x0206 => jP0 j != 0 && decide (i < 8)
    | 0x0401 | 0x0402 => decide (i < 11)
    | _ => false) || (jDukpt j && decide (32 ≤ i) && decide (i ≤ 44))

/-- Check 2. -/
def chkRsvd (r : OpRow) (j : Job) : Bool :=
  getBits (jFlags j) 8 8 == 0 && getBits (jFlags j) 2 2 == 0 && jobAt j 0x78 8 == 0 &&
  (r.k0 != [] || jKey0 j == 0) && (r.k1 != [] || jKey1 j == 0) && (r.p0 || jP0 j == 0) && (r.p1 || jP1 j == 0) &&
  (r.dst || (jDst j == 0 && jDstBuf j == 0)) && (r.aux || (jAux j == 0 && jAuxLen j == 0)) &&
  (List.range 48).all (fun i => inlineUsed j i || (jInline j).getD i 0 == 0)

/-- Opcodes that take DUKPT (R271). -/
def dukptOp (code : Nat) : Bool := [0x0102, 0x0103, 0x0104, 0x0105, 0x0201, 0x0202, 0x0203, 0x0204, 0x0401, 0x0402].contains code

/-- A PAN carried inline is legal (R287). -/
def panOk (j : Job) : Bool :=
  let n := leAt (jInline j) 0 1
  let digit (i : Nat) : Nat := getBits (leAt (jInline j) (1 + i / 2) 1) (if i % 2 = 0 then 4 else 0) 4
  decide (12 ≤ n) && decide (n ≤ 19) && (List.range 20).all (fun i => if i < n then decide (digit i ≤ 9) else digit i == 15)

/-- Check 3. -/
def chkParam (j : Job) : Bool :=
  let p0 := jP0 j
  let p1 := jP1 j
  jClass j != 3 &&
  (!jPre j || [0x0303, 0x0304, 0x0305, 0x0306].contains (jOp j)) &&
  (!jDukpt j || (dukptOp (jOp j) && decide (leAt (jInline j) 44 1 ≤ 1))) &&
  (match jOp j with
    | 0x0101 => decide (p0 ≤ 4)
    | 0x0102 | 0x0103 => decide (p0 ≤ 4) && decide (16 ≤ p1) && decide (p1 ≤ digestLen p0)
    | 0x0104 | 0x0105 => decide (4 ≤ p1) && decide (p1 ≤ 16)
    | 0x0106 | 0x0107 => (p0 == 1 || p0 == 2) && decide (4 ≤ p1) && decide (p1 ≤ 8)
    | 0x0201 | 0x0202 => decide (p0 ≤ 2)
    | 0x0203 | 0x0204 => decide (12 ≤ p1) && decide (p1 ≤ 16)
    | 0x0205 | 0x0206 => decide (p0 ≤ 1)
    | 0x0303 | 0x0304 => decide (p0 ≤ 2)
    | 0x0305 | 0x0306 => decide (p0 ≤ 2) && decide (p1 < 2 ^ 17) && (if getBit p1 16 then decide (p1 % 65536 ≤ digestLen p0) else p1 % 65536 == 0)
    | 0x0401 | 0x0402 =>
      [0, 1, 3, 4].contains (pinFmt0 j) && [0, 1, 3, 4].contains (pinFmt1 j) &&
      (if jOp j = 0x0401 then decide (p0 < 256) && (pinFmt1 j != 1 || pinFmt0 j == 1) else getBits p0 4 4 == 0 && decide (p0 < 4096)) &&
      panOk j && (!jDukpt j || pinFmt0 j == 4)
    | _ => true)

/-- The types KEY0 and KEY1 may have: the row's, a BDK under DUKPT, a PIN key by its format (R269, R271). -/
def k0Types (r : OpRow) (j : Job) : List Nat := if jDukpt j then [1] else if isPin r.code then (if pinFmt0 j = 4 then [1] else [2, 3]) else r.k0
def k1Types (r : OpRow) (j : Job) : List Nat := if isPin r.code then (if pinFmt1 j = 4 then [1] else [2, 3]) else r.k1

/-- Check 5 on one key. -/
def chkKey (k : KeyRec) (types : List Nat) (use : Nat) : Nat :=
  if !types.contains k.typ then 0x0203
  else if use = 99 then (if k.exportable then 0 else 0x0206)
  else if getBit k.usage use then 0 else 0x0202

/-- Check 8: the algorithm's own rule for LENGTH. `k` is KEY0's record. -/
def chkLen (j : Job) (k : Option KeyRec) : Bool :=
  let n := jLen j
  let p384 : Bool := match k with | some k => k.typ == 9 || k.typ == 10 | none => false
  match jOp j with
  | 0x0201 | 0x0202 => jP0 j == 2 || n % 16 == 0
  | 0x0204 => decide (jP1 j < n)
  | 0x0205 | 0x0206 => n % 8 == 0
  | 0x0207 => decide (16 ≤ n) && decide (n ≤ 4096) && n % 8 == 0
  | 0x0208 | 0x0503 => decide (24 ≤ n) && decide (n ≤ 4104) && n % 8 == 0
  | 0x0303 | 0x0304 | 0x0305 | 0x0306 => !jPre j || n == digestLen (jP0 j)
  | 0x0307 => n == 32
  | 0x0308 => n == (if p384 then 97 else 65)
  | 0x0401 | 0x0402 => n == pinLen (pinFmt0 j)
  | 0x0501 => n % 32 == 0 && decide (n / 32 ≤ 64)
  | 0x0502 => n % 8 == 0 && decide (n / 8 ≤ 512)
  | 0x0505 => n == 8
  | 0x0506 => decide (16 ≤ n) && decide (n ≤ 9992)
  | 0x0507 => decide (16 ≤ n) && decide (n ≤ 256)
  | 0x0508 => decide (n ≤ 64)
  | _ => true

/-- Destination size where it is known before the source is read (R289). -/
def dstLen (j : Job) (k : Option KeyRec) : Nat :=
  let n := jLen j
  match jOp j with
  | 0x0101 => digestLen (jP0 j)
  | 0x0102 | 0x0104 | 0x0106 => jP1 j
  | 0x0201 | 0x0202 | 0x0205 | 0x0206 => n
  | 0x0203 => n + jP1 j
  | 0x0204 => n - jP1 j
  | 0x0207 => n + 8
  | 0x0208 => n - 8
  | 0x0301 | 0x0303 | 0x0305 => match k with | some k => sigLen k | none => 0
  | 0x0401 => pinLen (pinFmt1 j)
  | 0x0501 => n / 32 * 8
  | 0x0307 | 0x0308 | 0x0503 | 0x0504 | 0x0506 | 0x0508 => 8
  | _ => 0

/-- Check 10. -/
def chkAux (j : Job) (k : Option KeyRec) : Bool :=
  match jOp j with
  | 0x0103 | 0x0105 | 0x0107 => jAuxLen j == jP1 j
  | 0x0302 | 0x0304 | 0x0306 => match k with | some k => jAuxLen j == sigLen k | none => false
  | 0x0402 => jAuxLen j == pinLen (pinFmt1 j)
  | 0x0503 | 0x0504 | 0x0508 => jAuxLen j == 32
  | _ => true

/-- The buffers a descriptor binds: source, destination, AUX. -/
def jBuffers (r : OpRow) (j : Job) : List (Nat × Nat) :=
  [(jSrc j, jSrcBuf j)] ++ (if r.dst then [(jDst j, jDstBuf j)] else []) ++ (if r.aux then [(jAux j, jAuxLen j)] else [])
def bufsOverlap (x y : Nat × Nat) : Bool := decide (x.1 < y.1 + y.2) && decide (y.1 < x.1 + x.2) && decide (0 < x.2) && decide (0 < y.2)

/-- Check 12. -/
def chkOverlap (r : OpRow) (j : Job) : Bool :=
  let s := (jSrc j, jSrcBuf j)
  let t := (jDst j, jDstBuf j)
  let a := (jAux j, jAuxLen j)
  let same := decide (0x0201 ≤ jOp j) && decide (jOp j ≤ 0x0206) && jSrc j == jDst j
  (!r.dst || same || !bufsOverlap s t) && (!r.aux || !bufsOverlap s a) && (!r.dst || !r.aux || !bufsOverlap t a)

/-- Checks 1 to 12 of R290: the status and DETAIL of the first that fails, or the row and the records of its keys. -/
def checkJob (d : Dev) (b : Nat) (j : Job) : Except (Nat × Nat) (OpRow × List (Nat × KeyRec)) :=
  match opRow (jOp j) with
  | none => .error (0x0101, 0)
  | some r =>
    if !chkRsvd r j then .error (0x0102, 0)
    else if !chkParam j then .error (0x0107, 0)
    else
      let k0 := if r.k0 = [] then .ok [] else (findKey d b j.fn (jKey0 j)).map (fun k => [k])
      let k1 := if r.k1 = [] then .ok [] else (findKey d b j.fn (jKey1 j)).map (fun k => [k])
      match k0, k1 with
      | .error e, _ => .error (e, 0)
      | _, .error e => .error (e, 1)
      | .ok l0, .ok l1 =>
        let s0 := match l0 with | [k] => chkKey k.2 (k0Types r j) (if jDukpt j then 9 else r.u0) | _ => 0
        let s1 := match l1 with | [k] => chkKey k.2 (k1Types r j) r.u1 | _ => 0
        let k : Option KeyRec := l0.head?.map (fun k => k.2)
        if s0 ≠ 0 then .error (s0, 0)
        else if s1 ≠ 0 then .error (s1, 0)
        else if jDukpt j && decide (16 < popCount (beNat (sliceOf (jInline j) 40 4)) 32) then .error (0x0207, 0)
        else if jLen j = 0 ∧ r.zeroOk = false then .error (0x0104, 0)
        else if jSrcBuf j < jLen j then .error (0x0103, 0)
        else if !chkLen j k then .error (0x0105, 0)
        else if jDstBuf j < dstLen j k then .error (0x0106, 0)
        else if !chkAux j k then .error (0x0108, 0)
        else if (jBuffers r j).any (fun x => decide (2 ^ 57 < x.1 + x.2)) then .error (0x010A, 0)
        else if !chkOverlap r j then .error (0x0109, 0)
        else .ok (r, l0 ++ l1)

/-! ### Costs (R351), nJ -/

/-- Linear in modulus bits between the 2,048- and 4,096-bit rows. -/
def rsaLinear (lo hi bits : Nat) : Nat := lo + (hi - lo) * (bits - 2048) / 2048
def perMb (rate n : Nat) : Nat := rate * n / 1000000
def hashRate (halg : Nat) : Nat := match halg with | 0 => 333300 | 1 => 250000 | 2 => 250000 | 3 => 416700 | _ => 787400

/-- A descriptor's cost before the bench's scale. `src` are its source bytes, which only KEY_GEN's cost needs. -/
def baseCost (j : Job) (k : Option KeyRec) (src : List Byte) : Nat :=
  let n := jLen j + jAuxLen j
  let bits := match k with | some k => if jDukpt j then (if leAt (jInline j) 44 1 = 0 then 128 else 256) else k.bits | none => 0
  let typ := match k with | some k => k.typ | none => 0
  let gcm := if bits = 256 then perMb 166700 n else if bits = 128 then perMb 125000 n else 20000
  match jOp j with
  | 0x0101 | 0x0102 | 0x0103 => perMb (hashRate (jP0 j)) n
  | 0x0104 | 0x0105 => perMb 625000 n
  | 0x0106 | 0x0107 | 0x0205 | 0x0206 => perMb 1667000 n
  | 0x0201 | 0x0202 => if jP0 j = 1 then perMb 625000 n else if jP0 j = 2 then gcm else 20000
  | 0x0203 | 0x0204 => gcm
  | 0x0301 => 16670
  | 0x0302 => 33330
  | 0x0303 => if typ = 7 then 22220 else 55560
  | 0x0304 => if typ = 7 ∨ typ = 8 then 41670 else 105300
  | 0x0305 => rsaLinear 555600 3704000 bits
  | 0x0306 => 13330 * bits * bits / (2048 * 2048)
  | 0x0307 => 20000
  | 0x0308 => if typ = 7 then 20000 else 52630
  | 0x0401 | 0x0402 => 3333
  | 0x0501 =>
    let rsa := (List.range (jLen j / 32)).map (fun i => if leAt src (32 * i) 1 = 11 then rsaLinear 500000000 5333000000 (leAt src (32 * i + 2) 2) else 0)
    max 20000 (rsa.foldl (· + ·) 0)
  | _ => 20000

end Sys2Proof.Machine
end

