-- ==== Sys2Proof/Machine/BenchRun.lean ====
section
/-!
DEFINITION. What each bench operation computes (R269–R279, R289) and how a descriptor starts on an engine (R268, R285, R292).
-/
set_option linter.unusedVariables false

namespace Sys2Proof.Machine

open Host (Outcome)

def byte (n : Nat) : List Byte := leBytes 1 n
def okWith (out : List Byte) (d : Dev) : (Nat × List Byte) × Dev := ((0, out), d)
def fails (st : Nat) (d : Dev) : (Nat × List Byte) × Dev := ((st, []), d)
def verdict (ok : Bool) (d : Dev) : (Nat × List Byte) × Dev := if ok then okWith [] d else fails 0x0001 d

/-- The key an operation works with: KEY0's, or the working key DUKPT derives from it (R271). -/
def workKey (j : Job) (k : KeyRec) : List Byte :=
  if jDukpt j then
    let len := leAt (jInline j) 44 1
    padTo (if len = 0 then 16 else 32) (Config.std .dukpt [k.key, sliceOf (jInline j) 32 12, leBytes 2 (jOp j), byte len])
  else k.key

/-- HMAC over a hash (FIPS 198-1), cut to `n` bytes. -/
def hmacOf (halg : Nat) (key msg : List Byte) (n : Nat) : List Byte := (padTo (digestLen halg) (Config.std .hmac [byte halg, key, msg])).take n

/-- Counter-mode derivation (R278): blocks HMAC-SHA-256(K, [i] ‖ label ‖ 0 ‖ [L]), the first L bits. -/
def deriveKey (key label : List Byte) (bits : Nat) : List Byte :=
  ((List.range (ceilDiv bits 256)).flatMap (fun i => hmacOf 0 key (beBytes 4 (i + 1) ++ label ++ [0] ++ beBytes 4 bits) 32)).take (bits / 8)

/-- Create a record and answer its handle. -/
def newKey (b : Nat) (k : KeyRec) (d : Dev) : (Nat × List Byte) × Dev :=
  match createKey b k d with
  | (some h, d) => okWith (leBytes 8 h) d
  | (none, d) => fails 0x0204 d

/-- A SECRET key an agreement makes (R276). -/
def agreeKey (b f : Nat) (secret : List Byte) (d : Dev) : (Nat × List Byte) × Dev :=
  newKey b { gen := 0, typ := 14, exportable := false, bits := 8 * secret.length, usage := 2 ^ 10 + 2 ^ 4 + 2 ^ 5, rsaE := 0, label := List.replicate 16 0,
             ownClass := (fnOwner d b f).1, ownId := (fnOwner d b f).2, key := secret } d

/-- Key usage of a key block header (R272): usage bits; mode of use and exportability narrow it. Header places are ANSI X9.143's. -/
def blockUsage (x : List Byte) : Option (List Nat) :=
  let two := ((x.getD 5 0).toNat, (x.getD 6 0).toNat)
  match two with
  | (0x42, 0x30) => some [9]
  | (0x44, 0x30) => some [0, 1]
  | (0x4B, 0x30) => some [6, 7]
  | (0x4B, 0x31) => some [12]
  | (0x4D, 0x33) => some [4, 5]
  | (0x4D, 0x36) => some [4, 5]
  | (0x4D, 0x37) => some [4, 5]
  | (0x50, 0x30) => some [8]
  | _ => none
/-- Mode of use E, D, G or V keeps one direction (R272). -/
def narrowUsage (mode : Nat) (us : List Nat) : List Nat :=
  match mode with
  | 0x45 => us.filter (fun u => u != 1 && u != 7)
  | 0x44 => us.filter (fun u => u != 0 && u != 6)
  | 0x47 => us.filter (· != 5)
  | 0x56 => us.filter (· != 4)
  | _ => us
/-- The record a verified key block makes. -/
def blockRecord (d : Dev) (b f : Nat) (x key : List Byte) : Option KeyRec :=
  match blockUsage x with
  | none => none
  | some us =>
    let alg := (x.getD 7 0).toNat
    let typ := if alg = 0x41 then 1 else if alg = 0x48 then 4 else if key.length = 16 then 2 else 3
    some { gen := 0, typ := typ, exportable := (x.getD 11 0).toNat == 0x45, bits := 8 * key.length,
           usage := (narrowUsage (x.getD 8 0).toNat us).foldl (fun n u => n + 2 ^ u) 0, rsaE := 0, label := List.replicate 16 0,
           ownClass := (fnOwner d b f).1, ownId := (fnOwner d b f).2, key := key }

/-- KEY_GEN: one record per attribute record, all or nothing (R276, R279). -/
def genKeys (b f : Nat) (src : List Byte) (n : Nat) (d : Dev) : (Nat × List Byte) × Dev :=
  let recs := (List.range n).map (fun i => sliceOf src (32 * i) 32)
  if !recs.all (attrOk (fun t => !publicType t)) then fails 0x0107 d
  else
    let r := recs.foldl (fun r a =>
      match r with
      | (none, d) => (none, d)
      | (some hs, d) =>
        let seed := leBytes 64 (freeVal d)
        let bits := leAt a 2 2
        let raw := Config.std .keyGen [seed, a]
        let key := if symmetric (leAt a 0 1) then padTo (bits / 8) raw else raw
        match createKey b (recordFrom d b f a key) (drawn d) with
        | (some h, d) => (some (hs ++ leBytes 8 h), d)
        | (none, d) => (none, d)) (some ([] : List Byte), d)
    match r with
    | (some hs, d') => okWith hs d'
    | (none, _) => fails 0x0204 d

/-- What an operation answers: status (0 OK) and destination bytes, and the package with the keys it made (R269–R278). -/
def runOp (b : Nat) (j : Job) (ks : List KeyRec) (src aux : List Byte) (d : Dev) : (Nat × List Byte) × Dev :=
  let z : KeyRec := { gen := 0, typ := 0, exportable := false, bits := 0, usage := 0, rsaE := 0, label := [], ownClass := 0, ownId := 0, key := [] }
  let k := ks.getD 0 z
  let k1 := ks.getD 1 z
  let key := workKey j k
  let p0 := jP0 j
  let p1 := jP1 j
  let n := jLen j
  let iv := sliceOf (jInline j) 0 16
  let pan := sliceOf (jInline j) 0 11
  let rnd := leBytes 64 (freeVal d)
  let pre := byte (b2n (jPre j))
  match jOp j with
  | 0x0101 => okWith (padTo (digestLen p0) (Config.std .sha [byte p0, src])) d
  | 0x0102 => okWith (hmacOf p0 key src p1) d
  | 0x0103 => verdict (hmacOf p0 key src p1 == aux) d
  | 0x0104 => okWith ((padTo 16 (Config.std .cmac [key, src])).take p1) d
  | 0x0105 => verdict ((padTo 16 (Config.std .cmac [key, src])).take p1 == aux) d
  | 0x0106 => okWith ((padTo 8 (Config.std .mac3 [byte p0, key, src])).take p1) d
  | 0x0107 => verdict ((padTo 8 (Config.std .mac3 [byte p0, key, src])).take p1 == aux) d
  | 0x0201 => okWith (padTo n (Config.std .aesEnc [byte p0, iv, key, src])) d
  | 0x0202 => okWith (padTo n (Config.std .aesDec [byte p0, iv, key, src])) d
  | 0x0203 => okWith (padTo (n + p1) (Config.std .gcmEnc [byte p1, sliceOf iv 0 12, key, aux, src])) d
  | 0x0204 =>
    if Config.stdOk .gcmDec [byte p1, sliceOf iv 0 12, key, aux, src] then
      okWith (padTo (n - p1) (Config.std .gcmDec [byte p1, sliceOf iv 0 12, key, aux, src])) d
    else fails 0x0001 d
  | 0x0205 => okWith (padTo n (Config.std .tdesEnc [byte p0, sliceOf iv 0 8, key, src])) d
  | 0x0206 => okWith (padTo n (Config.std .tdesDec [byte p0, sliceOf iv 0 8, key, src])) d
  | 0x0207 => okWith (padTo (n + 8) (Config.std .kwWrap [key, src])) d
  | 0x0208 => if Config.stdOk .kwUnwrap [key, src] then okWith (padTo (n - 8) (Config.std .kwUnwrap [key, src])) d else fails 0x0001 d
  | 0x0301 => okWith (padTo 64 (Config.std .edSign [key, src])) d
  | 0x0302 => verdict (Config.stdOk .edVerify [key, src, aux]) d
  | 0x0303 => okWith (padTo (sigLen k) (Config.std .ecdsaSign [byte p0, pre, key, src, rnd])) (drawn d)
  | 0x0304 => verdict (Config.stdOk .ecdsaVerify [byte p0, pre, key, src, aux]) d
  | 0x0305 => okWith (padTo (sigLen k) (Config.std .rsaSign [byte p0, pre, leBytes 4 p1, key, src, rnd])) (drawn d)
  | 0x0306 => verdict (Config.stdOk .rsaVerify [byte p0, pre, leBytes 4 p1, key, src, aux]) d
  | 0x0307 =>
    let secret := padTo 32 (Config.std .x25519 [key, src])
    if allZero secret then fails 0x0001 d else agreeKey b j.fn secret d
  | 0x0308 =>
    if Config.stdOk .publicValid [byte k.typ, src] then agreeKey b j.fn (padTo (k.bits / 8) (Config.std .ecdh [byte k.typ, key, src])) d
    else fails 0x0209 d
  | 0x0401 =>
    if Config.stdOk .pinDecode [byte (pinFmt0 j), pan, key, src] then
      okWith (padTo (pinLen (pinFmt1 j)) (Config.std .pinEncode [byte (pinFmt1 j), pan, k1.key, Config.std .pinDecode [byte (pinFmt0 j), pan, key, src], rnd])) (drawn d)
    else fails 0x0003 d
  | 0x0402 =>
    if Config.stdOk .pinDecode [byte (pinFmt0 j), pan, key, src] && Config.stdOk .pinDecode [byte (pinFmt1 j), pan, k1.key, aux] then
      (if Config.std .pinDecode [byte (pinFmt0 j), pan, key, src] = Config.std .pinDecode [byte (pinFmt1 j), pan, k1.key, aux] then okWith [] d
       else fails 0x0002 d)
    else fails 0x0003 d
  | 0x0501 => genKeys b j.fn src (n / 32) d
  | 0x0503 =>
    if !attrOk (fun t => !publicType t) aux then fails 0x0107 d
    else if n - 8 ≠ privateLen (leAt aux 0 1) (leAt aux 2 2) then fails 0x0105 d
    else if !Config.stdOk .kwUnwrap [key, src] then fails 0x0001 d
    else
      let raw := padTo (n - 8) (Config.std .kwUnwrap [key, src])
      if Config.stdOk .keyValid [aux, raw] then newKey b (recordFrom d b j.fn aux raw) d else fails 0x0107 d
  | 0x0504 =>
    if !attrOk publicType aux then fails 0x0107 d
    else if n ≠ publicLen (leAt aux 0 1) (leAt aux 2 2) then fails 0x0105 d
    else if Config.stdOk .publicValid [byte (leAt aux 0 1), src] then newKey b (recordFrom d b j.fn aux src) d else fails 0x0209 d
  | 0x0505 =>
    (match findKey d b j.fn (leAt src 0 8) with
      | .error e => fails e d
      | .ok (_, q) =>
        if symmetric q.typ then fails 0x0203 d
        else
          let out := if publicType q.typ then q.key else Config.std .keyPublic [byte q.typ, q.key]
          let out := padTo (publicLen q.typ q.bits) out
          if jDstBuf j < out.length then fails 0x0106 d else okWith out d)
  | 0x0506 =>
    if !Config.stdOk .blockOpen [byte k.typ, key, src] then fails 0x0205 d
    else match blockRecord d b j.fn src (Config.std .blockOpen [byte k.typ, key, src]) with
      | some q => if sizeOk q.typ q.bits && q.usage != 0 then newKey b q d else fails 0x0205 d
      | none => fails 0x0205 d
  | 0x0507 =>
    let out := Config.std .blockMake [key, src, keyBytes k1, rnd]
    if jDstBuf j < out.length then fails 0x0106 d else okWith out (drawn d)
  | 0x0508 =>
    if attrOk derivable aux then newKey b (recordFrom d b j.fn aux (deriveKey key src (leAt aux 2 2))) d else fails 0x0107 d
  | _ => okWith [] d

/-- KEY_DESTROY: every handle is checked first, then all are dead (R279): the first bad position, or the records. -/
def destroyList (d : Dev) (b f : Nat) (src : List Byte) (n : Nat) : Except (Nat × Nat) (List Nat) :=
  (List.range n).foldl (fun r i =>
    match r with
    | .error e => .error e
    | .ok l => match findKey d b f (leAt src (8 * i) 8) with
      | .ok (x, _) => .ok (l ++ [x])
      | .error e => .error (e, i)) (.ok [])

/-! ### Starting a descriptor (R268, R285, R292) -/

def jobOf (d : Dev) (b id : Nat) : Option Job := (benchOf d b).jobs.find? (fun j => j.id == id)
def updJob (b id : Nat) (g : Job → Job) (d : Dev) : Dev :=
  updBench d b (fun x => { x with jobs := x.jobs.map (fun j => if j.id = id then g j else j) })
/-- A deferred descriptor goes behind those that became ready before it (R353). -/
def deferJob (b : Nat) (j : Job) (d : Dev) : Dev := updBench d b (fun x => { x with jobs := x.jobs.filter (fun k => k.id != j.id) ++ [j] })
def finishJob (b id : Nat) (r : JobRes) (d : Dev) : Dev := updJob b id (fun j => { j with res := some r }) d

/-- A descriptor may start: it is the first of its ring not started, and a FENCE finds the ring empty before it (R285). -/
def mayStart (d : Dev) (b : Nat) (j : Job) : Bool :=
  let before := (benchOf d b).jobs.filter (fun k => k.fn == j.fn && k.ring == j.ring && decide (k.id < j.id))
  !j.started && j.res == none && before.all (fun k => k.started || k.res != none) && (!jFence j || before == []) &&
  ((benchOf d b).state == 1 || (benchOf d b).state == 2)

/-- Engines of a class (R267). -/
def engineCount (cls : Nat) : Nat := match cls with | 1 => 6 | 2 => 8 | 3 => 4 | _ => 2
/-- An idle engine of a class, as the record's ENGINE byte. -/
def idleEngine (d : Dev) (b cls : Nat) : Option Nat :=
  ((List.range (engineCount cls)).map (fun i => cls * 32 + i)).find? (fun e =>
    !(benchOf d b).jobs.any (fun j => j.started && (match j.res with | some r => r.engine == e | none => false)))

/-- The engine class that runs a descriptor: KEY_GEN's by what it generates (R267). -/
def engineClass (r : OpRow) (j : Job) (src : List Byte) : Nat :=
  if r.code = 0x0501 then (if (List.range (jLen j / 32)).any (fun i => !symmetric (leAt src (32 * i) 1)) then 1 else 2) else r.eng

/-- Operations whose destination is checked whole before anything is made or written. -/
def wholeDst (code : Nat) : Bool := [0x0208, 0x0307, 0x0308, 0x0401, 0x0501, 0x0503, 0x0504, 0x0506, 0x0508].contains code

/-- A scratchpad error is corrected and counted (R300, R483). -/
def spadCorrected (b : Nat) (d : Dev) : Dev := corrected 5 b 0x9202 b 8 b none (countBench b 11 d)

/-- Run a started descriptor whose source and AUX have been read: how it ends, and the package after. -/
def perform (b id eng : Nat) (j : Job) (r : OpRow) (ks : List (Nat × KeyRec)) (src aux : List Byte) (d : Dev) : Dev :=
  if r.code = 0x0502 then
    match destroyList d b j.fn src (jLen j / 8) with
    | .error (st, i) => finishJob b id { status := st, detail := i, out := [], engine := eng } d
    | .ok l => finishJob b id { status := 0, detail := 0, out := [], engine := eng } (updJob b id (fun j => { j with keys := l }) (l.foldl (fun d i => dropKey b i d) d))
  else
    let chk := if wholeDst r.code then bufCheck b j.fn (jDst j) (dstLen j (ks.head?.map (fun k => k.2))) d else (none, d)
    match chk with
    | (some (st, off), d) => finishJob b id { status := st, detail := 2 * 2 ^ 56 + off, out := [], engine := eng } d
    | (none, d) =>
      let x := runOp b j (ks.map (fun k => k.2)) src aux d
      finishJob b id { status := x.1.1, detail := 0, out := x.1.2, engine := eng } x.2

/-- An operation row: the descriptor passes its checks and admission and runs on an engine. A failed check ends it with its status; without
admission a standard one is deferred and a spare one refused (R290, R292). -/
def benchOp (code b id : Nat) (obs : EngObs) (d : Dev) : Dev :=
  match jobOf d b id with
  | none => d
  | some j =>
    if jOp j ≠ code ∨ !mayStart d b j then d
    else match checkJob d b j with
      | .error (st, det) => finishJob b id { status := st, detail := det, out := [], engine := 0 } d
      | .ok (r, ks) =>
        let rd := bufRead b j.fn (jSrc j) (jLen j) d
        let peek := match rd.1 with | .ok x => x | .error _ => []
        let base := baseCost j (ks.head?.map (fun k => k.2)) (if code = 0x0501 then peek else [])
        let cls := engineClass r j peek
        match idleEngine d b cls with
        | none => d
        | some eng =>
          let adm := if j.admitted then (true, d) else chargeIn b (jClass j) (scaleCost d b base) d
          let d := adm.2
          if !adm.1 then
            if jClass j = 1 then
              (if j.deferred then d else countBench b 2 (deferJob b { j with deferred := true, base := base } d))
            else countBench b 3 (finishJob b id { status := 0x0401, detail := 0, out := [], engine := 0 } d)
          else
            let d := updJob b id (fun j => { j with started := true, startAt := d.now, admitted := true, base := base, keys := ks.map (fun k => k.1) }) d
            let d := ks.foldl (fun d k => loadKey b k.1 d) d
            match obs with
            | .fault =>
              finishJob b id { status := 0x0501, detail := 0, out := [], engine := eng }
                (mcWrite { bank := 0x9202, unitNo := b, severity := 4, source := 8, unit := b + 256 * eng } d)
            | .spadPoison off => finishJob b id { status := stPoison, detail := 2 ^ 56 + off % 2 ^ 56, out := [], engine := eng } d
            | _ =>
              let d := if obs = .spadCorrected then spadCorrected b d else d
              match bufRead b j.fn (jSrc j) (jLen j) d with
              | (.error (st, off), d) => finishJob b id { status := st, detail := 2 ^ 56 + off, out := [], engine := eng } d
              | (.ok src, d) =>
                match bufRead b j.fn (jAux j) (if r.aux then jAuxLen j else 0) d with
                | (.error (st, off), d) => finishJob b id { status := st, detail := 3 * 2 ^ 56 + off, out := [], engine := eng } d
                | (.ok aux, d) => perform b id eng j r ks src aux d

def execHash (b : BenchN) (id : Nat) (obs : EngObs) (s : State) : Outcome State Fault Refusal := onDev (benchOp 0x0101 b id obs) s
def execHmacGen (b : BenchN) (id : Nat) (obs : EngObs) (s : State) : Outcome State Fault Refusal := onDev (benchOp 0x0102 b id obs) s
def execHmacVerify (b : BenchN) (id : Nat) (obs : EngObs) (s : State) : Outcome State Fault Refusal := onDev (benchOp 0x0103 b id obs) s
def execCmacGen (b : BenchN) (id : Nat) (obs : EngObs) (s : State) : Outcome State Fault Refusal := onDev (benchOp 0x0104 b id obs) s
def execCmacVerify (b : BenchN) (id : Nat) (obs : EngObs) (s : State) : Outcome State Fault Refusal := onDev (benchOp 0x0105 b id obs) s
def execMac3Gen (b : BenchN) (id : Nat) (obs : EngObs) (s : State) : Outcome State Fault Refusal := onDev (benchOp 0x0106 b id obs) s
def execMac3Verify (b : BenchN) (id : Nat) (obs : EngObs) (s : State) : Outcome State Fault Refusal := onDev (benchOp 0x0107 b id obs) s
def execAesEnc (b : BenchN) (id : Nat) (obs : EngObs) (s : State) : Outcome State Fault Refusal := onDev (benchOp 0x0201 b id obs) s
def execAesDec (b : BenchN) (id : Nat) (obs : EngObs) (s : State) : Outcome State Fault Refusal := onDev (benchOp 0x0202 b id obs) s
def execGcmEnc (b : BenchN) (id : Nat) (obs : EngObs) (s : State) : Outcome State Fault Refusal := onDev (benchOp 0x0203 b id obs) s
def execGcmDec (b : BenchN) (id : Nat) (obs : EngObs) (s : State) : Outcome State Fault Refusal := onDev (benchOp 0x0204 b id obs) s
def execTdesEnc (b : BenchN) (id : Nat) (obs : EngObs) (s : State) : Outcome State Fault Refusal := onDev (benchOp 0x0205 b id obs) s
def execTdesDec (b : BenchN) (id : Nat) (obs : EngObs) (s : State) : Outcome State Fault Refusal := onDev (benchOp 0x0206 b id obs) s
def execKwWrap (b : BenchN) (id : Nat) (obs : EngObs) (s : State) : Outcome State Fault Refusal := onDev (benchOp 0x0207 b id obs) s
def execKwUnwrap (b : BenchN) (id : Nat) (obs : EngObs) (s : State) : Outcome State Fault Refusal := onDev (benchOp 0x0208 b id obs) s
def execEdSign (b : BenchN) (id : Nat) (obs : EngObs) (s : State) : Outcome State Fault Refusal := onDev (benchOp 0x0301 b id obs) s
def execEdVerify (b : BenchN) (id : Nat) (obs : EngObs) (s : State) : Outcome State Fault Refusal := onDev (benchOp 0x0302 b id obs) s
def execEcdsaSign (b : BenchN) (id : Nat) (obs : EngObs) (s : State) : Outcome State Fault Refusal := onDev (benchOp 0x0303 b id obs) s
def execEcdsaVerify (b : BenchN) (id : Nat) (obs : EngObs) (s : State) : Outcome State Fault Refusal := onDev (benchOp 0x0304 b id obs) s
def execRsaSign (b : BenchN) (id : Nat) (obs : EngObs) (s : State) : Outcome State Fault Refusal := onDev (benchOp 0x0305 b id obs) s
def execRsaVerify (b : BenchN) (id : Nat) (obs : EngObs) (s : State) : Outcome State Fault Refusal := onDev (benchOp 0x0306 b id obs) s
def execX25519 (b : BenchN) (id : Nat) (obs : EngObs) (s : State) : Outcome State Fault Refusal := onDev (benchOp 0x0307 b id obs) s
def execEcdh (b : BenchN) (id : Nat) (obs : EngObs) (s : State) : Outcome State Fault Refusal := onDev (benchOp 0x0308 b id obs) s
def execPinTranslate (b : BenchN) (id : Nat) (obs : EngObs) (s : State) : Outcome State Fault Refusal := onDev (benchOp 0x0401 b id obs) s
def execPinVerify (b : BenchN) (id : Nat) (obs : EngObs) (s : State) : Outcome State Fault Refusal := onDev (benchOp 0x0402 b id obs) s
def execKeyGen (b : BenchN) (id : Nat) (obs : EngObs) (s : State) : Outcome State Fault Refusal := onDev (benchOp 0x0501 b id obs) s
def execKeyDestroy (b : BenchN) (id : Nat) (obs : EngObs) (s : State) : Outcome State Fault Refusal := onDev (benchOp 0x0502 b id obs) s
def execKeyImportKw (b : BenchN) (id : Nat) (obs : EngObs) (s : State) : Outcome State Fault Refusal := onDev (benchOp 0x0503 b id obs) s
def execKeyImportPub (b : BenchN) (id : Nat) (obs : EngObs) (s : State) : Outcome State Fault Refusal := onDev (benchOp 0x0504 b id obs) s
def execKeyExportPub (b : BenchN) (id : Nat) (obs : EngObs) (s : State) : Outcome State Fault Refusal := onDev (benchOp 0x0505 b id obs) s
def execKeyImportBlock (b : BenchN) (id : Nat) (obs : EngObs) (s : State) : Outcome State Fault Refusal := onDev (benchOp 0x0506 b id obs) s
def execKeyExportBlock (b : BenchN) (id : Nat) (obs : EngObs) (s : State) : Outcome State Fault Refusal := onDev (benchOp 0x0507 b id obs) s
def execKeyDerive (b : BenchN) (id : Nat) (obs : EngObs) (s : State) : Outcome State Fault Refusal := onDev (benchOp 0x0508 b id obs) s

end Sys2Proof.Machine
end

