-- ==== Sys2Proof/Machine/Gauge.lean ====
section
/-!
DEFINITION. The Gauge (R430–R450): runs, slots and tags, what it counts, intervals and records, its ring and its export window.
-/
set_option linter.unusedVariables false

namespace Sys2Proof.Machine

open Host (Outcome)

def updGauge (d : Dev) (f : GaugeSt → GaugeSt) : Dev := { d with gauge := f d.gauge }
/-- The Gauge runs: VGAUGE is present and GAUGE_RST_N high (R20, R431). -/
def gaugePresent (d : Dev) : Bool := d.pins.vgauge && !d.pins.gaugeRst

/-! ### Intervals (R439) -/

/-- Open an interval or the bring-up record now. -/
def gaugeOpen (kind kerf : Nat) (d : Dev) : Dev :=
  updGauge d (fun g => { g with
    openKind := kind, kerfFirst := kerf, timeStart := d.now, verifySeen := g.verifyOn, holdSeen := d.holdover, dom := [], tenants := [] })

/-- The package body (R442). -/
def packageBody (g : GaugeSt) : List Byte :=
  let e (k : Nat) : Nat := tabGet 0 g.dom k
  let own := (List.range 21).map e
  leBytes 8 (own.foldl (· + ·) 0) ++ own.flatMap (leBytes 8) ++ (List.range 5).flatMap (fun i => leBytes 8 (e (21 + i)))
/-- The tenant body (R442). -/
def tenantBody (t : Tenant) : List Byte :=
  leBytes 8 t.core ++ leBytes 8 t.bench ++ leBytes 8 t.slots ++ leBytes 8 0 ++
  (List.range 32).flatMap (fun i => leBytes 4 (min (tabGet 0 t.ops i) 0xFFFFFFFF)) ++ (List.range 4).flatMap (fun b => leBytes 8 (tabGet 0 t.bytes b))

/-- Bytes 0x000–0x1BF of a record (R441). -/
def recordHead (d : Dev) (kind tag seq kerfLast : Nat) (part : Bool) (body : List Byte) : List Byte :=
  let g := d.gauge
  leBytes 2 1 ++ leBytes 1 kind ++ leBytes 1 (packFields [(b2n part, 0, 1), (b2n g.verifySeen, 1, 1), (b2n g.gap, 2, 1), (b2n g.holdSeen, 3, 1)]) ++
  leBytes 2 tag ++ leBytes 1 d.fuses.gaugeSeal ++ leBytes 1 d.fuses.gaugeRom ++ leBytes 8 g.runId ++ leBytes 8 seq ++ leBytes 4 g.boots ++
  leBytes 4 g.interval ++ leBytes 8 g.kerfFirst ++ leBytes 8 kerfLast ++ leBytes 8 g.timeStart ++ leBytes 8 d.now ++
  padTo 64 (tabGet [] d.fuses.gaugeRomId d.fuses.gaugeRom) ++ padTo 16 d.fuses.gaugeCalib ++ padTo 304 body

/-- A tag has a tenant record: hart slots or operations (R440). -/
def tenantSeen (t : Tenant) : Bool := t.slots != 0 || t.ops.any (fun o => o.2 != 0)

/-- Close what is open (R439, R440): one package record, then the tenant records by rising tag; the bring-up record stands alone. -/
def gaugeClose (part : Bool) (kerfLast : Nat) (d : Dev) : Dev :=
  let g := d.gauge
  let tens := if g.openKind = 1 then g.tenants.filter (fun t => tenantSeen t.2) else []
  let recs := recordHead d g.openKind 0 g.seq kerfLast part (packageBody g) ::
    (tens.zip (List.range tens.length)).map (fun t => recordHead d 2 t.1.1 (g.seq + 1 + t.2) kerfLast part (tenantBody t.1.2))
  if g.openKind = 0 then d
  else updGauge d (fun g => { g with
    closing := g.closing ++ recs, seq := g.seq + recs.length, gap := false, openKind := 0, dom := [], tenants := [] })

/-- The records of a close are signed, and become visible (R440, R445). -/
def gaugeSign (d : Dev) : Dev :=
  d.gauge.closing.foldl (fun d r =>
    let n := leAt r 0x10 8
    updGauge d (fun g => { g with
      ring := tabSet [] g.ring (n % 16384) (r ++ signWith keyGauge r), signed := n + 1, closing := g.closing.drop 1 })) d
def execGaugeRecordsSigned (s : State) : Outcome State Fault Refusal := onDev gaugeSign s

/-! ### Runs (R431) -/

/-- VGAUGE rises: a new run; what is measured before the first cut goes to the bring-up record. -/
def gaugeRunStart (d : Dev) : Dev :=
  if d.pins.vgauge then d
  else
    let d := { d with pins := { d.pins with vgauge := true } }
    let d := drawn (updGauge d (fun g => { gaugeInit with runId := freeVal d % 2 ^ 64, lost := g.lost }))
    if d.boot.phase = .released then d else gaugeOpen 3 0 d
def execGaugeRunStart (s : State) : Outcome State Fault Refusal := onDev gaugeRunStart s
/-- VGAUGE is lost: the run ends. Where the enable reads 1 that is settled at the next kerf (R450). -/
def gaugeRunEnd (d : Dev) : Dev :=
  { d with pins := { d.pins with vgauge := false }, gauge := { gaugeInit with lost := d.gauge.lost || ent d 0x2040 1 == 1 } }
def execGaugeRunEnd (s : State) : Outcome State Fault Refusal := onDev gaugeRunEnd s
/-- GAUGE_RST_N falls or rises. Where it falls in a run the open interval is lost, and the next record carries GAP; while it is low the Gauge reads as
absent (R20). -/
def gaugeRestart (low : Bool) (d : Dev) : Dev :=
  let d := if low && gaugePresent d then
      updGauge d (fun g => { g with openKind := 0, gap := g.gap || g.openKind != 0, dom := [], tenants := [], samples := [], hartTag := [] })
    else d
  { d with pins := { d.pins with gaugeRst := low } }
def execGaugeReset (low : Bool) (s : State) : Outcome State Fault Refusal := onDev (gaugeRestart low) s

/-- A package or warm reset (R439): the open interval closes at the kerf that opened the running epoch, and the bring-up record opens. -/
def gaugeOnReset (d : Dev) : Dev :=
  let d := updGauge d (fun g => { g with lost := false })
  if gaugePresent d then
    let d := if d.gauge.openKind = 1 then gaugeClose true d.kerf.counter d else d
    let d := updGauge d (fun g => { g with boots := g.boots + 1 })
    if d.gauge.openKind = 3 then d else gaugeOpen 3 0 d
  else d

/-! ### Slots and samples (R432–R435) -/

def addDom (k n : Nat) (d : Dev) : Dev := updGauge d (fun g => { g with dom := tabUpd 0 g.dom k (· + n) })
def updTenant (tag : Nat) (f : Tenant → Tenant) (d : Dev) : Dev := updGauge d (fun g => { g with tenants := tabUpd tenantInit g.tenants tag f })

/-- The samples of a bench in the slot: tag and count. -/
def benchSamples (g : GaugeSt) (b : Nat) : List (Nat × Nat) := (g.samples.filter (fun e => e.1 / 4096 == b)).map (fun e => (e.1 % 4096, e.2))

/-- A bench's slot energy is divided in proportion to the samples (each share rounded down, log entry 17), or goes unattributed. -/
def benchSlot (b e : Nat) (d : Dev) : Dev :=
  let ss := benchSamples d.gauge b
  let n := ss.foldl (fun n x => n + x.2) 0
  let d := addDom (12 + b) e d
  if n = 0 then addDom (21 + b) e d
  else ss.foldl (fun d x => updTenant x.1 (fun t => { t with bench := t.bench + e * x.2 / n }) d) d

/-- Harts that are present: a core of the ordering code and of the die's core map. -/
def gaugeHart (d : Dev) (h : Nat) : Bool := hartPresent d h

/-- A slot ends: what each domain drew goes to the tag sampled at its start, and the next slot's tags are sampled. -/
def gaugeSlot (charges : List Nat) (ref : Nat) (d : Dev) : Dev :=
  if gaugePresent d then
    let e (a : Nat) : Nat := charges.getD a 0
    let d :=
      if d.gauge.openKind = 0 then d
      else
        let d := (List.range 216).foldl (fun d h =>
          let d := addDom (h / 18) (e h) d
          if gaugeHart d h then updTenant (tabGet 0 d.gauge.hartTag h) (fun t => { t with core := t.core + e h, slots := t.slots + 1 }) d else d) d
        let d := (List.range 4).foldl (fun d b => benchSlot b (e (216 + b)) d) d
        let d := (List.range 5).foldl (fun d k => addDom (16 + k) (e (220 + k)) d) d
        addDom 25 (if d.gauge.verifyOn then ref else 0) d
    updGauge d (fun g => { g with
      hartTag := (List.range 216).foldl (fun t h => tabSet 0 t h ((hartOf d h).htenant % 4096)) [],
      samples := [], holdSeen := g.holdSeen || d.holdover })
  else d
def execGaugeSlot (charges : List Nat) (ref : Nat) (s : State) : Outcome State Fault Refusal := onDev (gaugeSlot charges ref) s

/-- The functions of a bench whose descriptors occupy engines or whose Feed channels run. -/
def activeFns (d : Dev) (b : Nat) : List Nat :=
  nubNat (((benchOf d b).jobs.filter (fun j => j.started)).map (fun j => j.fn) ++
    ((List.range 16).filter (fun c => (feedOf d b c).state == 1)).map (fun c => tabGet 0 (benchOf d b).chanOwner c))
/-- The 1 µs sample of the functions' tags. -/
def gaugeSample (d : Dev) : Dev :=
  if gaugePresent d then
    (List.range 4).foldl (fun d b =>
      (nubNat ((activeFns d b).map (fun f => (fnOf d b f).tenant % 4096))).foldl (fun d t =>
        updGauge d (fun g => { g with samples := tabUpd 0 g.samples (b * 4096 + t) (· + 1) })) d) d
  else d
def execGaugeTagSample (s : State) : Outcome State Fault Refusal := onDev gaugeSample s

/-! ### Operations (R436) -/

/-- The class of an operation that an engine started, by opcode and status. -/
def gaugeClass (op st : Nat) : Nat :=
  let ok := st == 0
  let bad := st == 1
  if (op = 0x0301 ∨ op = 0x0303 ∨ op = 0x0305) ∧ ok then 0
  else if (op = 0x0302 ∨ op = 0x0304 ∨ op = 0x0306) ∧ (ok ∨ bad) then 1
  else if (op = 0x0307 ∨ op = 0x0308 ∨ op = 0x0501) ∧ (ok ∨ bad) then 2
  else if (op = 0x0401 ∨ op = 0x0402) ∧ (ok ∨ st = 2 ∨ st = 3) then 3
  else if (0x0201 ≤ op ∧ op ≤ 0x0208) ∧ (ok ∨ bad) then 4
  else if (0x0101 ≤ op ∧ op ≤ 0x0107) ∧ (ok ∨ bad) then 5
  else if (0x0502 ≤ op ∧ op ≤ 0x0508) ∧ (ok ∨ bad ∨ st = 0x0205 ∨ st = 0x0209) then 6
  else 7

/-- A completion record is written: the Gauge counts the descriptor for its function's tag. -/
def gaugeCount (b : Nat) (j : Job) (st : Nat) (d : Dev) : Dev :=
  if gaugePresent d && d.gauge.openKind == 1 && j.started then
    let c := gaugeClass (jOp j) st
    let n := if c = 4 ∨ c = 5 then jLen j + jAuxLen j else 0
    updTenant ((fnOf d b j.fn).tenant % 4096) (fun t => { t with ops := tabUpd 0 t.ops (b * 8 + c) (· + 1), bytes := tabUpd 0 t.bytes b (· + n) }) d
  else d

/-! ### The kerf (R438, R439, R443) -/

/-- Reason of an interval the Gauge does not apply: 0 none, INTERVAL_NOT_WHOLE_KERFS or INTERVAL_RANGE. -/
def intervalReason (ms per : Nat) : Nat :=
  if ms < 1000 ∨ 60000 < ms then 0x0A03 else if per = 0 ∨ ms * 1000 % per ≠ 0 then 0x0A01 else 0

/-- A Gauge that lost VGAUGE while its enable read 1: the enable reads 0 from this kerf, with GAUGE_ABSENT and AT_KERF (R450). -/
def gaugeLost (d : Dev) : Dev :=
  if d.gauge.lost then
    updDry (setCurNat (updGauge d (fun g => { g with lost := false })) 0x2040 1 0) 0x2040 3
      (fun x => { x with reason := 0x0A02, index := 0x2040, sub := 1, atKerf := true, pend := false })
  else d

/-- Kerf step 5. -/
def gaugeKerf (d : Dev) : Dev :=
  let d := gaugeLost d
  if gaugePresent d then
    let g := d.gauge
    let per := ent d 0x2000 1
    let ms := ent d 0x2040 2
    let en := ent d 0x2040 1 == 1
    let bad := intervalReason ms per
    let d := if bad = 0 then d else updDry d 0x2040 3 (fun x => { x with reason := bad, index := 0x2040, sub := 2, atKerf := true, pend := false })
    let newMs := if bad = 0 then ms else g.interval
    let changed := decide (newMs ≠ g.interval) || decide (per ≠ g.period) || (en != g.enabled)
    let due := decide (g.interval * 1000 / max 1 g.period ≤ d.kerf.counter - g.kerfFirst)
    let d :=
      if g.openKind = 3 then gaugeClose false d.kerf.counter d
      else if g.openKind = 1 then (if due then gaugeClose false d.kerf.counter d else if changed then gaugeClose true d.kerf.counter d else d)
      else d
    let d := updGauge d (fun g => { g with enabled := en, interval := newMs, period := per, verifyOn := d.pins.gaugeVerify })
    if d.gauge.openKind = 0 && en then gaugeOpen 1 d.kerf.counter d
    else updGauge d (fun g => { g with verifySeen := g.verifySeen || g.verifyOn })
  else d

/-! ### Seal and calibration (R444) -/

/-- GAUGE_CAL through the Gauge's JTAG wrapper: while PKG_RESET_N is low and GAUGE_VERIFY high, a package that verifies blows a seal fuse
and then changes calibration or ROM selection; with all 64 blown it is refused. -/
def gaugeCal (verify : Bool) (pkg : List Byte) (calib : Option (List Byte)) (rom : Option (Fin 4)) (d : Dev) : Dev :=
  let d := { d with pins := { d.pins with gaugeVerify := verify } }
  if gaugePresent d && d.pins.pkgReset && d.pins.gaugeVerify && Config.stdOk .calVerify [pkg] then
    if 64 ≤ d.fuses.gaugeSeal then emit (.jtag 13 0x0A04) d
    else { d with fuses := { d.fuses with
      gaugeSeal := d.fuses.gaugeSeal + 1,
      gaugeCalib := calib.getD d.fuses.gaugeCalib,
      gaugeRom := (rom.map (fun r => r.val)).getD d.fuses.gaugeRom } }
  else d
def execGaugeCal (verify : Bool) (pkg : List Byte) (calib : Option (List Byte)) (rom : Option (Fin 4)) (s : State) : Outcome State Fault Refusal :=
  onDev (gaugeCal verify pkg calib rom) s

/-! ### Reading it (R446, R448, R449) -/

def newestSeq (d : Dev) : Nat := d.gauge.signed - 1
def oldestSeq (d : Dev) : Nat := d.gauge.signed - 16384
/-- GAUGE_STATE. -/
def gaugeState (d : Dev) : Nat :=
  if gaugePresent d then
    packFields [(d.fuses.gaugeSeal, 24, 8), (d.fuses.gaugeRom, 16, 2), (b2n d.gauge.verifyOn, 4, 1), (b2n d.gauge.gap, 3, 1), (if d.gauge.enabled then 2 else 1, 0, 3)]
  else 0
/-- A byte of the ring. -/
def ringByte (d : Dev) (off : Nat) : Byte := (tabGet [] d.gauge.ring (off / 512)).getD (off % 512) 0
/-- A byte of the export window. -/
def windowByte (d : Dev) (off : Nat) : Byte :=
  if gaugePresent d then
    (if off < 0x20 then (leBytes 8 d.gauge.runId ++ leBytes 8 (newestSeq d) ++ leBytes 8 (oldestSeq d) ++ leBytes 8 (gaugeState d)).getD off 0
     else if off < 0x1000 then 0 else ringByte d (off - 0x1000))
  else 0
def gaugeBase : Nat := 0x3FF0_0100_0000
/-- An uncached load of the window. -/
def windowRead (d : Dev) (addr size : Nat) : Nat := leNat ((List.range size).map (fun i => windowByte d (addr + i - gaugeBase)))
/-- A write there is ignored and counted. -/
def execGaugeWindowWrite (addr : Nat) (v : Word) (s : State) : Outcome State Fault Refusal :=
  onDev (fun d => if inGaugeWindow addr then countPkg pkgGaugeWrite d else d) s

end Sys2Proof.Machine
end

