-- ==== Sys2Proof/Machine/Rings.lean ====
section
/-!
DEFINITION. Rings (R280–R286, R293–R295, R339): doorbells, ring enable, fetch by deficit round robin, completion records and their interrupts.
-/
set_option linter.unusedVariables false

namespace Sys2Proof.Machine

open Host (Outcome)

/-- The function exists: the PF, or a VF that is enabled (R318). -/
def fnExists (d : Dev) (b f : Nat) : Bool := decide (f ≤ (benchOf d b).vfs)

/-- A hart's write to a function's BAR0: served, or ignored and counted (R325). -/
def barWrite (h b f : Nat) (act : Dev → Dev) (d : Dev) : Dev :=
  if !fnExists d b f then d
  else if hartServed d b f h then act d
  else countPkg pkgFnDenied d

/-- A write to a ring register: a ring at or above RINGS ignores it (R319). -/
def ringWrite (h b f r : Nat) (g : Ring → Ring) (d : Dev) : Dev :=
  barWrite h b f (fun d => if r < (fnOf d b f).rings then updRing b f r g d else d) d

/-- Descriptors of a ring, and of a function, in flight. -/
def ringFlight (d : Dev) (b f r : Nat) : Nat := ((benchOf d b).jobs.filter (fun j => j.fn == f && j.ring == r)).length
def fnFlight (d : Dev) (b f : Nat) : Nat := ((benchOf d b).jobs.filter (fun j => j.fn == f)).length

/-- The ring is enabled and fetches (RING_STATUS.ACTIVE). -/
def ringActive (r : Ring) : Bool := r.enable && !r.stopping && r.cause == 0

/-- SQ_TAIL: the doorbell; an index at or above the ring size stops a running ring with CAUSE 2 (R283). -/
def sqTailWrite (v : Nat) (r : Ring) : Ring :=
  if ringActive r && decide (2 ^ r.sqLog2 ≤ v % 2 ^ 32) then { r with cause := 2 } else { r with sqTail := v % 2 ^ 32 }
def execSqTailWrite (h : HartN) (b : BenchN) (f : FnN) (r : RingN) (v : Nat) (s : State) : Outcome State Fault Refusal :=
  onDev (ringWrite h b f r (sqTailWrite v)) s
def execCqHeadWrite (h : HartN) (b : BenchN) (f : FnN) (r : RingN) (v : Nat) (s : State) : Outcome State Fault Refusal :=
  onDev (ringWrite h b f r (fun x => { x with cqHead := v % 2 ^ 32 })) s

/-- RING_CFG's fields that a write sets while ENABLE reads 0, and IRQ_HOLDOFF always (R281). -/
def cfgWrite (cfg : Nat) (r : Ring) : Ring :=
  let r := { r with holdoff := getBits cfg 24 8 }
  if r.enable then r else { r with cqLog2 := getBits cfg 16 5, sqLog2 := getBits cfg 8 5 }
def log2Ok (n : Nat) : Bool := decide (6 ≤ n) && decide (n ≤ 16)
/-- RING_ENABLE: indexes 0, phase 1, and the ring starts unless a LOG2 field is out of range (R281). -/
def ringEnable (cfg : Nat) (r : Ring) : Ring :=
  let x := cfgWrite cfg r
  if r.enable then x
  else { x with enable := true, stopping := false, sqTail := 0, sqHead := 0, cqHead := 0, cqTail := 0, phase := true, dropped := 0,
                cause := if log2Ok x.sqLog2 && log2Ok x.cqLog2 then 0 else 1 }
def execRingEnable (h : HartN) (b : BenchN) (f : FnN) (r : RingN) (cfg : Nat) (s : State) : Outcome State Fault Refusal :=
  onDev (ringWrite h b f r (ringEnable cfg)) s
/-- RING_DISABLE: the fetch stops at once; ENABLE clears with the last record (R281). -/
def ringDisable (h b f r cfg : Nat) (d : Dev) : Dev :=
  let idle := ringFlight d b f r == 0
  ringWrite h b f r (fun x =>
    let x := cfgWrite cfg x
    if x.enable then (if idle then { x with enable := false, stopping := false } else { x with stopping := true }) else x) d
def execRingDisable (h : HartN) (b : BenchN) (f : FnN) (r : RingN) (cfg : Nat) (s : State) : Outcome State Fault Refusal :=
  onDev (ringDisable h b f r cfg) s

/-! ### Fetch (R283, R284, R339) -/

/-- The completion ring has a slot for every descriptor of the ring in flight and one more (R284). -/
def cqRoom (d : Dev) (b f r : Nat) : Bool :=
  let x := ringOf d b f r
  let size := 2 ^ x.cqLog2
  let used := (x.cqTail + size - x.cqHead % size) % size
  decide (ringFlight d b f r + used + 1 ≤ size - 1)

/-- The ring has a posted descriptor. -/
def posted (x : Ring) : Bool := ringActive x && x.sqHead != x.sqTail
/-- A ring whose posted descriptor may be fetched. -/
def ringReady (d : Dev) (b f r : Nat) : Bool := posted (ringOf d b f r) && cqRoom d b f r

/-- A function that a round does not pass over (R339). -/
def fnReady (d : Dev) (b f : Nat) : Bool :=
  let x := fnOf d b f
  x.qstate == 0 && !x.flrHeld && !x.revoked && decide (fnFlight d b f < x.cap) && (List.range 16).any (fun r => ringReady d b f r)

/-- Functions that have a ring listed. -/
def ringFns (d : Dev) (b : Nat) : List Nat := nubNat ((benchOf d b).rings.map (fun e => e.1 / 16))

/-- The function whose turn it is, its fetches left, and its next ring. -/
def pickFetch (d : Dev) (b : Nat) : Option (Nat × Nat × Nat) :=
  let x := benchOf d b
  let fs := (ringFns d b).filter (fnReady d b)
  let pick := if 0 < x.rrLeft ∧ fs.contains x.rrFn then some (x.rrFn, x.rrLeft)
    else ((fs.find? (fun f => decide (x.rrFn < f))).or fs.head?).map (fun f => (f, max 1 (fnOf d b f).weight))
  match pick with
  | none => none
  | some (f, left) =>
    let rs := (List.range 16).filter (fun r => ringReady d b f r)
    ((rs.find? (fun r => decide ((fnOf d b f).nextRing ≤ r))).or rs.head?).map (fun r => (f, left, r))

/-- The package is the STANDBY of a pair: its benches fetch nothing (R407, R427). -/
def standbyOf (d : Dev) : Bool := d.mirror.role == 2 && d.mirror.phase != 0

/-- The descriptor cache takes a copy of a line that memory answers: BPRES records it, and the oldest of 256 leaves (R171, R189). A line that a die may
own, that the atomic unit holds or that has a request open is read and not kept (R186). -/
def descKeep (b line : Nat) (x : Line) (d : Dev) : Dev :=
  let keep (pres bpres : Nat) (d : Dev) : Dev :=
    let d := putDir line .s 0 pres (setBit bpres b true) d
    let d := match (benchOf d b).desc[255]? with | some old => dropBench b old.1 d | none => d
    updBench d b (fun y => { y with desc := ((line, x) :: y.desc).take 256 })
  if lineOpen d line then d
  else match dirOf d line with
    | some e => if e.st = .s then keep e.pres e.bpres d else d
    | none => if (wayFor (sliceOf_ d (homeSlice d (line * 64))) line).isSome then keep 0 0 d else d

/-- Read a descriptor through the descriptor cache (R283): its 128 bytes are two lines of one page. -/
def descRead (b f va : Nat) (d : Dev) : Except Nat (List Byte × Nat) × Dev :=
  match btuLookup b f va false d with
  | (.error s, d) => (.error s, d)
  | (.ok e, d) =>
    let pa := e.pa + (va - e.va)
    if !isMain d pa then (.error stBus, d)
    else
      let r := [lineOf pa, lineOf pa + 1].foldl (fun (r : Option (List Byte) × Dev) l =>
        match r.1, (benchOf r.2 b).desc.find? (fun c => c.1 == l) with
        | some acc, some c => (some (acc ++ lineBytes c.2), r.2)
        | some acc, none =>
          let x := cohRead r.2 l
          if x.2 then (none, r.2) else (some (acc ++ lineBytes x.1), descKeep b l x.1 r.2)
        | none, _ => r) (some [], d)
      match r.1 with
      | some bytes => (.ok (bytes, pa), r.2)
      | none => (.error stPoison, r.2)

/-- DESCRIPTOR_FETCH: the descriptor is copied into the bench and SQ_HEAD advances; a read that faults stops the ring (R283, R325). -/
def fetch (b : Nat) (d : Dev) : Dev :=
  let x := benchOf d b
  if !(x.state == 1 || x.state == 3) || standbyOf d then d
  else if 4096 ≤ x.jobs.length then countBench b 5 d
  else match pickFetch d b with
    | none => if x.rings.any (fun e => posted e.2 && !cqRoom d b (e.1 / 16) (e.1 % 16)) then countBench b 6 d else d
    | some (f, left, r) =>
      let ring := ringOf d b f r
      let va := ring.sqBase + ring.sqHead * 128
      let rd := descRead b f va d
      let d := rd.2
      let d := updFn b f (fun y => { y with nextRing := (r + 1) % 16 }) (updBench d b (fun x => { x with rrFn := f, rrLeft := left - 1 }))
      match rd.1 with
      | .ok (bytes, pa) =>
        if !ringPageOk d b f pa then updRing b f r (fun y => { y with cause := 3 }) d
        else
          let j : Job :=
            { id := x.nextId, fn := f, ring := r, slot := ring.sqHead, bytes := bytes, started := false, admitted := false,
              deferred := false, waited := 0, startAt := 0, base := 0, keys := [], res := none }
          let d := updBench d b (fun x => { x with jobs := x.jobs ++ [j], nextId := x.nextId + 1 })
          countBench b 0 (updRing b f r (fun y => { y with sqHead := (y.sqHead + 1) % 2 ^ y.sqLog2 }) d)
      | .error _ => updRing b f r (fun y => { y with cause := 3 }) d
def execDescriptorFetch (b : BenchN) (s : State) : Outcome State Fault Refusal := onDev (fetch b) s

/-! ### Completion (R285, R286, R293–R295) -/

/-- The 32 bytes of a completion record (R293). -/
def recordOf (j : Job) (r : JobRes) (rlen phase kerf : Nat) : List Byte :=
  leBytes 4 (jobAt j 4 4) ++ leBytes 2 r.status ++ leBytes 2 phase ++ leBytes 4 rlen ++ leBytes 2 j.slot ++ leBytes 1 (min 255 j.waited) ++
  leBytes 1 r.engine ++ leBytes 8 r.detail ++ leBytes 8 kerf

/-- Write the outputs: the ending the record reports. A whole-destination operation writes all or nothing, and GCM_DEC zeroes what it has
written when a write is refused (R295). -/
def writeOut (b : Nat) (j : Job) (r : JobRes) (d : Dev) : JobRes × Dev :=
  if r.status ≠ 0 then (r, d)
  else
    let pre := if wholeDst (jOp j) then bufCheck b j.fn (jDst j) r.out.length d else (none, d)
    match pre with
    | (some (st, off), d) => ({ r with status := st, detail := 2 * 2 ^ 56 + off }, d)
    | (none, d) =>
      match bufWrite b j.fn (jDst j) r.out d with
      | (none, d) => (r, d)
      | (some (st, off), d) =>
        let d := if jOp j = 0x0204 then (bufWrite b j.fn (jDst j) (List.replicate off 0) d).2 else d
        ({ r with status := st, detail := 2 * 2 ^ 56 + off }, d)

/-- After a descriptor leaves: a ring being disabled, and a stopping bench, are done once nothing is in flight. -/
def settleRing (b f r : Nat) (d : Dev) : Dev :=
  let d := if (ringOf d b f r).stopping && ringFlight d b f r == 0 then updRing b f r (fun x => { x with enable := false, stopping := false }) d else d
  if (benchOf d b).state = 2 ∧ (benchOf d b).jobs = [] then updBench d b (fun x => { x with state := 0 }) else d

/-- Send a ring's MSI, or leave it to the end of the holdoff (R286). -/
def ringIrq (b f r : Nat) (d : Dev) : Dev :=
  let x := ringOf d b f r
  let free := match x.lastMsi with | none => true | some t => decide (t + x.holdoff * 100 ≤ d.now)
  if free then emit (.msi b f r) (updRing b f r (fun x => { x with lastMsi := some d.now, msiDue := false }) d)
  else updRing b f r (fun x => { x with msiDue := true }) d

/-- Write a descriptor's record and take it out of flight. -/
def putRecord (b : Nat) (j : Job) (r : JobRes) (d : Dev) : Dev :=
  let ring := ringOf d b j.fn j.ring
  let drop := updBench d b (fun x => { x with jobs := x.jobs.filter (fun k => k.id != j.id) })
  let lost (d : Dev) : Dev := updRing b j.fn j.ring (fun x => { x with cause := if x.cause = 0 then 4 else x.cause, dropped := min 255 (x.dropped + 1) }) d
  let d :=
    if ring.cause = 4 then lost drop
    else
      let va := ring.cqBase + ring.cqTail * 32
      let rlen := if r.status = 0 then r.out.length else 0
      match btuLookup b j.fn va true drop with
      | (.error _, d) => lost d
      | (.ok e, d) =>
        if !ringPageOk d b j.fn (e.pa + (va - e.va)) then lost d
        else match memWriteVa b j.fn va (recordOf j r rlen (b2n ring.phase) d.kerf.counter) d with
          | (some _, d) => lost d
          | (none, d) =>
            let d := updRing b j.fn j.ring (fun x => { x with
              cqTail := (x.cqTail + 1) % 2 ^ x.cqLog2, phase := if x.cqTail + 1 = 2 ^ x.cqLog2 then !x.phase else x.phase }) d
            let d := gaugeCount b j r.status d
            let d := countBench b 1 (updBench d b (fun x => { x with ops := x.ops + 1 }))
            let d := if j.started then count 0x9012 b (11 + r.engine / 32) (10 * (d.now - j.startAt)) d else d
            let d := updAcct d (216 + b) (fun x => { x with doneCost := x.doneCost + (if j.started then j.base else 0) })
            if jIrq j then ringIrq b j.fn j.ring d else d
  settleRing b j.fn j.ring d

/-- KEY_DESTROY waits for every operation that has loaded one of its records (R279). -/
def destroyWaits (d : Dev) (b : Nat) (j : Job) : Bool :=
  jOp j == 0x0502 && (benchOf d b).jobs.any (fun k => k.id != j.id && jOp k != 0x0502 && k.started && k.keys.any (fun i => j.keys.contains i))

/-- DESCRIPTOR_COMPLETE: outputs first, then the record; a descriptor that fails a check of R290 completes without an engine. -/
def completeJob (b id : Nat) (d : Dev) : Dev :=
  match jobOf d b id with
  | none => d
  | some j =>
    let go (r : JobRes) (d : Dev) : Dev :=
      let x := writeOut b j r d
      let d := if jOp j = 0x0502 ∧ r.status = 0 then j.keys.foldl (fun d i => wipeKey b i d) x.2 else x.2
      putRecord b j x.1 d
    match j.res with
    | some r => if destroyWaits d b j then d else go r d
    | none =>
      if mayStart d b j then
        (match checkJob d b j with
          | .error (st, det) => go { status := st, detail := det, out := [], engine := 0 } d
          | .ok _ => d)
      else d
def execDescriptorComplete (b : BenchN) (id : Nat) (s : State) : Outcome State Fault Refusal := onDev (completeJob b id) s

/-- RING_IRQ_HOLDOFF: one MSI covers every record since the last (R286). -/
def holdoffEnds (b f r : Nat) (d : Dev) : Dev :=
  if (ringOf d b f r).msiDue then emit (.msi b f r) (updRing b f r (fun x => { x with lastMsi := some d.now, msiDue := false }) d) else d
def execRingIrqHoldoff (b : BenchN) (f : FnN) (r : RingN) (s : State) : Outcome State Fault Refusal := onDev (holdoffEnds b f r) s

/-- RING_STATUS (R282). -/
def ringStatus (r : Ring) : Nat := packFields [(r.dropped, 32, 8), (r.cause, 4, 4), (b2n (r.cause != 0), 1, 1), (b2n (ringActive r), 0, 1)]
/-- RING_CFG as it reads (R281). -/
def ringCfg (r : Ring) : Nat := packFields [(r.holdoff, 24, 8), (r.cqLog2, 16, 5), (r.sqLog2, 8, 5), (b2n r.enable, 0, 1)]

/-- Kerf step 6: allowances stand, and each bench's deferred descriptors are admitted first, in the order they became ready; one that has waited
a whole epoch is admitted whatever its cost (R353). A microcode update's wait does not count (R338). -/
def admitDeferred (b : Nat) (d : Dev) : Dev :=
  let ds := (benchOf d b).jobs.filter (fun j => j.deferred && !j.admitted)
  let oldest := ds.head?.map (fun j => j.id)
  let tick := if (benchOf d b).state = 3 then 0 else 1
  ds.foldl (fun d j =>
    let force := some j.id == oldest && decide (1 ≤ j.waited)
    let a := 216 + b
    let cost := scaleCost d b j.base
    let fits := decide (cost ≤ (acctOf d a).allow)
    if force || fits then
      updJob b j.id (fun j => { j with waited := j.waited + tick, admitted := true, deferred := false })
        (updAcct d a (fun x => { x with allow := x.allow - cost, admCost := x.admCost + cost }))
    else updAcct (updJob b j.id (fun j => { j with waited := j.waited + tick }) d) a (fun x => { x with deferring := true })) d

/-- The cost of what a bench has deferred, before its scale (R347). -/
def deferredCost (d : Dev) (b : Nat) : Nat := ((benchOf d b).jobs.filter (fun j => j.deferred && !j.admitted)).foldl (fun n j => n + j.base) 0

end Sys2Proof.Machine
end

