-- ==== Sys2Proof/Machine/Feed.lean ====
section
/-!
DEFINITION. The Feed and the scratchpad (R300–R316): channel control, unit transfers, stops, owners, BAR2, retention and zeroisation.
-/
set_option linter.unusedVariables false

namespace Sys2Proof.Machine

open Host (Outcome)

def chanOwnerOf (d : Dev) (b c : Nat) : Nat := tabGet 0 (benchOf d b).chanOwner c

/-- Vector 32, once for each function that owns one of the channels (R311). -/
def feedErrors (b : Nat) (cs : List Nat) (d : Dev) : Dev := emitAll ((nubNat (cs.map (chanOwnerOf d b))).map (fun f => .msi b f 32)) d

/-- One channel stops into STATE 4 (R312). -/
def stopChan (b c cause : Nat) (d : Dev) : Dev :=
  feedErrors b [c] (updFeed b c (fun x => { x with state := 4, cause := cause, prefetching := false }) d)

/-! ### Starting (R307, R309) -/

/-- The scratchpad window of a wrap, in bytes. -/
def wrapBytes (w : Nat) : Nat := 65536 * 2 ^ (w - 1)
/-- Segment offset of unit `k` (R310). -/
def unitOff (x : FeedChan) (k : Nat) : Nat := if x.wrap = 0 then x.off + 64 * k else x.off + 64 * k % wrapBytes x.wrap

/-- Checks 1 to 7 of R309: the CAUSE of the first that fails, or 0. -/
def feedCheck (d : Dev) (b f : Nat) (x : FeedChan) : Nat :=
  let st := (benchOf d b).state
  if ent d 0x5000 (b + 1) ≠ 1 ∨ ¬(st = 1 ∨ st = 3) then 1
  else if 1 < x.dir ∨ 7 < x.wrap then 2
  else if x.count = 0 then 3
  else if x.mem % 64 ≠ 0 then 4
  else if x.off % 64 ≠ 0 then 5
  else if 2 ^ 57 < x.mem + x.count * 64 ∨ (x.mem < apertureBase + 0x80_0000 ∧ apertureBase < x.mem + x.count * 64) then 6
  else if x.wrap = 0 then (if segLength d b f < x.off + x.count * 64 then 7 else 0)
  else if x.off % wrapBytes x.wrap ≠ 0 ∨ segLength d b f < x.off + wrapBytes x.wrap then 7 else 0

/-- A write of FCH_CTL by the owning function (R307, R309, R312). -/
def fchCtl (b f c v : Nat) (d : Dev) : Dev :=
  if chanOwnerOf d b c ≠ f then d
  else
    let cmd := getBits v 0 3
    if popCount cmd 3 > 1 then d
    else
      let x := feedOf d b c
      let live := x.state == 1 || x.state == 4
      let y := if live then x else { x with wrap := getBits v 12 4, dir := getBits v 8 2 }
      let d := updFeed b c (fun _ => y) d
      match cmd with
      | 1 =>
        if live then d
        else
          let cause := feedCheck d b f y
          if cause ≠ 0 then updFeed b c (fun z => { z with state := 3, cause := cause, pos := 0, prefetching := false }) d
          else updFeed b c (fun z => { z with state := 1, cause := 0, pos := 0, prefetching := false }) d
      | 2 =>
        if x.state ≠ 4 then d
        else
          let cause := feedCheck d b f y
          if cause ≠ 0 then updFeed b c (fun z => { z with state := 3, cause := cause }) d
          else updFeed b c (fun z => { z with state := 1, cause := 0, prefetching := false }) d
      | 4 => if live then updFeed b c (fun z => { z with state := 5, cause := 0 }) d else d
      | _ => d

def execFchStart (h : HartN) (b : BenchN) (f : FnN) (c : RingN) (ctl : Nat) (s : State) : Outcome State Fault Refusal :=
  onDev (barWrite h b f (fchCtl b f c (setBit ctl 0 true))) s
def execFchResume (h : HartN) (b : BenchN) (f : FnN) (c : RingN) (ctl : Nat) (s : State) : Outcome State Fault Refusal :=
  onDev (barWrite h b f (fchCtl b f c (setBit ctl 1 true))) s
def execFchAbort (h : HartN) (b : BenchN) (f : FnN) (c : RingN) (ctl : Nat) (s : State) : Outcome State Fault Refusal :=
  onDev (barWrite h b f (fchCtl b f c (setBit ctl 2 true))) s

/-! ### Transfers and stops (R310–R312) -/

/-- A failed read of the prefetch stream stops every running channel (R312). -/
def feedStop (b line : Nat) (poison : Bool) (reading : Nat) (d : Dev) : Dev :=
  let cs := (List.range 16).filter (fun c => (feedOf d b c).state == 1)
  if cs = [] then d
  else
    let d := cs.foldl (fun d c => updFeed b c (fun x => { x with state := 4, cause := 8, prefetching := getBit reading c && x.dir == 0 }) d) d
    let d := updBench d b (fun x => { x with feedStops := x.feedStops + 1 })
    feedErrors b cs (mcWrite { bank := 0x9202, unitNo := b, severity := if poison then 1 else 4, source := 8, unit := b, paddr := some (line * 64) } d)
def execFeedStop (b : BenchN) (line : Nat) (poison : Bool) (reading : Nat) (s : State) : Outcome State Fault Refusal := onDev (feedStop b line poison reading) s

/-- A unit has been written (R310, R316). -/
def unitDone (b c : Nat) (d : Dev) : Dev :=
  updBench (updFeed b c (fun x => { x with pos := x.pos + 1 }) d) b (fun x => { x with feedUnits := x.feedUnits + 1 })

/-- FEED_UNIT_TRANSFER: the channel's next unit moves; units move in ascending order (R310). `err` is what the scratchpad read finds (R305). -/
def feedUnit (b c : Nat) (err : MemErr) (d : Dev) : Dev :=
  let x := feedOf d b c
  let f := chanOwnerOf d b c
  if x.state ≠ 1 ∨ x.count ≤ x.pos ∨ (benchOf d b).supply = false then d
  else
    let va := x.mem + 64 * x.pos
    match segAddr d b f (unitOff x x.pos) with
    | none => stopChan b c 11 d
    | some a =>
      let d := spadTouch b a d
      if x.dir = 0 then
        match btuLookup b f va false d with
        | (.error _, d) => stopChan b c 9 d
        | (.ok e, d) =>
          let pa := e.pa + (va - e.va)
          if !isMain d pa then feedStop b (lineOf pa) false (2 ^ c) d
          else
            let l := cohRead d (lineOf pa)
            if l.2 then feedStop b (lineOf pa) true (2 ^ c) d
            else unitDone b c (setSpad b a (lineBytes l.1) d)
      else
        match err with
        | .uncorrectable | .badMeta => stopChan b c 10 d
        | _ =>
          let d := if err = .corrected then spadCorrected b d else d
          match chunkWrite b f va (spadBytes d b a 64) d with
          | (none, d) => unitDone b c d
          | (some _, d) => stopChan b c 9 d
def execFeedUnitTransfer (b : BenchN) (c : RingN) (err : MemErr) (s : State) : Outcome State Fault Refusal := onDev (feedUnit b c err) s

/-- FEED_CHANNEL_DONE: every unit is written (R311). -/
def feedDone (b c : Nat) (d : Dev) : Dev :=
  let x := feedOf d b c
  if x.state = 1 ∧ x.pos = x.count then emit (.msi b (chanOwnerOf d b c) (16 + c)) (updFeed b c (fun x => { x with state := 2 }) d) else d
def execFeedChannelDone (b : BenchN) (c : RingN) (s : State) : Outcome State Fault Refusal := onDev (feedDone b c) s

/-! ### Owners (R301, R302, R306) -/

/-- A function number an owner register takes: 0 the PF, 1–256 the VFs. -/
def fnNumber (v : Nat) : Bool := decide (v ≤ 256)

/-- A channel's scratchpad side covers a granule of its function. -/
def feedCovers (d : Dev) (b c g : Nat) : Bool :=
  let x := feedOf d b c
  let lo := x.off
  let hi := if x.wrap = 0 then x.off + x.count * 64 else x.off + wrapBytes x.wrap
  match (granulesOf d b (chanOwnerOf d b c)).idxOf? g with
  | some i => decide (lo < (i + 1) * 65536) && decide (i * 65536 < hi)
  | none => false

/-- SPAD_OWNER_WRITE: a new owner gets the granule zeroed, and channels running over it stop (R302). -/
def spadOwner (b g v : Nat) (d : Dev) : Dev :=
  let v := v % 65536
  if !(fnNumber v || v == 0xFFFF) || tabGet 0 (benchOf d b).granOwner g == v then d
  else
    let cs := (List.range 16).filter (fun c => (feedOf d b c).state == 1 && feedCovers d b c g)
    let d := updBench d b (fun x => { x with granOwner := tabSet 0 x.granOwner g v, zeroing := nubNat (x.zeroing ++ [g]) })
    cs.foldl (fun d c => stopChan b c 11 d) (zeroSpad b (g * 65536) 65536 d)
def execSpadOwnerWrite (h : HartN) (b : BenchN) (g : Fin 124) (v : Nat) (s : State) : Outcome State Fault Refusal :=
  onDev (barWrite h b 0 (spadOwner b g v)) s

/-- SPAD_GRANULE_ZEROED: the granule reads zero and its new owner is served. -/
def granuleZeroed (b g : Nat) (d : Dev) : Dev :=
  if (benchOf d b).zeroing.contains g then zeroSpad b (g * 65536) 65536 (updBench d b (fun x => { x with zeroing := x.zeroing.filter (· != g) })) else d
def execSpadGranuleZeroed (b : BenchN) (g : Fin 124) (s : State) : Outcome State Fault Refusal := onDev (granuleZeroed b g) s

/-- FCH_OWNER_WRITE: accepted of an idle channel, whose registers take their reset values (R306). -/
def fchOwner (b c v : Nat) (d : Dev) : Dev :=
  let v := v % 65536
  let st := (feedOf d b c).state
  if !fnNumber v || st == 1 || st == 4 || chanOwnerOf d b c == v then d
  else updFeed b c (fun _ => feedInit) (updBench d b (fun x => { x with chanOwner := tabSet 0 x.chanOwner c v }))
def execFchOwnerWrite (h : HartN) (b : BenchN) (c : RingN) (v : Nat) (s : State) : Outcome State Fault Refusal :=
  onDev (barWrite h b 0 (fchOwner b c v)) s

/-- SPAD_BAR2_ACCESS: an uncached access of a hart to the segment; beyond it a read gives 0 and a write is ignored, both counted (R303, R325).
`err` is what a read of the bank finds: an uncorrectable error gives the hart poisoned data and a machine check (R305), whose virtual address the command
does not carry: a free value (log entry 47). -/
def bar2 (h b f : Nat) (write : Bool) (off size data : Nat) (err : MemErr) (d : Dev) : Dev :=
  if !fnExists d b f || !(size == 1 || size == 2 || size == 4 || size == 8) || off % size != 0 then d
  else
    let deny (slot : Nat) (d : Dev) : Dev := countPkg slot (if write then d else emit (.readData 0) d)
    if !hartServed d b f h then deny pkgFnDenied d
    else match segAddr d b f off with
      | none => deny pkgBar2 d
      | some a =>
        let d := spadTouch b a d
        if write then setSpad b a (leBytes size data) d
        else match err with
          | .uncorrectable | .badMeta => machineCheckAt h (freeVal d % 2 ^ 64) none (drawn d)
          | .corrected => emit (.readData (leNat (spadBytes d b a size))) (spadCorrected b d)
          | .none => emit (.readData (leNat (spadBytes d b a size))) d
def execSpadBar2Access (h : HartN) (b : BenchN) (f : FnN) (write : Bool) (off size data : Nat) (err : MemErr) (s : State) : Outcome State Fault Refusal :=
  onDev (bar2 h b f write off size data err) s

def execSpadBankRetention (b : BenchN) (bank : Fin 32) (s : State) : Outcome State Fault Refusal :=
  onDev (fun d => updBench d b (fun x => if x.retained.contains bank then x else { x with retained := x.retained ++ [bank.val] })) s

/-! ### Zeroisation (R314) -/

/-- End a descriptor with a status and nothing written but its record. -/
def endJob (b st : Nat) (j : Job) (d : Dev) : Dev :=
  putRecord b j { status := st, detail := 0, out := [], engine := match j.res with | some r => r.engine | none => 0 } d

/-- End the channels in STATE 1 or 4 that a test selects. -/
def endChans (b cause : Nat) (p : Nat → Bool) (d : Dev) : List Nat × Dev :=
  let cs := (List.range 16).filter (fun c => p c && ((feedOf d b c).state == 1 || (feedOf d b c).state == 4))
  (cs, cs.foldl (fun d c => updFeed b c (fun x => { x with state := 5, cause := cause }) d) d)

/-- The arrays and the sealed register file lose their contents: the key-store key, and with it every record. -/
def loseArrays (b : Nat) (d : Dev) : Dev :=
  zeroSpad b 0 (2 ^ 23) (updBench d b (fun x => { x with keyed := false, ksKey := [], window := [], keys := [], lostGen := x.gens }))

/-- Zeroise a bench: work in flight ends, every bank is woken and zeroed, the enable clears. -/
def benchZeroise (b : Nat) (d : Dev) : Dev :=
  let d := (benchOf d b).jobs.foldl (fun d j => endJob b 0x0403 j d) d
  let e := endChans b 13 (fun _ => true) d
  let d := feedErrors b e.1 e.2
  let d := updBench d b (fun x => { x with wakes := x.wakes + x.retained.length, retained := [], zeroing := [], zeroises := x.zeroises + 1, state := 4 })
  setCurNat (loseArrays b d) 0x5000 (b + 1) 0

/-- Enclaves that own a key of a bench, or that a descriptor's function is bound to (R385). -/
def enclavesOnBench (d : Dev) (b : Nat) : List Nat :=
  let x := benchOf d b
  nubNat ((x.keys.filterMap (fun e => e.2.bind (fun k => if k.ownClass = 3 then some k.ownId else none))) ++
    (x.jobs.filter (fun j => (fnOf d b j.fn).bindClass == 3)).map (fun j => (fnOf d b j.fn).bindId))

/-- BENCH_SUPPLY_COLLAPSE: the arrays are lost, the bench serves nothing until it powers up, enclaves with a stake in it break, and the world event
and a record name it (R314, R385, R392). -/
def supplyCollapse (b : Nat) (d : Dev) : Dev :=
  let broken := enclavesOnBench d b
  if (benchOf d b).supply = false then d
  else
  let d := setCurNat (updBench (loseArrays b d) b (fun x => { x with supply := false, state := 4 })) 0x5000 (b + 1) 0
  let d := broken.foldl (fun d e => breakEnclave e d) d
  emit (.aplic .worldEvent) (mcWrite { bank := 0x9202, unitNo := b, severity := 4, source := 8, unit := b } d)
def execBenchSupplyCollapse (b : BenchN) (s : State) : Outcome State Fault Refusal := onDev (supplyCollapse b) s
/-- BENCH_POWER_UP: the arrays are zeroised before any access. -/
def benchPowerUp (b : Nat) (d : Dev) : Dev :=
  if (benchOf d b).supply then d else benchZeroise b (updBench d b (fun x => { x with supply := true }))
def execBenchPowerUp (b : BenchN) (s : State) : Outcome State Fault Refusal := onDev (benchPowerUp b) s

end Sys2Proof.Machine
end

