-- ==== Sys2Proof/Machine/Functions.lean ====
section
/-!
DEFINITION. Bench functions (R317–R340): FT_CTL, owner binding, quiesce, function-level reset, BTU invalidation and microcode update.
-/
set_option linter.unusedVariables false

namespace Sys2Proof.Machine

open Host (Outcome)

def fnChans (d : Dev) (b f : Nat) : List Nat := (List.range 16).filter (fun c => chanOwnerOf d b c == f)
/-- Work of the function is in flight: descriptors, or a running channel. -/
def fnBusy (d : Dev) (b f : Nat) : Bool := fnFlight d b f != 0 || (fnChans d b f).any (fun c => (feedOf d b c).state == 1)
def anyRingEnabled (d : Dev) (b f lo : Nat) : Bool := (List.range 16).any (fun r => decide (lo ≤ r) && (ringOf d b f r).enable)

/-- Zero the granules of a function (R324, R335). -/
def zeroGranules (b f : Nat) (d : Dev) : Dev := (granulesOf d b f).foldl (fun d g => zeroSpad b (g * 65536) 65536 d) d

/-- A binding takes effect: granules are zeroed. -/
def bindNow (b f cls id : Nat) (d : Dev) : Dev :=
  zeroGranules b f (updFn b f (fun x => { x with bindClass := cls, bindId := id, bindPending := false }) d)

/-! ### Quiesce (R333) -/

/-- The function leaves QSTATE 0: PF_QDONE is about this request from here on, and a VF's vector 33 is sent (R320, R321). -/
def leaveRunning (b f : Nat) (d : Dev) : Dev :=
  if (fnOf d b f).qstate = 0 then
    let d := updBench (updFn b f (fun x => { x with qstate := 1 }) d) b (fun x => { x with qdone := setBit x.qdone f false })
    if f = 0 then d else emit (.msi b f 33) d
  else d

/-- Abandon what the function has in flight, with records. -/
def abandonFn (b f : Nat) (d : Dev) : Dev :=
  let js := (benchOf d b).jobs.filter (fun j => j.fn == f)
  let d := js.foldl (fun d j => countBench b 4 (endJob b 0x0402 j d)) d
  let d := updBench d b (fun x => { x with abandonedTotal := x.abandonedTotal + js.length })
  (endChans b 12 (fun c => (fnChans d b f).contains c) d).2

/-- A write of FT_CTL by the PF (R322, R324, R331, R333). -/
def ftCtl (b f v : Nat) (d : Dev) : Dev :=
  let x := fnOf d b f
  let w := getBits v 48 8
  let cap := getBits v 32 13
  let rings := getBits v 8 5
  let cls := getBits v 16 2
  let id := if cls = 3 then getBits v 20 12 else 0
  let q := getBits v 1 2
  let qs := if q = 3 ∨ (q = 1 ∧ x.quiesce = 2 ∧ x.qstate = 1) then x.quiesce else q
  let d := updFn b f (fun x => { x with
    weight := if w = 0 then 1 else w, cap := if cap = 0 ∨ 4096 < cap then 4096 else cap,
    rings := if rings = 0 ∨ 16 < rings ∨ anyRingEnabled d b f rings then x.rings else rings,
    quiesce := qs, log := getBit v 0, overflow := x.overflow && !(getBit v 0 && !x.log) }) d
  let d := if getBit v 0 && !x.log then updBench d b (fun y => { y with btu := y.btu.map (fun e => if e.fn = f then { e with dirtySet := false } else e) }) else d
  let d :=
    if (cls ≠ x.bindClass ∨ id ≠ x.bindId) ∧ x.qstate = 2 ∧ anyRingEnabled d b f 0 = false ∧ (f ≠ 0 ∨ cls < 2) then
      let d := updFn b f (fun x => { x with bindClassReq := cls, bindIdReq := id }) d
      if cls < 2 then bindNow b f cls 0 d else updFn b f (fun x => { x with bindPending := true }) d
    else d
  if qs = q then
    match q with
    | 0 => updFn b f (fun x => { x with qstate := 0 }) d
    | 1 => leaveRunning b f d
    | 2 => if (fnOf d b f).qstate = 2 then d else abandonFn b f (leaveRunning b f d)
    | _ => d
  else d

def execQuiesceDrain (h : HartN) (b : BenchN) (f : FnN) (ctl : Nat) (s : State) : Outcome State Fault Refusal :=
  onDev (barWrite h b 0 (ftCtl b f (setBits ctl 1 2 1))) s
def execQuiesceAbandon (h : HartN) (b : BenchN) (f : FnN) (ctl : Nat) (s : State) : Outcome State Fault Refusal :=
  onDev (barWrite h b 0 (ftCtl b f (setBits ctl 1 2 2))) s
def execQuiesceRun (h : HartN) (b : BenchN) (f : FnN) (ctl : Nat) (s : State) : Outcome State Fault Refusal :=
  onDev (barWrite h b 0 (ftCtl b f (setBits ctl 1 2 0))) s
def execFunctionBind (h : HartN) (b : BenchN) (f : FnN) (ctl : Nat) (s : State) : Outcome State Fault Refusal :=
  onDev (barWrite h b 0 (ftCtl b f ctl)) s
def execDirtyLogEnable (h : HartN) (b : BenchN) (f : FnN) (ctl : Nat) (s : State) : Outcome State Fault Refusal :=
  onDev (barWrite h b 0 (ftCtl b f (setBit ctl 0 true))) s

/-- FN_CLAIM: a hart of the requested world or enclave completes a pending binding; any other claim is counted (R324). -/
def fnClaim (h b f v : Nat) (d : Dev) : Dev :=
  let x := fnOf d b f
  let w := tworldOf d (hartOf d h)
  if !fnExists d b f || v % 2 ^ 64 != 1 then d
  else if x.bindPending && (if x.bindClassReq = 2 then getBit w 15 else x.bindClassReq == 3 && getBits w 0 12 == x.bindIdReq && x.bindIdReq != 0) then
    bindNow b f x.bindClassReq x.bindIdReq d
  else countPkg pkgClaimDenied d
def execFnClaim (h : HartN) (b : BenchN) (f : FnN) (v : Nat) (s : State) : Outcome State Fault Refusal := onDev (fnClaim h b f v) s

/-- D3hot stops fetch as a drain quiesce (R318). -/
def execD3hotEntry (b : BenchN) (f : FnN) (s : State) : Outcome State Fault Refusal :=
  onDev (fun d => if fnExists d b f then leaveRunning b f (updFn b f (fun x => { x with d3 := true }) d) else d) s

/-! ### Function-level reset (R334–R336) -/

/-- The records of a function's instance owner are destroyed (R324, R335). -/
def dropInstanceKeys (b f : Nat) (d : Dev) : Dev :=
  ((benchOf d b).keys.filter (fun e => match e.2 with | some k => k.ownClass == 0 && k.ownId == instanceNo b f | none => false)).foldl
    (fun d e => wipeKey b e.1 (dropKey b e.1 d)) d

/-- Step 4: the function as R335 leaves it. -/
def resetFn (b f : Nat) (d : Dev) : Dev :=
  let d := zeroGranules b f (dropInstanceKeys b f d)
  let d := (fnChans d b f).foldl (fun d c => updFeed b c (fun _ => feedInit) d) d
  let d := btuKill b (fun e => e.fn == f) d
  let d := updBench d b (fun x => { x with rings := x.rings.filter (fun e => e.1 / 16 != f) })
  updFn b f (fun x => { x with
    quiesce := 0, log := false, bindClass := 0, bindId := 0, bindPending := false, qstate := 0, flrHeld := false, revoked := false, d3 := false,
    msix := [] }) d

/-- Step 3: translations are revoked and work ends without records. -/
def revokeFn (b f : Nat) (d : Dev) : Dev :=
  let n := fnFlight d b f
  let d := btuKill b (fun e => e.fn == f) d
  let d := updBench d b (fun x => { x with
    jobs := x.jobs.filter (fun j => j.fn != f), abandonedTotal := x.abandonedTotal + n,
    rings := x.rings.map (fun e => if e.1 / 16 = f then (e.1, { e.2 with cause := 5 }) else e) })
  let d := updFn b f (fun x => { x with revoked := true, abandoned := x.abandoned + n }) d
  (endChans b 12 (fun c => (fnChans d b f).contains c) d).2

/-- A reset of a VF is requested: at once without work in flight, else held for a quiesce (R334). -/
def startFlr (b f : Nat) (d : Dev) : Dev :=
  if f = 0 || !fnExists d b f || (fnOf d b f).flrHeld then d
  else if fnBusy d b f then emit (.msi b 0 33) (updFn b f (fun x => { x with flrHeld := true }) d)
  else resetFn b f d
def execFunctionLevelReset (b : BenchN) (f : FnN) (s : State) : Outcome State Fault Refusal := onDev (startFlr b f) s

/-- QUIESCE_COMPLETE: nothing of the function is in flight; a held reset goes to step 4 (R333, R334). -/
def quiesceComplete (b f : Nat) (d : Dev) : Dev :=
  if (fnOf d b f).qstate = 1 ∧ fnBusy d b f = false then
    let d := updBench (updFn b f (fun x => { x with qstate := 2 }) d) b (fun x => { x with qdone := setBit x.qdone f true })
    let d := emit (.msi b 0 33) d
    if (fnOf d b f).flrHeld then resetFn b f d else d
  else d
def execQuiesceComplete (b : BenchN) (f : FnN) (s : State) : Outcome State Fault Refusal := onDev (quiesceComplete b f) s

/-- FLR_REVOKE: 90 ms without QSTATE 2 (R334). -/
def flrRevoke (b f : Nat) (d : Dev) : Dev :=
  if (fnOf d b f).flrHeld ∧ (fnOf d b f).qstate ≠ 2 then
    resetFn b f (updBench (revokeFn b f d) b (fun x => { x with flrRevokes := x.flrRevokes + 1 }))
  else d
def execFlrRevoke (b : BenchN) (f : FnN) (s : State) : Outcome State Fault Refusal := onDev (flrRevoke b f) s

/-- Functions of a bench that hold any state. -/
def knownFns (d : Dev) (b : Nat) : List Nat :=
  let x := benchOf d b
  nubNat (0 :: (x.fns.map (fun e => e.1) ++ x.rings.map (fun e => e.1 / 16) ++ x.jobs.map (fun j => j.fn) ++ x.chanOwner.map (fun e => e.2) ++
    (x.granOwner.map (fun e => e.2)).filter fnNumber ++ x.keys.filterMap (fun e => match e.2 with
      | some k => if k.ownClass = 0 then some (k.ownId % 512) else none
      | none => none)))

/-- PF_FLR: every function is revoked and reset, the management area and the owners too (R336). -/
def pfFlr (b : Nat) (d : Dev) : Dev :=
  let fs := knownFns d b
  let busy := fs.any (fun f => fnBusy d b f)
  let d := fs.foldl (fun d f => resetFn b f (if fnBusy d b f then revokeFn b f d else d)) d
  updBench d b (fun x => { x with
    flrRevokes := x.flrRevokes + b2n busy, vfs := 0, granOwner := [], chanOwner := [], qdone := 0, inval := 0, invalIova := 0, invalBusy := false,
    invalDone := false, fns := tabMap fnInit (fun _ y => { fnInit with abandoned := y.abandoned, tenant := y.tenant }) x.fns })
def execPfFlr (b : BenchN) (s : State) : Outcome State Fault Refusal := onDev (pfFlr b) s

/-- VF_ENABLE_CLEAR: every VF is reset at once, each under R334 (R318). -/
def vfClear (b : Nat) (d : Dev) : Dev :=
  let fs := (knownFns d b).filter (fun f => f != 0)
  updBench (fs.foldl (fun d f => startFlr b f d) d) b (fun x => { x with vfs := 0 })
def execVfEnableClear (b : BenchN) (s : State) : Outcome State Fault Refusal := onDev (vfClear b) s

/-! ### BTU invalidation (R330) -/

/-- Start an invalidation: nothing happens while one is busy. -/
def btuInval (b v : Nat) (p : BtuEnt → Bool) (d : Dev) : Dev :=
  if (benchOf d b).invalBusy then d
  else btuKill b p (updBench d b (fun x => { x with inval := v, invalBusy := true, invalDone := false }))
def execBtuInvalAll (h : HartN) (b : BenchN) (s : State) : Outcome State Fault Refusal := onDev (barWrite h b 0 (btuInval b 0 (fun _ => true))) s
def execBtuInvalFunction (h : HartN) (b : BenchN) (f : FnN) (s : State) : Outcome State Fault Refusal :=
  onDev (barWrite h b 0 (btuInval b (4096 + f) (fun e => e.fn == f.val))) s
def btuInvalPage (b f : Nat) (d : Dev) : Dev :=
  let va := (benchOf d b).invalIova
  btuInval b (8192 + f) (fun e => e.fn == f && decide (e.va ≤ va) && decide (va < e.va + 2 ^ e.size)) d
def execBtuInvalPage (h : HartN) (b : BenchN) (f : FnN) (s : State) : Outcome State Fault Refusal := onDev (barWrite h b 0 (btuInvalPage b f)) s
def execBtuInvalDone (b : BenchN) (s : State) : Outcome State Fault Refusal :=
  onDev (fun d => if (benchOf d b).invalBusy then updBench d b (fun x => { x with invalBusy := false, invalDone := true }) else d) s

/-! ### Microcode (R338) -/

/-- The value becomes current: a running bench starts no further descriptor. -/
def microcodeSwap (b version : Nat) (d : Dev) : Dev :=
  updBench d b (fun x => { x with newVersion := some version, state := if x.state = 1 then 3 else x.state })
/-- MICROCODE_LOAD: once started work has drained, the microcode loads; a failed self-test keeps the previous one. -/
def microcodeLoad (b : Nat) (ok : Bool) (d : Dev) : Dev :=
  match (benchOf d b).newVersion with
  | some v =>
    if (benchOf d b).state = 3 ∧ (benchOf d b).jobs.any (fun j => j.started) then d
    else
      let d := updBench d b (fun x => { x with newVersion := none, version := if ok then v else x.version, state := if x.state = 3 then 1 else x.state })
      if ok then d else updDry d 0x5001 (b + 1) (fun x => { x with reason := 0x0403, index := 0x5020, sub := b + 1, atKerf := true })
  | none => d
def execMicrocodeLoad (b : BenchN) (ok : Bool) (s : State) : Outcome State Fault Refusal := onDev (microcodeLoad b ok) s

/-! ### Registers as they read -/

def ftCtlRead (x : Fn) : Nat :=
  packFields [(x.weight, 48, 8), (x.cap, 32, 13), (x.bindIdReq, 20, 12), (x.bindClassReq, 16, 2), (x.rings, 8, 5), (x.quiesce, 1, 2), (b2n x.log, 0, 1)]
def ftStatus (d : Dev) (b f : Nat) : Nat :=
  let x := fnOf d b f
  packFields [(x.bindId, 52, 12), (x.bindClass, 50, 2), (fnFlight d b f, 32, 13), (b2n x.overflow, 7, 1), (b2n x.revoked, 6, 1),
    (b2n x.flrHeld, 5, 1), (b2n x.bindPending, 4, 1), (x.qstate, 0, 2)]
/-- BENCH_STATE (R299). -/
def benchState (d : Dev) (b : Nat) : Nat := packFields [((benchOf d b).jobs.length, 32, 13), ((benchOf d b).state, 0, 3)]

end Sys2Proof.Machine
end

