-- ==== Sys2Proof/Machine/Clamp.lean ====
section
/-!
DEFINITION. The output clamp (R417, R418): writes that leave the package through a root port, held while the package is the PRIMARY of a pair,
their release, and the reads that wait behind them.
-/
set_option linter.unusedVariables false

namespace Sys2Proof.Machine

def updMirror (d : Dev) (f : MirrorSt → MirrorSt) : Dev := { d with mirror := f d.mirror }

/-- Writes are held: PHASE 2, the epochs after the formation seal's cut, and a PRIMARY that suspects, confirms or is held (R407, R417, R420, R421). -/
def clampHolds (d : Dev) : Bool :=
  d.mirror.role == 1 &&
  (d.mirror.phase == 2 || d.mirror.phase == 3 || d.mirror.phase == 4 || d.mirror.phase == 7 || (d.mirror.phase == 1 && d.mirror.firstSeal.isSome))

/-- CLAMP_BYTES. -/
def clampBytes (d : Dev) : Nat := d.mirror.clamp.foldl (fun n h => n + h.data.length) 0

/-- The OUTPUT record of a held write (R403). -/
def outputRec (h : Held) : List Byte :=
  [0x20, BitVec.ofNat 8 h.rp, BitVec.ofNat 8 h.kind, 0] ++ leBytes 2 h.data.length ++ [0, 0] ++ leBytes 8 h.oseq ++ leBytes 8 h.addr ++ h.data

/-- The package answers the hart whose write the clamp has accepted (R197, R417). -/
def ackWrite (req : Option FMsg) (d : Dev) : Dev :=
  match req with
  | some m => send false { msgOf d .cmp m.die with rtag := m.rtag, addr := m.addr } d
  | none => d

/-- A held write takes the next OSEQ, goes to the STANDBY, and completes to its producer. -/
def clampAccept (h : Held) (req : Option FMsg) (d : Dev) : Dev :=
  let h := { h with oseq := d.mirror.nextOseq }
  let d := updMirror d (fun x => { x with clamp := x.clamp ++ [h], nextOseq := x.nextOseq + 1, outLog := x.outLog ++ [outputRec h] })
  ackWrite req (sendDowel 2 (outputRec h) d)

/-- Bytes of the clamp that any write may use: 64 MiB less the reserve for writes produced before the latest cut (R418). -/
def clampOpen : Nat := 66846720

/-- The room a write may use: the whole clamp for one produced before the latest cut. -/
def clampRoom (d : Dev) (h : Held) : Nat := if h.kerf < d.kerf.counter then 67108864 else clampOpen
/-- A write leaves at once, is held, or stalls its producer for want of room, behind those that stalled before it. -/
def place (h : Held) (req : Option FMsg) (d : Dev) : Dev :=
  if clampHolds d then
    if d.mirror.stalled = [] ∧ clampBytes d + h.data.length ≤ clampRoom d h then clampAccept h req d
    else updMirror d (fun x => { x with stalled := x.stalled ++ [(h, req)] })
  else ackWrite req (emit (.device true h.addr h.data.length (leNat h.data)) d)
/-- A write to a device; one that stalls counts. -/
def outbound (addr : Nat) (data : List Byte) (req : Option FMsg) (d : Dev) : Dev :=
  let e := place { oseq := 0, rp := Config.rootPort addr % 16, kind := Config.outKind addr % 4, addr := addr, data := data, kerf := d.kerf.counter } req d
  updMirror e (fun x => { x with clampStalls := x.clampStalls + (e.mirror.stalled.length - d.mirror.stalled.length) })

/-- A device answers an uncached read; what it answers is a free value (log entry 4). -/
def serveRead (m : FMsg) (d : Dev) : Dev :=
  let v := freeVal d % 2 ^ (8 * m.size)
  send false { msgOf d .dataNc m.die with rtag := m.rtag, addr := m.addr, data := BitVec.ofNat 512 v } (emit (.device false m.addr m.size 0) (drawn d))

/-- An uncached read of a device: it waits behind the held writes to the same device (R418). -/
def deviceRead (m : FMsg) (d : Dev) : Dev :=
  let rp := Config.rootPort m.addr % 16
  match ((d.mirror.clamp.filter (fun h => h.rp == rp)).map (fun h => h.oseq)).getLast? with
  | some o => updMirror d (fun x => { x with waitReads := x.waitReads ++ [(rp, o, m)] })
  | none => serveRead m d

/-- Writes that waited for room are accepted in order while there is room, or leave at once when nothing is held any more. -/
def unstall (d : Dev) : Dev :=
  let ws := d.mirror.stalled
  ws.foldl (fun d w => place w.1 w.2 d) (updMirror d (fun x => { x with stalled := [] }))

/-- Release held writes in OSEQ order; reads behind them then leave. -/
def clampRelease (p : Held → Bool) (d : Dev) : Dev :=
  let out := d.mirror.clamp.filter p
  let d := out.foldl (fun d h => emit (.device true h.addr h.data.length (leNat h.data)) d) d
  let d := updMirror d (fun x => { x with
    clamp := x.clamp.filter (fun h => !p h), released := out.foldl (fun n h => max n (h.oseq + 1)) x.released })
  let free := d.mirror.waitReads.filter (fun w => !(d.mirror.clamp.any (fun h => h.oseq == w.2.1)))
  let d := updMirror d (fun x => { x with waitReads := x.waitReads.filter (fun w => d.mirror.clamp.any (fun h => h.oseq == w.2.1)) })
  unstall (free.foldl (fun d w => serveRead w.2.2 d) d)

end Sys2Proof.Machine
end

