-- ==== Sys2Proof/Machine/Inlay.lean ====
section
/-!
DEFINITION. Inlay sites (R161–R170): the firewall every upstream request passes, the coherent accesses it lets through,
downstream accesses of harts, credits, and containment.
-/
set_option linter.unusedVariables false

namespace Sys2Proof.Machine

open Host (Outcome)

/-- The package carries an inlay at the site: the 216I, with the site's identity fused (R1, R170). -/
def sitePopulated (d : Dev) (s : Nat) : Bool := d.fuses.ordering == 2 && tabGet [] d.fuses.inlayIdent s != []

/-- INLAY_ENABLE of a site. -/
def siteEnabled (d : Dev) (s : Nat) : Bool := ent d 0xA100 (s + 1) == 1

/-- An uncached load of a hart ends with an access fault, code 5, and its address (R168). -/
def ncFault (m : FMsg) (d : Dev) : Dev :=
  match missByTag d m.die m.rtag with
  | some ms =>
    let h := 18 * m.die + ms.core
    let d := dropMiss m.die ms.rtag d
    (match (hartOf d h).waiting with
      | some { op := .load va .., line := l, .. } => if l = ms.line then takeTrap h 5 false va 0 d else d
      | _ => d)
  | none => d

/-- Containment of a site (R168): the first cause stands. -/
def containSite (s cause : Nat) (d : Dev) : Dev :=
  if (siteOf d s).cause ≠ 0 then d
  else
    let owed := (siteOf d s).mmrd
    let d := updSite d s (fun x => { x with cause := cause, kerfLow := d.kerf.counter % 2 ^ 32, mmrd := [] })
    let d := owed.foldl (fun d e => ncFault e.2 d) d
    emit (.aplic (.containment s)) (setCurNat d 0xA100 (s + 1) 0)

/-! ### The firewall (R166, R167) -/

/-- A window of a site: base, last byte, attributes. -/
def inlayWindow (d : Dev) (s n : Nat) : Nat × Nat × Nat :=
  (ent d (0xA110 + 16 * s) (n + 1), ent d (0xA111 + 16 * s) (n + 1), ent d (0xA112 + 16 * s) (n + 1))

/-- A window is VALID and holds the address. -/
def windowHolds (w : Nat × Nat × Nat) (addr : Nat) : Bool := getBit w.2.2 31 && decide (w.1 ≤ addr) && decide (addr ≤ w.2.1)

/-- What a window permits: bit 0 read, 1 write, 2 fetch. X is ignored in an MMIO window (R167); that an RDF64 there is denied, as if X were 0, is the
model's choice (DESIGN CHOICE, log entry 59). -/
def windowPerms (attr : Nat) : Nat := if getBit attr 30 then attr % 4 else attr % 8

/-- The VALID window that holds the address and permits the request (check 3). -/
def windowFor (d : Dev) (s addr perm : Nat) : Option Nat :=
  ((List.range 16).find? (fun n =>
    let w := inlayWindow d s n
    windowHolds w addr && Nat.land (windowPerms w.2.2) perm == perm)).map (fun n => (inlayWindow d s n).2.2)

/-- Check 4: main memory in a window of memory, or neither; never a window of the hub. -/
def placeOk (d : Dev) (attr addr : Nat) : Bool :=
  (isMain d addr != getBit attr 30) && !inHubRange addr && !inGaugeWindow addr && (isMain d addr || !Config.spadWindow addr)

/-- Check 5: the page's owner. -/
def ownerOk (d : Dev) (attr addr : Nat) : Bool :=
  getBit attr 30 ||
  (potClass (potEntry d addr) == getBits attr 26 1 && (getBit attr 25 || potOid (potEntry d addr) == getBits attr 12 12))

/-- The rate limiter's bucket brought up to date (R165): RATE_MBPS MB/s is RATE_MBPS hundredths of a byte in a tick of 10 ns. -/
def refill (s : Nat) (d : Dev) : Dev :=
  updSite d s (fun x => { x with
    tokens := min (ent d 0xA109 (s + 1) * 102400) (x.tokens + (d.now - x.tokAt) * ent d 0xA108 (s + 1)), tokAt := d.now })

/-- Have a completion ready for the inlay. -/
def siteDone (s tag status : Nat) (data : List Byte) (d : Dev) : Dev :=
  updSite d s (fun x => { x with done := x.done ++ [(tag, status, data)] })

/-- A violation: counted, recorded, denied; the limit contains the site (R166). -/
def violate (s : Nat) (q : InlayHdr) (zeros : Nat) (d : Dev) : Dev :=
  let d := updSite (siteDone s q.tag 1 (List.replicate zeros 0) d) s (fun x =>
    { x with violations := x.violations + 1, lastViolation := q.addr })
  if ent d 0xA107 (s + 1) ≤ (siteOf d s).violations then containSite s 1 d else d

/-- A packet's 16-byte header (R163), by its bits: byte 0 is bits [7:0]. -/
def inlayHdr (w : BitVec 128) : InlayHdr :=
  let n := w.toNat
  { op := getBits n 0 8, tag := getBits n 8 12, status := getBits n 20 4, subop := getBits n 24 8, addr := getBits n 32 56, size := getBits n 88 8,
    rsvd := getBits n 96 32 }
/-- The opcodes of R163 that travel up. -/
def upOpcode (op : Nat) : Bool := [1, 2, 3, 4, 5, 6, 8].contains op

/-- An upstream request arrives: `perm` and `align` of its opcode, `well` its other well-formedness, `zeros` the bytes of its completion,
`target` its extra condition in check 4, and what it does once it has passed. -/
def upstream (s : Nat) (q : InlayHdr) (perm align : Nat) (well target : Bool) (mmioOnly : Bool) (zeros : Nat) (act : Nat → Dev → Dev) (d : Dev) : Dev :=
  if !siteEnabled d s || (siteOf d s).cause != 0 then siteDone s q.tag 3 (List.replicate zeros 0) d
  else
    let ok := well && q.rsvd == 0 && q.addr % align == 0 && decide (0 < (siteOf d s).credits)
    let d := refill s d
    let d := updSite d s (fun x => { x with credits := x.credits - 1, tokens := x.tokens - 6400 })
    if !ok then containSite s 2 d
    else match windowFor d s q.addr perm with
      | none => violate s q zeros d
      | some attr =>
        if !placeOk d attr q.addr || (mmioOnly && !getBit attr 30) || !target then violate s q zeros d
        else if !ownerOk d attr q.addr then violate s q zeros d
        else act attr d

/-- A packet of opcode `op` from a site: served as that opcode; of no opcode that travels up, it is malformed (R166). A packet of another known opcode
is another command's. -/
def inlayUp (s op : Nat) (hdr : BitVec 128) (f : InlayHdr → Dev → Dev) (d : Dev) : Dev :=
  let q := inlayHdr hdr
  if q.op = op then f q d
  else if upOpcode q.op then d
  else upstream s q 0 1 false true false 0 (fun _ d => d) d

/-- The maximal runs of selected bytes of a line: offset and length. -/
def maskRuns (mask : Nat) : List (Nat × Nat) :=
  ((List.range 64).filter (fun i => getBit mask i && (i == 0 || !getBit mask (i - 1)))).map (fun i =>
    (i, ((List.range (64 - i)).find? (fun k => !getBit mask (i + k))).getD (64 - i)))

/-- A passed request to an address that is no main memory goes to the device, a partial write by its runs of bytes; what a device answers is a
free value. `n` bytes are answered. -/
def inlayDevice (s : Nat) (q : InlayHdr) (op : AgentOp) (size data n : Nat) (d : Dev) : Dev :=
  let x := freeVal d
  let d := match op with
    | .read => emit (.device false q.addr size 0) d
    | .write l mask => (maskRuns mask).foldl (fun d r => outbound (q.addr + r.1) (sliceOf (lineBytes l) r.1 r.2) none d) d
    | .atomic .. => outbound q.addr (leBytes size data) none d
  siteDone s q.tag 0 (leBytes n x) (if n = 0 then d else drawn d)

/-- A passed request is a coherent access of the site, or a device access. -/
def inlayAccess (s : Nat) (q : InlayHdr) (op : AgentOp) (size data n : Nat) (attr : Nat) (d : Dev) : Dev :=
  if getBit attr 30 then inlayDevice s q op size data n d else agentAccess (.inlay s q.tag) q.addr op d

def rd64 (s : Nat) (q : InlayHdr) : Dev → Dev := upstream s q 1 64 true true false 64 (inlayAccess s q .read 64 0 64)
def execRd64 (site : SiteN) (hdr : BitVec 128) (s : State) : Outcome State Fault Refusal := onDev (inlayUp site 1 hdr (rd64 site)) s
def rdf64 (s : Nat) (q : InlayHdr) : Dev → Dev := upstream s q 4 64 true true false 64 (inlayAccess s q .read 64 0 64)
def execRdf64 (site : SiteN) (hdr : BitVec 128) (s : State) : Outcome State Fault Refusal := onDev (inlayUp site 2 hdr (rdf64 site)) s
def wr64 (s : Nat) (data : Line) (q : InlayHdr) : Dev → Dev :=
  upstream s q 2 64 true true false 0 (inlayAccess s q (.write data (2 ^ 64 - 1)) 64 data.toNat 0)
def execWr64 (site : SiteN) (hdr : BitVec 128) (data : Line) (s : State) : Outcome State Fault Refusal := onDev (inlayUp site 3 hdr (wr64 site data)) s
/-- WRP64: the mask selects the bytes that merge (R163, R189). -/
def wrp64 (s : Nat) (data : Line) (mask : Nat) (q : InlayHdr) : Dev → Dev :=
  upstream s q 2 64 true true false 0 (inlayAccess s q (.write data (mask % 2 ^ 64)) 64 data.toNat 0)
def execWrp64 (site : SiteN) (hdr : BitVec 128) (data : Line) (mask : Nat) (s : State) : Outcome State Fault Refusal :=
  onDev (inlayUp site 4 hdr (wrp64 site data mask)) s
/-- AMO: SUBOP 0–4; any other is malformed. For CAS the data are the compare value, then the new one. -/
def inlayAmo (s a b : Nat) (q : InlayHdr) : Dev → Dev :=
  upstream s q 3 8 (decide (q.subop ≤ 4)) true false 8 (inlayAccess s q (.atomic (q.addr % 64) q.subop (a % 2 ^ 64) (b % 2 ^ 64)) 8 (a % 2 ^ 64) 8)
def execInlayAmo (site : SiteN) (hdr : BitVec 128) (a b : Nat) (s : State) : Outcome State Fault Refusal := onDev (inlayUp site 5 hdr (inlayAmo site a b)) s
/-- MSI: a 4-byte write to the IMSIC file its address names (R163, R166). -/
def inlayMsi (s data : Nat) (q : InlayHdr) : Dev → Dev :=
  let target := Config.imsicAt q.addr
  upstream s q 2 4 true target.isSome true 0 (fun _ d =>
    siteDone s q.tag 0 [] (match target with | some k => imsicWrite (k / 9 % 216) (k % 9) (data % 2 ^ 32) d | none => d))
def execInlayMsi (site : SiteN) (hdr : BitVec 128) (data : Nat) (s : State) : Outcome State Fault Refusal := onDev (inlayUp site 6 hdr (inlayMsi site data)) s

/-- The hub completes the oldest finished upstream request (R163). -/
def cplDown (s : Nat) (d : Dev) : Dev :=
  match (siteOf d s).done with
  | (tag, st, x) :: r =>
    emit (.inlay s 0x18 tag st 0 0 (if st = 0 then x else List.replicate x.length 0)) (updSite d s (fun y => { y with done := r }))
  | [] => d
def execInlayCplDown (site : SiteN) (s : State) : Outcome State Fault Refusal := onDev (cplDown site) s

/-- Tracker entries a site's requests hold or wait for. -/
def siteInUse (d : Dev) (s : Nat) : Nat :=
  (d.slices.map (fun e => (e.2.trk.filter (fun t => t.holder == 16 + s)).length + (e.2.ingress.filter (fun i => i.1 == 16 + s)).length)).foldl (· + ·) 0
/-- Shared-pool entries of a slice that a holder has or may still take (R202). -/
def poolRoom (d : Dev) (sl holder : Nat) : Nat :=
  let t := (sliceOf_ d sl).trk
  let own := (t.filter (fun x => x.holder == holder && x.pool)).length
  own + min (ent d 0xA041 0 - own) (192 - (t.filter (fun x => x.pool)).length)
/-- Credits that the site's share and the shared pool still back: none beyond their entries is granted (R165). -/
def creditRoom (d : Dev) (s : Nat) : Nat :=
  256 + ((List.range 16).map (fun sl => poolRoom d sl (16 + s))).foldl (· + ·) 0 - ((siteOf d s).credits + siteInUse d s)
/-- A grant of upstream credits, as entries free; an empty bucket withholds it (R165). -/
def grantCredits (s n : Nat) (d : Dev) : Dev :=
  let d := refill s d
  if siteEnabled d s && decide (1 ≤ n) && decide (n ≤ 255) && decide (n ≤ creditRoom d s) && decide (0 < (siteOf d s).tokens) then
    emit (.inlay s 0x1F 0 0 0 n []) (updSite d s (fun x => { x with credits := x.credits + n }))
  else d
def execCrd (site : SiteN) (n : Nat) (s : State) : Outcome State Fault Refusal := onDev (grantCredits site n) s

/-! ### Downstream -/

/-- A hart's load of the inlay's address space (R163, R168). R168 speaks of contained sites only; that a load to a site that is disabled and not contained
faults in the same way, and a store to it is discarded and counted, is the model's choice (DESIGN CHOICE, log entry 59). -/
def mmrdArrives (s : Nat) (m : FMsg) (d : Dev) : Dev :=
  let m := { m with op := .ncrd }
  let d := arrive m d
  if staleFrom d m then dropStale m d
  else if siteEnabled d s && (siteOf d s).cause == 0 then
    let tag := (siteOf d s).nextTag
    emit (.inlay s 0x11 tag 0 m.addr m.size []) (updSite d s (fun x => { x with mmrd := x.mmrd ++ [(tag, m)], nextTag := (tag + 1) % 4096 }))
  else ncFault m d
def execMmrd (site : SiteN) (m : FMsg) (s : State) : Outcome State Fault Refusal := onDev (mmrdArrives site m) s

/-- A hart's store there, posted; to a contained site it is discarded and counted (R168, R473). -/
def mmwrArrives (s : Nat) (m : FMsg) (d : Dev) : Dev :=
  let m := { m with op := .ncwr }
  let d := arrive m d
  if staleFrom d m then dropStale m d
  else
    let d := send false { msgOf d .cmp m.die with rtag := m.rtag, addr := m.addr } d
    if siteEnabled d s && (siteOf d s).cause == 0 then
      emit (.inlay s 0x12 (siteOf d s).nextTag 0 m.addr m.size (leBytes m.size m.data.toNat)) (updSite d s (fun x => { x with nextTag := (x.nextTag + 1) % 4096 }))
    else countPkg pkgMmwrDiscarded d
def execMmwr (site : SiteN) (m : FMsg) (s : State) : Outcome State Fault Refusal := onDev (mmwrArrives site m) s

/-- The inlay answers a load: data, poison, or an access fault where it denies or is contained. -/
def cplUp (s : Nat) (q : InlayHdr) (data : Nat) (d : Dev) : Dev :=
  match (siteOf d s).mmrd.find? (fun e => e.1 == q.tag) with
  | none => d
  | some (tag, m) =>
    let d := updSite d s (fun x => { x with mmrd := x.mmrd.erase (tag, m) })
    match q.status with
    | 0 => send false { msgOf d .dataNc m.die with rtag := m.rtag, addr := m.addr, data := BitVec.ofNat 512 (data % 2 ^ (8 * m.size)) } d
    | 2 => send false { msgOf d .dataNc m.die with rtag := m.rtag, addr := m.addr, poison := true } d
    | _ => ncFault m d
def execInlayCplUp (site : SiteN) (hdr : BitVec 128) (data : Nat) (s : State) : Outcome State Fault Refusal :=
  onDev (inlayUp site 8 hdr (fun q => cplUp site q data)) s

/-! ### Causes of containment (R168) -/

def execInlayDownstreamTimeout (site : SiteN) (s : State) : Outcome State Fault Refusal :=
  onDev (fun d => if (siteOf d site).mmrd = [] then d else containSite site 3 d) s
/-- The UCIe link is lost: it is down, and the site contained. -/
def linkLost (s : Nat) (d : Dev) : Dev :=
  if (siteOf d s).uState = 3 then containSite s 4 (updSite d s (fun x => { x with uState := 1, uRate := 0, uWidth := 0 })) else d
def execUcieLinkLost (site : SiteN) (s : State) : Outcome State Fault Refusal := onDev (linkLost site) s
def execUcieAdapterError (site : SiteN) (s : State) : Outcome State Fault Refusal :=
  onDev (fun d => if sitePopulated d site then containSite site 5 d else d) s

/-- A UCIe training attempt ends (R161, R162, R169): up at one of the rates and widths the site supports, else down; an up link that it loses contains
the site (R168). Nothing at an unpopulated site. -/
def trainSite (s : Nat) (o : UcieObs) (d : Dev) : Dev :=
  if sitePopulated d s then
    if o.ok && decide (1 ≤ o.rate) && decide (o.rate ≤ 6) && (o.width == 8 || o.width == 16) then
      updSite d s (fun x => { x with uState := 3, uRate := o.rate, uWidth := o.width })
    else
      let was := (siteOf d s).uState
      let d := updSite d s (fun x => { x with uState := 1, uRate := 0, uWidth := 0 })
      if was = 3 then containSite s 4 d else d
  else d

/-- The swap of an accepted INLAY_ENABLE of 1 (R165, R168): containment and violations clear, 256 credits are granted. That the token bucket starts full
is the model's choice (DESIGN CHOICE, log entry 59): R165 gives its size and refill only. -/
def enableSite (s : Nat) (d : Dev) : Dev :=
  updSite d s (fun x => { x with cause := 0, kerfLow := 0, violations := 0, credits := 256, tokens := ent d 0xA109 (s + 1) * 102400, tokAt := d.now })

end Sys2Proof.Machine
end

