-- ==== Sys2Proof/Machine/Links.lean ====
section
/-!
DEFINITION. Tenon links: replay (R144), recovery (R145), training and width agreement (R147–R151),
the wake pattern (R153), the time bases (R154) and jig mode (R156–R158).
-/
set_option linter.unusedVariables false

namespace Sys2Proof.Machine

open Host (Outcome)

/-! ### The retry buffer (R144, R145) -/

/-- An ACK for a bundle's transmitter: the flits up to and with that SEQ leave the retry buffer, and replays count anew. -/
def ackBundle (n : Nat) (up : Bool) (ack : Nat) (d : Dev) : Dev :=
  let b := bundleOf (linkOf d n) up
  if b.unacked.any (fun e => e.1 == ack % 4096) then
    drainBundle n up (updBundle n up (fun b =>
      { b with unacked := (b.unacked.dropWhile (fun e => e.1 != ack % 4096)).drop 1, ackSeen := ack % 4096, replaySeq := none, failedReplays := 0 }) d)
  else d

/-- Recoveries begun in the last second (R145), this one included. -/
def recentRecoveries (d : Dev) (l : Link) : List Nat := l.recoveries.filter (fun t => decide (d.now < t + 100000000)) ++ [d.now]

/-- A bundle enters recovery with a short retest of both bundles: RETRAINS counts, sheets are extended, and a width that cannot be kept
falls (R145, R147, R152). The fifth recovery in a second is the loss of the die. -/
def enterRecovery (n : Nat) (up down : LaneTest) (d : Dev) : Dev :=
  let l := linkOf d n
  if l.state ≠ .up then d
  else
    let rs := recentRecoveries d l
    let d := updLink d n (fun l => { l with state := .recovery, retrains := min 255 (l.retrains + 1), recoveries := rs, agreeUp := 0, agreeDown := 0 })
    if 5 ≤ rs.length then fenceDie n 1 d
    else
      match buildSheet (linkOf d n).hubUp (linkOf d n).upBad up, buildSheet (linkOf d n).hubDown (linkOf d n).downBad down with
      | some u, some v =>
        updLink d n (fun l =>
          { l with hubUp := u.1, upBad := u.2, dieUp := ((buildSheet l.dieUp l.upBad up).map (fun r => r.1)).getD l.dieUp,
                   hubDown := v.1, downBad := v.2, dieDown := ((buildSheet l.dieDown l.downBad down).map (fun r => r.1)).getD l.dieDown,
                   reason := if sheetWidth u.1 < 3 ∨ sheetWidth v.1 < 3 then 0x0801 else l.reason })
      | _, _ => updLink d n (fun l => { l with reason := 0x0802 })

/-- No lane found bad. -/
def cleanTest : LaneTest := { data := 0, spares := 0, clocks := 0 }

/-- The unacknowledged flits from a SEQ onward. -/
def flitsFrom (b : Bundle) (seq : Nat) : List (Nat × FMsg) := b.unacked.dropWhile (fun e => e.1 != seq)
/-- The flits of a bundle from a SEQ onward are sent again, and counted (R144). -/
def resend (n : Nat) (up : Bool) (seq : Nat) (d : Dev) : Dev :=
  let k := (flitsFrom (bundleOf (linkOf d n) up) seq).length
  if k = 0 then d else emit (.replay n up seq k) (updLink d n (fun l => { l with replays := (l.replays + k) % 2 ^ 64 }))
/-- A replay that begins with a SEQ: the earlier replays of that SEQ have failed, and once eight in a row have, the link enters recovery instead
(R144, R145). -/
def replayFrom (n : Nat) (up : Bool) (seq : Nat) (d : Dev) : Dev :=
  let b := bundleOf (linkOf d n) up
  if (flitsFrom b seq).isEmpty then d
  else
    let failed := if b.replaySeq = some seq then b.failedReplays + 1 else 0
    let d := updBundle n up (fun b => { b with replaySeq := some seq, failedReplays := failed }) d
    if 8 ≤ failed then enterRecovery n cleanTest cleanTest d else resend n up seq d

/-- REPLAY_TIMEOUT: ACK has not advanced for 1 µs while flits are unacknowledged (R144). -/
def replayTimeout (n : Nat) (up : Bool) (d : Dev) : Dev :=
  match (bundleOf (linkOf d n) up).unacked with
  | e :: _ => if (linkOf d n).state = .up then replayFrom n up e.1 d else d
  | [] => d
def execReplayTimeout (die : DieN) (up : Bool) (s : State) : Outcome State Fault Refusal := onDev (replayTimeout die up) s

def execLinkRecovery (die : DieN) (up down : LaneTest) (s : State) : Outcome State Fault Refusal := onDev (enterRecovery die up down) s

/-- Recovery that does not complete within 3 ms loses the die (R145, R212 cause 1). Where it is a supply of the die or of one of its cores that has
collapsed, the world event tells the secure world; the die's own record names it (R392). -/
def recoveryTimeout (n : Nat) (supply : Bool) (d : Dev) : Dev :=
  if (linkOf d n).state = .recovery then (if supply then emit (.aplic .worldEvent) (fenceDie n 1 d) else fenceDie n 1 d) else d
def execRecoveryTimeout (die : DieN) (supply : Bool) (s : State) : Outcome State Fault Refusal := onDev (recoveryTimeout die supply) s

/-! ### Training (R147–R151) -/

def fusedSheets (d : Dev) (n : Nat) : DieFuses := tabGet dieFusesInit d.fuses.die n
/-- The package binding the hub holds (R150). -/
def hubBinding (d : Dev) : Nat := (tabGet dieFusesInit d.fuses.die 12).binding

/-- Steps 1–4 of a link start: the hub extends the sheets it keeps, or its fused ones; the die extends its own (R147, R152). -/
def startTraining (n : Nat) (o : LinkObs) (d : Dev) : Dev :=
  let f := fusedSheets d n
  let l := linkOf d n
  let hu := if l.hubUp = 0 then f.upSheet else l.hubUp
  let hd := if l.hubDown = 0 then f.downSheet else l.hubDown
  if !o.pll then updLink d n (fun l => { l with state := .untrained, reason := 0x0802 })
  else match buildSheet hu l.upBad o.up, buildSheet hd l.downBad o.down with
    | some u, some v =>
      updLink d n (fun l =>
        { l with state := .training, hubUp := u.1, upBad := u.2, hubDown := v.1, downBad := v.2,
                 dieUp := ((buildSheet f.upSheet l.upBad o.up).map (fun r => r.1)).getD f.upSheet,
                 dieDown := ((buildSheet f.downSheet l.downBad o.down).map (fun r => r.1)).getD f.downSheet,
                 reason := if sheetWidth u.1 < 3 ∨ sheetWidth v.1 < 3 then 0x0801 else 0, agreeUp := 0, agreeDown := 0, idMismatch := false,
                 upAdopted := false, downAdopted := false })
    | _, _ => updLink d n (fun l => { l with state := .untrained, reason := 0x0802 })

/-- The hub sends its digests (R149). -/
def sendFrame (n : Nat) (d : Dev) : Dev :=
  let l := linkOf d n
  emit (.training n (sheetDigest l.hubUp) (sheetDigest l.hubDown)) d

/-- After flit lock a bundle resumes from its oldest unacknowledged SEQ, and what has stalled leaves (R145). -/
def resumeBundle (n : Nat) (up : Bool) (d : Dev) : Dev :=
  let d := match (bundleOf (linkOf d n) up).unacked with
    | e :: _ => resend n up e.1 d
    | [] => d
  drainBundle n up d
/-- Flit lock: widths as the sheets say, credits initialised at a link start, the replay state kept after a recovery (R143, R145, R148 step 7). -/
def lockLink (n : Nat) (d : Dev) : Dev :=
  let fresh := (linkOf d n).state != .recovery
  let d := updLink d n (fun l =>
    { l with state := .up, upWidth := sheetWidth l.hubUp, downWidth := sheetWidth l.hubDown, agreeUp := 0, agreeDown := 0,
             up := if fresh then bundleInit else { l.up with replaySeq := none, failedReplays := 0, discarding := false },
             down := if fresh then bundleInit else { l.down with replaySeq := none, failedReplays := 0, discarding := false } })
  let d := updDie d n (fun x => { x with linkUpSinceReadmit := x.phase == .readmitting })
  resumeBundle n false (resumeBundle n true d)

/-- One bundle's digests disagree: the ends exchange their full sheets, both fall to the next narrower width and the die adopts the hub's sheet; at
x16 the die is fenced (R149). -/
def disagree (n : Nat) (up : Bool) (d : Dev) : Dev :=
  let l := linkOf d n
  let d := emit (.sheet n up (if up then l.hubUp else l.hubDown)) d
  match (if up then narrowSheet l.hubUp l.dieUp l.upBad else narrowSheet l.hubDown l.dieDown l.downBad) with
  | some s =>
    updLink d n (fun l => if up then { l with hubUp := s, dieUp := s, upAdopted := true, agreeUp := 0 }
      else { l with hubDown := s, dieDown := s, downAdopted := true, agreeDown := 0 })
  | none => fenceDie n 2 (updLink d n (fun l => { l with reason := 0x0803 }))

/-- SITE and package binding as the die's fuses present them are not those of the port and the hub (R150, R155). -/
def idWrong (d : Dev) (n : Nat) : Bool := (fusedSheets d n).ident % 16 != n || (fusedSheets d n).binding != hubBinding d

/-- TRAINING_FRAME: a frame from the die. An identity that does not fit stops the training at step 6 (R150); three agreeing frames in a row pass a
bundle (R149). -/
def trainingFrame (n : Nat) (upDigest downDigest : Nat) (crcOk : Bool) (d : Dev) : Dev :=
  let l := linkOf d n
  if !crcOk || l.idMismatch || !(l.state == .training || l.state == .recovery) then d
  else if idWrong d n then updLink d n (fun l => { l with idMismatch := true, reason := 0x0802 })
  else
    let d := if upDigest = sheetDigest l.hubUp then updLink d n (fun l => { l with agreeUp := l.agreeUp + 1 }) else disagree n true d
    let d := if downDigest = sheetDigest l.hubDown then updLink d n (fun l => { l with agreeDown := l.agreeDown + 1 }) else disagree n false d
    let d := sendFrame n d
    let l := linkOf d n
    if (l.state == .training || l.state == .recovery) && decide (3 ≤ l.agreeUp) && decide (3 ≤ l.agreeDown) then lockLink n d else d
def execTrainingFrame (die : DieN) (upDigest downDigest : Nat) (crcOk : Bool) (s : State) : Outcome State Fault Refusal :=
  onDev (trainingFrame die upDigest downDigest crcOk) s

/-- LINK_TRAINING: the start of a link whose die has been released to train (R148, R216): steps 1–5, and the hub's first frame. -/
def linkTraining (n : Nat) (o : LinkObs) (d : Dev) : Dev :=
  if (linkOf d n).state = .training then sendFrame n (startTraining n o d) else d
def execLinkTraining (die : DieN) (obs : LinkObs) (s : State) : Outcome State Fault Refusal := onDev (linkTraining die obs) s

/-- Agreement of both bundles carried to its end within bring-up (R148, R149): falls until the digests agree, or a failure code. -/
def settle (n : Nat) (up : Bool) : Nat → Dev → Except Nat Dev
  | 0, d => .ok d
  | k + 1, d =>
    let l := linkOf d n
    let h := if up then l.hubUp else l.hubDown
    let e := if up then l.dieUp else l.dieDown
    if sheetDigest h = sheetDigest e then .ok d
    else if sheetWidth h ≤ 1 ∨ (narrowSheet h e (if up then l.upBad else l.downBad)).isNone then .error 0x0803
    else settle n up k (disagree n up d)

/-- A link whose bundle disagrees at x16 within bring-up: the die is fenced, and the stage fails (R149, R212 cause 2). -/
def bringUpFence (n c : Nat) (d : Dev) : Dev × Option Nat :=
  let d := updDie d n (fun x => { x with phase := .fenced, cause := 2, retired := true, fences := min 255 (x.fences + 1), fenceTime := d.now })
  (updLink d n (fun l => { l with reason := c, state := .fenced }), some c)
/-- One link's whole start within stage 0x06: up, or its reason code (R55, R148–R150, R157). -/
def trainLink (n : Nat) (o : LinkObs) (d : Dev) : Dev × Option Nat :=
  if (jigOf d n).inJig then (updLink d n (fun l => { l with state := .jig, reason := 0x0802 }), some 0x0802)
  else
    let d := startTraining n o d
    if (linkOf d n).state ≠ .training then (d, some 0x0802)
    else if idWrong d n then (updLink d n (fun l => { l with idMismatch := true, reason := 0x0802 }), some 0x0802)
    else match settle n true 3 d with
      | .error c => bringUpFence n c d
      | .ok d => match settle n false 3 d with
        | .error c => bringUpFence n c d
        | .ok d => (lockLink n d, none)

/-- A retrain (R151): while the link is up, steps 5–7 with the working sheets, at the widest width they allow, message flits stalling until flit
lock; otherwise nothing. STATE reads 3 meanwhile (DEDUCED, log entry 46). -/
def retrainLink (n : Nat) (d : Dev) : Dev :=
  if (linkOf d n).state = .up then
    updLink d n (fun l =>
      let widen (s bad : Nat) : Nat := match chooseGroup (fun k => getBit bad k) 3 with | some wg => setShape s wg.1 wg.2 | none => s
      { l with state := .recovery, hubUp := widen l.hubUp l.upBad, dieUp := widen l.dieUp l.upBad, hubDown := widen l.hubDown l.downBad,
               dieDown := widen l.dieDown l.downBad, agreeUp := 0, agreeDown := 0, retrains := min 255 (l.retrains + 1) })
  else d

/-! ### Wake, time bases, jig mode -/

/-- WAKE_PATTERN: a folded link and die come out of fold (R153); the harts wake by their own conditions. -/
def wakePattern (n : Nat) (byHub : Bool) (d : Dev) : Dev :=
  if (linkOf d n).state = .folded then
    let d := if byHub then d else emit (.wake n false) d
    unfold n (updDie d n (fun x => { x with snoopBusy := true }))
  else d
def execWakePattern (die : DieN) (byHub : Bool) (s : State) : Outcome State Fault Refusal := onDev (wakePattern die byHub) s

def execDieTimeBaseUnlock (die : DieN) (s : State) : Outcome State Fault Refusal := onDev (fun d => updLink d die (fun l => { l with tbFallback := true })) s
def execHubTimeBaseUnlock (s : State) : Outcome State Fault Refusal := onDev (fun d => { d with holdover := true }) s
def execHubTimeBaseRelock (s : State) : Outcome State Fault Refusal := onDev (fun d => { d with holdover := false }) s

/-- JIG_ENTER: only while PKG_RESET_N is held low (R156). The die's caches, or the hub's scratchpads and stores, are zeroed. -/
def jigEnter (n : Nat) (d : Dev) : Dev :=
  if d.pins.pkgReset then
    let d := { d with jig := tabUpd jigInit d.jig n (fun j => { j with inJig := true }) }
    if n < 12 then updLink (updDie d n (fun x => { x with cache := [], wb := [] })) n (fun l => { l with state := .jig })
    else { d with msc := [], slices := [], spad := [] }
  else d
def execJigEnter (die : Fin 13) (s : State) : Outcome State Fault Refusal := onDev (jigEnter die) s

/-- JIG_LOOP's data register names a port the die has: 0 of a compute die, M0–M11 of the hub. -/
def jigPortOk (n port : Nat) : Bool := if n = 12 then decide (port < 12) else port == 0
/-- The die at the far end of a port. -/
def jigFar (n port : Nat) : Nat := if n = 12 then port else 12
/-- JIG_LOOP: the port is selected, and an internal loop, or a far loop through a far die that is in jig mode too, counts errors on its 70 lanes,
saturating at 16 bits; a far reflect sends back what it receives and counts none (R158). -/
def jigLoop (n dr : Nat) (errors : List Nat) (d : Dev) : Dev :=
  let port := getBits dr 8 8
  let kind := dr % 4
  if (jigOf d n).inJig && jigPortOk n port then
    let runs := kind == 0 || (kind == 1 && (jigOf d (jigFar n port)).inJig)
    { d with jig := tabUpd jigInit d.jig n (fun j =>
      { j with port := port, result := if runs then (List.range 70).map (fun i => min 65535 (errors.getD i 0)) else j.result }) }
  else d
def execJigLoop (die : Fin 13) (dr : BitVec 32) (errors : List Nat) (s : State) : Outcome State Fault Refusal := onDev (jigLoop die dr.toNat errors) s

/-- JIG_RESULT: 1,120 bits, lane 0 first (R158). -/
def execJigResult (die : Fin 13) (s : State) : Outcome State Fault Refusal :=
  onDev (fun d => if (jigOf d die).inJig then
    emit (.jtag die ((List.range 70).foldl (fun n i => n + (jigOf d die).result.getD i 0 * 2 ^ (16 * i)) 0)) d else d) s

/-- JIG_SHEET: the fused up sheet, then the down sheet, of the selected port (R158). -/
def execJigSheet (die : Fin 13) (s : State) : Outcome State Fault Refusal :=
  onDev (fun d => if (jigOf d die).inJig then
    let f := fusedSheets d (if die.val = 12 then (jigOf d 12).port else die.val)
    emit (.jtag die (f.upSheet + 2 ^ 64 * f.downSheet)) d else d) s

end Sys2Proof.Machine
end

