-- ==== Sys2Proof/Machine/Observe.lean ====
section
/-!
DEFINITION. Sampling (R475–R479), the windows of corrected errors (R483) and the overflow flags (R468).
-/
set_option linter.unusedVariables false
set_option linter.constructorNameAsVariable false

namespace Sys2Proof.Machine

open Host (Outcome)

/-- The countdown's next start: PERIOD and a random part of JITTER bits, a free value (R475). -/
def reloadCount (x : Hart) (v : Nat) : Nat := x.hsPeriod + v % 2 ^ x.hsJitter

/-- hsmpctl's fields from a written word (R477): PERIOD of at least 256; EN 1 clears STOP; the countdown starts where EN rises. -/
def hsmpctlPut (v r : Nat) (x : Hart) : Hart :=
  let y := { x with
    hsJitter := getBits v 40 4, hsPeriod := max 256 (getBits v 16 24), hsIrq := getBit v 3, hsWrap := getBit v 2, hsEn := getBit v 0,
    hsStop := if getBit v 0 then 0 else x.hsStop }
  if getBit v 0 && !x.hsEn then { y with hsCount := reloadCount y r } else y

/-- HSMPCTL_WRITE: the CSR instruction, with the checks of its mode. -/
def hsmpctlWrite (h insn v : Nat) (d : Dev) : Dev :=
  csrWrite h 0x6C2 insn v (hsmpctlOf (hartOf d h)) (fun v => hsmpctlPut v (freeVal d)) (drawn d)
def execHsmpctlWrite (h : HartN) (insn : BitVec 32) (value : Word) (s : State) : Outcome State Fault Refusal :=
  onDev (onHart h (hsmpctlWrite h insn.toNat value.toNat)) s

/-- The hart's present context is sampled (R476). -/
def sampledNow (d : Dev) (x : Hart) : Bool :=
  (x.mode != .m || !secureExists d) && (x.eid == 0 || enclNonInv d x.eid)

/-- SAMPLE_COUNTDOWN: the next micro-operation is tagged, or the sample is dropped; the countdown reloads (R475). -/
def sampleCountdown (h : Nat) (d : Dev) : Dev :=
  let x := hartOf d h
  if x.hsEn && sampledNow d x then
    let d := if x.hsTagged then countHart h 0x25 d else updHart d h (fun x => { x with hsTagged := true })
    let r := freeVal d
    updHart (drawn d) h (fun x => { x with hsCount := reloadCount x r })
  else d
def execSampleCountdown (h : HartN) (s : State) : Outcome State Fault Refusal := onDev (onHart h (sampleCountdown h)) s

/-- CTX of a record: privilege, V, world, inside an enclave (R478). -/
def sampleCtx (d : Dev) (x : Hart) : Nat :=
  packFields [(modePriv x.mode, 0, 2), (b2n (modeV x.mode), 2, 1), (b2n (worldSecure d x x.mode), 3, 1), (b2n (x.eid != 0), 4, 1)]

/-- A sampling record (R478). -/
def sampleBytes (d : Dev) (h : Nat) (o : SampleObs) : List Byte :=
  let x := hartOf d h
  leBytes 2 1 ++ leBytes 2 h ++ leBytes 2 (o.flags % 1024) ++ leBytes 1 o.source ++ leBytes 1 (sampleCtx d x) ++ leBytes 8 o.pc ++
  leBytes 8 o.vaddr ++ leBytes 8 o.paddr ++ leBytes 2 (min 65535 o.issueLat) ++ leBytes 2 (min 65535 o.execLat) ++
  leBytes 2 (min 65535 o.retireLat) ++ leBytes 2 (min 65535 o.tlbLat) ++ leBytes 4 o.insn.toNat ++ leBytes 2 x.eid ++
  leBytes 2 (x.htenant % 4096) ++ leBytes 8 d.kerf.counter ++ leBytes 8 d.now

/-- The identity a record is written for: the hart's lower world, or its enclave (R479). -/
def sampleIdent (d : Dev) (x : Hart) : Ident :=
  if x.eid ≠ 0 then .enclave x.eid else if secureExists d && x.lowerSecure then .secure else .normal

/-- Slots of the buffer. -/
def sampleSlots (x : Hart) : Nat := 64 * 2 ^ x.hsSize
/-- Interrupt 25, where IRQ asks for it. -/
def sampleIrq (h : Nat) (d : Dev) : Dev :=
  updHart d h (fun x => if x.hsIrq then { x with irqPending := nubNat (x.irqPending ++ [25]) } else x)

/-- INDEX advances; it wraps at the capacity, or sampling stops there (R479). -/
def sampleAdvance (h : Nat) (d : Dev) : Dev :=
  let d := updHart d h (fun x => { x with hsPos := x.hsPos + 1 })
  let x := hartOf d h
  if sampleSlots x ≤ x.hsPos then
    (if x.hsWrap then sampleIrq h (updHart d h (fun x => { x with hsPos := 0 })) else sampleStop h 1 d)
  else if x.hsPos = sampleSlots x / 2 then sampleIrq h d
  else d

/-- SAMPLE_RECORD: the tagged micro-operation retires or is squashed, and its record goes to slot INDEX (R475, R479). -/
def sampleRecord (h : Nat) (o : SampleObs) (d : Dev) : Dev :=
  let x := hartOf d h
  if x.hsTagged then
    let d := updHart d h (fun x => { x with hsTagged := false })
    if !x.hsEn then d
    else if sampleSlots x ≤ x.hsPos then
      (if x.hsWrap then sampleIrq h (updHart d h (fun x => { x with hsPos := 0 })) else sampleStop h 1 d)
    else
      let a := x.hsBase + 64 * x.hsPos
      if !isMain d a then sampleStop h 3 d
      else if !getBit (potRights (potEntry d a) (sampleIdent d x)) 1 then sampleStop h 2 (potRecord a d)
      else sampleAdvance h (countHart h 0x24 (cohWriteLine (a / 64) (bytesLine (sampleBytes d h o)) d))
  else d
def execSampleRecord (h : HartN) (o : SampleObs) (s : State) : Outcome State Fault Refusal := onDev (onHart h (sampleRecord h o)) s

/-- CE_WINDOW_ROLL: the counts of corrected errors start again (R483). -/
def ceWindowRoll (d : Dev) : Dev := { d with obs := { d.obs with ce := [], ceActed := [], windowStart := d.now } }
def execCeWindowRoll (s : State) : Outcome State Fault Refusal := onDev ceWindowRoll s

/-- Every OVF of every bank clears (R468). -/
def ovfClear (d : Dev) : Dev := { d with obs := { d.obs with ctr := tabMap 0 (fun _ v => v % 2 ^ 48) d.obs.ctr } }

end Sys2Proof.Machine
end

