-- ==== Sys2Proof/Machine/Owners.lean ====
section
/-!
DEFINITION. The hub's page and enclave commands (R372–R383): a hart's command slot, the changes of a page's owner (R376), and the
IOMMU's invalidations (R139). A command runs within the write of CMD; its bounds are left out (log entry 16).
-/
set_option linter.unusedVariables false

namespace Sys2Proof.Machine

open Host (Outcome)

def cmdOf (d : Dev) (h : Nat) : CmdSlot := tabGet cmdSlotInit d.cmds h
def updCmd (d : Dev) (h : Nat) (f : CmdSlot → CmdSlot) : Dev := { d with cmds := tabUpd cmdSlotInit d.cmds h f }

/-! ### Changing a page (R376) -/

/-- Write a page's entry: with the store every translation, BTU entry and IOMMU entry for the page dies (step 1). -/
def potStore (page v : Nat) (d : Dev) : Dev :=
  let a := d.pot.base + page / 4096 * 2
  let d := cohWrite a (leBytes 2 v) d
  let d := (List.range 12).foldl (fun d n => killLine n (a / 64) d) d
  let d := (List.range 4).foldl (fun d b => btuKill b (fun e => decide (e.pa < page + 4096) && decide (page < e.pa + 2 ^ e.size)) d) d
  { d with iommu := d.iommu.filter (fun e => e.pa != page) }

/-- Full-line writes of zeros over a page; any poison clears (step 3). -/
def zeroPage (page : Nat) (d : Dev) : Dev := (List.range 64).foldl (fun d i => cohWriteLine (page / 64 + i) 0 d) d
/-- A page's lines copied, poison with them. -/
def copyPage (src dst : Nat) (d : Dev) : Dev :=
  (List.range 64).foldl (fun d i =>
    let x := cohRead d (src / 64 + i)
    memWrite (dst / 64 + i) x.1 x.2 (takeLine (dst / 64 + i) d)) d

/-- Change one page: unassigned, then zeroed where asked, then its final entry. -/
def changePage (v : Nat) (zero : Bool) (page : Nat) (d : Dev) : Dev :=
  let d := potStore page 0x6000 d
  let d := if zero then zeroPage page d else d
  if v = 0x6000 then d else potStore page v d

/-! ### Codes (R374) -/

def hcOk : Nat := 0
def hcLocked : Nat := 1
def hcTransition : Nat := 2
def hcNotCovered : Nat := 3
def hcEidInUse : Nat := 4
def hcEidUnknown : Nat := 5
def hcState : Nat := 6
def hcInside : Nat := 7
def hcArg : Nat := 8
def hcRemain : Nat := 9

def potLocked (e : Nat) : Bool := getBit e 15

/-- A page a command names: in DRAM and in the covered range, unlocked, of a class the command takes. -/
def pageCode (d : Dev) (ok : Nat → Bool) (page : Nat) : Nat :=
  if isDram d page = false ∨ d.pot.cover ≤ page then hcNotCovered
  else if potLocked (potEntry d page) then hcLocked
  else if ok (potClass (potEntry d page)) then hcOk
  else hcTransition

/-- The first page of a list a check fails for, with its index. -/
def firstBad (code : Nat → Nat) : Nat → List Nat → Nat × Nat
  | _, [] => (hcOk, 0)
  | i, p :: ps => if code p = hcOk then firstBad code (i + 1) ps else (code p, i)

def pagesFrom (a n : Nat) : List Nat := (List.range n).map (fun i => a + 4096 * i)

/-- A function with this instance owner number exists (R324). -/
def instanceExists (oid : Nat) : Bool := decide (oid / 512 < 4) && decide (oid % 512 ≤ 256)

/-- Some hart is inside an enclave. -/
def hartInside (d : Dev) (eid : Nat) : Bool := (List.range 216).any (fun h => (hartOf d h).eid == eid)

/-- Enclave identity and state checks, in that order. -/
def eidCode (d : Dev) (eid : Nat) (states : List Nat) : Nat :=
  if eid = 0 ∨ 4096 ≤ eid ∨ (enclOf d eid).state = 0 then hcEidUnknown
  else if states.contains (enclOf d eid).state then hcOk
  else hcState

/-! ### The commands (R373, R375, R378–R383): each answers CODE, RESULT and the package -/

abbrev Answer := Nat × Nat × Dev
def refuse (code result : Nat) (d : Dev) : Answer := (code, result, d)
def done (d : Dev) : Answer := (hcOk, 0, d)

/-- SET_OWNER. -/
def cmdSetOwner (a : CmdSlot) (d : Dev) : Answer :=
  let n := a.a1
  let new := a.a2
  let cls := potClass new
  if a.a0 % 4096 ≠ 0 ∨ n = 0 ∨ 512 < n ∨ 65536 ≤ new ∨ potLocked new ∨ (cls = 6 ∧ potOid new ≠ 0) then refuse hcArg 0 d
  else if !(cls == 0 || cls == 1 || cls == 3 || cls == 6) || (cls == 1 && !secureExists d) then refuse hcTransition 0 d
  else if cls = 3 ∧ instanceExists (potOid new) = false then refuse hcArg 0 d
  else
    let bad := firstBad (pageCode d (fun c => c == 0 || c == 1 || c == 3 || c == 6)) 0 (pagesFrom a.a0 n)
    if bad.1 ≠ hcOk then refuse bad.1 bad.2 d
    else done ((pagesFrom a.a0 n).foldl (fun d p =>
      let old := potEntry d p
      let zero := (potClass old == 1 && cls != 1) || (potClass old == 3 && (cls != 3 || potOid old != potOid new))
      changePage new zero p d) d)

/-- ECREATE. -/
def cmdEcreate (a : CmdSlot) (d : Dev) : Answer :=
  let th := getBits a.a2 8 8
  if a.a0 = 0 ∨ 4096 ≤ a.a0 then refuse hcEidUnknown 0 d
  else if a.a1 % 4096 ≠ 0 ∨ a.a3 % 4 ≠ 0 ∨ th = 0 ∨ 64 < th ∨ getBits a.a2 16 48 ≠ 0 ∨ getBits a.a2 6 2 ≠ 0 ∨ getBit a.a2 3 ∨ getBits a.a2 4 2 = 3 ∨
      (getBit a.a2 2 ∧ secureExists d = false) then refuse hcArg 0 d
  else if (enclOf d a.a0).state ≠ 0 then refuse hcEidInUse 0 d
  else
    let ps := pagesFrom a.a1 (1 + th)
    let bad := firstBad (pageCode d (fun c => c == 0 || c == 6)) 0 ps
    if bad.1 ≠ hcOk then refuse bad.1 bad.2 d
    else
      let d := ps.foldl (fun d p => changePage 0xC000 true p d) d
      done (updEncl d a.a0 (fun _ => { enclaveInit with
        state := 1, attr := a.a2, entry := a.a3, ctrl := a.a1,
        input := [0x45, 0x43, 0x52, 0x45, 0x41, 0x54, 0x45, 0] ++ leBytes 8 a.a2 ++ leBytes 8 a.a3 }))

/-- EADD. -/
def cmdEadd (a : CmdSlot) (d : Dev) : Answer :=
  let eid := a.a0
  let e := enclOf d eid
  let ec := eidCode d eid [1, 2]
  let root := getBit a.a3 3
  let rep := getBit a.a3 2
  let meas := getBit a.a3 1
  if ec ≠ hcOk then refuse ec 0 d
  else if a.a1 % 4096 ≠ 0 ∨ a.a2 % 4096 ≠ 0 ∨ getBits a.a3 4 8 ≠ 0 ∨ getBit a.a3 0 ∨ a.a1 = a.a2 ∨ (rep ∧ e.report.isSome) ∨
      (e.state = 2 ∧ (a.a2 ≠ 0 ∨ root ∨ rep ∨ meas)) then refuse hcArg 0 d
  else
    let bad := pageCode d (fun c => c == 0 || c == 6) a.a1
    let src := potEntry d a.a2
    if bad ≠ hcOk then refuse bad 0 d
    else if a.a2 ≠ 0 ∧ isDram d a.a2 = false then refuse hcNotCovered 1 d
    else if a.a2 ≠ 0 ∧ d.pot.cover ≤ a.a2 then refuse hcNotCovered 1 d
    else if a.a2 ≠ 0 ∧ potClass src ≠ 0 ∧ potClass src ≠ 1 then refuse hcTransition 1 d
    else
      let d := potStore a.a1 0x6000 d
      let d := if a.a2 = 0 then zeroPage a.a1 d else copyPage a.a2 a.a1 d
      let d := potStore a.a1 (0xA000 + eid) d
      let page := if meas then cohBytes d a.a1 4096 else []
      done (updEncl d eid (fun e => { e with
        pages := e.pages + 1,
        roots := if root then e.roots ++ [a.a1] else e.roots,
        report := if rep then some a.a1 else e.report,
        input := if e.state = 1 then e.input ++ [0x45, 0x41, 0x44, 0x44, 0, 0, 0, 0] ++ leBytes 8 a.a3 ++ page else e.input }))

/-- EINIT: exactly one ROOT page (R380). -/
def cmdEinit (a : CmdSlot) (d : Dev) : Answer :=
  let ec := eidCode d a.a0 [1]
  if ec ≠ hcOk then refuse ec 0 d
  else if (enclOf d a.a0).roots.length ≠ 1 then refuse hcState 0 d
  else done (updEncl d a.a0 (fun e => { e with state := 2, meas := sha512 e.input }))

/-- ESTOP. -/
def cmdEstop (a : CmdSlot) (d : Dev) : Answer :=
  let ec := eidCode d a.a0 [1, 2, 3, 4]
  if ec ≠ hcOk then refuse ec 0 d
  else if hartInside d a.a0 then refuse hcInside 0 d
  else done (updEncl d a.a0 (fun e => { e with state := 4, slots := [] }))

/-- EREMOVE of a page or, last, of the control region. -/
def cmdEremove (a : CmdSlot) (d : Dev) : Answer :=
  let e := enclOf d a.a0
  let ec := eidCode d a.a0 [1, 3, 4]
  if ec ≠ hcOk then refuse ec 0 d
  else if hartInside d a.a0 then refuse hcInside 0 d
  else if a.a1 % 4096 ≠ 0 then refuse hcArg 0 d
  else if isDram d a.a1 = false ∨ d.pot.cover ≤ a.a1 then refuse hcNotCovered 0 d
  else if a.a1 = e.ctrl then
    if e.pages ≠ 0 then refuse hcRemain 0 d
    else
      let d := (pagesFrom e.ctrl (1 + getBits e.attr 8 8)).foldl (fun d p => changePage 0x6000 true p d) d
      done (updEncl d a.a0 (fun _ => enclaveInit))
  else if potClass (potEntry d a.a1) = 2 ∧ potOid (potEntry d a.a1) = a.a0 then
    let d := changePage 0x6000 true a.a1 d
    done (updEncl d a.a0 (fun e => { e with
      pages := e.pages - 1,
      roots := e.roots.filter (fun p => p != a.a1),
      report := if e.report = some a.a1 then none else e.report }))
  else refuse hcArg 0 d

/-- EQUERY: state, slots in use, pages. -/
def cmdEquery (a : CmdSlot) (d : Dev) : Answer :=
  let ec := eidCode d a.a0 [1, 2, 3, 4]
  if ec ≠ hcOk then refuse ec 0 d
  else
    let e := enclOf d a.a0
    (hcOk, packFields [(e.pages, 0, 48), ((e.slots.filter (fun s => s.2.isSome)).length, 48, 8), (e.state, 56, 8)], d)

/-- The pages whose entries a command changes. -/
def cmdPages (cmd : Nat) (a : CmdSlot) (d : Dev) : List Nat :=
  match cmd with
  | 1 => pagesFrom a.a0 (min a.a1 512)
  | 2 => pagesFrom a.a1 (1 + getBits a.a2 8 8)
  | 3 => [a.a1]
  | 6 => if a.a1 = (enclOf d a.a0).ctrl then pagesFrom a.a1 (1 + getBits (enclOf d a.a0).attr 8 8) else [a.a1]
  | _ => []
/-- An access that a page's change waits for has not performed (R376): an inlay request that has passed check 5 for the page (R166), a device's, or a
core's uncached or maintenance access, whose translation a kill no longer takes back (R119). -/
def accessPending (d : Dev) (pages : List Nat) : Bool :=
  let on (line : Nat) : Bool := pages.contains (line * 64 / 4096 * 4096)
  let mine (line : Nat) : Req → Bool
    | .agent (.inlay _ _) _ | .agent (.device _ _ _) _ => on line
    | _ => false
  d.slices.any (fun s => s.2.trk.any (fun t => mine t.line t.req && !t.granted) || s.2.ingress.any (fun e => mine e.2.1 e.2.2.1)) ||
  d.dies.any (fun x => x.2.misses.any (fun m => (m.kind == 3 || m.kind == 5) && on m.line))
/-- Run a command with its arguments; its CODE and RESULT stand when BUSY reads 0 again. -/
def finishCmd (h : Nat) (cmd : Nat) (a : CmdSlot) (d : Dev) : Dev :=
    let r : Answer := match cmd with
      | 1 => cmdSetOwner a d
      | 2 => cmdEcreate a d
      | 3 => cmdEadd a d
      | 4 => cmdEinit a d
      | 5 => cmdEstop a d
      | 6 => cmdEremove a d
      | 7 => cmdEquery a d
      | _ => refuse hcArg 0 d
    updCmd r.2.2 h (fun x => { x with cmd := cmd, busy := false, code := r.1, result := r.2.1, latched := [] })
/-- A write of CMD: ignored while BUSY reads 1; a command that changes a page with such an access under way stays BUSY until that has performed
(R372, R376, log entry 16). -/
def runCmd (h : Nat) (cmd : Nat) (d : Dev) : Dev :=
  let a := cmdOf d h
  if a.busy then d
  else if accessPending d (cmdPages cmd a d) then updCmd d h (fun x => { x with cmd := cmd, busy := true, latched := [a.a0, a.a1, a.a2, a.a3] })
  else finishCmd h cmd a d
/-- Commands that waited run once nothing holds them back. -/
def finishCmds (d : Dev) : Dev :=
  d.cmds.foldl (fun d e =>
    let c := e.2
    let a := { c with a0 := c.latched.getD 0 0, a1 := c.latched.getD 1 0, a2 := c.latched.getD 2 0, a3 := c.latched.getD 3 0 }
    if c.busy && !accessPending d (cmdPages c.cmd a d) then finishCmd e.1 c.cmd a d else d) d
/-- A hart's write of CMD in its own slot: in M mode, which alone reaches the hub control range (R371, R372). -/
def hartCmd (h cmd : Nat) (d : Dev) : Dev := onHart h (fun d => if (hartOf d h).mode = .m then runCmd h cmd d else d) d

def execSetOwner (h : HartN) (s : State) : Outcome State Fault Refusal := onDev (hartCmd h 1) s
def execEcreate (h : HartN) (s : State) : Outcome State Fault Refusal := onDev (hartCmd h 2) s
def execEadd (h : HartN) (s : State) : Outcome State Fault Refusal := onDev (hartCmd h 3) s
def execEinit (h : HartN) (s : State) : Outcome State Fault Refusal := onDev (hartCmd h 4) s
def execEstop (h : HartN) (s : State) : Outcome State Fault Refusal := onDev (hartCmd h 5) s
def execEremove (h : HartN) (s : State) : Outcome State Fault Refusal := onDev (hartCmd h 6) s
def execEquery (h : HartN) (s : State) : Outcome State Fault Refusal := onDev (hartCmd h 7) s

/-! ### Hold registers (R390) -/

/-- Write a hold register; ignored while the secure world does not exist. Harts whose rest a hold deferred pass into it at the release (R102). -/
def holdWrite (r v : Nat) (d : Dev) : Dev :=
  if secureExists d then
    releaseRest (match r with
      | 0 => { d with holds := setBits d.holds 0 64 v }
      | 1 => { d with holds := setBits d.holds 64 64 v }
      | 2 => { d with holds := setBits d.holds 128 64 v }
      | 3 => { d with holds := setBits d.holds 192 24 v }
      | _ => { d with holdUnits := packFields [(v, 0, 12), (getBits v 16 4, 16, 4)] })
  else d
/-- A hold register as it reads. -/
def holdRead (d : Dev) (r : Nat) : Nat :=
  if secureExists d then (if r < 4 then getBits d.holds (64 * r) 64 else d.holdUnits) else 0
/-- A machine-mode write (R371, R390). -/
def execHoldRegisterWrite (h : HartN) (r : Fin 5) (v : Word) (s : State) : Outcome State Fault Refusal :=
  onDev (onHart h (fun d => if (hartOf d h).mode = .m then holdWrite r v.toNat d else d)) s

/-! ### The IOMMU's commands (R139; scopes as the IOMMU specification gives them, log entry 11) -/

def ioMatch (gv : Bool) (gscid : Nat) (e : IoEnt) : Bool := if gv then e.gscid == some gscid else e.gscid.isNone
/-- IOTINVAL.VMA: first-stage entries of the host or of one virtual machine, by process and address where those are valid. -/
def iotinvalVma (gv : Bool) (gscid : Nat) (av : Bool) (addr : Nat) (pscv : Bool) (pscid : Nat) (d : Dev) : Dev :=
  { d with iommu := d.iommu.filter (fun e => !(ioMatch gv gscid e && (!av || e.page == addr / 4096) && (!pscv || e.pscid == some pscid))) }
def execIotinvalVma (gv : Bool) (gscid : Nat) (av : Bool) (addr : Nat) (pscv : Bool) (pscid : Nat) (s : State) : Outcome State Fault Refusal :=
  onDev (iotinvalVma gv gscid av addr pscv pscid) s
/-- IOTINVAL.GVMA: second-stage entries of every virtual machine or of one, by guest physical address where that is valid. -/
def iotinvalGvma (gv : Bool) (gscid : Nat) (av : Bool) (addr : Nat) (d : Dev) : Dev :=
  { d with iommu := d.iommu.filter (fun e => !(e.gscid.isSome && (!gv || e.gscid == some gscid) && (!(gv && av) || e.gpage == addr / 4096))) }
def execIotinvalGvma (gv : Bool) (gscid : Nat) (av : Bool) (addr : Nat) (s : State) : Outcome State Fault Refusal :=
  onDev (iotinvalGvma gv gscid av addr) s
/-- IOFENCE.C: every earlier invalidation has completed; with AV, 4 bytes of data go to memory. -/
def iofence (av : Bool) (addr data : Nat) (d : Dev) : Dev := if av && isMain d addr then cohWrite (addr / 4 * 4) (leBytes 4 data) d else d
def execIofenceC (av : Bool) (addr data : Nat) (s : State) : Outcome State Fault Refusal := onDev (iofence av addr data) s

end Sys2Proof.Machine
end

