-- ==== Sys2Proof/Machine/Snap.lean ====
section
/-!
DEFINITION. The hub and bench snapshots of the checkpoint block (R414) and the slots of enclaves (R382), as bytes of mirrored memory. The spec
gives what they hold and where, and only the hub reads them; the layout inside is the model's (log entry 19).
-/
set_option linter.unusedVariables false

namespace Sys2Proof.Machine

/-- Numbers laid out in widths of bytes, little-endian. -/
def packW : List Nat → List Nat → List Byte
  | w :: ws, v :: vs => leBytes w v ++ packW ws vs
  | _, _ => []
/-- The numbers again. -/
def unpackW : List Nat → List Byte → List Nat
  | [], _ => []
  | w :: ws, b => leNat (b.take w) :: unpackW ws (b.drop w)

def at_ (l : List Nat) (i : Nat) : Nat := l.getD i 0
def bit_ (l : List Nat) (i : Nat) : Bool := at_ l i == 1

/-! ### Benches -/

def ringW : List Nat := [8, 8, 1, 1, 1, 1, 4, 4, 4, 4, 1, 1, 1, 1]
def ringOut (r : Ring) : List Byte :=
  packW ringW [r.sqBase, r.cqBase, r.holdoff, r.cqLog2, r.sqLog2, b2n r.enable, r.sqTail, r.sqHead, r.cqHead, r.cqTail, r.cause, r.dropped, b2n r.phase,
    packFields [(b2n r.stopping, 0, 1), (b2n r.msiDue, 1, 1)]]
def ringIn (b : List Byte) : Ring :=
  let l := unpackW ringW b
  { ringInit with
    sqBase := at_ l 0, cqBase := at_ l 1, holdoff := at_ l 2, cqLog2 := at_ l 3, sqLog2 := at_ l 4, enable := bit_ l 5, sqTail := at_ l 6,
    sqHead := at_ l 7, cqHead := at_ l 8, cqTail := at_ l 9, cause := at_ l 10, dropped := at_ l 11, phase := bit_ l 12,
    stopping := getBit (at_ l 13) 0, msiDue := getBit (at_ l 13) 1 }

def fnW : List Nat := [2, 2, 4, 1, 1, 1, 1, 4, 1, 1, 1, 8, 8, 8, 8, 8]
def fnOut (f : Fn) : List Byte :=
  packW fnW [f.weight, f.cap, f.bindIdReq, f.bindClassReq, f.rings, f.quiesce, b2n f.log, f.bindId, f.bindClass,
    packFields [(b2n f.bindPending, 0, 1), (b2n f.overflow, 1, 1), (b2n f.revoked, 2, 1), (b2n f.flrHeld, 3, 1), (b2n f.d3, 4, 1)], f.qstate,
    f.ioatp, f.dlogBase, f.dlogIova, f.dlogPages, f.abandoned]
/-- A function's registers, over what it keeps of its own (FT_TENANT, R434). -/
def fnIn (b : List Byte) (f : Fn) : Fn :=
  let l := unpackW fnW b
  { f with
    weight := at_ l 0, cap := at_ l 1, bindIdReq := at_ l 2, bindClassReq := at_ l 3, rings := at_ l 4, quiesce := at_ l 5, log := bit_ l 6,
    bindId := at_ l 7, bindClass := at_ l 8, bindPending := getBit (at_ l 9) 0, overflow := getBit (at_ l 9) 1, revoked := getBit (at_ l 9) 2,
    flrHeld := getBit (at_ l 9) 3, d3 := getBit (at_ l 9) 4, qstate := at_ l 10, ioatp := at_ l 11, dlogBase := at_ l 12, dlogIova := at_ l 13,
    dlogPages := at_ l 14, abandoned := at_ l 15 }

def chanW : List Nat := [8, 8, 8, 8, 8, 1, 1, 1]
def chanOut (c : FeedChan) : List Byte := packW chanW [c.mem, c.off, c.count, c.wrap, c.pos, c.dir, c.state, c.cause]
def chanIn (b : List Byte) : FeedChan :=
  let l := unpackW chanW b
  { mem := at_ l 0, off := at_ l 1, count := at_ l 2, wrap := at_ l 3, pos := at_ l 4, dir := at_ l 5, state := at_ l 6, cause := at_ l 7, prefetching := false }

/-- A descriptor in flight without a written record: its copy, function, ring, slot and DEFER_EPOCHS. -/
def jobOut (j : Job) : List Byte := padTo 128 j.bytes ++ packW [2, 1, 4, 4, 5] [j.fn, j.ring, j.slot, j.waited, 0]
def jobIn (id : Nat) (b : List Byte) : Job :=
  let l := unpackW [2, 1, 4, 4] (b.drop 128)
  { id := id, fn := at_ l 0, ring := at_ l 1, slot := at_ l 2, bytes := b.take 128, started := false, admitted := false, deferred := false,
    waited := at_ l 3, startAt := 0, base := 0, keys := [], res := none }

/-- Bytes of a ring, a function with its rings, a channel, a descriptor. -/
def ringLen : Nat := 40
def fnLen : Nat := 59 + 16 * 40
def chanLen : Nat := 43
def jobLen : Nat := 144
def fnsLen : Nat := 257 * fnLen

/-- Put a descriptor in its place by the order of the fetch. -/
def insertJob (j : Job) : List Job → List Job
  | [] => [j]
  | k :: l => if j.id ≤ k.id then j :: k :: l else k :: insertJob j l

/-- The snapshot of a bench. -/
def benchSnap (d : Dev) (b : Nat) : List Byte :=
  let x := benchOf d b
  (List.range 257).flatMap (fun f => padTo 59 (fnOut (fnOf d b f)) ++ (List.range 16).flatMap (fun r => padTo 40 (ringOut (ringOf d b f r)))) ++
  (List.range 16).flatMap (fun c => padTo 43 (chanOut (feedOf d b c))) ++
  (List.range 16).flatMap (fun c => leBytes 2 (tabGet 0 x.chanOwner c)) ++ (List.range 124).flatMap (fun g => leBytes 2 (tabGet 0 x.granOwner g)) ++
  leBytes 4 x.jobs.length ++ (x.jobs.foldr insertJob []).flatMap jobOut

/-- A bench from its snapshot (R422): descriptors in flight at the cut are in flight again. -/
def benchRestore (b : Nat) (bs : List Byte) (d : Dev) : Dev :=
  let o1 := fnsLen
  let o2 := o1 + 16 * chanLen
  let o3 := o2 + 32
  let o4 := o3 + 248
  let n := min (leAt bs o4 4) 4096
  updBench d b (fun x => { x with
    fns := (List.range 257).foldl (fun t f => tabUpd fnInit t f (fnIn (sliceOf bs (f * fnLen) 59))) x.fns,
    rings := (List.range 257).foldl (fun t f => (List.range 16).foldl (fun t r =>
      tabSet ringInit t (ringKey f r) (ringIn (sliceOf bs (f * fnLen + 59 + 40 * r) 40))) t) [],
    chans := (List.range 16).foldl (fun t c => tabSet feedInit t c (chanIn (sliceOf bs (o1 + chanLen * c) chanLen))) [],
    chanOwner := (List.range 16).foldl (fun t c => tabSet 0 t c (leAt bs (o2 + 2 * c) 2)) [],
    granOwner := (List.range 124).foldl (fun t g => tabSet 0 t g (leAt bs (o3 + 2 * g) 2)) [],
    jobs := (List.range n).map (fun i => jobIn (x.nextId + i) (sliceOf bs (o4 + 4 + jobLen * i) jobLen)),
    nextId := x.nextId + n })

/-- The records of a bench's key store as the key-store key opens them: the table that a promoted package serves from (R273, R408, R422). -/
def keysRestore (b : Nat) (d : Dev) : Dev :=
  let x := benchOf d b
  let open1 (i : Nat) : Option KeyRec :=
    let bs := cohBytes d (keyAddr d b i) 2048
    if allZero bs || !Config.stdOk .storeOpen [x.ksKey, leBytes 4 i, bs] then none
    else some (keyFrom (Config.std .storeOpen [x.ksKey, leBytes 4 i, bs]))
  (List.range (storeCap d b)).foldl (fun d i => match open1 i with
    | some k => updBench d b (fun x => { x with keys := tabSet none x.keys i (some k), gens := tabSet 0 x.gens i k.gen })
    | none => d) (updBench d b (fun x => { x with keys := [], window := [] }))

/-! ### The hub -/

/-- The numeric paired entries of R419. -/
def pairedNats : List (Nat × Nat) :=
  [(0x2000, 1), (0x2040, 1), (0x2040, 2), (0x5000, 1), (0x5000, 2), (0x5000, 3), (0x5000, 4), (0x6000, 8), (0x7002, 1), (0x7002, 2), (0x7002, 3),
   (0x7002, 4)] ++ (List.range 12).map (fun n => (0xA030, n + 1))

def enclW : List Nat := [1, 7, 8, 8, 8, 8, 8, 8]
def enclOut (e : Enclave) : List Byte :=
  packW enclW [e.state, e.roots.length, e.attr, e.entry, e.ctrl, e.roots.headD 0, (e.report.map (· + 1)).getD 0, e.pages]

/-- A slot's binding: hart + 1, and whether it is interrupted; a hart inside counts as interrupted, as its checkpoint has left (R382). -/
def slotOut (s : Option Slot) : List Byte := match s with | some x => leBytes 2 (x.hart + 1) | none => [0, 0]

/-- The hub snapshot: the enclave table, the hold registers, the paired entries. -/
def hubSnap (d : Dev) : List Byte :=
  (List.range 4096).flatMap (fun e => padTo 64 (enclOut (enclOf d e)) ++ (List.range 64).flatMap (fun k => slotOut (tabGet none (enclOf d e).slots k))) ++
  leBytes 32 d.holds ++ leBytes 8 d.holdUnits ++ pairedNats.flatMap (fun e => leBytes 8 (ent d e.1 e.2))

/-- A lower-mode state as a slot's page holds it, in the layout of R413. -/
def lowerOut (d : Dev) (h : Nat) (l : Lower) : List Byte := ckptLower (updHart d h (fun x => { loadLower l x with rest := .running })) h d.kerf.counter
def lowerIn (b : List Byte) : Lower :=
  let x := ckptLoadLower b hartInit
  saveLower { x with pc := leAt b 0x10 8, mode := modeOf (getBit (leAt b 4 4) 2) (leAt b 4 4 % 4) }

/-- What a slot holds at the cut: the enclave's running state goes into it as for an asynchronous exit. -/
def slotInner (d : Dev) (eid k : Nat) (s : Slot) : Lower :=
  let x := hartOf d s.hart
  if x.eid = eid ∧ x.slot = k then saveLower x else s.inner

/-- Kerf step 1 writes each slot in use into its page, and the measurement into page 0 (R378, R382). -/
def writeSlots (d : Dev) : Dev :=
  d.encl.foldl (fun d e =>
    let d := if e.2.state = 0 then d else writeChanged e.2.ctrl (padTo 64 e.2.meas) d
    e.2.slots.foldl (fun d s => match s.2 with
      | some x => writeChanged (e.2.ctrl + 4096 * (s.1 + 1)) (padTo 2048 (lowerOut d x.hart x.caller) ++ padTo 2048 (lowerOut d x.hart (slotInner d e.1 s.1 x))) d
      | none => d) d) d

/-- An enclave from the snapshot and its control region. What a BUILDING enclave had hashed is a free value. -/
def enclaveIn (d : Dev) (b : List Byte) : Enclave :=
  let l := unpackW enclW b
  let ctrl := at_ l 4
  { enclaveInit with
    state := at_ l 0, attr := at_ l 2, entry := at_ l 3, ctrl := ctrl, roots := List.replicate (at_ l 1) (at_ l 5),
    report := if at_ l 6 = 0 then none else some (at_ l 6 - 1), pages := at_ l 7, input := leBytes 64 (freeVal d),
    meas := if at_ l 0 = 0 then [] else cohBytes d ctrl 64,
    slots := (List.range 64).foldl (fun t k =>
      let h := leAt b (64 + 2 * k) 2
      if h = 0 then t
      else
        let pg := cohBytes d (ctrl + 4096 * (k + 1)) 4096
        tabSet none t k (some { hart := h - 1, interrupted := true, caller := lowerIn (pg.take 2048), inner := lowerIn (pg.drop 2048) })) [] }

/-- The hub from its snapshot (R422). -/
def hubRestore (bs : List Byte) (d : Dev) : Dev :=
  let o := 4096 * 192
  let es := (List.range 4096).filter (fun e => leAt bs (192 * e) 1 != 0)
  let encl := es.foldl (fun t e => tabSet enclaveInit t e (enclaveIn d (sliceOf bs (192 * e) 192))) []
  let d := drawn { d with encl := encl, holds := leAt bs o 32, holdUnits := leAt bs (o + 32) 8 }
  (pairedNats.zip (List.range pairedNats.length)).foldl (fun d e =>
    if e.1 = (0x2000, 1) then d else setCurNat d e.1.1 e.1.2 (leAt bs (o + 40 + 8 * e.2) 8)) d

def hubSnapBase (d : Dev) : Nat := ent d 0x6001 0 + 0x100000
def benchSnapBase (d : Dev) (b : Nat) : Nat := ent d 0x6001 0 + 0x200000 + b * 0x100000

/-- Lay a byte string out to whole lines. -/
def padLine (bs : List Byte) : List Byte := padTo (ceilDiv bs.length 64 * 64) bs

/-- Kerf step 1 writes the lines of every snapshot that have changed (R411). -/
def writeSnaps (d : Dev) : Dev :=
  let d := writeChanged (hubSnapBase d) (padLine (hubSnap d)) d
  (List.range 4).foldl (fun d b => writeChanged (benchSnapBase d b) (padLine (benchSnap d b)) d) d

/-- Every translation of every hart and bench, and the IOMMU's, dies. -/
def purgeTranslations (d : Dev) : Dev :=
  let d := (List.range 216).foldl (fun d h => if allTlb (hartOf d h) = [] then d else updHart d h (keepTlb (fun _ => false))) d
  let d := (List.range 4).foldl (fun d b => btuKill b (fun _ => true) d) d
  { d with iommu := [] }

end Sys2Proof.Machine
end

