-- ==== Sys2Proof/Machine/SegOps.lean ====
section
/-!
DEFINITION. The segment node (R451–R453), its takeover requests (R456), and the bring-up stage code (R57) as frames carry it.
-/
set_option linter.unusedVariables false

namespace Sys2Proof.Machine

def updSeg (d : Dev) (f : SegSt → SegSt) : Dev := { d with seg := f d.seg }
def updSync (d : Dev) (f : SyncSt → SyncSt) : Dev := { d with sync := f d.sync }

/-! ### The stage code (R57, R59, R67) -/

/-- Bits [6:0] of BRINGUP_STAGE: the lowest stage not completed, or the failing stage; 0x10 once released. -/
def stageCode (d : Dev) : Nat :=
  if d.boot.phase = .released then 0x10
  else if d.boot.failStage ≠ 0 then d.boot.failStage
  else (((List.range 11).map (· + 1)).find? (fun s => !d.boot.done.contains s)).getD 0x0B
/-- 0x2000:07. -/
def bringupStage (d : Dev) : Nat := stageCode d + (if d.boot.slotBegun && d.boot.slotB then 128 else 0)

/-! ### The node (R452) -/

/-- The node ID in use: the straps until stage 0x05 ends, then SEG_NODE_ID unless it is 255. -/
def nodeId (d : Dev) : Nat :=
  if d.boot.done.contains 5 then (if ent d 0xB100 3 = 255 then d.pins.segId else ent d 0xB100 3) else d.pins.segId
/-- The endpoint ID (R460). -/
def ownEid (d : Dev) : Nat := 0x10 + nodeId d
/-- SEG_ROLE; 3 acts as member. -/
def segRole (d : Dev) : Nat := if d.pins.segRole = 3 then 0 else d.pins.segRole
/-- SEG_ROLE is not 3, and the node ID is one that R452 gives the role (R464). -/
def roleAgrees (d : Dev) : Bool :=
  d.pins.segRole != 3 && (if d.pins.segRole = 1 then nodeId d == 0 else decide (1 ≤ nodeId d) && decide (nodeId d ≤ 63))
/-- SEG_STATE records a role that does not go with the node ID, when the port takes its node ID (R467; log entry 52). -/
def noteRole (d : Dev) : Dev := if roleAgrees d then d else updSeg d (fun s => { s with reason := 0x0903 })
/-- The port transmits: it runs and is not deferred or still listening (R451, R453). -/
def segSends (d : Dev) : Bool := d.seg.state == 2 || d.seg.state == 3 || d.seg.state == 4
/-- The node is master or acting master with SEG_ENABLE 1: takeover service and bridge (R452, R453). -/
def segService (d : Dev) : Bool := (d.seg.state == 3 || d.seg.state == 4) && ent d 0xB100 1 == 1

/-- The hub is in jig mode: the segment port and the I3C target are inactive (R157). -/
def hubJig (d : Dev) : Bool := (jigOf d 12).inJig
/-- The port runs and receives (R67, R157, R452). -/
def segRuns (d : Dev) : Bool := d.seg.state != 0 && !hubJig d
/-- Queue a frame for the port's transmit opportunities (R458); a port that may not transmit sends nothing. -/
def sendSeg (dst : Option Nat) (kind : SegKind) (body : List Byte) (d : Dev) : Dev :=
  if segSends d then updSeg d (fun s => { s with queue := s.queue ++ [(dst, kind, body)] }) else d
/-- The order in which frames that wait leave: takeover frames, ANNOUNCE, MCTP (R458). -/
def segRank : SegKind → Nat
  | .takeoverReq | .takeoverAns => 0
  | .announce => 1
  | _ => 2
/-- The frame that the next opportunity takes: the oldest of the most urgent kind that waits. -/
def nextFrame (q : List (Option Nat × SegKind × List Byte)) : Option (Option Nat × SegKind × List Byte) :=
  (List.range 3).findSome? (fun k => q.find? (fun f => segRank f.2.1 == k))
/-- A transmit opportunity: a port that transmits sends at most one frame (R458). -/
def transmit (d : Dev) : Dev :=
  match nextFrame d.seg.queue with
  | some f => if segSends d then emit (.seg f.1 f.2.1 f.2.2) (updSeg d (fun s => { s with queue := s.queue.erase f })) else d
  | none => d

/-- Count a dropped frame or request. -/
def segDrop (d : Dev) : Dev := updSeg d (fun s => { s with drops := s.drops + 1 })

/-! ### Takeover requests (R421, R456) -/

/-- A TAKEOVER_REQ body before its signature. -/
def takeReqBytes (q : TakeReq) : List Byte :=
  leBytes 1 q.pair ++ leBytes 1 q.role ++ leBytes 1 q.node ++ [0] ++ leBytes 8 q.seqEcho ++ leBytes 8 q.lastCommit ++ padTo 64 q.own ++ padTo 64 q.peer
/-- The package asks the master for its pair's register. -/
def askTakeover (d : Dev) : Dev :=
  let q : TakeReq :=
    { pair := ent d 0x6000 4, role := d.mirror.role, node := nodeId d, seqEcho := d.seg.masterSeq, lastCommit := d.mirror.lastCommit,
      own := sha512 (publicOf keyDevId), peer := entBytes d 0x6000 5, sig := [] }
  let b := takeReqBytes q
  sendSeg none .takeoverReq (b ++ signWith (keyFirmware d) b) (updSeg d (fun s => { s with reqSeq := some s.masterSeq }))

end Sys2Proof.Machine
end

