-- ==== Sys2Proof/Machine/Mirror.lean ====
section
/-!
DEFINITION. The mirrored pair (R402–R427): forming, the checkpoint and seal of a kerf, the STANDBY's log, acknowledgement and release, suspicion,
loss, promotion.
-/
set_option linter.unusedVariables false

namespace Sys2Proof.Machine

open Host (Outcome)

/-! ### The mirrored set in lines (R408) -/

/-- Insert a half-open range of lines into a list of disjoint rising ranges. -/
def addRange : Nat × Nat → List (Nat × Nat) → List (Nat × Nat)
  | r, [] => [r]
  | (a, b), (c, e) :: t =>
    if b < c then (a, b) :: (c, e) :: t
    else if e < a then (c, e) :: addRange (a, b) t
    else addRange (min a c, max b e) t

/-- The regions, checkpoint block and key stores, by first byte and size. -/
def setParts (d : Dev) : List (Nat × Nat) :=
  ((List.range 16).map (fun i => (ent d 0x6010 (i + 1), ent d 0x6011 (i + 1)))) ++ [(ent d 0x6001 0, 8388608)] ++
  ((List.range 4).map (fun b => (ent d 0x5003 (b + 1), ent d 0x5004 (b + 1))))
/-- The set's lines as disjoint rising ranges, the POT lines that cover its pages among them. -/
def setLines (d : Dev) : List (Nat × Nat) :=
  let ps := (setParts d).filter (fun p => p.2 != 0)
  let rs := ps.map (fun p => (p.1 / 64, ceilDiv (p.1 + p.2) 64))
  let pots := (ps.filter (fun p => decide (p.1 < d.pot.cover))).map (fun p => ((d.pot.base + p.1 / 2048) / 64, ceilDiv (d.pot.base + (p.1 + p.2) / 2048) 64))
  (rs ++ pots).foldl (fun l r => addRange r l) []
/-- The first line of the set at or after a line. -/
def nextSetLine (rs : List (Nat × Nat)) (line : Nat) : Option Nat :=
  (rs.find? (fun r => decide (line < r.2))).map (fun r => max line r.1)
def linesBefore (rs : List (Nat × Nat)) (line : Nat) : Nat := rs.foldl (fun n r => n + (min (max line r.1) r.2 - r.1)) 0

/-! ### Forming (R405–R407) -/

/-- A KEYS record (R403). -/
def keysRec (b gen : Nat) (key : List Byte) : List Byte := [0xB0, BitVec.ofNat 8 b] ++ leBytes 6 0 ++ leBytes 8 gen ++ padTo 32 key ++ leBytes 48 0
/-- Send the key-store key of each enabled bench. -/
def sendKeys (d : Dev) : Dev :=
  (List.range 4).foldl (fun d b => let x := benchOf d b; if x.keyed && ent d 0x5000 (b + 1) == 1 then sendDowel 0xB (keysRec b x.zeroises x.ksKey) d else d) d
/-- The PRIMARY begins to stream and to copy. -/
def startForming (d : Dev) : Dev :=
  sendKeys (updMirror d (fun x => { x with phase := 1, copied := 0, copyNext := 0, copyDone := false, firstSeal := none, lineLog := [], outLog := [] }))

/-- The PRIMARY sends the COPY record of the next line of the set, using what the link leaves free (one per idle step, log entry 20). -/
def copyStep (d : Dev) : Dev :=
  if d.mirror.role = 1 ∧ d.mirror.phase = 1 ∧ d.mirror.copyDone = false then
    let rs := setLines d
    match nextSetLine rs d.mirror.copyNext with
    | none => updMirror d (fun x => { x with copyDone := true, copied := 100 })
    | some l =>
      let v := memLine d l
      let d := emit (.dowel (subLinkOf d (homeSlice d (l * 64))) 0xA d.kerf.counter (lineRecBytes 0xA d.kerf.counter l v.1 v.2)) d
      updMirror d (fun x => { x with copyNext := l + 1, copied := linesBefore rs (l + 1) * 100 / max 1 (rs.foldl (fun n r => n + (r.2 - r.1)) 0) })
  else d

/-- The swap at which MIRROR_ENABLE becomes 1: roles (R405); a STANDBY begins to form at once. -/
def mirrorOn (p : PartnerObs) (d : Dev) : Dev :=
  let role := if p.together then (if p.localLower then 1 else 2) else if p.enabled then 2 else 1
  let d := { d with mirror := { mirrorInit with
    role := role, partnerNode := p.node, w0 := d.mirror.w0, w1 := d.mirror.w1, lastCommit := d.mirror.lastCommit, clampStalls := d.mirror.clampStalls,
    failovers := d.mirror.failovers, sealNaks := d.mirror.sealNaks, setPrivate := d.mirror.setPrivate, lastHeard := d.now } }
  if role = 2 then purgeTranslations (updMirror d (fun x => { x with phase := 1, setPrivate := true }))
  else if p.together then startForming d
  else d

/-- The swap at which it becomes 0, or a pair that ends otherwise: the PRIMARY releases what it holds (R423). -/
def mirrorOff (d : Dev) : Dev :=
  let d := updMirror d (fun x => { x with role := 0, phase := 0, log := [], committedOut := [], pairedVals := [], entrySegs := [], pendSeal := none, unacked := [], lineLog := [], outLog := [] })
  clampRelease (fun _ => true) d

/-! ### The STANDBY's log (R416) -/

/-- The line, data and poison of a LINE or COPY record. -/
def recLine (b : List Byte) : Nat := leAt b 2 6
def recData (b : List Byte) : Line := bytesLine (sliceOf b 8 64)
def recPoison (b : List Byte) : Bool := getBit (leAt b 0 1) 3

/-- Write a mirrored line into place. -/
def placeLine (b : List Byte) (d : Dev) : Dev :=
  let l := recLine b
  let d := memWrite l (recData b) (recPoison b) (takeLine l d)
  updMirror d (fun x => { x with lost := x.lost.filter (· != l) })

/-- LOG_BYTES. -/
def logBytes (d : Dev) : Nat := d.mirror.log.foldl (fun n r => n + r.2.length) 0

/-- The held write an OUTPUT record carries. -/
def heldOf (kerf : Nat) (b : List Byte) : Held :=
  { oseq := leAt b 8 8, rp := leAt b 1 1, kind := leAt b 2 1, addr := leAt b 16 8, data := sliceOf b 24 (leAt b 4 2), kerf := kerf }

/-- An ENTRY record's segment joins its value; a whole value waits for the next swap (R419). -/
def entrySeg (b : List Byte) (d : Dev) : Dev :=
  let key := leAt b 2 2 * 256 + leAt b 1 1
  let total := leAt b 4 4
  let off := leAt b 8 4
  let seg := sliceOf b 16 (leAt b 12 2)
  let old := if off = 0 then [] else ((d.mirror.entrySegs.find? (fun e => e.1 == key)).map (fun e => e.2.2)).getD []
  let v := old ++ seg
  let rest := d.mirror.entrySegs.filter (fun e => e.1 != key)
  if total ≤ v.length then updMirror d (fun x => { x with entrySegs := rest, pairedVals := x.pairedVals ++ [(key / 256, key % 256, v.take total)] })
  else updMirror d (fun x => { x with entrySegs := rest ++ [(key, total, v)] })

/-- Apply one committed record. -/
def applyRec (kerf : Nat) (r : Nat × List Byte) (d : Dev) : Dev :=
  if r.1 < 16 then placeLine r.2 d
  else if leAt r.2 0 1 / 16 = 2 then updMirror d (fun x => { x with committedOut := x.committedOut ++ [heldOf kerf r.2] })
  else entrySeg r.2 d

/-- The parts of a SEAL (R403). -/
def sealKerf (b : List Byte) : Nat := leAt b 8 8
def sealCount (b : List Byte) (s : Nat) : Nat := leAt b (16 + 4 * s) 4
def sealOuts (b : List Byte) : Nat := leAt b 80 4

/-- DIGEST (R415) of records by slice and of the output records. -/
def sealDigest (kerf : Nat) (lines : Nat → List (List Byte)) (outs : List (List Byte)) : List Byte :=
  sha512 (leBytes 8 kerf ++ (List.range 16).flatMap (fun s => sha512 ((lines s).flatMap id)) ++ sha512 (outs.flatMap id) ++
    (List.range 16).flatMap (fun s => leBytes 4 (lines s).length) ++ leBytes 4 outs.length)

/-- The log's records of the epoch a seal closes: LINE records of its EPOCH by slice, and the first OUTPUT and ENTRY records it counts. -/
def epochLines (d : Dev) (kerf s : Nat) : List (List Byte) :=
  ((d.mirror.log.filter (fun r => r.1 == s && leAt r.2 1 1 == (kerf - 1) % 256)).map (fun r => r.2))
def logOuts (d : Dev) : List (List Byte) := (d.mirror.log.filter (fun r => r.1 == 16)).map (fun r => r.2)

/-- Every record a seal counts has arrived. -/
def sealReady (d : Dev) (b : List Byte) : Bool :=
  (List.range 16).all (fun s => decide (sealCount b s ≤ (epochLines d (sealKerf b) s).length)) && decide (sealOuts b ≤ (logOuts d).length)

/-- Take `n` elements a test passes out of a list. -/
def dropFirst {α : Type} (p : α → Bool) : Nat → List α → List α
  | _, [] => []
  | n, x :: xs => if p x && decide (0 < n) then dropFirst p (n - 1) xs else x :: dropFirst p n xs

/-- A seal and its records are all there: a match commits and applies them, and takes the harts offline that the seal carries (R110); a mismatch
breaks the pair. -/
def judgeSeal (b : List Byte) (d : Dev) : Dev :=
  let k := sealKerf b
  let lines (s : Nat) : List (List Byte) := (epochLines d k s).take (sealCount b s)
  let outs := (logOuts d).take (sealOuts b)
  let off := d.mirror.pendOff.filter (fun h => !(hartOf d h).offline)
  let d := updMirror d (fun x => { x with pendSeal := none, pendOff := [] })
  if sealDigest k lines outs = sliceOf b 88 64 then
    let mine (s : Nat) (r : Nat × List Byte) : Bool := r.1 == s && leAt r.2 1 1 == (k - 1) % 256
    let rest := (List.range 16).foldl (fun l s => dropFirst (mine s) (sealCount b s) l) d.mirror.log
    let rest := dropFirst (fun r => r.1 == 16) (sealOuts b) rest
    let d := updMirror d (fun x => { x with log := rest, lastCommit := k, phase := if x.phase = 1 then 2 else x.phase })
    let d := (List.range 16).foldl (fun d s => (lines s).foldl (fun d r => applyRec k (s, r) d) d) d
    let d := outs.foldl (fun d r => applyRec k (16, r) d) d
    let d := off.foldl (fun d h => takeOffline h d) d
    sendDowel 4 ([0x40, 0] ++ leBytes 6 0 ++ leBytes 8 k) d
  else
    let d := updMirror d (fun x => { x with log := [], entrySegs := [], phase := 7, sealNaks := x.sealNaks + 1 })
    sendDowel 5 ([0x50, 1] ++ leBytes 6 0 ++ leBytes 8 k) d

/-- A record joins the log; a seal that waited for it is judged. -/
def logRec (key : Nat) (b : List Byte) (d : Dev) : Dev :=
  let d := updMirror d (fun x => { x with log := x.log ++ [(key, b)] })
  match d.mirror.pendSeal with
  | some s => if sealReady d s then judgeSeal s d else d
  | none => d

/-- The STANDBY of a pair that still runs takes records. -/
def standbyTakes (d : Dev) : Bool := d.mirror.role == 2 && (d.mirror.phase == 1 || d.mirror.phase == 2 || d.mirror.phase == 3)
/-- There is room in the log; else the STANDBY withholds link credits and the record cannot arrive. -/
def logRoom (d : Dev) (n : Nat) : Bool := decide (logBytes d + n ≤ ent d 0x6001 2)

/-- LINE: into place while forming, else into the log (R407, R416). -/
def lineArrives (epoch line : Nat) (poison : Bool) (data : Line) (d : Dev) : Dev :=
  let b := lineRecBytes 1 epoch line data poison
  if standbyTakes d && logRoom d 72 then
    let d := if d.mirror.phase = 1 then placeLine b d else d
    logRec (homeSlice d (line * 64)) b d
  else d
def execLineRec (epoch line : Nat) (poison : Bool) (data : Line) (s : State) : Outcome State Fault Refusal := onDev (lineArrives epoch line poison data) s
/-- COPY: into place, while forming. -/
def copyArrives (epoch line : Nat) (poison : Bool) (data : Line) (d : Dev) : Dev :=
  if d.mirror.role = 2 ∧ d.mirror.phase = 1 then placeLine (lineRecBytes 0xA epoch line data poison) d else d
def execCopyRec (epoch line : Nat) (poison : Bool) (data : Line) (s : State) : Outcome State Fault Refusal := onDev (copyArrives epoch line poison data) s
/-- OUTPUT and ENTRY records go to the log. -/
def outputArrives (rp kind oseq addr : Nat) (data : List Byte) (d : Dev) : Dev :=
  let b := outputRec { oseq := oseq, rp := rp, kind := kind, addr := addr, data := data.take 192, kerf := 0 }
  if standbyTakes d && logRoom d b.length then logRec 16 b d else d
def execOutputRec (rp kind oseq addr : Nat) (data : List Byte) (s : State) : Outcome State Fault Refusal := onDev (outputArrives rp kind oseq addr data) s
/-- An ENTRY record (R403). -/
def entryRec (idx sub total off : Nat) (v : List Byte) : List Byte :=
  [0x80, BitVec.ofNat 8 sub] ++ leBytes 2 idx ++ leBytes 4 total ++ leBytes 4 off ++ leBytes 2 v.length ++ [0, 0] ++ v
def entryArrives (idx sub total off : Nat) (v : List Byte) (d : Dev) : Dev :=
  let b := entryRec idx sub total off (v.take 200)
  if standbyTakes d && logRoom d b.length then logRec 16 b d else d
def execEntryRec (idx sub total off : Nat) (v : List Byte) (s : State) : Outcome State Fault Refusal := onDev (entryArrives idx sub total off v) s

/-- SEAL: judged once every record it counts has arrived. `offline` is what it carries of R110, beside its record (log entry 65). -/
def sealArrives (kerf : Nat) (counts : List Nat) (outs : Nat) (digest : List Byte) (offline : List Nat) (d : Dev) : Dev :=
  let b := [0x30] ++ leBytes 7 0 ++ leBytes 8 kerf ++ (List.range 16).flatMap (fun s => leBytes 4 (counts.getD s 0)) ++ leBytes 4 outs ++ leBytes 4 0 ++ padTo 64 digest
  if standbyTakes d then
    let d := updMirror d (fun x => { x with pendSeal := some b, pendOff := offline })
    if sealReady d b then judgeSeal b d else d
  else d
def execSealRec (kerf : Nat) (counts : List Nat) (outs : Nat) (digest : List Byte) (offline : List HartN) (s : State) : Outcome State Fault Refusal :=
  onDev (sealArrives kerf counts outs digest (offline.map (fun h => h.val))) s

/-- KERF: the STANDBY notes the PRIMARY's cut (R406); while forming, a clock that is behind steps forward, and records of older epochs are let go. -/
def kerfArrives (kerf time : Nat) (d : Dev) : Dev :=
  if d.mirror.role = 2 then
    let d := updMirror d (fun x => { x with
      kerfTime := time, log := if x.phase = 1 then x.log.filter (fun r => r.1 == 16 || leAt r.2 1 1 == (kerf - 1) % 256 || leAt r.2 1 1 == kerf % 256) else x.log })
    if d.mirror.phase = 1 ∧ d.now < time then { d with now := time } else d
  else d
def execKerfRec (kerf time : Nat) (s : State) : Outcome State Fault Refusal := onDev (kerfArrives kerf time) s

/-- KEYS: the bench's key window holds the PRIMARY's key-store key (R407, R427). -/
def keysArrive (b gen : Nat) (key : List Byte) (d : Dev) : Dev :=
  if d.mirror.role = 2 then
    updBench (updMirror d (fun x => { x with keys := tabSet [] x.keys b (padTo 32 key), keyGen := tabSet 0 x.keyGen b gen })) b (fun x => { x with ksKey := padTo 32 key, keyed := true })
  else d
def execKeysRec (b : BenchN) (gen : Nat) (key : List Byte) (s : State) : Outcome State Fault Refusal := onDev (keysArrive b gen key) s

/-- REPAIR_REQ: the PRIMARY sends the line again in the current epoch (R423). -/
def repairArrives (line : Nat) (d : Dev) : Dev :=
  if d.mirror.role = 1 then (let v := memLine d line; mirrorLine line v.1 v.2 d) else d
def execRepairReqRec (line : Nat) (s : State) : Outcome State Fault Refusal := onDev (repairArrives line) s

/-! ### The kerf on the PRIMARY (R411–R415) -/

/-- The hart writes a checkpoint at this cut: one on a withdrawn die, or at rest with a current checkpoint, takes no part; the formation's cut writes
every slot (R407, R411). -/
def takesPart (d : Dev) (full : Bool) (h : Nat) : Bool :=
  let x := hartOf d h
  x.released && !x.offline && (full || ((x.rest == .running || x.rest == .idle || !x.ckptCurrent) && (dieOf d (dieOfHart h)).phase != .withdrawn))
/-- A hart's checkpoint at the cut: the caller's state, pc at the EENTER, of a hart inside an enclave (R382). -/
def cutCkpt (kerf : Nat) (full : Bool) (h : Nat) (d : Dev) : Dev :=
  let x := hartOf d h
  if takesPart d full h then
    let bs := ckptBytes (if x.eid = 0 then d else atRest h (asyncExit h d)) h kerf false
    let a := ent d 0x6001 0 + 0x1000 * h
    let d := if full then cohWrite a bs d else writeChanged a bs d
    if x.rest = .retain ∨ x.rest = .fold then updHart d h (fun x => { x with ckptCurrent := true }) else d
  else d

/-- A die cleans its dirty mirrored lines (step 3). -/
def cleanDie (n : Nat) (d : Dev) : Dev :=
  let wb := ((dieOf d n).wb.filter (fun e => e.dirty && e.acked == 0 && inMirror d (e.line * 64)))
  let d := wb.foldl (fun d e => memWrite e.line e.data e.poison d) d
  let d := (dieOf d n).dirtyOrder.foldl (fun d l =>
    match dieLine d n l with
    | some x => if isDirtyState x.st then memWrite l x.data x.poison (setHeldState n l (if x.st = .mm then .ee else .ss) d) else d
    | none => d) d
  updDie d n (fun x => { x with dirtyOrder := [] })

/-- Whether this kerf runs checkpoint and seal: PHASE 2, or the formation's first cut after the last COPY record (R407 step 4). -/
def sealsNow (d : Dev) : Bool := d.mirror.role == 1 && (d.mirror.phase == 2 || (d.mirror.phase == 1 && d.mirror.copyDone && d.mirror.firstSeal.isNone))

/-- Uncached requests of harts that R418 holds back: writes that wait for room in the clamp, reads behind held writes. -/
def heldBack (d : Dev) : List FMsg := d.mirror.stalled.filterMap (fun w => w.2) ++ d.mirror.waitReads.map (fun w => w.2.2)
/-- An uncached access of a hart has left for a device and is not answered (R34). -/
def outsideOpen (d : Dev) (h : Nat) : Bool :=
  ncOpen d h && !(heldBack d).any (fun m => m.die == dieOfHart h && m.core == coreOfHart h)
/-- Step 1 waits: for a hart whose access outside the package is under way, or for a die in service whose link is in recovery or retrain (R34, R152). -/
def step1Waits (d : Dev) : Bool :=
  sealsNow d && (List.range 216).any (fun h => takesPart d (d.mirror.phase == 1) h &&
    (outsideOpen d h || ((linkOf d (dieOfHart h)).state == .recovery && (dieOf d (dieOfHart h)).phase == .inService)))
/-- Held-back accesses count as unissued: they are discarded, and executed again when the harts resume (R411). -/
def discardHeld (d : Dev) : Dev :=
  let ms := heldBack d
  let d := updMirror d (fun x => { x with stalled := x.stalled.filter (fun w => w.2.isNone), waitReads := [] })
  ms.foldl (fun d m => updDie d m.die (fun x => { x with misses := x.misses.filter (fun y => y.rtag != m.rtag) })) d
/-- The harts whose accesses were discarded execute them again. -/
def reissue (ms : List FMsg) (d : Dev) : Dev := ms.foldl (fun d m => retryHart (18 * m.die + m.core % 18) d) d

/-- Step 1 of kerf `k`: checkpoints, slots and snapshots, then the cleaning. -/
def mirrorStep1 (k : Nat) (d : Dev) : Dev :=
  if sealsNow d then
    let full := d.mirror.phase == 1
    let held := heldBack d
    let d := (List.range 216).foldl (fun d h => cutCkpt k full h d) (discardHeld d)
    let d := writeSnaps (writeSlots d)
    reissue held ((List.range 12).foldl (fun d n => cleanDie n d) d)
  else d

/-- The harts a seal carries as offline (R110): those that stop at this kerf's step 3; with the formation's seal those already offline too, so that
the pair presents one set of harts. -/
def sealedOff (d : Dev) : List Nat :=
  (List.range 216).filter (fun h => stopsNow (hartOf d h) || (d.mirror.phase == 1 && (hartOf d h).offline))
/-- Step 2 of kerf `k`: the seal of the epoch it closes (R415), and beside it the harts that go offline at this kerf (R110). -/
def mirrorSeal (k : Nat) (d : Dev) : Dev :=
  if sealsNow d then
    let lines (s : Nat) : List (List Byte) := tabGet [] d.mirror.lineLog s
    let outs := d.mirror.outLog
    let b := [0x30] ++ leBytes 7 0 ++ leBytes 8 k ++ (List.range 16).flatMap (fun s => leBytes 4 (lines s).length) ++ leBytes 4 outs.length ++ leBytes 4 0 ++
      sealDigest k lines outs
    let off := sealedOff d
    emit (.sealOffline k off) <| sendDowel 3 b (updMirror d (fun x => { x with
      unacked := x.unacked ++ [k], firstSeal := if x.phase = 1 then some k else x.firstSeal, lineLog := [], outLog := [] }))
  else updMirror d (fun x => { x with lineLog := [], outLog := [] })

/-- The PRIMARY tells the STANDBY of its cut (R406). -/
def mirrorKerfRec (k : Nat) (d : Dev) : Dev :=
  if d.mirror.role = 1 ∧ (d.mirror.phase = 1 ∨ d.mirror.phase = 2) then sendDowel 9 ([0x90] ++ leBytes 7 0 ++ leBytes 8 k ++ leBytes 8 d.now) d else d

/-- A cut that would make a 65th unacknowledged seal waits (R415). -/
def sealWaits (d : Dev) : Bool := sealsNow d && decide (64 ≤ d.mirror.unacked.length)

/-- The ENTRY records of a paired entry's new value go with the seal of this kerf (R419). -/
def pairedEntry (idx sub : Nat) (v : List Byte) (d : Dev) : Dev :=
  if d.mirror.role = 1 ∧ (d.mirror.phase = 2 ∨ d.mirror.firstSeal.isSome) then
    (List.range (max 1 (ceilDiv v.length 200))).foldl (fun d i =>
      let r := entryRec idx sub v.length (200 * i) (sliceOf v (200 * i) 200)
      sendDowel 8 r (updMirror d (fun x => { x with outLog := x.outLog ++ [r] }))) d
  else d

/-! ### Acknowledgement (R416, R418) -/

/-- The PRIMARY goes ALONE: nothing is streamed, every held output leaves (R421). -/
def goAlone (d : Dev) : Dev :=
  clampRelease (fun _ => true) (updMirror d (fun x => { x with phase := 6, unacked := [], lineLog := [], outLog := [] }))

/-- SEAL_ACK: the epoch's outputs leave; the first one completes the formation; a threshold crossing that waited for it stops the package (R483). -/
def ackArrives (k : Nat) (d : Dev) : Dev :=
  if d.mirror.role = 1 ∧ d.mirror.unacked.contains k then
    let d := updMirror d (fun x => { x with
      unacked := x.unacked.filter (fun j => decide (k < j)), lastCommit := k, phase := if x.phase = 1 then 2 else x.phase })
    let d := if d.mirror.phase = 2 then clampRelease (fun h => decide (h.kerf < k)) d else d
    if d.obs.ceFailover ∧ d.mirror.phase = 2 then lossStop 2 { d with obs := { d.obs with ceFailover := false } } else d
  else d
def execSealAckRec (kerf : Nat) (s : State) : Outcome State Fault Refusal := onDev (ackArrives kerf) s
/-- SEAL_NAK. -/
def nakArrives (k : Nat) (d : Dev) : Dev :=
  if d.mirror.role = 1 ∧ d.mirror.unacked.contains k then goAlone (updMirror d (fun x => { x with sealNaks := x.sealNaks + 1 })) else d
def execSealNakRec (kerf : Nat) (s : State) : Outcome State Fault Refusal := onDev (nakArrives kerf) s

/-! ### Heartbeats and suspicion (R420) -/

/-- A HEARTBEAT record (R403). -/
def heartbeatRec (d : Dev) : List Byte :=
  [0x60, BitVec.ofNat 8 d.mirror.role, BitVec.ofNat 8 d.mirror.phase] ++ leBytes 5 0 ++ leBytes 8 d.kerf.counter ++ leBytes 8 d.mirror.lastCommit ++
  leBytes 8 d.mirror.released ++ leBytes 8 d.now
/-- Every 10 µs, on each sub-link that is up. -/
def heartbeatSend (d : Dev) : Dev :=
  if d.mirror.role = 0 ∨ d.mirror.phase = 8 then d
  else
    let d := if d.mirror.w0 = 0 then d else emit (.dowel 0 6 d.kerf.counter (heartbeatRec d)) d
    if d.mirror.w1 = 0 then d else emit (.dowel 1 6 d.kerf.counter (heartbeatRec d)) d
def execHeartbeatSend (s : State) : Outcome State Fault Refusal := onDev heartbeatSend s

/-- HEARTBEAT: what the partner reports; a PRIMARY whose partner forms begins to form; while forming a clock that is behind steps forward (R406). -/
def heartbeatArrives (role phase kerf lastAck released time : Nat) (d : Dev) : Dev :=
  if d.mirror.role = 0 then d
  else
    let d := updMirror d (fun x => { x with
      pRole := role, pPhase := phase, pKerf := kerf, pLastAck := lastAck, pReleased := released, lastHeard := d.now,
      committedOut := x.committedOut.filter (fun h => decide (released ≤ h.oseq)) })
    let d := if d.mirror.role = 1 ∧ d.mirror.phase = 0 ∧ role = 2 ∧ phase = 1 then startForming d else d
    if d.mirror.phase = 1 ∧ d.mirror.firstSeal = none ∧ d.now < time then { d with now := time } else d
def execHeartbeatRec (role phase kerf lastAck released time : Nat) (s : State) : Outcome State Fault Refusal :=
  onDev (heartbeatArrives role phase kerf lastAck released time) s

/-- No HEARTBEAT for 50 µs. -/
def suspect (d : Dev) : Dev :=
  if d.mirror.role ≠ 0 ∧ (d.mirror.phase = 1 ∨ d.mirror.phase = 2) then
    askTakeover (updMirror d (fun x => { x with phase := 3, suspectAt := d.now }))
  else d
def execPartnerSuspect (s : State) : Outcome State Fault Refusal := onDev suspect s
/-- The request is sent again every 1 ms while no answer has come. -/
def execTakeoverRetry (s : State) : Outcome State Fault Refusal :=
  onDev (fun d => if d.mirror.role ≠ 0 ∧ (d.mirror.phase = 3 ∨ d.mirror.phase = 7) then askTakeover d else d) s
/-- No answer within 12 ms: held. -/
def execConfirmTimeout (s : State) : Outcome State Fault Refusal :=
  onDev (fun d => if d.mirror.phase = 3 ∨ d.mirror.phase = 4 then updMirror d (fun x => { x with phase := 7 }) else d) s

/-! ### Sub-links (R404) -/

def execDowelSublinkDown (sub : Fin 2) (s : State) : Outcome State Fault Refusal :=
  onDev (fun d => updMirror d (fun x => if sub = 0 then { x with w0 := 0 } else { x with w1 := 0 })) s
/-- A sub-link is up again at x4, x8 or x16. -/
def execDowelSublinkUp (sub : Fin 2) (width : Fin 3) (s : State) : Outcome State Fault Refusal :=
  onDev (fun d => updMirror d (fun x => if sub = 0 then { x with w0 := width + 1 } else { x with w1 := width + 1 })) s

/-! ### Promotion (R422) -/

/-- Pages of an enclave that the table lists inside the mirrored set. -/
def mirroredPages (d : Dev) (eid : Nat) : Nat :=
  (if d.memGen = 0 then nubNat ((d.mem.filter (fun c => decide (d.pot.base ≤ c.1) && decide (c.1 < d.pot.base + d.pot.size))).map (fun c => (c.1 - d.pot.base) / 2 * 4096))
   else (List.range (d.pot.size / 2)).map (fun i => i * 4096)).countP
    (fun p => inMirrorBase d p && potClass (potEntry d p) == 2 && potOid (potEntry d p) == eid)

/-- A value of the bytes an ENTRY record carries, by the entry's type. -/
def entryVal (idx sub : Nat) (b : List Byte) : Val :=
  match entryRow idx sub with
  | some r => if r.typ = .string ∨ r.typ = .domain then .bytes b else .num (leNat b)
  | none => .num (leNat b)

/-- The committed paired values become current. -/
def applyPaired (d : Dev) : Dev :=
  updMirror (d.mirror.pairedVals.foldl (fun d v => setCur d v.1 v.2.1 (some (entryVal v.1 v.2.1 v.2.2))) d) (fun x => { x with pairedVals := [] })

/-- The work of the STANDBY's own harts and benches is discarded without a record (R427). -/
def discardWork (d : Dev) : Dev :=
  let d := (List.range 216).foldl (fun d h => updHart d h (fun x => { x with waiting := none, resv := none, debts := [], sweeps := [], eid := 0, parked := false })) d
  let d := (List.range 12).foldl (fun d n => updDie d n (fun x => { x with misses := [], deferred := [], owed := [] })) d
  (List.range 4).foldl (fun d b => updBench (zeroSpad b 0 8388608 d) b (fun x => { x with jobs := [], window := [] })) d

/-- Every cached line of the set leaves the dies. -/
def dropSetLines (d : Dev) : Dev :=
  (List.range 12).foldl (fun d n => ((dieOf d n).cache.map (fun e => e.1)).foldl (fun d l => if inMirror d (l * 64) then takeLine l d else d) d) d

/-- A hart resumes from its slot, in the recorded mode, world, enclave and rest mode; tag, sampling and tevsel read 0 (R422, R433, R477). -/
def resumeFromSlot (h : Nat) (d : Dev) : Dev :=
  let x := hartOf d h
  if x.released && !x.offline then
    let bs := cohBytes d (ent d 0x6001 0 + 0x1000 * h) 0x1000
    updHart d h (fun x => { ckptLoad bs { keepTlb (fun _ => false) x with halted := false, haltReq := false } with
      htenant := 0, hsEn := false, hsStop := 0, hsIrq := false, hsWrap := false, hsJitter := 0, hsPeriod := 0, hsBase := 0, hsSize := 0, hsPos := 0, hsTagged := false })
  else d

/-- The STANDBY takes over. -/
def promote (d : Dev) : Dev :=
  let d := updMirror d (fun x => { x with log := [], entrySegs := [], pendSeal := none, phase := 5 })
  let d := discardWork d
  let d := purgeTranslations (dropSetLines d)
  let hub := cohBytes d (hubSnapBase d) (4096 * 192 + 40 + 8 * pairedNats.length)
  let d := applyPaired (hubRestore hub d)
  let d := (List.range 4).foldl (fun d b => keysRestore b (benchRestore b (cohBytes d (benchSnapBase d b) 0x100000) d)) d
  let d := updMirror d (fun x => { x with setPrivate := false })
  let out := (d.encl.filter (fun e => e.2.state != 0 && !(inMirrorBase d e.2.ctrl && decide (e.2.pages ≤ mirroredPages d e.1)))).map (fun e => e.1)
  let d := out.foldl (fun d e => breakEnclave e d) d
  let d := (List.range 216).foldl (fun d h => resumeFromSlot h d) d
  let rel := d.mirror.committedOut.filter (fun h => decide (d.mirror.pReleased ≤ h.oseq))
  let d := rel.foldl (fun d h => emit (.device true h.addr h.data.length (leNat h.data)) d) d
  let d := updMirror d (fun x => { x with role := 1, phase := 6, committedOut := [], failovers := x.failovers + 1 })
  emit (.aplic .pairEvent) d

/-- LOSS is itself confirmation; the receiver takes over at once and tells the master (R420, R421). -/
def lossArrives (cause kerf : Nat) (d : Dev) : Dev :=
  if d.mirror.role ≠ 0 ∧ 1 ≤ d.mirror.phase ∧ d.mirror.phase ≠ 6 ∧ d.mirror.phase ≠ 8 then
    (if d.mirror.role = 1 then goAlone (askTakeover d) else promote (askTakeover d))
  else d
def execLossRec (cause kerf : Nat) (s : State) : Outcome State Fault Refusal := onDev (lossArrives cause kerf) s

/-- A grant: a STANDBY promotes, a PRIMARY goes ALONE; a refusal stops the package (R421). -/
def takeoverResult (grant : Bool) (d : Dev) : Dev :=
  if d.mirror.phase = 3 ∨ d.mirror.phase = 4 ∨ d.mirror.phase = 7 then
    (if !grant then lossStop 1 d else if d.mirror.role = 1 then goAlone d else if d.mirror.role = 2 then promote d else d)
  else d

/-- A write of FORCE_PROMOTE acts in PHASE 7 only. -/
def forcePromote (d : Dev) : Dev := if d.mirror.phase = 7 then takeoverResult true d else d

/-- MIRROR_STATE (R429). -/
def mirrorState (d : Dev) : Nat :=
  let x := d.mirror
  packFields [(x.partnerNode, 48, 8), (x.copied, 24, 8), (x.w1, 14, 2), (x.w0, 12, 2), (x.role, 4, 2), (x.phase, 0, 4)]

end Sys2Proof.Machine
end

