-- ==== Sys2Proof/Machine/Segment.lean ====
section
/-!
DEFINITION. The management segment (R451–R457): frames, announcements, the coordinator's place, the takeover service (R457),
KERF_SYNC (R462, R463), and the endpoint and I3C commands (R459, R460, R67).
-/
set_option linter.unusedVariables false

namespace Sys2Proof.Machine

open Host (Outcome)

/-- A frame is taken: hop limit 255, link-local source, known VERSION and KIND (R454). -/
def hdrOk (x : SegHdr) (kind : Nat) : Bool := x.hop == 255 && x.linkLocal && x.version == 1 && x.kind == kind

/-! ### Endpoints and I3C (R67, R459, R460) -/

/-- One second in ticks. -/
def tickSec : Nat := 100000000
/-- A command to the I3C target or an MCTP endpoint: the package answers from fuse load on, but for a hub in jig mode (R67, R157). -/
def onTarget (f : Dev → Dev) (d : Dev) : Dev := if hubJig d || d.boot.phase == .off then d else f d
/-- A frame on the segment reaches a port that runs (R452). -/
def onSegment (f : Dev → Dev) (d : Dev) : Dev := if segRuns d then f d else d

/-- Set Endpoint ID: accepted only with the package's own (R460). -/
def execSetEndpointId (eid : Nat) (s : State) : Outcome State Fault Refusal :=
  onDev (onTarget (fun d => emit (.mctpControl 1 (if eid = ownEid d then 0 else 2) (ownEid d) 0) d)) s
/-- Get Endpoint ID: a static EID. -/
def execGetEndpointId (s : State) : Outcome State Fault Refusal := onDev (onTarget (fun d => emit (.mctpControl 2 0 (ownEid d) 1) d)) s

/-- The I3C provisioned ID (R459). -/
def i3cPid (d : Dev) : Nat :=
  packFields [(d.fuses.vendorId, 33, 15), (0x7216, 16, 16), (getBits d.pins.segId 0 4, 12, 4), (getBits d.pins.segId 4 2, 0, 12)]
/-- ENTDAA: the target shows its identity and takes the address. -/
def execEntdaa (addr : Nat) (s : State) : Outcome State Fault Refusal :=
  onDev (onTarget (fun d => emit (.i3cId (i3cPid d) 0x06 0) (updSeg d (fun s => { s with dynAddr := some (addr % 128) })))) s
/-- GETSTATUS: bits [15:8] hold the stage code (R57, R67); bits [7:0] as MIPI I3C Basic gives them, nothing pending. -/
def execGetstatus (s : State) : Outcome State Fault Refusal := onDev (onTarget (fun d => emit (.getStatus (stageCode d * 256)) d)) s

/-! ### Takeover registers (R421, R429, R457) -/

def takeOf (d : Dev) (n : Nat) : Takeover := tabGet takeoverInit d.takeover n
def updTake (d : Dev) (n : Nat) (f : Takeover → Takeover) : Dev := { d with takeover := tabUpd takeoverInit d.takeover n f }
/-- TAKEOVER as it reads. -/
def takeState (x : Takeover) : Nat := packFields [(x.winner, 8, 8), (x.state, 0, 2)]

/-- The master answers a request. -/
def answerTake (pair result winner to_ seqEcho : Nat) (d : Dev) : Dev :=
  let b := leBytes 1 pair ++ leBytes 1 result ++ leBytes 1 winner ++ leBytes 1 to_ ++ leBytes 8 seqEcho
  sendSeg none .takeoverAns (b ++ signWith (keyFirmware d) b) d

/-- The checks of R457. -/
def takeValid (d : Dev) (q : TakeReq) : Bool :=
  match tabGet none d.seg.nodes q.node with
  | none => false
  | some n =>
    n.chain.ok && Config.stdOk .requestVerify [n.chain.aliasKey, takeReqBytes q, q.sig] && q.own == n.chain.devHash && d.seg.lastSeqs.contains q.seqEcho &&
    decide (1 ≤ q.pair) && decide (q.pair ≤ 32) && (q.role == 1 || q.role == 2) &&
    ((takeOf d q.pair).bound == [] || (takeOf d q.pair).bound == [(0, q.own), (1, q.peer)] || (takeOf d q.pair).bound == [(0, q.peer), (1, q.own)])

/-- Grant a register to a role's node, and answer. -/
def grantTake (q : TakeReq) (d : Dev) : Dev :=
  answerTake q.pair 1 q.node q.node q.seqEcho (updTake d q.pair (fun x => { x with state := q.role, winner := q.node, standbyAsked := none }))

/-- TAKEOVER_REQ at the master. -/
def takeoverReq (x : SegHdr) (q : TakeReq) (d : Dev) : Dev :=
  if hdrOk x 3 = false then segDrop d
  else if segService d = false then d
  else if takeValid d q = false then segDrop d
  else
    let d := updTake d q.pair (fun r => { r with
      bound := if r.bound = [] then [(0, q.own), (1, q.peer)] else r.bound, lastNonce := leBytes 8 q.seqEcho,
      primaryAsked := r.primaryAsked || q.role == 1 })
    let r := takeOf d q.pair
    if r.state = 0 then
      (if q.role = 1 then grantTake q d
       else match r.standbyAsked with
        | some _ => updTake d q.pair (fun r => { r with standbyAsked := some q.node })
        | none => updTake d q.pair (fun r => { r with standbyAsked := some q.node, openSince := d.now }))
    else if r.state = q.role then answerTake q.pair 1 r.winner q.node q.seqEcho d
    else answerTake q.pair 2 r.winner q.node q.seqEcho d
def execTakeoverReq (hdr : SegHdr) (q : TakeReq) (s : State) : Outcome State Fault Refusal := onDev (onSegment (takeoverReq hdr q)) s

/-- The register has stayed OPEN for 2 ms since the STANDBY's first request, with none from the PRIMARY: the STANDBY is granted. -/
def standbyGrant (pair : Nat) (d : Dev) : Dev :=
  let r := takeOf d pair
  match r.standbyAsked with
  | some node =>
    if segService d && r.state == 0 && !r.primaryAsked then
      answerTake pair 1 node node (leNat r.lastNonce) (updTake d pair (fun x => { x with state := 2, winner := node, standbyAsked := none }))
    else d
  | none => d
def execTakeoverStandbyGrant (pair : Fin 32) (s : State) : Outcome State Fault Refusal := onDev (onSegment (standbyGrant (pair + 1))) s

/-- TAKEOVER_ANS at a requester: the master's signature, SEQ_ECHO and TO must be right (R457). -/
def takeoverAns (x : SegHdr) (master : Nat) (a : TakeAns) (d : Dev) : Dev :=
  let b := leBytes 1 a.pair ++ leBytes 1 a.result ++ leBytes 1 a.winner ++ leBytes 1 a.dest ++ leBytes 8 a.seqEcho
  let sigOk := match tabGet none d.seg.nodes master with
    | some n => n.chain.ok && Config.stdOk .requestVerify [n.chain.aliasKey, b, a.sig]
    | none => false
  if hdrOk x 4 = false then segDrop d
  else if sigOk && d.seg.reqSeq == some a.seqEcho && a.dest == nodeId d && a.pair == ent d 0x6000 4 && (a.result == 1 || a.result == 2) then takeoverResult (a.result == 1) d
  else d
def execTakeoverAns (hdr : SegHdr) (master : Nat) (a : TakeAns) (s : State) : Outcome State Fault Refusal := onDev (onSegment (takeoverAns hdr master a)) s

/-- A write of TAKEOVER_OPEN. -/
def takeoverOpen (n : Nat) (d : Dev) : Dev := updTake d n (fun _ => { takeoverInit with openSince := d.now })

/-! ### Announcements (R455) -/

/-- GRANTS of the package's own registers. -/
def ownGrants (d : Dev) : List Nat := (List.range 32).map (fun i => (takeOf d (i + 1)).state * 64 + (takeOf d (i + 1)).winner % 64)

/-- A received ANNOUNCE: the node view, a conflict, GRANTS for a backup, a first request to a master not heard before. -/
def announce (x : SegHdr) (a : Announce) (c : ChainObs) (d : Dev) : Dev :=
  if hdrOk x 2 = false then segDrop d
  else
    let isMaster := a.state == 3 || a.state == 4
    let known := (tabGet none d.seg.nodes a.node).isSome
    let newMaster := isMaster && !(match tabGet none d.seg.nodes a.node with | some n => n.announce.state == 3 || n.announce.state == 4 | none => false)
    let mine := d.fuses.serial
    let conflict := a.node == nodeId d && padTo 16 a.serial != padTo 16 mine
    let chain := match tabGet none d.seg.nodes a.node with | some n => n.chain | none => c
    let d := if conflict then updSeg d (fun s => { s with reason := 0x0901, conflictAt := some d.now })
      else updSeg d (fun s => { s with nodes := tabSet none s.nodes a.node (some { announce := a, heard := d.now, chain := chain }) })
    let d := if isMaster then updSeg d (fun s => { s with masterSeq := a.seq, grants := if d.pins.segRole = 2 then a.grants else s.grants }) else d
    let d := if ent d 0x2010 1 = 2 ∧ a.kerfMode = 1 ∧ a.kerfPeriod ≠ ent d 0x2000 1 then updSeg d (fun s => { s with reason := 0x0902 }) else d
    if newMaster && (d.mirror.phase == 3 || d.mirror.phase == 7) && d.mirror.role != 0 then askTakeover d else d
def execAnnounce (hdr : SegHdr) (a : Announce) (chain : ChainObs) (s : State) : Outcome State Fault Refusal := onDev (onSegment (announce hdr a chain)) s

/-- The body this node announces. -/
def announceBody (d : Dev) : List Byte :=
  let m := d.seg.state == 3 || d.seg.state == 4
  leBytes 1 (nodeId d) ++ leBytes 1 (packFields [(d.pins.segRole, 4, 2), (d.seg.state, 0, 4)]) ++ leBytes 1 (stageCode d) ++ leBytes 1 (ent d 0x2010 1) ++
  leBytes 4 (ent d 0x2000 1) ++ padTo 16 d.fuses.serial ++ leBytes 1 (ent d 0x6000 4) ++ leBytes 3 0 ++ leBytes 8 (if m then d.seg.seq else 0) ++
  (if m then (ownGrants d).map (BitVec.ofNat 8) else leBytes 32 0)
/-- ANNOUNCE_SEND: a master increments its sequence with each. -/
def announceSend (d : Dev) : Dev :=
  let m := d.seg.state == 3 || d.seg.state == 4
  let d := if m then updSeg d (fun s => { s with seq := s.seq + 1, lastSeqs := (s.seq + 1) :: s.lastSeqs.take 2 }) else d
  sendSeg none .announce (announceBody d) d
def execAnnounceSend (s : State) : Outcome State Fault Refusal := onDev (onSegment announceSend) s

/-! ### The coordinator (R453) -/

/-- The port starts at stage 0x02, or restarts. -/
def segStart (d : Dev) : Dev :=
  noteRole <| updSeg d (fun s => { segInit with
    state := if d.pins.segRole = 1 then 1 else 2, plcaId := nodeId d, drops := s.drops, dynAddr := s.dynAddr, routes := s.routes, reason := s.reason })
/-- 5 ms without a BEACON: a listening or deferred master-strapped node becomes coordinator. -/
def masterExpiry (d : Dev) : Dev :=
  if d.pins.segRole = 1 ∧ (d.seg.state = 1 ∨ d.seg.state = 5) then updSeg d (fun s => { s with state := 3, plcaId := 0, csma := false }) else d
def execMasterListenExpiry (s : State) : Outcome State Fault Refusal := onDev (onSegment masterExpiry) s
/-- 5 ms without a BEACON: a backup that has heard one takes the coordinator's place, with the copied GRANTS and empty bindings. -/
def backupTakeover (d : Dev) : Dev :=
  if d.pins.segRole = 2 ∧ d.seg.state = 2 ∧ d.seg.beaconHeard then
    let d := updSeg d (fun s => { s with state := 4, plcaId := 0, csma := false, seq := s.masterSeq })
    (List.range 32).foldl (fun d i =>
      let g := d.seg.grants.getD i 0
      updTake d (i + 1) (fun _ => { takeoverInit with state := g / 64 % 4, winner := g % 64 })) d
  else d
def execBackupTakeover (s : State) : Outcome State Fault Refusal := onDev (onSegment backupTakeover) s
/-- A BEACON is heard: a listening master-strapped node defers, the absence timers restart, CSMA/CD ends. -/
def beacon (d : Dev) : Dev :=
  updSeg d (fun s => { s with
    state := if d.pins.segRole = 1 ∧ s.state = 1 then 5 else s.state, beaconHeard := true, lastBeacon := d.now, csma := false })
def execPlcaBeacon (s : State) : Outcome State Fault Refusal := onDev (onSegment beacon) s

/-- SEG_STATE (R467): nodes heard in the last second. -/
def segState (d : Dev) : Nat :=
  let heard := (d.seg.nodes.filter (fun n => match n.2 with | some x => decide (d.now ≤ x.heard + tickSec) | none => false)).length
  packFields [(d.seg.reason, 32, 16), (heard, 24, 8), (d.pins.segRole, 14, 2), (nodeId d, 8, 6), (d.seg.state, 0, 4)]

/-! ### KERF_SYNC (R463) -/

/-- Ticks of the time counter as ns. -/
def nsNow (d : Dev) : Nat := d.now * 10
/-- The kerf period in ns. -/
def periodNs (d : Dev) : Nat := ent d 0x2000 1 * 1000

/-- An edge at `at` ns, of a follower: accepted half a period after the last one, the first 100 µs after release. `cut` is the scheduled cut it
belongs to, if any: the difference between that cut and the edge's master instant is 0x2010:02. -/
def syncEdge (t : Nat) (sinceRelease : Nat) (cut : Option Nat) (d : Dev) : Dev :=
  let ok := ent d 0x2010 1 == 2 && d.boot.phase == .released &&
    (match d.sync.lastEdge with | some e => decide (e + periodNs d / 2 ≤ t) | none => decide (100000 ≤ sinceRelease))
  if ok then
    let m := t - ent d 0xB200 0
    updSync d (fun s => { s with
      lastEdge := some t, mPrev := s.mLast, mLast := some m, locked := cut.isSome, holdover := false, reason := 0,
      diff := match cut with | some c => (c : Int) - m | none => s.diff })
  else d
def execKerfSyncEdge (t : Nat) (sinceRelease : Nat) (cut : Option Nat) (s : State) : Outcome State Fault Refusal := onDev (syncEdge t sinceRelease cut) s
/-- No edge within KERF_SYNC_COMP + 5 µs of a scheduled cut; after two periods without one, REASON. -/
def syncMiss (t : Nat) (d : Dev) : Dev :=
  if ent d 0x2010 1 = 2 then
    updSync d (fun s => { s with
      misses := min (s.misses + 1) 0xFFFFFFFF, holdover := true, locked := false,
      reason := match s.lastEdge with
        | some e => if e + 2 * periodNs d ≤ t then 0x0904 else s.reason
        | none => 0x0904 })
  else d
def execKerfSyncMiss (t : Nat) (s : State) : Outcome State Fault Refusal := onDev (syncMiss t) s
/-- KERF_SYNC_STATE (R467). -/
def syncState (d : Dev) : Nat :=
  packFields [(d.sync.misses, 32, 32), (d.sync.reason, 16, 16), (b2n d.sync.holdover, 1, 1), (b2n d.sync.locked, 0, 1)]

end Sys2Proof.Machine
end

