-- ==== Sys2Proof/Machine/ListRead.lean ====
section
/-!
DEFINITION. The values of Cutting List entries as a list read returns them: the SEALED entries that the device maintains, in
the layouts of their chapters, and the counter and machine-check banks.
-/
set_option linter.unusedVariables false

namespace Sys2Proof.Machine

/-- The places of the dry-fit status entries (R43, R362). -/
def isStatus (idx sub : Nat) : Bool :=
  idx == 0x4001 || idx == 0x4101 || idx == 0x5001 || idx == 0xA101 || idx == 0x3001 ||
  (idx == 0x6000 && sub == 2) || (idx == 0x7000 && sub == 2) || (idx == 0x2040 && sub == 3) || (idx == 0xB100 && sub == 2)

def linkCode : LinkSt → Nat
  | .untrained => 0 | .training => 1 | .up => 2 | .recovery => 3 | .fenced => 4 | .withdrawn => 5 | .jig => 6 | .folded => 7
/-- The link is trained: its bundles have a width (R160). -/
def linkTrained (l : Link) : Bool := l.state == .up || l.state == .recovery || l.state == .folded
/-- LINK_STATUS (R160). -/
def linkStatus (d : Dev) (n : Nat) : Nat :=
  let l := linkOf d n
  packFields [(l.reason, 32, 16), (l.retrains, 24, 8), (if linkTrained l then l.upWidth else 0, 14, 2), (if linkTrained l then l.downWidth else 0, 12, 2), (b2n l.upAdopted, 11, 1),
    (b2n l.downAdopted, 10, 1), (b2n l.idMismatch, 9, 1), (b2n l.tbFallback, 8, 1), (linkCode l.state, 0, 4)]
/-- UCIE_STATUS and CONTAIN_STATUS (R169). -/
def ucieStatus (d : Dev) (s : Nat) : Nat :=
  let x := siteOf d s
  if sitePopulated d s then packFields [(if x.uState = 0 then 1 else x.uState, 12, 4), (x.uRate, 8, 4), (x.uWidth, 0, 8)] else 0
def containStatus (d : Dev) (s : Nat) : Nat := packFields [((siteOf d s).kerfLow, 32, 32), ((siteOf d s).cause, 0, 4)]

def benchHeld (d : Dev) (b : Nat) : Bool := getBit d.holdUnits (16 + b)
/-- HOLD_STATE (R401): a stop or withdraw that has become current and waits. -/
def holdState (d : Dev) : Nat :=
  packFields (((List.range 4).map (fun b => (b2n (benchHeld d b && (benchOf d b).state == 1 && ent d 0x5000 (b + 1) == 0), 48 + b, 1))) ++
    ((List.range 12).map (fun n => (b2n (dieHeld d n && ent d 0xA030 (n + 1) != 0), 32 + n, 1))) ++
    [(getBits d.holdUnits 16 4, 16, 4), (d.holdUnits, 0, 12)])

/-- HARTS_PRESENT: as counted at release; before it, the harts the fuses give. -/
def hartsPresent (d : Dev) : Nat :=
  if d.boot.phase = .released then ent d 0x1000 3 else ((List.range 216).filter (fun h => hartPresent d h && !(hartOf d h).offline)).length

/-- The image has been applied: its values are those of the applied image (R28, R51, R64). What the image's entries read before that is the model's
choice: empty or 0 (DESIGN CHOICE, log entry 59). -/
def imageApplied (d : Dev) : Bool := d.boot.done.contains 5
/-- The value of a SEALED number, or of a status entry. -/
def sealedNum (d : Dev) (idx sub : Nat) : Nat :=
  let n := sub - 1
  if isStatus idx sub then dryPack (dryOf d idx sub)
  else match idx with
  | 0x1000 => (match sub with
    | 0 => d.fuses.ordering
    | 2 => d.fuses.stepping
    | 3 => hartsPresent d
    | 5 => d.fuses.vendorId
    | 6 => if imageApplied d then d.boot.signerSlot else 0
    | 7 => if imageApplied d then imgSecurity d.boot.image else 0
    | _ => 0)
  | 0x1001 => coresPresent d n
  | 0x2000 => (match sub with
    | 2 => d.kerf.counter
    | 3 => d.kerf.overruns
    | 4 => d.kerf.seqMax
    | 5 => d.list.stg.length
    | 7 => bringupStage d
    | 8 => d.boot.failReason
    | _ => 0)
  | 0x2010 => ofSigned 64 d.sync.diff
  | 0xA000 => linkStatus d n
  | 0xA002 => (linkOf d n).replays
  | 0xA010 => (fusedSheets d n).upSheet
  | 0xA011 => (fusedSheets d n).downSheet
  | 0xA012 => (linkOf d n).hubUp
  | 0xA013 => (linkOf d n).hubDown
  | 0xA020 => (fusedSheets d n).ident
  | 0xA021 => (fusedSheets d n).defects
  | 0xA102 => ucieStatus d n
  | 0xA104 => containStatus d n
  | 0xA105 => (siteOf d n).violations
  | 0xA106 => (siteOf d n).lastViolation
  | 0xA032 => dieState d n
  | 0xA033 => (dieOf d n).poisoned
  | 0xA034 => (dieOf d n).lateDrops
  | 0x4103 => mscSliceState d n
  | 0x4104 => mscDirty d n
  | 0x4110 => maintStatus d
  | 0x4002 => chanState d n
  | 0x4033 => tabGet 0 d.cxlState n
  | 0x5002 => benchState d n
  | 0x5005 => (benchOf d n).keys.length
  | 0x5006 => (benchOf d n).ops
  | 0x5007 => (benchOf d n).zeroises
  | 0x5008 => (benchOf d n).version
  | 0x5012 => (benchOf d n).feedStops
  | 0x5013 => (benchOf d n).feedUnits
  | 0x5014 => (benchOf d n).wakes
  | 0x5021 => tabGet 0 d.fuses.pciIds n
  | 0x5022 => (benchOf d n).vfs
  | 0x5023 => (benchOf d n).flrRevokes
  | 0x5024 => (benchOf d n).abandonedTotal
  | 0x3002 => ledgerState d
  | 0x3003 => (match sub with
    | 0 => d.ledger.epoch
    | 1 => (ent d 0x3000 5 * d.kerf.epochUs * 1000 - d.ledger.reserve) / 1000
    | 2 => d.ledger.meanMw
    | _ => d.ledger.throttles)
  | 0x3021 => (acctOf d n).grant
  | 0x3022 => (acctOf d n).spend / 1000
  | 0x3023 => (acctOf d n).total / 1000
  | 0x3024 => acctState d n
  | 0x7000 => d.pot.cover
  | 0x7001 => debugFuses d
  | 0x7003 => holdState d
  | 0x7011 => if sub = 0 then (d.encl.filter (fun e => e.2.state != 0)).length else d.obs.enclBroken
  | 0x7041 => slotState d
  | 0x6000 => mirrorState d
  | 0x6020 => (match sub with
    | 0 => d.mirror.lastCommit
    | 1 => clampBytes d
    | 2 => d.mirror.clampStalls
    | 3 => logBytes d
    | 4 => d.mirror.failovers
    | _ => d.mirror.sealNaks)
  | 0x6030 => takeState (takeOf d sub)
  | 0x8000 =>
    if gaugePresent d then (match sub with
      | 0 => gaugeState d
      | 1 => d.gauge.runId
      | 2 => newestSeq d
      | _ => oldestSeq d)
    else 0
  | 0xB001 => tabGet 0 d.rootPorts n
  | 0xB100 => if sub = 6 then segState d else d.seg.drops
  | 0xB200 => syncState d
  | 0x9020 => d.obs.snapKerf
  | 0x9204 => d.obs.mcSeq
  | _ => 0

/-- The counters of a bank, 8 bytes each (R468). -/
def bankBytes (t : Tab Nat) (bank unit slots : Nat) : List Byte :=
  (List.range slots).flatMap (fun i => leBytes 8 (tabGet 0 t (ctrKey bank unit i)))
/-- The unit of a bank entry: the package bank has one. -/
def bankUnit (idx sub : Nat) : Nat := if idx % 256 = 0x14 then 0 else sub - 1
/-- Slots of a bank (R486). -/
def bankSlots (idx : Nat) : Nat := if idx % 256 = 0 ∨ idx % 256 = 1 ∨ idx % 256 = 0x10 then 64 else 16

/-- The page of a record's address is kept from every role but secure (R482). -/
def mcHidden (d : Dev) (r : McRec) : Bool :=
  getBit r.flags 3 && isMain d r.paddr && [1, 2, 3, 4].contains (potClass (potEntry d r.paddr))
/-- The records of a bank as a session reads them. -/
def mcBankBytes (d : Dev) (secure : Bool) (idx sub : Nat) : List Byte :=
  (tabGet [] d.obs.mc (idx * 2 ^ 8 + (sub - 1))).flatMap (fun r =>
    mcBytes (if !secure && mcHidden d r then { r with paddr := 0, detail0 := 0, detail1 := 0 } else r))

/-- The report a session reads for its last request (R398). -/
def enclaveReport (d : Dev) (sess : Nat) : List Byte :=
  match tabGet none d.reports sess with
  | none => []
  | some (eid, nonce) =>
    let e := enclOf d eid
    let b := leBytes 2 1 ++ leBytes 2 eid ++ leBytes 1 e.state ++
      leBytes 1 (packFields [(b2n (getBit e.attr 0), 0, 1), (b2n (getBit e.attr 1), 1, 1), (b2n (enclInv d eid), 2, 1)]) ++ leBytes 2 0 ++
      leBytes 8 d.kerf.counter ++ leBytes 8 e.pages ++ leBytes 8 0 ++ padTo 32 nonce ++
      (if 2 ≤ e.state then padTo 64 e.meas else List.replicate 64 0) ++
      (match e.report with | some p => cohBytes d p 64 | none => List.replicate 64 0) ++ sha512 (publicOf (keyFirmware d))
    b ++ signWith (keyFirmware d) b

/-- The value of a SEALED STRING or DOMAIN entry. -/
def sealedBytes (d : Dev) (sess : Nat) (role : Role) (idx sub : Nat) : List Byte :=
  match idx with
  | 0x1000 => (match sub with
    | 1 => d.fuses.serial
    | 4 => if imageApplied d then imgString d.boot.image else []
    | 8 => tabGet [] d.fuses.inlayIdent 0
    | 9 => tabGet [] d.fuses.inlayIdent 1
    | _ => certChain d)
  | 0x7010 => enclaveReport d sess
  | 0x7040 => if sub ≤ 4 then tabGet [] d.fuses.ownerHash (sub - 1) else tabGet [] d.fuses.vendorHash (sub - 5)
  | 0x8000 =>
    if gaugePresent d then (match sub with
      | 4 => tabGet [] d.fuses.gaugeRomId d.fuses.gaugeRom
      | 5 => d.fuses.gaugeCalib
      | 6 => d.fuses.gaugeCert
      | _ => d.fuses.gaugePub)
    else []
  | _ =>
    if 0x9000 ≤ idx ∧ idx ≤ 0x9014 then bankBytes d.obs.ctr idx (bankUnit idx sub) (bankSlots idx)
    else if 0x9100 ≤ idx ∧ idx ≤ 0x9114 then bankBytes d.obs.snap (idx - 0x100) (bankUnit idx sub) (bankSlots idx)
    else if 0x9200 ≤ idx ∧ idx ≤ 0x9203 then mcBankBytes d (role == .secure) idx (if idx = 0x9203 then 1 else sub)
    else []

/-- Bytes of a numeric type (R27). -/
def typeSize : EType → Nat
  | .bool => 1 | .u8 => 1 | .u16 => 2 | .u32 => 4 | .u64 => 8 | .i64 => 8 | .enum => 2 | .bits => 8 | .string => 0 | .domain => 0
/-- Codes of the types (R27). -/
def typeCode : EType → Nat
  | .bool => 1 | .u8 => 2 | .u16 => 3 | .u32 => 4 | .u64 => 5 | .i64 => 6 | .enum => 7 | .bits => 8 | .string => 9 | .domain => 10
def isOctets (t : EType) : Bool := t == .string || t == .domain

/-- Entries whose writes act and that read 0 (R298 and the like): they hold no value. -/
def isTrigger (idx sub : Nat) : Bool :=
  (idx == 0x2000 && sub == 6) || idx == 0xA001 || idx == 0xA103 || idx == 0xA031 || idx == 0x4004 || idx == 0x5011 ||
  (idx == 0x6000 && sub == 6) || idx == 0x6031 || idx == 0x9030

/-- The ring is read live: its maximum is above 65,536 bytes (R48, R448). -/
def ringTotal (d : Dev) : Nat := if gaugePresent d then 8388608 else 0

/-- The current value of an entry, as bytes. -/
def curBytes (d : Dev) (sess : Nat) (role : Role) (r : EntryRow) (idx sub : Nat) : List Byte :=
  if r.swap = .sealed_ then (if isOctets r.typ then sealedBytes d sess role idx sub else leBytes (typeSize r.typ) (sealedNum d idx sub))
  else if isOctets r.typ then entBytes d idx sub
  else leBytes (typeSize r.typ) (if isTrigger idx sub then 0 else ent d idx sub)
/-- The staged value, as bytes. -/
def stgBytes (d : Dev) (r : EntryRow) (idx sub : Nat) : List Byte :=
  if isOctets r.typ then entBytesNext d idx sub else leBytes (typeSize r.typ) (entNext d idx sub)

end Sys2Proof.Machine
end

