-- ==== Sys2Proof/Machine/DryFit.lean ====
section
/-!
DEFINITION. The dry fits (R38–R42): what each subsystem's enable depends on, judged on the values the entries will hold after
the next swap and on the physical conditions, and the record a refusal leaves.
-/
set_option linter.unusedVariables false

namespace Sys2Proof.Machine

/-- An outcome: the reason code of a refusal, 0 for acceptance, and the offending entry where the owning chapter names one. -/
abbrev Fit := Nat × Option (Nat × Nat)
/-- The first condition of a list that does not hold refuses. -/
def firstFail : List (Bool × Nat × Option (Nat × Nat)) → Fit
  | [] => (0, none)
  | (ok, r, e) :: cs => if ok then firstFail cs else (r, e)

/-- A dry fit's conditions; any that runs while the hub time base is in holdover refuses first (R154). -/
def fitOf (d : Dev) (cs : List (Bool × Nat × Option (Nat × Nat))) : Fit := firstFail ((!d.holdover, 0x010A, none) :: cs)

/-- Write the outcome to a status entry (R41); `trig` is the entry whose write triggered the dry fit, 0x0000:00 where none did. -/
def recordFit (si ss : Nat) (trig : Nat × Nat) (atKerf : Bool) (f : Fit) (d : Dev) : Dev :=
  updDry d si ss (fun x =>
    if f.1 = 0 then { x with reason := 0, index := 0, sub := 0, atKerf := false }
    else { x with reason := f.1, index := (f.2.getD trig).1, sub := (f.2.getD trig).2, atKerf := atKerf })

/-- The enable reads 1 or an accepted enable is pending (R39). -/
def fitOn (d : Dev) (ei es si ss : Nat) : Bool := ent d ei es == 1 || (dryOf d si ss).pend

/-! ### DRAM (R240, R242, R255, R257) -/

/-- A range lies wholly in DRAM of enabled, trained channels. -/
def dramRange (d : Dev) (lo n : Nat) : Bool := decide (lo + n ≤ installed d) && (enabledChans d).all (fun c => (chanOf d c).state == 2)

def chanSetOk (d : Dev) : Bool :=
  enabledChans d == List.range 16 || enabledChans d == (List.range 8).map (fun i => 2 * i) || enabledChans d == [0, 4, 8, 12]
def masksOk (d : Dev) : Bool :=
  let ms := (List.range 10).map (maskOf d)
  let zeros := match (enabledChans d).length with | 16 => 0 | 8 => 1 | _ => 2
  let ps := (ms.drop zeros).filterMap pivot
  ms.all (fun m => m % 64 == 0 && decide (m < 2 ^ 46)) && (ms.take zeros).all (fun m => m == 0) && (ms.drop zeros).all (fun m => m != 0) &&
  (nubNat ps).length == ps.length && ps.all (fun p => decide (2 ^ p < installed d))
/-- The fields of a slot timing value that count in tCK, but for TCWL. -/
def timingFields (v : List Byte) : List Nat := [0, 4, 6, 8, 10, 12, 14, 16, 18, 20, 22, 24, 26, 28].map (fun o => leAt v o 2)
def timingOk (v : List Byte) (spd : List Nat) : Bool :=
  (List.range 14).all (fun i => decide (spd.getD i 0 ≤ (timingFields v).getD i 0)) &&
  decide (leAt v 2 2 + 2 = leAt v 0 2) && decide (leAt v 8 2 + leAt v 6 2 ≤ leAt v 10 2) &&
  decide (500 ≤ leAt v 0x1E 2) && decide (leAt v 0x1E 2 ≤ 1950)
def slotSpeed (d : Dev) (n k : Nat) : Nat := ent d (0x4010 + k) (n + 1)
def timingsOk (d : Dev) (n : Nat) : Bool :=
  slotSpeed d n 0 != 0 && decide (entNext d 0x4003 (n + 1) < 4) && slotSpeed d n (entNext d 0x4003 (n + 1)) != 0 &&
  (List.range 4).all (fun k =>
    let v := entBytesNext d (0x4014 + k) (n + 1)
    slotSpeed d n k == 0 || v == [] || timingOk v ((chanOf d n).dimm.spd.getD (slotSpeed d n k - 1) []))
/-- The dry fit of a channel (R257). -/
def chanFit (d : Dev) (n : Nat) : Fit :=
  let o := (chanOf d n).dimm
  fitOf d
    [(o.answers && decide (1 ≤ o.dpc), 0x0201, none),
     (o.supported && decide (o.dpc ≤ 2) && chanSetOk d && (enabledChans d).all (fun c => (chanOf d c).dimm.org == o.org && (chanOf d c).dimm.dpc == o.dpc), 0x0202, none),
     (o.dpc != 2 || (List.range 4).all (fun k => decide (slotSpeed d n k ≤ 5)), 0x0203, none),
     (masksOk d, 0x0205, none),
     (timingsOk d n, 0x0206, none),
     (decide (entNext d 0x4021 1 < entNext d 0x4021 0), 0x0207, none)]

/-! ### MSC slices (R229) -/

def mscFit1 (d : Dev) (n : Nat) : Fit :=
  fitOf d
    [(ent d 0x4000 (n + 1) == 1 && (chanOf d n).state == 2, 0x0303, some (0x4000, n + 1)),
     ((mscOf d n).state == 0 && !(mscOf d n).stale, 0x0302, some (0x4100, n + 1))]
def mscFit0 (d : Dev) (n : Nat) : Fit := fitOf d [(mscDirty d n == 0 && (mscOf d n).evb == [], 0x0301, some (0x4104, n + 1))]
def evictFit (d : Dev) (n : Nat) : Fit :=
  fitOf d [(ent d 0x4100 (n + 1) == 0 && entNext d 0x4100 (n + 1) != 1 && (mscOf d n).state == 0, 0x0304, some (0x4102, n + 1))]

/-! ### Benches (R19, R273, R337, R504) -/

def storesReady (d : Dev) (b : Nat) : Bool :=
  d.pot.ready && ent d 0x5004 (b + 1) != 0 && dramRange d (ent d 0x5003 (b + 1)) (ent d 0x5004 (b + 1))
def benchPhysical (d : Dev) (b : Nat) : Fit := fitOf d [(storesReady d b, 0x0401, none)]
def benchFit (d : Dev) (b : Nat) : Fit :=
  fitOf d
    [(storesReady d b, 0x0401, none),
     ((acctOf d (216 + b)).grant != 0, 0x0402, none),
     ((benchOf d b).version != 0, 0x0403, none),
     (!isStaged d 0x5020 (b + 1) && (benchOf d b).newVersion.isNone, 0x0404, none)]

/-- The key, version and signature checks of R63 on an image or microcode value. -/
def keyReason (d : Dev) (i : List Byte) : Nat :=
  let h := sha512 (imgSigner i)
  let hit (t : Tab (List Byte)) (rev : List Nat) : Bool := (List.range 4).any (fun k => tabGet [] t k == h && tabGet [] t k != [] && !rev.contains k)
  let owned := (List.range 4).any (fun k => tabGet [] d.fuses.ownerHash k != [])
  if (if owned then hit d.fuses.ownerHash d.fuses.ownerRevoked else hit d.fuses.vendorHash d.fuses.vendorRevoked) = false then 0x0104
  else if imgSecurity i < d.fuses.floor then 0x0105
  else if Config.stdOk .imageVerify [imgSigner i, imgMessage sha512 i, imgSignature i] then 0
  else 0x0102
/-- A BENCH_MICROCODE section's own check (R504). -/
def microcodeOk (d : Dev) (s : List Byte) : Bool :=
  decide (0x48 ≤ s.length) && leAt s 0 4 != 0 && leAt s 4 1 == d.fuses.stepping / 256 % 256 && leAt s 5 3 == 0 && sliceOf s 8 64 == sha512 (s.drop 0x48)
def microcodeSection (v : List Byte) : List Byte := (imgSects v).flatMap (sectBytes v)
/-- The dry fit of a microcode value (R337). -/
def microcodeFit (d : Dev) (v : List Byte) : Fit :=
  if d.holdover then fitOf d []
  else if microcodeFormat v ≠ 0 then (microcodeFormat v, none)
  else if keyReason d v ≠ 0 then (keyReason d v, none)
  else fitOf d
    [(microcodeOk d (microcodeSection v), 0x0403, none),
     ((List.range 4).all (fun b => !isStaged d 0x5020 (b + 1) && (benchOf d b).state != 3), 0x0404, none)]

/-! ### Inlay sites (R167, R170) -/

def sitePhysical (d : Dev) (s : Nat) : Fit := fitOf d [(sitePopulated d s, 0x0804, none), ((siteOf d s).uState == 3, 0x0805, none)]
def siteRanges (d : Dev) (s : Nat) : List (Nat × Nat) :=
  let w (k n : Nat) : Nat := entNext d (0xA110 + 16 * s + k) (n + 1)
  ((List.range 16).filter (fun n => getBit (w 2 n) 31 && decide (w 0 n ≤ w 1 n))).map (fun n => (w 0 n, w 1 n + 1 - w 0 n))
def siteFit (d : Dev) (s : Nat) : Fit :=
  if (sitePhysical d s).1 ≠ 0 then sitePhysical d s
  else fitOf d [(siteRanges d s != [], 0x0806, none), (!anyMeet (siteRanges d s), 0x0807, none)]

/-! ### The Gauge (R19) -/

def gaugePhysical (d : Dev) : Fit := fitOf d [(gaugePresent d, 0x0A02, none)]
def gaugeFit (d : Dev) : Fit :=
  fitOf d [(gaugePresent d, 0x0A02, none), (entNext d 0x2040 2 * 1000 % max 1 (entNext d 0x2000 1) == 0, 0x0A01, none)]

/-! ### The management segment (R464) -/

def isFollower (d : Dev) : Bool := ent d 0x2010 1 == 2
def noConflict (d : Dev) : Bool := match d.seg.conflictAt with | some t => decide (t + tickSec < d.now) | none => true
/-- The node that announces KERF_MODE 1 announces this period; none heard passes (log entry 26). -/
def periodAgrees (d : Dev) : Bool :=
  d.seg.nodes.all (fun e => match e.2 with | some n => n.announce.kerfMode != 1 || n.announce.kerfPeriod == entNext d 0x2000 1 | none => true)
def edgeSeen (d : Dev) : Bool := match d.sync.lastEdge with | some t => decide (nsNow d ≤ t + 2 * periodNs d) | none => false
def segPhysical (d : Dev) : Fit := fitOf d [(noConflict d, 0x0901, none), (!isFollower d || edgeSeen d, 0x0904, none)]
def segFit (d : Dev) : Fit :=
  fitOf d
    [(noConflict d, 0x0901, none), (!isFollower d || periodAgrees d, 0x0902, none), (roleAgrees d, 0x0903, none),
     (!isFollower d || edgeSeen d, 0x0904, none)]

/-! ### The mirror (R19, R405, R408) -/

def mirrorRegions (d : Dev) : List (Nat × Nat) :=
  ((List.range 16).map (fun i => (ent d 0x6010 (i + 1), ent d 0x6011 (i + 1)))).filter (fun r => r.2 != 0)
/-- The union of the regions, as ranges (first byte, byte after the last) that do not touch. -/
def regionUnion (d : Dev) : List (Nat × Nat) := (mirrorRegions d).foldl (fun l r => addRange (r.1, r.1 + r.2) l) []
/-- The parts of the set but for its POT lines, each a list of ranges: the regions, the checkpoint block, the key stores. -/
def mirrorParts (d : Dev) : List (List (Nat × Nat)) :=
  [(regionUnion d).map (fun r => (r.1, r.2 - r.1)), [(ent d 0x6001 0, 8 * 2 ^ 20)]] ++ (List.range 4).map (fun b => [(ent d 0x5003 (b + 1), ent d 0x5004 (b + 1))])
def partsApart : List (List (Nat × Nat)) → Bool
  | [] => true
  | p :: ps => ps.all (fun q => p.all (fun r => q.all (fun t => !rangesMeet r t))) && partsApart ps
def regionsBacked (d : Dev) : Bool :=
  let log := (ent d 0x6001 1, ent d 0x6001 2)
  log.2 != 0 && dramRange d log.1 log.2 && !rangesMeet log (d.pot.base, d.pot.size) &&
  (mirrorParts d).all (fun p => p.all (fun r =>
    r.2 == 0 || (dramRange d r.1 r.2 && !rangesMeet r (d.pot.base, d.pot.size) && !rangesMeet r log))) && partsApart (mirrorParts d)
def mirrorLocal (d : Dev) : List (Bool × Nat × Option (Nat × Nat)) :=
  [(decide (entNext d 0x2000 1 ≤ 2000), 0x0603, none),
   (decide ((regionUnion d).foldl (fun n r => n + (r.2 - r.1)) 0 ≤ 2 ^ 42), 0x0605, none),
   (regionsBacked d, 0x0604, none)]
def mirrorLink (d : Dev) (p : PartnerObs) : List (Bool × Nat × Option (Nat × Nat)) :=
  [(d.mirror.w0 != 0 || d.mirror.w1 != 0, 0x0602, none), (ent d 0x6000 4 != 0 && p.present && p.auth, 0x0601, none)]
def mirrorPhysical (d : Dev) (p : PartnerObs) : Fit := fitOf d (mirrorLink d p ++ [(regionsBacked d, 0x0604, none)])
/-- From PHASE 2 on, the local conditions alone are judged (R405). -/
def mirrorFit (d : Dev) (p : PartnerObs) : Fit :=
  fitOf d (if d.mirror.phase ≤ 1 then mirrorLink d p ++ mirrorLocal d ++ [(p.mapEqual && p.kerfPeriod == entNext d 0x2000 1, 0x0606, none)] else mirrorLocal d)

/-! ### Worlds (R368, R387, R389, R400) -/

def mib2 : Nat := 2 ^ 21
/-- The placement of the POT in force follows the rules of explicit placement, or is automatic. -/
def potPlaced (d : Dev) : Bool :=
  ent d 0x7000 4 == 0 || (ent d 0x7000 4 % mib2 == 0 && ent d 0x7000 3 % mib2 == 0 && decide (ent d 0x7000 3 + ent d 0x7000 4 ≤ installed d))
def secureRegions (d : Dev) : List (Nat × Nat) :=
  ((List.range 8).map (fun i => (ent d 0x7020 (i + 1), ent d 0x7021 (i + 1)))).filter (fun r => r.2 != 0)
def debugForbidden (d : Dev) (k : Nat) : Bool := entNext d 0x7002 (k + 1) == 1 && getBit d.fuses.debugOff (debugFuseBit k)
/-- A mirrored region is of the normal world unless it lies inside a secure region (log entry 26). -/
def normalMirrored (d : Dev) : List (Nat × Nat) :=
  (mirrorRegions d).filter (fun r => !(secureRegions d).any (fun s => decide (s.1 ≤ r.1) && decide (r.1 + r.2 ≤ s.1 + s.2)))
def debugFit (d : Dev) : Fit := fitOf d [(!(List.range 4).any (debugForbidden d), 0x0703, none)]
def worldsFit (d : Dev) : Fit :=
  if ent d 0x7000 1 = 1 then
    fitOf d
      [(d.pot.ready, 0x0701, none),
       (potPlaced d && decide (installed d ≤ d.pot.cover) && (secureRegions d).all (fun r => decide (r.1 + r.2 ≤ d.pot.cover)), 0x0702, none),
       (!(List.range 4).any (debugForbidden d), 0x0703, none),
       (!anyMeet (secureRegions d) && (secureRegions d).all (fun r => !rangesMeet r (d.pot.base, d.pot.size) && (normalMirrored d).all (fun m => !rangesMeet r m)),
        0x0704, none)]
  else debugFit d

/-! ### The ledger (R360) -/

def populatedSites (d : Dev) : Nat := ((List.range 2).filter (sitePopulated d)).length
def ledgerFit (d : Dev) : Fit :=
  let v := entNext d
  let floors := v 0x3010 1 * hartsPresent d + v 0x3010 2 * 4 + v 0x3010 3 + v 0x3010 4 + v 0x3010 5 + v 0x3010 6 * populatedSites d + v 0x3000 5 * 1000
  fitOf d
    [(decide (300 ≤ v 0x3000 1) && decide (v 0x3000 1 ≤ 600) && decide (100 ≤ v 0x3000 2) && decide (v 0x3000 2 ≤ 700), 0x0501, none),
     (decide (v 0x3000 3 ≤ 100) && decide (v 0x3000 3 < v 0x3000 1), 0x0503, none),
     (decide (floors ≤ (v 0x3000 1 - v 0x3000 3) * 1000), 0x0502, none)]

/-! ### What a write runs (R39) -/

/-- The dry fits that a write of an entry other than an enable triggers, on the package that already holds the value: the status entry and
the outcome of each. -/
def dependents (d : Dev) (p : PartnerObs) (idx sub : Nat) : List (Nat × Nat × Fit) :=
  let gauge : List (Nat × Nat × Fit) := if fitOn d 0x2040 1 0x2040 3 then [(0x2040, 3, gaugeFit d)] else []
  if idx = 0x2000 ∧ sub = 1 then
    gauge ++ (if fitOn d 0x6000 1 0x6000 2 then [(0x6000, 2, mirrorFit d p)] else []) ++ (if isFollower d then [(0xB100, 2, segFit d)] else [])
  else if idx = 0x2040 ∧ sub = 2 then gauge
  else if 0x3000 ≤ idx ∧ idx ≤ 0x3FFF then [(0x3001, 0, ledgerFit d)]
  else if idx = 0x4003 ∨ (0x4014 ≤ idx ∧ idx ≤ 0x4017) then (if ent d 0x4000 sub = 1 then [(0x4001, sub, chanFit d (sub - 1))] else [])
  else if idx = 0x4021 then (enabledChans d).map (fun n => (0x4001, n + 1, chanFit d n))
  else if idx = 0x4102 then [(0x4101, sub, evictFit d (sub - 1))]
  else if idx = 0x7002 then [(0x7000, 2, worldsFit d)]
  else if 0xA110 ≤ idx ∧ idx ≤ 0xA122 then
    let s := (idx - 0xA110) / 16
    if fitOn d 0xA100 (s + 1) 0xA101 (s + 1) then [(0xA101, s + 1, siteFit d s)] else []
  else []

/-- An enable entry of swap class KERF: its status entry, its dry fit and the physical part of it (R40, R43). -/
def enableOf (d : Dev) (p : PartnerObs) (idx sub : Nat) : Option ((Nat × Nat) × Fit × Fit) :=
  let n := sub - 1
  if idx = 0x4100 then some ((0x4101, sub), mscFit1 d n, mscFit1 d n)
  else if idx = 0x5000 then some ((0x5001, sub), benchFit d n, benchPhysical d n)
  else if idx = 0xA100 then some ((0xA101, sub), siteFit d n, sitePhysical d n)
  else if idx = 0x2040 ∧ sub = 1 then some ((0x2040, 3), gaugeFit d, gaugePhysical d)
  else if idx = 0xB100 ∧ sub = 1 then some ((0xB100, 2), segFit d, segPhysical d)
  else if idx = 0x6000 ∧ sub = 1 then some ((0x6000, 2), mirrorFit d p, mirrorPhysical d p)
  else none
/-- Every one of them, in the order of R65. -/
def kerfEnables : List (Nat × Nat) :=
  (List.range 16).map (fun n => (0x4100, n + 1)) ++ (List.range 4).map (fun n => (0x5000, n + 1)) ++ [(0xA100, 1), (0xA100, 2), (0x2040, 1), (0xB100, 1), (0x6000, 1)]

end Sys2Proof.Machine
end

