-- ==== Sys2Proof/Machine/Identity.lean ====
section
/-!
DEFINITION. The SPDM responder (R395–R397): sessions, their roles, measurements and certificates. What the SPDM standard
computes is a constant of Config (log entry 5); which session, role, key and block answer is the spec's.
-/
set_option linter.unusedVariables false

namespace Sys2Proof.Machine

open Host (Outcome)

/-- The responder runs (R67): from the end of stage 0x02, the time base locked. -/
def spdmUp (d : Dev) : Bool :=
  (d.boot.done.contains 2 || (d.boot.failStage == 2 && d.boot.lockedTimeBase)) && d.boot.phase != .off && d.boot.phase != .inReset
def putSess (n : Nat) (v : Option Session) (d : Dev) : Dev := { d with list := { d.list with sessions := tabSet none d.list.sessions n v } }
/-- Answer where the responder runs. -/
def onSpdm (f : Dev → Dev) (d : Dev) : Dev := if spdmUp d then f d else d
/-- Answer in a session that is open. -/
def inSess (n : Nat) (f : Session → Dev → Dev) (d : Dev) : Dev :=
  onSpdm (fun d => match sessOf d n with | some x => f x d | none => emit (.spdm none .errUnspecified []) d) d

/-- A session ends: its transfer, its parked wait and its report request with it; what it staged stays (R30, R47, R48, R398). -/
def endSess (n : Nat) (d : Dev) : Dev := { putSess n none d with reports := tabSet none d.reports n none }

/-- The lowest free session slot. -/
def freeSess (d : Dev) : Option Nat := (List.range 8).find? (fun n => (sessOf d n).isNone)
/-- SPDM_KEY_EXCHANGE: at most 8 sessions; the heartbeat period is 30 s. -/
def keyExchange (req : List Byte) (d : Dev) : Dev :=
  match freeSess d with
  | none => emit (.spdm none .errSessionLimit []) d
  | some n => emit (.spdm (some n) .keyExchange (leBytes 1 30 ++ signWith (keyTop d) (Config.std .spdm [[1], req]))) (putSess n (some sessInit) d)
def execSpdmKeyExchange (req : List Byte) (s : State) : Outcome State Fault Refusal := onDev (onSpdm (keyExchange req)) s

def roleOf : Nat → Role
  | 2 => .operator
  | 3 => .owner
  | 4 => .secure
  | _ => .observer
/-- The role of a requester (R54, R397): the first ROLE_KEY entry that holds its key's hash. -/
def roleFor (d : Dev) (leaf : Option (List Byte)) : Role :=
  match leaf with
  | none => .observer
  | some k =>
    if d.boot.phase ≠ .released then .observer
    else match ((List.range 16).map (fun i => entBytes d 0x7030 (i + 1))).find? (fun v => v != [] && v.take 64 == sha512 k) with
      | some v => roleOf (leAt v 64 1)
      | none => .observer
/-- SPDM_FINISH: the handshake verifies and the session's role is fixed; one that does not verify ends. -/
def finish (n : Nat) (leaf : Option (List Byte)) (req : List Byte) (d : Dev) : Dev :=
  match sessOf d n with
  | some x =>
    if x.finished then emit (.spdm (some n) .errUnspecified []) d
    else if Config.stdOk .spdm [leaf.getD [], req] then
      emit (.spdm (some n) .finish []) (putSess n (some { x with finished := true, role := roleFor d leaf, keyHash := leaf.map sha512 }) d)
    else emit (.spdm (some n) .errUnspecified []) (endSess n d)
  | none => emit (.spdm none .errUnspecified []) d
def execSpdmFinish (sess : SessN) (leaf : Option (List Byte)) (req : List Byte) (s : State) : Outcome State Fault Refusal :=
  onDev (onSpdm (finish sess leaf req)) s

/-- The microcode a bench runs: the value last swapped in where its version runs, else the image's section. -/
def runningMicrocode (d : Dev) (b : Nat) : List Byte :=
  let v := entBytes d 0x5020 (b + 1)
  let sect := (imgSects v).flatMap (sectBytes v)
  if v ≠ [] ∧ leAt sect 0 4 = (benchOf d b).version then sect else d.boot.microcode.getD []
/-- What a measurement block measures (R396). -/
def measured (d : Dev) (k : Nat) : List Byte :=
  let img := d.boot.image
  let join (t : Nat) : List Byte := (sectsOf t img).flatMap (sectBytes img)
  match k with
  | 1 => Config.std .measureSign []
  | 2 => join 2
  | 3 => sha512 (imgSigner img) ++ leBytes 4 (imgSecurity img) ++ leBytes 1 d.fuses.floor
  | 4 => join 1
  | 5 => join 4
  | 10 => leBytes 8 (debugFuses d) ++ leBytes 8 (slotState d)
  | 11 => leBytes 1 (ent d 0x7000 1) ++ (List.range 4).flatMap (fun i => leBytes 1 (b2n (debugEnable d i))) ++
      (List.range 8).flatMap (fun i => leBytes 8 (ent d 0x7020 (i + 1)) ++ leBytes 8 (ent d 0x7021 (i + 1)))
  | _ => runningMicrocode d (k - 6)
/-- A block in the DMTF measurement format (log entry 5): index, specification 1, size, type, value size, digest. -/
def measureBlock (d : Dev) (k : Nat) : List Byte :=
  leBytes 1 k ++ leBytes 1 1 ++ leBytes 2 67 ++ leBytes 1 (min (k - 1) 4) ++ leBytes 2 64 ++ sha512 (measured d k)
/-- The blocks a request names: none for 0, which asks for their number; all for 255. -/
def measureBlocks (index : Nat) : List Nat := if index = 255 then (List.range 11).map (· + 1) else if index = 0 then [] else [index]
def getMeasurements (sess : Option Nat) (index : Nat) (sign : Bool) (nonce : List Byte) (d : Dev) : Dev :=
  if index ≤ 11 ∨ index = 255 then
    let body := leBytes 1 (if index = 0 then 11 else (measureBlocks index).length) ++ (measureBlocks index).flatMap (measureBlock d)
    emit (.spdm sess .measurements (body ++ if sign then signWith (keyTop d) (nonce ++ body) else [])) d
  else emit (.spdm sess .errUnspecified []) d
def execSpdmGetMeasurements (sess : Option SessN) (index : Nat) (sign : Bool) (nonce : List Byte) (s : State) : Outcome State Fault Refusal :=
  onDev (onSpdm (getMeasurements (sess.map (fun n => n.val)) index sign nonce)) s

/-- SPDM_GET_CERTIFICATE: slot 0 holds the chain of R393. -/
def getCertificate (sess : Option Nat) (slot off len : Nat) (d : Dev) : Dev :=
  if slot = 0 ∧ off ≤ (certChain d).length then
    let part := sliceOf (certChain d) off len
    emit (.spdm sess .certificate (leBytes 2 part.length ++ leBytes 2 ((certChain d).length - off - part.length) ++ part)) d
  else emit (.spdm sess .errUnspecified []) d
def execSpdmGetCertificate (sess : Option SessN) (slot off len : Nat) (s : State) : Outcome State Fault Refusal :=
  onDev (onSpdm (getCertificate (sess.map (fun n => n.val)) slot off len)) s

/-- SPDM_CHALLENGE: signed by the highest key available. -/
def challenge (slot : Nat) (nonce : List Byte) (d : Dev) : Dev :=
  if slot = 0 then emit (.spdm none .challengeAuth (signWith (keyTop d) (Config.std .spdm [[2], nonce, certChain d]))) d
  else emit (.spdm none .errUnspecified []) d
def execSpdmChallenge (slot : Nat) (nonce : List Byte) (s : State) : Outcome State Fault Refusal := onDev (onSpdm (challenge slot nonce)) s

def execSpdmKeyUpdate (sess : SessN) (s : State) : Outcome State Fault Refusal :=
  onDev (inSess sess (fun x d => emit (.spdm (some sess) .keyUpdateAck []) (putSess sess (some { x with keyUpdates := x.keyUpdates + 1 }) d))) s
def execSpdmHeartbeat (sess : SessN) (s : State) : Outcome State Fault Refusal :=
  onDev (inSess sess (fun _ d => emit (.spdm (some sess) .heartbeatAck []) d)) s
def execSpdmEndSession (sess : SessN) (s : State) : Outcome State Fault Refusal :=
  onDev (inSess sess (fun _ d => emit (.spdm (some sess) .endSessionAck []) (endSess sess d))) s
/-- No message for 60 s. -/
def execSpdmSessionTimeout (sess : SessN) (s : State) : Outcome State Fault Refusal := onDev (endSess sess) s

end Sys2Proof.Machine
end

