-- ==== Sys2Proof/Machine/ListRules.lean ====
section
/-!
DEFINITION. The rules a Cutting List value keeps (R27, R49, and the Meaning columns of the entry tables), the rules of
roles and paired entries (R14, R419), and what an immediate value does.
-/
set_option linter.unusedVariables false

namespace Sys2Proof.Machine

/-! ### Abort codes (R50) -/

def abOk : Nat := 0
def abIndex : Nat := 0x00010001
def abSub : Nat := 0x00010002
def abRole : Nat := 0x00020001
def abSealed : Nat := 0x00020002
def abBoot : Nat := 0x00020003
def abPaired : Nat := 0x00020004
def abLength : Nat := 0x00030001
def abTooLong : Nat := 0x00030002
def abRange : Nat := 0x00030003
def abRsvd : Nat := 0x00030004
def abEnum : Nat := 0x00030005
def abType : Nat := 0x00030006
def abDryFit : Nat := 0x00040001
def abOrder : Nat := 0x00050001
def abTimeout : Nat := 0x00050002
def abCancelled : Nat := 0x00050003
def abBusy : Nat := 0x00050004
def abNoTransfer : Nat := 0x00050005
def abWaitBusy : Nat := 0x00050006
def abNoSession : Nat := 0x00060001
def abMalformed : Nat := 0x00060002
def abVersion : Nat := 0x00060003
def abOpcode : Nat := 0x00060004

/-- The first code of a list that is not OK. -/
def firstCode : List Nat → Nat
  | [] => abOk
  | c :: cs => if c = abOk then firstCode cs else c
/-- A code where a condition fails. -/
def orCode (ok : Bool) (code : Nat) : Nat := if ok then abOk else code

/-! ### Values (R27) -/

/-- The highest value of an ENUM entry. -/
def enumMax (idx sub : Nat) : Nat := if 0x4010 ≤ idx ∧ idx ≤ 0x4013 then 7 else if idx = 0x4102 then 1 else 2
/-- The bits of a BITS entry that are not RSVD, as (low bit, width). -/
def bitsFields (idx : Nat) : List (Nat × Nat) :=
  if idx = 0x4110 then [(16, 16), (8, 1), (0, 2)]
  else if idx = 0x9020 then [(0, 7)]
  else [(30, 2), (25, 2), (12, 12), (0, 3)]
def bitsMask (idx : Nat) : Nat := packFields ((bitsFields idx).map (fun f => (2 ^ f.2 - 1, f.1, f.2)))

def within (lo hi v : Nat) : Bool := decide (lo ≤ v) && decide (v ≤ hi)
def gib : Nat := 2 ^ 30
/-- The range of a numeric entry, and the rules it states of its value. -/
def rangeOk (idx sub v : Nat) : Bool :=
  match idx with
  | 0x2000 => sub != 1 || within 100 10000 v
  | 0x2040 => sub != 2 || within 1000 60000 v
  | 0x3000 => (match sub with | 4 => within 70 94 v | 5 => within 0 200 v | 6 => within 0 90 v | _ => true)
  | 0x3010 => (match sub with | 1 => within 0 1000 v | 2 => within 0 20000 v | 3 => within 0 60000 v | 4 => within 0 40000 v | 5 => within 0 80000 v | _ => within 0 60000 v)
  | 0x4003 => within 0 3 v
  | 0x4021 => if sub = 0 then within 2 64 v else within 0 62 v
  | 0x4022 => within 0 8 v
  | 0x4023 => (match sub with | 0 => within 10 1000 v | 1 => true | _ => within 100 10000 v)
  | 0x4024 => within 1 168 v
  | 0x4025 => within 5 100 v
  | 0x4026 => v == 0 || within 10 1000000 v
  | 0x4027 => within 80 100 v
  | 0x4032 => within 0 15 v
  | 0x4110 => (match sub with | 0 => v % 64 == 0 | 1 => v % 64 == 63 | _ => true)
  | 0x5003 => v % mib2 == 0
  | 0x5004 => v % mib2 == 0 && within 0 (64 * gib) v
  | 0x5010 => within 10 10000 v
  | 0x6000 => (match sub with | 4 => within 0 32 v | 8 => within 256 8192 v | _ => true)
  | 0x6001 => if sub = 2 then v % mib2 == 0 && within gib (64 * gib) v else v % mib2 == 0
  | 0x6010 => v % mib2 == 0
  | 0x6011 => v % mib2 == 0
  | 0x7020 => v % mib2 == 0
  | 0x7021 => v % mib2 == 0 && within 0 (16 * gib) v
  | 0x9040 => v == 0 || within 60 86400 v
  | 0x9041 => within 60 604800 v
  | 0x9042 => within 1 65535 v
  | 0xA040 => within 100 10000 v
  | 0xA041 => within 0 192 v
  | 0xA107 => within 1 65535 v
  | 0xA108 => within 100 64000 v
  | 0xA109 => within 4 4096 v
  | 0xA110 => v % 4096 == 0
  | 0xA120 => v % 4096 == 0
  | 0xA111 => v % 4096 == 0xFFF
  | 0xA121 => v % 4096 == 0xFFF
  | 0xB100 => (match sub with | 3 => within 0 63 v || v == 255 | 4 => within 2 64 v | 5 => within 1024 65535 v | _ => true)
  | 0xB200 => within 0 10000 v
  | _ => true

/-- Rules of a value that read the package: a maintenance command (R233), a withdraw (R210), a readmission (R216). -/
def stateOk (d : Dev) (idx sub v : Nat) : Bool :=
  if idx = 0x4110 ∧ sub = 2 then !d.maint.busy && getBits v 0 2 != 0 && !(getBit v 8 && getBits v 16 16 == 0)
  else if idx = 0xA030 then
    v == 0 || (diePhase d (sub - 1) == 0 && !(sub == 1 && secureExists d) && (List.range 12).any (fun n => n != sub - 1 && diePhase d n == 0))
  else if idx = 0xA031 then v == 0 || readmitOk d (sub - 1)
  else true

/-- Row 14 of R503 for a number. -/
def numCode (d : Dev) (r : EntryRow) (idx sub v : Nat) : Nat :=
  match r.typ with
  | .bool => firstCode [orCode (decide (v ≤ 1)) abRange, orCode (stateOk d idx sub v) abRange]
  | .bits => firstCode [orCode (Nat.land v (bitsMask idx) == v) abRsvd, orCode (stateOk d idx sub v) abRange]
  | .enum => firstCode [orCode (decide (v ≤ enumMax idx sub)) abEnum, orCode (stateOk d idx sub v) abRange]
  | _ => firstCode [orCode (rangeOk idx sub v) abRange]

/-- A length an entry refuses at BEGIN, with its own code (R49, R255, R394, R397). -/
def totalCode (r : EntryRow) (idx n : Nat) : Nat :=
  firstCode
    [orCode (decide (n ≤ r.max)) abTooLong,
     orCode (!(decide (0x4014 ≤ idx) && decide (idx ≤ 0x4017) && decide (n < 64))) abLength,
     orCode (!(idx == 0x7042 && decide (n < 66))) abRange,
     orCode (!(idx == 0x7030 && decide (1 ≤ n) && decide (n < 65))) abRange]

/-- A FUSE_REQUEST is possible (R394): nothing fused or revoked twice, an unrevoked slot left of the kind R63 then accepts. -/
def fuseOk (d : Dev) (v : List Byte) : Bool :=
  let act := leAt v 0 1
  let k := leAt v 1 1
  let f := d.fuses
  let fused (t : Tab (List Byte)) (i : Nat) : Bool := tabGet [] t i != []
  let left (t : Tab (List Byte)) (rev : List Nat) : Bool := (List.range 4).any (fun i => i != k && fused t i && !rev.contains i)
  let owned := (List.range 4).any (fused f.ownerHash)
  decide (k ≤ 3) && (act == 1 || allZero (v.drop 2)) &&
  (match act with
    | 1 => !fused f.ownerHash k && !f.ownerRevoked.contains k
    | 2 => fused f.ownerHash k && !f.ownerRevoked.contains k && left f.ownerHash f.ownerRevoked
    | 3 => fused f.vendorHash k && !f.vendorRevoked.contains k && (owned || left f.vendorHash f.vendorRevoked)
    | 4 => true
    | _ => false)

/-- Row 14 of R503 for octets. -/
def octetsCode (d : Dev) (r : EntryRow) (idx : Nat) (v : List Byte) : Nat :=
  if 0x4014 ≤ idx ∧ idx ≤ 0x4017 then orCode (allZero (v.drop 0x20)) abRsvd
  else if idx = 0x7030 then orCode (v == [] || within 1 4 (leAt v 64 1)) abRange
  else if idx = 0x7042 then orCode (fuseOk d v) abRange
  else if r.typ = .string then orCode (utf8Ok v) abRange
  else abOk

/-- A value's length fits the type (R49). -/
def lengthCode (r : EntryRow) (idx n : Nat) : Nat :=
  match r.typ with
  | .string => orCode (decide (n ≤ r.max)) abTooLong
  | .domain => totalCode r idx n
  | t => orCode (n == typeSize t) abLength

/-- What a list WRITE checks of a value, length first (rows 13 and 14). -/
def valueCode (d : Dev) (r : EntryRow) (idx sub : Nat) (v : List Byte) : Nat :=
  firstCode [lengthCode r idx v.length, if isOctets r.typ then octetsCode d r idx v else numCode d r idx sub (leNat v)]
/-- A value from its bytes. -/
def valOf (r : EntryRow) (v : List Byte) : Val := if isOctets r.typ then .bytes v else .num (leNat v)

/-! ### Roles (R14) and pairs (R419) -/

def roleIdx : Role → Nat
  | .observer => 0 | .operator => 1 | .owner => 2 | .secure => 3
def mayRead (r : EntryRow) (role : Role) : Bool := decide (1 ≤ r.access.getD (roleIdx role) 0)
def mayWrite (r : EntryRow) (role : Role) : Bool := decide (2 ≤ r.access.getD (roleIdx role) 0)
/-- A window's attributes, as they are or as staged, name OCLASS 1. -/
def secureWindow (d : Dev) (idx sub : Nat) : Bool := getBit (ent d idx sub) 26 || getBit (entNext d idx sub) 26
/-- The narrower rules of an entry (R167, R316, R394, R397). -/
def narrowOk (d : Dev) (role : Role) (idx sub : Nat) (v : List Byte) : Bool :=
  if role = .secure then true
  else if idx = 0x5011 ∨ idx = 0x7042 then !(role == .owner && secureExists d)
  else if idx = 0x7030 then !(role == .owner && (leAt (entBytes d 0x7030 sub) 64 1 == 4 || (v.length == 65 && leAt v 64 1 == 4)))
  else if idx = 0xA112 ∨ idx = 0xA122 then !getBit (leNat v) 26 && !secureWindow d idx sub
  else if idx = 0xA110 ∨ idx = 0xA120 then !secureWindow d (idx + 2) sub
  else if idx = 0xA111 ∨ idx = 0xA121 then !secureWindow d (idx + 1) sub
  else true

/-- The paired entries. -/
def isPaired (idx sub : Nat) : Bool :=
  (idx == 0x2000 && sub == 1) || (idx == 0x2040 && (sub == 1 || sub == 2)) || idx == 0x5000 || idx == 0x5020 || (idx == 0x6000 && sub == 8) ||
  idx == 0x7002 || idx == 0xA030
def pairedHere (d : Dev) (idx sub : Nat) : Bool := d.mirror.role == 2 && isPaired idx sub

/-! ### Immediate values (R29) -/

/-- Every staged value is discarded, accepted enables with it (R37). -/
def discardStaged (d : Dev) : Dev :=
  { d with list := { d.list with stg := [], status := tabMap dryInit (fun _ x => { x with pend := false }) d.list.status } }

/-- A fuse request is carried out (R394). -/
def blowFuse (v : List Byte) (d : Dev) : Dev :=
  let k := leAt v 1 1
  let f := d.fuses
  match leAt v 0 1 with
  | 1 => { d with fuses := { f with ownerHash := tabSet [] f.ownerHash k (sliceOf v 2 64) } }
  | 2 => { d with fuses := { f with ownerRevoked := f.ownerRevoked ++ [k] } }
  | 3 => { d with fuses := { f with vendorRevoked := f.vendorRevoked ++ [k] } }
  | 4 =>
    let d := { d with fuses := { f with debugOff := setBit f.debugOff k true } }
    (List.range 4).foldl (fun d e => if debugFuseBit e = k then setStg (setCurNat d 0x7002 (e + 1) 0) 0x7002 (e + 1) none else d) d
  | _ => d

/-- What a number does when it takes effect at once: an entry that acts, or one that holds the value. -/
def immNum (u : UcieObs) (idx sub v : Nat) (d : Dev) : Dev :=
  let on (f : Dev → Dev) : Dev := if v = 1 then f d else d
  if idx = 0x2000 ∧ sub = 6 then on discardStaged
  else if idx = 0xA001 then on (retrainLink (sub - 1))
  else if idx = 0xA103 then on (trainSite (sub - 1) u)
  else if idx = 0xA031 then on (startReadmit (sub - 1))
  else if idx = 0x4004 then on (roundNow (sub - 1) false)
  else if idx = 0x5011 then on (benchZeroise (sub - 1))
  else if idx = 0x6000 ∧ sub = 6 then on forcePromote
  else if idx = 0x6031 then on (takeoverOpen sub)
  else if idx = 0x9030 then on ovfClear
  else if idx = 0x4110 ∧ sub = 2 then maintStart v (setCurNat d idx sub v)
  else setCurNat d idx sub v
/-- What octets do. -/
def immBytes (sess : Nat) (idx sub : Nat) (v : List Byte) (d : Dev) : Dev :=
  let d := setCur d idx sub (some (.bytes v))
  if idx = 0x7042 then blowFuse v d
  else if idx = 0x7010 then { d with reports := tabSet none d.reports sess (some (leAt v 0 2, padTo 32 (v.drop 2))) }
  else d

end Sys2Proof.Machine
end

