-- ==== Sys2Proof/Machine/ListServer.lean ====
section
/-!
DEFINITION. The list protocol (R45–R50, R503): every message's checks in the order of R503, reads and writes by swap class,
DOMAIN transfers and parked waits.
-/
set_option linter.unusedVariables false

namespace Sys2Proof.Machine

open Host (Outcome)

/-! ### Messages (R45, R46) -/

/-- Answer a message: the opcode with bit 7 set, its TAG, the ABORT code, and the body where it is OK. -/
def reply (m : ListMsg) (op code : Nat) (body : List Byte) (d : Dev) : Dev :=
  emit (.listResp d.fuses.vendorId (m.sess.map (fun n => n.val)) (op + 128) m.tag code (if code = abOk then body else [])) d
/-- The session a message travels in, where its handshake is finished. -/
def openSess (d : Dev) (m : ListMsg) : Option (Nat × Session) :=
  match m.sess with
  | some n => (match sessOf d n with | some x => if x.finished then some (n.val, x) else none | none => none)
  | none => none
/-- Rows 1 and 2 of R503, then the message. List messages are served from the end of stage 0x02 (R54, R67); one that holds another vendor's number is
no list message (R45, log entry 66). -/
def onList (m : ListMsg) (op : Nat) (f : Nat → Session → Dev → Dev) (d : Dev) : Dev :=
  if spdmUp d && m.vendor == d.fuses.vendorId then
    match openSess d m with
    | none => reply m op abNoSession [] d
    | some (n, x) => if m.version = 1 then f n x d else reply m op abVersion [] d
  else d

/-- Rows 7–11 of R503 for a message on an entry. -/
def targetCode (d : Dev) (role : Role) (write domain : Bool) (idx sub : Nat) (v : List Byte) : Nat :=
  match entryRow idx sub with
  | none => if indexExists idx then abSub else abIndex
  | some r =>
    firstCode
      [orCode ((r.typ == .domain) == domain) abType,
       orCode (!write || r.swap != .sealed_) abSealed,
       orCode (!write || r.swap != .boot) abBoot,
       orCode (if write then mayWrite r role && narrowOk d role idx sub v else mayRead r role) abRole,
       orCode (!write || !pairedHere d idx sub) abPaired]

/-! ### READ -/

def readMsg (m : ListMsg) (n : Nat) (x : Session) (d : Dev) : Dev :=
  let b := m.body
  let idx := leAt b 0 2
  let sub := leAt b 2 1
  let flags := leAt b 3 1
  let code := if b.length ≠ 4 then abMalformed else if 2 ≤ flags then abRsvd else targetCode d x.role false false idx sub []
  match entryRow idx sub with
  | none => reply m 1 code [] d
  | some r =>
    let ex := isStaged d idx sub
    let st := flags == 1 && ex
    let v := if st then stgBytes d r idx sub else curBytes d n x.role r idx sub
    reply m 1 code (leBytes 1 (typeCode r.typ) ++ leBytes 1 (b2n st + 2 * b2n ex) ++ leBytes 2 v.length ++ v) d

/-! ### Writes (R29, R39–R41, R229) -/

/-- What a write has come to: its code, its EFFECTIVE_KERF, the package after it. -/
abbrev Wrote := Nat × Nat × Dev
def nextKerf (d : Dev) : Nat := d.kerf.counter + 1

/-- Run dry fits and record each; whether all accept. -/
def runFits (trig : Nat × Nat) (fs : List (Nat × Nat × Fit)) (d : Dev) : Bool × Dev :=
  (fs.all (fun f => f.2.2.1 == 0), fs.foldl (fun d f => recordFit f.1 f.2.1 trig false f.2.2 d) d)
def setPend (st : Nat × Nat) (b : Bool) (d : Dev) : Dev := updDry d st.1 st.2 (fun x => { x with pend := b })

/-- A write of 1 to an enable that reads 0 with none pending. -/
def writeOne (st : Nat × Nat) (f : Fit) (idx sub : Nat) (d : Dev) : Wrote :=
  let d := recordFit st.1 st.2 (idx, sub) false f d
  if f.1 = 0 then (abOk, nextKerf d, setPend st true (setStg d idx sub (some (.num 1)))) else (abDryFit, 0, setStg d idx sub none)
/-- A write to a KERF enable other than an MSC slice's. -/
def writeEnable (st : Nat × Nat) (f : Fit) (idx sub v : Nat) (d : Dev) : Wrote :=
  if v = 1 ∧ ent d idx sub = 0 ∧ (dryOf d st.1 st.2).pend = false then writeOne st f idx sub d
  else
    let d := setStg d idx sub (some (.num v))
    (abOk, nextKerf d, if v = 0 then setPend st false d else d)
/-- A write to MSC_ENABLE (R229). -/
def writeMsc (sub v : Nat) (d : Dev) : Wrote :=
  let n := sub - 1
  let st := (0x4101, sub)
  let reads := ent d 0x4100 sub
  let staged := entNext d 0x4100 sub
  match v with
  | 2 => if reads = 1 then (abOk, nextKerf d, setPend st true (setStg d 0x4100 sub (some (.num 2)))) else (abOk, d.kerf.counter, d)
  | 1 =>
    if reads = 0 ∧ staged = 0 then writeOne st (mscFit1 d n) 0x4100 sub d
    else (abOk, nextKerf d, if reads = 1 then setPend st false (setStg d 0x4100 sub (some (.num 1))) else d)
  | _ =>
    let f := mscFit0 d n
    let d := recordFit st.1 st.2 (0x4100, sub) false f d
    if f.1 = 0 then
      (abOk, nextKerf d, (if (mscOf d n).state = 2 then id else setPend st false) (setStg d 0x4100 sub (some (.num 0))))
    else (abDryFit, 0, d)
/-- A write of any other entry: the dry fits of what depends on it, then the value by its swap class. -/
def writePlain (sess : Nat) (p : PartnerObs) (u : UcieObs) (r : EntryRow) (idx sub : Nat) (v : Val) (d : Dev) : Wrote :=
  let tent := if r.swap = .imm then setCur d idx sub (some v) else setStg d idx sub (some v)
  let fs := if idx = 0x5020 then (match v with | .bytes b => [(0x5001, sub, microcodeFit d b)] | .num _ => []) else dependents tent p idx sub
  let x := runFits (idx, sub) fs d
  if x.1 then
    if r.swap = .imm then (abOk, d.kerf.counter, match v with | .num n => immNum u idx sub n x.2 | .bytes b => immBytes sess idx sub b x.2)
    else (abOk, nextKerf d, setStg x.2 idx sub (some v))
  else (abDryFit, 0, x.2)
/-- A checked value is written. -/
def writeVal (sess : Nat) (p : PartnerObs) (u : UcieObs) (r : EntryRow) (idx sub : Nat) (v : List Byte) (d : Dev) : Wrote :=
  if idx = 0x4100 then writeMsc sub (leNat v) d
  else match enableOf d p idx sub with
    | some (st, f, _) => writeEnable st f idx sub (leNat v) d
    | none => writePlain sess p u r idx sub (valOf r v) d

/-- WRITE: rows 4–15 of R503. -/
def writeMsg (m : ListMsg) (p : PartnerObs) (u : UcieObs) (n : Nat) (x : Session) (d : Dev) : Dev :=
  let b := m.body
  let idx := leAt b 0 2
  let sub := leAt b 2 1
  let v := b.drop 6
  let code := if b.length < 6 ∨ v.length ≠ leAt b 4 2 then abMalformed
      else if leAt b 3 1 ≠ 0 then abRsvd else targetCode d x.role true false idx sub v
  match entryRow idx sub with
  | none => reply m 2 code [] d
  | some r =>
    let code := firstCode [code, valueCode d r idx sub v]
    if code = abOk then
      let w := writeVal n p u r idx sub v d
      reply m 2 w.1 (leBytes 8 w.2.1) w.2.2
    else reply m 2 code [] d

/-! ### DOMAIN transfers (R48, R49) -/

def withSess (n : Nat) (f : Session → Session) (d : Dev) : Dev := updSess d n f
def ownWrite (x : Session) : Bool := match x.transfer with | some t => t.write | none => false
/-- Another session's write transfer is open on the entry. -/
def entryBusy (d : Dev) (n idx sub : Nat) : Bool :=
  d.list.sessions.any (fun e => e.1 != n && (match e.2 with | some x => (match x.transfer with | some t => t.write && t.idx == idx && t.sub == sub | none => false) | none => false))

def writeBegin (m : ListMsg) (n : Nat) (x : Session) (d : Dev) : Dev :=
  let b := m.body
  let idx := leAt b 0 2
  let sub := leAt b 2 1
  let total := leAt b 4 4
  let code := if b.length ≠ 8 then abMalformed else if leAt b 3 1 ≠ 0 then abRsvd else targetCode d x.role true true idx sub []
  match entryRow idx sub with
  | none => reply m 3 code [] d
  | some r =>
    let code := firstCode [code, orCode (!ownWrite x && !entryBusy d n idx sub) abBusy, totalCode r idx total]
    if code = abOk then
      reply m 3 abOk []
        (withSess n (fun x => { x with transfer := some { write := true, idx := idx, sub := sub, total := total, data := [], live := false, staged := false }, report := none }) d)
    else reply m 3 code [] d

/-- Row 6 of R503: no open transfer of the kind; a report is given once. -/
def noTransfer (m : ListMsg) (op n : Nat) (x : Session) (d : Dev) : Dev :=
  match x.report with
  | some .timeout => reply m op abTimeout [] (withSess n (fun x => { x with report := none }) d)
  | some .cancelled => reply m op abCancelled [] (withSess n (fun x => { x with report := none }) d)
  | none => reply m op abNoTransfer [] d
/-- The open transfer of a kind. -/
def transferOf (x : Session) (write : Bool) : Option Transfer := x.transfer.filter (fun t => t.write == write)

def writeSegment (m : ListMsg) (n : Nat) (x : Session) (d : Dev) : Dev :=
  let b := m.body
  let off := leAt b 0 4
  let len := leAt b 4 2
  if b.length < 6 ∨ b.length ≠ 6 + len then reply m 4 abMalformed [] d
  else match transferOf x true with
    | none => noTransfer m 4 n x d
    | some t =>
      if t.total < t.data.length + len then reply m 4 abTooLong [] (withSess n (fun x => { x with transfer := none }) d)
      else if off ≠ t.data.length then reply m 4 abOrder [] d
      else if len = 0 ∨ 1024 < len then reply m 4 abRange [] d
      else reply m 4 abOk [] (withSess n (fun x => { x with transfer := some { t with data := t.data ++ b.drop 6 } }) d)

/-- DOMAIN_WRITE_END. That an END aborted for a narrower role rule, the value or the dry fit closes the transfer is the model's choice (DESIGN CHOICE,
log entry 59): R48 says so of an END short of TOTAL only. -/
def writeEnd (m : ListMsg) (p : PartnerObs) (n : Nat) (x : Session) (d : Dev) : Dev :=
  if m.body ≠ [] then reply m 5 abMalformed [] d
  else match transferOf x true with
    | none => noTransfer m 5 n x d
    | some t =>
      let d := withSess n (fun x => { x with transfer := none }) d
      match entryRow t.idx t.sub with
      | none => reply m 5 abIndex [] d
      | some r =>
        let code := firstCode [orCode (narrowOk d x.role t.idx t.sub t.data) abRole, orCode (t.data.length == t.total) abLength, octetsCode d r t.idx t.data]
        if code = abOk then
          let w := writePlain n p { ok := false, rate := 0, width := 0 } r t.idx t.sub (.bytes t.data) d
          reply m 5 w.1 (leBytes 8 w.2.1) w.2.2
        else reply m 5 code [] d

def readBegin (m : ListMsg) (n : Nat) (x : Session) (d : Dev) : Dev :=
  let b := m.body
  let idx := leAt b 0 2
  let sub := leAt b 2 1
  let flags := leAt b 3 1
  let code := if b.length ≠ 4 then abMalformed else if 2 ≤ flags then abRsvd else targetCode d x.role false true idx sub []
  match entryRow idx sub with
  | none => reply m 6 code [] d
  | some r =>
    let code := firstCode [code, orCode (!ownWrite x) abBusy]
    if code = abOk then
      let live := decide (65536 < r.max)
      let ring := idx == 0x8010
      let st := flags == 1 && isStaged d idx sub
      let v := if ring then [] else if st then stgBytes d r idx sub else curBytes d n x.role r idx sub
      let total := if ring then ringTotal d else v.length
      reply m 6 abOk (leBytes 4 total)

          (withSess n (fun x => { x with transfer := some { write := false, idx := idx, sub := sub, total := total, data := v, live := live, staged := st }, report := none }) d)
    else reply m 6 code [] d

/-- The bytes a read segment returns: the captured copy, or of a live transfer the value when the segment is processed: the staged one of a STAGED
read while it stands (R48). -/
def segmentBytes (d : Dev) (n : Nat) (x : Session) (t : Transfer) (off len : Nat) : List Byte :=
  if t.idx = 0x8010 then (List.range len).map (fun i => ringByte d (off + i))
  else if t.live then
    (match entryRow t.idx t.sub with
      | some r => padTo len (sliceOf (if t.staged && isStaged d t.idx t.sub then stgBytes d r t.idx t.sub else curBytes d n x.role r t.idx t.sub) off len)
      | none => [])
  else sliceOf t.data off len
def readSegment (m : ListMsg) (n : Nat) (x : Session) (d : Dev) : Dev :=
  let b := m.body
  let off := leAt b 0 4
  let len := leAt b 4 2
  if b.length ≠ 6 then reply m 7 abMalformed [] d
  else match transferOf x false with
    | none => noTransfer m 7 n x d
    | some t =>
      if len = 0 ∨ 1024 < len ∨ t.total < off + len then reply m 7 abRange [] d
      else reply m 7 abOk (leBytes 2 len ++ segmentBytes d n x t off len) d

def transferCancel (m : ListMsg) (n : Nat) (x : Session) (d : Dev) : Dev :=
  if m.body ≠ [] then reply m 8 abMalformed [] d
  else reply m 8 abOk [] (if x.transfer.isSome then withSess n (fun x => { x with transfer := none, report := some .cancelled }) d else d)

/-- TRANSFER_IDLE_TIMEOUT: 1 s without an accepted segment. -/
def idleTimeout (n : Nat) (d : Dev) : Dev :=
  match sessOf d n with
  | some x => if x.transfer.isSome then withSess n (fun x => { x with transfer := none, report := some .timeout }) d else d
  | none => d
def execTransferIdleTimeout (sess : SessN) (s : State) : Outcome State Fault Refusal := onDev (idleTimeout sess) s

/-! ### KERF_WAIT (R47) -/

def kerfWait (m : ListMsg) (n : Nat) (x : Session) (d : Dev) : Dev :=
  let target := leNat m.body
  if m.body.length ≠ 8 then reply m 9 abMalformed [] d
  else if x.parked.isSome then reply m 9 abWaitBusy [] d
  else if d.kerf.counter + 10000 < target then reply m 9 abRange [] d
  else if target ≤ d.kerf.lastSeq then reply m 9 abOk (leBytes 8 d.kerf.counter) d
  else withSess n (fun x => { x with parked := some (m.tag, target) }) d

/-- KERF_WAIT_RESPONSE: the counter has reached TARGET and that kerf's step 7 has completed. -/
def kerfWaitResponse (n : Nat) (d : Dev) : Dev :=
  match sessOf d n with
  | some x =>
    (match x.parked with
    | some (tag, target) =>
      if target ≤ d.kerf.lastSeq then
        emit (.listResp d.fuses.vendorId (some n) 0x89 tag abOk (leBytes 8 d.kerf.counter)) (withSess n (fun x => { x with parked := none }) d)
      else d
    | none => d)
  | none => d
def execKerfWaitResponse (sess : SessN) (s : State) : Outcome State Fault Refusal := onDev (kerfWaitResponse sess) s

/-! ### Rows that are a write or a read of one entry -/

def noPartner : PartnerObs :=
  { present := false, auth := false, kerfPeriod := 0, mapEqual := false, enabled := false, together := false, localLower := false, node := 0 }
/-- A WRITE of a value of `size` bytes to an entry. -/
def writeTo (sess : Option SessN) (tag idx sub size v : Nat) (u : UcieObs) (d : Dev) : Dev :=
  let vendor := d.fuses.vendorId
  let m : ListMsg := { vendor := vendor, sess := sess, version := 1, tag := tag, body := leBytes 2 idx ++ leBytes 1 sub ++ [0] ++ leBytes 2 size ++ leBytes size v }
  onList m 2 (writeMsg m noPartner u) d
def noUcie : UcieObs := { ok := false, rate := 0, width := 0 }
/-- A whole DOMAIN value of at most 1,024 bytes: BEGIN, one segment where it has bytes, END. -/
def writeWhole (sess : Option SessN) (tag idx sub : Nat) (v : List Byte) (d : Dev) : Dev :=
  let vendor := d.fuses.vendorId
  let msg (b : List Byte) : ListMsg := { vendor := vendor, sess := sess, version := 1, tag := tag, body := b }
  let m3 := msg (leBytes 2 idx ++ leBytes 1 sub ++ [0] ++ leBytes 4 v.length)
  let d := onList m3 3 (writeBegin m3) d
  match openSess d m3 with
  | some (n, x) =>
    (match transferOf x true with
    | some t =>
      if t.idx = idx ∧ t.sub = sub ∧ t.data = [] then
        let m4 := msg (leBytes 4 0 ++ leBytes 2 v.length ++ v)
        let d := if v = [] then d else onList m4 4 (writeSegment m4) d
        onList (msg []) 5 (writeEnd (msg []) noPartner) d
      else d
    | none => d)
  | none => d

/-- A value of MSC_MAINT_CMD (R233). -/
def maintCmd (op : Nat) (scope : Bool) (slices : BitVec 16) : Nat := packFields [(slices.toNat, 16, 16), (b2n scope, 8, 1), (op, 0, 2)]

/-- BEGIN and, where there is a report, one segment. -/
def reportRead (sess : Option SessN) (tag : Nat) (d : Dev) : Dev :=
  let vendor := d.fuses.vendorId
  let m6 : ListMsg := { vendor := vendor, sess := sess, version := 1, tag := tag, body := leBytes 2 0x7010 ++ [1, 0] }
  let m7 : ListMsg := { vendor := vendor, sess := sess, version := 1, tag := tag, body := leBytes 4 0 ++ leBytes 2 320 }
  let d := onList m6 6 (readBegin m6) d
  match openSess d m6 with
  | some (_, x) =>
    (match transferOf x false with
    | some t => if t.idx = 0x7010 ∧ t.total = 320 then onList m7 7 (readSegment m7) d else d
    | none => d)
  | none => d
/-- A value of ROLE_KEY; none empties the entry. -/
def roleValue (key : Option (List Byte × Nat)) : List Byte := match key with | some (h, r) => padTo 64 h ++ leBytes 1 r | none => []
/-- A value of FUSE_REQUEST (R394). -/
def fuseValue (act k : Nat) (hash : List Byte) : List Byte := leBytes 1 act ++ leBytes 1 k ++ padTo 64 hash

/-! ### List commands -/

/-- A list message by its opcode; one that R46 does not list is row 3 of R503. -/
def listOp (op : Nat) (m : ListMsg) (p : PartnerObs) (u : UcieObs) (d : Dev) : Dev :=
  match op with
  | 1 => onList m 1 (readMsg m) d
  | 2 => onList m 2 (writeMsg m p u) d
  | 3 => onList m 3 (writeBegin m) d
  | 4 => onList m 4 (writeSegment m) d
  | 5 => onList m 5 (writeEnd m p) d
  | 6 => onList m 6 (readBegin m) d
  | 7 => onList m 7 (readSegment m) d
  | 8 => onList m 8 (transferCancel m) d
  | 9 => onList m 9 (kerfWait m) d
  | k => onList m (k % 128) (fun _ _ d => reply m (k % 128) abOpcode [] d) d
/-- Process a list command. -/
def runJob (j : ListJob) (d : Dev) : Dev :=
  match j with
  | .msg op m p u => listOp op m p u d
  | .write sess tag idx sub size v u => writeTo sess tag idx sub size v u d
  | .whole sess tag idx sub v => writeWhole sess tag idx sub v d
  | .report sess tag => reportRead sess tag d
/-- A list command arrives: while a kerf sequence runs it is queued, and processed after step 7 (R36). -/
def listJob (j : ListJob) (d : Dev) : Dev :=
  if d.kerf.step1.isSome then { d with list := { d.list with held := d.list.held ++ [j] } } else runJob j d
/-- What was queued is processed in arrival order. -/
def runHeld (d : Dev) : Dev := d.list.held.foldl (fun d j => runJob j d) { d with list := { d.list with held := [] } }

def execRead (m : ListMsg) (s : State) : Outcome State Fault Refusal := onDev (listJob (.msg 1 m noPartner noUcie)) s
def execWrite (m : ListMsg) (p : PartnerObs) (u : UcieObs) (s : State) : Outcome State Fault Refusal := onDev (listJob (.msg 2 m p u)) s
def execDomainWriteBegin (m : ListMsg) (s : State) : Outcome State Fault Refusal := onDev (listJob (.msg 3 m noPartner noUcie)) s
def execDomainWriteSegment (m : ListMsg) (s : State) : Outcome State Fault Refusal := onDev (listJob (.msg 4 m noPartner noUcie)) s
def execDomainWriteEnd (m : ListMsg) (p : PartnerObs) (s : State) : Outcome State Fault Refusal := onDev (listJob (.msg 5 m p noUcie)) s
def execDomainReadBegin (m : ListMsg) (s : State) : Outcome State Fault Refusal := onDev (listJob (.msg 6 m noPartner noUcie)) s
def execDomainReadSegment (m : ListMsg) (s : State) : Outcome State Fault Refusal := onDev (listJob (.msg 7 m noPartner noUcie)) s
def execTransferCancel (m : ListMsg) (s : State) : Outcome State Fault Refusal := onDev (listJob (.msg 8 m noPartner noUcie)) s
def execKerfWait (m : ListMsg) (s : State) : Outcome State Fault Refusal := onDev (listJob (.msg 9 m noPartner noUcie)) s
def execStagedDiscard (sess : Option SessN) (tag : Nat) (v : Byte) (s : State) : Outcome State Fault Refusal :=
  onDev (listJob (.write sess tag 0x2000 6 1 v.toNat noUcie)) s
def execHardLimitW (sess : Option SessN) (tag : Nat) (v : BitVec 16) (s : State) : Outcome State Fault Refusal :=
  onDev (listJob (.write sess tag 0x3000 2 2 v.toNat noUcie)) s
def execLinkRetrain (sess : Option SessN) (tag : Nat) (die : DieN) (v : Byte) (s : State) : Outcome State Fault Refusal :=
  onDev (listJob (.write sess tag 0xA001 (die + 1) 1 v.toNat noUcie)) s
def execUcieRetrain (sess : Option SessN) (tag : Nat) (site : SiteN) (v : Byte) (u : UcieObs) (s : State) : Outcome State Fault Refusal :=
  onDev (listJob (.write sess tag 0xA103 (site + 1) 1 v.toNat u)) s
def execDieReadmit (sess : Option SessN) (tag : Nat) (die : DieN) (v : Byte) (s : State) : Outcome State Fault Refusal :=
  onDev (listJob (.write sess tag 0xA031 (die + 1) 1 v.toNat noUcie)) s
def execMscEnable (sess : Option SessN) (tag : Nat) (slice : SliceN) (s : State) : Outcome State Fault Refusal :=
  onDev (listJob (.write sess tag 0x4100 (slice + 1) 2 1 noUcie)) s
def execMscDisable (sess : Option SessN) (tag : Nat) (slice : SliceN) (s : State) : Outcome State Fault Refusal :=
  onDev (listJob (.write sess tag 0x4100 (slice + 1) 2 0 noUcie)) s
def execMscFlushThenDisable (sess : Option SessN) (tag : Nat) (slice : SliceN) (s : State) : Outcome State Fault Refusal :=
  onDev (listJob (.write sess tag 0x4100 (slice + 1) 2 2 noUcie)) s
def execMscMaintClean (sess : Option SessN) (tag : Nat) (scope : Bool) (slices : BitVec 16) (s : State) : Outcome State Fault Refusal :=
  onDev (listJob (.write sess tag 0x4110 2 8 (maintCmd 1 scope slices) noUcie)) s
def execMscMaintInvalidate (sess : Option SessN) (tag : Nat) (scope : Bool) (slices : BitVec 16) (s : State) : Outcome State Fault Refusal :=
  onDev (listJob (.write sess tag 0x4110 2 8 (maintCmd 2 scope slices) noUcie)) s
def execMscMaintCleanInvalidate (sess : Option SessN) (tag : Nat) (scope : Bool) (slices : BitVec 16) (s : State) : Outcome State Fault Refusal :=
  onDev (listJob (.write sess tag 0x4110 2 8 (maintCmd 3 scope slices) noUcie)) s
def execDramRetrainNow (sess : Option SessN) (tag : Nat) (ch : SliceN) (v : Byte) (s : State) : Outcome State Fault Refusal :=
  onDev (listJob (.write sess tag 0x4004 (ch + 1) 1 v.toNat noUcie)) s
def execBenchZeroise (sess : Option SessN) (tag : Nat) (b : BenchN) (v : Byte) (s : State) : Outcome State Fault Refusal :=
  onDev (listJob (.write sess tag 0x5011 (b + 1) 1 v.toNat noUcie)) s
def execForcePromote (sess : Option SessN) (tag : Nat) (v : Byte) (s : State) : Outcome State Fault Refusal :=
  onDev (listJob (.write sess tag 0x6000 6 1 v.toNat noUcie)) s
def execTakeoverOpen (sess : Option SessN) (tag : Nat) (pair : Fin 32) (v : Byte) (s : State) : Outcome State Fault Refusal :=
  onDev (listJob (.write sess tag 0x6031 (pair + 1) 1 v.toNat noUcie)) s
def execOvfClear (sess : Option SessN) (tag : Nat) (v : Byte) (s : State) : Outcome State Fault Refusal :=
  onDev (listJob (.write sess tag 0x9030 0 1 v.toNat noUcie)) s
def execEnclaveReportReq (sess : Option SessN) (tag : Nat) (eid : BitVec 16) (nonce : List Byte) (s : State) : Outcome State Fault Refusal :=
  onDev (listJob (.whole sess tag 0x7010 0 (leBytes 2 eid.toNat ++ padTo 32 nonce))) s
def execEnclaveReport (sess : Option SessN) (tag : Nat) (s : State) : Outcome State Fault Refusal := onDev (listJob (.report sess tag)) s
def execRoleKey (sess : Option SessN) (tag : Nat) (k : Fin 16) (key : Option (List Byte × Nat)) (s : State) : Outcome State Fault Refusal :=
  onDev (listJob (.whole sess tag 0x7030 (k + 1) (roleValue key))) s
def execFuseOwnerSlot (sess : Option SessN) (tag : Nat) (slot : Nat) (hash : List Byte) (s : State) : Outcome State Fault Refusal :=
  onDev (listJob (.whole sess tag 0x7042 0 (fuseValue 1 slot hash))) s
def execRevokeOwnerSlot (sess : Option SessN) (tag : Nat) (slot : Nat) (s : State) : Outcome State Fault Refusal :=
  onDev (listJob (.whole sess tag 0x7042 0 (fuseValue 2 slot []))) s
def execRevokeVendorSlot (sess : Option SessN) (tag : Nat) (slot : Nat) (s : State) : Outcome State Fault Refusal :=
  onDev (listJob (.whole sess tag 0x7042 0 (fuseValue 3 slot []))) s
def execForbidDebugEnable (sess : Option SessN) (tag : Nat) (bit : Nat) (s : State) : Outcome State Fault Refusal :=
  onDev (listJob (.whole sess tag 0x7042 0 (fuseValue 4 bit []))) s

end Sys2Proof.Machine
end

