-- ==== Sys2Proof/Machine/Mctp.lean ====
section
/-!
DEFINITION. MCTP packets (R45, R459, R461): delivery to the package's own endpoint, list messages among them with their headers, and the bridge of a
master or acting master.
-/
set_option linter.unusedVariables false

namespace Sys2Proof.Machine

open Host (Outcome)

/-! ### List messages by their bytes (R45, R46) -/

/-- A vendor-defined message: vendor identifier, VERSION, OPCODE, TAG, then the body. -/
def listMsgOf (sess : Option SessN) (b : List Byte) : ListMsg :=
  { vendor := leAt b 0 4, sess := sess, version := leAt b 4 1, tag := leAt b 6 2, body := b.drop 8 }
/-! ### Packets (R459, R461) -/

/-- A bridged packet as a segment frame carries it: destination and source EID, message type, body; the transport header's other fields are no
operands of the row (log entry 66). -/
def mctpPacket (src dst typ : Nat) (body : List Byte) : List Byte := leBytes 1 dst ++ leBytes 1 src ++ leBytes 1 typ ++ body

/-- Message types the package accepts: control, SPDM, secured messages, vendor-defined (R459). -/
def mctpType (t : Nat) : Bool := t == 0 || t == 5 || t == 6 || t == 0x7F
/-- The place of a binding in the bridge's record of sources; the segment has none. -/
def bindingNo : McBinding → Option Nat
  | .i3c => some 16
  | .vdm rp => some (rp % 16)
  | .segment _ => none

/-- A packet for this endpoint: a list message, in the session it travels in or outside any (R45); control and SPDM messages are rows of their own
(log entry 66). Any other type is dropped. -/
def mctpOwn (typ : Nat) (body : List Byte) (sess : Option SessN) (p : PartnerObs) (u : UcieObs) (d : Dev) : Dev :=
  if typ = 0x7F then listJob (.msg (leAt body 5 1) (listMsgOf none body) p u) d
  else if typ = 6 ∧ sess.isSome then listJob (.msg (leAt body 5 1) (listMsgOf sess body) p u) d
  else d

/-- A packet for this endpoint is delivered to its own service; another is bridged by a master or acting master, or dropped. -/
def mctp (b : McBinding) (src dst typ : Nat) (body : List Byte) (sess : Option SessN) (p : PartnerObs) (u : UcieObs) (d : Dev) : Dev :=
  match b with
  | .segment x =>
    if segRuns d = false then d
    else if hdrOk x 1 = false then segDrop d
    else if dst = ownEid d ∨ dst = 0 then mctpOwn typ body sess p u d
    else if segService d then
      match d.seg.routes.find? (fun r => r.1 == dst && decide (d.now ≤ r.2.2 + 60 * tickSec)) with
      | some r => emit (.mctp r.2.1 src dst typ body) d
      | none => d
    else d
  | _ =>
    let d := match bindingNo b with
      | some n => updSeg d (fun s => { s with routes := (s.routes.filter (fun r => r.1 != src)) ++ [(src, n, d.now)] })
      | none => d
    if dst = ownEid d ∨ dst = 0 then mctpOwn typ body sess p u d
    else if segService d && decide (0x10 ≤ dst) && decide (dst ≤ 0x4F) then sendSeg (some (dst - 0x10)) .mctp (mctpPacket src dst typ body) d
    else d
def execMctp (b : McBinding) (src dst typ : Nat) (body : List Byte) (sess : Option SessN) (p : PartnerObs) (u : UcieObs) (s : State) :
    Outcome State Fault Refusal :=
  onDev (onTarget (mctp b src dst typ body sess p u)) s

end Sys2Proof.Machine
end

