-- ==== Sys2Proof/Machine/KerfCut.lean ====
section
/-!
DEFINITION. The kerf (R32–R40): the cut, the mirror's step, the swap with its re-checks and everything that becomes current there, the
ledger's plan, the Gauge, the snapshots.
-/
set_option linter.unusedVariables false
set_option linter.constructorNameAsVariable false

namespace Sys2Proof.Machine

open Host (Outcome)

/-! ### Harts that start (R71) -/

/-- A hart as release or a readmission after a fence starts it: at RESET_VECTOR in machine mode with its number in a0; hart 0 of a release runs,
every other waits in idle until its first interrupt. What the package keeps of the core outlives it, the causes that hold its voltage down among it
(R87). -/
def startHart (d : Dev) (h : Nat) (runs : Bool) (x : Hart) : Hart :=
  { hartInit with
    released := true, offline := x.offline, spareUsed := x.spareUsed, spared := x.spared, retirePend := x.retirePend, grace := x.grace,
    irqPending := x.irqPending.filter (· == 24), bLedger := x.bLedger, bOverspend := x.bOverspend, bThrottle := x.bThrottle, bThermal := x.bThermal,
    parked := !runs, testedAt := x.testedAt, tenergy := x.tenergy, vset := x.vset, tj := x.tj, lowerSecure := secureExists d,
    pc := d.boot.resetVector, x := tabSet 0 [] 10 (BitVec.ofNat 64 h), rest := if runs then .running else .idle,
    wantRest := if runs then .running else .idle, restSince := d.now }

/-! ### Step 3: the re-check (R40) -/

/-- Re-check one accepted enable on its physical conditions; a staged 0 of an enabled MSC slice is re-checked too (R229). A refusal drops the
staged value. -/
def recheck (p : PartnerObs) (k : Nat × Nat) (d : Dev) : Dev :=
  match enableOf d p k.1 k.2 with
  | none => d
  | some (st, _, phys) =>
    let v := entNext d k.1 k.2
    let off := k.1 == 0x4100 && v == 0 && (mscOf d (k.2 - 1)).state == 1
    if isStaged d k.1 k.2 && (off || (v == 1 && (dryOf d st.1 st.2).pend)) then
      let f := if off then mscFit0 d (k.2 - 1) else phys
      let d := recordFit st.1 st.2 (0, 0) true f (setPend st false d)
      if f.1 = 0 then d else setStg d k.1 k.2 none
    else d

/-! ### Step 3: what becomes current -/

/-- A new key-store key (R273): the store's pages become hub-private with LOCK 1 and are zeroed. A STANDBY's bench holds its partner's key, and
leaves the store as it is (R407, R427). -/
def keyStore (b : Nat) (d : Dev) : Dev :=
  if standbyOf d then updBench d b (fun x => { x with keyed := true })
  else
    let d := drawn (updBench d b (fun x => { x with keyed := true, ksKey := leBytes 32 (freeVal d) }))
    let d := (pagesFrom (ent d 0x5003 (b + 1)) (ent d 0x5004 (b + 1) / 4096)).foldl (fun d g => changePage 0xC000 true g d) d
    let x := benchOf d b
    if d.mirror.role = 1 ∧ (d.mirror.phase = 1 ∨ d.mirror.phase = 2) then sendDowel 0xB (keysRec b x.zeroises x.ksKey) d else d
/-- A bench enable becomes 1 (R273, R299). -/
def benchOn (b : Nat) (d : Dev) : Dev :=
  if (benchOf d b).state = 1 ∨ (benchOf d b).state = 3 then d
  else
    updBench (if (benchOf d b).keyed then d else keyStore b d) b (fun x => { x with state := if x.newVersion.isSome then 3 else 1 })
/-- A bench whose enable reads 0 stops fetching; held, it goes on in STATE 1 (R297, R391). -/
def benchStops (b : Nat) (d : Dev) : Dev :=
  let x := benchOf d b
  if ent d 0x5000 (b + 1) = 0 ∧ (x.state = 1 ∨ x.state = 3) ∧ benchHeld d b = false then
    updBench d b (fun x => { x with state := if x.jobs = [] then 0 else 2 })
  else d
/-- A withdraw that is current starts, unless its die is held (R210, R391); the entry then reads 0. -/
def dieWithdraws (n : Nat) (d : Dev) : Dev :=
  let v := ent d 0xA030 (n + 1)
  if v = 0 ∨ dieHeld d n = true then d
  else
    let d := setCurNat d 0xA030 (n + 1) 0
    if (dieOf d n).phase = .inService then startWithdraw n (v == 2) d else d
/-- Requests a hold defers at this swap (R391). -/
def countHolds (stg : Tab (Option Val)) (d : Dev) : Dev :=
  stg.foldl (fun d e =>
    let idx := e.1 / 256
    let n := e.1 % 256 - 1
    if (idx = 0x5000 ∧ e.2 = some (.num 0) ∧ benchHeld d n = true ∧ (benchOf d n).state = 1) ∨ (idx = 0xA030 ∧ e.2 ≠ some (.num 0) ∧ dieHeld d n = true)
    then countPkg pkgHoldDeferrals d else d) d

/-- What a swapped value sets in motion; `old` is the package before the swap. -/
def swapEffect (p : PartnerObs) (old : Dev) (idx sub : Nat) (v : Val) (d : Dev) : Dev :=
  let n := sub - 1
  let num := match v with | .num x => x | .bytes _ => 0
  let was := ent old idx sub
  match idx with
  | 0x4100 => mscSwap n num d
  | 0x5000 => if num = 1 ∧ was = 0 then benchOn n d else d
  | 0x5020 => (match v with | .bytes b => microcodeSwap n (leAt (microcodeSection b) 0 4) d | .num _ => d)
  | 0xA100 => if num = 1 ∧ was = 0 then enableSite n d else d
  | 0x6000 => if sub = 1 then (if num = 1 ∧ was = 0 then mirrorOn p d else if num = 0 ∧ was = 1 then mirrorOff d else d) else d
  | 0x4003 => if num ≠ (chanOf d n).slot then startSwitch n num d else d
  | _ =>
    if 0x4014 ≤ idx ∧ idx ≤ 0x4017 ∧ (chanOf d n).slot = idx - 0x4014 ∧ ent d 0x4003 sub = idx - 0x4014 ∧ entBytes old idx sub ≠ entBytes d idx sub
    then startSwitch n (idx - 0x4014) d else d

/-- On the PRIMARY the paired values that become current travel with this kerf's seal (R419). -/
def sendPaired (d : Dev) : Dev :=
  d.list.stg.foldl (fun d e =>
    let idx := e.1 / 256
    let sub := e.1 % 256
    match entryRow idx sub with
    | some r => if isPaired idx sub then pairedEntry idx sub (stgBytes d r idx sub) d else d
    | none => d) d
/-- On the STANDBY the committed paired values become current at this swap (R419). -/
def takePaired (d : Dev) : Dev :=
  updMirror (d.mirror.pairedVals.foldl (fun d v => setStg d v.1 v.2.1 (some (entryVal v.1 v.2.1 v.2.2))) d) (fun x => { x with pairedVals := [] })

/-- Every staged value becomes current at once. -/
def swapValues (p : PartnerObs) (d : Dev) : Dev :=
  let stg := d.list.stg
  let new := { stg.foldl (fun d e => setCur d (e.1 / 256) (e.1 % 256) e.2) d with list := { (stg.foldl (fun d e => setCur d (e.1 / 256) (e.1 % 256) e.2) d).list with stg := [] } }
  stg.foldl (fun x e => match e.2 with | some v => swapEffect p d (e.1 / 256) (e.1 % 256) v x | none => x) (countHolds stg new)

/-- A die whose link is up again is refilled (R216): a withdrawn die resumes its parked harts, a fenced one starts its harts anew. -/
def refillDie (n : Nat) (d : Dev) : Dev :=
  if (dieOf d n).phase = .readmitting ∧ (dieOf d n).linkUpSinceReadmit = true ∧ (linkOf d n).state = .up then
    let fresh := !(dieOf d n).fromWithdraw
    let d := updDie d n (fun x => { x with phase := .inService, linkUpSinceReadmit := false, fromWithdraw := false })
    if fresh then (hartsOfDie n).foldl (fun d h => if hartPresent d h && !(hartOf d h).offline then updHart d h (startHart d h false) else d) d else d
  else d
/-- The spare takes a hart over (R108 step 2), at least 100 µs after the trigger. -/
def moveToSpare (h : Nat) (d : Dev) : Dev :=
  if (hartOf d h).spareMove = 1 ∧ (hartOf d h).spareAt + 10000 ≤ d.now then updHart (emptyCore h d) h (fun x => { x with spareMove := 3 }) else d
/-- A retiring hart stops once it is in WFI or its GRACE is 0 (R109 step 3). -/
def stopRetiring (h : Nat) (d : Dev) : Dev :=
  if stopsNow (hartOf d h) then takeOffline h d else d

/-- Step 3. -/
def swap (p : PartnerObs) (d : Dev) : Dev :=
  let d := swapValues p (takePaired d)
  let d := (List.range 4).foldl (fun d b => benchStops b d) d
  let d := (List.range 12).foldl (fun d n => refillDie n (dieWithdraws n d)) d
  (List.range 216).foldl (fun d h => stopRetiring h (moveToSpare h d)) d

/-! ### Step 6: snapshots (R474) -/

/-- The banks SNAP_SELECT names, by bit. -/
def snapBanks : List Nat := [0x9000, 0x9001, 0x9010, 0x9011, 0x9012, 0x9013, 0x9014]
/-- A counter of a die that keeps its last snapshot. -/
def snapKept (d : Dev) (key : Nat) : Bool :=
  let bank := key / 2 ^ 20
  let unit := key / 2 ^ 8 % 2 ^ 12
  let gone (n : Nat) : Bool := (dieOf d n).phase != .inService && (dieOf d n).phase != .draining
  if bank = 0x9000 ∨ bank = 0x9001 then gone (unit / 18) else bank == 0x9013 && gone unit
def snapBank (bank : Nat) (d : Dev) : Dev :=
  let mine (k : Nat) : Bool := k / 2 ^ 20 == bank && !snapKept d k
  let kept := tabFilter (fun k _ => !mine k) d.obs.snap
  { d with obs := { d.obs with snap := (d.obs.ctr.filter (fun e => mine e.1)).foldl (fun t e => tabSet 0 t e.1 e.2) kept } }
def snapshots (d : Dev) : Dev :=
  let sel := ent d 0x9020 0
  let d := (onesOf sel 7).foldl (fun d i => snapBank (snapBanks.getD i 0) d) d
  { d with obs := { d.obs with snapKerf := d.kerf.counter } }

/-! ### The sequence (R34) -/

def coreObsOf (o : KerfObs) (h : Nat) : CoreObs := o.cores.getD h { steps := 0, vMean := 550, tj := 0 }
/-- Step 0: the cut. Every account's epoch closes (R345), GRACE counts down, and a kerf master's KERF_SYNC_OUT pulses (R109, R462). -/
def cut (o : KerfObs) (d : Dev) : Dev :=
  let d := { d with kerf := { d.kerf with counter := d.kerf.counter + 1, overruns := d.kerf.overruns + b2n o.overrun, cutAt := d.now } }
  let d := (List.range 216).foldl (fun d h => updHart d h (fun x => if x.retirePend then { x with grace := x.grace - 1 } else x)) (cutAccounts d)
  if ent d 0x2010 1 = 1 then emitAll [.pin .kerfSync 1, .pin .kerfSync 0] d else d
/-- Steps 1 and 2: the mirror's checkpoint and seal. The accepted enables are re-checked here, in the state
that step 3 finds, so that the seal carries the paired values that become current. -/
def mirrorSteps (o : KerfObs) (d : Dev) : Dev :=
  let k := d.kerf.counter
  let d := mirrorStep1 k d
  let d := kerfEnables.foldl (fun d e => recheck o.partner e d) d
  mirrorSeal k (sendPaired d)
/-- Step 4: the plan of the epoch that opens, and bench admission. -/
def planStep (o : KerfObs) (d : Dev) : Dev :=
  let t := max 1 (ent d 0x2000 1 - o.late)
  let d0 := d
  let d := plan false t (max 1 o.lastUs) (coreObsOf o) o.tjHub (deferredCost d0) { d with kerf := { d.kerf with epochUs := t } }
  (List.range 4).foldl (fun d b => admitDeferred b d) d
/-- Step 5. -/
def gaugeStep (o : KerfObs) (d : Dev) : Dev := gaugeKerf { d with pins := { d.pins with gaugeVerify := o.verify } }
/-- Step 7. -/
def stepSeven (o : KerfObs) (d : Dev) : Dev :=
  { d with kerf := { d.kerf with lastSeq := d.kerf.counter, seqMax := max d.kerf.seqMax (o.seqNs % 2 ^ 32), seqEnd := d.now } }

/-- Steps 1 to 7 of a kerf whose cut has been taken, then the list messages queued meanwhile (R36). -/
def afterCut (o : KerfObs) (d : Dev) : Dev := runHeld (stepSeven o (snapshots (gaugeStep o (planStep o (swap o.partner (mirrorSteps o d))))))
/-- A follower's first cut falls at its first accepted edge: none is taken before (R33, R463). -/
def awaitsEdge (d : Dev) : Bool := ent d 0x2010 1 == 2 && d.kerf.counter == 0 && d.sync.lastEdge.isNone
/-- KERF_CUT. A cut that would make a 65th unacknowledged seal, or that meets a sequence still in step 1, waits and counts as an overrun (R35, R415):
the cut is then a later command. The STANDBY hears of the cut (R406); the sequence runs, unless step 1 has to wait (R34, R152). -/
def kerfCut (o : KerfObs) (d : Dev) : Dev :=
  if d.boot.phase ≠ .released ∨ awaitsEdge d = true then d
  else if sealWaits d || d.kerf.step1.isSome then { d with kerf := { d.kerf with overruns := d.kerf.overruns + 1 } }
  else
    let d := cut o d
    let d := mirrorKerfRec d.kerf.counter d
    if step1Waits d then { d with kerf := { d.kerf with step1 := some o } } else afterCut o d
/-- A sequence that waited in step 1 goes on once nothing holds it back. -/
def resumeCut (d : Dev) : Dev :=
  match d.kerf.step1 with
  | some o => if step1Waits d then d else afterCut o { d with kerf := { d.kerf with step1 := none } }
  | none => d
def execKerfCut (obs : KerfObs) (s : State) : Outcome State Fault Refusal := onDev (kerfCut obs) s

end Sys2Proof.Machine
end

