-- ==== Sys2Proof/Machine/Boot.lean ====
section
/-!
DEFINITION. From power to release (R53–R72): the start instant, the stages with what each checks and does, failure, and the held state.
-/
set_option linter.unusedVariables false
set_option linter.constructorNameAsVariable false

namespace Sys2Proof.Machine

open Host (Outcome)

/-! ### Stages begin, complete and fail (R55–R59) -/

def updBoot (d : Dev) (f : Boot → Boot) : Dev := { d with boot := f d.boot }
/-- A stage has begun and has not stopped. -/
def stageRuns (d : Dev) (n : Nat) : Bool := (d.boot.phase == .running || d.boot.phase == .failing) && d.boot.running.contains n
/-- Stages 0x01–0x05 follow one another; 0x06, 0x07 and 0x09 start together; 0x08 follows 0x07; 0x0A waits for 0x06, 0x08 and 0x09. -/
def nextStages (done : List Nat) (n : Nat) : List Nat :=
  match n with
  | 5 => [6, 7, 9]
  | 7 => [8]
  | 6 | 8 | 9 => if [6, 8, 9].all done.contains then [10] else []
  | 11 => []
  | k => [k + 1]
/-- A stage completes. After a failure no stage starts (R59). -/
def stageDone (n : Nat) (d : Dev) : Dev :=
  updBoot d (fun b =>
    let done := b.done ++ [n]
    { b with done := done, running := b.running.erase n ++ (if b.phase = .running then nextStages done n else []) })
/-- A stage fails: the first failure is kept. -/
def stageFail (n reason : Nat) (d : Dev) : Dev :=
  updBoot d (fun b =>
    let b := { b with running := b.running.erase n }
    if b.phase = .running then { b with phase := .failing, failStage := n, failReason := reason } else b)
/-- A stage that runs does its work. -/
def onStage (n : Nat) (f : Dev → Dev) (d : Dev) : Dev := if stageRuns d n then f d else d
/-- The image slot in use fails stage 0x03 or 0x04: slot B is tried after slot A (R60). -/
def slotFails (n reason : Nat) (d : Dev) : Dev :=
  if d.boot.slotB then stageFail n reason d
  else updBoot d (fun b => { b with slotB := true, image := [], done := b.done.filter (· != 3), running := [3] })

/-! ### Stage 0x01 (R3, R53, R55, R496) -/

/-- The die has a usable spare: a 204S die whose fuses name a spare that did not fail its assembly test (R3, R155). -/
def spareUsable (d : Dev) (n : Nat) : Bool :=
  let f := (fusedSheets d n).defects
  is204S d && getBits f 19 5 != 31 && !getBit f (getBits f 19 5)
/-- Die n's fuse load fails: it does not end, or the CHECK of a fused lane sheet is wrong (R146). Die 12 is the hub. -/
def fuseLoadFails (d : Dev) (failed n : Nat) : Bool :=
  getBit failed n || !sheetOk (fusedSheets d n).upSheet || !sheetOk (fusedSheets d n).downSheet
/-- T0: power is good and reset released. Straps are sampled, and every die loads its fuses; bit n of `failed` says that die n's do not load.
With the hub in jig mode no stage runs (R157). -/
def startInstant (segId segRole failed : Nat) (d : Dev) : Dev :=
  let d := { d with pins := { d.pins with pwrGood := true, pkgReset := false } }
  if (d.boot.phase = .off ∨ d.boot.phase = .inReset) ∧ (jigOf d 12).inJig = false then
    let d := { d with pins := { d.pins with segId := segId, segRole := segRole } }
    let bad := ((List.range 13).filter (fuseLoadFails d failed)).foldl (fun a n => a + 2 ^ n) 0
    let d := updBoot d (fun _ => { bootInit with phase := .running, running := [1], flashHighZ := false, fuseBad := bad })
    if bad = 0 then
      let d := (List.range 216).foldl (fun d h => updHart d h (fun x => { x with spareUsed := !spareUsable d (dieOfHart h) })) d
      stageDone 1 d
    else stageFail 1 0x0106 d
  else d
def execT0 (segId : Fin 64) (segRole : Fin 4) (failed : BitVec 13) (s : State) : Outcome State Fault Refusal :=
  onDev (startInstant segId segRole failed.toNat) s

/-! ### Stages 0x02–0x05 -/

/-- The time base has locked: the SPDM responder and the segment port start (R55, R67). -/
def timeBaseLocked (d : Dev) : Dev := segStart (updBoot { d with holdover := false } (fun b => { b with lockedTimeBase := true }))
/-- Stage 0x02. -/
def bootRom (locked : Bool) (d : Dev) : Dev :=
  if locked then updBoot (stageDone 2 (timeBaseLocked d)) (fun b => { b with slotBegun := b.phase == .running })
  else stageFail 2 0x010A d
def execBootRom (locked : Bool) (s : State) : Outcome State Fault Refusal := onDev (onStage 2 (bootRom locked)) s

/-- Bytes as the flash returns them: what was never programmed reads as erased content, 0xFF (R60, log entry 27). -/
def padErased (k : Nat) (bs : List Byte) : List Byte := (bs ++ List.replicate (k - bs.length) 0xFF).take k
/-- Stage 0x03 on the current slot (R60, R61). -/
def imageRead (o : FlashObs) (d : Dev) : Dev :=
  let base := if d.boot.slotB then 0x2000000 else 0
  let hdr := padErased 0xA0 o.bytes
  if o.answers = false ∨ o.capacity < base + 0xA0 then slotFails 3 0x0101 d
  else if headerReason hdr ≠ 0 then slotFails 3 (headerReason hdr) d
  else if o.capacity < base + imgLength hdr then slotFails 3 0x0101 d
  else stageDone 3 (updBoot d (fun b => { b with image := padErased (imgLength hdr) o.bytes }))
def execImageRead (obs : FlashObs) (s : State) : Outcome State Fault Refusal := onDev (onStage 3 (imageRead obs)) s

/-- Stage 0x04: format, key, security version, signature (R63). -/
def imageCheck (d : Dev) : Dev :=
  let i := d.boot.image
  let owned := (List.range 4).any (fun k => tabGet [] d.fuses.ownerHash k != [])
  if formatOk i = false then slotFails 4 0x0103 d
  else if keyReason d i ≠ 0 then slotFails 4 (keyReason d i) d
  else stageDone 4 (updBoot d (fun b => { b with signerSlot := b2n owned, resetVector := imgReset i }))
def execImageCheck (s : State) : Outcome State Fault Refusal := onDev (onStage 4 imageCheck) s

/-- One record of the image keeps R64. -/
def recordOk (d : Dev) (r : ImgRec) : Bool :=
  match entryRow r.idx r.sub with
  | none => false
  | some e => e.swap != .sealed_ && r.typ == typeCode e.typ && valueCode d e r.idx r.sub r.val == abOk
/-- Every IMM, KERF or BOOT entry whose default is "image" is named. -/
def imageComplete (rs : List ImgRec) : Bool :=
  entryRows.all (fun e => !(e.fromImage && e.swap != .sealed_) ||
    (List.range (e.idxHi - e.idxLo + 1)).all (fun i => (List.range (e.subHi - e.subLo + 1)).all (fun k =>
      rs.any (fun r => r.idx == e.idxLo + i && r.sub == e.subLo + k))))
/-- A value of the image becomes current; MSC_ENABLE reads only 0 or 1 (R229). What the image's 2 there makes current no rule says: the model takes 0,
with no dry fit, no PENDING and no status (DESIGN CHOICE, log entry 59). -/
def applyImageRec (r : ImgRec) (d : Dev) : Dev :=
  match entryRow r.idx r.sub with
  | none => d
  | some e =>
    match valOf e r.val with
    | .num v =>
      if e.swap = .imm then immNum { ok := false, rate := 0, width := 0 } r.idx r.sub v d
      else setCurNat d r.idx r.sub (if r.idx = 0x4100 ∧ v = 2 then 0 else v)
    | .bytes v => if e.swap = .imm then immBytes 8 r.idx r.sub v d else setCur d r.idx r.sub (some (.bytes v))
/-- The image's BENCH_MICROCODE section, where it passes its own check (R62, R504). -/
def imageMicrocode (d : Dev) : Option (List Byte) :=
  match sectsOf 3 d.boot.image with
  | s :: _ => if microcodeOk d (sectBytes d.boot.image s) then some (sectBytes d.boot.image s) else none
  | [] => none
/-- Stage 0x05: no record takes effect unless all keep R64. -/
def apply (d : Dev) : Dev :=
  match imgRecs d.boot.image with
  | none => stageFail 5 0x0103 d
  | some rs =>
    let d0 := { d with list := { d.list with cur := [], stg := [] } }
    let keys := rs.map (fun r => ekey r.idx r.sub)
    if rs.all (recordOk d0) && (nubNat keys).length == keys.length && imageComplete rs then
      let d := rs.foldl (fun d r => applyImageRec r d) d0
      let mc := imageMicrocode d
      let d := (List.range 4).foldl (fun d b => updBench d b (fun x => { x with version := match mc with | some c => leAt c 0 4 | none => 0 })) d
      let d := stageDone 5 (updBoot d (fun b => { b with microcode := mc, pendingCommit := if getBit (imgFlags b.image) 0 then some (imgSecurity b.image) else none }))
      noteRole { d with seg := { d.seg with plcaId := if d.seg.state = 3 ∨ d.seg.state = 4 then d.seg.plcaId else nodeId d } }
    else stageFail 5 0x0103 d
def execApply (s : State) : Outcome State Fault Refusal := onDev (onStage 5 apply) s

/-! ### Stage 0x06 (R148) -/

/-- Every link trains, after a warm reset with the sheets it has and no retest (R75, R151); the stage fails with the reason of the lowest-numbered link
that does not. -/
def tenonStage (obs : List LinkObs) (d : Dev) : Dev :=
  let one (a : Dev × Option Nat) (n : Nat) : Dev × Option Nat :=
    let o := obs.getD n { pll := false, up := cleanTest, down := cleanTest }
    let r := trainLink n (if d.boot.warm then { o with up := cleanTest, down := cleanTest } else o) a.1
    (r.1, a.2.or r.2)
  let r := (List.range 12).foldl one (d, none)
  match r.2 with
  | none => stageDone 6 r.1
  | some c => stageFail 6 c r.1
def execTenonStage (obs : List LinkObs) (s : State) : Outcome State Fault Refusal := onDev (onStage 6 (tenonStage obs)) s

/-! ### Stage 0x07 (R240, R251, R257, R258, R74) -/

/-- What a channel was trained under: the masks and the enabled set. -/
def trainingKey (d : Dev) : List Nat := (List.range 10).map (maskOf d) ++ enabledChans d
/-- The stored training results may be used: a warm reset with the masks and enables of before it. -/
def resultsHold (d : Dev) : Bool := d.boot.warm && (enabledChans d).all (fun n => (chanOf d n).trainedMasks == trainingKey d && (chanOf d n).state == 2)
/-- The organisations a channel accepts: DIMM, logical ranks, log2 of the capacity in bytes (R239). -/
def dimmTable : List (DimmOrg × Nat × Nat) :=
  [({ kind := 0, gb := 16, x4 := true, pranks := 1, stack := 1 }, 1, 35), ({ kind := 0, gb := 16, x4 := true, pranks := 2, stack := 1 }, 2, 36),
   ({ kind := 0, gb := 32, x4 := true, pranks := 1, stack := 1 }, 1, 36), ({ kind := 0, gb := 32, x4 := true, pranks := 2, stack := 1 }, 2, 37),
   ({ kind := 1, gb := 16, x4 := true, pranks := 2, stack := 2 }, 4, 37), ({ kind := 1, gb := 16, x4 := true, pranks := 2, stack := 4 }, 8, 38),
   ({ kind := 1, gb := 32, x4 := true, pranks := 2, stack := 2 }, 4, 38)]
/-- A channel's DIMMs as its dry fit and its address map take them: one organisation of the table, its row number, and one or two DIMMs of it (R239, R240). -/
def dimmOf (o : DimmSeen) : DimmObs :=
  let k := o.dimms.length
  let row := match o.dimms with | q :: _ => dimmTable.findIdx? (fun r => r.1 == q) | [] => none
  match row with
  | some i =>
    let r := dimmTable.getD i ({ kind := 0, gb := 0, x4 := false, pranks := 0, stack := 0 }, 0, 0)
    { answers := o.answers, dpc := k, supported := o.dimms.all (fun q => q == r.1), org := i, capLog2 := r.2.2 + (if k = 2 then 1 else 0),
      ranks := r.2.1 * k, pranks := r.1.pranks * k, spd := o.spd }
  | none => { answers := o.answers, dpc := k, supported := false, org := 0, capLog2 := 0, ranks := 0, pranks := 0, spd := o.spd }
def seeDimm (n : Nat) (o : DimmSeen) (d : Dev) : Dev := updChan d n (fun c => { c with dimm := dimmOf o })
/-- The dry fit of a channel's enable, then its training: the reason it fails with, 0 for none. -/
def trainChan (n : Nat) (eye : Bool) (d : Dev) : Dev × Nat :=
  let f := chanFit d n
  let d := recordFit 0x4001 (n + 1) (0, 0) false f d
  if f.1 ≠ 0 then (d, f.1)
  else if eye = false then (recordFit 0x4001 (n + 1) (0, 0) false (0x0204, none) (updChan d n (fun c => { c with state := 3 })), 0x0204)
  else
    let slot := ent d 0x4003 (n + 1)
    let warm := d.boot.warm
    let key := trainingKey d
    let slots := (List.range 4).filter (fun k => slotSpeed d n k != 0)
    (updChan d n (fun c => { c with
      state := 2, slot := slot, speed := slotSpeed d n slot, trainedSlots := slots, selfRefresh := false, switching := false, mapOff := warm,
      zeroDone := warm, zeroNext := 0, granules := [], owed := [], powerDown := [], pauseDue := 0, lastRound := d.now, trainedMasks := key }), 0)
/-- DRAM as it stands before anything writes it: zero after power-off and package reset (R69); after a warm reset it is kept (R74) or, where
the masks or enables changed, undefined (log entry 21). -/
def freshDram (d : Dev) : Dev :=
  if d.boot.warm then (if resultsHold d then d else { d with mem := [], poison := [], memGen := d.memGen + 1 })
  else { d with mem := [], poison := [], memGen := 0 }
def dramStage (obs : List DimmSeen) (d : Dev) : Dev :=
  let seen (n : Nat) : DimmSeen := obs.getD n { answers := false, dimms := [], spd := [], eye := false }
  let d := (List.range 16).foldl (fun d n => seeDimm n (seen n) d) (freshDram d)
  let one (a : Dev × Nat) (n : Nat) : Dev × Nat :=
    let r := trainChan n (seen n).eye a.1
    (r.1, if a.2 = 0 then r.2 else a.2)
  let r := (enabledChans d).foldl one (d, 0)
  if r.2 = 0 then stageDone 7 r.1 else stageFail 7 r.2 r.1
def execDramStage (obs : List DimmSeen) (s : State) : Outcome State Fault Refusal := onDev (onStage 7 (dramStage obs)) s

/-! ### Stage 0x08 (R70, R368) -/

/-- The POT's place and size: as the entries give it where they keep the rules, else at the top of DRAM. -/
def potPlace (d : Dev) : Nat × Nat :=
  if ent d 0x7000 4 != 0 && potPlaced d then (ent d 0x7000 3, ent d 0x7000 4)
  else (installed d - installed d / 2048, installed d / 2048)
/-- Every entry of the table is 0: normal, owner 0, unlocked. The table's own pages need no entry: they always read as hub-private with LOCK 1. -/
def clearPot (base size : Nat) (d : Dev) : Dev :=
  let d := { d with poison := tabFilter (fun l _ => !(decide (base / 64 ≤ l) && decide (l < (base + size) / 64))) d.poison }
  if d.memGen = 0 then { d with mem := tabFilter (fun a _ => !(decide (base ≤ a) && decide (a < base + size))) d.mem }
  else setMem base (List.replicate size 0) d
/-- The record of an SRAM fault in a hub store (R58, R481, R507); its severity is no rule's, and the model takes 4 (DESIGN CHOICE, log entry 49). -/
def hubFaultEvent (f : HubFault) : McEvent :=
  match f with
  | .msc n => { bank := 0x9201, unitNo := n.val, severity := 4, source := 5, unit := n.val }
  | .directory n => { bank := 0x9201, unitNo := n.val, severity := 4, source := 4, unit := n.val }
  | .pot => { bank := 0x9203, unitNo := 0, severity := 4, source := 10, unit := 0 }
  | .other => { bank := 0x9203, unitNo := 0, severity := 4, source := 11, unit := 0 }
/-- Stage 0x08. A fault that the fused repairs do not cover is recorded and keeps the stage from completing (R58). -/
def hubStores (faults : List HubFault) (d : Dev) : Dev :=
  let p := potPlace d
  let d := clearPot p.1 p.2 { d with msc := [], mscs := [], maint := maintInit, slices := [] }
  if faults.isEmpty then stageDone 8 { d with pot := { base := p.1, size := p.2, cover := p.2 * 2048, ready := true } }
  else faults.foldl (fun d f => mcWrite (hubFaultEvent f) d) d
def execHubStores (faults : List HubFault) (s : State) : Outcome State Fault Refusal := onDev (onStage 8 (hubStores faults)) s

/-! ### Stage 0x09 (R162, R262, R467) -/

/-- Root port n exists under the bifurcation of its x16 group (R466). -/
def portExists (d : Dev) (n : Nat) : Bool :=
  match ent d 0xB000 (n / 4 + 1) with
  | 0 => n % 4 == 0
  | 1 => n % 2 == 0
  | _ => true
/-- ROOT_PORT_STATE after training (R467). -/
def portState (d : Dev) (n : Nat) (o : PortObs) : Nat :=
  if portExists d n = false then 0
  else if o.pllFailed then 4
  else if o.device then packFields [(o.protocol, 14, 2), (o.rate, 11, 3), (o.width, 6, 5), (3, 0, 3)]
  else 1
/-- A window keeps the rules of R262. -/
def windowOk (d : Dev) (i : Nat) : Bool :=
  let base := ent d 0x4030 (i + 1)
  let size := ent d 0x4031 (i + 1)
  let others := (List.range 16).filter (fun k => k != i && ent d 0x4031 (k + 1) != 0)
  (List.range 15).any (fun k => size == 2 ^ (28 + k)) && base % size == 0 && decide (0x1000_0000_0000 ≤ base) && decide (base + size ≤ 0x2000_0000_0000) &&
  decide (ent d 0x4032 (i + 1) < 16) && others.all (fun k => !rangesMeet (base, size) (ent d 0x4030 (k + 1), ent d 0x4031 (k + 1)))
/-- CXL_WIN_STATE of a window at the end of the stage; a failed window stays so until package reset (R263). -/
def windowState (d : Dev) (i : Nat) : Nat :=
  if tabGet 0 d.cxlState i = 4 then 4
  else if ent d 0x4031 (i + 1) = 0 then 0
  else if windowOk d i = false then 3
  else
    let p := tabGet 0 d.rootPorts (ent d 0x4032 (i + 1))
    if getBits p 0 3 = 3 ∧ getBits p 14 2 = 2 then 1 else 2
def pcieStage (ports : List PortObs) (w0 w1 : Nat) (sites : List UcieObs) (d : Dev) : Dev :=
  let o (n : Nat) : PortObs := ports.getD n { pllFailed := false, device := false, protocol := 0, rate := 0, width := 0 }
  let d := { d with rootPorts := (List.range 32).foldl (fun t n => tabSet 0 t n (portState d n (o n))) [] }
  let d := updMirror d (fun x => { x with w0 := w0, w1 := w1 })
  let d := (List.range 2).foldl (fun d s => trainSite s (sites.getD s { ok := false, rate := 0, width := 0 }) d) d
  let d := { d with cxlState := (List.range 16).foldl (fun t i => tabSet 0 t i (windowState d i)) [] }
  if (List.range 32).any (fun n => portExists d n && (o n).pllFailed) then stageFail 9 0x0107 d else stageDone 9 d
def execPcieStage (ports : List PortObs) (w0 w1 : Fin 4) (sites : List UcieObs) (s : State) : Outcome State Fault Refusal :=
  onDev (onStage 9 (pcieStage ports w0 w1 sites)) s

/-! ### Stage 0x0A -/

def loadSections (d : Dev) : Dev :=
  let i := d.boot.image
  let ss := sectsOf 4 i
  if ss.all (fun s => dramRange d s.load s.len) then stageDone 10 (ss.foldl (fun d s => cohWrite s.load (sectBytes i s) d) d)
  else stageFail 10 0x0103 d
def execLoadSections (s : State) : Outcome State Fault Refusal := onDev (onStage 10 loadSections) s

/-! ### Stage 0x0B (R65, R71, R72, R360, R389, R400) -/

/-- The ledger's dry fit: refused, every ledger entry takes its default. -/
def releaseLedger (d : Dev) : Dev :=
  let f := ledgerFit d
  if f.1 = 0 then recordFit 0x3001 0 (0, 0) false f d
  else
    let d := recordFit 0x3001 0 (0x3000, if f.1 = 0x0503 then 3 else 1) false f d
    { d with list := { d.list with cur := tabFilter (fun k _ => !(decide (0x3000 ≤ k / 256) && decide (k / 256 ≤ 0x3FFF))) d.list.cur } }
/-- Epoch 0 runs for the configured period, and is planned as any epoch is. -/
def planZero (cores : List CoreObs) (tjHub : Nat) (d : Dev) : Dev :=
  let t := ent d 0x2000 1
  plan true t 1 (fun h => cores.getD h { steps := 0, vMean := 550, tj := 0 }) tjHub (fun _ => 0)
    (cutAccounts { d with kerf := { kerfInit with epochUs := t, cutAt := d.now, seqMax := 0 } })
/-- The worlds dry fit: a refusal holds a secure package, and clears the forbidden debug enables of any other. -/
def releaseWorlds (d : Dev) : Dev × Nat :=
  let f := worldsFit d
  let d := recordFit 0x7000 2 (0, 0) false f d
  if secureExists d then
    if f.1 ≠ 0 then (d, f.1)
    else ((secureRegions d).foldl (fun d r => (pagesFrom r.1 (r.2 / 4096)).foldl (fun d p => changePage 0x9000 false p d) d) d, 0)
  else ((List.range 4).foldl (fun d k => if debugForbidden d k then setCurNat d 0x7002 (k + 1) 0 else d) d, 0)
/-- One KERF enable the image sets to 1: its dry fit, and its effect where it is accepted. -/
def releaseEnable (p : PartnerObs) (k : Nat × Nat) (d : Dev) : Dev :=
  if ent d k.1 k.2 = 1 then
    match enableOf d p k.1 k.2 with
    | none => d
    | some (st, f, _) =>
      let d := recordFit st.1 st.2 (0, 0) false f d
      if f.1 ≠ 0 then setCurNat d k.1 k.2 0
      else swapEffect p (setCurNat d k.1 k.2 0) k.1 k.2 (.num 1) d
  else d
/-- Counters, banks and every count "since release" clear (R160, R219, R296, R313, R362, R429, R466, R468, R481). -/
def sinceRelease (d : Dev) : Dev :=
  let d := (List.range 12).foldl (fun d n => updLink d n (fun l => { l with replays := 0, retrains := 0 })) d
  let d := (List.range 4).foldl (fun d b => updBench d b (fun x => { x with
    ops := 0, feedStops := 0, feedUnits := 0, wakes := 0, flrRevokes := 0, abandonedTotal := 0, fns := tabMap fnInit (fun _ y => { y with abandoned := 0 }) x.fns })) d
  { d with
    obs := { obsInit with windowStart := d.now }, seg := { d.seg with drops := 0 }, ledger := { d.ledger with throttles := 0 },
    mirror := { d.mirror with clampStalls := 0 } }
/-- Harts start, epoch 0 opens. -/
def releaseHarts (d : Dev) : Dev :=
  let up := (List.range 216).filter (fun h => hartPresent d h && !(hartOf d h).offline)
  let d := up.foldl (fun d h => updHart d h (startHart d h (h == 0))) d
  let d := setCurNat d 0x1000 3 up.length
  let d := sinceRelease d
  updBoot d (fun b => { b with phase := .released, done := b.done ++ [11], running := [] })
def release (cores : List CoreObs) (tjHub : Nat) (p : PartnerObs) (d : Dev) : Dev :=
  let r := releaseWorlds (planZero cores tjHub (releaseLedger d))
  if r.2 ≠ 0 then stageFail 11 r.2 r.1
  else releaseHarts (kerfEnables.foldl (fun d k => releaseEnable p k d) r.1)
def execRelease (cores : List CoreObs) (tjHub : Nat) (partner : PartnerObs) (s : State) : Outcome State Fault Refusal :=
  onDev (onStage 11 (release cores tjHub partner)) s

/-! ### Failure (R58, R59, R66, R68) -/

/-- STAGE_TIMEOUT: a stage exceeds its bound; fuse load gives its own code. A boot ROM that does not end may have locked the time base: then the paths
that need no more are open (R67). -/
def stageTimeout (n : Nat) (locked : Bool) (d : Dev) : Dev :=
  match n with
  | 1 => stageFail 1 0x0106 d
  | 2 => stageFail 2 0x0107 (if locked then timeBaseLocked d else d)
  | 3 | 4 => slotFails n 0x0107 d
  | _ => stageFail n 0x0107 d
def execStageTimeout (stage : Fin 12) (locked : Bool) (s : State) : Outcome State Fault Refusal := onDev (onStage stage (stageTimeout stage locked)) s

/-- A compute die rests in fold mode in the held state: its harts, and its link where it was up. -/
def heldFold (n : Nat) (d : Dev) : Dev :=
  let d := ((hartsOfDie n).filter (hartPresent d)).foldl (fun d h => updHart d h (fun x => { x with rest := .fold, wantRest := .fold, domainUp := false })) d
  updLink d n (fun l => if l.state = .up then { l with state := .folded } else l)
/-- HELD_STATE: every other stage has stopped. Benches are zeroised, trained channels enter self-refresh, the dies that loaded their fuses fold; after
both slots failed the flash pins are released. -/
def heldState (d : Dev) : Dev :=
  if d.boot.phase = .failing ∧ d.boot.running = [] then
    let hi := d.boot.failStage == 3 || d.boot.failStage == 4
    let d := (List.range 4).foldl (fun d b => benchZeroise b d) d
    let d := (List.range 16).foldl (fun d n => if (chanOf d n).state = 2 then updChan (settleChan n d) n (fun c => { c with selfRefresh := true }) else d) d
    let d := ((List.range 12).filter (fun n => !getBit d.boot.fuseBad n && !(jigOf d n).inJig)).foldl (fun d n => heldFold n d) d
    let d := updBoot d (fun b => { b with phase := .held, flashHighZ := hi })
    if hi then emit (.pin .flashHighZ 1) d else d
  else d
def execHeldState (s : State) : Outcome State Fault Refusal := onDev heldState s

/-- ROLLBACK_COMMIT: one more floor fuse, until the floor is the image's SECURITY_VERSION (R63). -/
def rollbackCommit (d : Dev) : Dev :=
  match d.boot.pendingCommit with
  | some v =>
    if d.boot.phase = .released ∧ d.fuses.floor < v then
      let d := { d with fuses := { d.fuses with floor := d.fuses.floor + 1 } }
      if v ≤ d.fuses.floor then updBoot d (fun b => { b with pendingCommit := none }) else d
    else d
  | none => d
def execRollbackCommit (s : State) : Outcome State Fault Refusal := onDev rollbackCommit s

end Sys2Proof.Machine
end

