-- ==== Sys2Proof/Machine/Reset.lean ====
section
/-!
DEFINITION. Resets (R53, R73–R76, R493): power-off, package reset and warm reset, and what each leaves; the PCIe wake signal.
-/
set_option linter.unusedVariables false
set_option linter.constructorNameAsVariable false

namespace Sys2Proof.Machine

open Host (Outcome)

/-! ### Power-off and package reset (R75) -/

/-- Everything is cleared but the fuses, the Gauge, the pins, and what has already left the package. -/
def clearPackage (phase : BootPhase) (d : Dev) : Dev :=
  { devInit with
    out := d.out, freeCtr := d.freeCtr, fuses := d.fuses, gauge := d.gauge, pins := d.pins, boot := { bootInit with phase := phase } }

/-- POWER_OFF: PWR_GOOD falls; THERMTRIP_N is released; the Gauge's run goes on untouched (R53, R75, R497). -/
def powerOff (d : Dev) : Dev :=
  let d := clearPackage .off d
  { d with pins := { d.pins with pwrGood := false, thermtrip := false } }
def execPowerOff (s : State) : Outcome State Fault Refusal := onDev powerOff s
/-- RAIL_FAULT acts as power-off while PWR_GOOD is high (R493). -/
def execRailFault (s : State) : Outcome State Fault Refusal := onDev (fun d => if d.pins.pwrGood then powerOff d else d) s

/-- A package reset: the Gauge closes its open interval and opens the bring-up record (R439), and everything else is cleared; with PWR_GOOD low it
already is. -/
def resetPackage (d : Dev) : Dev :=
  let d := gaugeOnReset d
  if d.boot.phase = .off then { d with jig := [] } else clearPackage .inReset d
/-- PACKAGE_RESET: PKG_RESET_N has been low for 10 µs; bring-up starts at the next T0 (R76). -/
def packageReset (d : Dev) : Dev :=
  let d := resetPackage d
  { d with pins := { d.pins with pkgReset := true } }
def execPackageReset (s : State) : Outcome State Fault Refusal := onDev packageReset s

/-! ### Warm reset (R74) -/

/-- Step 1: every bench zeroises, and is left as a function-level reset of its PF leaves it. -/
def warmBench (b : Nat) (d : Dev) : Dev :=
  updBench (pfFlr b (benchZeroise b d)) b (fun x => { x with jobs := [], newVersion := none, version := 0, rings := [], chans := [], btu := [], keys := [], rrFn := 0, rrLeft := 0 })
/-- Lines some cache, buffer, queue or message may hold newer than DRAM. -/
def cachedLines (d : Dev) : List Nat :=
  nubNat (d.dies.flatMap (fun e => e.2.cache.map (fun l => l.1) ++ e.2.wb.map (fun w => w.line)) ++ d.slices.flatMap (fun e => e.2.hLine.map (fun l => l.1)) ++
    d.msc.filterMap (fun e => e.2.map (fun l => l.line)) ++ d.mscs.flatMap (fun e => e.2.evb.map (fun l => l.1)) ++ d.subs.flatMap (fun e => e.2.wq.map (fun w => w.line)) ++
    d.flight.map (fun m => lineOf m.addr) ++ d.links.flatMap (fun e => (e.2.up.queue ++ e.2.down.queue).map (fun m => lineOf m.addr)))
/-- Step 2: every dirty line reaches memory. -/
def writeBackAll (d : Dev) : Dev :=
  (cachedLines d).foldl (fun x l => let v := currentLine d l; dramStore l v.1 v.2 x) d
/-- Pages whose POT entry may differ from 0, by page address. -/
def potPages (d : Dev) : List Nat :=
  if d.memGen = 0 then
    nubNat ((d.mem.filter (fun e => decide (d.pot.base ≤ e.1) && decide (e.1 < d.pot.base + d.pot.size))).map (fun e => (e.1 - d.pot.base) / 2 * 4096))
  else (List.range (d.pot.cover / 4096)).map (· * 4096)
/-- A page of class secure, enclave or bench instance, by the table as memory holds it. -/
def protectedPage (d : Dev) (page : Nat) : Bool :=
  let c := potClass (leNat (memBytes d (d.pot.base + page / 4096 * 2) 2))
  c == 1 || c == 2 || c == 3
/-- Step 3: those pages read as zero, without poison. -/
def zeroProtected (d : Dev) : Dev :=
  ((potPages d).filter (protectedPage d)).foldl (fun d p =>
    setMem p (List.replicate 4096 0) { d with poison := tabFilter (fun l _ => !(l / 64 == p / 4096)) d.poison }) d
/-- What a core keeps across the reset: offline and retirement marks, spare, energy. -/
def warmHart (x : Hart) : Hart :=
  { hartInit with
    offline := x.offline, powered := x.powered, spareUsed := x.spareUsed, spared := x.spared, retirePend := x.retirePend, grace := x.grace,
    irqPending := x.irqPending.filter (· == 24), spareMove := x.spareMove, spareAt := x.spareAt, tenergy := x.tenergy, vset := x.vset, tj := x.tj }
/-- What a link keeps: the working sheets, and the lanes found bad (R75, R147). -/
def warmLink (l : Link) : Link :=
  { linkInit with hubUp := l.hubUp, hubDown := l.hubDown, upBad := l.upBad, downBad := l.downBad, dieUp := l.dieUp, dieDown := l.dieDown }
/-- A warm reset: steps 1 to 5, then stage 0x02. Fuses, DRAM, training results, the time counter and counts since package reset stay. -/
def warmReset (d : Dev) : Dev :=
  let d := gaugeOnReset d
  let d := (List.range 4).foldl (fun d b => warmBench b d) d
  let d := zeroProtected (writeBackAll d)
  { devInit with
    out := d.out, freeCtr := d.freeCtr, now := d.now, pins := d.pins, fuses := d.fuses, gauge := d.gauge, mem := d.mem, memGen := d.memGen, poison := d.poison,
    holdover := d.holdover, jig := d.jig, fatal := d.fatal, benches := d.benches, spad := d.spad,
    boot := { bootInit with phase := .running, warm := true, done := [1], running := [2], flashHighZ := false },
    harts := tabMap hartInit (fun _ x => warmHart x) d.harts,
    links := tabMap linkInit (fun _ l => warmLink l) d.links,
    dies := tabMap dieInit (fun _ x => { dieInit with cause := x.cause, fences := x.fences, poisoned := x.poisoned, fenceTime := x.fenceTime }) d.dies,
    chans := tabMap chanInit (fun _ c => { c with selfRefresh := c.state == 2 || c.selfRefresh, switching := false, pauseDue := 0, owed := [] }) d.chans,
    cxlState := tabFilter (fun _ v => v == 4) d.cxlState,
    ledger := { ledgerInit with accts := tabMap acctInit (fun _ a => { acctInit with total := a.total, sensorFail := a.sensorFail, vset := a.vset }) d.ledger.accts },
    mirror := { mirrorInit with failovers := d.mirror.failovers, setPrivate := d.mirror.setPrivate } }

/-! ### HUB_RESET_CTL (R73) -/

/-- The bits of a write that acts: [1] PACKAGE, [0] WARM; none where KEY is wrong or not exactly one of the two is 1. -/
def resetBits (v : Nat) : Option Nat :=
  let k := v % 4
  if getBits v 16 16 = 0x5754 ∧ (k = 1 ∨ k = 2) then some k else none
/-- A warm reset that meets a kerf sequence starts after its step 7 (R74). -/
def warmRequest (d : Dev) : Dev := if d.kerf.step1.isSome then { d with kerf := { d.kerf with warmDue := true } } else warmReset d
/-- A write of HUB_RESET_CTL by a hart: only machine mode acts, which is of the secure world while that exists. -/
def hubResetWrite (h v : Nat) (d : Dev) : Dev :=
  if (hartOf d h).mode = .m ∧ d.boot.phase = .released then
    match resetBits v with
    | some 1 => warmRequest d
    | some _ => resetPackage d
    | none => d
  else d
/-- WARM_RESET: a write whose WARM bit is 1. -/
def execWarmReset (h : HartN) (v : Word) (s : State) : Outcome State Fault Refusal :=
  onDev (onHart h (fun d => if resetBits v.toNat = some 1 then hubResetWrite h v.toNat d else d)) s
/-- PACKAGE_RESET_REQUEST: a write whose PACKAGE bit is 1. -/
def execPackageResetRequest (h : HartN) (v : Word) (s : State) : Outcome State Fault Refusal :=
  onDev (onHart h (fun d => if resetBits v.toNat = some 2 then hubResetWrite h v.toNat d else d)) s

/-! ### PCIE_WAKE (R101) -/

/-- The hub's I/O domains wake; the APLICs deliver the interrupt to the hart, file and identity they are set up for, and that wakes die and hart
(the APLICs' set-up comes with the command: log entry 42). -/
def pcieWake (port : Nat) (target : Option (HartN × Fin 9 × Fin 256)) (d : Dev) : Dev :=
  if d.boot.phase = .released then
    let d := emit (.aplic (.pcieWake port)) d
    match target with
    | some t => imsicWrite t.1 t.2.1 t.2.2 d
    | none => d
  else d
def execPcieWake (port : Fin 32) (target : Option (HartN × Fin 9 × Fin 256)) (s : State) : Outcome State Fault Refusal := onDev (pcieWake port target) s

end Sys2Proof.Machine
end

