-- ==== Sys2Proof/Machine/HubAccess.lean ====
section
/-!
DEFINITION. Uncached accesses at the hub (R197, R371): the hub control range, the Gauge export window and device regions; and the writes of
registers that have no row of their own (R12).
-/
set_option linter.unusedVariables false
set_option linter.constructorNameAsVariable false

namespace Sys2Proof.Machine

open Host (Outcome)

/-! ### The hub control range (R73, R372, R390) -/

def hubBase : Nat := 0x3FF0_0000_0000
def slotBase : Nat := 0x10_0000

/-- STATUS of a command slot (R372). -/
def slotStatus (c : CmdSlot) : Nat := packFields [(c.code, 8, 8), (b2n c.busy, 0, 1)]
/-- A command slot's 8-byte register by its offset. -/
def slotRead (c : CmdSlot) (off : Nat) : Nat :=
  match off with
  | 0x00 => c.a0
  | 0x08 => c.a1
  | 0x10 => c.a2
  | 0x18 => c.a3
  | 0x28 => slotStatus c
  | 0x30 => c.result
  | _ => 0

/-- The 8-byte register at an offset of the range, as a hart reads it; none where no rule places a register: the machine-check banks lie in the
range at offsets that no rule gives (R482). -/
def hubReg (d : Dev) (h off : Nat) : Option Nat :=
  if off < 8 then some 0
  else if 0x1000 ≤ off ∧ off < 0x1028 then some (holdRead d ((off - 0x1000) / 8))
  else if slotBase ≤ off ∧ off < slotBase + 0x40 * 216 then
    some (if (off - slotBase) / 0x40 = h then slotRead (cmdOf d h) ((off - slotBase) % 0x40 / 8 * 8) else 0)
  else none

/-- A read of `size` bytes. What stands where no rule places a register is a free value (log entry 4). -/
def hubRead (h addr size : Nat) (d : Dev) : Nat × Dev :=
  let off := addr - hubBase
  match hubReg d h off with
  | some v => (v / 2 ^ (8 * (off % 8)) % 2 ^ (8 * size), d)
  | none => (freeVal d % 2 ^ (8 * size), drawn d)

/-- A value with `size` bytes of it replaced: a write of a part of a register leaves the rest. -/
def spliceReg (old off size v : Nat) : Nat := setBits (old % 2 ^ 64) (8 * (off % 8)) (8 * size) (v % 2 ^ (8 * size)) % 2 ^ 64

/-- A write of a hart's own command slot; CMD starts the command (R372). -/
def slotWrite (h off size v : Nat) (d : Dev) : Dev :=
  let c := cmdOf d h
  match off / 8 * 8 with
  | 0x00 => updCmd d h (fun c => { c with a0 := spliceReg c.a0 off size v })
  | 0x08 => updCmd d h (fun c => { c with a1 := spliceReg c.a1 off size v })
  | 0x10 => updCmd d h (fun c => { c with a2 := spliceReg c.a2 off size v })
  | 0x18 => updCmd d h (fun c => { c with a3 := spliceReg c.a3 off size v })
  | 0x20 => if off % 8 = 0 then runCmd h (v % 256) d else d
  | _ => d

/-- A write in the hub control range: only M mode reaches it (R371); a slot of another hart, a read-only register and an address of no register
ignore it. -/
def hubWrite (h addr size v : Nat) (d : Dev) : Dev :=
  let off := addr - hubBase
  if (hartOf d h).mode ≠ .m then d
  else if off < 8 then hubResetWrite h (spliceReg 0 off size v) d
  else if 0x1000 ≤ off ∧ off < 0x1028 then
    let r := (off - 0x1000) / 8
    holdWrite r (spliceReg (holdRead d r) off size v) d
  else if slotBase ≤ off ∧ off < slotBase + 0x40 * 216 ∧ (off - slotBase) / 0x40 = h then slotWrite h ((off - slotBase) % 0x40) size v d
  else d

/-! ### NCRD and NCWR (R197) -/

/-- The answer to an uncached read. -/
def ncReply (m : FMsg) (v : Nat) (d : Dev) : Dev :=
  send false { msgOf d .dataNc m.die with rtag := m.rtag, addr := m.addr, data := BitVec.ofNat 512 v } d

/-- NCRD: a register of the hub, the Gauge's window, or a device answers. -/
def ncrdArrives (m : FMsg) (d : Dev) : Dev :=
  let m := { m with op := .ncrd }
  let d := arrive m d
  if staleFrom d m then dropStale m d
  else if inHubRange m.addr then
    let r := hubRead (18 * m.die + m.core % 18) m.addr m.size d
    ncReply m r.1 r.2
  else if inGaugeWindow m.addr then ncReply m (windowRead d m.addr m.size) d
  else deviceRead m d
def execNcrd (m : FMsg) (s : State) : Outcome State Fault Refusal := onDev (overLink m (ncrdArrives m)) s

/-- NCWR: it counts as performed when its CMP arrives; a write of the Gauge's window is ignored and counted (R446). -/
def ncwrArrives (m : FMsg) (d : Dev) : Dev :=
  let m := { m with op := .ncwr }
  let d := arrive m d
  if staleFrom d m then dropStale m d
  else if inHubRange m.addr then hubWrite (18 * m.die + m.core % 18) m.addr m.size (m.data.toNat % 2 ^ (8 * m.size)) (ackWrite (some m) d)
  else if inGaugeWindow m.addr then countPkg pkgGaugeWrite (ackWrite (some m) d)
  else outbound m.addr (leBytes m.size m.data.toNat) (some m) d
def execNcwr (m : FMsg) (s : State) : Outcome State Fault Refusal := onDev (overLink m (ncwrArrives m)) s

/-! ### CSRs (R92, R471, R472, R477; the others as the RISC-V specifications name them, log entry 11) -/

/-- Standard CSRs outside the checkpoint's lists that a hart may write: fcsr and vector state, sip, counters, AIA selection, stateen, triggers. -/
def otherCsrs : List Nat :=
  [0x001, 0x002, 0x003, 0x008, 0x009, 0x00A, 0x00F, 0x144, 0x244, 0x301, 0x341, 0x604, 0x644, 0xB00, 0xB02,
   0x150, 0x151, 0x15C, 0x250, 0x251, 0x25C, 0x350, 0x351, 0x35C, 0x7A0, 0x7A1, 0x7A2, 0x7A3,
   0x10C, 0x10D, 0x10E, 0x10F, 0x30C, 0x30D, 0x30E, 0x30F, 0x60C, 0x60D, 0x60E, 0x60F]
/-- Vendor CSRs of attribution, sampling and counter selection (R433, R472, R477). -/
def vendorCsrs : List Nat := [0x6C1, 0x6C2, 0x6C3, 0x6C4, 0x8C0]
/-- CSRs a hart may only read. -/
def readOnlyCsr (n : Nat) : Bool :=
  [0xFC0, 0xCC0, 0xCC1, 0xCC2, 0xCC3, 0xCC4, 0xC20, 0xC21, 0xC22, 0xF11, 0xF12, 0xF13, 0xF14, 0xF15, 0xDA0, 0xE12, 0xFB0, 0xDB0, 0xEB0, 0x7A4].contains n ||
  (decide (0xC00 ≤ n) && decide (n ≤ 0xC1F))
/-- The CSR exists and holds state a write may change. -/
def writableCsr (n : Nat) : Bool :=
  lowerCsrs.contains n || machineCsrs.contains n || pmpCsrs.contains n || otherCsrs.contains n || vendorCsrs.contains n ||
  (decide (0xB03 ≤ n) && decide (n ≤ 0xB1F)) || (decide (0x323 ≤ n) && decide (n ≤ 0x33F))
/-- Debug-mode CSRs. -/
def debugCsr (n : Nat) : Bool := decide (0x7B0 ≤ n) && decide (n ≤ 0x7B3)

/-- Trigger registers lie behind tselect: one set per trigger (R386: 8 triggers). -/
def trigKey (x : Hart) (n : Nat) : Nat := if 0x7A1 ≤ n ∧ n ≤ 0x7A3 then n + 0x1000 * (csr x 0x7A0 % 8) else n
/-- mhpmeventN from a written word: RSVD bits read 0, and so does an EVENT of no code (R471). -/
def hpmEvent (v : Nat) : Nat := getBits v 58 6 * 2 ^ 58 + (if v % 256 ≤ 0x25 then v % 256 else 0)
/-- A write of a CSR by number, with the fields R471 gives mhpmeventN and the rules of hsmpctl (R477), whose countdown starts at `r`. -/
def csrStore (n v r : Nat) (x : Hart) : Hart :=
  if n = 0x6C2 then hsmpctlPut v r x
  else if n = 0x7A0 then setCsr n (v % 8) x
  else if 0x7A1 ≤ n ∧ n ≤ 0x7A3 then setCsr (trigKey x n) v x
  else if 0x323 ≤ n ∧ n ≤ 0x33F then setCsr n (hpmEvent v) x
  else csrPut n v x
/-- A CSR by number. -/
def csrLoad (d : Dev) (h n : Nat) : Nat :=
  if n = 0x7A4 then 0x8000 else if 0x7A1 ≤ n ∧ n ≤ 0x7A3 then csr (hartOf d h) (trigKey (hartOf d h) n) else csrView d h n

/-- TVM traps satp in HS mode, VTVM in VS mode. -/
def satpTrap (x : Hart) (n : Nat) : Option Bool :=
  if n ≠ 0x180 then none
  else if x.mode == .hs && getBit (csr x mstatusN) 20 then some false
  else if x.mode == .vs && getBit (csr x hstatusN) 20 then some true
  else none

/-- A CSR instruction of encoding `insn` with operand `v`; a CSR that does not exist, or that only Debug Mode sees, is an illegal instruction. -/
def csrInsn (h insn v : Nat) (d : Dev) : Dev :=
  let x := hartOf d h
  let n := insn / 2 ^ 20 % 4096
  if !writableCsr n && !readOnlyCsr n then trapIllegal h insn d
  else match satpTrap x n with
    | some false => trapIllegal h insn d
    | some true => trapVirtual h insn d
    | none => csrWrite h n insn v (csrLoad d h (csrHome x n)) (fun v => csrStore (csrHome x n) v (freeVal d)) (if n = 0x6C2 then drawn d else d)

/-! ### REGISTER_WRITE (R12) -/

/-- A register of a Feed channel: the owner's only, and ignored while STATE reads 1 or 4 (R306). -/
def feedPut (b f c : Nat) (g : FeedChan → FeedChan) (d : Dev) : Dev :=
  if chanOwnerOf d b c ≠ f ∨ (feedOf d b c).state = 1 ∨ (feedOf d b c).state = 4 then d else updFeed b c g d

/-- FT_IOATP (R321): ignored while QSTATE reads 0 and any ring of the function is enabled; a MODE of no listed value leaves it. -/
def ioatpPut (b f v : Nat) (d : Dev) : Dev :=
  if (fnOf d b f).qstate = 0 ∧ anyRingEnabled d b f 0 then d
  else updFn b f (fun x => { x with ioatp := packFields [(getBits v 60 4, 60, 4), (getBits v 0 44, 0, 44)] }) d

/-- The Debug Module resumes a halted hart; with dcsr.step it halts again after one instruction. -/
def dmResume (h : Nat) (d : Dev) : Dev :=
  updHart d h (fun x => if x.halted then { x with halted := false, haltReq := getBit (csr x 0x7B0) 2 } else x)

/-- REGISTER_WRITE: the RW fields of the register take the value; RSVD bits are discarded (R12). -/
def registerWrite (t : RegTarget) (v : Nat) (d : Dev) : Dev :=
  match t with
  | .csr h insn => onHart h (csrInsn h insn.toNat v) d
  | .hub h addr size => if inHubRange addr then onHart h (hubWrite h addr size v) d else d
  | .sqBase h b f r => ringWrite h b f r (fun x => if x.enable then x else { x with sqBase := v / 4096 * 4096 }) d
  | .cqBase h b f r => ringWrite h b f r (fun x => if x.enable then x else { x with cqBase := v / 4096 * 4096 }) d
  | .fchMemAddr h b f c => barWrite h b f (feedPut b f c (fun x => { x with mem := v })) d
  | .fchSpadOff h b f c => barWrite h b f (feedPut b f c (fun x => { x with off := v % 2 ^ 32 })) d
  | .fchCount h b f c => barWrite h b f (feedPut b f c (fun x => { x with count := v % 2 ^ 24 })) d
  | .fchCtl h b f c => barWrite h b f (fchCtl b f c v) d
  | .msix h b f i => barWrite h b f (updFn b f (fun x => { x with msix := tabSet 0 x.msix i (BitVec.ofNat 64 v) })) d
  | .ftIoatp h b f => barWrite h b 0 (ioatpPut b f v) d
  | .ftDlogBase h b f => barWrite h b 0 (updFn b f (fun x => { x with dlogBase := v / 4096 * 4096 })) d
  | .ftDlogIova h b f => barWrite h b 0 (updFn b f (fun x => { x with dlogIova := v / 4096 * 4096 })) d
  | .ftDlogPages h b f => barWrite h b 0 (updFn b f (fun x => { x with dlogPages := min v (2 ^ 36) })) d
  | .ftTenant h b f => barWrite h b 0 (updFn b f (fun x => { x with tenant := v % 4096 })) d
  | .pfQdone h b i => barWrite h b 0 (fun d => updBench d b (fun x => { x with
      qdone := setBits x.qdone (64 * i) 64 (getBits x.qdone (64 * i) 64 - Nat.land (getBits x.qdone (64 * i) 64) v) })) d
  | .btuInvalIova h b => barWrite h b 0 (fun d => updBench d b (fun x => { x with invalIova := v / 4096 * 4096 })) d
  | .vfEnable b => if v ≤ 256 ∧ (benchOf d b).vfs = 0 then updBench d b (fun x => { x with vfs := v }) else d
  | .powerState b f => if v = 0 then updFn b f (fun x => { x with d3 := false, qstate := if x.d3 ∧ x.quiesce = 0 then 0 else x.qstate }) d
                       else if v = 3 then leaveRunning b f (updFn b f (fun x => { x with d3 := true }) d) else d
  | .dmResume h => dmResume h d
def execRegisterWrite (t : RegTarget) (v : Word) (s : State) : Outcome State Fault Refusal := onDev (registerWrite t v.toNat) s

end Sys2Proof.Machine
end

