-- ==== Sys2Proof/Machine/DebugMod.lean ====
section
/-!
DEFINITION. The Debug Module (R386–R389): halt requests, abstract register access, the program buffer and system bus access. Each command's answer
carries its cmderr or sberror; the registers the debug specification keeps them in are the debugger's view of these answers (log entry 11).
-/
set_option linter.unusedVariables false
set_option linter.constructorNameAsVariable false

namespace Sys2Proof.Machine

open Host (Outcome)

/-! ### Halt requests (R388, R106) -/

/-- DEBUG_HALT_REQUEST: pending until an instruction boundary in a permitted context. It wakes a resting hart, which halts after its WFI; a folded die
drives the wake pattern itself (R153). A hart that waits in TSYNC halts at the TSYNC (R121). -/
def haltRequest (h : Nat) (d : Dev) : Dev :=
  let d := updHart d h (fun x => if x.halted || !x.released || x.offline then x else { x with haltReq := true })
  let x := hartOf d h
  if !x.haltReq || !dieRuns d (dieOfHart h) || packageStopped d then d
  else if x.rest ≠ .running then wakeHart h (if (linkOf d (dieOfHart h)).state = .folded then emit (.wake (dieOfHart h) false) d else d)
  else match x.waiting with
    | some w => if w.op = .tsync ∧ ctxInvasive d x x.mode then haltIfDue h (updHart d h (fun x => { x with waiting := none })) else d
    | none => haltIfDue h d
def execDebugHaltRequest (h : HartN) (s : State) : Outcome State Fault Refusal := onDev (haltRequest h) s

/-! ### Abstract access (R388) -/

/-- dcsr: debugver 4, cause 3 (haltreq), v and prv as recorded at the halt, step. -/
def dcsrOf (x : Hart) : Nat := packFields [(4, 28, 4), (3, 6, 3), (b2n (modeV x.haltMode), 5, 1), (getBits (csr x 0x7B0) 2 1, 2, 1), (modePriv x.haltMode, 0, 2)]

/-- Registers of a halted hart by regno: CSRs, x and f; none for any other number. -/
def dbgRead (d : Dev) (h regno : Nat) : Option Nat :=
  let x := hartOf d h
  if regno = 0x7B0 then some (dcsrOf x)
  else if regno = 0x7B1 then some x.pc
  else if regno = 0x7B2 then some x.dscratch.toNat
  else if regno = 0x7B3 then some (csr x 0x7B3)
  else if regno < 0x1000 then (if writableCsr regno || readOnlyCsr regno then some (csrLoad d h regno) else none)
  else if regno < 0x1020 then some (xReg x (regno - 0x1000))
  else if regno < 0x1040 then some (fReg x (regno - 0x1020))
  else none
/-- Write such a register; a read-only CSR cannot be written. -/
def dbgWrite (h regno v : Nat) (d : Dev) : Option Dev :=
  if regno = 0x7B0 then some (updHart d h (setCsr 0x7B0 (Nat.land v 4)))
  else if regno = 0x7B1 then some (updHart d h (fun x => { x with pc := v }))
  else if regno = 0x7B2 then some (updHart d h (fun x => { x with dscratch := BitVec.ofNat 64 v }))
  else if regno = 0x7B3 then some (updHart d h (setCsr 0x7B3 v))
  else if regno < 0x1000 then
    (if writableCsr regno then some (updHart (if regno = 0x6C2 then drawn d else d) h (csrStore regno v (freeVal d))) else none)
  else if regno < 0x1020 then some (updHart d h (setX (regno - 0x1000) v))
  else if regno < 0x1040 then some (updHart d h (setF (regno - 0x1020) v))
  else none

/-- The hart halted outside the secure world, which exists: its M-level CSRs are closed; the debug-mode CSRs are not M-level state. -/
def dbgClosed (d : Dev) (h regno : Nat) : Bool :=
  secureExists d && !worldSecure d (hartOf d h) (hartOf d h).haltMode && decide (regno < 0x1000) && csrLevel regno == 3 && !debugCsr regno

/-- ABSTRACT_ACCESS_REGISTER: cmderr 0 with the value, 2 for no such register number, 3 for an access that fails, 4 for a hart not halted. -/
def abstractAccess (h regno : Nat) (write : Bool) (v : Nat) (d : Dev) : Dev :=
  if !(hartOf d h).halted then emit (.debug h 4 0) d
  else if 0x1040 ≤ regno then emit (.debug h 2 0) d
  else if dbgClosed d h regno then emit (.debug h 3 0) d
  else if write then
    (match dbgWrite h regno v d with | some d => emit (.debug h 0 v) d | none => emit (.debug h 3 0) d)
  else match dbgRead d h regno with | some w => emit (.debug h 0 w) d | none => emit (.debug h 3 0) d
def execAbstractAccessRegister (h : HartN) (regno : Nat) (write : Bool) (v : Word) (s : State) : Outcome State Fault Refusal :=
  onDev (abstractAccess h regno write v.toNat) s

/-! ### The program buffer (R386, R388) -/

/-- A copy of a line for a walk, put on the die of a copy of the package. -/
def lendLine (h line : Nat) (d : Dev) : Dev :=
  let v := cohRead d line
  setDieLine (dieOfHart h) line (some { blankLine with st := .ss, data := v.1, poison := v.2, l3 := true }) d
/-- Translate an address with every line a walk needs at hand. -/
def pbTranslate : Nat → Dev → Nat → Mode → Nat → Nat → Nat → Tr
  | 0, d, h, md, acc, va, size => translate d h md acc va size true none
  | n + 1, d, h, md, acc, va, size =>
    match translate d h md acc va size true none with
    | .miss line _ => pbTranslate n (lendLine h line d) h md acc va size
    | t => t

/-- A load or store of the buffer by the privilege, world and enclave of the halt: at once, or it ends the program. -/
def pbAccess (h : Nat) (write : Bool) (va size : Nat) (val : Nat) (d : Dev) : Option (Nat × Dev) :=
  let md := (hartOf d h).haltMode
  if !accSize size || va % 64 + size > 64 then none
  else match pbTranslate 64 d h md (if write then 3 else 1) va size with
    | .ok pa _ _ =>
      if isMain d pa then
        (if write then some (0, cohWrite pa (leBytes size val) d)
         else if cohPoison d pa size then none
         else some (leNat (cohBytes d pa size), d))
      else if inHubRange pa then (if write then some (0, hubWrite h pa size (val % 2 ^ (8 * size)) d) else some (hubRead h pa size d))
      else if inGaugeWindow pa then (if write then some (0, countPkg pkgGaugeWrite d) else some (windowRead d pa size, d))
      else if write then some (0, outbound pa (leBytes size val) none d)
      else some (freeVal d % 2 ^ (8 * size), emit (.device false pa size 0) (drawn d))
    | _ => none

/-- One instruction of the buffer; none where it raises an exception. -/
def pbStep (h : Nat) (op : PbOp) (d : Dev) : Option Dev :=
  let x := hartOf d h
  match op with
  | .load rd rs1 imm size signed =>
    (pbAccess h false (effAddr x rs1 imm) size 0 d).map (fun r => updHart r.2 h (setX rd (extendLoad size signed r.1)))
  | .store rs2 rs1 imm size => (pbAccess h true (effAddr x rs1 imm) size (xReg x rs2 % 2 ^ (8 * size)) d).map (fun r => r.2)
  | .csrRead rd n =>
    let y := { x with mode := x.haltMode }
    let n := n.toNat
    if (writableCsr n || readOnlyCsr n) && csrAccess y n false == 2 && (satpTrap y n).isNone then
      some (updHart d h (setX rd (csrLoad d h (csrHome y n))))
    else none
  | .csrWrite rs1 n =>
    let y := { x with mode := x.haltMode }
    let n := n.toNat
    if writableCsr n && csrAccess y n true == 2 && (satpTrap y n).isNone then
      some (updHart (if n = 0x6C2 then drawn d else d) h (csrStore (csrHome y n) (xReg x rs1) (freeVal d)))
    else none
  | .ebreak => some d

/-- Run the buffer as far as its ebreak: whether an exception ended it. -/
def pbRun (h : Nat) : List PbOp → Dev → Bool × Dev
  | [], d => (true, d)
  | .ebreak :: _, d => (true, d)
  | op :: r, d => match pbStep h op d with | some d => pbRun h r d | none => (false, d)

/-- PROGRAM_BUFFER: at most 8 words; an exception answers cmderr 3, a hart not halted cmderr 4. -/
def programBuffer (h : Nat) (ops : List PbOp) (d : Dev) : Dev :=
  if !(hartOf d h).halted then emit (.debug h 4 0) d
  else
    let r := pbRun h (ops.take 8) d
    emit (.debug h (if r.1 then 0 else 3) 0) r.2
def execProgramBuffer (h : HartN) (ops : List PbOp) (s : State) : Outcome State Fault Refusal := onDev (programBuffer h ops) s

/-! ### System bus access (R388) -/

/-- What a system bus access may do with a page. -/
def sbAllowed (d : Dev) (pa : Nat) : Bool :=
  let e := potEntry d pa
  match potClass e with
  | 0 => debugEnable d 0
  | 1 => debugEnable d 2
  | 2 => enclInv d (potOid e)
  | _ => false

/-- SYSTEM_BUS_ACCESS: sberror 4 for a size that is not 1, 2, 4 or 8 bytes, 3 for a misaligned one, 7 for what R388 does not allow and for poison. -/
def systemBus (addr size : Nat) (write : Bool) (v : Nat) (d : Dev) : Dev :=
  if !accSize size then emit (.sysBus 4 0) d
  else if addr % size ≠ 0 then emit (.sysBus 3 0) d
  else if isMain d addr then
    let d := potRecord addr d
    if !sbAllowed d addr then emit (.sysBus 7 0) d
    else if write then emit (.sysBus 0 (v % 2 ^ (8 * size))) (cohWrite addr (leBytes size v) d)
    else if cohPoison d addr size then emit (.sysBus 7 0) d
    else emit (.sysBus 0 (leNat (cohBytes d addr size))) d
  else if inGaugeWindow addr && !write then emit (.sysBus 0 (windowRead d addr size)) d
  else emit (.sysBus 7 0) d
def execSystemBusAccess (addr size : Nat) (write : Bool) (v : Word) (s : State) : Outcome State Fault Refusal :=
  onDev (systemBus addr size write v.toNat) s

end Sys2Proof.Machine
end

