-- ==== Sys2Proof/Machine/Flits.lean ====
section
/-!
DEFINITION. Flits on a tenon link (R141–R145, R178, R179): their 80 bytes, the LINK and MSG headers, the CRC, and what a receiver does with one
that arrives.
-/
set_option linter.unusedVariables false
set_option linter.constructorNameAsVariable false

namespace Sys2Proof.Machine

open Host (Outcome)

/-! ### Opcodes (R179) -/

/-- The code of a message. -/
def opCode : Op → Nat
  | .rds => 0x01 | .rdc => 0x02 | .rdw => 0x03 | .rdx => 0x04 | .upg => 0x05 | .zro => 0x06 | .cln => 0x07 | .fls => 0x08 | .inv => 0x09
  | .ncrd => 0x0A | .ncwr => 0x0B | .imsw => 0x10
  | .fwdS => 0x20 | .fwdX => 0x21 | .snpInv => 0x22 | .snpPeek => 0x23 | .snpClean => 0x24 | .snpFlush => 0x25 | .binv => 0x26
  | .snpAck => 0x40 | .fwdAck => 0x41 | .killDone => 0x42 | .protEnd => 0x43 | .cmp => 0x48 | .wbAck => 0x49 | .wbXack => 0x4A | .kdone => 0x4B
  | .dataS => 0x60 | .dataE => 0x61 | .dataM => 0x62 | .dataNc => 0x63 | .dataSnp => 0x64
  | .wbM => 0x70 | .evn => 0x71 | .wbP => 0x72
def allOps : List Op :=
  [.rds, .rdc, .rdw, .rdx, .upg, .zro, .cln, .fls, .inv, .ncrd, .ncwr, .imsw, .fwdS, .fwdX, .snpInv, .snpPeek, .snpClean, .snpFlush, .binv,
   .snpAck, .fwdAck, .killDone, .protEnd, .cmp, .wbAck, .wbXack, .kdone, .dataS, .dataE, .dataM, .dataNc, .dataSnp, .wbM, .evn, .wbP]
/-- The message a code names; none for any other code. -/
def opOf (code : Nat) : Option Op := allOps.find? (fun o => opCode o == code)
/-- The bundles a message travels on: up, down or both. -/
def opGoes (up : Bool) : Op → Bool
  | .dataS | .dataE | .dataM => true
  | .imsw | .fwdS | .fwdX | .snpInv | .snpPeek | .snpClean | .snpFlush | .binv | .cmp | .wbAck | .wbXack | .kdone | .dataNc => !up
  | _ => up

/-! ### Layouts (R141, R142, R178) -/

/-- The MSG header (R178). -/
def msgWord (m : FMsg) : Nat :=
  if vcOf m.op = 4 then packFields [(opCode m.op, 56, 8), (m.inc, 50, 6), (m.addr / 64, 0, 50)]
  else packFields [(opCode m.op, 56, 8), (m.inc, 50, 6), (m.txid, 36, 14), (m.rtag, 24, 12), (m.core, 19, 5), (b2n m.poison, 15, 1), (b2n m.dirty, 14, 1),
    (b2n m.kp, 13, 1), (b2n m.prot, 12, 1), (b2n m.held, 11, 1)]
/-- ADDRESS names bytes within a line only for uncached accesses and IMSIC writes. -/
def byteAddress : Op → Bool
  | .ncrd | .ncwr | .imsw => true
  | _ => false
/-- The payload of a message flit (R178): a line, or ADDRESS, SIZE or REQ_DIE, and write data. -/
def msgPayload (m : FMsg) : List Byte :=
  if vcOf m.op = 3 ∨ vcOf m.op = 4 then (if m.op = .evn then List.replicate 64 0 else lineBytes m.data)
  else
    leBytes 8 (if byteAddress m.op then m.addr else m.addr / 64 * 64) ++
    leBytes 8 (if m.op = .ncrd ∨ m.op = .ncwr then m.size % 256 else if vcOf m.op = 1 then m.reqDie % 256 else 0) ++
    leBytes 8 (if m.op = .ncwr ∨ m.op = .imsw then m.data.toNat else 0) ++ List.replicate 40 0
/-- The LINK header (R142). -/
def linkWord (ftype vc seq ack : Nat) : Nat := packFields [(ftype, 29, 3), (vc, 26, 3), (seq, 14, 12), (ack, 2, 12)]
/-- A flit from its payload, its two headers and the CRC-32C of them (the name fixes its bit order, start and end values: DEDUCED, log entry 15). -/
def flitOf (payload : List Byte) (msg link : Nat) : List Byte :=
  let b := padTo 64 payload ++ leBytes 8 msg ++ leBytes 4 link
  b ++ leBytes 4 (crc32c b)
/-- The flit of a message. -/
def flitBytes (seq ack : Nat) (m : FMsg) : List Byte := flitOf (msgPayload m) (msgWord m) (linkWord 1 (vcOf m.op) seq ack)
/-- A control flit (R143): the five cumulative credit counters and RETRY_REQ. -/
def controlBytes (returned : List Nat) (retry : Option Nat) (ack : Nat) : List Byte :=
  flitOf ((List.range 5).flatMap (fun vc => leBytes 2 (returned.getD vc 0)) ++ leBytes 2 (match retry with | some s => 2 ^ 15 + s % 4096 | none => 0)) 0
    (linkWord 2 0 0 ack)
/-- Bit k of a flit at a trained width of w lanes: its lane, and the unit interval of the flit it travels in (R141). -/
def flitLane (w k : Nat) : Nat × Nat := (k % w, k / w)

/-- The message a flit's header and payload spell. In data flits no address travels: the line is that of the transaction. -/
def msgFrom (die : Nat) (up : Bool) (op : Op) (h : Nat) (payload : List Byte) : FMsg :=
  let line := vcOf op == 3 || vcOf op == 4
  if vcOf op = 4 then
    { op := op, up := up, die := die, inc := getBits h 50 6, txid := 0, rtag := 0, core := 0, poison := false, dirty := false, kp := false, prot := false,
      held := false, addr := getBits h 0 50 * 64, size := 0, reqDie := 0, data := bytesLine payload }
  else
    { op := op, up := up, die := die, inc := getBits h 50 6, txid := getBits h 36 14, rtag := getBits h 24 12, core := getBits h 19 5,
      poison := getBit h 15, dirty := getBit h 14, kp := getBit h 13, prot := getBit h 12, held := getBit h 11,
      addr := if line then 0 else leAt payload 0 8, size := if op = .ncrd ∨ op = .ncwr then leAt payload 8 1 else 0,
      reqDie := if vcOf op = 1 then leAt payload 8 1 else 0,
      data := if line then bytesLine payload else if op = .ncwr ∨ op = .imsw then BitVec.ofNat 512 (leAt payload 16 8) else 0 }

/-! ### Arrival (R142–R145) -/

/-- The flit has no error: 80 bytes, the CRC, and an FTYPE of R142. -/
def flitOk (f : List Byte) : Bool := f.length == 80 && leAt f 76 4 == crc32c (f.take 76) && decide (getBits (leAt f 72 4) 29 3 ≤ 3)

/-- A message from a flit reaches what it is for. -/
def deliverMsg (m : FMsg) (d : Dev) : Dev :=
  match m.op with
  | .rds | .rdc | .rdw | .rdx | .upg | .zro | .cln | .fls | .inv => dieRequest m.op m d
  | .ncrd => ncrdArrives m d
  | .ncwr => ncwrArrives m d
  | .imsw => imswArrives m ((Config.imsicAt m.addr).getD 0 % 9) d
  | .fwdS | .fwdX | .snpInv | .snpPeek | .snpClean | .snpFlush | .binv => dieForward m.op m d
  | .snpAck => snpAckArrives m d
  | .fwdAck => fwdAckArrives m d
  | .killDone => killDoneArrives m d
  | .protEnd => protEndArrives m d
  | .cmp => cmpArrives m d
  | .wbAck | .wbXack => wbAckArrives m.op m d
  | .kdone => kdoneArrives m d
  | .dataS | .dataE | .dataM => dataMsg m.op m d
  | .dataNc => dataNcArrives m d
  | .dataSnp => dataSnpArrives m d
  | .wbM | .wbP => wbArrives m.op m d
  | .evn => evnArrives m d

/-- What a receiver asks for after an error: the next SEQ it expects (R144). -/
def retryRequest (n : Nat) (up : Bool) (d : Dev) : Dev :=
  let b := bundleOf (linkOf d n) up
  emit (.control n (!up) ((List.range 5).map (fun vc => tabGet 0 b.taken vc)) (some b.rxSeq) (ackOf (linkOf d n) (!up)))
    (updBundle n up (fun b => { b with discarding := true }) d)

/-- The message of the SEQ in the transmitter's retry buffer, where the flit is its own: with it comes the line that no data flit carries. -/
def sentMsg (b : Bundle) (seq : Nat) (m : FMsg) : FMsg :=
  match b.unacked.find? (fun e => e.1 == seq) with
  | some e => if msgWord e.2 = msgWord m ∧ msgPayload e.2 = msgPayload m then e.2 else m
  | none => m

/-- A message flit without error: the expected SEQ is accepted, once; any other is discarded. An opcode that R179 does not give for the bundle makes
it malformed, and the link recovers (R144, R179). Its credit goes back as soon as the receiver may return it. -/
def messageFlit (n : Nat) (up : Bool) (f : List Byte) (d : Dev) : Dev :=
  let seq := getBits (leAt f 72 4) 14 12
  if seq ≠ (bundleOf (linkOf d n) up).rxSeq then d
  else match (opOf (getBits (leAt f 64 8) 56 8)).filter (opGoes up) with
    | none => enterRecovery n cleanTest cleanTest d
    | some op =>
      let m := sentMsg (bundleOf (linkOf d n) up) seq (msgFrom n up op (leAt f 64 8) (f.take 64))
      let d := updBundle n up (fun b =>
        { b with rxSeq := (seq + 1) % 4096, discarding := false, got := tabUpd 0 b.got (vcOf op) (fun k => (k + 1) % 65536) }) d
      returnCredits n up (deliverMsg m d)

/-- A control flit without error: the opposite bundle's transmitter takes the credits, and replays from the SEQ asked for (R143, R144). -/
def controlFlit (n : Nat) (up : Bool) (f : List Byte) (d : Dev) : Dev :=
  let d := updBundle n (!up) (fun b => { b with returned := (List.range 5).foldl (fun t vc => tabSet 0 t vc (leAt f (2 * vc) 2)) b.returned }) d
  let r := leAt f 10 2
  drainBundle n (!up) (if getBit r 15 then replayFrom n (!up) (r % 4096) d else d)

/-- A flit arrives on a bundle of a link that is up. -/
def flitArrives (n : Nat) (up : Bool) (f : List Byte) (d : Dev) : Dev :=
  if (linkOf d n).state ≠ .up then d
  else if !flitOk f then retryRequest n up d
  else
    let l := leAt f 72 4
    let acked (d : Dev) : Dev := ackBundle n (!up) (getBits l 2 12) d
    match getBits l 29 3 with
    | 1 => messageFlit n up f (acked d)
    | 2 => controlFlit n up f (acked d)
    | 0 => acked d
    | _ => d
def execMessageFlit (die : DieN) (up : Bool) (flit : List Byte) (s : State) : Outcome State Fault Refusal := onDev (flitArrives die up flit) s
def execControlFlit (die : DieN) (up : Bool) (flit : List Byte) (s : State) : Outcome State Fault Refusal := onDev (flitArrives die up flit) s

end Sys2Proof.Machine
end

