-- ==== Sys2Proof/Machine/Dispatch.lean ====
section
/-!
DEFINITION. One arm per command: the table from constructors to meanings, and nothing else.
-/

namespace Sys2Proof.Machine

def exec (i : Instr) (s : State) : Host.Outcome State Fault Refusal :=
  match i with
  | .t0 segId segRole failed => Sys2Proof.Machine.execT0 segId segRole failed s
  | .powerOff => Sys2Proof.Machine.execPowerOff s
  | .packageReset => Sys2Proof.Machine.execPackageReset s
  | .railFault => Sys2Proof.Machine.execRailFault s
  | .bootRom locked => Sys2Proof.Machine.execBootRom locked s
  | .imageRead obs => Sys2Proof.Machine.execImageRead obs s
  | .imageCheck => Sys2Proof.Machine.execImageCheck s
  | .apply => Sys2Proof.Machine.execApply s
  | .tenonStage obs => Sys2Proof.Machine.execTenonStage obs s
  | .dramStage obs => Sys2Proof.Machine.execDramStage obs s
  | .hubStores faults => Sys2Proof.Machine.execHubStores faults s
  | .pcieStage ports w0 w1 sites => Sys2Proof.Machine.execPcieStage ports w0 w1 sites s
  | .loadSections => Sys2Proof.Machine.execLoadSections s
  | .release cores tjHub partner => Sys2Proof.Machine.execRelease cores tjHub partner s
  | .stageTimeout stage locked => Sys2Proof.Machine.execStageTimeout stage locked s
  | .heldState => Sys2Proof.Machine.execHeldState s
  | .rollbackCommit => Sys2Proof.Machine.execRollbackCommit s
  | .warmReset h v => Sys2Proof.Machine.execWarmReset h v s
  | .packageResetRequest h v => Sys2Proof.Machine.execPackageResetRequest h v s
  | .read m => Sys2Proof.Machine.execRead m s
  | .write m p u => Sys2Proof.Machine.execWrite m p u s
  | .domainWriteBegin m => Sys2Proof.Machine.execDomainWriteBegin m s
  | .domainWriteSegment m => Sys2Proof.Machine.execDomainWriteSegment m s
  | .domainWriteEnd m p => Sys2Proof.Machine.execDomainWriteEnd m p s
  | .domainReadBegin m => Sys2Proof.Machine.execDomainReadBegin m s
  | .domainReadSegment m => Sys2Proof.Machine.execDomainReadSegment m s
  | .transferCancel m => Sys2Proof.Machine.execTransferCancel m s
  | .kerfWait m => Sys2Proof.Machine.execKerfWait m s
  | .kerfWaitResponse sess => Sys2Proof.Machine.execKerfWaitResponse sess s
  | .transferIdleTimeout sess => Sys2Proof.Machine.execTransferIdleTimeout sess s
  | .stagedDiscard sess tag v => Sys2Proof.Machine.execStagedDiscard sess tag v s
  | .kerfCut obs => Sys2Proof.Machine.execKerfCut obs s
  | .spdmKeyExchange req => Sys2Proof.Machine.execSpdmKeyExchange req s
  | .spdmFinish sess leaf req => Sys2Proof.Machine.execSpdmFinish sess leaf req s
  | .spdmGetMeasurements sess index sign nonce => Sys2Proof.Machine.execSpdmGetMeasurements sess index sign nonce s
  | .spdmGetCertificate sess slot off len => Sys2Proof.Machine.execSpdmGetCertificate sess slot off len s
  | .spdmHeartbeat sess => Sys2Proof.Machine.execSpdmHeartbeat sess s
  | .spdmEndSession sess => Sys2Proof.Machine.execSpdmEndSession sess s
  | .spdmSessionTimeout sess => Sys2Proof.Machine.execSpdmSessionTimeout sess s
  | .tsync h => Sys2Proof.Machine.execTsync h s
  | .eenter h rs1 => Sys2Proof.Machine.execEenter h rs1 s
  | .eexit h => Sys2Proof.Machine.execEexit h s
  | .wswitch h rs1 => Sys2Proof.Machine.execWswitch h rs1 s
  | .poq h rd rs1 => Sys2Proof.Machine.execPoq h rd rs1 s
  | .wfi h => Sys2Proof.Machine.execWfi h s
  | .hartWake h => Sys2Proof.Machine.execHartWake h s
  | .hartInterrupt h => Sys2Proof.Machine.execHartInterrupt h s
  | .hartLoad h dst rs1 imm size signed compressed => Sys2Proof.Machine.execHartLoad h dst rs1 imm size signed compressed s
  | .hartStore h fp rs2 rs1 imm size compressed => Sys2Proof.Machine.execHartStore h fp rs2 rs1 imm size compressed s
  | .amo h op rd rs1 rs2 size => Sys2Proof.Machine.execAmo h op rd rs1 rs2 size s
  | .lr h rd rs1 size => Sys2Proof.Machine.execLr h rd rs1 size s
  | .sc h rd rs1 rs2 size => Sys2Proof.Machine.execSc h rd rs1 rs2 size s
  | .lrReservationTimeout h => Sys2Proof.Machine.execLrReservationTimeout h s
  | .sfenceVma h rs1 rs2 => Sys2Proof.Machine.execSfenceVma h rs1 rs2 s
  | .hfenceVvma h rs1 rs2 => Sys2Proof.Machine.execHfenceVvma h rs1 rs2 s
  | .hfenceGvma h rs1 rs2 => Sys2Proof.Machine.execHfenceGvma h rs1 rs2 s
  | .sinvalVma h rs1 rs2 => Sys2Proof.Machine.execSinvalVma h rs1 rs2 s
  | .sfenceWInval h => Sys2Proof.Machine.execSfenceWInval h s
  | .sfenceInvalIr h => Sys2Proof.Machine.execSfenceInvalIr h s
  | .cboClean h rs1 => Sys2Proof.Machine.execCboClean h rs1 s
  | .cboFlush h rs1 => Sys2Proof.Machine.execCboFlush h rs1 s
  | .cboInval h rs1 => Sys2Proof.Machine.execCboInval h rs1 s
  | .cboZero h rs1 => Sys2Proof.Machine.execCboZero h rs1 s
  | .svreqWrite h insn value => Sys2Proof.Machine.execSvreqWrite h insn value s
  | .retentionIdle die => Sys2Proof.Machine.execRetentionIdle die s
  | .coreTest h spare evt => Sys2Proof.Machine.execCoreTest h spare evt s
  | .overspendStepDown h => Sys2Proof.Machine.execOverspendStepDown h s
  | .benchOverspend b => Sys2Proof.Machine.execBenchOverspend b s
  | .ledgerSumTick charges => Sys2Proof.Machine.execLedgerSumTick charges s
  | .hardLimitW sess tag v => Sys2Proof.Machine.execHardLimitW sess tag v s
  | .sensorFail a => Sys2Proof.Machine.execSensorFail a s
  | .thermalThrottle temp => Sys2Proof.Machine.execThermalThrottle temp s
  | .thermtrip die core => Sys2Proof.Machine.execThermtrip die core s
  | .messageFlit die up flit => Sys2Proof.Machine.execMessageFlit die up flit s
  | .controlFlit die up flit => Sys2Proof.Machine.execControlFlit die up flit s
  | .replayTimeout die up => Sys2Proof.Machine.execReplayTimeout die up s
  | .linkRecovery die up down => Sys2Proof.Machine.execLinkRecovery die up down s
  | .recoveryTimeout die supply => Sys2Proof.Machine.execRecoveryTimeout die supply s
  | .linkTraining die obs => Sys2Proof.Machine.execLinkTraining die obs s
  | .trainingFrame die upDigest downDigest crcOk => Sys2Proof.Machine.execTrainingFrame die upDigest downDigest crcOk s
  | .linkRetrain sess tag die v => Sys2Proof.Machine.execLinkRetrain sess tag die v s
  | .wakePattern die byHub => Sys2Proof.Machine.execWakePattern die byHub s
  | .foldWakeTimeout die => Sys2Proof.Machine.execFoldWakeTimeout die s
  | .dieTimeBaseUnlock die => Sys2Proof.Machine.execDieTimeBaseUnlock die s
  | .hubTimeBaseUnlock => Sys2Proof.Machine.execHubTimeBaseUnlock s
  | .hubTimeBaseRelock => Sys2Proof.Machine.execHubTimeBaseRelock s
  | .jigEnter die => Sys2Proof.Machine.execJigEnter die s
  | .jigLoop die dr errors => Sys2Proof.Machine.execJigLoop die dr errors s
  | .jigResult die => Sys2Proof.Machine.execJigResult die s
  | .jigSheet die => Sys2Proof.Machine.execJigSheet die s
  | .ucieRetrain sess tag site v u => Sys2Proof.Machine.execUcieRetrain sess tag site v u s
  | .rd64 site hdr => Sys2Proof.Machine.execRd64 site hdr s
  | .rdf64 site hdr => Sys2Proof.Machine.execRdf64 site hdr s
  | .wr64 site hdr data => Sys2Proof.Machine.execWr64 site hdr data s
  | .wrp64 site hdr data mask => Sys2Proof.Machine.execWrp64 site hdr data mask s
  | .inlayAmo site hdr a b => Sys2Proof.Machine.execInlayAmo site hdr a b s
  | .inlayMsi site hdr data => Sys2Proof.Machine.execInlayMsi site hdr data s
  | .inlayCplUp site hdr data => Sys2Proof.Machine.execInlayCplUp site hdr data s
  | .mmrd site m => Sys2Proof.Machine.execMmrd site m s
  | .mmwr site m => Sys2Proof.Machine.execMmwr site m s
  | .inlayCplDown site => Sys2Proof.Machine.execInlayCplDown site s
  | .crd site n => Sys2Proof.Machine.execCrd site n s
  | .inlayDownstreamTimeout site => Sys2Proof.Machine.execInlayDownstreamTimeout site s
  | .ucieLinkLost site => Sys2Proof.Machine.execUcieLinkLost site s
  | .ucieAdapterError site => Sys2Proof.Machine.execUcieAdapterError site s
  | .rds m => Sys2Proof.Machine.execRds m s
  | .rdc m => Sys2Proof.Machine.execRdc m s
  | .rdw m => Sys2Proof.Machine.execRdw m s
  | .rdx m => Sys2Proof.Machine.execRdx m s
  | .upg m => Sys2Proof.Machine.execUpg m s
  | .zro m => Sys2Proof.Machine.execZro m s
  | .cln m => Sys2Proof.Machine.execCln m s
  | .fls m => Sys2Proof.Machine.execFls m s
  | .inv m => Sys2Proof.Machine.execInv m s
  | .ncrd m => Sys2Proof.Machine.execNcrd m s
  | .ncwr m => Sys2Proof.Machine.execNcwr m s
  | .imsw m file => Sys2Proof.Machine.execImsw m file s
  | .fwdS m => Sys2Proof.Machine.execFwdS m s
  | .fwdX m => Sys2Proof.Machine.execFwdX m s
  | .snpInv m => Sys2Proof.Machine.execSnpInv m s
  | .snpPeek m => Sys2Proof.Machine.execSnpPeek m s
  | .snpClean m => Sys2Proof.Machine.execSnpClean m s
  | .snpFlush m => Sys2Proof.Machine.execSnpFlush m s
  | .binv m => Sys2Proof.Machine.execBinv m s
  | .snpAck m => Sys2Proof.Machine.execSnpAck m s
  | .fwdAck m => Sys2Proof.Machine.execFwdAck m s
  | .killDone m => Sys2Proof.Machine.execKillDone m s
  | .protEnd m => Sys2Proof.Machine.execProtEnd m s
  | .walkProtectTimeout line => Sys2Proof.Machine.execWalkProtectTimeout line s
  | .cmp m => Sys2Proof.Machine.execCmp m s
  | .wbAck m => Sys2Proof.Machine.execWbAck m s
  | .wbXack m => Sys2Proof.Machine.execWbXack m s
  | .kdone m => Sys2Proof.Machine.execKdone m s
  | .dataS m => Sys2Proof.Machine.execDataS m s
  | .dataE m => Sys2Proof.Machine.execDataE m s
  | .dataM m => Sys2Proof.Machine.execDataM m s
  | .dataNc m => Sys2Proof.Machine.execDataNc m s
  | .dataSnp m => Sys2Proof.Machine.execDataSnp m s
  | .wbM m => Sys2Proof.Machine.execWbM m s
  | .evn m => Sys2Proof.Machine.execEvn m s
  | .wbP m => Sys2Proof.Machine.execWbP m s
  | .agentRead who addr => Sys2Proof.Machine.execAgentRead who addr s
  | .agentWrite who addr data mask => Sys2Proof.Machine.execAgentWrite who addr data mask s
  | .agentAtomic who addr op a b => Sys2Proof.Machine.execAgentAtomic who addr op a b s
  | .hubAtomicRelease line => Sys2Proof.Machine.execHubAtomicRelease line s
  | .trackerEntryFree slice => Sys2Proof.Machine.execTrackerEntryFree slice s
  | .setRetryCredit slice set => Sys2Proof.Machine.execSetRetryCredit slice set s
  | .mirrorCleaner die => Sys2Proof.Machine.execMirrorCleaner die s
  | .withdrawDrainComplete die => Sys2Proof.Machine.execWithdrawDrainComplete die s
  | .withdrawTimeout die => Sys2Proof.Machine.execWithdrawTimeout die s
  | .fabricRespTimeout die => Sys2Proof.Machine.execFabricRespTimeout die s
  | .directorySweepComplete die => Sys2Proof.Machine.execDirectorySweepComplete die s
  | .dieReadmit sess tag die v => Sys2Proof.Machine.execDieReadmit sess tag die v s
  | .mscEnable sess tag slice => Sys2Proof.Machine.execMscEnable sess tag slice s
  | .mscDisable sess tag slice => Sys2Proof.Machine.execMscDisable sess tag slice s
  | .mscFlushThenDisable sess tag slice => Sys2Proof.Machine.execMscFlushThenDisable sess tag slice s
  | .mscFlushComplete slice => Sys2Proof.Machine.execMscFlushComplete slice s
  | .mscMaintClean sess tag scope slices => Sys2Proof.Machine.execMscMaintClean sess tag scope slices s
  | .mscMaintInvalidate sess tag scope slices => Sys2Proof.Machine.execMscMaintInvalidate sess tag scope slices s
  | .mscMaintCleanInvalidate sess tag scope slices => Sys2Proof.Machine.execMscMaintCleanInvalidate sess tag scope slices s
  | .mscMaintDone => Sys2Proof.Machine.execMscMaintDone s
  | .mscPatrolScrub slice index err => Sys2Proof.Machine.execMscPatrolScrub slice index err s
  | .evictionBufferDrain slice => Sys2Proof.Machine.execEvictionBufferDrain slice s
  | .dramReadIssue ch sub err => Sys2Proof.Machine.execDramReadIssue ch sub err s
  | .dramWriteIssue ch sub => Sys2Proof.Machine.execDramWriteIssue ch sub s
  | .rowPrechargeIdle ch sub rank bank => Sys2Proof.Machine.execRowPrechargeIdle ch sub rank bank s
  | .dramRefresh ch rank => Sys2Proof.Machine.execDramRefresh ch rank s
  | .powerDownEntry ch rank => Sys2Proof.Machine.execPowerDownEntry ch rank s
  | .selfRefreshEntry ch => Sys2Proof.Machine.execSelfRefreshEntry ch s
  | .selfRefreshExit ch => Sys2Proof.Machine.execSelfRefreshExit ch s
  | .dimmTempRead ch temp => Sys2Proof.Machine.execDimmTempRead ch temp s
  | .retrainPause ch sub => Sys2Proof.Machine.execRetrainPause ch sub s
  | .retrainForced ch => Sys2Proof.Machine.execRetrainForced ch s
  | .dramRetrainNow sess tag ch v => Sys2Proof.Machine.execDramRetrainNow sess tag ch v s
  | .granuleZero ch => Sys2Proof.Machine.execGranuleZero ch s
  | .dramPatrolScrub line err => Sys2Proof.Machine.execDramPatrolScrub line err s
  | .cxlTimeout win line => Sys2Proof.Machine.execCxlTimeout win line s
  | .sqTailWrite h b f r v => Sys2Proof.Machine.execSqTailWrite h b f r v s
  | .cqHeadWrite h b f r v => Sys2Proof.Machine.execCqHeadWrite h b f r v s
  | .ringEnable h b f r cfg => Sys2Proof.Machine.execRingEnable h b f r cfg s
  | .ringDisable h b f r cfg => Sys2Proof.Machine.execRingDisable h b f r cfg s
  | .descriptorFetch b => Sys2Proof.Machine.execDescriptorFetch b s
  | .descriptorComplete b id => Sys2Proof.Machine.execDescriptorComplete b id s
  | .ringIrqHoldoff b f r => Sys2Proof.Machine.execRingIrqHoldoff b f r s
  | .hash b id obs => Sys2Proof.Machine.execHash b id obs s
  | .hmacGen b id obs => Sys2Proof.Machine.execHmacGen b id obs s
  | .hmacVerify b id obs => Sys2Proof.Machine.execHmacVerify b id obs s
  | .cmacGen b id obs => Sys2Proof.Machine.execCmacGen b id obs s
  | .cmacVerify b id obs => Sys2Proof.Machine.execCmacVerify b id obs s
  | .mac3Gen b id obs => Sys2Proof.Machine.execMac3Gen b id obs s
  | .mac3Verify b id obs => Sys2Proof.Machine.execMac3Verify b id obs s
  | .aesEnc b id obs => Sys2Proof.Machine.execAesEnc b id obs s
  | .aesDec b id obs => Sys2Proof.Machine.execAesDec b id obs s
  | .gcmEnc b id obs => Sys2Proof.Machine.execGcmEnc b id obs s
  | .gcmDec b id obs => Sys2Proof.Machine.execGcmDec b id obs s
  | .tdesEnc b id obs => Sys2Proof.Machine.execTdesEnc b id obs s
  | .tdesDec b id obs => Sys2Proof.Machine.execTdesDec b id obs s
  | .kwWrap b id obs => Sys2Proof.Machine.execKwWrap b id obs s
  | .kwUnwrap b id obs => Sys2Proof.Machine.execKwUnwrap b id obs s
  | .edSign b id obs => Sys2Proof.Machine.execEdSign b id obs s
  | .edVerify b id obs => Sys2Proof.Machine.execEdVerify b id obs s
  | .ecdsaSign b id obs => Sys2Proof.Machine.execEcdsaSign b id obs s
  | .ecdsaVerify b id obs => Sys2Proof.Machine.execEcdsaVerify b id obs s
  | .rsaSign b id obs => Sys2Proof.Machine.execRsaSign b id obs s
  | .rsaVerify b id obs => Sys2Proof.Machine.execRsaVerify b id obs s
  | .x25519 b id obs => Sys2Proof.Machine.execX25519 b id obs s
  | .ecdh b id obs => Sys2Proof.Machine.execEcdh b id obs s
  | .pinTranslate b id obs => Sys2Proof.Machine.execPinTranslate b id obs s
  | .pinVerify b id obs => Sys2Proof.Machine.execPinVerify b id obs s
  | .keyGen b id obs => Sys2Proof.Machine.execKeyGen b id obs s
  | .keyDestroy b id obs => Sys2Proof.Machine.execKeyDestroy b id obs s
  | .keyImportKw b id obs => Sys2Proof.Machine.execKeyImportKw b id obs s
  | .keyImportPub b id obs => Sys2Proof.Machine.execKeyImportPub b id obs s
  | .keyExportPub b id obs => Sys2Proof.Machine.execKeyExportPub b id obs s
  | .keyImportBlock b id obs => Sys2Proof.Machine.execKeyImportBlock b id obs s
  | .keyExportBlock b id obs => Sys2Proof.Machine.execKeyExportBlock b id obs s
  | .keyDerive b id obs => Sys2Proof.Machine.execKeyDerive b id obs s
  | .fchStart h b f c ctl => Sys2Proof.Machine.execFchStart h b f c ctl s
  | .fchResume h b f c ctl => Sys2Proof.Machine.execFchResume h b f c ctl s
  | .fchAbort h b f c ctl => Sys2Proof.Machine.execFchAbort h b f c ctl s
  | .feedUnitTransfer b c err => Sys2Proof.Machine.execFeedUnitTransfer b c err s
  | .feedChannelDone b c => Sys2Proof.Machine.execFeedChannelDone b c s
  | .feedStop b line poison reading => Sys2Proof.Machine.execFeedStop b line poison reading s
  | .spadOwnerWrite h b g v => Sys2Proof.Machine.execSpadOwnerWrite h b g v s
  | .spadGranuleZeroed b g => Sys2Proof.Machine.execSpadGranuleZeroed b g s
  | .fchOwnerWrite h b c v => Sys2Proof.Machine.execFchOwnerWrite h b c v s
  | .spadBar2Access h b f write off size data err => Sys2Proof.Machine.execSpadBar2Access h b f write off size data err s
  | .spadBankRetention b bank => Sys2Proof.Machine.execSpadBankRetention b bank s
  | .benchZeroise sess tag b v => Sys2Proof.Machine.execBenchZeroise sess tag b v s
  | .benchSupplyCollapse b => Sys2Proof.Machine.execBenchSupplyCollapse b s
  | .quiesceDrain h b f ctl => Sys2Proof.Machine.execQuiesceDrain h b f ctl s
  | .quiesceAbandon h b f ctl => Sys2Proof.Machine.execQuiesceAbandon h b f ctl s
  | .quiesceRun h b f ctl => Sys2Proof.Machine.execQuiesceRun h b f ctl s
  | .quiesceComplete b f => Sys2Proof.Machine.execQuiesceComplete b f s
  | .d3hotEntry b f => Sys2Proof.Machine.execD3hotEntry b f s
  | .functionBind h b f ctl => Sys2Proof.Machine.execFunctionBind h b f ctl s
  | .fnClaim h b f v => Sys2Proof.Machine.execFnClaim h b f v s
  | .dirtyLogEnable h b f ctl => Sys2Proof.Machine.execDirtyLogEnable h b f ctl s
  | .functionLevelReset b f => Sys2Proof.Machine.execFunctionLevelReset b f s
  | .flrRevoke b f => Sys2Proof.Machine.execFlrRevoke b f s
  | .pfFlr b => Sys2Proof.Machine.execPfFlr b s
  | .vfEnableClear b => Sys2Proof.Machine.execVfEnableClear b s
  | .btuInvalAll h b => Sys2Proof.Machine.execBtuInvalAll h b s
  | .btuInvalFunction h b f => Sys2Proof.Machine.execBtuInvalFunction h b f s
  | .btuInvalPage h b f => Sys2Proof.Machine.execBtuInvalPage h b f s
  | .btuInvalDone b => Sys2Proof.Machine.execBtuInvalDone b s
  | .microcodeLoad b ok => Sys2Proof.Machine.execMicrocodeLoad b ok s
  | .setOwner h => Sys2Proof.Machine.execSetOwner h s
  | .ecreate h => Sys2Proof.Machine.execEcreate h s
  | .eadd h => Sys2Proof.Machine.execEadd h s
  | .einit h => Sys2Proof.Machine.execEinit h s
  | .estop h => Sys2Proof.Machine.execEstop h s
  | .eremove h => Sys2Proof.Machine.execEremove h s
  | .equery h => Sys2Proof.Machine.execEquery h s
  | .holdRegisterWrite h r v => Sys2Proof.Machine.execHoldRegisterWrite h r v s
  | .enclaveReportReq sess tag eid nonce => Sys2Proof.Machine.execEnclaveReportReq sess tag eid nonce s
  | .enclaveReport sess tag => Sys2Proof.Machine.execEnclaveReport sess tag s
  | .roleKey sess tag k key => Sys2Proof.Machine.execRoleKey sess tag k key s
  | .fuseOwnerSlot sess tag slot hash => Sys2Proof.Machine.execFuseOwnerSlot sess tag slot hash s
  | .revokeOwnerSlot sess tag slot => Sys2Proof.Machine.execRevokeOwnerSlot sess tag slot s
  | .revokeVendorSlot sess tag slot => Sys2Proof.Machine.execRevokeVendorSlot sess tag slot s
  | .forbidDebugEnable sess tag bit => Sys2Proof.Machine.execForbidDebugEnable sess tag bit s
  | .debugHaltRequest h => Sys2Proof.Machine.execDebugHaltRequest h s
  | .abstractAccessRegister h regno write v => Sys2Proof.Machine.execAbstractAccessRegister h regno write v s
  | .programBuffer h ops => Sys2Proof.Machine.execProgramBuffer h ops s
  | .systemBusAccess addr size write v => Sys2Proof.Machine.execSystemBusAccess addr size write v s
  | .iotinvalVma gv gscid av addr pscv pscid => Sys2Proof.Machine.execIotinvalVma gv gscid av addr pscv pscid s
  | .iotinvalGvma gv gscid av addr => Sys2Proof.Machine.execIotinvalGvma gv gscid av addr s
  | .iofenceC av addr data => Sys2Proof.Machine.execIofenceC av addr data s
  | .lineRec epoch line poison data => Sys2Proof.Machine.execLineRec epoch line poison data s
  | .outputRec rp kind oseq addr data => Sys2Proof.Machine.execOutputRec rp kind oseq addr data s
  | .sealRec kerf counts outs digest offline => Sys2Proof.Machine.execSealRec kerf counts outs digest offline s
  | .sealAckRec kerf => Sys2Proof.Machine.execSealAckRec kerf s
  | .sealNakRec kerf => Sys2Proof.Machine.execSealNakRec kerf s
  | .heartbeatRec role phase kerf lastAck released time => Sys2Proof.Machine.execHeartbeatRec role phase kerf lastAck released time s
  | .heartbeatSend => Sys2Proof.Machine.execHeartbeatSend s
  | .partnerSuspect => Sys2Proof.Machine.execPartnerSuspect s
  | .lossRec cause kerf => Sys2Proof.Machine.execLossRec cause kerf s
  | .entryRec idx sub total off v => Sys2Proof.Machine.execEntryRec idx sub total off v s
  | .kerfRec kerf time => Sys2Proof.Machine.execKerfRec kerf time s
  | .copyRec epoch line poison data => Sys2Proof.Machine.execCopyRec epoch line poison data s
  | .keysRec b gen key => Sys2Proof.Machine.execKeysRec b gen key s
  | .repairReqRec line => Sys2Proof.Machine.execRepairReqRec line s
  | .dowelSublinkDown sub => Sys2Proof.Machine.execDowelSublinkDown sub s
  | .takeoverReq hdr q => Sys2Proof.Machine.execTakeoverReq hdr q s
  | .takeoverAns hdr master a => Sys2Proof.Machine.execTakeoverAns hdr master a s
  | .takeoverRetry => Sys2Proof.Machine.execTakeoverRetry s
  | .takeoverStandbyGrant pair => Sys2Proof.Machine.execTakeoverStandbyGrant pair s
  | .confirmTimeout => Sys2Proof.Machine.execConfirmTimeout s
  | .forcePromote sess tag v => Sys2Proof.Machine.execForcePromote sess tag v s
  | .takeoverOpen sess tag pair v => Sys2Proof.Machine.execTakeoverOpen sess tag pair v s
  | .gaugeRunStart => Sys2Proof.Machine.execGaugeRunStart s
  | .gaugeRunEnd => Sys2Proof.Machine.execGaugeRunEnd s
  | .gaugeReset low => Sys2Proof.Machine.execGaugeReset low s
  | .gaugeSlot charges ref => Sys2Proof.Machine.execGaugeSlot charges ref s
  | .gaugeTagSample => Sys2Proof.Machine.execGaugeTagSample s
  | .gaugeRecordsSigned => Sys2Proof.Machine.execGaugeRecordsSigned s
  | .gaugeCal verify pkg calib rom => Sys2Proof.Machine.execGaugeCal verify pkg calib rom s
  | .gaugeWindowWrite addr v => Sys2Proof.Machine.execGaugeWindowWrite addr v s
  | .mctp b src dst typ body sess p u => Sys2Proof.Machine.execMctp b src dst typ body sess p u s
  | .announce hdr a chain => Sys2Proof.Machine.execAnnounce hdr a chain s
  | .announceSend => Sys2Proof.Machine.execAnnounceSend s
  | .masterListenExpiry => Sys2Proof.Machine.execMasterListenExpiry s
  | .backupTakeover => Sys2Proof.Machine.execBackupTakeover s
  | .kerfSyncEdge t sinceRelease cut => Sys2Proof.Machine.execKerfSyncEdge t sinceRelease cut s
  | .kerfSyncMiss t => Sys2Proof.Machine.execKerfSyncMiss t s
  | .setEndpointId eid => Sys2Proof.Machine.execSetEndpointId eid s
  | .getEndpointId => Sys2Proof.Machine.execGetEndpointId s
  | .entdaa addr => Sys2Proof.Machine.execEntdaa addr s
  | .getstatus => Sys2Proof.Machine.execGetstatus s
  | .hsmpctlWrite h insn value => Sys2Proof.Machine.execHsmpctlWrite h insn value s
  | .sampleCountdown h => Sys2Proof.Machine.execSampleCountdown h s
  | .sampleRecord h o => Sys2Proof.Machine.execSampleRecord h o s
  | .ceWindowRoll => Sys2Proof.Machine.execCeWindowRoll s
  | .ovfClear sess tag v => Sys2Proof.Machine.execOvfClear sess tag v s
  | .registerWrite t v => Sys2Proof.Machine.execRegisterWrite t v s
  | .frequencySwitchComplete ch => Sys2Proof.Machine.execFrequencySwitchComplete ch s
  | .spareMoveComplete h => Sys2Proof.Machine.execSpareMoveComplete h s
  | .offlinePowerOff h => Sys2Proof.Machine.execOfflinePowerOff h s
  | .readmitTrainingTimeout die => Sys2Proof.Machine.execReadmitTrainingTimeout die s
  | .thermalThrottleRelease temp => Sys2Proof.Machine.execThermalThrottleRelease temp s
  | .dowelSublinkUp sub width => Sys2Proof.Machine.execDowelSublinkUp sub width s
  | .pcieWake port target => Sys2Proof.Machine.execPcieWake port target s
  | .plcaBeacon => Sys2Proof.Machine.execPlcaBeacon s
  | .benchPowerUp b => Sys2Proof.Machine.execBenchPowerUp b s
  | .spdmChallenge slot nonce => Sys2Proof.Machine.execSpdmChallenge slot nonce s
  | .spdmKeyUpdate sess => Sys2Proof.Machine.execSpdmKeyUpdate sess s

end Sys2Proof.Machine
end

