-- ==== Sys2Proof/Machine/Operands.lean ====
section
/-!
DEFINITION. The hart a command is executed by or acts on, and the operands of commands that name a register of it. The forms themselves stand with
the operations that use them: `effAddr`, `pairReg` and `fenceReg` (Cores), `ncAccess` (HartMem), `csrHome` and `trigKey` (Cores, HubAccess).
-/
set_option linter.unusedVariables false

namespace Sys2Proof.Machine

/-- The virtual address of a load or store, as HART_LOAD and HART_STORE use it. -/
def loadAddr (d : Dev) (h : HartN) (rs1 : RegN) (imm : BitVec 12) : Nat := effAddr (hartOf d h) rs1 imm

/-- The hart a fabric message names: CORE of its die (R178). -/
def msgHart (m : FMsg) : Nat := 18 * m.die + m.core % 18

end Sys2Proof.Machine
end

