-- ==== Sys2Proof/Machine/Flags.lean ====
section
/-!
DEFINITION. Status words as they read: the block has no arithmetic flags. STATUS of a command slot, RING_STATUS, FT_STATUS and BENCH_STATE
(`slotStatus`, `ringStatus`, `ftStatus`, `benchState`) stand with their units; here are FCH_STATUS, FEED_FN_STATE and BTU_INVAL_STATUS.
-/
set_option linter.unusedVariables false

namespace Sys2Proof.Machine

/-- FCH_STATUS (R308). -/
def fchStatus (x : FeedChan) : Nat := packFields [(x.cause, 32, 8), (b2n x.prefetching, 7, 1), (x.state, 0, 3)]
/-- FCH_CTL as it reads: the write-only bits read 0 (R307). -/
def fchCtlRead (x : FeedChan) : Nat := packFields [(x.wrap, 12, 4), (x.dir, 8, 2)]
/-- FEED_FN_STATE (R313). -/
def feedFnState (d : Dev) (b f : Nat) : Nat :=
  packFields [((granulesOf d b f).length, 40, 8), ((fnChans d b f).foldl (fun n c => n + 2 ^ c) 0, 0, 16)]
/-- BTU_INVAL_STATUS (R321). -/
def invalStatus (d : Dev) (b : Nat) : Nat := packFields [(b2n (benchOf d b).invalDone, 1, 1), (b2n (benchOf d b).invalBusy, 0, 1)]
/-- PF_FLR_HELD (R321). -/
def flrHeldWord (d : Dev) (b i : Nat) : Nat := ((List.range 64).filter (fun k => (fnOf d b (64 * i + k)).flrHeld)).foldl (fun n k => n + 2 ^ k) 0

end Sys2Proof.Machine
end

