-- ==== Sys2Proof/Machine/Idle.lean ====
section
/-!
DEFINITION. What the block does with no command waiting (log entry 2): a tick of 10 ns. The time counter advances and harts that run count steps
(R79), temperatures are measured (R98), CXL devices answer the reads they owe (R263), a forming PRIMARY sends one COPY record (R406), commands and a
kerf sequence that waited go on (R34, R372), and the segment's transmit opportunities fall (R458).
-/
set_option linter.unusedVariables false

namespace Sys2Proof.Machine

/-- The CXL reads under way end with their data. -/
def cxlAnswers (d : Dev) : Dev := d.cxlWait.foldl (fun d e => cxlAnswer e.1 e.2 false d) d

/-- The core of a hart makes steps: the hart is released, not offline and not resting, on a die that runs (R79). -/
def stepsNow (d : Dev) (h : Nat) : Bool :=
  let x := hartOf d h
  x.released && x.powered && !x.offline && x.rest == .running && dieRuns d (dieOfHart h) && !packageStopped d
/-- A tick of a running core: tpace shows its pace in Mstep/s (R81), and mcycle counts the steps of 10 ns, whole ones only (log entry 63), unless
mcountinhibit holds it. -/
def tickHart (d : Dev) (h : Nat) (x : Hart) : Hart :=
  let p := ringPace h d.now x
  let x := { x with tpace := p }
  if getBit (csr x 0x320) 0 then x else setCsr 0xB00 (csr x 0xB00 + p / 100) x
/-- The steps of a tick count as STEPS, and while the hart waits in TSYNC as TSYNC_WAIT_STEPS (R470). -/
def tickCounts (d0 : Dev) (h : Nat) (d : Dev) : Dev :=
  let n := ringPace h d0.now (hartOf d0 h) / 100
  let d := countHartN h 0x01 n d
  match (hartOf d h).waiting with
  | some w => if w.op = .tsync then countHartN h 0x15 n d else d
  | none => d
def tickHarts (d : Dev) : Dev :=
  ((List.range 216).filter (stepsNow d)).foldl (fun e h => tickCounts d h (updHart e h (tickHart d h))) d

/-- Every 100 µs each powered core's junction temperature is read (R98). -/
def tickJunctions (d : Dev) : Dev :=
  if d.now % 10000 = 0 then
    ((List.range 216).filter (fun h => (hartOf d h).released && (hartOf d h).powered)).foldl
      (fun d h => updHart d h (fun x => { x with tj := Config.junction h d.now % 256 })) d
  else d

/-- A transmit opportunity of the segment may fall at any tick (R458, log entry 64). -/
def tickSegment (d : Dev) : Dev := if Config.txTurn d.now then transmit d else d

/-- A kerf sequence that waited in step 1 goes on, and a warm reset that waited for its step 7 begins (R34, R74). -/
def tickKerf (d : Dev) : Dev :=
  let due := d.kerf.warmDue
  let d := resumeCut d
  if due && d.kerf.step1.isNone then warmReset d else d

/-- One tick, while REFCLK and PWR_GOOD hold the package up. -/
def idle (d : Dev) : Dev :=
  if d.boot.phase = .off then d
  else tickKerf (tickSegment (tickJunctions (tickHarts (finishCmds (copyStep (cxlAnswers { d with now := d.now + 1 }))))))

end Sys2Proof.Machine
end

