-- ==== Sys2Proof/Safety.lean ====
section
/-!
DEFINITION. The terms claims use: what counts as a safe run, when a hart is free to execute, and "only this unit differs".
-/
set_option linter.unusedVariables false

namespace Sys2Proof

open Sys2Proof.Machine

/-- The machine goes on from a state. -/
def Runs (s : State) : Prop := ∃ t, step s = .next t

/-- `n` steps that all go on. -/
def RunsFor : Nat → State → Prop
  | 0, _ => True
  | n + 1, s => ∃ t, step s = .next t ∧ RunsFor n t

/-- The hart can execute an instruction and no halt request waits for its next instruction boundary (R388). -/
abbrev HartReady (d : Dev) (h : Nat) : Prop := hartRuns d h = true ∧ (hartOf d h).haltReq = false

/-- From `d` to `d'` only hart `h` differs, and it is `x` now. -/
def HartOnly (d d' : Dev) (h : Nat) (x : Hart) : Prop :=
  hartOf d' h = x ∧ (∀ k, k ≠ h → hartOf d' k = hartOf d k) ∧ { d' with harts := d.harts } = d

/-- The CSRs that counting moves by itself: minstret, the mhpmcounters and the overflow bits of the mhpmevents (R79, R471). -/
def countedCsr (n : Nat) : Bool := (decide (0xB02 ≤ n) && decide (n ≤ 0xB1F)) || (decide (0x323 ≤ n) && decide (n ≤ 0x33F))

/-- Hart `y` is hart `x` but for what counting moves by itself: those CSRs, and the pending bit of local interrupt 13. -/
def Counted (x y : Hart) : Prop :=
  { y with csr := x.csr, irqPending := x.irqPending } = x ∧ (∀ n, countedCsr n = false → tabGet 0 y.csr n = tabGet 0 x.csr n) ∧
    (∀ i, i ≠ 13 → (i ∈ y.irqPending ↔ i ∈ x.irqPending))

/-- minstret of `y` is that of `x` one instruction later, unless mcountinhibit holds it (R79). -/
abbrev Retired (x y : Hart) : Prop := csr y 0xB02 = (if getBit (csr x 0x320) 2 then csr x 0xB02 else (csr x 0xB02 + 1) % 2 ^ 64)

/-- From `d` to `d'` hart `h` has become `x`, and nothing differs beside it but event counters (R468–R471). -/
def HartMoves (d d' : Dev) (h : Nat) (x : Hart) : Prop :=
  Counted x (hartOf d' h) ∧ (∀ k, k ≠ h → hartOf d' k = hartOf d k) ∧ { d' with harts := d.harts, obs := { d'.obs with ctr := d.obs.ctr } } = d

/-- From `d` to `d'` hart `h` has retired one instruction, which minstret counts, and is `x` now, and nothing differs beside it but event counters. -/
def HartSteps (d d' : Dev) (h : Nat) (x : Hart) : Prop := HartMoves d d' h x ∧ Retired x (hartOf d' h)

/-- Hart `y` is hart `x` but for what its die's copies of lines carry: translations, the tag of a walk in flight, a reservation, kills owed; and for what
counting moves by itself. -/
def CacheKept (x y : Hart) : Prop :=
  Counted { x with
    itlb := y.itlb, dtlb := y.dtlb, tlb := y.tlb, wcache := y.wcache, gcache := y.gcache, resv := y.resv, debts := y.debts, waiting := y.waiting } y

/-- From `d` to `d'` only where lines are cached differs, and what hangs on it: no register, no byte of memory, no other unit. Lines that leave a die go out
as messages, and which ones leave is drawn (R21, log entry 60). -/
def CacheOnly (d d' : Dev) : Prop :=
  (∀ k, CacheKept (hartOf d k) (hartOf d' k)) ∧
  { d' with harts := d.harts, dies := d.dies, links := d.links, flight := d.flight, out := d.out, freeCtr := d.freeCtr,
            obs := { d'.obs with ctr := d.obs.ctr } } = d

/-- What translating the parts of an access leaves: their entries in the TLBs and walk caches, and the marks of their walks (R114, R117). -/
def trLeft (h : Nat) (md : Mode) (acc : Nat) (fs : List PartTr) (d : Dev) : Dev :=
  fs.foldl (fun d t => fillTlb h md acc t.va t.ent t.fill d) d

/-- A die owns a line: it holds it in M or E, with no fill of it open. -/
abbrev OwnsLine (d : Dev) (n line : Nat) : Prop := missOf d n line = none ∧ ∃ l, dieLine d n line = some l ∧ (l.st = .mm ∨ l.st = .ee)

/-- A line after a store by core `k`: it is M, in that core alone, and no translation hangs on it (R117, R185). Its poison mark stays. -/
def storedLine (l : DLine) (k off : Nat) (bs : List Byte) : DLine :=
  { st := .mm, data := lineSplice l.data off bs, poison := l.poison, cores := 2 ^ k, owner := k, walked := 0, l3 := false, l1i := 0, l1d := 2 ^ k }

/-- A message is on its way: it has left on its link, or is queued there for a credit (R143). -/
abbrev Sent (d : Dev) (up : Bool) (m : FMsg) : Prop := m ∈ d.flight ∨ m ∈ (bundleOf (linkOf d m.die) up).queue

/-- Messages of die `n` pass on its link: it neither trains nor recovers (R145, R151). -/
abbrev Passes (d : Dev) (n : Nat) : Prop := linkStalls (linkOf d n) = false

/-- A message to the hub is of its die's incarnation in service (R209). -/
abbrev InService (d : Dev) (m : FMsg) : Prop := m.inc = (dieOf d m.die).inc ∧ (dieOf d m.die).retired = false

/-- No hart of a die waits for the fabric, and nothing is deferred or owed there. -/
abbrev DieQuiet (d : Dev) (n : Nat) : Prop :=
  (∀ h ∈ hartsOfDie n, (hartOf d h).waiting = none ∧ ∀ e ∈ (hartOf d h).debts, e.rtag ≠ none) ∧ (dieOf d n).deferred = [] ∧ (dieOf d n).owed = []

/-- The home slice of a line holds no request, protects no line and holds no line in H; no inlay write waits; no die's entries are being swept; and the line's entry, if it has
one, is consistent. -/
def SliceIdle (d : Dev) (line : Nat) : Prop :=
  let s := sliceOf_ d (homeSlice d (line * 64))
  s.trk = [] ∧ s.ingress = [] ∧ s.setWait = [] ∧ s.protect = [] ∧ s.hLine = [] ∧ siteLines d = [] ∧ (∀ n, n < 12 → (dieOf d n).phase ≠ .sweeping) ∧
    (∀ e, dirOf d line = some e → entryOk e = true)

/-- The forward or snoop a slice sends die `n` under tracker entry `txid` (R184, R186). -/
def snoopMsg (d : Dev) (op : Op) (txid line reqDie n : Nat) : FMsg := { msgOf d op n with txid := txid, addr := line * 64, reqDie := reqDie }

/-- From `d` to `d'` only the fabric differs: slices, caches, messages, the MSC, DRAM queues and memory are left open; no register of a hart and no other unit changes. -/
def FabricOnly (d d' : Dev) : Prop :=
  (∀ k, CacheKept (hartOf d k) (hartOf d' k)) ∧
  { d' with harts := d.harts, dies := d.dies, links := d.links, flight := d.flight, out := d.out, freeCtr := d.freeCtr, slices := d.slices,
            obs := { d'.obs with ctr := d.obs.ctr } } = d

/-- From `d` to `d'` only bench `b` differs, and it is `x` now. -/
def BenchOnly (d d' : Dev) (b : Nat) (x : BenchSt) : Prop :=
  benchOf d' b = x ∧ (∀ k, k ≠ b → benchOf d' k = benchOf d k) ∧ { d' with benches := d.benches } = d

/-- From `d` to `d'` only ring `r` of function `f` of bench `b` differs, and it is `x` now. -/
def RingOnly (d d' : Dev) (b f r : Nat) (x : Ring) : Prop :=
  ringOf d' b f r = x ∧ (∀ g t, ringKey g t ≠ ringKey f r → ringOf d' b g t = ringOf d b g t) ∧
    BenchOnly d d' b { benchOf d b with rings := (benchOf d' b).rings }

/-- From `d` to `d'` only function `f` of bench `b` differs, and it is `x` now. -/
def FnOnly (d d' : Dev) (b f : Nat) (x : Fn) : Prop :=
  fnOf d' b f = x ∧ (∀ g, g ≠ f → fnOf d' b g = fnOf d b g) ∧ BenchOnly d d' b { benchOf d b with fns := (benchOf d' b).fns }

/-- From `d` to `d'` only Feed channel `c` of bench `b` differs, and it is `x` now. -/
def FeedOnly (d d' : Dev) (b c : Nat) (x : FeedChan) : Prop :=
  feedOf d' b c = x ∧ (∀ k, k ≠ c → feedOf d' b k = feedOf d b k) ∧ BenchOnly d d' b { benchOf d b with chans := (benchOf d' b).chans }

/-- Every bench but `b` is as it was, but for lines its descriptor cache may have lost. -/
abbrev OtherBenches (d d' : Dev) (b : Nat) : Prop := ∀ k, k ≠ b → { benchOf d' k with desc := (benchOf d k).desc } = benchOf d k

/-- Hart `h` is served at the registers of function `f` of bench `b`: the function exists, and the hart is in the world or enclave it is bound to (R325). -/
abbrev BarServed (d : Dev) (b f h : Nat) : Prop := fnExists d b f = true ∧ hartServed d b f h = true

/-- From `d` to `d'` only link `n` differs, and it is `x` now. -/
def LinkOnly (d d' : Dev) (n : Nat) (x : Link) : Prop :=
  linkOf d' n = x ∧ (∀ k, k ≠ n → linkOf d' k = linkOf d k) ∧ { d' with links := d.links } = d

/-- The fields of a message that a flit carries fit their bits (R178), and the others are 0. -/
def flitFits (m : FMsg) : Prop :=
  m.inc < 2 ^ 6 ∧
  (if vcOf m.op = 4 then
    m.txid = 0 ∧ m.rtag = 0 ∧ m.core = 0 ∧ m.poison = false ∧ m.dirty = false ∧ m.kp = false ∧ m.prot = false ∧ m.held = false ∧ m.size = 0 ∧ m.reqDie = 0 ∧
    m.addr % 64 = 0 ∧ m.addr < 2 ^ 56 ∧ (m.op = .evn → m.data = 0)
  else
    m.txid < 2 ^ 14 ∧ m.rtag < 2 ^ 12 ∧ m.core < 2 ^ 5 ∧
    (if vcOf m.op = 3 then m.addr = 0 ∧ m.size = 0 ∧ m.reqDie = 0
     else
      m.addr < 2 ^ 64 ∧ (byteAddress m.op = false → m.addr % 64 = 0) ∧ (if m.op = .ncrd ∨ m.op = .ncwr then m.size < 2 ^ 8 else m.size = 0) ∧
      (if vcOf m.op = 1 then m.reqDie < 2 ^ 8 else m.reqDie = 0) ∧ (if m.op = .ncwr ∨ m.op = .imsw then m.data.toNat < 2 ^ 64 else m.data = 0)))

/-- From `d` to `d'` only die `n` differs, and it is `x` now. -/
def DieOnly (d d' : Dev) (n : Nat) (x : Die) : Prop :=
  dieOf d' n = x ∧ (∀ k, k ≠ n → dieOf d' k = dieOf d k) ∧ { d' with dies := d.dies } = d

/-- From `d` to `d'` only DDR5 channel `n` differs, and it is `x` now. -/
def ChanOnly (d d' : Dev) (n : Nat) (x : ChanSt) : Prop :=
  chanOf d' n = x ∧ (∀ k, k ≠ n → chanOf d' k = chanOf d k) ∧ { d' with chans := d.chans } = d

/-- From `d` to `d'` only home slice `n` differs, and it is `x` now. -/
def SliceOnly (d d' : Dev) (n : Nat) (x : SliceSt) : Prop :=
  sliceOf_ d' n = x ∧ (∀ k, k ≠ n → sliceOf_ d' k = sliceOf_ d k) ∧ { d' with slices := d.slices } = d

/-- From `d` to `d'` only inlay site `n` differs, and it is `x` now. -/
def SiteOnly (d d' : Dev) (n : Nat) (x : SiteSt) : Prop :=
  siteOf d' n = x ∧ (∀ k, k ≠ n → siteOf d' k = siteOf d k) ∧ { d' with sites := d.sites } = d

/-- Session `n`, whose state is `x`, is served: the list protocol is up, the handshake is finished, and no kerf sequence waits in step 1 (R36, R45). -/
abbrev SessionServed (d : Dev) (n : SessN) (x : Session) : Prop :=
  spdmUp d = true ∧ sessOf d n = some x ∧ x.finished = true ∧ d.kerf.step1 = none

/-- A list message of this protocol, in session `n`. -/
abbrev ListMsgIn (d : Dev) (m : ListMsg) (n : SessN) (x : Session) : Prop :=
  SessionServed d n x ∧ m.sess = some n ∧ m.version = 1 ∧ m.vendor = d.fuses.vendorId

/-- The answer to a list message: its opcode with bit 7 set, its TAG, an ABORT code and a body (R46). -/
def listAnswer (d : Dev) (m : ListMsg) (op code : Nat) (body : List Byte) : Out :=
  .listResp d.fuses.vendorId (m.sess.map (fun n => n.val)) op m.tag code body

/-- Session `n` may write the value `v` to an entry that is no DOMAIN: it is served, and rows 7 to 14 of R503 pass. -/
abbrev MayWrite (d : Dev) (n : SessN) (x : Session) (idx sub : Nat) (v : List Byte) : Prop :=
  SessionServed d n x ∧ targetCode d x.role true false idx sub v = abOk ∧
    (entryRow idx sub).all (fun r => valueCode d r idx sub v == abOk) = true

/-- Session `n` may write the whole value `v`, of at most 1,024 bytes, to a DOMAIN entry: it has no transfer open, no other session writes the entry, and the checks of
DOMAIN_WRITE_BEGIN and DOMAIN_WRITE_END pass. -/
abbrev MayWriteDomain (d : Dev) (n : SessN) (x : Session) (idx sub : Nat) (v : List Byte) : Prop :=
  SessionServed d n x ∧ x.transfer = none ∧ v.length ≤ 1024 ∧
    targetCode d x.role true true idx sub [] = abOk ∧ narrowOk d x.role idx sub v = true ∧ entryBusy d n idx sub = false ∧
    (entryRow idx sub).all (fun r => totalCode r idx v.length == abOk && octetsCode d r idx v == abOk) = true

/-- The answer to an accepted WRITE: EFFECTIVE_KERF. -/
def writeAnswer (d : Dev) (n : SessN) (tag kerf : Nat) : Out := .listResp d.fuses.vendorId (some n.val) 0x82 tag abOk (leBytes 8 kerf)

/-- From `d` to `d'` only session `n` differs among the list's state, and it is `y` now; what went out is left open. -/
def SessOnly (d d' : Dev) (n : Nat) (y : Session) : Prop :=
  sessOf d' n = some y ∧ (∀ k, k ≠ n → sessOf d' k = sessOf d k) ∧
    { d' with list := { d'.list with sessions := d.list.sessions }, out := d.out } = d

/-- The memory of a state is in its canonical form: addresses strictly rise and no byte listed reads as an unlisted one. -/
abbrev MemCanonical (d : Dev) : Prop := tabWf 0 d.mem = true

end Sys2Proof
end

