-- ==== Sys2Proof/Certificates/Slice0/Obligations.lean ====
section
/-!
DEFINITION. The statements about the block, in the order of the specification's parts. Each docstring names the rules a statement rests on; where it
rests on a choice of the model, it names the log entry.
-/
set_option linter.unusedVariables false

open Sys2Proof Sys2Proof.Machine

/-! ### The block as a machine -/

/-- The queue is first in, first out: a step runs the command at its front on the state that holds the rest of the queue. -/
def Obligations.StepRunsFrontCommand : Prop :=
  ∀ (s : State) (c : Instr) (r : List Instr), s.pending = c :: r → step s = exec c { s with pending := r }

/-- No command of the table stops the block, and none touches the queue.

Every run from every state goes on for any number of steps, and each step takes the command that has waited longest.

Nothing waits: a package without power does nothing; another idles for one tick of 10 ns (R79; the tick is the model's choice, log entry 2). With no
CXL read, formation, busy hub command or kerf sequence under way, the time counter advances by one, counters of steps, pace and temperature move, at most
one queued frame leaves on the segment (R458), and nothing else changes. -/
def Obligations.RunsGoOn : Prop :=
  (∀ (c : Instr) (s : State), ∃ d, exec c s = .next { s with dev := d }) ∧
  (∀ (n : Nat) (s : State), RunsFor n s ∧ (∀ t, Host.Core.run Sys2Proof.core n s = .next t → t.pending = s.pending.drop n)) ∧
  (∀ s : State, s.pending = [] →
     (s.dev.boot.phase = .off → step s = .next s) ∧
     (s.dev.boot.phase ≠ .off → s.dev.cxlWait = [] → s.dev.mirror.phase ≠ 1 → (∀ e ∈ s.dev.cmds, e.2.busy = false) → s.dev.kerf.step1 = none →
       s.dev.kerf.warmDue = false →
       ∃ d, step s = .next { s with dev := d } ∧ d.now = s.dev.now + 1 ∧
         (∀ h, Counted (hartOf s.dev h) { hartOf d h with
           csr := tabSet 0 (hartOf d h).csr 0xB00 (tabGet 0 (hartOf s.dev h).csr 0xB00), tpace := (hartOf s.dev h).tpace, tj := (hartOf s.dev h).tj }) ∧
         ((d.seg = s.dev.seg ∧ d.out = s.dev.out) ∨ (∃ f, nextFrame s.dev.seg.queue = some f ∧ segSends s.dev = true ∧
           d.seg = { s.dev.seg with queue := s.dev.seg.queue.erase f } ∧ d.out = s.dev.out ++ [.seg f.1 f.2.1 f.2.2])) ∧
         { d with now := s.dev.now, harts := s.dev.harts, obs := { d.obs with ctr := s.dev.obs.ctr }, seg := s.dev.seg, out := s.dev.out } = s.dev))

/-- Reset: no command waits, power is off, no stage has begun, memory lists nothing and reads 0, no link is trained, no hart is released and each has the
values of R94, R97 and R99, and the kerf counter and every event counter read 0.

The memory of the reset state is in its canonical form. -/
def Obligations.ResetState : Prop :=
  (State.reset.pending = [] ∧ State.reset.dev.boot.phase = .off ∧ State.reset.dev.boot.running = [] ∧ State.reset.dev.pins.pwrGood = false ∧ State.reset.dev.mem = [] ∧
   (∀ h, (hartOf State.reset.dev h).released = false ∧ (hartOf State.reset.dev h).mode = .m ∧ (hartOf State.reset.dev h).vceil = 950 ∧
     (hartOf State.reset.dev h).spw = true ∧ (hartOf State.reset.dev h).wpf = true ∧ (hartOf State.reset.dev h).restMax = 2) ∧
   (∀ a, memByte State.reset.dev a = 0) ∧ State.reset.dev.kerf.counter = 0 ∧ State.reset.dev.obs.ctr = [] ∧
   (∀ n, (linkOf State.reset.dev n).state = .untrained) ∧ (∀ b f, (tabGet fnInit (benchOf State.reset.dev b).fns f).weight = 16)) ∧
  (MemCanonical State.reset.dev)

/-- Memory keeps its canonical form through every step, whatever the command: addresses strictly rise and no byte is listed that reads as an unlisted one. -/
def Obligations.EveryStepKeepsMemoryCanonical : Prop :=
  ∀ s t : State, MemCanonical s.dev → step s = .next t → MemCanonical t.dev

/-- A run of bytes written to memory reads back, every other byte of memory reads as before, nothing else of the package changes, and a canonical memory
stays canonical. -/
def Obligations.MemoryReadsLastWrite : Prop :=
  ∀ (d : Dev) (a : Nat) (bs : List Byte), memBytes (setMem a bs d) a bs.length = bs ∧
    (∀ k, (k < a ∨ a + bs.length ≤ k) → memByte (setMem a bs d) k = memByte d k) ∧
    { setMem a bs d with mem := d.mem } = d ∧ (MemCanonical d → MemCanonical (setMem a bs d))

/-- No row of the table gives a command any bits: no word spells one, and placing a word changes nothing. -/
def Obligations.NoWordSpellsACommand : Prop :=
  ∀ (s : State) (nbits w : Nat), decodeTableWord nbits w = none ∧ s.withFetchWord nbits w = s

/-! ### Bring-up and resets -/

/-- T0 (R53, R55, R146, R155): out of reset and jig mode the straps are sampled and every die loads its fuses. Where all load and the CHECK of every fused lane
sheet is right, stage 0x01 is done, stage 0x02 begins, and every hart learns whether its die has a usable spare; else stage 0x01 fails with 0x0106 and the dies that failed are noted.

Stages 0x02 to 0x04 (R55, R60, R61, R63, R67). With the time base locked the boot ROM stage is done and the segment port starts; without it the stage fails with
0x010A. An image whose header is right and which fits the flash is read, what was never programmed reading 0xFF; one that passes the format and key checks is accepted, with its
signer's kind and reset vector. A failure of slot A starts slot B at stage 0x03, one of slot B fails the stage with its reason. -/
def Obligations.EarlyBringUp : Prop :=
  (∀ (id : Fin 64) (role : Fin 4) (failed : BitVec 13) (s : State), (s.dev.boot.phase = .off ∨ s.dev.boot.phase = .inReset) → (jigOf s.dev 12).inJig = false →
     let pins := { s.dev.pins with pwrGood := true, pkgReset := false, segId := id, segRole := role }
     ((∀ n, n < 13 → fuseLoadFails s.dev failed.toNat n = false) → ∃ d, exec (.t0 id role failed) s = .next { s with dev := d } ∧ d.pins = pins ∧
       d.boot = { bootInit with phase := .running, done := [1], running := [2], flashHighZ := false } ∧
       (∀ h, h < 216 → hartOf d h = { hartOf s.dev h with spareUsed := !spareUsable s.dev (h / 18) }) ∧
       { d with pins := s.dev.pins, boot := s.dev.boot, harts := s.dev.harts } = s.dev) ∧
     ((∃ n, n < 13 ∧ fuseLoadFails s.dev failed.toNat n = true) → ∃ d, exec (.t0 id role failed) s = .next { s with dev := d } ∧ d.pins = pins ∧
       d.boot = { bootInit with phase := .failing, failStage := 1, failReason := 0x0106, flashHighZ := false, fuseBad := d.boot.fuseBad } ∧
       (∀ n, n < 13 → getBit d.boot.fuseBad n = fuseLoadFails s.dev failed.toNat n) ∧ { d with pins := s.dev.pins, boot := s.dev.boot } = s.dev)) ∧
  (∀ s : State, stageRuns s.dev 2 = true →
    (∃ d, exec (.bootRom true) s = .next { s with dev := d } ∧ d.boot = { s.dev.boot with
        lockedTimeBase := true, done := s.dev.boot.done ++ [2], running := s.dev.boot.running.erase 2 ++ (if s.dev.boot.phase = .running then [3] else []),
        slotBegun := s.dev.boot.phase == .running } ∧
      d.holdover = false ∧ d.seg.state = (if s.dev.pins.segRole = 1 then 1 else 2) ∧ d.seg.nodes = [] ∧ d.seg.queue = [] ∧
      { d with boot := s.dev.boot, holdover := s.dev.holdover, seg := s.dev.seg } = s.dev) ∧
    (s.dev.boot.phase = .running → exec (.bootRom false) s = .next { s with dev := { s.dev with boot := { s.dev.boot with
      phase := .failing, failStage := 2, failReason := 0x010A, running := s.dev.boot.running.erase 2 } } })) ∧
  (∀ (o : FlashObs) (s : State), stageRuns s.dev 3 = true →
    let base := if s.dev.boot.slotB then 0x2000000 else 0
    let hdr := padErased 0xA0 o.bytes
    let fits := o.answers && decide (base + 0xA0 ≤ o.capacity) && (headerReason hdr == 0) && decide (base + imgLength hdr ≤ o.capacity)
    (fits = true → exec (.imageRead o) s = .next { s with dev := { s.dev with boot := { s.dev.boot with
      image := padErased (imgLength hdr) o.bytes, done := s.dev.boot.done ++ [3],
      running := s.dev.boot.running.erase 3 ++ (if s.dev.boot.phase = .running then [4] else []) } } }) ∧
    (fits = false → s.dev.boot.slotB = false → exec (.imageRead o) s = .next { s with dev := { s.dev with boot := { s.dev.boot with
      slotB := true, image := [], done := s.dev.boot.done.filter (· != 3), running := [3] } } }) ∧
    (fits = false → s.dev.boot.slotB = true → s.dev.boot.phase = .running → exec (.imageRead o) s = .next { s with dev := { s.dev with boot := { s.dev.boot with
      phase := .failing, failStage := 3, failReason := if o.answers && decide (base + 0xA0 ≤ o.capacity) && (headerReason hdr != 0) then headerReason hdr else 0x0101,
      running := s.dev.boot.running.erase 3 } } })) ∧
  (∀ s : State, stageRuns s.dev 4 = true →
    let i := s.dev.boot.image
    (formatOk i = true → keyReason s.dev i = 0 → exec .imageCheck s = .next { s with dev := { s.dev with boot := { s.dev.boot with
      signerSlot := b2n ((List.range 4).any (fun k => tabGet [] s.dev.fuses.ownerHash k != [])), resetVector := imgReset i, done := s.dev.boot.done ++ [4],
      running := s.dev.boot.running.erase 4 ++ (if s.dev.boot.phase = .running then [5] else []) } } }) ∧
    ((formatOk i = false ∨ keyReason s.dev i ≠ 0) → s.dev.boot.slotB = true → s.dev.boot.phase = .running →
      exec .imageCheck s = .next { s with dev := { s.dev with boot := { s.dev.boot with
        phase := .failing, failStage := 4, failReason := if formatOk i = false then 0x0103 else keyReason s.dev i, running := s.dev.boot.running.erase 4 } } }))

/-- The configuration stage (R64). When every record keeps its rule, no entry is named twice and every entry that the image must name is named, the stage completes; of an
image whose records are all of swap class KERF or BOOT and name no MSC_ENABLE, each then is the entry's current value, every other entry has its default and nothing is staged. When one record does
not, or the records cannot be read, no entry changes and the stage fails with 0x0103. -/
def Obligations.ConfigurationStage : Prop :=
  ∀ s : State, stageRuns s.dev 5 = true →
    let d0 := { s.dev with list := { s.dev.list with cur := [], stg := [] } }
    let good (rs : List ImgRec) : Bool := rs.all (recordOk d0) && (nubNat (rs.map (fun r => ekey r.idx r.sub))).length == rs.length && imageComplete rs
    (∀ rs, imgRecs s.dev.boot.image = some rs → good rs = true → ∃ d, exec .apply s = .next { s with dev := d } ∧
      d.boot.done = s.dev.boot.done ++ [5] ∧ (s.dev.boot.phase = .running → d.boot.running = s.dev.boot.running.erase 5 ++ [6, 7, 9]) ∧
      ((∀ r ∈ rs, r.idx ≠ 0x4100 ∧ ∀ e, entryRow r.idx r.sub = some e → e.swap ≠ .imm) → d.list.stg = [] ∧
        (∀ r ∈ rs, ∀ e, entryRow r.idx r.sub = some e → tabGet none d.list.cur (ekey r.idx r.sub) = some (valOf e r.val)) ∧
        (∀ k, k ∉ rs.map (fun r => ekey r.idx r.sub) → tabGet none d.list.cur k = none))) ∧
    ((imgRecs s.dev.boot.image = none ∨ ∃ rs, imgRecs s.dev.boot.image = some rs ∧ good rs = false) → s.dev.boot.phase = .running →
      exec .apply s = .next { s with dev := { s.dev with boot := { s.dev.boot with
        phase := .failing, failStage := 5, failReason := 0x0103, running := s.dev.boot.running.erase 5 } } })

/-- Stages 0x06 and 0x08 to 0x0A (R58, R70, R148, R162, R466, R467). Every link is trained from its own lanes and fuses, and the stage completes where all train or fails with the
reason of the lowest-numbered that does not. With no fault in a store the Page Owner Table's bytes read 0, every other byte of memory as before, and the MSC, its slices and the directory hold
nothing; a fault is recorded and the stage does not complete. The root ports, the Dowel sub-links and the CXL windows show what training found; a PLL that fails is 0x0107. The image's sections are loaded where they lie
in DRAM, else the stage fails with 0x0103.

The DRAM stage (R69, R240, R258): every channel shows its DIMMs. When every enabled channel passes its dry fit and trains, each of them reads trained and the stage
completes, memory reading 0 after a cold start; else it fails with the reason of the lowest-numbered channel that did not. -/
def Obligations.HardwareBringUp : Prop :=
  (∀ (obs : List LinkObs) (s : State), stageRuns s.dev 6 = true → s.dev.boot.warm = false →
    let one (n : Nat) := trainLink n (obs.getD n { pll := false, up := cleanTest, down := cleanTest }) s.dev
    let bad := (List.range 12).findSome? (fun n => (one n).2)
    ∃ d, exec (.tenonStage obs) s = .next { s with dev := d } ∧ (∀ n, n < 12 → linkOf d n = linkOf (one n).1 n) ∧
      (bad = none → d.boot.done = s.dev.boot.done ++ [6] ∧ ∀ n, n < 12 → (linkOf d n).state = .up) ∧
      (∀ c, bad = some c → s.dev.boot.phase = .running → d.boot.phase = .failing ∧ d.boot.failStage = 6 ∧ d.boot.failReason = c)) ∧
  (∀ s : State, stageRuns s.dev 8 = true → ∃ d, exec (.hubStores []) s = .next { s with dev := d } ∧ d.boot.done = s.dev.boot.done ++ [8] ∧
    d.pot.base = (potPlace s.dev).1 ∧ d.pot.size = (potPlace s.dev).2 ∧ d.pot.cover = (potPlace s.dev).2 * 2048 ∧ d.pot.ready = true ∧ d.msc = [] ∧ d.mscs = [] ∧ d.slices = [] ∧
    (∀ a, d.pot.base ≤ a → a < d.pot.base + d.pot.size → memByte d a = 0) ∧
    (∀ a, (a < d.pot.base ∨ d.pot.base + d.pot.size ≤ a) → memByte d a = memByte s.dev a)) ∧
  (∀ (f : HubFault) (fs : List HubFault) (s : State), stageRuns s.dev 8 = true → ∃ d, exec (.hubStores (f :: fs)) s = .next { s with dev := d } ∧ d.boot = s.dev.boot ∧
    d.obs.mcSeq = s.dev.obs.mcSeq + (fs.length + 1)) ∧
  (∀ (ports : List PortObs) (w0 w1 : Fin 4) (sites : List UcieObs) (s : State), stageRuns s.dev 9 = true →
    let o (n : Nat) : PortObs := ports.getD n { pllFailed := false, device := false, protocol := 0, rate := 0, width := 0 }
    ∃ d, exec (.pcieStage ports w0 w1 sites) s = .next { s with dev := d } ∧ (∀ n, n < 32 → tabGet 0 d.rootPorts n = portState s.dev n (o n)) ∧
      d.mirror = { s.dev.mirror with w0 := w0, w1 := w1 } ∧ (∀ i, i < 16 → tabGet 0 d.cxlState i = windowState { s.dev with rootPorts := d.rootPorts } i) ∧
      ((∀ n, n < 32 → portExists s.dev n = true → (o n).pllFailed = false) → 9 ∈ d.boot.done) ∧
      ((∃ n, n < 32 ∧ portExists s.dev n = true ∧ (o n).pllFailed = true) → s.dev.boot.phase = .running →
        d.boot.phase = .failing ∧ d.boot.failStage = 9 ∧ d.boot.failReason = 0x0107)) ∧
  (∀ s : State, stageRuns s.dev 10 = true →
    let ss := sectsOf 4 s.dev.boot.image
    (ss.all (fun x => dramRange s.dev x.load x.len) = true → ∃ d, exec .loadSections s = .next { s with dev := d } ∧ d.boot.done = s.dev.boot.done ++ [10] ∧
      { d with boot := s.dev.boot } = ss.foldl (fun d x => cohWrite x.load (sectBytes s.dev.boot.image x) d) s.dev) ∧
    (ss.all (fun x => dramRange s.dev x.load x.len) = false → s.dev.boot.phase = .running → ∃ d, exec .loadSections s = .next { s with dev := d } ∧ d.boot.phase = .failing ∧
      d.boot.failStage = 10 ∧ d.boot.failReason = 0x0103 ∧ { d with boot := s.dev.boot } = s.dev)) ∧
  (∀ (obs : List DimmSeen) (s : State), stageRuns s.dev 7 = true →
     let seen (n : Nat) : DimmSeen := obs.getD n { answers := false, dimms := [], spd := [], eye := false }
     let d0 := (List.range 16).foldl (fun d n => seeDimm n (seen n) d) (freshDram s.dev)
     let r := (enabledChans d0).foldl (fun (a : Dev × Nat) n => ((trainChan n (seen n).eye a.1).1, if a.2 = 0 then (trainChan n (seen n).eye a.1).2 else a.2)) (d0, 0)
     ∃ d, exec (.dramStage obs) s = .next { s with dev := d } ∧ (∀ n, n < 16 → (chanOf d n).dimm = dimmOf (seen n)) ∧
       (s.dev.boot.warm = false → ∀ a, memByte d a = 0) ∧
       (r.2 = 0 → d.boot.done = s.dev.boot.done ++ [7] ∧ ∀ n ∈ enabledChans d0, (chanOf d n).state = 2 ∧ (chanOf d n).speed = slotSpeed d0 n (ent d0 0x4003 (n + 1))) ∧
       (r.2 ≠ 0 → s.dev.boot.phase = .running → d.boot.phase = .failing ∧ d.boot.failStage = 7 ∧ d.boot.failReason = r.2))

/-- Release, stage timeouts, the held state and the rollback floor (R58, R63, R66, R67, R71). With the worlds dry fit passed the package is released, no stage runs, every
counter and record starts anew, and a present hart that is not offline is released; refused, the release fails with its reason. A stage that exceeds its bound fails, stages 0x03 and 0x04 going on with slot B first. With every other
stage stopped the held state is entered and every bench zeroises. The floor rises by one fuse at a time to the image's SECURITY_VERSION. -/
def Obligations.ReleaseAndHeldState : Prop :=
  (∀ (cores : List CoreObs) (tj : Nat) (p : PartnerObs) (s : State), stageRuns s.dev 11 = true →
    let r := releaseWorlds (planZero cores tj (releaseLedger s.dev))
    (r.2 = 0 → ∃ d, exec (.release cores tj p) s = .next { s with dev := d } ∧ d.boot.phase = .released ∧ d.boot.running = [] ∧ 11 ∈ d.boot.done ∧ d.obs.ctr = [] ∧ d.obs.mc = [] ∧
      d.obs.mcSeq = 0 ∧ d.seg.drops = 0 ∧ ∀ h, h < 216 → hartPresent d h = true → (hartOf d h).offline = false → (hartOf d h).released = true) ∧
    (r.2 ≠ 0 → s.dev.boot.phase = .running → ∃ d, exec (.release cores tj p) s = .next { s with dev := d } ∧ d.boot.phase = .failing ∧ d.boot.failStage = 11 ∧ d.boot.failReason = r.2)) ∧
  (∀ (n : Fin 12) (s : State), s.dev.boot.phase = .running → s.dev.boot.running.contains n.val = true →
    let failed (c : Nat) : Dev := { s.dev with boot := { s.dev.boot with phase := .failing, failStage := n.val, failReason := c, running := s.dev.boot.running.erase n.val } }
    (n.val = 1 → ∀ b, exec (.stageTimeout n b) s = .next { s with dev := failed 0x0106 }) ∧
    (n.val ≠ 1 → n.val ≠ 2 → n.val ≠ 3 → n.val ≠ 4 → ∀ b, exec (.stageTimeout n b) s = .next { s with dev := failed 0x0107 }) ∧
    (n.val = 2 → exec (.stageTimeout n false) s = .next { s with dev := failed 0x0107 } ∧ ∃ d, exec (.stageTimeout n true) s = .next { s with dev := d } ∧
      d.boot = { (failed 0x0107).boot with lockedTimeBase := true } ∧ d.seg.state = (if s.dev.pins.segRole = 1 then 1 else 2)) ∧
    ((n.val = 3 ∨ n.val = 4) → ∀ b, exec (.stageTimeout n b) s = .next { s with dev := if s.dev.boot.slotB then failed 0x0107 else
      { s.dev with boot := { s.dev.boot with slotB := true, image := [], done := s.dev.boot.done.filter (· != 3), running := [3] } } })) ∧
  (∀ s : State, s.dev.boot.phase = .failing → s.dev.boot.running = [] → ∃ d, exec .heldState s = .next { s with dev := d } ∧ d.boot.phase = .held ∧
    d.boot.flashHighZ = (s.dev.boot.failStage == 3 || s.dev.boot.failStage == 4) ∧ (∀ b, b < 4 → (benchOf d b).state = 4 ∧ (benchOf d b).keyed = false)) ∧
  (∀ (v : Nat) (s : State), s.dev.boot.pendingCommit = some v → s.dev.boot.phase = .released → s.dev.fuses.floor < v →
    exec .rollbackCommit s = .next { s with dev := { s.dev with
      fuses := { s.dev.fuses with floor := s.dev.fuses.floor + 1 },
      boot := if v ≤ s.dev.fuses.floor + 1 then { s.dev.boot with pendingCommit := none } else s.dev.boot } })

/-- Loss of power (R53, R493, R497) and package reset (R75, R76, R439). Power-off leaves the package as before T0 but for its fuses, its Gauge, its pins, what has left it and the model's
count of free values; PWR_GOOD reads low and THERMTRIP_N is released; a rail fault is a power-off while PWR_GOOD is high and nothing otherwise. A package reset of a powered package leaves the same, the
Gauge having closed its open interval and opened the bring-up record; of one without power it ends jig mode.

HUB_RESET_CTL (R73, R74, R75): in machine mode a write with KEY 0x5754 and only WARM set resets the package warm, or is remembered while a kerf sequence waits; one with only PACKAGE set resets it as a package reset does, PKG_RESET_N
standing; a write of another value, or from another mode, does nothing. After a warm reset stage 0x02 runs, fuses, the time counter, temperatures and energy totals stand, and no entry, session, cache line, tracker entry, message or enclave is left. -/
def Obligations.PowerAndResets : Prop :=
  (let kept (d : Dev) : Dev := { devInit with out := d.out, freeCtr := d.freeCtr, fuses := d.fuses, gauge := d.gauge, pins := d.pins }
   let off (d : Dev) : Dev := { kept d with pins := { d.pins with pwrGood := false, thermtrip := false } }
   (∀ s : State, exec .powerOff s = .next { s with dev := off s.dev }) ∧
   (∀ s : State, (s.dev.pins.pwrGood = true → exec .railFault s = .next { s with dev := off s.dev }) ∧ (s.dev.pins.pwrGood = false → exec .railFault s = .next s)) ∧
   (∀ s : State, let g := (gaugeOnReset s.dev).gauge
     (s.dev.boot.phase ≠ .off → exec .packageReset s = .next { s with dev := { kept s.dev with
       gauge := g, pins := { s.dev.pins with pkgReset := true }, boot := { bootInit with phase := .inReset } } }) ∧
     (s.dev.boot.phase = .off → exec .packageReset s = .next { s with dev := { s.dev with gauge := g, jig := [], pins := { s.dev.pins with pkgReset := true } } }) ∧
     (gaugePresent s.dev = true → g.openKind = 3 ∧ g.boots = s.dev.gauge.boots + 1 ∧
       (s.dev.gauge.openKind = 1 → ∃ r rs, g.closing = s.dev.gauge.closing ++ r :: rs ∧ getBit (leAt r 3 1) 0 = true)))) ∧
  (∀ (h : HartN) (s : State), hartRuns s.dev h = true →
     ((hartOf s.dev h).mode = .m →
       (∀ v : Word, resetBits v.toNat = some 1 → s.dev.kerf.step1 = none → ∃ d, exec (.warmReset h v) s = .next { s with dev := d } ∧
         d.boot = { bootInit with phase := .running, warm := true, done := [1], running := [2], flashHighZ := false } ∧ d.now = s.dev.now ∧ d.fuses = s.dev.fuses ∧
         (∀ k, (hartOf d k).tenergy = (hartOf s.dev k).tenergy ∧ (hartOf d k).tj = (hartOf s.dev k).tj ∧ (hartOf d k).offline = (hartOf s.dev k).offline) ∧
         d.list = listInit ∧ d.slices = [] ∧ d.msc = [] ∧ d.flight = [] ∧ d.encl = [] ∧ (∀ n, (dieOf d n).cache = [] ∧ (dieOf d n).wb = []) ∧
         (∀ n, n < 4 → (benchOf d n).keys = [] ∧ (benchOf d n).jobs = [])) ∧
       (∀ v : Word, resetBits v.toNat = some 1 → s.dev.kerf.step1.isSome = true →
         exec (.warmReset h v) s = .next { s with dev := { s.dev with kerf := { s.dev.kerf with warmDue := true } } }) ∧
       (∀ v : Word, resetBits v.toNat = some 2 → exec (.packageResetRequest h v) s = .next { s with dev := { devInit with
         out := s.dev.out, freeCtr := s.dev.freeCtr, fuses := s.dev.fuses, gauge := (gaugeOnReset s.dev).gauge, pins := s.dev.pins, boot := { bootInit with phase := .inReset } } })) ∧
     (∀ v : Word, (resetBits v.toNat = none ∨ (hartOf s.dev h).mode ≠ .m) → exec (.warmReset h v) s = .next s ∧ exec (.packageResetRequest h v) s = .next s))

/-! ### Instructions of a hart -/

/-- A load whose lines the die holds without poison (R183, R197): once translation has left what it leaves and the core has taken the lines, the register holds the value as the
instruction extends it, pc moves on, the instruction retires, and nothing else changes. A fetch (`Dst.inst`) writes no register, moves no pc and retires nothing. -/
def Obligations.LoadDeliversHeldBytes : Prop :=
  ∀ (h : HartN) (dst : Dst) (rs1 : RegN) (imm : BitVec 12) (size : Nat) (signed compressed : Bool) (s : State) (ps : List (Nat × Nat × Nat)) (fs : List PartTr),
    HartReady s.dev h → accSize size = true → (∀ r, dst = .f r → fpOff (hartOf s.dev h) = false) →
    let x := hartOf s.dev h
    let md := match dst with | .inst => x.mode | _ => accessMode x
    let acc := match dst with | .inst => 0 | _ => 1
    translateParts s.dev h md acc none (splitAccess (effAddr x rs1 imm) size) = .ok (ps, fs) →
    let d0 := trLeft h md acc fs s.dev
    (∀ p ∈ ps, isMain d0 p.1 = true ∧ ∃ l, dieLine d0 (dieOfHart h) (lineOf p.1) = some l ∧ l.poison = false) →
    let t := touchParts h (acc == 0) ps d0
    let y := hartOf t h
    ∃ d, exec (.hartLoad h dst rs1 imm size signed compressed) s = .next { s with dev := d } ∧ CacheOnly s.dev t ∧
      (dst ≠ .inst → HartSteps t d h { deliver dst size signed (leNat (readParts d0 (dieOfHart h) ps)) y with pc := (y.pc + if compressed then 2 else 4) % 2 ^ 64 }) ∧
      (dst = .inst → HartOnly t d h { y with pc := y.pc % 2 ^ 64 })

/-- A store to lines the die owns, with no forward deferred there (R185, R191, R197): each line takes its bytes and becomes M in the storing core alone, no other line's copy changes beyond
what the access's own lines displace, pc moves on, and no register, byte of memory or other unit changes. -/
def Obligations.StoreWritesOwnedLines : Prop :=
  ∀ (h : HartN) (fp : Bool) (rs2 rs1 : RegN) (imm : BitVec 12) (size : Nat) (compressed : Bool) (s : State) (ps : List (Nat × Nat × Nat)) (fs : List PartTr),
    HartReady s.dev h → accSize size = true → (fp = true → fpOff (hartOf s.dev h) = false) →
    let x := hartOf s.dev h
    let n := dieOfHart h
    let bs := leBytes size ((if fp then fReg x rs2 else xReg x rs2) % 2 ^ (8 * size))
    translateParts s.dev h (accessMode x) 3 none (splitAccess (effAddr x rs1 imm) size) = .ok (ps, fs) →
    let d0 := trLeft h (accessMode x) 3 fs s.dev
    (ps.map (fun p => lineOf p.1)).Nodup → dirtyBlocked d0 n ps = false → (dieOf d0 n).deferred = [] →
    (∀ p ∈ ps, isMain d0 p.1 = true ∧ OwnsLine d0 n (lineOf p.1)) →
    ∃ d, exec (.hartStore h fp rs2 rs1 imm size compressed) s = .next { s with dev := d } ∧
      (∀ p ∈ ps, ∀ l, dieLine d0 n (lineOf p.1) = some l →
        dieLine d n (lineOf p.1) = some (storedLine l (coreOfHart h) (p.1 % 64) (sliceOf bs p.2.1 p.2.2))) ∧
      (∀ k l, (k ≠ n ∨ ∀ p ∈ ps, lineOf p.1 ≠ l) → dieLine d k l = dieLine (touchParts h false ps d0) k l) ∧
      CacheOnly (updHart s.dev h (fun x => { x with pc := (x.pc + if compressed then 2 else 4) % 2 ^ 64 })) d ∧ Retired x (hartOf d h)

/-- An atomic on a line the die owns, without poison and with no forward deferred there: rd takes the old value and the line the new one (R185, RVA23's A and Zacas). LR reads the same way and reserves the
line (R187); a reservation the hart held ends first.

SC (R187): with a reservation of the same address and size (the match is the model's reading, log entry 62) and the line owned, with no forward deferred, it stores and writes 0; with no such
reservation it stores nothing and writes 1; either way no reservation is left. The 128-step bound ends the deferral only: the reservation stands, and a forward of its line that was deferred is taken again. -/
def Obligations.AtomicsAndReservations : Prop :=
  (∀ (h : HartN) (op : AmoOp) (rd rs1 rs2 : RegN) (size : Nat) (s : State) (pa : Nat) (fs : List PartTr), HartReady s.dev h →
    let x := hartOf s.dev h
    let n := dieOfHart h
    let va := xReg x rs1
    (accSize size = true ∨ (size = 16 ∧ op = .cas ∧ rd.val % 2 = 0 ∧ rs2.val % 2 = 0)) → va % 16 + size ≤ 16 →
    translateParts s.dev h (accessMode x) 3 none [(va, 0, size)] = .ok ([(pa, 0, size)], fs) →
    let d0 := trLeft h (accessMode x) 3 fs s.dev
    isMain d0 pa = true → OwnsLine d0 n (lineOf pa) → (dieOf d0 n).deferred = [] →
    ∀ l, dieLine d0 n (lineOf pa) = some l → l.poison = false →
    let old := leNat (sliceOf (lineBytes l.data) (pa % 64) size)
    let new := amoResult op size old (pairReg x rs2 size) (pairReg x rd size)
    ∃ d, exec (.amo h op rd rs1 rs2 size) s = .next { s with dev := d } ∧
      dieLine d n (lineOf pa) = some (storedLine l (coreOfHart h) (pa % 64) (sliceOf (leBytes size new) 0 size)) ∧
      (∀ k m, (k ≠ n ∨ m ≠ lineOf pa) → dieLine d k m = dieLine (touchParts h false [(pa, 0, size)] d0) k m) ∧
      CacheOnly (updHart s.dev h (fun x => { setAmo rd size old x with pc := (x.pc + 4) % 2 ^ 64 })) d ∧ Retired x (hartOf d h)) ∧
  (∀ (h : HartN) (rd rs1 : RegN) (size : Nat) (s : State) (pa : Nat) (fs : List PartTr), HartReady s.dev h → (size = 4 ∨ size = 8) →
    let x := hartOf s.dev h
    let n := dieOfHart h
    let va := xReg x rs1
    va % size = 0 → translateParts s.dev h (accessMode x) 1 none [(va, 0, size)] = .ok ([(pa, 0, size)], fs) →
    let d0 := clearResv h (trLeft h (accessMode x) 1 fs s.dev)
    isMain d0 pa = true → OwnsLine d0 n (lineOf pa) → ∀ l, dieLine d0 n (lineOf pa) = some l → l.poison = false →
    let t := touchParts h false [(pa, 0, size)] d0
    let y := hartOf t h
    ∃ d, exec (.lr h rd rs1 size) s = .next { s with dev := d } ∧ ((dieOf s.dev n).deferred = [] → CacheOnly s.dev t) ∧
      HartSteps t d h { setX rd (extendLoad size true (leNat (sliceOf (lineBytes l.data) (pa % 64) size))) y with
        resv := some { line := lineOf pa, addr := pa, size := size, deferring := true }, pc := (y.pc + 4) % 2 ^ 64 }) ∧
  (∀ (h : HartN) (rd rs1 rs2 : RegN) (size : Nat) (s : State) (pa : Nat) (fs : List PartTr), HartReady s.dev h → (size = 4 ∨ size = 8) →
    let x := hartOf s.dev h
    xReg x rs1 % size = 0 → translateParts s.dev h (accessMode x) 3 none [(xReg x rs1, 0, size)] = .ok ([(pa, 0, size)], fs) →
    (∀ r, x.resv = some r → r.addr ≠ pa ∨ r.size ≠ size) →
    let d0 := clearResv h (trLeft h (accessMode x) 3 fs s.dev)
    let y := hartOf d0 h
    ∃ d, exec (.sc h rd rs1 rs2 size) s = .next { s with dev := d } ∧ HartSteps d0 d h { setX rd 1 y with pc := (y.pc + 4) % 2 ^ 64 } ∧ y.resv = none ∧
      ((dieOf s.dev (dieOfHart h)).deferred = [] → CacheOnly s.dev d0)) ∧
  (∀ (h : HartN) (rd rs1 rs2 : RegN) (size : Nat) (s : State) (pa : Nat) (fs : List PartTr) (r : Reservation), HartReady s.dev h → (size = 4 ∨ size = 8) →
    let x := hartOf s.dev h
    let n := dieOfHart h
    xReg x rs1 % size = 0 → translateParts s.dev h (accessMode x) 3 none [(xReg x rs1, 0, size)] = .ok ([(pa, 0, size)], fs) →
    x.resv = some r → r.addr = pa → r.size = size →
    let d0 := trLeft h (accessMode x) 3 fs s.dev
    isMain s.dev pa = true → OwnsLine d0 n (lineOf pa) → (dieOf d0 n).deferred = [] →
    ∃ d, exec (.sc h rd rs1 rs2 size) s = .next { s with dev := d } ∧ (hartOf d h).resv = none ∧
      (∀ l, dieLine d0 n (lineOf pa) = some l →
        dieLine d n (lineOf pa) = some (storedLine l (coreOfHart h) (pa % 64) (sliceOf (leBytes size (xReg x rs2 % 2 ^ (8 * size))) 0 size))) ∧
      (∀ k m, (k ≠ n ∨ m ≠ lineOf pa) → dieLine d k m = dieLine (touchParts h false [(pa, 0, size)] d0) k m) ∧
      CacheOnly (updHart s.dev h (fun x => { setX rd 0 x with pc := (x.pc + 4) % 2 ^ 64 })) d ∧ Retired x (hartOf d h)) ∧
  (∀ (h : HartN) (s : State) (r : Reservation), (hartOf s.dev h).resv = some r → r.deferring = true →
    let n := dieOfHart h
    let d1 := updHart s.dev h (fun x => { x with resv := some { r with deferring := false } })
    ((dieOf s.dev n).deferred = [] → exec (.lrReservationTimeout h) s = .next { s with dev := d1 }) ∧
    (∀ m, (dieOf s.dev n).deferred = [m] → resvDefers d1 n (lineOf m.addr) = none →
      exec (.lrReservationTimeout h) s = .next { s with dev := dieSnoop n m (updDie d1 n (fun x => { x with deferred := [] })) }))

/-- A cache-block operation that its mode's envcfg fields allow (R193). On main memory CBO.CLEAN, CBO.FLUSH and CBO.INVAL (a flush where envcfg says so) open a miss and send CLN, FLS or INV to the line's home
slice, and the hart waits for the answer; elsewhere they change nothing. CBO.ZERO of a line the die owns, with no forward deferred there, performs at once: the line reads as zeros, without poison. -/
def Obligations.CacheBlockOperations : Prop :=
  (∀ (h : HartN) (rs1 : RegN) (s : State) (cop : CboOp) (i : Instr) (pa : Nat) (ent : Option Tlb) (fill : Option WalkAcc), HartReady s.dev h →
    let x := hartOf s.dev h
    let n := dieOfHart h
    let va := xReg x rs1 / 64 * 64
    ((i = .cboClean h rs1 ∧ cboCheck x .clean = 2 ∧ cop = .clean) ∨ (i = .cboFlush h rs1 ∧ cboCheck x .flush = 2 ∧ cop = .flush) ∨
      (i = .cboInval h rs1 ∧ cboCheck x .inval = 2 ∧ cop = .inval) ∨ (i = .cboInval h rs1 ∧ cboCheck x .inval = 3 ∧ cop = .flush)) →
    translate s.dev h (accessMode x) 1 va 64 true none = .ok pa ent fill →
    let d0 := trLeft h (accessMode x) 1 [{ va := va, ent := ent, fill := fill }] s.dev
    let y := hartOf d0 h
    let op : Op := match cop with | .clean => .cln | .flush => .fls | _ => .inv
    CacheOnly s.dev d0 ∧
    (isMain d0 pa = false → ∃ d, exec i s = .next { s with dev := d } ∧ HartSteps d0 d h { y with pc := (y.pc + 4) % 2 ^ 64 }) ∧
    (isMain d0 pa = true → ∃ d, exec i s = .next { s with dev := d } ∧
      hartOf d h = { y with waiting := some { waitingFor (.cbo (xReg x rs1) cop) with line := lineOf pa, deps := ent.toList } } ∧
      (∀ k, k ≠ h.val → hartOf d k = hartOf d0 k) ∧
      (dieOf d n).misses = (dieOf d0 n).misses ++ [{
        rtag := freeTag d0 n, op := op, line := lineOf pa, core := coreOfHart h, kind := kindMaint, gotData := false, gotCmp := false, needCmp := false, kdone := false, queued := [] }] ∧
      Sent d true { msgOf d0 op n with up := true, rtag := freeTag d0 n, core := coreOfHart h, addr := pa } ∧
      { d with harts := d0.harts, dies := d0.dies, links := d0.links, flight := d0.flight, out := d0.out, obs := { d.obs with ctr := d0.obs.ctr } } = d0)) ∧
  (∀ (h : HartN) (rs1 : RegN) (s : State) (pa : Nat) (ent : Option Tlb) (fill : Option WalkAcc), HartReady s.dev h →
    let x := hartOf s.dev h
    let n := dieOfHart h
    let va := xReg x rs1 / 64 * 64
    cboCheck x .zero = 2 → translate s.dev h (accessMode x) 3 va 64 true none = .ok pa ent fill →
    let d0 := trLeft h (accessMode x) 3 [{ va := va, ent := ent, fill := fill }] s.dev
    isMain d0 pa = true → OwnsLine d0 n (lineOf pa) → (dieOf d0 n).deferred = [] →
    ∃ d, exec (.cboZero h rs1) s = .next { s with dev := d } ∧
      (∀ l, dieLine d0 n (lineOf pa) = some l →
        dieLine d n (lineOf pa) = some { storedLine l (coreOfHart h) (pa % 64) (sliceOf (List.replicate 64 0) 0 64) with poison := false }) ∧
      (∀ k m, (k ≠ n ∨ m ≠ lineOf pa) → dieLine d k m = dieLine (touchParts h false [(pa, 0, 64)] d0) k m) ∧
      CacheOnly (updHart s.dev h (fun x => { x with pc := (x.pc + 4) % 2 ^ 64 })) d ∧ Retired x (hartOf d h))

/-- TSYNC completes when no kill of the hart's stores is owed, and waits while one is (R120); POQ returns the page's owner entry (R91); a write of svreq puts VCEIL, within 550 to 950 mV on the
5 mV grid, and the old value in rd (R97). TSYNC and POQ are illegal in U mode and raise the virtual-instruction exception in VU mode (R90).

The translation fences, where their mode may execute them (R127): the matching entries of the hart's TLBs and walk caches go, those of a queued SINVAL.VMA at the
SFENCE.INVAL.IR that follows; pc moves on, the instruction retires and nothing else changes. -/
def Obligations.SystemInstructions : Prop :=
  (∀ (h : HartN) (s : State), HartReady s.dev h →
    let x := hartOf s.dev h
    (x.mode ≠ .u → x.mode ≠ .vu → x.debts = [] →
      ∃ d, exec (.tsync h) s = .next { s with dev := d } ∧ HartSteps s.dev d h { x with pc := (x.pc + 4) % 2 ^ 64 }) ∧
    (x.mode ≠ .u → x.mode ≠ .vu → x.debts ≠ [] →
      ∃ d, exec (.tsync h) s = .next { s with dev := d } ∧ HartMoves s.dev d h { x with waiting := some (waitingFor .tsync) }) ∧
    (x.mode = .u → exec (.tsync h) s = .next { s with dev := trapIllegal h 0x0000000B s.dev }) ∧
    (x.mode = .vu → exec (.tsync h) s = .next { s with dev := trapVirtual h 0x0000000B s.dev })) ∧
  (∀ (h : HartN) (rd rs1 : RegN) (s : State), HartReady s.dev h →
    let x := hartOf s.dev h
    (∀ pa ent fill, x.mode ≠ .u → x.mode ≠ .vu → translate s.dev h (accessMode x) 1 (xReg x rs1) 1 false none = .ok pa ent fill →
      let d0 := trLeft h (accessMode x) 1 [{ va := xReg x rs1, ent := ent, fill := fill }] s.dev
      let y := hartOf d0 h
      ∃ d, exec (.poq h rd rs1) s = .next { s with dev := d } ∧ CacheOnly s.dev d0 ∧ HartSteps d0 d h { setX rd (poqValue d0 y pa) y with pc := (y.pc + 4) % 2 ^ 64 }) ∧
    (x.mode = .u → exec (.poq h rd rs1) s = .next { s with dev := trapIllegal h (poqWord rd rs1) s.dev }) ∧
    (x.mode = .vu → exec (.poq h rd rs1) s = .next { s with dev := trapVirtual h (poqWord rd rs1) s.dev })) ∧
  (∀ (h : HartN) (insn : BitVec 32) (v : Word) (s : State), HartReady s.dev h → csrAccess (hartOf s.dev h) 0x5C1 (csrWrites insn.toNat) = 2 →
    let x := hartOf s.dev h
    let y := setX (insn.toNat / 2 ^ 7 % 32) x.vceil (if csrWrites insn.toNat then { x with vceil := vceilOf (csrNew insn.toNat x.vceil v.toNat) } else x)
    ∃ d, exec (.svreqWrite h insn v) s = .next { s with dev := d } ∧ HartSteps s.dev d h { y with pc := (x.pc + 4) % 2 ^ 64 }) ∧
  (∀ v : Nat, 550 ≤ vceilOf v ∧ vceilOf v ≤ 950 ∧ vceilOf v % 5 = 0) ∧
  (∀ (h : HartN) (rs1 rs2 : RegN) (s : State), HartReady s.dev h →
     let x := hartOf s.dev h
     let kept (gone : Tlb → Bool) (g : Bool) : Hart :=
       let k (t : Tlb) : Bool := !gone t
       { x with itlb := x.itlb.filter k, dtlb := x.dtlb.filter k, tlb := x.tlb.filter k, wcache := x.wcache.filter k, gcache := if g then x.gcache.filter k else x.gcache }
     let does (i : Instr) (y : Hart) : Prop := ∃ d, exec i s = .next { s with dev := d } ∧ HartSteps s.dev d h { y with pc := (x.pc + 4) % 2 ^ 64 }
     let asid := (fenceReg x rs2).map (· % 2 ^ 16)
     (sfenceAllowed x = 2 → does (.sfenceVma h rs1 rs2) (kept (tlbMatches (virtCtx x x.mode) false x.eid (hartVmid x) (fenceReg x rs1) asid) false)) ∧
     (hfenceAllowed x false = 2 → does (.hfenceVvma h rs1 rs2) (kept (tlbMatches true false 0 (hartVmid x) (fenceReg x rs1) asid) false)) ∧
     (hfenceAllowed x true = 2 → does (.hfenceGvma h rs1 rs2) (kept (tlbMatches true true 0 (hartVmid x) none ((fenceReg x rs2).map (· % 2 ^ 14))) true)) ∧
     (sfenceAllowed x = 2 → does (.sinvalVma h rs1 rs2) { x with sweeps := x.sweeps ++ [(b2n (virtCtx x x.mode), fenceReg x rs1, asid, x.eid, hartVmid x)] }) ∧
     (x.mode ≠ .u → x.mode ≠ .vu → does (.sfenceWInval h) x ∧
       does (.sfenceInvalIr h) { kept (fun t => x.sweeps.any (fun q => tlbMatches (q.1 == 1) false q.2.2.2.1 q.2.2.2.2 q.2.1 q.2.2.1 t)) false with sweeps := [] }))

/-- WFI (R99–R102): with a wake condition it moves on. With none it rests, in M mode in the mode srest names, in HS mode (TW 0) in the shallower of that and hrestmax, in VS mode (TW and VTW 0) in idle; a hart
whose core or die is held rests in idle in place of a deeper mode. A wake with its die awake puts the hart at the next instruction, or starts one that has not begun at its own, at the setpoint it is due (R71, R85). An interrupt that M
mode takes enters its handler with the pc, cause, mode and interrupt enable saved (log entry 11), and an access that waits is given up.

Retention, core tests and retirement (R103, R105, R107–R109). 10 µs with no snoop returns the domains of a die that is not up for snoops alone to retention. A due test starts on a core at rest for 1 ms in retain or fold on a die that is awake, and on a usable spare; a
pass ends it, a failure retires the core: its hart goes offline after its grace, or moves to the spare. A completed move marks the spare used and is recorded; the core of an offline hart passes its lines
to the L3 and powers off, its registers kept. -/
def Obligations.RestAndRetirement : Prop :=
  (∀ (h : HartN) (s : State), HartReady s.dev h → wakeHolds s.dev h = true →
    ∃ d, exec (.wfi h) s = .next { s with dev := d } ∧ HartSteps s.dev d h { hartOf s.dev h with pc := ((hartOf s.dev h).pc + 4) % 2 ^ 64 }) ∧
  (∀ (h : HartN) (s : State) (want : Rest), HartReady s.dev h → wakeHolds s.dev h = false →
    let x := hartOf s.dev h
    ((x.mode = .m ∧ want = restFromMode x.srest) ∨ (x.mode = .hs ∧ getBit (csr x mstatusN) 21 = false ∧ want = restFromMode (min x.srest x.restMax)) ∨
      (x.mode = .vs ∧ getBit (csr x mstatusN) 21 = false ∧ getBit (csr x hstatusN) 21 = false ∧ want = .idle)) →
    let held := (coreHeld s.dev h || dieHeld s.dev (dieOfHart h)) && normalHart s.dev x && decide (2 ≤ restRank want)
    let y := { x with wantRest := want, bHeldSecure := held, restSince := s.dev.now, domainUp := false }
    (held = true → ∃ d, exec (.wfi h) s = .next { s with dev := d } ∧ HartMoves s.dev d h { y with rest := .idle }) ∧
    (held = false → want ≠ .fold → (want = .idle ∨ mirrorEnabled s.dev = false) → ∃ d, exec (.wfi h) s = .next { s with dev := d } ∧ HartMoves s.dev d h { y with rest := want }) ∧
    (held = false → want = .fold → mirrorEnabled s.dev = false → (∃ k ∈ liveHarts s.dev (dieOfHart h), k ≠ h.val ∧ (hartOf s.dev k).rest = .running) →
      ∃ d, exec (.wfi h) s = .next { s with dev := d } ∧ HartMoves s.dev d h { y with rest := .retain })) ∧
  (∀ (h : HartN) (s : State), (hartOf s.dev h).rest ≠ .running → wakeHolds s.dev h = true → dieRuns s.dev (dieOfHart h) = true → packageStopped s.dev = false →
    (linkOf s.dev (dieOfHart h)).state ≠ .folded → (hartOf s.dev h).haltReq = false →
    let x := hartOf s.dev h
    let y := { x with
      rest := .running, wantRest := .running, domainUp := false, coreTest := false, ckptCurrent := false, parked := false, vset := dueMv s.dev h,
      pc := if x.parked then x.pc else (x.pc + 4) % 2 ^ 64 }
    ∃ d, exec (.hartWake h) s = .next { s with dev := d } ∧ Counted y (hartOf d h) ∧ (x.parked = false → Retired x (hartOf d h)) ∧ (acctOf d h).vset = dueMv s.dev h ∧
      (∀ k, k ≠ h.val → hartOf d k = hartOf s.dev k) ∧ { d with harts := s.dev.harts, ledger := { d.ledger with accts := s.dev.ledger.accts } } = s.dev) ∧
  (∀ (h : HartN) (s : State) (i : Nat), hartRuns { s.dev with harts := (updHart s.dev h (fun x => { x with waiting := none })).harts } h = true → ncOpen s.dev h = false →
    let x := hartOf s.dev h
    x.haltReq = false → x.eid = 0 → nextIrq s.dev h = some i → trapMode x i true = .m →
    ∃ d, exec (.hartInterrupt h) s = .next { s with dev := d } ∧
      HartOnly s.dev d h { x with mode := .m, waiting := none, pc := tvecTarget (csr x mtvecN) i true, csr := (hartOf d h).csr } ∧
      csr (hartOf d h) mepcN = x.pc % 2 ^ 64 ∧ csr (hartOf d h) mcauseN = (i + 2 ^ 63) % 2 ^ 64 ∧ csr (hartOf d h) mtvalN = 0 ∧
      getBits (csr (hartOf d h) mstatusN) 11 2 = modePriv x.mode ∧ getBit (csr (hartOf d h) mstatusN) 7 = getBit (csr x mstatusN) 3 ∧
      getBit (csr (hartOf d h) mstatusN) 3 = false ∧
      (∀ n, n ∉ [mepcN, mcauseN, mtvalN, mtval2N, mtinstN, mstatusN] → csr (hartOf d h) n = csr x n)) ∧
  (∀ (n : DieN) (s : State), (dieOf s.dev n).snoopBusy = false → ∃ d, exec (.retentionIdle n) s = .next { s with dev := d } ∧
    (∀ h, hartOf d h = if dieOfHart h = n.val then { hartOf s.dev h with domainUp := false } else hartOf s.dev h) ∧ { d with harts := s.dev.harts } = s.dev) ∧
  (∀ (h : HartN) (s : State), let x := hartOf s.dev h
    ((x.rest = .retain ∨ x.rest = .fold) → (linkOf s.dev (dieOfHart h)).state ≠ .folded → x.restSince + 100000 ≤ s.dev.now → testDue s.dev x.testedAt = true →
      ∃ d, exec (.coreTest h false .start) s = .next { s with dev := d } ∧ HartOnly s.dev d h { x with coreTest := true }) ∧
    (x.coreTest = true → ∃ d, exec (.coreTest h false .pass) s = .next { s with dev := d } ∧ HartOnly s.dev d h { x with coreTest := false, testedAt := s.dev.now }) ∧
    (x.coreTest = true → x.retirePend = false → x.offline = false → x.spareMove = 0 → (is204S s.dev = false ∨ x.spareUsed = true ∨ spareBusy s.dev (dieOfHart h) = true) →
      ∃ d, exec (.coreTest h false .fail) s = .next { s with dev := d } ∧ HartOnly s.dev d h { x with
        coreTest := false, testedAt := s.dev.now, retirePend := true, grace := 1000, irqPending := nubNat (x.irqPending ++ [24]), ckptCurrent := false }) ∧
    (x.coreTest = true → x.retirePend = false → x.offline = false → x.spareMove = 0 → is204S s.dev = true → x.spareUsed = false → spareBusy s.dev (dieOfHart h) = false →
      ∃ d, exec (.coreTest h false .fail) s = .next { s with dev := d } ∧ (hartOf d h).spareMove = 1 ∧ (hartOf d h).spareAt = s.dev.now ∧ (hartOf d h).coreTest = false)) ∧
  (∀ (h : HartN) (s : State), let n := dieOfHart h
    (is204S s.dev = true → (hartOf s.dev h).spareUsed = false → testDue s.dev (dieOf s.dev n).spareTestedAt = true → (linkOf s.dev n).state ≠ .folded →
      ∃ d, exec (.coreTest h true .start) s = .next { s with dev := d } ∧ DieOnly s.dev d n { dieOf s.dev n with spareTest := true }) ∧
    ((dieOf s.dev n).spareTest = true →
      (∃ d, exec (.coreTest h true .pass) s = .next { s with dev := d } ∧ DieOnly s.dev d n { dieOf s.dev n with spareTest := false, spareTestedAt := s.dev.now }) ∧
      ∃ d, exec (.coreTest h true .fail) s = .next { s with dev := d } ∧
        (∀ k, hartOf d k = if dieOfHart k = n then { hartOf s.dev k with spareUsed := true } else hartOf s.dev k) ∧
        DieOnly s.dev { d with harts := s.dev.harts } n { dieOf s.dev n with spareTest := false, spareTestedAt := s.dev.now })) ∧
  (∀ (h : HartN) (s : State), (hartOf s.dev h).spareMove = 3 →
    ∃ d, exec (.spareMoveComplete h) s = .next { s with dev := d } ∧ (hartOf d h).spareMove = 0 ∧ (hartOf d h).spared = true ∧
      (∀ k, dieOfHart k = dieOfHart h → (hartOf d k).spareUsed = true) ∧ (∀ k, (hartOf d k).x = (hartOf s.dev k).x ∧ (hartOf d k).pc = (hartOf s.dev k).pc) ∧
      d.obs.mcSeq = s.dev.obs.mcSeq + 1 ∧ { d with harts := s.dev.harts, obs := s.dev.obs, out := s.dev.out } = s.dev) ∧
  (∀ (h : HartN) (s : State), (hartOf s.dev h).offline = true →
    ∃ d, exec (.offlinePowerOff h) s = .next { s with dev := d } ∧ (hartOf d h).powered = false ∧ (hartOf d h).tlb = [] ∧ (hartOf d h).itlb = [] ∧ (hartOf d h).dtlb = [] ∧
      (∀ l e, dieLine d (dieOfHart h) l = some e → getBit e.cores (coreOfHart h) = false) ∧
      CacheOnly (updHart s.dev h (fun x => { x with powered := false, sweeps := [] })) d)

/-- World switches and enclave entry and exit (R366, R381, R382): EENTER puts a hart into a free slot at the enclave's entry address with a0–a7 kept, tp the slot
and every other register 0, or back into the slot it was interrupted in; it answers −1, −2, −3 or −5 in a0 where the enclave cannot be entered. EEXIT returns to the instruction after the EENTER with a0–a7 passed back.
WSWITCH saves the lower-mode state in one half of the switch record and loads that of the other world from the other half; sampling stops. -/
def Obligations.EnclaveEntryAndExit : Prop :=
  (∀ (h : HartN) (rs1 : RegN) (s : State), HartReady s.dev h →
    let x := hartOf s.dev h
    let eid := xReg x rs1
    let e := enclOf s.dev eid
    let back := (List.range (getBits e.attr 8 8)).find? (fun k => match tabGet none e.slots k with | some s => s.hart == h && s.interrupted | none => false)
    let free := (List.range (getBits e.attr 8 8)).find? (fun k => (tabGet none e.slots k).isNone)
    (x.mode = .hs ∨ x.mode = .u ∨ x.mode = .vu) →
    let fails (k : Nat) : Prop := ∃ d, exec (.eenter h rs1) s = .next { s with dev := d } ∧ HartSteps s.dev d h { setX 10 (negWord k) x with pc := (x.pc + 4) % 2 ^ 64 }
    (x.eid ≠ 0 → fails 5) ∧
    (x.eid = 0 → (eid = 0 ∨ 4096 ≤ eid ∨ e.state ≠ 2) → fails 1) ∧
    (x.eid = 0 → eid ≠ 0 → eid < 4096 → e.state = 2 →
      (getBit e.attr 2 ≠ (secureExists s.dev && x.lowerSecure) → fails 3) ∧
      (getBit e.attr 2 = (secureExists s.dev && x.lowerSecure) → back = none → free = none → fails 2) ∧
      (∀ k sl, getBit e.attr 2 = (secureExists s.dev && x.lowerSecure) → back = some k → tabGet none e.slots k = some sl →
        ∃ d, exec (.eenter h rs1) s = .next { s with dev := d } ∧ hartOf d h = retire { loadLower sl.inner x with eid := eid, slot := k } ∧
          tabGet none (enclOf d eid).slots k = some { sl with interrupted := false, caller := saveLower x } ∧
          (∀ j, j ≠ h.val → hartOf d j = hartOf s.dev j) ∧ { d with harts := s.dev.harts, encl := s.dev.encl } = s.dev) ∧
      (∀ k, getBit e.attr 2 = (secureExists s.dev && x.lowerSecure) → back = none → free = some k →
        ∃ d, exec (.eenter h rs1) s = .next { s with dev := d } ∧ (hartOf d h).eid = eid ∧ (hartOf d h).slot = k ∧ (hartOf d h).pc = e.entry ∧ (hartOf d h).mode = x.mode ∧
          (∀ r, 10 ≤ r → r ≤ 17 → xReg (hartOf d h) r = xReg x r) ∧ xReg (hartOf d h) 4 = k % 2 ^ 64 ∧
          (∀ r, r ≠ 4 → (r < 10 ∨ 17 < r) → xReg (hartOf d h) r = 0) ∧ (∀ r, fReg (hartOf d h) r = 0) ∧ (hartOf d h).v = [] ∧
          tabGet none (enclOf d eid).slots k = some { hart := h, interrupted := false, caller := saveLower x, inner := saveLower x } ∧
          (∀ j, j ≠ h.val → hartOf d j = hartOf s.dev j) ∧ { d with harts := s.dev.harts, encl := s.dev.encl } = s.dev))) ∧
  (∀ (h : HartN) (s : State) (sl : Slot), HartReady s.dev h →
    let x := hartOf s.dev h
    x.eid ≠ 0 → tabGet none (enclOf s.dev x.eid).slots x.slot = some sl →
    ∃ d, exec (.eexit h) s = .next { s with dev := d } ∧ (hartOf d h).eid = 0 ∧ (hartOf d h).mode = sl.caller.mode ∧ (hartOf d h).pc = (sl.caller.pc + 4) % 2 ^ 64 ∧
      (hartOf d h).f = sl.caller.f ∧ (∀ r, 10 ≤ r → r ≤ 17 → xReg (hartOf d h) r = xReg x r) ∧
      (∀ r, (r < 10 ∨ 17 < r) → xReg (hartOf d h) r = if r = 0 then 0 else (tabGet 0 sl.caller.x r).toNat) ∧
      tabGet none (enclOf d x.eid).slots x.slot = none ∧ (∀ j, j ≠ h.val → hartOf d j = hartOf s.dev j) ∧
      { d with harts := s.dev.harts, encl := s.dev.encl, obs := { d.obs with ctr := s.dev.obs.ctr } } = s.dev) ∧
  (∀ (h : HartN) (rs1 : RegN) (s : State), HartReady s.dev h →
    let x := hartOf s.dev h
    let a := xReg x rs1
    x.mode = .m → secureExists s.dev = true → a % 4096 = 0 → isMain s.dev a = true → potClass (potEntry s.dev a) = 1 →
    let saved := cohWrite (if x.lowerSecure then a else a + 0x800) (ckptLower s.dev h s.dev.kerf.counter) s.dev
    let y := ckptLoadLower (cohBytes s.dev (if x.lowerSecure then a + 0x800 else a) 0x800) (hartOf saved h)
    ∃ d, exec (.wswitch h rs1) s = .next { s with dev := d } ∧ (hartOf d h).lowerSecure = !x.lowerSecure ∧ (hartOf d h).mode = .m ∧ (hartOf d h).hsEn = false ∧
      (hartOf d h).hsStop = 4 ∧ (hartOf d h).x = y.x ∧ (hartOf d h).f = y.f ∧ (hartOf d h).v = y.v ∧ (hartOf d h).pc = (y.pc + 4) % 2 ^ 64 ∧
      (∀ k, k ≠ h.val → hartOf d k = hartOf saved k) ∧ { d with harts := saved.harts, obs := { d.obs with ctr := saved.obs.ctr } } = saved)

/-! ### The fabric -/

/-- A request of a die for a line of main memory (R182, R186, R193, R202). Where its holder may have a tracker entry and none of its requests or of the line's waits before it, it takes one in its line's
home slice after every entry that is there, and the slice moves the line's entries on. In an idle slice whose entry names an owner other than the requester, a read
sends FWD_S, an ownership request FWD_X with the directory naming the requester, CLN SNP_CLEAN, FLS and INV SNP_FLUSH and an SNP_INV to each other holder, and memory keeps its value.

Accesses of agents to main memory (R186, R188, R189, R202). One of a bench, an inlay site or the hub takes a tracker entry of its holder, youngest of all, and the slice moves the line's entries on; so does
one of a PCIe or CXL device without translation that its page's owner allows (R371). One that is not allowed ends in an error and a fault record. -/
def Obligations.TrackerEntries : Prop :=
  (∀ (m : FMsg) (s : State) (i : Instr) (op : Op) (pool : Bool),
     ((i = .rds m ∧ op = .rds) ∨ (i = .rdc m ∧ op = .rdc) ∨ (i = .rdw m ∧ op = .rdw) ∨ (i = .rdx m ∧ op = .rdx) ∨ (i = .upg m ∧ op = .upg) ∨
       (i = .zro m ∧ op = .zro) ∨ (i = .cln m ∧ op = .cln) ∨ (i = .fls m ∧ op = .fls) ∨ (i = .inv m ∧ op = .inv)) →
     InService s.dev m → isMain s.dev m.addr = true → m.die < 12 → Passes s.dev m.die →
     let line := lineOf m.addr
     let sl := homeSlice s.dev (line * 64)
     (∀ e ∈ (sliceOf_ s.dev sl).ingress, e.1 ≠ m.die ∧ e.2.1 ≠ line) → entryFor s.dev sl m.die = some pool →
     (∃ d0 t, exec i s = .next { s with dev := pump line d0 } ∧ (sliceOf_ d0 sl).trk = (sliceOf_ s.dev sl).trk ++ [t] ∧
       t.txid = freeTxid s.dev sl ∧ t.holder = m.die ∧ t.pool = pool ∧ t.line = line ∧ t.req = .die { m with op := op, up := true } ∧ t.started = false ∧
       { sliceOf_ d0 sl with trk := (sliceOf_ s.dev sl).trk } = sliceOf_ s.dev sl ∧ (∀ k, k ≠ sl → sliceOf_ d0 k = sliceOf_ s.dev k) ∧
       { d0 with slices := s.dev.slices, dies := s.dev.dies, flight := s.dev.flight, obs := { d0.obs with ctr := s.dev.obs.ctr } } = s.dev) ∧
     (∀ e, SliceIdle s.dev line → dirOf s.dev line = some e → (e.st = .x ∨ e.st = .o) → e.owner ≠ m.die →
       ∃ d, exec i s = .next { s with dev := d } ∧ FabricOnly s.dev d ∧
         ((op = .rds ∨ op = .rdc ∨ op = .rdw) → dirOf d line = some e ∧ Sent d false (snoopMsg s.dev .fwdS (freeTxid s.dev sl) line m.die e.owner)) ∧
         ((op = .rdx ∨ op = .upg ∨ op = .zro) → Sent d false (snoopMsg s.dev .fwdX (freeTxid s.dev sl) line m.die e.owner) ∧
           dirOf d line = some { e with st := .x, owner := m.die, pres := 2 ^ m.die, bpres := 0 } ∧
           ∀ k ∈ onesOf e.pres 12, k ≠ m.die → k ≠ e.owner → Sent d false (snoopMsg s.dev .snpInv (freeTxid s.dev sl) line m.die k)) ∧
         (op = .cln → dirOf d line = some e ∧ Sent d false (snoopMsg s.dev .snpClean (freeTxid s.dev sl) line 15 e.owner)) ∧
         ((op = .fls ∨ op = .inv) → Sent d false (snoopMsg s.dev .snpFlush (freeTxid s.dev sl) line 15 e.owner) ∧
           ∀ k ∈ onesOf e.pres 12, k ≠ e.owner → Sent d false (snoopMsg s.dev .snpInv (freeTxid s.dev sl) line 15 k)))) ∧
  (∀ (who : AgentId) (addr : Nat) (s : State) (i : Instr) (op : AgentOp) (pool : Bool),
     ((i = .agentRead who addr ∧ op = .read) ∨ (∃ x k, i = .agentWrite who addr x k ∧ op = .write x (k % 2 ^ 64)) ∨
       (∃ o a b, i = .agentAtomic who addr o a b ∧ op = .atomic (addr % 64 / 8 * 8) o (a % 2 ^ 64) (b % 2 ^ 64))) →
     isMain s.dev addr = true →
     let line := lineOf addr
     let sl := homeSlice s.dev (line * 64)
     let allowed := getBit (potRights (potEntry s.dev addr) .normal) (b2n (opWrites op)) = true
     ((∀ rp tag t, who ≠ .device rp tag (some t)) → (∀ rp tag, who = .device rp tag none → allowed) →
       (∀ e ∈ (sliceOf_ s.dev sl).ingress, e.1 ≠ holderOf who ∧ e.2.1 ≠ line) → entryFor s.dev sl (holderOf who) = some pool →
       ∃ d0 t, exec i s = .next { s with dev := pump line d0 } ∧ (sliceOf_ d0 sl).trk = (sliceOf_ s.dev sl).trk ++ [t] ∧ t.holder = holderOf who ∧ t.pool = pool ∧
         t.line = line ∧ t.req = .agent who op ∧ t.started = false ∧ { sliceOf_ d0 sl with trk := (sliceOf_ s.dev sl).trk } = sliceOf_ s.dev sl ∧
         (∀ k, k ≠ sl → sliceOf_ d0 k = sliceOf_ s.dev k) ∧
         { d0 with slices := s.dev.slices, sites := s.dev.sites, obs := { d0.obs with ctr := s.dev.obs.ctr } } = s.dev) ∧
     (∀ rp tag, who = .device rp tag none → ¬ allowed → potClass (potEntry s.dev addr) ≠ 5 → potClass (potEntry s.dev addr) ≠ 7 →
       ∃ d, exec i s = .next { s with dev := d } ∧ d.out = s.dev.out ++ [.iommuFault (if opWrites op then 7 else 5) addr, .agentError (32 + rp) tag] ∧
         { d with out := s.dev.out, obs := { d.obs with ctr := s.dev.obs.ctr } } = s.dev))

/-- R209: a message to a slice, a tracker entry or the hub atomic unit from a stale or retired incarnation of a die is discarded and counted in DIE_LATE_DROPS,
whatever it carries; a die discards every message whose INC is not its own incarnation's. Neither has another effect. An IMSW to a retired die is R215's. No message passes while its die's link trains
or recovers (R145, R151). -/
def Obligations.StaleMessagesAreDropped : Prop :=
  (∀ (m : FMsg) (s : State) (i : Instr), Passes s.dev m.die → (m.inc ≠ (dieOf s.dev m.die).inc ∨ (dieOf s.dev m.die).retired = true) →
    (i ∈ [Instr.rds m, .rdc m, .rdw m, .rdx m, .upg m, .zro m, .cln m, .fls m, .inv m, .snpAck m, .fwdAck m, .killDone m, .protEnd m, .dataSnp m,
      .wbM m, .wbP m, .evn m] ∨ (m.up = true ∧ i ∈ [Instr.dataS m, .dataE m, .dataM m])) →
    ∃ d, exec i s = .next { s with dev := d } ∧ dieOf d m.die = { dieOf s.dev m.die with lateDrops := (dieOf s.dev m.die).lateDrops + 1 } ∧
      (∀ k, k ≠ m.die → dieOf d k = dieOf s.dev k) ∧ { d with dies := s.dev.dies, flight := s.dev.flight } = s.dev) ∧
  (∀ (m : FMsg) (file : Fin 9) (s : State) (i : Instr), Passes s.dev m.die → m.inc ≠ (dieOf s.dev m.die).inc →
    (i ∈ [Instr.cmp m, .kdone m, .wbAck m, .wbXack m, .dataNc m, .fwdS m, .fwdX m, .snpInv m, .snpPeek m, .snpClean m,
      .snpFlush m, .binv m] ∨ (m.up = false ∧ i ∈ [Instr.dataS m, .dataE m, .dataM m]) ∨ (i = .imsw m file ∧ (dieOf s.dev m.die).retired = false)) →
    ∃ d, exec i s = .next { s with dev := d } ∧ { d with flight := s.dev.flight } = s.dev) ∧
  (∀ (m : FMsg) (file : Fin 9) (s : State) (i : Instr), linkStalls (linkOf s.dev m.die) = true →
    i ∈ [Instr.rds m, .rdc m, .rdw m, .rdx m, .upg m, .zro m, .cln m, .fls m, .inv m, .snpAck m, .fwdAck m, .killDone m, .protEnd m, .dataSnp m,
      .wbM m, .wbP m, .evn m, .dataS m, .dataE m, .dataM m, .cmp m, .kdone m, .wbAck m, .wbXack m, .dataNc m, .fwdS m, .fwdX m, .snpInv m, .snpPeek m,
      .snpClean m, .snpFlush m, .binv m, .imsw m file] → exec i s = .next s)

/-- A forward or snoop that reaches an awake die with its current incarnation, with no fill open and no reservation on the line, which its caches hold (R172, R183, R184, R190, R193): the copy's
state changes and the die answers as the message's rule says, KP set where the end of the copy kills translations; no other line of any die, no byte of memory and no register changes. -/
def Obligations.SnoopsChangeTheCopy : Prop :=
  ∀ (m : FMsg) (s : State) (l : DLine),
    let n := m.die
    let line := lineOf m.addr
    m.inc = (dieOf s.dev n).inc → Passes s.dev n → missOf s.dev n line = none → resvDefers s.dev n line = none → dieLine s.dev n line = some l → wbOf s.dev n line = none →
    (linkOf s.dev n).state ≠ .folded → (∀ h ∈ hartsOfDie n, (hartOf s.dev h).rest ≠ .retain) →
    let dirty := isDirtyState l.st
    let kp := l.walked != 0
    let ack (op : Op) (dirty kp : Bool) : FMsg := { msgOf s.dev op n with up := true, txid := m.txid, addr := m.addr, held := true, dirty := dirty, kp := kp }
    let data (op : Op) (held dirty kp : Bool) : FMsg := { ack op dirty kp with held := held, data := l.data, poison := l.poison }
    let does (i : Instr) (after : Option DLine) (ms : List FMsg) : Prop := ∃ d, exec i s = .next { s with dev := d } ∧ dieLine d n line = after ∧
      (∀ k z, (k ≠ n ∨ z ≠ line) → dieLine d k z = dieLine s.dev k z) ∧ (∀ q ∈ ms, Sent d true q) ∧ CacheOnly s.dev d
    does (.snpInv m) none [ack .snpAck false kp] ∧
    does (.snpPeek m) (some l) [data .dataSnp true dirty false] ∧
    does (.snpClean m) (some { l with st := match l.st with | .mm => .ee | .oo => .ss | st => st }) [if dirty then data .dataSnp true true false else ack .snpAck false false] ∧
    does (.snpFlush m) none [if dirty then data .dataSnp true true kp else ack .snpAck false kp] ∧
    does (.binv m) none [if dirty then data .dataSnp true true kp else ack .snpAck false kp] ∧
    does (.fwdS m) (some { l with st := if dirty then .oo else .ss }) [data .dataS false dirty false, ack .fwdAck dirty false] ∧
    does (.fwdX m) none [data (if dirty then .dataM else .dataE) false dirty kp, ack .fwdAck false kp]

/-- An answer that reaches the hub from a die in service (R184, R190, R192, R193, R195). SNP_ACK and KILL_DONE leave the tracker entry one answer or one done less to wait for; PROT_END ends the walking
die's protection of the line, and the 2 µs bound the oldest. FWD_ACK gives the directory the state the owner reports, and one with HELD 0 is a directory error, recorded, that leaves no entry.
DATA_SNP of a dirty line is written to memory for CLN, FLS and an eviction, not for INV, and is the line's value for an agent. After each the slice moves the line's requests on. -/
def Obligations.AnswersMoveTheTracker : Prop :=
  ∀ (m : FMsg) (s : State), InService s.dev m → Passes s.dev m.die →
    let slicesOnly (d : Dev) : Prop := { d with slices := s.dev.slices, flight := s.dev.flight } = s.dev
    let got (t : Trk) : Trk := { t with
      acks := t.acks.filter (· != m.die), victims := t.victims.filter (· != m.die), kills := if m.kp then t.kills ++ [m.die] else t.kills, hadKills := t.hadKills || m.kp }
    let awake (sl set : Nat) (d : Dev) : Dev :=
      ((sliceOf_ d sl).trk.filter (fun t => (sliceOf_ d sl).setWait.contains t.txid && dirSet t.line == set)).foldl (fun d t => pump t.line d) d
    (∃ d0, exec (.snpAck m) s = .next { s with dev := pump (trkLine s.dev m.txid) d0 } ∧ (∀ t, trkOf s.dev m.txid = some t → trkOf d0 m.txid = some (got t)) ∧ slicesOnly d0) ∧
    (∃ d0, exec (.killDone m) s = .next { s with dev := pump (trkLine s.dev m.txid) d0 } ∧
      (∀ t, trkOf s.dev m.txid = some t → trkOf d0 m.txid = some { t with kills := t.kills.erase m.die }) ∧ slicesOnly d0) ∧
    (let line := lineOf m.addr
     let sl := homeSlice s.dev (line * 64)
     ∃ d0, exec (.protEnd m) s = .next { s with dev := awake sl (dirSet line) (pump line d0) } ∧
      (sliceOf_ d0 sl).protect = (sliceOf_ s.dev sl).protect.filter (fun p => !(p.1 == line && p.2 == m.die)) ∧ slicesOnly d0) ∧
    (∀ line n, let sl := homeSlice s.dev (line * 64)
      (sliceOf_ s.dev sl).protect.find? (fun e => e.1 == line) = some (line, n) →
      ∃ d0, exec (.walkProtectTimeout line) s = .next { s with dev := awake sl (dirSet line) (pump line d0) } ∧
        (sliceOf_ d0 sl).protect = (sliceOf_ s.dev sl).protect.filter (fun p => !(p.1 == line && p == (line, n))) ∧ slicesOnly d0) ∧
    (∀ t q e, trkOf s.dev m.txid = some t → t.req = .die q → (q.op = .rds ∨ q.op = .rdc ∨ q.op = .rdw) → m.held = true → t.late = false → t.holder < 12 →
      (dieOf s.dev t.holder).retired = false → dirOf s.dev t.line = some e → e.owner = m.die → (e.st = .x ∨ e.st = .o) →
      ∃ d0, exec (.fwdAck m) s = .next { s with dev := pump t.line d0 } ∧ slicesOnly d0 ∧ trkOf d0 m.txid = some (got t) ∧
        dirOf d0 t.line = some { e with st := if m.dirty then .o else .s, owner := if m.dirty then m.die else 0, pres := setBit e.pres t.holder true }) ∧
    (∀ t, trkOf s.dev m.txid = some t → m.held = false →
      ∃ d0, exec (.fwdAck m) s = .next { s with dev := pump t.line d0 } ∧ dirOf d0 t.line = none ∧ d0.obs.mcSeq = s.dev.obs.mcSeq + 1 ∧
        (∀ k, k < 12 → dieLine d0 k t.line = none)) ∧
    (∀ t, trkOf s.dev m.txid = some t →
      (∀ v, t.victim = some v → m.die ∈ t.victims →
        ∃ d0, exec (.dataSnp m) s = .next { s with dev := pump t.line (answered m.txid m.die m.kp (if m.dirty then memWrite v m.data m.poison d0 else d0)) } ∧
          { d0 with flight := s.dev.flight } = s.dev) ∧
      (∀ q, t.victims = [] → t.req = .die q → (q.op = .fls ∨ q.op = .inv) →
        ∃ d0, exec (.dataSnp m) s = .next { s with dev := pump t.line (answered m.txid m.die m.kp (if m.dirty ∧ q.op = .fls then memWrite t.line m.data m.poison d0 else d0)) } ∧
          { d0 with flight := s.dev.flight } = s.dev) ∧
      (∀ q e, t.victims = [] → t.req = .die q → q.op = .cln → m.dirty = true → dirOf s.dev t.line = some e →
        ∃ d0, exec (.dataSnp m) s = .next { s with dev := pump t.line (answered m.txid m.die m.kp
            (if e.st = .o then putDir t.line .s 0 e.pres e.bpres (memWrite t.line m.data m.poison d0) else memWrite t.line m.data m.poison d0)) } ∧
          { d0 with flight := s.dev.flight } = s.dev) ∧
      (∀ w op, t.victims = [] → t.req = .agent w op →
        ∃ d0, exec (.dataSnp m) s = .next { s with dev := pump t.line d0 } ∧ slicesOnly d0 ∧
          trkOf d0 m.txid = some (got { t with data := some m.data, poison := m.poison, dirty := m.dirty })))

/-- Data and completions that reach a die on which nothing waits and nothing is deferred or owed (R120, R171, R179, R183, R184, R190, R195). Data of an open miss installs the line in the requesting core in the state
the message grants, a CBO.ZERO's as zeros in M; a line that waits only for its CMP becomes writable in that core alone; KP leaves a kill owed. An owner's data on its way up goes down to the requester of
its tracker entry. CMP completes a maintenance operation or an uncached store, DATA_NC an uncached load; KDONE settles what its miss owed, and completes a TSYNC that waited for it alone. An acknowledged
write-back frees its entry, and where it was not taken the line returns to the L3. -/
def Obligations.FillsInstallLines : Prop :=
  (∀ (m : FMsg) (s : State) (ms : Miss) (i : Instr) (st : Moesi), ((i = .dataS m ∧ st = .ss) ∨ (i = .dataE m ∧ st = .ee) ∨ (i = .dataM m ∧ st = .mm)) →
    let n := m.die
    let h := 18 * n + ms.core
    m.up = false → m.inc = (dieOf s.dev n).inc → Passes s.dev n → missByTag s.dev n m.rtag = some ms → (∀ t, trkOf s.dev m.txid = some t → t.needCmp = false) →
    (∀ k ∈ s.dev.flight ++ (linkOf s.dev n).down.queue, k.op ≠ .cmp) → DieQuiet s.dev n → ms.queued = [] → ms.core < 18 →
    ∃ d l, exec i s = .next { s with dev := d } ∧ missByTag d n m.rtag = none ∧ dieLine d n ms.line = some l ∧
      (ms.op ≠ .zro → l.st = st ∧ l.data = m.data ∧ l.poison = m.poison) ∧ (ms.op = .zro → l.st = .mm ∧ l.data = 0 ∧ l.poison = false) ∧
      l.cores = 2 ^ ms.core ∧ l.owner = ms.core ∧ (hartOf d h).debts = (hartOf s.dev h).debts ++ (if m.kp && !ms.kdone then [{ line := ms.line, rtag := some ms.rtag }] else []) ∧
      CacheOnly s.dev d) ∧
  (∀ (m : FMsg) (s : State) (r tag : Nat) (i : Instr) (op : Op), ((i = .dataS m ∧ op = .dataS) ∨ (i = .dataE m ∧ op = .dataE) ∨ (i = .dataM m ∧ op = .dataM)) →
    m.up = true → InService s.dev m → Passes s.dev m.die → trkFrom s.dev m.txid = some (r, tag) → (dieOf s.dev r).retired = false →
    ∃ d0, exec i s = .next { s with dev := pump (trkLine s.dev m.txid) d0 } ∧ (∀ t, trkOf s.dev m.txid = some t → trkOf d0 m.txid = some { t with routed := true }) ∧
      Sent d0 false { m with op := op, up := false, die := r, inc := (dieOf s.dev r).inc, rtag := tag } ∧ FabricOnly s.dev d0) ∧
  (∀ (m : FMsg) (s : State) (ms : Miss) (l : DLine), let n := m.die
    m.inc = (dieOf s.dev n).inc → Passes s.dev n → missByTag s.dev n m.rtag = some ms → (ms.op = .upg ∨ ms.op = .rdx) → ms.gotData = false →
    (∀ k ∈ s.dev.flight ++ s.dev.links.flatMap (fun e => e.2.up.queue ++ e.2.down.queue) ++ (linkOf s.dev n).down.queue, isDataOp k.op = false) → dieLine s.dev n ms.line = some l →
    DieQuiet s.dev n → ms.queued = [] → ms.core < 18 →
    ∃ d, exec (.cmp m) s = .next { s with dev := d } ∧ missByTag d n m.rtag = none ∧ CacheOnly s.dev d ∧
      dieLine d n ms.line = some { l with
        st := if isDirtyState l.st then .mm else .ee, cores := 2 ^ ms.core, owner := ms.core, l3 := false, l1i := 0, l1d := 2 ^ ms.core } ∧
      (∀ k z, (k ≠ n ∨ z ≠ ms.line) → dieLine d k z = dieLine s.dev k z)) ∧
  (∀ (m : FMsg) (s : State) (ms : Miss) (w : Waiting), let n := m.die
    let h := 18 * n + ms.core
    let x := hartOf s.dev h
    m.inc = (dieOf s.dev n).inc → Passes s.dev n → missByTag s.dev n m.rtag = some ms → fillOp ms.op = false → ms.core < 18 → x.waiting = some w → w.line = ms.line →
    ((∃ va op, w.op = .cbo va op) ∨ ∃ va size v len, w.op = .store va size v len) → x.haltReq = false → waitLen s.dev h ≠ 0 → (dieOf s.dev n).owed = [] →
    (∀ k ∈ hartsOfDie n, ∀ e ∈ (hartOf s.dev k).debts, e.rtag ≠ none) →
    ∃ d, exec (.cmp m) s = .next { s with dev := d } ∧ missByTag d n m.rtag = none ∧
      Counted { x with waiting := none, pc := (x.pc + waitLen s.dev h) % 2 ^ 64 } (hartOf d h) ∧ Retired x (hartOf d h) ∧ (∀ k, k ≠ h → hartOf d k = hartOf s.dev k) ∧
      (∀ k z, dieLine d k z = dieLine s.dev k z) ∧ { d with harts := s.dev.harts, dies := s.dev.dies, flight := s.dev.flight, obs := { d.obs with ctr := s.dev.obs.ctr } } = s.dev) ∧
  (∀ (m : FMsg) (s : State) (ms : Miss) (w : Waiting) (va size : Nat) (dst : Dst) (sg : Bool) (len : Nat), let n := m.die
    let h := 18 * n + ms.core
    let x := hartOf s.dev h
    m.inc = (dieOf s.dev n).inc → Passes s.dev n → missByTag s.dev n m.rtag = some ms → fillOp ms.op = false → ms.core < 18 → x.waiting = some w → w.line = ms.line →
    w.op = .load va size dst sg len → dst ≠ .inst → len ≠ 0 → m.poison = false → x.haltReq = false → (dieOf s.dev n).owed = [] →
    (∀ k ∈ hartsOfDie n, ∀ e ∈ (hartOf s.dev k).debts, e.rtag ≠ none) →
    let y := deliver dst size sg (m.data.toNat % 2 ^ (8 * size)) x
    ∃ d, exec (.dataNc m) s = .next { s with dev := d } ∧ missByTag d n m.rtag = none ∧
      Counted { y with waiting := none, pc := (x.pc + len) % 2 ^ 64 } (hartOf d h) ∧ Retired x (hartOf d h) ∧ (∀ k, k ≠ h → hartOf d k = hartOf s.dev k) ∧
      (∀ k z, dieLine d k z = dieLine s.dev k z) ∧ { d with harts := s.dev.harts, dies := s.dev.dies, flight := s.dev.flight, obs := { d.obs with ctr := s.dev.obs.ctr } } = s.dev) ∧
  (∀ (m : FMsg) (s : State), let n := m.die
    m.inc = (dieOf s.dev n).inc → Passes s.dev n → (∀ h ∈ hartsOfDie n, (hartOf s.dev h).waiting = none) →
    ∃ d, exec (.kdone m) s = .next { s with dev := d } ∧
      (∀ h, hartOf d h = if dieOfHart h = n then { hartOf s.dev h with debts := (hartOf s.dev h).debts.filter (fun e => e.rtag != some m.rtag) } else hartOf s.dev h) ∧
      (∀ x, missByTag s.dev n m.rtag = some x → missByTag d n m.rtag = some { x with kdone := true }) ∧
      { d with dies := s.dev.dies, flight := s.dev.flight, harts := s.dev.harts } = s.dev) ∧
  (∀ (m : FMsg) (s : State) (h : HartN) (w : Waiting), let n := m.die
    let x := hartOf s.dev h
    dieOfHart h = n → m.inc = (dieOf s.dev n).inc → Passes s.dev n → x.waiting = some w → w = waitingFor .tsync → x.debts ≠ [] → (∀ e ∈ x.debts, e.rtag = some m.rtag) →
    (∀ k ∈ hartsOfDie n, k ≠ h.val → (hartOf s.dev k).waiting = none) → x.haltReq = false →
    ∃ d, exec (.kdone m) s = .next { s with dev := d } ∧ Counted { x with waiting := none, debts := [], pc := (x.pc + 4) % 2 ^ 64 } (hartOf d h) ∧ Retired x (hartOf d h)) ∧
  (∀ (m : FMsg) (s : State) (e : WbEnt) (i : Instr), let n := m.die
    let line := lineOf m.addr
    (i = .wbAck m ∨ i = .wbXack m) → m.inc = (dieOf s.dev n).inc → Passes s.dev n → (∀ h ∈ hartsOfDie n, (hartOf s.dev h).waiting = none) → (dieOf s.dev n).phase ≠ .draining →
    ((dieOf s.dev n).wb.filter (fun y => y.line == line)) = [e] → snoopComing { s.dev with flight := s.dev.flight.erase { m with op := if i = .wbAck m then .wbAck else .wbXack, up := false } } n line = false →
    dieLine s.dev n line = none → (l3Lines s.dev n).length < 786432 →
    ∃ d, exec i s = .next { s with dev := d } ∧ wbOf d n line = none ∧
      dieLine d n line = (if i = .wbXack m ∧ e.st ≠ .ii then
        some { st := e.st, data := e.data, poison := e.poison, cores := 0, owner := 18, walked := 0, l3 := true, l1i := 0, l1d := 0 } else none) ∧
      (∀ k z, (k ≠ n ∨ z ≠ line) → dieLine d k z = dieLine s.dev k z) ∧ { d with dies := s.dev.dies, flight := s.dev.flight } = s.dev)

/-- Write-backs (R186, R195, R196). The dirty line of its owner, with no forward in flight, goes to memory, and the directory forgets the owner or keeps the other sharers; any other write-back is
acknowledged without its data. A clean notice clears the die's presence; where a snoop crosses it the die answers that snoop first.

The hub releases an atomic line to memory and its entry (R188); a free tracker entry goes to the oldest waiting request that may take it, and a die's withheld credits go back (R202, R203); a set's retry credit goes
to the oldest request that waits for the set (R206). -/
def Obligations.WriteBacksAndReleases : Prop :=
  (∀ (m : FMsg) (s : State) (i : Instr) (op : Op) (e : WbEnt), ((i = .wbM m ∧ op = .wbM) ∨ (i = .wbP m ∧ op = .wbP)) →
    let line := lineOf m.addr
    let st := dstate s.dev line
    InService s.dev m → Passes s.dev m.die → s.dev.flight.contains { m with op := op, up := true } = true →
    dieLine s.dev m.die line = none → wbOf s.dev m.die line = some e →
    let d0 := arrive { m with op := op, up := true } s.dev
    let d1 := memWrite line e.data (e.poison || op == .wbP) d0
    let taken := (st = .x ∨ st = .o) ∧ ownerOf s.dev line = m.die ∧ snoopOpen s.dev m.die line = false
    (taken → (st = .x ∨ ∀ x, dirOf s.dev line = some x → setBit x.pres m.die false = 0 ∧ x.bpres = 0) →
      exec i s = .next { s with dev := pump line (wbAnswer .wbAck m.die line (setDir line none d1)) }) ∧
    (∀ x, taken → st = .o → dirOf s.dev line = some x → (setBit x.pres m.die false ≠ 0 ∨ x.bpres ≠ 0) →
      exec i s = .next { s with dev := pump line (wbAnswer .wbAck m.die line (putDir line .s 0 (setBit x.pres m.die false) x.bpres d1)) }) ∧
    (¬ taken → exec i s = .next { s with dev := pump line (wbAnswer .wbXack m.die line d0) })) ∧
  (∀ (m : FMsg) (s : State) (e : DirEnt),
    let line := lineOf m.addr
    InService s.dev m → Passes s.dev m.die → s.dev.flight.contains { m with op := .evn, up := true } = true →
    dieLine s.dev m.die line = none → dirOf s.dev line = some e → getBit e.pres m.die = true →
    (snoopOpen s.dev m.die line = true → exec (.evn m) s = .next { s with dev := pump line (wbAnswer .wbXack m.die line (arrive { m with op := .evn, up := true } s.dev)) }) ∧
    (snoopOpen s.dev m.die line = false → e.st = .s →
      ∃ d0, exec (.evn m) s = .next { s with dev := pump line (wbAnswer .wbAck m.die line d0) } ∧ { d0 with slices := s.dev.slices, flight := s.dev.flight } = s.dev ∧
        dirOf d0 line = if setBit e.pres m.die false = 0 ∧ e.bpres = 0 then none else some { e with owner := 0, pres := setBit e.pres m.die false })) ∧
  (∀ (line : Nat) (s : State) (x : Line) (p : Bool), (sliceOf_ s.dev (homeSlice s.dev (line * 64))).hLine.find? (fun h => h.1 == line) = some (line, x, p) →
    ∃ d0, exec (.hubAtomicRelease line) s = .next { s with dev := pump line (memWrite line x p (setDir line none d0)) } ∧
      (sliceOf_ d0 (homeSlice s.dev (line * 64))).hLine = (sliceOf_ s.dev (homeSlice s.dev (line * 64))).hLine.filter (fun y => y.1 != line) ∧
      { d0 with slices := s.dev.slices } = s.dev) ∧
  (∀ (sl : SliceN) (s : State) (e : Nat × Nat × Req × Nat) (pool : Bool), nextWaiting s.dev sl [] (sliceOf_ s.dev sl).ingress = some e → entryFor s.dev sl e.1 = some pool →
    ∃ d0 t, exec (.trackerEntryFree sl) s = .next { s with dev := if e.1 < 12 then returnCredits e.1 true (pump e.2.1 d0) else pump e.2.1 d0 } ∧
      (sliceOf_ d0 sl).ingress = (sliceOf_ s.dev sl).ingress.erase e ∧ (sliceOf_ d0 sl).trk = (sliceOf_ s.dev sl).trk ++ [t] ∧ t.holder = e.1 ∧ t.pool = pool ∧ t.line = e.2.1 ∧
      t.req = e.2.2.1 ∧ t.order = e.2.2.2 ∧ t.started = false ∧ { d0 with slices := s.dev.slices } = s.dev) ∧
  (∀ (sl : SliceN) (set : Nat) (s : State) (tx : Nat) (t : Trk),
    (sliceOf_ s.dev sl).setWait.find? (fun tx => match trkOf s.dev tx with | some t => dirSet t.line == set | none => false) = some tx → trkOf s.dev tx = some t →
    exec (.setRetryCredit sl set) s = .next { s with dev := pump t.line s.dev })

/-! ### A die leaves and returns -/

/-- A die that drains and is drained is withdrawn (R210, R211): its incarnation retires, it holds no line, its link is withdrawn and its harts keep their state but no translation, without power after a
withdraw that asks for it. A completed sweep leaves no entry that names the die, and the die fenced (R213). The cleaner sends CLN for the oldest dirty mirrored line that is not being cleaned, once more than half
of DIRTY_MAX are dirty (R410).

The bounds whose excess loses a die fence it with the cause of R212: 5 a withdraw, 4 an unanswered message while the link is up, 3 a fold that does not wake, 1 a readmission whose link has not
trained. Outside a pair a fenced die's incarnation retires, its entries wait for the sweep, and its harts lose what they held (R213, R215). -/
def Obligations.LossAndWithdrawOfDies : Prop :=
  (∀ (n : DieN) (s : State), (dieOf s.dev n).phase = .draining → drained s.dev n = true →
    ∃ d, exec (.withdrawDrainComplete n) s = .next { s with dev := d } ∧
      DieOnly s.dev { d with links := s.dev.links, harts := s.dev.harts } n { dieOf s.dev n with
        phase := .withdrawn, retired := true, cache := [], misses := [], deferred := [], owed := [], dirtyOrder := [] } ∧
      linkOf d n = { linkOf s.dev n with state := .withdrawn } ∧ (∀ k, k ≠ n.val → linkOf d k = linkOf s.dev k) ∧
      (∀ h, hartOf d h = if dieOfHart h = n.val then
          { keepTlb (fun _ => false) (hartOf s.dev h) with
            sweeps := [], debts := [], powered := (hartOf s.dev h).powered && !(dieOf s.dev n).withdrawReset }
        else hartOf s.dev h)) ∧
  (∀ (n : DieN) (s : State), (dieOf s.dev n).phase = .sweeping →
    ∃ d, exec (.directorySweepComplete n) s = .next { s with dev := d } ∧ (dieOf d n).phase = .fenced ∧
      (∀ l e, dirOf d l = some e → getBit e.pres n = false ∧ ¬ (e.owner = n.val ∧ (e.st = .x ∨ e.st = .o))) ∧ d.harts = s.dev.harts) ∧
  (∀ (n : DieN) (s : State) (l : Nat), (dieOf s.dev n).phase = .inService → ent s.dev 0x6000 8 < 2 * dirtyCount s.dev n →
    (dieOf s.dev n).dirtyOrder.find? (fun l => !(dieOf s.dev n).misses.any (fun m => m.line == l)) = some l →
    ∃ d, exec (.mirrorCleaner n) s = .next { s with dev := d } ∧ (dieOf d n).misses = (dieOf s.dev n).misses ++ [{
        rtag := freeTag s.dev n, op := .cln, line := l, core := 31, kind := kindMaint, gotData := false, gotCmp := false, needCmp := false, kdone := false, queued := [] }] ∧
      Sent d true { msgOf s.dev .cln n with up := true, rtag := freeTag s.dev n, core := 31, addr := l * 64 } ∧
      { d with dies := s.dev.dies, links := s.dev.links, flight := s.dev.flight, out := s.dev.out, obs := { d.obs with ctr := s.dev.obs.ctr } } = s.dev) ∧
  (∀ (n : DieN) (s : State),
    ((dieOf s.dev n).phase = .draining → exec (.withdrawTimeout n) s = .next { s with dev := fenceDie n 5 s.dev }) ∧
    ((linkOf s.dev n).state = .up → s.dev.slices.any (fun x => x.2.trk.any (awaitsDie n)) = true →
      exec (.fabricRespTimeout n) s = .next { s with dev := fenceDie n 4 s.dev }) ∧
    ((linkOf s.dev n).state = .folded → (linkOf s.dev n).wakeSent = true → exec (.foldWakeTimeout n) s = .next { s with dev := fenceDie n 3 s.dev }) ∧
    ((dieOf s.dev n).phase = .readmitting → (linkOf s.dev n).state ≠ .up → exec (.readmitTrainingTimeout n) s = .next { s with dev := fenceDie n 1 s.dev })) ∧
  (∀ (n : DieN) (cause : Nat) (d : Dev), inPair d = false → ((dieOf d n).phase = .inService ∨ (dieOf d n).phase = .draining ∨ (dieOf d n).phase = .readmitting) →
    let y := fenceDie n cause d
    (dieOf y n).phase = .sweeping ∧ (dieOf y n).cause = cause ∧ (dieOf y n).retired = true ∧ (dieOf y n).fences = min 255 ((dieOf d n).fences + 1) ∧
      (∀ h ∈ hartsOfDie n, hartRuns y h = false ∧ (hartOf y h).x = [] ∧ (hartOf y h).tlb = []))

/-- The loss of a die of a package in a pair is the loss of the package (R217): the die is fenced and its incarnation retired, one record is written, the mirror is
STOPPED with LOSS cause 1, every hart of the package stops, and memory and the harts' state are as they were. -/
def Obligations.DieLossInAPairStopsThePackage : Prop :=
  ∀ (n cause : Nat) (d : Dev), inPair d = true → ((dieOf d n).phase = .inService ∨ (dieOf d n).phase = .draining ∨ (dieOf d n).phase = .readmitting) →
    (dieOf (fenceDie n cause d) n).phase = .fenced ∧ (dieOf (fenceDie n cause d) n).cause = cause ∧ (dieOf (fenceDie n cause d) n).retired = true ∧
    (fenceDie n cause d).mirror.phase = 8 ∧ (fenceDie n cause d).mirror.lossCause = 1 ∧ (fenceDie n cause d).obs.mcSeq = d.obs.mcSeq + 1 ∧
    (∀ h, hartRuns (fenceDie n cause d) h = false) ∧ (fenceDie n cause d).mem = d.mem ∧ (fenceDie n cause d).harts = d.harts

/-! ### The memory side -/

/-- The memory-side cache's own commands (R226–R228, R231, R233–R235). A completed flush leaves the slice disabled and stale, without a dirty line and with an empty eviction buffer; a drain
hands the buffer's oldest entry to the channel, which has room; maintenance that nothing holds ends DONE, with every line of its scope clean (CLEAN) or gone. A scrub that finds nothing changes nothing; a corrected
error is counted and recorded; an uncorrectable one of a clean line refetches it, of a dirty line poisons it; one in the META_CHECK bits stops every hart of a package outside a pair. -/
def Obligations.MscCommands : Prop :=
  (∀ (n : SliceN) (s : State), (mscOf s.dev n).state = 2 →
    ∃ d, exec (.mscFlushComplete n) s = .next { s with dev := d } ∧ (mscOf d n).state = 0 ∧ (mscOf d n).stale = true ∧ (mscOf d n).evb = [] ∧
      (dryOf d 0x4101 (n + 1)).pend = false ∧ (∀ k e, tabGet none d.msc k = some e → k / 2 ^ 19 = n.val → e.dirty = false) ∧
      d.slices = s.dev.slices ∧ d.harts = s.dev.harts ∧ d.dies = s.dev.dies) ∧
  (∀ (n : SliceN) (s : State) (e : Nat × Line × Bool) (r : List (Nat × Line × Bool)), (mscOf s.dev n).evb = e :: r → (subOf s.dev (subKey s.dev e.1)).wq.length < 64 →
    ∃ d, exec (.evictionBufferDrain n) s = .next { s with dev := d } ∧ (mscOf d n).evb = r ∧
      (∃ w ∈ (subOf d (subKey s.dev e.1)).wq, w.line = e.1 ∧ w.data = e.2.1 ∧ w.poison = e.2.2) ∧
      { d with mscs := s.dev.mscs, subs := s.dev.subs, obs := { d.obs with ctr := s.dev.obs.ctr } } = s.dev) ∧
  (∀ s : State, s.dev.maint.busy = true → (maintSlices s.dev.maint).any (fun n => (mscOf s.dev n).state == 2) = false → maintWaits s.dev = false →
    ∃ d, exec .mscMaintDone s = .next { s with dev := d } ∧ d.maint = { s.dev.maint with busy := false, done := true, written := d.maint.written } ∧
      (∀ n ∈ maintSlices s.dev.maint, (mscOf d n).maint = false) ∧
      (∀ k e, tabGet none d.msc k = some e → k / 2 ^ 19 ∈ maintSlices s.dev.maint → maintCovers s.dev.maint (k / 2 ^ 19) e.line = true →
        s.dev.maint.op = 1 ∧ e.dirty = false)) ∧
  (∀ (n : SliceN) (i : Nat) (s : State), (mscOf s.dev n).state = 1 →
    let key := n * 2 ^ 19 + i % 2 ^ 19
    exec (.mscPatrolScrub n i .none) s = .next s ∧
    (∃ d, exec (.mscPatrolScrub n i .corrected) s = .next { s with dev := d } ∧ d.msc = s.dev.msc ∧ d.mem = s.dev.mem ∧
      tabGet 0 d.obs.ce (ceKey 4 n) = tabGet 0 s.dev.obs.ce (ceKey 4 n) + 1 ∧ s.dev.obs.mcSeq < d.obs.mcSeq) ∧
    (∀ e, tabGet none s.dev.msc key = some e → e.dirty = false →
      ∃ d, exec (.mscPatrolScrub n i .uncorrectable) s = .next { s with dev := d } ∧ d.mem = s.dev.mem ∧
        tabGet none d.msc key = some { e with data := (chanRead s.dev e.line).1, poison := (chanRead s.dev e.line).2 }) ∧
    (∀ e, tabGet none s.dev.msc key = some e → e.dirty = true →
      ∃ d, exec (.mscPatrolScrub n i .uncorrectable) s = .next { s with dev := d } ∧ d.mem = s.dev.mem ∧ s.dev.obs.mcSeq < d.obs.mcSeq ∧
        tabGet none d.msc key = some { e with poison := true }) ∧
    (inPair s.dev = false → ∃ d, exec (.mscPatrolScrub n i .badMeta) s = .next { s with dev := d } ∧ d.fatal = true ∧ (∀ h, hartRuns d h = false) ∧ d.mem = s.dev.mem ∧
      d.obs.mcSeq = s.dev.obs.mcSeq + 1))

/-- A channel's reads and writes (R245, R246, R260). The read that is due leaves its queue and reaches the transaction that waits for it, and reads that waited for room enter; the oldest write of a queue that may issue
reaches DRAM and leaves the queue, and no other line of DRAM changes.

A channel's rows, refreshes and low-power states (R246, R248, R249, R264). A bank idle long enough closes its row. A refresh issues every refresh its rank owes, or is postponed while reads for the rank are queued and fewer than REF_POSTPONE_MAX are
owed. A rank enters power-down with its banks closed. Self-refresh is entered with both write queues written to DRAM, no line reading otherwise for it, and left on the next access; a retraining round that fell due meanwhile runs then. -/
def Obligations.DramTraffic : Prop :=
  (∀ (n : SliceN) (b : Bool) (s : State) (e : RdEnt), let k := 2 * n.val + b2n b
    chanLive (chanOf s.dev n) = true → nextRead s.dev k = some e →
    ∃ d0, exec (.dramReadIssue n b .none) s = .next { s with dev := (readWaiters (pump e.line d0) k).foldl (fun d l => pump l d) (pump e.line d0) } ∧
      (subOf d0 k).rq = (subOf s.dev k).rq.erase e ∧ ((∀ j, (subOf s.dev j).wq.length < 64) → d0.mem = s.dev.mem) ∧
      (∀ t, trkOf s.dev e.txid = some t → trkOf d0 e.txid = some { t with data := some (chanRead s.dev e.line).1, poison := (chanRead s.dev e.line).2, reading := false })) ∧
  (∀ (n : SliceN) (b : Bool) (s : State) (w : WrEnt) (r : List WrEnt), let k := 2 * n.val + b2n b
    chanLive (chanOf s.dev n) = true → (subOf s.dev k).wq = w :: r → ((subOf s.dev k).draining = true ∨ w.at_ + 2000 ≤ s.dev.now ∨ (subOf s.dev k).rq = []) →
    ∃ d, exec (.dramWriteIssue n b) s = .next { s with dev := d } ∧ (subOf d k).wq = r ∧ dramLine d w.line = (w.data, w.poison) ∧
      (∀ l, l ≠ w.line → dramLine d l = dramLine s.dev l) ∧
      { d with mem := s.dev.mem, poison := s.dev.poison, subs := s.dev.subs, chans := s.dev.chans, obs := { d.obs with ctr := s.dev.obs.ctr } } = s.dev) ∧
  (∀ (n : SliceN) (b : Bool) (rank bank : Nat) (s : State), ∃ d, exec (.rowPrechargeIdle n b rank bank) s = .next { s with dev := d } ∧
    subOf d (2 * n + b2n b) = { subOf s.dev (2 * n + b2n b) with openRow := tabSet none (subOf s.dev (2 * n + b2n b)).openRow (bankKey rank bank) none } ∧
    (∀ k, k ≠ 2 * n + b2n b → subOf d k = subOf s.dev k) ∧ { d with subs := s.dev.subs } = s.dev) ∧
  (∀ (n : SliceN) (rank : Nat) (s : State), chanLive (chanOf s.dev n) = true → rank < (chanOf s.dev n).dimm.ranks →
    let queued := ∃ k ∈ [2 * n.val, 2 * n.val + 1], ∃ e ∈ (subOf s.dev k).rq, rankOf s.dev (e.line * 64) = rank
    let owed := tabGet 0 (chanOf s.dev n).owed rank + 1
    ∃ d, exec (.dramRefresh n rank) s = .next { s with dev := d } ∧
      (¬ (queued ∧ owed < ent s.dev 0x4022 0) → tabGet 0 (chanOf d n).owed rank = 0 ∧ rank ∉ (chanOf d n).powerDown ∧
        ∀ k ∈ [2 * n.val, 2 * n.val + 1], ∀ e ∈ (subOf d k).openRow, e.1 / 32 ≠ rank) ∧
      (queued → owed < ent s.dev 0x4022 0 → tabGet 0 (chanOf d n).owed rank = owed ∧ d.subs = s.dev.subs) ∧
      { d with chans := s.dev.chans, subs := s.dev.subs, obs := { d.obs with ctr := s.dev.obs.ctr } } = s.dev) ∧
  (∀ (n : SliceN) (rank : Nat) (s : State), chanLive (chanOf s.dev n) = true → rank < (chanOf s.dev n).dimm.ranks →
    ∃ d, exec (.powerDownEntry n rank) s = .next { s with dev := d } ∧ ChanOnly { s.dev with subs := d.subs } d n { chanOf s.dev n with powerDown := nubNat ((chanOf s.dev n).powerDown ++ [rank]) } ∧
      (∀ k ∈ [2 * n.val, 2 * n.val + 1], ∀ e ∈ (subOf d k).openRow, e.1 / 32 ≠ rank)) ∧
  (∀ (n : SliceN) (s : State), chanLive (chanOf s.dev n) = true → ent s.dev 0x4026 0 ≠ 0 → (subOf s.dev (2 * n)).rq = [] → (subOf s.dev (2 * n + 1)).rq = [] →
    ∃ d, exec (.selfRefreshEntry n) s = .next { s with dev := d } ∧ (chanOf d n).selfRefresh = true ∧ (chanOf d n).owed = [] ∧ (chanOf d n).powerDown = [] ∧
      (∀ k ∈ [2 * n.val, 2 * n.val + 1], (subOf d k).wq = [] ∧ (subOf d k).openRow = []) ∧
      ((∀ k ∈ [2 * n.val, 2 * n.val + 1], ((subOf s.dev k).wq.map (fun w => w.line)).Nodup ∧ ∀ w ∈ (subOf s.dev k).wq, subKey s.dev w.line = k) →
        ∀ l, chanRead d l = chanRead s.dev l) ∧
      { d with mem := s.dev.mem, poison := s.dev.poison, subs := s.dev.subs, chans := s.dev.chans, obs := { d.obs with ctr := s.dev.obs.ctr } } = s.dev) ∧
  (∀ (n : SliceN) (s : State), (chanOf s.dev n).switching = false → ∃ d, exec (.selfRefreshExit n) s = .next { s with dev := d } ∧
    ((chanOf s.dev n).pauseDue = 0 → ChanOnly s.dev d n { chanOf s.dev n with selfRefresh := false }) ∧
    ((chanOf s.dev n).pauseDue ≠ 0 → (chanOf s.dev n).state = 2 → s.dev.kerf.step1 = none →
      ChanOnly { s.dev with subs := d.subs, obs := { s.dev.obs with ctr := d.obs.ctr } } d n { chanOf s.dev n with selfRefresh := false, lastRound := s.dev.now, pauseDue := 0 }))

/-- A channel's temperature, retraining, frequency change and zeroing (R248, R250, R253, R254, R256, R258, R264), patrol scrub (R260, R261), and the failure of a CXL window (R263). A temperature reading sets the doubled refresh and the throttle, a crossing
of the limit recorded. A pause retrains one package rank, and the round ends with the last of both subchannels; a forced round runs at once, or is owed while pauses may not run. A completed switch puts the slot and its speed in force. The next granule is zeroed. A scrub that
finds nothing changes nothing; an uncorrectable error in a zeroed granule poisons the line. A read that a CXL window has not answered in time fails the window and ends with poison. -/
def Obligations.DramMaintenance : Prop :=
  (∀ (n : SliceN) (temp : Nat) (s : State), (chanOf s.dev n).state = 2 →
    let hot := decide (ent s.dev 0x4027 0 ≤ temp)
    ∃ d, exec (.dimmTempRead n temp) s = .next { s with dev := d } ∧
      chanOf d n = { chanOf s.dev n with temp := temp % 256, hot := decide (85 < temp), throttle := hot } ∧ (∀ k, k ≠ n.val → chanOf d k = chanOf s.dev k) ∧
      d.obs.mcSeq = s.dev.obs.mcSeq + b2n (hot != (chanOf s.dev n).throttle) ∧ { d with chans := s.dev.chans, obs := s.dev.obs, out := s.dev.out } = s.dev) ∧
  (∀ (n : SliceN) (b : Bool) (s : State), let k := 2 * n.val + b2n b
    let ranks := (chanOf s.dev n).dimm.pranks
    (chanOf s.dev n).state = 2 → pauseAllowed s.dev n = true →
    (mayPause s.dev n = false → ∃ d, exec (.retrainPause n b) s = .next { s with dev := d } ∧
      ChanOnly s.dev d n { chanOf s.dev n with pauseDue := max (chanOf s.dev n).pauseDue 1 }) ∧
    (mayPause s.dev n = true → (subOf s.dev k).lastPause < ranks → ∃ d, exec (.retrainPause n b) s = .next { s with dev := d } ∧
      (¬ ((subOf s.dev k).lastPause + 1 = ranks ∧ (subOf s.dev (2 * n + b2n !b)).lastPause = ranks) →
        subOf d k = { subOf s.dev k with lastPause := (subOf s.dev k).lastPause + 1 } ∧ (∀ j, j ≠ k → subOf d j = subOf s.dev j) ∧ { d with subs := s.dev.subs } = s.dev) ∧
      ((subOf s.dev k).lastPause + 1 = ranks → (subOf s.dev (2 * n + b2n !b)).lastPause = ranks →
        (∀ j ∈ [2 * n.val, 2 * n.val + 1], subOf d j = { subOf s.dev j with lastPause := 0 }) ∧
        ChanOnly { s.dev with subs := d.subs, obs := { s.dev.obs with ctr := d.obs.ctr } } d n { chanOf s.dev n with lastRound := s.dev.now, pauseDue := 0 }))) ∧
  (∀ (n : SliceN) (s : State), (chanOf s.dev n).state = 2 → ∃ d, exec (.retrainForced n) s = .next { s with dev := d } ∧
    (mayPause s.dev n = true → (∀ j ∈ [2 * n.val, 2 * n.val + 1], subOf d j = { subOf s.dev j with lastPause := 0 }) ∧
      ChanOnly { s.dev with subs := d.subs, obs := { s.dev.obs with ctr := d.obs.ctr } } d n { chanOf s.dev n with lastRound := s.dev.now, pauseDue := 0 }) ∧
    (mayPause s.dev n = false → ChanOnly s.dev d n { chanOf s.dev n with pauseDue := max (chanOf s.dev n).pauseDue 2 })) ∧
  (∀ (n : SliceN) (s : State), (chanOf s.dev n).switching = true → (chanOf s.dev n).pauseDue = 0 → ∃ d, exec (.frequencySwitchComplete n) s = .next { s with dev := d } ∧
    ChanOnly s.dev d n { chanOf s.dev n with
      switching := false, selfRefresh := false, slot := (chanOf s.dev n).swapSlot, speed := ent s.dev (0x4010 + (chanOf s.dev n).swapSlot) (n + 1) }) ∧
  (∀ (n : SliceN) (s : State), let c := chanOf s.dev n
    c.state = 2 → c.mapOff = false → c.zeroDone = false → ∃ d, exec (.granuleZero n) s = .next { s with dev := d } ∧
      ChanOnly s.dev d n { c with
        granules := tabSet false c.granules c.zeroNext true, zeroNext := c.zeroNext + 1, zeroDone := decide (granuleCount s.dev n ≤ c.zeroNext + 1) }) ∧
  (∀ (line : Nat) (s : State), isDram s.dev (line * 64) = true →
    let c := chanOf s.dev (chanOfPa s.dev (line * 64))
    exec (.dramPatrolScrub line .none) s = .next s ∧
    (tabGet false s.dev.poison line = false → (c.mapOff = true ∨ tabGet false c.granules (granuleOf s.dev line) = true) →
      (∃ d, exec (.dramPatrolScrub line .corrected) s = .next { s with dev := d } ∧ d.mem = s.dev.mem ∧ d.poison = s.dev.poison ∧ s.dev.obs.mcSeq < d.obs.mcSeq) ∧
      ∃ d, exec (.dramPatrolScrub line .uncorrectable) s = .next { s with dev := d } ∧ d.mem = s.dev.mem ∧ tabGet false d.poison line = true ∧ s.dev.obs.mcSeq < d.obs.mcSeq)) ∧
  (∀ (w : Fin 16) (line tx : Nat) (s : State), s.dev.cxlWait = [(tx, line)] → cxlWindow s.dev (line * 64) = some w.val →
    ∃ d0, exec (.cxlTimeout w line) s = .next { s with dev := pump line d0 } ∧ tabGet 0 d0.cxlState w = 4 ∧ d0.cxlWait = [] ∧ d0.obs.mcSeq = s.dev.obs.mcSeq + 1 ∧
      (∀ t, trkOf s.dev tx = some t → trkOf d0 tx = some { t with data := some 0, poison := true, reading := false }) ∧ d0.mem = s.dev.mem)

/-! ### Tenon links -/

/-- A flit spells its message (R141, R142, R178, R179): the flit of any message whose fields fit their bits has no error, is a message flit with its SEQ and ACK, and its headers and
payload give back the message, field for field.

A receiver of a link that is up (R143, R144, R179). Of a message flit without error, its ACK taken: the SEQ it expects, with an opcode of R179 for that bundle, is accepted once and its message reaches what it is for; another opcode makes
the link recover; any other SEQ is discarded. A flit with an error is discarded, and a replay asked for from the SEQ expected. -/
def Obligations.MessageFlitReceiver : Prop :=
  (∀ (m : FMsg) (seq ack : Nat), flitFits m → seq < 4096 → ack < 4096 →
     let f := flitBytes seq ack m
     flitOk f = true ∧ getBits (leAt f 72 4) 29 3 = 1 ∧ getBits (leAt f 72 4) 14 12 = seq ∧ getBits (leAt f 72 4) 2 12 = ack ∧
       opOf (getBits (leAt f 64 8) 56 8) = some m.op ∧ msgFrom m.die m.up m.op (leAt f 64 8) (f.take 64) = m) ∧
  (∀ (n : DieN) (up : Bool) (f : List Byte) (s : State), (linkOf s.dev n).state = .up →
     let l := leAt f 72 4
     let d1 := ackBundle n (!up) (getBits l 2 12) s.dev
     let b := bundleOf (linkOf d1 n) up
     let seq := getBits l 14 12
     let op := (opOf (getBits (leAt f 64 8) 56 8)).filter (opGoes up)
     (flitOk f = true → getBits l 29 3 = 1 → seq = b.rxSeq → ∀ o, op = some o →
       ∃ d0, exec (.messageFlit n up f) s = .next { s with
           dev := returnCredits n up (deliverMsg (sentMsg b seq (msgFrom n up o (leAt f 64 8) (f.take 64))) d0) } ∧
         bundleOf (linkOf d0 n) up = { b with rxSeq := (seq + 1) % 4096, discarding := false, got := tabUpd 0 b.got (vcOf o) (fun k => (k + 1) % 65536) } ∧
         bundleOf (linkOf d0 n) (!up) = bundleOf (linkOf d1 n) (!up) ∧ (∀ k, k ≠ n.val → linkOf d0 k = linkOf d1 k) ∧ { d0 with links := d1.links } = d1) ∧
     (flitOk f = true → getBits l 29 3 = 1 → seq = b.rxSeq → op = none → exec (.messageFlit n up f) s = .next { s with dev := enterRecovery n cleanTest cleanTest d1 }) ∧
     (flitOk f = true → getBits l 29 3 = 1 → seq ≠ b.rxSeq → exec (.messageFlit n up f) s = .next { s with dev := d1 }) ∧
     (flitOk f = false → let c := bundleOf (linkOf s.dev n) up
       ∃ d, exec (.messageFlit n up f) s = .next { s with dev := d } ∧ bundleOf (linkOf d n) up = { c with discarding := true } ∧
         bundleOf (linkOf d n) (!up) = bundleOf (linkOf s.dev n) (!up) ∧ (∀ k, k ≠ n.val → linkOf d k = linkOf s.dev k) ∧
         d.out = s.dev.out ++ [.control n (!up) ((List.range 5).map (fun vc => tabGet 0 c.taken vc)) (some c.rxSeq) (ackOf (linkOf s.dev n) (!up))] ∧
         { d with links := s.dev.links, out := s.dev.out } = s.dev))

/-- A control flit brings the cumulative credits to the opposite bundle's transmitter, and what they let go leaves; with RETRY_REQ the flits from that SEQ onward go again first (R143, R144). A replay timeout sends every unacknowledged
flit again, and counts them; once eight replays in a row from one SEQ have failed the link recovers instead (R144, R145).

Recovery (R145, R147, R151, R152): a link that is up retests both bundles, counts a retrain, extends its sheets, and keeps its replay state; the fifth recovery in a second, and one that does not complete within 3 ms,
lose the die with cause 1. Where a supply of the die has collapsed the world event goes with it (R392; that the command says so is the model's choice, log entry 43). -/
def Obligations.ReplayAndRecovery : Prop :=
  (∀ (n : DieN) (up : Bool) (f : List Byte) (s : State), (linkOf s.dev n).state = .up → flitOk f = true → getBits (leAt f 72 4) 29 3 = 2 →
    let d1 := ackBundle n (!up) (getBits (leAt f 72 4) 2 12) s.dev
    ∃ d0, exec (.controlFlit n up f) s = .next { s with
        dev := drainBundle n (!up) (if getBit (leAt f 10 2) 15 then replayFrom n (!up) (leAt f 10 2 % 4096) d0 else d0) } ∧
      (∀ vc, vc < 5 → tabGet 0 (bundleOf (linkOf d0 n) (!up)).returned vc = leAt f (2 * vc) 2) ∧
      bundleOf (linkOf d0 n) (!up) = { bundleOf (linkOf d1 n) (!up) with returned := (bundleOf (linkOf d0 n) (!up)).returned } ∧
      bundleOf (linkOf d0 n) up = bundleOf (linkOf d1 n) up ∧ (∀ k, k ≠ n.val → linkOf d0 k = linkOf d1 k) ∧ { d0 with links := d1.links } = d1) ∧
  (∀ (n : DieN) (up : Bool) (s : State) (e : Nat × FMsg) (r : List (Nat × FMsg)), (linkOf s.dev n).state = .up →
    let b := bundleOf (linkOf s.dev n) up
    let failed := if b.replaySeq = some e.1 then b.failedReplays + 1 else 0
    b.unacked = e :: r →
    (failed < 8 → ∃ d, exec (.replayTimeout n up) s = .next { s with dev := d } ∧ bundleOf (linkOf d n) up = { b with replaySeq := some e.1, failedReplays := failed } ∧
      (linkOf d n).replays = ((linkOf s.dev n).replays + (r.length + 1)) % 2 ^ 64 ∧ (linkOf d n).state = .up ∧ bundleOf (linkOf d n) (!up) = bundleOf (linkOf s.dev n) (!up) ∧
      d.out = s.dev.out ++ [.replay n up e.1 (r.length + 1)] ∧ { d with links := s.dev.links, out := s.dev.out } = s.dev) ∧
    (8 ≤ failed → ∃ d0, exec (.replayTimeout n up) s = .next { s with dev := enterRecovery n cleanTest cleanTest d0 } ∧ { d0 with links := s.dev.links } = s.dev ∧
      bundleOf (linkOf d0 n) up = { b with replaySeq := some e.1, failedReplays := failed })) ∧
  (∀ (n : DieN) (up down : LaneTest) (s : State), (linkOf s.dev n).state = .up →
    let l := linkOf s.dev n
    let l1 := { l with
      state := .recovery, retrains := min 255 (l.retrains + 1), recoveries := recentRecoveries s.dev l, agreeUp := 0, agreeDown := 0 }
    (∀ u v, (recentRecoveries s.dev l).length < 5 → buildSheet l.hubUp l.upBad up = some u → buildSheet l.hubDown l.downBad down = some v →
      ∃ d, exec (.linkRecovery n up down) s = .next { s with dev := d } ∧ LinkOnly s.dev d n { l1 with
        hubUp := u.1, upBad := u.2, dieUp := ((buildSheet l.dieUp l.upBad up).map (fun r => r.1)).getD l.dieUp,
        hubDown := v.1, downBad := v.2, dieDown := ((buildSheet l.dieDown l.downBad down).map (fun r => r.1)).getD l.dieDown,
        reason := if sheetWidth u.1 < 3 ∨ sheetWidth v.1 < 3 then 0x0801 else l.reason }) ∧
    ((recentRecoveries s.dev l).length < 5 → (buildSheet l.hubUp l.upBad up = none ∨ buildSheet l.hubDown l.downBad down = none) →
      ∃ d, exec (.linkRecovery n up down) s = .next { s with dev := d } ∧ LinkOnly s.dev d n { l1 with reason := 0x0802 }) ∧
    (5 ≤ (recentRecoveries s.dev l).length → ∃ d0, exec (.linkRecovery n up down) s = .next { s with dev := fenceDie n 1 d0 } ∧ LinkOnly s.dev d0 n l1)) ∧
  (∀ (n : DieN) (supply : Bool) (s : State), (linkOf s.dev n).state = .recovery →
    exec (.recoveryTimeout n supply) s = .next { s with dev := if supply then emit (.aplic .worldEvent) (fenceDie n 1 s.dev) else fenceDie n 1 s.dev })

/-- Link training (R147–R150). A start without a locked PLL, or without a width, leaves the link untrained with 0x0802; else the hub extends its sheets and sends its digests. A frame that fails its check, or comes after a wrong identity, changes nothing; a die
whose fuses name another site or binding marks an identity mismatch. Agreeing digests count for their bundle, and the third in a row for both locks the link at the widths of its sheets, with full credits at a link start. A bundle that disagrees
falls to the next narrower width, the die adopting the hub's sheet; at x16 the die is fenced with cause 2.

Wake patterns, time bases and jig mode (R103, R153, R154, R156–R158). A wake pattern brings a folded link up where its digests agree and into recovery otherwise, its harts resting in retain. A die whose time base unlocks falls back; the hub's unlock is holdover, its relock ends it. Jig mode is
entered only while PKG_RESET_N is low, and zeroes the die's caches or the hub's stores. JIG_LOOP selects the port and counts errors for an internal loop and for a far loop through a die in jig mode; JIG_RESULT gives the 70 counts, lane 0 first, and JIG_SHEET the
selected port's fused sheets. -/
def Obligations.TrainingWakeAndJig : Prop :=
  (∀ (n : DieN) (o : LinkObs) (s : State), (linkOf s.dev n).state = .training →
    let l := linkOf s.dev n
    let hu := if l.hubUp = 0 then (fusedSheets s.dev n).upSheet else l.hubUp
    let hd := if l.hubDown = 0 then (fusedSheets s.dev n).downSheet else l.hubDown
    ((o.pll = false ∨ buildSheet hu l.upBad o.up = none ∨ buildSheet hd l.downBad o.down = none) →
      ∃ d, exec (.linkTraining n o) s = .next { s with dev := d } ∧ LinkOnly { s.dev with out := d.out } d n { l with state := .untrained, reason := 0x0802 } ∧
        d.out = s.dev.out ++ [.training n (sheetDigest l.hubUp) (sheetDigest l.hubDown)]) ∧
    (∀ u v, o.pll = true → buildSheet hu l.upBad o.up = some u → buildSheet hd l.downBad o.down = some v →
      ∃ d, exec (.linkTraining n o) s = .next { s with dev := d } ∧ (linkOf d n).state = .training ∧ (linkOf d n).hubUp = u.1 ∧ (linkOf d n).upBad = u.2 ∧
        (linkOf d n).hubDown = v.1 ∧ (linkOf d n).downBad = v.2 ∧ (linkOf d n).idMismatch = false ∧ (linkOf d n).agreeUp = 0 ∧ (linkOf d n).agreeDown = 0 ∧
        (linkOf d n).reason = (if sheetWidth u.1 < 3 ∨ sheetWidth v.1 < 3 then 0x0801 else 0) ∧ (∀ k, k ≠ n.val → linkOf d k = linkOf s.dev k) ∧
        d.out = s.dev.out ++ [.training n (sheetDigest u.1) (sheetDigest v.1)] ∧ { d with links := s.dev.links, out := s.dev.out } = s.dev)) ∧
  (∀ (n : DieN) (ud dd : Nat) (ok : Bool) (s : State),
    let l := linkOf s.dev n
    let frame : Out := .training n (sheetDigest l.hubUp) (sheetDigest l.hubDown)
    ((ok = false ∨ l.idMismatch = true ∨ (l.state ≠ .training ∧ l.state ≠ .recovery)) → exec (.trainingFrame n ud dd ok) s = .next s) ∧
    (ok = true → l.idMismatch = false → (l.state = .training ∨ l.state = .recovery) →
      (idWrong s.dev n = true → ∃ d, exec (.trainingFrame n ud dd ok) s = .next { s with dev := d } ∧ LinkOnly s.dev d n { l with idMismatch := true, reason := 0x0802 }) ∧
      (idWrong s.dev n = false →
        (ud = sheetDigest l.hubUp → dd = sheetDigest l.hubDown →
          ((l.agreeUp < 2 ∨ l.agreeDown < 2) → ∃ d, exec (.trainingFrame n ud dd ok) s = .next { s with dev := d } ∧
            LinkOnly { s.dev with out := d.out } d n { l with agreeUp := l.agreeUp + 1, agreeDown := l.agreeDown + 1 } ∧ d.out = s.dev.out ++ [frame]) ∧
          (2 ≤ l.agreeUp → 2 ≤ l.agreeDown → ∃ d, exec (.trainingFrame n ud dd ok) s = .next { s with dev := d } ∧ (linkOf d n).state = .up ∧
            (linkOf d n).upWidth = sheetWidth l.hubUp ∧ (linkOf d n).downWidth = sheetWidth l.hubDown ∧
            (l.state = .training → (linkOf d n).up = bundleInit ∧ (linkOf d n).down = bundleInit ∧ d.flight = s.dev.flight) ∧
            (∀ k, k ≠ n.val → linkOf d k = linkOf s.dev k) ∧ d.mem = s.dev.mem ∧ d.harts = s.dev.harts)) ∧
        (∀ sh, ud ≠ sheetDigest l.hubUp → dd = sheetDigest l.hubDown → narrowSheet l.hubUp l.dieUp l.upBad = some sh →
          ∃ d, exec (.trainingFrame n ud dd ok) s = .next { s with dev := d } ∧ LinkOnly { s.dev with out := d.out } d n { l with
              hubUp := sh, dieUp := sh, upAdopted := true, agreeUp := 0, agreeDown := l.agreeDown + 1 } ∧
            d.out = s.dev.out ++ [.sheet n true l.hubUp, .training n (sheetDigest sh) (sheetDigest l.hubDown)]) ∧
        (ud ≠ sheetDigest l.hubUp → narrowSheet l.hubUp l.dieUp l.upBad = none → dd = sheetDigest l.hubDown → inPair s.dev = true → (dieOf s.dev n).phase = .inService →
          ∃ d, exec (.trainingFrame n ud dd ok) s = .next { s with dev := d } ∧ (dieOf d n).phase = .fenced ∧ (dieOf d n).cause = 2 ∧ (linkOf d n).reason = 0x0803)))) ∧
  (∀ (n : DieN) (byHub : Bool) (s : State), (linkOf s.dev n).state = .folded →
    let l := linkOf s.dev n
    let agree := sheetDigest l.hubUp == sheetDigest l.dieUp && sheetDigest l.hubDown == sheetDigest l.dieDown
    ∃ d, exec (.wakePattern n byHub) s = .next { s with dev := d } ∧
      linkOf d n = { l with state := if agree then .up else .recovery, wakeSent := false, agreeUp := 0, agreeDown := 0 } ∧ (∀ k, k ≠ n.val → linkOf d k = linkOf s.dev k) ∧
      (∀ h, hartOf d h = if dieOfHart h = n.val ∧ (hartOf s.dev h).rest = .fold then { hartOf s.dev h with rest := .retain } else hartOf s.dev h) ∧
      dieOf d n = { dieOf s.dev n with snoopBusy := true } ∧ d.out = s.dev.out ++ (if byHub then [] else [.wake n false]) ∧
      { d with links := s.dev.links, harts := s.dev.harts, dies := s.dev.dies, out := s.dev.out, obs := { d.obs with ctr := s.dev.obs.ctr } } = s.dev) ∧
  (∀ (n : DieN) (s : State), ∃ d, exec (.dieTimeBaseUnlock n) s = .next { s with dev := d } ∧ LinkOnly s.dev d n { linkOf s.dev n with tbFallback := true }) ∧
  (∀ s : State, exec .hubTimeBaseUnlock s = .next { s with dev := { s.dev with holdover := true } }) ∧
  (∀ s : State, exec .hubTimeBaseRelock s = .next { s with dev := { s.dev with holdover := false } }) ∧
  (∀ (n : Fin 13) (s : State), (s.dev.pins.pkgReset = false → exec (.jigEnter n) s = .next s) ∧
    (s.dev.pins.pkgReset = true → ∃ d, exec (.jigEnter n) s = .next { s with dev := d } ∧ jigOf d n = { jigOf s.dev n with inJig := true } ∧
      (n.val < 12 → DieOnly { s.dev with jig := d.jig, links := d.links } d n { dieOf s.dev n with cache := [], wb := [] } ∧ linkOf d n = { linkOf s.dev n with state := .jig }) ∧
      (n.val = 12 → d = { s.dev with jig := d.jig, spad := [], msc := [], slices := [] }))) ∧
  (∀ (n : Fin 13) (dr : BitVec 32) (es : List Nat) (s : State), (jigOf s.dev n).inJig = true → jigPortOk n (getBits dr.toNat 8 8) = true →
    let port := getBits dr.toNat 8 8
    let runs := dr.toNat % 4 = 0 ∨ (dr.toNat % 4 = 1 ∧ (jigOf s.dev (jigFar n port)).inJig = true)
    ∃ d, exec (.jigLoop n dr es) s = .next { s with dev := d } ∧ (jigOf d n).inJig = true ∧ (jigOf d n).port = port ∧
      (runs → ∀ i, i < 70 → (jigOf d n).result.getD i 0 = min 65535 (es.getD i 0)) ∧ (¬ runs → (jigOf d n).result = (jigOf s.dev n).result) ∧
      (∀ k, k ≠ n.val → jigOf d k = jigOf s.dev k) ∧ { d with jig := s.dev.jig } = s.dev) ∧
  (∀ (n : Fin 13) (s : State), (jigOf s.dev n).inJig = true →
    exec (.jigResult n) s = .next { s with dev := emit (.jtag n ((List.range 70).foldl (fun a i => a + (jigOf s.dev n).result.getD i 0 * 2 ^ (16 * i)) 0)) s.dev }) ∧
  (∀ (n : Fin 13) (s : State), (jigOf s.dev n).inJig = true →
    let f := fusedSheets s.dev (if n.val = 12 then (jigOf s.dev 12).port else n.val)
    exec (.jigSheet n) s = .next { s with dev := emit (.jtag n (f.upSheet + 2 ^ 64 * f.downSheet)) s.dev })

/-! ### Inlay sites -/

/-- An upstream request of an enabled site that is well formed, finds a window that permits it, and whose address is main memory of that window's owner (R163, R165–R167)
becomes a coherent access of the site and costs one credit; through an MMIO window it becomes a device access, an MSI a write of the interrupt file its address names,
or, where it names none, a violation (which addresses name a file is open: log entry 67).

Upstream requests that do not pass (R163, R166, R168), of every opcode: at a contained or disabled site they end with STATUS 3 and zero data; a malformed one (a RSVD bit set, misaligned, without a credit) contains the site with cause 2; one that no window permits
is denied with STATUS 1 and zero data, counted and recorded, and contains the site with cause 1 at the violation limit. A packet of no known opcode is malformed. -/
def Obligations.InlayRequests : Prop :=
  (∀ (x : SiteN) (hdr : BitVec 128) (s : State) (attr : Nat),
     let q := inlayHdr hdr
     siteEnabled s.dev x = true → (siteOf s.dev x).cause = 0 → q.rsvd = 0 → 0 < (siteOf s.dev x).credits →
     let paid := updSite (refill x s.dev) x (fun y => { y with credits := y.credits - 1, tokens := y.tokens - 6400 })
     let acts (op : AgentOp) (size data n : Nat) : Dev := if getBit attr 30 then inlayDevice x q op size data n paid else agentAccess (.inlay x q.tag) q.addr op paid
     (placeOk paid attr q.addr = true → ownerOk paid attr q.addr = true →
       (q.op = 1 → q.addr % 64 = 0 → windowFor paid x q.addr 1 = some attr → exec (.rd64 x hdr) s = .next { s with dev := acts .read 64 0 64 }) ∧
       (q.op = 2 → q.addr % 64 = 0 → windowFor paid x q.addr 4 = some attr → exec (.rdf64 x hdr) s = .next { s with dev := acts .read 64 0 64 }) ∧
       (∀ data : Line, q.op = 3 → q.addr % 64 = 0 → windowFor paid x q.addr 2 = some attr →
         exec (.wr64 x hdr data) s = .next { s with dev := acts (.write data (2 ^ 64 - 1)) 64 data.toNat 0 }) ∧
       (∀ (data : Line) (mask : Nat), q.op = 4 → q.addr % 64 = 0 → windowFor paid x q.addr 2 = some attr →
         exec (.wrp64 x hdr data mask) s = .next { s with dev := acts (.write data (mask % 2 ^ 64)) 64 data.toNat 0 }) ∧
       (∀ a b : Nat, q.op = 5 → q.addr % 8 = 0 → q.subop ≤ 4 → windowFor paid x q.addr 3 = some attr →
         exec (.inlayAmo x hdr a b) s = .next { s with dev := acts (.atomic (q.addr % 64) q.subop (a % 2 ^ 64) (b % 2 ^ 64)) 8 (a % 2 ^ 64) 8 })) ∧
     (∀ data : Nat, q.op = 6 → getBit attr 30 = true → q.addr % 4 = 0 → windowFor paid x q.addr 2 = some attr →
       exec (.inlayMsi x hdr data) s = .next { s with
         dev := match (if placeOk paid attr q.addr then Config.imsicAt q.addr else none) with
           | some k => siteDone x q.tag 0 [] (imsicWrite (k / 9 % 216) (k % 9) (data % 2 ^ 32) paid)
           | none => violate x q 0 paid })) ∧
  (∀ (x : SiteN) (hdr : BitVec 128) (i : Instr) (code perm align zeros : Nat) (s : State),
     let q := inlayHdr hdr
     ((i = .rd64 x hdr ∧ code = 1 ∧ perm = 1 ∧ align = 64 ∧ zeros = 64) ∨ (i = .rdf64 x hdr ∧ code = 2 ∧ perm = 4 ∧ align = 64 ∧ zeros = 64) ∨
       (∃ data, i = .wr64 x hdr data ∧ code = 3 ∧ perm = 2 ∧ align = 64 ∧ zeros = 0) ∨ (∃ data mask, i = .wrp64 x hdr data mask ∧ code = 4 ∧ perm = 2 ∧ align = 64 ∧ zeros = 0) ∨
       (∃ a b, i = .inlayAmo x hdr a b ∧ code = 5 ∧ perm = 3 ∧ align = 8 ∧ zeros = 8 ∧ q.subop ≤ 4) ∨ (∃ data, i = .inlayMsi x hdr data ∧ code = 6 ∧ perm = 2 ∧ align = 4 ∧ zeros = 0)) →
     let well := q.rsvd = 0 ∧ q.addr % align = 0 ∧ 0 < (siteOf s.dev x).credits
     (q.op = code → (siteEnabled s.dev x = false ∨ (siteOf s.dev x).cause ≠ 0) →
       ∃ d, exec i s = .next { s with dev := d } ∧ SiteOnly s.dev d x { siteOf s.dev x with done := (siteOf s.dev x).done ++ [(q.tag, 3, List.replicate zeros 0)] }) ∧
     (siteEnabled s.dev x = true → (siteOf s.dev x).cause = 0 → (siteOf s.dev x).mmrd = [] →
       ((q.op = code ∧ ¬ well) ∨ (q.op ≠ code ∧ upOpcode q.op = false)) →
       ∃ d, exec i s = .next { s with dev := d } ∧ (siteOf d x).cause = 2 ∧ siteEnabled d x = false ∧ (siteOf d x).done = (siteOf s.dev x).done ∧
         d.out = s.dev.out ++ [.aplic (.containment x)] ∧ { d with sites := s.dev.sites, list := s.dev.list, out := s.dev.out } = s.dev) ∧
     (q.op = code → siteEnabled s.dev x = true → (siteOf s.dev x).cause = 0 → well → windowFor s.dev x q.addr perm = none →
       let v := (siteOf s.dev x).violations + 1
       (v < ent s.dev 0xA107 (x + 1) → ∃ d, exec i s = .next { s with dev := d } ∧ (siteOf d x).violations = v ∧ (siteOf d x).lastViolation = q.addr ∧
         (siteOf d x).done = (siteOf s.dev x).done ++ [(q.tag, 1, List.replicate zeros 0)] ∧ (siteOf d x).cause = 0 ∧
         (siteOf d x).credits = (siteOf s.dev x).credits - 1 ∧ { d with sites := s.dev.sites } = s.dev) ∧
       (ent s.dev 0xA107 (x + 1) ≤ v → ∃ d, exec i s = .next { s with dev := d } ∧ (siteOf d x).cause = 1 ∧ siteEnabled d x = false ∧
         (siteOf d x).done = (siteOf s.dev x).done ++ [(q.tag, 1, List.replicate zeros 0)])))

/-- Downstream accesses, completions and credits of a site (R163, R165, R168), and what contains it. A hart's load goes to an enabled site as MMRD and waits; its store goes as MMWR and completes; at a contained site the store is discarded and
counted. The inlay's completion answers the load with data or poison; the hub's answers the oldest finished request. Credits are granted within what the share and the pool back, while the bucket holds tokens. A downstream timeout contains the site with cause 3, a lost
link with cause 4, an adapter error with cause 5. -/
def Obligations.InlayDownstream : Prop :=
  (∀ (x : SiteN) (m : FMsg) (s : State), InService s.dev m → siteEnabled s.dev x = true → (siteOf s.dev x).cause = 0 →
    ∃ d, exec (.mmrd x m) s = .next { s with dev := d } ∧
      SiteOnly { s.dev with out := d.out, flight := d.flight } d x { siteOf s.dev x with
        mmrd := (siteOf s.dev x).mmrd ++ [((siteOf s.dev x).nextTag, { m with op := .ncrd })], nextTag := ((siteOf s.dev x).nextTag + 1) % 4096 } ∧
      d.out = s.dev.out ++ [.inlay x 0x11 (siteOf s.dev x).nextTag 0 m.addr m.size []] ∧ d.flight = s.dev.flight.erase { m with op := .ncrd }) ∧
  (∀ (x : SiteN) (m : FMsg) (s : State), InService s.dev m → let on := siteEnabled s.dev x = true ∧ (siteOf s.dev x).cause = 0
    ∃ d, exec (.mmwr x m) s = .next { s with dev := d } ∧ Sent d false { msgOf s.dev .cmp m.die with rtag := m.rtag, addr := m.addr } ∧
      (on → (siteOf d x).nextTag = ((siteOf s.dev x).nextTag + 1) % 4096 ∧
        Out.inlay x 0x12 (siteOf s.dev x).nextTag 0 m.addr m.size (leBytes m.size m.data.toNat) ∈ d.out) ∧
      (¬ on → d.sites = s.dev.sites) ∧
      { d with sites := s.dev.sites, links := s.dev.links, flight := s.dev.flight, out := s.dev.out, obs := { d.obs with ctr := s.dev.obs.ctr } } = s.dev) ∧
  (∀ (x : SiteN) (hdr : BitVec 128) (data : Nat) (m : FMsg) (s : State), let q := inlayHdr hdr
    q.op = 8 → (siteOf s.dev x).mmrd.find? (fun e => e.1 == q.tag) = some (q.tag, m) →
    ∃ d0, SiteOnly s.dev d0 x { siteOf s.dev x with mmrd := (siteOf s.dev x).mmrd.erase (q.tag, m) } ∧
      (q.status = 0 → exec (.inlayCplUp x hdr data) s = .next { s with
        dev := send false { msgOf d0 .dataNc m.die with rtag := m.rtag, addr := m.addr, data := BitVec.ofNat 512 (data % 2 ^ (8 * m.size)) } d0 }) ∧
      (q.status = 2 → exec (.inlayCplUp x hdr data) s = .next { s with dev := send false { msgOf d0 .dataNc m.die with rtag := m.rtag, addr := m.addr, poison := true } d0 }) ∧
      (q.status ≠ 0 → q.status ≠ 2 → exec (.inlayCplUp x hdr data) s = .next { s with dev := ncFault m d0 })) ∧
  (∀ (x : SiteN) (s : State) (tag st : Nat) (b : List Byte) (r : List (Nat × Nat × List Byte)), (siteOf s.dev x).done = (tag, st, b) :: r →
    ∃ d, exec (.inlayCplDown x) s = .next { s with dev := d } ∧ SiteOnly { s.dev with out := d.out } d x { siteOf s.dev x with done := r } ∧
      d.out = s.dev.out ++ [.inlay x 0x18 tag st 0 0 (if st = 0 then b else List.replicate b.length 0)]) ∧
  (∀ (x : SiteN) (n : Nat) (s : State), siteEnabled s.dev x = true → 1 ≤ n → n ≤ 255 → n ≤ creditRoom (refill x s.dev) x → 0 < (siteOf (refill x s.dev) x).tokens →
    ∃ d, exec (.crd x n) s = .next { s with dev := d } ∧ SiteOnly { s.dev with out := d.out } d x { siteOf (refill x s.dev) x with credits := (siteOf s.dev x).credits + n } ∧
      d.out = s.dev.out ++ [.inlay x 0x1F 0 0 0 n []]) ∧
  (∀ (x : SiteN) (s : State), (siteOf s.dev x).cause = 0 →
    let contained (c : Nat) (d : Dev) : Prop := (siteOf d x).cause = c ∧ (siteOf d x).kerfLow = s.dev.kerf.counter % 2 ^ 32 ∧ (siteOf d x).mmrd = [] ∧ siteEnabled d x = false ∧
      Out.aplic (.containment x) ∈ d.out ∧ d.mem = s.dev.mem
    ((siteOf s.dev x).mmrd ≠ [] → ∃ d, exec (.inlayDownstreamTimeout x) s = .next { s with dev := d } ∧ contained 3 d) ∧
    ((siteOf s.dev x).uState = 3 → ∃ d, exec (.ucieLinkLost x) s = .next { s with dev := d } ∧ contained 4 d ∧ (siteOf d x).uState = 1 ∧ (siteOf d x).uRate = 0 ∧ (siteOf d x).uWidth = 0) ∧
    (sitePopulated s.dev x = true → ∃ d, exec (.ucieAdapterError x) s = .next { s with dev := d } ∧ contained 5 d))

/-! ### The list protocol -/

/-- READ (R28, R46, R503): with every check passed the answer carries the entry's type, whether a staged value exists and is the one returned, the length and the value; a check
that fails is answered with its code, in the order of R503, and no body. Nothing else changes. -/
def Obligations.ReadAnswersValue : Prop :=
  ∀ (m : ListMsg) (n : SessN) (x : Session) (s : State), ListMsgIn s.dev m n x →
    let idx := leAt m.body 0 2
    let sub := leAt m.body 2 1
    let fl := leAt m.body 3 1
    let answer (code : Nat) (body : List Byte) : Prop := exec (.read m) s = .next { s with dev := emit (listAnswer s.dev m 0x81 code body) s.dev }
    (m.body.length ≠ 4 → answer abMalformed []) ∧
    (m.body.length = 4 → 2 ≤ fl → answer abRsvd []) ∧
    (m.body.length = 4 → fl < 2 → targetCode s.dev x.role false false idx sub [] ≠ abOk → answer (targetCode s.dev x.role false false idx sub []) []) ∧
    (m.body.length = 4 → fl < 2 → ∀ r, entryRow idx sub = some r → targetCode s.dev x.role false false idx sub [] = abOk →
      let st := fl == 1 && isStaged s.dev idx sub
      let v := if st then stgBytes s.dev r idx sub else curBytes s.dev n x.role r idx sub
      answer abOk (leBytes 1 (typeCode r.typ) ++ leBytes 1 (b2n st + 2 * b2n (isStaged s.dev idx sub)) ++ leBytes 2 v.length ++ v))

/-- WRITE of an entry of swap class KERF (R29, R30, R39, R41). A value is put to the dry fits that depend on the entry: where all accept it is staged, answered with the next kerf,
and no current value changes; where one refuses the write aborts and nothing is staged. A 1 to an enable that reads 0 runs the enable's own dry fit: accepted it is staged and
pending, refused it is not, and its status entry holds the reason.

The order of R503's rows for a WRITE: no finished session, then the version, then the message's form, then the reserved byte, then the entry, its type, its swap class, the role,
the pair, and the value's own checks. The first that fails gives the code, and nothing else changes. -/
def Obligations.WritesAndAborts : Prop :=
  (∀ (m : ListMsg) (p : PartnerObs) (u : UcieObs) (n : SessN) (x : Session) (r : EntryRow) (s : State), ListMsgIn s.dev m n x → 6 ≤ m.body.length →
     let idx := leAt m.body 0 2
     let sub := leAt m.body 2 1
     let v := m.body.drop 6
     let fs := dependents (setStg s.dev idx sub (some (valOf r v))) p idx sub
     let aborts (d : Dev) : Prop := exec (.write m p u) s = .next { s with dev := d } ∧ d.out = s.dev.out ++ [listAnswer s.dev m 0x82 abDryFit []] ∧ d.list.cur = s.dev.list.cur
     let stages (d : Dev) (w : Val) : Prop := exec (.write m p u) s = .next { s with dev := d } ∧ d.out = s.dev.out ++ [writeAnswer s.dev n m.tag (s.dev.kerf.counter + 1)] ∧
       d.list.cur = s.dev.list.cur ∧ d.list.stg = (setStg s.dev idx sub (some w)).list.stg
     let listOnly (d : Dev) : Prop := { d with list := { d.list with stg := s.dev.list.stg, status := s.dev.list.status }, out := s.dev.out } = s.dev
     v.length = leAt m.body 4 2 → leAt m.body 3 1 = 0 → entryRow idx sub = some r → r.swap = .kerf → MayWrite s.dev n x idx sub v → idx ≠ 0x5020 →
     (enableOf s.dev p idx sub = none →
       ((∀ f ∈ fs, f.2.2.1 = 0) → ∃ d, stages d (valOf r v) ∧ listOnly d ∧ (fs = [] → d.list.status = s.dev.list.status)) ∧
       ((∃ f ∈ fs, f.2.2.1 ≠ 0) → ∃ d, aborts d ∧ listOnly d ∧ d.list.stg = s.dev.list.stg)) ∧
     (∀ st f ph, enableOf s.dev p idx sub = some (st, f, ph) → idx ≠ 0x4100 → leNat v = 1 → ent s.dev idx sub = 0 → (dryOf s.dev st.1 st.2).pend = false →
       (f.1 = 0 → ∃ d, stages d (.num 1) ∧ listOnly d ∧ dryOf d st.1 st.2 = { dryOf s.dev st.1 st.2 with reason := 0, index := 0, sub := 0, atKerf := false, pend := true }) ∧
       (f.1 ≠ 0 → ∃ d, aborts d ∧ listOnly d ∧ d.list.stg = (setStg s.dev idx sub none).list.stg ∧
         dryOf d st.1 st.2 = { reason := f.1, index := (f.2.getD (idx, sub)).1, sub := (f.2.getD (idx, sub)).2, atKerf := false, pend := false }))) ∧
  (∀ (m : ListMsg) (p : PartnerObs) (u : UcieObs) (s : State), spdmUp s.dev = true → m.vendor = s.dev.fuses.vendorId → s.dev.kerf.step1 = none →
     let answer (code : Nat) : Prop := exec (.write m p u) s = .next { s with dev := emit (listAnswer s.dev m 0x82 code []) s.dev }
     let idx := leAt m.body 0 2
     let sub := leAt m.body 2 1
     let v := m.body.drop 6
     (openSess s.dev m = none → answer 0x00060001) ∧
     (∀ k x, openSess s.dev m = some (k, x) →
       (m.version ≠ 1 → answer 0x00060003) ∧
       (m.version = 1 →
         ((m.body.length < 6 ∨ v.length ≠ leAt m.body 4 2) → answer 0x00060002) ∧
         (6 ≤ m.body.length → v.length = leAt m.body 4 2 →
           (leAt m.body 3 1 ≠ 0 → answer 0x00030004) ∧
           (leAt m.body 3 1 = 0 → entryRow idx sub = none → answer (if indexExists idx then 0x00010002 else 0x00010001)) ∧
           (leAt m.body 3 1 = 0 → ∀ r, entryRow idx sub = some r →
             (r.typ = .domain → answer 0x00030006) ∧
             (r.typ ≠ .domain →
               (r.swap = .sealed_ → answer 0x00020002) ∧
               (r.swap = .boot → answer 0x00020003) ∧
               (r.swap ≠ .sealed_ → r.swap ≠ .boot →
                 ((mayWrite r x.role = false ∨ narrowOk s.dev x.role idx sub v = false) → answer 0x00020001) ∧
                 (mayWrite r x.role = true → narrowOk s.dev x.role idx sub v = true →
                   (pairedHere s.dev idx sub = true → answer 0x00020004) ∧
                   (pairedHere s.dev idx sub = false → valueCode s.dev r idx sub v ≠ abOk → answer (valueCode s.dev r idx sub v))))))))))

/-- DOMAIN transfers (R48): BEGIN opens one, or is refused while the session or another writes; each accepted segment appends its bytes; a segment in the wrong place is refused and the
transfer stays, one past TOTAL is refused and closes it; END takes a KERF value, unless a dry fit that depends on the entry refuses it, and refuses one short of TOTAL; either way the
transfer is closed; a cancel and 1 s of idling close it and leave their report.

DOMAIN reads (R48): BEGIN captures the value and answers its length; of an entry above 65,536 bytes it captures nothing that later segments return, and of the result ring nothing
at all. A segment within the length returns its bytes as often as it is asked: of the capture, or of the value then current where the entry is read live. A segment past it is refused. -/
def Obligations.DomainTransfers : Prop :=
  (∀ (m : ListMsg) (n : SessN) (x : Session) (s : State), ListMsgIn s.dev m n x →
     let idx := leAt m.body 0 2
     let sub := leAt m.body 2 1
     let answers (i : Instr) (op code : Nat) (body : List Byte) (y : Session) : Prop :=
       ∃ d, exec i s = .next { s with dev := d } ∧ d.out = s.dev.out ++ [listAnswer s.dev m op code body] ∧ SessOnly s.dev d n y
     (∀ r, m.body.length = 8 → leAt m.body 3 1 = 0 → entryRow idx sub = some r → targetCode s.dev x.role true true idx sub [] = abOk →
       (ownWrite x = false → entryBusy s.dev n idx sub = false → totalCode r idx (leAt m.body 4 4) = abOk →
         answers (.domainWriteBegin m) 0x83 abOk []
           { x with transfer := some { write := true, idx := idx, sub := sub, total := leAt m.body 4 4, data := [], live := false, staged := false }, report := none }) ∧
       ((ownWrite x = true ∨ entryBusy s.dev n idx sub = true) → answers (.domainWriteBegin m) 0x83 abBusy [] x)) ∧
     (∀ t, 6 ≤ m.body.length → m.body.length = 6 + leAt m.body 4 2 → x.transfer = some t → t.write = true →
       let len := leAt m.body 4 2
       (t.total < t.data.length + len → answers (.domainWriteSegment m) 0x84 abTooLong [] { x with transfer := none }) ∧
       (t.data.length + len ≤ t.total → leAt m.body 0 4 ≠ t.data.length → answers (.domainWriteSegment m) 0x84 abOrder [] x) ∧
       (t.data.length + len ≤ t.total → leAt m.body 0 4 = t.data.length → (len = 0 ∨ 1024 < len) → answers (.domainWriteSegment m) 0x84 abRange [] x) ∧
       (t.data.length + len ≤ t.total → leAt m.body 0 4 = t.data.length → 1 ≤ len → len ≤ 1024 →
         answers (.domainWriteSegment m) 0x84 abOk [] { x with transfer := some { t with data := t.data ++ m.body.drop 6 } })) ∧
     (∀ t r p, m.body = [] → x.transfer = some t → t.write = true → entryRow t.idx t.sub = some r → narrowOk s.dev x.role t.idx t.sub t.data = true →
       let e := updSess s.dev n (fun x => { x with transfer := none })
       let fs := if t.idx = 0x5020 then [(0x5001, t.sub, microcodeFit e t.data)] else dependents (setStg e t.idx t.sub (some (.bytes t.data))) p t.idx t.sub
       let ends (code : Nat) (body : List Byte) (stg : Tab (Option Val)) : Prop := ∃ d, exec (.domainWriteEnd m p) s = .next { s with dev := d } ∧
         d.out = s.dev.out ++ [listAnswer s.dev m 0x85 code body] ∧ sessOf d n = some { x with transfer := none } ∧ (∀ k, k ≠ n.val → sessOf d k = sessOf s.dev k) ∧
         d.list.stg = stg ∧ d.list.cur = s.dev.list.cur ∧ { d with list := s.dev.list, out := s.dev.out } = s.dev
       (t.data.length ≠ t.total → ends abLength [] s.dev.list.stg) ∧
       (t.data.length = t.total → octetsCode e r t.idx t.data = abOk → r.swap = .kerf →
         ((∀ f ∈ fs, f.2.2.1 = 0) → ends abOk (leBytes 8 (s.dev.kerf.counter + 1)) (setStg s.dev t.idx t.sub (some (.bytes t.data))).list.stg) ∧
         ((∃ f ∈ fs, f.2.2.1 ≠ 0) → ends abDryFit [] s.dev.list.stg))) ∧
     (m.body = [] → x.transfer.isSome = true → answers (.transferCancel m) 0x88 abOk [] { x with transfer := none, report := some .cancelled }) ∧
     (m.body = [] → x.transfer = none → answers (.transferCancel m) 0x88 abOk [] x) ∧
     (x.transfer.isSome = true → ∃ d, exec (.transferIdleTimeout n) s = .next { s with dev := d } ∧ d.out = s.dev.out ∧
       SessOnly s.dev d n { x with transfer := none, report := some .timeout })) ∧
  (∀ (m : ListMsg) (n : SessN) (x : Session) (s : State), ListMsgIn s.dev m n x →
     (∀ r, m.body.length = 4 → leAt m.body 3 1 < 2 → entryRow (leAt m.body 0 2) (leAt m.body 2 1) = some r →
       targetCode s.dev x.role false true (leAt m.body 0 2) (leAt m.body 2 1) [] = abOk → ownWrite x = false →
       let idx := leAt m.body 0 2
       let sub := leAt m.body 2 1
       let st := leAt m.body 3 1 == 1 && isStaged s.dev idx sub
       let v := if idx = 0x8010 then [] else if st then stgBytes s.dev r idx sub else curBytes s.dev n x.role r idx sub
       let total := if idx = 0x8010 then ringTotal s.dev else v.length
       ∃ d, exec (.domainReadBegin m) s = .next { s with dev := d } ∧ d.out = s.dev.out ++ [listAnswer s.dev m 0x86 abOk (leBytes 4 total)] ∧
         SessOnly s.dev d n { x with
           transfer := some { write := false, idx := idx, sub := sub, total := total, data := v, live := decide (65536 < r.max), staged := st }, report := none }) ∧
     (∀ t, m.body.length = 6 → x.transfer = some t → t.write = false →
       let off := leAt m.body 0 4
       let len := leAt m.body 4 2
       let answer (code : Nat) (body : List Byte) : Prop := exec (.domainReadSegment m) s = .next { s with dev := emit (listAnswer s.dev m 0x87 code body) s.dev }
       ((len = 0 ∨ 1024 < len ∨ t.total < off + len) → answer abRange []) ∧
       (1 ≤ len → len ≤ 1024 → off + len ≤ t.total →
         (t.idx = 0x8010 → answer abOk (leBytes 2 len ++ (List.range len).map (fun i => ringByte s.dev (off + i)))) ∧
         (t.idx ≠ 0x8010 → t.live = false → answer abOk (leBytes 2 len ++ sliceOf t.data off len)) ∧
         (∀ r, t.idx ≠ 0x8010 → t.live = true → entryRow t.idx t.sub = some r →
           let v := if t.staged && isStaged s.dev t.idx t.sub then stgBytes s.dev r t.idx t.sub else curBytes s.dev n x.role r t.idx t.sub
           answer abOk (leBytes 2 len ++ padTo len (sliceOf v off len))))))

/-- KERF_CUT (R33–R36, R474). Before release, and on a follower that has accepted no edge yet, nothing is cut. Else the counter advances by one; the sequence runs to its step 7, with the
snapshot bearing the new kerf, and then what the list received meanwhile is processed; or it waits in step 1, and a list message that comes in is queued. A cut that would make a 65th
unacknowledged seal, or meets a sequence still in step 1, only counts an overrun (R415; that it is cut later is the model's reading, log entry 32).

KERF_WAIT (R47): one whose kerf's step 7 has completed is answered at once; another is parked in its session, but for a second wait, or one too far ahead, which is refused. The
response goes out once the kerf's step 7 has completed, and the wait is over. -/
def Obligations.KerfCutsAndWaits : Prop :=
  (∀ (o : KerfObs) (s : State),
     ((s.dev.boot.phase ≠ .released ∨ awaitsEdge s.dev = true) → exec (.kerfCut o) s = .next s) ∧
     (s.dev.boot.phase = .released → awaitsEdge s.dev = false →
       ((sealWaits s.dev = true ∨ s.dev.kerf.step1.isSome = true) →
         exec (.kerfCut o) s = .next { s with dev := { s.dev with kerf := { s.dev.kerf with overruns := s.dev.kerf.overruns + 1 } } }) ∧
       (sealWaits s.dev = false → s.dev.kerf.step1 = none →
         let c := mirrorKerfRec (s.dev.kerf.counter + 1) (cut o s.dev)
         let advanced (d : Dev) : Prop := d.kerf.counter = s.dev.kerf.counter + 1 ∧ d.kerf.overruns = s.dev.kerf.overruns + b2n o.overrun ∧ d.kerf.cutAt = s.dev.now
         (step1Waits c = false → ∃ d, exec (.kerfCut o) s = .next { s with dev := runHeld d } ∧ advanced d ∧ d.kerf.lastSeq = d.kerf.counter ∧ d.kerf.seqEnd = d.now ∧
           d.kerf.seqMax = max s.dev.kerf.seqMax (o.seqNs % 2 ^ 32) ∧ d.obs.snapKerf = d.kerf.counter) ∧
         (step1Waits c = true → ∃ d, exec (.kerfCut o) s = .next { s with dev := d } ∧ advanced d ∧ d.kerf.step1 = some o ∧ d.kerf.lastSeq = s.dev.kerf.lastSeq))) ∧
     (s.dev.kerf.step1.isSome = true → ∀ (i : Instr) (m : ListMsg) (p : PartnerObs) (u : UcieObs) (j : ListJob),
       ((i = .read m ∧ j = .msg 1 m noPartner noUcie) ∨ (i = .write m p u ∧ j = .msg 2 m p u) ∨ (i = .domainWriteBegin m ∧ j = .msg 3 m noPartner noUcie) ∨
         (i = .domainWriteSegment m ∧ j = .msg 4 m noPartner noUcie) ∨ (i = .domainWriteEnd m p ∧ j = .msg 5 m p noUcie) ∨ (i = .domainReadBegin m ∧ j = .msg 6 m noPartner noUcie) ∨
         (i = .domainReadSegment m ∧ j = .msg 7 m noPartner noUcie) ∨ (i = .transferCancel m ∧ j = .msg 8 m noPartner noUcie) ∨ (i = .kerfWait m ∧ j = .msg 9 m noPartner noUcie)) →
       exec i s = .next { s with dev := { s.dev with list := { s.dev.list with held := s.dev.list.held ++ [j] } } })) ∧
  (∀ (m : ListMsg) (n : SessN) (x : Session) (s : State), SessionServed s.dev n x →
     let answer (code : Nat) (body : List Byte) : Prop := exec (.kerfWait m) s = .next { s with dev := emit (listAnswer s.dev m 0x89 code body) s.dev }
     (ListMsgIn s.dev m n x → m.body.length = 8 →
       (x.parked.isSome = true → answer abWaitBusy []) ∧
       (x.parked = none → s.dev.kerf.counter + 10000 < leNat m.body → answer abRange []) ∧
       (x.parked = none → leNat m.body ≤ s.dev.kerf.counter + 10000 →
         (leNat m.body ≤ s.dev.kerf.lastSeq → answer abOk (leBytes 8 s.dev.kerf.counter)) ∧
         (s.dev.kerf.lastSeq < leNat m.body → ∃ d, exec (.kerfWait m) s = .next { s with dev := d } ∧ d.out = s.dev.out ∧ SessOnly s.dev d n { x with parked := some (m.tag, leNat m.body) }))) ∧
     (∀ tag target, x.parked = some (tag, target) → target ≤ s.dev.kerf.lastSeq →
       ∃ d, exec (.kerfWaitResponse n) s = .next { s with dev := d } ∧ SessOnly s.dev d n { x with parked := none } ∧
         d.out = s.dev.out ++ [.listResp s.dev.fuses.vendorId (some n.val) 0x89 tag abOk (leBytes 8 s.dev.kerf.counter)]))

/-- Writes of IMM entries that act (R29, R37, R151, R162, R216, R254, R316, R421, R456, R468): the answer carries the present kerf, the entry's act is carried out at once, and a 0 does
nothing. HARD_LIMIT takes its value at once where the ledger's dry fit accepts it, and keeps the old one where it refuses.

Writes of MSC_ENABLE (R229): a 1 to a slice that reads 0 with none staged is staged and pending where its dry fit accepts, and not where it refuses; a 1 to an enabled slice withdraws what is pending; a 0 is staged where the slice is clean, and refused where it is not;
a 2 of an enabled slice is staged and pending, and of a disabled one does nothing. Each waits for the next kerf. A maintenance command starts at once (R233). -/
def Obligations.ActingWrites : Prop :=
  (∀ (n : SessN) (x : Session) (tag : Nat) (s : State),
     let did (i : Instr) (d : Dev) : Prop := exec i s = .next { s with dev := emit (writeAnswer d n tag s.dev.kerf.counter) d }
     (∀ (i : Instr) (idx sub : Nat), MayWrite s.dev n x idx sub (leBytes 1 0) →
       ((i = .stagedDiscard (some n) tag 0 ∧ (idx, sub) = (0x2000, 6)) ∨ (∃ die : DieN, i = .linkRetrain (some n) tag die 0 ∧ (idx, sub) = (0xA001, die.val + 1)) ∨
         (∃ (site : SiteN) (u : UcieObs), i = .ucieRetrain (some n) tag site 0 u ∧ (idx, sub) = (0xA103, site.val + 1)) ∨
         (∃ die : DieN, i = .dieReadmit (some n) tag die 0 ∧ (idx, sub) = (0xA031, die.val + 1)) ∨ (∃ ch : SliceN, i = .dramRetrainNow (some n) tag ch 0 ∧ (idx, sub) = (0x4004, ch.val + 1)) ∨
         (∃ b : BenchN, i = .benchZeroise (some n) tag b 0 ∧ (idx, sub) = (0x5011, b.val + 1)) ∨ (i = .forcePromote (some n) tag 0 ∧ (idx, sub) = (0x6000, 6)) ∨
         (∃ k : Fin 32, i = .takeoverOpen (some n) tag k 0 ∧ (idx, sub) = (0x6031, k.val + 1)) ∨ (i = .ovfClear (some n) tag 0 ∧ (idx, sub) = (0x9030, 0))) → did i s.dev) ∧
     (MayWrite s.dev n x 0x2000 6 (leBytes 1 1) → did (.stagedDiscard (some n) tag 1) (discardStaged s.dev) ∧ (discardStaged s.dev).list.stg = [] ∧
       (∀ i j, (dryOf (discardStaged s.dev) i j).pend = false) ∧
       { discardStaged s.dev with list := { (discardStaged s.dev).list with stg := s.dev.list.stg, status := s.dev.list.status } } = s.dev) ∧
     (∀ v : BitVec 16, MayWrite s.dev n x 0x3000 2 (leBytes 2 v.toNat) →
       let f := ledgerFit (setCurNat s.dev 0x3000 2 v.toNat)
       let d := recordFit 0x3001 0 (0x3000, 2) false f s.dev
       (f.1 = 0 → did (.hardLimitW (some n) tag v) (setCurNat d 0x3000 2 v.toNat)) ∧
       (f.1 ≠ 0 → exec (.hardLimitW (some n) tag v) s = .next { s with dev := emit (.listResp s.dev.fuses.vendorId (some n.val) 0x82 tag abDryFit []) d })) ∧
     (∀ die : DieN, MayWrite s.dev n x 0xA001 (die + 1) (leBytes 1 1) → did (.linkRetrain (some n) tag die 1) (retrainLink die s.dev) ∧
       ((linkOf s.dev die).state = .up → LinkOnly s.dev (retrainLink die s.dev) die (linkOf (retrainLink die s.dev) die) ∧ (linkOf (retrainLink die s.dev) die).state = .recovery ∧
         (linkOf (retrainLink die s.dev) die).retrains = min 255 ((linkOf s.dev die).retrains + 1) ∧
         (linkOf (retrainLink die s.dev) die).up = (linkOf s.dev die).up ∧ (linkOf (retrainLink die s.dev) die).down = (linkOf s.dev die).down) ∧
       ((linkOf s.dev die).state ≠ .up → retrainLink die s.dev = s.dev)) ∧
     (∀ (site : SiteN) (u : UcieObs), MayWrite s.dev n x 0xA103 (site + 1) (leBytes 1 1) →
       let good := u.ok && decide (1 ≤ u.rate) && decide (u.rate ≤ 6) && (u.width == 8 || u.width == 16)
       did (.ucieRetrain (some n) tag site 1 u) (trainSite site u s.dev) ∧
       (sitePopulated s.dev site = false → trainSite site u s.dev = s.dev) ∧
       (sitePopulated s.dev site = true → good = true →
         SiteOnly s.dev (trainSite site u s.dev) site { siteOf s.dev site with uState := 3, uRate := u.rate, uWidth := u.width }) ∧
       (sitePopulated s.dev site = true → good = false → (siteOf s.dev site).uState ≠ 3 →
         SiteOnly s.dev (trainSite site u s.dev) site { siteOf s.dev site with uState := 1, uRate := 0, uWidth := 0 }) ∧
       (sitePopulated s.dev site = true → good = false → (siteOf s.dev site).uState = 3 → siteEnabled s.dev site = true → (siteOf s.dev site).cause = 0 →
         (siteOf (trainSite site u s.dev) site).uState = 1 ∧ (siteOf (trainSite site u s.dev) site).cause = 4)) ∧
     (∀ die : DieN, MayWrite s.dev n x 0xA031 (die + 1) (leBytes 1 1) → did (.dieReadmit (some n) tag die 1) (startReadmit die s.dev) ∧
       (dieOf (startReadmit die s.dev) die).phase = .readmitting ∧ (dieOf (startReadmit die s.dev) die).cache = [] ∧
       (dieOf (startReadmit die s.dev) die).inc = (if (dieOf s.dev die).inc = 63 then 1 else (dieOf s.dev die).inc + 1) ∧ (linkOf (startReadmit die s.dev) die).state = .training ∧
       (∀ k, k ≠ die.val → dieOf (startReadmit die s.dev) k = dieOf s.dev k ∧ linkOf (startReadmit die s.dev) k = linkOf s.dev k)) ∧
     (∀ ch : SliceN, MayWrite s.dev n x 0x4004 (ch + 1) (leBytes 1 1) → did (.dramRetrainNow (some n) tag ch 1) (roundNow ch false s.dev) ∧
       ((chanOf s.dev ch).state ≠ 2 → roundNow ch false s.dev = s.dev) ∧
       ((chanOf s.dev ch).state = 2 → chanLive (chanOf s.dev ch) = true →
         (chanOf (roundNow ch false s.dev) ch).lastRound = s.dev.now ∧ (chanOf (roundNow ch false s.dev) ch).pauseDue = 0) ∧
       ((chanOf s.dev ch).state = 2 → chanLive (chanOf s.dev ch) = false →
         ChanOnly s.dev (roundNow ch false s.dev) ch { chanOf s.dev ch with pauseDue := max (chanOf s.dev ch).pauseDue 1 })) ∧
     (∀ b : BenchN, MayWrite s.dev n x 0x5011 (b + 1) (leBytes 1 1) → did (.benchZeroise (some n) tag b 1) (benchZeroise b s.dev) ∧
       (benchOf (benchZeroise b s.dev) b).state = 4 ∧ ent (benchZeroise b s.dev) 0x5000 (b + 1) = 0) ∧
     (MayWrite s.dev n x 0x6000 6 (leBytes 1 1) → (s.dev.mirror.phase = 7 → did (.forcePromote (some n) tag 1) (takeoverResult true s.dev)) ∧
       (s.dev.mirror.phase ≠ 7 → did (.forcePromote (some n) tag 1) s.dev)) ∧
     (∀ k : Fin 32, MayWrite s.dev n x 0x6031 (k + 1) (leBytes 1 1) → did (.takeoverOpen (some n) tag k 1) (takeoverOpen (k + 1) s.dev) ∧
       takeOf (takeoverOpen (k + 1) s.dev) (k + 1) = { takeoverInit with openSince := s.dev.now } ∧
       ∀ j, j ≠ k.val + 1 → takeOf (takeoverOpen (k + 1) s.dev) j = takeOf s.dev j) ∧
     (MayWrite s.dev n x 0x9030 0 (leBytes 1 1) → did (.ovfClear (some n) tag 1) (ovfClear s.dev) ∧
       { ovfClear s.dev with obs := { (ovfClear s.dev).obs with ctr := s.dev.obs.ctr } } = s.dev ∧
       ∀ k v, (k, v) ∈ (ovfClear s.dev).obs.ctr ↔ v ≠ 0 ∧ ∃ w, (k, w) ∈ s.dev.obs.ctr ∧ v = w % 2 ^ 48)) ∧
  (∀ (n : SessN) (x : Session) (tag : Nat) (sl : SliceN) (s : State),
     let staged (i : Instr) (v : Nat) : Prop := ∃ d, exec i s = .next { s with dev := d } ∧ d.out = s.dev.out ++ [writeAnswer s.dev n tag (s.dev.kerf.counter + 1)] ∧
       d.list.stg = (setStg s.dev 0x4100 (sl + 1) (some (.num v))).list.stg ∧ (v ≠ 0 → (dryOf d 0x4101 (sl + 1)).pend = true) ∧
       { d with list := { d.list with stg := s.dev.list.stg, status := s.dev.list.status }, out := s.dev.out } = s.dev
     let refused (i : Instr) (reason : Nat) (stg : Tab (Option Val)) : Prop := ∃ d, exec i s = .next { s with dev := d } ∧
       d.out = s.dev.out ++ [.listResp s.dev.fuses.vendorId (some n.val) 0x82 tag abDryFit []] ∧ (dryOf d 0x4101 (sl + 1)).reason = reason ∧ d.list.stg = stg ∧
       { d with list := { d.list with stg := s.dev.list.stg, status := s.dev.list.status }, out := s.dev.out } = s.dev
     (MayWrite s.dev n x 0x4100 (sl + 1) (leBytes 2 1) → ent s.dev 0x4100 (sl + 1) = 0 → entNext s.dev 0x4100 (sl + 1) = 0 →
       ((mscFit1 s.dev sl).1 = 0 → staged (.mscEnable (some n) tag sl) 1) ∧
       ((mscFit1 s.dev sl).1 ≠ 0 → refused (.mscEnable (some n) tag sl) (mscFit1 s.dev sl).1 (setStg s.dev 0x4100 (sl + 1) none).list.stg)) ∧
     (MayWrite s.dev n x 0x4100 (sl + 1) (leBytes 2 1) → (ent s.dev 0x4100 (sl + 1) ≠ 0 ∨ entNext s.dev 0x4100 (sl + 1) ≠ 0) →
       exec (.mscEnable (some n) tag sl) s = .next { s with
         dev := emit (writeAnswer s.dev n tag (s.dev.kerf.counter + 1))
           (if ent s.dev 0x4100 (sl + 1) = 1 then setPend (0x4101, sl + 1) false (setStg s.dev 0x4100 (sl + 1) (some (.num 1))) else s.dev) }) ∧
     (MayWrite s.dev n x 0x4100 (sl + 1) (leBytes 2 0) →
       ((mscFit0 s.dev sl).1 = 0 → staged (.mscDisable (some n) tag sl) 0) ∧
       ((mscFit0 s.dev sl).1 ≠ 0 → refused (.mscDisable (some n) tag sl) (mscFit0 s.dev sl).1 s.dev.list.stg)) ∧
     (MayWrite s.dev n x 0x4100 (sl + 1) (leBytes 2 2) →
       (ent s.dev 0x4100 (sl + 1) = 1 → staged (.mscFlushThenDisable (some n) tag sl) 2) ∧
       (ent s.dev 0x4100 (sl + 1) ≠ 1 → exec (.mscFlushThenDisable (some n) tag sl) s = .next { s with dev := emit (writeAnswer s.dev n tag s.dev.kerf.counter) s.dev })) ∧
     (∀ (scope : Bool) (sls : BitVec 16) (i : Instr) (op : Nat),
       ((i = .mscMaintClean (some n) tag scope sls ∧ op = 1) ∨ (i = .mscMaintInvalidate (some n) tag scope sls ∧ op = 2) ∨ (i = .mscMaintCleanInvalidate (some n) tag scope sls ∧ op = 3)) →
       MayWrite s.dev n x 0x4110 2 (leBytes 8 (maintCmd op scope sls)) →
       let d := maintStart (maintCmd op scope sls) (setCurNat s.dev 0x4110 2 (maintCmd op scope sls))
       exec i s = .next { s with dev := emit (writeAnswer d n tag s.dev.kerf.counter) d } ∧ d.maint.op = op ∧ d.maint.scopeAll = scope ∧ d.maint.slices = sls.toNat ∧
         d.maint.base = ent s.dev 0x4110 0 ∧ d.maint.limit = ent s.dev 0x4110 1 ∧
         (if scope = false ∧ ent s.dev 0x4110 1 < ent s.dev 0x4110 0 then d.maint.busy = false ∧ d.maint.done = true else d.maint.busy = true ∧ d.maint.done = false)))

/-- DOMAIN entries written whole (R14, R383, R394, R397, R398): the fuse requests blow what they name and no other fuse, a role key is stored or emptied, a report request is stored, and a report is
read back in one segment. -/
def Obligations.DomainWritesWhole : Prop :=
  ∀ (n : SessN) (x : Session) (tag : Nat) (s : State),
    let ends (i : Instr) (d : Dev) : Prop := exec i s = .next { s with dev := d } ∧
      d.out = s.dev.out ++ [.listResp s.dev.fuses.vendorId (some n.val) 0x83 tag abOk [], .listResp s.dev.fuses.vendorId (some n.val) 0x84 tag abOk [],
        .listResp s.dev.fuses.vendorId (some n.val) 0x85 tag abOk (leBytes 8 s.dev.kerf.counter)] ∧
      { d with list := s.dev.list, fuses := s.dev.fuses, reports := s.dev.reports, out := s.dev.out } = s.dev
    (∀ (k : Nat) (hash : List Byte), MayWriteDomain s.dev n x 0x7042 0 (fuseValue 1 k hash) → k < 4 → ∃ d, ends (.fuseOwnerSlot (some n) tag k hash) d ∧
      tabGet [] d.fuses.ownerHash k = padTo 64 hash ∧ (∀ j, j ≠ k → tabGet [] d.fuses.ownerHash j = tabGet [] s.dev.fuses.ownerHash j) ∧
      { d.fuses with ownerHash := s.dev.fuses.ownerHash } = s.dev.fuses ∧ d.reports = s.dev.reports) ∧
    (∀ k : Nat, MayWriteDomain s.dev n x 0x7042 0 (fuseValue 2 k []) → k < 4 → ∃ d, ends (.revokeOwnerSlot (some n) tag k) d ∧
      d.fuses = { s.dev.fuses with ownerRevoked := s.dev.fuses.ownerRevoked ++ [k] } ∧ d.reports = s.dev.reports) ∧
    (∀ k : Nat, MayWriteDomain s.dev n x 0x7042 0 (fuseValue 3 k []) → k < 4 → ∃ d, ends (.revokeVendorSlot (some n) tag k) d ∧
      d.fuses = { s.dev.fuses with vendorRevoked := s.dev.fuses.vendorRevoked ++ [k] } ∧ d.reports = s.dev.reports) ∧
    (∀ k : Nat, MayWriteDomain s.dev n x 0x7042 0 (fuseValue 4 k []) → k < 4 → ∃ d, ends (.forbidDebugEnable (some n) tag k) d ∧
      d.fuses = { s.dev.fuses with debugOff := setBit s.dev.fuses.debugOff k true } ∧ d.reports = s.dev.reports ∧
      (∀ e, e < 4 → debugFuseBit e = k → ent d 0x7002 (e + 1) = 0 ∧ isStaged d 0x7002 (e + 1) = false)) ∧
    (∀ (k : Fin 16) (hash : List Byte) (role : Nat), MayWriteDomain s.dev n x 0x7030 (k + 1) (roleValue (some (hash, role))) → ∃ d, ends (.roleKey (some n) tag k (some (hash, role))) d ∧
      entBytes d 0x7030 (k + 1) = padTo 64 hash ++ leBytes 1 role ∧ d.fuses = s.dev.fuses ∧ d.reports = s.dev.reports) ∧
    (∀ k : Fin 16, MayWriteDomain s.dev n x 0x7030 (k + 1) [] → ∃ d, exec (.roleKey (some n) tag k none) s = .next { s with dev := d } ∧ entBytes d 0x7030 (k + 1) = [] ∧
      d.out = s.dev.out ++ [.listResp s.dev.fuses.vendorId (some n.val) 0x83 tag abOk [], .listResp s.dev.fuses.vendorId (some n.val) 0x85 tag abOk (leBytes 8 s.dev.kerf.counter)] ∧
      { d with list := s.dev.list, out := s.dev.out } = s.dev) ∧
    (∀ (eid : BitVec 16) (nonce : List Byte), MayWriteDomain s.dev n x 0x7010 0 (leBytes 2 eid.toNat ++ padTo 32 nonce) → ∃ d, ends (.enclaveReportReq (some n) tag eid nonce) d ∧
      tabGet none d.reports n = some (eid.toNat, padTo 32 nonce) ∧ (∀ k, k ≠ n.val → tabGet none d.reports k = tabGet none s.dev.reports k) ∧ d.fuses = s.dev.fuses) ∧
    (∀ (r : EntryRow) (v : List Byte), SessionServed s.dev n x → ownWrite x = false → entryRow 0x7010 1 = some r →
      targetCode s.dev x.role false true 0x7010 1 [] = abOk → curBytes s.dev n x.role r 0x7010 1 = v → v.length = 320 →
      ∃ d, exec (.enclaveReport (some n) tag) s = .next { s with dev := d } ∧ { d with list := s.dev.list, out := s.dev.out } = s.dev ∧
        d.out = s.dev.out ++ [.listResp s.dev.fuses.vendorId (some n.val) 0x86 tag abOk (leBytes 4 320), .listResp s.dev.fuses.vendorId (some n.val) 0x87 tag abOk (leBytes 2 320 ++ v)])

/-! ### The hub's commands and registers -/

/-- The page and enclave commands that a hart in M mode writes to its own slot (R372–R376, R378–R383), with no access under way to a page they change. Each ends with BUSY 0 and its CODE;
one that ends with another CODE than 0 has changed nothing but the slot. Where its checks pass each has the effect its rule gives. A busy slot takes no command, and no other mode reaches it.

The IOMMU's commands (R139; their scopes are those of the IOMMU specification, log entry 11): entries in scope go, every other stays, and IOFENCE.C writes its data. -/
def Obligations.HubAndIommuCommands : Prop :=
  (∀ (h : HartN) (s : State),
     let a := cmdOf s.dev h
     let e := enclOf s.dev a.a0
     let cmds : List (Nat × Instr) := [(1, .setOwner h), (2, .ecreate h), (3, .eadd h), (4, .einit h), (5, .estop h), (6, .eremove h), (7, .equery h)]
     let ends (c : Nat) (i : Instr) (code result : Nat) (d : Dev) : Prop :=
       exec i s = .next { s with dev := updCmd d h (fun x => { x with cmd := c, busy := false, code := code, result := result, latched := [] }) }
     let free (p : Nat) : Prop := pageCode s.dev (fun c => c == 0 || c == 6) p = 0
     let known : Prop := 1 ≤ a.a0 ∧ a.a0 < 4096
     ((hartRuns s.dev h = false ∨ (hartOf s.dev h).mode ≠ .m ∨ a.busy = true) → ∀ c ∈ cmds, exec c.2 s = .next s) ∧
     (hartRuns s.dev h = true → (hartOf s.dev h).mode = .m → a.busy = false →
       (∀ c ∈ cmds, accessPending s.dev (cmdPages c.1 a s.dev) = true →
         exec c.2 s = .next { s with dev := updCmd s.dev h (fun x => { x with cmd := c.1, busy := true, latched := [a.a0, a.a1, a.a2, a.a3] }) }) ∧
       (∀ c ∈ cmds, accessPending s.dev (cmdPages c.1 a s.dev) = false →
         ∃ code result d, ends c.1 c.2 code result d ∧ (code ≠ 0 → d = s.dev)) ∧
       (accessPending s.dev (cmdPages 1 a s.dev) = false →
         (a.a0 % 4096 ≠ 0 → ends 1 (.setOwner h) 8 0 s.dev) ∧
         (∀ new, a.a2 = new → a.a0 % 4096 = 0 → 1 ≤ a.a1 → a.a1 ≤ 512 → new < 65536 → potLocked new = false → ¬(potClass new = 6 ∧ potOid new ≠ 0) →
           (potClass new = 0 ∨ (potClass new = 1 ∧ secureExists s.dev = true) ∨ (potClass new = 3 ∧ instanceExists (potOid new) = true) ∨ potClass new = 6) →
           let bad := firstBad (pageCode s.dev (fun c => c == 0 || c == 1 || c == 3 || c == 6)) 0 (pagesFrom a.a0 a.a1)
           (bad.1 ≠ 0 → ends 1 (.setOwner h) bad.1 bad.2 s.dev) ∧
           (bad.1 = 0 → ends 1 (.setOwner h) 0 0 ((pagesFrom a.a0 a.a1).foldl (fun d p =>
             let old := potEntry d p
             changePage new ((potClass old == 1 && potClass new != 1) || (potClass old == 3 && (potClass new != 3 || potOid old != potOid new))) p d) s.dev)))) ∧
       (known → e.state = 0 → accessPending s.dev (cmdPages 2 a s.dev) = false → a.a1 % 4096 = 0 → a.a3 % 4 = 0 → 1 ≤ getBits a.a2 8 8 → getBits a.a2 8 8 ≤ 64 → getBits a.a2 16 48 = 0 →
         getBits a.a2 6 2 = 0 → getBit a.a2 3 = false → getBits a.a2 4 2 ≠ 3 → (getBit a.a2 2 = true → secureExists s.dev = true) → (∀ p ∈ pagesFrom a.a1 (1 + getBits a.a2 8 8), free p) →
         ends 2 (.ecreate h) 0 0 (updEncl ((pagesFrom a.a1 (1 + getBits a.a2 8 8)).foldl (fun d p => changePage 0xC000 true p d) s.dev) a.a0 (fun _ => { enclaveInit with
           state := 1, attr := a.a2, entry := a.a3, ctrl := a.a1,
           input := [0x45, 0x43, 0x52, 0x45, 0x41, 0x54, 0x45, 0] ++ leBytes 8 a.a2 ++ leBytes 8 a.a3 }))) ∧
       (known → (e.state = 1 ∨ (e.state = 2 ∧ a.a2 = 0 ∧ getBits a.a3 1 3 = 0)) → accessPending s.dev (cmdPages 3 a s.dev) = false → a.a1 % 4096 = 0 → a.a2 % 4096 = 0 → getBits a.a3 4 8 = 0 → getBit a.a3 0 = false → a.a1 ≠ a.a2 →
         (getBit a.a3 2 = true → e.report = none) → free a.a1 →
         (a.a2 ≠ 0 → isDram s.dev a.a2 = true ∧ a.a2 < s.dev.pot.cover ∧ (potClass (potEntry s.dev a.a2) = 0 ∨ potClass (potEntry s.dev a.a2) = 1)) →
         let d0 := potStore a.a1 0x6000 s.dev
         let d1 := potStore a.a1 (0xA000 + a.a0) (if a.a2 = 0 then zeroPage a.a1 d0 else copyPage a.a2 a.a1 d0)
         ∃ d, ends 3 (.eadd h) 0 0 d ∧ { d with encl := d1.encl } = d1 ∧ enclOf d a.a0 = { enclOf d1 a.a0 with
           pages := (enclOf d1 a.a0).pages + 1, roots := if getBit a.a3 3 then (enclOf d1 a.a0).roots ++ [a.a1] else (enclOf d1 a.a0).roots,
           report := if getBit a.a3 2 then some a.a1 else (enclOf d1 a.a0).report,
           input := if (enclOf d1 a.a0).state = 1 then (enclOf d1 a.a0).input ++ [0x45, 0x41, 0x44, 0x44, 0, 0, 0, 0] ++ leBytes 8 a.a3 ++
             (if getBit a.a3 1 then cohBytes d1 a.a1 4096 else []) else (enclOf d1 a.a0).input }) ∧
       (known → e.state = 1 → e.roots.length = 1 → ends 4 (.einit h) 0 0 (updEncl s.dev a.a0 (fun e => { e with state := 2, meas := sha512 e.input }))) ∧
       (known → 1 ≤ e.state → e.state ≤ 4 → hartInside s.dev a.a0 = false → ends 5 (.estop h) 0 0 (updEncl s.dev a.a0 (fun e => { e with state := 4, slots := [] }))) ∧
       (known → (e.state = 1 ∨ e.state = 3 ∨ e.state = 4) → hartInside s.dev a.a0 = false → accessPending s.dev (cmdPages 6 a s.dev) = false → a.a1 % 4096 = 0 → isDram s.dev a.a1 = true →
         a.a1 < s.dev.pot.cover →
         (a.a1 = e.ctrl → e.pages = 0 → ends 6 (.eremove h) 0 0
           (updEncl ((pagesFrom e.ctrl (1 + getBits e.attr 8 8)).foldl (fun d p => changePage 0x6000 true p d) s.dev) a.a0 (fun _ => enclaveInit))) ∧
         (a.a1 ≠ e.ctrl → potClass (potEntry s.dev a.a1) = 2 → potOid (potEntry s.dev a.a1) = a.a0 → ends 6 (.eremove h) 0 0
           (updEncl (changePage 0x6000 true a.a1 s.dev) a.a0 (fun e => { e with
             pages := e.pages - 1, roots := e.roots.filter (fun p => p != a.a1), report := if e.report = some a.a1 then none else e.report })))) ∧
       (known → 1 ≤ e.state → e.state ≤ 4 →
         ends 7 (.equery h) 0 (packFields [(e.pages, 0, 48), ((e.slots.filter (fun s => s.2.isSome)).length, 48, 8), (e.state, 56, 8)]) s.dev))) ∧
  (∀ (gv : Bool) (gscid : Nat) (av : Bool) (addr : Nat) (pscv : Bool) (pscid : Nat) (s : State), ∃ d, exec (.iotinvalVma gv gscid av addr pscv pscid) s = .next { s with dev := d } ∧
    (∀ e, e ∈ d.iommu ↔ e ∈ s.dev.iommu ∧ ¬((if gv then e.gscid = some gscid else e.gscid = none) ∧ (av = true → e.page = addr / 4096) ∧ (pscv = true → e.pscid = some pscid))) ∧
    { d with iommu := s.dev.iommu } = s.dev) ∧
  (∀ (gv : Bool) (gscid : Nat) (av : Bool) (addr : Nat) (s : State), ∃ d, exec (.iotinvalGvma gv gscid av addr) s = .next { s with dev := d } ∧
    (∀ e, e ∈ d.iommu ↔ e ∈ s.dev.iommu ∧ ¬(e.gscid ≠ none ∧ (gv = true → e.gscid = some gscid) ∧ (gv = true → av = true → e.gpage = addr / 4096))) ∧
    { d with iommu := s.dev.iommu } = s.dev) ∧
  (∀ (addr data : Nat) (s : State), exec (.iofenceC false addr data) s = .next s ∧
    (isMain s.dev addr = true → exec (.iofenceC true addr data) s = .next { s with dev := cohWrite (addr / 4 * 4) (leBytes 4 data) s.dev }) ∧
    (isMain s.dev addr = false → exec (.iofenceC true addr data) s = .next s))

/-- Registers of the hub and uncached accesses (R103, R109, R179, R197, R211, R215, R371, R390, R417, R446): a hold register takes a machine-mode write where the secure world exists; an NCRD is answered
with a register of the hub, with the Gauge's window, or by a device that no held write comes before; an NCWR reaches a hub register of a machine-mode hart, is counted in the Gauge's window, or leaves the package where no pair holds it,
and is acknowledged; an IMSW sets its identity pending, or is lost and counted; a write of the Gauge's window is only counted.

Register writes (R12, R96, R281, R306, R318, R319, R321, R325, R331, R332, R334, R372): the RW fields of the register take the value; fields a rule locks keep theirs. A register of a
function that does not exist, or that the hart is not bound to, ignores the write; a CSR write is a CSR instruction, with the exception its access raises. -/
def Obligations.HubRegisters : Prop :=
  (∀ (h : HartN) (r : Fin 5) (v : Word) (s : State),
    ((hartRuns s.dev h = false ∨ (hartOf s.dev h).mode ≠ .m ∨ secureExists s.dev = false) → exec (.holdRegisterWrite h r v) s = .next s) ∧
    (hartRuns s.dev h = true → (hartOf s.dev h).mode = .m → secureExists s.dev = true →
      ∃ d, exec (.holdRegisterWrite h r v) s = .next { s with dev := releaseRest d } ∧ { d with holds := s.dev.holds, holdUnits := s.dev.holdUnits } = s.dev ∧
      (∀ k, k < 4 → k ≠ r.val → holdRead d k = holdRead s.dev k) ∧ (r.val < 3 → holdRead d r = v.toNat) ∧ (r.val = 3 → getBits d.holds 192 24 = v.toNat % 2 ^ 24) ∧
      (r.val < 4 → d.holdUnits = s.dev.holdUnits) ∧
      (r.val = 4 → d.holds = s.dev.holds ∧ d.holdUnits = packFields [(v.toNat, 0, 12), (getBits v.toNat 16 4, 16, 4)]))) ∧
  (∀ (m : FMsg) (s : State), InService s.dev m → Passes s.dev m.die →
    let h := 18 * m.die + m.core % 18
    let off := m.addr - hubBase
    let d0 := arrive { m with op := .ncrd } s.dev
    let d1 := arrive { m with op := .ncwr } s.dev
    let bytes := leBytes m.size m.data.toNat
    let q : FMsg := { m with op := .ncwr }
    (inHubRange m.addr = true → ∀ v, hubReg s.dev h off = some v → exec (.ncrd m) s = .next { s with dev := ncReply { m with op := .ncrd } (v / 2 ^ (8 * (off % 8)) % 2 ^ (8 * m.size)) d0 }) ∧
    (inHubRange m.addr = true → hubReg s.dev h off = none →
      exec (.ncrd m) s = .next { s with dev := ncReply { m with op := .ncrd } (freeVal s.dev % 2 ^ (8 * m.size)) (drawn d0) }) ∧
    (inHubRange m.addr = false → inGaugeWindow m.addr = true → exec (.ncrd m) s = .next { s with dev := ncReply { m with op := .ncrd } (windowRead s.dev m.addr m.size) d0 }) ∧
    (inHubRange m.addr = false → inGaugeWindow m.addr = false → (∀ e ∈ s.dev.mirror.clamp, e.rp ≠ Config.rootPort m.addr % 16) →
      exec (.ncrd m) s = .next { s with dev := serveRead { m with op := .ncrd } d0 }) ∧
    (inHubRange m.addr = true → exec (.ncwr m) s = .next { s with dev := hubWrite h m.addr m.size (m.data.toNat % 2 ^ (8 * m.size)) (ackWrite (some q) d1) }) ∧
    (inHubRange m.addr = false → inGaugeWindow m.addr = true → exec (.ncwr m) s = .next { s with dev := countPkg pkgGaugeWrite (ackWrite (some q) d1) }) ∧
    (inHubRange m.addr = false → inGaugeWindow m.addr = false → clampHolds s.dev = false →
      exec (.ncwr m) s = .next { s with dev := ackWrite (some q) (emit (.device true m.addr m.size (leNat bytes)) d1) })) ∧
  (∀ (m : FMsg) (file : Fin 9) (s : State), Passes s.dev m.die → m.inc = (dieOf s.dev m.die).inc →
    let h := 18 * m.die + m.core % 18
    let v := m.data.toNat % 2 ^ 32
    let d0 := arrive { m with op := .imsw, up := false } s.dev
    let sets (d : Dev) : Prop := HartOnly d0 d h { imsicSet file v (hartOf s.dev h) with ckptCurrent := false } ∧
      (1 ≤ v → v ≤ 255 → (file = 0 → v ∈ (hartOf d h).imsicM.pending) ∧ (file = 1 → v ∈ (hartOf d h).imsicS.pending))
    ((dieOf s.dev m.die).phase = .inService → (dieOf s.dev m.die).retired = false → (linkOf s.dev m.die).state ≠ .folded → (hartOf s.dev h).rest ≠ .retain → (hartOf s.dev h).offline = false →
      ∃ d, exec (.imsw m file) s = .next { s with dev := d } ∧ sets d) ∧
    ((dieOf s.dev m.die).phase = .withdrawn → (hartOf s.dev h).offline = false → ∃ d, exec (.imsw m file) s = .next { s with dev := d } ∧ sets d) ∧
    ((dieOf s.dev m.die).retired = false → (hartOf s.dev h).offline = true → exec (.imsw m file) s = .next { s with dev := countPkg pkgMsiOffline d0 }) ∧
    ((dieOf s.dev m.die).retired = true → (dieOf s.dev m.die).phase ≠ .withdrawn → exec (.imsw m file) s = .next { s with dev := countPkg pkgImswLost d0 })) ∧
  (∀ (addr : Nat) (v : Word) (s : State), exec (.gaugeWindowWrite addr v) s = .next (if inGaugeWindow addr then { s with dev := countPkg pkgGaugeWrite s.dev } else s)) ∧
  (∀ (h : HartN) (insn : BitVec 32) (v : Word) (s : State), HartReady s.dev h →
    let x := hartOf s.dev h
    let n := insn.toNat / 2 ^ 20 % 4096
    let old := csrLoad s.dev h (csrHome x n)
    let w := csrWrites insn.toNat
    ((writableCsr n = false ∧ readOnlyCsr n = false) → exec (.registerWrite (.csr h insn) v) s = .next { s with dev := trapIllegal h insn.toNat s.dev }) ∧
    ((writableCsr n = true ∨ readOnlyCsr n = true) → satpTrap x n = none → n ≠ 0x6C2 →
      (csrAccess x n w = 0 → exec (.registerWrite (.csr h insn) v) s = .next { s with dev := trapIllegal h insn.toNat s.dev }) ∧
      (csrAccess x n w = 1 → exec (.registerWrite (.csr h insn) v) s = .next { s with dev := trapVirtual h insn.toNat s.dev }) ∧
      (csrAccess x n w = 2 → ¬(0xB02 ≤ n ∧ n ≤ 0xB1F) → ∃ d, exec (.registerWrite (.csr h insn) v) s = .next { s with dev := d } ∧
        HartSteps s.dev d h (let y := setX (insn.toNat / 2 ^ 7 % 32) old (if w then csrStore (csrHome x n) (csrNew insn.toNat old v.toNat) (freeVal s.dev) x else x)
          { y with pc := (x.pc + 4) % 2 ^ 64 })))) ∧
  (∀ (h : HartN) (v : Word) (k : Fin 4) (s : State), hartRuns s.dev h = true →
    let t : RegTarget := .hub h (hubBase + slotBase + 0x40 * h + 8 * k) 8
    ((hartOf s.dev h).mode ≠ .m → exec (.registerWrite t v) s = .next s) ∧
    ((hartOf s.dev h).mode = .m → ∃ d, exec (.registerWrite t v) s = .next { s with dev := d } ∧ { d with cmds := s.dev.cmds } = s.dev ∧ (∀ j, j ≠ h.val → cmdOf d j = cmdOf s.dev j) ∧
      cmdOf d h = { cmdOf s.dev h with
        a0 := if k = 0 then v.toNat else (cmdOf s.dev h).a0, a1 := if k = 1 then v.toNat else (cmdOf s.dev h).a1,
        a2 := if k = 2 then v.toNat else (cmdOf s.dev h).a2, a3 := if k = 3 then v.toNat else (cmdOf s.dev h).a3 })) ∧
  (∀ (h : HartN) (b : BenchN) (f : FnN) (k : RingN) (w : Fin 68) (v : Word) (s : State) (t : RegTarget),
    t ∈ [RegTarget.sqBase h b f k, .cqBase h b f k, .fchMemAddr h b f k, .fchSpadOff h b f k, .fchCount h b f k, .fchCtl h b f k, .msix h b f w] →
    (fnExists s.dev b f = false → exec (.registerWrite t v) s = .next s) ∧
    (fnExists s.dev b f = true → hartServed s.dev b f h = false → exec (.registerWrite t v) s = .next { s with dev := countPkg pkgFnDenied s.dev })) ∧
  (∀ (h : HartN) (b : BenchN) (f : FnN) (r : RingN) (v : Word) (s : State), BarServed s.dev b f h →
    let x := ringOf s.dev b f r
    ((fnOf s.dev b f).rings ≤ r.val → exec (.registerWrite (.sqBase h b f r) v) s = .next s ∧ exec (.registerWrite (.cqBase h b f r) v) s = .next s) ∧
    (r.val < (fnOf s.dev b f).rings →
      (∃ d, exec (.registerWrite (.sqBase h b f r) v) s = .next { s with dev := d } ∧ RingOnly s.dev d b f r { x with sqBase := if x.enable then x.sqBase else v.toNat / 4096 * 4096 }) ∧
      (∃ d, exec (.registerWrite (.cqBase h b f r) v) s = .next { s with dev := d } ∧ RingOnly s.dev d b f r { x with cqBase := if x.enable then x.cqBase else v.toNat / 4096 * 4096 }))) ∧
  (∀ (h : HartN) (b : BenchN) (f : FnN) (c : RingN) (v : Word) (s : State), BarServed s.dev b f h →
    let x := feedOf s.dev b c
    ((chanOwnerOf s.dev b c ≠ f.val ∨ x.state = 1 ∨ x.state = 4) →
      ∀ t ∈ [RegTarget.fchMemAddr h b f c, .fchSpadOff h b f c, .fchCount h b f c], exec (.registerWrite t v) s = .next s) ∧
    (chanOwnerOf s.dev b c = f.val → x.state ≠ 1 → x.state ≠ 4 →
      (∃ d, exec (.registerWrite (.fchMemAddr h b f c) v) s = .next { s with dev := d } ∧ FeedOnly s.dev d b c { x with mem := v.toNat }) ∧
      (∃ d, exec (.registerWrite (.fchSpadOff h b f c) v) s = .next { s with dev := d } ∧ FeedOnly s.dev d b c { x with off := v.toNat % 2 ^ 32 }) ∧
      (∃ d, exec (.registerWrite (.fchCount h b f c) v) s = .next { s with dev := d } ∧ FeedOnly s.dev d b c { x with count := v.toNat % 2 ^ 24 }) ∧
      (getBits v.toNat 0 3 = 0 → ∃ d, exec (.registerWrite (.fchCtl h b f c) v) s = .next { s with dev := d } ∧
        FeedOnly s.dev d b c { x with wrap := getBits v.toNat 12 4, dir := getBits v.toNat 8 2 }))) ∧
  (∀ (h : HartN) (b : BenchN) (f : FnN) (w : Fin 68) (v : Word) (s : State), BarServed s.dev b f h →
    ∃ d, exec (.registerWrite (.msix h b f w) v) s = .next { s with dev := d } ∧ FnOnly s.dev d b f { fnOf s.dev b f with msix := (fnOf d b f).msix } ∧
      ∀ k, tabGet 0 (fnOf d b f).msix k = if k = w.val then v else tabGet 0 (fnOf s.dev b f).msix k) ∧
  (∀ (h : HartN) (b : BenchN) (f : FnN) (i : Fin 5) (v : Word) (s : State), BarServed s.dev b 0 h →
    let x := fnOf s.dev b f
    (∃ d, exec (.registerWrite (.ftDlogBase h b f) v) s = .next { s with dev := d } ∧ FnOnly s.dev d b f { x with dlogBase := v.toNat / 4096 * 4096 }) ∧
    (∃ d, exec (.registerWrite (.ftDlogIova h b f) v) s = .next { s with dev := d } ∧ FnOnly s.dev d b f { x with dlogIova := v.toNat / 4096 * 4096 }) ∧
    (∃ d, exec (.registerWrite (.ftDlogPages h b f) v) s = .next { s with dev := d } ∧ FnOnly s.dev d b f { x with dlogPages := min v.toNat (2 ^ 36) }) ∧
    (∃ d, exec (.registerWrite (.ftTenant h b f) v) s = .next { s with dev := d } ∧ FnOnly s.dev d b f { x with tenant := v.toNat % 4096 }) ∧
    (x.qstate = 0 → anyRingEnabled s.dev b f 0 = true → exec (.registerWrite (.ftIoatp h b f) v) s = .next s) ∧
    ((x.qstate ≠ 0 ∨ anyRingEnabled s.dev b f 0 = false) → ∃ d, exec (.registerWrite (.ftIoatp h b f) v) s = .next { s with dev := d } ∧
      FnOnly s.dev d b f { x with ioatp := packFields [(getBits v.toNat 60 4, 60, 4), (getBits v.toNat 0 44, 0, 44)] }) ∧
    (∃ d, exec (.registerWrite (.pfQdone h b i) v) s = .next { s with dev := d } ∧ BenchOnly s.dev d b { benchOf s.dev b with qdone := (benchOf d b).qdone } ∧
      ∀ k, k < 320 → getBit (benchOf d b).qdone k = (getBit (benchOf s.dev b).qdone k && !(decide (k / 64 = i.val) && getBit v.toNat (k % 64)))) ∧
    (∃ d, exec (.registerWrite (.btuInvalIova h b) v) s = .next { s with dev := d } ∧ BenchOnly s.dev d b { benchOf s.dev b with invalIova := v.toNat / 4096 * 4096 })) ∧
  (∀ (b : BenchN) (f : FnN) (v : Word) (s : State),
    let x := fnOf s.dev b f
    (v.toNat ≤ 256 → (benchOf s.dev b).vfs = 0 → ∃ d, exec (.registerWrite (.vfEnable b) v) s = .next { s with dev := d } ∧ BenchOnly s.dev d b { benchOf s.dev b with vfs := v.toNat }) ∧
    ((256 < v.toNat ∨ (benchOf s.dev b).vfs ≠ 0) → exec (.registerWrite (.vfEnable b) v) s = .next s) ∧
    (v = 0 → ∃ d, exec (.registerWrite (.powerState b f) v) s = .next { s with dev := d } ∧ FnOnly s.dev d b f { x with d3 := false, qstate := if x.d3 = true ∧ x.quiesce = 0 then 0 else x.qstate }) ∧
    (v = 3 → x.qstate ≠ 0 → ∃ d, exec (.registerWrite (.powerState b f) v) s = .next { s with dev := d } ∧ FnOnly s.dev d b f { x with d3 := true }) ∧
    (v = 3 → x.qstate = 0 → ∃ d, exec (.registerWrite (.powerState b f) v) s = .next { s with dev := d } ∧ fnOf d b f = { x with d3 := true, qstate := 1 } ∧
      getBit (benchOf d b).qdone f = false ∧ d.out = s.dev.out ++ (if f = 0 then [] else [.msi b f 33]) ∧ { d with benches := s.dev.benches, out := s.dev.out } = s.dev) ∧
    (v ≠ 0 → v ≠ 3 → exec (.registerWrite (.powerState b f) v) s = .next s)) ∧
  (∀ (h : HartN) (v : Word) (s : State),
    ((hartOf s.dev h).halted = true → ∃ d, exec (.registerWrite (.dmResume h) v) s = .next { s with dev := d } ∧
      HartOnly s.dev d h { hartOf s.dev h with halted := false, haltReq := getBit (csr (hartOf s.dev h) 0x7B0) 2 }) ∧
    ((hartOf s.dev h).halted = false → ∃ d, exec (.registerWrite (.dmResume h) v) s = .next { s with dev := d } ∧ HartOnly s.dev d h (hartOf s.dev h)))

/-- The Debug Module (R121, R386–R389): a halt request halts a running hart, or one that waits in TSYNC, whose context is invasive, and pends otherwise; a register of a halted hart is read and written, with
cmderr 2 for no register number and 3 for an access that fails or is closed; the program buffer runs to its ebreak and reports an exception as cmderr 3; a hart that is not halted
answers cmderr 4. The system bus answers sberror 4 for a size and 3 for an alignment it does not take, and reaches only pages it is allowed, and the Gauge's window for reads; else it answers 7. -/
def Obligations.DebugAccess : Prop :=
  (∀ (h : HartN) (s : State),
    let x := hartOf s.dev h
    (x.halted = false → x.released = true → x.powered = true → x.offline = false → dieRuns s.dev (dieOfHart h) = true → packageStopped s.dev = false → x.rest = .running →
      (x.waiting = none ∨ ∃ w, x.waiting = some w ∧ w.op = .tsync) → ctxInvasive s.dev x x.mode = true →
      ∃ d, exec (.debugHaltRequest h) s = .next { s with dev := d } ∧ HartOnly s.dev d h { x with halted := true, haltReq := false, haltMode := x.mode, waiting := none }) ∧
    (HartReady s.dev h → ctxInvasive s.dev x x.mode = false → ∃ d, exec (.debugHaltRequest h) s = .next { s with dev := d } ∧ HartOnly s.dev d h { x with haltReq := true }) ∧
    (x.halted = true → x.haltReq = false → ∃ d, exec (.debugHaltRequest h) s = .next { s with dev := d } ∧ HartOnly s.dev d h x)) ∧
  (∀ (h : HartN) (regno : Nat) (w : Bool) (v : Word) (s : State),
    let answer (err val : Nat) (d : Dev) : Prop := exec (.abstractAccessRegister h regno w v) s = .next { s with dev := emit (.debug h err val) d }
    ((hartOf s.dev h).halted = false → answer 4 0 s.dev) ∧
    ((hartOf s.dev h).halted = true → 0x1040 ≤ regno → answer 2 0 s.dev) ∧
    ((hartOf s.dev h).halted = true → regno < 0x1040 → dbgClosed s.dev h regno = true → answer 3 0 s.dev) ∧
    ((hartOf s.dev h).halted = true → regno < 0x1040 → dbgClosed s.dev h regno = false →
      (w = true → (dbgWrite h regno v.toNat s.dev = none → answer 3 0 s.dev) ∧ ∀ d, dbgWrite h regno v.toNat s.dev = some d → answer 0 v.toNat d) ∧
      (w = false → (dbgRead s.dev h regno = none → answer 3 0 s.dev) ∧ ∀ r, dbgRead s.dev h regno = some r → answer 0 r s.dev))) ∧
  (∀ (h : HartN) (r : RegN) (v : Word) (s : State), (hartOf s.dev h).halted = true →
    exec (.abstractAccessRegister h (0x1000 + r) false v) s = .next { s with dev := emit (.debug h 0 (xReg (hartOf s.dev h) r)) s.dev } ∧
    (∃ d, exec (.abstractAccessRegister h (0x1000 + r) true v) s = .next { s with dev := d } ∧ d.out = s.dev.out ++ [.debug h 0 v.toNat] ∧
      HartOnly { s.dev with out := d.out } d h (setX r v.toNat (hartOf s.dev h)))) ∧
  (∀ (h : HartN) (ops : List PbOp) (s : State),
    ((hartOf s.dev h).halted = false → exec (.programBuffer h ops) s = .next { s with dev := emit (.debug h 4 0) s.dev }) ∧
    ((hartOf s.dev h).halted = true →
      (∀ d, pbRun h (ops.take 8) s.dev = (true, d) → exec (.programBuffer h ops) s = .next { s with dev := emit (.debug h 0 0) d }) ∧
      (∀ d, pbRun h (ops.take 8) s.dev = (false, d) → exec (.programBuffer h ops) s = .next { s with dev := emit (.debug h 3 0) d }))) ∧
  (∀ (addr size : Nat) (w : Bool) (v : Word) (s : State),
    let answer (i : Instr) (err val : Nat) (d : Dev) : Prop := exec i s = .next { s with dev := emit (.sysBus err val) d }
    let p := potRecord addr s.dev
    (accSize size = false → answer (.systemBusAccess addr size w v) 4 0 s.dev) ∧
    (accSize size = true → addr % size ≠ 0 → answer (.systemBusAccess addr size w v) 3 0 s.dev) ∧
    (accSize size = true → addr % size = 0 → isMain s.dev addr = true →
      (sbAllowed p addr = false → answer (.systemBusAccess addr size w v) 7 0 p) ∧
      (sbAllowed p addr = true → answer (.systemBusAccess addr size true v) 0 (v.toNat % 2 ^ (8 * size)) (cohWrite addr (leBytes size v.toNat) p) ∧
        (cohPoison p addr size = false → answer (.systemBusAccess addr size false v) 0 (leNat (cohBytes p addr size)) p) ∧
        (cohPoison p addr size = true → answer (.systemBusAccess addr size false v) 7 0 p))) ∧
    (accSize size = true → addr % size = 0 → isMain s.dev addr = false →
      (inGaugeWindow addr = true → answer (.systemBusAccess addr size false v) 0 (windowRead s.dev addr size) s.dev) ∧
      ((inGaugeWindow addr = false ∨ w = true) → answer (.systemBusAccess addr size w v) 7 0 s.dev)))

/-! ### Benches -/

/-- Ring registers (R281–R286, R319, R325): a hart the function serves writes doorbells and enables and disables its ring; an index at or above the ring's size stops a running ring
with CAUSE 2; a ring at or above RINGS, and a function that does not exist, ignore the write; a hart the function does not serve is only counted; a held MSI leaves at the end of its holdoff. -/
def Obligations.RingRegisters : Prop :=
  (∀ (h : HartN) (b : BenchN) (f : FnN) (r : RingN) (v : Nat) (s : State),
    let x := ringOf s.dev b f r
    let writes : List Instr := [.sqTailWrite h b f r v, .cqHeadWrite h b f r v, .ringEnable h b f r v, .ringDisable h b f r v]
    (fnExists s.dev b f = false → ∀ i ∈ writes, exec i s = .next s) ∧
    (fnExists s.dev b f = true → hartServed s.dev b f h = false → ∀ i ∈ writes, exec i s = .next { s with dev := countPkg pkgFnDenied s.dev }) ∧
    (BarServed s.dev b f h → (fnOf s.dev b f).rings ≤ r.val → ∀ i ∈ writes, exec i s = .next s) ∧
    (BarServed s.dev b f h → r.val < (fnOf s.dev b f).rings →
      let sets (i : Instr) (y : Ring) : Prop := ∃ d, exec i s = .next { s with dev := d } ∧ RingOnly s.dev d b f r y
      sets (.sqTailWrite h b f r v) (if ringActive x = true ∧ 2 ^ x.sqLog2 ≤ v % 2 ^ 32 then { x with cause := 2 } else { x with sqTail := v % 2 ^ 32 }) ∧
      sets (.cqHeadWrite h b f r v) { x with cqHead := v % 2 ^ 32 } ∧
      sets (.ringEnable h b f r v) (if x.enable then { x with holdoff := getBits v 24 8 } else { x with
        holdoff := getBits v 24 8, cqLog2 := getBits v 16 5, sqLog2 := getBits v 8 5, enable := true, stopping := false, sqTail := 0, sqHead := 0, cqHead := 0, cqTail := 0,
        phase := true, dropped := 0,
        cause := if 6 ≤ getBits v 8 5 ∧ getBits v 8 5 ≤ 16 ∧ 6 ≤ getBits v 16 5 ∧ getBits v 16 5 ≤ 16 then 0 else 1 }) ∧
      sets (.ringDisable h b f r v) (if x.enable = false then { x with holdoff := getBits v 24 8, cqLog2 := getBits v 16 5, sqLog2 := getBits v 8 5 }
        else if ringFlight s.dev b f r = 0 then { x with holdoff := getBits v 24 8, enable := false, stopping := false } else { x with holdoff := getBits v 24 8, stopping := true }))) ∧
  (∀ (b : BenchN) (f : FnN) (r : RingN) (s : State),
    ((ringOf s.dev b f r).msiDue = false → exec (.ringIrqHoldoff b f r) s = .next s) ∧
    ((ringOf s.dev b f r).msiDue = true → ∃ d, exec (.ringIrqHoldoff b f r) s = .next { s with dev := d } ∧ d.out = s.dev.out ++ [.msi b f r] ∧
      RingOnly { s.dev with out := d.out } d b f r { ringOf s.dev b f r with lastMsi := some s.dev.now, msiDue := false }))

/-- A running bench fetches a descriptor from the ring whose turn it is, puts it in flight, and SQ_HEAD moves on; a read that fails, or a page that is not the binding's, stops the ring with CAUSE 3; with 4,096 in flight nothing
is fetched, and a bench that does not run, or of a STANDBY, fetches nothing (R283, R325, R339, R407). A descriptor that has ended, or fails a check, leaves flight; where its record can be written the completion
ring's tail moves on and OPS_COMPLETED counts it (R285, R293, R295); else the ring stops with CAUSE 4. -/
def Obligations.DescriptorsInAndOut : Prop :=
  (∀ (b : BenchN) (s : State),
    let x := benchOf s.dev b
    ((¬(x.state = 1 ∨ x.state = 3) ∨ standbyOf s.dev = true) → exec (.descriptorFetch b) s = .next s) ∧
    ((x.state = 1 ∨ x.state = 3) → standbyOf s.dev = false →
      (4096 ≤ x.jobs.length → exec (.descriptorFetch b) s = .next { s with dev := countBench b 5 s.dev }) ∧
      (∀ f left r, x.jobs.length < 4096 → pickFetch s.dev b = some (f, left, r) →
        let ring := ringOf s.dev b f r
        let rd := descRead b f (ring.sqBase + ring.sqHead * 128) s.dev
        let d2 := updFn b f (fun y => { y with nextRing := (r + 1) % 16 }) (updBench rd.2 b (fun x => { x with rrFn := f, rrLeft := left - 1 }))
        (∀ bytes pa, rd.1 = .ok (bytes, pa) → ringPageOk d2 b f pa = true →
          ∃ d, exec (.descriptorFetch b) s = .next { s with dev := countBench b 0 (updRing b f r (fun y => { y with sqHead := (y.sqHead + 1) % 2 ^ y.sqLog2 }) d) } ∧
            d = updBench d2 b (fun y => { y with nextId := y.nextId + 1, jobs := y.jobs ++ [{
              id := x.nextId, fn := f, ring := r, slot := ring.sqHead, bytes := bytes, started := false, admitted := false, deferred := false, waited := 0, startAt := 0, base := 0,
              keys := [], res := none }] })) ∧
        (((∃ e, rd.1 = .error e) ∨ ∃ bytes pa, rd.1 = .ok (bytes, pa) ∧ ringPageOk d2 b f pa = false) →
          exec (.descriptorFetch b) s = .next { s with dev := updRing b f r (fun y => { y with cause := 3 }) d2 })))) ∧
  (∀ (b : BenchN) (id : Nat) (s : State) (j : Job), jobOf s.dev b id = some j →
    ((∃ r, j.res = some r ∧ destroyWaits s.dev b j = false) ∨ (j.res = none ∧ mayStart s.dev b j = true ∧ ∃ e, checkJob s.dev b j = .error e)) →
    let ring := ringOf s.dev b j.fn j.ring
    ring.cause = 0 →
    ∃ d, exec (.descriptorComplete b id) s = .next { s with dev := d } ∧ (∀ k ∈ (benchOf d b).jobs, k.id ≠ id) ∧
      (((ringOf d b j.fn j.ring).cause = 0 ∧ (benchOf d b).ops = (benchOf s.dev b).ops + 1 ∧
          (ringOf d b j.fn j.ring).cqTail = (ring.cqTail + 1) % 2 ^ ring.cqLog2) ∨
        ((ringOf d b j.fn j.ring).cause = 4 ∧ (benchOf d b).ops = (benchOf s.dev b).ops ∧ (ringOf d b j.fn j.ring).cqTail = ring.cqTail)))

/-- Every operation of the opcode table (R267, R273, R285, R289, R290, R292, R296, R305, R353): the descriptor that may start and fails a check ends with that check's status; one that passes and is
admitted takes an idle engine of its class, its keys are loaded and its source and AUX read, and the operation runs; a read that fails ends it with that status; a standard one without allowance is deferred behind
the others, a spare one refused; an engine's fault ends it with 0x0501, and what the scratchpad finds with its own status or a count. A descriptor of another opcode, or that may not start, or finds no engine, waits. -/
def Obligations.BenchOperationsRun : Prop :=
  ∀ (b : BenchN) (id : Nat) (obs : EngObs) (s : State) (i : Instr) (code : Nat) (j : Job),
    (i, code) ∈ [(Instr.hash b id obs, 0x0101), (.hmacGen b id obs, 0x0102), (.hmacVerify b id obs, 0x0103), (.cmacGen b id obs, 0x0104), (.cmacVerify b id obs, 0x0105),
      (.mac3Gen b id obs, 0x0106), (.mac3Verify b id obs, 0x0107), (.aesEnc b id obs, 0x0201), (.aesDec b id obs, 0x0202), (.gcmEnc b id obs, 0x0203), (.gcmDec b id obs, 0x0204),
      (.tdesEnc b id obs, 0x0205), (.tdesDec b id obs, 0x0206), (.kwWrap b id obs, 0x0207), (.kwUnwrap b id obs, 0x0208), (.edSign b id obs, 0x0301), (.edVerify b id obs, 0x0302),
      (.ecdsaSign b id obs, 0x0303), (.ecdsaVerify b id obs, 0x0304), (.rsaSign b id obs, 0x0305), (.rsaVerify b id obs, 0x0306), (.x25519 b id obs, 0x0307), (.ecdh b id obs, 0x0308),
      (.pinTranslate b id obs, 0x0401), (.pinVerify b id obs, 0x0402), (.keyGen b id obs, 0x0501), (.keyDestroy b id obs, 0x0502), (.keyImportKw b id obs, 0x0503),
      (.keyImportPub b id obs, 0x0504), (.keyExportPub b id obs, 0x0505), (.keyImportBlock b id obs, 0x0506), (.keyExportBlock b id obs, 0x0507), (.keyDerive b id obs, 0x0508)] →
    jobOf s.dev b id = some j →
    ((jOp j ≠ code ∨ mayStart s.dev b j = false) → exec i s = .next s) ∧
    (jOp j = code → mayStart s.dev b j = true →
      (∀ e, checkJob s.dev b j = .error e → exec i s = .next { s with dev := finishJob b id { status := e.1, detail := e.2, out := [], engine := 0 } s.dev }) ∧
      (∀ r ks, checkJob s.dev b j = .ok (r, ks) →
        let peek := match (bufRead b j.fn (jSrc j) (jLen j) s.dev).1 with | .ok x => x | .error _ => []
        let base := baseCost j (ks.head?.map (fun k => k.2)) (if code = 0x0501 then peek else [])
        let adm := if j.admitted then (true, s.dev) else chargeIn b (jClass j) (scaleCost s.dev b base) s.dev
        let begun := ks.foldl (fun d k => loadKey b k.1 d) (updJob b id (fun j => { j with
          started := true, startAt := s.dev.now, admitted := true, base := base, keys := ks.map (fun k => k.1) }) adm.2)
        let d1 := if obs = .spadCorrected then spadCorrected b begun else begun
        let ends (st det eng : Nat) (d : Dev) : Prop := exec i s = .next { s with dev := finishJob b id { status := st, detail := det, out := [], engine := eng } d }
        (idleEngine s.dev b (engineClass r j peek) = none → exec i s = .next s) ∧
        (∀ eng, idleEngine s.dev b (engineClass r j peek) = some eng → adm.1 = true →
          (obs = .fault → ends 0x0501 0 eng (mcWrite { bank := 0x9202, unitNo := b, severity := 4, source := 8, unit := b + 256 * eng } begun)) ∧
          (∀ off, obs = .spadPoison off → ends stPoison (2 ^ 56 + off % 2 ^ 56) eng begun) ∧
          ((obs = .ok ∨ obs = .spadCorrected) →
            (∀ e d2, bufRead b j.fn (jSrc j) (jLen j) d1 = (.error e, d2) → ends e.1 (2 ^ 56 + e.2) eng d2) ∧
            (∀ src d2, bufRead b j.fn (jSrc j) (jLen j) d1 = (.ok src, d2) →
              (∀ e d3, bufRead b j.fn (jAux j) (if r.aux then jAuxLen j else 0) d2 = (.error e, d3) → ends e.1 (3 * 2 ^ 56 + e.2) eng d3) ∧
              (∀ aux d3, bufRead b j.fn (jAux j) (if r.aux then jAuxLen j else 0) d2 = (.ok aux, d3) → exec i s = .next { s with dev := perform b id eng j r ks src aux d3 })))) ∧
        (∀ eng, idleEngine s.dev b (engineClass r j peek) = some eng → adm.1 = false →
          (jClass j = 1 → j.deferred = false → exec i s = .next { s with dev := countBench b 2 (deferJob b { j with deferred := true, base := base } adm.2) }) ∧
          (jClass j = 1 → j.deferred = true → exec i s = .next { s with dev := adm.2 }) ∧
          (jClass j = 2 → exec i s = .next { s with dev := countBench b 3 (finishJob b id { status := 0x0401, detail := 0, out := [], engine := 0 } adm.2) }))))

/-- What a performed operation answers (R269, R274–R276, R279, R290, R294): its output fits the destination the checks passed; a verification writes nothing, leaves the package
as it is and ends OK, or with the status of its verdict; a record that is made is found by its handle, of its owner only; a destroyed one is found by no handle. -/
def Obligations.BenchResults : Prop :=
  (∀ (b : BenchN) (j : Job) (r : OpRow) (ks : List (Nat × KeyRec)) (src aux : List Byte) (d d' : Dev), checkJob d' b j = .ok (r, ks) →
    (runOp b j (ks.map (fun k => k.2)) src aux d).1.1 = 0 → (runOp b j (ks.map (fun k => k.2)) src aux d).1.2.length ≤ jDstBuf j) ∧
  (∀ (b : BenchN) (j : Job) (ks : List KeyRec) (src aux : List Byte) (d : Dev), jOp j ∈ [0x0103, 0x0105, 0x0107, 0x0302, 0x0304, 0x0306, 0x0402] →
    (runOp b j ks src aux d).2 = d ∧ (runOp b j ks src aux d).1.2 = [] ∧
    (if jOp j = 0x0402 then (runOp b j ks src aux d).1.1 ∈ [0, 2, 3] else (runOp b j ks src aux d).1.1 ∈ [0, 1])) ∧
  (∀ (b : BenchN) (f h : Nat) (k : KeyRec) (d d' : Dev), createKey b k d = (some h, d') → storeCap d b ≤ 2 ^ 32 →
    (∀ i, tabGet 0 (benchOf d b).lostGen i ≤ tabGet 0 (benchOf d b).gens i) →
    ((∃ i, findKey d' b f h = .ok (i, { k with gen := tabGet 0 (benchOf d b).gens i + 1 })) ↔ (k.ownClass, k.ownId) = fnOwner d b f)) ∧
  (∀ (b : BenchN) (f id eng : Nat) (j : Job) (r : OpRow) (ks : List (Nat × KeyRec)) (src aux : List Byte) (l : List Nat) (d : Dev), r.code = 0x0502 →
    destroyList d b j.fn src (jLen j / 8) = .ok l →
    ∀ h x, findKey (perform b id eng j r ks src aux d) b f h = .ok x → x.1 ∉ l)

/-- Feed channels (R305–R312): a start or a resume runs a channel whose checks pass and refuses another with its cause, an abort ends it, and a write by any other function, or of two commands at once, is
ignored; a unit moves between memory and the segment and POS counts it, or the channel, or every running channel, stops with its cause; a finished channel tells its owner. -/
def Obligations.FeedChannels : Prop :=
  (∀ (h : HartN) (b : BenchN) (f : FnN) (c : RingN) (ctl : Nat) (s : State), BarServed s.dev b f h →
    let x := feedOf s.dev b c
    let live := x.state == 1 || x.state == 4
    let y (v : Nat) : FeedChan := if live then x else { x with wrap := getBits v 12 4, dir := getBits v 8 2 }
    let sets (i : Instr) (z : FeedChan) : Prop := ∃ d, exec i s = .next { s with dev := d } ∧ FeedOnly s.dev d b c z
    ((chanOwnerOf s.dev b c ≠ f.val ∨ getBits (setBit ctl 0 true) 0 3 ≠ 1) → exec (.fchStart h b f c ctl) s = .next s) ∧
    ((chanOwnerOf s.dev b c ≠ f.val ∨ getBits (setBit ctl 1 true) 0 3 ≠ 2) → exec (.fchResume h b f c ctl) s = .next s) ∧
    ((chanOwnerOf s.dev b c ≠ f.val ∨ getBits (setBit ctl 2 true) 0 3 ≠ 4) → exec (.fchAbort h b f c ctl) s = .next s) ∧
    (chanOwnerOf s.dev b c = f.val →
      (let z := y (setBit ctl 0 true)
       getBits (setBit ctl 0 true) 0 3 = 1 → sets (.fchStart h b f c ctl) (if live then x else
         { z with state := if feedCheck s.dev b f z = 0 then 1 else 3, cause := feedCheck s.dev b f z, pos := 0, prefetching := false })) ∧
      (getBits (setBit ctl 1 true) 0 3 = 2 → sets (.fchResume h b f c ctl) (if x.state ≠ 4 then y (setBit ctl 1 true)
        else if feedCheck s.dev b f x = 0 then { x with state := 1, cause := 0, prefetching := false } else { x with state := 3, cause := feedCheck s.dev b f x })) ∧
      (getBits (setBit ctl 2 true) 0 3 = 4 → sets (.fchAbort h b f c ctl) (if live then { x with state := 5, cause := 0 } else y (setBit ctl 2 true))))) ∧
  (∀ (b : BenchN) (c : RingN) (err : MemErr) (s : State),
    let x := feedOf s.dev b c
    let f := chanOwnerOf s.dev b c
    let va := x.mem + 64 * x.pos
    let after (d : Dev) : Prop := exec (.feedUnitTransfer b c err) s = .next { s with dev := d }
    ((x.state ≠ 1 ∨ x.count ≤ x.pos ∨ (benchOf s.dev b).supply = false) → exec (.feedUnitTransfer b c err) s = .next s) ∧
    (x.state = 1 → x.pos < x.count → (benchOf s.dev b).supply = true →
      (segAddr s.dev b f (unitOff x x.pos) = none → after (stopChan b c 11 s.dev)) ∧
      (∀ a, segAddr s.dev b f (unitOff x x.pos) = some a →
        let d0 := spadTouch b a s.dev
        (x.dir = 0 →
          (∀ e d1, btuLookup b f va false d0 = (.error e, d1) → after (stopChan b c 9 d1)) ∧
          (∀ e d1, btuLookup b f va false d0 = (.ok e, d1) →
            let pa := e.pa + (va - e.va)
            (isMain d1 pa = false → after (feedStop b (lineOf pa) false (2 ^ c.val) d1)) ∧
            (isMain d1 pa = true → (cohRead d1 (lineOf pa)).2 = true → after (feedStop b (lineOf pa) true (2 ^ c.val) d1)) ∧
            (isMain d1 pa = true → (cohRead d1 (lineOf pa)).2 = false → ∃ d, after d ∧ (feedOf d b c).pos = x.pos + 1 ∧ (feedOf d b c).state = 1 ∧
              (benchOf d b).feedUnits = (benchOf s.dev b).feedUnits + 1 ∧ spadBytes d b a 64 = lineBytes (cohRead d1 (lineOf pa)).1 ∧ d.mem = s.dev.mem))) ∧
        (x.dir ≠ 0 →
          ((err = .uncorrectable ∨ err = .badMeta) → after (stopChan b c 10 d0)) ∧
          ((err = .none ∨ err = .corrected) →
            let d1 := if err = .corrected then spadCorrected b d0 else d0
            (∀ d2, chunkWrite b f va (spadBytes s.dev b a 64) d1 = (none, d2) → after (unitDone b c d2)) ∧
            (∀ e d2, chunkWrite b f va (spadBytes s.dev b a 64) d1 = (some e, d2) → after (stopChan b c 9 d2))))))) ∧
  (∀ (b : BenchN) (c : RingN) (s : State),
    let x := feedOf s.dev b c
    (¬(x.state = 1 ∧ x.pos = x.count) → exec (.feedChannelDone b c) s = .next s) ∧
    (x.state = 1 → x.pos = x.count → ∃ d, exec (.feedChannelDone b c) s = .next { s with dev := d } ∧ d.out = s.dev.out ++ [.msi b (chanOwnerOf s.dev b c) (16 + c)] ∧
      FeedOnly { s.dev with out := d.out } d b c { x with state := 2 })) ∧
  (∀ (b : BenchN) (line : Nat) (poison : Bool) (reading : Nat) (s : State),
    ((∀ c, c < 16 → (feedOf s.dev b c).state ≠ 1) → exec (.feedStop b line poison reading) s = .next s) ∧
    ((∃ c, c < 16 ∧ (feedOf s.dev b c).state = 1) →
      ∃ d, exec (.feedStop b line poison reading) s = .next { s with dev := d } ∧ (benchOf d b).feedStops = (benchOf s.dev b).feedStops + 1 ∧ d.mem = s.dev.mem ∧
        ∀ c, c < 16 → feedOf d b c = (if (feedOf s.dev b c).state = 1 then { feedOf s.dev b c with state := 4, cause := 8, prefetching := getBit reading c && (feedOf s.dev b c).dir == 0 }
          else feedOf s.dev b c)))

/-- The scratchpad and a bench's supply (R301–R303, R305, R306, R313, R314, R325, R392): a granule given to another owner reads zero, a channel given to another owner takes its reset
values, an access through BAR2 reaches the segment, and one beyond it, or of a hart the function does not serve, is counted; what a read finds in the bank is corrected, or a machine check of the hart (its virtual address is a free value,
log entry 47); a bank passes into retention; a collapse of the supply loses every array and key, and power-up zeroises. -/
def Obligations.ScratchpadAndSupply : Prop :=
  (∀ (h : HartN) (b : BenchN) (g : Fin 124) (v : Nat) (s : State), BarServed s.dev b 0 h → v < 65536 →
    ((¬(v ≤ 256 ∨ v = 0xFFFF) ∨ tabGet 0 (benchOf s.dev b).granOwner g = v) → exec (.spadOwnerWrite h b g v) s = .next s) ∧
    ((v ≤ 256 ∨ v = 0xFFFF) → tabGet 0 (benchOf s.dev b).granOwner g ≠ v →
      ∃ d, exec (.spadOwnerWrite h b g v) s = .next { s with dev := d } ∧ tabGet 0 (benchOf d b).granOwner g = v ∧ g.val ∈ (benchOf d b).zeroing ∧
        (∀ k, k ≠ g.val → tabGet 0 (benchOf d b).granOwner k = tabGet 0 (benchOf s.dev b).granOwner k) ∧
        (∀ k, k < 65536 → tabGet 0 d.spad (spadKey b (g * 65536 + k)) = 0) ∧
        (∀ c, c < 16 → (feedOf s.dev b c).state = 1 → feedCovers s.dev b c g = true → (feedOf d b c).state = 4 ∧ (feedOf d b c).cause = 11))) ∧
  (∀ (b : BenchN) (g : Fin 124) (s : State),
    (g.val ∉ (benchOf s.dev b).zeroing → exec (.spadGranuleZeroed b g) s = .next s) ∧
    (g.val ∈ (benchOf s.dev b).zeroing →
      ∃ d, exec (.spadGranuleZeroed b g) s = .next { s with dev := d } ∧ (∀ k, k ∈ (benchOf d b).zeroing ↔ k ∈ (benchOf s.dev b).zeroing ∧ k ≠ g.val) ∧
        { d with benches := s.dev.benches, spad := s.dev.spad } = s.dev ∧ (∀ k, k < 65536 → tabGet 0 d.spad (spadKey b (g * 65536 + k)) = 0))) ∧
  (∀ (h : HartN) (b : BenchN) (c : RingN) (v : Nat) (s : State), BarServed s.dev b 0 h → v < 65536 →
    let st := (feedOf s.dev b c).state
    ((256 < v ∨ chanOwnerOf s.dev b c = v ∨ st = 1 ∨ st = 4) → exec (.fchOwnerWrite h b c v) s = .next s) ∧
    (v ≤ 256 → chanOwnerOf s.dev b c ≠ v → st ≠ 1 → st ≠ 4 →
      ∃ d, exec (.fchOwnerWrite h b c v) s = .next { s with dev := d } ∧ chanOwnerOf d b c = v ∧ feedOf d b c = feedInit ∧
        (∀ k, k ≠ c.val → chanOwnerOf d b k = chanOwnerOf s.dev b k ∧ feedOf d b k = feedOf s.dev b k) ∧ { d with benches := s.dev.benches } = s.dev)) ∧
  (∀ (h : HartN) (b : BenchN) (f : FnN) (off size data : Nat) (err : MemErr) (s : State), fnExists s.dev b f = true → (size = 1 ∨ size = 2 ∨ size = 4 ∨ size = 8) → off % size = 0 →
    let reads (d : Dev) : Prop := exec (.spadBar2Access h b f false off size data err) s = .next { s with dev := d }
    let writes (d : Dev) : Prop := exec (.spadBar2Access h b f true off size data err) s = .next { s with dev := d }
    (hartServed s.dev b f h = false → writes (countPkg pkgFnDenied s.dev) ∧ reads (countPkg pkgFnDenied (emit (.readData 0) s.dev))) ∧
    (hartServed s.dev b f h = true → segAddr s.dev b f off = none → writes (countPkg pkgBar2 s.dev) ∧ reads (countPkg pkgBar2 (emit (.readData 0) s.dev))) ∧
    (∀ a, hartServed s.dev b f h = true → segAddr s.dev b f off = some a →
      let d0 := spadTouch b a s.dev
      (err = .none → reads (emit (.readData (leNat (spadBytes s.dev b a size))) d0)) ∧
      (err = .corrected → reads (emit (.readData (leNat (spadBytes s.dev b a size))) (spadCorrected b d0))) ∧
      ((err = .uncorrectable ∨ err = .badMeta) → reads (machineCheckAt h (freeVal s.dev % 2 ^ 64) none (drawn d0))) ∧
      ∃ d, writes d ∧ { d with spad := d0.spad } = d0 ∧ spadBytes d b a size = leBytes size data ∧
        (∀ k, (k < spadKey b a ∨ spadKey b a + size ≤ k) → tabGet 0 d.spad k = tabGet 0 s.dev.spad k))) ∧
  (∀ (b : BenchN) (bank : Fin 32) (s : State), ∃ d, exec (.spadBankRetention b bank) s = .next { s with dev := d } ∧ BenchOnly s.dev d b { benchOf s.dev b with
    retained := if bank.val ∈ (benchOf s.dev b).retained then (benchOf s.dev b).retained else (benchOf s.dev b).retained ++ [bank.val] }) ∧
  (∀ (b : BenchN) (s : State),
    ((benchOf s.dev b).supply = false → exec (.benchSupplyCollapse b) s = .next s) ∧
    ((benchOf s.dev b).supply = true → ∃ d, exec (.benchSupplyCollapse b) s = .next { s with dev := d } ∧ (benchOf d b).supply = false ∧ (benchOf d b).state = 4 ∧
      (benchOf d b).keyed = false ∧ (benchOf d b).keys = [] ∧ (benchOf d b).window = [] ∧ ent d 0x5000 (b + 1) = 0 ∧ Out.aplic .worldEvent ∈ d.out ∧
      (∀ k, k < 2 ^ 23 → tabGet 0 d.spad (spadKey b k) = 0) ∧ (∀ k, k ≠ b.val → benchOf d k = benchOf s.dev k))) ∧
  (∀ (b : BenchN) (s : State),
    ((benchOf s.dev b).supply = true → exec (.benchPowerUp b) s = .next s) ∧
    ((benchOf s.dev b).supply = false → ∃ d, exec (.benchPowerUp b) s = .next { s with dev := d } ∧ (benchOf d b).supply = true ∧
      (benchOf d b).state = 4 ∧ (benchOf d b).zeroises = (benchOf s.dev b).zeroises + 1 ∧ (benchOf d b).keys = [] ∧ (benchOf d b).jobs = [] ∧ ent d 0x5000 (b + 1) = 0 ∧
      (∀ k, k < 2 ^ 23 → tabGet 0 d.spad (spadKey b k) = 0) ∧ OtherBenches s.dev d b))

/-- Quiesce, binding and claims (R318, R324, R331, R333): a drain or an abandonment takes a running function to QSTATE 1, and its completion to QSTATE 2 with its PF_QDONE bit; a drain does not take an abandonment
back; a quiesced function without an enabled ring is bound at once to an instance or the normal world, and to the secure world or an enclave once a hart of it claims, its granules zeroed. D3hot stops a function as a drain does. -/
def Obligations.QuiesceAndBinding : Prop :=
  (∀ (h : HartN) (b : BenchN) (f : FnN) (ctl : Nat) (s : State), BarServed s.dev b 0 h →
    let x := fnOf s.dev b f
    let zeroed (d : Dev) : Prop := ∀ g ∈ granulesOf s.dev b f, ∀ k, k < 65536 → tabGet 0 d.spad (spadKey b (g * 65536 + k)) = 0
    (∃ d, exec (.quiesceRun h b f ctl) s = .next { s with dev := d } ∧ (fnOf d b f).qstate = 0 ∧ (fnOf d b f).quiesce = 0) ∧
    (x.qstate = 0 → ∃ d, exec (.quiesceDrain h b f ctl) s = .next { s with dev := d } ∧ (fnOf d b f).qstate = 1 ∧ (fnOf d b f).quiesce = 1 ∧
      (benchOf d b).jobs = (benchOf s.dev b).jobs ∧ getBit (benchOf d b).qdone f = false ∧ d.out = s.dev.out ++ (if f.val = 0 then [] else [.msi b f 33])) ∧
    (x.qstate = 1 → x.quiesce = 2 → ∃ d, exec (.quiesceDrain h b f ctl) s = .next { s with dev := d } ∧ (fnOf d b f).qstate = 1 ∧ (fnOf d b f).quiesce = 2) ∧
    (x.qstate = 2 → ∃ d, exec (.quiesceAbandon h b f ctl) s = .next { s with dev := d } ∧ (fnOf d b f).qstate = 2 ∧ (fnOf d b f).quiesce = 2 ∧ (benchOf d b).jobs = (benchOf s.dev b).jobs) ∧
    (x.qstate = 0 → ∃ d, exec (.quiesceAbandon h b f ctl) s = .next { s with dev := d } ∧ (fnOf d b f).qstate = 1 ∧ (fnOf d b f).quiesce = 2 ∧
      (∀ j ∈ (benchOf d b).jobs, j.fn ≠ f.val) ∧ (benchOf d b).abandonedTotal = (benchOf s.dev b).abandonedTotal + fnFlight s.dev b f) ∧
    (∃ d, exec (.dirtyLogEnable h b f ctl) s = .next { s with dev := d } ∧ (fnOf d b f).log = true ∧ (fnOf d b f).overflow = (x.overflow && x.log)) ∧
    (x.qstate = 2 → anyRingEnabled s.dev b f 0 = false → getBits ctl 16 2 < 2 → (getBits ctl 16 2 ≠ x.bindClass ∨ x.bindId ≠ 0) →
      ∃ d, exec (.functionBind h b f ctl) s = .next { s with dev := d } ∧ (fnOf d b f).bindClass = getBits ctl 16 2 ∧ (fnOf d b f).bindId = 0 ∧ (fnOf d b f).bindPending = false ∧ zeroed d) ∧
    (let id := if getBits ctl 16 2 = 3 then getBits ctl 20 12 else 0
     x.qstate = 2 → anyRingEnabled s.dev b f 0 = false → 2 ≤ getBits ctl 16 2 → (getBits ctl 16 2 ≠ x.bindClass ∨ id ≠ x.bindId) → f.val ≠ 0 →
      ∃ d, exec (.functionBind h b f ctl) s = .next { s with dev := d } ∧ (fnOf d b f).bindClass = x.bindClass ∧ (fnOf d b f).bindId = x.bindId ∧
        (fnOf d b f).bindClassReq = getBits ctl 16 2 ∧ (fnOf d b f).bindIdReq = id ∧ (fnOf d b f).bindPending = true)) ∧
  (∀ (h : HartN) (b : BenchN) (f : FnN) (s : State), fnExists s.dev b f = true →
    let x := fnOf s.dev b f
    let w := tworldOf s.dev (hartOf s.dev h)
    let mine := if x.bindClassReq = 2 then getBit w 15 else x.bindClassReq == 3 && getBits w 0 12 == x.bindIdReq && x.bindIdReq != 0
    ((x.bindPending = false ∨ mine = false) → exec (.fnClaim h b f 1) s = .next { s with dev := countPkg pkgClaimDenied s.dev }) ∧
    (x.bindPending = true → mine = true → ∃ d, exec (.fnClaim h b f 1) s = .next { s with dev := d } ∧
      FnOnly { s.dev with spad := d.spad } d b f { x with bindClass := x.bindClassReq, bindId := x.bindIdReq, bindPending := false } ∧
      ∀ g ∈ granulesOf s.dev b f, ∀ k, k < 65536 → tabGet 0 d.spad (spadKey b (g * 65536 + k)) = 0)) ∧
  (∀ (b : BenchN) (f : FnN) (s : State), (fnExists s.dev b f = false → exec (.d3hotEntry b f) s = .next s) ∧
    (fnExists s.dev b f = true → ∃ d, exec (.d3hotEntry b f) s = .next { s with dev := d } ∧
      fnOf d b f = { fnOf s.dev b f with d3 := true, qstate := if (fnOf s.dev b f).qstate = 0 then 1 else (fnOf s.dev b f).qstate } ∧
      d.out = s.dev.out ++ (if (fnOf s.dev b f).qstate = 0 ∧ f.val ≠ 0 then [.msi b f 33] else []) ∧ { d with benches := s.dev.benches, out := s.dev.out } = s.dev)) ∧
  (∀ (b : BenchN) (f : FnN) (s : State),
    (((fnOf s.dev b f).qstate ≠ 1 ∨ fnBusy s.dev b f = true) → exec (.quiesceComplete b f) s = .next s) ∧
    ((fnOf s.dev b f).qstate = 1 → fnBusy s.dev b f = false → (fnOf s.dev b f).flrHeld = false →
      ∃ d, exec (.quiesceComplete b f) s = .next { s with dev := d } ∧ fnOf d b f = { fnOf s.dev b f with qstate := 2 } ∧ getBit (benchOf d b).qdone f = true ∧
        d.out = s.dev.out ++ [.msi b 0 33] ∧ { d with benches := s.dev.benches, out := s.dev.out } = s.dev) ∧
    ((fnOf s.dev b f).qstate = 1 → fnBusy s.dev b f = false → (fnOf s.dev b f).flrHeld = true →
      ∃ d, exec (.quiesceComplete b f) s = .next { s with dev := d } ∧ (fnOf d b f).qstate = 0 ∧ (fnOf d b f).flrHeld = false ∧ getBit (benchOf d b).qdone f = true ∧
        (∀ r, r < 16 → ringOf d b f r = ringInit)))

/-- Resets of functions, BTU invalidation and microcode (R318, R330, R334–R336, R338): a VF without work is reset at once and one with work is held for a quiesce, which 90 ms later is revoked; a reset
leaves rings, channels, translations and the binding as after package reset and zeroes the function's granules; a PF reset takes every function and the management area; an invalidation removes the entries it names and then reports;
microcode loads once what has started has drained, and a failed self-test keeps the old one. -/
def Obligations.FunctionResets : Prop :=
  (∀ (b : BenchN) (f : FnN) (s : State),
    let wasReset (d : Dev) : Prop := (fnOf d b f).qstate = 0 ∧ (fnOf d b f).quiesce = 0 ∧ (fnOf d b f).bindClass = 0 ∧ (fnOf d b f).log = false ∧ (fnOf d b f).flrHeld = false ∧
      (fnOf d b f).revoked = false ∧ (∀ r, r < 16 → ringOf d b f r = ringInit) ∧ (∀ e ∈ (benchOf d b).btu, e.fn ≠ f.val) ∧
      (∀ c, c < 16 → chanOwnerOf s.dev b c = f.val → feedOf d b c = feedInit) ∧
      (∀ g ∈ granulesOf s.dev b f, ∀ k, k < 65536 → tabGet 0 d.spad (spadKey b (g * 65536 + k)) = 0) ∧ OtherBenches s.dev d b
    ((f.val = 0 ∨ fnExists s.dev b f = false ∨ (fnOf s.dev b f).flrHeld = true) → exec (.functionLevelReset b f) s = .next s) ∧
    (f.val ≠ 0 → fnExists s.dev b f = true → (fnOf s.dev b f).flrHeld = false →
      (fnBusy s.dev b f = false → ∃ d, exec (.functionLevelReset b f) s = .next { s with dev := d } ∧ wasReset d) ∧
      (fnBusy s.dev b f = true → ∃ d, exec (.functionLevelReset b f) s = .next { s with dev := d } ∧ d.out = s.dev.out ++ [.msi b 0 33] ∧
        FnOnly { s.dev with out := d.out } d b f { fnOf s.dev b f with flrHeld := true })) ∧
    (((fnOf s.dev b f).flrHeld = false ∨ (fnOf s.dev b f).qstate = 2) → exec (.flrRevoke b f) s = .next s) ∧
    ((fnOf s.dev b f).flrHeld = true → (fnOf s.dev b f).qstate ≠ 2 →
      ∃ d, exec (.flrRevoke b f) s = .next { s with dev := d } ∧ wasReset d ∧ (∀ j ∈ (benchOf d b).jobs, j.fn ≠ f.val) ∧ (benchOf d b).flrRevokes = (benchOf s.dev b).flrRevokes + 1 ∧
        (fnOf d b f).abandoned = (fnOf s.dev b f).abandoned + fnFlight s.dev b f)) ∧
  (∀ (b : BenchN) (s : State), ∃ d, exec (.pfFlr b) s = .next { s with dev := d } ∧ (benchOf d b).jobs = [] ∧ (benchOf d b).vfs = 0 ∧ (benchOf d b).granOwner = [] ∧
    (benchOf d b).chanOwner = [] ∧ (benchOf d b).qdone = 0 ∧ (benchOf d b).invalBusy = false ∧ (∀ f, { fnOf d b f with abandoned := 0, tenant := 0 } = fnInit) ∧ OtherBenches s.dev d b) ∧
  (∀ (b : BenchN) (s : State), ∃ d, exec (.vfEnableClear b) s = .next { s with dev := d } ∧ (benchOf d b).vfs = 0 ∧ fnOf d b 0 = fnOf s.dev b 0 ∧ OtherBenches s.dev d b) ∧
  (∀ (h : HartN) (b : BenchN) (f : FnN) (s : State), BarServed s.dev b 0 h →
    let x := benchOf s.dev b
    (x.invalBusy = true → ∀ i ∈ [Instr.btuInvalAll h b, .btuInvalFunction h b f, .btuInvalPage h b f], exec i s = .next s) ∧
    (x.invalBusy = false →
      (∃ d, exec (.btuInvalAll h b) s = .next { s with dev := d } ∧ BenchOnly s.dev d b { x with btu := [], inval := 0, invalBusy := true, invalDone := false }) ∧
      (∃ d, exec (.btuInvalFunction h b f) s = .next { s with dev := d } ∧ BenchOnly s.dev d b { x with
        btu := x.btu.filter (fun e => e.fn != f.val), inval := 4096 + f, invalBusy := true, invalDone := false }) ∧
      (∃ d, exec (.btuInvalPage h b f) s = .next { s with dev := d } ∧ BenchOnly s.dev d b { x with
        btu := x.btu.filter (fun e => !(e.fn == f.val && decide (e.va ≤ x.invalIova) && decide (x.invalIova < e.va + 2 ^ e.size))), inval := 8192 + f, invalBusy := true, invalDone := false }))) ∧
  (∀ (b : BenchN) (s : State), ((benchOf s.dev b).invalBusy = false → exec (.btuInvalDone b) s = .next s) ∧
    ((benchOf s.dev b).invalBusy = true → ∃ d, exec (.btuInvalDone b) s = .next { s with dev := d } ∧
      BenchOnly s.dev d b { benchOf s.dev b with invalBusy := false, invalDone := true })) ∧
  (∀ (b : BenchN) (ok : Bool) (s : State),
    let x := benchOf s.dev b
    let waits : Prop := x.state = 3 ∧ x.jobs.any (fun j => j.started) = true
    ((x.newVersion = none ∨ waits) → exec (.microcodeLoad b ok) s = .next s) ∧
    (∀ v, x.newVersion = some v → ¬waits →
      let y : BenchSt := { x with newVersion := none, version := if ok then v else x.version, state := if x.state = 3 then 1 else x.state }
      (ok = true → ∃ d, exec (.microcodeLoad b ok) s = .next { s with dev := d } ∧ BenchOnly s.dev d b y) ∧
      (ok = false → ∃ d, exec (.microcodeLoad b ok) s = .next { s with dev := d } ∧ BenchOnly { s.dev with list := d.list } d b y ∧
        { d.list with status := s.dev.list.status } = s.dev.list ∧
        dryOf d 0x5001 (b + 1) = { dryOf s.dev 0x5001 (b + 1) with reason := 0x0403, index := 0x5020, sub := b + 1, atKerf := true })))

/-! ### The energy ledger and heat -/

/-- Charging, overspend, the throttle and THERMTRIP (R85, R343, R344, R354, R355, R357, R358, R497): each tick charges every account; a core or bench whose grant is spent is slowed once; 105 °C slows every core and bench, and it ends at 100 °C
unless the hard limit keeps it; the setpoint of a core that rests waits for its wake; a failed sensor is recorded; THERMTRIP stops the package. -/
def Obligations.LedgerAndHeat : Prop :=
  (∀ (h : HartN) (s : State),
    let a := acctOf s.dev h
    let x := hartOf s.dev h
    ((a.spend < a.grant * 1000 ∨ a.isOver = true ∨ acctInactive s.dev h = true ∨ s.dev.kerf.step1.isSome = true) → exec (.overspendStepDown h) s = .next s) ∧
    (acctInactive s.dev h = false → a.isOver = false → s.dev.kerf.step1 = none → a.grant * 1000 ≤ a.spend → ∃ d, exec (.overspendStepDown h) s = .next { s with dev := d } ∧
      acctOf d h = { a with isOver := true, vset := if x.rest = .running then 550 else a.vset } ∧ (∀ k, k ≠ h.val → acctOf d k = acctOf s.dev k) ∧
      HartMoves { s.dev with ledger := d.ledger } d h { x with bOverspend := true, vset := if x.rest = .running then 550 else x.vset })) ∧
  (∀ (b : BenchN) (s : State),
    let a := acctOf s.dev (216 + b)
    ((a.spend < a.grant * 1000 + a.drawn ∨ a.isOver = true ∨ s.dev.kerf.step1.isSome = true) → exec (.benchOverspend b) s = .next s) ∧
    (a.isOver = false → s.dev.kerf.step1 = none → a.grant * 1000 + a.drawn ≤ a.spend →
      ∃ d, exec (.benchOverspend b) s = .next { s with dev := d } ∧ acctOf d (216 + b) = { a with isOver := true, vset := 650 } ∧
        (∀ k, k ≠ 216 + b.val → acctOf d k = acctOf s.dev k) ∧ { d with ledger := s.dev.ledger } = s.dev)) ∧
  (∀ (charges : List Nat) (s : State), ∃ d, exec (.ledgerSumTick charges) s = .next { s with dev := d } ∧
    (∀ a, a < 225 → (acctOf d a).spend = (acctOf s.dev a).spend + chargeOf s.dev charges a ∧ (acctOf d a).total = (acctOf s.dev a).total + chargeOf s.dev charges a ∧
      (acctOf d a).grant = (acctOf s.dev a).grant ∧ (a < 216 → (hartOf d a).tenergy = (acctOf d a).total / 1000)) ∧ d.mem = s.dev.mem) ∧
  (∀ (a : AcctN) (s : State), ∃ d, exec (.sensorFail a) s = .next { s with dev := d } ∧ acctOf d a = { acctOf s.dev a with sensorFail := true } ∧
    d.obs.mcSeq = s.dev.obs.mcSeq + 1 ∧ (∀ k, k ≠ a.val → acctOf d k = acctOf s.dev k) ∧ { d with ledger := s.dev.ledger, obs := s.dev.obs, out := s.dev.out } = s.dev) ∧
  (∀ (temp : Nat) (s : State), (temp < 105 → exec (.thermalThrottle temp) s = .next s) ∧
    (105 ≤ temp → ∃ d, exec (.thermalThrottle temp) s = .next { s with dev := d } ∧ d.ledger.hot = true ∧ (∀ a, 216 ≤ a → a < 220 → (acctOf d a).vset = 650) ∧
      (∀ a, a < 216 → (hartOf d a).bThrottle = true ∧ ((hartOf s.dev a).rest = .running → (hartOf d a).vset = 550 ∧ (acctOf d a).vset = 550) ∧
        ((hartOf s.dev a).rest ≠ .running → (hartOf d a).vset = (hartOf s.dev a).vset)) ∧
      { d with ledger := s.dev.ledger, harts := s.dev.harts } = s.dev)) ∧
  (∀ (temp : Nat) (s : State), (100 < temp → exec (.thermalThrottleRelease temp) s = .next s) ∧
    (temp ≤ 100 → s.dev.ledger.throttle = true → exec (.thermalThrottleRelease temp) s = .next { s with dev := { s.dev with ledger := { s.dev.ledger with hot := false } } }) ∧
    (temp ≤ 100 → s.dev.ledger.throttle = false → ∃ d, exec (.thermalThrottleRelease temp) s = .next { s with dev := d } ∧ d.ledger.hot = false ∧
      (∀ a, 216 ≤ a → a < 220 → (acctOf d a).vset = if (acctOf s.dev a).isOver then 650 else (acctOf s.dev a).plan) ∧
      (∀ a, a < 216 → (hartOf d a).bThrottle = false ∧ ((hartOf s.dev a).rest = .running → (hartOf d a).vset = if (acctOf s.dev a).isOver then 550 else (acctOf s.dev a).plan)) ∧
      { d with ledger := s.dev.ledger, harts := s.dev.harts } = s.dev)) ∧
  (∀ (die core : Nat) (s : State), ∃ d, exec (.thermtrip die core) s = .next { s with dev := d } ∧ d.fatal = true ∧ d.pins.thermtrip = true ∧ (∀ h, hartRuns d h = false) ∧
    d.obs.mcSeq = s.dev.obs.mcSeq + 1 ∧ (s.dev.mirror.phase = 2 → d.mirror.phase = 8 ∧ d.mirror.lossCause = 2) ∧ (s.dev.mirror.phase ≠ 2 → d.mirror = s.dev.mirror) ∧
    Out.pin .thermtripN 0 ∈ d.out ∧ { d with fatal := s.dev.fatal, pins := s.dev.pins, mirror := s.dev.mirror, obs := s.dev.obs, out := s.dev.out } = s.dev)

/-! ### The mirrored pair -/

/-- Records that reach the STANDBY (R403, R406, R407, R415, R416, R419, R427): LINE, OUTPUT and ENTRY records join the log while it has room, a LINE record going into place as well while the
pair forms, and a seal that waits is judged with the record that completes it. A SEAL whose records have all come commits its kerf where its digest agrees: what it counts is applied, the harts that
come with it go offline (R110; how they travel is the model's choice, log entry 65), and SEAL_ACK is sent; where the digest disagrees the pair breaks, nothing is applied, and SEAL_NAK is sent.
KERF and KEYS are kept. A package that is no STANDBY of a running pair takes none of them. -/
def Obligations.StandbyTakesRecords : Prop :=
  let joins (i : Instr) (key : Nat) (b : List Byte) (d : Dev) (s : State) : Prop :=
    let e := updMirror d (fun x => { x with log := x.log ++ [(key, b)] })
    ((s.dev.mirror.pendSeal = none ∨ ∃ p, s.dev.mirror.pendSeal = some p ∧ sealReady e p = false) → exec i s = .next { s with dev := e }) ∧
    (∀ p, s.dev.mirror.pendSeal = some p → sealReady e p = true → exec i s = .next { s with dev := judgeSeal p e })
  (∀ (epoch line : Nat) (poison : Bool) (data : Line) (s : State),
    ((standbyTakes s.dev = false ∨ logRoom s.dev 72 = false) → exec (.lineRec epoch line poison data) s = .next s) ∧
    (standbyTakes s.dev = true → logRoom s.dev 72 = true →
      let b := lineRecBytes 1 epoch line data poison
      joins (.lineRec epoch line poison data) (homeSlice s.dev (line * 64)) b (if s.dev.mirror.phase = 1 then placeLine b s.dev else s.dev) s)) ∧
  (∀ (epoch line : Nat) (poison : Bool) (data : Line) (s : State),
    (s.dev.mirror.role = 2 → s.dev.mirror.phase = 1 →
      exec (.copyRec epoch line poison data) s = .next { s with dev := placeLine (lineRecBytes 0xA epoch line data poison) s.dev }) ∧
    (¬(s.dev.mirror.role = 2 ∧ s.dev.mirror.phase = 1) → exec (.copyRec epoch line poison data) s = .next s)) ∧
  (∀ (rp kind oseq addr : Nat) (data : List Byte) (s : State), data.length ≤ 192 →
    let b := outputRec { oseq := oseq, rp := rp, kind := kind, addr := addr, data := data, kerf := 0 }
    ((standbyTakes s.dev = false ∨ logRoom s.dev b.length = false) → exec (.outputRec rp kind oseq addr data) s = .next s) ∧
    (standbyTakes s.dev = true → logRoom s.dev b.length = true → joins (.outputRec rp kind oseq addr data) 16 b s.dev s)) ∧
  (∀ (idx sub total off : Nat) (v : List Byte) (s : State), v.length ≤ 200 →
    let b := entryRec idx sub total off v
    ((standbyTakes s.dev = false ∨ logRoom s.dev b.length = false) → exec (.entryRec idx sub total off v) s = .next s) ∧
    (standbyTakes s.dev = true → logRoom s.dev b.length = true → joins (.entryRec idx sub total off v) 16 b s.dev s)) ∧
  (∀ (kerf : Nat) (counts : List Nat) (outs : Nat) (digest : List Byte) (offline : List HartN) (s : State),
    (standbyTakes s.dev = false → exec (.sealRec kerf counts outs digest offline) s = .next s) ∧
    (standbyTakes s.dev = true → kerf < 2 ^ 64 → outs < 2 ^ 32 → digest.length = 64 → (∀ k, counts.getD k 0 < 2 ^ 32) →
      let recs (k : Nat) : List (List Byte) := (epochLines s.dev kerf k).take (counts.getD k 0)
      let taken := (logOuts s.dev).take outs
      let here : Prop := (∀ k, k < 16 → counts.getD k 0 ≤ (epochLines s.dev kerf k).length) ∧ outs ≤ (logOuts s.dev).length
      (here → sealDigest kerf recs taken = digest → ∃ d, exec (.sealRec kerf counts outs digest offline) s = .next { s with dev := d } ∧ d.mirror.lastCommit = kerf ∧
        d.mirror.phase = (if s.dev.mirror.phase = 1 then 2 else s.dev.mirror.phase) ∧ d.mirror.role = 2 ∧ d.mirror.pendSeal = none ∧
        d.mirror.committedOut = s.dev.mirror.committedOut ++ (taken.filter (fun r => leAt r 0 1 / 16 == 2)).map (heldOf kerf) ∧
        (∀ h ∈ offline, (hartOf d h).offline = true) ∧
        d.out.getLast? = some (.dowel (subLinkMain s.dev) 4 s.dev.kerf.counter ([0x40, 0] ++ leBytes 6 0 ++ leBytes 8 kerf))) ∧
      (here → sealDigest kerf recs taken ≠ digest →
        let broken := updMirror s.dev (fun x => { x with pendSeal := none, pendOff := [], log := [], entrySegs := [], phase := 7, sealNaks := x.sealNaks + 1 })
        exec (.sealRec kerf counts outs digest offline) s = .next { s with dev := sendDowel 5 ([0x50, 1] ++ leBytes 6 0 ++ leBytes 8 kerf) broken }) ∧
      (¬here → ∃ b, exec (.sealRec kerf counts outs digest offline) s =
          .next { s with dev := updMirror s.dev (fun x => { x with pendSeal := some b, pendOff := offline.map (fun h => h.val) }) } ∧
        sealKerf b = kerf ∧ (∀ k, k < 16 → sealCount b k = counts.getD k 0) ∧ sealOuts b = outs ∧ sliceOf b 88 64 = digest))) ∧
  (∀ (kerf time : Nat) (s : State), (s.dev.mirror.role ≠ 2 → exec (.kerfRec kerf time) s = .next s) ∧
    (s.dev.mirror.role = 2 →
      (s.dev.mirror.phase ≠ 1 → exec (.kerfRec kerf time) s = .next { s with dev := updMirror s.dev (fun x => { x with kerfTime := time }) }) ∧
      (s.dev.mirror.phase = 1 → ∃ d, exec (.kerfRec kerf time) s = .next { s with dev := d } ∧ d.now = max s.dev.now time ∧ d.mirror.kerfTime = time ∧
        (∀ r ∈ s.dev.mirror.log, (r ∈ d.mirror.log ↔ r.1 = 16 ∨ leAt r.2 1 1 = (kerf - 1) % 256 ∨ leAt r.2 1 1 = kerf % 256)) ∧
        { d with now := s.dev.now, mirror := { d.mirror with log := s.dev.mirror.log, kerfTime := s.dev.mirror.kerfTime } } = s.dev))) ∧
  (∀ (b : BenchN) (gen : Nat) (key : List Byte) (s : State), (s.dev.mirror.role ≠ 2 → exec (.keysRec b gen key) s = .next s) ∧
    (s.dev.mirror.role = 2 → ∃ d, exec (.keysRec b gen key) s = .next { s with dev := d } ∧
      tabGet [] d.mirror.keys b = padTo 32 key ∧ tabGet 0 d.mirror.keyGen b = gen ∧
      BenchOnly { s.dev with mirror := d.mirror } d b { benchOf s.dev b with ksKey := padTo 32 key, keyed := true } ∧
      { d.mirror with keys := s.dev.mirror.keys, keyGen := s.dev.mirror.keyGen } = s.dev.mirror))

/-- The PRIMARY and what reports to it (R403, R404, R406, R416, R420, R421, R423, R483): an acknowledged seal commits its kerf, completes a formation, and lets the outputs of earlier epochs leave; a refused one
sends the PRIMARY on ALONE with every output released; a line is sent again on request; heartbeats are recorded and sent on each sub-link that is up. A package that hears none suspects its partner and asks the
coordinator, again while it is not answered, and is held when no answer comes; LOSS is itself confirmation: a PRIMARY goes ALONE, a STANDBY is promoted. -/
def Obligations.SealsHeartbeatsAndLoss : Prop :=
  let asks (d0 d : Dev) : Prop := ∃ q : TakeReq,
    q.pair = ent d0 0x6000 4 ∧ q.role = d0.mirror.role ∧ q.node = nodeId d0 ∧ q.seqEcho = d0.seg.masterSeq ∧ q.lastCommit = d0.mirror.lastCommit ∧ q.peer = entBytes d0 0x6000 5 ∧
    d.seg = { d0.seg with
      reqSeq := some d0.seg.masterSeq, queue := if segSends d0 then d0.seg.queue ++ [(none, .takeoverReq, takeReqBytes q ++ signWith (keyFirmware d0) (takeReqBytes q))] else d0.seg.queue }
  let left (h : Held) : Out := .device true h.addr h.data.length (leNat h.data)
  (∀ (k : Nat) (s : State),
    (¬(s.dev.mirror.role = 1 ∧ k ∈ s.dev.mirror.unacked) → exec (.sealAckRec k) s = .next s ∧ exec (.sealNakRec k) s = .next s) ∧
    (s.dev.mirror.role = 1 → k ∈ s.dev.mirror.unacked →
      let x := s.dev.mirror
      let acked : MirrorSt := { x with unacked := x.unacked.filter (fun j => decide (k < j)), lastCommit := k, phase := if x.phase = 1 then 2 else x.phase }
      (x.phase ≠ 1 → x.phase ≠ 2 → exec (.sealAckRec k) s = .next { s with dev := { s.dev with mirror := acked } }) ∧
      ((x.phase = 1 ∨ x.phase = 2) →
        (∃ d, exec (.sealAckRec k) s = .next { s with dev := d } ∧ d.mirror.lastCommit = k ∧ d.mirror.unacked = acked.unacked ∧
          (∀ h ∈ x.clamp, h.kerf < k → left h ∈ d.out) ∧ (∀ h ∈ x.clamp, k ≤ h.kerf → h ∈ d.mirror.clamp) ∧
          (s.dev.obs.ceFailover = false → d.mirror.phase = 2) ∧ (s.dev.obs.ceFailover = true → d.mirror.phase = 8 ∧ d.mirror.lossCause = 2)) ∧
        (s.dev.obs.ceFailover = false → x.stalled = [] → x.waitReads = [] →
          let out := x.clamp.filter (fun h => decide (h.kerf < k))
          exec (.sealAckRec k) s = .next { s with
            dev := { s.dev with
              out := s.dev.out ++ out.map left,
              mirror := { acked with clamp := x.clamp.filter (fun h => decide (k ≤ h.kerf)), released := out.foldl (fun n h => max n (h.oseq + 1)) x.released } } })) ∧
      (∃ d, exec (.sealNakRec k) s = .next { s with dev := d } ∧ d.mirror.phase = 6 ∧ d.mirror.role = 1 ∧ d.mirror.sealNaks = x.sealNaks + 1 ∧ d.mirror.clamp = [] ∧ d.mirror.stalled = [] ∧
        d.mirror.unacked = [] ∧ (∀ h ∈ x.clamp, left h ∈ d.out)))) ∧
  (∀ (line : Nat) (s : State), (s.dev.mirror.role ≠ 1 → exec (.repairReqRec line) s = .next s) ∧
    (s.dev.mirror.role = 1 → exec (.repairReqRec line) s = .next { s with dev := mirrorLine line (memLine s.dev line).1 (memLine s.dev line).2 s.dev })) ∧
  (∀ (role phase kerf lastAck released time : Nat) (s : State), (s.dev.mirror.role = 0 → exec (.heartbeatRec role phase kerf lastAck released time) s = .next s) ∧
    (s.dev.mirror.role ≠ 0 →
      let heard := updMirror s.dev (fun x => { x with
        pRole := role, pPhase := phase, pKerf := kerf, pLastAck := lastAck, pReleased := released, lastHeard := s.dev.now,
        committedOut := x.committedOut.filter (fun h => decide (released ≤ h.oseq)) })
      (2 ≤ s.dev.mirror.phase → exec (.heartbeatRec role phase kerf lastAck released time) s = .next { s with dev := heard }) ∧
      (s.dev.mirror.phase = 0 → s.dev.mirror.role = 1 → role = 2 → phase = 1 → ∃ d, exec (.heartbeatRec role phase kerf lastAck released time) s = .next { s with dev := d } ∧
        d.mirror = (startForming heard).mirror ∧ d.mirror.phase = 1 ∧ d.now = max s.dev.now time) ∧
      (s.dev.mirror.phase = 0 → ¬(s.dev.mirror.role = 1 ∧ role = 2 ∧ phase = 1) → exec (.heartbeatRec role phase kerf lastAck released time) s = .next { s with dev := heard }) ∧
      (s.dev.mirror.phase = 1 → exec (.heartbeatRec role phase kerf lastAck released time) s =
        .next { s with dev := { heard with now := if s.dev.mirror.firstSeal = none then max s.dev.now time else s.dev.now } }))) ∧
  (∀ s : State, ((s.dev.mirror.role = 0 ∨ s.dev.mirror.phase = 8) → exec .heartbeatSend s = .next s) ∧
    (s.dev.mirror.role ≠ 0 → s.dev.mirror.phase ≠ 8 → ∃ d, exec .heartbeatSend s = .next { s with dev := d } ∧
      d.out = s.dev.out ++ (if s.dev.mirror.w0 = 0 then [] else [.dowel 0 6 s.dev.kerf.counter (heartbeatRec s.dev)]) ++
        (if s.dev.mirror.w1 = 0 then [] else [.dowel 1 6 s.dev.kerf.counter (heartbeatRec s.dev)]) ∧ { d with out := s.dev.out } = s.dev)) ∧
  (∀ s : State,
    (s.dev.mirror.role ≠ 0 → (s.dev.mirror.phase = 1 ∨ s.dev.mirror.phase = 2) → ∃ d, exec .partnerSuspect s = .next { s with dev := d } ∧
      d.mirror = { s.dev.mirror with phase := 3, suspectAt := s.dev.now } ∧ asks s.dev d ∧ { d with mirror := s.dev.mirror, seg := s.dev.seg } = s.dev) ∧
    (¬(s.dev.mirror.role ≠ 0 ∧ (s.dev.mirror.phase = 1 ∨ s.dev.mirror.phase = 2)) → exec .partnerSuspect s = .next s)) ∧
  (∀ s : State,
    (s.dev.mirror.role ≠ 0 → (s.dev.mirror.phase = 3 ∨ s.dev.mirror.phase = 7) → ∃ d, exec .takeoverRetry s = .next { s with dev := d } ∧ asks s.dev d ∧ { d with seg := s.dev.seg } = s.dev) ∧
    (¬(s.dev.mirror.role ≠ 0 ∧ (s.dev.mirror.phase = 3 ∨ s.dev.mirror.phase = 7)) → exec .takeoverRetry s = .next s)) ∧
  (∀ s : State, ((s.dev.mirror.phase = 3 ∨ s.dev.mirror.phase = 4) → exec .confirmTimeout s = .next { s with dev := updMirror s.dev (fun x => { x with phase := 7 }) }) ∧
    (s.dev.mirror.phase ≠ 3 → s.dev.mirror.phase ≠ 4 → exec .confirmTimeout s = .next s)) ∧
  (∀ (cause kerf : Nat) (s : State),
    let acts : Prop := s.dev.mirror.role ≠ 0 ∧ 1 ≤ s.dev.mirror.phase ∧ s.dev.mirror.phase ≠ 6 ∧ s.dev.mirror.phase ≠ 8
    (¬acts → exec (.lossRec cause kerf) s = .next s) ∧
    (acts → ∃ d, exec (.lossRec cause kerf) s = .next { s with dev := d } ∧ d.mirror.phase = 6 ∧ d.mirror.role = 1 ∧
      (s.dev.mirror.role = 1 → asks s.dev d ∧ d.mirror.clamp = [] ∧ d.mirror.stalled = [] ∧ d.mirror.unacked = [] ∧ ∀ h ∈ s.dev.mirror.clamp, left h ∈ d.out) ∧
      (s.dev.mirror.role ≠ 1 → d.mirror.log = [] ∧ d.mirror.committedOut = [] ∧ d.mirror.pendSeal = none ∧ d.out.getLast? = some (.aplic .pairEvent)))) ∧
  (∀ (n : Fin 2) (w : Fin 3) (s : State),
    exec (.dowelSublinkDown n) s = .next { s with dev := updMirror s.dev (fun x => if n = 0 then { x with w0 := 0 } else { x with w1 := 0 }) } ∧
    exec (.dowelSublinkUp n w) s = .next { s with dev := updMirror s.dev (fun x => if n = 0 then { x with w0 := w + 1 } else { x with w1 := w + 1 }) })

/-- The takeover service of a coordinator (R421, R429, R454, R457): a valid request of the PRIMARY takes an OPEN register at once, the STANDBY's waits, and is granted when the register stays OPEN; a
register that is granted keeps its holder whatever is asked, and the answer says so; a frame or request that fails a check is dropped and counted. The answer acts where it is signed for this package's request: a
grant sends a PRIMARY on ALONE and promotes a STANDBY, a refusal stops the package with LOSS. A node that is no coordinator serves nothing. -/
def Obligations.TakeoverService : Prop :=
  let answers (pair result winner dest echo : Nat) (d0 d : Dev) : Prop :=
    let b := leBytes 1 pair ++ leBytes 1 result ++ leBytes 1 winner ++ leBytes 1 dest ++ leBytes 8 echo
    d.seg = { d0.seg with queue := d0.seg.queue ++ [(none, .takeoverAns, b ++ signWith (keyFirmware d0) b)] }
  (∀ (x : SegHdr) (q : TakeReq) (s : State), segRuns s.dev = true →
    (hdrOk x 3 = false → exec (.takeoverReq x q) s = .next { s with dev := segDrop s.dev }) ∧
    (hdrOk x 3 = true → segService s.dev = false → exec (.takeoverReq x q) s = .next s) ∧
    (hdrOk x 3 = true → segService s.dev = true → takeValid s.dev q = false → exec (.takeoverReq x q) s = .next { s with dev := segDrop s.dev }) ∧
    (hdrOk x 3 = true → segService s.dev = true → takeValid s.dev q = true →
      let r := takeOf s.dev q.pair
      let bound : Takeover := { r with
        bound := if r.bound = [] then [(0, q.own), (1, q.peer)] else r.bound, lastNonce := leBytes 8 q.seqEcho, primaryAsked := r.primaryAsked || q.role == 1 }
      ∃ d, exec (.takeoverReq x q) s = .next { s with dev := d } ∧ (∀ k, k ≠ q.pair → takeOf d k = takeOf s.dev k) ∧ { d with takeover := s.dev.takeover, seg := s.dev.seg } = s.dev ∧
        (r.state = 0 → q.role = 1 → takeOf d q.pair = { bound with state := 1, winner := q.node, standbyAsked := none } ∧ answers q.pair 1 q.node q.node q.seqEcho s.dev d) ∧
        (r.state = 0 → q.role = 2 → takeOf d q.pair = { bound with standbyAsked := some q.node, openSince := if r.standbyAsked = none then s.dev.now else r.openSince } ∧ d.seg = s.dev.seg) ∧
        (r.state ≠ 0 → takeOf d q.pair = bound ∧ answers q.pair (if r.state = q.role then 1 else 2) r.winner q.node q.seqEcho s.dev d))) ∧
  (∀ (k : Fin 32) (s : State),
    let r := takeOf s.dev (k + 1)
    (∀ node, segRuns s.dev = true → segService s.dev = true → r.state = 0 → r.primaryAsked = false → r.standbyAsked = some node →
      ∃ d, exec (.takeoverStandbyGrant k) s = .next { s with dev := d } ∧ takeOf d (k + 1) = { r with state := 2, winner := node, standbyAsked := none } ∧
        (∀ j, j ≠ k.val + 1 → takeOf d j = takeOf s.dev j) ∧ answers (k + 1) 1 node node (leNat r.lastNonce) s.dev d ∧ { d with takeover := s.dev.takeover, seg := s.dev.seg } = s.dev) ∧
    ((segService s.dev = false ∨ r.state ≠ 0 ∨ r.primaryAsked = true ∨ r.standbyAsked = none) → exec (.takeoverStandbyGrant k) s = .next s)) ∧
  (∀ (x : SegHdr) (m : Nat) (a : TakeAns) (s : State), segRuns s.dev = true →
    let signed : Prop := ∃ v, tabGet none s.dev.seg.nodes m = some v ∧ v.chain.ok = true ∧
      Config.stdOk .requestVerify [v.chain.aliasKey, leBytes 1 a.pair ++ leBytes 1 a.result ++ leBytes 1 a.winner ++ leBytes 1 a.dest ++ leBytes 8 a.seqEcho, a.sig] = true
    let mine : Prop := s.dev.seg.reqSeq = some a.seqEcho ∧ a.dest = nodeId s.dev ∧ a.pair = ent s.dev 0x6000 4
    let waits : Prop := s.dev.mirror.phase = 3 ∨ s.dev.mirror.phase = 4 ∨ s.dev.mirror.phase = 7
    (hdrOk x 4 = false → exec (.takeoverAns x m a) s = .next { s with dev := segDrop s.dev }) ∧
    (hdrOk x 4 = true → ¬(signed ∧ mine ∧ waits ∧ (a.result = 1 ∨ a.result = 2)) → exec (.takeoverAns x m a) s = .next s) ∧
    (hdrOk x 4 = true → signed → mine → waits →
      (a.result = 1 → (s.dev.mirror.role = 1 ∨ s.dev.mirror.role = 2) → ∃ d, exec (.takeoverAns x m a) s = .next { s with dev := d } ∧ d.mirror.phase = 6 ∧ d.mirror.role = 1 ∧
        (s.dev.mirror.role = 1 → d.mirror.clamp = [] ∧ d.mirror.unacked = []) ∧ (s.dev.mirror.role = 2 → d.mirror.committedOut = [] ∧ d.out.getLast? = some (.aplic .pairEvent))) ∧
      (a.result = 2 → exec (.takeoverAns x m a) s = .next { s with
        dev := { s.dev with
          out := s.dev.out ++ [.dowel (subLinkMain s.dev) 7 s.dev.kerf.counter ([0x70, 1] ++ leBytes 6 0 ++ leBytes 8 s.dev.kerf.counter)],
          mirror := { s.dev.mirror with phase := 8, lossCause := 1 } } })))

/-! ### The management segment -/

/-- The node's place on the segment (R451–R455, R464, R467): an ANNOUNCE is kept by node, one of another package with this node's ID is a conflict, one of a master or acting master carries the sequence and, to a backup, the
grants, and one of a master not heard before is asked for a takeover that waits (R456); a frame with a wrong header is dropped and counted. A master counts its announcements; a listening or deferred master-strapped
node becomes coordinator when no BEACON comes; a backup that has heard one takes the coordinator's place with the copied grants; a BEACON defers a listener. Frames wait for a transmit opportunity, which takes
takeover frames first, then ANNOUNCE, then MCTP packets (R458). A port that does not run takes nothing. -/
def Obligations.SegmentNodes : Prop :=
  (∀ (x : SegHdr) (q : TakeReq) (m : Nat) (t : TakeAns) (a : Announce) (c : ChainObs) (k : Fin 32) (s : State), segRuns s.dev = false →
    ∀ i ∈ [Instr.announce x a c, .announceSend, .masterListenExpiry, .backupTakeover, .plcaBeacon, .takeoverReq x q, .takeoverStandbyGrant k, .takeoverAns x m t], exec i s = .next s) ∧
  (∀ (x : SegHdr) (a : Announce) (c : ChainObs) (s : State), segRuns s.dev = true →
    (hdrOk x 2 = false → exec (.announce x a c) s = .next { s with dev := segDrop s.dev }) ∧
    (hdrOk x 2 = true →
      let master (k : Nat) : Prop := k = 3 ∨ k = 4
      let conflict : Prop := a.node = nodeId s.dev ∧ padTo 16 a.serial ≠ padTo 16 s.dev.fuses.serial
      let follows : Prop := ent s.dev 0x2010 1 = 2 ∧ a.kerfMode = 1 ∧ a.kerfPeriod ≠ ent s.dev 0x2000 1
      let asks : Prop := master a.state ∧ (∀ v, tabGet none s.dev.seg.nodes a.node = some v → ¬master v.announce.state) ∧
        (s.dev.mirror.phase = 3 ∨ s.dev.mirror.phase = 7) ∧ s.dev.mirror.role ≠ 0
      ∃ d, exec (.announce x a c) s = .next { s with dev := d } ∧ { d with seg := s.dev.seg } = s.dev ∧
        (conflict → d.seg.conflictAt = some s.dev.now ∧ d.seg.nodes = s.dev.seg.nodes ∧ (¬follows → d.seg.reason = 0x0901)) ∧
        (¬conflict → d.seg.conflictAt = s.dev.seg.conflictAt ∧ (¬follows → d.seg.reason = s.dev.seg.reason) ∧
          tabGet none d.seg.nodes a.node = some {
            announce := a, heard := s.dev.now, chain := match tabGet none s.dev.seg.nodes a.node with | some v => v.chain | none => c } ∧
          (∀ k, k ≠ a.node → tabGet none d.seg.nodes k = tabGet none s.dev.seg.nodes k)) ∧
        (follows → d.seg.reason = 0x0902) ∧
        (master a.state → d.seg.masterSeq = a.seq ∧ d.seg.grants = (if s.dev.pins.segRole = 2 then a.grants else s.dev.seg.grants)) ∧
        (¬master a.state → d.seg.masterSeq = s.dev.seg.masterSeq ∧ d.seg.grants = s.dev.seg.grants) ∧
        (asks → d.seg.reqSeq = some a.seq ∧ (segSends s.dev = true → ∃ b, d.seg.queue = s.dev.seg.queue ++ [(none, .takeoverReq, b)])) ∧
        (¬asks → d.seg.reqSeq = s.dev.seg.reqSeq ∧ d.seg.queue = s.dev.seg.queue) ∧
        { d.seg with
          nodes := s.dev.seg.nodes, reason := s.dev.seg.reason, conflictAt := s.dev.seg.conflictAt, masterSeq := s.dev.seg.masterSeq, grants := s.dev.seg.grants,
          reqSeq := s.dev.seg.reqSeq, queue := s.dev.seg.queue } = s.dev.seg)) ∧
  (∀ s : State, segRuns s.dev = true →
    ((s.dev.seg.state = 3 ∨ s.dev.seg.state = 4) →
      let d := updSeg s.dev (fun x => { x with seq := x.seq + 1, lastSeqs := (x.seq + 1) :: x.lastSeqs.take 2 })
      exec .announceSend s = .next { s with dev := updSeg d (fun x => { x with queue := x.queue ++ [(none, .announce, announceBody d)] }) }) ∧
    (s.dev.seg.state = 2 → exec .announceSend s = .next { s with dev := updSeg s.dev (fun x => { x with queue := x.queue ++ [(none, .announce, announceBody s.dev)] }) }) ∧
    (segSends s.dev = false → exec .announceSend s = .next s)) ∧
  (∀ s : State, segRuns s.dev = true →
    (s.dev.pins.segRole = 1 → (s.dev.seg.state = 1 ∨ s.dev.seg.state = 5) →
      exec .masterListenExpiry s = .next { s with dev := updSeg s.dev (fun x => { x with state := 3, plcaId := 0, csma := false }) }) ∧
    (¬(s.dev.pins.segRole = 1 ∧ (s.dev.seg.state = 1 ∨ s.dev.seg.state = 5)) → exec .masterListenExpiry s = .next s)) ∧
  (∀ s : State, segRuns s.dev = true →
    (s.dev.pins.segRole = 2 → s.dev.seg.state = 2 → s.dev.seg.beaconHeard = true → ∃ d, exec .backupTakeover s = .next { s with dev := d } ∧
      d.seg = { s.dev.seg with state := 4, plcaId := 0, csma := false, seq := s.dev.seg.masterSeq } ∧
      (∀ k, k < 32 → takeOf d (k + 1) = { takeoverInit with state := s.dev.seg.grants.getD k 0 / 64 % 4, winner := s.dev.seg.grants.getD k 0 % 64 }) ∧
      { d with seg := s.dev.seg, takeover := s.dev.takeover } = s.dev) ∧
    (¬(s.dev.pins.segRole = 2 ∧ s.dev.seg.state = 2 ∧ s.dev.seg.beaconHeard = true) → exec .backupTakeover s = .next s)) ∧
  (∀ s : State, segRuns s.dev = true → exec .plcaBeacon s = .next { s with dev := updSeg s.dev (fun x => { x with
    state := if s.dev.pins.segRole = 1 ∧ x.state = 1 then 5 else x.state, beaconHeard := true, lastBeacon := s.dev.now, csma := false }) }) ∧
  (∀ (d : Dev) (f : Option Nat × SegKind × List Byte), nextFrame d.seg.queue = some f → f ∈ d.seg.queue ∧ (∀ g ∈ d.seg.queue, segRank f.2.1 ≤ segRank g.2.1) ∧
    (segSends d = true → transmit d = emit (.seg f.1 f.2.1 f.2.2) (updSeg d (fun x => { x with queue := x.queue.erase f }))) ∧ (segSends d = false → transmit d = d))

/-- MCTP and I3C endpoint commands and KERF_SYNC (R45, R57, R67, R157, R459–R463, R467): the endpoint ID is the package's own whatever is asked; a packet to a segment endpoint is bridged by the coordinator, one from the
segment goes to the binding its destination was last heard on, a list message for the package is served in the session it travels in or outside any, and any other packet is dropped; GETSTATUS carries the stage code; with the hub in jig mode or
without power nothing answers. An accepted edge locks a follower and moves the master's instants on, a missed one counts. A bridged packet's header fields are the model's choice (log entry 66). -/
def Obligations.EndpointsAndKerfSync : Prop :=
  let up (d : Dev) : Prop := hubJig d = false ∧ d.boot.phase ≠ .off
  (∀ (b : McBinding) (eid src dst typ addr : Nat) (body : List Byte) (sess : Option SessN) (p : PartnerObs) (u : UcieObs) (s : State), ¬up s.dev →
    ∀ i ∈ [Instr.setEndpointId eid, .getEndpointId, .entdaa addr, .getstatus, .mctp b src dst typ body sess p u], exec i s = .next s) ∧
  (∀ (eid : Nat) (s : State), up s.dev → ownEid s.dev = 0x10 + nodeId s.dev ∧
    exec (.setEndpointId eid) s = .next { s with dev := emit (.mctpControl 1 (if eid = ownEid s.dev then 0 else 2) (ownEid s.dev) 0) s.dev } ∧
    exec .getEndpointId s = .next { s with dev := emit (.mctpControl 2 0 (ownEid s.dev) 1) s.dev }) ∧
  (∀ (src dst typ : Nat) (body : List Byte) (sess : Option SessN) (p : PartnerObs) (u : UcieObs) (s : State), up s.dev → dst ≠ 0 → dst ≠ ownEid s.dev →
    (∀ (b : McBinding) (n : Nat), bindingNo b = some n →
      let routed := updSeg s.dev (fun x => { x with routes := (x.routes.filter (fun r => r.1 != src)) ++ [(src, n, s.dev.now)] })
      ((segService s.dev = true ∧ 0x10 ≤ dst ∧ dst ≤ 0x4F) → exec (.mctp b src dst typ body sess p u) s =
        .next { s with dev := updSeg routed (fun x => { x with queue := x.queue ++ [(some (dst - 0x10), .mctp, mctpPacket src dst typ body)] }) }) ∧
      (¬(segService s.dev = true ∧ 0x10 ≤ dst ∧ dst ≤ 0x4F) → exec (.mctp b src dst typ body sess p u) s = .next { s with dev := routed })) ∧
    (∀ x : SegHdr, segRuns s.dev = true → hdrOk x 1 = true →
      (∀ r, segService s.dev = true → s.dev.seg.routes.find? (fun r => r.1 == dst && decide (s.dev.now ≤ r.2.2 + 60 * tickSec)) = some r →
        exec (.mctp (.segment x) src dst typ body sess p u) s = .next { s with dev := emit (.mctp r.2.1 src dst typ body) s.dev }) ∧
      ((segService s.dev = false ∨ ∀ r ∈ s.dev.seg.routes, r.1 = dst → r.2.2 + 60 * tickSec < s.dev.now) →
        exec (.mctp (.segment x) src dst typ body sess p u) s = .next s))) ∧
  (∀ (b : McBinding) (src dst typ : Nat) (body : List Byte) (sess : Option SessN) (p : PartnerObs) (u : UcieObs) (s : State), up s.dev →
    (∀ x, b = .segment x → segRuns s.dev = false → exec (.mctp b src dst typ body sess p u) s = .next s) ∧
    (∀ x, b = .segment x → segRuns s.dev = true → hdrOk x 1 = false → exec (.mctp b src dst typ body sess p u) s = .next { s with dev := segDrop s.dev }) ∧
    ((dst = ownEid s.dev ∨ dst = 0) → (∀ x, b = .segment x → segRuns s.dev = true ∧ hdrOk x 1 = true) →
      let d := match bindingNo b with
        | some n => updSeg s.dev (fun x => { x with routes := (x.routes.filter (fun r => r.1 != src)) ++ [(src, n, s.dev.now)] })
        | none => s.dev
      let served (session : Option SessN) : Prop := exec (.mctp b src dst typ body sess p u) s = .next { s with dev := listJob (.msg (leAt body 5 1) (listMsgOf session body) p u) d }
      (typ = 0x7F → served none) ∧ (typ = 6 → sess.isSome = true → served sess) ∧
      (typ ≠ 0x7F → ¬(typ = 6 ∧ sess.isSome = true) → exec (.mctp b src dst typ body sess p u) s = .next { s with dev := d }))) ∧
  (∀ (addr : Nat) (s : State), up s.dev → exec (.entdaa addr) s =
    .next { s with dev := emit (.i3cId (i3cPid s.dev) 6 0) (updSeg s.dev (fun x => { x with dynAddr := some (addr % 128) })) }) ∧
  (∀ s : State, up s.dev → exec .getstatus s = .next { s with dev := emit (.getStatus (stageCode s.dev * 256)) s.dev }) ∧
  (∀ (t since : Nat) (cut : Option Nat) (s : State),
    let taken : Prop := ent s.dev 0x2010 1 = 2 ∧ s.dev.boot.phase = .released ∧ (∀ e, s.dev.sync.lastEdge = some e → e + periodNs s.dev / 2 ≤ t) ∧ (s.dev.sync.lastEdge = none → 100000 ≤ since)
    let m := t - ent s.dev 0xB200 0
    (taken → exec (.kerfSyncEdge t since cut) s = .next { s with dev := updSync s.dev (fun x => { x with
      lastEdge := some t, mPrev := x.mLast, mLast := some m, locked := cut.isSome, holdover := false, reason := 0, diff := match cut with | some c => (c : Int) - m | none => x.diff }) }) ∧
    (¬taken → exec (.kerfSyncEdge t since cut) s = .next s)) ∧
  (∀ (t : Nat) (s : State), (ent s.dev 0x2010 1 ≠ 2 → exec (.kerfSyncMiss t) s = .next s) ∧
    (ent s.dev 0x2010 1 = 2 → ∃ d, exec (.kerfSyncMiss t) s = .next { s with dev := d } ∧ d.sync.misses = min (s.dev.sync.misses + 1) 0xFFFFFFFF ∧
      d.sync.holdover = true ∧ d.sync.locked = false ∧
      ((∀ e, s.dev.sync.lastEdge = some e → e + 2 * periodNs s.dev ≤ t) → d.sync.reason = 0x0904) ∧
      (∀ e, s.dev.sync.lastEdge = some e → t < e + 2 * periodNs s.dev → d.sync.reason = s.dev.sync.reason) ∧
      { d.sync with misses := s.dev.sync.misses, holdover := s.dev.sync.holdover, locked := s.dev.sync.locked, reason := s.dev.sync.reason } = s.dev.sync ∧ { d with sync := s.dev.sync } = s.dev))

/-! ### The Gauge, sampling and SPDM -/

/-- Runs of the Gauge (R20, R431–R435, R440, R444, R445, R450): VGAUGE starts a run with a fresh RUN_ID and ends it; its reset loses the open interval and marks a gap. A slot's energy goes to its domains, a hart's to the
tag sampled at the slot's start, a bench's to its sampled tags in proportion (each share rounded down, log entry 17) or unattributed; each tag of an active function is sampled once a microsecond; closed records are signed in order into the ring; a calibration that
verifies while PKG_RESET_N is low blows a seal fuse, and changes nothing once all 64 are blown. An absent Gauge measures nothing. -/
def Obligations.GaugeMeasures : Prop :=
  (∀ s : State, (s.dev.pins.vgauge = true → exec .gaugeRunStart s = .next s) ∧
    (s.dev.pins.vgauge = false → exec .gaugeRunStart s = .next { s with
      dev := { drawn s.dev with
        pins := { s.dev.pins with vgauge := true },
        gauge := { gaugeInit with
          runId := freeVal s.dev % 2 ^ 64, lost := s.dev.gauge.lost, openKind := if s.dev.boot.phase = .released then 0 else 3,
          timeStart := if s.dev.boot.phase = .released then 0 else s.dev.now, holdSeen := if s.dev.boot.phase = .released then false else s.dev.holdover } } })) ∧
  (∀ s : State, exec .gaugeRunEnd s = .next { s with
    dev := { s.dev with pins := { s.dev.pins with vgauge := false }, gauge := { gaugeInit with lost := s.dev.gauge.lost || ent s.dev 0x2040 1 == 1 } } }) ∧
  (∀ (low : Bool) (s : State),
    (low = true → gaugePresent s.dev = true → exec (.gaugeReset low) s = .next { s with
      dev := { s.dev with
        pins := { s.dev.pins with gaugeRst := true },
        gauge := { s.dev.gauge with openKind := 0, gap := s.dev.gauge.gap || s.dev.gauge.openKind != 0, dom := [], tenants := [], samples := [], hartTag := [] } } }) ∧
    ((low = false ∨ gaugePresent s.dev = false) → exec (.gaugeReset low) s = .next { s with dev := { s.dev with pins := { s.dev.pins with gaugeRst := low } } })) ∧
  (∀ (charges : List Nat) (ref : Nat) (s : State), (gaugePresent s.dev = false → exec (.gaugeSlot charges ref) s = .next s) ∧
    (gaugePresent s.dev = true →
      let g := s.dev.gauge
      let e (k : Nat) : Nat := charges.getD k 0
      let hartsOf (t : Nat) : List Nat := (List.range 216).filter (fun h => hartPresent s.dev h && tabGet 0 g.hartTag h == t)
      let total (b : Nat) : Nat := ((benchSamples g b).map (fun x => x.2)).sum
      let share (b t : Nat) : Nat := (((benchSamples g b).filter (fun x => x.1 == t)).map (fun x => e (216 + b) * x.2 / total b)).sum
      ∃ d, exec (.gaugeSlot charges ref) s = .next { s with dev := d } ∧
        (∀ h, h < 216 → tabGet 0 d.gauge.hartTag h = (hartOf s.dev h).htenant % 4096) ∧ d.gauge.samples = [] ∧ d.gauge.holdSeen = (g.holdSeen || s.dev.holdover) ∧
        (g.openKind = 0 → d.gauge.dom = g.dom ∧ d.gauge.tenants = g.tenants) ∧
        (g.openKind ≠ 0 →
          (∀ n, n < 12 → tabGet 0 d.gauge.dom n = tabGet 0 g.dom n + ((List.range 18).map (fun c => e (18 * n + c))).sum) ∧
          (∀ b, b < 4 → tabGet 0 d.gauge.dom (12 + b) = tabGet 0 g.dom (12 + b) + e (216 + b) ∧
            tabGet 0 d.gauge.dom (21 + b) = tabGet 0 g.dom (21 + b) + (if total b = 0 then e (216 + b) else 0)) ∧
          (∀ k, k < 5 → tabGet 0 d.gauge.dom (16 + k) = tabGet 0 g.dom (16 + k) + e (220 + k)) ∧
          tabGet 0 d.gauge.dom 25 = tabGet 0 g.dom 25 + (if g.verifyOn then ref else 0) ∧
          (∀ t, let x := tabGet tenantInit g.tenants t
            tabGet tenantInit d.gauge.tenants t = { x with
              core := x.core + ((hartsOf t).map e).sum, slots := x.slots + (hartsOf t).length, bench := x.bench + share 0 t + share 1 t + share 2 t + share 3 t })) ∧
        { d with gauge := { d.gauge with dom := g.dom, tenants := g.tenants, hartTag := g.hartTag, samples := g.samples, holdSeen := g.holdSeen } } = s.dev)) ∧
  (∀ s : State, (gaugePresent s.dev = false → exec .gaugeTagSample s = .next s) ∧
    (gaugePresent s.dev = true → ∃ d, exec .gaugeTagSample s = .next { s with dev := d } ∧ { d with gauge := { d.gauge with samples := s.dev.gauge.samples } } = s.dev ∧
      (∀ b t, b < 4 → t < 4096 → tabGet 0 d.gauge.samples (b * 4096 + t) =
        tabGet 0 s.dev.gauge.samples (b * 4096 + t) + (if t ∈ (activeFns s.dev b).map (fun f => (fnOf s.dev b f).tenant % 4096) then 1 else 0)))) ∧
  (∀ s : State,
    let slot (r : List Byte) : Nat := leAt r 0x10 8 % 16384
    ∃ d, exec .gaugeRecordsSigned s = .next { s with dev := d } ∧ d.gauge.closing = [] ∧
      (∀ r, s.dev.gauge.closing.getLast? = some r → d.gauge.signed = leAt r 0x10 8 + 1) ∧
      ((s.dev.gauge.closing.map slot).Nodup → ∀ r ∈ s.dev.gauge.closing, tabGet [] d.gauge.ring (slot r) = r ++ signWith keyGauge r) ∧
      (∀ k, (∀ r ∈ s.dev.gauge.closing, slot r ≠ k) → tabGet [] d.gauge.ring k = tabGet [] s.dev.gauge.ring k) ∧
      (s.dev.gauge.closing = [] → d = s.dev) ∧
      { d with gauge := { d.gauge with closing := s.dev.gauge.closing, ring := s.dev.gauge.ring, signed := s.dev.gauge.signed } } = s.dev) ∧
  (∀ (verify : Bool) (pkg : List Byte) (calib : Option (List Byte)) (rom : Option (Fin 4)) (s : State),
    let p : Dev := { s.dev with pins := { s.dev.pins with gaugeVerify := verify } }
    let verified : Prop := gaugePresent s.dev = true ∧ s.dev.pins.pkgReset = true ∧ verify = true ∧ Config.stdOk .calVerify [pkg] = true
    (¬verified → exec (.gaugeCal verify pkg calib rom) s = .next { s with dev := p }) ∧
    (verified → 64 ≤ s.dev.fuses.gaugeSeal → exec (.gaugeCal verify pkg calib rom) s = .next { s with dev := emit (.jtag 13 0x0A04) p }) ∧
    (verified → s.dev.fuses.gaugeSeal < 64 → exec (.gaugeCal verify pkg calib rom) s = .next { s with
      dev := { p with
        fuses := { s.dev.fuses with
          gaugeSeal := s.dev.fuses.gaugeSeal + 1, gaugeCalib := calib.getD s.dev.fuses.gaugeCalib,
          gaugeRom := match rom with | some r => r.val | none => s.dev.fuses.gaugeRom } } }))

/-- Sampling and the windows of corrected errors (R101, R475–R479, R483), and PCIE_WAKE: a write of hsmpctl sets its fields and starts the countdown where EN rises, and a mode that may not write it traps; the countdown tags one
micro-operation at a time, or counts a dropped sample, and reloads with its period and a random part; a tagged micro-operation's record goes to slot INDEX where the hart's context may write it, INDEX advances, wraps or ends sampling, and
interrupt 25 follows where IRQ asks for it. A hart that does not run neither writes nor samples. -/
def Obligations.SamplingAndWindows : Prop :=
  (∀ (h : HartN) (insn : BitVec 32) (v : Word) (o : SampleObs) (s : State), hartRuns s.dev h = false →
    exec (.hsmpctlWrite h insn v) s = .next s ∧ exec (.sampleCountdown h) s = .next s ∧ exec (.sampleRecord h o) s = .next s) ∧
  (∀ (h : HartN) (insn : BitVec 32) (v : Word) (s : State), HartReady s.dev h →
    let x := hartOf s.dev h
    let w := csrWrites insn.toNat
    let y := if w then hsmpctlPut (csrNew insn.toNat (hsmpctlOf x) v.toNat) (freeVal s.dev) x else x
    (csrAccess x 0x6C2 w ≠ 2 → exec (.hsmpctlWrite h insn v) s = .next { s with dev := trapIllegal h insn.toNat (drawn s.dev) }) ∧
    (csrAccess x 0x6C2 w = 2 → ∃ d, exec (.hsmpctlWrite h insn v) s = .next { s with dev := d } ∧
      HartSteps (drawn s.dev) d h { setX (insn.toNat / 2 ^ 7 % 32) (hsmpctlOf x) y with pc := (x.pc + 4) % 2 ^ 64 })) ∧
  (∀ (v r : Nat) (x : Hart),
    let y := hsmpctlPut v r x
    y.hsEn = getBit v 0 ∧ y.hsPeriod = max 256 (getBits v 16 24) ∧ y.hsJitter = getBits v 40 4 ∧ y.hsIrq = getBit v 3 ∧ y.hsWrap = getBit v 2 ∧
      y.hsStop = (if getBit v 0 then 0 else x.hsStop) ∧ (getBit v 0 = true → x.hsEn = false → y.hsPeriod ≤ y.hsCount ∧ y.hsCount < y.hsPeriod + 2 ^ y.hsJitter) ∧
      (¬(getBit v 0 = true ∧ x.hsEn = false) → y.hsCount = x.hsCount) ∧
      { y with hsEn := x.hsEn, hsPeriod := x.hsPeriod, hsJitter := x.hsJitter, hsIrq := x.hsIrq, hsWrap := x.hsWrap, hsStop := x.hsStop, hsCount := x.hsCount } = x) ∧
  (∀ (h : HartN) (s : State), hartRuns s.dev h = true →
    let x := hartOf s.dev h
    (¬(x.hsEn = true ∧ sampledNow s.dev x = true) → exec (.sampleCountdown h) s = .next s) ∧
    (x.hsEn = true → sampledNow s.dev x = true → ∃ d n, exec (.sampleCountdown h) s = .next { s with dev := d } ∧ x.hsPeriod ≤ n ∧ n < x.hsPeriod + 2 ^ x.hsJitter ∧
      (x.hsTagged = false → HartOnly (drawn s.dev) d h { x with hsTagged := true, hsCount := n }) ∧
      (x.hsTagged = true → HartMoves (drawn s.dev) d h { x with hsCount := n } ∧ d.obs = (countHart h 0x25 s.dev).obs))) ∧
  (∀ (h : HartN) (o : SampleObs) (s : State), hartRuns s.dev h = true →
    let x := hartOf s.dev h
    let a := x.hsBase + 64 * x.hsPos
    let d1 := updHart s.dev h (fun x => { x with hsTagged := false })
    let irq (l : List Nat) : List Nat := if x.hsIrq then nubNat (l ++ [25]) else l
    let goes (d0 : Dev) (f : Hart → Hart) : Prop := ∃ d, exec (.sampleRecord h o) s = .next { s with dev := d } ∧ HartMoves d0 d h (f (hartOf d0 h))
    let stops (d0 : Dev) (code : Nat) : Prop := goes d0 (fun y => { y with hsEn := false, hsStop := code, irqPending := irq y.irqPending })
    (x.hsTagged = false → exec (.sampleRecord h o) s = .next s) ∧
    (x.hsTagged = true →
      (x.hsEn = false → ∃ d, exec (.sampleRecord h o) s = .next { s with dev := d } ∧ HartOnly s.dev d h { x with hsTagged := false }) ∧
      (x.hsEn = true → sampleSlots x ≤ x.hsPos → (x.hsWrap = true → goes d1 (fun y => { y with hsPos := 0, irqPending := irq y.irqPending })) ∧ (x.hsWrap = false → stops d1 1)) ∧
      (x.hsEn = true → x.hsPos < sampleSlots x →
        (isMain s.dev a = false → stops d1 3) ∧
        (isMain s.dev a = true → getBit (potRights (potEntry s.dev a) (sampleIdent s.dev x)) 1 = false → stops (potRecord a d1) 2) ∧
        (isMain s.dev a = true → getBit (potRights (potEntry s.dev a) (sampleIdent s.dev x)) 1 = true →
          let w := cohWriteLine (a / 64) (bytesLine (sampleBytes s.dev h o)) d1
          (x.hsPos + 1 < sampleSlots x → goes w (fun y => { y with
            hsPos := x.hsPos + 1, irqPending := if x.hsPos + 1 = sampleSlots x / 2 then irq y.irqPending else y.irqPending })) ∧
          (x.hsPos + 1 = sampleSlots x → (x.hsWrap = true → goes w (fun y => { y with hsPos := 0, irqPending := irq y.irqPending })) ∧
            (x.hsWrap = false → goes w (fun y => { y with hsPos := x.hsPos + 1, hsEn := false, hsStop := 1, irqPending := irq y.irqPending }))))))) ∧
  (∀ s : State, exec .ceWindowRoll s = .next { s with dev := { s.dev with obs := { s.dev.obs with ce := [], ceActed := [], windowStart := s.dev.now } } }) ∧
  (∀ (port : Fin 32) (s : State), (∀ target, s.dev.boot.phase ≠ .released → exec (.pcieWake port target) s = .next s) ∧
    (s.dev.boot.phase = .released → exec (.pcieWake port none) s = .next { s with dev := emit (.aplic (.pcieWake port)) s.dev } ∧
      ∀ t : HartN × Fin 9 × Fin 256, exec (.pcieWake port (some t)) s = .next { s with dev := imsicWrite t.1 t.2.1 t.2.2 (emit (.aplic (.pcieWake port)) s.dev) }))

/-- The SPDM responder (R54, R67, R395–R398): before it runs nothing is answered; at most 8 sessions; a handshake that verifies fixes its session's role, one that does not ends it (PRESUMED, log entry 50);
a session is kept alive, renewed and ended in its own messages, or when nothing comes; what it staged stays; measurements, certificates and challenges are answered from the package's keys, and what cannot be answered with an error. -/
def Obligations.SpdmResponder : Prop :=
  let sends (o : Option Nat) (k : SpdmOut) (body : List Byte) (s : State) (d : Dev) : State := { s with dev := emit (.spdm o k body) d }
  let ended (n : Nat) (d d' : Dev) : Prop := sessOf d' n = none ∧ (∀ k, k ≠ n → sessOf d' k = sessOf d k) ∧ tabGet none d'.reports n = none ∧
    (∀ k, k ≠ n → tabGet none d'.reports k = tabGet none d.reports k) ∧ { d' with list := { d'.list with sessions := d.list.sessions }, reports := d.reports } = d
  (∀ (n : SessN) (o : Option SessN) (l : Option (List Byte)) (req nonce : List Byte) (a b c : Nat) (sg : Bool) (s : State), spdmUp s.dev = false →
    ∀ i ∈ [Instr.spdmKeyExchange req, .spdmFinish n l req, .spdmGetMeasurements o a sg nonce, .spdmGetCertificate o a b c, .spdmHeartbeat n, .spdmEndSession n, .spdmChallenge a nonce,
      .spdmKeyUpdate n], exec i s = .next s) ∧
  (∀ (req : List Byte) (s : State), spdmUp s.dev = true →
    ((∀ n, n < 8 → (sessOf s.dev n).isSome = true) → exec (.spdmKeyExchange req) s = .next (sends none .errSessionLimit [] s s.dev)) ∧
    (∀ n, n < 8 → sessOf s.dev n = none → (∀ k, k < n → (sessOf s.dev k).isSome = true) →
      ∃ d, exec (.spdmKeyExchange req) s = .next (sends (some n) .keyExchange (leBytes 1 30 ++ signWith (keyTop s.dev) (Config.std .spdm [[1], req])) s d) ∧
        SessOnly s.dev d n sessInit)) ∧
  (∀ (n : SessN) (leaf : Option (List Byte)) (req : List Byte) (s : State), spdmUp s.dev = true →
    (sessOf s.dev n = none → exec (.spdmFinish n leaf req) s = .next (sends none .errUnspecified [] s s.dev)) ∧
    (∀ x, sessOf s.dev n = some x → (x.finished = true → exec (.spdmFinish n leaf req) s = .next (sends (some n.val) .errUnspecified [] s s.dev)) ∧
      (x.finished = false → Config.stdOk .spdm [leaf.getD [], req] = true → ∃ d, exec (.spdmFinish n leaf req) s = .next (sends (some n.val) .finish [] s d) ∧
        SessOnly s.dev d n { x with finished := true, role := roleFor s.dev leaf, keyHash := leaf.map sha512 }) ∧
      (x.finished = false → Config.stdOk .spdm [leaf.getD [], req] = false → ∃ d, exec (.spdmFinish n leaf req) s = .next (sends (some n.val) .errUnspecified [] s d) ∧ ended n s.dev d))) ∧
  (∀ (n : SessN) (s : State), spdmUp s.dev = true →
    (sessOf s.dev n = none → ∀ i ∈ [Instr.spdmHeartbeat n, .spdmKeyUpdate n, .spdmEndSession n], exec i s = .next (sends none .errUnspecified [] s s.dev)) ∧
    (∀ x, sessOf s.dev n = some x → exec (.spdmHeartbeat n) s = .next (sends (some n.val) .heartbeatAck [] s s.dev) ∧
      (∃ d, exec (.spdmKeyUpdate n) s = .next (sends (some n.val) .keyUpdateAck [] s d) ∧ SessOnly s.dev d n { x with keyUpdates := x.keyUpdates + 1 }) ∧
      (∃ d, exec (.spdmEndSession n) s = .next (sends (some n.val) .endSessionAck [] s d) ∧ ended n s.dev d))) ∧
  (∀ (n : SessN) (s : State), ∃ d, exec (.spdmSessionTimeout n) s = .next { s with dev := d } ∧ ended n s.dev d) ∧
  (∀ (o : Option SessN) (k : Nat) (sg : Bool) (nonce : List Byte) (s : State), spdmUp s.dev = true →
    let blocks : List Nat := if k = 255 then [1, 2, 3, 4, 5, 6, 7, 8, 9, 10, 11] else if k = 0 then [] else [k]
    let body := leBytes 1 (if k = 0 then 11 else blocks.length) ++ blocks.flatMap (measureBlock s.dev)
    ((k ≤ 11 ∨ k = 255) → exec (.spdmGetMeasurements o k sg nonce) s =
      .next (sends (o.map (fun n => n.val)) .measurements (if sg then body ++ signWith (keyTop s.dev) (nonce ++ body) else body) s s.dev)) ∧
    (11 < k → k ≠ 255 → exec (.spdmGetMeasurements o k sg nonce) s = .next (sends (o.map (fun n => n.val)) .errUnspecified [] s s.dev))) ∧
  (∀ (o : Option SessN) (slot off len : Nat) (s : State), spdmUp s.dev = true →
    let chain := certChain s.dev
    let part := sliceOf chain off len
    (slot = 0 → off ≤ chain.length → exec (.spdmGetCertificate o slot off len) s =
        .next (sends (o.map (fun n => n.val)) .certificate (leBytes 2 part.length ++ leBytes 2 (chain.length - off - part.length) ++ part) s s.dev) ∧
      part.length = min len (chain.length - off)) ∧
    ((slot ≠ 0 ∨ chain.length < off) → exec (.spdmGetCertificate o slot off len) s = .next (sends (o.map (fun n => n.val)) .errUnspecified [] s s.dev))) ∧
  (∀ (slot : Nat) (nonce : List Byte) (s : State), spdmUp s.dev = true →
    (slot = 0 → exec (.spdmChallenge slot nonce) s =
      .next (sends none .challengeAuth (signWith (keyTop s.dev) (Config.std .spdm [[2], nonce, certChain s.dev])) s s.dev)) ∧
    (slot ≠ 0 → exec (.spdmChallenge slot nonce) s = .next (sends none .errUnspecified [] s s.dev)))
end

