-- ==== Sys2Proof/Laws/Tab.lean ====
section
/-!
SUPPORT. Sparse tables: what reading after a write gives, and that every table operation keeps the canonical form.
-/
set_option linter.unusedVariables false

namespace Sys2Proof.Machine

variable {α : Type}

@[simp] theorem tabGet_nil (d : α) (i : Nat) : tabGet d [] i = d := rfl

theorem tabGet_insert_same (d v : α) (i : Nat) (t : Tab α) : tabGet d (tabInsert i v t) i = v := by
  induction t with
  | nil => simp [tabInsert, tabGet]
  | cons e t ih =>
    obtain ⟨j, w⟩ := e
    simp only [tabInsert]
    split
    · simp [tabGet]
    · split
      · simp [tabGet]
      · simp [tabGet, *]

theorem tabGet_insert_other (d v : α) {i k : Nat} (h : k ≠ i) (t : Tab α) : tabGet d (tabInsert i v t) k = tabGet d t k := by
  induction t with
  | nil => simp [tabInsert, tabGet, h]
  | cons e t ih =>
    obtain ⟨j, w⟩ := e
    simp only [tabInsert]
    split
    · simp [tabGet, h]
    · split
      · subst_vars; simp [tabGet, h]
      · simp [tabGet, ih]

theorem tabGet_erase_same (d : α) (i : Nat) (t : Tab α) : tabGet d (tabErase i t) i = d := by
  induction t with
  | nil => rfl
  | cons e t ih =>
    obtain ⟨j, w⟩ := e
    simp only [tabErase]
    split
    · exact ih
    · simp [tabGet, *]

theorem tabGet_erase_other (d : α) {i k : Nat} (h : k ≠ i) (t : Tab α) : tabGet d (tabErase i t) k = tabGet d t k := by
  induction t with
  | nil => rfl
  | cons e t ih =>
    obtain ⟨j, w⟩ := e
    simp only [tabErase]
    split
    · subst_vars; simp [tabGet, h, ih]
    · simp [tabGet, ih]

variable [DecidableEq α]

/-- A table reads what was last written at a key. -/
@[simp] theorem tabGet_tabSet_same (d : α) (t : Tab α) (i : Nat) (v : α) : tabGet d (tabSet d t i v) i = v := by
  unfold tabSet
  split
  · simp [tabGet_erase_same, *]
  · exact tabGet_insert_same ..

/-- Writing one key leaves every other as it was. -/
theorem tabGet_tabSet_other (d : α) (t : Tab α) {i k : Nat} (v : α) (h : k ≠ i) : tabGet d (tabSet d t i v) k = tabGet d t k := by
  unfold tabSet
  split
  · exact tabGet_erase_other d h t
  · exact tabGet_insert_other d v h t

theorem tabGet_tabSet (d : α) (t : Tab α) (i k : Nat) (v : α) : tabGet d (tabSet d t i v) k = if k = i then v else tabGet d t k := by
  split
  · subst_vars; simp
  · exact tabGet_tabSet_other d t v ‹_›

@[simp] theorem tabGet_tabUpd_same (d : α) (t : Tab α) (i : Nat) (f : α → α) : tabGet d (tabUpd d t i f) i = f (tabGet d t i) :=
  tabGet_tabSet_same ..

theorem tabGet_tabUpd_other (d : α) (t : Tab α) {i k : Nat} (f : α → α) (h : k ≠ i) : tabGet d (tabUpd d t i f) k = tabGet d t k :=
  tabGet_tabSet_other d t _ h

theorem tabGet_tabUpd (d : α) (t : Tab α) (i k : Nat) (f : α → α) :
    tabGet d (tabUpd d t i f) k = if k = i then f (tabGet d t i) else tabGet d t k := tabGet_tabSet ..

/-! ### The canonical form -/

theorem tabWfFrom_mono (d : α) {a b : Nat} (h : a ≤ b) (t : Tab α) (w : tabWfFrom d b t = true) : tabWfFrom d a t = true := by
  cases t with
  | nil => rfl
  | cons e t =>
    obtain ⟨j, x⟩ := e
    simp only [tabWfFrom, Bool.and_eq_true, decide_eq_true_eq] at *
    exact ⟨⟨by omega, w.1.2⟩, w.2⟩

theorem tabWfFrom_insert (d v : α) (i : Nat) (hv : v ≠ d) (t : Tab α) (lo : Nat) (hi : lo ≤ i) (w : tabWfFrom d lo t = true) :
    tabWfFrom d lo (tabInsert i v t) = true := by
  induction t generalizing lo with
  | nil => simp [tabInsert, tabWfFrom, hi, hv]
  | cons e t ih =>
    obtain ⟨j, x⟩ := e
    simp only [tabWfFrom, Bool.and_eq_true, decide_eq_true_eq] at w
    simp only [tabInsert]
    split
    · simp only [tabWfFrom, Bool.and_eq_true, decide_eq_true_eq]
      exact ⟨⟨hi, hv⟩, ⟨by omega, w.1.2⟩, w.2⟩
    · split
      · subst_vars
        simp only [tabWfFrom, Bool.and_eq_true, decide_eq_true_eq]
        exact ⟨⟨hi, hv⟩, w.2⟩
      · simp only [tabWfFrom, Bool.and_eq_true, decide_eq_true_eq]
        exact ⟨w.1, ih (j + 1) (by omega) w.2⟩

theorem tabWfFrom_erase (d : α) (i : Nat) (t : Tab α) (lo : Nat) (w : tabWfFrom d lo t = true) : tabWfFrom d lo (tabErase i t) = true := by
  induction t generalizing lo with
  | nil => rfl
  | cons e t ih =>
    obtain ⟨j, x⟩ := e
    simp only [tabWfFrom, Bool.and_eq_true, decide_eq_true_eq] at w
    simp only [tabErase]
    split
    · exact ih lo (tabWfFrom_mono d (by omega) t w.2)
    · simp only [tabWfFrom, Bool.and_eq_true, decide_eq_true_eq]
      exact ⟨w.1, ih _ w.2⟩

theorem tabWfFrom_filter (d : α) (p : Nat × α → Bool) (t : Tab α) (lo : Nat) (w : tabWfFrom d lo t = true) : tabWfFrom d lo (t.filter p) = true := by
  induction t generalizing lo with
  | nil => rfl
  | cons e t ih =>
    obtain ⟨j, x⟩ := e
    simp only [tabWfFrom, Bool.and_eq_true, decide_eq_true_eq] at w
    simp only [List.filter]
    split
    · simp only [tabWfFrom, Bool.and_eq_true, decide_eq_true_eq]
      exact ⟨w.1, ih _ w.2⟩
    · exact ih lo (tabWfFrom_mono d (by omega) t w.2)

/-- A write keeps the canonical form. -/
theorem tabWf_tabSet (d : α) (t : Tab α) (i : Nat) (v : α) (w : tabWf d t = true) : tabWf d (tabSet d t i v) = true := by
  unfold tabSet
  split
  · exact tabWfFrom_erase d i t 0 w
  · exact tabWfFrom_insert d v i ‹_› t 0 (Nat.zero_le _) w

theorem tabWf_tabUpd (d : α) (t : Tab α) (i : Nat) (f : α → α) (w : tabWf d t = true) : tabWf d (tabUpd d t i f) = true := tabWf_tabSet d t i _ w

theorem tabWf_tabSetMany (d : α) (vs : List α) (t : Tab α) (i : Nat) (w : tabWf d t = true) : tabWf d (tabSetMany d t i vs) = true := by
  induction vs generalizing t i with
  | nil => exact w
  | cons v vs ih => exact ih _ _ (tabWf_tabSet d t i v w)

theorem tabWf_tabFilter (d : α) (p : Nat → α → Bool) (t : Tab α) (w : tabWf d t = true) : tabWf d (tabFilter p t) = true :=
  tabWfFrom_filter d _ t 0 w

/-- Reading after a write of several keys. -/
theorem tabGet_tabSetMany (d : α) (vs : List α) (t : Tab α) (i k : Nat) :
    tabGet d (tabSetMany d t i vs) k = if h : i ≤ k ∧ k < i + vs.length then vs[k - i] else tabGet d t k := by
  induction vs generalizing t i with
  | nil =>
    have : ¬ (i ≤ k ∧ k < i + ([] : List α).length) := by simp
    rw [dif_neg this]; rfl
  | cons v vs ih =>
    simp only [tabSetMany, ih, List.length_cons]
    by_cases hk : k = i
    · subst hk
      rw [dif_neg (by omega), dif_pos (by omega)]
      simp
    · by_cases h : i + 1 ≤ k ∧ k < i + 1 + vs.length
      · rw [dif_pos h, dif_pos (by omega)]
        have : k - i = (k - (i + 1)) + 1 := by omega
        simp [this]
      · rw [dif_neg h, dif_neg (by omega), tabGet_tabSet_other d t v hk]

/-- A key below every listed one reads the default. -/
theorem tabGet_lt (d : α) (t : Tab α) (lo k : Nat) (w : tabWfFrom d lo t = true) (h : k < lo) : tabGet d t k = d := by
  induction t generalizing lo with
  | nil => rfl
  | cons e t ih =>
    obtain ⟨j, x⟩ := e
    simp only [tabWfFrom, Bool.and_eq_true, decide_eq_true_eq] at w
    have : k ≠ j := by omega
    simp only [tabGet, if_neg this]
    exact ih (j + 1) w.2 (by omega)

end Sys2Proof.Machine
end

