-- ==== Sys2Proof/Laws/State.lean ====
section
/-!
SUPPORT. What each update of the package leaves: one lemma per operation and field, and what a unit reads after an update of one.
-/
set_option linter.unusedVariables false
set_option linter.style.nameCheck false

namespace Sys2Proof.Machine

/-! ### A unit after an update of one -/

@[simp] theorem hartOf_updHart_same (d : Dev) (n : Nat) (f : Hart → Hart) : hartOf (updHart d n f) n = f (hartOf d n) := tabGet_tabUpd_same ..
theorem hartOf_updHart_other (d : Dev) {n k : Nat} (f : Hart → Hart) (h : k ≠ n) : hartOf (updHart d n f) k = hartOf d k := tabGet_tabUpd_other _ _ _ h
@[simp] theorem linkOf_updLink_same (d : Dev) (n : Nat) (f : Link → Link) : linkOf (updLink d n f) n = f (linkOf d n) := tabGet_tabUpd_same ..
theorem linkOf_updLink_other (d : Dev) {n k : Nat} (f : Link → Link) (h : k ≠ n) : linkOf (updLink d n f) k = linkOf d k := tabGet_tabUpd_other _ _ _ h
@[simp] theorem dieOf_updDie_same (d : Dev) (n : Nat) (f : Die → Die) : dieOf (updDie d n f) n = f (dieOf d n) := tabGet_tabUpd_same ..
theorem dieOf_updDie_other (d : Dev) {n k : Nat} (f : Die → Die) (h : k ≠ n) : dieOf (updDie d n f) k = dieOf d k := tabGet_tabUpd_other _ _ _ h
@[simp] theorem sliceOf__updSlice_same (d : Dev) (n : Nat) (f : SliceSt → SliceSt) : sliceOf_ (updSlice d n f) n = f (sliceOf_ d n) := tabGet_tabUpd_same ..
theorem sliceOf__updSlice_other (d : Dev) {n k : Nat} (f : SliceSt → SliceSt) (h : k ≠ n) : sliceOf_ (updSlice d n f) k = sliceOf_ d k := tabGet_tabUpd_other _ _ _ h
@[simp] theorem mscOf_updMsc_same (d : Dev) (n : Nat) (f : MscSt → MscSt) : mscOf (updMsc d n f) n = f (mscOf d n) := tabGet_tabUpd_same ..
theorem mscOf_updMsc_other (d : Dev) {n k : Nat} (f : MscSt → MscSt) (h : k ≠ n) : mscOf (updMsc d n f) k = mscOf d k := tabGet_tabUpd_other _ _ _ h
@[simp] theorem chanOf_updChan_same (d : Dev) (n : Nat) (f : ChanSt → ChanSt) : chanOf (updChan d n f) n = f (chanOf d n) := tabGet_tabUpd_same ..
theorem chanOf_updChan_other (d : Dev) {n k : Nat} (f : ChanSt → ChanSt) (h : k ≠ n) : chanOf (updChan d n f) k = chanOf d k := tabGet_tabUpd_other _ _ _ h
@[simp] theorem subOf_updSub_same (d : Dev) (n : Nat) (f : SubSt → SubSt) : subOf (updSub d n f) n = f (subOf d n) := tabGet_tabUpd_same ..
theorem subOf_updSub_other (d : Dev) {n k : Nat} (f : SubSt → SubSt) (h : k ≠ n) : subOf (updSub d n f) k = subOf d k := tabGet_tabUpd_other _ _ _ h
@[simp] theorem siteOf_updSite_same (d : Dev) (n : Nat) (f : SiteSt → SiteSt) : siteOf (updSite d n f) n = f (siteOf d n) := tabGet_tabUpd_same ..
theorem siteOf_updSite_other (d : Dev) {n k : Nat} (f : SiteSt → SiteSt) (h : k ≠ n) : siteOf (updSite d n f) k = siteOf d k := tabGet_tabUpd_other _ _ _ h
@[simp] theorem enclOf_updEncl_same (d : Dev) (n : Nat) (f : Enclave → Enclave) : enclOf (updEncl d n f) n = f (enclOf d n) := tabGet_tabUpd_same ..
theorem enclOf_updEncl_other (d : Dev) {n k : Nat} (f : Enclave → Enclave) (h : k ≠ n) : enclOf (updEncl d n f) k = enclOf d k := tabGet_tabUpd_other _ _ _ h
@[simp] theorem benchOf_updBench_same (d : Dev) (n : Nat) (f : BenchSt → BenchSt) : benchOf (updBench d n f) n = f (benchOf d n) := tabGet_tabUpd_same ..
theorem benchOf_updBench_other (d : Dev) {n k : Nat} (f : BenchSt → BenchSt) (h : k ≠ n) : benchOf (updBench d n f) k = benchOf d k := tabGet_tabUpd_other _ _ _ h
@[simp] theorem cmdOf_updCmd_same (d : Dev) (n : Nat) (f : CmdSlot → CmdSlot) : cmdOf (updCmd d n f) n = f (cmdOf d n) := tabGet_tabUpd_same ..
theorem cmdOf_updCmd_other (d : Dev) {n k : Nat} (f : CmdSlot → CmdSlot) (h : k ≠ n) : cmdOf (updCmd d n f) k = cmdOf d k := tabGet_tabUpd_other _ _ _ h
@[simp] theorem takeOf_updTake_same (d : Dev) (n : Nat) (f : Takeover → Takeover) : takeOf (updTake d n f) n = f (takeOf d n) := tabGet_tabUpd_same ..
theorem takeOf_updTake_other (d : Dev) {n k : Nat} (f : Takeover → Takeover) (h : k ≠ n) : takeOf (updTake d n f) k = takeOf d k := tabGet_tabUpd_other _ _ _ h
@[simp] theorem acctOf_updAcct_same (d : Dev) (n : Nat) (f : Acct → Acct) : acctOf (updAcct d n f) n = f (acctOf d n) := tabGet_tabUpd_same ..
theorem acctOf_updAcct_other (d : Dev) {n k : Nat} (f : Acct → Acct) (h : k ≠ n) : acctOf (updAcct d n f) k = acctOf d k := tabGet_tabUpd_other _ _ _ h

/-! ### Fields -/

theorem with_benches_out (d : Dev) (v : Tab BenchSt) : ({ d with benches := v } : Dev).out = d.out := rfl
theorem with_benches_freeCtr (d : Dev) (v : Tab BenchSt) : ({ d with benches := v } : Dev).freeCtr = d.freeCtr := rfl
theorem with_benches_now (d : Dev) (v : Tab BenchSt) : ({ d with benches := v } : Dev).now = d.now := rfl
theorem with_benches_pins (d : Dev) (v : Tab BenchSt) : ({ d with benches := v } : Dev).pins = d.pins := rfl
theorem with_benches_fuses (d : Dev) (v : Tab BenchSt) : ({ d with benches := v } : Dev).fuses = d.fuses := rfl
theorem with_benches_boot (d : Dev) (v : Tab BenchSt) : ({ d with benches := v } : Dev).boot = d.boot := rfl
theorem with_benches_list (d : Dev) (v : Tab BenchSt) : ({ d with benches := v } : Dev).list = d.list := rfl
theorem with_benches_kerf (d : Dev) (v : Tab BenchSt) : ({ d with benches := v } : Dev).kerf = d.kerf := rfl
theorem with_benches_harts (d : Dev) (v : Tab BenchSt) : ({ d with benches := v } : Dev).harts = d.harts := rfl
theorem with_benches_links (d : Dev) (v : Tab BenchSt) : ({ d with benches := v } : Dev).links = d.links := rfl
theorem with_benches_jig (d : Dev) (v : Tab BenchSt) : ({ d with benches := v } : Dev).jig = d.jig := rfl
theorem with_benches_holdover (d : Dev) (v : Tab BenchSt) : ({ d with benches := v } : Dev).holdover = d.holdover := rfl
theorem with_benches_sites (d : Dev) (v : Tab BenchSt) : ({ d with benches := v } : Dev).sites = d.sites := rfl
theorem with_benches_dies (d : Dev) (v : Tab BenchSt) : ({ d with benches := v } : Dev).dies = d.dies := rfl
theorem with_benches_slices (d : Dev) (v : Tab BenchSt) : ({ d with benches := v } : Dev).slices = d.slices := rfl
theorem with_benches_flight (d : Dev) (v : Tab BenchSt) : ({ d with benches := v } : Dev).flight = d.flight := rfl
theorem with_benches_mem (d : Dev) (v : Tab BenchSt) : ({ d with benches := v } : Dev).mem = d.mem := rfl
theorem with_benches_memGen (d : Dev) (v : Tab BenchSt) : ({ d with benches := v } : Dev).memGen = d.memGen := rfl
theorem with_benches_poison (d : Dev) (v : Tab BenchSt) : ({ d with benches := v } : Dev).poison = d.poison := rfl
theorem with_benches_msc (d : Dev) (v : Tab BenchSt) : ({ d with benches := v } : Dev).msc = d.msc := rfl
theorem with_benches_mscs (d : Dev) (v : Tab BenchSt) : ({ d with benches := v } : Dev).mscs = d.mscs := rfl
theorem with_benches_maint (d : Dev) (v : Tab BenchSt) : ({ d with benches := v } : Dev).maint = d.maint := rfl
theorem with_benches_chans (d : Dev) (v : Tab BenchSt) : ({ d with benches := v } : Dev).chans = d.chans := rfl
theorem with_benches_subs (d : Dev) (v : Tab BenchSt) : ({ d with benches := v } : Dev).subs = d.subs := rfl
theorem with_benches_cxlState (d : Dev) (v : Tab BenchSt) : ({ d with benches := v } : Dev).cxlState = d.cxlState := rfl
theorem with_benches_cxlWait (d : Dev) (v : Tab BenchSt) : ({ d with benches := v } : Dev).cxlWait = d.cxlWait := rfl
theorem with_benches_obs (d : Dev) (v : Tab BenchSt) : ({ d with benches := v } : Dev).obs = d.obs := rfl
theorem with_benches_mirror (d : Dev) (v : Tab BenchSt) : ({ d with benches := v } : Dev).mirror = d.mirror := rfl
theorem with_benches_takeover (d : Dev) (v : Tab BenchSt) : ({ d with benches := v } : Dev).takeover = d.takeover := rfl
theorem with_benches_pot (d : Dev) (v : Tab BenchSt) : ({ d with benches := v } : Dev).pot = d.pot := rfl
theorem with_benches_encl (d : Dev) (v : Tab BenchSt) : ({ d with benches := v } : Dev).encl = d.encl := rfl
theorem with_benches_cmds (d : Dev) (v : Tab BenchSt) : ({ d with benches := v } : Dev).cmds = d.cmds := rfl
theorem with_benches_holds (d : Dev) (v : Tab BenchSt) : ({ d with benches := v } : Dev).holds = d.holds := rfl
theorem with_benches_holdUnits (d : Dev) (v : Tab BenchSt) : ({ d with benches := v } : Dev).holdUnits = d.holdUnits := rfl
theorem with_benches_reports (d : Dev) (v : Tab BenchSt) : ({ d with benches := v } : Dev).reports = d.reports := rfl
theorem with_benches_spad (d : Dev) (v : Tab BenchSt) : ({ d with benches := v } : Dev).spad = d.spad := rfl
theorem with_benches_fatal (d : Dev) (v : Tab BenchSt) : ({ d with benches := v } : Dev).fatal = d.fatal := rfl
theorem with_benches_ledger (d : Dev) (v : Tab BenchSt) : ({ d with benches := v } : Dev).ledger = d.ledger := rfl
theorem with_benches_iommu (d : Dev) (v : Tab BenchSt) : ({ d with benches := v } : Dev).iommu = d.iommu := rfl
theorem with_benches_gauge (d : Dev) (v : Tab BenchSt) : ({ d with benches := v } : Dev).gauge = d.gauge := rfl
theorem with_benches_seg (d : Dev) (v : Tab BenchSt) : ({ d with benches := v } : Dev).seg = d.seg := rfl
theorem with_benches_sync (d : Dev) (v : Tab BenchSt) : ({ d with benches := v } : Dev).sync = d.sync := rfl
theorem with_benches_rootPorts (d : Dev) (v : Tab BenchSt) : ({ d with benches := v } : Dev).rootPorts = d.rootPorts := rfl
theorem with_boot_out (d : Dev) (v : Boot) : ({ d with boot := v } : Dev).out = d.out := rfl
theorem with_boot_freeCtr (d : Dev) (v : Boot) : ({ d with boot := v } : Dev).freeCtr = d.freeCtr := rfl
theorem with_boot_now (d : Dev) (v : Boot) : ({ d with boot := v } : Dev).now = d.now := rfl
theorem with_boot_pins (d : Dev) (v : Boot) : ({ d with boot := v } : Dev).pins = d.pins := rfl
theorem with_boot_fuses (d : Dev) (v : Boot) : ({ d with boot := v } : Dev).fuses = d.fuses := rfl
theorem with_boot_list (d : Dev) (v : Boot) : ({ d with boot := v } : Dev).list = d.list := rfl
theorem with_boot_kerf (d : Dev) (v : Boot) : ({ d with boot := v } : Dev).kerf = d.kerf := rfl
theorem with_boot_harts (d : Dev) (v : Boot) : ({ d with boot := v } : Dev).harts = d.harts := rfl
theorem with_boot_links (d : Dev) (v : Boot) : ({ d with boot := v } : Dev).links = d.links := rfl
theorem with_boot_jig (d : Dev) (v : Boot) : ({ d with boot := v } : Dev).jig = d.jig := rfl
theorem with_boot_holdover (d : Dev) (v : Boot) : ({ d with boot := v } : Dev).holdover = d.holdover := rfl
theorem with_boot_sites (d : Dev) (v : Boot) : ({ d with boot := v } : Dev).sites = d.sites := rfl
theorem with_boot_dies (d : Dev) (v : Boot) : ({ d with boot := v } : Dev).dies = d.dies := rfl
theorem with_boot_slices (d : Dev) (v : Boot) : ({ d with boot := v } : Dev).slices = d.slices := rfl
theorem with_boot_flight (d : Dev) (v : Boot) : ({ d with boot := v } : Dev).flight = d.flight := rfl
theorem with_boot_mem (d : Dev) (v : Boot) : ({ d with boot := v } : Dev).mem = d.mem := rfl
theorem with_boot_memGen (d : Dev) (v : Boot) : ({ d with boot := v } : Dev).memGen = d.memGen := rfl
theorem with_boot_poison (d : Dev) (v : Boot) : ({ d with boot := v } : Dev).poison = d.poison := rfl
theorem with_boot_msc (d : Dev) (v : Boot) : ({ d with boot := v } : Dev).msc = d.msc := rfl
theorem with_boot_mscs (d : Dev) (v : Boot) : ({ d with boot := v } : Dev).mscs = d.mscs := rfl
theorem with_boot_maint (d : Dev) (v : Boot) : ({ d with boot := v } : Dev).maint = d.maint := rfl
theorem with_boot_chans (d : Dev) (v : Boot) : ({ d with boot := v } : Dev).chans = d.chans := rfl
theorem with_boot_subs (d : Dev) (v : Boot) : ({ d with boot := v } : Dev).subs = d.subs := rfl
theorem with_boot_cxlState (d : Dev) (v : Boot) : ({ d with boot := v } : Dev).cxlState = d.cxlState := rfl
theorem with_boot_cxlWait (d : Dev) (v : Boot) : ({ d with boot := v } : Dev).cxlWait = d.cxlWait := rfl
theorem with_boot_obs (d : Dev) (v : Boot) : ({ d with boot := v } : Dev).obs = d.obs := rfl
theorem with_boot_mirror (d : Dev) (v : Boot) : ({ d with boot := v } : Dev).mirror = d.mirror := rfl
theorem with_boot_takeover (d : Dev) (v : Boot) : ({ d with boot := v } : Dev).takeover = d.takeover := rfl
theorem with_boot_pot (d : Dev) (v : Boot) : ({ d with boot := v } : Dev).pot = d.pot := rfl
theorem with_boot_encl (d : Dev) (v : Boot) : ({ d with boot := v } : Dev).encl = d.encl := rfl
theorem with_boot_cmds (d : Dev) (v : Boot) : ({ d with boot := v } : Dev).cmds = d.cmds := rfl
theorem with_boot_holds (d : Dev) (v : Boot) : ({ d with boot := v } : Dev).holds = d.holds := rfl
theorem with_boot_holdUnits (d : Dev) (v : Boot) : ({ d with boot := v } : Dev).holdUnits = d.holdUnits := rfl
theorem with_boot_reports (d : Dev) (v : Boot) : ({ d with boot := v } : Dev).reports = d.reports := rfl
theorem with_boot_spad (d : Dev) (v : Boot) : ({ d with boot := v } : Dev).spad = d.spad := rfl
theorem with_boot_fatal (d : Dev) (v : Boot) : ({ d with boot := v } : Dev).fatal = d.fatal := rfl
theorem with_boot_benches (d : Dev) (v : Boot) : ({ d with boot := v } : Dev).benches = d.benches := rfl
theorem with_boot_ledger (d : Dev) (v : Boot) : ({ d with boot := v } : Dev).ledger = d.ledger := rfl
theorem with_boot_iommu (d : Dev) (v : Boot) : ({ d with boot := v } : Dev).iommu = d.iommu := rfl
theorem with_boot_gauge (d : Dev) (v : Boot) : ({ d with boot := v } : Dev).gauge = d.gauge := rfl
theorem with_boot_seg (d : Dev) (v : Boot) : ({ d with boot := v } : Dev).seg = d.seg := rfl
theorem with_boot_sync (d : Dev) (v : Boot) : ({ d with boot := v } : Dev).sync = d.sync := rfl
theorem with_boot_rootPorts (d : Dev) (v : Boot) : ({ d with boot := v } : Dev).rootPorts = d.rootPorts := rfl
theorem with_chans_out (d : Dev) (v : Tab ChanSt) : ({ d with chans := v } : Dev).out = d.out := rfl
theorem with_chans_freeCtr (d : Dev) (v : Tab ChanSt) : ({ d with chans := v } : Dev).freeCtr = d.freeCtr := rfl
theorem with_chans_now (d : Dev) (v : Tab ChanSt) : ({ d with chans := v } : Dev).now = d.now := rfl
theorem with_chans_pins (d : Dev) (v : Tab ChanSt) : ({ d with chans := v } : Dev).pins = d.pins := rfl
theorem with_chans_fuses (d : Dev) (v : Tab ChanSt) : ({ d with chans := v } : Dev).fuses = d.fuses := rfl
theorem with_chans_boot (d : Dev) (v : Tab ChanSt) : ({ d with chans := v } : Dev).boot = d.boot := rfl
theorem with_chans_list (d : Dev) (v : Tab ChanSt) : ({ d with chans := v } : Dev).list = d.list := rfl
theorem with_chans_kerf (d : Dev) (v : Tab ChanSt) : ({ d with chans := v } : Dev).kerf = d.kerf := rfl
theorem with_chans_harts (d : Dev) (v : Tab ChanSt) : ({ d with chans := v } : Dev).harts = d.harts := rfl
theorem with_chans_links (d : Dev) (v : Tab ChanSt) : ({ d with chans := v } : Dev).links = d.links := rfl
theorem with_chans_jig (d : Dev) (v : Tab ChanSt) : ({ d with chans := v } : Dev).jig = d.jig := rfl
theorem with_chans_holdover (d : Dev) (v : Tab ChanSt) : ({ d with chans := v } : Dev).holdover = d.holdover := rfl
theorem with_chans_sites (d : Dev) (v : Tab ChanSt) : ({ d with chans := v } : Dev).sites = d.sites := rfl
theorem with_chans_dies (d : Dev) (v : Tab ChanSt) : ({ d with chans := v } : Dev).dies = d.dies := rfl
theorem with_chans_slices (d : Dev) (v : Tab ChanSt) : ({ d with chans := v } : Dev).slices = d.slices := rfl
theorem with_chans_flight (d : Dev) (v : Tab ChanSt) : ({ d with chans := v } : Dev).flight = d.flight := rfl
theorem with_chans_mem (d : Dev) (v : Tab ChanSt) : ({ d with chans := v } : Dev).mem = d.mem := rfl
theorem with_chans_memGen (d : Dev) (v : Tab ChanSt) : ({ d with chans := v } : Dev).memGen = d.memGen := rfl
theorem with_chans_poison (d : Dev) (v : Tab ChanSt) : ({ d with chans := v } : Dev).poison = d.poison := rfl
theorem with_chans_msc (d : Dev) (v : Tab ChanSt) : ({ d with chans := v } : Dev).msc = d.msc := rfl
theorem with_chans_mscs (d : Dev) (v : Tab ChanSt) : ({ d with chans := v } : Dev).mscs = d.mscs := rfl
theorem with_chans_maint (d : Dev) (v : Tab ChanSt) : ({ d with chans := v } : Dev).maint = d.maint := rfl
theorem with_chans_subs (d : Dev) (v : Tab ChanSt) : ({ d with chans := v } : Dev).subs = d.subs := rfl
theorem with_chans_cxlState (d : Dev) (v : Tab ChanSt) : ({ d with chans := v } : Dev).cxlState = d.cxlState := rfl
theorem with_chans_cxlWait (d : Dev) (v : Tab ChanSt) : ({ d with chans := v } : Dev).cxlWait = d.cxlWait := rfl
theorem with_chans_obs (d : Dev) (v : Tab ChanSt) : ({ d with chans := v } : Dev).obs = d.obs := rfl
theorem with_chans_mirror (d : Dev) (v : Tab ChanSt) : ({ d with chans := v } : Dev).mirror = d.mirror := rfl
theorem with_chans_takeover (d : Dev) (v : Tab ChanSt) : ({ d with chans := v } : Dev).takeover = d.takeover := rfl
theorem with_chans_pot (d : Dev) (v : Tab ChanSt) : ({ d with chans := v } : Dev).pot = d.pot := rfl
theorem with_chans_encl (d : Dev) (v : Tab ChanSt) : ({ d with chans := v } : Dev).encl = d.encl := rfl
theorem with_chans_cmds (d : Dev) (v : Tab ChanSt) : ({ d with chans := v } : Dev).cmds = d.cmds := rfl
theorem with_chans_holds (d : Dev) (v : Tab ChanSt) : ({ d with chans := v } : Dev).holds = d.holds := rfl
theorem with_chans_holdUnits (d : Dev) (v : Tab ChanSt) : ({ d with chans := v } : Dev).holdUnits = d.holdUnits := rfl
theorem with_chans_reports (d : Dev) (v : Tab ChanSt) : ({ d with chans := v } : Dev).reports = d.reports := rfl
theorem with_chans_spad (d : Dev) (v : Tab ChanSt) : ({ d with chans := v } : Dev).spad = d.spad := rfl
theorem with_chans_fatal (d : Dev) (v : Tab ChanSt) : ({ d with chans := v } : Dev).fatal = d.fatal := rfl
theorem with_chans_benches (d : Dev) (v : Tab ChanSt) : ({ d with chans := v } : Dev).benches = d.benches := rfl
theorem with_chans_ledger (d : Dev) (v : Tab ChanSt) : ({ d with chans := v } : Dev).ledger = d.ledger := rfl
theorem with_chans_iommu (d : Dev) (v : Tab ChanSt) : ({ d with chans := v } : Dev).iommu = d.iommu := rfl
theorem with_chans_gauge (d : Dev) (v : Tab ChanSt) : ({ d with chans := v } : Dev).gauge = d.gauge := rfl
theorem with_chans_seg (d : Dev) (v : Tab ChanSt) : ({ d with chans := v } : Dev).seg = d.seg := rfl
theorem with_chans_sync (d : Dev) (v : Tab ChanSt) : ({ d with chans := v } : Dev).sync = d.sync := rfl
theorem with_chans_rootPorts (d : Dev) (v : Tab ChanSt) : ({ d with chans := v } : Dev).rootPorts = d.rootPorts := rfl
theorem with_cmds_out (d : Dev) (v : Tab CmdSlot) : ({ d with cmds := v } : Dev).out = d.out := rfl
theorem with_cmds_freeCtr (d : Dev) (v : Tab CmdSlot) : ({ d with cmds := v } : Dev).freeCtr = d.freeCtr := rfl
theorem with_cmds_now (d : Dev) (v : Tab CmdSlot) : ({ d with cmds := v } : Dev).now = d.now := rfl
theorem with_cmds_pins (d : Dev) (v : Tab CmdSlot) : ({ d with cmds := v } : Dev).pins = d.pins := rfl
theorem with_cmds_fuses (d : Dev) (v : Tab CmdSlot) : ({ d with cmds := v } : Dev).fuses = d.fuses := rfl
theorem with_cmds_boot (d : Dev) (v : Tab CmdSlot) : ({ d with cmds := v } : Dev).boot = d.boot := rfl
theorem with_cmds_list (d : Dev) (v : Tab CmdSlot) : ({ d with cmds := v } : Dev).list = d.list := rfl
theorem with_cmds_kerf (d : Dev) (v : Tab CmdSlot) : ({ d with cmds := v } : Dev).kerf = d.kerf := rfl
theorem with_cmds_harts (d : Dev) (v : Tab CmdSlot) : ({ d with cmds := v } : Dev).harts = d.harts := rfl
theorem with_cmds_links (d : Dev) (v : Tab CmdSlot) : ({ d with cmds := v } : Dev).links = d.links := rfl
theorem with_cmds_jig (d : Dev) (v : Tab CmdSlot) : ({ d with cmds := v } : Dev).jig = d.jig := rfl
theorem with_cmds_holdover (d : Dev) (v : Tab CmdSlot) : ({ d with cmds := v } : Dev).holdover = d.holdover := rfl
theorem with_cmds_sites (d : Dev) (v : Tab CmdSlot) : ({ d with cmds := v } : Dev).sites = d.sites := rfl
theorem with_cmds_dies (d : Dev) (v : Tab CmdSlot) : ({ d with cmds := v } : Dev).dies = d.dies := rfl
theorem with_cmds_slices (d : Dev) (v : Tab CmdSlot) : ({ d with cmds := v } : Dev).slices = d.slices := rfl
theorem with_cmds_flight (d : Dev) (v : Tab CmdSlot) : ({ d with cmds := v } : Dev).flight = d.flight := rfl
theorem with_cmds_mem (d : Dev) (v : Tab CmdSlot) : ({ d with cmds := v } : Dev).mem = d.mem := rfl
theorem with_cmds_memGen (d : Dev) (v : Tab CmdSlot) : ({ d with cmds := v } : Dev).memGen = d.memGen := rfl
theorem with_cmds_poison (d : Dev) (v : Tab CmdSlot) : ({ d with cmds := v } : Dev).poison = d.poison := rfl
theorem with_cmds_msc (d : Dev) (v : Tab CmdSlot) : ({ d with cmds := v } : Dev).msc = d.msc := rfl
theorem with_cmds_mscs (d : Dev) (v : Tab CmdSlot) : ({ d with cmds := v } : Dev).mscs = d.mscs := rfl
theorem with_cmds_maint (d : Dev) (v : Tab CmdSlot) : ({ d with cmds := v } : Dev).maint = d.maint := rfl
theorem with_cmds_chans (d : Dev) (v : Tab CmdSlot) : ({ d with cmds := v } : Dev).chans = d.chans := rfl
theorem with_cmds_subs (d : Dev) (v : Tab CmdSlot) : ({ d with cmds := v } : Dev).subs = d.subs := rfl
theorem with_cmds_cxlState (d : Dev) (v : Tab CmdSlot) : ({ d with cmds := v } : Dev).cxlState = d.cxlState := rfl
theorem with_cmds_cxlWait (d : Dev) (v : Tab CmdSlot) : ({ d with cmds := v } : Dev).cxlWait = d.cxlWait := rfl
theorem with_cmds_obs (d : Dev) (v : Tab CmdSlot) : ({ d with cmds := v } : Dev).obs = d.obs := rfl
theorem with_cmds_mirror (d : Dev) (v : Tab CmdSlot) : ({ d with cmds := v } : Dev).mirror = d.mirror := rfl
theorem with_cmds_takeover (d : Dev) (v : Tab CmdSlot) : ({ d with cmds := v } : Dev).takeover = d.takeover := rfl
theorem with_cmds_pot (d : Dev) (v : Tab CmdSlot) : ({ d with cmds := v } : Dev).pot = d.pot := rfl
theorem with_cmds_encl (d : Dev) (v : Tab CmdSlot) : ({ d with cmds := v } : Dev).encl = d.encl := rfl
theorem with_cmds_holds (d : Dev) (v : Tab CmdSlot) : ({ d with cmds := v } : Dev).holds = d.holds := rfl
theorem with_cmds_holdUnits (d : Dev) (v : Tab CmdSlot) : ({ d with cmds := v } : Dev).holdUnits = d.holdUnits := rfl
theorem with_cmds_reports (d : Dev) (v : Tab CmdSlot) : ({ d with cmds := v } : Dev).reports = d.reports := rfl
theorem with_cmds_spad (d : Dev) (v : Tab CmdSlot) : ({ d with cmds := v } : Dev).spad = d.spad := rfl
theorem with_cmds_fatal (d : Dev) (v : Tab CmdSlot) : ({ d with cmds := v } : Dev).fatal = d.fatal := rfl
theorem with_cmds_benches (d : Dev) (v : Tab CmdSlot) : ({ d with cmds := v } : Dev).benches = d.benches := rfl
theorem with_cmds_ledger (d : Dev) (v : Tab CmdSlot) : ({ d with cmds := v } : Dev).ledger = d.ledger := rfl
theorem with_cmds_iommu (d : Dev) (v : Tab CmdSlot) : ({ d with cmds := v } : Dev).iommu = d.iommu := rfl
theorem with_cmds_gauge (d : Dev) (v : Tab CmdSlot) : ({ d with cmds := v } : Dev).gauge = d.gauge := rfl
theorem with_cmds_seg (d : Dev) (v : Tab CmdSlot) : ({ d with cmds := v } : Dev).seg = d.seg := rfl
theorem with_cmds_sync (d : Dev) (v : Tab CmdSlot) : ({ d with cmds := v } : Dev).sync = d.sync := rfl
theorem with_cmds_rootPorts (d : Dev) (v : Tab CmdSlot) : ({ d with cmds := v } : Dev).rootPorts = d.rootPorts := rfl
theorem with_dies_out (d : Dev) (v : Tab Die) : ({ d with dies := v } : Dev).out = d.out := rfl
theorem with_dies_freeCtr (d : Dev) (v : Tab Die) : ({ d with dies := v } : Dev).freeCtr = d.freeCtr := rfl
theorem with_dies_now (d : Dev) (v : Tab Die) : ({ d with dies := v } : Dev).now = d.now := rfl
theorem with_dies_pins (d : Dev) (v : Tab Die) : ({ d with dies := v } : Dev).pins = d.pins := rfl
theorem with_dies_fuses (d : Dev) (v : Tab Die) : ({ d with dies := v } : Dev).fuses = d.fuses := rfl
theorem with_dies_boot (d : Dev) (v : Tab Die) : ({ d with dies := v } : Dev).boot = d.boot := rfl
theorem with_dies_list (d : Dev) (v : Tab Die) : ({ d with dies := v } : Dev).list = d.list := rfl
theorem with_dies_kerf (d : Dev) (v : Tab Die) : ({ d with dies := v } : Dev).kerf = d.kerf := rfl
theorem with_dies_harts (d : Dev) (v : Tab Die) : ({ d with dies := v } : Dev).harts = d.harts := rfl
theorem with_dies_links (d : Dev) (v : Tab Die) : ({ d with dies := v } : Dev).links = d.links := rfl
theorem with_dies_jig (d : Dev) (v : Tab Die) : ({ d with dies := v } : Dev).jig = d.jig := rfl
theorem with_dies_holdover (d : Dev) (v : Tab Die) : ({ d with dies := v } : Dev).holdover = d.holdover := rfl
theorem with_dies_sites (d : Dev) (v : Tab Die) : ({ d with dies := v } : Dev).sites = d.sites := rfl
theorem with_dies_slices (d : Dev) (v : Tab Die) : ({ d with dies := v } : Dev).slices = d.slices := rfl
theorem with_dies_flight (d : Dev) (v : Tab Die) : ({ d with dies := v } : Dev).flight = d.flight := rfl
theorem with_dies_mem (d : Dev) (v : Tab Die) : ({ d with dies := v } : Dev).mem = d.mem := rfl
theorem with_dies_memGen (d : Dev) (v : Tab Die) : ({ d with dies := v } : Dev).memGen = d.memGen := rfl
theorem with_dies_poison (d : Dev) (v : Tab Die) : ({ d with dies := v } : Dev).poison = d.poison := rfl
theorem with_dies_msc (d : Dev) (v : Tab Die) : ({ d with dies := v } : Dev).msc = d.msc := rfl
theorem with_dies_mscs (d : Dev) (v : Tab Die) : ({ d with dies := v } : Dev).mscs = d.mscs := rfl
theorem with_dies_maint (d : Dev) (v : Tab Die) : ({ d with dies := v } : Dev).maint = d.maint := rfl
theorem with_dies_chans (d : Dev) (v : Tab Die) : ({ d with dies := v } : Dev).chans = d.chans := rfl
theorem with_dies_subs (d : Dev) (v : Tab Die) : ({ d with dies := v } : Dev).subs = d.subs := rfl
theorem with_dies_cxlState (d : Dev) (v : Tab Die) : ({ d with dies := v } : Dev).cxlState = d.cxlState := rfl
theorem with_dies_cxlWait (d : Dev) (v : Tab Die) : ({ d with dies := v } : Dev).cxlWait = d.cxlWait := rfl
theorem with_dies_obs (d : Dev) (v : Tab Die) : ({ d with dies := v } : Dev).obs = d.obs := rfl
theorem with_dies_mirror (d : Dev) (v : Tab Die) : ({ d with dies := v } : Dev).mirror = d.mirror := rfl
theorem with_dies_takeover (d : Dev) (v : Tab Die) : ({ d with dies := v } : Dev).takeover = d.takeover := rfl
theorem with_dies_pot (d : Dev) (v : Tab Die) : ({ d with dies := v } : Dev).pot = d.pot := rfl
theorem with_dies_encl (d : Dev) (v : Tab Die) : ({ d with dies := v } : Dev).encl = d.encl := rfl
theorem with_dies_cmds (d : Dev) (v : Tab Die) : ({ d with dies := v } : Dev).cmds = d.cmds := rfl
theorem with_dies_holds (d : Dev) (v : Tab Die) : ({ d with dies := v } : Dev).holds = d.holds := rfl
theorem with_dies_holdUnits (d : Dev) (v : Tab Die) : ({ d with dies := v } : Dev).holdUnits = d.holdUnits := rfl
theorem with_dies_reports (d : Dev) (v : Tab Die) : ({ d with dies := v } : Dev).reports = d.reports := rfl
theorem with_dies_spad (d : Dev) (v : Tab Die) : ({ d with dies := v } : Dev).spad = d.spad := rfl
theorem with_dies_fatal (d : Dev) (v : Tab Die) : ({ d with dies := v } : Dev).fatal = d.fatal := rfl
theorem with_dies_benches (d : Dev) (v : Tab Die) : ({ d with dies := v } : Dev).benches = d.benches := rfl
theorem with_dies_ledger (d : Dev) (v : Tab Die) : ({ d with dies := v } : Dev).ledger = d.ledger := rfl
theorem with_dies_iommu (d : Dev) (v : Tab Die) : ({ d with dies := v } : Dev).iommu = d.iommu := rfl
theorem with_dies_gauge (d : Dev) (v : Tab Die) : ({ d with dies := v } : Dev).gauge = d.gauge := rfl
theorem with_dies_seg (d : Dev) (v : Tab Die) : ({ d with dies := v } : Dev).seg = d.seg := rfl
theorem with_dies_sync (d : Dev) (v : Tab Die) : ({ d with dies := v } : Dev).sync = d.sync := rfl
theorem with_dies_rootPorts (d : Dev) (v : Tab Die) : ({ d with dies := v } : Dev).rootPorts = d.rootPorts := rfl
theorem with_encl_out (d : Dev) (v : Tab Enclave) : ({ d with encl := v } : Dev).out = d.out := rfl
theorem with_encl_freeCtr (d : Dev) (v : Tab Enclave) : ({ d with encl := v } : Dev).freeCtr = d.freeCtr := rfl
theorem with_encl_now (d : Dev) (v : Tab Enclave) : ({ d with encl := v } : Dev).now = d.now := rfl
theorem with_encl_pins (d : Dev) (v : Tab Enclave) : ({ d with encl := v } : Dev).pins = d.pins := rfl
theorem with_encl_fuses (d : Dev) (v : Tab Enclave) : ({ d with encl := v } : Dev).fuses = d.fuses := rfl
theorem with_encl_boot (d : Dev) (v : Tab Enclave) : ({ d with encl := v } : Dev).boot = d.boot := rfl
theorem with_encl_list (d : Dev) (v : Tab Enclave) : ({ d with encl := v } : Dev).list = d.list := rfl
theorem with_encl_kerf (d : Dev) (v : Tab Enclave) : ({ d with encl := v } : Dev).kerf = d.kerf := rfl
theorem with_encl_harts (d : Dev) (v : Tab Enclave) : ({ d with encl := v } : Dev).harts = d.harts := rfl
theorem with_encl_links (d : Dev) (v : Tab Enclave) : ({ d with encl := v } : Dev).links = d.links := rfl
theorem with_encl_jig (d : Dev) (v : Tab Enclave) : ({ d with encl := v } : Dev).jig = d.jig := rfl
theorem with_encl_holdover (d : Dev) (v : Tab Enclave) : ({ d with encl := v } : Dev).holdover = d.holdover := rfl
theorem with_encl_sites (d : Dev) (v : Tab Enclave) : ({ d with encl := v } : Dev).sites = d.sites := rfl
theorem with_encl_dies (d : Dev) (v : Tab Enclave) : ({ d with encl := v } : Dev).dies = d.dies := rfl
theorem with_encl_slices (d : Dev) (v : Tab Enclave) : ({ d with encl := v } : Dev).slices = d.slices := rfl
theorem with_encl_flight (d : Dev) (v : Tab Enclave) : ({ d with encl := v } : Dev).flight = d.flight := rfl
theorem with_encl_mem (d : Dev) (v : Tab Enclave) : ({ d with encl := v } : Dev).mem = d.mem := rfl
theorem with_encl_memGen (d : Dev) (v : Tab Enclave) : ({ d with encl := v } : Dev).memGen = d.memGen := rfl
theorem with_encl_poison (d : Dev) (v : Tab Enclave) : ({ d with encl := v } : Dev).poison = d.poison := rfl
theorem with_encl_msc (d : Dev) (v : Tab Enclave) : ({ d with encl := v } : Dev).msc = d.msc := rfl
theorem with_encl_mscs (d : Dev) (v : Tab Enclave) : ({ d with encl := v } : Dev).mscs = d.mscs := rfl
theorem with_encl_maint (d : Dev) (v : Tab Enclave) : ({ d with encl := v } : Dev).maint = d.maint := rfl
theorem with_encl_chans (d : Dev) (v : Tab Enclave) : ({ d with encl := v } : Dev).chans = d.chans := rfl
theorem with_encl_subs (d : Dev) (v : Tab Enclave) : ({ d with encl := v } : Dev).subs = d.subs := rfl
theorem with_encl_cxlState (d : Dev) (v : Tab Enclave) : ({ d with encl := v } : Dev).cxlState = d.cxlState := rfl
theorem with_encl_cxlWait (d : Dev) (v : Tab Enclave) : ({ d with encl := v } : Dev).cxlWait = d.cxlWait := rfl
theorem with_encl_obs (d : Dev) (v : Tab Enclave) : ({ d with encl := v } : Dev).obs = d.obs := rfl
theorem with_encl_mirror (d : Dev) (v : Tab Enclave) : ({ d with encl := v } : Dev).mirror = d.mirror := rfl
theorem with_encl_takeover (d : Dev) (v : Tab Enclave) : ({ d with encl := v } : Dev).takeover = d.takeover := rfl
theorem with_encl_pot (d : Dev) (v : Tab Enclave) : ({ d with encl := v } : Dev).pot = d.pot := rfl
theorem with_encl_cmds (d : Dev) (v : Tab Enclave) : ({ d with encl := v } : Dev).cmds = d.cmds := rfl
theorem with_encl_holds (d : Dev) (v : Tab Enclave) : ({ d with encl := v } : Dev).holds = d.holds := rfl
theorem with_encl_holdUnits (d : Dev) (v : Tab Enclave) : ({ d with encl := v } : Dev).holdUnits = d.holdUnits := rfl
theorem with_encl_reports (d : Dev) (v : Tab Enclave) : ({ d with encl := v } : Dev).reports = d.reports := rfl
theorem with_encl_spad (d : Dev) (v : Tab Enclave) : ({ d with encl := v } : Dev).spad = d.spad := rfl
theorem with_encl_fatal (d : Dev) (v : Tab Enclave) : ({ d with encl := v } : Dev).fatal = d.fatal := rfl
theorem with_encl_benches (d : Dev) (v : Tab Enclave) : ({ d with encl := v } : Dev).benches = d.benches := rfl
theorem with_encl_ledger (d : Dev) (v : Tab Enclave) : ({ d with encl := v } : Dev).ledger = d.ledger := rfl
theorem with_encl_iommu (d : Dev) (v : Tab Enclave) : ({ d with encl := v } : Dev).iommu = d.iommu := rfl
theorem with_encl_gauge (d : Dev) (v : Tab Enclave) : ({ d with encl := v } : Dev).gauge = d.gauge := rfl
theorem with_encl_seg (d : Dev) (v : Tab Enclave) : ({ d with encl := v } : Dev).seg = d.seg := rfl
theorem with_encl_sync (d : Dev) (v : Tab Enclave) : ({ d with encl := v } : Dev).sync = d.sync := rfl
theorem with_encl_rootPorts (d : Dev) (v : Tab Enclave) : ({ d with encl := v } : Dev).rootPorts = d.rootPorts := rfl
theorem with_flight_out (d : Dev) (v : List FMsg) : ({ d with flight := v } : Dev).out = d.out := rfl
theorem with_flight_freeCtr (d : Dev) (v : List FMsg) : ({ d with flight := v } : Dev).freeCtr = d.freeCtr := rfl
theorem with_flight_now (d : Dev) (v : List FMsg) : ({ d with flight := v } : Dev).now = d.now := rfl
theorem with_flight_pins (d : Dev) (v : List FMsg) : ({ d with flight := v } : Dev).pins = d.pins := rfl
theorem with_flight_fuses (d : Dev) (v : List FMsg) : ({ d with flight := v } : Dev).fuses = d.fuses := rfl
theorem with_flight_boot (d : Dev) (v : List FMsg) : ({ d with flight := v } : Dev).boot = d.boot := rfl
theorem with_flight_list (d : Dev) (v : List FMsg) : ({ d with flight := v } : Dev).list = d.list := rfl
theorem with_flight_kerf (d : Dev) (v : List FMsg) : ({ d with flight := v } : Dev).kerf = d.kerf := rfl
theorem with_flight_harts (d : Dev) (v : List FMsg) : ({ d with flight := v } : Dev).harts = d.harts := rfl
theorem with_flight_links (d : Dev) (v : List FMsg) : ({ d with flight := v } : Dev).links = d.links := rfl
theorem with_flight_jig (d : Dev) (v : List FMsg) : ({ d with flight := v } : Dev).jig = d.jig := rfl
theorem with_flight_holdover (d : Dev) (v : List FMsg) : ({ d with flight := v } : Dev).holdover = d.holdover := rfl
theorem with_flight_sites (d : Dev) (v : List FMsg) : ({ d with flight := v } : Dev).sites = d.sites := rfl
theorem with_flight_dies (d : Dev) (v : List FMsg) : ({ d with flight := v } : Dev).dies = d.dies := rfl
theorem with_flight_slices (d : Dev) (v : List FMsg) : ({ d with flight := v } : Dev).slices = d.slices := rfl
theorem with_flight_mem (d : Dev) (v : List FMsg) : ({ d with flight := v } : Dev).mem = d.mem := rfl
theorem with_flight_memGen (d : Dev) (v : List FMsg) : ({ d with flight := v } : Dev).memGen = d.memGen := rfl
theorem with_flight_poison (d : Dev) (v : List FMsg) : ({ d with flight := v } : Dev).poison = d.poison := rfl
theorem with_flight_msc (d : Dev) (v : List FMsg) : ({ d with flight := v } : Dev).msc = d.msc := rfl
theorem with_flight_mscs (d : Dev) (v : List FMsg) : ({ d with flight := v } : Dev).mscs = d.mscs := rfl
theorem with_flight_maint (d : Dev) (v : List FMsg) : ({ d with flight := v } : Dev).maint = d.maint := rfl
theorem with_flight_chans (d : Dev) (v : List FMsg) : ({ d with flight := v } : Dev).chans = d.chans := rfl
theorem with_flight_subs (d : Dev) (v : List FMsg) : ({ d with flight := v } : Dev).subs = d.subs := rfl
theorem with_flight_cxlState (d : Dev) (v : List FMsg) : ({ d with flight := v } : Dev).cxlState = d.cxlState := rfl
theorem with_flight_cxlWait (d : Dev) (v : List FMsg) : ({ d with flight := v } : Dev).cxlWait = d.cxlWait := rfl
theorem with_flight_obs (d : Dev) (v : List FMsg) : ({ d with flight := v } : Dev).obs = d.obs := rfl
theorem with_flight_mirror (d : Dev) (v : List FMsg) : ({ d with flight := v } : Dev).mirror = d.mirror := rfl
theorem with_flight_takeover (d : Dev) (v : List FMsg) : ({ d with flight := v } : Dev).takeover = d.takeover := rfl
theorem with_flight_pot (d : Dev) (v : List FMsg) : ({ d with flight := v } : Dev).pot = d.pot := rfl
theorem with_flight_encl (d : Dev) (v : List FMsg) : ({ d with flight := v } : Dev).encl = d.encl := rfl
theorem with_flight_cmds (d : Dev) (v : List FMsg) : ({ d with flight := v } : Dev).cmds = d.cmds := rfl
theorem with_flight_holds (d : Dev) (v : List FMsg) : ({ d with flight := v } : Dev).holds = d.holds := rfl
theorem with_flight_holdUnits (d : Dev) (v : List FMsg) : ({ d with flight := v } : Dev).holdUnits = d.holdUnits := rfl
theorem with_flight_reports (d : Dev) (v : List FMsg) : ({ d with flight := v } : Dev).reports = d.reports := rfl
theorem with_flight_spad (d : Dev) (v : List FMsg) : ({ d with flight := v } : Dev).spad = d.spad := rfl
theorem with_flight_fatal (d : Dev) (v : List FMsg) : ({ d with flight := v } : Dev).fatal = d.fatal := rfl
theorem with_flight_benches (d : Dev) (v : List FMsg) : ({ d with flight := v } : Dev).benches = d.benches := rfl
theorem with_flight_ledger (d : Dev) (v : List FMsg) : ({ d with flight := v } : Dev).ledger = d.ledger := rfl
theorem with_flight_iommu (d : Dev) (v : List FMsg) : ({ d with flight := v } : Dev).iommu = d.iommu := rfl
theorem with_flight_gauge (d : Dev) (v : List FMsg) : ({ d with flight := v } : Dev).gauge = d.gauge := rfl
theorem with_flight_seg (d : Dev) (v : List FMsg) : ({ d with flight := v } : Dev).seg = d.seg := rfl
theorem with_flight_sync (d : Dev) (v : List FMsg) : ({ d with flight := v } : Dev).sync = d.sync := rfl
theorem with_flight_rootPorts (d : Dev) (v : List FMsg) : ({ d with flight := v } : Dev).rootPorts = d.rootPorts := rfl
theorem with_freeCtr_out (d : Dev) (v : Nat) : ({ d with freeCtr := v } : Dev).out = d.out := rfl
theorem with_freeCtr_now (d : Dev) (v : Nat) : ({ d with freeCtr := v } : Dev).now = d.now := rfl
theorem with_freeCtr_pins (d : Dev) (v : Nat) : ({ d with freeCtr := v } : Dev).pins = d.pins := rfl
theorem with_freeCtr_fuses (d : Dev) (v : Nat) : ({ d with freeCtr := v } : Dev).fuses = d.fuses := rfl
theorem with_freeCtr_boot (d : Dev) (v : Nat) : ({ d with freeCtr := v } : Dev).boot = d.boot := rfl
theorem with_freeCtr_list (d : Dev) (v : Nat) : ({ d with freeCtr := v } : Dev).list = d.list := rfl
theorem with_freeCtr_kerf (d : Dev) (v : Nat) : ({ d with freeCtr := v } : Dev).kerf = d.kerf := rfl
theorem with_freeCtr_harts (d : Dev) (v : Nat) : ({ d with freeCtr := v } : Dev).harts = d.harts := rfl
theorem with_freeCtr_links (d : Dev) (v : Nat) : ({ d with freeCtr := v } : Dev).links = d.links := rfl
theorem with_freeCtr_jig (d : Dev) (v : Nat) : ({ d with freeCtr := v } : Dev).jig = d.jig := rfl
theorem with_freeCtr_holdover (d : Dev) (v : Nat) : ({ d with freeCtr := v } : Dev).holdover = d.holdover := rfl
theorem with_freeCtr_sites (d : Dev) (v : Nat) : ({ d with freeCtr := v } : Dev).sites = d.sites := rfl
theorem with_freeCtr_dies (d : Dev) (v : Nat) : ({ d with freeCtr := v } : Dev).dies = d.dies := rfl
theorem with_freeCtr_slices (d : Dev) (v : Nat) : ({ d with freeCtr := v } : Dev).slices = d.slices := rfl
theorem with_freeCtr_flight (d : Dev) (v : Nat) : ({ d with freeCtr := v } : Dev).flight = d.flight := rfl
theorem with_freeCtr_mem (d : Dev) (v : Nat) : ({ d with freeCtr := v } : Dev).mem = d.mem := rfl
theorem with_freeCtr_memGen (d : Dev) (v : Nat) : ({ d with freeCtr := v } : Dev).memGen = d.memGen := rfl
theorem with_freeCtr_poison (d : Dev) (v : Nat) : ({ d with freeCtr := v } : Dev).poison = d.poison := rfl
theorem with_freeCtr_msc (d : Dev) (v : Nat) : ({ d with freeCtr := v } : Dev).msc = d.msc := rfl
theorem with_freeCtr_mscs (d : Dev) (v : Nat) : ({ d with freeCtr := v } : Dev).mscs = d.mscs := rfl
theorem with_freeCtr_maint (d : Dev) (v : Nat) : ({ d with freeCtr := v } : Dev).maint = d.maint := rfl
theorem with_freeCtr_chans (d : Dev) (v : Nat) : ({ d with freeCtr := v } : Dev).chans = d.chans := rfl
theorem with_freeCtr_subs (d : Dev) (v : Nat) : ({ d with freeCtr := v } : Dev).subs = d.subs := rfl
theorem with_freeCtr_cxlState (d : Dev) (v : Nat) : ({ d with freeCtr := v } : Dev).cxlState = d.cxlState := rfl
theorem with_freeCtr_cxlWait (d : Dev) (v : Nat) : ({ d with freeCtr := v } : Dev).cxlWait = d.cxlWait := rfl
theorem with_freeCtr_obs (d : Dev) (v : Nat) : ({ d with freeCtr := v } : Dev).obs = d.obs := rfl
theorem with_freeCtr_mirror (d : Dev) (v : Nat) : ({ d with freeCtr := v } : Dev).mirror = d.mirror := rfl
theorem with_freeCtr_takeover (d : Dev) (v : Nat) : ({ d with freeCtr := v } : Dev).takeover = d.takeover := rfl
theorem with_freeCtr_pot (d : Dev) (v : Nat) : ({ d with freeCtr := v } : Dev).pot = d.pot := rfl
theorem with_freeCtr_encl (d : Dev) (v : Nat) : ({ d with freeCtr := v } : Dev).encl = d.encl := rfl
theorem with_freeCtr_cmds (d : Dev) (v : Nat) : ({ d with freeCtr := v } : Dev).cmds = d.cmds := rfl
theorem with_freeCtr_holds (d : Dev) (v : Nat) : ({ d with freeCtr := v } : Dev).holds = d.holds := rfl
theorem with_freeCtr_holdUnits (d : Dev) (v : Nat) : ({ d with freeCtr := v } : Dev).holdUnits = d.holdUnits := rfl
theorem with_freeCtr_reports (d : Dev) (v : Nat) : ({ d with freeCtr := v } : Dev).reports = d.reports := rfl
theorem with_freeCtr_spad (d : Dev) (v : Nat) : ({ d with freeCtr := v } : Dev).spad = d.spad := rfl
theorem with_freeCtr_fatal (d : Dev) (v : Nat) : ({ d with freeCtr := v } : Dev).fatal = d.fatal := rfl
theorem with_freeCtr_benches (d : Dev) (v : Nat) : ({ d with freeCtr := v } : Dev).benches = d.benches := rfl
theorem with_freeCtr_ledger (d : Dev) (v : Nat) : ({ d with freeCtr := v } : Dev).ledger = d.ledger := rfl
theorem with_freeCtr_iommu (d : Dev) (v : Nat) : ({ d with freeCtr := v } : Dev).iommu = d.iommu := rfl
theorem with_freeCtr_gauge (d : Dev) (v : Nat) : ({ d with freeCtr := v } : Dev).gauge = d.gauge := rfl
theorem with_freeCtr_seg (d : Dev) (v : Nat) : ({ d with freeCtr := v } : Dev).seg = d.seg := rfl
theorem with_freeCtr_sync (d : Dev) (v : Nat) : ({ d with freeCtr := v } : Dev).sync = d.sync := rfl
theorem with_freeCtr_rootPorts (d : Dev) (v : Nat) : ({ d with freeCtr := v } : Dev).rootPorts = d.rootPorts := rfl
theorem with_gauge_out (d : Dev) (v : GaugeSt) : ({ d with gauge := v } : Dev).out = d.out := rfl
theorem with_gauge_freeCtr (d : Dev) (v : GaugeSt) : ({ d with gauge := v } : Dev).freeCtr = d.freeCtr := rfl
theorem with_gauge_now (d : Dev) (v : GaugeSt) : ({ d with gauge := v } : Dev).now = d.now := rfl
theorem with_gauge_pins (d : Dev) (v : GaugeSt) : ({ d with gauge := v } : Dev).pins = d.pins := rfl
theorem with_gauge_fuses (d : Dev) (v : GaugeSt) : ({ d with gauge := v } : Dev).fuses = d.fuses := rfl
theorem with_gauge_boot (d : Dev) (v : GaugeSt) : ({ d with gauge := v } : Dev).boot = d.boot := rfl
theorem with_gauge_list (d : Dev) (v : GaugeSt) : ({ d with gauge := v } : Dev).list = d.list := rfl
theorem with_gauge_kerf (d : Dev) (v : GaugeSt) : ({ d with gauge := v } : Dev).kerf = d.kerf := rfl
theorem with_gauge_harts (d : Dev) (v : GaugeSt) : ({ d with gauge := v } : Dev).harts = d.harts := rfl
theorem with_gauge_links (d : Dev) (v : GaugeSt) : ({ d with gauge := v } : Dev).links = d.links := rfl
theorem with_gauge_jig (d : Dev) (v : GaugeSt) : ({ d with gauge := v } : Dev).jig = d.jig := rfl
theorem with_gauge_holdover (d : Dev) (v : GaugeSt) : ({ d with gauge := v } : Dev).holdover = d.holdover := rfl
theorem with_gauge_sites (d : Dev) (v : GaugeSt) : ({ d with gauge := v } : Dev).sites = d.sites := rfl
theorem with_gauge_dies (d : Dev) (v : GaugeSt) : ({ d with gauge := v } : Dev).dies = d.dies := rfl
theorem with_gauge_slices (d : Dev) (v : GaugeSt) : ({ d with gauge := v } : Dev).slices = d.slices := rfl
theorem with_gauge_flight (d : Dev) (v : GaugeSt) : ({ d with gauge := v } : Dev).flight = d.flight := rfl
theorem with_gauge_mem (d : Dev) (v : GaugeSt) : ({ d with gauge := v } : Dev).mem = d.mem := rfl
theorem with_gauge_memGen (d : Dev) (v : GaugeSt) : ({ d with gauge := v } : Dev).memGen = d.memGen := rfl
theorem with_gauge_poison (d : Dev) (v : GaugeSt) : ({ d with gauge := v } : Dev).poison = d.poison := rfl
theorem with_gauge_msc (d : Dev) (v : GaugeSt) : ({ d with gauge := v } : Dev).msc = d.msc := rfl
theorem with_gauge_mscs (d : Dev) (v : GaugeSt) : ({ d with gauge := v } : Dev).mscs = d.mscs := rfl
theorem with_gauge_maint (d : Dev) (v : GaugeSt) : ({ d with gauge := v } : Dev).maint = d.maint := rfl
theorem with_gauge_chans (d : Dev) (v : GaugeSt) : ({ d with gauge := v } : Dev).chans = d.chans := rfl
theorem with_gauge_subs (d : Dev) (v : GaugeSt) : ({ d with gauge := v } : Dev).subs = d.subs := rfl
theorem with_gauge_cxlState (d : Dev) (v : GaugeSt) : ({ d with gauge := v } : Dev).cxlState = d.cxlState := rfl
theorem with_gauge_cxlWait (d : Dev) (v : GaugeSt) : ({ d with gauge := v } : Dev).cxlWait = d.cxlWait := rfl
theorem with_gauge_obs (d : Dev) (v : GaugeSt) : ({ d with gauge := v } : Dev).obs = d.obs := rfl
theorem with_gauge_mirror (d : Dev) (v : GaugeSt) : ({ d with gauge := v } : Dev).mirror = d.mirror := rfl
theorem with_gauge_takeover (d : Dev) (v : GaugeSt) : ({ d with gauge := v } : Dev).takeover = d.takeover := rfl
theorem with_gauge_pot (d : Dev) (v : GaugeSt) : ({ d with gauge := v } : Dev).pot = d.pot := rfl
theorem with_gauge_encl (d : Dev) (v : GaugeSt) : ({ d with gauge := v } : Dev).encl = d.encl := rfl
theorem with_gauge_cmds (d : Dev) (v : GaugeSt) : ({ d with gauge := v } : Dev).cmds = d.cmds := rfl
theorem with_gauge_holds (d : Dev) (v : GaugeSt) : ({ d with gauge := v } : Dev).holds = d.holds := rfl
theorem with_gauge_holdUnits (d : Dev) (v : GaugeSt) : ({ d with gauge := v } : Dev).holdUnits = d.holdUnits := rfl
theorem with_gauge_reports (d : Dev) (v : GaugeSt) : ({ d with gauge := v } : Dev).reports = d.reports := rfl
theorem with_gauge_spad (d : Dev) (v : GaugeSt) : ({ d with gauge := v } : Dev).spad = d.spad := rfl
theorem with_gauge_fatal (d : Dev) (v : GaugeSt) : ({ d with gauge := v } : Dev).fatal = d.fatal := rfl
theorem with_gauge_benches (d : Dev) (v : GaugeSt) : ({ d with gauge := v } : Dev).benches = d.benches := rfl
theorem with_gauge_ledger (d : Dev) (v : GaugeSt) : ({ d with gauge := v } : Dev).ledger = d.ledger := rfl
theorem with_gauge_iommu (d : Dev) (v : GaugeSt) : ({ d with gauge := v } : Dev).iommu = d.iommu := rfl
theorem with_gauge_seg (d : Dev) (v : GaugeSt) : ({ d with gauge := v } : Dev).seg = d.seg := rfl
theorem with_gauge_sync (d : Dev) (v : GaugeSt) : ({ d with gauge := v } : Dev).sync = d.sync := rfl
theorem with_gauge_rootPorts (d : Dev) (v : GaugeSt) : ({ d with gauge := v } : Dev).rootPorts = d.rootPorts := rfl
theorem with_harts_out (d : Dev) (v : Tab Hart) : ({ d with harts := v } : Dev).out = d.out := rfl
theorem with_harts_freeCtr (d : Dev) (v : Tab Hart) : ({ d with harts := v } : Dev).freeCtr = d.freeCtr := rfl
theorem with_harts_now (d : Dev) (v : Tab Hart) : ({ d with harts := v } : Dev).now = d.now := rfl
theorem with_harts_pins (d : Dev) (v : Tab Hart) : ({ d with harts := v } : Dev).pins = d.pins := rfl
theorem with_harts_fuses (d : Dev) (v : Tab Hart) : ({ d with harts := v } : Dev).fuses = d.fuses := rfl
theorem with_harts_boot (d : Dev) (v : Tab Hart) : ({ d with harts := v } : Dev).boot = d.boot := rfl
theorem with_harts_list (d : Dev) (v : Tab Hart) : ({ d with harts := v } : Dev).list = d.list := rfl
theorem with_harts_kerf (d : Dev) (v : Tab Hart) : ({ d with harts := v } : Dev).kerf = d.kerf := rfl
theorem with_harts_links (d : Dev) (v : Tab Hart) : ({ d with harts := v } : Dev).links = d.links := rfl
theorem with_harts_jig (d : Dev) (v : Tab Hart) : ({ d with harts := v } : Dev).jig = d.jig := rfl
theorem with_harts_holdover (d : Dev) (v : Tab Hart) : ({ d with harts := v } : Dev).holdover = d.holdover := rfl
theorem with_harts_sites (d : Dev) (v : Tab Hart) : ({ d with harts := v } : Dev).sites = d.sites := rfl
theorem with_harts_dies (d : Dev) (v : Tab Hart) : ({ d with harts := v } : Dev).dies = d.dies := rfl
theorem with_harts_slices (d : Dev) (v : Tab Hart) : ({ d with harts := v } : Dev).slices = d.slices := rfl
theorem with_harts_flight (d : Dev) (v : Tab Hart) : ({ d with harts := v } : Dev).flight = d.flight := rfl
theorem with_harts_mem (d : Dev) (v : Tab Hart) : ({ d with harts := v } : Dev).mem = d.mem := rfl
theorem with_harts_memGen (d : Dev) (v : Tab Hart) : ({ d with harts := v } : Dev).memGen = d.memGen := rfl
theorem with_harts_poison (d : Dev) (v : Tab Hart) : ({ d with harts := v } : Dev).poison = d.poison := rfl
theorem with_harts_msc (d : Dev) (v : Tab Hart) : ({ d with harts := v } : Dev).msc = d.msc := rfl
theorem with_harts_mscs (d : Dev) (v : Tab Hart) : ({ d with harts := v } : Dev).mscs = d.mscs := rfl
theorem with_harts_maint (d : Dev) (v : Tab Hart) : ({ d with harts := v } : Dev).maint = d.maint := rfl
theorem with_harts_chans (d : Dev) (v : Tab Hart) : ({ d with harts := v } : Dev).chans = d.chans := rfl
theorem with_harts_subs (d : Dev) (v : Tab Hart) : ({ d with harts := v } : Dev).subs = d.subs := rfl
theorem with_harts_cxlState (d : Dev) (v : Tab Hart) : ({ d with harts := v } : Dev).cxlState = d.cxlState := rfl
theorem with_harts_cxlWait (d : Dev) (v : Tab Hart) : ({ d with harts := v } : Dev).cxlWait = d.cxlWait := rfl
theorem with_harts_obs (d : Dev) (v : Tab Hart) : ({ d with harts := v } : Dev).obs = d.obs := rfl
theorem with_harts_mirror (d : Dev) (v : Tab Hart) : ({ d with harts := v } : Dev).mirror = d.mirror := rfl
theorem with_harts_takeover (d : Dev) (v : Tab Hart) : ({ d with harts := v } : Dev).takeover = d.takeover := rfl
theorem with_harts_pot (d : Dev) (v : Tab Hart) : ({ d with harts := v } : Dev).pot = d.pot := rfl
theorem with_harts_encl (d : Dev) (v : Tab Hart) : ({ d with harts := v } : Dev).encl = d.encl := rfl
theorem with_harts_cmds (d : Dev) (v : Tab Hart) : ({ d with harts := v } : Dev).cmds = d.cmds := rfl
theorem with_harts_holds (d : Dev) (v : Tab Hart) : ({ d with harts := v } : Dev).holds = d.holds := rfl
theorem with_harts_holdUnits (d : Dev) (v : Tab Hart) : ({ d with harts := v } : Dev).holdUnits = d.holdUnits := rfl
theorem with_harts_reports (d : Dev) (v : Tab Hart) : ({ d with harts := v } : Dev).reports = d.reports := rfl
theorem with_harts_spad (d : Dev) (v : Tab Hart) : ({ d with harts := v } : Dev).spad = d.spad := rfl
theorem with_harts_fatal (d : Dev) (v : Tab Hart) : ({ d with harts := v } : Dev).fatal = d.fatal := rfl
theorem with_harts_benches (d : Dev) (v : Tab Hart) : ({ d with harts := v } : Dev).benches = d.benches := rfl
theorem with_harts_ledger (d : Dev) (v : Tab Hart) : ({ d with harts := v } : Dev).ledger = d.ledger := rfl
theorem with_harts_iommu (d : Dev) (v : Tab Hart) : ({ d with harts := v } : Dev).iommu = d.iommu := rfl
theorem with_harts_gauge (d : Dev) (v : Tab Hart) : ({ d with harts := v } : Dev).gauge = d.gauge := rfl
theorem with_harts_seg (d : Dev) (v : Tab Hart) : ({ d with harts := v } : Dev).seg = d.seg := rfl
theorem with_harts_sync (d : Dev) (v : Tab Hart) : ({ d with harts := v } : Dev).sync = d.sync := rfl
theorem with_harts_rootPorts (d : Dev) (v : Tab Hart) : ({ d with harts := v } : Dev).rootPorts = d.rootPorts := rfl
theorem with_ledger_out (d : Dev) (v : LedgerSt) : ({ d with ledger := v } : Dev).out = d.out := rfl
theorem with_ledger_freeCtr (d : Dev) (v : LedgerSt) : ({ d with ledger := v } : Dev).freeCtr = d.freeCtr := rfl
theorem with_ledger_now (d : Dev) (v : LedgerSt) : ({ d with ledger := v } : Dev).now = d.now := rfl
theorem with_ledger_pins (d : Dev) (v : LedgerSt) : ({ d with ledger := v } : Dev).pins = d.pins := rfl
theorem with_ledger_fuses (d : Dev) (v : LedgerSt) : ({ d with ledger := v } : Dev).fuses = d.fuses := rfl
theorem with_ledger_boot (d : Dev) (v : LedgerSt) : ({ d with ledger := v } : Dev).boot = d.boot := rfl
theorem with_ledger_list (d : Dev) (v : LedgerSt) : ({ d with ledger := v } : Dev).list = d.list := rfl
theorem with_ledger_kerf (d : Dev) (v : LedgerSt) : ({ d with ledger := v } : Dev).kerf = d.kerf := rfl
theorem with_ledger_harts (d : Dev) (v : LedgerSt) : ({ d with ledger := v } : Dev).harts = d.harts := rfl
theorem with_ledger_links (d : Dev) (v : LedgerSt) : ({ d with ledger := v } : Dev).links = d.links := rfl
theorem with_ledger_jig (d : Dev) (v : LedgerSt) : ({ d with ledger := v } : Dev).jig = d.jig := rfl
theorem with_ledger_holdover (d : Dev) (v : LedgerSt) : ({ d with ledger := v } : Dev).holdover = d.holdover := rfl
theorem with_ledger_sites (d : Dev) (v : LedgerSt) : ({ d with ledger := v } : Dev).sites = d.sites := rfl
theorem with_ledger_dies (d : Dev) (v : LedgerSt) : ({ d with ledger := v } : Dev).dies = d.dies := rfl
theorem with_ledger_slices (d : Dev) (v : LedgerSt) : ({ d with ledger := v } : Dev).slices = d.slices := rfl
theorem with_ledger_flight (d : Dev) (v : LedgerSt) : ({ d with ledger := v } : Dev).flight = d.flight := rfl
theorem with_ledger_mem (d : Dev) (v : LedgerSt) : ({ d with ledger := v } : Dev).mem = d.mem := rfl
theorem with_ledger_memGen (d : Dev) (v : LedgerSt) : ({ d with ledger := v } : Dev).memGen = d.memGen := rfl
theorem with_ledger_poison (d : Dev) (v : LedgerSt) : ({ d with ledger := v } : Dev).poison = d.poison := rfl
theorem with_ledger_msc (d : Dev) (v : LedgerSt) : ({ d with ledger := v } : Dev).msc = d.msc := rfl
theorem with_ledger_mscs (d : Dev) (v : LedgerSt) : ({ d with ledger := v } : Dev).mscs = d.mscs := rfl
theorem with_ledger_maint (d : Dev) (v : LedgerSt) : ({ d with ledger := v } : Dev).maint = d.maint := rfl
theorem with_ledger_chans (d : Dev) (v : LedgerSt) : ({ d with ledger := v } : Dev).chans = d.chans := rfl
theorem with_ledger_subs (d : Dev) (v : LedgerSt) : ({ d with ledger := v } : Dev).subs = d.subs := rfl
theorem with_ledger_cxlState (d : Dev) (v : LedgerSt) : ({ d with ledger := v } : Dev).cxlState = d.cxlState := rfl
theorem with_ledger_cxlWait (d : Dev) (v : LedgerSt) : ({ d with ledger := v } : Dev).cxlWait = d.cxlWait := rfl
theorem with_ledger_obs (d : Dev) (v : LedgerSt) : ({ d with ledger := v } : Dev).obs = d.obs := rfl
theorem with_ledger_mirror (d : Dev) (v : LedgerSt) : ({ d with ledger := v } : Dev).mirror = d.mirror := rfl
theorem with_ledger_takeover (d : Dev) (v : LedgerSt) : ({ d with ledger := v } : Dev).takeover = d.takeover := rfl
theorem with_ledger_pot (d : Dev) (v : LedgerSt) : ({ d with ledger := v } : Dev).pot = d.pot := rfl
theorem with_ledger_encl (d : Dev) (v : LedgerSt) : ({ d with ledger := v } : Dev).encl = d.encl := rfl
theorem with_ledger_cmds (d : Dev) (v : LedgerSt) : ({ d with ledger := v } : Dev).cmds = d.cmds := rfl
theorem with_ledger_holds (d : Dev) (v : LedgerSt) : ({ d with ledger := v } : Dev).holds = d.holds := rfl
theorem with_ledger_holdUnits (d : Dev) (v : LedgerSt) : ({ d with ledger := v } : Dev).holdUnits = d.holdUnits := rfl
theorem with_ledger_reports (d : Dev) (v : LedgerSt) : ({ d with ledger := v } : Dev).reports = d.reports := rfl
theorem with_ledger_spad (d : Dev) (v : LedgerSt) : ({ d with ledger := v } : Dev).spad = d.spad := rfl
theorem with_ledger_fatal (d : Dev) (v : LedgerSt) : ({ d with ledger := v } : Dev).fatal = d.fatal := rfl
theorem with_ledger_benches (d : Dev) (v : LedgerSt) : ({ d with ledger := v } : Dev).benches = d.benches := rfl
theorem with_ledger_iommu (d : Dev) (v : LedgerSt) : ({ d with ledger := v } : Dev).iommu = d.iommu := rfl
theorem with_ledger_gauge (d : Dev) (v : LedgerSt) : ({ d with ledger := v } : Dev).gauge = d.gauge := rfl
theorem with_ledger_seg (d : Dev) (v : LedgerSt) : ({ d with ledger := v } : Dev).seg = d.seg := rfl
theorem with_ledger_sync (d : Dev) (v : LedgerSt) : ({ d with ledger := v } : Dev).sync = d.sync := rfl
theorem with_ledger_rootPorts (d : Dev) (v : LedgerSt) : ({ d with ledger := v } : Dev).rootPorts = d.rootPorts := rfl
theorem with_links_out (d : Dev) (v : Tab Link) : ({ d with links := v } : Dev).out = d.out := rfl
theorem with_links_freeCtr (d : Dev) (v : Tab Link) : ({ d with links := v } : Dev).freeCtr = d.freeCtr := rfl
theorem with_links_now (d : Dev) (v : Tab Link) : ({ d with links := v } : Dev).now = d.now := rfl
theorem with_links_pins (d : Dev) (v : Tab Link) : ({ d with links := v } : Dev).pins = d.pins := rfl
theorem with_links_fuses (d : Dev) (v : Tab Link) : ({ d with links := v } : Dev).fuses = d.fuses := rfl
theorem with_links_boot (d : Dev) (v : Tab Link) : ({ d with links := v } : Dev).boot = d.boot := rfl
theorem with_links_list (d : Dev) (v : Tab Link) : ({ d with links := v } : Dev).list = d.list := rfl
theorem with_links_kerf (d : Dev) (v : Tab Link) : ({ d with links := v } : Dev).kerf = d.kerf := rfl
theorem with_links_harts (d : Dev) (v : Tab Link) : ({ d with links := v } : Dev).harts = d.harts := rfl
theorem with_links_jig (d : Dev) (v : Tab Link) : ({ d with links := v } : Dev).jig = d.jig := rfl
theorem with_links_holdover (d : Dev) (v : Tab Link) : ({ d with links := v } : Dev).holdover = d.holdover := rfl
theorem with_links_sites (d : Dev) (v : Tab Link) : ({ d with links := v } : Dev).sites = d.sites := rfl
theorem with_links_dies (d : Dev) (v : Tab Link) : ({ d with links := v } : Dev).dies = d.dies := rfl
theorem with_links_slices (d : Dev) (v : Tab Link) : ({ d with links := v } : Dev).slices = d.slices := rfl
theorem with_links_flight (d : Dev) (v : Tab Link) : ({ d with links := v } : Dev).flight = d.flight := rfl
theorem with_links_mem (d : Dev) (v : Tab Link) : ({ d with links := v } : Dev).mem = d.mem := rfl
theorem with_links_memGen (d : Dev) (v : Tab Link) : ({ d with links := v } : Dev).memGen = d.memGen := rfl
theorem with_links_poison (d : Dev) (v : Tab Link) : ({ d with links := v } : Dev).poison = d.poison := rfl
theorem with_links_msc (d : Dev) (v : Tab Link) : ({ d with links := v } : Dev).msc = d.msc := rfl
theorem with_links_mscs (d : Dev) (v : Tab Link) : ({ d with links := v } : Dev).mscs = d.mscs := rfl
theorem with_links_maint (d : Dev) (v : Tab Link) : ({ d with links := v } : Dev).maint = d.maint := rfl
theorem with_links_chans (d : Dev) (v : Tab Link) : ({ d with links := v } : Dev).chans = d.chans := rfl
theorem with_links_subs (d : Dev) (v : Tab Link) : ({ d with links := v } : Dev).subs = d.subs := rfl
theorem with_links_cxlState (d : Dev) (v : Tab Link) : ({ d with links := v } : Dev).cxlState = d.cxlState := rfl
theorem with_links_cxlWait (d : Dev) (v : Tab Link) : ({ d with links := v } : Dev).cxlWait = d.cxlWait := rfl
theorem with_links_obs (d : Dev) (v : Tab Link) : ({ d with links := v } : Dev).obs = d.obs := rfl
theorem with_links_mirror (d : Dev) (v : Tab Link) : ({ d with links := v } : Dev).mirror = d.mirror := rfl
theorem with_links_takeover (d : Dev) (v : Tab Link) : ({ d with links := v } : Dev).takeover = d.takeover := rfl
theorem with_links_pot (d : Dev) (v : Tab Link) : ({ d with links := v } : Dev).pot = d.pot := rfl
theorem with_links_encl (d : Dev) (v : Tab Link) : ({ d with links := v } : Dev).encl = d.encl := rfl
theorem with_links_cmds (d : Dev) (v : Tab Link) : ({ d with links := v } : Dev).cmds = d.cmds := rfl
theorem with_links_holds (d : Dev) (v : Tab Link) : ({ d with links := v } : Dev).holds = d.holds := rfl
theorem with_links_holdUnits (d : Dev) (v : Tab Link) : ({ d with links := v } : Dev).holdUnits = d.holdUnits := rfl
theorem with_links_reports (d : Dev) (v : Tab Link) : ({ d with links := v } : Dev).reports = d.reports := rfl
theorem with_links_spad (d : Dev) (v : Tab Link) : ({ d with links := v } : Dev).spad = d.spad := rfl
theorem with_links_fatal (d : Dev) (v : Tab Link) : ({ d with links := v } : Dev).fatal = d.fatal := rfl
theorem with_links_benches (d : Dev) (v : Tab Link) : ({ d with links := v } : Dev).benches = d.benches := rfl
theorem with_links_ledger (d : Dev) (v : Tab Link) : ({ d with links := v } : Dev).ledger = d.ledger := rfl
theorem with_links_iommu (d : Dev) (v : Tab Link) : ({ d with links := v } : Dev).iommu = d.iommu := rfl
theorem with_links_gauge (d : Dev) (v : Tab Link) : ({ d with links := v } : Dev).gauge = d.gauge := rfl
theorem with_links_seg (d : Dev) (v : Tab Link) : ({ d with links := v } : Dev).seg = d.seg := rfl
theorem with_links_sync (d : Dev) (v : Tab Link) : ({ d with links := v } : Dev).sync = d.sync := rfl
theorem with_links_rootPorts (d : Dev) (v : Tab Link) : ({ d with links := v } : Dev).rootPorts = d.rootPorts := rfl
theorem with_list_out (d : Dev) (v : ListSt) : ({ d with list := v } : Dev).out = d.out := rfl
theorem with_list_freeCtr (d : Dev) (v : ListSt) : ({ d with list := v } : Dev).freeCtr = d.freeCtr := rfl
theorem with_list_now (d : Dev) (v : ListSt) : ({ d with list := v } : Dev).now = d.now := rfl
theorem with_list_pins (d : Dev) (v : ListSt) : ({ d with list := v } : Dev).pins = d.pins := rfl
theorem with_list_fuses (d : Dev) (v : ListSt) : ({ d with list := v } : Dev).fuses = d.fuses := rfl
theorem with_list_boot (d : Dev) (v : ListSt) : ({ d with list := v } : Dev).boot = d.boot := rfl
theorem with_list_kerf (d : Dev) (v : ListSt) : ({ d with list := v } : Dev).kerf = d.kerf := rfl
theorem with_list_harts (d : Dev) (v : ListSt) : ({ d with list := v } : Dev).harts = d.harts := rfl
theorem with_list_links (d : Dev) (v : ListSt) : ({ d with list := v } : Dev).links = d.links := rfl
theorem with_list_jig (d : Dev) (v : ListSt) : ({ d with list := v } : Dev).jig = d.jig := rfl
theorem with_list_holdover (d : Dev) (v : ListSt) : ({ d with list := v } : Dev).holdover = d.holdover := rfl
theorem with_list_sites (d : Dev) (v : ListSt) : ({ d with list := v } : Dev).sites = d.sites := rfl
theorem with_list_dies (d : Dev) (v : ListSt) : ({ d with list := v } : Dev).dies = d.dies := rfl
theorem with_list_slices (d : Dev) (v : ListSt) : ({ d with list := v } : Dev).slices = d.slices := rfl
theorem with_list_flight (d : Dev) (v : ListSt) : ({ d with list := v } : Dev).flight = d.flight := rfl
theorem with_list_mem (d : Dev) (v : ListSt) : ({ d with list := v } : Dev).mem = d.mem := rfl
theorem with_list_memGen (d : Dev) (v : ListSt) : ({ d with list := v } : Dev).memGen = d.memGen := rfl
theorem with_list_poison (d : Dev) (v : ListSt) : ({ d with list := v } : Dev).poison = d.poison := rfl
theorem with_list_msc (d : Dev) (v : ListSt) : ({ d with list := v } : Dev).msc = d.msc := rfl
theorem with_list_mscs (d : Dev) (v : ListSt) : ({ d with list := v } : Dev).mscs = d.mscs := rfl
theorem with_list_maint (d : Dev) (v : ListSt) : ({ d with list := v } : Dev).maint = d.maint := rfl
theorem with_list_chans (d : Dev) (v : ListSt) : ({ d with list := v } : Dev).chans = d.chans := rfl
theorem with_list_subs (d : Dev) (v : ListSt) : ({ d with list := v } : Dev).subs = d.subs := rfl
theorem with_list_cxlState (d : Dev) (v : ListSt) : ({ d with list := v } : Dev).cxlState = d.cxlState := rfl
theorem with_list_cxlWait (d : Dev) (v : ListSt) : ({ d with list := v } : Dev).cxlWait = d.cxlWait := rfl
theorem with_list_obs (d : Dev) (v : ListSt) : ({ d with list := v } : Dev).obs = d.obs := rfl
theorem with_list_mirror (d : Dev) (v : ListSt) : ({ d with list := v } : Dev).mirror = d.mirror := rfl
theorem with_list_takeover (d : Dev) (v : ListSt) : ({ d with list := v } : Dev).takeover = d.takeover := rfl
theorem with_list_pot (d : Dev) (v : ListSt) : ({ d with list := v } : Dev).pot = d.pot := rfl
theorem with_list_encl (d : Dev) (v : ListSt) : ({ d with list := v } : Dev).encl = d.encl := rfl
theorem with_list_cmds (d : Dev) (v : ListSt) : ({ d with list := v } : Dev).cmds = d.cmds := rfl
theorem with_list_holds (d : Dev) (v : ListSt) : ({ d with list := v } : Dev).holds = d.holds := rfl
theorem with_list_holdUnits (d : Dev) (v : ListSt) : ({ d with list := v } : Dev).holdUnits = d.holdUnits := rfl
theorem with_list_reports (d : Dev) (v : ListSt) : ({ d with list := v } : Dev).reports = d.reports := rfl
theorem with_list_spad (d : Dev) (v : ListSt) : ({ d with list := v } : Dev).spad = d.spad := rfl
theorem with_list_fatal (d : Dev) (v : ListSt) : ({ d with list := v } : Dev).fatal = d.fatal := rfl
theorem with_list_benches (d : Dev) (v : ListSt) : ({ d with list := v } : Dev).benches = d.benches := rfl
theorem with_list_ledger (d : Dev) (v : ListSt) : ({ d with list := v } : Dev).ledger = d.ledger := rfl
theorem with_list_iommu (d : Dev) (v : ListSt) : ({ d with list := v } : Dev).iommu = d.iommu := rfl
theorem with_list_gauge (d : Dev) (v : ListSt) : ({ d with list := v } : Dev).gauge = d.gauge := rfl
theorem with_list_seg (d : Dev) (v : ListSt) : ({ d with list := v } : Dev).seg = d.seg := rfl
theorem with_list_sync (d : Dev) (v : ListSt) : ({ d with list := v } : Dev).sync = d.sync := rfl
theorem with_list_rootPorts (d : Dev) (v : ListSt) : ({ d with list := v } : Dev).rootPorts = d.rootPorts := rfl
theorem with_mirror_out (d : Dev) (v : MirrorSt) : ({ d with mirror := v } : Dev).out = d.out := rfl
theorem with_mirror_freeCtr (d : Dev) (v : MirrorSt) : ({ d with mirror := v } : Dev).freeCtr = d.freeCtr := rfl
theorem with_mirror_now (d : Dev) (v : MirrorSt) : ({ d with mirror := v } : Dev).now = d.now := rfl
theorem with_mirror_pins (d : Dev) (v : MirrorSt) : ({ d with mirror := v } : Dev).pins = d.pins := rfl
theorem with_mirror_fuses (d : Dev) (v : MirrorSt) : ({ d with mirror := v } : Dev).fuses = d.fuses := rfl
theorem with_mirror_boot (d : Dev) (v : MirrorSt) : ({ d with mirror := v } : Dev).boot = d.boot := rfl
theorem with_mirror_list (d : Dev) (v : MirrorSt) : ({ d with mirror := v } : Dev).list = d.list := rfl
theorem with_mirror_kerf (d : Dev) (v : MirrorSt) : ({ d with mirror := v } : Dev).kerf = d.kerf := rfl
theorem with_mirror_harts (d : Dev) (v : MirrorSt) : ({ d with mirror := v } : Dev).harts = d.harts := rfl
theorem with_mirror_links (d : Dev) (v : MirrorSt) : ({ d with mirror := v } : Dev).links = d.links := rfl
theorem with_mirror_jig (d : Dev) (v : MirrorSt) : ({ d with mirror := v } : Dev).jig = d.jig := rfl
theorem with_mirror_holdover (d : Dev) (v : MirrorSt) : ({ d with mirror := v } : Dev).holdover = d.holdover := rfl
theorem with_mirror_sites (d : Dev) (v : MirrorSt) : ({ d with mirror := v } : Dev).sites = d.sites := rfl
theorem with_mirror_dies (d : Dev) (v : MirrorSt) : ({ d with mirror := v } : Dev).dies = d.dies := rfl
theorem with_mirror_slices (d : Dev) (v : MirrorSt) : ({ d with mirror := v } : Dev).slices = d.slices := rfl
theorem with_mirror_flight (d : Dev) (v : MirrorSt) : ({ d with mirror := v } : Dev).flight = d.flight := rfl
theorem with_mirror_mem (d : Dev) (v : MirrorSt) : ({ d with mirror := v } : Dev).mem = d.mem := rfl
theorem with_mirror_memGen (d : Dev) (v : MirrorSt) : ({ d with mirror := v } : Dev).memGen = d.memGen := rfl
theorem with_mirror_poison (d : Dev) (v : MirrorSt) : ({ d with mirror := v } : Dev).poison = d.poison := rfl
theorem with_mirror_msc (d : Dev) (v : MirrorSt) : ({ d with mirror := v } : Dev).msc = d.msc := rfl
theorem with_mirror_mscs (d : Dev) (v : MirrorSt) : ({ d with mirror := v } : Dev).mscs = d.mscs := rfl
theorem with_mirror_maint (d : Dev) (v : MirrorSt) : ({ d with mirror := v } : Dev).maint = d.maint := rfl
theorem with_mirror_chans (d : Dev) (v : MirrorSt) : ({ d with mirror := v } : Dev).chans = d.chans := rfl
theorem with_mirror_subs (d : Dev) (v : MirrorSt) : ({ d with mirror := v } : Dev).subs = d.subs := rfl
theorem with_mirror_cxlState (d : Dev) (v : MirrorSt) : ({ d with mirror := v } : Dev).cxlState = d.cxlState := rfl
theorem with_mirror_cxlWait (d : Dev) (v : MirrorSt) : ({ d with mirror := v } : Dev).cxlWait = d.cxlWait := rfl
theorem with_mirror_obs (d : Dev) (v : MirrorSt) : ({ d with mirror := v } : Dev).obs = d.obs := rfl
theorem with_mirror_takeover (d : Dev) (v : MirrorSt) : ({ d with mirror := v } : Dev).takeover = d.takeover := rfl
theorem with_mirror_pot (d : Dev) (v : MirrorSt) : ({ d with mirror := v } : Dev).pot = d.pot := rfl
theorem with_mirror_encl (d : Dev) (v : MirrorSt) : ({ d with mirror := v } : Dev).encl = d.encl := rfl
theorem with_mirror_cmds (d : Dev) (v : MirrorSt) : ({ d with mirror := v } : Dev).cmds = d.cmds := rfl
theorem with_mirror_holds (d : Dev) (v : MirrorSt) : ({ d with mirror := v } : Dev).holds = d.holds := rfl
theorem with_mirror_holdUnits (d : Dev) (v : MirrorSt) : ({ d with mirror := v } : Dev).holdUnits = d.holdUnits := rfl
theorem with_mirror_reports (d : Dev) (v : MirrorSt) : ({ d with mirror := v } : Dev).reports = d.reports := rfl
theorem with_mirror_spad (d : Dev) (v : MirrorSt) : ({ d with mirror := v } : Dev).spad = d.spad := rfl
theorem with_mirror_fatal (d : Dev) (v : MirrorSt) : ({ d with mirror := v } : Dev).fatal = d.fatal := rfl
theorem with_mirror_benches (d : Dev) (v : MirrorSt) : ({ d with mirror := v } : Dev).benches = d.benches := rfl
theorem with_mirror_ledger (d : Dev) (v : MirrorSt) : ({ d with mirror := v } : Dev).ledger = d.ledger := rfl
theorem with_mirror_iommu (d : Dev) (v : MirrorSt) : ({ d with mirror := v } : Dev).iommu = d.iommu := rfl
theorem with_mirror_gauge (d : Dev) (v : MirrorSt) : ({ d with mirror := v } : Dev).gauge = d.gauge := rfl
theorem with_mirror_seg (d : Dev) (v : MirrorSt) : ({ d with mirror := v } : Dev).seg = d.seg := rfl
theorem with_mirror_sync (d : Dev) (v : MirrorSt) : ({ d with mirror := v } : Dev).sync = d.sync := rfl
theorem with_mirror_rootPorts (d : Dev) (v : MirrorSt) : ({ d with mirror := v } : Dev).rootPorts = d.rootPorts := rfl
theorem with_mscs_out (d : Dev) (v : Tab MscSt) : ({ d with mscs := v } : Dev).out = d.out := rfl
theorem with_mscs_freeCtr (d : Dev) (v : Tab MscSt) : ({ d with mscs := v } : Dev).freeCtr = d.freeCtr := rfl
theorem with_mscs_now (d : Dev) (v : Tab MscSt) : ({ d with mscs := v } : Dev).now = d.now := rfl
theorem with_mscs_pins (d : Dev) (v : Tab MscSt) : ({ d with mscs := v } : Dev).pins = d.pins := rfl
theorem with_mscs_fuses (d : Dev) (v : Tab MscSt) : ({ d with mscs := v } : Dev).fuses = d.fuses := rfl
theorem with_mscs_boot (d : Dev) (v : Tab MscSt) : ({ d with mscs := v } : Dev).boot = d.boot := rfl
theorem with_mscs_list (d : Dev) (v : Tab MscSt) : ({ d with mscs := v } : Dev).list = d.list := rfl
theorem with_mscs_kerf (d : Dev) (v : Tab MscSt) : ({ d with mscs := v } : Dev).kerf = d.kerf := rfl
theorem with_mscs_harts (d : Dev) (v : Tab MscSt) : ({ d with mscs := v } : Dev).harts = d.harts := rfl
theorem with_mscs_links (d : Dev) (v : Tab MscSt) : ({ d with mscs := v } : Dev).links = d.links := rfl
theorem with_mscs_jig (d : Dev) (v : Tab MscSt) : ({ d with mscs := v } : Dev).jig = d.jig := rfl
theorem with_mscs_holdover (d : Dev) (v : Tab MscSt) : ({ d with mscs := v } : Dev).holdover = d.holdover := rfl
theorem with_mscs_sites (d : Dev) (v : Tab MscSt) : ({ d with mscs := v } : Dev).sites = d.sites := rfl
theorem with_mscs_dies (d : Dev) (v : Tab MscSt) : ({ d with mscs := v } : Dev).dies = d.dies := rfl
theorem with_mscs_slices (d : Dev) (v : Tab MscSt) : ({ d with mscs := v } : Dev).slices = d.slices := rfl
theorem with_mscs_flight (d : Dev) (v : Tab MscSt) : ({ d with mscs := v } : Dev).flight = d.flight := rfl
theorem with_mscs_mem (d : Dev) (v : Tab MscSt) : ({ d with mscs := v } : Dev).mem = d.mem := rfl
theorem with_mscs_memGen (d : Dev) (v : Tab MscSt) : ({ d with mscs := v } : Dev).memGen = d.memGen := rfl
theorem with_mscs_poison (d : Dev) (v : Tab MscSt) : ({ d with mscs := v } : Dev).poison = d.poison := rfl
theorem with_mscs_msc (d : Dev) (v : Tab MscSt) : ({ d with mscs := v } : Dev).msc = d.msc := rfl
theorem with_mscs_maint (d : Dev) (v : Tab MscSt) : ({ d with mscs := v } : Dev).maint = d.maint := rfl
theorem with_mscs_chans (d : Dev) (v : Tab MscSt) : ({ d with mscs := v } : Dev).chans = d.chans := rfl
theorem with_mscs_subs (d : Dev) (v : Tab MscSt) : ({ d with mscs := v } : Dev).subs = d.subs := rfl
theorem with_mscs_cxlState (d : Dev) (v : Tab MscSt) : ({ d with mscs := v } : Dev).cxlState = d.cxlState := rfl
theorem with_mscs_cxlWait (d : Dev) (v : Tab MscSt) : ({ d with mscs := v } : Dev).cxlWait = d.cxlWait := rfl
theorem with_mscs_obs (d : Dev) (v : Tab MscSt) : ({ d with mscs := v } : Dev).obs = d.obs := rfl
theorem with_mscs_mirror (d : Dev) (v : Tab MscSt) : ({ d with mscs := v } : Dev).mirror = d.mirror := rfl
theorem with_mscs_takeover (d : Dev) (v : Tab MscSt) : ({ d with mscs := v } : Dev).takeover = d.takeover := rfl
theorem with_mscs_pot (d : Dev) (v : Tab MscSt) : ({ d with mscs := v } : Dev).pot = d.pot := rfl
theorem with_mscs_encl (d : Dev) (v : Tab MscSt) : ({ d with mscs := v } : Dev).encl = d.encl := rfl
theorem with_mscs_cmds (d : Dev) (v : Tab MscSt) : ({ d with mscs := v } : Dev).cmds = d.cmds := rfl
theorem with_mscs_holds (d : Dev) (v : Tab MscSt) : ({ d with mscs := v } : Dev).holds = d.holds := rfl
theorem with_mscs_holdUnits (d : Dev) (v : Tab MscSt) : ({ d with mscs := v } : Dev).holdUnits = d.holdUnits := rfl
theorem with_mscs_reports (d : Dev) (v : Tab MscSt) : ({ d with mscs := v } : Dev).reports = d.reports := rfl
theorem with_mscs_spad (d : Dev) (v : Tab MscSt) : ({ d with mscs := v } : Dev).spad = d.spad := rfl
theorem with_mscs_fatal (d : Dev) (v : Tab MscSt) : ({ d with mscs := v } : Dev).fatal = d.fatal := rfl
theorem with_mscs_benches (d : Dev) (v : Tab MscSt) : ({ d with mscs := v } : Dev).benches = d.benches := rfl
theorem with_mscs_ledger (d : Dev) (v : Tab MscSt) : ({ d with mscs := v } : Dev).ledger = d.ledger := rfl
theorem with_mscs_iommu (d : Dev) (v : Tab MscSt) : ({ d with mscs := v } : Dev).iommu = d.iommu := rfl
theorem with_mscs_gauge (d : Dev) (v : Tab MscSt) : ({ d with mscs := v } : Dev).gauge = d.gauge := rfl
theorem with_mscs_seg (d : Dev) (v : Tab MscSt) : ({ d with mscs := v } : Dev).seg = d.seg := rfl
theorem with_mscs_sync (d : Dev) (v : Tab MscSt) : ({ d with mscs := v } : Dev).sync = d.sync := rfl
theorem with_mscs_rootPorts (d : Dev) (v : Tab MscSt) : ({ d with mscs := v } : Dev).rootPorts = d.rootPorts := rfl
theorem with_obs_out (d : Dev) (v : ObsSt) : ({ d with obs := v } : Dev).out = d.out := rfl
theorem with_obs_freeCtr (d : Dev) (v : ObsSt) : ({ d with obs := v } : Dev).freeCtr = d.freeCtr := rfl
theorem with_obs_now (d : Dev) (v : ObsSt) : ({ d with obs := v } : Dev).now = d.now := rfl
theorem with_obs_pins (d : Dev) (v : ObsSt) : ({ d with obs := v } : Dev).pins = d.pins := rfl
theorem with_obs_fuses (d : Dev) (v : ObsSt) : ({ d with obs := v } : Dev).fuses = d.fuses := rfl
theorem with_obs_boot (d : Dev) (v : ObsSt) : ({ d with obs := v } : Dev).boot = d.boot := rfl
theorem with_obs_list (d : Dev) (v : ObsSt) : ({ d with obs := v } : Dev).list = d.list := rfl
theorem with_obs_kerf (d : Dev) (v : ObsSt) : ({ d with obs := v } : Dev).kerf = d.kerf := rfl
theorem with_obs_harts (d : Dev) (v : ObsSt) : ({ d with obs := v } : Dev).harts = d.harts := rfl
theorem with_obs_links (d : Dev) (v : ObsSt) : ({ d with obs := v } : Dev).links = d.links := rfl
theorem with_obs_jig (d : Dev) (v : ObsSt) : ({ d with obs := v } : Dev).jig = d.jig := rfl
theorem with_obs_holdover (d : Dev) (v : ObsSt) : ({ d with obs := v } : Dev).holdover = d.holdover := rfl
theorem with_obs_sites (d : Dev) (v : ObsSt) : ({ d with obs := v } : Dev).sites = d.sites := rfl
theorem with_obs_dies (d : Dev) (v : ObsSt) : ({ d with obs := v } : Dev).dies = d.dies := rfl
theorem with_obs_slices (d : Dev) (v : ObsSt) : ({ d with obs := v } : Dev).slices = d.slices := rfl
theorem with_obs_flight (d : Dev) (v : ObsSt) : ({ d with obs := v } : Dev).flight = d.flight := rfl
theorem with_obs_mem (d : Dev) (v : ObsSt) : ({ d with obs := v } : Dev).mem = d.mem := rfl
theorem with_obs_memGen (d : Dev) (v : ObsSt) : ({ d with obs := v } : Dev).memGen = d.memGen := rfl
theorem with_obs_poison (d : Dev) (v : ObsSt) : ({ d with obs := v } : Dev).poison = d.poison := rfl
theorem with_obs_msc (d : Dev) (v : ObsSt) : ({ d with obs := v } : Dev).msc = d.msc := rfl
theorem with_obs_mscs (d : Dev) (v : ObsSt) : ({ d with obs := v } : Dev).mscs = d.mscs := rfl
theorem with_obs_maint (d : Dev) (v : ObsSt) : ({ d with obs := v } : Dev).maint = d.maint := rfl
theorem with_obs_chans (d : Dev) (v : ObsSt) : ({ d with obs := v } : Dev).chans = d.chans := rfl
theorem with_obs_subs (d : Dev) (v : ObsSt) : ({ d with obs := v } : Dev).subs = d.subs := rfl
theorem with_obs_cxlState (d : Dev) (v : ObsSt) : ({ d with obs := v } : Dev).cxlState = d.cxlState := rfl
theorem with_obs_cxlWait (d : Dev) (v : ObsSt) : ({ d with obs := v } : Dev).cxlWait = d.cxlWait := rfl
theorem with_obs_mirror (d : Dev) (v : ObsSt) : ({ d with obs := v } : Dev).mirror = d.mirror := rfl
theorem with_obs_takeover (d : Dev) (v : ObsSt) : ({ d with obs := v } : Dev).takeover = d.takeover := rfl
theorem with_obs_pot (d : Dev) (v : ObsSt) : ({ d with obs := v } : Dev).pot = d.pot := rfl
theorem with_obs_encl (d : Dev) (v : ObsSt) : ({ d with obs := v } : Dev).encl = d.encl := rfl
theorem with_obs_cmds (d : Dev) (v : ObsSt) : ({ d with obs := v } : Dev).cmds = d.cmds := rfl
theorem with_obs_holds (d : Dev) (v : ObsSt) : ({ d with obs := v } : Dev).holds = d.holds := rfl
theorem with_obs_holdUnits (d : Dev) (v : ObsSt) : ({ d with obs := v } : Dev).holdUnits = d.holdUnits := rfl
theorem with_obs_reports (d : Dev) (v : ObsSt) : ({ d with obs := v } : Dev).reports = d.reports := rfl
theorem with_obs_spad (d : Dev) (v : ObsSt) : ({ d with obs := v } : Dev).spad = d.spad := rfl
theorem with_obs_fatal (d : Dev) (v : ObsSt) : ({ d with obs := v } : Dev).fatal = d.fatal := rfl
theorem with_obs_benches (d : Dev) (v : ObsSt) : ({ d with obs := v } : Dev).benches = d.benches := rfl
theorem with_obs_ledger (d : Dev) (v : ObsSt) : ({ d with obs := v } : Dev).ledger = d.ledger := rfl
theorem with_obs_iommu (d : Dev) (v : ObsSt) : ({ d with obs := v } : Dev).iommu = d.iommu := rfl
theorem with_obs_gauge (d : Dev) (v : ObsSt) : ({ d with obs := v } : Dev).gauge = d.gauge := rfl
theorem with_obs_seg (d : Dev) (v : ObsSt) : ({ d with obs := v } : Dev).seg = d.seg := rfl
theorem with_obs_sync (d : Dev) (v : ObsSt) : ({ d with obs := v } : Dev).sync = d.sync := rfl
theorem with_obs_rootPorts (d : Dev) (v : ObsSt) : ({ d with obs := v } : Dev).rootPorts = d.rootPorts := rfl
theorem with_out_freeCtr (d : Dev) (v : List Out) : ({ d with out := v } : Dev).freeCtr = d.freeCtr := rfl
theorem with_out_now (d : Dev) (v : List Out) : ({ d with out := v } : Dev).now = d.now := rfl
theorem with_out_pins (d : Dev) (v : List Out) : ({ d with out := v } : Dev).pins = d.pins := rfl
theorem with_out_fuses (d : Dev) (v : List Out) : ({ d with out := v } : Dev).fuses = d.fuses := rfl
theorem with_out_boot (d : Dev) (v : List Out) : ({ d with out := v } : Dev).boot = d.boot := rfl
theorem with_out_list (d : Dev) (v : List Out) : ({ d with out := v } : Dev).list = d.list := rfl
theorem with_out_kerf (d : Dev) (v : List Out) : ({ d with out := v } : Dev).kerf = d.kerf := rfl
theorem with_out_harts (d : Dev) (v : List Out) : ({ d with out := v } : Dev).harts = d.harts := rfl
theorem with_out_links (d : Dev) (v : List Out) : ({ d with out := v } : Dev).links = d.links := rfl
theorem with_out_jig (d : Dev) (v : List Out) : ({ d with out := v } : Dev).jig = d.jig := rfl
theorem with_out_holdover (d : Dev) (v : List Out) : ({ d with out := v } : Dev).holdover = d.holdover := rfl
theorem with_out_sites (d : Dev) (v : List Out) : ({ d with out := v } : Dev).sites = d.sites := rfl
theorem with_out_dies (d : Dev) (v : List Out) : ({ d with out := v } : Dev).dies = d.dies := rfl
theorem with_out_slices (d : Dev) (v : List Out) : ({ d with out := v } : Dev).slices = d.slices := rfl
theorem with_out_flight (d : Dev) (v : List Out) : ({ d with out := v } : Dev).flight = d.flight := rfl
theorem with_out_mem (d : Dev) (v : List Out) : ({ d with out := v } : Dev).mem = d.mem := rfl
theorem with_out_memGen (d : Dev) (v : List Out) : ({ d with out := v } : Dev).memGen = d.memGen := rfl
theorem with_out_poison (d : Dev) (v : List Out) : ({ d with out := v } : Dev).poison = d.poison := rfl
theorem with_out_msc (d : Dev) (v : List Out) : ({ d with out := v } : Dev).msc = d.msc := rfl
theorem with_out_mscs (d : Dev) (v : List Out) : ({ d with out := v } : Dev).mscs = d.mscs := rfl
theorem with_out_maint (d : Dev) (v : List Out) : ({ d with out := v } : Dev).maint = d.maint := rfl
theorem with_out_chans (d : Dev) (v : List Out) : ({ d with out := v } : Dev).chans = d.chans := rfl
theorem with_out_subs (d : Dev) (v : List Out) : ({ d with out := v } : Dev).subs = d.subs := rfl
theorem with_out_cxlState (d : Dev) (v : List Out) : ({ d with out := v } : Dev).cxlState = d.cxlState := rfl
theorem with_out_cxlWait (d : Dev) (v : List Out) : ({ d with out := v } : Dev).cxlWait = d.cxlWait := rfl
theorem with_out_obs (d : Dev) (v : List Out) : ({ d with out := v } : Dev).obs = d.obs := rfl
theorem with_out_mirror (d : Dev) (v : List Out) : ({ d with out := v } : Dev).mirror = d.mirror := rfl
theorem with_out_takeover (d : Dev) (v : List Out) : ({ d with out := v } : Dev).takeover = d.takeover := rfl
theorem with_out_pot (d : Dev) (v : List Out) : ({ d with out := v } : Dev).pot = d.pot := rfl
theorem with_out_encl (d : Dev) (v : List Out) : ({ d with out := v } : Dev).encl = d.encl := rfl
theorem with_out_cmds (d : Dev) (v : List Out) : ({ d with out := v } : Dev).cmds = d.cmds := rfl
theorem with_out_holds (d : Dev) (v : List Out) : ({ d with out := v } : Dev).holds = d.holds := rfl
theorem with_out_holdUnits (d : Dev) (v : List Out) : ({ d with out := v } : Dev).holdUnits = d.holdUnits := rfl
theorem with_out_reports (d : Dev) (v : List Out) : ({ d with out := v } : Dev).reports = d.reports := rfl
theorem with_out_spad (d : Dev) (v : List Out) : ({ d with out := v } : Dev).spad = d.spad := rfl
theorem with_out_fatal (d : Dev) (v : List Out) : ({ d with out := v } : Dev).fatal = d.fatal := rfl
theorem with_out_benches (d : Dev) (v : List Out) : ({ d with out := v } : Dev).benches = d.benches := rfl
theorem with_out_ledger (d : Dev) (v : List Out) : ({ d with out := v } : Dev).ledger = d.ledger := rfl
theorem with_out_iommu (d : Dev) (v : List Out) : ({ d with out := v } : Dev).iommu = d.iommu := rfl
theorem with_out_gauge (d : Dev) (v : List Out) : ({ d with out := v } : Dev).gauge = d.gauge := rfl
theorem with_out_seg (d : Dev) (v : List Out) : ({ d with out := v } : Dev).seg = d.seg := rfl
theorem with_out_sync (d : Dev) (v : List Out) : ({ d with out := v } : Dev).sync = d.sync := rfl
theorem with_out_rootPorts (d : Dev) (v : List Out) : ({ d with out := v } : Dev).rootPorts = d.rootPorts := rfl
theorem with_seg_out (d : Dev) (v : SegSt) : ({ d with seg := v } : Dev).out = d.out := rfl
theorem with_seg_freeCtr (d : Dev) (v : SegSt) : ({ d with seg := v } : Dev).freeCtr = d.freeCtr := rfl
theorem with_seg_now (d : Dev) (v : SegSt) : ({ d with seg := v } : Dev).now = d.now := rfl
theorem with_seg_pins (d : Dev) (v : SegSt) : ({ d with seg := v } : Dev).pins = d.pins := rfl
theorem with_seg_fuses (d : Dev) (v : SegSt) : ({ d with seg := v } : Dev).fuses = d.fuses := rfl
theorem with_seg_boot (d : Dev) (v : SegSt) : ({ d with seg := v } : Dev).boot = d.boot := rfl
theorem with_seg_list (d : Dev) (v : SegSt) : ({ d with seg := v } : Dev).list = d.list := rfl
theorem with_seg_kerf (d : Dev) (v : SegSt) : ({ d with seg := v } : Dev).kerf = d.kerf := rfl
theorem with_seg_harts (d : Dev) (v : SegSt) : ({ d with seg := v } : Dev).harts = d.harts := rfl
theorem with_seg_links (d : Dev) (v : SegSt) : ({ d with seg := v } : Dev).links = d.links := rfl
theorem with_seg_jig (d : Dev) (v : SegSt) : ({ d with seg := v } : Dev).jig = d.jig := rfl
theorem with_seg_holdover (d : Dev) (v : SegSt) : ({ d with seg := v } : Dev).holdover = d.holdover := rfl
theorem with_seg_sites (d : Dev) (v : SegSt) : ({ d with seg := v } : Dev).sites = d.sites := rfl
theorem with_seg_dies (d : Dev) (v : SegSt) : ({ d with seg := v } : Dev).dies = d.dies := rfl
theorem with_seg_slices (d : Dev) (v : SegSt) : ({ d with seg := v } : Dev).slices = d.slices := rfl
theorem with_seg_flight (d : Dev) (v : SegSt) : ({ d with seg := v } : Dev).flight = d.flight := rfl
theorem with_seg_mem (d : Dev) (v : SegSt) : ({ d with seg := v } : Dev).mem = d.mem := rfl
theorem with_seg_memGen (d : Dev) (v : SegSt) : ({ d with seg := v } : Dev).memGen = d.memGen := rfl
theorem with_seg_poison (d : Dev) (v : SegSt) : ({ d with seg := v } : Dev).poison = d.poison := rfl
theorem with_seg_msc (d : Dev) (v : SegSt) : ({ d with seg := v } : Dev).msc = d.msc := rfl
theorem with_seg_mscs (d : Dev) (v : SegSt) : ({ d with seg := v } : Dev).mscs = d.mscs := rfl
theorem with_seg_maint (d : Dev) (v : SegSt) : ({ d with seg := v } : Dev).maint = d.maint := rfl
theorem with_seg_chans (d : Dev) (v : SegSt) : ({ d with seg := v } : Dev).chans = d.chans := rfl
theorem with_seg_subs (d : Dev) (v : SegSt) : ({ d with seg := v } : Dev).subs = d.subs := rfl
theorem with_seg_cxlState (d : Dev) (v : SegSt) : ({ d with seg := v } : Dev).cxlState = d.cxlState := rfl
theorem with_seg_cxlWait (d : Dev) (v : SegSt) : ({ d with seg := v } : Dev).cxlWait = d.cxlWait := rfl
theorem with_seg_obs (d : Dev) (v : SegSt) : ({ d with seg := v } : Dev).obs = d.obs := rfl
theorem with_seg_mirror (d : Dev) (v : SegSt) : ({ d with seg := v } : Dev).mirror = d.mirror := rfl
theorem with_seg_takeover (d : Dev) (v : SegSt) : ({ d with seg := v } : Dev).takeover = d.takeover := rfl
theorem with_seg_pot (d : Dev) (v : SegSt) : ({ d with seg := v } : Dev).pot = d.pot := rfl
theorem with_seg_encl (d : Dev) (v : SegSt) : ({ d with seg := v } : Dev).encl = d.encl := rfl
theorem with_seg_cmds (d : Dev) (v : SegSt) : ({ d with seg := v } : Dev).cmds = d.cmds := rfl
theorem with_seg_holds (d : Dev) (v : SegSt) : ({ d with seg := v } : Dev).holds = d.holds := rfl
theorem with_seg_holdUnits (d : Dev) (v : SegSt) : ({ d with seg := v } : Dev).holdUnits = d.holdUnits := rfl
theorem with_seg_reports (d : Dev) (v : SegSt) : ({ d with seg := v } : Dev).reports = d.reports := rfl
theorem with_seg_spad (d : Dev) (v : SegSt) : ({ d with seg := v } : Dev).spad = d.spad := rfl
theorem with_seg_fatal (d : Dev) (v : SegSt) : ({ d with seg := v } : Dev).fatal = d.fatal := rfl
theorem with_seg_benches (d : Dev) (v : SegSt) : ({ d with seg := v } : Dev).benches = d.benches := rfl
theorem with_seg_ledger (d : Dev) (v : SegSt) : ({ d with seg := v } : Dev).ledger = d.ledger := rfl
theorem with_seg_iommu (d : Dev) (v : SegSt) : ({ d with seg := v } : Dev).iommu = d.iommu := rfl
theorem with_seg_gauge (d : Dev) (v : SegSt) : ({ d with seg := v } : Dev).gauge = d.gauge := rfl
theorem with_seg_sync (d : Dev) (v : SegSt) : ({ d with seg := v } : Dev).sync = d.sync := rfl
theorem with_seg_rootPorts (d : Dev) (v : SegSt) : ({ d with seg := v } : Dev).rootPorts = d.rootPorts := rfl
theorem with_sites_out (d : Dev) (v : Tab SiteSt) : ({ d with sites := v } : Dev).out = d.out := rfl
theorem with_sites_freeCtr (d : Dev) (v : Tab SiteSt) : ({ d with sites := v } : Dev).freeCtr = d.freeCtr := rfl
theorem with_sites_now (d : Dev) (v : Tab SiteSt) : ({ d with sites := v } : Dev).now = d.now := rfl
theorem with_sites_pins (d : Dev) (v : Tab SiteSt) : ({ d with sites := v } : Dev).pins = d.pins := rfl
theorem with_sites_fuses (d : Dev) (v : Tab SiteSt) : ({ d with sites := v } : Dev).fuses = d.fuses := rfl
theorem with_sites_boot (d : Dev) (v : Tab SiteSt) : ({ d with sites := v } : Dev).boot = d.boot := rfl
theorem with_sites_list (d : Dev) (v : Tab SiteSt) : ({ d with sites := v } : Dev).list = d.list := rfl
theorem with_sites_kerf (d : Dev) (v : Tab SiteSt) : ({ d with sites := v } : Dev).kerf = d.kerf := rfl
theorem with_sites_harts (d : Dev) (v : Tab SiteSt) : ({ d with sites := v } : Dev).harts = d.harts := rfl
theorem with_sites_links (d : Dev) (v : Tab SiteSt) : ({ d with sites := v } : Dev).links = d.links := rfl
theorem with_sites_jig (d : Dev) (v : Tab SiteSt) : ({ d with sites := v } : Dev).jig = d.jig := rfl
theorem with_sites_holdover (d : Dev) (v : Tab SiteSt) : ({ d with sites := v } : Dev).holdover = d.holdover := rfl
theorem with_sites_dies (d : Dev) (v : Tab SiteSt) : ({ d with sites := v } : Dev).dies = d.dies := rfl
theorem with_sites_slices (d : Dev) (v : Tab SiteSt) : ({ d with sites := v } : Dev).slices = d.slices := rfl
theorem with_sites_flight (d : Dev) (v : Tab SiteSt) : ({ d with sites := v } : Dev).flight = d.flight := rfl
theorem with_sites_mem (d : Dev) (v : Tab SiteSt) : ({ d with sites := v } : Dev).mem = d.mem := rfl
theorem with_sites_memGen (d : Dev) (v : Tab SiteSt) : ({ d with sites := v } : Dev).memGen = d.memGen := rfl
theorem with_sites_poison (d : Dev) (v : Tab SiteSt) : ({ d with sites := v } : Dev).poison = d.poison := rfl
theorem with_sites_msc (d : Dev) (v : Tab SiteSt) : ({ d with sites := v } : Dev).msc = d.msc := rfl
theorem with_sites_mscs (d : Dev) (v : Tab SiteSt) : ({ d with sites := v } : Dev).mscs = d.mscs := rfl
theorem with_sites_maint (d : Dev) (v : Tab SiteSt) : ({ d with sites := v } : Dev).maint = d.maint := rfl
theorem with_sites_chans (d : Dev) (v : Tab SiteSt) : ({ d with sites := v } : Dev).chans = d.chans := rfl
theorem with_sites_subs (d : Dev) (v : Tab SiteSt) : ({ d with sites := v } : Dev).subs = d.subs := rfl
theorem with_sites_cxlState (d : Dev) (v : Tab SiteSt) : ({ d with sites := v } : Dev).cxlState = d.cxlState := rfl
theorem with_sites_cxlWait (d : Dev) (v : Tab SiteSt) : ({ d with sites := v } : Dev).cxlWait = d.cxlWait := rfl
theorem with_sites_obs (d : Dev) (v : Tab SiteSt) : ({ d with sites := v } : Dev).obs = d.obs := rfl
theorem with_sites_mirror (d : Dev) (v : Tab SiteSt) : ({ d with sites := v } : Dev).mirror = d.mirror := rfl
theorem with_sites_takeover (d : Dev) (v : Tab SiteSt) : ({ d with sites := v } : Dev).takeover = d.takeover := rfl
theorem with_sites_pot (d : Dev) (v : Tab SiteSt) : ({ d with sites := v } : Dev).pot = d.pot := rfl
theorem with_sites_encl (d : Dev) (v : Tab SiteSt) : ({ d with sites := v } : Dev).encl = d.encl := rfl
theorem with_sites_cmds (d : Dev) (v : Tab SiteSt) : ({ d with sites := v } : Dev).cmds = d.cmds := rfl
theorem with_sites_holds (d : Dev) (v : Tab SiteSt) : ({ d with sites := v } : Dev).holds = d.holds := rfl
theorem with_sites_holdUnits (d : Dev) (v : Tab SiteSt) : ({ d with sites := v } : Dev).holdUnits = d.holdUnits := rfl
theorem with_sites_reports (d : Dev) (v : Tab SiteSt) : ({ d with sites := v } : Dev).reports = d.reports := rfl
theorem with_sites_spad (d : Dev) (v : Tab SiteSt) : ({ d with sites := v } : Dev).spad = d.spad := rfl
theorem with_sites_fatal (d : Dev) (v : Tab SiteSt) : ({ d with sites := v } : Dev).fatal = d.fatal := rfl
theorem with_sites_benches (d : Dev) (v : Tab SiteSt) : ({ d with sites := v } : Dev).benches = d.benches := rfl
theorem with_sites_ledger (d : Dev) (v : Tab SiteSt) : ({ d with sites := v } : Dev).ledger = d.ledger := rfl
theorem with_sites_iommu (d : Dev) (v : Tab SiteSt) : ({ d with sites := v } : Dev).iommu = d.iommu := rfl
theorem with_sites_gauge (d : Dev) (v : Tab SiteSt) : ({ d with sites := v } : Dev).gauge = d.gauge := rfl
theorem with_sites_seg (d : Dev) (v : Tab SiteSt) : ({ d with sites := v } : Dev).seg = d.seg := rfl
theorem with_sites_sync (d : Dev) (v : Tab SiteSt) : ({ d with sites := v } : Dev).sync = d.sync := rfl
theorem with_sites_rootPorts (d : Dev) (v : Tab SiteSt) : ({ d with sites := v } : Dev).rootPorts = d.rootPorts := rfl
theorem with_slices_out (d : Dev) (v : Tab SliceSt) : ({ d with slices := v } : Dev).out = d.out := rfl
theorem with_slices_freeCtr (d : Dev) (v : Tab SliceSt) : ({ d with slices := v } : Dev).freeCtr = d.freeCtr := rfl
theorem with_slices_now (d : Dev) (v : Tab SliceSt) : ({ d with slices := v } : Dev).now = d.now := rfl
theorem with_slices_pins (d : Dev) (v : Tab SliceSt) : ({ d with slices := v } : Dev).pins = d.pins := rfl
theorem with_slices_fuses (d : Dev) (v : Tab SliceSt) : ({ d with slices := v } : Dev).fuses = d.fuses := rfl
theorem with_slices_boot (d : Dev) (v : Tab SliceSt) : ({ d with slices := v } : Dev).boot = d.boot := rfl
theorem with_slices_list (d : Dev) (v : Tab SliceSt) : ({ d with slices := v } : Dev).list = d.list := rfl
theorem with_slices_kerf (d : Dev) (v : Tab SliceSt) : ({ d with slices := v } : Dev).kerf = d.kerf := rfl
theorem with_slices_harts (d : Dev) (v : Tab SliceSt) : ({ d with slices := v } : Dev).harts = d.harts := rfl
theorem with_slices_links (d : Dev) (v : Tab SliceSt) : ({ d with slices := v } : Dev).links = d.links := rfl
theorem with_slices_jig (d : Dev) (v : Tab SliceSt) : ({ d with slices := v } : Dev).jig = d.jig := rfl
theorem with_slices_holdover (d : Dev) (v : Tab SliceSt) : ({ d with slices := v } : Dev).holdover = d.holdover := rfl
theorem with_slices_sites (d : Dev) (v : Tab SliceSt) : ({ d with slices := v } : Dev).sites = d.sites := rfl
theorem with_slices_dies (d : Dev) (v : Tab SliceSt) : ({ d with slices := v } : Dev).dies = d.dies := rfl
theorem with_slices_flight (d : Dev) (v : Tab SliceSt) : ({ d with slices := v } : Dev).flight = d.flight := rfl
theorem with_slices_mem (d : Dev) (v : Tab SliceSt) : ({ d with slices := v } : Dev).mem = d.mem := rfl
theorem with_slices_memGen (d : Dev) (v : Tab SliceSt) : ({ d with slices := v } : Dev).memGen = d.memGen := rfl
theorem with_slices_poison (d : Dev) (v : Tab SliceSt) : ({ d with slices := v } : Dev).poison = d.poison := rfl
theorem with_slices_msc (d : Dev) (v : Tab SliceSt) : ({ d with slices := v } : Dev).msc = d.msc := rfl
theorem with_slices_mscs (d : Dev) (v : Tab SliceSt) : ({ d with slices := v } : Dev).mscs = d.mscs := rfl
theorem with_slices_maint (d : Dev) (v : Tab SliceSt) : ({ d with slices := v } : Dev).maint = d.maint := rfl
theorem with_slices_chans (d : Dev) (v : Tab SliceSt) : ({ d with slices := v } : Dev).chans = d.chans := rfl
theorem with_slices_subs (d : Dev) (v : Tab SliceSt) : ({ d with slices := v } : Dev).subs = d.subs := rfl
theorem with_slices_cxlState (d : Dev) (v : Tab SliceSt) : ({ d with slices := v } : Dev).cxlState = d.cxlState := rfl
theorem with_slices_cxlWait (d : Dev) (v : Tab SliceSt) : ({ d with slices := v } : Dev).cxlWait = d.cxlWait := rfl
theorem with_slices_obs (d : Dev) (v : Tab SliceSt) : ({ d with slices := v } : Dev).obs = d.obs := rfl
theorem with_slices_mirror (d : Dev) (v : Tab SliceSt) : ({ d with slices := v } : Dev).mirror = d.mirror := rfl
theorem with_slices_takeover (d : Dev) (v : Tab SliceSt) : ({ d with slices := v } : Dev).takeover = d.takeover := rfl
theorem with_slices_pot (d : Dev) (v : Tab SliceSt) : ({ d with slices := v } : Dev).pot = d.pot := rfl
theorem with_slices_encl (d : Dev) (v : Tab SliceSt) : ({ d with slices := v } : Dev).encl = d.encl := rfl
theorem with_slices_cmds (d : Dev) (v : Tab SliceSt) : ({ d with slices := v } : Dev).cmds = d.cmds := rfl
theorem with_slices_holds (d : Dev) (v : Tab SliceSt) : ({ d with slices := v } : Dev).holds = d.holds := rfl
theorem with_slices_holdUnits (d : Dev) (v : Tab SliceSt) : ({ d with slices := v } : Dev).holdUnits = d.holdUnits := rfl
theorem with_slices_reports (d : Dev) (v : Tab SliceSt) : ({ d with slices := v } : Dev).reports = d.reports := rfl
theorem with_slices_spad (d : Dev) (v : Tab SliceSt) : ({ d with slices := v } : Dev).spad = d.spad := rfl
theorem with_slices_fatal (d : Dev) (v : Tab SliceSt) : ({ d with slices := v } : Dev).fatal = d.fatal := rfl
theorem with_slices_benches (d : Dev) (v : Tab SliceSt) : ({ d with slices := v } : Dev).benches = d.benches := rfl
theorem with_slices_ledger (d : Dev) (v : Tab SliceSt) : ({ d with slices := v } : Dev).ledger = d.ledger := rfl
theorem with_slices_iommu (d : Dev) (v : Tab SliceSt) : ({ d with slices := v } : Dev).iommu = d.iommu := rfl
theorem with_slices_gauge (d : Dev) (v : Tab SliceSt) : ({ d with slices := v } : Dev).gauge = d.gauge := rfl
theorem with_slices_seg (d : Dev) (v : Tab SliceSt) : ({ d with slices := v } : Dev).seg = d.seg := rfl
theorem with_slices_sync (d : Dev) (v : Tab SliceSt) : ({ d with slices := v } : Dev).sync = d.sync := rfl
theorem with_slices_rootPorts (d : Dev) (v : Tab SliceSt) : ({ d with slices := v } : Dev).rootPorts = d.rootPorts := rfl
theorem with_subs_out (d : Dev) (v : Tab SubSt) : ({ d with subs := v } : Dev).out = d.out := rfl
theorem with_subs_freeCtr (d : Dev) (v : Tab SubSt) : ({ d with subs := v } : Dev).freeCtr = d.freeCtr := rfl
theorem with_subs_now (d : Dev) (v : Tab SubSt) : ({ d with subs := v } : Dev).now = d.now := rfl
theorem with_subs_pins (d : Dev) (v : Tab SubSt) : ({ d with subs := v } : Dev).pins = d.pins := rfl
theorem with_subs_fuses (d : Dev) (v : Tab SubSt) : ({ d with subs := v } : Dev).fuses = d.fuses := rfl
theorem with_subs_boot (d : Dev) (v : Tab SubSt) : ({ d with subs := v } : Dev).boot = d.boot := rfl
theorem with_subs_list (d : Dev) (v : Tab SubSt) : ({ d with subs := v } : Dev).list = d.list := rfl
theorem with_subs_kerf (d : Dev) (v : Tab SubSt) : ({ d with subs := v } : Dev).kerf = d.kerf := rfl
theorem with_subs_harts (d : Dev) (v : Tab SubSt) : ({ d with subs := v } : Dev).harts = d.harts := rfl
theorem with_subs_links (d : Dev) (v : Tab SubSt) : ({ d with subs := v } : Dev).links = d.links := rfl
theorem with_subs_jig (d : Dev) (v : Tab SubSt) : ({ d with subs := v } : Dev).jig = d.jig := rfl
theorem with_subs_holdover (d : Dev) (v : Tab SubSt) : ({ d with subs := v } : Dev).holdover = d.holdover := rfl
theorem with_subs_sites (d : Dev) (v : Tab SubSt) : ({ d with subs := v } : Dev).sites = d.sites := rfl
theorem with_subs_dies (d : Dev) (v : Tab SubSt) : ({ d with subs := v } : Dev).dies = d.dies := rfl
theorem with_subs_slices (d : Dev) (v : Tab SubSt) : ({ d with subs := v } : Dev).slices = d.slices := rfl
theorem with_subs_flight (d : Dev) (v : Tab SubSt) : ({ d with subs := v } : Dev).flight = d.flight := rfl
theorem with_subs_mem (d : Dev) (v : Tab SubSt) : ({ d with subs := v } : Dev).mem = d.mem := rfl
theorem with_subs_memGen (d : Dev) (v : Tab SubSt) : ({ d with subs := v } : Dev).memGen = d.memGen := rfl
theorem with_subs_poison (d : Dev) (v : Tab SubSt) : ({ d with subs := v } : Dev).poison = d.poison := rfl
theorem with_subs_msc (d : Dev) (v : Tab SubSt) : ({ d with subs := v } : Dev).msc = d.msc := rfl
theorem with_subs_mscs (d : Dev) (v : Tab SubSt) : ({ d with subs := v } : Dev).mscs = d.mscs := rfl
theorem with_subs_maint (d : Dev) (v : Tab SubSt) : ({ d with subs := v } : Dev).maint = d.maint := rfl
theorem with_subs_chans (d : Dev) (v : Tab SubSt) : ({ d with subs := v } : Dev).chans = d.chans := rfl
theorem with_subs_cxlState (d : Dev) (v : Tab SubSt) : ({ d with subs := v } : Dev).cxlState = d.cxlState := rfl
theorem with_subs_cxlWait (d : Dev) (v : Tab SubSt) : ({ d with subs := v } : Dev).cxlWait = d.cxlWait := rfl
theorem with_subs_obs (d : Dev) (v : Tab SubSt) : ({ d with subs := v } : Dev).obs = d.obs := rfl
theorem with_subs_mirror (d : Dev) (v : Tab SubSt) : ({ d with subs := v } : Dev).mirror = d.mirror := rfl
theorem with_subs_takeover (d : Dev) (v : Tab SubSt) : ({ d with subs := v } : Dev).takeover = d.takeover := rfl
theorem with_subs_pot (d : Dev) (v : Tab SubSt) : ({ d with subs := v } : Dev).pot = d.pot := rfl
theorem with_subs_encl (d : Dev) (v : Tab SubSt) : ({ d with subs := v } : Dev).encl = d.encl := rfl
theorem with_subs_cmds (d : Dev) (v : Tab SubSt) : ({ d with subs := v } : Dev).cmds = d.cmds := rfl
theorem with_subs_holds (d : Dev) (v : Tab SubSt) : ({ d with subs := v } : Dev).holds = d.holds := rfl
theorem with_subs_holdUnits (d : Dev) (v : Tab SubSt) : ({ d with subs := v } : Dev).holdUnits = d.holdUnits := rfl
theorem with_subs_reports (d : Dev) (v : Tab SubSt) : ({ d with subs := v } : Dev).reports = d.reports := rfl
theorem with_subs_spad (d : Dev) (v : Tab SubSt) : ({ d with subs := v } : Dev).spad = d.spad := rfl
theorem with_subs_fatal (d : Dev) (v : Tab SubSt) : ({ d with subs := v } : Dev).fatal = d.fatal := rfl
theorem with_subs_benches (d : Dev) (v : Tab SubSt) : ({ d with subs := v } : Dev).benches = d.benches := rfl
theorem with_subs_ledger (d : Dev) (v : Tab SubSt) : ({ d with subs := v } : Dev).ledger = d.ledger := rfl
theorem with_subs_iommu (d : Dev) (v : Tab SubSt) : ({ d with subs := v } : Dev).iommu = d.iommu := rfl
theorem with_subs_gauge (d : Dev) (v : Tab SubSt) : ({ d with subs := v } : Dev).gauge = d.gauge := rfl
theorem with_subs_seg (d : Dev) (v : Tab SubSt) : ({ d with subs := v } : Dev).seg = d.seg := rfl
theorem with_subs_sync (d : Dev) (v : Tab SubSt) : ({ d with subs := v } : Dev).sync = d.sync := rfl
theorem with_subs_rootPorts (d : Dev) (v : Tab SubSt) : ({ d with subs := v } : Dev).rootPorts = d.rootPorts := rfl
theorem with_sync_out (d : Dev) (v : SyncSt) : ({ d with sync := v } : Dev).out = d.out := rfl
theorem with_sync_freeCtr (d : Dev) (v : SyncSt) : ({ d with sync := v } : Dev).freeCtr = d.freeCtr := rfl
theorem with_sync_now (d : Dev) (v : SyncSt) : ({ d with sync := v } : Dev).now = d.now := rfl
theorem with_sync_pins (d : Dev) (v : SyncSt) : ({ d with sync := v } : Dev).pins = d.pins := rfl
theorem with_sync_fuses (d : Dev) (v : SyncSt) : ({ d with sync := v } : Dev).fuses = d.fuses := rfl
theorem with_sync_boot (d : Dev) (v : SyncSt) : ({ d with sync := v } : Dev).boot = d.boot := rfl
theorem with_sync_list (d : Dev) (v : SyncSt) : ({ d with sync := v } : Dev).list = d.list := rfl
theorem with_sync_kerf (d : Dev) (v : SyncSt) : ({ d with sync := v } : Dev).kerf = d.kerf := rfl
theorem with_sync_harts (d : Dev) (v : SyncSt) : ({ d with sync := v } : Dev).harts = d.harts := rfl
theorem with_sync_links (d : Dev) (v : SyncSt) : ({ d with sync := v } : Dev).links = d.links := rfl
theorem with_sync_jig (d : Dev) (v : SyncSt) : ({ d with sync := v } : Dev).jig = d.jig := rfl
theorem with_sync_holdover (d : Dev) (v : SyncSt) : ({ d with sync := v } : Dev).holdover = d.holdover := rfl
theorem with_sync_sites (d : Dev) (v : SyncSt) : ({ d with sync := v } : Dev).sites = d.sites := rfl
theorem with_sync_dies (d : Dev) (v : SyncSt) : ({ d with sync := v } : Dev).dies = d.dies := rfl
theorem with_sync_slices (d : Dev) (v : SyncSt) : ({ d with sync := v } : Dev).slices = d.slices := rfl
theorem with_sync_flight (d : Dev) (v : SyncSt) : ({ d with sync := v } : Dev).flight = d.flight := rfl
theorem with_sync_mem (d : Dev) (v : SyncSt) : ({ d with sync := v } : Dev).mem = d.mem := rfl
theorem with_sync_memGen (d : Dev) (v : SyncSt) : ({ d with sync := v } : Dev).memGen = d.memGen := rfl
theorem with_sync_poison (d : Dev) (v : SyncSt) : ({ d with sync := v } : Dev).poison = d.poison := rfl
theorem with_sync_msc (d : Dev) (v : SyncSt) : ({ d with sync := v } : Dev).msc = d.msc := rfl
theorem with_sync_mscs (d : Dev) (v : SyncSt) : ({ d with sync := v } : Dev).mscs = d.mscs := rfl
theorem with_sync_maint (d : Dev) (v : SyncSt) : ({ d with sync := v } : Dev).maint = d.maint := rfl
theorem with_sync_chans (d : Dev) (v : SyncSt) : ({ d with sync := v } : Dev).chans = d.chans := rfl
theorem with_sync_subs (d : Dev) (v : SyncSt) : ({ d with sync := v } : Dev).subs = d.subs := rfl
theorem with_sync_cxlState (d : Dev) (v : SyncSt) : ({ d with sync := v } : Dev).cxlState = d.cxlState := rfl
theorem with_sync_cxlWait (d : Dev) (v : SyncSt) : ({ d with sync := v } : Dev).cxlWait = d.cxlWait := rfl
theorem with_sync_obs (d : Dev) (v : SyncSt) : ({ d with sync := v } : Dev).obs = d.obs := rfl
theorem with_sync_mirror (d : Dev) (v : SyncSt) : ({ d with sync := v } : Dev).mirror = d.mirror := rfl
theorem with_sync_takeover (d : Dev) (v : SyncSt) : ({ d with sync := v } : Dev).takeover = d.takeover := rfl
theorem with_sync_pot (d : Dev) (v : SyncSt) : ({ d with sync := v } : Dev).pot = d.pot := rfl
theorem with_sync_encl (d : Dev) (v : SyncSt) : ({ d with sync := v } : Dev).encl = d.encl := rfl
theorem with_sync_cmds (d : Dev) (v : SyncSt) : ({ d with sync := v } : Dev).cmds = d.cmds := rfl
theorem with_sync_holds (d : Dev) (v : SyncSt) : ({ d with sync := v } : Dev).holds = d.holds := rfl
theorem with_sync_holdUnits (d : Dev) (v : SyncSt) : ({ d with sync := v } : Dev).holdUnits = d.holdUnits := rfl
theorem with_sync_reports (d : Dev) (v : SyncSt) : ({ d with sync := v } : Dev).reports = d.reports := rfl
theorem with_sync_spad (d : Dev) (v : SyncSt) : ({ d with sync := v } : Dev).spad = d.spad := rfl
theorem with_sync_fatal (d : Dev) (v : SyncSt) : ({ d with sync := v } : Dev).fatal = d.fatal := rfl
theorem with_sync_benches (d : Dev) (v : SyncSt) : ({ d with sync := v } : Dev).benches = d.benches := rfl
theorem with_sync_ledger (d : Dev) (v : SyncSt) : ({ d with sync := v } : Dev).ledger = d.ledger := rfl
theorem with_sync_iommu (d : Dev) (v : SyncSt) : ({ d with sync := v } : Dev).iommu = d.iommu := rfl
theorem with_sync_gauge (d : Dev) (v : SyncSt) : ({ d with sync := v } : Dev).gauge = d.gauge := rfl
theorem with_sync_seg (d : Dev) (v : SyncSt) : ({ d with sync := v } : Dev).seg = d.seg := rfl
theorem with_sync_rootPorts (d : Dev) (v : SyncSt) : ({ d with sync := v } : Dev).rootPorts = d.rootPorts := rfl
theorem with_takeover_out (d : Dev) (v : Tab Takeover) : ({ d with takeover := v } : Dev).out = d.out := rfl
theorem with_takeover_freeCtr (d : Dev) (v : Tab Takeover) : ({ d with takeover := v } : Dev).freeCtr = d.freeCtr := rfl
theorem with_takeover_now (d : Dev) (v : Tab Takeover) : ({ d with takeover := v } : Dev).now = d.now := rfl
theorem with_takeover_pins (d : Dev) (v : Tab Takeover) : ({ d with takeover := v } : Dev).pins = d.pins := rfl
theorem with_takeover_fuses (d : Dev) (v : Tab Takeover) : ({ d with takeover := v } : Dev).fuses = d.fuses := rfl
theorem with_takeover_boot (d : Dev) (v : Tab Takeover) : ({ d with takeover := v } : Dev).boot = d.boot := rfl
theorem with_takeover_list (d : Dev) (v : Tab Takeover) : ({ d with takeover := v } : Dev).list = d.list := rfl
theorem with_takeover_kerf (d : Dev) (v : Tab Takeover) : ({ d with takeover := v } : Dev).kerf = d.kerf := rfl
theorem with_takeover_harts (d : Dev) (v : Tab Takeover) : ({ d with takeover := v } : Dev).harts = d.harts := rfl
theorem with_takeover_links (d : Dev) (v : Tab Takeover) : ({ d with takeover := v } : Dev).links = d.links := rfl
theorem with_takeover_jig (d : Dev) (v : Tab Takeover) : ({ d with takeover := v } : Dev).jig = d.jig := rfl
theorem with_takeover_holdover (d : Dev) (v : Tab Takeover) : ({ d with takeover := v } : Dev).holdover = d.holdover := rfl
theorem with_takeover_sites (d : Dev) (v : Tab Takeover) : ({ d with takeover := v } : Dev).sites = d.sites := rfl
theorem with_takeover_dies (d : Dev) (v : Tab Takeover) : ({ d with takeover := v } : Dev).dies = d.dies := rfl
theorem with_takeover_slices (d : Dev) (v : Tab Takeover) : ({ d with takeover := v } : Dev).slices = d.slices := rfl
theorem with_takeover_flight (d : Dev) (v : Tab Takeover) : ({ d with takeover := v } : Dev).flight = d.flight := rfl
theorem with_takeover_mem (d : Dev) (v : Tab Takeover) : ({ d with takeover := v } : Dev).mem = d.mem := rfl
theorem with_takeover_memGen (d : Dev) (v : Tab Takeover) : ({ d with takeover := v } : Dev).memGen = d.memGen := rfl
theorem with_takeover_poison (d : Dev) (v : Tab Takeover) : ({ d with takeover := v } : Dev).poison = d.poison := rfl
theorem with_takeover_msc (d : Dev) (v : Tab Takeover) : ({ d with takeover := v } : Dev).msc = d.msc := rfl
theorem with_takeover_mscs (d : Dev) (v : Tab Takeover) : ({ d with takeover := v } : Dev).mscs = d.mscs := rfl
theorem with_takeover_maint (d : Dev) (v : Tab Takeover) : ({ d with takeover := v } : Dev).maint = d.maint := rfl
theorem with_takeover_chans (d : Dev) (v : Tab Takeover) : ({ d with takeover := v } : Dev).chans = d.chans := rfl
theorem with_takeover_subs (d : Dev) (v : Tab Takeover) : ({ d with takeover := v } : Dev).subs = d.subs := rfl
theorem with_takeover_cxlState (d : Dev) (v : Tab Takeover) : ({ d with takeover := v } : Dev).cxlState = d.cxlState := rfl
theorem with_takeover_cxlWait (d : Dev) (v : Tab Takeover) : ({ d with takeover := v } : Dev).cxlWait = d.cxlWait := rfl
theorem with_takeover_obs (d : Dev) (v : Tab Takeover) : ({ d with takeover := v } : Dev).obs = d.obs := rfl
theorem with_takeover_mirror (d : Dev) (v : Tab Takeover) : ({ d with takeover := v } : Dev).mirror = d.mirror := rfl
theorem with_takeover_pot (d : Dev) (v : Tab Takeover) : ({ d with takeover := v } : Dev).pot = d.pot := rfl
theorem with_takeover_encl (d : Dev) (v : Tab Takeover) : ({ d with takeover := v } : Dev).encl = d.encl := rfl
theorem with_takeover_cmds (d : Dev) (v : Tab Takeover) : ({ d with takeover := v } : Dev).cmds = d.cmds := rfl
theorem with_takeover_holds (d : Dev) (v : Tab Takeover) : ({ d with takeover := v } : Dev).holds = d.holds := rfl
theorem with_takeover_holdUnits (d : Dev) (v : Tab Takeover) : ({ d with takeover := v } : Dev).holdUnits = d.holdUnits := rfl
theorem with_takeover_reports (d : Dev) (v : Tab Takeover) : ({ d with takeover := v } : Dev).reports = d.reports := rfl
theorem with_takeover_spad (d : Dev) (v : Tab Takeover) : ({ d with takeover := v } : Dev).spad = d.spad := rfl
theorem with_takeover_fatal (d : Dev) (v : Tab Takeover) : ({ d with takeover := v } : Dev).fatal = d.fatal := rfl
theorem with_takeover_benches (d : Dev) (v : Tab Takeover) : ({ d with takeover := v } : Dev).benches = d.benches := rfl
theorem with_takeover_ledger (d : Dev) (v : Tab Takeover) : ({ d with takeover := v } : Dev).ledger = d.ledger := rfl
theorem with_takeover_iommu (d : Dev) (v : Tab Takeover) : ({ d with takeover := v } : Dev).iommu = d.iommu := rfl
theorem with_takeover_gauge (d : Dev) (v : Tab Takeover) : ({ d with takeover := v } : Dev).gauge = d.gauge := rfl
theorem with_takeover_seg (d : Dev) (v : Tab Takeover) : ({ d with takeover := v } : Dev).seg = d.seg := rfl
theorem with_takeover_sync (d : Dev) (v : Tab Takeover) : ({ d with takeover := v } : Dev).sync = d.sync := rfl
theorem with_takeover_rootPorts (d : Dev) (v : Tab Takeover) : ({ d with takeover := v } : Dev).rootPorts = d.rootPorts := rfl
@[simp] theorem updHart_out (d : Dev) (h : Nat) (f : Hart → Hart) : (updHart d h f).out = d.out := with_harts_out d _
@[simp] theorem updHart_freeCtr (d : Dev) (h : Nat) (f : Hart → Hart) : (updHart d h f).freeCtr = d.freeCtr := with_harts_freeCtr d _
@[simp] theorem updHart_now (d : Dev) (h : Nat) (f : Hart → Hart) : (updHart d h f).now = d.now := with_harts_now d _
@[simp] theorem updHart_pins (d : Dev) (h : Nat) (f : Hart → Hart) : (updHart d h f).pins = d.pins := with_harts_pins d _
@[simp] theorem updHart_fuses (d : Dev) (h : Nat) (f : Hart → Hart) : (updHart d h f).fuses = d.fuses := with_harts_fuses d _
@[simp] theorem updHart_boot (d : Dev) (h : Nat) (f : Hart → Hart) : (updHart d h f).boot = d.boot := with_harts_boot d _
@[simp] theorem updHart_list (d : Dev) (h : Nat) (f : Hart → Hart) : (updHart d h f).list = d.list := with_harts_list d _
@[simp] theorem updHart_kerf (d : Dev) (h : Nat) (f : Hart → Hart) : (updHart d h f).kerf = d.kerf := with_harts_kerf d _
@[simp] theorem updHart_links (d : Dev) (h : Nat) (f : Hart → Hart) : (updHart d h f).links = d.links := with_harts_links d _
@[simp] theorem updHart_jig (d : Dev) (h : Nat) (f : Hart → Hart) : (updHart d h f).jig = d.jig := with_harts_jig d _
@[simp] theorem updHart_holdover (d : Dev) (h : Nat) (f : Hart → Hart) : (updHart d h f).holdover = d.holdover := with_harts_holdover d _
@[simp] theorem updHart_sites (d : Dev) (h : Nat) (f : Hart → Hart) : (updHart d h f).sites = d.sites := with_harts_sites d _
@[simp] theorem updHart_dies (d : Dev) (h : Nat) (f : Hart → Hart) : (updHart d h f).dies = d.dies := with_harts_dies d _
@[simp] theorem updHart_slices (d : Dev) (h : Nat) (f : Hart → Hart) : (updHart d h f).slices = d.slices := with_harts_slices d _
@[simp] theorem updHart_flight (d : Dev) (h : Nat) (f : Hart → Hart) : (updHart d h f).flight = d.flight := with_harts_flight d _
@[simp] theorem updHart_mem (d : Dev) (h : Nat) (f : Hart → Hart) : (updHart d h f).mem = d.mem := with_harts_mem d _
@[simp] theorem updHart_memGen (d : Dev) (h : Nat) (f : Hart → Hart) : (updHart d h f).memGen = d.memGen := with_harts_memGen d _
@[simp] theorem updHart_poison (d : Dev) (h : Nat) (f : Hart → Hart) : (updHart d h f).poison = d.poison := with_harts_poison d _
@[simp] theorem updHart_msc (d : Dev) (h : Nat) (f : Hart → Hart) : (updHart d h f).msc = d.msc := with_harts_msc d _
@[simp] theorem updHart_mscs (d : Dev) (h : Nat) (f : Hart → Hart) : (updHart d h f).mscs = d.mscs := with_harts_mscs d _
@[simp] theorem updHart_maint (d : Dev) (h : Nat) (f : Hart → Hart) : (updHart d h f).maint = d.maint := with_harts_maint d _
@[simp] theorem updHart_chans (d : Dev) (h : Nat) (f : Hart → Hart) : (updHart d h f).chans = d.chans := with_harts_chans d _
@[simp] theorem updHart_subs (d : Dev) (h : Nat) (f : Hart → Hart) : (updHart d h f).subs = d.subs := with_harts_subs d _
@[simp] theorem updHart_cxlState (d : Dev) (h : Nat) (f : Hart → Hart) : (updHart d h f).cxlState = d.cxlState := with_harts_cxlState d _
@[simp] theorem updHart_cxlWait (d : Dev) (h : Nat) (f : Hart → Hart) : (updHart d h f).cxlWait = d.cxlWait := with_harts_cxlWait d _
@[simp] theorem updHart_obs (d : Dev) (h : Nat) (f : Hart → Hart) : (updHart d h f).obs = d.obs := with_harts_obs d _
@[simp] theorem updHart_mirror (d : Dev) (h : Nat) (f : Hart → Hart) : (updHart d h f).mirror = d.mirror := with_harts_mirror d _
@[simp] theorem updHart_takeover (d : Dev) (h : Nat) (f : Hart → Hart) : (updHart d h f).takeover = d.takeover := with_harts_takeover d _
@[simp] theorem updHart_pot (d : Dev) (h : Nat) (f : Hart → Hart) : (updHart d h f).pot = d.pot := with_harts_pot d _
@[simp] theorem updHart_encl (d : Dev) (h : Nat) (f : Hart → Hart) : (updHart d h f).encl = d.encl := with_harts_encl d _
@[simp] theorem updHart_cmds (d : Dev) (h : Nat) (f : Hart → Hart) : (updHart d h f).cmds = d.cmds := with_harts_cmds d _
@[simp] theorem updHart_holds (d : Dev) (h : Nat) (f : Hart → Hart) : (updHart d h f).holds = d.holds := with_harts_holds d _
@[simp] theorem updHart_holdUnits (d : Dev) (h : Nat) (f : Hart → Hart) : (updHart d h f).holdUnits = d.holdUnits := with_harts_holdUnits d _
@[simp] theorem updHart_reports (d : Dev) (h : Nat) (f : Hart → Hart) : (updHart d h f).reports = d.reports := with_harts_reports d _
@[simp] theorem updHart_spad (d : Dev) (h : Nat) (f : Hart → Hart) : (updHart d h f).spad = d.spad := with_harts_spad d _
@[simp] theorem updHart_fatal (d : Dev) (h : Nat) (f : Hart → Hart) : (updHart d h f).fatal = d.fatal := with_harts_fatal d _
@[simp] theorem updHart_benches (d : Dev) (h : Nat) (f : Hart → Hart) : (updHart d h f).benches = d.benches := with_harts_benches d _
@[simp] theorem updHart_ledger (d : Dev) (h : Nat) (f : Hart → Hart) : (updHart d h f).ledger = d.ledger := with_harts_ledger d _
@[simp] theorem updHart_iommu (d : Dev) (h : Nat) (f : Hart → Hart) : (updHart d h f).iommu = d.iommu := with_harts_iommu d _
@[simp] theorem updHart_gauge (d : Dev) (h : Nat) (f : Hart → Hart) : (updHart d h f).gauge = d.gauge := with_harts_gauge d _
@[simp] theorem updHart_seg (d : Dev) (h : Nat) (f : Hart → Hart) : (updHart d h f).seg = d.seg := with_harts_seg d _
@[simp] theorem updHart_sync (d : Dev) (h : Nat) (f : Hart → Hart) : (updHart d h f).sync = d.sync := with_harts_sync d _
@[simp] theorem updHart_rootPorts (d : Dev) (h : Nat) (f : Hart → Hart) : (updHart d h f).rootPorts = d.rootPorts := with_harts_rootPorts d _
@[simp] theorem updLink_out (d : Dev) (n : Nat) (f : Link → Link) : (updLink d n f).out = d.out := with_links_out d _
@[simp] theorem updLink_freeCtr (d : Dev) (n : Nat) (f : Link → Link) : (updLink d n f).freeCtr = d.freeCtr := with_links_freeCtr d _
@[simp] theorem updLink_now (d : Dev) (n : Nat) (f : Link → Link) : (updLink d n f).now = d.now := with_links_now d _
@[simp] theorem updLink_pins (d : Dev) (n : Nat) (f : Link → Link) : (updLink d n f).pins = d.pins := with_links_pins d _
@[simp] theorem updLink_fuses (d : Dev) (n : Nat) (f : Link → Link) : (updLink d n f).fuses = d.fuses := with_links_fuses d _
@[simp] theorem updLink_boot (d : Dev) (n : Nat) (f : Link → Link) : (updLink d n f).boot = d.boot := with_links_boot d _
@[simp] theorem updLink_list (d : Dev) (n : Nat) (f : Link → Link) : (updLink d n f).list = d.list := with_links_list d _
@[simp] theorem updLink_kerf (d : Dev) (n : Nat) (f : Link → Link) : (updLink d n f).kerf = d.kerf := with_links_kerf d _
@[simp] theorem updLink_harts (d : Dev) (n : Nat) (f : Link → Link) : (updLink d n f).harts = d.harts := with_links_harts d _
@[simp] theorem updLink_jig (d : Dev) (n : Nat) (f : Link → Link) : (updLink d n f).jig = d.jig := with_links_jig d _
@[simp] theorem updLink_holdover (d : Dev) (n : Nat) (f : Link → Link) : (updLink d n f).holdover = d.holdover := with_links_holdover d _
@[simp] theorem updLink_sites (d : Dev) (n : Nat) (f : Link → Link) : (updLink d n f).sites = d.sites := with_links_sites d _
@[simp] theorem updLink_dies (d : Dev) (n : Nat) (f : Link → Link) : (updLink d n f).dies = d.dies := with_links_dies d _
@[simp] theorem updLink_slices (d : Dev) (n : Nat) (f : Link → Link) : (updLink d n f).slices = d.slices := with_links_slices d _
@[simp] theorem updLink_flight (d : Dev) (n : Nat) (f : Link → Link) : (updLink d n f).flight = d.flight := with_links_flight d _
@[simp] theorem updLink_mem (d : Dev) (n : Nat) (f : Link → Link) : (updLink d n f).mem = d.mem := with_links_mem d _
@[simp] theorem updLink_memGen (d : Dev) (n : Nat) (f : Link → Link) : (updLink d n f).memGen = d.memGen := with_links_memGen d _
@[simp] theorem updLink_poison (d : Dev) (n : Nat) (f : Link → Link) : (updLink d n f).poison = d.poison := with_links_poison d _
@[simp] theorem updLink_msc (d : Dev) (n : Nat) (f : Link → Link) : (updLink d n f).msc = d.msc := with_links_msc d _
@[simp] theorem updLink_mscs (d : Dev) (n : Nat) (f : Link → Link) : (updLink d n f).mscs = d.mscs := with_links_mscs d _
@[simp] theorem updLink_maint (d : Dev) (n : Nat) (f : Link → Link) : (updLink d n f).maint = d.maint := with_links_maint d _
@[simp] theorem updLink_chans (d : Dev) (n : Nat) (f : Link → Link) : (updLink d n f).chans = d.chans := with_links_chans d _
@[simp] theorem updLink_subs (d : Dev) (n : Nat) (f : Link → Link) : (updLink d n f).subs = d.subs := with_links_subs d _
@[simp] theorem updLink_cxlState (d : Dev) (n : Nat) (f : Link → Link) : (updLink d n f).cxlState = d.cxlState := with_links_cxlState d _
@[simp] theorem updLink_cxlWait (d : Dev) (n : Nat) (f : Link → Link) : (updLink d n f).cxlWait = d.cxlWait := with_links_cxlWait d _
@[simp] theorem updLink_obs (d : Dev) (n : Nat) (f : Link → Link) : (updLink d n f).obs = d.obs := with_links_obs d _
@[simp] theorem updLink_mirror (d : Dev) (n : Nat) (f : Link → Link) : (updLink d n f).mirror = d.mirror := with_links_mirror d _
@[simp] theorem updLink_takeover (d : Dev) (n : Nat) (f : Link → Link) : (updLink d n f).takeover = d.takeover := with_links_takeover d _
@[simp] theorem updLink_pot (d : Dev) (n : Nat) (f : Link → Link) : (updLink d n f).pot = d.pot := with_links_pot d _
@[simp] theorem updLink_encl (d : Dev) (n : Nat) (f : Link → Link) : (updLink d n f).encl = d.encl := with_links_encl d _
@[simp] theorem updLink_cmds (d : Dev) (n : Nat) (f : Link → Link) : (updLink d n f).cmds = d.cmds := with_links_cmds d _
@[simp] theorem updLink_holds (d : Dev) (n : Nat) (f : Link → Link) : (updLink d n f).holds = d.holds := with_links_holds d _
@[simp] theorem updLink_holdUnits (d : Dev) (n : Nat) (f : Link → Link) : (updLink d n f).holdUnits = d.holdUnits := with_links_holdUnits d _
@[simp] theorem updLink_reports (d : Dev) (n : Nat) (f : Link → Link) : (updLink d n f).reports = d.reports := with_links_reports d _
@[simp] theorem updLink_spad (d : Dev) (n : Nat) (f : Link → Link) : (updLink d n f).spad = d.spad := with_links_spad d _
@[simp] theorem updLink_fatal (d : Dev) (n : Nat) (f : Link → Link) : (updLink d n f).fatal = d.fatal := with_links_fatal d _
@[simp] theorem updLink_benches (d : Dev) (n : Nat) (f : Link → Link) : (updLink d n f).benches = d.benches := with_links_benches d _
@[simp] theorem updLink_ledger (d : Dev) (n : Nat) (f : Link → Link) : (updLink d n f).ledger = d.ledger := with_links_ledger d _
@[simp] theorem updLink_iommu (d : Dev) (n : Nat) (f : Link → Link) : (updLink d n f).iommu = d.iommu := with_links_iommu d _
@[simp] theorem updLink_gauge (d : Dev) (n : Nat) (f : Link → Link) : (updLink d n f).gauge = d.gauge := with_links_gauge d _
@[simp] theorem updLink_seg (d : Dev) (n : Nat) (f : Link → Link) : (updLink d n f).seg = d.seg := with_links_seg d _
@[simp] theorem updLink_sync (d : Dev) (n : Nat) (f : Link → Link) : (updLink d n f).sync = d.sync := with_links_sync d _
@[simp] theorem updLink_rootPorts (d : Dev) (n : Nat) (f : Link → Link) : (updLink d n f).rootPorts = d.rootPorts := with_links_rootPorts d _
@[simp] theorem updDie_out (d : Dev) (n : Nat) (f : Die → Die) : (updDie d n f).out = d.out := with_dies_out d _
@[simp] theorem updDie_freeCtr (d : Dev) (n : Nat) (f : Die → Die) : (updDie d n f).freeCtr = d.freeCtr := with_dies_freeCtr d _
@[simp] theorem updDie_now (d : Dev) (n : Nat) (f : Die → Die) : (updDie d n f).now = d.now := with_dies_now d _
@[simp] theorem updDie_pins (d : Dev) (n : Nat) (f : Die → Die) : (updDie d n f).pins = d.pins := with_dies_pins d _
@[simp] theorem updDie_fuses (d : Dev) (n : Nat) (f : Die → Die) : (updDie d n f).fuses = d.fuses := with_dies_fuses d _
@[simp] theorem updDie_boot (d : Dev) (n : Nat) (f : Die → Die) : (updDie d n f).boot = d.boot := with_dies_boot d _
@[simp] theorem updDie_list (d : Dev) (n : Nat) (f : Die → Die) : (updDie d n f).list = d.list := with_dies_list d _
@[simp] theorem updDie_kerf (d : Dev) (n : Nat) (f : Die → Die) : (updDie d n f).kerf = d.kerf := with_dies_kerf d _
@[simp] theorem updDie_harts (d : Dev) (n : Nat) (f : Die → Die) : (updDie d n f).harts = d.harts := with_dies_harts d _
@[simp] theorem updDie_links (d : Dev) (n : Nat) (f : Die → Die) : (updDie d n f).links = d.links := with_dies_links d _
@[simp] theorem updDie_jig (d : Dev) (n : Nat) (f : Die → Die) : (updDie d n f).jig = d.jig := with_dies_jig d _
@[simp] theorem updDie_holdover (d : Dev) (n : Nat) (f : Die → Die) : (updDie d n f).holdover = d.holdover := with_dies_holdover d _
@[simp] theorem updDie_sites (d : Dev) (n : Nat) (f : Die → Die) : (updDie d n f).sites = d.sites := with_dies_sites d _
@[simp] theorem updDie_slices (d : Dev) (n : Nat) (f : Die → Die) : (updDie d n f).slices = d.slices := with_dies_slices d _
@[simp] theorem updDie_flight (d : Dev) (n : Nat) (f : Die → Die) : (updDie d n f).flight = d.flight := with_dies_flight d _
@[simp] theorem updDie_mem (d : Dev) (n : Nat) (f : Die → Die) : (updDie d n f).mem = d.mem := with_dies_mem d _
@[simp] theorem updDie_memGen (d : Dev) (n : Nat) (f : Die → Die) : (updDie d n f).memGen = d.memGen := with_dies_memGen d _
@[simp] theorem updDie_poison (d : Dev) (n : Nat) (f : Die → Die) : (updDie d n f).poison = d.poison := with_dies_poison d _
@[simp] theorem updDie_msc (d : Dev) (n : Nat) (f : Die → Die) : (updDie d n f).msc = d.msc := with_dies_msc d _
@[simp] theorem updDie_mscs (d : Dev) (n : Nat) (f : Die → Die) : (updDie d n f).mscs = d.mscs := with_dies_mscs d _
@[simp] theorem updDie_maint (d : Dev) (n : Nat) (f : Die → Die) : (updDie d n f).maint = d.maint := with_dies_maint d _
@[simp] theorem updDie_chans (d : Dev) (n : Nat) (f : Die → Die) : (updDie d n f).chans = d.chans := with_dies_chans d _
@[simp] theorem updDie_subs (d : Dev) (n : Nat) (f : Die → Die) : (updDie d n f).subs = d.subs := with_dies_subs d _
@[simp] theorem updDie_cxlState (d : Dev) (n : Nat) (f : Die → Die) : (updDie d n f).cxlState = d.cxlState := with_dies_cxlState d _
@[simp] theorem updDie_cxlWait (d : Dev) (n : Nat) (f : Die → Die) : (updDie d n f).cxlWait = d.cxlWait := with_dies_cxlWait d _
@[simp] theorem updDie_obs (d : Dev) (n : Nat) (f : Die → Die) : (updDie d n f).obs = d.obs := with_dies_obs d _
@[simp] theorem updDie_mirror (d : Dev) (n : Nat) (f : Die → Die) : (updDie d n f).mirror = d.mirror := with_dies_mirror d _
@[simp] theorem updDie_takeover (d : Dev) (n : Nat) (f : Die → Die) : (updDie d n f).takeover = d.takeover := with_dies_takeover d _
@[simp] theorem updDie_pot (d : Dev) (n : Nat) (f : Die → Die) : (updDie d n f).pot = d.pot := with_dies_pot d _
@[simp] theorem updDie_encl (d : Dev) (n : Nat) (f : Die → Die) : (updDie d n f).encl = d.encl := with_dies_encl d _
@[simp] theorem updDie_cmds (d : Dev) (n : Nat) (f : Die → Die) : (updDie d n f).cmds = d.cmds := with_dies_cmds d _
@[simp] theorem updDie_holds (d : Dev) (n : Nat) (f : Die → Die) : (updDie d n f).holds = d.holds := with_dies_holds d _
@[simp] theorem updDie_holdUnits (d : Dev) (n : Nat) (f : Die → Die) : (updDie d n f).holdUnits = d.holdUnits := with_dies_holdUnits d _
@[simp] theorem updDie_reports (d : Dev) (n : Nat) (f : Die → Die) : (updDie d n f).reports = d.reports := with_dies_reports d _
@[simp] theorem updDie_spad (d : Dev) (n : Nat) (f : Die → Die) : (updDie d n f).spad = d.spad := with_dies_spad d _
@[simp] theorem updDie_fatal (d : Dev) (n : Nat) (f : Die → Die) : (updDie d n f).fatal = d.fatal := with_dies_fatal d _
@[simp] theorem updDie_benches (d : Dev) (n : Nat) (f : Die → Die) : (updDie d n f).benches = d.benches := with_dies_benches d _
@[simp] theorem updDie_ledger (d : Dev) (n : Nat) (f : Die → Die) : (updDie d n f).ledger = d.ledger := with_dies_ledger d _
@[simp] theorem updDie_iommu (d : Dev) (n : Nat) (f : Die → Die) : (updDie d n f).iommu = d.iommu := with_dies_iommu d _
@[simp] theorem updDie_gauge (d : Dev) (n : Nat) (f : Die → Die) : (updDie d n f).gauge = d.gauge := with_dies_gauge d _
@[simp] theorem updDie_seg (d : Dev) (n : Nat) (f : Die → Die) : (updDie d n f).seg = d.seg := with_dies_seg d _
@[simp] theorem updDie_sync (d : Dev) (n : Nat) (f : Die → Die) : (updDie d n f).sync = d.sync := with_dies_sync d _
@[simp] theorem updDie_rootPorts (d : Dev) (n : Nat) (f : Die → Die) : (updDie d n f).rootPorts = d.rootPorts := with_dies_rootPorts d _
@[simp] theorem updSlice_out (d : Dev) (n : Nat) (f : SliceSt → SliceSt) : (updSlice d n f).out = d.out := with_slices_out d _
@[simp] theorem updSlice_freeCtr (d : Dev) (n : Nat) (f : SliceSt → SliceSt) : (updSlice d n f).freeCtr = d.freeCtr := with_slices_freeCtr d _
@[simp] theorem updSlice_now (d : Dev) (n : Nat) (f : SliceSt → SliceSt) : (updSlice d n f).now = d.now := with_slices_now d _
@[simp] theorem updSlice_pins (d : Dev) (n : Nat) (f : SliceSt → SliceSt) : (updSlice d n f).pins = d.pins := with_slices_pins d _
@[simp] theorem updSlice_fuses (d : Dev) (n : Nat) (f : SliceSt → SliceSt) : (updSlice d n f).fuses = d.fuses := with_slices_fuses d _
@[simp] theorem updSlice_boot (d : Dev) (n : Nat) (f : SliceSt → SliceSt) : (updSlice d n f).boot = d.boot := with_slices_boot d _
@[simp] theorem updSlice_list (d : Dev) (n : Nat) (f : SliceSt → SliceSt) : (updSlice d n f).list = d.list := with_slices_list d _
@[simp] theorem updSlice_kerf (d : Dev) (n : Nat) (f : SliceSt → SliceSt) : (updSlice d n f).kerf = d.kerf := with_slices_kerf d _
@[simp] theorem updSlice_harts (d : Dev) (n : Nat) (f : SliceSt → SliceSt) : (updSlice d n f).harts = d.harts := with_slices_harts d _
@[simp] theorem updSlice_links (d : Dev) (n : Nat) (f : SliceSt → SliceSt) : (updSlice d n f).links = d.links := with_slices_links d _
@[simp] theorem updSlice_jig (d : Dev) (n : Nat) (f : SliceSt → SliceSt) : (updSlice d n f).jig = d.jig := with_slices_jig d _
@[simp] theorem updSlice_holdover (d : Dev) (n : Nat) (f : SliceSt → SliceSt) : (updSlice d n f).holdover = d.holdover := with_slices_holdover d _
@[simp] theorem updSlice_sites (d : Dev) (n : Nat) (f : SliceSt → SliceSt) : (updSlice d n f).sites = d.sites := with_slices_sites d _
@[simp] theorem updSlice_dies (d : Dev) (n : Nat) (f : SliceSt → SliceSt) : (updSlice d n f).dies = d.dies := with_slices_dies d _
@[simp] theorem updSlice_flight (d : Dev) (n : Nat) (f : SliceSt → SliceSt) : (updSlice d n f).flight = d.flight := with_slices_flight d _
@[simp] theorem updSlice_mem (d : Dev) (n : Nat) (f : SliceSt → SliceSt) : (updSlice d n f).mem = d.mem := with_slices_mem d _
@[simp] theorem updSlice_memGen (d : Dev) (n : Nat) (f : SliceSt → SliceSt) : (updSlice d n f).memGen = d.memGen := with_slices_memGen d _
@[simp] theorem updSlice_poison (d : Dev) (n : Nat) (f : SliceSt → SliceSt) : (updSlice d n f).poison = d.poison := with_slices_poison d _
@[simp] theorem updSlice_msc (d : Dev) (n : Nat) (f : SliceSt → SliceSt) : (updSlice d n f).msc = d.msc := with_slices_msc d _
@[simp] theorem updSlice_mscs (d : Dev) (n : Nat) (f : SliceSt → SliceSt) : (updSlice d n f).mscs = d.mscs := with_slices_mscs d _
@[simp] theorem updSlice_maint (d : Dev) (n : Nat) (f : SliceSt → SliceSt) : (updSlice d n f).maint = d.maint := with_slices_maint d _
@[simp] theorem updSlice_chans (d : Dev) (n : Nat) (f : SliceSt → SliceSt) : (updSlice d n f).chans = d.chans := with_slices_chans d _
@[simp] theorem updSlice_subs (d : Dev) (n : Nat) (f : SliceSt → SliceSt) : (updSlice d n f).subs = d.subs := with_slices_subs d _
@[simp] theorem updSlice_cxlState (d : Dev) (n : Nat) (f : SliceSt → SliceSt) : (updSlice d n f).cxlState = d.cxlState := with_slices_cxlState d _
@[simp] theorem updSlice_cxlWait (d : Dev) (n : Nat) (f : SliceSt → SliceSt) : (updSlice d n f).cxlWait = d.cxlWait := with_slices_cxlWait d _
@[simp] theorem updSlice_obs (d : Dev) (n : Nat) (f : SliceSt → SliceSt) : (updSlice d n f).obs = d.obs := with_slices_obs d _
@[simp] theorem updSlice_mirror (d : Dev) (n : Nat) (f : SliceSt → SliceSt) : (updSlice d n f).mirror = d.mirror := with_slices_mirror d _
@[simp] theorem updSlice_takeover (d : Dev) (n : Nat) (f : SliceSt → SliceSt) : (updSlice d n f).takeover = d.takeover := with_slices_takeover d _
@[simp] theorem updSlice_pot (d : Dev) (n : Nat) (f : SliceSt → SliceSt) : (updSlice d n f).pot = d.pot := with_slices_pot d _
@[simp] theorem updSlice_encl (d : Dev) (n : Nat) (f : SliceSt → SliceSt) : (updSlice d n f).encl = d.encl := with_slices_encl d _
@[simp] theorem updSlice_cmds (d : Dev) (n : Nat) (f : SliceSt → SliceSt) : (updSlice d n f).cmds = d.cmds := with_slices_cmds d _
@[simp] theorem updSlice_holds (d : Dev) (n : Nat) (f : SliceSt → SliceSt) : (updSlice d n f).holds = d.holds := with_slices_holds d _
@[simp] theorem updSlice_holdUnits (d : Dev) (n : Nat) (f : SliceSt → SliceSt) : (updSlice d n f).holdUnits = d.holdUnits := with_slices_holdUnits d _
@[simp] theorem updSlice_reports (d : Dev) (n : Nat) (f : SliceSt → SliceSt) : (updSlice d n f).reports = d.reports := with_slices_reports d _
@[simp] theorem updSlice_spad (d : Dev) (n : Nat) (f : SliceSt → SliceSt) : (updSlice d n f).spad = d.spad := with_slices_spad d _
@[simp] theorem updSlice_fatal (d : Dev) (n : Nat) (f : SliceSt → SliceSt) : (updSlice d n f).fatal = d.fatal := with_slices_fatal d _
@[simp] theorem updSlice_benches (d : Dev) (n : Nat) (f : SliceSt → SliceSt) : (updSlice d n f).benches = d.benches := with_slices_benches d _
@[simp] theorem updSlice_ledger (d : Dev) (n : Nat) (f : SliceSt → SliceSt) : (updSlice d n f).ledger = d.ledger := with_slices_ledger d _
@[simp] theorem updSlice_iommu (d : Dev) (n : Nat) (f : SliceSt → SliceSt) : (updSlice d n f).iommu = d.iommu := with_slices_iommu d _
@[simp] theorem updSlice_gauge (d : Dev) (n : Nat) (f : SliceSt → SliceSt) : (updSlice d n f).gauge = d.gauge := with_slices_gauge d _
@[simp] theorem updSlice_seg (d : Dev) (n : Nat) (f : SliceSt → SliceSt) : (updSlice d n f).seg = d.seg := with_slices_seg d _
@[simp] theorem updSlice_sync (d : Dev) (n : Nat) (f : SliceSt → SliceSt) : (updSlice d n f).sync = d.sync := with_slices_sync d _
@[simp] theorem updSlice_rootPorts (d : Dev) (n : Nat) (f : SliceSt → SliceSt) : (updSlice d n f).rootPorts = d.rootPorts := with_slices_rootPorts d _
@[simp] theorem updMsc_out (d : Dev) (n : Nat) (f : MscSt → MscSt) : (updMsc d n f).out = d.out := with_mscs_out d _
@[simp] theorem updMsc_freeCtr (d : Dev) (n : Nat) (f : MscSt → MscSt) : (updMsc d n f).freeCtr = d.freeCtr := with_mscs_freeCtr d _
@[simp] theorem updMsc_now (d : Dev) (n : Nat) (f : MscSt → MscSt) : (updMsc d n f).now = d.now := with_mscs_now d _
@[simp] theorem updMsc_pins (d : Dev) (n : Nat) (f : MscSt → MscSt) : (updMsc d n f).pins = d.pins := with_mscs_pins d _
@[simp] theorem updMsc_fuses (d : Dev) (n : Nat) (f : MscSt → MscSt) : (updMsc d n f).fuses = d.fuses := with_mscs_fuses d _
@[simp] theorem updMsc_boot (d : Dev) (n : Nat) (f : MscSt → MscSt) : (updMsc d n f).boot = d.boot := with_mscs_boot d _
@[simp] theorem updMsc_list (d : Dev) (n : Nat) (f : MscSt → MscSt) : (updMsc d n f).list = d.list := with_mscs_list d _
@[simp] theorem updMsc_kerf (d : Dev) (n : Nat) (f : MscSt → MscSt) : (updMsc d n f).kerf = d.kerf := with_mscs_kerf d _
@[simp] theorem updMsc_harts (d : Dev) (n : Nat) (f : MscSt → MscSt) : (updMsc d n f).harts = d.harts := with_mscs_harts d _
@[simp] theorem updMsc_links (d : Dev) (n : Nat) (f : MscSt → MscSt) : (updMsc d n f).links = d.links := with_mscs_links d _
@[simp] theorem updMsc_jig (d : Dev) (n : Nat) (f : MscSt → MscSt) : (updMsc d n f).jig = d.jig := with_mscs_jig d _
@[simp] theorem updMsc_holdover (d : Dev) (n : Nat) (f : MscSt → MscSt) : (updMsc d n f).holdover = d.holdover := with_mscs_holdover d _
@[simp] theorem updMsc_sites (d : Dev) (n : Nat) (f : MscSt → MscSt) : (updMsc d n f).sites = d.sites := with_mscs_sites d _
@[simp] theorem updMsc_dies (d : Dev) (n : Nat) (f : MscSt → MscSt) : (updMsc d n f).dies = d.dies := with_mscs_dies d _
@[simp] theorem updMsc_slices (d : Dev) (n : Nat) (f : MscSt → MscSt) : (updMsc d n f).slices = d.slices := with_mscs_slices d _
@[simp] theorem updMsc_flight (d : Dev) (n : Nat) (f : MscSt → MscSt) : (updMsc d n f).flight = d.flight := with_mscs_flight d _
@[simp] theorem updMsc_mem (d : Dev) (n : Nat) (f : MscSt → MscSt) : (updMsc d n f).mem = d.mem := with_mscs_mem d _
@[simp] theorem updMsc_memGen (d : Dev) (n : Nat) (f : MscSt → MscSt) : (updMsc d n f).memGen = d.memGen := with_mscs_memGen d _
@[simp] theorem updMsc_poison (d : Dev) (n : Nat) (f : MscSt → MscSt) : (updMsc d n f).poison = d.poison := with_mscs_poison d _
@[simp] theorem updMsc_msc (d : Dev) (n : Nat) (f : MscSt → MscSt) : (updMsc d n f).msc = d.msc := with_mscs_msc d _
@[simp] theorem updMsc_maint (d : Dev) (n : Nat) (f : MscSt → MscSt) : (updMsc d n f).maint = d.maint := with_mscs_maint d _
@[simp] theorem updMsc_chans (d : Dev) (n : Nat) (f : MscSt → MscSt) : (updMsc d n f).chans = d.chans := with_mscs_chans d _
@[simp] theorem updMsc_subs (d : Dev) (n : Nat) (f : MscSt → MscSt) : (updMsc d n f).subs = d.subs := with_mscs_subs d _
@[simp] theorem updMsc_cxlState (d : Dev) (n : Nat) (f : MscSt → MscSt) : (updMsc d n f).cxlState = d.cxlState := with_mscs_cxlState d _
@[simp] theorem updMsc_cxlWait (d : Dev) (n : Nat) (f : MscSt → MscSt) : (updMsc d n f).cxlWait = d.cxlWait := with_mscs_cxlWait d _
@[simp] theorem updMsc_obs (d : Dev) (n : Nat) (f : MscSt → MscSt) : (updMsc d n f).obs = d.obs := with_mscs_obs d _
@[simp] theorem updMsc_mirror (d : Dev) (n : Nat) (f : MscSt → MscSt) : (updMsc d n f).mirror = d.mirror := with_mscs_mirror d _
@[simp] theorem updMsc_takeover (d : Dev) (n : Nat) (f : MscSt → MscSt) : (updMsc d n f).takeover = d.takeover := with_mscs_takeover d _
@[simp] theorem updMsc_pot (d : Dev) (n : Nat) (f : MscSt → MscSt) : (updMsc d n f).pot = d.pot := with_mscs_pot d _
@[simp] theorem updMsc_encl (d : Dev) (n : Nat) (f : MscSt → MscSt) : (updMsc d n f).encl = d.encl := with_mscs_encl d _
@[simp] theorem updMsc_cmds (d : Dev) (n : Nat) (f : MscSt → MscSt) : (updMsc d n f).cmds = d.cmds := with_mscs_cmds d _
@[simp] theorem updMsc_holds (d : Dev) (n : Nat) (f : MscSt → MscSt) : (updMsc d n f).holds = d.holds := with_mscs_holds d _
@[simp] theorem updMsc_holdUnits (d : Dev) (n : Nat) (f : MscSt → MscSt) : (updMsc d n f).holdUnits = d.holdUnits := with_mscs_holdUnits d _
@[simp] theorem updMsc_reports (d : Dev) (n : Nat) (f : MscSt → MscSt) : (updMsc d n f).reports = d.reports := with_mscs_reports d _
@[simp] theorem updMsc_spad (d : Dev) (n : Nat) (f : MscSt → MscSt) : (updMsc d n f).spad = d.spad := with_mscs_spad d _
@[simp] theorem updMsc_fatal (d : Dev) (n : Nat) (f : MscSt → MscSt) : (updMsc d n f).fatal = d.fatal := with_mscs_fatal d _
@[simp] theorem updMsc_benches (d : Dev) (n : Nat) (f : MscSt → MscSt) : (updMsc d n f).benches = d.benches := with_mscs_benches d _
@[simp] theorem updMsc_ledger (d : Dev) (n : Nat) (f : MscSt → MscSt) : (updMsc d n f).ledger = d.ledger := with_mscs_ledger d _
@[simp] theorem updMsc_iommu (d : Dev) (n : Nat) (f : MscSt → MscSt) : (updMsc d n f).iommu = d.iommu := with_mscs_iommu d _
@[simp] theorem updMsc_gauge (d : Dev) (n : Nat) (f : MscSt → MscSt) : (updMsc d n f).gauge = d.gauge := with_mscs_gauge d _
@[simp] theorem updMsc_seg (d : Dev) (n : Nat) (f : MscSt → MscSt) : (updMsc d n f).seg = d.seg := with_mscs_seg d _
@[simp] theorem updMsc_sync (d : Dev) (n : Nat) (f : MscSt → MscSt) : (updMsc d n f).sync = d.sync := with_mscs_sync d _
@[simp] theorem updMsc_rootPorts (d : Dev) (n : Nat) (f : MscSt → MscSt) : (updMsc d n f).rootPorts = d.rootPorts := with_mscs_rootPorts d _
@[simp] theorem updChan_out (d : Dev) (n : Nat) (f : ChanSt → ChanSt) : (updChan d n f).out = d.out := with_chans_out d _
@[simp] theorem updChan_freeCtr (d : Dev) (n : Nat) (f : ChanSt → ChanSt) : (updChan d n f).freeCtr = d.freeCtr := with_chans_freeCtr d _
@[simp] theorem updChan_now (d : Dev) (n : Nat) (f : ChanSt → ChanSt) : (updChan d n f).now = d.now := with_chans_now d _
@[simp] theorem updChan_pins (d : Dev) (n : Nat) (f : ChanSt → ChanSt) : (updChan d n f).pins = d.pins := with_chans_pins d _
@[simp] theorem updChan_fuses (d : Dev) (n : Nat) (f : ChanSt → ChanSt) : (updChan d n f).fuses = d.fuses := with_chans_fuses d _
@[simp] theorem updChan_boot (d : Dev) (n : Nat) (f : ChanSt → ChanSt) : (updChan d n f).boot = d.boot := with_chans_boot d _
@[simp] theorem updChan_list (d : Dev) (n : Nat) (f : ChanSt → ChanSt) : (updChan d n f).list = d.list := with_chans_list d _
@[simp] theorem updChan_kerf (d : Dev) (n : Nat) (f : ChanSt → ChanSt) : (updChan d n f).kerf = d.kerf := with_chans_kerf d _
@[simp] theorem updChan_harts (d : Dev) (n : Nat) (f : ChanSt → ChanSt) : (updChan d n f).harts = d.harts := with_chans_harts d _
@[simp] theorem updChan_links (d : Dev) (n : Nat) (f : ChanSt → ChanSt) : (updChan d n f).links = d.links := with_chans_links d _
@[simp] theorem updChan_jig (d : Dev) (n : Nat) (f : ChanSt → ChanSt) : (updChan d n f).jig = d.jig := with_chans_jig d _
@[simp] theorem updChan_holdover (d : Dev) (n : Nat) (f : ChanSt → ChanSt) : (updChan d n f).holdover = d.holdover := with_chans_holdover d _
@[simp] theorem updChan_sites (d : Dev) (n : Nat) (f : ChanSt → ChanSt) : (updChan d n f).sites = d.sites := with_chans_sites d _
@[simp] theorem updChan_dies (d : Dev) (n : Nat) (f : ChanSt → ChanSt) : (updChan d n f).dies = d.dies := with_chans_dies d _
@[simp] theorem updChan_slices (d : Dev) (n : Nat) (f : ChanSt → ChanSt) : (updChan d n f).slices = d.slices := with_chans_slices d _
@[simp] theorem updChan_flight (d : Dev) (n : Nat) (f : ChanSt → ChanSt) : (updChan d n f).flight = d.flight := with_chans_flight d _
@[simp] theorem updChan_mem (d : Dev) (n : Nat) (f : ChanSt → ChanSt) : (updChan d n f).mem = d.mem := with_chans_mem d _
@[simp] theorem updChan_memGen (d : Dev) (n : Nat) (f : ChanSt → ChanSt) : (updChan d n f).memGen = d.memGen := with_chans_memGen d _
@[simp] theorem updChan_poison (d : Dev) (n : Nat) (f : ChanSt → ChanSt) : (updChan d n f).poison = d.poison := with_chans_poison d _
@[simp] theorem updChan_msc (d : Dev) (n : Nat) (f : ChanSt → ChanSt) : (updChan d n f).msc = d.msc := with_chans_msc d _
@[simp] theorem updChan_mscs (d : Dev) (n : Nat) (f : ChanSt → ChanSt) : (updChan d n f).mscs = d.mscs := with_chans_mscs d _
@[simp] theorem updChan_maint (d : Dev) (n : Nat) (f : ChanSt → ChanSt) : (updChan d n f).maint = d.maint := with_chans_maint d _
@[simp] theorem updChan_subs (d : Dev) (n : Nat) (f : ChanSt → ChanSt) : (updChan d n f).subs = d.subs := with_chans_subs d _
@[simp] theorem updChan_cxlState (d : Dev) (n : Nat) (f : ChanSt → ChanSt) : (updChan d n f).cxlState = d.cxlState := with_chans_cxlState d _
@[simp] theorem updChan_cxlWait (d : Dev) (n : Nat) (f : ChanSt → ChanSt) : (updChan d n f).cxlWait = d.cxlWait := with_chans_cxlWait d _
@[simp] theorem updChan_obs (d : Dev) (n : Nat) (f : ChanSt → ChanSt) : (updChan d n f).obs = d.obs := with_chans_obs d _
@[simp] theorem updChan_mirror (d : Dev) (n : Nat) (f : ChanSt → ChanSt) : (updChan d n f).mirror = d.mirror := with_chans_mirror d _
@[simp] theorem updChan_takeover (d : Dev) (n : Nat) (f : ChanSt → ChanSt) : (updChan d n f).takeover = d.takeover := with_chans_takeover d _
@[simp] theorem updChan_pot (d : Dev) (n : Nat) (f : ChanSt → ChanSt) : (updChan d n f).pot = d.pot := with_chans_pot d _
@[simp] theorem updChan_encl (d : Dev) (n : Nat) (f : ChanSt → ChanSt) : (updChan d n f).encl = d.encl := with_chans_encl d _
@[simp] theorem updChan_cmds (d : Dev) (n : Nat) (f : ChanSt → ChanSt) : (updChan d n f).cmds = d.cmds := with_chans_cmds d _
@[simp] theorem updChan_holds (d : Dev) (n : Nat) (f : ChanSt → ChanSt) : (updChan d n f).holds = d.holds := with_chans_holds d _
@[simp] theorem updChan_holdUnits (d : Dev) (n : Nat) (f : ChanSt → ChanSt) : (updChan d n f).holdUnits = d.holdUnits := with_chans_holdUnits d _
@[simp] theorem updChan_reports (d : Dev) (n : Nat) (f : ChanSt → ChanSt) : (updChan d n f).reports = d.reports := with_chans_reports d _
@[simp] theorem updChan_spad (d : Dev) (n : Nat) (f : ChanSt → ChanSt) : (updChan d n f).spad = d.spad := with_chans_spad d _
@[simp] theorem updChan_fatal (d : Dev) (n : Nat) (f : ChanSt → ChanSt) : (updChan d n f).fatal = d.fatal := with_chans_fatal d _
@[simp] theorem updChan_benches (d : Dev) (n : Nat) (f : ChanSt → ChanSt) : (updChan d n f).benches = d.benches := with_chans_benches d _
@[simp] theorem updChan_ledger (d : Dev) (n : Nat) (f : ChanSt → ChanSt) : (updChan d n f).ledger = d.ledger := with_chans_ledger d _
@[simp] theorem updChan_iommu (d : Dev) (n : Nat) (f : ChanSt → ChanSt) : (updChan d n f).iommu = d.iommu := with_chans_iommu d _
@[simp] theorem updChan_gauge (d : Dev) (n : Nat) (f : ChanSt → ChanSt) : (updChan d n f).gauge = d.gauge := with_chans_gauge d _
@[simp] theorem updChan_seg (d : Dev) (n : Nat) (f : ChanSt → ChanSt) : (updChan d n f).seg = d.seg := with_chans_seg d _
@[simp] theorem updChan_sync (d : Dev) (n : Nat) (f : ChanSt → ChanSt) : (updChan d n f).sync = d.sync := with_chans_sync d _
@[simp] theorem updChan_rootPorts (d : Dev) (n : Nat) (f : ChanSt → ChanSt) : (updChan d n f).rootPorts = d.rootPorts := with_chans_rootPorts d _
@[simp] theorem updSub_out (d : Dev) (n : Nat) (f : SubSt → SubSt) : (updSub d n f).out = d.out := with_subs_out d _
@[simp] theorem updSub_freeCtr (d : Dev) (n : Nat) (f : SubSt → SubSt) : (updSub d n f).freeCtr = d.freeCtr := with_subs_freeCtr d _
@[simp] theorem updSub_now (d : Dev) (n : Nat) (f : SubSt → SubSt) : (updSub d n f).now = d.now := with_subs_now d _
@[simp] theorem updSub_pins (d : Dev) (n : Nat) (f : SubSt → SubSt) : (updSub d n f).pins = d.pins := with_subs_pins d _
@[simp] theorem updSub_fuses (d : Dev) (n : Nat) (f : SubSt → SubSt) : (updSub d n f).fuses = d.fuses := with_subs_fuses d _
@[simp] theorem updSub_boot (d : Dev) (n : Nat) (f : SubSt → SubSt) : (updSub d n f).boot = d.boot := with_subs_boot d _
@[simp] theorem updSub_list (d : Dev) (n : Nat) (f : SubSt → SubSt) : (updSub d n f).list = d.list := with_subs_list d _
@[simp] theorem updSub_kerf (d : Dev) (n : Nat) (f : SubSt → SubSt) : (updSub d n f).kerf = d.kerf := with_subs_kerf d _
@[simp] theorem updSub_harts (d : Dev) (n : Nat) (f : SubSt → SubSt) : (updSub d n f).harts = d.harts := with_subs_harts d _
@[simp] theorem updSub_links (d : Dev) (n : Nat) (f : SubSt → SubSt) : (updSub d n f).links = d.links := with_subs_links d _
@[simp] theorem updSub_jig (d : Dev) (n : Nat) (f : SubSt → SubSt) : (updSub d n f).jig = d.jig := with_subs_jig d _
@[simp] theorem updSub_holdover (d : Dev) (n : Nat) (f : SubSt → SubSt) : (updSub d n f).holdover = d.holdover := with_subs_holdover d _
@[simp] theorem updSub_sites (d : Dev) (n : Nat) (f : SubSt → SubSt) : (updSub d n f).sites = d.sites := with_subs_sites d _
@[simp] theorem updSub_dies (d : Dev) (n : Nat) (f : SubSt → SubSt) : (updSub d n f).dies = d.dies := with_subs_dies d _
@[simp] theorem updSub_slices (d : Dev) (n : Nat) (f : SubSt → SubSt) : (updSub d n f).slices = d.slices := with_subs_slices d _
@[simp] theorem updSub_flight (d : Dev) (n : Nat) (f : SubSt → SubSt) : (updSub d n f).flight = d.flight := with_subs_flight d _
@[simp] theorem updSub_mem (d : Dev) (n : Nat) (f : SubSt → SubSt) : (updSub d n f).mem = d.mem := with_subs_mem d _
@[simp] theorem updSub_memGen (d : Dev) (n : Nat) (f : SubSt → SubSt) : (updSub d n f).memGen = d.memGen := with_subs_memGen d _
@[simp] theorem updSub_poison (d : Dev) (n : Nat) (f : SubSt → SubSt) : (updSub d n f).poison = d.poison := with_subs_poison d _
@[simp] theorem updSub_msc (d : Dev) (n : Nat) (f : SubSt → SubSt) : (updSub d n f).msc = d.msc := with_subs_msc d _
@[simp] theorem updSub_mscs (d : Dev) (n : Nat) (f : SubSt → SubSt) : (updSub d n f).mscs = d.mscs := with_subs_mscs d _
@[simp] theorem updSub_maint (d : Dev) (n : Nat) (f : SubSt → SubSt) : (updSub d n f).maint = d.maint := with_subs_maint d _
@[simp] theorem updSub_chans (d : Dev) (n : Nat) (f : SubSt → SubSt) : (updSub d n f).chans = d.chans := with_subs_chans d _
@[simp] theorem updSub_cxlState (d : Dev) (n : Nat) (f : SubSt → SubSt) : (updSub d n f).cxlState = d.cxlState := with_subs_cxlState d _
@[simp] theorem updSub_cxlWait (d : Dev) (n : Nat) (f : SubSt → SubSt) : (updSub d n f).cxlWait = d.cxlWait := with_subs_cxlWait d _
@[simp] theorem updSub_obs (d : Dev) (n : Nat) (f : SubSt → SubSt) : (updSub d n f).obs = d.obs := with_subs_obs d _
@[simp] theorem updSub_mirror (d : Dev) (n : Nat) (f : SubSt → SubSt) : (updSub d n f).mirror = d.mirror := with_subs_mirror d _
@[simp] theorem updSub_takeover (d : Dev) (n : Nat) (f : SubSt → SubSt) : (updSub d n f).takeover = d.takeover := with_subs_takeover d _
@[simp] theorem updSub_pot (d : Dev) (n : Nat) (f : SubSt → SubSt) : (updSub d n f).pot = d.pot := with_subs_pot d _
@[simp] theorem updSub_encl (d : Dev) (n : Nat) (f : SubSt → SubSt) : (updSub d n f).encl = d.encl := with_subs_encl d _
@[simp] theorem updSub_cmds (d : Dev) (n : Nat) (f : SubSt → SubSt) : (updSub d n f).cmds = d.cmds := with_subs_cmds d _
@[simp] theorem updSub_holds (d : Dev) (n : Nat) (f : SubSt → SubSt) : (updSub d n f).holds = d.holds := with_subs_holds d _
@[simp] theorem updSub_holdUnits (d : Dev) (n : Nat) (f : SubSt → SubSt) : (updSub d n f).holdUnits = d.holdUnits := with_subs_holdUnits d _
@[simp] theorem updSub_reports (d : Dev) (n : Nat) (f : SubSt → SubSt) : (updSub d n f).reports = d.reports := with_subs_reports d _
@[simp] theorem updSub_spad (d : Dev) (n : Nat) (f : SubSt → SubSt) : (updSub d n f).spad = d.spad := with_subs_spad d _
@[simp] theorem updSub_fatal (d : Dev) (n : Nat) (f : SubSt → SubSt) : (updSub d n f).fatal = d.fatal := with_subs_fatal d _
@[simp] theorem updSub_benches (d : Dev) (n : Nat) (f : SubSt → SubSt) : (updSub d n f).benches = d.benches := with_subs_benches d _
@[simp] theorem updSub_ledger (d : Dev) (n : Nat) (f : SubSt → SubSt) : (updSub d n f).ledger = d.ledger := with_subs_ledger d _
@[simp] theorem updSub_iommu (d : Dev) (n : Nat) (f : SubSt → SubSt) : (updSub d n f).iommu = d.iommu := with_subs_iommu d _
@[simp] theorem updSub_gauge (d : Dev) (n : Nat) (f : SubSt → SubSt) : (updSub d n f).gauge = d.gauge := with_subs_gauge d _
@[simp] theorem updSub_seg (d : Dev) (n : Nat) (f : SubSt → SubSt) : (updSub d n f).seg = d.seg := with_subs_seg d _
@[simp] theorem updSub_sync (d : Dev) (n : Nat) (f : SubSt → SubSt) : (updSub d n f).sync = d.sync := with_subs_sync d _
@[simp] theorem updSub_rootPorts (d : Dev) (n : Nat) (f : SubSt → SubSt) : (updSub d n f).rootPorts = d.rootPorts := with_subs_rootPorts d _
@[simp] theorem updSite_out (d : Dev) (n : Nat) (f : SiteSt → SiteSt) : (updSite d n f).out = d.out := with_sites_out d _
@[simp] theorem updSite_freeCtr (d : Dev) (n : Nat) (f : SiteSt → SiteSt) : (updSite d n f).freeCtr = d.freeCtr := with_sites_freeCtr d _
@[simp] theorem updSite_now (d : Dev) (n : Nat) (f : SiteSt → SiteSt) : (updSite d n f).now = d.now := with_sites_now d _
@[simp] theorem updSite_pins (d : Dev) (n : Nat) (f : SiteSt → SiteSt) : (updSite d n f).pins = d.pins := with_sites_pins d _
@[simp] theorem updSite_fuses (d : Dev) (n : Nat) (f : SiteSt → SiteSt) : (updSite d n f).fuses = d.fuses := with_sites_fuses d _
@[simp] theorem updSite_boot (d : Dev) (n : Nat) (f : SiteSt → SiteSt) : (updSite d n f).boot = d.boot := with_sites_boot d _
@[simp] theorem updSite_list (d : Dev) (n : Nat) (f : SiteSt → SiteSt) : (updSite d n f).list = d.list := with_sites_list d _
@[simp] theorem updSite_kerf (d : Dev) (n : Nat) (f : SiteSt → SiteSt) : (updSite d n f).kerf = d.kerf := with_sites_kerf d _
@[simp] theorem updSite_harts (d : Dev) (n : Nat) (f : SiteSt → SiteSt) : (updSite d n f).harts = d.harts := with_sites_harts d _
@[simp] theorem updSite_links (d : Dev) (n : Nat) (f : SiteSt → SiteSt) : (updSite d n f).links = d.links := with_sites_links d _
@[simp] theorem updSite_jig (d : Dev) (n : Nat) (f : SiteSt → SiteSt) : (updSite d n f).jig = d.jig := with_sites_jig d _
@[simp] theorem updSite_holdover (d : Dev) (n : Nat) (f : SiteSt → SiteSt) : (updSite d n f).holdover = d.holdover := with_sites_holdover d _
@[simp] theorem updSite_dies (d : Dev) (n : Nat) (f : SiteSt → SiteSt) : (updSite d n f).dies = d.dies := with_sites_dies d _
@[simp] theorem updSite_slices (d : Dev) (n : Nat) (f : SiteSt → SiteSt) : (updSite d n f).slices = d.slices := with_sites_slices d _
@[simp] theorem updSite_flight (d : Dev) (n : Nat) (f : SiteSt → SiteSt) : (updSite d n f).flight = d.flight := with_sites_flight d _
@[simp] theorem updSite_mem (d : Dev) (n : Nat) (f : SiteSt → SiteSt) : (updSite d n f).mem = d.mem := with_sites_mem d _
@[simp] theorem updSite_memGen (d : Dev) (n : Nat) (f : SiteSt → SiteSt) : (updSite d n f).memGen = d.memGen := with_sites_memGen d _
@[simp] theorem updSite_poison (d : Dev) (n : Nat) (f : SiteSt → SiteSt) : (updSite d n f).poison = d.poison := with_sites_poison d _
@[simp] theorem updSite_msc (d : Dev) (n : Nat) (f : SiteSt → SiteSt) : (updSite d n f).msc = d.msc := with_sites_msc d _
@[simp] theorem updSite_mscs (d : Dev) (n : Nat) (f : SiteSt → SiteSt) : (updSite d n f).mscs = d.mscs := with_sites_mscs d _
@[simp] theorem updSite_maint (d : Dev) (n : Nat) (f : SiteSt → SiteSt) : (updSite d n f).maint = d.maint := with_sites_maint d _
@[simp] theorem updSite_chans (d : Dev) (n : Nat) (f : SiteSt → SiteSt) : (updSite d n f).chans = d.chans := with_sites_chans d _
@[simp] theorem updSite_subs (d : Dev) (n : Nat) (f : SiteSt → SiteSt) : (updSite d n f).subs = d.subs := with_sites_subs d _
@[simp] theorem updSite_cxlState (d : Dev) (n : Nat) (f : SiteSt → SiteSt) : (updSite d n f).cxlState = d.cxlState := with_sites_cxlState d _
@[simp] theorem updSite_cxlWait (d : Dev) (n : Nat) (f : SiteSt → SiteSt) : (updSite d n f).cxlWait = d.cxlWait := with_sites_cxlWait d _
@[simp] theorem updSite_obs (d : Dev) (n : Nat) (f : SiteSt → SiteSt) : (updSite d n f).obs = d.obs := with_sites_obs d _
@[simp] theorem updSite_mirror (d : Dev) (n : Nat) (f : SiteSt → SiteSt) : (updSite d n f).mirror = d.mirror := with_sites_mirror d _
@[simp] theorem updSite_takeover (d : Dev) (n : Nat) (f : SiteSt → SiteSt) : (updSite d n f).takeover = d.takeover := with_sites_takeover d _
@[simp] theorem updSite_pot (d : Dev) (n : Nat) (f : SiteSt → SiteSt) : (updSite d n f).pot = d.pot := with_sites_pot d _
@[simp] theorem updSite_encl (d : Dev) (n : Nat) (f : SiteSt → SiteSt) : (updSite d n f).encl = d.encl := with_sites_encl d _
@[simp] theorem updSite_cmds (d : Dev) (n : Nat) (f : SiteSt → SiteSt) : (updSite d n f).cmds = d.cmds := with_sites_cmds d _
@[simp] theorem updSite_holds (d : Dev) (n : Nat) (f : SiteSt → SiteSt) : (updSite d n f).holds = d.holds := with_sites_holds d _
@[simp] theorem updSite_holdUnits (d : Dev) (n : Nat) (f : SiteSt → SiteSt) : (updSite d n f).holdUnits = d.holdUnits := with_sites_holdUnits d _
@[simp] theorem updSite_reports (d : Dev) (n : Nat) (f : SiteSt → SiteSt) : (updSite d n f).reports = d.reports := with_sites_reports d _
@[simp] theorem updSite_spad (d : Dev) (n : Nat) (f : SiteSt → SiteSt) : (updSite d n f).spad = d.spad := with_sites_spad d _
@[simp] theorem updSite_fatal (d : Dev) (n : Nat) (f : SiteSt → SiteSt) : (updSite d n f).fatal = d.fatal := with_sites_fatal d _
@[simp] theorem updSite_benches (d : Dev) (n : Nat) (f : SiteSt → SiteSt) : (updSite d n f).benches = d.benches := with_sites_benches d _
@[simp] theorem updSite_ledger (d : Dev) (n : Nat) (f : SiteSt → SiteSt) : (updSite d n f).ledger = d.ledger := with_sites_ledger d _
@[simp] theorem updSite_iommu (d : Dev) (n : Nat) (f : SiteSt → SiteSt) : (updSite d n f).iommu = d.iommu := with_sites_iommu d _
@[simp] theorem updSite_gauge (d : Dev) (n : Nat) (f : SiteSt → SiteSt) : (updSite d n f).gauge = d.gauge := with_sites_gauge d _
@[simp] theorem updSite_seg (d : Dev) (n : Nat) (f : SiteSt → SiteSt) : (updSite d n f).seg = d.seg := with_sites_seg d _
@[simp] theorem updSite_sync (d : Dev) (n : Nat) (f : SiteSt → SiteSt) : (updSite d n f).sync = d.sync := with_sites_sync d _
@[simp] theorem updSite_rootPorts (d : Dev) (n : Nat) (f : SiteSt → SiteSt) : (updSite d n f).rootPorts = d.rootPorts := with_sites_rootPorts d _
@[simp] theorem updSess_out (d : Dev) (n : Nat) (f : Session → Session) : (updSess d n f).out = d.out := with_list_out d _
@[simp] theorem updSess_freeCtr (d : Dev) (n : Nat) (f : Session → Session) : (updSess d n f).freeCtr = d.freeCtr := with_list_freeCtr d _
@[simp] theorem updSess_now (d : Dev) (n : Nat) (f : Session → Session) : (updSess d n f).now = d.now := with_list_now d _
@[simp] theorem updSess_pins (d : Dev) (n : Nat) (f : Session → Session) : (updSess d n f).pins = d.pins := with_list_pins d _
@[simp] theorem updSess_fuses (d : Dev) (n : Nat) (f : Session → Session) : (updSess d n f).fuses = d.fuses := with_list_fuses d _
@[simp] theorem updSess_boot (d : Dev) (n : Nat) (f : Session → Session) : (updSess d n f).boot = d.boot := with_list_boot d _
@[simp] theorem updSess_kerf (d : Dev) (n : Nat) (f : Session → Session) : (updSess d n f).kerf = d.kerf := with_list_kerf d _
@[simp] theorem updSess_harts (d : Dev) (n : Nat) (f : Session → Session) : (updSess d n f).harts = d.harts := with_list_harts d _
@[simp] theorem updSess_links (d : Dev) (n : Nat) (f : Session → Session) : (updSess d n f).links = d.links := with_list_links d _
@[simp] theorem updSess_jig (d : Dev) (n : Nat) (f : Session → Session) : (updSess d n f).jig = d.jig := with_list_jig d _
@[simp] theorem updSess_holdover (d : Dev) (n : Nat) (f : Session → Session) : (updSess d n f).holdover = d.holdover := with_list_holdover d _
@[simp] theorem updSess_sites (d : Dev) (n : Nat) (f : Session → Session) : (updSess d n f).sites = d.sites := with_list_sites d _
@[simp] theorem updSess_dies (d : Dev) (n : Nat) (f : Session → Session) : (updSess d n f).dies = d.dies := with_list_dies d _
@[simp] theorem updSess_slices (d : Dev) (n : Nat) (f : Session → Session) : (updSess d n f).slices = d.slices := with_list_slices d _
@[simp] theorem updSess_flight (d : Dev) (n : Nat) (f : Session → Session) : (updSess d n f).flight = d.flight := with_list_flight d _
@[simp] theorem updSess_mem (d : Dev) (n : Nat) (f : Session → Session) : (updSess d n f).mem = d.mem := with_list_mem d _
@[simp] theorem updSess_memGen (d : Dev) (n : Nat) (f : Session → Session) : (updSess d n f).memGen = d.memGen := with_list_memGen d _
@[simp] theorem updSess_poison (d : Dev) (n : Nat) (f : Session → Session) : (updSess d n f).poison = d.poison := with_list_poison d _
@[simp] theorem updSess_msc (d : Dev) (n : Nat) (f : Session → Session) : (updSess d n f).msc = d.msc := with_list_msc d _
@[simp] theorem updSess_mscs (d : Dev) (n : Nat) (f : Session → Session) : (updSess d n f).mscs = d.mscs := with_list_mscs d _
@[simp] theorem updSess_maint (d : Dev) (n : Nat) (f : Session → Session) : (updSess d n f).maint = d.maint := with_list_maint d _
@[simp] theorem updSess_chans (d : Dev) (n : Nat) (f : Session → Session) : (updSess d n f).chans = d.chans := with_list_chans d _
@[simp] theorem updSess_subs (d : Dev) (n : Nat) (f : Session → Session) : (updSess d n f).subs = d.subs := with_list_subs d _
@[simp] theorem updSess_cxlState (d : Dev) (n : Nat) (f : Session → Session) : (updSess d n f).cxlState = d.cxlState := with_list_cxlState d _
@[simp] theorem updSess_cxlWait (d : Dev) (n : Nat) (f : Session → Session) : (updSess d n f).cxlWait = d.cxlWait := with_list_cxlWait d _
@[simp] theorem updSess_obs (d : Dev) (n : Nat) (f : Session → Session) : (updSess d n f).obs = d.obs := with_list_obs d _
@[simp] theorem updSess_mirror (d : Dev) (n : Nat) (f : Session → Session) : (updSess d n f).mirror = d.mirror := with_list_mirror d _
@[simp] theorem updSess_takeover (d : Dev) (n : Nat) (f : Session → Session) : (updSess d n f).takeover = d.takeover := with_list_takeover d _
@[simp] theorem updSess_pot (d : Dev) (n : Nat) (f : Session → Session) : (updSess d n f).pot = d.pot := with_list_pot d _
@[simp] theorem updSess_encl (d : Dev) (n : Nat) (f : Session → Session) : (updSess d n f).encl = d.encl := with_list_encl d _
@[simp] theorem updSess_cmds (d : Dev) (n : Nat) (f : Session → Session) : (updSess d n f).cmds = d.cmds := with_list_cmds d _
@[simp] theorem updSess_holds (d : Dev) (n : Nat) (f : Session → Session) : (updSess d n f).holds = d.holds := with_list_holds d _
@[simp] theorem updSess_holdUnits (d : Dev) (n : Nat) (f : Session → Session) : (updSess d n f).holdUnits = d.holdUnits := with_list_holdUnits d _
@[simp] theorem updSess_reports (d : Dev) (n : Nat) (f : Session → Session) : (updSess d n f).reports = d.reports := with_list_reports d _
@[simp] theorem updSess_spad (d : Dev) (n : Nat) (f : Session → Session) : (updSess d n f).spad = d.spad := with_list_spad d _
@[simp] theorem updSess_fatal (d : Dev) (n : Nat) (f : Session → Session) : (updSess d n f).fatal = d.fatal := with_list_fatal d _
@[simp] theorem updSess_benches (d : Dev) (n : Nat) (f : Session → Session) : (updSess d n f).benches = d.benches := with_list_benches d _
@[simp] theorem updSess_ledger (d : Dev) (n : Nat) (f : Session → Session) : (updSess d n f).ledger = d.ledger := with_list_ledger d _
@[simp] theorem updSess_iommu (d : Dev) (n : Nat) (f : Session → Session) : (updSess d n f).iommu = d.iommu := with_list_iommu d _
@[simp] theorem updSess_gauge (d : Dev) (n : Nat) (f : Session → Session) : (updSess d n f).gauge = d.gauge := with_list_gauge d _
@[simp] theorem updSess_seg (d : Dev) (n : Nat) (f : Session → Session) : (updSess d n f).seg = d.seg := with_list_seg d _
@[simp] theorem updSess_sync (d : Dev) (n : Nat) (f : Session → Session) : (updSess d n f).sync = d.sync := with_list_sync d _
@[simp] theorem updSess_rootPorts (d : Dev) (n : Nat) (f : Session → Session) : (updSess d n f).rootPorts = d.rootPorts := with_list_rootPorts d _
@[simp] theorem emit_freeCtr (o : Out) (d : Dev) : (emit o d).freeCtr = d.freeCtr := with_out_freeCtr d _
@[simp] theorem emit_now (o : Out) (d : Dev) : (emit o d).now = d.now := with_out_now d _
@[simp] theorem emit_pins (o : Out) (d : Dev) : (emit o d).pins = d.pins := with_out_pins d _
@[simp] theorem emit_fuses (o : Out) (d : Dev) : (emit o d).fuses = d.fuses := with_out_fuses d _
@[simp] theorem emit_boot (o : Out) (d : Dev) : (emit o d).boot = d.boot := with_out_boot d _
@[simp] theorem emit_list (o : Out) (d : Dev) : (emit o d).list = d.list := with_out_list d _
@[simp] theorem emit_kerf (o : Out) (d : Dev) : (emit o d).kerf = d.kerf := with_out_kerf d _
@[simp] theorem emit_harts (o : Out) (d : Dev) : (emit o d).harts = d.harts := with_out_harts d _
@[simp] theorem emit_links (o : Out) (d : Dev) : (emit o d).links = d.links := with_out_links d _
@[simp] theorem emit_jig (o : Out) (d : Dev) : (emit o d).jig = d.jig := with_out_jig d _
@[simp] theorem emit_holdover (o : Out) (d : Dev) : (emit o d).holdover = d.holdover := with_out_holdover d _
@[simp] theorem emit_sites (o : Out) (d : Dev) : (emit o d).sites = d.sites := with_out_sites d _
@[simp] theorem emit_dies (o : Out) (d : Dev) : (emit o d).dies = d.dies := with_out_dies d _
@[simp] theorem emit_slices (o : Out) (d : Dev) : (emit o d).slices = d.slices := with_out_slices d _
@[simp] theorem emit_flight (o : Out) (d : Dev) : (emit o d).flight = d.flight := with_out_flight d _
@[simp] theorem emit_mem (o : Out) (d : Dev) : (emit o d).mem = d.mem := with_out_mem d _
@[simp] theorem emit_memGen (o : Out) (d : Dev) : (emit o d).memGen = d.memGen := with_out_memGen d _
@[simp] theorem emit_poison (o : Out) (d : Dev) : (emit o d).poison = d.poison := with_out_poison d _
@[simp] theorem emit_msc (o : Out) (d : Dev) : (emit o d).msc = d.msc := with_out_msc d _
@[simp] theorem emit_mscs (o : Out) (d : Dev) : (emit o d).mscs = d.mscs := with_out_mscs d _
@[simp] theorem emit_maint (o : Out) (d : Dev) : (emit o d).maint = d.maint := with_out_maint d _
@[simp] theorem emit_chans (o : Out) (d : Dev) : (emit o d).chans = d.chans := with_out_chans d _
@[simp] theorem emit_subs (o : Out) (d : Dev) : (emit o d).subs = d.subs := with_out_subs d _
@[simp] theorem emit_cxlState (o : Out) (d : Dev) : (emit o d).cxlState = d.cxlState := with_out_cxlState d _
@[simp] theorem emit_cxlWait (o : Out) (d : Dev) : (emit o d).cxlWait = d.cxlWait := with_out_cxlWait d _
@[simp] theorem emit_obs (o : Out) (d : Dev) : (emit o d).obs = d.obs := with_out_obs d _
@[simp] theorem emit_mirror (o : Out) (d : Dev) : (emit o d).mirror = d.mirror := with_out_mirror d _
@[simp] theorem emit_takeover (o : Out) (d : Dev) : (emit o d).takeover = d.takeover := with_out_takeover d _
@[simp] theorem emit_pot (o : Out) (d : Dev) : (emit o d).pot = d.pot := with_out_pot d _
@[simp] theorem emit_encl (o : Out) (d : Dev) : (emit o d).encl = d.encl := with_out_encl d _
@[simp] theorem emit_cmds (o : Out) (d : Dev) : (emit o d).cmds = d.cmds := with_out_cmds d _
@[simp] theorem emit_holds (o : Out) (d : Dev) : (emit o d).holds = d.holds := with_out_holds d _
@[simp] theorem emit_holdUnits (o : Out) (d : Dev) : (emit o d).holdUnits = d.holdUnits := with_out_holdUnits d _
@[simp] theorem emit_reports (o : Out) (d : Dev) : (emit o d).reports = d.reports := with_out_reports d _
@[simp] theorem emit_spad (o : Out) (d : Dev) : (emit o d).spad = d.spad := with_out_spad d _
@[simp] theorem emit_fatal (o : Out) (d : Dev) : (emit o d).fatal = d.fatal := with_out_fatal d _
@[simp] theorem emit_benches (o : Out) (d : Dev) : (emit o d).benches = d.benches := with_out_benches d _
@[simp] theorem emit_ledger (o : Out) (d : Dev) : (emit o d).ledger = d.ledger := with_out_ledger d _
@[simp] theorem emit_iommu (o : Out) (d : Dev) : (emit o d).iommu = d.iommu := with_out_iommu d _
@[simp] theorem emit_gauge (o : Out) (d : Dev) : (emit o d).gauge = d.gauge := with_out_gauge d _
@[simp] theorem emit_seg (o : Out) (d : Dev) : (emit o d).seg = d.seg := with_out_seg d _
@[simp] theorem emit_sync (o : Out) (d : Dev) : (emit o d).sync = d.sync := with_out_sync d _
@[simp] theorem emit_rootPorts (o : Out) (d : Dev) : (emit o d).rootPorts = d.rootPorts := with_out_rootPorts d _
@[simp] theorem drawn_out (d : Dev) : (drawn d).out = d.out := with_freeCtr_out d _
@[simp] theorem drawn_now (d : Dev) : (drawn d).now = d.now := with_freeCtr_now d _
@[simp] theorem drawn_pins (d : Dev) : (drawn d).pins = d.pins := with_freeCtr_pins d _
@[simp] theorem drawn_fuses (d : Dev) : (drawn d).fuses = d.fuses := with_freeCtr_fuses d _
@[simp] theorem drawn_boot (d : Dev) : (drawn d).boot = d.boot := with_freeCtr_boot d _
@[simp] theorem drawn_list (d : Dev) : (drawn d).list = d.list := with_freeCtr_list d _
@[simp] theorem drawn_kerf (d : Dev) : (drawn d).kerf = d.kerf := with_freeCtr_kerf d _
@[simp] theorem drawn_harts (d : Dev) : (drawn d).harts = d.harts := with_freeCtr_harts d _
@[simp] theorem drawn_links (d : Dev) : (drawn d).links = d.links := with_freeCtr_links d _
@[simp] theorem drawn_jig (d : Dev) : (drawn d).jig = d.jig := with_freeCtr_jig d _
@[simp] theorem drawn_holdover (d : Dev) : (drawn d).holdover = d.holdover := with_freeCtr_holdover d _
@[simp] theorem drawn_sites (d : Dev) : (drawn d).sites = d.sites := with_freeCtr_sites d _
@[simp] theorem drawn_dies (d : Dev) : (drawn d).dies = d.dies := with_freeCtr_dies d _
@[simp] theorem drawn_slices (d : Dev) : (drawn d).slices = d.slices := with_freeCtr_slices d _
@[simp] theorem drawn_flight (d : Dev) : (drawn d).flight = d.flight := with_freeCtr_flight d _
@[simp] theorem drawn_mem (d : Dev) : (drawn d).mem = d.mem := with_freeCtr_mem d _
@[simp] theorem drawn_memGen (d : Dev) : (drawn d).memGen = d.memGen := with_freeCtr_memGen d _
@[simp] theorem drawn_poison (d : Dev) : (drawn d).poison = d.poison := with_freeCtr_poison d _
@[simp] theorem drawn_msc (d : Dev) : (drawn d).msc = d.msc := with_freeCtr_msc d _
@[simp] theorem drawn_mscs (d : Dev) : (drawn d).mscs = d.mscs := with_freeCtr_mscs d _
@[simp] theorem drawn_maint (d : Dev) : (drawn d).maint = d.maint := with_freeCtr_maint d _
@[simp] theorem drawn_chans (d : Dev) : (drawn d).chans = d.chans := with_freeCtr_chans d _
@[simp] theorem drawn_subs (d : Dev) : (drawn d).subs = d.subs := with_freeCtr_subs d _
@[simp] theorem drawn_cxlState (d : Dev) : (drawn d).cxlState = d.cxlState := with_freeCtr_cxlState d _
@[simp] theorem drawn_cxlWait (d : Dev) : (drawn d).cxlWait = d.cxlWait := with_freeCtr_cxlWait d _
@[simp] theorem drawn_obs (d : Dev) : (drawn d).obs = d.obs := with_freeCtr_obs d _
@[simp] theorem drawn_mirror (d : Dev) : (drawn d).mirror = d.mirror := with_freeCtr_mirror d _
@[simp] theorem drawn_takeover (d : Dev) : (drawn d).takeover = d.takeover := with_freeCtr_takeover d _
@[simp] theorem drawn_pot (d : Dev) : (drawn d).pot = d.pot := with_freeCtr_pot d _
@[simp] theorem drawn_encl (d : Dev) : (drawn d).encl = d.encl := with_freeCtr_encl d _
@[simp] theorem drawn_cmds (d : Dev) : (drawn d).cmds = d.cmds := with_freeCtr_cmds d _
@[simp] theorem drawn_holds (d : Dev) : (drawn d).holds = d.holds := with_freeCtr_holds d _
@[simp] theorem drawn_holdUnits (d : Dev) : (drawn d).holdUnits = d.holdUnits := with_freeCtr_holdUnits d _
@[simp] theorem drawn_reports (d : Dev) : (drawn d).reports = d.reports := with_freeCtr_reports d _
@[simp] theorem drawn_spad (d : Dev) : (drawn d).spad = d.spad := with_freeCtr_spad d _
@[simp] theorem drawn_fatal (d : Dev) : (drawn d).fatal = d.fatal := with_freeCtr_fatal d _
@[simp] theorem drawn_benches (d : Dev) : (drawn d).benches = d.benches := with_freeCtr_benches d _
@[simp] theorem drawn_ledger (d : Dev) : (drawn d).ledger = d.ledger := with_freeCtr_ledger d _
@[simp] theorem drawn_iommu (d : Dev) : (drawn d).iommu = d.iommu := with_freeCtr_iommu d _
@[simp] theorem drawn_gauge (d : Dev) : (drawn d).gauge = d.gauge := with_freeCtr_gauge d _
@[simp] theorem drawn_seg (d : Dev) : (drawn d).seg = d.seg := with_freeCtr_seg d _
@[simp] theorem drawn_sync (d : Dev) : (drawn d).sync = d.sync := with_freeCtr_sync d _
@[simp] theorem drawn_rootPorts (d : Dev) : (drawn d).rootPorts = d.rootPorts := with_freeCtr_rootPorts d _
@[simp] theorem setCur_out (d : Dev) (idx sub : Nat) (v : Option Val) : (setCur d idx sub v).out = d.out := with_list_out d _
@[simp] theorem setCur_freeCtr (d : Dev) (idx sub : Nat) (v : Option Val) : (setCur d idx sub v).freeCtr = d.freeCtr := with_list_freeCtr d _
@[simp] theorem setCur_now (d : Dev) (idx sub : Nat) (v : Option Val) : (setCur d idx sub v).now = d.now := with_list_now d _
@[simp] theorem setCur_pins (d : Dev) (idx sub : Nat) (v : Option Val) : (setCur d idx sub v).pins = d.pins := with_list_pins d _
@[simp] theorem setCur_fuses (d : Dev) (idx sub : Nat) (v : Option Val) : (setCur d idx sub v).fuses = d.fuses := with_list_fuses d _
@[simp] theorem setCur_boot (d : Dev) (idx sub : Nat) (v : Option Val) : (setCur d idx sub v).boot = d.boot := with_list_boot d _
@[simp] theorem setCur_kerf (d : Dev) (idx sub : Nat) (v : Option Val) : (setCur d idx sub v).kerf = d.kerf := with_list_kerf d _
@[simp] theorem setCur_harts (d : Dev) (idx sub : Nat) (v : Option Val) : (setCur d idx sub v).harts = d.harts := with_list_harts d _
@[simp] theorem setCur_links (d : Dev) (idx sub : Nat) (v : Option Val) : (setCur d idx sub v).links = d.links := with_list_links d _
@[simp] theorem setCur_jig (d : Dev) (idx sub : Nat) (v : Option Val) : (setCur d idx sub v).jig = d.jig := with_list_jig d _
@[simp] theorem setCur_holdover (d : Dev) (idx sub : Nat) (v : Option Val) : (setCur d idx sub v).holdover = d.holdover := with_list_holdover d _
@[simp] theorem setCur_sites (d : Dev) (idx sub : Nat) (v : Option Val) : (setCur d idx sub v).sites = d.sites := with_list_sites d _
@[simp] theorem setCur_dies (d : Dev) (idx sub : Nat) (v : Option Val) : (setCur d idx sub v).dies = d.dies := with_list_dies d _
@[simp] theorem setCur_slices (d : Dev) (idx sub : Nat) (v : Option Val) : (setCur d idx sub v).slices = d.slices := with_list_slices d _
@[simp] theorem setCur_flight (d : Dev) (idx sub : Nat) (v : Option Val) : (setCur d idx sub v).flight = d.flight := with_list_flight d _
@[simp] theorem setCur_mem (d : Dev) (idx sub : Nat) (v : Option Val) : (setCur d idx sub v).mem = d.mem := with_list_mem d _
@[simp] theorem setCur_memGen (d : Dev) (idx sub : Nat) (v : Option Val) : (setCur d idx sub v).memGen = d.memGen := with_list_memGen d _
@[simp] theorem setCur_poison (d : Dev) (idx sub : Nat) (v : Option Val) : (setCur d idx sub v).poison = d.poison := with_list_poison d _
@[simp] theorem setCur_msc (d : Dev) (idx sub : Nat) (v : Option Val) : (setCur d idx sub v).msc = d.msc := with_list_msc d _
@[simp] theorem setCur_mscs (d : Dev) (idx sub : Nat) (v : Option Val) : (setCur d idx sub v).mscs = d.mscs := with_list_mscs d _
@[simp] theorem setCur_maint (d : Dev) (idx sub : Nat) (v : Option Val) : (setCur d idx sub v).maint = d.maint := with_list_maint d _
@[simp] theorem setCur_chans (d : Dev) (idx sub : Nat) (v : Option Val) : (setCur d idx sub v).chans = d.chans := with_list_chans d _
@[simp] theorem setCur_subs (d : Dev) (idx sub : Nat) (v : Option Val) : (setCur d idx sub v).subs = d.subs := with_list_subs d _
@[simp] theorem setCur_cxlState (d : Dev) (idx sub : Nat) (v : Option Val) : (setCur d idx sub v).cxlState = d.cxlState := with_list_cxlState d _
@[simp] theorem setCur_cxlWait (d : Dev) (idx sub : Nat) (v : Option Val) : (setCur d idx sub v).cxlWait = d.cxlWait := with_list_cxlWait d _
@[simp] theorem setCur_obs (d : Dev) (idx sub : Nat) (v : Option Val) : (setCur d idx sub v).obs = d.obs := with_list_obs d _
@[simp] theorem setCur_mirror (d : Dev) (idx sub : Nat) (v : Option Val) : (setCur d idx sub v).mirror = d.mirror := with_list_mirror d _
@[simp] theorem setCur_takeover (d : Dev) (idx sub : Nat) (v : Option Val) : (setCur d idx sub v).takeover = d.takeover := with_list_takeover d _
@[simp] theorem setCur_pot (d : Dev) (idx sub : Nat) (v : Option Val) : (setCur d idx sub v).pot = d.pot := with_list_pot d _
@[simp] theorem setCur_encl (d : Dev) (idx sub : Nat) (v : Option Val) : (setCur d idx sub v).encl = d.encl := with_list_encl d _
@[simp] theorem setCur_cmds (d : Dev) (idx sub : Nat) (v : Option Val) : (setCur d idx sub v).cmds = d.cmds := with_list_cmds d _
@[simp] theorem setCur_holds (d : Dev) (idx sub : Nat) (v : Option Val) : (setCur d idx sub v).holds = d.holds := with_list_holds d _
@[simp] theorem setCur_holdUnits (d : Dev) (idx sub : Nat) (v : Option Val) : (setCur d idx sub v).holdUnits = d.holdUnits := with_list_holdUnits d _
@[simp] theorem setCur_reports (d : Dev) (idx sub : Nat) (v : Option Val) : (setCur d idx sub v).reports = d.reports := with_list_reports d _
@[simp] theorem setCur_spad (d : Dev) (idx sub : Nat) (v : Option Val) : (setCur d idx sub v).spad = d.spad := with_list_spad d _
@[simp] theorem setCur_fatal (d : Dev) (idx sub : Nat) (v : Option Val) : (setCur d idx sub v).fatal = d.fatal := with_list_fatal d _
@[simp] theorem setCur_benches (d : Dev) (idx sub : Nat) (v : Option Val) : (setCur d idx sub v).benches = d.benches := with_list_benches d _
@[simp] theorem setCur_ledger (d : Dev) (idx sub : Nat) (v : Option Val) : (setCur d idx sub v).ledger = d.ledger := with_list_ledger d _
@[simp] theorem setCur_iommu (d : Dev) (idx sub : Nat) (v : Option Val) : (setCur d idx sub v).iommu = d.iommu := with_list_iommu d _
@[simp] theorem setCur_gauge (d : Dev) (idx sub : Nat) (v : Option Val) : (setCur d idx sub v).gauge = d.gauge := with_list_gauge d _
@[simp] theorem setCur_seg (d : Dev) (idx sub : Nat) (v : Option Val) : (setCur d idx sub v).seg = d.seg := with_list_seg d _
@[simp] theorem setCur_sync (d : Dev) (idx sub : Nat) (v : Option Val) : (setCur d idx sub v).sync = d.sync := with_list_sync d _
@[simp] theorem setCur_rootPorts (d : Dev) (idx sub : Nat) (v : Option Val) : (setCur d idx sub v).rootPorts = d.rootPorts := with_list_rootPorts d _
@[simp] theorem setCurNat_out (d : Dev) (idx sub n : Nat) : (setCurNat d idx sub n).out = d.out := setCur_out ..
@[simp] theorem setCurNat_freeCtr (d : Dev) (idx sub n : Nat) : (setCurNat d idx sub n).freeCtr = d.freeCtr := setCur_freeCtr ..
@[simp] theorem setCurNat_now (d : Dev) (idx sub n : Nat) : (setCurNat d idx sub n).now = d.now := setCur_now ..
@[simp] theorem setCurNat_pins (d : Dev) (idx sub n : Nat) : (setCurNat d idx sub n).pins = d.pins := setCur_pins ..
@[simp] theorem setCurNat_fuses (d : Dev) (idx sub n : Nat) : (setCurNat d idx sub n).fuses = d.fuses := setCur_fuses ..
@[simp] theorem setCurNat_boot (d : Dev) (idx sub n : Nat) : (setCurNat d idx sub n).boot = d.boot := setCur_boot ..
@[simp] theorem setCurNat_kerf (d : Dev) (idx sub n : Nat) : (setCurNat d idx sub n).kerf = d.kerf := setCur_kerf ..
@[simp] theorem setCurNat_harts (d : Dev) (idx sub n : Nat) : (setCurNat d idx sub n).harts = d.harts := setCur_harts ..
@[simp] theorem setCurNat_links (d : Dev) (idx sub n : Nat) : (setCurNat d idx sub n).links = d.links := setCur_links ..
@[simp] theorem setCurNat_jig (d : Dev) (idx sub n : Nat) : (setCurNat d idx sub n).jig = d.jig := setCur_jig ..
@[simp] theorem setCurNat_holdover (d : Dev) (idx sub n : Nat) : (setCurNat d idx sub n).holdover = d.holdover := setCur_holdover ..
@[simp] theorem setCurNat_sites (d : Dev) (idx sub n : Nat) : (setCurNat d idx sub n).sites = d.sites := setCur_sites ..
@[simp] theorem setCurNat_dies (d : Dev) (idx sub n : Nat) : (setCurNat d idx sub n).dies = d.dies := setCur_dies ..
@[simp] theorem setCurNat_slices (d : Dev) (idx sub n : Nat) : (setCurNat d idx sub n).slices = d.slices := setCur_slices ..
@[simp] theorem setCurNat_flight (d : Dev) (idx sub n : Nat) : (setCurNat d idx sub n).flight = d.flight := setCur_flight ..
@[simp] theorem setCurNat_mem (d : Dev) (idx sub n : Nat) : (setCurNat d idx sub n).mem = d.mem := setCur_mem ..
@[simp] theorem setCurNat_memGen (d : Dev) (idx sub n : Nat) : (setCurNat d idx sub n).memGen = d.memGen := setCur_memGen ..
@[simp] theorem setCurNat_poison (d : Dev) (idx sub n : Nat) : (setCurNat d idx sub n).poison = d.poison := setCur_poison ..
@[simp] theorem setCurNat_msc (d : Dev) (idx sub n : Nat) : (setCurNat d idx sub n).msc = d.msc := setCur_msc ..
@[simp] theorem setCurNat_mscs (d : Dev) (idx sub n : Nat) : (setCurNat d idx sub n).mscs = d.mscs := setCur_mscs ..
@[simp] theorem setCurNat_maint (d : Dev) (idx sub n : Nat) : (setCurNat d idx sub n).maint = d.maint := setCur_maint ..
@[simp] theorem setCurNat_chans (d : Dev) (idx sub n : Nat) : (setCurNat d idx sub n).chans = d.chans := setCur_chans ..
@[simp] theorem setCurNat_subs (d : Dev) (idx sub n : Nat) : (setCurNat d idx sub n).subs = d.subs := setCur_subs ..
@[simp] theorem setCurNat_cxlState (d : Dev) (idx sub n : Nat) : (setCurNat d idx sub n).cxlState = d.cxlState := setCur_cxlState ..
@[simp] theorem setCurNat_cxlWait (d : Dev) (idx sub n : Nat) : (setCurNat d idx sub n).cxlWait = d.cxlWait := setCur_cxlWait ..
@[simp] theorem setCurNat_obs (d : Dev) (idx sub n : Nat) : (setCurNat d idx sub n).obs = d.obs := setCur_obs ..
@[simp] theorem setCurNat_mirror (d : Dev) (idx sub n : Nat) : (setCurNat d idx sub n).mirror = d.mirror := setCur_mirror ..
@[simp] theorem setCurNat_takeover (d : Dev) (idx sub n : Nat) : (setCurNat d idx sub n).takeover = d.takeover := setCur_takeover ..
@[simp] theorem setCurNat_pot (d : Dev) (idx sub n : Nat) : (setCurNat d idx sub n).pot = d.pot := setCur_pot ..
@[simp] theorem setCurNat_encl (d : Dev) (idx sub n : Nat) : (setCurNat d idx sub n).encl = d.encl := setCur_encl ..
@[simp] theorem setCurNat_cmds (d : Dev) (idx sub n : Nat) : (setCurNat d idx sub n).cmds = d.cmds := setCur_cmds ..
@[simp] theorem setCurNat_holds (d : Dev) (idx sub n : Nat) : (setCurNat d idx sub n).holds = d.holds := setCur_holds ..
@[simp] theorem setCurNat_holdUnits (d : Dev) (idx sub n : Nat) : (setCurNat d idx sub n).holdUnits = d.holdUnits := setCur_holdUnits ..
@[simp] theorem setCurNat_reports (d : Dev) (idx sub n : Nat) : (setCurNat d idx sub n).reports = d.reports := setCur_reports ..
@[simp] theorem setCurNat_spad (d : Dev) (idx sub n : Nat) : (setCurNat d idx sub n).spad = d.spad := setCur_spad ..
@[simp] theorem setCurNat_fatal (d : Dev) (idx sub n : Nat) : (setCurNat d idx sub n).fatal = d.fatal := setCur_fatal ..
@[simp] theorem setCurNat_benches (d : Dev) (idx sub n : Nat) : (setCurNat d idx sub n).benches = d.benches := setCur_benches ..
@[simp] theorem setCurNat_ledger (d : Dev) (idx sub n : Nat) : (setCurNat d idx sub n).ledger = d.ledger := setCur_ledger ..
@[simp] theorem setCurNat_iommu (d : Dev) (idx sub n : Nat) : (setCurNat d idx sub n).iommu = d.iommu := setCur_iommu ..
@[simp] theorem setCurNat_gauge (d : Dev) (idx sub n : Nat) : (setCurNat d idx sub n).gauge = d.gauge := setCur_gauge ..
@[simp] theorem setCurNat_seg (d : Dev) (idx sub n : Nat) : (setCurNat d idx sub n).seg = d.seg := setCur_seg ..
@[simp] theorem setCurNat_sync (d : Dev) (idx sub n : Nat) : (setCurNat d idx sub n).sync = d.sync := setCur_sync ..
@[simp] theorem setCurNat_rootPorts (d : Dev) (idx sub n : Nat) : (setCurNat d idx sub n).rootPorts = d.rootPorts := setCur_rootPorts ..
@[simp] theorem setStg_out (d : Dev) (idx sub : Nat) (v : Option Val) : (setStg d idx sub v).out = d.out := with_list_out d _
@[simp] theorem setStg_freeCtr (d : Dev) (idx sub : Nat) (v : Option Val) : (setStg d idx sub v).freeCtr = d.freeCtr := with_list_freeCtr d _
@[simp] theorem setStg_now (d : Dev) (idx sub : Nat) (v : Option Val) : (setStg d idx sub v).now = d.now := with_list_now d _
@[simp] theorem setStg_pins (d : Dev) (idx sub : Nat) (v : Option Val) : (setStg d idx sub v).pins = d.pins := with_list_pins d _
@[simp] theorem setStg_fuses (d : Dev) (idx sub : Nat) (v : Option Val) : (setStg d idx sub v).fuses = d.fuses := with_list_fuses d _
@[simp] theorem setStg_boot (d : Dev) (idx sub : Nat) (v : Option Val) : (setStg d idx sub v).boot = d.boot := with_list_boot d _
@[simp] theorem setStg_kerf (d : Dev) (idx sub : Nat) (v : Option Val) : (setStg d idx sub v).kerf = d.kerf := with_list_kerf d _
@[simp] theorem setStg_harts (d : Dev) (idx sub : Nat) (v : Option Val) : (setStg d idx sub v).harts = d.harts := with_list_harts d _
@[simp] theorem setStg_links (d : Dev) (idx sub : Nat) (v : Option Val) : (setStg d idx sub v).links = d.links := with_list_links d _
@[simp] theorem setStg_jig (d : Dev) (idx sub : Nat) (v : Option Val) : (setStg d idx sub v).jig = d.jig := with_list_jig d _
@[simp] theorem setStg_holdover (d : Dev) (idx sub : Nat) (v : Option Val) : (setStg d idx sub v).holdover = d.holdover := with_list_holdover d _
@[simp] theorem setStg_sites (d : Dev) (idx sub : Nat) (v : Option Val) : (setStg d idx sub v).sites = d.sites := with_list_sites d _
@[simp] theorem setStg_dies (d : Dev) (idx sub : Nat) (v : Option Val) : (setStg d idx sub v).dies = d.dies := with_list_dies d _
@[simp] theorem setStg_slices (d : Dev) (idx sub : Nat) (v : Option Val) : (setStg d idx sub v).slices = d.slices := with_list_slices d _
@[simp] theorem setStg_flight (d : Dev) (idx sub : Nat) (v : Option Val) : (setStg d idx sub v).flight = d.flight := with_list_flight d _
@[simp] theorem setStg_mem (d : Dev) (idx sub : Nat) (v : Option Val) : (setStg d idx sub v).mem = d.mem := with_list_mem d _
@[simp] theorem setStg_memGen (d : Dev) (idx sub : Nat) (v : Option Val) : (setStg d idx sub v).memGen = d.memGen := with_list_memGen d _
@[simp] theorem setStg_poison (d : Dev) (idx sub : Nat) (v : Option Val) : (setStg d idx sub v).poison = d.poison := with_list_poison d _
@[simp] theorem setStg_msc (d : Dev) (idx sub : Nat) (v : Option Val) : (setStg d idx sub v).msc = d.msc := with_list_msc d _
@[simp] theorem setStg_mscs (d : Dev) (idx sub : Nat) (v : Option Val) : (setStg d idx sub v).mscs = d.mscs := with_list_mscs d _
@[simp] theorem setStg_maint (d : Dev) (idx sub : Nat) (v : Option Val) : (setStg d idx sub v).maint = d.maint := with_list_maint d _
@[simp] theorem setStg_chans (d : Dev) (idx sub : Nat) (v : Option Val) : (setStg d idx sub v).chans = d.chans := with_list_chans d _
@[simp] theorem setStg_subs (d : Dev) (idx sub : Nat) (v : Option Val) : (setStg d idx sub v).subs = d.subs := with_list_subs d _
@[simp] theorem setStg_cxlState (d : Dev) (idx sub : Nat) (v : Option Val) : (setStg d idx sub v).cxlState = d.cxlState := with_list_cxlState d _
@[simp] theorem setStg_cxlWait (d : Dev) (idx sub : Nat) (v : Option Val) : (setStg d idx sub v).cxlWait = d.cxlWait := with_list_cxlWait d _
@[simp] theorem setStg_obs (d : Dev) (idx sub : Nat) (v : Option Val) : (setStg d idx sub v).obs = d.obs := with_list_obs d _
@[simp] theorem setStg_mirror (d : Dev) (idx sub : Nat) (v : Option Val) : (setStg d idx sub v).mirror = d.mirror := with_list_mirror d _
@[simp] theorem setStg_takeover (d : Dev) (idx sub : Nat) (v : Option Val) : (setStg d idx sub v).takeover = d.takeover := with_list_takeover d _
@[simp] theorem setStg_pot (d : Dev) (idx sub : Nat) (v : Option Val) : (setStg d idx sub v).pot = d.pot := with_list_pot d _
@[simp] theorem setStg_encl (d : Dev) (idx sub : Nat) (v : Option Val) : (setStg d idx sub v).encl = d.encl := with_list_encl d _
@[simp] theorem setStg_cmds (d : Dev) (idx sub : Nat) (v : Option Val) : (setStg d idx sub v).cmds = d.cmds := with_list_cmds d _
@[simp] theorem setStg_holds (d : Dev) (idx sub : Nat) (v : Option Val) : (setStg d idx sub v).holds = d.holds := with_list_holds d _
@[simp] theorem setStg_holdUnits (d : Dev) (idx sub : Nat) (v : Option Val) : (setStg d idx sub v).holdUnits = d.holdUnits := with_list_holdUnits d _
@[simp] theorem setStg_reports (d : Dev) (idx sub : Nat) (v : Option Val) : (setStg d idx sub v).reports = d.reports := with_list_reports d _
@[simp] theorem setStg_spad (d : Dev) (idx sub : Nat) (v : Option Val) : (setStg d idx sub v).spad = d.spad := with_list_spad d _
@[simp] theorem setStg_fatal (d : Dev) (idx sub : Nat) (v : Option Val) : (setStg d idx sub v).fatal = d.fatal := with_list_fatal d _
@[simp] theorem setStg_benches (d : Dev) (idx sub : Nat) (v : Option Val) : (setStg d idx sub v).benches = d.benches := with_list_benches d _
@[simp] theorem setStg_ledger (d : Dev) (idx sub : Nat) (v : Option Val) : (setStg d idx sub v).ledger = d.ledger := with_list_ledger d _
@[simp] theorem setStg_iommu (d : Dev) (idx sub : Nat) (v : Option Val) : (setStg d idx sub v).iommu = d.iommu := with_list_iommu d _
@[simp] theorem setStg_gauge (d : Dev) (idx sub : Nat) (v : Option Val) : (setStg d idx sub v).gauge = d.gauge := with_list_gauge d _
@[simp] theorem setStg_seg (d : Dev) (idx sub : Nat) (v : Option Val) : (setStg d idx sub v).seg = d.seg := with_list_seg d _
@[simp] theorem setStg_sync (d : Dev) (idx sub : Nat) (v : Option Val) : (setStg d idx sub v).sync = d.sync := with_list_sync d _
@[simp] theorem setStg_rootPorts (d : Dev) (idx sub : Nat) (v : Option Val) : (setStg d idx sub v).rootPorts = d.rootPorts := with_list_rootPorts d _
@[simp] theorem updDry_out (d : Dev) (idx sub : Nat) (f : DryStatus → DryStatus) : (updDry d idx sub f).out = d.out := with_list_out d _
@[simp] theorem updDry_freeCtr (d : Dev) (idx sub : Nat) (f : DryStatus → DryStatus) : (updDry d idx sub f).freeCtr = d.freeCtr := with_list_freeCtr d _
@[simp] theorem updDry_now (d : Dev) (idx sub : Nat) (f : DryStatus → DryStatus) : (updDry d idx sub f).now = d.now := with_list_now d _
@[simp] theorem updDry_pins (d : Dev) (idx sub : Nat) (f : DryStatus → DryStatus) : (updDry d idx sub f).pins = d.pins := with_list_pins d _
@[simp] theorem updDry_fuses (d : Dev) (idx sub : Nat) (f : DryStatus → DryStatus) : (updDry d idx sub f).fuses = d.fuses := with_list_fuses d _
@[simp] theorem updDry_boot (d : Dev) (idx sub : Nat) (f : DryStatus → DryStatus) : (updDry d idx sub f).boot = d.boot := with_list_boot d _
@[simp] theorem updDry_kerf (d : Dev) (idx sub : Nat) (f : DryStatus → DryStatus) : (updDry d idx sub f).kerf = d.kerf := with_list_kerf d _
@[simp] theorem updDry_harts (d : Dev) (idx sub : Nat) (f : DryStatus → DryStatus) : (updDry d idx sub f).harts = d.harts := with_list_harts d _
@[simp] theorem updDry_links (d : Dev) (idx sub : Nat) (f : DryStatus → DryStatus) : (updDry d idx sub f).links = d.links := with_list_links d _
@[simp] theorem updDry_jig (d : Dev) (idx sub : Nat) (f : DryStatus → DryStatus) : (updDry d idx sub f).jig = d.jig := with_list_jig d _
@[simp] theorem updDry_holdover (d : Dev) (idx sub : Nat) (f : DryStatus → DryStatus) : (updDry d idx sub f).holdover = d.holdover := with_list_holdover d _
@[simp] theorem updDry_sites (d : Dev) (idx sub : Nat) (f : DryStatus → DryStatus) : (updDry d idx sub f).sites = d.sites := with_list_sites d _
@[simp] theorem updDry_dies (d : Dev) (idx sub : Nat) (f : DryStatus → DryStatus) : (updDry d idx sub f).dies = d.dies := with_list_dies d _
@[simp] theorem updDry_slices (d : Dev) (idx sub : Nat) (f : DryStatus → DryStatus) : (updDry d idx sub f).slices = d.slices := with_list_slices d _
@[simp] theorem updDry_flight (d : Dev) (idx sub : Nat) (f : DryStatus → DryStatus) : (updDry d idx sub f).flight = d.flight := with_list_flight d _
@[simp] theorem updDry_mem (d : Dev) (idx sub : Nat) (f : DryStatus → DryStatus) : (updDry d idx sub f).mem = d.mem := with_list_mem d _
@[simp] theorem updDry_memGen (d : Dev) (idx sub : Nat) (f : DryStatus → DryStatus) : (updDry d idx sub f).memGen = d.memGen := with_list_memGen d _
@[simp] theorem updDry_poison (d : Dev) (idx sub : Nat) (f : DryStatus → DryStatus) : (updDry d idx sub f).poison = d.poison := with_list_poison d _
@[simp] theorem updDry_msc (d : Dev) (idx sub : Nat) (f : DryStatus → DryStatus) : (updDry d idx sub f).msc = d.msc := with_list_msc d _
@[simp] theorem updDry_mscs (d : Dev) (idx sub : Nat) (f : DryStatus → DryStatus) : (updDry d idx sub f).mscs = d.mscs := with_list_mscs d _
@[simp] theorem updDry_maint (d : Dev) (idx sub : Nat) (f : DryStatus → DryStatus) : (updDry d idx sub f).maint = d.maint := with_list_maint d _
@[simp] theorem updDry_chans (d : Dev) (idx sub : Nat) (f : DryStatus → DryStatus) : (updDry d idx sub f).chans = d.chans := with_list_chans d _
@[simp] theorem updDry_subs (d : Dev) (idx sub : Nat) (f : DryStatus → DryStatus) : (updDry d idx sub f).subs = d.subs := with_list_subs d _
@[simp] theorem updDry_cxlState (d : Dev) (idx sub : Nat) (f : DryStatus → DryStatus) : (updDry d idx sub f).cxlState = d.cxlState := with_list_cxlState d _
@[simp] theorem updDry_cxlWait (d : Dev) (idx sub : Nat) (f : DryStatus → DryStatus) : (updDry d idx sub f).cxlWait = d.cxlWait := with_list_cxlWait d _
@[simp] theorem updDry_obs (d : Dev) (idx sub : Nat) (f : DryStatus → DryStatus) : (updDry d idx sub f).obs = d.obs := with_list_obs d _
@[simp] theorem updDry_mirror (d : Dev) (idx sub : Nat) (f : DryStatus → DryStatus) : (updDry d idx sub f).mirror = d.mirror := with_list_mirror d _
@[simp] theorem updDry_takeover (d : Dev) (idx sub : Nat) (f : DryStatus → DryStatus) : (updDry d idx sub f).takeover = d.takeover := with_list_takeover d _
@[simp] theorem updDry_pot (d : Dev) (idx sub : Nat) (f : DryStatus → DryStatus) : (updDry d idx sub f).pot = d.pot := with_list_pot d _
@[simp] theorem updDry_encl (d : Dev) (idx sub : Nat) (f : DryStatus → DryStatus) : (updDry d idx sub f).encl = d.encl := with_list_encl d _
@[simp] theorem updDry_cmds (d : Dev) (idx sub : Nat) (f : DryStatus → DryStatus) : (updDry d idx sub f).cmds = d.cmds := with_list_cmds d _
@[simp] theorem updDry_holds (d : Dev) (idx sub : Nat) (f : DryStatus → DryStatus) : (updDry d idx sub f).holds = d.holds := with_list_holds d _
@[simp] theorem updDry_holdUnits (d : Dev) (idx sub : Nat) (f : DryStatus → DryStatus) : (updDry d idx sub f).holdUnits = d.holdUnits := with_list_holdUnits d _
@[simp] theorem updDry_reports (d : Dev) (idx sub : Nat) (f : DryStatus → DryStatus) : (updDry d idx sub f).reports = d.reports := with_list_reports d _
@[simp] theorem updDry_spad (d : Dev) (idx sub : Nat) (f : DryStatus → DryStatus) : (updDry d idx sub f).spad = d.spad := with_list_spad d _
@[simp] theorem updDry_fatal (d : Dev) (idx sub : Nat) (f : DryStatus → DryStatus) : (updDry d idx sub f).fatal = d.fatal := with_list_fatal d _
@[simp] theorem updDry_benches (d : Dev) (idx sub : Nat) (f : DryStatus → DryStatus) : (updDry d idx sub f).benches = d.benches := with_list_benches d _
@[simp] theorem updDry_ledger (d : Dev) (idx sub : Nat) (f : DryStatus → DryStatus) : (updDry d idx sub f).ledger = d.ledger := with_list_ledger d _
@[simp] theorem updDry_iommu (d : Dev) (idx sub : Nat) (f : DryStatus → DryStatus) : (updDry d idx sub f).iommu = d.iommu := with_list_iommu d _
@[simp] theorem updDry_gauge (d : Dev) (idx sub : Nat) (f : DryStatus → DryStatus) : (updDry d idx sub f).gauge = d.gauge := with_list_gauge d _
@[simp] theorem updDry_seg (d : Dev) (idx sub : Nat) (f : DryStatus → DryStatus) : (updDry d idx sub f).seg = d.seg := with_list_seg d _
@[simp] theorem updDry_sync (d : Dev) (idx sub : Nat) (f : DryStatus → DryStatus) : (updDry d idx sub f).sync = d.sync := with_list_sync d _
@[simp] theorem updDry_rootPorts (d : Dev) (idx sub : Nat) (f : DryStatus → DryStatus) : (updDry d idx sub f).rootPorts = d.rootPorts := with_list_rootPorts d _
@[simp] theorem count_out (bank unit slot n : Nat) (d : Dev) : (count bank unit slot n d).out = d.out := with_obs_out d _
@[simp] theorem count_freeCtr (bank unit slot n : Nat) (d : Dev) : (count bank unit slot n d).freeCtr = d.freeCtr := with_obs_freeCtr d _
@[simp] theorem count_now (bank unit slot n : Nat) (d : Dev) : (count bank unit slot n d).now = d.now := with_obs_now d _
@[simp] theorem count_pins (bank unit slot n : Nat) (d : Dev) : (count bank unit slot n d).pins = d.pins := with_obs_pins d _
@[simp] theorem count_fuses (bank unit slot n : Nat) (d : Dev) : (count bank unit slot n d).fuses = d.fuses := with_obs_fuses d _
@[simp] theorem count_boot (bank unit slot n : Nat) (d : Dev) : (count bank unit slot n d).boot = d.boot := with_obs_boot d _
@[simp] theorem count_list (bank unit slot n : Nat) (d : Dev) : (count bank unit slot n d).list = d.list := with_obs_list d _
@[simp] theorem count_kerf (bank unit slot n : Nat) (d : Dev) : (count bank unit slot n d).kerf = d.kerf := with_obs_kerf d _
@[simp] theorem count_harts (bank unit slot n : Nat) (d : Dev) : (count bank unit slot n d).harts = d.harts := with_obs_harts d _
@[simp] theorem count_links (bank unit slot n : Nat) (d : Dev) : (count bank unit slot n d).links = d.links := with_obs_links d _
@[simp] theorem count_jig (bank unit slot n : Nat) (d : Dev) : (count bank unit slot n d).jig = d.jig := with_obs_jig d _
@[simp] theorem count_holdover (bank unit slot n : Nat) (d : Dev) : (count bank unit slot n d).holdover = d.holdover := with_obs_holdover d _
@[simp] theorem count_sites (bank unit slot n : Nat) (d : Dev) : (count bank unit slot n d).sites = d.sites := with_obs_sites d _
@[simp] theorem count_dies (bank unit slot n : Nat) (d : Dev) : (count bank unit slot n d).dies = d.dies := with_obs_dies d _
@[simp] theorem count_slices (bank unit slot n : Nat) (d : Dev) : (count bank unit slot n d).slices = d.slices := with_obs_slices d _
@[simp] theorem count_flight (bank unit slot n : Nat) (d : Dev) : (count bank unit slot n d).flight = d.flight := with_obs_flight d _
@[simp] theorem count_mem (bank unit slot n : Nat) (d : Dev) : (count bank unit slot n d).mem = d.mem := with_obs_mem d _
@[simp] theorem count_memGen (bank unit slot n : Nat) (d : Dev) : (count bank unit slot n d).memGen = d.memGen := with_obs_memGen d _
@[simp] theorem count_poison (bank unit slot n : Nat) (d : Dev) : (count bank unit slot n d).poison = d.poison := with_obs_poison d _
@[simp] theorem count_msc (bank unit slot n : Nat) (d : Dev) : (count bank unit slot n d).msc = d.msc := with_obs_msc d _
@[simp] theorem count_mscs (bank unit slot n : Nat) (d : Dev) : (count bank unit slot n d).mscs = d.mscs := with_obs_mscs d _
@[simp] theorem count_maint (bank unit slot n : Nat) (d : Dev) : (count bank unit slot n d).maint = d.maint := with_obs_maint d _
@[simp] theorem count_chans (bank unit slot n : Nat) (d : Dev) : (count bank unit slot n d).chans = d.chans := with_obs_chans d _
@[simp] theorem count_subs (bank unit slot n : Nat) (d : Dev) : (count bank unit slot n d).subs = d.subs := with_obs_subs d _
@[simp] theorem count_cxlState (bank unit slot n : Nat) (d : Dev) : (count bank unit slot n d).cxlState = d.cxlState := with_obs_cxlState d _
@[simp] theorem count_cxlWait (bank unit slot n : Nat) (d : Dev) : (count bank unit slot n d).cxlWait = d.cxlWait := with_obs_cxlWait d _
@[simp] theorem count_mirror (bank unit slot n : Nat) (d : Dev) : (count bank unit slot n d).mirror = d.mirror := with_obs_mirror d _
@[simp] theorem count_takeover (bank unit slot n : Nat) (d : Dev) : (count bank unit slot n d).takeover = d.takeover := with_obs_takeover d _
@[simp] theorem count_pot (bank unit slot n : Nat) (d : Dev) : (count bank unit slot n d).pot = d.pot := with_obs_pot d _
@[simp] theorem count_encl (bank unit slot n : Nat) (d : Dev) : (count bank unit slot n d).encl = d.encl := with_obs_encl d _
@[simp] theorem count_cmds (bank unit slot n : Nat) (d : Dev) : (count bank unit slot n d).cmds = d.cmds := with_obs_cmds d _
@[simp] theorem count_holds (bank unit slot n : Nat) (d : Dev) : (count bank unit slot n d).holds = d.holds := with_obs_holds d _
@[simp] theorem count_holdUnits (bank unit slot n : Nat) (d : Dev) : (count bank unit slot n d).holdUnits = d.holdUnits := with_obs_holdUnits d _
@[simp] theorem count_reports (bank unit slot n : Nat) (d : Dev) : (count bank unit slot n d).reports = d.reports := with_obs_reports d _
@[simp] theorem count_spad (bank unit slot n : Nat) (d : Dev) : (count bank unit slot n d).spad = d.spad := with_obs_spad d _
@[simp] theorem count_fatal (bank unit slot n : Nat) (d : Dev) : (count bank unit slot n d).fatal = d.fatal := with_obs_fatal d _
@[simp] theorem count_benches (bank unit slot n : Nat) (d : Dev) : (count bank unit slot n d).benches = d.benches := with_obs_benches d _
@[simp] theorem count_ledger (bank unit slot n : Nat) (d : Dev) : (count bank unit slot n d).ledger = d.ledger := with_obs_ledger d _
@[simp] theorem count_iommu (bank unit slot n : Nat) (d : Dev) : (count bank unit slot n d).iommu = d.iommu := with_obs_iommu d _
@[simp] theorem count_gauge (bank unit slot n : Nat) (d : Dev) : (count bank unit slot n d).gauge = d.gauge := with_obs_gauge d _
@[simp] theorem count_seg (bank unit slot n : Nat) (d : Dev) : (count bank unit slot n d).seg = d.seg := with_obs_seg d _
@[simp] theorem count_sync (bank unit slot n : Nat) (d : Dev) : (count bank unit slot n d).sync = d.sync := with_obs_sync d _
@[simp] theorem count_rootPorts (bank unit slot n : Nat) (d : Dev) : (count bank unit slot n d).rootPorts = d.rootPorts := with_obs_rootPorts d _
@[simp] theorem countPkg_out (slot : Nat) (d : Dev) : (countPkg slot d).out = d.out := count_out ..
@[simp] theorem countPkg_freeCtr (slot : Nat) (d : Dev) : (countPkg slot d).freeCtr = d.freeCtr := count_freeCtr ..
@[simp] theorem countPkg_now (slot : Nat) (d : Dev) : (countPkg slot d).now = d.now := count_now ..
@[simp] theorem countPkg_pins (slot : Nat) (d : Dev) : (countPkg slot d).pins = d.pins := count_pins ..
@[simp] theorem countPkg_fuses (slot : Nat) (d : Dev) : (countPkg slot d).fuses = d.fuses := count_fuses ..
@[simp] theorem countPkg_boot (slot : Nat) (d : Dev) : (countPkg slot d).boot = d.boot := count_boot ..
@[simp] theorem countPkg_list (slot : Nat) (d : Dev) : (countPkg slot d).list = d.list := count_list ..
@[simp] theorem countPkg_kerf (slot : Nat) (d : Dev) : (countPkg slot d).kerf = d.kerf := count_kerf ..
@[simp] theorem countPkg_harts (slot : Nat) (d : Dev) : (countPkg slot d).harts = d.harts := count_harts ..
@[simp] theorem countPkg_links (slot : Nat) (d : Dev) : (countPkg slot d).links = d.links := count_links ..
@[simp] theorem countPkg_jig (slot : Nat) (d : Dev) : (countPkg slot d).jig = d.jig := count_jig ..
@[simp] theorem countPkg_holdover (slot : Nat) (d : Dev) : (countPkg slot d).holdover = d.holdover := count_holdover ..
@[simp] theorem countPkg_sites (slot : Nat) (d : Dev) : (countPkg slot d).sites = d.sites := count_sites ..
@[simp] theorem countPkg_dies (slot : Nat) (d : Dev) : (countPkg slot d).dies = d.dies := count_dies ..
@[simp] theorem countPkg_slices (slot : Nat) (d : Dev) : (countPkg slot d).slices = d.slices := count_slices ..
@[simp] theorem countPkg_flight (slot : Nat) (d : Dev) : (countPkg slot d).flight = d.flight := count_flight ..
@[simp] theorem countPkg_mem (slot : Nat) (d : Dev) : (countPkg slot d).mem = d.mem := count_mem ..
@[simp] theorem countPkg_memGen (slot : Nat) (d : Dev) : (countPkg slot d).memGen = d.memGen := count_memGen ..
@[simp] theorem countPkg_poison (slot : Nat) (d : Dev) : (countPkg slot d).poison = d.poison := count_poison ..
@[simp] theorem countPkg_msc (slot : Nat) (d : Dev) : (countPkg slot d).msc = d.msc := count_msc ..
@[simp] theorem countPkg_mscs (slot : Nat) (d : Dev) : (countPkg slot d).mscs = d.mscs := count_mscs ..
@[simp] theorem countPkg_maint (slot : Nat) (d : Dev) : (countPkg slot d).maint = d.maint := count_maint ..
@[simp] theorem countPkg_chans (slot : Nat) (d : Dev) : (countPkg slot d).chans = d.chans := count_chans ..
@[simp] theorem countPkg_subs (slot : Nat) (d : Dev) : (countPkg slot d).subs = d.subs := count_subs ..
@[simp] theorem countPkg_cxlState (slot : Nat) (d : Dev) : (countPkg slot d).cxlState = d.cxlState := count_cxlState ..
@[simp] theorem countPkg_cxlWait (slot : Nat) (d : Dev) : (countPkg slot d).cxlWait = d.cxlWait := count_cxlWait ..
@[simp] theorem countPkg_mirror (slot : Nat) (d : Dev) : (countPkg slot d).mirror = d.mirror := count_mirror ..
@[simp] theorem countPkg_takeover (slot : Nat) (d : Dev) : (countPkg slot d).takeover = d.takeover := count_takeover ..
@[simp] theorem countPkg_pot (slot : Nat) (d : Dev) : (countPkg slot d).pot = d.pot := count_pot ..
@[simp] theorem countPkg_encl (slot : Nat) (d : Dev) : (countPkg slot d).encl = d.encl := count_encl ..
@[simp] theorem countPkg_cmds (slot : Nat) (d : Dev) : (countPkg slot d).cmds = d.cmds := count_cmds ..
@[simp] theorem countPkg_holds (slot : Nat) (d : Dev) : (countPkg slot d).holds = d.holds := count_holds ..
@[simp] theorem countPkg_holdUnits (slot : Nat) (d : Dev) : (countPkg slot d).holdUnits = d.holdUnits := count_holdUnits ..
@[simp] theorem countPkg_reports (slot : Nat) (d : Dev) : (countPkg slot d).reports = d.reports := count_reports ..
@[simp] theorem countPkg_spad (slot : Nat) (d : Dev) : (countPkg slot d).spad = d.spad := count_spad ..
@[simp] theorem countPkg_fatal (slot : Nat) (d : Dev) : (countPkg slot d).fatal = d.fatal := count_fatal ..
@[simp] theorem countPkg_benches (slot : Nat) (d : Dev) : (countPkg slot d).benches = d.benches := count_benches ..
@[simp] theorem countPkg_ledger (slot : Nat) (d : Dev) : (countPkg slot d).ledger = d.ledger := count_ledger ..
@[simp] theorem countPkg_iommu (slot : Nat) (d : Dev) : (countPkg slot d).iommu = d.iommu := count_iommu ..
@[simp] theorem countPkg_gauge (slot : Nat) (d : Dev) : (countPkg slot d).gauge = d.gauge := count_gauge ..
@[simp] theorem countPkg_seg (slot : Nat) (d : Dev) : (countPkg slot d).seg = d.seg := count_seg ..
@[simp] theorem countPkg_sync (slot : Nat) (d : Dev) : (countPkg slot d).sync = d.sync := count_sync ..
@[simp] theorem countPkg_rootPorts (slot : Nat) (d : Dev) : (countPkg slot d).rootPorts = d.rootPorts := count_rootPorts ..
@[simp] theorem countSlice_out (n slot : Nat) (d : Dev) : (countSlice n slot d).out = d.out := count_out ..
@[simp] theorem countSlice_freeCtr (n slot : Nat) (d : Dev) : (countSlice n slot d).freeCtr = d.freeCtr := count_freeCtr ..
@[simp] theorem countSlice_now (n slot : Nat) (d : Dev) : (countSlice n slot d).now = d.now := count_now ..
@[simp] theorem countSlice_pins (n slot : Nat) (d : Dev) : (countSlice n slot d).pins = d.pins := count_pins ..
@[simp] theorem countSlice_fuses (n slot : Nat) (d : Dev) : (countSlice n slot d).fuses = d.fuses := count_fuses ..
@[simp] theorem countSlice_boot (n slot : Nat) (d : Dev) : (countSlice n slot d).boot = d.boot := count_boot ..
@[simp] theorem countSlice_list (n slot : Nat) (d : Dev) : (countSlice n slot d).list = d.list := count_list ..
@[simp] theorem countSlice_kerf (n slot : Nat) (d : Dev) : (countSlice n slot d).kerf = d.kerf := count_kerf ..
@[simp] theorem countSlice_harts (n slot : Nat) (d : Dev) : (countSlice n slot d).harts = d.harts := count_harts ..
@[simp] theorem countSlice_links (n slot : Nat) (d : Dev) : (countSlice n slot d).links = d.links := count_links ..
@[simp] theorem countSlice_jig (n slot : Nat) (d : Dev) : (countSlice n slot d).jig = d.jig := count_jig ..
@[simp] theorem countSlice_holdover (n slot : Nat) (d : Dev) : (countSlice n slot d).holdover = d.holdover := count_holdover ..
@[simp] theorem countSlice_sites (n slot : Nat) (d : Dev) : (countSlice n slot d).sites = d.sites := count_sites ..
@[simp] theorem countSlice_dies (n slot : Nat) (d : Dev) : (countSlice n slot d).dies = d.dies := count_dies ..
@[simp] theorem countSlice_slices (n slot : Nat) (d : Dev) : (countSlice n slot d).slices = d.slices := count_slices ..
@[simp] theorem countSlice_flight (n slot : Nat) (d : Dev) : (countSlice n slot d).flight = d.flight := count_flight ..
@[simp] theorem countSlice_mem (n slot : Nat) (d : Dev) : (countSlice n slot d).mem = d.mem := count_mem ..
@[simp] theorem countSlice_memGen (n slot : Nat) (d : Dev) : (countSlice n slot d).memGen = d.memGen := count_memGen ..
@[simp] theorem countSlice_poison (n slot : Nat) (d : Dev) : (countSlice n slot d).poison = d.poison := count_poison ..
@[simp] theorem countSlice_msc (n slot : Nat) (d : Dev) : (countSlice n slot d).msc = d.msc := count_msc ..
@[simp] theorem countSlice_mscs (n slot : Nat) (d : Dev) : (countSlice n slot d).mscs = d.mscs := count_mscs ..
@[simp] theorem countSlice_maint (n slot : Nat) (d : Dev) : (countSlice n slot d).maint = d.maint := count_maint ..
@[simp] theorem countSlice_chans (n slot : Nat) (d : Dev) : (countSlice n slot d).chans = d.chans := count_chans ..
@[simp] theorem countSlice_subs (n slot : Nat) (d : Dev) : (countSlice n slot d).subs = d.subs := count_subs ..
@[simp] theorem countSlice_cxlState (n slot : Nat) (d : Dev) : (countSlice n slot d).cxlState = d.cxlState := count_cxlState ..
@[simp] theorem countSlice_cxlWait (n slot : Nat) (d : Dev) : (countSlice n slot d).cxlWait = d.cxlWait := count_cxlWait ..
@[simp] theorem countSlice_mirror (n slot : Nat) (d : Dev) : (countSlice n slot d).mirror = d.mirror := count_mirror ..
@[simp] theorem countSlice_takeover (n slot : Nat) (d : Dev) : (countSlice n slot d).takeover = d.takeover := count_takeover ..
@[simp] theorem countSlice_pot (n slot : Nat) (d : Dev) : (countSlice n slot d).pot = d.pot := count_pot ..
@[simp] theorem countSlice_encl (n slot : Nat) (d : Dev) : (countSlice n slot d).encl = d.encl := count_encl ..
@[simp] theorem countSlice_cmds (n slot : Nat) (d : Dev) : (countSlice n slot d).cmds = d.cmds := count_cmds ..
@[simp] theorem countSlice_holds (n slot : Nat) (d : Dev) : (countSlice n slot d).holds = d.holds := count_holds ..
@[simp] theorem countSlice_holdUnits (n slot : Nat) (d : Dev) : (countSlice n slot d).holdUnits = d.holdUnits := count_holdUnits ..
@[simp] theorem countSlice_reports (n slot : Nat) (d : Dev) : (countSlice n slot d).reports = d.reports := count_reports ..
@[simp] theorem countSlice_spad (n slot : Nat) (d : Dev) : (countSlice n slot d).spad = d.spad := count_spad ..
@[simp] theorem countSlice_fatal (n slot : Nat) (d : Dev) : (countSlice n slot d).fatal = d.fatal := count_fatal ..
@[simp] theorem countSlice_benches (n slot : Nat) (d : Dev) : (countSlice n slot d).benches = d.benches := count_benches ..
@[simp] theorem countSlice_ledger (n slot : Nat) (d : Dev) : (countSlice n slot d).ledger = d.ledger := count_ledger ..
@[simp] theorem countSlice_iommu (n slot : Nat) (d : Dev) : (countSlice n slot d).iommu = d.iommu := count_iommu ..
@[simp] theorem countSlice_gauge (n slot : Nat) (d : Dev) : (countSlice n slot d).gauge = d.gauge := count_gauge ..
@[simp] theorem countSlice_seg (n slot : Nat) (d : Dev) : (countSlice n slot d).seg = d.seg := count_seg ..
@[simp] theorem countSlice_sync (n slot : Nat) (d : Dev) : (countSlice n slot d).sync = d.sync := count_sync ..
@[simp] theorem countSlice_rootPorts (n slot : Nat) (d : Dev) : (countSlice n slot d).rootPorts = d.rootPorts := count_rootPorts ..
@[simp] theorem countChan_out (n slot : Nat) (d : Dev) : (countChan n slot d).out = d.out := count_out ..
@[simp] theorem countChan_freeCtr (n slot : Nat) (d : Dev) : (countChan n slot d).freeCtr = d.freeCtr := count_freeCtr ..
@[simp] theorem countChan_now (n slot : Nat) (d : Dev) : (countChan n slot d).now = d.now := count_now ..
@[simp] theorem countChan_pins (n slot : Nat) (d : Dev) : (countChan n slot d).pins = d.pins := count_pins ..
@[simp] theorem countChan_fuses (n slot : Nat) (d : Dev) : (countChan n slot d).fuses = d.fuses := count_fuses ..
@[simp] theorem countChan_boot (n slot : Nat) (d : Dev) : (countChan n slot d).boot = d.boot := count_boot ..
@[simp] theorem countChan_list (n slot : Nat) (d : Dev) : (countChan n slot d).list = d.list := count_list ..
@[simp] theorem countChan_kerf (n slot : Nat) (d : Dev) : (countChan n slot d).kerf = d.kerf := count_kerf ..
@[simp] theorem countChan_harts (n slot : Nat) (d : Dev) : (countChan n slot d).harts = d.harts := count_harts ..
@[simp] theorem countChan_links (n slot : Nat) (d : Dev) : (countChan n slot d).links = d.links := count_links ..
@[simp] theorem countChan_jig (n slot : Nat) (d : Dev) : (countChan n slot d).jig = d.jig := count_jig ..
@[simp] theorem countChan_holdover (n slot : Nat) (d : Dev) : (countChan n slot d).holdover = d.holdover := count_holdover ..
@[simp] theorem countChan_sites (n slot : Nat) (d : Dev) : (countChan n slot d).sites = d.sites := count_sites ..
@[simp] theorem countChan_dies (n slot : Nat) (d : Dev) : (countChan n slot d).dies = d.dies := count_dies ..
@[simp] theorem countChan_slices (n slot : Nat) (d : Dev) : (countChan n slot d).slices = d.slices := count_slices ..
@[simp] theorem countChan_flight (n slot : Nat) (d : Dev) : (countChan n slot d).flight = d.flight := count_flight ..
@[simp] theorem countChan_mem (n slot : Nat) (d : Dev) : (countChan n slot d).mem = d.mem := count_mem ..
@[simp] theorem countChan_memGen (n slot : Nat) (d : Dev) : (countChan n slot d).memGen = d.memGen := count_memGen ..
@[simp] theorem countChan_poison (n slot : Nat) (d : Dev) : (countChan n slot d).poison = d.poison := count_poison ..
@[simp] theorem countChan_msc (n slot : Nat) (d : Dev) : (countChan n slot d).msc = d.msc := count_msc ..
@[simp] theorem countChan_mscs (n slot : Nat) (d : Dev) : (countChan n slot d).mscs = d.mscs := count_mscs ..
@[simp] theorem countChan_maint (n slot : Nat) (d : Dev) : (countChan n slot d).maint = d.maint := count_maint ..
@[simp] theorem countChan_chans (n slot : Nat) (d : Dev) : (countChan n slot d).chans = d.chans := count_chans ..
@[simp] theorem countChan_subs (n slot : Nat) (d : Dev) : (countChan n slot d).subs = d.subs := count_subs ..
@[simp] theorem countChan_cxlState (n slot : Nat) (d : Dev) : (countChan n slot d).cxlState = d.cxlState := count_cxlState ..
@[simp] theorem countChan_cxlWait (n slot : Nat) (d : Dev) : (countChan n slot d).cxlWait = d.cxlWait := count_cxlWait ..
@[simp] theorem countChan_mirror (n slot : Nat) (d : Dev) : (countChan n slot d).mirror = d.mirror := count_mirror ..
@[simp] theorem countChan_takeover (n slot : Nat) (d : Dev) : (countChan n slot d).takeover = d.takeover := count_takeover ..
@[simp] theorem countChan_pot (n slot : Nat) (d : Dev) : (countChan n slot d).pot = d.pot := count_pot ..
@[simp] theorem countChan_encl (n slot : Nat) (d : Dev) : (countChan n slot d).encl = d.encl := count_encl ..
@[simp] theorem countChan_cmds (n slot : Nat) (d : Dev) : (countChan n slot d).cmds = d.cmds := count_cmds ..
@[simp] theorem countChan_holds (n slot : Nat) (d : Dev) : (countChan n slot d).holds = d.holds := count_holds ..
@[simp] theorem countChan_holdUnits (n slot : Nat) (d : Dev) : (countChan n slot d).holdUnits = d.holdUnits := count_holdUnits ..
@[simp] theorem countChan_reports (n slot : Nat) (d : Dev) : (countChan n slot d).reports = d.reports := count_reports ..
@[simp] theorem countChan_spad (n slot : Nat) (d : Dev) : (countChan n slot d).spad = d.spad := count_spad ..
@[simp] theorem countChan_fatal (n slot : Nat) (d : Dev) : (countChan n slot d).fatal = d.fatal := count_fatal ..
@[simp] theorem countChan_benches (n slot : Nat) (d : Dev) : (countChan n slot d).benches = d.benches := count_benches ..
@[simp] theorem countChan_ledger (n slot : Nat) (d : Dev) : (countChan n slot d).ledger = d.ledger := count_ledger ..
@[simp] theorem countChan_iommu (n slot : Nat) (d : Dev) : (countChan n slot d).iommu = d.iommu := count_iommu ..
@[simp] theorem countChan_gauge (n slot : Nat) (d : Dev) : (countChan n slot d).gauge = d.gauge := count_gauge ..
@[simp] theorem countChan_seg (n slot : Nat) (d : Dev) : (countChan n slot d).seg = d.seg := count_seg ..
@[simp] theorem countChan_sync (n slot : Nat) (d : Dev) : (countChan n slot d).sync = d.sync := count_sync ..
@[simp] theorem countChan_rootPorts (n slot : Nat) (d : Dev) : (countChan n slot d).rootPorts = d.rootPorts := count_rootPorts ..
@[simp] theorem countBench_out (n slot : Nat) (d : Dev) : (countBench n slot d).out = d.out := count_out ..
@[simp] theorem countBench_freeCtr (n slot : Nat) (d : Dev) : (countBench n slot d).freeCtr = d.freeCtr := count_freeCtr ..
@[simp] theorem countBench_now (n slot : Nat) (d : Dev) : (countBench n slot d).now = d.now := count_now ..
@[simp] theorem countBench_pins (n slot : Nat) (d : Dev) : (countBench n slot d).pins = d.pins := count_pins ..
@[simp] theorem countBench_fuses (n slot : Nat) (d : Dev) : (countBench n slot d).fuses = d.fuses := count_fuses ..
@[simp] theorem countBench_boot (n slot : Nat) (d : Dev) : (countBench n slot d).boot = d.boot := count_boot ..
@[simp] theorem countBench_list (n slot : Nat) (d : Dev) : (countBench n slot d).list = d.list := count_list ..
@[simp] theorem countBench_kerf (n slot : Nat) (d : Dev) : (countBench n slot d).kerf = d.kerf := count_kerf ..
@[simp] theorem countBench_harts (n slot : Nat) (d : Dev) : (countBench n slot d).harts = d.harts := count_harts ..
@[simp] theorem countBench_links (n slot : Nat) (d : Dev) : (countBench n slot d).links = d.links := count_links ..
@[simp] theorem countBench_jig (n slot : Nat) (d : Dev) : (countBench n slot d).jig = d.jig := count_jig ..
@[simp] theorem countBench_holdover (n slot : Nat) (d : Dev) : (countBench n slot d).holdover = d.holdover := count_holdover ..
@[simp] theorem countBench_sites (n slot : Nat) (d : Dev) : (countBench n slot d).sites = d.sites := count_sites ..
@[simp] theorem countBench_dies (n slot : Nat) (d : Dev) : (countBench n slot d).dies = d.dies := count_dies ..
@[simp] theorem countBench_slices (n slot : Nat) (d : Dev) : (countBench n slot d).slices = d.slices := count_slices ..
@[simp] theorem countBench_flight (n slot : Nat) (d : Dev) : (countBench n slot d).flight = d.flight := count_flight ..
@[simp] theorem countBench_mem (n slot : Nat) (d : Dev) : (countBench n slot d).mem = d.mem := count_mem ..
@[simp] theorem countBench_memGen (n slot : Nat) (d : Dev) : (countBench n slot d).memGen = d.memGen := count_memGen ..
@[simp] theorem countBench_poison (n slot : Nat) (d : Dev) : (countBench n slot d).poison = d.poison := count_poison ..
@[simp] theorem countBench_msc (n slot : Nat) (d : Dev) : (countBench n slot d).msc = d.msc := count_msc ..
@[simp] theorem countBench_mscs (n slot : Nat) (d : Dev) : (countBench n slot d).mscs = d.mscs := count_mscs ..
@[simp] theorem countBench_maint (n slot : Nat) (d : Dev) : (countBench n slot d).maint = d.maint := count_maint ..
@[simp] theorem countBench_chans (n slot : Nat) (d : Dev) : (countBench n slot d).chans = d.chans := count_chans ..
@[simp] theorem countBench_subs (n slot : Nat) (d : Dev) : (countBench n slot d).subs = d.subs := count_subs ..
@[simp] theorem countBench_cxlState (n slot : Nat) (d : Dev) : (countBench n slot d).cxlState = d.cxlState := count_cxlState ..
@[simp] theorem countBench_cxlWait (n slot : Nat) (d : Dev) : (countBench n slot d).cxlWait = d.cxlWait := count_cxlWait ..
@[simp] theorem countBench_mirror (n slot : Nat) (d : Dev) : (countBench n slot d).mirror = d.mirror := count_mirror ..
@[simp] theorem countBench_takeover (n slot : Nat) (d : Dev) : (countBench n slot d).takeover = d.takeover := count_takeover ..
@[simp] theorem countBench_pot (n slot : Nat) (d : Dev) : (countBench n slot d).pot = d.pot := count_pot ..
@[simp] theorem countBench_encl (n slot : Nat) (d : Dev) : (countBench n slot d).encl = d.encl := count_encl ..
@[simp] theorem countBench_cmds (n slot : Nat) (d : Dev) : (countBench n slot d).cmds = d.cmds := count_cmds ..
@[simp] theorem countBench_holds (n slot : Nat) (d : Dev) : (countBench n slot d).holds = d.holds := count_holds ..
@[simp] theorem countBench_holdUnits (n slot : Nat) (d : Dev) : (countBench n slot d).holdUnits = d.holdUnits := count_holdUnits ..
@[simp] theorem countBench_reports (n slot : Nat) (d : Dev) : (countBench n slot d).reports = d.reports := count_reports ..
@[simp] theorem countBench_spad (n slot : Nat) (d : Dev) : (countBench n slot d).spad = d.spad := count_spad ..
@[simp] theorem countBench_fatal (n slot : Nat) (d : Dev) : (countBench n slot d).fatal = d.fatal := count_fatal ..
@[simp] theorem countBench_benches (n slot : Nat) (d : Dev) : (countBench n slot d).benches = d.benches := count_benches ..
@[simp] theorem countBench_ledger (n slot : Nat) (d : Dev) : (countBench n slot d).ledger = d.ledger := count_ledger ..
@[simp] theorem countBench_iommu (n slot : Nat) (d : Dev) : (countBench n slot d).iommu = d.iommu := count_iommu ..
@[simp] theorem countBench_gauge (n slot : Nat) (d : Dev) : (countBench n slot d).gauge = d.gauge := count_gauge ..
@[simp] theorem countBench_seg (n slot : Nat) (d : Dev) : (countBench n slot d).seg = d.seg := count_seg ..
@[simp] theorem countBench_sync (n slot : Nat) (d : Dev) : (countBench n slot d).sync = d.sync := count_sync ..
@[simp] theorem countBench_rootPorts (n slot : Nat) (d : Dev) : (countBench n slot d).rootPorts = d.rootPorts := count_rootPorts ..
@[simp] theorem countDie_out (n slot : Nat) (d : Dev) : (countDie n slot d).out = d.out := count_out ..
@[simp] theorem countDie_freeCtr (n slot : Nat) (d : Dev) : (countDie n slot d).freeCtr = d.freeCtr := count_freeCtr ..
@[simp] theorem countDie_now (n slot : Nat) (d : Dev) : (countDie n slot d).now = d.now := count_now ..
@[simp] theorem countDie_pins (n slot : Nat) (d : Dev) : (countDie n slot d).pins = d.pins := count_pins ..
@[simp] theorem countDie_fuses (n slot : Nat) (d : Dev) : (countDie n slot d).fuses = d.fuses := count_fuses ..
@[simp] theorem countDie_boot (n slot : Nat) (d : Dev) : (countDie n slot d).boot = d.boot := count_boot ..
@[simp] theorem countDie_list (n slot : Nat) (d : Dev) : (countDie n slot d).list = d.list := count_list ..
@[simp] theorem countDie_kerf (n slot : Nat) (d : Dev) : (countDie n slot d).kerf = d.kerf := count_kerf ..
@[simp] theorem countDie_harts (n slot : Nat) (d : Dev) : (countDie n slot d).harts = d.harts := count_harts ..
@[simp] theorem countDie_links (n slot : Nat) (d : Dev) : (countDie n slot d).links = d.links := count_links ..
@[simp] theorem countDie_jig (n slot : Nat) (d : Dev) : (countDie n slot d).jig = d.jig := count_jig ..
@[simp] theorem countDie_holdover (n slot : Nat) (d : Dev) : (countDie n slot d).holdover = d.holdover := count_holdover ..
@[simp] theorem countDie_sites (n slot : Nat) (d : Dev) : (countDie n slot d).sites = d.sites := count_sites ..
@[simp] theorem countDie_dies (n slot : Nat) (d : Dev) : (countDie n slot d).dies = d.dies := count_dies ..
@[simp] theorem countDie_slices (n slot : Nat) (d : Dev) : (countDie n slot d).slices = d.slices := count_slices ..
@[simp] theorem countDie_flight (n slot : Nat) (d : Dev) : (countDie n slot d).flight = d.flight := count_flight ..
@[simp] theorem countDie_mem (n slot : Nat) (d : Dev) : (countDie n slot d).mem = d.mem := count_mem ..
@[simp] theorem countDie_memGen (n slot : Nat) (d : Dev) : (countDie n slot d).memGen = d.memGen := count_memGen ..
@[simp] theorem countDie_poison (n slot : Nat) (d : Dev) : (countDie n slot d).poison = d.poison := count_poison ..
@[simp] theorem countDie_msc (n slot : Nat) (d : Dev) : (countDie n slot d).msc = d.msc := count_msc ..
@[simp] theorem countDie_mscs (n slot : Nat) (d : Dev) : (countDie n slot d).mscs = d.mscs := count_mscs ..
@[simp] theorem countDie_maint (n slot : Nat) (d : Dev) : (countDie n slot d).maint = d.maint := count_maint ..
@[simp] theorem countDie_chans (n slot : Nat) (d : Dev) : (countDie n slot d).chans = d.chans := count_chans ..
@[simp] theorem countDie_subs (n slot : Nat) (d : Dev) : (countDie n slot d).subs = d.subs := count_subs ..
@[simp] theorem countDie_cxlState (n slot : Nat) (d : Dev) : (countDie n slot d).cxlState = d.cxlState := count_cxlState ..
@[simp] theorem countDie_cxlWait (n slot : Nat) (d : Dev) : (countDie n slot d).cxlWait = d.cxlWait := count_cxlWait ..
@[simp] theorem countDie_mirror (n slot : Nat) (d : Dev) : (countDie n slot d).mirror = d.mirror := count_mirror ..
@[simp] theorem countDie_takeover (n slot : Nat) (d : Dev) : (countDie n slot d).takeover = d.takeover := count_takeover ..
@[simp] theorem countDie_pot (n slot : Nat) (d : Dev) : (countDie n slot d).pot = d.pot := count_pot ..
@[simp] theorem countDie_encl (n slot : Nat) (d : Dev) : (countDie n slot d).encl = d.encl := count_encl ..
@[simp] theorem countDie_cmds (n slot : Nat) (d : Dev) : (countDie n slot d).cmds = d.cmds := count_cmds ..
@[simp] theorem countDie_holds (n slot : Nat) (d : Dev) : (countDie n slot d).holds = d.holds := count_holds ..
@[simp] theorem countDie_holdUnits (n slot : Nat) (d : Dev) : (countDie n slot d).holdUnits = d.holdUnits := count_holdUnits ..
@[simp] theorem countDie_reports (n slot : Nat) (d : Dev) : (countDie n slot d).reports = d.reports := count_reports ..
@[simp] theorem countDie_spad (n slot : Nat) (d : Dev) : (countDie n slot d).spad = d.spad := count_spad ..
@[simp] theorem countDie_fatal (n slot : Nat) (d : Dev) : (countDie n slot d).fatal = d.fatal := count_fatal ..
@[simp] theorem countDie_benches (n slot : Nat) (d : Dev) : (countDie n slot d).benches = d.benches := count_benches ..
@[simp] theorem countDie_ledger (n slot : Nat) (d : Dev) : (countDie n slot d).ledger = d.ledger := count_ledger ..
@[simp] theorem countDie_iommu (n slot : Nat) (d : Dev) : (countDie n slot d).iommu = d.iommu := count_iommu ..
@[simp] theorem countDie_gauge (n slot : Nat) (d : Dev) : (countDie n slot d).gauge = d.gauge := count_gauge ..
@[simp] theorem countDie_seg (n slot : Nat) (d : Dev) : (countDie n slot d).seg = d.seg := count_seg ..
@[simp] theorem countDie_sync (n slot : Nat) (d : Dev) : (countDie n slot d).sync = d.sync := count_sync ..
@[simp] theorem countDie_rootPorts (n slot : Nat) (d : Dev) : (countDie n slot d).rootPorts = d.rootPorts := count_rootPorts ..
@[simp] theorem updEncl_out (d : Dev) (e : Nat) (f : Enclave → Enclave) : (updEncl d e f).out = d.out := with_encl_out d _
@[simp] theorem updEncl_freeCtr (d : Dev) (e : Nat) (f : Enclave → Enclave) : (updEncl d e f).freeCtr = d.freeCtr := with_encl_freeCtr d _
@[simp] theorem updEncl_now (d : Dev) (e : Nat) (f : Enclave → Enclave) : (updEncl d e f).now = d.now := with_encl_now d _
@[simp] theorem updEncl_pins (d : Dev) (e : Nat) (f : Enclave → Enclave) : (updEncl d e f).pins = d.pins := with_encl_pins d _
@[simp] theorem updEncl_fuses (d : Dev) (e : Nat) (f : Enclave → Enclave) : (updEncl d e f).fuses = d.fuses := with_encl_fuses d _
@[simp] theorem updEncl_boot (d : Dev) (e : Nat) (f : Enclave → Enclave) : (updEncl d e f).boot = d.boot := with_encl_boot d _
@[simp] theorem updEncl_list (d : Dev) (e : Nat) (f : Enclave → Enclave) : (updEncl d e f).list = d.list := with_encl_list d _
@[simp] theorem updEncl_kerf (d : Dev) (e : Nat) (f : Enclave → Enclave) : (updEncl d e f).kerf = d.kerf := with_encl_kerf d _
@[simp] theorem updEncl_harts (d : Dev) (e : Nat) (f : Enclave → Enclave) : (updEncl d e f).harts = d.harts := with_encl_harts d _
@[simp] theorem updEncl_links (d : Dev) (e : Nat) (f : Enclave → Enclave) : (updEncl d e f).links = d.links := with_encl_links d _
@[simp] theorem updEncl_jig (d : Dev) (e : Nat) (f : Enclave → Enclave) : (updEncl d e f).jig = d.jig := with_encl_jig d _
@[simp] theorem updEncl_holdover (d : Dev) (e : Nat) (f : Enclave → Enclave) : (updEncl d e f).holdover = d.holdover := with_encl_holdover d _
@[simp] theorem updEncl_sites (d : Dev) (e : Nat) (f : Enclave → Enclave) : (updEncl d e f).sites = d.sites := with_encl_sites d _
@[simp] theorem updEncl_dies (d : Dev) (e : Nat) (f : Enclave → Enclave) : (updEncl d e f).dies = d.dies := with_encl_dies d _
@[simp] theorem updEncl_slices (d : Dev) (e : Nat) (f : Enclave → Enclave) : (updEncl d e f).slices = d.slices := with_encl_slices d _
@[simp] theorem updEncl_flight (d : Dev) (e : Nat) (f : Enclave → Enclave) : (updEncl d e f).flight = d.flight := with_encl_flight d _
@[simp] theorem updEncl_mem (d : Dev) (e : Nat) (f : Enclave → Enclave) : (updEncl d e f).mem = d.mem := with_encl_mem d _
@[simp] theorem updEncl_memGen (d : Dev) (e : Nat) (f : Enclave → Enclave) : (updEncl d e f).memGen = d.memGen := with_encl_memGen d _
@[simp] theorem updEncl_poison (d : Dev) (e : Nat) (f : Enclave → Enclave) : (updEncl d e f).poison = d.poison := with_encl_poison d _
@[simp] theorem updEncl_msc (d : Dev) (e : Nat) (f : Enclave → Enclave) : (updEncl d e f).msc = d.msc := with_encl_msc d _
@[simp] theorem updEncl_mscs (d : Dev) (e : Nat) (f : Enclave → Enclave) : (updEncl d e f).mscs = d.mscs := with_encl_mscs d _
@[simp] theorem updEncl_maint (d : Dev) (e : Nat) (f : Enclave → Enclave) : (updEncl d e f).maint = d.maint := with_encl_maint d _
@[simp] theorem updEncl_chans (d : Dev) (e : Nat) (f : Enclave → Enclave) : (updEncl d e f).chans = d.chans := with_encl_chans d _
@[simp] theorem updEncl_subs (d : Dev) (e : Nat) (f : Enclave → Enclave) : (updEncl d e f).subs = d.subs := with_encl_subs d _
@[simp] theorem updEncl_cxlState (d : Dev) (e : Nat) (f : Enclave → Enclave) : (updEncl d e f).cxlState = d.cxlState := with_encl_cxlState d _
@[simp] theorem updEncl_cxlWait (d : Dev) (e : Nat) (f : Enclave → Enclave) : (updEncl d e f).cxlWait = d.cxlWait := with_encl_cxlWait d _
@[simp] theorem updEncl_obs (d : Dev) (e : Nat) (f : Enclave → Enclave) : (updEncl d e f).obs = d.obs := with_encl_obs d _
@[simp] theorem updEncl_mirror (d : Dev) (e : Nat) (f : Enclave → Enclave) : (updEncl d e f).mirror = d.mirror := with_encl_mirror d _
@[simp] theorem updEncl_takeover (d : Dev) (e : Nat) (f : Enclave → Enclave) : (updEncl d e f).takeover = d.takeover := with_encl_takeover d _
@[simp] theorem updEncl_pot (d : Dev) (e : Nat) (f : Enclave → Enclave) : (updEncl d e f).pot = d.pot := with_encl_pot d _
@[simp] theorem updEncl_cmds (d : Dev) (e : Nat) (f : Enclave → Enclave) : (updEncl d e f).cmds = d.cmds := with_encl_cmds d _
@[simp] theorem updEncl_holds (d : Dev) (e : Nat) (f : Enclave → Enclave) : (updEncl d e f).holds = d.holds := with_encl_holds d _
@[simp] theorem updEncl_holdUnits (d : Dev) (e : Nat) (f : Enclave → Enclave) : (updEncl d e f).holdUnits = d.holdUnits := with_encl_holdUnits d _
@[simp] theorem updEncl_reports (d : Dev) (e : Nat) (f : Enclave → Enclave) : (updEncl d e f).reports = d.reports := with_encl_reports d _
@[simp] theorem updEncl_spad (d : Dev) (e : Nat) (f : Enclave → Enclave) : (updEncl d e f).spad = d.spad := with_encl_spad d _
@[simp] theorem updEncl_fatal (d : Dev) (e : Nat) (f : Enclave → Enclave) : (updEncl d e f).fatal = d.fatal := with_encl_fatal d _
@[simp] theorem updEncl_benches (d : Dev) (e : Nat) (f : Enclave → Enclave) : (updEncl d e f).benches = d.benches := with_encl_benches d _
@[simp] theorem updEncl_ledger (d : Dev) (e : Nat) (f : Enclave → Enclave) : (updEncl d e f).ledger = d.ledger := with_encl_ledger d _
@[simp] theorem updEncl_iommu (d : Dev) (e : Nat) (f : Enclave → Enclave) : (updEncl d e f).iommu = d.iommu := with_encl_iommu d _
@[simp] theorem updEncl_gauge (d : Dev) (e : Nat) (f : Enclave → Enclave) : (updEncl d e f).gauge = d.gauge := with_encl_gauge d _
@[simp] theorem updEncl_seg (d : Dev) (e : Nat) (f : Enclave → Enclave) : (updEncl d e f).seg = d.seg := with_encl_seg d _
@[simp] theorem updEncl_sync (d : Dev) (e : Nat) (f : Enclave → Enclave) : (updEncl d e f).sync = d.sync := with_encl_sync d _
@[simp] theorem updEncl_rootPorts (d : Dev) (e : Nat) (f : Enclave → Enclave) : (updEncl d e f).rootPorts = d.rootPorts := with_encl_rootPorts d _
@[simp] theorem updBench_out (d : Dev) (b : Nat) (f : BenchSt → BenchSt) : (updBench d b f).out = d.out := with_benches_out d _
@[simp] theorem updBench_freeCtr (d : Dev) (b : Nat) (f : BenchSt → BenchSt) : (updBench d b f).freeCtr = d.freeCtr := with_benches_freeCtr d _
@[simp] theorem updBench_now (d : Dev) (b : Nat) (f : BenchSt → BenchSt) : (updBench d b f).now = d.now := with_benches_now d _
@[simp] theorem updBench_pins (d : Dev) (b : Nat) (f : BenchSt → BenchSt) : (updBench d b f).pins = d.pins := with_benches_pins d _
@[simp] theorem updBench_fuses (d : Dev) (b : Nat) (f : BenchSt → BenchSt) : (updBench d b f).fuses = d.fuses := with_benches_fuses d _
@[simp] theorem updBench_boot (d : Dev) (b : Nat) (f : BenchSt → BenchSt) : (updBench d b f).boot = d.boot := with_benches_boot d _
@[simp] theorem updBench_list (d : Dev) (b : Nat) (f : BenchSt → BenchSt) : (updBench d b f).list = d.list := with_benches_list d _
@[simp] theorem updBench_kerf (d : Dev) (b : Nat) (f : BenchSt → BenchSt) : (updBench d b f).kerf = d.kerf := with_benches_kerf d _
@[simp] theorem updBench_harts (d : Dev) (b : Nat) (f : BenchSt → BenchSt) : (updBench d b f).harts = d.harts := with_benches_harts d _
@[simp] theorem updBench_links (d : Dev) (b : Nat) (f : BenchSt → BenchSt) : (updBench d b f).links = d.links := with_benches_links d _
@[simp] theorem updBench_jig (d : Dev) (b : Nat) (f : BenchSt → BenchSt) : (updBench d b f).jig = d.jig := with_benches_jig d _
@[simp] theorem updBench_holdover (d : Dev) (b : Nat) (f : BenchSt → BenchSt) : (updBench d b f).holdover = d.holdover := with_benches_holdover d _
@[simp] theorem updBench_sites (d : Dev) (b : Nat) (f : BenchSt → BenchSt) : (updBench d b f).sites = d.sites := with_benches_sites d _
@[simp] theorem updBench_dies (d : Dev) (b : Nat) (f : BenchSt → BenchSt) : (updBench d b f).dies = d.dies := with_benches_dies d _
@[simp] theorem updBench_slices (d : Dev) (b : Nat) (f : BenchSt → BenchSt) : (updBench d b f).slices = d.slices := with_benches_slices d _
@[simp] theorem updBench_flight (d : Dev) (b : Nat) (f : BenchSt → BenchSt) : (updBench d b f).flight = d.flight := with_benches_flight d _
@[simp] theorem updBench_mem (d : Dev) (b : Nat) (f : BenchSt → BenchSt) : (updBench d b f).mem = d.mem := with_benches_mem d _
@[simp] theorem updBench_memGen (d : Dev) (b : Nat) (f : BenchSt → BenchSt) : (updBench d b f).memGen = d.memGen := with_benches_memGen d _
@[simp] theorem updBench_poison (d : Dev) (b : Nat) (f : BenchSt → BenchSt) : (updBench d b f).poison = d.poison := with_benches_poison d _
@[simp] theorem updBench_msc (d : Dev) (b : Nat) (f : BenchSt → BenchSt) : (updBench d b f).msc = d.msc := with_benches_msc d _
@[simp] theorem updBench_mscs (d : Dev) (b : Nat) (f : BenchSt → BenchSt) : (updBench d b f).mscs = d.mscs := with_benches_mscs d _
@[simp] theorem updBench_maint (d : Dev) (b : Nat) (f : BenchSt → BenchSt) : (updBench d b f).maint = d.maint := with_benches_maint d _
@[simp] theorem updBench_chans (d : Dev) (b : Nat) (f : BenchSt → BenchSt) : (updBench d b f).chans = d.chans := with_benches_chans d _
@[simp] theorem updBench_subs (d : Dev) (b : Nat) (f : BenchSt → BenchSt) : (updBench d b f).subs = d.subs := with_benches_subs d _
@[simp] theorem updBench_cxlState (d : Dev) (b : Nat) (f : BenchSt → BenchSt) : (updBench d b f).cxlState = d.cxlState := with_benches_cxlState d _
@[simp] theorem updBench_cxlWait (d : Dev) (b : Nat) (f : BenchSt → BenchSt) : (updBench d b f).cxlWait = d.cxlWait := with_benches_cxlWait d _
@[simp] theorem updBench_obs (d : Dev) (b : Nat) (f : BenchSt → BenchSt) : (updBench d b f).obs = d.obs := with_benches_obs d _
@[simp] theorem updBench_mirror (d : Dev) (b : Nat) (f : BenchSt → BenchSt) : (updBench d b f).mirror = d.mirror := with_benches_mirror d _
@[simp] theorem updBench_takeover (d : Dev) (b : Nat) (f : BenchSt → BenchSt) : (updBench d b f).takeover = d.takeover := with_benches_takeover d _
@[simp] theorem updBench_pot (d : Dev) (b : Nat) (f : BenchSt → BenchSt) : (updBench d b f).pot = d.pot := with_benches_pot d _
@[simp] theorem updBench_encl (d : Dev) (b : Nat) (f : BenchSt → BenchSt) : (updBench d b f).encl = d.encl := with_benches_encl d _
@[simp] theorem updBench_cmds (d : Dev) (b : Nat) (f : BenchSt → BenchSt) : (updBench d b f).cmds = d.cmds := with_benches_cmds d _
@[simp] theorem updBench_holds (d : Dev) (b : Nat) (f : BenchSt → BenchSt) : (updBench d b f).holds = d.holds := with_benches_holds d _
@[simp] theorem updBench_holdUnits (d : Dev) (b : Nat) (f : BenchSt → BenchSt) : (updBench d b f).holdUnits = d.holdUnits := with_benches_holdUnits d _
@[simp] theorem updBench_reports (d : Dev) (b : Nat) (f : BenchSt → BenchSt) : (updBench d b f).reports = d.reports := with_benches_reports d _
@[simp] theorem updBench_spad (d : Dev) (b : Nat) (f : BenchSt → BenchSt) : (updBench d b f).spad = d.spad := with_benches_spad d _
@[simp] theorem updBench_fatal (d : Dev) (b : Nat) (f : BenchSt → BenchSt) : (updBench d b f).fatal = d.fatal := with_benches_fatal d _
@[simp] theorem updBench_ledger (d : Dev) (b : Nat) (f : BenchSt → BenchSt) : (updBench d b f).ledger = d.ledger := with_benches_ledger d _
@[simp] theorem updBench_iommu (d : Dev) (b : Nat) (f : BenchSt → BenchSt) : (updBench d b f).iommu = d.iommu := with_benches_iommu d _
@[simp] theorem updBench_gauge (d : Dev) (b : Nat) (f : BenchSt → BenchSt) : (updBench d b f).gauge = d.gauge := with_benches_gauge d _
@[simp] theorem updBench_seg (d : Dev) (b : Nat) (f : BenchSt → BenchSt) : (updBench d b f).seg = d.seg := with_benches_seg d _
@[simp] theorem updBench_sync (d : Dev) (b : Nat) (f : BenchSt → BenchSt) : (updBench d b f).sync = d.sync := with_benches_sync d _
@[simp] theorem updBench_rootPorts (d : Dev) (b : Nat) (f : BenchSt → BenchSt) : (updBench d b f).rootPorts = d.rootPorts := with_benches_rootPorts d _
@[simp] theorem updFn_out (b k : Nat) (g : Fn → Fn) (d : Dev) : (updFn b k g d).out = d.out := updBench_out ..
@[simp] theorem updFn_freeCtr (b k : Nat) (g : Fn → Fn) (d : Dev) : (updFn b k g d).freeCtr = d.freeCtr := updBench_freeCtr ..
@[simp] theorem updFn_now (b k : Nat) (g : Fn → Fn) (d : Dev) : (updFn b k g d).now = d.now := updBench_now ..
@[simp] theorem updFn_pins (b k : Nat) (g : Fn → Fn) (d : Dev) : (updFn b k g d).pins = d.pins := updBench_pins ..
@[simp] theorem updFn_fuses (b k : Nat) (g : Fn → Fn) (d : Dev) : (updFn b k g d).fuses = d.fuses := updBench_fuses ..
@[simp] theorem updFn_boot (b k : Nat) (g : Fn → Fn) (d : Dev) : (updFn b k g d).boot = d.boot := updBench_boot ..
@[simp] theorem updFn_list (b k : Nat) (g : Fn → Fn) (d : Dev) : (updFn b k g d).list = d.list := updBench_list ..
@[simp] theorem updFn_kerf (b k : Nat) (g : Fn → Fn) (d : Dev) : (updFn b k g d).kerf = d.kerf := updBench_kerf ..
@[simp] theorem updFn_harts (b k : Nat) (g : Fn → Fn) (d : Dev) : (updFn b k g d).harts = d.harts := updBench_harts ..
@[simp] theorem updFn_links (b k : Nat) (g : Fn → Fn) (d : Dev) : (updFn b k g d).links = d.links := updBench_links ..
@[simp] theorem updFn_jig (b k : Nat) (g : Fn → Fn) (d : Dev) : (updFn b k g d).jig = d.jig := updBench_jig ..
@[simp] theorem updFn_holdover (b k : Nat) (g : Fn → Fn) (d : Dev) : (updFn b k g d).holdover = d.holdover := updBench_holdover ..
@[simp] theorem updFn_sites (b k : Nat) (g : Fn → Fn) (d : Dev) : (updFn b k g d).sites = d.sites := updBench_sites ..
@[simp] theorem updFn_dies (b k : Nat) (g : Fn → Fn) (d : Dev) : (updFn b k g d).dies = d.dies := updBench_dies ..
@[simp] theorem updFn_slices (b k : Nat) (g : Fn → Fn) (d : Dev) : (updFn b k g d).slices = d.slices := updBench_slices ..
@[simp] theorem updFn_flight (b k : Nat) (g : Fn → Fn) (d : Dev) : (updFn b k g d).flight = d.flight := updBench_flight ..
@[simp] theorem updFn_mem (b k : Nat) (g : Fn → Fn) (d : Dev) : (updFn b k g d).mem = d.mem := updBench_mem ..
@[simp] theorem updFn_memGen (b k : Nat) (g : Fn → Fn) (d : Dev) : (updFn b k g d).memGen = d.memGen := updBench_memGen ..
@[simp] theorem updFn_poison (b k : Nat) (g : Fn → Fn) (d : Dev) : (updFn b k g d).poison = d.poison := updBench_poison ..
@[simp] theorem updFn_msc (b k : Nat) (g : Fn → Fn) (d : Dev) : (updFn b k g d).msc = d.msc := updBench_msc ..
@[simp] theorem updFn_mscs (b k : Nat) (g : Fn → Fn) (d : Dev) : (updFn b k g d).mscs = d.mscs := updBench_mscs ..
@[simp] theorem updFn_maint (b k : Nat) (g : Fn → Fn) (d : Dev) : (updFn b k g d).maint = d.maint := updBench_maint ..
@[simp] theorem updFn_chans (b k : Nat) (g : Fn → Fn) (d : Dev) : (updFn b k g d).chans = d.chans := updBench_chans ..
@[simp] theorem updFn_subs (b k : Nat) (g : Fn → Fn) (d : Dev) : (updFn b k g d).subs = d.subs := updBench_subs ..
@[simp] theorem updFn_cxlState (b k : Nat) (g : Fn → Fn) (d : Dev) : (updFn b k g d).cxlState = d.cxlState := updBench_cxlState ..
@[simp] theorem updFn_cxlWait (b k : Nat) (g : Fn → Fn) (d : Dev) : (updFn b k g d).cxlWait = d.cxlWait := updBench_cxlWait ..
@[simp] theorem updFn_obs (b k : Nat) (g : Fn → Fn) (d : Dev) : (updFn b k g d).obs = d.obs := updBench_obs ..
@[simp] theorem updFn_mirror (b k : Nat) (g : Fn → Fn) (d : Dev) : (updFn b k g d).mirror = d.mirror := updBench_mirror ..
@[simp] theorem updFn_takeover (b k : Nat) (g : Fn → Fn) (d : Dev) : (updFn b k g d).takeover = d.takeover := updBench_takeover ..
@[simp] theorem updFn_pot (b k : Nat) (g : Fn → Fn) (d : Dev) : (updFn b k g d).pot = d.pot := updBench_pot ..
@[simp] theorem updFn_encl (b k : Nat) (g : Fn → Fn) (d : Dev) : (updFn b k g d).encl = d.encl := updBench_encl ..
@[simp] theorem updFn_cmds (b k : Nat) (g : Fn → Fn) (d : Dev) : (updFn b k g d).cmds = d.cmds := updBench_cmds ..
@[simp] theorem updFn_holds (b k : Nat) (g : Fn → Fn) (d : Dev) : (updFn b k g d).holds = d.holds := updBench_holds ..
@[simp] theorem updFn_holdUnits (b k : Nat) (g : Fn → Fn) (d : Dev) : (updFn b k g d).holdUnits = d.holdUnits := updBench_holdUnits ..
@[simp] theorem updFn_reports (b k : Nat) (g : Fn → Fn) (d : Dev) : (updFn b k g d).reports = d.reports := updBench_reports ..
@[simp] theorem updFn_spad (b k : Nat) (g : Fn → Fn) (d : Dev) : (updFn b k g d).spad = d.spad := updBench_spad ..
@[simp] theorem updFn_fatal (b k : Nat) (g : Fn → Fn) (d : Dev) : (updFn b k g d).fatal = d.fatal := updBench_fatal ..
@[simp] theorem updFn_ledger (b k : Nat) (g : Fn → Fn) (d : Dev) : (updFn b k g d).ledger = d.ledger := updBench_ledger ..
@[simp] theorem updFn_iommu (b k : Nat) (g : Fn → Fn) (d : Dev) : (updFn b k g d).iommu = d.iommu := updBench_iommu ..
@[simp] theorem updFn_gauge (b k : Nat) (g : Fn → Fn) (d : Dev) : (updFn b k g d).gauge = d.gauge := updBench_gauge ..
@[simp] theorem updFn_seg (b k : Nat) (g : Fn → Fn) (d : Dev) : (updFn b k g d).seg = d.seg := updBench_seg ..
@[simp] theorem updFn_sync (b k : Nat) (g : Fn → Fn) (d : Dev) : (updFn b k g d).sync = d.sync := updBench_sync ..
@[simp] theorem updFn_rootPorts (b k : Nat) (g : Fn → Fn) (d : Dev) : (updFn b k g d).rootPorts = d.rootPorts := updBench_rootPorts ..
@[simp] theorem updRing_out (b k r : Nat) (g : Ring → Ring) (d : Dev) : (updRing b k r g d).out = d.out := updBench_out ..
@[simp] theorem updRing_freeCtr (b k r : Nat) (g : Ring → Ring) (d : Dev) : (updRing b k r g d).freeCtr = d.freeCtr := updBench_freeCtr ..
@[simp] theorem updRing_now (b k r : Nat) (g : Ring → Ring) (d : Dev) : (updRing b k r g d).now = d.now := updBench_now ..
@[simp] theorem updRing_pins (b k r : Nat) (g : Ring → Ring) (d : Dev) : (updRing b k r g d).pins = d.pins := updBench_pins ..
@[simp] theorem updRing_fuses (b k r : Nat) (g : Ring → Ring) (d : Dev) : (updRing b k r g d).fuses = d.fuses := updBench_fuses ..
@[simp] theorem updRing_boot (b k r : Nat) (g : Ring → Ring) (d : Dev) : (updRing b k r g d).boot = d.boot := updBench_boot ..
@[simp] theorem updRing_list (b k r : Nat) (g : Ring → Ring) (d : Dev) : (updRing b k r g d).list = d.list := updBench_list ..
@[simp] theorem updRing_kerf (b k r : Nat) (g : Ring → Ring) (d : Dev) : (updRing b k r g d).kerf = d.kerf := updBench_kerf ..
@[simp] theorem updRing_harts (b k r : Nat) (g : Ring → Ring) (d : Dev) : (updRing b k r g d).harts = d.harts := updBench_harts ..
@[simp] theorem updRing_links (b k r : Nat) (g : Ring → Ring) (d : Dev) : (updRing b k r g d).links = d.links := updBench_links ..
@[simp] theorem updRing_jig (b k r : Nat) (g : Ring → Ring) (d : Dev) : (updRing b k r g d).jig = d.jig := updBench_jig ..
@[simp] theorem updRing_holdover (b k r : Nat) (g : Ring → Ring) (d : Dev) : (updRing b k r g d).holdover = d.holdover := updBench_holdover ..
@[simp] theorem updRing_sites (b k r : Nat) (g : Ring → Ring) (d : Dev) : (updRing b k r g d).sites = d.sites := updBench_sites ..
@[simp] theorem updRing_dies (b k r : Nat) (g : Ring → Ring) (d : Dev) : (updRing b k r g d).dies = d.dies := updBench_dies ..
@[simp] theorem updRing_slices (b k r : Nat) (g : Ring → Ring) (d : Dev) : (updRing b k r g d).slices = d.slices := updBench_slices ..
@[simp] theorem updRing_flight (b k r : Nat) (g : Ring → Ring) (d : Dev) : (updRing b k r g d).flight = d.flight := updBench_flight ..
@[simp] theorem updRing_mem (b k r : Nat) (g : Ring → Ring) (d : Dev) : (updRing b k r g d).mem = d.mem := updBench_mem ..
@[simp] theorem updRing_memGen (b k r : Nat) (g : Ring → Ring) (d : Dev) : (updRing b k r g d).memGen = d.memGen := updBench_memGen ..
@[simp] theorem updRing_poison (b k r : Nat) (g : Ring → Ring) (d : Dev) : (updRing b k r g d).poison = d.poison := updBench_poison ..
@[simp] theorem updRing_msc (b k r : Nat) (g : Ring → Ring) (d : Dev) : (updRing b k r g d).msc = d.msc := updBench_msc ..
@[simp] theorem updRing_mscs (b k r : Nat) (g : Ring → Ring) (d : Dev) : (updRing b k r g d).mscs = d.mscs := updBench_mscs ..
@[simp] theorem updRing_maint (b k r : Nat) (g : Ring → Ring) (d : Dev) : (updRing b k r g d).maint = d.maint := updBench_maint ..
@[simp] theorem updRing_chans (b k r : Nat) (g : Ring → Ring) (d : Dev) : (updRing b k r g d).chans = d.chans := updBench_chans ..
@[simp] theorem updRing_subs (b k r : Nat) (g : Ring → Ring) (d : Dev) : (updRing b k r g d).subs = d.subs := updBench_subs ..
@[simp] theorem updRing_cxlState (b k r : Nat) (g : Ring → Ring) (d : Dev) : (updRing b k r g d).cxlState = d.cxlState := updBench_cxlState ..
@[simp] theorem updRing_cxlWait (b k r : Nat) (g : Ring → Ring) (d : Dev) : (updRing b k r g d).cxlWait = d.cxlWait := updBench_cxlWait ..
@[simp] theorem updRing_obs (b k r : Nat) (g : Ring → Ring) (d : Dev) : (updRing b k r g d).obs = d.obs := updBench_obs ..
@[simp] theorem updRing_mirror (b k r : Nat) (g : Ring → Ring) (d : Dev) : (updRing b k r g d).mirror = d.mirror := updBench_mirror ..
@[simp] theorem updRing_takeover (b k r : Nat) (g : Ring → Ring) (d : Dev) : (updRing b k r g d).takeover = d.takeover := updBench_takeover ..
@[simp] theorem updRing_pot (b k r : Nat) (g : Ring → Ring) (d : Dev) : (updRing b k r g d).pot = d.pot := updBench_pot ..
@[simp] theorem updRing_encl (b k r : Nat) (g : Ring → Ring) (d : Dev) : (updRing b k r g d).encl = d.encl := updBench_encl ..
@[simp] theorem updRing_cmds (b k r : Nat) (g : Ring → Ring) (d : Dev) : (updRing b k r g d).cmds = d.cmds := updBench_cmds ..
@[simp] theorem updRing_holds (b k r : Nat) (g : Ring → Ring) (d : Dev) : (updRing b k r g d).holds = d.holds := updBench_holds ..
@[simp] theorem updRing_holdUnits (b k r : Nat) (g : Ring → Ring) (d : Dev) : (updRing b k r g d).holdUnits = d.holdUnits := updBench_holdUnits ..
@[simp] theorem updRing_reports (b k r : Nat) (g : Ring → Ring) (d : Dev) : (updRing b k r g d).reports = d.reports := updBench_reports ..
@[simp] theorem updRing_spad (b k r : Nat) (g : Ring → Ring) (d : Dev) : (updRing b k r g d).spad = d.spad := updBench_spad ..
@[simp] theorem updRing_fatal (b k r : Nat) (g : Ring → Ring) (d : Dev) : (updRing b k r g d).fatal = d.fatal := updBench_fatal ..
@[simp] theorem updRing_ledger (b k r : Nat) (g : Ring → Ring) (d : Dev) : (updRing b k r g d).ledger = d.ledger := updBench_ledger ..
@[simp] theorem updRing_iommu (b k r : Nat) (g : Ring → Ring) (d : Dev) : (updRing b k r g d).iommu = d.iommu := updBench_iommu ..
@[simp] theorem updRing_gauge (b k r : Nat) (g : Ring → Ring) (d : Dev) : (updRing b k r g d).gauge = d.gauge := updBench_gauge ..
@[simp] theorem updRing_seg (b k r : Nat) (g : Ring → Ring) (d : Dev) : (updRing b k r g d).seg = d.seg := updBench_seg ..
@[simp] theorem updRing_sync (b k r : Nat) (g : Ring → Ring) (d : Dev) : (updRing b k r g d).sync = d.sync := updBench_sync ..
@[simp] theorem updRing_rootPorts (b k r : Nat) (g : Ring → Ring) (d : Dev) : (updRing b k r g d).rootPorts = d.rootPorts := updBench_rootPorts ..
@[simp] theorem updFeed_out (b c : Nat) (g : FeedChan → FeedChan) (d : Dev) : (updFeed b c g d).out = d.out := updBench_out ..
@[simp] theorem updFeed_freeCtr (b c : Nat) (g : FeedChan → FeedChan) (d : Dev) : (updFeed b c g d).freeCtr = d.freeCtr := updBench_freeCtr ..
@[simp] theorem updFeed_now (b c : Nat) (g : FeedChan → FeedChan) (d : Dev) : (updFeed b c g d).now = d.now := updBench_now ..
@[simp] theorem updFeed_pins (b c : Nat) (g : FeedChan → FeedChan) (d : Dev) : (updFeed b c g d).pins = d.pins := updBench_pins ..
@[simp] theorem updFeed_fuses (b c : Nat) (g : FeedChan → FeedChan) (d : Dev) : (updFeed b c g d).fuses = d.fuses := updBench_fuses ..
@[simp] theorem updFeed_boot (b c : Nat) (g : FeedChan → FeedChan) (d : Dev) : (updFeed b c g d).boot = d.boot := updBench_boot ..
@[simp] theorem updFeed_list (b c : Nat) (g : FeedChan → FeedChan) (d : Dev) : (updFeed b c g d).list = d.list := updBench_list ..
@[simp] theorem updFeed_kerf (b c : Nat) (g : FeedChan → FeedChan) (d : Dev) : (updFeed b c g d).kerf = d.kerf := updBench_kerf ..
@[simp] theorem updFeed_harts (b c : Nat) (g : FeedChan → FeedChan) (d : Dev) : (updFeed b c g d).harts = d.harts := updBench_harts ..
@[simp] theorem updFeed_links (b c : Nat) (g : FeedChan → FeedChan) (d : Dev) : (updFeed b c g d).links = d.links := updBench_links ..
@[simp] theorem updFeed_jig (b c : Nat) (g : FeedChan → FeedChan) (d : Dev) : (updFeed b c g d).jig = d.jig := updBench_jig ..
@[simp] theorem updFeed_holdover (b c : Nat) (g : FeedChan → FeedChan) (d : Dev) : (updFeed b c g d).holdover = d.holdover := updBench_holdover ..
@[simp] theorem updFeed_sites (b c : Nat) (g : FeedChan → FeedChan) (d : Dev) : (updFeed b c g d).sites = d.sites := updBench_sites ..
@[simp] theorem updFeed_dies (b c : Nat) (g : FeedChan → FeedChan) (d : Dev) : (updFeed b c g d).dies = d.dies := updBench_dies ..
@[simp] theorem updFeed_slices (b c : Nat) (g : FeedChan → FeedChan) (d : Dev) : (updFeed b c g d).slices = d.slices := updBench_slices ..
@[simp] theorem updFeed_flight (b c : Nat) (g : FeedChan → FeedChan) (d : Dev) : (updFeed b c g d).flight = d.flight := updBench_flight ..
@[simp] theorem updFeed_mem (b c : Nat) (g : FeedChan → FeedChan) (d : Dev) : (updFeed b c g d).mem = d.mem := updBench_mem ..
@[simp] theorem updFeed_memGen (b c : Nat) (g : FeedChan → FeedChan) (d : Dev) : (updFeed b c g d).memGen = d.memGen := updBench_memGen ..
@[simp] theorem updFeed_poison (b c : Nat) (g : FeedChan → FeedChan) (d : Dev) : (updFeed b c g d).poison = d.poison := updBench_poison ..
@[simp] theorem updFeed_msc (b c : Nat) (g : FeedChan → FeedChan) (d : Dev) : (updFeed b c g d).msc = d.msc := updBench_msc ..
@[simp] theorem updFeed_mscs (b c : Nat) (g : FeedChan → FeedChan) (d : Dev) : (updFeed b c g d).mscs = d.mscs := updBench_mscs ..
@[simp] theorem updFeed_maint (b c : Nat) (g : FeedChan → FeedChan) (d : Dev) : (updFeed b c g d).maint = d.maint := updBench_maint ..
@[simp] theorem updFeed_chans (b c : Nat) (g : FeedChan → FeedChan) (d : Dev) : (updFeed b c g d).chans = d.chans := updBench_chans ..
@[simp] theorem updFeed_subs (b c : Nat) (g : FeedChan → FeedChan) (d : Dev) : (updFeed b c g d).subs = d.subs := updBench_subs ..
@[simp] theorem updFeed_cxlState (b c : Nat) (g : FeedChan → FeedChan) (d : Dev) : (updFeed b c g d).cxlState = d.cxlState := updBench_cxlState ..
@[simp] theorem updFeed_cxlWait (b c : Nat) (g : FeedChan → FeedChan) (d : Dev) : (updFeed b c g d).cxlWait = d.cxlWait := updBench_cxlWait ..
@[simp] theorem updFeed_obs (b c : Nat) (g : FeedChan → FeedChan) (d : Dev) : (updFeed b c g d).obs = d.obs := updBench_obs ..
@[simp] theorem updFeed_mirror (b c : Nat) (g : FeedChan → FeedChan) (d : Dev) : (updFeed b c g d).mirror = d.mirror := updBench_mirror ..
@[simp] theorem updFeed_takeover (b c : Nat) (g : FeedChan → FeedChan) (d : Dev) : (updFeed b c g d).takeover = d.takeover := updBench_takeover ..
@[simp] theorem updFeed_pot (b c : Nat) (g : FeedChan → FeedChan) (d : Dev) : (updFeed b c g d).pot = d.pot := updBench_pot ..
@[simp] theorem updFeed_encl (b c : Nat) (g : FeedChan → FeedChan) (d : Dev) : (updFeed b c g d).encl = d.encl := updBench_encl ..
@[simp] theorem updFeed_cmds (b c : Nat) (g : FeedChan → FeedChan) (d : Dev) : (updFeed b c g d).cmds = d.cmds := updBench_cmds ..
@[simp] theorem updFeed_holds (b c : Nat) (g : FeedChan → FeedChan) (d : Dev) : (updFeed b c g d).holds = d.holds := updBench_holds ..
@[simp] theorem updFeed_holdUnits (b c : Nat) (g : FeedChan → FeedChan) (d : Dev) : (updFeed b c g d).holdUnits = d.holdUnits := updBench_holdUnits ..
@[simp] theorem updFeed_reports (b c : Nat) (g : FeedChan → FeedChan) (d : Dev) : (updFeed b c g d).reports = d.reports := updBench_reports ..
@[simp] theorem updFeed_spad (b c : Nat) (g : FeedChan → FeedChan) (d : Dev) : (updFeed b c g d).spad = d.spad := updBench_spad ..
@[simp] theorem updFeed_fatal (b c : Nat) (g : FeedChan → FeedChan) (d : Dev) : (updFeed b c g d).fatal = d.fatal := updBench_fatal ..
@[simp] theorem updFeed_ledger (b c : Nat) (g : FeedChan → FeedChan) (d : Dev) : (updFeed b c g d).ledger = d.ledger := updBench_ledger ..
@[simp] theorem updFeed_iommu (b c : Nat) (g : FeedChan → FeedChan) (d : Dev) : (updFeed b c g d).iommu = d.iommu := updBench_iommu ..
@[simp] theorem updFeed_gauge (b c : Nat) (g : FeedChan → FeedChan) (d : Dev) : (updFeed b c g d).gauge = d.gauge := updBench_gauge ..
@[simp] theorem updFeed_seg (b c : Nat) (g : FeedChan → FeedChan) (d : Dev) : (updFeed b c g d).seg = d.seg := updBench_seg ..
@[simp] theorem updFeed_sync (b c : Nat) (g : FeedChan → FeedChan) (d : Dev) : (updFeed b c g d).sync = d.sync := updBench_sync ..
@[simp] theorem updFeed_rootPorts (b c : Nat) (g : FeedChan → FeedChan) (d : Dev) : (updFeed b c g d).rootPorts = d.rootPorts := updBench_rootPorts ..
@[simp] theorem updBoot_out (d : Dev) (f : Boot → Boot) : (updBoot d f).out = d.out := with_boot_out d _
@[simp] theorem updBoot_freeCtr (d : Dev) (f : Boot → Boot) : (updBoot d f).freeCtr = d.freeCtr := with_boot_freeCtr d _
@[simp] theorem updBoot_now (d : Dev) (f : Boot → Boot) : (updBoot d f).now = d.now := with_boot_now d _
@[simp] theorem updBoot_pins (d : Dev) (f : Boot → Boot) : (updBoot d f).pins = d.pins := with_boot_pins d _
@[simp] theorem updBoot_fuses (d : Dev) (f : Boot → Boot) : (updBoot d f).fuses = d.fuses := with_boot_fuses d _
@[simp] theorem updBoot_list (d : Dev) (f : Boot → Boot) : (updBoot d f).list = d.list := with_boot_list d _
@[simp] theorem updBoot_kerf (d : Dev) (f : Boot → Boot) : (updBoot d f).kerf = d.kerf := with_boot_kerf d _
@[simp] theorem updBoot_harts (d : Dev) (f : Boot → Boot) : (updBoot d f).harts = d.harts := with_boot_harts d _
@[simp] theorem updBoot_links (d : Dev) (f : Boot → Boot) : (updBoot d f).links = d.links := with_boot_links d _
@[simp] theorem updBoot_jig (d : Dev) (f : Boot → Boot) : (updBoot d f).jig = d.jig := with_boot_jig d _
@[simp] theorem updBoot_holdover (d : Dev) (f : Boot → Boot) : (updBoot d f).holdover = d.holdover := with_boot_holdover d _
@[simp] theorem updBoot_sites (d : Dev) (f : Boot → Boot) : (updBoot d f).sites = d.sites := with_boot_sites d _
@[simp] theorem updBoot_dies (d : Dev) (f : Boot → Boot) : (updBoot d f).dies = d.dies := with_boot_dies d _
@[simp] theorem updBoot_slices (d : Dev) (f : Boot → Boot) : (updBoot d f).slices = d.slices := with_boot_slices d _
@[simp] theorem updBoot_flight (d : Dev) (f : Boot → Boot) : (updBoot d f).flight = d.flight := with_boot_flight d _
@[simp] theorem updBoot_mem (d : Dev) (f : Boot → Boot) : (updBoot d f).mem = d.mem := with_boot_mem d _
@[simp] theorem updBoot_memGen (d : Dev) (f : Boot → Boot) : (updBoot d f).memGen = d.memGen := with_boot_memGen d _
@[simp] theorem updBoot_poison (d : Dev) (f : Boot → Boot) : (updBoot d f).poison = d.poison := with_boot_poison d _
@[simp] theorem updBoot_msc (d : Dev) (f : Boot → Boot) : (updBoot d f).msc = d.msc := with_boot_msc d _
@[simp] theorem updBoot_mscs (d : Dev) (f : Boot → Boot) : (updBoot d f).mscs = d.mscs := with_boot_mscs d _
@[simp] theorem updBoot_maint (d : Dev) (f : Boot → Boot) : (updBoot d f).maint = d.maint := with_boot_maint d _
@[simp] theorem updBoot_chans (d : Dev) (f : Boot → Boot) : (updBoot d f).chans = d.chans := with_boot_chans d _
@[simp] theorem updBoot_subs (d : Dev) (f : Boot → Boot) : (updBoot d f).subs = d.subs := with_boot_subs d _
@[simp] theorem updBoot_cxlState (d : Dev) (f : Boot → Boot) : (updBoot d f).cxlState = d.cxlState := with_boot_cxlState d _
@[simp] theorem updBoot_cxlWait (d : Dev) (f : Boot → Boot) : (updBoot d f).cxlWait = d.cxlWait := with_boot_cxlWait d _
@[simp] theorem updBoot_obs (d : Dev) (f : Boot → Boot) : (updBoot d f).obs = d.obs := with_boot_obs d _
@[simp] theorem updBoot_mirror (d : Dev) (f : Boot → Boot) : (updBoot d f).mirror = d.mirror := with_boot_mirror d _
@[simp] theorem updBoot_takeover (d : Dev) (f : Boot → Boot) : (updBoot d f).takeover = d.takeover := with_boot_takeover d _
@[simp] theorem updBoot_pot (d : Dev) (f : Boot → Boot) : (updBoot d f).pot = d.pot := with_boot_pot d _
@[simp] theorem updBoot_encl (d : Dev) (f : Boot → Boot) : (updBoot d f).encl = d.encl := with_boot_encl d _
@[simp] theorem updBoot_cmds (d : Dev) (f : Boot → Boot) : (updBoot d f).cmds = d.cmds := with_boot_cmds d _
@[simp] theorem updBoot_holds (d : Dev) (f : Boot → Boot) : (updBoot d f).holds = d.holds := with_boot_holds d _
@[simp] theorem updBoot_holdUnits (d : Dev) (f : Boot → Boot) : (updBoot d f).holdUnits = d.holdUnits := with_boot_holdUnits d _
@[simp] theorem updBoot_reports (d : Dev) (f : Boot → Boot) : (updBoot d f).reports = d.reports := with_boot_reports d _
@[simp] theorem updBoot_spad (d : Dev) (f : Boot → Boot) : (updBoot d f).spad = d.spad := with_boot_spad d _
@[simp] theorem updBoot_fatal (d : Dev) (f : Boot → Boot) : (updBoot d f).fatal = d.fatal := with_boot_fatal d _
@[simp] theorem updBoot_benches (d : Dev) (f : Boot → Boot) : (updBoot d f).benches = d.benches := with_boot_benches d _
@[simp] theorem updBoot_ledger (d : Dev) (f : Boot → Boot) : (updBoot d f).ledger = d.ledger := with_boot_ledger d _
@[simp] theorem updBoot_iommu (d : Dev) (f : Boot → Boot) : (updBoot d f).iommu = d.iommu := with_boot_iommu d _
@[simp] theorem updBoot_gauge (d : Dev) (f : Boot → Boot) : (updBoot d f).gauge = d.gauge := with_boot_gauge d _
@[simp] theorem updBoot_seg (d : Dev) (f : Boot → Boot) : (updBoot d f).seg = d.seg := with_boot_seg d _
@[simp] theorem updBoot_sync (d : Dev) (f : Boot → Boot) : (updBoot d f).sync = d.sync := with_boot_sync d _
@[simp] theorem updBoot_rootPorts (d : Dev) (f : Boot → Boot) : (updBoot d f).rootPorts = d.rootPorts := with_boot_rootPorts d _
@[simp] theorem updMirror_out (d : Dev) (f : MirrorSt → MirrorSt) : (updMirror d f).out = d.out := with_mirror_out d _
@[simp] theorem updMirror_freeCtr (d : Dev) (f : MirrorSt → MirrorSt) : (updMirror d f).freeCtr = d.freeCtr := with_mirror_freeCtr d _
@[simp] theorem updMirror_now (d : Dev) (f : MirrorSt → MirrorSt) : (updMirror d f).now = d.now := with_mirror_now d _
@[simp] theorem updMirror_pins (d : Dev) (f : MirrorSt → MirrorSt) : (updMirror d f).pins = d.pins := with_mirror_pins d _
@[simp] theorem updMirror_fuses (d : Dev) (f : MirrorSt → MirrorSt) : (updMirror d f).fuses = d.fuses := with_mirror_fuses d _
@[simp] theorem updMirror_boot (d : Dev) (f : MirrorSt → MirrorSt) : (updMirror d f).boot = d.boot := with_mirror_boot d _
@[simp] theorem updMirror_list (d : Dev) (f : MirrorSt → MirrorSt) : (updMirror d f).list = d.list := with_mirror_list d _
@[simp] theorem updMirror_kerf (d : Dev) (f : MirrorSt → MirrorSt) : (updMirror d f).kerf = d.kerf := with_mirror_kerf d _
@[simp] theorem updMirror_harts (d : Dev) (f : MirrorSt → MirrorSt) : (updMirror d f).harts = d.harts := with_mirror_harts d _
@[simp] theorem updMirror_links (d : Dev) (f : MirrorSt → MirrorSt) : (updMirror d f).links = d.links := with_mirror_links d _
@[simp] theorem updMirror_jig (d : Dev) (f : MirrorSt → MirrorSt) : (updMirror d f).jig = d.jig := with_mirror_jig d _
@[simp] theorem updMirror_holdover (d : Dev) (f : MirrorSt → MirrorSt) : (updMirror d f).holdover = d.holdover := with_mirror_holdover d _
@[simp] theorem updMirror_sites (d : Dev) (f : MirrorSt → MirrorSt) : (updMirror d f).sites = d.sites := with_mirror_sites d _
@[simp] theorem updMirror_dies (d : Dev) (f : MirrorSt → MirrorSt) : (updMirror d f).dies = d.dies := with_mirror_dies d _
@[simp] theorem updMirror_slices (d : Dev) (f : MirrorSt → MirrorSt) : (updMirror d f).slices = d.slices := with_mirror_slices d _
@[simp] theorem updMirror_flight (d : Dev) (f : MirrorSt → MirrorSt) : (updMirror d f).flight = d.flight := with_mirror_flight d _
@[simp] theorem updMirror_mem (d : Dev) (f : MirrorSt → MirrorSt) : (updMirror d f).mem = d.mem := with_mirror_mem d _
@[simp] theorem updMirror_memGen (d : Dev) (f : MirrorSt → MirrorSt) : (updMirror d f).memGen = d.memGen := with_mirror_memGen d _
@[simp] theorem updMirror_poison (d : Dev) (f : MirrorSt → MirrorSt) : (updMirror d f).poison = d.poison := with_mirror_poison d _
@[simp] theorem updMirror_msc (d : Dev) (f : MirrorSt → MirrorSt) : (updMirror d f).msc = d.msc := with_mirror_msc d _
@[simp] theorem updMirror_mscs (d : Dev) (f : MirrorSt → MirrorSt) : (updMirror d f).mscs = d.mscs := with_mirror_mscs d _
@[simp] theorem updMirror_maint (d : Dev) (f : MirrorSt → MirrorSt) : (updMirror d f).maint = d.maint := with_mirror_maint d _
@[simp] theorem updMirror_chans (d : Dev) (f : MirrorSt → MirrorSt) : (updMirror d f).chans = d.chans := with_mirror_chans d _
@[simp] theorem updMirror_subs (d : Dev) (f : MirrorSt → MirrorSt) : (updMirror d f).subs = d.subs := with_mirror_subs d _
@[simp] theorem updMirror_cxlState (d : Dev) (f : MirrorSt → MirrorSt) : (updMirror d f).cxlState = d.cxlState := with_mirror_cxlState d _
@[simp] theorem updMirror_cxlWait (d : Dev) (f : MirrorSt → MirrorSt) : (updMirror d f).cxlWait = d.cxlWait := with_mirror_cxlWait d _
@[simp] theorem updMirror_obs (d : Dev) (f : MirrorSt → MirrorSt) : (updMirror d f).obs = d.obs := with_mirror_obs d _
@[simp] theorem updMirror_takeover (d : Dev) (f : MirrorSt → MirrorSt) : (updMirror d f).takeover = d.takeover := with_mirror_takeover d _
@[simp] theorem updMirror_pot (d : Dev) (f : MirrorSt → MirrorSt) : (updMirror d f).pot = d.pot := with_mirror_pot d _
@[simp] theorem updMirror_encl (d : Dev) (f : MirrorSt → MirrorSt) : (updMirror d f).encl = d.encl := with_mirror_encl d _
@[simp] theorem updMirror_cmds (d : Dev) (f : MirrorSt → MirrorSt) : (updMirror d f).cmds = d.cmds := with_mirror_cmds d _
@[simp] theorem updMirror_holds (d : Dev) (f : MirrorSt → MirrorSt) : (updMirror d f).holds = d.holds := with_mirror_holds d _
@[simp] theorem updMirror_holdUnits (d : Dev) (f : MirrorSt → MirrorSt) : (updMirror d f).holdUnits = d.holdUnits := with_mirror_holdUnits d _
@[simp] theorem updMirror_reports (d : Dev) (f : MirrorSt → MirrorSt) : (updMirror d f).reports = d.reports := with_mirror_reports d _
@[simp] theorem updMirror_spad (d : Dev) (f : MirrorSt → MirrorSt) : (updMirror d f).spad = d.spad := with_mirror_spad d _
@[simp] theorem updMirror_fatal (d : Dev) (f : MirrorSt → MirrorSt) : (updMirror d f).fatal = d.fatal := with_mirror_fatal d _
@[simp] theorem updMirror_benches (d : Dev) (f : MirrorSt → MirrorSt) : (updMirror d f).benches = d.benches := with_mirror_benches d _
@[simp] theorem updMirror_ledger (d : Dev) (f : MirrorSt → MirrorSt) : (updMirror d f).ledger = d.ledger := with_mirror_ledger d _
@[simp] theorem updMirror_iommu (d : Dev) (f : MirrorSt → MirrorSt) : (updMirror d f).iommu = d.iommu := with_mirror_iommu d _
@[simp] theorem updMirror_gauge (d : Dev) (f : MirrorSt → MirrorSt) : (updMirror d f).gauge = d.gauge := with_mirror_gauge d _
@[simp] theorem updMirror_seg (d : Dev) (f : MirrorSt → MirrorSt) : (updMirror d f).seg = d.seg := with_mirror_seg d _
@[simp] theorem updMirror_sync (d : Dev) (f : MirrorSt → MirrorSt) : (updMirror d f).sync = d.sync := with_mirror_sync d _
@[simp] theorem updMirror_rootPorts (d : Dev) (f : MirrorSt → MirrorSt) : (updMirror d f).rootPorts = d.rootPorts := with_mirror_rootPorts d _
@[simp] theorem updGauge_out (d : Dev) (f : GaugeSt → GaugeSt) : (updGauge d f).out = d.out := with_gauge_out d _
@[simp] theorem updGauge_freeCtr (d : Dev) (f : GaugeSt → GaugeSt) : (updGauge d f).freeCtr = d.freeCtr := with_gauge_freeCtr d _
@[simp] theorem updGauge_now (d : Dev) (f : GaugeSt → GaugeSt) : (updGauge d f).now = d.now := with_gauge_now d _
@[simp] theorem updGauge_pins (d : Dev) (f : GaugeSt → GaugeSt) : (updGauge d f).pins = d.pins := with_gauge_pins d _
@[simp] theorem updGauge_fuses (d : Dev) (f : GaugeSt → GaugeSt) : (updGauge d f).fuses = d.fuses := with_gauge_fuses d _
@[simp] theorem updGauge_boot (d : Dev) (f : GaugeSt → GaugeSt) : (updGauge d f).boot = d.boot := with_gauge_boot d _
@[simp] theorem updGauge_list (d : Dev) (f : GaugeSt → GaugeSt) : (updGauge d f).list = d.list := with_gauge_list d _
@[simp] theorem updGauge_kerf (d : Dev) (f : GaugeSt → GaugeSt) : (updGauge d f).kerf = d.kerf := with_gauge_kerf d _
@[simp] theorem updGauge_harts (d : Dev) (f : GaugeSt → GaugeSt) : (updGauge d f).harts = d.harts := with_gauge_harts d _
@[simp] theorem updGauge_links (d : Dev) (f : GaugeSt → GaugeSt) : (updGauge d f).links = d.links := with_gauge_links d _
@[simp] theorem updGauge_jig (d : Dev) (f : GaugeSt → GaugeSt) : (updGauge d f).jig = d.jig := with_gauge_jig d _
@[simp] theorem updGauge_holdover (d : Dev) (f : GaugeSt → GaugeSt) : (updGauge d f).holdover = d.holdover := with_gauge_holdover d _
@[simp] theorem updGauge_sites (d : Dev) (f : GaugeSt → GaugeSt) : (updGauge d f).sites = d.sites := with_gauge_sites d _
@[simp] theorem updGauge_dies (d : Dev) (f : GaugeSt → GaugeSt) : (updGauge d f).dies = d.dies := with_gauge_dies d _
@[simp] theorem updGauge_slices (d : Dev) (f : GaugeSt → GaugeSt) : (updGauge d f).slices = d.slices := with_gauge_slices d _
@[simp] theorem updGauge_flight (d : Dev) (f : GaugeSt → GaugeSt) : (updGauge d f).flight = d.flight := with_gauge_flight d _
@[simp] theorem updGauge_mem (d : Dev) (f : GaugeSt → GaugeSt) : (updGauge d f).mem = d.mem := with_gauge_mem d _
@[simp] theorem updGauge_memGen (d : Dev) (f : GaugeSt → GaugeSt) : (updGauge d f).memGen = d.memGen := with_gauge_memGen d _
@[simp] theorem updGauge_poison (d : Dev) (f : GaugeSt → GaugeSt) : (updGauge d f).poison = d.poison := with_gauge_poison d _
@[simp] theorem updGauge_msc (d : Dev) (f : GaugeSt → GaugeSt) : (updGauge d f).msc = d.msc := with_gauge_msc d _
@[simp] theorem updGauge_mscs (d : Dev) (f : GaugeSt → GaugeSt) : (updGauge d f).mscs = d.mscs := with_gauge_mscs d _
@[simp] theorem updGauge_maint (d : Dev) (f : GaugeSt → GaugeSt) : (updGauge d f).maint = d.maint := with_gauge_maint d _
@[simp] theorem updGauge_chans (d : Dev) (f : GaugeSt → GaugeSt) : (updGauge d f).chans = d.chans := with_gauge_chans d _
@[simp] theorem updGauge_subs (d : Dev) (f : GaugeSt → GaugeSt) : (updGauge d f).subs = d.subs := with_gauge_subs d _
@[simp] theorem updGauge_cxlState (d : Dev) (f : GaugeSt → GaugeSt) : (updGauge d f).cxlState = d.cxlState := with_gauge_cxlState d _
@[simp] theorem updGauge_cxlWait (d : Dev) (f : GaugeSt → GaugeSt) : (updGauge d f).cxlWait = d.cxlWait := with_gauge_cxlWait d _
@[simp] theorem updGauge_obs (d : Dev) (f : GaugeSt → GaugeSt) : (updGauge d f).obs = d.obs := with_gauge_obs d _
@[simp] theorem updGauge_mirror (d : Dev) (f : GaugeSt → GaugeSt) : (updGauge d f).mirror = d.mirror := with_gauge_mirror d _
@[simp] theorem updGauge_takeover (d : Dev) (f : GaugeSt → GaugeSt) : (updGauge d f).takeover = d.takeover := with_gauge_takeover d _
@[simp] theorem updGauge_pot (d : Dev) (f : GaugeSt → GaugeSt) : (updGauge d f).pot = d.pot := with_gauge_pot d _
@[simp] theorem updGauge_encl (d : Dev) (f : GaugeSt → GaugeSt) : (updGauge d f).encl = d.encl := with_gauge_encl d _
@[simp] theorem updGauge_cmds (d : Dev) (f : GaugeSt → GaugeSt) : (updGauge d f).cmds = d.cmds := with_gauge_cmds d _
@[simp] theorem updGauge_holds (d : Dev) (f : GaugeSt → GaugeSt) : (updGauge d f).holds = d.holds := with_gauge_holds d _
@[simp] theorem updGauge_holdUnits (d : Dev) (f : GaugeSt → GaugeSt) : (updGauge d f).holdUnits = d.holdUnits := with_gauge_holdUnits d _
@[simp] theorem updGauge_reports (d : Dev) (f : GaugeSt → GaugeSt) : (updGauge d f).reports = d.reports := with_gauge_reports d _
@[simp] theorem updGauge_spad (d : Dev) (f : GaugeSt → GaugeSt) : (updGauge d f).spad = d.spad := with_gauge_spad d _
@[simp] theorem updGauge_fatal (d : Dev) (f : GaugeSt → GaugeSt) : (updGauge d f).fatal = d.fatal := with_gauge_fatal d _
@[simp] theorem updGauge_benches (d : Dev) (f : GaugeSt → GaugeSt) : (updGauge d f).benches = d.benches := with_gauge_benches d _
@[simp] theorem updGauge_ledger (d : Dev) (f : GaugeSt → GaugeSt) : (updGauge d f).ledger = d.ledger := with_gauge_ledger d _
@[simp] theorem updGauge_iommu (d : Dev) (f : GaugeSt → GaugeSt) : (updGauge d f).iommu = d.iommu := with_gauge_iommu d _
@[simp] theorem updGauge_seg (d : Dev) (f : GaugeSt → GaugeSt) : (updGauge d f).seg = d.seg := with_gauge_seg d _
@[simp] theorem updGauge_sync (d : Dev) (f : GaugeSt → GaugeSt) : (updGauge d f).sync = d.sync := with_gauge_sync d _
@[simp] theorem updGauge_rootPorts (d : Dev) (f : GaugeSt → GaugeSt) : (updGauge d f).rootPorts = d.rootPorts := with_gauge_rootPorts d _
@[simp] theorem updAcct_out (d : Dev) (a : Nat) (f : Acct → Acct) : (updAcct d a f).out = d.out := with_ledger_out d _
@[simp] theorem updAcct_freeCtr (d : Dev) (a : Nat) (f : Acct → Acct) : (updAcct d a f).freeCtr = d.freeCtr := with_ledger_freeCtr d _
@[simp] theorem updAcct_now (d : Dev) (a : Nat) (f : Acct → Acct) : (updAcct d a f).now = d.now := with_ledger_now d _
@[simp] theorem updAcct_pins (d : Dev) (a : Nat) (f : Acct → Acct) : (updAcct d a f).pins = d.pins := with_ledger_pins d _
@[simp] theorem updAcct_fuses (d : Dev) (a : Nat) (f : Acct → Acct) : (updAcct d a f).fuses = d.fuses := with_ledger_fuses d _
@[simp] theorem updAcct_boot (d : Dev) (a : Nat) (f : Acct → Acct) : (updAcct d a f).boot = d.boot := with_ledger_boot d _
@[simp] theorem updAcct_list (d : Dev) (a : Nat) (f : Acct → Acct) : (updAcct d a f).list = d.list := with_ledger_list d _
@[simp] theorem updAcct_kerf (d : Dev) (a : Nat) (f : Acct → Acct) : (updAcct d a f).kerf = d.kerf := with_ledger_kerf d _
@[simp] theorem updAcct_harts (d : Dev) (a : Nat) (f : Acct → Acct) : (updAcct d a f).harts = d.harts := with_ledger_harts d _
@[simp] theorem updAcct_links (d : Dev) (a : Nat) (f : Acct → Acct) : (updAcct d a f).links = d.links := with_ledger_links d _
@[simp] theorem updAcct_jig (d : Dev) (a : Nat) (f : Acct → Acct) : (updAcct d a f).jig = d.jig := with_ledger_jig d _
@[simp] theorem updAcct_holdover (d : Dev) (a : Nat) (f : Acct → Acct) : (updAcct d a f).holdover = d.holdover := with_ledger_holdover d _
@[simp] theorem updAcct_sites (d : Dev) (a : Nat) (f : Acct → Acct) : (updAcct d a f).sites = d.sites := with_ledger_sites d _
@[simp] theorem updAcct_dies (d : Dev) (a : Nat) (f : Acct → Acct) : (updAcct d a f).dies = d.dies := with_ledger_dies d _
@[simp] theorem updAcct_slices (d : Dev) (a : Nat) (f : Acct → Acct) : (updAcct d a f).slices = d.slices := with_ledger_slices d _
@[simp] theorem updAcct_flight (d : Dev) (a : Nat) (f : Acct → Acct) : (updAcct d a f).flight = d.flight := with_ledger_flight d _
@[simp] theorem updAcct_mem (d : Dev) (a : Nat) (f : Acct → Acct) : (updAcct d a f).mem = d.mem := with_ledger_mem d _
@[simp] theorem updAcct_memGen (d : Dev) (a : Nat) (f : Acct → Acct) : (updAcct d a f).memGen = d.memGen := with_ledger_memGen d _
@[simp] theorem updAcct_poison (d : Dev) (a : Nat) (f : Acct → Acct) : (updAcct d a f).poison = d.poison := with_ledger_poison d _
@[simp] theorem updAcct_msc (d : Dev) (a : Nat) (f : Acct → Acct) : (updAcct d a f).msc = d.msc := with_ledger_msc d _
@[simp] theorem updAcct_mscs (d : Dev) (a : Nat) (f : Acct → Acct) : (updAcct d a f).mscs = d.mscs := with_ledger_mscs d _
@[simp] theorem updAcct_maint (d : Dev) (a : Nat) (f : Acct → Acct) : (updAcct d a f).maint = d.maint := with_ledger_maint d _
@[simp] theorem updAcct_chans (d : Dev) (a : Nat) (f : Acct → Acct) : (updAcct d a f).chans = d.chans := with_ledger_chans d _
@[simp] theorem updAcct_subs (d : Dev) (a : Nat) (f : Acct → Acct) : (updAcct d a f).subs = d.subs := with_ledger_subs d _
@[simp] theorem updAcct_cxlState (d : Dev) (a : Nat) (f : Acct → Acct) : (updAcct d a f).cxlState = d.cxlState := with_ledger_cxlState d _
@[simp] theorem updAcct_cxlWait (d : Dev) (a : Nat) (f : Acct → Acct) : (updAcct d a f).cxlWait = d.cxlWait := with_ledger_cxlWait d _
@[simp] theorem updAcct_obs (d : Dev) (a : Nat) (f : Acct → Acct) : (updAcct d a f).obs = d.obs := with_ledger_obs d _
@[simp] theorem updAcct_mirror (d : Dev) (a : Nat) (f : Acct → Acct) : (updAcct d a f).mirror = d.mirror := with_ledger_mirror d _
@[simp] theorem updAcct_takeover (d : Dev) (a : Nat) (f : Acct → Acct) : (updAcct d a f).takeover = d.takeover := with_ledger_takeover d _
@[simp] theorem updAcct_pot (d : Dev) (a : Nat) (f : Acct → Acct) : (updAcct d a f).pot = d.pot := with_ledger_pot d _
@[simp] theorem updAcct_encl (d : Dev) (a : Nat) (f : Acct → Acct) : (updAcct d a f).encl = d.encl := with_ledger_encl d _
@[simp] theorem updAcct_cmds (d : Dev) (a : Nat) (f : Acct → Acct) : (updAcct d a f).cmds = d.cmds := with_ledger_cmds d _
@[simp] theorem updAcct_holds (d : Dev) (a : Nat) (f : Acct → Acct) : (updAcct d a f).holds = d.holds := with_ledger_holds d _
@[simp] theorem updAcct_holdUnits (d : Dev) (a : Nat) (f : Acct → Acct) : (updAcct d a f).holdUnits = d.holdUnits := with_ledger_holdUnits d _
@[simp] theorem updAcct_reports (d : Dev) (a : Nat) (f : Acct → Acct) : (updAcct d a f).reports = d.reports := with_ledger_reports d _
@[simp] theorem updAcct_spad (d : Dev) (a : Nat) (f : Acct → Acct) : (updAcct d a f).spad = d.spad := with_ledger_spad d _
@[simp] theorem updAcct_fatal (d : Dev) (a : Nat) (f : Acct → Acct) : (updAcct d a f).fatal = d.fatal := with_ledger_fatal d _
@[simp] theorem updAcct_benches (d : Dev) (a : Nat) (f : Acct → Acct) : (updAcct d a f).benches = d.benches := with_ledger_benches d _
@[simp] theorem updAcct_iommu (d : Dev) (a : Nat) (f : Acct → Acct) : (updAcct d a f).iommu = d.iommu := with_ledger_iommu d _
@[simp] theorem updAcct_gauge (d : Dev) (a : Nat) (f : Acct → Acct) : (updAcct d a f).gauge = d.gauge := with_ledger_gauge d _
@[simp] theorem updAcct_seg (d : Dev) (a : Nat) (f : Acct → Acct) : (updAcct d a f).seg = d.seg := with_ledger_seg d _
@[simp] theorem updAcct_sync (d : Dev) (a : Nat) (f : Acct → Acct) : (updAcct d a f).sync = d.sync := with_ledger_sync d _
@[simp] theorem updAcct_rootPorts (d : Dev) (a : Nat) (f : Acct → Acct) : (updAcct d a f).rootPorts = d.rootPorts := with_ledger_rootPorts d _
@[simp] theorem updLedger_out (d : Dev) (f : LedgerSt → LedgerSt) : (updLedger d f).out = d.out := with_ledger_out d _
@[simp] theorem updLedger_freeCtr (d : Dev) (f : LedgerSt → LedgerSt) : (updLedger d f).freeCtr = d.freeCtr := with_ledger_freeCtr d _
@[simp] theorem updLedger_now (d : Dev) (f : LedgerSt → LedgerSt) : (updLedger d f).now = d.now := with_ledger_now d _
@[simp] theorem updLedger_pins (d : Dev) (f : LedgerSt → LedgerSt) : (updLedger d f).pins = d.pins := with_ledger_pins d _
@[simp] theorem updLedger_fuses (d : Dev) (f : LedgerSt → LedgerSt) : (updLedger d f).fuses = d.fuses := with_ledger_fuses d _
@[simp] theorem updLedger_boot (d : Dev) (f : LedgerSt → LedgerSt) : (updLedger d f).boot = d.boot := with_ledger_boot d _
@[simp] theorem updLedger_list (d : Dev) (f : LedgerSt → LedgerSt) : (updLedger d f).list = d.list := with_ledger_list d _
@[simp] theorem updLedger_kerf (d : Dev) (f : LedgerSt → LedgerSt) : (updLedger d f).kerf = d.kerf := with_ledger_kerf d _
@[simp] theorem updLedger_harts (d : Dev) (f : LedgerSt → LedgerSt) : (updLedger d f).harts = d.harts := with_ledger_harts d _
@[simp] theorem updLedger_links (d : Dev) (f : LedgerSt → LedgerSt) : (updLedger d f).links = d.links := with_ledger_links d _
@[simp] theorem updLedger_jig (d : Dev) (f : LedgerSt → LedgerSt) : (updLedger d f).jig = d.jig := with_ledger_jig d _
@[simp] theorem updLedger_holdover (d : Dev) (f : LedgerSt → LedgerSt) : (updLedger d f).holdover = d.holdover := with_ledger_holdover d _
@[simp] theorem updLedger_sites (d : Dev) (f : LedgerSt → LedgerSt) : (updLedger d f).sites = d.sites := with_ledger_sites d _
@[simp] theorem updLedger_dies (d : Dev) (f : LedgerSt → LedgerSt) : (updLedger d f).dies = d.dies := with_ledger_dies d _
@[simp] theorem updLedger_slices (d : Dev) (f : LedgerSt → LedgerSt) : (updLedger d f).slices = d.slices := with_ledger_slices d _
@[simp] theorem updLedger_flight (d : Dev) (f : LedgerSt → LedgerSt) : (updLedger d f).flight = d.flight := with_ledger_flight d _
@[simp] theorem updLedger_mem (d : Dev) (f : LedgerSt → LedgerSt) : (updLedger d f).mem = d.mem := with_ledger_mem d _
@[simp] theorem updLedger_memGen (d : Dev) (f : LedgerSt → LedgerSt) : (updLedger d f).memGen = d.memGen := with_ledger_memGen d _
@[simp] theorem updLedger_poison (d : Dev) (f : LedgerSt → LedgerSt) : (updLedger d f).poison = d.poison := with_ledger_poison d _
@[simp] theorem updLedger_msc (d : Dev) (f : LedgerSt → LedgerSt) : (updLedger d f).msc = d.msc := with_ledger_msc d _
@[simp] theorem updLedger_mscs (d : Dev) (f : LedgerSt → LedgerSt) : (updLedger d f).mscs = d.mscs := with_ledger_mscs d _
@[simp] theorem updLedger_maint (d : Dev) (f : LedgerSt → LedgerSt) : (updLedger d f).maint = d.maint := with_ledger_maint d _
@[simp] theorem updLedger_chans (d : Dev) (f : LedgerSt → LedgerSt) : (updLedger d f).chans = d.chans := with_ledger_chans d _
@[simp] theorem updLedger_subs (d : Dev) (f : LedgerSt → LedgerSt) : (updLedger d f).subs = d.subs := with_ledger_subs d _
@[simp] theorem updLedger_cxlState (d : Dev) (f : LedgerSt → LedgerSt) : (updLedger d f).cxlState = d.cxlState := with_ledger_cxlState d _
@[simp] theorem updLedger_cxlWait (d : Dev) (f : LedgerSt → LedgerSt) : (updLedger d f).cxlWait = d.cxlWait := with_ledger_cxlWait d _
@[simp] theorem updLedger_obs (d : Dev) (f : LedgerSt → LedgerSt) : (updLedger d f).obs = d.obs := with_ledger_obs d _
@[simp] theorem updLedger_mirror (d : Dev) (f : LedgerSt → LedgerSt) : (updLedger d f).mirror = d.mirror := with_ledger_mirror d _
@[simp] theorem updLedger_takeover (d : Dev) (f : LedgerSt → LedgerSt) : (updLedger d f).takeover = d.takeover := with_ledger_takeover d _
@[simp] theorem updLedger_pot (d : Dev) (f : LedgerSt → LedgerSt) : (updLedger d f).pot = d.pot := with_ledger_pot d _
@[simp] theorem updLedger_encl (d : Dev) (f : LedgerSt → LedgerSt) : (updLedger d f).encl = d.encl := with_ledger_encl d _
@[simp] theorem updLedger_cmds (d : Dev) (f : LedgerSt → LedgerSt) : (updLedger d f).cmds = d.cmds := with_ledger_cmds d _
@[simp] theorem updLedger_holds (d : Dev) (f : LedgerSt → LedgerSt) : (updLedger d f).holds = d.holds := with_ledger_holds d _
@[simp] theorem updLedger_holdUnits (d : Dev) (f : LedgerSt → LedgerSt) : (updLedger d f).holdUnits = d.holdUnits := with_ledger_holdUnits d _
@[simp] theorem updLedger_reports (d : Dev) (f : LedgerSt → LedgerSt) : (updLedger d f).reports = d.reports := with_ledger_reports d _
@[simp] theorem updLedger_spad (d : Dev) (f : LedgerSt → LedgerSt) : (updLedger d f).spad = d.spad := with_ledger_spad d _
@[simp] theorem updLedger_fatal (d : Dev) (f : LedgerSt → LedgerSt) : (updLedger d f).fatal = d.fatal := with_ledger_fatal d _
@[simp] theorem updLedger_benches (d : Dev) (f : LedgerSt → LedgerSt) : (updLedger d f).benches = d.benches := with_ledger_benches d _
@[simp] theorem updLedger_iommu (d : Dev) (f : LedgerSt → LedgerSt) : (updLedger d f).iommu = d.iommu := with_ledger_iommu d _
@[simp] theorem updLedger_gauge (d : Dev) (f : LedgerSt → LedgerSt) : (updLedger d f).gauge = d.gauge := with_ledger_gauge d _
@[simp] theorem updLedger_seg (d : Dev) (f : LedgerSt → LedgerSt) : (updLedger d f).seg = d.seg := with_ledger_seg d _
@[simp] theorem updLedger_sync (d : Dev) (f : LedgerSt → LedgerSt) : (updLedger d f).sync = d.sync := with_ledger_sync d _
@[simp] theorem updLedger_rootPorts (d : Dev) (f : LedgerSt → LedgerSt) : (updLedger d f).rootPorts = d.rootPorts := with_ledger_rootPorts d _
@[simp] theorem updCmd_out (d : Dev) (h : Nat) (f : CmdSlot → CmdSlot) : (updCmd d h f).out = d.out := with_cmds_out d _
@[simp] theorem updCmd_freeCtr (d : Dev) (h : Nat) (f : CmdSlot → CmdSlot) : (updCmd d h f).freeCtr = d.freeCtr := with_cmds_freeCtr d _
@[simp] theorem updCmd_now (d : Dev) (h : Nat) (f : CmdSlot → CmdSlot) : (updCmd d h f).now = d.now := with_cmds_now d _
@[simp] theorem updCmd_pins (d : Dev) (h : Nat) (f : CmdSlot → CmdSlot) : (updCmd d h f).pins = d.pins := with_cmds_pins d _
@[simp] theorem updCmd_fuses (d : Dev) (h : Nat) (f : CmdSlot → CmdSlot) : (updCmd d h f).fuses = d.fuses := with_cmds_fuses d _
@[simp] theorem updCmd_boot (d : Dev) (h : Nat) (f : CmdSlot → CmdSlot) : (updCmd d h f).boot = d.boot := with_cmds_boot d _
@[simp] theorem updCmd_list (d : Dev) (h : Nat) (f : CmdSlot → CmdSlot) : (updCmd d h f).list = d.list := with_cmds_list d _
@[simp] theorem updCmd_kerf (d : Dev) (h : Nat) (f : CmdSlot → CmdSlot) : (updCmd d h f).kerf = d.kerf := with_cmds_kerf d _
@[simp] theorem updCmd_harts (d : Dev) (h : Nat) (f : CmdSlot → CmdSlot) : (updCmd d h f).harts = d.harts := with_cmds_harts d _
@[simp] theorem updCmd_links (d : Dev) (h : Nat) (f : CmdSlot → CmdSlot) : (updCmd d h f).links = d.links := with_cmds_links d _
@[simp] theorem updCmd_jig (d : Dev) (h : Nat) (f : CmdSlot → CmdSlot) : (updCmd d h f).jig = d.jig := with_cmds_jig d _
@[simp] theorem updCmd_holdover (d : Dev) (h : Nat) (f : CmdSlot → CmdSlot) : (updCmd d h f).holdover = d.holdover := with_cmds_holdover d _
@[simp] theorem updCmd_sites (d : Dev) (h : Nat) (f : CmdSlot → CmdSlot) : (updCmd d h f).sites = d.sites := with_cmds_sites d _
@[simp] theorem updCmd_dies (d : Dev) (h : Nat) (f : CmdSlot → CmdSlot) : (updCmd d h f).dies = d.dies := with_cmds_dies d _
@[simp] theorem updCmd_slices (d : Dev) (h : Nat) (f : CmdSlot → CmdSlot) : (updCmd d h f).slices = d.slices := with_cmds_slices d _
@[simp] theorem updCmd_flight (d : Dev) (h : Nat) (f : CmdSlot → CmdSlot) : (updCmd d h f).flight = d.flight := with_cmds_flight d _
@[simp] theorem updCmd_mem (d : Dev) (h : Nat) (f : CmdSlot → CmdSlot) : (updCmd d h f).mem = d.mem := with_cmds_mem d _
@[simp] theorem updCmd_memGen (d : Dev) (h : Nat) (f : CmdSlot → CmdSlot) : (updCmd d h f).memGen = d.memGen := with_cmds_memGen d _
@[simp] theorem updCmd_poison (d : Dev) (h : Nat) (f : CmdSlot → CmdSlot) : (updCmd d h f).poison = d.poison := with_cmds_poison d _
@[simp] theorem updCmd_msc (d : Dev) (h : Nat) (f : CmdSlot → CmdSlot) : (updCmd d h f).msc = d.msc := with_cmds_msc d _
@[simp] theorem updCmd_mscs (d : Dev) (h : Nat) (f : CmdSlot → CmdSlot) : (updCmd d h f).mscs = d.mscs := with_cmds_mscs d _
@[simp] theorem updCmd_maint (d : Dev) (h : Nat) (f : CmdSlot → CmdSlot) : (updCmd d h f).maint = d.maint := with_cmds_maint d _
@[simp] theorem updCmd_chans (d : Dev) (h : Nat) (f : CmdSlot → CmdSlot) : (updCmd d h f).chans = d.chans := with_cmds_chans d _
@[simp] theorem updCmd_subs (d : Dev) (h : Nat) (f : CmdSlot → CmdSlot) : (updCmd d h f).subs = d.subs := with_cmds_subs d _
@[simp] theorem updCmd_cxlState (d : Dev) (h : Nat) (f : CmdSlot → CmdSlot) : (updCmd d h f).cxlState = d.cxlState := with_cmds_cxlState d _
@[simp] theorem updCmd_cxlWait (d : Dev) (h : Nat) (f : CmdSlot → CmdSlot) : (updCmd d h f).cxlWait = d.cxlWait := with_cmds_cxlWait d _
@[simp] theorem updCmd_obs (d : Dev) (h : Nat) (f : CmdSlot → CmdSlot) : (updCmd d h f).obs = d.obs := with_cmds_obs d _
@[simp] theorem updCmd_mirror (d : Dev) (h : Nat) (f : CmdSlot → CmdSlot) : (updCmd d h f).mirror = d.mirror := with_cmds_mirror d _
@[simp] theorem updCmd_takeover (d : Dev) (h : Nat) (f : CmdSlot → CmdSlot) : (updCmd d h f).takeover = d.takeover := with_cmds_takeover d _
@[simp] theorem updCmd_pot (d : Dev) (h : Nat) (f : CmdSlot → CmdSlot) : (updCmd d h f).pot = d.pot := with_cmds_pot d _
@[simp] theorem updCmd_encl (d : Dev) (h : Nat) (f : CmdSlot → CmdSlot) : (updCmd d h f).encl = d.encl := with_cmds_encl d _
@[simp] theorem updCmd_holds (d : Dev) (h : Nat) (f : CmdSlot → CmdSlot) : (updCmd d h f).holds = d.holds := with_cmds_holds d _
@[simp] theorem updCmd_holdUnits (d : Dev) (h : Nat) (f : CmdSlot → CmdSlot) : (updCmd d h f).holdUnits = d.holdUnits := with_cmds_holdUnits d _
@[simp] theorem updCmd_reports (d : Dev) (h : Nat) (f : CmdSlot → CmdSlot) : (updCmd d h f).reports = d.reports := with_cmds_reports d _
@[simp] theorem updCmd_spad (d : Dev) (h : Nat) (f : CmdSlot → CmdSlot) : (updCmd d h f).spad = d.spad := with_cmds_spad d _
@[simp] theorem updCmd_fatal (d : Dev) (h : Nat) (f : CmdSlot → CmdSlot) : (updCmd d h f).fatal = d.fatal := with_cmds_fatal d _
@[simp] theorem updCmd_benches (d : Dev) (h : Nat) (f : CmdSlot → CmdSlot) : (updCmd d h f).benches = d.benches := with_cmds_benches d _
@[simp] theorem updCmd_ledger (d : Dev) (h : Nat) (f : CmdSlot → CmdSlot) : (updCmd d h f).ledger = d.ledger := with_cmds_ledger d _
@[simp] theorem updCmd_iommu (d : Dev) (h : Nat) (f : CmdSlot → CmdSlot) : (updCmd d h f).iommu = d.iommu := with_cmds_iommu d _
@[simp] theorem updCmd_gauge (d : Dev) (h : Nat) (f : CmdSlot → CmdSlot) : (updCmd d h f).gauge = d.gauge := with_cmds_gauge d _
@[simp] theorem updCmd_seg (d : Dev) (h : Nat) (f : CmdSlot → CmdSlot) : (updCmd d h f).seg = d.seg := with_cmds_seg d _
@[simp] theorem updCmd_sync (d : Dev) (h : Nat) (f : CmdSlot → CmdSlot) : (updCmd d h f).sync = d.sync := with_cmds_sync d _
@[simp] theorem updCmd_rootPorts (d : Dev) (h : Nat) (f : CmdSlot → CmdSlot) : (updCmd d h f).rootPorts = d.rootPorts := with_cmds_rootPorts d _
@[simp] theorem updSeg_out (d : Dev) (f : SegSt → SegSt) : (updSeg d f).out = d.out := with_seg_out d _
@[simp] theorem updSeg_freeCtr (d : Dev) (f : SegSt → SegSt) : (updSeg d f).freeCtr = d.freeCtr := with_seg_freeCtr d _
@[simp] theorem updSeg_now (d : Dev) (f : SegSt → SegSt) : (updSeg d f).now = d.now := with_seg_now d _
@[simp] theorem updSeg_pins (d : Dev) (f : SegSt → SegSt) : (updSeg d f).pins = d.pins := with_seg_pins d _
@[simp] theorem updSeg_fuses (d : Dev) (f : SegSt → SegSt) : (updSeg d f).fuses = d.fuses := with_seg_fuses d _
@[simp] theorem updSeg_boot (d : Dev) (f : SegSt → SegSt) : (updSeg d f).boot = d.boot := with_seg_boot d _
@[simp] theorem updSeg_list (d : Dev) (f : SegSt → SegSt) : (updSeg d f).list = d.list := with_seg_list d _
@[simp] theorem updSeg_kerf (d : Dev) (f : SegSt → SegSt) : (updSeg d f).kerf = d.kerf := with_seg_kerf d _
@[simp] theorem updSeg_harts (d : Dev) (f : SegSt → SegSt) : (updSeg d f).harts = d.harts := with_seg_harts d _
@[simp] theorem updSeg_links (d : Dev) (f : SegSt → SegSt) : (updSeg d f).links = d.links := with_seg_links d _
@[simp] theorem updSeg_jig (d : Dev) (f : SegSt → SegSt) : (updSeg d f).jig = d.jig := with_seg_jig d _
@[simp] theorem updSeg_holdover (d : Dev) (f : SegSt → SegSt) : (updSeg d f).holdover = d.holdover := with_seg_holdover d _
@[simp] theorem updSeg_sites (d : Dev) (f : SegSt → SegSt) : (updSeg d f).sites = d.sites := with_seg_sites d _
@[simp] theorem updSeg_dies (d : Dev) (f : SegSt → SegSt) : (updSeg d f).dies = d.dies := with_seg_dies d _
@[simp] theorem updSeg_slices (d : Dev) (f : SegSt → SegSt) : (updSeg d f).slices = d.slices := with_seg_slices d _
@[simp] theorem updSeg_flight (d : Dev) (f : SegSt → SegSt) : (updSeg d f).flight = d.flight := with_seg_flight d _
@[simp] theorem updSeg_mem (d : Dev) (f : SegSt → SegSt) : (updSeg d f).mem = d.mem := with_seg_mem d _
@[simp] theorem updSeg_memGen (d : Dev) (f : SegSt → SegSt) : (updSeg d f).memGen = d.memGen := with_seg_memGen d _
@[simp] theorem updSeg_poison (d : Dev) (f : SegSt → SegSt) : (updSeg d f).poison = d.poison := with_seg_poison d _
@[simp] theorem updSeg_msc (d : Dev) (f : SegSt → SegSt) : (updSeg d f).msc = d.msc := with_seg_msc d _
@[simp] theorem updSeg_mscs (d : Dev) (f : SegSt → SegSt) : (updSeg d f).mscs = d.mscs := with_seg_mscs d _
@[simp] theorem updSeg_maint (d : Dev) (f : SegSt → SegSt) : (updSeg d f).maint = d.maint := with_seg_maint d _
@[simp] theorem updSeg_chans (d : Dev) (f : SegSt → SegSt) : (updSeg d f).chans = d.chans := with_seg_chans d _
@[simp] theorem updSeg_subs (d : Dev) (f : SegSt → SegSt) : (updSeg d f).subs = d.subs := with_seg_subs d _
@[simp] theorem updSeg_cxlState (d : Dev) (f : SegSt → SegSt) : (updSeg d f).cxlState = d.cxlState := with_seg_cxlState d _
@[simp] theorem updSeg_cxlWait (d : Dev) (f : SegSt → SegSt) : (updSeg d f).cxlWait = d.cxlWait := with_seg_cxlWait d _
@[simp] theorem updSeg_obs (d : Dev) (f : SegSt → SegSt) : (updSeg d f).obs = d.obs := with_seg_obs d _
@[simp] theorem updSeg_mirror (d : Dev) (f : SegSt → SegSt) : (updSeg d f).mirror = d.mirror := with_seg_mirror d _
@[simp] theorem updSeg_takeover (d : Dev) (f : SegSt → SegSt) : (updSeg d f).takeover = d.takeover := with_seg_takeover d _
@[simp] theorem updSeg_pot (d : Dev) (f : SegSt → SegSt) : (updSeg d f).pot = d.pot := with_seg_pot d _
@[simp] theorem updSeg_encl (d : Dev) (f : SegSt → SegSt) : (updSeg d f).encl = d.encl := with_seg_encl d _
@[simp] theorem updSeg_cmds (d : Dev) (f : SegSt → SegSt) : (updSeg d f).cmds = d.cmds := with_seg_cmds d _
@[simp] theorem updSeg_holds (d : Dev) (f : SegSt → SegSt) : (updSeg d f).holds = d.holds := with_seg_holds d _
@[simp] theorem updSeg_holdUnits (d : Dev) (f : SegSt → SegSt) : (updSeg d f).holdUnits = d.holdUnits := with_seg_holdUnits d _
@[simp] theorem updSeg_reports (d : Dev) (f : SegSt → SegSt) : (updSeg d f).reports = d.reports := with_seg_reports d _
@[simp] theorem updSeg_spad (d : Dev) (f : SegSt → SegSt) : (updSeg d f).spad = d.spad := with_seg_spad d _
@[simp] theorem updSeg_fatal (d : Dev) (f : SegSt → SegSt) : (updSeg d f).fatal = d.fatal := with_seg_fatal d _
@[simp] theorem updSeg_benches (d : Dev) (f : SegSt → SegSt) : (updSeg d f).benches = d.benches := with_seg_benches d _
@[simp] theorem updSeg_ledger (d : Dev) (f : SegSt → SegSt) : (updSeg d f).ledger = d.ledger := with_seg_ledger d _
@[simp] theorem updSeg_iommu (d : Dev) (f : SegSt → SegSt) : (updSeg d f).iommu = d.iommu := with_seg_iommu d _
@[simp] theorem updSeg_gauge (d : Dev) (f : SegSt → SegSt) : (updSeg d f).gauge = d.gauge := with_seg_gauge d _
@[simp] theorem updSeg_sync (d : Dev) (f : SegSt → SegSt) : (updSeg d f).sync = d.sync := with_seg_sync d _
@[simp] theorem updSeg_rootPorts (d : Dev) (f : SegSt → SegSt) : (updSeg d f).rootPorts = d.rootPorts := with_seg_rootPorts d _
@[simp] theorem updSync_out (d : Dev) (f : SyncSt → SyncSt) : (updSync d f).out = d.out := with_sync_out d _
@[simp] theorem updSync_freeCtr (d : Dev) (f : SyncSt → SyncSt) : (updSync d f).freeCtr = d.freeCtr := with_sync_freeCtr d _
@[simp] theorem updSync_now (d : Dev) (f : SyncSt → SyncSt) : (updSync d f).now = d.now := with_sync_now d _
@[simp] theorem updSync_pins (d : Dev) (f : SyncSt → SyncSt) : (updSync d f).pins = d.pins := with_sync_pins d _
@[simp] theorem updSync_fuses (d : Dev) (f : SyncSt → SyncSt) : (updSync d f).fuses = d.fuses := with_sync_fuses d _
@[simp] theorem updSync_boot (d : Dev) (f : SyncSt → SyncSt) : (updSync d f).boot = d.boot := with_sync_boot d _
@[simp] theorem updSync_list (d : Dev) (f : SyncSt → SyncSt) : (updSync d f).list = d.list := with_sync_list d _
@[simp] theorem updSync_kerf (d : Dev) (f : SyncSt → SyncSt) : (updSync d f).kerf = d.kerf := with_sync_kerf d _
@[simp] theorem updSync_harts (d : Dev) (f : SyncSt → SyncSt) : (updSync d f).harts = d.harts := with_sync_harts d _
@[simp] theorem updSync_links (d : Dev) (f : SyncSt → SyncSt) : (updSync d f).links = d.links := with_sync_links d _
@[simp] theorem updSync_jig (d : Dev) (f : SyncSt → SyncSt) : (updSync d f).jig = d.jig := with_sync_jig d _
@[simp] theorem updSync_holdover (d : Dev) (f : SyncSt → SyncSt) : (updSync d f).holdover = d.holdover := with_sync_holdover d _
@[simp] theorem updSync_sites (d : Dev) (f : SyncSt → SyncSt) : (updSync d f).sites = d.sites := with_sync_sites d _
@[simp] theorem updSync_dies (d : Dev) (f : SyncSt → SyncSt) : (updSync d f).dies = d.dies := with_sync_dies d _
@[simp] theorem updSync_slices (d : Dev) (f : SyncSt → SyncSt) : (updSync d f).slices = d.slices := with_sync_slices d _
@[simp] theorem updSync_flight (d : Dev) (f : SyncSt → SyncSt) : (updSync d f).flight = d.flight := with_sync_flight d _
@[simp] theorem updSync_mem (d : Dev) (f : SyncSt → SyncSt) : (updSync d f).mem = d.mem := with_sync_mem d _
@[simp] theorem updSync_memGen (d : Dev) (f : SyncSt → SyncSt) : (updSync d f).memGen = d.memGen := with_sync_memGen d _
@[simp] theorem updSync_poison (d : Dev) (f : SyncSt → SyncSt) : (updSync d f).poison = d.poison := with_sync_poison d _
@[simp] theorem updSync_msc (d : Dev) (f : SyncSt → SyncSt) : (updSync d f).msc = d.msc := with_sync_msc d _
@[simp] theorem updSync_mscs (d : Dev) (f : SyncSt → SyncSt) : (updSync d f).mscs = d.mscs := with_sync_mscs d _
@[simp] theorem updSync_maint (d : Dev) (f : SyncSt → SyncSt) : (updSync d f).maint = d.maint := with_sync_maint d _
@[simp] theorem updSync_chans (d : Dev) (f : SyncSt → SyncSt) : (updSync d f).chans = d.chans := with_sync_chans d _
@[simp] theorem updSync_subs (d : Dev) (f : SyncSt → SyncSt) : (updSync d f).subs = d.subs := with_sync_subs d _
@[simp] theorem updSync_cxlState (d : Dev) (f : SyncSt → SyncSt) : (updSync d f).cxlState = d.cxlState := with_sync_cxlState d _
@[simp] theorem updSync_cxlWait (d : Dev) (f : SyncSt → SyncSt) : (updSync d f).cxlWait = d.cxlWait := with_sync_cxlWait d _
@[simp] theorem updSync_obs (d : Dev) (f : SyncSt → SyncSt) : (updSync d f).obs = d.obs := with_sync_obs d _
@[simp] theorem updSync_mirror (d : Dev) (f : SyncSt → SyncSt) : (updSync d f).mirror = d.mirror := with_sync_mirror d _
@[simp] theorem updSync_takeover (d : Dev) (f : SyncSt → SyncSt) : (updSync d f).takeover = d.takeover := with_sync_takeover d _
@[simp] theorem updSync_pot (d : Dev) (f : SyncSt → SyncSt) : (updSync d f).pot = d.pot := with_sync_pot d _
@[simp] theorem updSync_encl (d : Dev) (f : SyncSt → SyncSt) : (updSync d f).encl = d.encl := with_sync_encl d _
@[simp] theorem updSync_cmds (d : Dev) (f : SyncSt → SyncSt) : (updSync d f).cmds = d.cmds := with_sync_cmds d _
@[simp] theorem updSync_holds (d : Dev) (f : SyncSt → SyncSt) : (updSync d f).holds = d.holds := with_sync_holds d _
@[simp] theorem updSync_holdUnits (d : Dev) (f : SyncSt → SyncSt) : (updSync d f).holdUnits = d.holdUnits := with_sync_holdUnits d _
@[simp] theorem updSync_reports (d : Dev) (f : SyncSt → SyncSt) : (updSync d f).reports = d.reports := with_sync_reports d _
@[simp] theorem updSync_spad (d : Dev) (f : SyncSt → SyncSt) : (updSync d f).spad = d.spad := with_sync_spad d _
@[simp] theorem updSync_fatal (d : Dev) (f : SyncSt → SyncSt) : (updSync d f).fatal = d.fatal := with_sync_fatal d _
@[simp] theorem updSync_benches (d : Dev) (f : SyncSt → SyncSt) : (updSync d f).benches = d.benches := with_sync_benches d _
@[simp] theorem updSync_ledger (d : Dev) (f : SyncSt → SyncSt) : (updSync d f).ledger = d.ledger := with_sync_ledger d _
@[simp] theorem updSync_iommu (d : Dev) (f : SyncSt → SyncSt) : (updSync d f).iommu = d.iommu := with_sync_iommu d _
@[simp] theorem updSync_gauge (d : Dev) (f : SyncSt → SyncSt) : (updSync d f).gauge = d.gauge := with_sync_gauge d _
@[simp] theorem updSync_seg (d : Dev) (f : SyncSt → SyncSt) : (updSync d f).seg = d.seg := with_sync_seg d _
@[simp] theorem updSync_rootPorts (d : Dev) (f : SyncSt → SyncSt) : (updSync d f).rootPorts = d.rootPorts := with_sync_rootPorts d _
@[simp] theorem updTake_out (d : Dev) (n : Nat) (f : Takeover → Takeover) : (updTake d n f).out = d.out := with_takeover_out d _
@[simp] theorem updTake_freeCtr (d : Dev) (n : Nat) (f : Takeover → Takeover) : (updTake d n f).freeCtr = d.freeCtr := with_takeover_freeCtr d _
@[simp] theorem updTake_now (d : Dev) (n : Nat) (f : Takeover → Takeover) : (updTake d n f).now = d.now := with_takeover_now d _
@[simp] theorem updTake_pins (d : Dev) (n : Nat) (f : Takeover → Takeover) : (updTake d n f).pins = d.pins := with_takeover_pins d _
@[simp] theorem updTake_fuses (d : Dev) (n : Nat) (f : Takeover → Takeover) : (updTake d n f).fuses = d.fuses := with_takeover_fuses d _
@[simp] theorem updTake_boot (d : Dev) (n : Nat) (f : Takeover → Takeover) : (updTake d n f).boot = d.boot := with_takeover_boot d _
@[simp] theorem updTake_list (d : Dev) (n : Nat) (f : Takeover → Takeover) : (updTake d n f).list = d.list := with_takeover_list d _
@[simp] theorem updTake_kerf (d : Dev) (n : Nat) (f : Takeover → Takeover) : (updTake d n f).kerf = d.kerf := with_takeover_kerf d _
@[simp] theorem updTake_harts (d : Dev) (n : Nat) (f : Takeover → Takeover) : (updTake d n f).harts = d.harts := with_takeover_harts d _
@[simp] theorem updTake_links (d : Dev) (n : Nat) (f : Takeover → Takeover) : (updTake d n f).links = d.links := with_takeover_links d _
@[simp] theorem updTake_jig (d : Dev) (n : Nat) (f : Takeover → Takeover) : (updTake d n f).jig = d.jig := with_takeover_jig d _
@[simp] theorem updTake_holdover (d : Dev) (n : Nat) (f : Takeover → Takeover) : (updTake d n f).holdover = d.holdover := with_takeover_holdover d _
@[simp] theorem updTake_sites (d : Dev) (n : Nat) (f : Takeover → Takeover) : (updTake d n f).sites = d.sites := with_takeover_sites d _
@[simp] theorem updTake_dies (d : Dev) (n : Nat) (f : Takeover → Takeover) : (updTake d n f).dies = d.dies := with_takeover_dies d _
@[simp] theorem updTake_slices (d : Dev) (n : Nat) (f : Takeover → Takeover) : (updTake d n f).slices = d.slices := with_takeover_slices d _
@[simp] theorem updTake_flight (d : Dev) (n : Nat) (f : Takeover → Takeover) : (updTake d n f).flight = d.flight := with_takeover_flight d _
@[simp] theorem updTake_mem (d : Dev) (n : Nat) (f : Takeover → Takeover) : (updTake d n f).mem = d.mem := with_takeover_mem d _
@[simp] theorem updTake_memGen (d : Dev) (n : Nat) (f : Takeover → Takeover) : (updTake d n f).memGen = d.memGen := with_takeover_memGen d _
@[simp] theorem updTake_poison (d : Dev) (n : Nat) (f : Takeover → Takeover) : (updTake d n f).poison = d.poison := with_takeover_poison d _
@[simp] theorem updTake_msc (d : Dev) (n : Nat) (f : Takeover → Takeover) : (updTake d n f).msc = d.msc := with_takeover_msc d _
@[simp] theorem updTake_mscs (d : Dev) (n : Nat) (f : Takeover → Takeover) : (updTake d n f).mscs = d.mscs := with_takeover_mscs d _
@[simp] theorem updTake_maint (d : Dev) (n : Nat) (f : Takeover → Takeover) : (updTake d n f).maint = d.maint := with_takeover_maint d _
@[simp] theorem updTake_chans (d : Dev) (n : Nat) (f : Takeover → Takeover) : (updTake d n f).chans = d.chans := with_takeover_chans d _
@[simp] theorem updTake_subs (d : Dev) (n : Nat) (f : Takeover → Takeover) : (updTake d n f).subs = d.subs := with_takeover_subs d _
@[simp] theorem updTake_cxlState (d : Dev) (n : Nat) (f : Takeover → Takeover) : (updTake d n f).cxlState = d.cxlState := with_takeover_cxlState d _
@[simp] theorem updTake_cxlWait (d : Dev) (n : Nat) (f : Takeover → Takeover) : (updTake d n f).cxlWait = d.cxlWait := with_takeover_cxlWait d _
@[simp] theorem updTake_obs (d : Dev) (n : Nat) (f : Takeover → Takeover) : (updTake d n f).obs = d.obs := with_takeover_obs d _
@[simp] theorem updTake_mirror (d : Dev) (n : Nat) (f : Takeover → Takeover) : (updTake d n f).mirror = d.mirror := with_takeover_mirror d _
@[simp] theorem updTake_pot (d : Dev) (n : Nat) (f : Takeover → Takeover) : (updTake d n f).pot = d.pot := with_takeover_pot d _
@[simp] theorem updTake_encl (d : Dev) (n : Nat) (f : Takeover → Takeover) : (updTake d n f).encl = d.encl := with_takeover_encl d _
@[simp] theorem updTake_cmds (d : Dev) (n : Nat) (f : Takeover → Takeover) : (updTake d n f).cmds = d.cmds := with_takeover_cmds d _
@[simp] theorem updTake_holds (d : Dev) (n : Nat) (f : Takeover → Takeover) : (updTake d n f).holds = d.holds := with_takeover_holds d _
@[simp] theorem updTake_holdUnits (d : Dev) (n : Nat) (f : Takeover → Takeover) : (updTake d n f).holdUnits = d.holdUnits := with_takeover_holdUnits d _
@[simp] theorem updTake_reports (d : Dev) (n : Nat) (f : Takeover → Takeover) : (updTake d n f).reports = d.reports := with_takeover_reports d _
@[simp] theorem updTake_spad (d : Dev) (n : Nat) (f : Takeover → Takeover) : (updTake d n f).spad = d.spad := with_takeover_spad d _
@[simp] theorem updTake_fatal (d : Dev) (n : Nat) (f : Takeover → Takeover) : (updTake d n f).fatal = d.fatal := with_takeover_fatal d _
@[simp] theorem updTake_benches (d : Dev) (n : Nat) (f : Takeover → Takeover) : (updTake d n f).benches = d.benches := with_takeover_benches d _
@[simp] theorem updTake_ledger (d : Dev) (n : Nat) (f : Takeover → Takeover) : (updTake d n f).ledger = d.ledger := with_takeover_ledger d _
@[simp] theorem updTake_iommu (d : Dev) (n : Nat) (f : Takeover → Takeover) : (updTake d n f).iommu = d.iommu := with_takeover_iommu d _
@[simp] theorem updTake_gauge (d : Dev) (n : Nat) (f : Takeover → Takeover) : (updTake d n f).gauge = d.gauge := with_takeover_gauge d _
@[simp] theorem updTake_seg (d : Dev) (n : Nat) (f : Takeover → Takeover) : (updTake d n f).seg = d.seg := with_takeover_seg d _
@[simp] theorem updTake_sync (d : Dev) (n : Nat) (f : Takeover → Takeover) : (updTake d n f).sync = d.sync := with_takeover_sync d _
@[simp] theorem updTake_rootPorts (d : Dev) (n : Nat) (f : Takeover → Takeover) : (updTake d n f).rootPorts = d.rootPorts := with_takeover_rootPorts d _
@[simp] theorem arrive_out (m : FMsg) (d : Dev) : (arrive m d).out = d.out := with_flight_out d _
@[simp] theorem arrive_freeCtr (m : FMsg) (d : Dev) : (arrive m d).freeCtr = d.freeCtr := with_flight_freeCtr d _
@[simp] theorem arrive_now (m : FMsg) (d : Dev) : (arrive m d).now = d.now := with_flight_now d _
@[simp] theorem arrive_pins (m : FMsg) (d : Dev) : (arrive m d).pins = d.pins := with_flight_pins d _
@[simp] theorem arrive_fuses (m : FMsg) (d : Dev) : (arrive m d).fuses = d.fuses := with_flight_fuses d _
@[simp] theorem arrive_boot (m : FMsg) (d : Dev) : (arrive m d).boot = d.boot := with_flight_boot d _
@[simp] theorem arrive_list (m : FMsg) (d : Dev) : (arrive m d).list = d.list := with_flight_list d _
@[simp] theorem arrive_kerf (m : FMsg) (d : Dev) : (arrive m d).kerf = d.kerf := with_flight_kerf d _
@[simp] theorem arrive_harts (m : FMsg) (d : Dev) : (arrive m d).harts = d.harts := with_flight_harts d _
@[simp] theorem arrive_links (m : FMsg) (d : Dev) : (arrive m d).links = d.links := with_flight_links d _
@[simp] theorem arrive_jig (m : FMsg) (d : Dev) : (arrive m d).jig = d.jig := with_flight_jig d _
@[simp] theorem arrive_holdover (m : FMsg) (d : Dev) : (arrive m d).holdover = d.holdover := with_flight_holdover d _
@[simp] theorem arrive_sites (m : FMsg) (d : Dev) : (arrive m d).sites = d.sites := with_flight_sites d _
@[simp] theorem arrive_dies (m : FMsg) (d : Dev) : (arrive m d).dies = d.dies := with_flight_dies d _
@[simp] theorem arrive_slices (m : FMsg) (d : Dev) : (arrive m d).slices = d.slices := with_flight_slices d _
@[simp] theorem arrive_mem (m : FMsg) (d : Dev) : (arrive m d).mem = d.mem := with_flight_mem d _
@[simp] theorem arrive_memGen (m : FMsg) (d : Dev) : (arrive m d).memGen = d.memGen := with_flight_memGen d _
@[simp] theorem arrive_poison (m : FMsg) (d : Dev) : (arrive m d).poison = d.poison := with_flight_poison d _
@[simp] theorem arrive_msc (m : FMsg) (d : Dev) : (arrive m d).msc = d.msc := with_flight_msc d _
@[simp] theorem arrive_mscs (m : FMsg) (d : Dev) : (arrive m d).mscs = d.mscs := with_flight_mscs d _
@[simp] theorem arrive_maint (m : FMsg) (d : Dev) : (arrive m d).maint = d.maint := with_flight_maint d _
@[simp] theorem arrive_chans (m : FMsg) (d : Dev) : (arrive m d).chans = d.chans := with_flight_chans d _
@[simp] theorem arrive_subs (m : FMsg) (d : Dev) : (arrive m d).subs = d.subs := with_flight_subs d _
@[simp] theorem arrive_cxlState (m : FMsg) (d : Dev) : (arrive m d).cxlState = d.cxlState := with_flight_cxlState d _
@[simp] theorem arrive_cxlWait (m : FMsg) (d : Dev) : (arrive m d).cxlWait = d.cxlWait := with_flight_cxlWait d _
@[simp] theorem arrive_obs (m : FMsg) (d : Dev) : (arrive m d).obs = d.obs := with_flight_obs d _
@[simp] theorem arrive_mirror (m : FMsg) (d : Dev) : (arrive m d).mirror = d.mirror := with_flight_mirror d _
@[simp] theorem arrive_takeover (m : FMsg) (d : Dev) : (arrive m d).takeover = d.takeover := with_flight_takeover d _
@[simp] theorem arrive_pot (m : FMsg) (d : Dev) : (arrive m d).pot = d.pot := with_flight_pot d _
@[simp] theorem arrive_encl (m : FMsg) (d : Dev) : (arrive m d).encl = d.encl := with_flight_encl d _
@[simp] theorem arrive_cmds (m : FMsg) (d : Dev) : (arrive m d).cmds = d.cmds := with_flight_cmds d _
@[simp] theorem arrive_holds (m : FMsg) (d : Dev) : (arrive m d).holds = d.holds := with_flight_holds d _
@[simp] theorem arrive_holdUnits (m : FMsg) (d : Dev) : (arrive m d).holdUnits = d.holdUnits := with_flight_holdUnits d _
@[simp] theorem arrive_reports (m : FMsg) (d : Dev) : (arrive m d).reports = d.reports := with_flight_reports d _
@[simp] theorem arrive_spad (m : FMsg) (d : Dev) : (arrive m d).spad = d.spad := with_flight_spad d _
@[simp] theorem arrive_fatal (m : FMsg) (d : Dev) : (arrive m d).fatal = d.fatal := with_flight_fatal d _
@[simp] theorem arrive_benches (m : FMsg) (d : Dev) : (arrive m d).benches = d.benches := with_flight_benches d _
@[simp] theorem arrive_ledger (m : FMsg) (d : Dev) : (arrive m d).ledger = d.ledger := with_flight_ledger d _
@[simp] theorem arrive_iommu (m : FMsg) (d : Dev) : (arrive m d).iommu = d.iommu := with_flight_iommu d _
@[simp] theorem arrive_gauge (m : FMsg) (d : Dev) : (arrive m d).gauge = d.gauge := with_flight_gauge d _
@[simp] theorem arrive_seg (m : FMsg) (d : Dev) : (arrive m d).seg = d.seg := with_flight_seg d _
@[simp] theorem arrive_sync (m : FMsg) (d : Dev) : (arrive m d).sync = d.sync := with_flight_sync d _
@[simp] theorem arrive_rootPorts (m : FMsg) (d : Dev) : (arrive m d).rootPorts = d.rootPorts := with_flight_rootPorts d _
@[simp] theorem updTrk_out (t : Nat) (f : Trk → Trk) (d : Dev) : (updTrk t f d).out = d.out := updSlice_out ..
@[simp] theorem updTrk_freeCtr (t : Nat) (f : Trk → Trk) (d : Dev) : (updTrk t f d).freeCtr = d.freeCtr := updSlice_freeCtr ..
@[simp] theorem updTrk_now (t : Nat) (f : Trk → Trk) (d : Dev) : (updTrk t f d).now = d.now := updSlice_now ..
@[simp] theorem updTrk_pins (t : Nat) (f : Trk → Trk) (d : Dev) : (updTrk t f d).pins = d.pins := updSlice_pins ..
@[simp] theorem updTrk_fuses (t : Nat) (f : Trk → Trk) (d : Dev) : (updTrk t f d).fuses = d.fuses := updSlice_fuses ..
@[simp] theorem updTrk_boot (t : Nat) (f : Trk → Trk) (d : Dev) : (updTrk t f d).boot = d.boot := updSlice_boot ..
@[simp] theorem updTrk_list (t : Nat) (f : Trk → Trk) (d : Dev) : (updTrk t f d).list = d.list := updSlice_list ..
@[simp] theorem updTrk_kerf (t : Nat) (f : Trk → Trk) (d : Dev) : (updTrk t f d).kerf = d.kerf := updSlice_kerf ..
@[simp] theorem updTrk_harts (t : Nat) (f : Trk → Trk) (d : Dev) : (updTrk t f d).harts = d.harts := updSlice_harts ..
@[simp] theorem updTrk_links (t : Nat) (f : Trk → Trk) (d : Dev) : (updTrk t f d).links = d.links := updSlice_links ..
@[simp] theorem updTrk_jig (t : Nat) (f : Trk → Trk) (d : Dev) : (updTrk t f d).jig = d.jig := updSlice_jig ..
@[simp] theorem updTrk_holdover (t : Nat) (f : Trk → Trk) (d : Dev) : (updTrk t f d).holdover = d.holdover := updSlice_holdover ..
@[simp] theorem updTrk_sites (t : Nat) (f : Trk → Trk) (d : Dev) : (updTrk t f d).sites = d.sites := updSlice_sites ..
@[simp] theorem updTrk_dies (t : Nat) (f : Trk → Trk) (d : Dev) : (updTrk t f d).dies = d.dies := updSlice_dies ..
@[simp] theorem updTrk_flight (t : Nat) (f : Trk → Trk) (d : Dev) : (updTrk t f d).flight = d.flight := updSlice_flight ..
@[simp] theorem updTrk_mem (t : Nat) (f : Trk → Trk) (d : Dev) : (updTrk t f d).mem = d.mem := updSlice_mem ..
@[simp] theorem updTrk_memGen (t : Nat) (f : Trk → Trk) (d : Dev) : (updTrk t f d).memGen = d.memGen := updSlice_memGen ..
@[simp] theorem updTrk_poison (t : Nat) (f : Trk → Trk) (d : Dev) : (updTrk t f d).poison = d.poison := updSlice_poison ..
@[simp] theorem updTrk_msc (t : Nat) (f : Trk → Trk) (d : Dev) : (updTrk t f d).msc = d.msc := updSlice_msc ..
@[simp] theorem updTrk_mscs (t : Nat) (f : Trk → Trk) (d : Dev) : (updTrk t f d).mscs = d.mscs := updSlice_mscs ..
@[simp] theorem updTrk_maint (t : Nat) (f : Trk → Trk) (d : Dev) : (updTrk t f d).maint = d.maint := updSlice_maint ..
@[simp] theorem updTrk_chans (t : Nat) (f : Trk → Trk) (d : Dev) : (updTrk t f d).chans = d.chans := updSlice_chans ..
@[simp] theorem updTrk_subs (t : Nat) (f : Trk → Trk) (d : Dev) : (updTrk t f d).subs = d.subs := updSlice_subs ..
@[simp] theorem updTrk_cxlState (t : Nat) (f : Trk → Trk) (d : Dev) : (updTrk t f d).cxlState = d.cxlState := updSlice_cxlState ..
@[simp] theorem updTrk_cxlWait (t : Nat) (f : Trk → Trk) (d : Dev) : (updTrk t f d).cxlWait = d.cxlWait := updSlice_cxlWait ..
@[simp] theorem updTrk_obs (t : Nat) (f : Trk → Trk) (d : Dev) : (updTrk t f d).obs = d.obs := updSlice_obs ..
@[simp] theorem updTrk_mirror (t : Nat) (f : Trk → Trk) (d : Dev) : (updTrk t f d).mirror = d.mirror := updSlice_mirror ..
@[simp] theorem updTrk_takeover (t : Nat) (f : Trk → Trk) (d : Dev) : (updTrk t f d).takeover = d.takeover := updSlice_takeover ..
@[simp] theorem updTrk_pot (t : Nat) (f : Trk → Trk) (d : Dev) : (updTrk t f d).pot = d.pot := updSlice_pot ..
@[simp] theorem updTrk_encl (t : Nat) (f : Trk → Trk) (d : Dev) : (updTrk t f d).encl = d.encl := updSlice_encl ..
@[simp] theorem updTrk_cmds (t : Nat) (f : Trk → Trk) (d : Dev) : (updTrk t f d).cmds = d.cmds := updSlice_cmds ..
@[simp] theorem updTrk_holds (t : Nat) (f : Trk → Trk) (d : Dev) : (updTrk t f d).holds = d.holds := updSlice_holds ..
@[simp] theorem updTrk_holdUnits (t : Nat) (f : Trk → Trk) (d : Dev) : (updTrk t f d).holdUnits = d.holdUnits := updSlice_holdUnits ..
@[simp] theorem updTrk_reports (t : Nat) (f : Trk → Trk) (d : Dev) : (updTrk t f d).reports = d.reports := updSlice_reports ..
@[simp] theorem updTrk_spad (t : Nat) (f : Trk → Trk) (d : Dev) : (updTrk t f d).spad = d.spad := updSlice_spad ..
@[simp] theorem updTrk_fatal (t : Nat) (f : Trk → Trk) (d : Dev) : (updTrk t f d).fatal = d.fatal := updSlice_fatal ..
@[simp] theorem updTrk_benches (t : Nat) (f : Trk → Trk) (d : Dev) : (updTrk t f d).benches = d.benches := updSlice_benches ..
@[simp] theorem updTrk_ledger (t : Nat) (f : Trk → Trk) (d : Dev) : (updTrk t f d).ledger = d.ledger := updSlice_ledger ..
@[simp] theorem updTrk_iommu (t : Nat) (f : Trk → Trk) (d : Dev) : (updTrk t f d).iommu = d.iommu := updSlice_iommu ..
@[simp] theorem updTrk_gauge (t : Nat) (f : Trk → Trk) (d : Dev) : (updTrk t f d).gauge = d.gauge := updSlice_gauge ..
@[simp] theorem updTrk_seg (t : Nat) (f : Trk → Trk) (d : Dev) : (updTrk t f d).seg = d.seg := updSlice_seg ..
@[simp] theorem updTrk_sync (t : Nat) (f : Trk → Trk) (d : Dev) : (updTrk t f d).sync = d.sync := updSlice_sync ..
@[simp] theorem updTrk_rootPorts (t : Nat) (f : Trk → Trk) (d : Dev) : (updTrk t f d).rootPorts = d.rootPorts := updSlice_rootPorts ..
@[simp] theorem setDieLine_out (n line : Nat) (v : Option DLine) (d : Dev) : (setDieLine n line v d).out = d.out := updDie_out ..
@[simp] theorem setDieLine_freeCtr (n line : Nat) (v : Option DLine) (d : Dev) : (setDieLine n line v d).freeCtr = d.freeCtr := updDie_freeCtr ..
@[simp] theorem setDieLine_now (n line : Nat) (v : Option DLine) (d : Dev) : (setDieLine n line v d).now = d.now := updDie_now ..
@[simp] theorem setDieLine_pins (n line : Nat) (v : Option DLine) (d : Dev) : (setDieLine n line v d).pins = d.pins := updDie_pins ..
@[simp] theorem setDieLine_fuses (n line : Nat) (v : Option DLine) (d : Dev) : (setDieLine n line v d).fuses = d.fuses := updDie_fuses ..
@[simp] theorem setDieLine_boot (n line : Nat) (v : Option DLine) (d : Dev) : (setDieLine n line v d).boot = d.boot := updDie_boot ..
@[simp] theorem setDieLine_list (n line : Nat) (v : Option DLine) (d : Dev) : (setDieLine n line v d).list = d.list := updDie_list ..
@[simp] theorem setDieLine_kerf (n line : Nat) (v : Option DLine) (d : Dev) : (setDieLine n line v d).kerf = d.kerf := updDie_kerf ..
@[simp] theorem setDieLine_harts (n line : Nat) (v : Option DLine) (d : Dev) : (setDieLine n line v d).harts = d.harts := updDie_harts ..
@[simp] theorem setDieLine_links (n line : Nat) (v : Option DLine) (d : Dev) : (setDieLine n line v d).links = d.links := updDie_links ..
@[simp] theorem setDieLine_jig (n line : Nat) (v : Option DLine) (d : Dev) : (setDieLine n line v d).jig = d.jig := updDie_jig ..
@[simp] theorem setDieLine_holdover (n line : Nat) (v : Option DLine) (d : Dev) : (setDieLine n line v d).holdover = d.holdover := updDie_holdover ..
@[simp] theorem setDieLine_sites (n line : Nat) (v : Option DLine) (d : Dev) : (setDieLine n line v d).sites = d.sites := updDie_sites ..
@[simp] theorem setDieLine_slices (n line : Nat) (v : Option DLine) (d : Dev) : (setDieLine n line v d).slices = d.slices := updDie_slices ..
@[simp] theorem setDieLine_flight (n line : Nat) (v : Option DLine) (d : Dev) : (setDieLine n line v d).flight = d.flight := updDie_flight ..
@[simp] theorem setDieLine_mem (n line : Nat) (v : Option DLine) (d : Dev) : (setDieLine n line v d).mem = d.mem := updDie_mem ..
@[simp] theorem setDieLine_memGen (n line : Nat) (v : Option DLine) (d : Dev) : (setDieLine n line v d).memGen = d.memGen := updDie_memGen ..
@[simp] theorem setDieLine_poison (n line : Nat) (v : Option DLine) (d : Dev) : (setDieLine n line v d).poison = d.poison := updDie_poison ..
@[simp] theorem setDieLine_msc (n line : Nat) (v : Option DLine) (d : Dev) : (setDieLine n line v d).msc = d.msc := updDie_msc ..
@[simp] theorem setDieLine_mscs (n line : Nat) (v : Option DLine) (d : Dev) : (setDieLine n line v d).mscs = d.mscs := updDie_mscs ..
@[simp] theorem setDieLine_maint (n line : Nat) (v : Option DLine) (d : Dev) : (setDieLine n line v d).maint = d.maint := updDie_maint ..
@[simp] theorem setDieLine_chans (n line : Nat) (v : Option DLine) (d : Dev) : (setDieLine n line v d).chans = d.chans := updDie_chans ..
@[simp] theorem setDieLine_subs (n line : Nat) (v : Option DLine) (d : Dev) : (setDieLine n line v d).subs = d.subs := updDie_subs ..
@[simp] theorem setDieLine_cxlState (n line : Nat) (v : Option DLine) (d : Dev) : (setDieLine n line v d).cxlState = d.cxlState := updDie_cxlState ..
@[simp] theorem setDieLine_cxlWait (n line : Nat) (v : Option DLine) (d : Dev) : (setDieLine n line v d).cxlWait = d.cxlWait := updDie_cxlWait ..
@[simp] theorem setDieLine_obs (n line : Nat) (v : Option DLine) (d : Dev) : (setDieLine n line v d).obs = d.obs := updDie_obs ..
@[simp] theorem setDieLine_mirror (n line : Nat) (v : Option DLine) (d : Dev) : (setDieLine n line v d).mirror = d.mirror := updDie_mirror ..
@[simp] theorem setDieLine_takeover (n line : Nat) (v : Option DLine) (d : Dev) : (setDieLine n line v d).takeover = d.takeover := updDie_takeover ..
@[simp] theorem setDieLine_pot (n line : Nat) (v : Option DLine) (d : Dev) : (setDieLine n line v d).pot = d.pot := updDie_pot ..
@[simp] theorem setDieLine_encl (n line : Nat) (v : Option DLine) (d : Dev) : (setDieLine n line v d).encl = d.encl := updDie_encl ..
@[simp] theorem setDieLine_cmds (n line : Nat) (v : Option DLine) (d : Dev) : (setDieLine n line v d).cmds = d.cmds := updDie_cmds ..
@[simp] theorem setDieLine_holds (n line : Nat) (v : Option DLine) (d : Dev) : (setDieLine n line v d).holds = d.holds := updDie_holds ..
@[simp] theorem setDieLine_holdUnits (n line : Nat) (v : Option DLine) (d : Dev) : (setDieLine n line v d).holdUnits = d.holdUnits := updDie_holdUnits ..
@[simp] theorem setDieLine_reports (n line : Nat) (v : Option DLine) (d : Dev) : (setDieLine n line v d).reports = d.reports := updDie_reports ..
@[simp] theorem setDieLine_spad (n line : Nat) (v : Option DLine) (d : Dev) : (setDieLine n line v d).spad = d.spad := updDie_spad ..
@[simp] theorem setDieLine_fatal (n line : Nat) (v : Option DLine) (d : Dev) : (setDieLine n line v d).fatal = d.fatal := updDie_fatal ..
@[simp] theorem setDieLine_benches (n line : Nat) (v : Option DLine) (d : Dev) : (setDieLine n line v d).benches = d.benches := updDie_benches ..
@[simp] theorem setDieLine_ledger (n line : Nat) (v : Option DLine) (d : Dev) : (setDieLine n line v d).ledger = d.ledger := updDie_ledger ..
@[simp] theorem setDieLine_iommu (n line : Nat) (v : Option DLine) (d : Dev) : (setDieLine n line v d).iommu = d.iommu := updDie_iommu ..
@[simp] theorem setDieLine_gauge (n line : Nat) (v : Option DLine) (d : Dev) : (setDieLine n line v d).gauge = d.gauge := updDie_gauge ..
@[simp] theorem setDieLine_seg (n line : Nat) (v : Option DLine) (d : Dev) : (setDieLine n line v d).seg = d.seg := updDie_seg ..
@[simp] theorem setDieLine_sync (n line : Nat) (v : Option DLine) (d : Dev) : (setDieLine n line v d).sync = d.sync := updDie_sync ..
@[simp] theorem setDieLine_rootPorts (n line : Nat) (v : Option DLine) (d : Dev) : (setDieLine n line v d).rootPorts = d.rootPorts := updDie_rootPorts ..
@[simp] theorem setDir_out (line : Nat) (e : Option DirEnt) (d : Dev) : (setDir line e d).out = d.out := updSlice_out ..
@[simp] theorem setDir_freeCtr (line : Nat) (e : Option DirEnt) (d : Dev) : (setDir line e d).freeCtr = d.freeCtr := updSlice_freeCtr ..
@[simp] theorem setDir_now (line : Nat) (e : Option DirEnt) (d : Dev) : (setDir line e d).now = d.now := updSlice_now ..
@[simp] theorem setDir_pins (line : Nat) (e : Option DirEnt) (d : Dev) : (setDir line e d).pins = d.pins := updSlice_pins ..
@[simp] theorem setDir_fuses (line : Nat) (e : Option DirEnt) (d : Dev) : (setDir line e d).fuses = d.fuses := updSlice_fuses ..
@[simp] theorem setDir_boot (line : Nat) (e : Option DirEnt) (d : Dev) : (setDir line e d).boot = d.boot := updSlice_boot ..
@[simp] theorem setDir_list (line : Nat) (e : Option DirEnt) (d : Dev) : (setDir line e d).list = d.list := updSlice_list ..
@[simp] theorem setDir_kerf (line : Nat) (e : Option DirEnt) (d : Dev) : (setDir line e d).kerf = d.kerf := updSlice_kerf ..
@[simp] theorem setDir_harts (line : Nat) (e : Option DirEnt) (d : Dev) : (setDir line e d).harts = d.harts := updSlice_harts ..
@[simp] theorem setDir_links (line : Nat) (e : Option DirEnt) (d : Dev) : (setDir line e d).links = d.links := updSlice_links ..
@[simp] theorem setDir_jig (line : Nat) (e : Option DirEnt) (d : Dev) : (setDir line e d).jig = d.jig := updSlice_jig ..
@[simp] theorem setDir_holdover (line : Nat) (e : Option DirEnt) (d : Dev) : (setDir line e d).holdover = d.holdover := updSlice_holdover ..
@[simp] theorem setDir_sites (line : Nat) (e : Option DirEnt) (d : Dev) : (setDir line e d).sites = d.sites := updSlice_sites ..
@[simp] theorem setDir_dies (line : Nat) (e : Option DirEnt) (d : Dev) : (setDir line e d).dies = d.dies := updSlice_dies ..
@[simp] theorem setDir_flight (line : Nat) (e : Option DirEnt) (d : Dev) : (setDir line e d).flight = d.flight := updSlice_flight ..
@[simp] theorem setDir_mem (line : Nat) (e : Option DirEnt) (d : Dev) : (setDir line e d).mem = d.mem := updSlice_mem ..
@[simp] theorem setDir_memGen (line : Nat) (e : Option DirEnt) (d : Dev) : (setDir line e d).memGen = d.memGen := updSlice_memGen ..
@[simp] theorem setDir_poison (line : Nat) (e : Option DirEnt) (d : Dev) : (setDir line e d).poison = d.poison := updSlice_poison ..
@[simp] theorem setDir_msc (line : Nat) (e : Option DirEnt) (d : Dev) : (setDir line e d).msc = d.msc := updSlice_msc ..
@[simp] theorem setDir_mscs (line : Nat) (e : Option DirEnt) (d : Dev) : (setDir line e d).mscs = d.mscs := updSlice_mscs ..
@[simp] theorem setDir_maint (line : Nat) (e : Option DirEnt) (d : Dev) : (setDir line e d).maint = d.maint := updSlice_maint ..
@[simp] theorem setDir_chans (line : Nat) (e : Option DirEnt) (d : Dev) : (setDir line e d).chans = d.chans := updSlice_chans ..
@[simp] theorem setDir_subs (line : Nat) (e : Option DirEnt) (d : Dev) : (setDir line e d).subs = d.subs := updSlice_subs ..
@[simp] theorem setDir_cxlState (line : Nat) (e : Option DirEnt) (d : Dev) : (setDir line e d).cxlState = d.cxlState := updSlice_cxlState ..
@[simp] theorem setDir_cxlWait (line : Nat) (e : Option DirEnt) (d : Dev) : (setDir line e d).cxlWait = d.cxlWait := updSlice_cxlWait ..
@[simp] theorem setDir_obs (line : Nat) (e : Option DirEnt) (d : Dev) : (setDir line e d).obs = d.obs := updSlice_obs ..
@[simp] theorem setDir_mirror (line : Nat) (e : Option DirEnt) (d : Dev) : (setDir line e d).mirror = d.mirror := updSlice_mirror ..
@[simp] theorem setDir_takeover (line : Nat) (e : Option DirEnt) (d : Dev) : (setDir line e d).takeover = d.takeover := updSlice_takeover ..
@[simp] theorem setDir_pot (line : Nat) (e : Option DirEnt) (d : Dev) : (setDir line e d).pot = d.pot := updSlice_pot ..
@[simp] theorem setDir_encl (line : Nat) (e : Option DirEnt) (d : Dev) : (setDir line e d).encl = d.encl := updSlice_encl ..
@[simp] theorem setDir_cmds (line : Nat) (e : Option DirEnt) (d : Dev) : (setDir line e d).cmds = d.cmds := updSlice_cmds ..
@[simp] theorem setDir_holds (line : Nat) (e : Option DirEnt) (d : Dev) : (setDir line e d).holds = d.holds := updSlice_holds ..
@[simp] theorem setDir_holdUnits (line : Nat) (e : Option DirEnt) (d : Dev) : (setDir line e d).holdUnits = d.holdUnits := updSlice_holdUnits ..
@[simp] theorem setDir_reports (line : Nat) (e : Option DirEnt) (d : Dev) : (setDir line e d).reports = d.reports := updSlice_reports ..
@[simp] theorem setDir_spad (line : Nat) (e : Option DirEnt) (d : Dev) : (setDir line e d).spad = d.spad := updSlice_spad ..
@[simp] theorem setDir_fatal (line : Nat) (e : Option DirEnt) (d : Dev) : (setDir line e d).fatal = d.fatal := updSlice_fatal ..
@[simp] theorem setDir_benches (line : Nat) (e : Option DirEnt) (d : Dev) : (setDir line e d).benches = d.benches := updSlice_benches ..
@[simp] theorem setDir_ledger (line : Nat) (e : Option DirEnt) (d : Dev) : (setDir line e d).ledger = d.ledger := updSlice_ledger ..
@[simp] theorem setDir_iommu (line : Nat) (e : Option DirEnt) (d : Dev) : (setDir line e d).iommu = d.iommu := updSlice_iommu ..
@[simp] theorem setDir_gauge (line : Nat) (e : Option DirEnt) (d : Dev) : (setDir line e d).gauge = d.gauge := updSlice_gauge ..
@[simp] theorem setDir_seg (line : Nat) (e : Option DirEnt) (d : Dev) : (setDir line e d).seg = d.seg := updSlice_seg ..
@[simp] theorem setDir_sync (line : Nat) (e : Option DirEnt) (d : Dev) : (setDir line e d).sync = d.sync := updSlice_sync ..
@[simp] theorem setDir_rootPorts (line : Nat) (e : Option DirEnt) (d : Dev) : (setDir line e d).rootPorts = d.rootPorts := updSlice_rootPorts ..

/-! ### A unit reads its own table only -/

@[simp] theorem hartOf_updLink (d : Dev) (n : Nat) (f : Link → Link) (z : Nat) : hartOf (updLink d n f) z = hartOf d z := congrArg (fun t => tabGet _ t z) (updLink_harts d n f)
@[simp] theorem hartOf_updDie (d : Dev) (n : Nat) (f : Die → Die) (z : Nat) : hartOf (updDie d n f) z = hartOf d z := congrArg (fun t => tabGet _ t z) (updDie_harts d n f)
@[simp] theorem hartOf_updSlice (d : Dev) (n : Nat) (f : SliceSt → SliceSt) (z : Nat) : hartOf (updSlice d n f) z = hartOf d z := congrArg (fun t => tabGet _ t z) (updSlice_harts d n f)
@[simp] theorem hartOf_updMsc (d : Dev) (n : Nat) (f : MscSt → MscSt) (z : Nat) : hartOf (updMsc d n f) z = hartOf d z := congrArg (fun t => tabGet _ t z) (updMsc_harts d n f)
@[simp] theorem hartOf_updChan (d : Dev) (n : Nat) (f : ChanSt → ChanSt) (z : Nat) : hartOf (updChan d n f) z = hartOf d z := congrArg (fun t => tabGet _ t z) (updChan_harts d n f)
@[simp] theorem hartOf_updSub (d : Dev) (n : Nat) (f : SubSt → SubSt) (z : Nat) : hartOf (updSub d n f) z = hartOf d z := congrArg (fun t => tabGet _ t z) (updSub_harts d n f)
@[simp] theorem hartOf_updSite (d : Dev) (n : Nat) (f : SiteSt → SiteSt) (z : Nat) : hartOf (updSite d n f) z = hartOf d z := congrArg (fun t => tabGet _ t z) (updSite_harts d n f)
@[simp] theorem hartOf_updSess (d : Dev) (n : Nat) (f : Session → Session) (z : Nat) : hartOf (updSess d n f) z = hartOf d z := congrArg (fun t => tabGet _ t z) (updSess_harts d n f)
@[simp] theorem hartOf_emit (o : Out) (d : Dev) (z : Nat) : hartOf (emit o d) z = hartOf d z := congrArg (fun t => tabGet _ t z) (emit_harts o d)
@[simp] theorem hartOf_drawn (d : Dev) (z : Nat) : hartOf (drawn d) z = hartOf d z := congrArg (fun t => tabGet _ t z) (drawn_harts d)
@[simp] theorem hartOf_setCur (d : Dev) (idx sub : Nat) (v : Option Val) (z : Nat) : hartOf (setCur d idx sub v) z = hartOf d z := congrArg (fun t => tabGet _ t z) (setCur_harts d idx sub v)
@[simp] theorem hartOf_setCurNat (d : Dev) (idx sub n : Nat) (z : Nat) : hartOf (setCurNat d idx sub n) z = hartOf d z := congrArg (fun t => tabGet _ t z) (setCurNat_harts d idx sub n)
@[simp] theorem hartOf_setStg (d : Dev) (idx sub : Nat) (v : Option Val) (z : Nat) : hartOf (setStg d idx sub v) z = hartOf d z := congrArg (fun t => tabGet _ t z) (setStg_harts d idx sub v)
@[simp] theorem hartOf_updDry (d : Dev) (idx sub : Nat) (f : DryStatus → DryStatus) (z : Nat) : hartOf (updDry d idx sub f) z = hartOf d z := congrArg (fun t => tabGet _ t z) (updDry_harts d idx sub f)
@[simp] theorem hartOf_count (bank unit slot n : Nat) (d : Dev) (z : Nat) : hartOf (count bank unit slot n d) z = hartOf d z := congrArg (fun t => tabGet _ t z) (count_harts bank unit slot n d)
@[simp] theorem hartOf_countPkg (slot : Nat) (d : Dev) (z : Nat) : hartOf (countPkg slot d) z = hartOf d z := congrArg (fun t => tabGet _ t z) (countPkg_harts slot d)
@[simp] theorem hartOf_countSlice (n slot : Nat) (d : Dev) (z : Nat) : hartOf (countSlice n slot d) z = hartOf d z := congrArg (fun t => tabGet _ t z) (countSlice_harts n slot d)
@[simp] theorem hartOf_countChan (n slot : Nat) (d : Dev) (z : Nat) : hartOf (countChan n slot d) z = hartOf d z := congrArg (fun t => tabGet _ t z) (countChan_harts n slot d)
@[simp] theorem hartOf_countBench (n slot : Nat) (d : Dev) (z : Nat) : hartOf (countBench n slot d) z = hartOf d z := congrArg (fun t => tabGet _ t z) (countBench_harts n slot d)
@[simp] theorem hartOf_countDie (n slot : Nat) (d : Dev) (z : Nat) : hartOf (countDie n slot d) z = hartOf d z := congrArg (fun t => tabGet _ t z) (countDie_harts n slot d)
@[simp] theorem hartOf_updEncl (d : Dev) (e : Nat) (f : Enclave → Enclave) (z : Nat) : hartOf (updEncl d e f) z = hartOf d z := congrArg (fun t => tabGet _ t z) (updEncl_harts d e f)
@[simp] theorem hartOf_updBench (d : Dev) (b : Nat) (f : BenchSt → BenchSt) (z : Nat) : hartOf (updBench d b f) z = hartOf d z := congrArg (fun t => tabGet _ t z) (updBench_harts d b f)
@[simp] theorem hartOf_updFn (b k : Nat) (g : Fn → Fn) (d : Dev) (z : Nat) : hartOf (updFn b k g d) z = hartOf d z := congrArg (fun t => tabGet _ t z) (updFn_harts b k g d)
@[simp] theorem hartOf_updRing (b k r : Nat) (g : Ring → Ring) (d : Dev) (z : Nat) : hartOf (updRing b k r g d) z = hartOf d z := congrArg (fun t => tabGet _ t z) (updRing_harts b k r g d)
@[simp] theorem hartOf_updFeed (b c : Nat) (g : FeedChan → FeedChan) (d : Dev) (z : Nat) : hartOf (updFeed b c g d) z = hartOf d z := congrArg (fun t => tabGet _ t z) (updFeed_harts b c g d)
@[simp] theorem hartOf_updBoot (d : Dev) (f : Boot → Boot) (z : Nat) : hartOf (updBoot d f) z = hartOf d z := congrArg (fun t => tabGet _ t z) (updBoot_harts d f)
@[simp] theorem hartOf_updMirror (d : Dev) (f : MirrorSt → MirrorSt) (z : Nat) : hartOf (updMirror d f) z = hartOf d z := congrArg (fun t => tabGet _ t z) (updMirror_harts d f)
@[simp] theorem hartOf_updGauge (d : Dev) (f : GaugeSt → GaugeSt) (z : Nat) : hartOf (updGauge d f) z = hartOf d z := congrArg (fun t => tabGet _ t z) (updGauge_harts d f)
@[simp] theorem hartOf_updAcct (d : Dev) (a : Nat) (f : Acct → Acct) (z : Nat) : hartOf (updAcct d a f) z = hartOf d z := congrArg (fun t => tabGet _ t z) (updAcct_harts d a f)
@[simp] theorem hartOf_updLedger (d : Dev) (f : LedgerSt → LedgerSt) (z : Nat) : hartOf (updLedger d f) z = hartOf d z := congrArg (fun t => tabGet _ t z) (updLedger_harts d f)
@[simp] theorem hartOf_updCmd (d : Dev) (h : Nat) (f : CmdSlot → CmdSlot) (z : Nat) : hartOf (updCmd d h f) z = hartOf d z := congrArg (fun t => tabGet _ t z) (updCmd_harts d h f)
@[simp] theorem hartOf_updSeg (d : Dev) (f : SegSt → SegSt) (z : Nat) : hartOf (updSeg d f) z = hartOf d z := congrArg (fun t => tabGet _ t z) (updSeg_harts d f)
@[simp] theorem hartOf_updSync (d : Dev) (f : SyncSt → SyncSt) (z : Nat) : hartOf (updSync d f) z = hartOf d z := congrArg (fun t => tabGet _ t z) (updSync_harts d f)
@[simp] theorem hartOf_updTake (d : Dev) (n : Nat) (f : Takeover → Takeover) (z : Nat) : hartOf (updTake d n f) z = hartOf d z := congrArg (fun t => tabGet _ t z) (updTake_harts d n f)
@[simp] theorem hartOf_arrive (m : FMsg) (d : Dev) (z : Nat) : hartOf (arrive m d) z = hartOf d z := congrArg (fun t => tabGet _ t z) (arrive_harts m d)
@[simp] theorem hartOf_updTrk (t : Nat) (f : Trk → Trk) (d : Dev) (z : Nat) : hartOf (updTrk t f d) z = hartOf d z := congrArg (fun t => tabGet _ t z) (updTrk_harts t f d)
@[simp] theorem hartOf_setDieLine (n line : Nat) (v : Option DLine) (d : Dev) (z : Nat) : hartOf (setDieLine n line v d) z = hartOf d z := congrArg (fun t => tabGet _ t z) (setDieLine_harts n line v d)
@[simp] theorem hartOf_setDir (line : Nat) (e : Option DirEnt) (d : Dev) (z : Nat) : hartOf (setDir line e d) z = hartOf d z := congrArg (fun t => tabGet _ t z) (setDir_harts line e d)
@[simp] theorem linkOf_updHart (d : Dev) (h : Nat) (f : Hart → Hart) (z : Nat) : linkOf (updHart d h f) z = linkOf d z := congrArg (fun t => tabGet _ t z) (updHart_links d h f)
@[simp] theorem linkOf_updDie (d : Dev) (n : Nat) (f : Die → Die) (z : Nat) : linkOf (updDie d n f) z = linkOf d z := congrArg (fun t => tabGet _ t z) (updDie_links d n f)
@[simp] theorem linkOf_updSlice (d : Dev) (n : Nat) (f : SliceSt → SliceSt) (z : Nat) : linkOf (updSlice d n f) z = linkOf d z := congrArg (fun t => tabGet _ t z) (updSlice_links d n f)
@[simp] theorem linkOf_updMsc (d : Dev) (n : Nat) (f : MscSt → MscSt) (z : Nat) : linkOf (updMsc d n f) z = linkOf d z := congrArg (fun t => tabGet _ t z) (updMsc_links d n f)
@[simp] theorem linkOf_updChan (d : Dev) (n : Nat) (f : ChanSt → ChanSt) (z : Nat) : linkOf (updChan d n f) z = linkOf d z := congrArg (fun t => tabGet _ t z) (updChan_links d n f)
@[simp] theorem linkOf_updSub (d : Dev) (n : Nat) (f : SubSt → SubSt) (z : Nat) : linkOf (updSub d n f) z = linkOf d z := congrArg (fun t => tabGet _ t z) (updSub_links d n f)
@[simp] theorem linkOf_updSite (d : Dev) (n : Nat) (f : SiteSt → SiteSt) (z : Nat) : linkOf (updSite d n f) z = linkOf d z := congrArg (fun t => tabGet _ t z) (updSite_links d n f)
@[simp] theorem linkOf_updSess (d : Dev) (n : Nat) (f : Session → Session) (z : Nat) : linkOf (updSess d n f) z = linkOf d z := congrArg (fun t => tabGet _ t z) (updSess_links d n f)
@[simp] theorem linkOf_emit (o : Out) (d : Dev) (z : Nat) : linkOf (emit o d) z = linkOf d z := congrArg (fun t => tabGet _ t z) (emit_links o d)
@[simp] theorem linkOf_drawn (d : Dev) (z : Nat) : linkOf (drawn d) z = linkOf d z := congrArg (fun t => tabGet _ t z) (drawn_links d)
@[simp] theorem linkOf_setCur (d : Dev) (idx sub : Nat) (v : Option Val) (z : Nat) : linkOf (setCur d idx sub v) z = linkOf d z := congrArg (fun t => tabGet _ t z) (setCur_links d idx sub v)
@[simp] theorem linkOf_setCurNat (d : Dev) (idx sub n : Nat) (z : Nat) : linkOf (setCurNat d idx sub n) z = linkOf d z := congrArg (fun t => tabGet _ t z) (setCurNat_links d idx sub n)
@[simp] theorem linkOf_setStg (d : Dev) (idx sub : Nat) (v : Option Val) (z : Nat) : linkOf (setStg d idx sub v) z = linkOf d z := congrArg (fun t => tabGet _ t z) (setStg_links d idx sub v)
@[simp] theorem linkOf_updDry (d : Dev) (idx sub : Nat) (f : DryStatus → DryStatus) (z : Nat) : linkOf (updDry d idx sub f) z = linkOf d z := congrArg (fun t => tabGet _ t z) (updDry_links d idx sub f)
@[simp] theorem linkOf_count (bank unit slot n : Nat) (d : Dev) (z : Nat) : linkOf (count bank unit slot n d) z = linkOf d z := congrArg (fun t => tabGet _ t z) (count_links bank unit slot n d)
@[simp] theorem linkOf_countPkg (slot : Nat) (d : Dev) (z : Nat) : linkOf (countPkg slot d) z = linkOf d z := congrArg (fun t => tabGet _ t z) (countPkg_links slot d)
@[simp] theorem linkOf_countSlice (n slot : Nat) (d : Dev) (z : Nat) : linkOf (countSlice n slot d) z = linkOf d z := congrArg (fun t => tabGet _ t z) (countSlice_links n slot d)
@[simp] theorem linkOf_countChan (n slot : Nat) (d : Dev) (z : Nat) : linkOf (countChan n slot d) z = linkOf d z := congrArg (fun t => tabGet _ t z) (countChan_links n slot d)
@[simp] theorem linkOf_countBench (n slot : Nat) (d : Dev) (z : Nat) : linkOf (countBench n slot d) z = linkOf d z := congrArg (fun t => tabGet _ t z) (countBench_links n slot d)
@[simp] theorem linkOf_countDie (n slot : Nat) (d : Dev) (z : Nat) : linkOf (countDie n slot d) z = linkOf d z := congrArg (fun t => tabGet _ t z) (countDie_links n slot d)
@[simp] theorem linkOf_updEncl (d : Dev) (e : Nat) (f : Enclave → Enclave) (z : Nat) : linkOf (updEncl d e f) z = linkOf d z := congrArg (fun t => tabGet _ t z) (updEncl_links d e f)
@[simp] theorem linkOf_updBench (d : Dev) (b : Nat) (f : BenchSt → BenchSt) (z : Nat) : linkOf (updBench d b f) z = linkOf d z := congrArg (fun t => tabGet _ t z) (updBench_links d b f)
@[simp] theorem linkOf_updFn (b k : Nat) (g : Fn → Fn) (d : Dev) (z : Nat) : linkOf (updFn b k g d) z = linkOf d z := congrArg (fun t => tabGet _ t z) (updFn_links b k g d)
@[simp] theorem linkOf_updRing (b k r : Nat) (g : Ring → Ring) (d : Dev) (z : Nat) : linkOf (updRing b k r g d) z = linkOf d z := congrArg (fun t => tabGet _ t z) (updRing_links b k r g d)
@[simp] theorem linkOf_updFeed (b c : Nat) (g : FeedChan → FeedChan) (d : Dev) (z : Nat) : linkOf (updFeed b c g d) z = linkOf d z := congrArg (fun t => tabGet _ t z) (updFeed_links b c g d)
@[simp] theorem linkOf_updBoot (d : Dev) (f : Boot → Boot) (z : Nat) : linkOf (updBoot d f) z = linkOf d z := congrArg (fun t => tabGet _ t z) (updBoot_links d f)
@[simp] theorem linkOf_updMirror (d : Dev) (f : MirrorSt → MirrorSt) (z : Nat) : linkOf (updMirror d f) z = linkOf d z := congrArg (fun t => tabGet _ t z) (updMirror_links d f)
@[simp] theorem linkOf_updGauge (d : Dev) (f : GaugeSt → GaugeSt) (z : Nat) : linkOf (updGauge d f) z = linkOf d z := congrArg (fun t => tabGet _ t z) (updGauge_links d f)
@[simp] theorem linkOf_updAcct (d : Dev) (a : Nat) (f : Acct → Acct) (z : Nat) : linkOf (updAcct d a f) z = linkOf d z := congrArg (fun t => tabGet _ t z) (updAcct_links d a f)
@[simp] theorem linkOf_updLedger (d : Dev) (f : LedgerSt → LedgerSt) (z : Nat) : linkOf (updLedger d f) z = linkOf d z := congrArg (fun t => tabGet _ t z) (updLedger_links d f)
@[simp] theorem linkOf_updCmd (d : Dev) (h : Nat) (f : CmdSlot → CmdSlot) (z : Nat) : linkOf (updCmd d h f) z = linkOf d z := congrArg (fun t => tabGet _ t z) (updCmd_links d h f)
@[simp] theorem linkOf_updSeg (d : Dev) (f : SegSt → SegSt) (z : Nat) : linkOf (updSeg d f) z = linkOf d z := congrArg (fun t => tabGet _ t z) (updSeg_links d f)
@[simp] theorem linkOf_updSync (d : Dev) (f : SyncSt → SyncSt) (z : Nat) : linkOf (updSync d f) z = linkOf d z := congrArg (fun t => tabGet _ t z) (updSync_links d f)
@[simp] theorem linkOf_updTake (d : Dev) (n : Nat) (f : Takeover → Takeover) (z : Nat) : linkOf (updTake d n f) z = linkOf d z := congrArg (fun t => tabGet _ t z) (updTake_links d n f)
@[simp] theorem linkOf_arrive (m : FMsg) (d : Dev) (z : Nat) : linkOf (arrive m d) z = linkOf d z := congrArg (fun t => tabGet _ t z) (arrive_links m d)
@[simp] theorem linkOf_updTrk (t : Nat) (f : Trk → Trk) (d : Dev) (z : Nat) : linkOf (updTrk t f d) z = linkOf d z := congrArg (fun t => tabGet _ t z) (updTrk_links t f d)
@[simp] theorem linkOf_setDieLine (n line : Nat) (v : Option DLine) (d : Dev) (z : Nat) : linkOf (setDieLine n line v d) z = linkOf d z := congrArg (fun t => tabGet _ t z) (setDieLine_links n line v d)
@[simp] theorem linkOf_setDir (line : Nat) (e : Option DirEnt) (d : Dev) (z : Nat) : linkOf (setDir line e d) z = linkOf d z := congrArg (fun t => tabGet _ t z) (setDir_links line e d)
@[simp] theorem dieOf_updHart (d : Dev) (h : Nat) (f : Hart → Hart) (z : Nat) : dieOf (updHart d h f) z = dieOf d z := congrArg (fun t => tabGet _ t z) (updHart_dies d h f)
@[simp] theorem dieOf_updLink (d : Dev) (n : Nat) (f : Link → Link) (z : Nat) : dieOf (updLink d n f) z = dieOf d z := congrArg (fun t => tabGet _ t z) (updLink_dies d n f)
@[simp] theorem dieOf_updSlice (d : Dev) (n : Nat) (f : SliceSt → SliceSt) (z : Nat) : dieOf (updSlice d n f) z = dieOf d z := congrArg (fun t => tabGet _ t z) (updSlice_dies d n f)
@[simp] theorem dieOf_updMsc (d : Dev) (n : Nat) (f : MscSt → MscSt) (z : Nat) : dieOf (updMsc d n f) z = dieOf d z := congrArg (fun t => tabGet _ t z) (updMsc_dies d n f)
@[simp] theorem dieOf_updChan (d : Dev) (n : Nat) (f : ChanSt → ChanSt) (z : Nat) : dieOf (updChan d n f) z = dieOf d z := congrArg (fun t => tabGet _ t z) (updChan_dies d n f)
@[simp] theorem dieOf_updSub (d : Dev) (n : Nat) (f : SubSt → SubSt) (z : Nat) : dieOf (updSub d n f) z = dieOf d z := congrArg (fun t => tabGet _ t z) (updSub_dies d n f)
@[simp] theorem dieOf_updSite (d : Dev) (n : Nat) (f : SiteSt → SiteSt) (z : Nat) : dieOf (updSite d n f) z = dieOf d z := congrArg (fun t => tabGet _ t z) (updSite_dies d n f)
@[simp] theorem dieOf_updSess (d : Dev) (n : Nat) (f : Session → Session) (z : Nat) : dieOf (updSess d n f) z = dieOf d z := congrArg (fun t => tabGet _ t z) (updSess_dies d n f)
@[simp] theorem dieOf_emit (o : Out) (d : Dev) (z : Nat) : dieOf (emit o d) z = dieOf d z := congrArg (fun t => tabGet _ t z) (emit_dies o d)
@[simp] theorem dieOf_drawn (d : Dev) (z : Nat) : dieOf (drawn d) z = dieOf d z := congrArg (fun t => tabGet _ t z) (drawn_dies d)
@[simp] theorem dieOf_setCur (d : Dev) (idx sub : Nat) (v : Option Val) (z : Nat) : dieOf (setCur d idx sub v) z = dieOf d z := congrArg (fun t => tabGet _ t z) (setCur_dies d idx sub v)
@[simp] theorem dieOf_setCurNat (d : Dev) (idx sub n : Nat) (z : Nat) : dieOf (setCurNat d idx sub n) z = dieOf d z := congrArg (fun t => tabGet _ t z) (setCurNat_dies d idx sub n)
@[simp] theorem dieOf_setStg (d : Dev) (idx sub : Nat) (v : Option Val) (z : Nat) : dieOf (setStg d idx sub v) z = dieOf d z := congrArg (fun t => tabGet _ t z) (setStg_dies d idx sub v)
@[simp] theorem dieOf_updDry (d : Dev) (idx sub : Nat) (f : DryStatus → DryStatus) (z : Nat) : dieOf (updDry d idx sub f) z = dieOf d z := congrArg (fun t => tabGet _ t z) (updDry_dies d idx sub f)
@[simp] theorem dieOf_count (bank unit slot n : Nat) (d : Dev) (z : Nat) : dieOf (count bank unit slot n d) z = dieOf d z := congrArg (fun t => tabGet _ t z) (count_dies bank unit slot n d)
@[simp] theorem dieOf_countPkg (slot : Nat) (d : Dev) (z : Nat) : dieOf (countPkg slot d) z = dieOf d z := congrArg (fun t => tabGet _ t z) (countPkg_dies slot d)
@[simp] theorem dieOf_countSlice (n slot : Nat) (d : Dev) (z : Nat) : dieOf (countSlice n slot d) z = dieOf d z := congrArg (fun t => tabGet _ t z) (countSlice_dies n slot d)
@[simp] theorem dieOf_countChan (n slot : Nat) (d : Dev) (z : Nat) : dieOf (countChan n slot d) z = dieOf d z := congrArg (fun t => tabGet _ t z) (countChan_dies n slot d)
@[simp] theorem dieOf_countBench (n slot : Nat) (d : Dev) (z : Nat) : dieOf (countBench n slot d) z = dieOf d z := congrArg (fun t => tabGet _ t z) (countBench_dies n slot d)
@[simp] theorem dieOf_countDie (n slot : Nat) (d : Dev) (z : Nat) : dieOf (countDie n slot d) z = dieOf d z := congrArg (fun t => tabGet _ t z) (countDie_dies n slot d)
@[simp] theorem dieOf_updEncl (d : Dev) (e : Nat) (f : Enclave → Enclave) (z : Nat) : dieOf (updEncl d e f) z = dieOf d z := congrArg (fun t => tabGet _ t z) (updEncl_dies d e f)
@[simp] theorem dieOf_updBench (d : Dev) (b : Nat) (f : BenchSt → BenchSt) (z : Nat) : dieOf (updBench d b f) z = dieOf d z := congrArg (fun t => tabGet _ t z) (updBench_dies d b f)
@[simp] theorem dieOf_updFn (b k : Nat) (g : Fn → Fn) (d : Dev) (z : Nat) : dieOf (updFn b k g d) z = dieOf d z := congrArg (fun t => tabGet _ t z) (updFn_dies b k g d)
@[simp] theorem dieOf_updRing (b k r : Nat) (g : Ring → Ring) (d : Dev) (z : Nat) : dieOf (updRing b k r g d) z = dieOf d z := congrArg (fun t => tabGet _ t z) (updRing_dies b k r g d)
@[simp] theorem dieOf_updFeed (b c : Nat) (g : FeedChan → FeedChan) (d : Dev) (z : Nat) : dieOf (updFeed b c g d) z = dieOf d z := congrArg (fun t => tabGet _ t z) (updFeed_dies b c g d)
@[simp] theorem dieOf_updBoot (d : Dev) (f : Boot → Boot) (z : Nat) : dieOf (updBoot d f) z = dieOf d z := congrArg (fun t => tabGet _ t z) (updBoot_dies d f)
@[simp] theorem dieOf_updMirror (d : Dev) (f : MirrorSt → MirrorSt) (z : Nat) : dieOf (updMirror d f) z = dieOf d z := congrArg (fun t => tabGet _ t z) (updMirror_dies d f)
@[simp] theorem dieOf_updGauge (d : Dev) (f : GaugeSt → GaugeSt) (z : Nat) : dieOf (updGauge d f) z = dieOf d z := congrArg (fun t => tabGet _ t z) (updGauge_dies d f)
@[simp] theorem dieOf_updAcct (d : Dev) (a : Nat) (f : Acct → Acct) (z : Nat) : dieOf (updAcct d a f) z = dieOf d z := congrArg (fun t => tabGet _ t z) (updAcct_dies d a f)
@[simp] theorem dieOf_updLedger (d : Dev) (f : LedgerSt → LedgerSt) (z : Nat) : dieOf (updLedger d f) z = dieOf d z := congrArg (fun t => tabGet _ t z) (updLedger_dies d f)
@[simp] theorem dieOf_updCmd (d : Dev) (h : Nat) (f : CmdSlot → CmdSlot) (z : Nat) : dieOf (updCmd d h f) z = dieOf d z := congrArg (fun t => tabGet _ t z) (updCmd_dies d h f)
@[simp] theorem dieOf_updSeg (d : Dev) (f : SegSt → SegSt) (z : Nat) : dieOf (updSeg d f) z = dieOf d z := congrArg (fun t => tabGet _ t z) (updSeg_dies d f)
@[simp] theorem dieOf_updSync (d : Dev) (f : SyncSt → SyncSt) (z : Nat) : dieOf (updSync d f) z = dieOf d z := congrArg (fun t => tabGet _ t z) (updSync_dies d f)
@[simp] theorem dieOf_updTake (d : Dev) (n : Nat) (f : Takeover → Takeover) (z : Nat) : dieOf (updTake d n f) z = dieOf d z := congrArg (fun t => tabGet _ t z) (updTake_dies d n f)
@[simp] theorem dieOf_arrive (m : FMsg) (d : Dev) (z : Nat) : dieOf (arrive m d) z = dieOf d z := congrArg (fun t => tabGet _ t z) (arrive_dies m d)
@[simp] theorem dieOf_updTrk (t : Nat) (f : Trk → Trk) (d : Dev) (z : Nat) : dieOf (updTrk t f d) z = dieOf d z := congrArg (fun t => tabGet _ t z) (updTrk_dies t f d)
@[simp] theorem dieOf_setDir (line : Nat) (e : Option DirEnt) (d : Dev) (z : Nat) : dieOf (setDir line e d) z = dieOf d z := congrArg (fun t => tabGet _ t z) (setDir_dies line e d)
@[simp] theorem sliceOf__updHart (d : Dev) (h : Nat) (f : Hart → Hart) (z : Nat) : sliceOf_ (updHart d h f) z = sliceOf_ d z := congrArg (fun t => tabGet _ t z) (updHart_slices d h f)
@[simp] theorem sliceOf__updLink (d : Dev) (n : Nat) (f : Link → Link) (z : Nat) : sliceOf_ (updLink d n f) z = sliceOf_ d z := congrArg (fun t => tabGet _ t z) (updLink_slices d n f)
@[simp] theorem sliceOf__updDie (d : Dev) (n : Nat) (f : Die → Die) (z : Nat) : sliceOf_ (updDie d n f) z = sliceOf_ d z := congrArg (fun t => tabGet _ t z) (updDie_slices d n f)
@[simp] theorem sliceOf__updMsc (d : Dev) (n : Nat) (f : MscSt → MscSt) (z : Nat) : sliceOf_ (updMsc d n f) z = sliceOf_ d z := congrArg (fun t => tabGet _ t z) (updMsc_slices d n f)
@[simp] theorem sliceOf__updChan (d : Dev) (n : Nat) (f : ChanSt → ChanSt) (z : Nat) : sliceOf_ (updChan d n f) z = sliceOf_ d z := congrArg (fun t => tabGet _ t z) (updChan_slices d n f)
@[simp] theorem sliceOf__updSub (d : Dev) (n : Nat) (f : SubSt → SubSt) (z : Nat) : sliceOf_ (updSub d n f) z = sliceOf_ d z := congrArg (fun t => tabGet _ t z) (updSub_slices d n f)
@[simp] theorem sliceOf__updSite (d : Dev) (n : Nat) (f : SiteSt → SiteSt) (z : Nat) : sliceOf_ (updSite d n f) z = sliceOf_ d z := congrArg (fun t => tabGet _ t z) (updSite_slices d n f)
@[simp] theorem sliceOf__updSess (d : Dev) (n : Nat) (f : Session → Session) (z : Nat) : sliceOf_ (updSess d n f) z = sliceOf_ d z := congrArg (fun t => tabGet _ t z) (updSess_slices d n f)
@[simp] theorem sliceOf__emit (o : Out) (d : Dev) (z : Nat) : sliceOf_ (emit o d) z = sliceOf_ d z := congrArg (fun t => tabGet _ t z) (emit_slices o d)
@[simp] theorem sliceOf__drawn (d : Dev) (z : Nat) : sliceOf_ (drawn d) z = sliceOf_ d z := congrArg (fun t => tabGet _ t z) (drawn_slices d)
@[simp] theorem sliceOf__setCur (d : Dev) (idx sub : Nat) (v : Option Val) (z : Nat) : sliceOf_ (setCur d idx sub v) z = sliceOf_ d z := congrArg (fun t => tabGet _ t z) (setCur_slices d idx sub v)
@[simp] theorem sliceOf__setCurNat (d : Dev) (idx sub n : Nat) (z : Nat) : sliceOf_ (setCurNat d idx sub n) z = sliceOf_ d z := congrArg (fun t => tabGet _ t z) (setCurNat_slices d idx sub n)
@[simp] theorem sliceOf__setStg (d : Dev) (idx sub : Nat) (v : Option Val) (z : Nat) : sliceOf_ (setStg d idx sub v) z = sliceOf_ d z := congrArg (fun t => tabGet _ t z) (setStg_slices d idx sub v)
@[simp] theorem sliceOf__updDry (d : Dev) (idx sub : Nat) (f : DryStatus → DryStatus) (z : Nat) : sliceOf_ (updDry d idx sub f) z = sliceOf_ d z := congrArg (fun t => tabGet _ t z) (updDry_slices d idx sub f)
@[simp] theorem sliceOf__count (bank unit slot n : Nat) (d : Dev) (z : Nat) : sliceOf_ (count bank unit slot n d) z = sliceOf_ d z := congrArg (fun t => tabGet _ t z) (count_slices bank unit slot n d)
@[simp] theorem sliceOf__countPkg (slot : Nat) (d : Dev) (z : Nat) : sliceOf_ (countPkg slot d) z = sliceOf_ d z := congrArg (fun t => tabGet _ t z) (countPkg_slices slot d)
@[simp] theorem sliceOf__countSlice (n slot : Nat) (d : Dev) (z : Nat) : sliceOf_ (countSlice n slot d) z = sliceOf_ d z := congrArg (fun t => tabGet _ t z) (countSlice_slices n slot d)
@[simp] theorem sliceOf__countChan (n slot : Nat) (d : Dev) (z : Nat) : sliceOf_ (countChan n slot d) z = sliceOf_ d z := congrArg (fun t => tabGet _ t z) (countChan_slices n slot d)
@[simp] theorem sliceOf__countBench (n slot : Nat) (d : Dev) (z : Nat) : sliceOf_ (countBench n slot d) z = sliceOf_ d z := congrArg (fun t => tabGet _ t z) (countBench_slices n slot d)
@[simp] theorem sliceOf__countDie (n slot : Nat) (d : Dev) (z : Nat) : sliceOf_ (countDie n slot d) z = sliceOf_ d z := congrArg (fun t => tabGet _ t z) (countDie_slices n slot d)
@[simp] theorem sliceOf__updEncl (d : Dev) (e : Nat) (f : Enclave → Enclave) (z : Nat) : sliceOf_ (updEncl d e f) z = sliceOf_ d z := congrArg (fun t => tabGet _ t z) (updEncl_slices d e f)
@[simp] theorem sliceOf__updBench (d : Dev) (b : Nat) (f : BenchSt → BenchSt) (z : Nat) : sliceOf_ (updBench d b f) z = sliceOf_ d z := congrArg (fun t => tabGet _ t z) (updBench_slices d b f)
@[simp] theorem sliceOf__updFn (b k : Nat) (g : Fn → Fn) (d : Dev) (z : Nat) : sliceOf_ (updFn b k g d) z = sliceOf_ d z := congrArg (fun t => tabGet _ t z) (updFn_slices b k g d)
@[simp] theorem sliceOf__updRing (b k r : Nat) (g : Ring → Ring) (d : Dev) (z : Nat) : sliceOf_ (updRing b k r g d) z = sliceOf_ d z := congrArg (fun t => tabGet _ t z) (updRing_slices b k r g d)
@[simp] theorem sliceOf__updFeed (b c : Nat) (g : FeedChan → FeedChan) (d : Dev) (z : Nat) : sliceOf_ (updFeed b c g d) z = sliceOf_ d z := congrArg (fun t => tabGet _ t z) (updFeed_slices b c g d)
@[simp] theorem sliceOf__updBoot (d : Dev) (f : Boot → Boot) (z : Nat) : sliceOf_ (updBoot d f) z = sliceOf_ d z := congrArg (fun t => tabGet _ t z) (updBoot_slices d f)
@[simp] theorem sliceOf__updMirror (d : Dev) (f : MirrorSt → MirrorSt) (z : Nat) : sliceOf_ (updMirror d f) z = sliceOf_ d z := congrArg (fun t => tabGet _ t z) (updMirror_slices d f)
@[simp] theorem sliceOf__updGauge (d : Dev) (f : GaugeSt → GaugeSt) (z : Nat) : sliceOf_ (updGauge d f) z = sliceOf_ d z := congrArg (fun t => tabGet _ t z) (updGauge_slices d f)
@[simp] theorem sliceOf__updAcct (d : Dev) (a : Nat) (f : Acct → Acct) (z : Nat) : sliceOf_ (updAcct d a f) z = sliceOf_ d z := congrArg (fun t => tabGet _ t z) (updAcct_slices d a f)
@[simp] theorem sliceOf__updLedger (d : Dev) (f : LedgerSt → LedgerSt) (z : Nat) : sliceOf_ (updLedger d f) z = sliceOf_ d z := congrArg (fun t => tabGet _ t z) (updLedger_slices d f)
@[simp] theorem sliceOf__updCmd (d : Dev) (h : Nat) (f : CmdSlot → CmdSlot) (z : Nat) : sliceOf_ (updCmd d h f) z = sliceOf_ d z := congrArg (fun t => tabGet _ t z) (updCmd_slices d h f)
@[simp] theorem sliceOf__updSeg (d : Dev) (f : SegSt → SegSt) (z : Nat) : sliceOf_ (updSeg d f) z = sliceOf_ d z := congrArg (fun t => tabGet _ t z) (updSeg_slices d f)
@[simp] theorem sliceOf__updSync (d : Dev) (f : SyncSt → SyncSt) (z : Nat) : sliceOf_ (updSync d f) z = sliceOf_ d z := congrArg (fun t => tabGet _ t z) (updSync_slices d f)
@[simp] theorem sliceOf__updTake (d : Dev) (n : Nat) (f : Takeover → Takeover) (z : Nat) : sliceOf_ (updTake d n f) z = sliceOf_ d z := congrArg (fun t => tabGet _ t z) (updTake_slices d n f)
@[simp] theorem sliceOf__arrive (m : FMsg) (d : Dev) (z : Nat) : sliceOf_ (arrive m d) z = sliceOf_ d z := congrArg (fun t => tabGet _ t z) (arrive_slices m d)
@[simp] theorem sliceOf__setDieLine (n line : Nat) (v : Option DLine) (d : Dev) (z : Nat) : sliceOf_ (setDieLine n line v d) z = sliceOf_ d z := congrArg (fun t => tabGet _ t z) (setDieLine_slices n line v d)
@[simp] theorem mscOf_updHart (d : Dev) (h : Nat) (f : Hart → Hart) (z : Nat) : mscOf (updHart d h f) z = mscOf d z := congrArg (fun t => tabGet _ t z) (updHart_mscs d h f)
@[simp] theorem mscOf_updLink (d : Dev) (n : Nat) (f : Link → Link) (z : Nat) : mscOf (updLink d n f) z = mscOf d z := congrArg (fun t => tabGet _ t z) (updLink_mscs d n f)
@[simp] theorem mscOf_updDie (d : Dev) (n : Nat) (f : Die → Die) (z : Nat) : mscOf (updDie d n f) z = mscOf d z := congrArg (fun t => tabGet _ t z) (updDie_mscs d n f)
@[simp] theorem mscOf_updSlice (d : Dev) (n : Nat) (f : SliceSt → SliceSt) (z : Nat) : mscOf (updSlice d n f) z = mscOf d z := congrArg (fun t => tabGet _ t z) (updSlice_mscs d n f)
@[simp] theorem mscOf_updChan (d : Dev) (n : Nat) (f : ChanSt → ChanSt) (z : Nat) : mscOf (updChan d n f) z = mscOf d z := congrArg (fun t => tabGet _ t z) (updChan_mscs d n f)
@[simp] theorem mscOf_updSub (d : Dev) (n : Nat) (f : SubSt → SubSt) (z : Nat) : mscOf (updSub d n f) z = mscOf d z := congrArg (fun t => tabGet _ t z) (updSub_mscs d n f)
@[simp] theorem mscOf_updSite (d : Dev) (n : Nat) (f : SiteSt → SiteSt) (z : Nat) : mscOf (updSite d n f) z = mscOf d z := congrArg (fun t => tabGet _ t z) (updSite_mscs d n f)
@[simp] theorem mscOf_updSess (d : Dev) (n : Nat) (f : Session → Session) (z : Nat) : mscOf (updSess d n f) z = mscOf d z := congrArg (fun t => tabGet _ t z) (updSess_mscs d n f)
@[simp] theorem mscOf_emit (o : Out) (d : Dev) (z : Nat) : mscOf (emit o d) z = mscOf d z := congrArg (fun t => tabGet _ t z) (emit_mscs o d)
@[simp] theorem mscOf_drawn (d : Dev) (z : Nat) : mscOf (drawn d) z = mscOf d z := congrArg (fun t => tabGet _ t z) (drawn_mscs d)
@[simp] theorem mscOf_setCur (d : Dev) (idx sub : Nat) (v : Option Val) (z : Nat) : mscOf (setCur d idx sub v) z = mscOf d z := congrArg (fun t => tabGet _ t z) (setCur_mscs d idx sub v)
@[simp] theorem mscOf_setCurNat (d : Dev) (idx sub n : Nat) (z : Nat) : mscOf (setCurNat d idx sub n) z = mscOf d z := congrArg (fun t => tabGet _ t z) (setCurNat_mscs d idx sub n)
@[simp] theorem mscOf_setStg (d : Dev) (idx sub : Nat) (v : Option Val) (z : Nat) : mscOf (setStg d idx sub v) z = mscOf d z := congrArg (fun t => tabGet _ t z) (setStg_mscs d idx sub v)
@[simp] theorem mscOf_updDry (d : Dev) (idx sub : Nat) (f : DryStatus → DryStatus) (z : Nat) : mscOf (updDry d idx sub f) z = mscOf d z := congrArg (fun t => tabGet _ t z) (updDry_mscs d idx sub f)
@[simp] theorem mscOf_count (bank unit slot n : Nat) (d : Dev) (z : Nat) : mscOf (count bank unit slot n d) z = mscOf d z := congrArg (fun t => tabGet _ t z) (count_mscs bank unit slot n d)
@[simp] theorem mscOf_countPkg (slot : Nat) (d : Dev) (z : Nat) : mscOf (countPkg slot d) z = mscOf d z := congrArg (fun t => tabGet _ t z) (countPkg_mscs slot d)
@[simp] theorem mscOf_countSlice (n slot : Nat) (d : Dev) (z : Nat) : mscOf (countSlice n slot d) z = mscOf d z := congrArg (fun t => tabGet _ t z) (countSlice_mscs n slot d)
@[simp] theorem mscOf_countChan (n slot : Nat) (d : Dev) (z : Nat) : mscOf (countChan n slot d) z = mscOf d z := congrArg (fun t => tabGet _ t z) (countChan_mscs n slot d)
@[simp] theorem mscOf_countBench (n slot : Nat) (d : Dev) (z : Nat) : mscOf (countBench n slot d) z = mscOf d z := congrArg (fun t => tabGet _ t z) (countBench_mscs n slot d)
@[simp] theorem mscOf_countDie (n slot : Nat) (d : Dev) (z : Nat) : mscOf (countDie n slot d) z = mscOf d z := congrArg (fun t => tabGet _ t z) (countDie_mscs n slot d)
@[simp] theorem mscOf_updEncl (d : Dev) (e : Nat) (f : Enclave → Enclave) (z : Nat) : mscOf (updEncl d e f) z = mscOf d z := congrArg (fun t => tabGet _ t z) (updEncl_mscs d e f)
@[simp] theorem mscOf_updBench (d : Dev) (b : Nat) (f : BenchSt → BenchSt) (z : Nat) : mscOf (updBench d b f) z = mscOf d z := congrArg (fun t => tabGet _ t z) (updBench_mscs d b f)
@[simp] theorem mscOf_updFn (b k : Nat) (g : Fn → Fn) (d : Dev) (z : Nat) : mscOf (updFn b k g d) z = mscOf d z := congrArg (fun t => tabGet _ t z) (updFn_mscs b k g d)
@[simp] theorem mscOf_updRing (b k r : Nat) (g : Ring → Ring) (d : Dev) (z : Nat) : mscOf (updRing b k r g d) z = mscOf d z := congrArg (fun t => tabGet _ t z) (updRing_mscs b k r g d)
@[simp] theorem mscOf_updFeed (b c : Nat) (g : FeedChan → FeedChan) (d : Dev) (z : Nat) : mscOf (updFeed b c g d) z = mscOf d z := congrArg (fun t => tabGet _ t z) (updFeed_mscs b c g d)
@[simp] theorem mscOf_updBoot (d : Dev) (f : Boot → Boot) (z : Nat) : mscOf (updBoot d f) z = mscOf d z := congrArg (fun t => tabGet _ t z) (updBoot_mscs d f)
@[simp] theorem mscOf_updMirror (d : Dev) (f : MirrorSt → MirrorSt) (z : Nat) : mscOf (updMirror d f) z = mscOf d z := congrArg (fun t => tabGet _ t z) (updMirror_mscs d f)
@[simp] theorem mscOf_updGauge (d : Dev) (f : GaugeSt → GaugeSt) (z : Nat) : mscOf (updGauge d f) z = mscOf d z := congrArg (fun t => tabGet _ t z) (updGauge_mscs d f)
@[simp] theorem mscOf_updAcct (d : Dev) (a : Nat) (f : Acct → Acct) (z : Nat) : mscOf (updAcct d a f) z = mscOf d z := congrArg (fun t => tabGet _ t z) (updAcct_mscs d a f)
@[simp] theorem mscOf_updLedger (d : Dev) (f : LedgerSt → LedgerSt) (z : Nat) : mscOf (updLedger d f) z = mscOf d z := congrArg (fun t => tabGet _ t z) (updLedger_mscs d f)
@[simp] theorem mscOf_updCmd (d : Dev) (h : Nat) (f : CmdSlot → CmdSlot) (z : Nat) : mscOf (updCmd d h f) z = mscOf d z := congrArg (fun t => tabGet _ t z) (updCmd_mscs d h f)
@[simp] theorem mscOf_updSeg (d : Dev) (f : SegSt → SegSt) (z : Nat) : mscOf (updSeg d f) z = mscOf d z := congrArg (fun t => tabGet _ t z) (updSeg_mscs d f)
@[simp] theorem mscOf_updSync (d : Dev) (f : SyncSt → SyncSt) (z : Nat) : mscOf (updSync d f) z = mscOf d z := congrArg (fun t => tabGet _ t z) (updSync_mscs d f)
@[simp] theorem mscOf_updTake (d : Dev) (n : Nat) (f : Takeover → Takeover) (z : Nat) : mscOf (updTake d n f) z = mscOf d z := congrArg (fun t => tabGet _ t z) (updTake_mscs d n f)
@[simp] theorem mscOf_arrive (m : FMsg) (d : Dev) (z : Nat) : mscOf (arrive m d) z = mscOf d z := congrArg (fun t => tabGet _ t z) (arrive_mscs m d)
@[simp] theorem mscOf_updTrk (t : Nat) (f : Trk → Trk) (d : Dev) (z : Nat) : mscOf (updTrk t f d) z = mscOf d z := congrArg (fun t => tabGet _ t z) (updTrk_mscs t f d)
@[simp] theorem mscOf_setDieLine (n line : Nat) (v : Option DLine) (d : Dev) (z : Nat) : mscOf (setDieLine n line v d) z = mscOf d z := congrArg (fun t => tabGet _ t z) (setDieLine_mscs n line v d)
@[simp] theorem mscOf_setDir (line : Nat) (e : Option DirEnt) (d : Dev) (z : Nat) : mscOf (setDir line e d) z = mscOf d z := congrArg (fun t => tabGet _ t z) (setDir_mscs line e d)
@[simp] theorem chanOf_updHart (d : Dev) (h : Nat) (f : Hart → Hart) (z : Nat) : chanOf (updHart d h f) z = chanOf d z := congrArg (fun t => tabGet _ t z) (updHart_chans d h f)
@[simp] theorem chanOf_updLink (d : Dev) (n : Nat) (f : Link → Link) (z : Nat) : chanOf (updLink d n f) z = chanOf d z := congrArg (fun t => tabGet _ t z) (updLink_chans d n f)
@[simp] theorem chanOf_updDie (d : Dev) (n : Nat) (f : Die → Die) (z : Nat) : chanOf (updDie d n f) z = chanOf d z := congrArg (fun t => tabGet _ t z) (updDie_chans d n f)
@[simp] theorem chanOf_updSlice (d : Dev) (n : Nat) (f : SliceSt → SliceSt) (z : Nat) : chanOf (updSlice d n f) z = chanOf d z := congrArg (fun t => tabGet _ t z) (updSlice_chans d n f)
@[simp] theorem chanOf_updMsc (d : Dev) (n : Nat) (f : MscSt → MscSt) (z : Nat) : chanOf (updMsc d n f) z = chanOf d z := congrArg (fun t => tabGet _ t z) (updMsc_chans d n f)
@[simp] theorem chanOf_updSub (d : Dev) (n : Nat) (f : SubSt → SubSt) (z : Nat) : chanOf (updSub d n f) z = chanOf d z := congrArg (fun t => tabGet _ t z) (updSub_chans d n f)
@[simp] theorem chanOf_updSite (d : Dev) (n : Nat) (f : SiteSt → SiteSt) (z : Nat) : chanOf (updSite d n f) z = chanOf d z := congrArg (fun t => tabGet _ t z) (updSite_chans d n f)
@[simp] theorem chanOf_updSess (d : Dev) (n : Nat) (f : Session → Session) (z : Nat) : chanOf (updSess d n f) z = chanOf d z := congrArg (fun t => tabGet _ t z) (updSess_chans d n f)
@[simp] theorem chanOf_emit (o : Out) (d : Dev) (z : Nat) : chanOf (emit o d) z = chanOf d z := congrArg (fun t => tabGet _ t z) (emit_chans o d)
@[simp] theorem chanOf_drawn (d : Dev) (z : Nat) : chanOf (drawn d) z = chanOf d z := congrArg (fun t => tabGet _ t z) (drawn_chans d)
@[simp] theorem chanOf_setCur (d : Dev) (idx sub : Nat) (v : Option Val) (z : Nat) : chanOf (setCur d idx sub v) z = chanOf d z := congrArg (fun t => tabGet _ t z) (setCur_chans d idx sub v)
@[simp] theorem chanOf_setCurNat (d : Dev) (idx sub n : Nat) (z : Nat) : chanOf (setCurNat d idx sub n) z = chanOf d z := congrArg (fun t => tabGet _ t z) (setCurNat_chans d idx sub n)
@[simp] theorem chanOf_setStg (d : Dev) (idx sub : Nat) (v : Option Val) (z : Nat) : chanOf (setStg d idx sub v) z = chanOf d z := congrArg (fun t => tabGet _ t z) (setStg_chans d idx sub v)
@[simp] theorem chanOf_updDry (d : Dev) (idx sub : Nat) (f : DryStatus → DryStatus) (z : Nat) : chanOf (updDry d idx sub f) z = chanOf d z := congrArg (fun t => tabGet _ t z) (updDry_chans d idx sub f)
@[simp] theorem chanOf_count (bank unit slot n : Nat) (d : Dev) (z : Nat) : chanOf (count bank unit slot n d) z = chanOf d z := congrArg (fun t => tabGet _ t z) (count_chans bank unit slot n d)
@[simp] theorem chanOf_countPkg (slot : Nat) (d : Dev) (z : Nat) : chanOf (countPkg slot d) z = chanOf d z := congrArg (fun t => tabGet _ t z) (countPkg_chans slot d)
@[simp] theorem chanOf_countSlice (n slot : Nat) (d : Dev) (z : Nat) : chanOf (countSlice n slot d) z = chanOf d z := congrArg (fun t => tabGet _ t z) (countSlice_chans n slot d)
@[simp] theorem chanOf_countChan (n slot : Nat) (d : Dev) (z : Nat) : chanOf (countChan n slot d) z = chanOf d z := congrArg (fun t => tabGet _ t z) (countChan_chans n slot d)
@[simp] theorem chanOf_countBench (n slot : Nat) (d : Dev) (z : Nat) : chanOf (countBench n slot d) z = chanOf d z := congrArg (fun t => tabGet _ t z) (countBench_chans n slot d)
@[simp] theorem chanOf_countDie (n slot : Nat) (d : Dev) (z : Nat) : chanOf (countDie n slot d) z = chanOf d z := congrArg (fun t => tabGet _ t z) (countDie_chans n slot d)
@[simp] theorem chanOf_updEncl (d : Dev) (e : Nat) (f : Enclave → Enclave) (z : Nat) : chanOf (updEncl d e f) z = chanOf d z := congrArg (fun t => tabGet _ t z) (updEncl_chans d e f)
@[simp] theorem chanOf_updBench (d : Dev) (b : Nat) (f : BenchSt → BenchSt) (z : Nat) : chanOf (updBench d b f) z = chanOf d z := congrArg (fun t => tabGet _ t z) (updBench_chans d b f)
@[simp] theorem chanOf_updFn (b k : Nat) (g : Fn → Fn) (d : Dev) (z : Nat) : chanOf (updFn b k g d) z = chanOf d z := congrArg (fun t => tabGet _ t z) (updFn_chans b k g d)
@[simp] theorem chanOf_updRing (b k r : Nat) (g : Ring → Ring) (d : Dev) (z : Nat) : chanOf (updRing b k r g d) z = chanOf d z := congrArg (fun t => tabGet _ t z) (updRing_chans b k r g d)
@[simp] theorem chanOf_updFeed (b c : Nat) (g : FeedChan → FeedChan) (d : Dev) (z : Nat) : chanOf (updFeed b c g d) z = chanOf d z := congrArg (fun t => tabGet _ t z) (updFeed_chans b c g d)
@[simp] theorem chanOf_updBoot (d : Dev) (f : Boot → Boot) (z : Nat) : chanOf (updBoot d f) z = chanOf d z := congrArg (fun t => tabGet _ t z) (updBoot_chans d f)
@[simp] theorem chanOf_updMirror (d : Dev) (f : MirrorSt → MirrorSt) (z : Nat) : chanOf (updMirror d f) z = chanOf d z := congrArg (fun t => tabGet _ t z) (updMirror_chans d f)
@[simp] theorem chanOf_updGauge (d : Dev) (f : GaugeSt → GaugeSt) (z : Nat) : chanOf (updGauge d f) z = chanOf d z := congrArg (fun t => tabGet _ t z) (updGauge_chans d f)
@[simp] theorem chanOf_updAcct (d : Dev) (a : Nat) (f : Acct → Acct) (z : Nat) : chanOf (updAcct d a f) z = chanOf d z := congrArg (fun t => tabGet _ t z) (updAcct_chans d a f)
@[simp] theorem chanOf_updLedger (d : Dev) (f : LedgerSt → LedgerSt) (z : Nat) : chanOf (updLedger d f) z = chanOf d z := congrArg (fun t => tabGet _ t z) (updLedger_chans d f)
@[simp] theorem chanOf_updCmd (d : Dev) (h : Nat) (f : CmdSlot → CmdSlot) (z : Nat) : chanOf (updCmd d h f) z = chanOf d z := congrArg (fun t => tabGet _ t z) (updCmd_chans d h f)
@[simp] theorem chanOf_updSeg (d : Dev) (f : SegSt → SegSt) (z : Nat) : chanOf (updSeg d f) z = chanOf d z := congrArg (fun t => tabGet _ t z) (updSeg_chans d f)
@[simp] theorem chanOf_updSync (d : Dev) (f : SyncSt → SyncSt) (z : Nat) : chanOf (updSync d f) z = chanOf d z := congrArg (fun t => tabGet _ t z) (updSync_chans d f)
@[simp] theorem chanOf_updTake (d : Dev) (n : Nat) (f : Takeover → Takeover) (z : Nat) : chanOf (updTake d n f) z = chanOf d z := congrArg (fun t => tabGet _ t z) (updTake_chans d n f)
@[simp] theorem chanOf_arrive (m : FMsg) (d : Dev) (z : Nat) : chanOf (arrive m d) z = chanOf d z := congrArg (fun t => tabGet _ t z) (arrive_chans m d)
@[simp] theorem chanOf_updTrk (t : Nat) (f : Trk → Trk) (d : Dev) (z : Nat) : chanOf (updTrk t f d) z = chanOf d z := congrArg (fun t => tabGet _ t z) (updTrk_chans t f d)
@[simp] theorem chanOf_setDieLine (n line : Nat) (v : Option DLine) (d : Dev) (z : Nat) : chanOf (setDieLine n line v d) z = chanOf d z := congrArg (fun t => tabGet _ t z) (setDieLine_chans n line v d)
@[simp] theorem chanOf_setDir (line : Nat) (e : Option DirEnt) (d : Dev) (z : Nat) : chanOf (setDir line e d) z = chanOf d z := congrArg (fun t => tabGet _ t z) (setDir_chans line e d)
@[simp] theorem subOf_updHart (d : Dev) (h : Nat) (f : Hart → Hart) (z : Nat) : subOf (updHart d h f) z = subOf d z := congrArg (fun t => tabGet _ t z) (updHart_subs d h f)
@[simp] theorem subOf_updLink (d : Dev) (n : Nat) (f : Link → Link) (z : Nat) : subOf (updLink d n f) z = subOf d z := congrArg (fun t => tabGet _ t z) (updLink_subs d n f)
@[simp] theorem subOf_updDie (d : Dev) (n : Nat) (f : Die → Die) (z : Nat) : subOf (updDie d n f) z = subOf d z := congrArg (fun t => tabGet _ t z) (updDie_subs d n f)
@[simp] theorem subOf_updSlice (d : Dev) (n : Nat) (f : SliceSt → SliceSt) (z : Nat) : subOf (updSlice d n f) z = subOf d z := congrArg (fun t => tabGet _ t z) (updSlice_subs d n f)
@[simp] theorem subOf_updMsc (d : Dev) (n : Nat) (f : MscSt → MscSt) (z : Nat) : subOf (updMsc d n f) z = subOf d z := congrArg (fun t => tabGet _ t z) (updMsc_subs d n f)
@[simp] theorem subOf_updChan (d : Dev) (n : Nat) (f : ChanSt → ChanSt) (z : Nat) : subOf (updChan d n f) z = subOf d z := congrArg (fun t => tabGet _ t z) (updChan_subs d n f)
@[simp] theorem subOf_updSite (d : Dev) (n : Nat) (f : SiteSt → SiteSt) (z : Nat) : subOf (updSite d n f) z = subOf d z := congrArg (fun t => tabGet _ t z) (updSite_subs d n f)
@[simp] theorem subOf_updSess (d : Dev) (n : Nat) (f : Session → Session) (z : Nat) : subOf (updSess d n f) z = subOf d z := congrArg (fun t => tabGet _ t z) (updSess_subs d n f)
@[simp] theorem subOf_emit (o : Out) (d : Dev) (z : Nat) : subOf (emit o d) z = subOf d z := congrArg (fun t => tabGet _ t z) (emit_subs o d)
@[simp] theorem subOf_drawn (d : Dev) (z : Nat) : subOf (drawn d) z = subOf d z := congrArg (fun t => tabGet _ t z) (drawn_subs d)
@[simp] theorem subOf_setCur (d : Dev) (idx sub : Nat) (v : Option Val) (z : Nat) : subOf (setCur d idx sub v) z = subOf d z := congrArg (fun t => tabGet _ t z) (setCur_subs d idx sub v)
@[simp] theorem subOf_setCurNat (d : Dev) (idx sub n : Nat) (z : Nat) : subOf (setCurNat d idx sub n) z = subOf d z := congrArg (fun t => tabGet _ t z) (setCurNat_subs d idx sub n)
@[simp] theorem subOf_setStg (d : Dev) (idx sub : Nat) (v : Option Val) (z : Nat) : subOf (setStg d idx sub v) z = subOf d z := congrArg (fun t => tabGet _ t z) (setStg_subs d idx sub v)
@[simp] theorem subOf_updDry (d : Dev) (idx sub : Nat) (f : DryStatus → DryStatus) (z : Nat) : subOf (updDry d idx sub f) z = subOf d z := congrArg (fun t => tabGet _ t z) (updDry_subs d idx sub f)
@[simp] theorem subOf_count (bank unit slot n : Nat) (d : Dev) (z : Nat) : subOf (count bank unit slot n d) z = subOf d z := congrArg (fun t => tabGet _ t z) (count_subs bank unit slot n d)
@[simp] theorem subOf_countPkg (slot : Nat) (d : Dev) (z : Nat) : subOf (countPkg slot d) z = subOf d z := congrArg (fun t => tabGet _ t z) (countPkg_subs slot d)
@[simp] theorem subOf_countSlice (n slot : Nat) (d : Dev) (z : Nat) : subOf (countSlice n slot d) z = subOf d z := congrArg (fun t => tabGet _ t z) (countSlice_subs n slot d)
@[simp] theorem subOf_countChan (n slot : Nat) (d : Dev) (z : Nat) : subOf (countChan n slot d) z = subOf d z := congrArg (fun t => tabGet _ t z) (countChan_subs n slot d)
@[simp] theorem subOf_countBench (n slot : Nat) (d : Dev) (z : Nat) : subOf (countBench n slot d) z = subOf d z := congrArg (fun t => tabGet _ t z) (countBench_subs n slot d)
@[simp] theorem subOf_countDie (n slot : Nat) (d : Dev) (z : Nat) : subOf (countDie n slot d) z = subOf d z := congrArg (fun t => tabGet _ t z) (countDie_subs n slot d)
@[simp] theorem subOf_updEncl (d : Dev) (e : Nat) (f : Enclave → Enclave) (z : Nat) : subOf (updEncl d e f) z = subOf d z := congrArg (fun t => tabGet _ t z) (updEncl_subs d e f)
@[simp] theorem subOf_updBench (d : Dev) (b : Nat) (f : BenchSt → BenchSt) (z : Nat) : subOf (updBench d b f) z = subOf d z := congrArg (fun t => tabGet _ t z) (updBench_subs d b f)
@[simp] theorem subOf_updFn (b k : Nat) (g : Fn → Fn) (d : Dev) (z : Nat) : subOf (updFn b k g d) z = subOf d z := congrArg (fun t => tabGet _ t z) (updFn_subs b k g d)
@[simp] theorem subOf_updRing (b k r : Nat) (g : Ring → Ring) (d : Dev) (z : Nat) : subOf (updRing b k r g d) z = subOf d z := congrArg (fun t => tabGet _ t z) (updRing_subs b k r g d)
@[simp] theorem subOf_updFeed (b c : Nat) (g : FeedChan → FeedChan) (d : Dev) (z : Nat) : subOf (updFeed b c g d) z = subOf d z := congrArg (fun t => tabGet _ t z) (updFeed_subs b c g d)
@[simp] theorem subOf_updBoot (d : Dev) (f : Boot → Boot) (z : Nat) : subOf (updBoot d f) z = subOf d z := congrArg (fun t => tabGet _ t z) (updBoot_subs d f)
@[simp] theorem subOf_updMirror (d : Dev) (f : MirrorSt → MirrorSt) (z : Nat) : subOf (updMirror d f) z = subOf d z := congrArg (fun t => tabGet _ t z) (updMirror_subs d f)
@[simp] theorem subOf_updGauge (d : Dev) (f : GaugeSt → GaugeSt) (z : Nat) : subOf (updGauge d f) z = subOf d z := congrArg (fun t => tabGet _ t z) (updGauge_subs d f)
@[simp] theorem subOf_updAcct (d : Dev) (a : Nat) (f : Acct → Acct) (z : Nat) : subOf (updAcct d a f) z = subOf d z := congrArg (fun t => tabGet _ t z) (updAcct_subs d a f)
@[simp] theorem subOf_updLedger (d : Dev) (f : LedgerSt → LedgerSt) (z : Nat) : subOf (updLedger d f) z = subOf d z := congrArg (fun t => tabGet _ t z) (updLedger_subs d f)
@[simp] theorem subOf_updCmd (d : Dev) (h : Nat) (f : CmdSlot → CmdSlot) (z : Nat) : subOf (updCmd d h f) z = subOf d z := congrArg (fun t => tabGet _ t z) (updCmd_subs d h f)
@[simp] theorem subOf_updSeg (d : Dev) (f : SegSt → SegSt) (z : Nat) : subOf (updSeg d f) z = subOf d z := congrArg (fun t => tabGet _ t z) (updSeg_subs d f)
@[simp] theorem subOf_updSync (d : Dev) (f : SyncSt → SyncSt) (z : Nat) : subOf (updSync d f) z = subOf d z := congrArg (fun t => tabGet _ t z) (updSync_subs d f)
@[simp] theorem subOf_updTake (d : Dev) (n : Nat) (f : Takeover → Takeover) (z : Nat) : subOf (updTake d n f) z = subOf d z := congrArg (fun t => tabGet _ t z) (updTake_subs d n f)
@[simp] theorem subOf_arrive (m : FMsg) (d : Dev) (z : Nat) : subOf (arrive m d) z = subOf d z := congrArg (fun t => tabGet _ t z) (arrive_subs m d)
@[simp] theorem subOf_updTrk (t : Nat) (f : Trk → Trk) (d : Dev) (z : Nat) : subOf (updTrk t f d) z = subOf d z := congrArg (fun t => tabGet _ t z) (updTrk_subs t f d)
@[simp] theorem subOf_setDieLine (n line : Nat) (v : Option DLine) (d : Dev) (z : Nat) : subOf (setDieLine n line v d) z = subOf d z := congrArg (fun t => tabGet _ t z) (setDieLine_subs n line v d)
@[simp] theorem subOf_setDir (line : Nat) (e : Option DirEnt) (d : Dev) (z : Nat) : subOf (setDir line e d) z = subOf d z := congrArg (fun t => tabGet _ t z) (setDir_subs line e d)
@[simp] theorem siteOf_updHart (d : Dev) (h : Nat) (f : Hart → Hart) (z : Nat) : siteOf (updHart d h f) z = siteOf d z := congrArg (fun t => tabGet _ t z) (updHart_sites d h f)
@[simp] theorem siteOf_updLink (d : Dev) (n : Nat) (f : Link → Link) (z : Nat) : siteOf (updLink d n f) z = siteOf d z := congrArg (fun t => tabGet _ t z) (updLink_sites d n f)
@[simp] theorem siteOf_updDie (d : Dev) (n : Nat) (f : Die → Die) (z : Nat) : siteOf (updDie d n f) z = siteOf d z := congrArg (fun t => tabGet _ t z) (updDie_sites d n f)
@[simp] theorem siteOf_updSlice (d : Dev) (n : Nat) (f : SliceSt → SliceSt) (z : Nat) : siteOf (updSlice d n f) z = siteOf d z := congrArg (fun t => tabGet _ t z) (updSlice_sites d n f)
@[simp] theorem siteOf_updMsc (d : Dev) (n : Nat) (f : MscSt → MscSt) (z : Nat) : siteOf (updMsc d n f) z = siteOf d z := congrArg (fun t => tabGet _ t z) (updMsc_sites d n f)
@[simp] theorem siteOf_updChan (d : Dev) (n : Nat) (f : ChanSt → ChanSt) (z : Nat) : siteOf (updChan d n f) z = siteOf d z := congrArg (fun t => tabGet _ t z) (updChan_sites d n f)
@[simp] theorem siteOf_updSub (d : Dev) (n : Nat) (f : SubSt → SubSt) (z : Nat) : siteOf (updSub d n f) z = siteOf d z := congrArg (fun t => tabGet _ t z) (updSub_sites d n f)
@[simp] theorem siteOf_updSess (d : Dev) (n : Nat) (f : Session → Session) (z : Nat) : siteOf (updSess d n f) z = siteOf d z := congrArg (fun t => tabGet _ t z) (updSess_sites d n f)
@[simp] theorem siteOf_emit (o : Out) (d : Dev) (z : Nat) : siteOf (emit o d) z = siteOf d z := congrArg (fun t => tabGet _ t z) (emit_sites o d)
@[simp] theorem siteOf_drawn (d : Dev) (z : Nat) : siteOf (drawn d) z = siteOf d z := congrArg (fun t => tabGet _ t z) (drawn_sites d)
@[simp] theorem siteOf_setCur (d : Dev) (idx sub : Nat) (v : Option Val) (z : Nat) : siteOf (setCur d idx sub v) z = siteOf d z := congrArg (fun t => tabGet _ t z) (setCur_sites d idx sub v)
@[simp] theorem siteOf_setCurNat (d : Dev) (idx sub n : Nat) (z : Nat) : siteOf (setCurNat d idx sub n) z = siteOf d z := congrArg (fun t => tabGet _ t z) (setCurNat_sites d idx sub n)
@[simp] theorem siteOf_setStg (d : Dev) (idx sub : Nat) (v : Option Val) (z : Nat) : siteOf (setStg d idx sub v) z = siteOf d z := congrArg (fun t => tabGet _ t z) (setStg_sites d idx sub v)
@[simp] theorem siteOf_updDry (d : Dev) (idx sub : Nat) (f : DryStatus → DryStatus) (z : Nat) : siteOf (updDry d idx sub f) z = siteOf d z := congrArg (fun t => tabGet _ t z) (updDry_sites d idx sub f)
@[simp] theorem siteOf_count (bank unit slot n : Nat) (d : Dev) (z : Nat) : siteOf (count bank unit slot n d) z = siteOf d z := congrArg (fun t => tabGet _ t z) (count_sites bank unit slot n d)
@[simp] theorem siteOf_countPkg (slot : Nat) (d : Dev) (z : Nat) : siteOf (countPkg slot d) z = siteOf d z := congrArg (fun t => tabGet _ t z) (countPkg_sites slot d)
@[simp] theorem siteOf_countSlice (n slot : Nat) (d : Dev) (z : Nat) : siteOf (countSlice n slot d) z = siteOf d z := congrArg (fun t => tabGet _ t z) (countSlice_sites n slot d)
@[simp] theorem siteOf_countChan (n slot : Nat) (d : Dev) (z : Nat) : siteOf (countChan n slot d) z = siteOf d z := congrArg (fun t => tabGet _ t z) (countChan_sites n slot d)
@[simp] theorem siteOf_countBench (n slot : Nat) (d : Dev) (z : Nat) : siteOf (countBench n slot d) z = siteOf d z := congrArg (fun t => tabGet _ t z) (countBench_sites n slot d)
@[simp] theorem siteOf_countDie (n slot : Nat) (d : Dev) (z : Nat) : siteOf (countDie n slot d) z = siteOf d z := congrArg (fun t => tabGet _ t z) (countDie_sites n slot d)
@[simp] theorem siteOf_updEncl (d : Dev) (e : Nat) (f : Enclave → Enclave) (z : Nat) : siteOf (updEncl d e f) z = siteOf d z := congrArg (fun t => tabGet _ t z) (updEncl_sites d e f)
@[simp] theorem siteOf_updBench (d : Dev) (b : Nat) (f : BenchSt → BenchSt) (z : Nat) : siteOf (updBench d b f) z = siteOf d z := congrArg (fun t => tabGet _ t z) (updBench_sites d b f)
@[simp] theorem siteOf_updFn (b k : Nat) (g : Fn → Fn) (d : Dev) (z : Nat) : siteOf (updFn b k g d) z = siteOf d z := congrArg (fun t => tabGet _ t z) (updFn_sites b k g d)
@[simp] theorem siteOf_updRing (b k r : Nat) (g : Ring → Ring) (d : Dev) (z : Nat) : siteOf (updRing b k r g d) z = siteOf d z := congrArg (fun t => tabGet _ t z) (updRing_sites b k r g d)
@[simp] theorem siteOf_updFeed (b c : Nat) (g : FeedChan → FeedChan) (d : Dev) (z : Nat) : siteOf (updFeed b c g d) z = siteOf d z := congrArg (fun t => tabGet _ t z) (updFeed_sites b c g d)
@[simp] theorem siteOf_updBoot (d : Dev) (f : Boot → Boot) (z : Nat) : siteOf (updBoot d f) z = siteOf d z := congrArg (fun t => tabGet _ t z) (updBoot_sites d f)
@[simp] theorem siteOf_updMirror (d : Dev) (f : MirrorSt → MirrorSt) (z : Nat) : siteOf (updMirror d f) z = siteOf d z := congrArg (fun t => tabGet _ t z) (updMirror_sites d f)
@[simp] theorem siteOf_updGauge (d : Dev) (f : GaugeSt → GaugeSt) (z : Nat) : siteOf (updGauge d f) z = siteOf d z := congrArg (fun t => tabGet _ t z) (updGauge_sites d f)
@[simp] theorem siteOf_updAcct (d : Dev) (a : Nat) (f : Acct → Acct) (z : Nat) : siteOf (updAcct d a f) z = siteOf d z := congrArg (fun t => tabGet _ t z) (updAcct_sites d a f)
@[simp] theorem siteOf_updLedger (d : Dev) (f : LedgerSt → LedgerSt) (z : Nat) : siteOf (updLedger d f) z = siteOf d z := congrArg (fun t => tabGet _ t z) (updLedger_sites d f)
@[simp] theorem siteOf_updCmd (d : Dev) (h : Nat) (f : CmdSlot → CmdSlot) (z : Nat) : siteOf (updCmd d h f) z = siteOf d z := congrArg (fun t => tabGet _ t z) (updCmd_sites d h f)
@[simp] theorem siteOf_updSeg (d : Dev) (f : SegSt → SegSt) (z : Nat) : siteOf (updSeg d f) z = siteOf d z := congrArg (fun t => tabGet _ t z) (updSeg_sites d f)
@[simp] theorem siteOf_updSync (d : Dev) (f : SyncSt → SyncSt) (z : Nat) : siteOf (updSync d f) z = siteOf d z := congrArg (fun t => tabGet _ t z) (updSync_sites d f)
@[simp] theorem siteOf_updTake (d : Dev) (n : Nat) (f : Takeover → Takeover) (z : Nat) : siteOf (updTake d n f) z = siteOf d z := congrArg (fun t => tabGet _ t z) (updTake_sites d n f)
@[simp] theorem siteOf_arrive (m : FMsg) (d : Dev) (z : Nat) : siteOf (arrive m d) z = siteOf d z := congrArg (fun t => tabGet _ t z) (arrive_sites m d)
@[simp] theorem siteOf_updTrk (t : Nat) (f : Trk → Trk) (d : Dev) (z : Nat) : siteOf (updTrk t f d) z = siteOf d z := congrArg (fun t => tabGet _ t z) (updTrk_sites t f d)
@[simp] theorem siteOf_setDieLine (n line : Nat) (v : Option DLine) (d : Dev) (z : Nat) : siteOf (setDieLine n line v d) z = siteOf d z := congrArg (fun t => tabGet _ t z) (setDieLine_sites n line v d)
@[simp] theorem siteOf_setDir (line : Nat) (e : Option DirEnt) (d : Dev) (z : Nat) : siteOf (setDir line e d) z = siteOf d z := congrArg (fun t => tabGet _ t z) (setDir_sites line e d)
@[simp] theorem enclOf_updHart (d : Dev) (h : Nat) (f : Hart → Hart) (z : Nat) : enclOf (updHart d h f) z = enclOf d z := congrArg (fun t => tabGet _ t z) (updHart_encl d h f)
@[simp] theorem enclOf_updLink (d : Dev) (n : Nat) (f : Link → Link) (z : Nat) : enclOf (updLink d n f) z = enclOf d z := congrArg (fun t => tabGet _ t z) (updLink_encl d n f)
@[simp] theorem enclOf_updDie (d : Dev) (n : Nat) (f : Die → Die) (z : Nat) : enclOf (updDie d n f) z = enclOf d z := congrArg (fun t => tabGet _ t z) (updDie_encl d n f)
@[simp] theorem enclOf_updSlice (d : Dev) (n : Nat) (f : SliceSt → SliceSt) (z : Nat) : enclOf (updSlice d n f) z = enclOf d z := congrArg (fun t => tabGet _ t z) (updSlice_encl d n f)
@[simp] theorem enclOf_updMsc (d : Dev) (n : Nat) (f : MscSt → MscSt) (z : Nat) : enclOf (updMsc d n f) z = enclOf d z := congrArg (fun t => tabGet _ t z) (updMsc_encl d n f)
@[simp] theorem enclOf_updChan (d : Dev) (n : Nat) (f : ChanSt → ChanSt) (z : Nat) : enclOf (updChan d n f) z = enclOf d z := congrArg (fun t => tabGet _ t z) (updChan_encl d n f)
@[simp] theorem enclOf_updSub (d : Dev) (n : Nat) (f : SubSt → SubSt) (z : Nat) : enclOf (updSub d n f) z = enclOf d z := congrArg (fun t => tabGet _ t z) (updSub_encl d n f)
@[simp] theorem enclOf_updSite (d : Dev) (n : Nat) (f : SiteSt → SiteSt) (z : Nat) : enclOf (updSite d n f) z = enclOf d z := congrArg (fun t => tabGet _ t z) (updSite_encl d n f)
@[simp] theorem enclOf_updSess (d : Dev) (n : Nat) (f : Session → Session) (z : Nat) : enclOf (updSess d n f) z = enclOf d z := congrArg (fun t => tabGet _ t z) (updSess_encl d n f)
@[simp] theorem enclOf_emit (o : Out) (d : Dev) (z : Nat) : enclOf (emit o d) z = enclOf d z := congrArg (fun t => tabGet _ t z) (emit_encl o d)
@[simp] theorem enclOf_drawn (d : Dev) (z : Nat) : enclOf (drawn d) z = enclOf d z := congrArg (fun t => tabGet _ t z) (drawn_encl d)
@[simp] theorem enclOf_setCur (d : Dev) (idx sub : Nat) (v : Option Val) (z : Nat) : enclOf (setCur d idx sub v) z = enclOf d z := congrArg (fun t => tabGet _ t z) (setCur_encl d idx sub v)
@[simp] theorem enclOf_setCurNat (d : Dev) (idx sub n : Nat) (z : Nat) : enclOf (setCurNat d idx sub n) z = enclOf d z := congrArg (fun t => tabGet _ t z) (setCurNat_encl d idx sub n)
@[simp] theorem enclOf_setStg (d : Dev) (idx sub : Nat) (v : Option Val) (z : Nat) : enclOf (setStg d idx sub v) z = enclOf d z := congrArg (fun t => tabGet _ t z) (setStg_encl d idx sub v)
@[simp] theorem enclOf_updDry (d : Dev) (idx sub : Nat) (f : DryStatus → DryStatus) (z : Nat) : enclOf (updDry d idx sub f) z = enclOf d z := congrArg (fun t => tabGet _ t z) (updDry_encl d idx sub f)
@[simp] theorem enclOf_count (bank unit slot n : Nat) (d : Dev) (z : Nat) : enclOf (count bank unit slot n d) z = enclOf d z := congrArg (fun t => tabGet _ t z) (count_encl bank unit slot n d)
@[simp] theorem enclOf_countPkg (slot : Nat) (d : Dev) (z : Nat) : enclOf (countPkg slot d) z = enclOf d z := congrArg (fun t => tabGet _ t z) (countPkg_encl slot d)
@[simp] theorem enclOf_countSlice (n slot : Nat) (d : Dev) (z : Nat) : enclOf (countSlice n slot d) z = enclOf d z := congrArg (fun t => tabGet _ t z) (countSlice_encl n slot d)
@[simp] theorem enclOf_countChan (n slot : Nat) (d : Dev) (z : Nat) : enclOf (countChan n slot d) z = enclOf d z := congrArg (fun t => tabGet _ t z) (countChan_encl n slot d)
@[simp] theorem enclOf_countBench (n slot : Nat) (d : Dev) (z : Nat) : enclOf (countBench n slot d) z = enclOf d z := congrArg (fun t => tabGet _ t z) (countBench_encl n slot d)
@[simp] theorem enclOf_countDie (n slot : Nat) (d : Dev) (z : Nat) : enclOf (countDie n slot d) z = enclOf d z := congrArg (fun t => tabGet _ t z) (countDie_encl n slot d)
@[simp] theorem enclOf_updBench (d : Dev) (b : Nat) (f : BenchSt → BenchSt) (z : Nat) : enclOf (updBench d b f) z = enclOf d z := congrArg (fun t => tabGet _ t z) (updBench_encl d b f)
@[simp] theorem enclOf_updFn (b k : Nat) (g : Fn → Fn) (d : Dev) (z : Nat) : enclOf (updFn b k g d) z = enclOf d z := congrArg (fun t => tabGet _ t z) (updFn_encl b k g d)
@[simp] theorem enclOf_updRing (b k r : Nat) (g : Ring → Ring) (d : Dev) (z : Nat) : enclOf (updRing b k r g d) z = enclOf d z := congrArg (fun t => tabGet _ t z) (updRing_encl b k r g d)
@[simp] theorem enclOf_updFeed (b c : Nat) (g : FeedChan → FeedChan) (d : Dev) (z : Nat) : enclOf (updFeed b c g d) z = enclOf d z := congrArg (fun t => tabGet _ t z) (updFeed_encl b c g d)
@[simp] theorem enclOf_updBoot (d : Dev) (f : Boot → Boot) (z : Nat) : enclOf (updBoot d f) z = enclOf d z := congrArg (fun t => tabGet _ t z) (updBoot_encl d f)
@[simp] theorem enclOf_updMirror (d : Dev) (f : MirrorSt → MirrorSt) (z : Nat) : enclOf (updMirror d f) z = enclOf d z := congrArg (fun t => tabGet _ t z) (updMirror_encl d f)
@[simp] theorem enclOf_updGauge (d : Dev) (f : GaugeSt → GaugeSt) (z : Nat) : enclOf (updGauge d f) z = enclOf d z := congrArg (fun t => tabGet _ t z) (updGauge_encl d f)
@[simp] theorem enclOf_updAcct (d : Dev) (a : Nat) (f : Acct → Acct) (z : Nat) : enclOf (updAcct d a f) z = enclOf d z := congrArg (fun t => tabGet _ t z) (updAcct_encl d a f)
@[simp] theorem enclOf_updLedger (d : Dev) (f : LedgerSt → LedgerSt) (z : Nat) : enclOf (updLedger d f) z = enclOf d z := congrArg (fun t => tabGet _ t z) (updLedger_encl d f)
@[simp] theorem enclOf_updCmd (d : Dev) (h : Nat) (f : CmdSlot → CmdSlot) (z : Nat) : enclOf (updCmd d h f) z = enclOf d z := congrArg (fun t => tabGet _ t z) (updCmd_encl d h f)
@[simp] theorem enclOf_updSeg (d : Dev) (f : SegSt → SegSt) (z : Nat) : enclOf (updSeg d f) z = enclOf d z := congrArg (fun t => tabGet _ t z) (updSeg_encl d f)
@[simp] theorem enclOf_updSync (d : Dev) (f : SyncSt → SyncSt) (z : Nat) : enclOf (updSync d f) z = enclOf d z := congrArg (fun t => tabGet _ t z) (updSync_encl d f)
@[simp] theorem enclOf_updTake (d : Dev) (n : Nat) (f : Takeover → Takeover) (z : Nat) : enclOf (updTake d n f) z = enclOf d z := congrArg (fun t => tabGet _ t z) (updTake_encl d n f)
@[simp] theorem enclOf_arrive (m : FMsg) (d : Dev) (z : Nat) : enclOf (arrive m d) z = enclOf d z := congrArg (fun t => tabGet _ t z) (arrive_encl m d)
@[simp] theorem enclOf_updTrk (t : Nat) (f : Trk → Trk) (d : Dev) (z : Nat) : enclOf (updTrk t f d) z = enclOf d z := congrArg (fun t => tabGet _ t z) (updTrk_encl t f d)
@[simp] theorem enclOf_setDieLine (n line : Nat) (v : Option DLine) (d : Dev) (z : Nat) : enclOf (setDieLine n line v d) z = enclOf d z := congrArg (fun t => tabGet _ t z) (setDieLine_encl n line v d)
@[simp] theorem enclOf_setDir (line : Nat) (e : Option DirEnt) (d : Dev) (z : Nat) : enclOf (setDir line e d) z = enclOf d z := congrArg (fun t => tabGet _ t z) (setDir_encl line e d)
@[simp] theorem benchOf_updHart (d : Dev) (h : Nat) (f : Hart → Hart) (z : Nat) : benchOf (updHart d h f) z = benchOf d z := congrArg (fun t => tabGet _ t z) (updHart_benches d h f)
@[simp] theorem benchOf_updLink (d : Dev) (n : Nat) (f : Link → Link) (z : Nat) : benchOf (updLink d n f) z = benchOf d z := congrArg (fun t => tabGet _ t z) (updLink_benches d n f)
@[simp] theorem benchOf_updDie (d : Dev) (n : Nat) (f : Die → Die) (z : Nat) : benchOf (updDie d n f) z = benchOf d z := congrArg (fun t => tabGet _ t z) (updDie_benches d n f)
@[simp] theorem benchOf_updSlice (d : Dev) (n : Nat) (f : SliceSt → SliceSt) (z : Nat) : benchOf (updSlice d n f) z = benchOf d z := congrArg (fun t => tabGet _ t z) (updSlice_benches d n f)
@[simp] theorem benchOf_updMsc (d : Dev) (n : Nat) (f : MscSt → MscSt) (z : Nat) : benchOf (updMsc d n f) z = benchOf d z := congrArg (fun t => tabGet _ t z) (updMsc_benches d n f)
@[simp] theorem benchOf_updChan (d : Dev) (n : Nat) (f : ChanSt → ChanSt) (z : Nat) : benchOf (updChan d n f) z = benchOf d z := congrArg (fun t => tabGet _ t z) (updChan_benches d n f)
@[simp] theorem benchOf_updSub (d : Dev) (n : Nat) (f : SubSt → SubSt) (z : Nat) : benchOf (updSub d n f) z = benchOf d z := congrArg (fun t => tabGet _ t z) (updSub_benches d n f)
@[simp] theorem benchOf_updSite (d : Dev) (n : Nat) (f : SiteSt → SiteSt) (z : Nat) : benchOf (updSite d n f) z = benchOf d z := congrArg (fun t => tabGet _ t z) (updSite_benches d n f)
@[simp] theorem benchOf_updSess (d : Dev) (n : Nat) (f : Session → Session) (z : Nat) : benchOf (updSess d n f) z = benchOf d z := congrArg (fun t => tabGet _ t z) (updSess_benches d n f)
@[simp] theorem benchOf_emit (o : Out) (d : Dev) (z : Nat) : benchOf (emit o d) z = benchOf d z := congrArg (fun t => tabGet _ t z) (emit_benches o d)
@[simp] theorem benchOf_drawn (d : Dev) (z : Nat) : benchOf (drawn d) z = benchOf d z := congrArg (fun t => tabGet _ t z) (drawn_benches d)
@[simp] theorem benchOf_setCur (d : Dev) (idx sub : Nat) (v : Option Val) (z : Nat) : benchOf (setCur d idx sub v) z = benchOf d z := congrArg (fun t => tabGet _ t z) (setCur_benches d idx sub v)
@[simp] theorem benchOf_setCurNat (d : Dev) (idx sub n : Nat) (z : Nat) : benchOf (setCurNat d idx sub n) z = benchOf d z := congrArg (fun t => tabGet _ t z) (setCurNat_benches d idx sub n)
@[simp] theorem benchOf_setStg (d : Dev) (idx sub : Nat) (v : Option Val) (z : Nat) : benchOf (setStg d idx sub v) z = benchOf d z := congrArg (fun t => tabGet _ t z) (setStg_benches d idx sub v)
@[simp] theorem benchOf_updDry (d : Dev) (idx sub : Nat) (f : DryStatus → DryStatus) (z : Nat) : benchOf (updDry d idx sub f) z = benchOf d z := congrArg (fun t => tabGet _ t z) (updDry_benches d idx sub f)
@[simp] theorem benchOf_count (bank unit slot n : Nat) (d : Dev) (z : Nat) : benchOf (count bank unit slot n d) z = benchOf d z := congrArg (fun t => tabGet _ t z) (count_benches bank unit slot n d)
@[simp] theorem benchOf_countPkg (slot : Nat) (d : Dev) (z : Nat) : benchOf (countPkg slot d) z = benchOf d z := congrArg (fun t => tabGet _ t z) (countPkg_benches slot d)
@[simp] theorem benchOf_countSlice (n slot : Nat) (d : Dev) (z : Nat) : benchOf (countSlice n slot d) z = benchOf d z := congrArg (fun t => tabGet _ t z) (countSlice_benches n slot d)
@[simp] theorem benchOf_countChan (n slot : Nat) (d : Dev) (z : Nat) : benchOf (countChan n slot d) z = benchOf d z := congrArg (fun t => tabGet _ t z) (countChan_benches n slot d)
@[simp] theorem benchOf_countBench (n slot : Nat) (d : Dev) (z : Nat) : benchOf (countBench n slot d) z = benchOf d z := congrArg (fun t => tabGet _ t z) (countBench_benches n slot d)
@[simp] theorem benchOf_countDie (n slot : Nat) (d : Dev) (z : Nat) : benchOf (countDie n slot d) z = benchOf d z := congrArg (fun t => tabGet _ t z) (countDie_benches n slot d)
@[simp] theorem benchOf_updEncl (d : Dev) (e : Nat) (f : Enclave → Enclave) (z : Nat) : benchOf (updEncl d e f) z = benchOf d z := congrArg (fun t => tabGet _ t z) (updEncl_benches d e f)
@[simp] theorem benchOf_updBoot (d : Dev) (f : Boot → Boot) (z : Nat) : benchOf (updBoot d f) z = benchOf d z := congrArg (fun t => tabGet _ t z) (updBoot_benches d f)
@[simp] theorem benchOf_updMirror (d : Dev) (f : MirrorSt → MirrorSt) (z : Nat) : benchOf (updMirror d f) z = benchOf d z := congrArg (fun t => tabGet _ t z) (updMirror_benches d f)
@[simp] theorem benchOf_updGauge (d : Dev) (f : GaugeSt → GaugeSt) (z : Nat) : benchOf (updGauge d f) z = benchOf d z := congrArg (fun t => tabGet _ t z) (updGauge_benches d f)
@[simp] theorem benchOf_updAcct (d : Dev) (a : Nat) (f : Acct → Acct) (z : Nat) : benchOf (updAcct d a f) z = benchOf d z := congrArg (fun t => tabGet _ t z) (updAcct_benches d a f)
@[simp] theorem benchOf_updLedger (d : Dev) (f : LedgerSt → LedgerSt) (z : Nat) : benchOf (updLedger d f) z = benchOf d z := congrArg (fun t => tabGet _ t z) (updLedger_benches d f)
@[simp] theorem benchOf_updCmd (d : Dev) (h : Nat) (f : CmdSlot → CmdSlot) (z : Nat) : benchOf (updCmd d h f) z = benchOf d z := congrArg (fun t => tabGet _ t z) (updCmd_benches d h f)
@[simp] theorem benchOf_updSeg (d : Dev) (f : SegSt → SegSt) (z : Nat) : benchOf (updSeg d f) z = benchOf d z := congrArg (fun t => tabGet _ t z) (updSeg_benches d f)
@[simp] theorem benchOf_updSync (d : Dev) (f : SyncSt → SyncSt) (z : Nat) : benchOf (updSync d f) z = benchOf d z := congrArg (fun t => tabGet _ t z) (updSync_benches d f)
@[simp] theorem benchOf_updTake (d : Dev) (n : Nat) (f : Takeover → Takeover) (z : Nat) : benchOf (updTake d n f) z = benchOf d z := congrArg (fun t => tabGet _ t z) (updTake_benches d n f)
@[simp] theorem benchOf_arrive (m : FMsg) (d : Dev) (z : Nat) : benchOf (arrive m d) z = benchOf d z := congrArg (fun t => tabGet _ t z) (arrive_benches m d)
@[simp] theorem benchOf_updTrk (t : Nat) (f : Trk → Trk) (d : Dev) (z : Nat) : benchOf (updTrk t f d) z = benchOf d z := congrArg (fun t => tabGet _ t z) (updTrk_benches t f d)
@[simp] theorem benchOf_setDieLine (n line : Nat) (v : Option DLine) (d : Dev) (z : Nat) : benchOf (setDieLine n line v d) z = benchOf d z := congrArg (fun t => tabGet _ t z) (setDieLine_benches n line v d)
@[simp] theorem benchOf_setDir (line : Nat) (e : Option DirEnt) (d : Dev) (z : Nat) : benchOf (setDir line e d) z = benchOf d z := congrArg (fun t => tabGet _ t z) (setDir_benches line e d)
@[simp] theorem cmdOf_updHart (d : Dev) (h : Nat) (f : Hart → Hart) (z : Nat) : cmdOf (updHart d h f) z = cmdOf d z := congrArg (fun t => tabGet _ t z) (updHart_cmds d h f)
@[simp] theorem cmdOf_updLink (d : Dev) (n : Nat) (f : Link → Link) (z : Nat) : cmdOf (updLink d n f) z = cmdOf d z := congrArg (fun t => tabGet _ t z) (updLink_cmds d n f)
@[simp] theorem cmdOf_updDie (d : Dev) (n : Nat) (f : Die → Die) (z : Nat) : cmdOf (updDie d n f) z = cmdOf d z := congrArg (fun t => tabGet _ t z) (updDie_cmds d n f)
@[simp] theorem cmdOf_updSlice (d : Dev) (n : Nat) (f : SliceSt → SliceSt) (z : Nat) : cmdOf (updSlice d n f) z = cmdOf d z := congrArg (fun t => tabGet _ t z) (updSlice_cmds d n f)
@[simp] theorem cmdOf_updMsc (d : Dev) (n : Nat) (f : MscSt → MscSt) (z : Nat) : cmdOf (updMsc d n f) z = cmdOf d z := congrArg (fun t => tabGet _ t z) (updMsc_cmds d n f)
@[simp] theorem cmdOf_updChan (d : Dev) (n : Nat) (f : ChanSt → ChanSt) (z : Nat) : cmdOf (updChan d n f) z = cmdOf d z := congrArg (fun t => tabGet _ t z) (updChan_cmds d n f)
@[simp] theorem cmdOf_updSub (d : Dev) (n : Nat) (f : SubSt → SubSt) (z : Nat) : cmdOf (updSub d n f) z = cmdOf d z := congrArg (fun t => tabGet _ t z) (updSub_cmds d n f)
@[simp] theorem cmdOf_updSite (d : Dev) (n : Nat) (f : SiteSt → SiteSt) (z : Nat) : cmdOf (updSite d n f) z = cmdOf d z := congrArg (fun t => tabGet _ t z) (updSite_cmds d n f)
@[simp] theorem cmdOf_updSess (d : Dev) (n : Nat) (f : Session → Session) (z : Nat) : cmdOf (updSess d n f) z = cmdOf d z := congrArg (fun t => tabGet _ t z) (updSess_cmds d n f)
@[simp] theorem cmdOf_emit (o : Out) (d : Dev) (z : Nat) : cmdOf (emit o d) z = cmdOf d z := congrArg (fun t => tabGet _ t z) (emit_cmds o d)
@[simp] theorem cmdOf_drawn (d : Dev) (z : Nat) : cmdOf (drawn d) z = cmdOf d z := congrArg (fun t => tabGet _ t z) (drawn_cmds d)
@[simp] theorem cmdOf_setCur (d : Dev) (idx sub : Nat) (v : Option Val) (z : Nat) : cmdOf (setCur d idx sub v) z = cmdOf d z := congrArg (fun t => tabGet _ t z) (setCur_cmds d idx sub v)
@[simp] theorem cmdOf_setCurNat (d : Dev) (idx sub n : Nat) (z : Nat) : cmdOf (setCurNat d idx sub n) z = cmdOf d z := congrArg (fun t => tabGet _ t z) (setCurNat_cmds d idx sub n)
@[simp] theorem cmdOf_setStg (d : Dev) (idx sub : Nat) (v : Option Val) (z : Nat) : cmdOf (setStg d idx sub v) z = cmdOf d z := congrArg (fun t => tabGet _ t z) (setStg_cmds d idx sub v)
@[simp] theorem cmdOf_updDry (d : Dev) (idx sub : Nat) (f : DryStatus → DryStatus) (z : Nat) : cmdOf (updDry d idx sub f) z = cmdOf d z := congrArg (fun t => tabGet _ t z) (updDry_cmds d idx sub f)
@[simp] theorem cmdOf_count (bank unit slot n : Nat) (d : Dev) (z : Nat) : cmdOf (count bank unit slot n d) z = cmdOf d z := congrArg (fun t => tabGet _ t z) (count_cmds bank unit slot n d)
@[simp] theorem cmdOf_countPkg (slot : Nat) (d : Dev) (z : Nat) : cmdOf (countPkg slot d) z = cmdOf d z := congrArg (fun t => tabGet _ t z) (countPkg_cmds slot d)
@[simp] theorem cmdOf_countSlice (n slot : Nat) (d : Dev) (z : Nat) : cmdOf (countSlice n slot d) z = cmdOf d z := congrArg (fun t => tabGet _ t z) (countSlice_cmds n slot d)
@[simp] theorem cmdOf_countChan (n slot : Nat) (d : Dev) (z : Nat) : cmdOf (countChan n slot d) z = cmdOf d z := congrArg (fun t => tabGet _ t z) (countChan_cmds n slot d)
@[simp] theorem cmdOf_countBench (n slot : Nat) (d : Dev) (z : Nat) : cmdOf (countBench n slot d) z = cmdOf d z := congrArg (fun t => tabGet _ t z) (countBench_cmds n slot d)
@[simp] theorem cmdOf_countDie (n slot : Nat) (d : Dev) (z : Nat) : cmdOf (countDie n slot d) z = cmdOf d z := congrArg (fun t => tabGet _ t z) (countDie_cmds n slot d)
@[simp] theorem cmdOf_updEncl (d : Dev) (e : Nat) (f : Enclave → Enclave) (z : Nat) : cmdOf (updEncl d e f) z = cmdOf d z := congrArg (fun t => tabGet _ t z) (updEncl_cmds d e f)
@[simp] theorem cmdOf_updBench (d : Dev) (b : Nat) (f : BenchSt → BenchSt) (z : Nat) : cmdOf (updBench d b f) z = cmdOf d z := congrArg (fun t => tabGet _ t z) (updBench_cmds d b f)
@[simp] theorem cmdOf_updFn (b k : Nat) (g : Fn → Fn) (d : Dev) (z : Nat) : cmdOf (updFn b k g d) z = cmdOf d z := congrArg (fun t => tabGet _ t z) (updFn_cmds b k g d)
@[simp] theorem cmdOf_updRing (b k r : Nat) (g : Ring → Ring) (d : Dev) (z : Nat) : cmdOf (updRing b k r g d) z = cmdOf d z := congrArg (fun t => tabGet _ t z) (updRing_cmds b k r g d)
@[simp] theorem cmdOf_updFeed (b c : Nat) (g : FeedChan → FeedChan) (d : Dev) (z : Nat) : cmdOf (updFeed b c g d) z = cmdOf d z := congrArg (fun t => tabGet _ t z) (updFeed_cmds b c g d)
@[simp] theorem cmdOf_updBoot (d : Dev) (f : Boot → Boot) (z : Nat) : cmdOf (updBoot d f) z = cmdOf d z := congrArg (fun t => tabGet _ t z) (updBoot_cmds d f)
@[simp] theorem cmdOf_updMirror (d : Dev) (f : MirrorSt → MirrorSt) (z : Nat) : cmdOf (updMirror d f) z = cmdOf d z := congrArg (fun t => tabGet _ t z) (updMirror_cmds d f)
@[simp] theorem cmdOf_updGauge (d : Dev) (f : GaugeSt → GaugeSt) (z : Nat) : cmdOf (updGauge d f) z = cmdOf d z := congrArg (fun t => tabGet _ t z) (updGauge_cmds d f)
@[simp] theorem cmdOf_updAcct (d : Dev) (a : Nat) (f : Acct → Acct) (z : Nat) : cmdOf (updAcct d a f) z = cmdOf d z := congrArg (fun t => tabGet _ t z) (updAcct_cmds d a f)
@[simp] theorem cmdOf_updLedger (d : Dev) (f : LedgerSt → LedgerSt) (z : Nat) : cmdOf (updLedger d f) z = cmdOf d z := congrArg (fun t => tabGet _ t z) (updLedger_cmds d f)
@[simp] theorem cmdOf_updSeg (d : Dev) (f : SegSt → SegSt) (z : Nat) : cmdOf (updSeg d f) z = cmdOf d z := congrArg (fun t => tabGet _ t z) (updSeg_cmds d f)
@[simp] theorem cmdOf_updSync (d : Dev) (f : SyncSt → SyncSt) (z : Nat) : cmdOf (updSync d f) z = cmdOf d z := congrArg (fun t => tabGet _ t z) (updSync_cmds d f)
@[simp] theorem cmdOf_updTake (d : Dev) (n : Nat) (f : Takeover → Takeover) (z : Nat) : cmdOf (updTake d n f) z = cmdOf d z := congrArg (fun t => tabGet _ t z) (updTake_cmds d n f)
@[simp] theorem cmdOf_arrive (m : FMsg) (d : Dev) (z : Nat) : cmdOf (arrive m d) z = cmdOf d z := congrArg (fun t => tabGet _ t z) (arrive_cmds m d)
@[simp] theorem cmdOf_updTrk (t : Nat) (f : Trk → Trk) (d : Dev) (z : Nat) : cmdOf (updTrk t f d) z = cmdOf d z := congrArg (fun t => tabGet _ t z) (updTrk_cmds t f d)
@[simp] theorem cmdOf_setDieLine (n line : Nat) (v : Option DLine) (d : Dev) (z : Nat) : cmdOf (setDieLine n line v d) z = cmdOf d z := congrArg (fun t => tabGet _ t z) (setDieLine_cmds n line v d)
@[simp] theorem cmdOf_setDir (line : Nat) (e : Option DirEnt) (d : Dev) (z : Nat) : cmdOf (setDir line e d) z = cmdOf d z := congrArg (fun t => tabGet _ t z) (setDir_cmds line e d)
@[simp] theorem takeOf_updHart (d : Dev) (h : Nat) (f : Hart → Hart) (z : Nat) : takeOf (updHart d h f) z = takeOf d z := congrArg (fun t => tabGet _ t z) (updHart_takeover d h f)
@[simp] theorem takeOf_updLink (d : Dev) (n : Nat) (f : Link → Link) (z : Nat) : takeOf (updLink d n f) z = takeOf d z := congrArg (fun t => tabGet _ t z) (updLink_takeover d n f)
@[simp] theorem takeOf_updDie (d : Dev) (n : Nat) (f : Die → Die) (z : Nat) : takeOf (updDie d n f) z = takeOf d z := congrArg (fun t => tabGet _ t z) (updDie_takeover d n f)
@[simp] theorem takeOf_updSlice (d : Dev) (n : Nat) (f : SliceSt → SliceSt) (z : Nat) : takeOf (updSlice d n f) z = takeOf d z := congrArg (fun t => tabGet _ t z) (updSlice_takeover d n f)
@[simp] theorem takeOf_updMsc (d : Dev) (n : Nat) (f : MscSt → MscSt) (z : Nat) : takeOf (updMsc d n f) z = takeOf d z := congrArg (fun t => tabGet _ t z) (updMsc_takeover d n f)
@[simp] theorem takeOf_updChan (d : Dev) (n : Nat) (f : ChanSt → ChanSt) (z : Nat) : takeOf (updChan d n f) z = takeOf d z := congrArg (fun t => tabGet _ t z) (updChan_takeover d n f)
@[simp] theorem takeOf_updSub (d : Dev) (n : Nat) (f : SubSt → SubSt) (z : Nat) : takeOf (updSub d n f) z = takeOf d z := congrArg (fun t => tabGet _ t z) (updSub_takeover d n f)
@[simp] theorem takeOf_updSite (d : Dev) (n : Nat) (f : SiteSt → SiteSt) (z : Nat) : takeOf (updSite d n f) z = takeOf d z := congrArg (fun t => tabGet _ t z) (updSite_takeover d n f)
@[simp] theorem takeOf_updSess (d : Dev) (n : Nat) (f : Session → Session) (z : Nat) : takeOf (updSess d n f) z = takeOf d z := congrArg (fun t => tabGet _ t z) (updSess_takeover d n f)
@[simp] theorem takeOf_emit (o : Out) (d : Dev) (z : Nat) : takeOf (emit o d) z = takeOf d z := congrArg (fun t => tabGet _ t z) (emit_takeover o d)
@[simp] theorem takeOf_drawn (d : Dev) (z : Nat) : takeOf (drawn d) z = takeOf d z := congrArg (fun t => tabGet _ t z) (drawn_takeover d)
@[simp] theorem takeOf_setCur (d : Dev) (idx sub : Nat) (v : Option Val) (z : Nat) : takeOf (setCur d idx sub v) z = takeOf d z := congrArg (fun t => tabGet _ t z) (setCur_takeover d idx sub v)
@[simp] theorem takeOf_setCurNat (d : Dev) (idx sub n : Nat) (z : Nat) : takeOf (setCurNat d idx sub n) z = takeOf d z := congrArg (fun t => tabGet _ t z) (setCurNat_takeover d idx sub n)
@[simp] theorem takeOf_setStg (d : Dev) (idx sub : Nat) (v : Option Val) (z : Nat) : takeOf (setStg d idx sub v) z = takeOf d z := congrArg (fun t => tabGet _ t z) (setStg_takeover d idx sub v)
@[simp] theorem takeOf_updDry (d : Dev) (idx sub : Nat) (f : DryStatus → DryStatus) (z : Nat) : takeOf (updDry d idx sub f) z = takeOf d z := congrArg (fun t => tabGet _ t z) (updDry_takeover d idx sub f)
@[simp] theorem takeOf_count (bank unit slot n : Nat) (d : Dev) (z : Nat) : takeOf (count bank unit slot n d) z = takeOf d z := congrArg (fun t => tabGet _ t z) (count_takeover bank unit slot n d)
@[simp] theorem takeOf_countPkg (slot : Nat) (d : Dev) (z : Nat) : takeOf (countPkg slot d) z = takeOf d z := congrArg (fun t => tabGet _ t z) (countPkg_takeover slot d)
@[simp] theorem takeOf_countSlice (n slot : Nat) (d : Dev) (z : Nat) : takeOf (countSlice n slot d) z = takeOf d z := congrArg (fun t => tabGet _ t z) (countSlice_takeover n slot d)
@[simp] theorem takeOf_countChan (n slot : Nat) (d : Dev) (z : Nat) : takeOf (countChan n slot d) z = takeOf d z := congrArg (fun t => tabGet _ t z) (countChan_takeover n slot d)
@[simp] theorem takeOf_countBench (n slot : Nat) (d : Dev) (z : Nat) : takeOf (countBench n slot d) z = takeOf d z := congrArg (fun t => tabGet _ t z) (countBench_takeover n slot d)
@[simp] theorem takeOf_countDie (n slot : Nat) (d : Dev) (z : Nat) : takeOf (countDie n slot d) z = takeOf d z := congrArg (fun t => tabGet _ t z) (countDie_takeover n slot d)
@[simp] theorem takeOf_updEncl (d : Dev) (e : Nat) (f : Enclave → Enclave) (z : Nat) : takeOf (updEncl d e f) z = takeOf d z := congrArg (fun t => tabGet _ t z) (updEncl_takeover d e f)
@[simp] theorem takeOf_updBench (d : Dev) (b : Nat) (f : BenchSt → BenchSt) (z : Nat) : takeOf (updBench d b f) z = takeOf d z := congrArg (fun t => tabGet _ t z) (updBench_takeover d b f)
@[simp] theorem takeOf_updFn (b k : Nat) (g : Fn → Fn) (d : Dev) (z : Nat) : takeOf (updFn b k g d) z = takeOf d z := congrArg (fun t => tabGet _ t z) (updFn_takeover b k g d)
@[simp] theorem takeOf_updRing (b k r : Nat) (g : Ring → Ring) (d : Dev) (z : Nat) : takeOf (updRing b k r g d) z = takeOf d z := congrArg (fun t => tabGet _ t z) (updRing_takeover b k r g d)
@[simp] theorem takeOf_updFeed (b c : Nat) (g : FeedChan → FeedChan) (d : Dev) (z : Nat) : takeOf (updFeed b c g d) z = takeOf d z := congrArg (fun t => tabGet _ t z) (updFeed_takeover b c g d)
@[simp] theorem takeOf_updBoot (d : Dev) (f : Boot → Boot) (z : Nat) : takeOf (updBoot d f) z = takeOf d z := congrArg (fun t => tabGet _ t z) (updBoot_takeover d f)
@[simp] theorem takeOf_updMirror (d : Dev) (f : MirrorSt → MirrorSt) (z : Nat) : takeOf (updMirror d f) z = takeOf d z := congrArg (fun t => tabGet _ t z) (updMirror_takeover d f)
@[simp] theorem takeOf_updGauge (d : Dev) (f : GaugeSt → GaugeSt) (z : Nat) : takeOf (updGauge d f) z = takeOf d z := congrArg (fun t => tabGet _ t z) (updGauge_takeover d f)
@[simp] theorem takeOf_updAcct (d : Dev) (a : Nat) (f : Acct → Acct) (z : Nat) : takeOf (updAcct d a f) z = takeOf d z := congrArg (fun t => tabGet _ t z) (updAcct_takeover d a f)
@[simp] theorem takeOf_updLedger (d : Dev) (f : LedgerSt → LedgerSt) (z : Nat) : takeOf (updLedger d f) z = takeOf d z := congrArg (fun t => tabGet _ t z) (updLedger_takeover d f)
@[simp] theorem takeOf_updCmd (d : Dev) (h : Nat) (f : CmdSlot → CmdSlot) (z : Nat) : takeOf (updCmd d h f) z = takeOf d z := congrArg (fun t => tabGet _ t z) (updCmd_takeover d h f)
@[simp] theorem takeOf_updSeg (d : Dev) (f : SegSt → SegSt) (z : Nat) : takeOf (updSeg d f) z = takeOf d z := congrArg (fun t => tabGet _ t z) (updSeg_takeover d f)
@[simp] theorem takeOf_updSync (d : Dev) (f : SyncSt → SyncSt) (z : Nat) : takeOf (updSync d f) z = takeOf d z := congrArg (fun t => tabGet _ t z) (updSync_takeover d f)
@[simp] theorem takeOf_arrive (m : FMsg) (d : Dev) (z : Nat) : takeOf (arrive m d) z = takeOf d z := congrArg (fun t => tabGet _ t z) (arrive_takeover m d)
@[simp] theorem takeOf_updTrk (t : Nat) (f : Trk → Trk) (d : Dev) (z : Nat) : takeOf (updTrk t f d) z = takeOf d z := congrArg (fun t => tabGet _ t z) (updTrk_takeover t f d)
@[simp] theorem takeOf_setDieLine (n line : Nat) (v : Option DLine) (d : Dev) (z : Nat) : takeOf (setDieLine n line v d) z = takeOf d z := congrArg (fun t => tabGet _ t z) (setDieLine_takeover n line v d)
@[simp] theorem takeOf_setDir (line : Nat) (e : Option DirEnt) (d : Dev) (z : Nat) : takeOf (setDir line e d) z = takeOf d z := congrArg (fun t => tabGet _ t z) (setDir_takeover line e d)
@[simp] theorem acctOf_updHart (d : Dev) (h : Nat) (f : Hart → Hart) (z : Nat) : acctOf (updHart d h f) z = acctOf d z := congrArg (fun t : LedgerSt => tabGet acctInit t.accts z) (updHart_ledger d h f)
@[simp] theorem acctOf_updLink (d : Dev) (n : Nat) (f : Link → Link) (z : Nat) : acctOf (updLink d n f) z = acctOf d z := congrArg (fun t : LedgerSt => tabGet acctInit t.accts z) (updLink_ledger d n f)
@[simp] theorem acctOf_updDie (d : Dev) (n : Nat) (f : Die → Die) (z : Nat) : acctOf (updDie d n f) z = acctOf d z := congrArg (fun t : LedgerSt => tabGet acctInit t.accts z) (updDie_ledger d n f)
@[simp] theorem acctOf_updSlice (d : Dev) (n : Nat) (f : SliceSt → SliceSt) (z : Nat) : acctOf (updSlice d n f) z = acctOf d z := congrArg (fun t : LedgerSt => tabGet acctInit t.accts z) (updSlice_ledger d n f)
@[simp] theorem acctOf_updMsc (d : Dev) (n : Nat) (f : MscSt → MscSt) (z : Nat) : acctOf (updMsc d n f) z = acctOf d z := congrArg (fun t : LedgerSt => tabGet acctInit t.accts z) (updMsc_ledger d n f)
@[simp] theorem acctOf_updChan (d : Dev) (n : Nat) (f : ChanSt → ChanSt) (z : Nat) : acctOf (updChan d n f) z = acctOf d z := congrArg (fun t : LedgerSt => tabGet acctInit t.accts z) (updChan_ledger d n f)
@[simp] theorem acctOf_updSub (d : Dev) (n : Nat) (f : SubSt → SubSt) (z : Nat) : acctOf (updSub d n f) z = acctOf d z := congrArg (fun t : LedgerSt => tabGet acctInit t.accts z) (updSub_ledger d n f)
@[simp] theorem acctOf_updSite (d : Dev) (n : Nat) (f : SiteSt → SiteSt) (z : Nat) : acctOf (updSite d n f) z = acctOf d z := congrArg (fun t : LedgerSt => tabGet acctInit t.accts z) (updSite_ledger d n f)
@[simp] theorem acctOf_updSess (d : Dev) (n : Nat) (f : Session → Session) (z : Nat) : acctOf (updSess d n f) z = acctOf d z := congrArg (fun t : LedgerSt => tabGet acctInit t.accts z) (updSess_ledger d n f)
@[simp] theorem acctOf_emit (o : Out) (d : Dev) (z : Nat) : acctOf (emit o d) z = acctOf d z := congrArg (fun t : LedgerSt => tabGet acctInit t.accts z) (emit_ledger o d)
@[simp] theorem acctOf_drawn (d : Dev) (z : Nat) : acctOf (drawn d) z = acctOf d z := congrArg (fun t : LedgerSt => tabGet acctInit t.accts z) (drawn_ledger d)
@[simp] theorem acctOf_setCur (d : Dev) (idx sub : Nat) (v : Option Val) (z : Nat) : acctOf (setCur d idx sub v) z = acctOf d z := congrArg (fun t : LedgerSt => tabGet acctInit t.accts z) (setCur_ledger d idx sub v)
@[simp] theorem acctOf_setCurNat (d : Dev) (idx sub n : Nat) (z : Nat) : acctOf (setCurNat d idx sub n) z = acctOf d z := congrArg (fun t : LedgerSt => tabGet acctInit t.accts z) (setCurNat_ledger d idx sub n)
@[simp] theorem acctOf_setStg (d : Dev) (idx sub : Nat) (v : Option Val) (z : Nat) : acctOf (setStg d idx sub v) z = acctOf d z := congrArg (fun t : LedgerSt => tabGet acctInit t.accts z) (setStg_ledger d idx sub v)
@[simp] theorem acctOf_updDry (d : Dev) (idx sub : Nat) (f : DryStatus → DryStatus) (z : Nat) : acctOf (updDry d idx sub f) z = acctOf d z := congrArg (fun t : LedgerSt => tabGet acctInit t.accts z) (updDry_ledger d idx sub f)
@[simp] theorem acctOf_count (bank unit slot n : Nat) (d : Dev) (z : Nat) : acctOf (count bank unit slot n d) z = acctOf d z := congrArg (fun t : LedgerSt => tabGet acctInit t.accts z) (count_ledger bank unit slot n d)
@[simp] theorem acctOf_countPkg (slot : Nat) (d : Dev) (z : Nat) : acctOf (countPkg slot d) z = acctOf d z := congrArg (fun t : LedgerSt => tabGet acctInit t.accts z) (countPkg_ledger slot d)
@[simp] theorem acctOf_countSlice (n slot : Nat) (d : Dev) (z : Nat) : acctOf (countSlice n slot d) z = acctOf d z := congrArg (fun t : LedgerSt => tabGet acctInit t.accts z) (countSlice_ledger n slot d)
@[simp] theorem acctOf_countChan (n slot : Nat) (d : Dev) (z : Nat) : acctOf (countChan n slot d) z = acctOf d z := congrArg (fun t : LedgerSt => tabGet acctInit t.accts z) (countChan_ledger n slot d)
@[simp] theorem acctOf_countBench (n slot : Nat) (d : Dev) (z : Nat) : acctOf (countBench n slot d) z = acctOf d z := congrArg (fun t : LedgerSt => tabGet acctInit t.accts z) (countBench_ledger n slot d)
@[simp] theorem acctOf_countDie (n slot : Nat) (d : Dev) (z : Nat) : acctOf (countDie n slot d) z = acctOf d z := congrArg (fun t : LedgerSt => tabGet acctInit t.accts z) (countDie_ledger n slot d)
@[simp] theorem acctOf_updEncl (d : Dev) (e : Nat) (f : Enclave → Enclave) (z : Nat) : acctOf (updEncl d e f) z = acctOf d z := congrArg (fun t : LedgerSt => tabGet acctInit t.accts z) (updEncl_ledger d e f)
@[simp] theorem acctOf_updBench (d : Dev) (b : Nat) (f : BenchSt → BenchSt) (z : Nat) : acctOf (updBench d b f) z = acctOf d z := congrArg (fun t : LedgerSt => tabGet acctInit t.accts z) (updBench_ledger d b f)
@[simp] theorem acctOf_updFn (b k : Nat) (g : Fn → Fn) (d : Dev) (z : Nat) : acctOf (updFn b k g d) z = acctOf d z := congrArg (fun t : LedgerSt => tabGet acctInit t.accts z) (updFn_ledger b k g d)
@[simp] theorem acctOf_updRing (b k r : Nat) (g : Ring → Ring) (d : Dev) (z : Nat) : acctOf (updRing b k r g d) z = acctOf d z := congrArg (fun t : LedgerSt => tabGet acctInit t.accts z) (updRing_ledger b k r g d)
@[simp] theorem acctOf_updFeed (b c : Nat) (g : FeedChan → FeedChan) (d : Dev) (z : Nat) : acctOf (updFeed b c g d) z = acctOf d z := congrArg (fun t : LedgerSt => tabGet acctInit t.accts z) (updFeed_ledger b c g d)
@[simp] theorem acctOf_updBoot (d : Dev) (f : Boot → Boot) (z : Nat) : acctOf (updBoot d f) z = acctOf d z := congrArg (fun t : LedgerSt => tabGet acctInit t.accts z) (updBoot_ledger d f)
@[simp] theorem acctOf_updMirror (d : Dev) (f : MirrorSt → MirrorSt) (z : Nat) : acctOf (updMirror d f) z = acctOf d z := congrArg (fun t : LedgerSt => tabGet acctInit t.accts z) (updMirror_ledger d f)
@[simp] theorem acctOf_updGauge (d : Dev) (f : GaugeSt → GaugeSt) (z : Nat) : acctOf (updGauge d f) z = acctOf d z := congrArg (fun t : LedgerSt => tabGet acctInit t.accts z) (updGauge_ledger d f)
@[simp] theorem acctOf_updCmd (d : Dev) (h : Nat) (f : CmdSlot → CmdSlot) (z : Nat) : acctOf (updCmd d h f) z = acctOf d z := congrArg (fun t : LedgerSt => tabGet acctInit t.accts z) (updCmd_ledger d h f)
@[simp] theorem acctOf_updSeg (d : Dev) (f : SegSt → SegSt) (z : Nat) : acctOf (updSeg d f) z = acctOf d z := congrArg (fun t : LedgerSt => tabGet acctInit t.accts z) (updSeg_ledger d f)
@[simp] theorem acctOf_updSync (d : Dev) (f : SyncSt → SyncSt) (z : Nat) : acctOf (updSync d f) z = acctOf d z := congrArg (fun t : LedgerSt => tabGet acctInit t.accts z) (updSync_ledger d f)
@[simp] theorem acctOf_updTake (d : Dev) (n : Nat) (f : Takeover → Takeover) (z : Nat) : acctOf (updTake d n f) z = acctOf d z := congrArg (fun t : LedgerSt => tabGet acctInit t.accts z) (updTake_ledger d n f)
@[simp] theorem acctOf_arrive (m : FMsg) (d : Dev) (z : Nat) : acctOf (arrive m d) z = acctOf d z := congrArg (fun t : LedgerSt => tabGet acctInit t.accts z) (arrive_ledger m d)
@[simp] theorem acctOf_updTrk (t : Nat) (f : Trk → Trk) (d : Dev) (z : Nat) : acctOf (updTrk t f d) z = acctOf d z := congrArg (fun t : LedgerSt => tabGet acctInit t.accts z) (updTrk_ledger t f d)
@[simp] theorem acctOf_setDieLine (n line : Nat) (v : Option DLine) (d : Dev) (z : Nat) : acctOf (setDieLine n line v d) z = acctOf d z := congrArg (fun t : LedgerSt => tabGet acctInit t.accts z) (setDieLine_ledger n line v d)
@[simp] theorem acctOf_setDir (line : Nat) (e : Option DirEnt) (d : Dev) (z : Nat) : acctOf (setDir line e d) z = acctOf d z := congrArg (fun t : LedgerSt => tabGet acctInit t.accts z) (setDir_ledger line e d)
@[simp] theorem jigOf_updHart (d : Dev) (h : Nat) (f : Hart → Hart) (z : Nat) : jigOf (updHart d h f) z = jigOf d z := congrArg (fun t => tabGet _ t z) (updHart_jig d h f)
@[simp] theorem jigOf_updLink (d : Dev) (n : Nat) (f : Link → Link) (z : Nat) : jigOf (updLink d n f) z = jigOf d z := congrArg (fun t => tabGet _ t z) (updLink_jig d n f)
@[simp] theorem jigOf_updDie (d : Dev) (n : Nat) (f : Die → Die) (z : Nat) : jigOf (updDie d n f) z = jigOf d z := congrArg (fun t => tabGet _ t z) (updDie_jig d n f)
@[simp] theorem jigOf_updSlice (d : Dev) (n : Nat) (f : SliceSt → SliceSt) (z : Nat) : jigOf (updSlice d n f) z = jigOf d z := congrArg (fun t => tabGet _ t z) (updSlice_jig d n f)
@[simp] theorem jigOf_updMsc (d : Dev) (n : Nat) (f : MscSt → MscSt) (z : Nat) : jigOf (updMsc d n f) z = jigOf d z := congrArg (fun t => tabGet _ t z) (updMsc_jig d n f)
@[simp] theorem jigOf_updChan (d : Dev) (n : Nat) (f : ChanSt → ChanSt) (z : Nat) : jigOf (updChan d n f) z = jigOf d z := congrArg (fun t => tabGet _ t z) (updChan_jig d n f)
@[simp] theorem jigOf_updSub (d : Dev) (n : Nat) (f : SubSt → SubSt) (z : Nat) : jigOf (updSub d n f) z = jigOf d z := congrArg (fun t => tabGet _ t z) (updSub_jig d n f)
@[simp] theorem jigOf_updSite (d : Dev) (n : Nat) (f : SiteSt → SiteSt) (z : Nat) : jigOf (updSite d n f) z = jigOf d z := congrArg (fun t => tabGet _ t z) (updSite_jig d n f)
@[simp] theorem jigOf_updSess (d : Dev) (n : Nat) (f : Session → Session) (z : Nat) : jigOf (updSess d n f) z = jigOf d z := congrArg (fun t => tabGet _ t z) (updSess_jig d n f)
@[simp] theorem jigOf_emit (o : Out) (d : Dev) (z : Nat) : jigOf (emit o d) z = jigOf d z := congrArg (fun t => tabGet _ t z) (emit_jig o d)
@[simp] theorem jigOf_drawn (d : Dev) (z : Nat) : jigOf (drawn d) z = jigOf d z := congrArg (fun t => tabGet _ t z) (drawn_jig d)
@[simp] theorem jigOf_setCur (d : Dev) (idx sub : Nat) (v : Option Val) (z : Nat) : jigOf (setCur d idx sub v) z = jigOf d z := congrArg (fun t => tabGet _ t z) (setCur_jig d idx sub v)
@[simp] theorem jigOf_setCurNat (d : Dev) (idx sub n : Nat) (z : Nat) : jigOf (setCurNat d idx sub n) z = jigOf d z := congrArg (fun t => tabGet _ t z) (setCurNat_jig d idx sub n)
@[simp] theorem jigOf_setStg (d : Dev) (idx sub : Nat) (v : Option Val) (z : Nat) : jigOf (setStg d idx sub v) z = jigOf d z := congrArg (fun t => tabGet _ t z) (setStg_jig d idx sub v)
@[simp] theorem jigOf_updDry (d : Dev) (idx sub : Nat) (f : DryStatus → DryStatus) (z : Nat) : jigOf (updDry d idx sub f) z = jigOf d z := congrArg (fun t => tabGet _ t z) (updDry_jig d idx sub f)
@[simp] theorem jigOf_count (bank unit slot n : Nat) (d : Dev) (z : Nat) : jigOf (count bank unit slot n d) z = jigOf d z := congrArg (fun t => tabGet _ t z) (count_jig bank unit slot n d)
@[simp] theorem jigOf_countPkg (slot : Nat) (d : Dev) (z : Nat) : jigOf (countPkg slot d) z = jigOf d z := congrArg (fun t => tabGet _ t z) (countPkg_jig slot d)
@[simp] theorem jigOf_countSlice (n slot : Nat) (d : Dev) (z : Nat) : jigOf (countSlice n slot d) z = jigOf d z := congrArg (fun t => tabGet _ t z) (countSlice_jig n slot d)
@[simp] theorem jigOf_countChan (n slot : Nat) (d : Dev) (z : Nat) : jigOf (countChan n slot d) z = jigOf d z := congrArg (fun t => tabGet _ t z) (countChan_jig n slot d)
@[simp] theorem jigOf_countBench (n slot : Nat) (d : Dev) (z : Nat) : jigOf (countBench n slot d) z = jigOf d z := congrArg (fun t => tabGet _ t z) (countBench_jig n slot d)
@[simp] theorem jigOf_countDie (n slot : Nat) (d : Dev) (z : Nat) : jigOf (countDie n slot d) z = jigOf d z := congrArg (fun t => tabGet _ t z) (countDie_jig n slot d)
@[simp] theorem jigOf_updEncl (d : Dev) (e : Nat) (f : Enclave → Enclave) (z : Nat) : jigOf (updEncl d e f) z = jigOf d z := congrArg (fun t => tabGet _ t z) (updEncl_jig d e f)
@[simp] theorem jigOf_updBench (d : Dev) (b : Nat) (f : BenchSt → BenchSt) (z : Nat) : jigOf (updBench d b f) z = jigOf d z := congrArg (fun t => tabGet _ t z) (updBench_jig d b f)
@[simp] theorem jigOf_updFn (b k : Nat) (g : Fn → Fn) (d : Dev) (z : Nat) : jigOf (updFn b k g d) z = jigOf d z := congrArg (fun t => tabGet _ t z) (updFn_jig b k g d)
@[simp] theorem jigOf_updRing (b k r : Nat) (g : Ring → Ring) (d : Dev) (z : Nat) : jigOf (updRing b k r g d) z = jigOf d z := congrArg (fun t => tabGet _ t z) (updRing_jig b k r g d)
@[simp] theorem jigOf_updFeed (b c : Nat) (g : FeedChan → FeedChan) (d : Dev) (z : Nat) : jigOf (updFeed b c g d) z = jigOf d z := congrArg (fun t => tabGet _ t z) (updFeed_jig b c g d)
@[simp] theorem jigOf_updBoot (d : Dev) (f : Boot → Boot) (z : Nat) : jigOf (updBoot d f) z = jigOf d z := congrArg (fun t => tabGet _ t z) (updBoot_jig d f)
@[simp] theorem jigOf_updMirror (d : Dev) (f : MirrorSt → MirrorSt) (z : Nat) : jigOf (updMirror d f) z = jigOf d z := congrArg (fun t => tabGet _ t z) (updMirror_jig d f)
@[simp] theorem jigOf_updGauge (d : Dev) (f : GaugeSt → GaugeSt) (z : Nat) : jigOf (updGauge d f) z = jigOf d z := congrArg (fun t => tabGet _ t z) (updGauge_jig d f)
@[simp] theorem jigOf_updAcct (d : Dev) (a : Nat) (f : Acct → Acct) (z : Nat) : jigOf (updAcct d a f) z = jigOf d z := congrArg (fun t => tabGet _ t z) (updAcct_jig d a f)
@[simp] theorem jigOf_updLedger (d : Dev) (f : LedgerSt → LedgerSt) (z : Nat) : jigOf (updLedger d f) z = jigOf d z := congrArg (fun t => tabGet _ t z) (updLedger_jig d f)
@[simp] theorem jigOf_updCmd (d : Dev) (h : Nat) (f : CmdSlot → CmdSlot) (z : Nat) : jigOf (updCmd d h f) z = jigOf d z := congrArg (fun t => tabGet _ t z) (updCmd_jig d h f)
@[simp] theorem jigOf_updSeg (d : Dev) (f : SegSt → SegSt) (z : Nat) : jigOf (updSeg d f) z = jigOf d z := congrArg (fun t => tabGet _ t z) (updSeg_jig d f)
@[simp] theorem jigOf_updSync (d : Dev) (f : SyncSt → SyncSt) (z : Nat) : jigOf (updSync d f) z = jigOf d z := congrArg (fun t => tabGet _ t z) (updSync_jig d f)
@[simp] theorem jigOf_updTake (d : Dev) (n : Nat) (f : Takeover → Takeover) (z : Nat) : jigOf (updTake d n f) z = jigOf d z := congrArg (fun t => tabGet _ t z) (updTake_jig d n f)
@[simp] theorem jigOf_arrive (m : FMsg) (d : Dev) (z : Nat) : jigOf (arrive m d) z = jigOf d z := congrArg (fun t => tabGet _ t z) (arrive_jig m d)
@[simp] theorem jigOf_updTrk (t : Nat) (f : Trk → Trk) (d : Dev) (z : Nat) : jigOf (updTrk t f d) z = jigOf d z := congrArg (fun t => tabGet _ t z) (updTrk_jig t f d)
@[simp] theorem jigOf_setDieLine (n line : Nat) (v : Option DLine) (d : Dev) (z : Nat) : jigOf (setDieLine n line v d) z = jigOf d z := congrArg (fun t => tabGet _ t z) (setDieLine_jig n line v d)
@[simp] theorem jigOf_setDir (line : Nat) (e : Option DirEnt) (d : Dev) (z : Nat) : jigOf (setDir line e d) z = jigOf d z := congrArg (fun t => tabGet _ t z) (setDir_jig line e d)

end Sys2Proof.Machine
end

