-- ==== Sys2Proof/Laws/Ledger.lean ====
section
/-!
SUPPORT. What the ledger's shared operations touch: bringing accounts to their setpoints, closing an epoch and planning the next change the ledger and
the harts, and nothing else of the package.
-/
set_option linter.unusedVariables false

namespace Sys2Proof.Machine

/-- What every step of a fold keeps, the fold keeps. -/
theorem foldl_keeps {α β γ : Type} (k : α → γ) (f : α → β → α) (h : ∀ a b, k (f a b) = k a) (l : List β) (a : α) : k (l.foldl f a) = k a := by
  induction l generalizing a with
  | nil => rfl
  | cons b l ih => rw [List.foldl_cons, ih, h]

/-- The package but for its ledger and its harts. -/
def restOfLedger (d : Dev) : Dev := { d with ledger := ledgerInit, harts := [] }

@[simp] theorem restOfLedger_updAcct (d : Dev) (a : Nat) (f : Acct → Acct) : restOfLedger (updAcct d a f) = restOfLedger d := by
  unfold restOfLedger updAcct; rfl
@[simp] theorem restOfLedger_updLedger (d : Dev) (f : LedgerSt → LedgerSt) : restOfLedger (updLedger d f) = restOfLedger d := by
  unfold restOfLedger updLedger; rfl
@[simp] theorem restOfLedger_updHart (d : Dev) (h : Nat) (f : Hart → Hart) : restOfLedger (updHart d h f) = restOfLedger d := by
  unfold restOfLedger updHart; rfl

@[simp] theorem restOfLedger_setMv (a v : Nat) (d : Dev) : restOfLedger (setMv a v d) = restOfLedger d := by
  unfold setMv; repeat' (first | rfl | split)

theorem restOfLedger_list (d : Dev) : (restOfLedger d).list = d.list := rfl
theorem restOfLedger_pot (d : Dev) : (restOfLedger d).pot = d.pot := rfl
theorem restOfLedger_holdover (d : Dev) : (restOfLedger d).holdover = d.holdover := rfl

/-- Setpoints (R354) are the ledger's and the harts' own. -/
@[simp] theorem restOfLedger_applyMv (d : Dev) : restOfLedger (applyMv d) = restOfLedger d := by
  unfold applyMv
  generalize List.range 220 = l
  exact foldl_keeps restOfLedger _ (fun _ _ => restOfLedger_setMv ..) l d

/-- Closing the accounts at a cut touches the ledger only (R356). -/
@[simp] theorem restOfLedger_cutAccounts (d : Dev) : restOfLedger (cutAccounts d) = restOfLedger d := by
  unfold cutAccounts
  generalize List.range 225 = l
  exact foldl_keeps restOfLedger _ (fun _ _ => restOfLedger_updAcct ..) l d

@[simp] theorem restOfLedger_closeEpoch (tLast : Nat) (d : Dev) : restOfLedger (closeEpoch tLast d) = restOfLedger d := by
  unfold closeEpoch
  generalize List.range 225 = l
  extract_lets overOf carry mw d1
  rw [restOfLedger_updLedger]
  exact foldl_keeps restOfLedger _ (fun _ _ => restOfLedger_updAcct ..) l d

/-- The plan of an epoch (R342–R364) sets grants, setpoints and what the harts show of them. -/
@[simp] theorem restOfLedger_plan (first : Bool) (t tLast : Nat) (obs : Nat → CoreObs) (tj : Nat) (deferred : Nat → Nat) (d : Dev) :
    restOfLedger (plan first t tLast obs tj deferred d) = restOfLedger d := by
  unfold plan
  generalize List.range 225 = l
  generalize List.range 220 = l'
  generalize List.range 216 = l''
  extract_lets d1
  have h1 : restOfLedger d1 = restOfLedger d := by
    by_cases h : first
    · exact (congrArg restOfLedger (if_pos h)).trans (restOfLedger_updLedger ..)
    · exact (congrArg restOfLedger (if_neg h)).trans (restOfLedger_closeEpoch ..)
  rw [restOfLedger_applyMv, restOfLedger_updLedger]
  clear_value d1
  refine (foldl_keeps restOfLedger _ ?_ l _).trans h1
  intro d a
  extract_lets
  split
  · rw [restOfLedger_updHart, restOfLedger_updAcct]
  · rw [restOfLedger_updAcct]

/-- The plan of epoch 0 (R71) leaves the entries, the Page Owner Table and the time base as they are. -/
theorem planZero_leaves (cores : List CoreObs) (tj : Nat) (d : Dev) :
    (planZero cores tj d).list = d.list ∧ (planZero cores tj d).pot = d.pot ∧ (planZero cores tj d).holdover = d.holdover := by
  have h : ∃ k, restOfLedger (planZero cores tj d) = restOfLedger { d with kerf := k } := by
    unfold planZero
    extract_lets t
    rw [restOfLedger_plan, restOfLedger_cutAccounts]
    exact ⟨_, rfl⟩
  obtain ⟨k, h⟩ := h
  refine ⟨?_, ?_, ?_⟩
  · rw [← restOfLedger_list, h, restOfLedger_list]
  · rw [← restOfLedger_pot, h, restOfLedger_pot]
  · rw [← restOfLedger_holdover, h, restOfLedger_holdover]

end Sys2Proof.Machine
end

