-- ==== Sys2Proof/Tests/Slice0.lean ====
section
/-!
SUPPORT. The model's own tests: a command of each kind that WellFormed refuses, and for each statement of the certificates one theorem that shows, clause by
clause, a state and operands that meet its hypotheses together. Where a hypothesis is a check of a cited standard (log entry 5), the clause is under that check.
-/
set_option linter.unusedVariables false
set_option linter.unusedTactic false
set_option linter.unreachableTactic false
set_option synthInstance.maxSize 2000
set_option synthInstance.maxHeartbeats 200000

namespace Sys2Proof.Tests
set_option Elab.async false
open Sys2Proof Sys2Proof.Machine

theorem sha512_length (b : List Byte) : (sha512 b).length = 64 := by simp [sha512, padTo]; omega
theorem signWith_length (k b : List Byte) : (signWith k b).length = 64 := by simp [signWith, padTo]; omega

theorem all_some {α : Type} {o : Option α} {v : α} {p : α → Prop} (h : o = some v) (hp : p v) : ∀ e, o = some e → p e := by
  intro e he; rw [h] at he; cases he; exact hp

/-- A state in which nothing waits. -/
def st (d : Dev) : State := { pending := [], dev := d }
/-- A released package in which hart 0 runs in machine mode and channel 0 holds 1 GiB. -/
def d0 : Dev := { State.reset.dev with
  boot := { bootInit with phase := .released, done := [1, 2, 3, 4, 5, 6, 7, 8, 9, 10, 11], lockedTimeBase := true }
  pins := { pinsInit with pwrGood := true, pkgReset := false }
  list := { listInit with cur := [(ekey 0x4000 1, some (.num 1))], sessions := [(0, some { sessInit with finished := true, role := .owner })] }
  harts := [(0, { hartInit with released := true })]
  links := [(0, { linkInit with state := .up })]
  chans := [(0, { chanInit with state := 2, dimm := { dimmInit with answers := true, supported := true, dpc := 1, capLog2 := 30, ranks := 1, pranks := 1 } })] }
/-- `d0` with hart 0 changed. -/
def dh (f : Hart → Hart) : Dev := updHart d0 0 f
/-- `d0` with a cache of die 0. -/
def dc (c : Tab (Option DLine)) : Dev := updDie d0 0 (fun x => { x with cache := c })
/-- A line of zeros in a state. -/
def ln (m : Moesi) : DLine := { st := m, data := 5, poison := false, cores := 1, owner := 0, walked := 0, l3 := false, l1i := 0, l1d := 1 }
/-- A message of die 0 about a line. -/
def fm (op : Op) (addr : Nat) : FMsg :=
  { op := op, up := true, die := 0, inc := 1, txid := 0, rtag := 0, core := 0, poison := false, dirty := false, kp := false, prot := false, held := false, addr := addr,
    size := 8, reqDie := 1, data := 7 }
/-- A package in bring-up in which stage `n` runs. -/
def db (n : Nat) (f : Boot → Boot) : Dev := { State.reset.dev with boot := f { bootInit with phase := .running, running := [n] } }
/-- A flash image (R61, R62, R64): the 16 DRAM_ENABLE records of type `t`, a device tree of 8 bytes, and one loaded section of 8 bytes at 64, where harts start. -/
def imgT (t : Nat) : List Byte := [0x43, 0x48, 0x49, 0x46, 0x49, 0x45, 0x4B, 0x31] ++ leBytes 2 1 ++ leBytes 2 3 ++ leBytes 4 1 ++ leBytes 4 0x1F8 ++ leBytes 4 2 ++ leBytes 8 64 ++
  List.replicate 128 0 ++
  leBytes 2 1 ++ leBytes 2 0 ++ leBytes 4 256 ++ leBytes 4 0xE8 ++ leBytes 4 0 ++ leBytes 8 0 ++
  leBytes 2 2 ++ leBytes 2 0 ++ leBytes 4 8 ++ leBytes 4 0x1E8 ++ leBytes 4 0 ++ leBytes 8 0 ++
  leBytes 2 4 ++ leBytes 2 0 ++ leBytes 4 8 ++ leBytes 4 0x1F0 ++ leBytes 4 0 ++ leBytes 8 64 ++
  (List.range 16).flatMap (fun k => leBytes 2 0x4000 ++ leBytes 1 (k + 1) ++ leBytes 1 t ++ leBytes 4 1 ++ leBytes 8 (b2n (k == 0))) ++ leBytes 8 0x13 ++ leBytes 8 0x13
/-- The image whose records have the right type. -/
def img : List Byte := imgT 1
/-- Its records. -/
def imgR (t : Nat) : List ImgRec := (List.range 16).map (fun k => { idx := 0x4000, sub := k + 1, typ := t, val := leBytes 1 (b2n (k == 0)) })
/-- `d0` without a release, for stage `n`. -/
def ds (n : Nat) : Dev := { d0 with boot := { bootInit with phase := .running, running := [n], image := img } }
/-- What four DIMMs show, on channels 0, 4, 8 and 12. -/
def dimms (eye : Bool) : List DimmSeen := (List.range 16).map (fun n =>
  { answers := n % 4 == 0, dimms := if n % 4 = 0 then [{ kind := 0, gb := 16, x4 := true, pranks := 1, stack := 1 }] else [], spd := [], eye := eye })
/-- Entries of four channels and of mapping masks that spread the address over them. -/
def cur4 : Tab (Option Val) :=
  [0, 4, 8, 12].map (fun k => (ekey 0x4000 (k + 1), some (.num 1))) ++ ([0, 4, 8, 12].map (fun k => (ekey 0x4010 (k + 1), some (.num 1))) ++
    (List.range 10).map (fun k => (ekey 0x4020 k, some (.num (if k < 2 then 0 else 2 ^ (4 + k))))))
/-- Stage 0x07 with those channels enabled. -/
def d4 : Dev := { ds 7 with list := { listInit with cur := cur4 } }
/-- A translation entry. -/
def tl : Tlb := {
  va := 0x1000, size := 12, full := 12, level := 0, pa := 0x2000, gpa := none, twoStage := false, virt := false, bare := false, asid := 0, vmid := 0, glob := false,
  perm := 207, gperm := 255, pbmt := 0, leafLine := 9, pair := false, anc := 0, gen := false, owner := 7, secure := false, eid := 0 }
/-- A slot of an enclave whose caller was at 0x40. -/
def sl : Slot := { hart := 0, interrupted := false, caller := saveLower { hartInit with mode := .hs, pc := 0x40 }, inner := saveLower hartInit }
/-- An open miss of core 0 on line 1. -/
def ms (op : Op) : Miss := {
  rtag := 0, op := op, line := 1, core := 0, kind := 0, gotData := false, gotCmp := false, needCmp := false, kdone := false, queued := [] }
/-- Die 0 with an open miss. -/
def dm (x : Miss) : Dev := updDie d0 0 (fun y => { y with misses := [x] })
/-- A write-back buffer entry of line 1, and of line 0. -/
def we (m : Moesi) : WbEnt := { line := 1, data := 5, poison := false, dirty := true, st := m, acked := 0 }
def dw (m : Moesi) : Dev := updDie d0 0 (fun y => { y with wb := [we m, { we m with line := 0 }] })
/-- A tracker entry of die 1's RDS of line 1. -/
def tk : Trk := {
  txid := 0, holder := 1, pool := false, line := 1, req := .die { fm .rds 0x40 with die := 1 }, started := true, acted := true, counted := false, acks := [0], kills := [],
  hadKills := false, fwdTo := some 0, routed := false, needCmp := false, granted := false, reading := false, data := none, poison := false, dirty := false, victims := [], victim := none,
  way := some 0, order := 0, exclusive := false, late := false, noted := false }
/-- A package with a secure world whose page 0 is secure. -/
def dsec : Dev := { d0 with
  list := { d0.list with cur := d0.list.cur ++ [(ekey 0x7000 1, some (.num 1))] }
  pot := { base := 0x100000, size := 0x80000, cover := 0x40000000, ready := true }
  mem := [(0x100001, 0x10)] }
/-- A package in a pair: role and phase. -/
def dp (role phase : Nat) : Dev := { d0 with mirror := { mirrorInit with role := role, phase := phase, partnerNode := 1 } }

/-- Site 0 enabled with credits, and one window of the first 4 KiB with these attributes. -/
def dx (attr : Nat) (f : SiteSt → SiteSt) : Dev := updSite { d0 with list := { d0.list with
  cur := d0.list.cur ++ [(ekey 0xA100 1, some (.num 1)), (ekey 0xA110 1, some (.num 0)), (ekey 0xA111 1, some (.num 4095)), (ekey 0xA112 1, some (.num attr))] } } 0
  (fun x => f { x with credits := 1 })
/-- Attributes of a window of normal memory, and of an MMIO window. -/
def memW : Nat := 2 ^ 31 + 2 ^ 25 + 7
def mmioW : Nat := 2 ^ 31 + 2 ^ 30 + 3
/-- A transaction header. -/
def ih (op addr : Nat) : BitVec 128 := BitVec.ofNat 128 (op + 3 * 2 ^ 8 + addr * 2 ^ 32 + 3 * 2 ^ 88)
/-- A message of die 0 as a flit carries it. -/
def ff (op : Op) (addr : Nat) : FMsg := { fm op addr with size := 0, reqDie := 0, data := 0 }

/-- The row of an entry. -/
def row (idx sub : Nat) : EntryRow := (entryRow idx sub).getD ⟨0, 0, 0, 0, "", .bool, 0, [], 0, false, .kerf⟩
/-- The session of `d0`, and one in a state of its own. -/
def ses : Session := { sessInit with finished := true, role := .owner }
def dl (x : Session) : Dev := { d0 with list := { d0.list with sessions := [(0, some x)] } }
/-- A list message of session 0. -/
def lm (body : List Byte) : ListMsg := { vendor := 0, sess := some 0, version := 1, tag := 9, body := body }
/-- The body of a WRITE. -/
def wb (idx sub : Nat) (v : List Byte) : List Byte := leBytes 2 idx ++ leBytes 1 sub ++ [0] ++ leBytes 2 v.length ++ v
/-- No partner, no training, and what a kerf meets on a quiet package. -/
def noP : PartnerObs := { present := false, auth := false, kerfPeriod := 0, mapEqual := false, enabled := false, together := false, localLower := false, node := 0 }
def noU : UcieObs := { ok := false, rate := 0, width := 0 }
def ko : KerfObs := { overrun := false, late := 0, lastUs := 1000, seqNs := 500, cores := [], tjHub := 40, verify := false, partner := noP }
/-- A value of SLOT_TIMING that keeps R255. -/
def tim : List Byte := leBytes 2 32 ++ leBytes 2 30 ++ List.replicate 26 0 ++ leBytes 2 1100 ++ List.replicate 32 0

/-- A package with its Page Owner Table, and a command slot of hart 0 with an enclave 1. -/
def dpot : Dev := { d0 with pot := { base := 0x3FF80000, size := 0x80000, cover := 0x40000000, ready := true } }
def dcmd (a0 a1 a2 a3 : Nat) (e : Enclave) : Dev := { dpot with cmds := [(0, { cmdSlotInit with a0 := a0, a1 := a1, a2 := a2, a3 := a3 })], encl := [(1, e)] }
/-- A debug enable of the normal world. -/
def ddbg : Dev := setCurNat d0 0x7002 1 1

/-- `d0` with bench 0 changed, enabled and its ring 0 of the PF running with one descriptor posted. -/
def dbn (f : BenchSt → BenchSt) : Dev := updBench (setCurNat d0 0x5000 1 1) 0 (fun x => f { x with
  state := 1, keyed := true, version := 1, rings := [(0, { ringInit with enable := true, sqLog2 := 6, cqLog2 := 6, sqTail := 1, sqBase := 0x1000, cqBase := 0x2000 })] })
/-- The 128 bytes of a descriptor. -/
def jb (op flags len srcBuf src dst dstBuf p0 : Nat) : List Byte :=
  leBytes 2 op ++ leBytes 2 flags ++ leBytes 4 0 ++ leBytes 4 len ++ leBytes 4 srcBuf ++ leBytes 8 src ++ leBytes 8 dst ++ leBytes 4 dstBuf ++ List.replicate 28 0 ++ leBytes 4 p0 ++ List.replicate 60 0
/-- A descriptor in flight. -/
def jo (bs : List Byte) : Job := {
  id := 7, fn := 0, ring := 0, slot := 0, bytes := bs, started := false, admitted := false, deferred := false, waited := 0, startAt := 0, base := 0, keys := [], res := none }
/-- HASH of nothing to address 0x4000, with a class in its flags; one with an operation that is none. -/
def jHash (flags : Nat) : Job := jo (jb 0x0101 flags 0 0 0 0x4000 32 0)
/-- A bench with a job. -/
def dj (j : Job) : Dev := dbn (fun x => { x with jobs := [j] })

/-- HASH of 64 bytes. -/
def jHash64 (flags : Nat) : Job := jo (jb 0x0101 flags 64 64 0x3000 0x4000 32 0)
/-- A key record of the PF of bench 0, as AES. -/
def ky : KeyRec := { gen := 1, typ := 1, exportable := false, bits := 128, usage := 1, rsaE := 0, label := [], ownClass := 0, ownId := 0, key := List.replicate 16 7 }

/-- A Feed channel of bench 0 that runs, and what its first lookup of an address gives. -/
def dfeed : Dev := updFeed 0 0 (fun x => { x with mem := 0x1000, count := 4, state := 1 }) (dbn id)
def dfe (va : Nat) : BtuEnt := { fn := 0, va := va, size := 12, pa := va, r := true, w := true, dirtySet := false }
def dfd (va : Nat) : Dev := (btuLookup 0 0 va false (spadTouch 0 0 dfeed)).2
/-- A STANDBY and a PRIMARY with room in the log. -/
def dlog (role phase : Nat) : Dev := { dp role phase with list := { d0.list with cur := d0.list.cur ++ [(ekey 0x6001 2, some (.num 65536))] } }
/-- A segment master, and a header of a kind. -/
def dseg : Dev := { d0 with list := { d0.list with cur := d0.list.cur ++ [(ekey 0xB100 1, some (.num 1))] }, seg := { segInit with state := 3 } }
def sh (kind : Nat) : SegHdr := { hop := 255, linkLocal := true, version := 1, kind := kind }
/-- A takeover request of node 2, a node 2, and an answer to this package. -/
def tq (role : Nat) : TakeReq := { pair := 1, role := role, node := 2, seqEcho := 9, lastCommit := 5, own := [1], peer := [2], sig := [] }
def sn : SegNode := {
  announce := { node := 2, role := 0, state := 0, stage := 0, kerfMode := 0, kerfPeriod := 0, serial := [], pairId := 1, seq := 0, grants := [] }
  heard := 0, chain := { ok := true, devHash := [1], aliasKey := [3] } }
def dtake (t : Takeover) : Dev := { dseg with seg := { dseg.seg with nodes := [(2, some sn)], lastSeqs := [9], reqSeq := some 9 }, takeover := [(1, t)] }
def ta (r : Nat) : TakeAns := ⟨0, r, 2, 0, 9, []⟩
/-- A follower of KERF_SYNC. -/
def dsync (f : SyncSt → SyncSt) : Dev := { setCurNat d0 0x2010 1 2 with sync := f syncInit }
/-- Hart 0 samples into a buffer at 0x1000. -/
def dsamp (f : Hart → Hart) : Dev := dh (fun x => f { x with mode := .hs, hsEn := true, hsPeriod := 256, hsSize := 4, hsBase := 0x1000, hsTagged := true })
def so : SampleObs := { flags := 0, source := 0, pc := 0, vaddr := 0, paddr := 0, issueLat := 0, execLat := 0, retireLat := 0, tlbLat := 0, insn := 0 }
/-- Stage 0x04 with the image, the package's vendor hash being that of its signer. -/
def dimg : Dev := { db 4 (fun b => { b with image := img }) with fuses := { State.reset.dev.fuses with vendorHash := [(0, sha512 (imgSigner img))] } }
/-- An access whose translation is the identity and leaves nothing. -/
def pt (va : Nat) : PartTr := { va := va, ent := none, fill := none }
/-- A package of part 204S whose dies have a spare and whose core tests are due each second. -/
def dspare (f : Hart → Hart) : Dev :=
  { dh f with fuses := { d0.fuses with ordering := 1 }, now := 100000000, list := { d0.list with cur := d0.list.cur ++ [(ekey 0x9040 0, some (.num 1))] } }

/-! ### Tests -/

/-- WellFormed refuses an access of 3 bytes, an LR of 2, an AMO of 32, a BAR2 access and a system bus access of 3, a message of a die 12, one of an incarnation of 7
bits, a TXID of 15, an RTAG of 13, a core 32, an address of 57 bits, a size of 9, a byte mask of 65 bits, a credit return of 0 and of 256, a buffer of 9 words and one
that stores 3 bytes, a debug register above 0xFFFF and a hub register outside the hub's range or across its end; each is one check of WellFormed.lean. -/
theorem test_ill_formed_refused :
    ([Instr.hartLoad 0 .inst 0 0 3 false false, .hartStore 0 false 0 0 0 3 false, .amo 0 .add 0 0 0 32, .lr 0 0 0 2, .sc 0 0 0 0 16, .spadBar2Access 0 0 0 false 0 3 0 .none,
      .systemBusAccess 0 3 false 0, .rds { fm .rds 0 with die := 12 }, .rds { fm .rds 0 with inc := 64 }, .rds { fm .rds 0 with txid := 16384 },
      .rds { fm .rds 0 with rtag := 4096 }, .rds { fm .rds 0 with core := 32 }, .rds (fm .rds (2 ^ 56)), .rds { fm .rds 0 with size := 9 },
      .rds { fm .rds 0 with reqDie := 16 }, .wrp64 0 0 0 (2 ^ 64), .crd 0 0, .crd 0 256, .programBuffer 0 (List.replicate 9 .ebreak),
      .programBuffer 0 [.store 0 0 0 3], .abstractAccessRegister 0 65536 false 0, .registerWrite (.hub 0 0x3FF0_0020_0000 4) 0, .registerWrite (.hub 0 0x3FF0_0000_0002 4) 0,
      .registerWrite (.hub 0 0x3FE0_0000_0000 4) 0] : List Instr).all (fun i => !i.wellFormed) = true := by decide +kernel

/-- The values next to those are well formed. -/
theorem test_well_formed_passes :
    ([Instr.hartLoad 0 .inst 0 0 8 false false, .amo 0 .add 0 0 0 16, .lr 0 0 0 4, .rds { fm .rds (2 ^ 56 - 1) with die := 11, inc := 63, txid := 16383, rtag := 4095 },
      .wrp64 0 0 0 (2 ^ 64 - 1), .crd 0 255, .programBuffer 0 (List.replicate 8 .ebreak), .registerWrite (.hub 0 0x3FF0_001F_FFFC 4) 0] :
      List Instr).all Instr.wellFormed = true := by decide +kernel

/-- The spec's own worked example (00_scope.md): hart 123 is die 6, core 15; hart 125 of a 204S is die 6, core 17. -/
theorem test_hart_123 : dieOfHart 123 = 6 ∧ coreOfHart 123 = 15 ∧ dieOfHart 125 = 6 ∧ coreOfHart 125 = 17 := by decide

/-- The package reset, with nothing waiting, does nothing. -/
theorem test_reset_idles : step State.reset = .next State.reset := rfl

/-- R10: little-endian. -/
theorem test_little_endian : leBytes 4 0x12345678 = [0x78, 0x56, 0x34, 0x12] := by decide

theorem key_of_image (h : Config.stdOk .imageVerify [imgSigner img, imgMessage sha512 img, imgSignature img] = true) :
    keyReason (st dimg).dev (st dimg).dev.boot.image = 0 := by
  have e : sha512 (imgSigner img) ≠ [] := fun h0 => by have := sha512_length (imgSigner img); rw [h0] at this; cases this
  have b : (st dimg).dev.boot.image = img := rfl
  have f : (st dimg).dev.fuses = { fusesInit with vendorHash := [(0, sha512 (imgSigner img))] } := rfl
  have sec : ¬ imgSecurity img < fusesInit.floor := by decide +kernel
  rw [b]
  unfold keyReason
  rw [f]
  have o : (List.range 4).any (fun k => tabGet [] fusesInit.ownerHash k != []) = false := by decide +kernel
  simp only [o]
  simp [sec, h]
  exact ⟨0, by decide, rfl, e, by simp [fusesInit]⟩

theorem valid_of_check {r : Nat} (h : Config.stdOk .requestVerify [sn.chain.aliasKey, takeReqBytes (tq r), (tq r).sig] = true) (hr : r = 1 ∨ r = 2 := by decide) :
    takeValid (st (dtake takeoverInit)).dev (tq r) = true := by
  have n : tabGet none (st (dtake takeoverInit)).dev.seg.nodes (tq r).node = some sn := rfl
  unfold takeValid
  rw [n]
  simp only [h]
  rcases hr with rfl | rfl <;> decide +kernel

theorem other_of (x : List Byte) : ∃ y : List Byte, y.length = 64 ∧ x ≠ y :=
  if h : x = List.replicate 64 0 then ⟨List.replicate 64 1, rfl, by rw [h]; decide⟩ else ⟨List.replicate 64 0, rfl, h⟩

/-- A package whose session 0 asked for the report of a READY enclave. -/
def drep : Dev := { d0 with reports := [(0, some (1, List.replicate 32 1))], encl := [(1, { enclaveInit with state := 2 })] }
theorem report_length : (curBytes (st drep).dev ((0 : SessN) : Nat) ses.role (row 0x7010 1) 0x7010 1).length = 320 := by
  have e : curBytes (st drep).dev ((0 : SessN) : Nat) ses.role (row 0x7010 1) 0x7010 1 = enclaveReport drep 0 := rfl
  have r : tabGet none drep.reports 0 = some (1, List.replicate 32 1) := rfl
  have n : enclOf drep 1 = { enclaveInit with state := 2 } := rfl
  rw [e]
  unfold enclaveReport
  rw [r]
  simp only [n]
  simp only [List.length_append, sha512_length, signWith_length]
  decide +kernel

/-- A secure package in stage 0x0B whose Page Owner Table is not ready. -/
def dheld : Dev := { ds 11 with list := { d0.list with cur := d0.list.cur ++ [(ekey 0x7000 1, some (.num 1))] } }
theorem secure_of_list {d e : Dev} (h : e.list = d.list) : secureExists e = secureExists d := by unfold secureExists ent; rw [h]
theorem secure_recordFit (a b : Nat) (t : Nat × Nat) (k : Bool) (f : Fit) (d : Dev) : secureExists (recordFit a b t k f d) = secureExists d := rfl
theorem worlds_free {cores : List CoreObs} {tj : Nat} {d : Dev} (h : secureExists d = false) : (releaseWorlds (planZero cores tj d)).2 = 0 := by
  have s : secureExists (planZero cores tj d) = false := (secure_of_list (planZero_leaves cores tj d).1).trans h
  generalize planZero cores tj d = e at s
  unfold releaseWorlds
  extract_lets f x
  have sx : secureExists x = false := (secure_recordFit ..).trans s
  rw [if_neg (by rw [sx]; decide)]
theorem worlds_held {cores : List CoreObs} {tj : Nat} {d : Dev} (h : secureExists d = true) (p : d.pot.ready = false) (t : d.holdover = false) :
    (releaseWorlds (planZero cores tj d)).2 ≠ 0 := by
  obtain ⟨hl, hp, hh⟩ := planZero_leaves cores tj d
  have s : secureExists (planZero cores tj d) = true := (secure_of_list hl).trans h
  rw [← hp] at p
  rw [← hh] at t
  generalize planZero cores tj d = e at s p t
  have f : (worldsFit e).1 = 0x0701 := by
    have q : ent e 0x7000 1 = 1 := by simpa [secureExists] using s
    unfold worldsFit fitOf
    rw [if_pos q, p, t]
    simp only [firstFail, Bool.not_false, if_true, Bool.false_eq_true, if_false]
  unfold releaseWorlds
  extract_lets g x
  have sx : secureExists x = true := (secure_recordFit ..).trans s
  have gx : g.1 = 0x0701 := f
  rw [if_pos sx, if_pos (by rw [gx]; decide), gx]
  exact (by decide : (0x0701 : Nat) ≠ 0)

/-- A trained site whose first window takes requests. -/
def dsite : Dev := { d0 with
  fuses := { d0.fuses with ordering := 2, inlayIdent := [(0, [1])] }
  sites := [(0, { siteInit with uState := 3, uRate := 1, uWidth := 16 })]
  list := { d0.list with cur := d0.list.cur ++ [(ekey 0xA110 1, some (.num 0)), (ekey 0xA111 1, some (.num 4095)), (ekey 0xA112 1, some (.num memW))] } }

/-! ### Witnesses -/

theorem witness_StepRunsFrontCommand :
    ∃ (s : State) (c : Instr) (r : List Instr), s.pending = c :: r :=
  ⟨⟨[.hubTimeBaseUnlock, .heldState], d0⟩, .hubTimeBaseUnlock, [.heldState], by decide +kernel⟩

theorem witness_RunsGoOn :
    (∃ (s : State), s.pending = [] ∧ s.dev.boot.phase = BootPhase.off) ∧
    (∃ (s : State),
       s.pending = [] ∧
        s.dev.boot.phase ≠ BootPhase.off ∧
         s.dev.cxlWait = [] ∧ s.dev.mirror.phase ≠ 1 ∧ (∀ e ∈ s.dev.cmds, e.2.busy = false) ∧ s.dev.kerf.step1 = none ∧ s.dev.kerf.warmDue = false) :=
  ⟨⟨State.reset, by decide +kernel⟩,
   ⟨st d0, by decide +kernel⟩⟩

theorem witness_EveryStepKeepsMemoryCanonical :
    ∃ (s : State) (t : State), MemCanonical s.dev ∧ step s = Host.Outcome.next t :=
  ⟨⟨[.hubTimeBaseUnlock], { d0 with mem := [(1, 5), (3, 7)] }⟩, ⟨[], { d0 with mem := [(1, 5), (3, 7)], holdover := true }⟩, by decide +kernel, rfl⟩

theorem witness_MemoryReadsLastWrite :
    (∃ (d : Dev) (a : ℕ) (bs : List Byte) (k : ℕ), k < a ∨ a + bs.length ≤ k) ∧
    (∃ (d : Dev) (a : ℕ) (bs : List Byte) (k : ℕ), k < a ∨ a + bs.length ≤ k) ∧
    (∃ (d : Dev) (a : ℕ) (bs : List Byte), MemCanonical d) :=
  ⟨⟨{ d0 with mem := [(1, 5), (3, 7)] }, 2, [1, 0, 2], 5, by decide +kernel⟩,
   ⟨{ d0 with mem := [(1, 5), (3, 7)] }, 2, [1, 0, 2], 1, by decide +kernel⟩,
   ⟨{ d0 with mem := [(1, 5), (3, 7)] }, 2, [1, 0, 2], by decide +kernel⟩⟩

theorem witness_EarlyBringUp :
    (∃ (id : Fin 64) (role : Fin 4) (failed : BitVec 13) (s : State),
       (s.dev.boot.phase = BootPhase.off ∨ s.dev.boot.phase = BootPhase.inReset) ∧
        (jigOf s.dev 12).inJig = false ∧ ∃ n < 13, fuseLoadFails s.dev failed.toNat n = true) ∧
    (∃ (id : Fin 64) (role : Fin 4) (failed : BitVec 13) (s : State),
       (s.dev.boot.phase = BootPhase.off ∨ s.dev.boot.phase = BootPhase.inReset) ∧
        (jigOf s.dev 12).inJig = false ∧ ∀ n < 13, fuseLoadFails s.dev failed.toNat n = false) ∧
    (∃ (id : Fin 64) (role : Fin 4) (failed : BitVec 13) (s : State),
       (s.dev.boot.phase = BootPhase.off ∨ s.dev.boot.phase = BootPhase.inReset) ∧
        (jigOf s.dev 12).inJig = false ∧ ∀ n < 13, fuseLoadFails s.dev failed.toNat n = false) ∧
    (∃ (s : State), stageRuns s.dev 2 = true) ∧
    (∃ (s : State), stageRuns s.dev 2 = true ∧ s.dev.boot.phase = BootPhase.running) ∧
    (∃ (o : FlashObs) (s : State),
       stageRuns s.dev 3 = true ∧
        (o.answers && decide ((if s.dev.boot.slotB = true then 33554432 else 0) + 160 ≤ o.capacity) && headerReason (padErased 160 o.bytes) == 0 &&
          decide ((if s.dev.boot.slotB = true then 33554432 else 0) + imgLength (padErased 160 o.bytes) ≤ o.capacity)) =
         true) ∧
    (∃ (o : FlashObs) (s : State),
       stageRuns s.dev 3 = true ∧
        (o.answers && decide ((if s.dev.boot.slotB = true then 33554432 else 0) + 160 ≤ o.capacity) && headerReason (padErased 160 o.bytes) == 0 &&
          decide ((if s.dev.boot.slotB = true then 33554432 else 0) + imgLength (padErased 160 o.bytes) ≤ o.capacity)) =
         true) ∧
    (∃ (o : FlashObs) (s : State),
       stageRuns s.dev 3 = true ∧
        (o.answers && decide ((if s.dev.boot.slotB = true then 33554432 else 0) + 160 ≤ o.capacity) && headerReason (padErased 160 o.bytes) == 0 &&
          decide ((if s.dev.boot.slotB = true then 33554432 else 0) + imgLength (padErased 160 o.bytes) ≤ o.capacity)) =
          false ∧
         s.dev.boot.slotB = true ∧ s.dev.boot.phase = BootPhase.running) ∧
    (∃ (o : FlashObs) (s : State),
       stageRuns s.dev 3 = true ∧
        (o.answers && decide ((if s.dev.boot.slotB = true then 33554432 else 0) + 160 ≤ o.capacity) && headerReason (padErased 160 o.bytes) == 0 &&
          decide ((if s.dev.boot.slotB = true then 33554432 else 0) + imgLength (padErased 160 o.bytes) ≤ o.capacity)) =
          false ∧
         s.dev.boot.slotB = false) ∧
    (Config.stdOk .imageVerify [imgSigner img, imgMessage sha512 img, imgSignature img] = true →
    ∃ (s : State), stageRuns s.dev 4 = true ∧ formatOk s.dev.boot.image = true ∧ keyReason s.dev s.dev.boot.image = 0) ∧
    (∃ (s : State),
       stageRuns s.dev 4 = true ∧
        (formatOk s.dev.boot.image = false ∨ keyReason s.dev s.dev.boot.image ≠ 0) ∧ s.dev.boot.slotB = true ∧ s.dev.boot.phase = BootPhase.running) :=
  ⟨⟨0, 1, 0x1001, st (packageReset d0), by decide +kernel⟩,
   ⟨63, 3, 0, State.reset, by decide +kernel, by decide +kernel, (by first | decide +kernel | exact all_some rfl (by decide +kernel) | simp)⟩,
   ⟨0, 0, 0, st (packageReset d0), by decide +kernel, by decide +kernel, (by first | decide +kernel | exact all_some rfl (by decide +kernel) | simp)⟩,
   ⟨st (db 2 id), by decide +kernel⟩,
   ⟨st (db 2 id), by decide +kernel⟩,
   ⟨{ bytes := img, answers := true, capacity := 0x4000000 }, st (db 3 id), by decide +kernel⟩,
   ⟨{ bytes := img, answers := true, capacity := 0x2000208 }, st (db 3 (fun b => { b with slotB := true })), by decide +kernel⟩,
   ⟨{ bytes := [], answers := true, capacity := 0x4000000 }, st (db 3 (fun b => { b with slotB := true })), by decide +kernel⟩,
   ⟨{ bytes := img, answers := true, capacity := 0x9F }, st (db 3 id), by decide +kernel⟩,
   fun h => ⟨st dimg, by decide +kernel, by decide +kernel, key_of_image h⟩,
   ⟨st (db 4 (fun b => { b with image := [], slotB := true })), by decide +kernel, Or.inl (by decide +kernel), by decide +kernel, by decide +kernel⟩⟩

theorem witness_ConfigurationStage :
    (∃ (s : State),
       stageRuns s.dev 5 = true ∧
        (imgRecs s.dev.boot.image = none ∨
          ∃ (rs : List ImgRec),
          imgRecs s.dev.boot.image = some rs ∧
          (rs.all
          (recordOk
          { s.dev with list := { s.dev.list with cur := [], stg := [] } }) &&
          (nubNat (List.map (fun (r : ImgRec) => ekey r.idx r.sub) rs)).length == rs.length &&
          imageComplete rs) =
          false) ∧
         s.dev.boot.phase = BootPhase.running) ∧
    (∃ (s : State) (rs : List ImgRec),
       stageRuns s.dev 5 = true ∧
        imgRecs s.dev.boot.image = some rs ∧
         (rs.all
          (recordOk
          { s.dev with list := { s.dev.list with cur := [], stg := [] } }) &&
          (nubNat (List.map (fun (r : ImgRec) => ekey r.idx r.sub) rs)).length == rs.length &&
          imageComplete rs) =
          true) :=
  ⟨⟨st (db 5 (fun b => { b with image := imgT 0 })), by decide +kernel⟩,
   ⟨st (db 5 (fun b => { b with image := img })), imgR 1, by decide +kernel⟩⟩

theorem witness_HardwareBringUp :
    (∃ (obs : List LinkObs) (s : State), stageRuns s.dev 6 = true ∧ s.dev.boot.warm = false) ∧
    (∃ (s : State), stageRuns s.dev 8 = true) ∧
    (∃ (f : HubFault) (fs : List HubFault) (s : State), stageRuns s.dev 8 = true) ∧
    (∃ (ports : List PortObs) (w0 : Fin 4) (w1 : Fin 4) (sites : List UcieObs) (s : State), stageRuns s.dev 9 = true) ∧
    (∃ (s : State), stageRuns s.dev 10 = true ∧ ((sectsOf 4 s.dev.boot.image).all fun (x : Sect) => dramRange s.dev x.load x.len) = true) ∧
    (∃ (s : State),
       stageRuns s.dev 10 = true ∧
        ((sectsOf 4 s.dev.boot.image).all fun (x : Sect) => dramRange s.dev x.load x.len) = false ∧ s.dev.boot.phase = BootPhase.running) ∧
    (∃ (obs : List DimmSeen) (s : State), stageRuns s.dev 7 = true) :=
  ⟨⟨(List.range 12).map (fun n => { pll := true, up := cleanTest, down := cleanTest }), st (ds 6), by decide +kernel⟩,
   ⟨st (ds 8), by decide +kernel⟩,
   ⟨.pot, [.msc 15], st (ds 8), by decide +kernel⟩,
   ⟨[], 0, 3, [], st (ds 9), by decide +kernel⟩,
   ⟨st (ds 10), by decide +kernel⟩,
   ⟨st { ds 10 with chans := [] }, by decide +kernel⟩,
   ⟨dimms true, st d4, by decide +kernel⟩⟩

theorem witness_ReleaseAndHeldState :
    (∃ (n : Fin 12) (s : State) (b : Bool), s.dev.boot.phase = BootPhase.running ∧ s.dev.boot.running.contains ↑n = true ∧ ↑n = 1) ∧
    (∃ (n : Fin 12) (s : State) (b : Bool),
       s.dev.boot.phase = BootPhase.running ∧ s.dev.boot.running.contains ↑n = true ∧ ↑n ≠ 1 ∧ ↑n ≠ 2 ∧ ↑n ≠ 3 ∧ ↑n ≠ 4) ∧
    (∃ (n : Fin 12) (s : State), s.dev.boot.phase = BootPhase.running ∧ s.dev.boot.running.contains ↑n = true ∧ ↑n = 2) ∧
    (∃ (n : Fin 12) (s : State) (b : Bool), s.dev.boot.phase = BootPhase.running ∧ s.dev.boot.running.contains ↑n = true ∧ (↑n = 3 ∨ ↑n = 4)) ∧
    (∃ (n : Fin 12) (s : State) (b : Bool), s.dev.boot.phase = BootPhase.running ∧ s.dev.boot.running.contains ↑n = true ∧ (↑n = 3 ∨ ↑n = 4)) ∧
    (∃ (n : Fin 12) (s : State) (b : Bool),
       s.dev.boot.phase = BootPhase.running ∧ s.dev.boot.running.contains ↑n = true ∧ ↑n ≠ 1 ∧ ↑n ≠ 2 ∧ ↑n ≠ 3 ∧ ↑n ≠ 4) ∧
    (∃ (cores : List CoreObs) (tj : ℕ) (p : PartnerObs) (s : State),
       stageRuns s.dev 11 = true ∧ (releaseWorlds (planZero cores tj (releaseLedger s.dev))).2 = 0) ∧
    (∃ (cores : List CoreObs) (tj : ℕ) (p : PartnerObs) (s : State),
       stageRuns s.dev 11 = true ∧ (releaseWorlds (planZero cores tj (releaseLedger s.dev))).2 ≠ 0 ∧ s.dev.boot.phase = BootPhase.running) ∧
    (∃ (s : State), s.dev.boot.phase = BootPhase.failing ∧ s.dev.boot.running = []) ∧
    (∃ (v : ℕ) (s : State), s.dev.boot.pendingCommit = some v ∧ s.dev.boot.phase = BootPhase.released ∧ s.dev.fuses.floor < v) :=
  ⟨⟨1, st (db 1 id), true, by decide +kernel⟩,
   ⟨11, st (db 11 id), false, by decide +kernel⟩,
   ⟨2, st (db 2 id), by decide +kernel⟩,
   ⟨3, st (db 3 id), false, by decide +kernel⟩,
   ⟨4, st (db 4 (fun b => { b with slotB := true, done := [1, 2, 3] })), true, by decide +kernel⟩,
   ⟨5, st (db 5 id), false, by decide +kernel⟩,
   ⟨[], 0, noP, st (ds 11), by decide +kernel, worlds_free (by decide +kernel)⟩,
   ⟨[], 0, noP, st dheld, by decide +kernel, worlds_held (by decide +kernel) (by decide +kernel) (by decide +kernel), by decide +kernel⟩,
   ⟨st { d0 with boot := { bootInit with phase := .failing, failStage := 4 } }, by decide +kernel⟩,
   ⟨64, st { d0 with boot := { d0.boot with pendingCommit := some 64 }, fuses := { d0.fuses with floor := 63 } }, by decide +kernel⟩⟩

theorem witness_PowerAndResets :
    (∃ (s : State), s.dev.pins.pwrGood = false) ∧
    (∃ (s : State), s.dev.boot.phase ≠ BootPhase.off) ∧
    (∃ (s : State), gaugePresent s.dev = true) ∧
    (∃ (s : State), s.dev.boot.phase = BootPhase.off) ∧
    (∃ (s : State), gaugePresent s.dev = true ∧ s.dev.gauge.openKind = 1) ∧
    (∃ (s : State), s.dev.pins.pwrGood = true) ∧
    (∃ (h : HartN) (s : State) (v : Word), hartRuns s.dev ↑h = true ∧ (resetBits (BitVec.toNat v) = none ∨ (hartOf s.dev ↑h).mode ≠ Mode.m)) ∧
    (∃ (h : HartN) (s : State) (v : Word), hartRuns s.dev ↑h = true ∧ (resetBits (BitVec.toNat v) = none ∨ (hartOf s.dev ↑h).mode ≠ Mode.m)) ∧
    (∃ (h : HartN) (s : State) (v : Word), hartRuns s.dev ↑h = true ∧ (hartOf s.dev ↑h).mode = Mode.m ∧ resetBits (BitVec.toNat v) = some 2) ∧
    (∃ (h : HartN) (s : State) (v : Word),
       hartRuns s.dev ↑h = true ∧ (hartOf s.dev ↑h).mode = Mode.m ∧ resetBits (BitVec.toNat v) = some 1 ∧ s.dev.kerf.step1.isSome = true) ∧
    (∃ (h : HartN) (s : State) (v : Word),
       hartRuns s.dev ↑h = true ∧ (hartOf s.dev ↑h).mode = Mode.m ∧ resetBits (BitVec.toNat v) = some 1 ∧ s.dev.kerf.step1 = none) :=
  ⟨⟨st State.reset.dev, by decide +kernel⟩,
   ⟨st { d0 with mem := [(1,1)] }, by decide +kernel⟩,
   ⟨st { d0 with pins := { d0.pins with vgauge := true } }, by decide +kernel⟩,
   ⟨st State.reset.dev, by decide +kernel⟩,
   ⟨st { d0 with pins := { d0.pins with vgauge := true }, gauge := { gaugeInit with openKind := 1 } }, by decide +kernel⟩,
   ⟨st d0, by decide +kernel⟩,
   ⟨0, st d0, 0x57550001, by decide +kernel⟩,
   ⟨0, st (dh (fun x => { x with mode := .hs })), 0x57540001, by decide +kernel⟩,
   ⟨0, st d0, 0xFFFFFFFF57540002, by decide +kernel⟩,
   ⟨0, st { d0 with kerf := { d0.kerf with step1 := some ko } }, 0x57540001, by decide +kernel⟩,
   ⟨0, st d0, 0x57540001, by decide +kernel⟩⟩

theorem witness_LoadDeliversHeldBytes :
    (∃ (h : HartN) (dst : Dst) (rs1 : RegN) (imm : BitVec 12) (size : ℕ) (signed : Bool) (compressed : Bool) (s : State) (ps : List (ℕ × ℕ × ℕ)) (fs :
       List PartTr),
       HartReady s.dev ↑h ∧
        accSize size = true ∧
         (∀ (r : ℕ), dst = Dst.f r → fpOff (hartOf s.dev ↑h) = false) ∧
          translateParts s.dev (↑h)
          (match dst with
          | Dst.inst => (hartOf s.dev ↑h).mode
          | x => accessMode (hartOf s.dev ↑h))
          (match dst with
          | Dst.inst => 0
          | x => 1)
          none (splitAccess (effAddr (hartOf s.dev ↑h) (↑rs1) imm) size) =
          Except.ok (ps, fs) ∧
          ∀ p ∈ ps,
          isMain
          (trLeft (↑h)
          (match dst with
          | Dst.inst => (hartOf s.dev ↑h).mode
          | x => accessMode (hartOf s.dev ↑h))
          (match dst with
          | Dst.inst => 0
          | x => 1)
          fs s.dev)
          p.1 =
          true ∧
          ∃ (l : DLine),
          dieLine
          (trLeft (↑h)
          (match dst with
          | Dst.inst => (hartOf s.dev ↑h).mode
          | x => accessMode (hartOf s.dev ↑h))
          (match dst with
          | Dst.inst => 0
          | x => 1)
          fs s.dev)
          (dieOfHart ↑h) (lineOf p.1) =
          some l ∧
          l.poison = false) ∧
    (∃ (h : HartN) (dst : Dst) (rs1 : RegN) (imm : BitVec 12) (size : ℕ) (signed : Bool) (compressed : Bool) (s : State) (ps : List (ℕ × ℕ × ℕ)) (fs :
       List PartTr),
       HartReady s.dev ↑h ∧
        accSize size = true ∧
         (∀ (r : ℕ), dst = Dst.f r → fpOff (hartOf s.dev ↑h) = false) ∧
          translateParts s.dev (↑h)
          (match dst with
          | Dst.inst => (hartOf s.dev ↑h).mode
          | x => accessMode (hartOf s.dev ↑h))
          (match dst with
          | Dst.inst => 0
          | x => 1)
          none (splitAccess (effAddr (hartOf s.dev ↑h) (↑rs1) imm) size) =
          Except.ok (ps, fs) ∧
          ∀ p ∈ ps,
          isMain
          (trLeft (↑h)
          (match dst with
          | Dst.inst => (hartOf s.dev ↑h).mode
          | x => accessMode (hartOf s.dev ↑h))
          (match dst with
          | Dst.inst => 0
          | x => 1)
          fs s.dev)
          p.1 =
          true ∧
          ∃ (l : DLine),
          dieLine
          (trLeft (↑h)
          (match dst with
          | Dst.inst => (hartOf s.dev ↑h).mode
          | x => accessMode (hartOf s.dev ↑h))
          (match dst with
          | Dst.inst => 0
          | x => 1)
          fs s.dev)
          (dieOfHart ↑h) (lineOf p.1) =
          some l ∧
          l.poison = false) :=
  ⟨⟨0, .x 5, 0, 0x40, 8, false, false, st (dc [(1, some (ln .ss))]), [(0x40,0,8)], [pt 0x40], by decide +kernel, by decide +kernel, (by first | decide +kernel | exact all_some rfl (by decide +kernel) | simp), by decide +kernel, by decide +kernel⟩,
   ⟨0, .inst, 0, 0x7E, 4, false, true, st (dc [(1, some (ln .ss)), (2, some (ln .ee))]), [(0x7E,0,2),(0x80,2,2)], [pt 0x7E, pt 0x80], by decide +kernel, by decide +kernel, (by first | decide +kernel | exact all_some rfl (by decide +kernel) | simp), by decide +kernel, by decide +kernel⟩⟩

theorem witness_StoreWritesOwnedLines :
    (∃ (h : HartN) (fp : Bool) (rs2 : RegN) (rs1 : RegN) (imm : BitVec 12) (size : ℕ) (compressed : Bool) (s : State) (ps : List (ℕ × ℕ × ℕ)) (fs :
       List PartTr),
       HartReady s.dev ↑h ∧
        accSize size = true ∧
         (fp = true → fpOff (hartOf s.dev ↑h) = false) ∧
          translateParts s.dev (↑h) (accessMode (hartOf s.dev ↑h)) 3 none (splitAccess (effAddr (hartOf s.dev ↑h) (↑rs1) imm) size) =
          Except.ok (ps, fs) ∧
          (List.map (fun (p : ℕ × ℕ × ℕ) => lineOf p.1) ps).Nodup ∧
          dirtyBlocked (trLeft (↑h) (accessMode (hartOf s.dev ↑h)) 3 fs s.dev) (dieOfHart ↑h) ps = false ∧
          (dieOf (trLeft (↑h) (accessMode (hartOf s.dev ↑h)) 3 fs s.dev) (dieOfHart ↑h)).deferred = [] ∧
          ∀ p ∈ ps,
          isMain (trLeft (↑h) (accessMode (hartOf s.dev ↑h)) 3 fs s.dev) p.1 = true ∧
          OwnsLine (trLeft (↑h) (accessMode (hartOf s.dev ↑h)) 3 fs s.dev) (dieOfHart ↑h) (lineOf p.1)) ∧
    (∃ (h : HartN) (fp : Bool) (rs2 : RegN) (rs1 : RegN) (imm : BitVec 12) (size : ℕ) (compressed : Bool) (s : State) (ps : List (ℕ × ℕ × ℕ)) (fs :
       List PartTr),
       HartReady s.dev ↑h ∧
        accSize size = true ∧
         (fp = true → fpOff (hartOf s.dev ↑h) = false) ∧
          translateParts s.dev (↑h) (accessMode (hartOf s.dev ↑h)) 3 none (splitAccess (effAddr (hartOf s.dev ↑h) (↑rs1) imm) size) =
          Except.ok (ps, fs) ∧
          (List.map (fun (p : ℕ × ℕ × ℕ) => lineOf p.1) ps).Nodup ∧
          dirtyBlocked (trLeft (↑h) (accessMode (hartOf s.dev ↑h)) 3 fs s.dev) (dieOfHart ↑h) ps = false ∧
          (dieOf (trLeft (↑h) (accessMode (hartOf s.dev ↑h)) 3 fs s.dev) (dieOfHart ↑h)).deferred = [] ∧
          ∀ p ∈ ps,
          isMain (trLeft (↑h) (accessMode (hartOf s.dev ↑h)) 3 fs s.dev) p.1 = true ∧
          OwnsLine (trLeft (↑h) (accessMode (hartOf s.dev ↑h)) 3 fs s.dev) (dieOfHart ↑h) (lineOf p.1)) :=
  ⟨⟨0, false, 5, 0, 0x40, 8, false, st (dc [(1, some (ln .ee))]), [(0x40,0,8)], [pt 0x40], by decide +kernel⟩,
   ⟨0, true, 31, 0, 0x7E, 4, true, st (updHart (dc [(1, some (ln .mm)), (2, some (ln .ee))]) 0 (fun x => { x with csr := [(mstatusN, 0x6000)] })), [(0x7E,0,2),(0x80,2,2)], [pt 0x7E, pt 0x80], by decide +kernel⟩⟩

theorem witness_AtomicsAndReservations :
    (∃ (h : HartN) (op : AmoOp) (rd : RegN) (rs1 : RegN) (rs2 : RegN) (size : ℕ) (s : State) (pa : ℕ) (fs : List PartTr) (l : DLine),
       HartReady s.dev ↑h ∧
        (accSize size = true ∨ size = 16 ∧ op = AmoOp.cas ∧ ↑rd % 2 = 0 ∧ ↑rs2 % 2 = 0) ∧
         xReg (hartOf s.dev ↑h) ↑rs1 % 16 + size ≤ 16 ∧
          translateParts s.dev (↑h) (accessMode (hartOf s.dev ↑h)) 3 none [(xReg (hartOf s.dev ↑h) ↑rs1, 0, size)] = Except.ok ([(pa, 0, size)], fs) ∧
          isMain (trLeft (↑h) (accessMode (hartOf s.dev ↑h)) 3 fs s.dev) pa = true ∧
          OwnsLine (trLeft (↑h) (accessMode (hartOf s.dev ↑h)) 3 fs s.dev) (dieOfHart ↑h) (lineOf pa) ∧
          (dieOf (trLeft (↑h) (accessMode (hartOf s.dev ↑h)) 3 fs s.dev) (dieOfHart ↑h)).deferred = [] ∧
          dieLine (trLeft (↑h) (accessMode (hartOf s.dev ↑h)) 3 fs s.dev) (dieOfHart ↑h) (lineOf pa) = some l ∧ l.poison = false) ∧
    (∃ (h : HartN) (op : AmoOp) (rd : RegN) (rs1 : RegN) (rs2 : RegN) (size : ℕ) (s : State) (pa : ℕ) (fs : List PartTr) (l : DLine),
       HartReady s.dev ↑h ∧
        (accSize size = true ∨ size = 16 ∧ op = AmoOp.cas ∧ ↑rd % 2 = 0 ∧ ↑rs2 % 2 = 0) ∧
         xReg (hartOf s.dev ↑h) ↑rs1 % 16 + size ≤ 16 ∧
          translateParts s.dev (↑h) (accessMode (hartOf s.dev ↑h)) 3 none [(xReg (hartOf s.dev ↑h) ↑rs1, 0, size)] = Except.ok ([(pa, 0, size)], fs) ∧
          isMain (trLeft (↑h) (accessMode (hartOf s.dev ↑h)) 3 fs s.dev) pa = true ∧
          OwnsLine (trLeft (↑h) (accessMode (hartOf s.dev ↑h)) 3 fs s.dev) (dieOfHart ↑h) (lineOf pa) ∧
          (dieOf (trLeft (↑h) (accessMode (hartOf s.dev ↑h)) 3 fs s.dev) (dieOfHart ↑h)).deferred = [] ∧
          dieLine (trLeft (↑h) (accessMode (hartOf s.dev ↑h)) 3 fs s.dev) (dieOfHart ↑h) (lineOf pa) = some l ∧ l.poison = false) ∧
    (∃ (h : HartN) (s : State) (r : Reservation), (hartOf s.dev ↑h).resv = some r ∧ r.deferring = true ∧ (dieOf s.dev (dieOfHart ↑h)).deferred = []) ∧
    (∃ (h : HartN) (s : State) (r : Reservation) (m : FMsg),
       (hartOf s.dev ↑h).resv = some r ∧
        r.deferring = true ∧
         (dieOf s.dev (dieOfHart ↑h)).deferred = [m] ∧
          resvDefers
          (updHart s.dev ↑h fun (x : Hart) =>
          { x with resv := some { r with deferring := false } })
          (dieOfHart ↑h) (lineOf m.addr) =
          none) ∧
    (∃ (h : HartN) (rd : RegN) (rs1 : RegN) (size : ℕ) (s : State) (pa : ℕ) (fs : List PartTr) (l : DLine),
       HartReady s.dev ↑h ∧
        (size = 4 ∨ size = 8) ∧
         xReg (hartOf s.dev ↑h) ↑rs1 % size = 0 ∧
          translateParts s.dev (↑h) (accessMode (hartOf s.dev ↑h)) 1 none [(xReg (hartOf s.dev ↑h) ↑rs1, 0, size)] = Except.ok ([(pa, 0, size)], fs) ∧
          isMain (clearResv (↑h) (trLeft (↑h) (accessMode (hartOf s.dev ↑h)) 1 fs s.dev)) pa = true ∧
          OwnsLine (clearResv (↑h) (trLeft (↑h) (accessMode (hartOf s.dev ↑h)) 1 fs s.dev)) (dieOfHart ↑h) (lineOf pa) ∧
          dieLine (clearResv (↑h) (trLeft (↑h) (accessMode (hartOf s.dev ↑h)) 1 fs s.dev)) (dieOfHart ↑h) (lineOf pa) = some l ∧ l.poison = false) ∧
    (∃ (h : HartN) (rd : RegN) (rs1 : RegN) (rs2 : RegN) (size : ℕ) (s : State) (pa : ℕ) (fs : List PartTr),
       HartReady s.dev ↑h ∧
        (size = 4 ∨ size = 8) ∧
         xReg (hartOf s.dev ↑h) ↑rs1 % size = 0 ∧
          translateParts s.dev (↑h) (accessMode (hartOf s.dev ↑h)) 3 none [(xReg (hartOf s.dev ↑h) ↑rs1, 0, size)] = Except.ok ([(pa, 0, size)], fs) ∧
          ∀ (r : Reservation), (hartOf s.dev ↑h).resv = some r → r.addr ≠ pa ∨ r.size ≠ size) ∧
    (∃ (h : HartN) (rd : RegN) (rs1 : RegN) (rs2 : RegN) (size : ℕ) (s : State) (pa : ℕ) (fs : List PartTr) (r : Reservation),
       HartReady s.dev ↑h ∧
        (size = 4 ∨ size = 8) ∧
         xReg (hartOf s.dev ↑h) ↑rs1 % size = 0 ∧
          translateParts s.dev (↑h) (accessMode (hartOf s.dev ↑h)) 3 none [(xReg (hartOf s.dev ↑h) ↑rs1, 0, size)] = Except.ok ([(pa, 0, size)], fs) ∧
          (hartOf s.dev ↑h).resv = some r ∧
          r.addr = pa ∧
          r.size = size ∧
          isMain s.dev pa = true ∧
          OwnsLine (trLeft (↑h) (accessMode (hartOf s.dev ↑h)) 3 fs s.dev) (dieOfHart ↑h) (lineOf pa) ∧
          (dieOf (trLeft (↑h) (accessMode (hartOf s.dev ↑h)) 3 fs s.dev) (dieOfHart ↑h)).deferred = []) :=
  ⟨⟨0, .add, 5, 6, 7, 8, st (dc [(0, some (ln .mm))]), 0, [pt 0], ln .mm, by decide +kernel⟩,
   ⟨0, .cas, 4, 6, 8, 16, st (dc [(0, some (ln .ee))]), 0, [pt 0], ln .ee, by decide +kernel⟩,
   ⟨0, st (dh (fun x => { x with resv := some ⟨1, 64, 8, true⟩ })), ⟨1, 64, 8, true⟩, by decide +kernel⟩,
   ⟨0, st (updDie (updHart (dc [(1, some (ln .mm))]) 0 (fun x => { x with resv := some ⟨1, 64, 8, true⟩ })) 0 (fun y => { y with deferred := [{ fm .fwdX 64 with up := false }] })), ⟨1, 64, 8, true⟩, { fm .fwdX 64 with up := false }, by decide +kernel⟩,
   ⟨0, 5, 6, 4, st (dc [(0, some (ln .mm))]), 0, [pt 0], ln .mm, by decide +kernel⟩,
   ⟨0, 5, 6, 7, 8, st d0, 0, [pt 0], by decide +kernel⟩,
   ⟨0, 5, 6, 7, 4, st (updHart (dc [(0, some (ln .mm))]) 0 (fun x => { x with resv := some ⟨0, 0, 4, true⟩ })), 0, [pt 0], ⟨0, 0, 4, true⟩, by decide +kernel⟩⟩

theorem witness_CacheBlockOperations :
    (∃ (h : HartN) (rs1 : RegN) (s : State) (cop : CboOp) (i : Instr) (pa : ℕ) (ent : Option Tlb) (fill : Option WalkAcc),
       HartReady s.dev ↑h ∧
        (i = Instr.cboClean h rs1 ∧ cboCheck (hartOf s.dev ↑h) CboOp.clean = 2 ∧ cop = CboOp.clean ∨
          i = Instr.cboFlush h rs1 ∧ cboCheck (hartOf s.dev ↑h) CboOp.flush = 2 ∧ cop = CboOp.flush ∨
          i = Instr.cboInval h rs1 ∧ cboCheck (hartOf s.dev ↑h) CboOp.inval = 2 ∧ cop = CboOp.inval ∨
          i = Instr.cboInval h rs1 ∧ cboCheck (hartOf s.dev ↑h) CboOp.inval = 3 ∧ cop = CboOp.flush) ∧
         Machine.translate s.dev (↑h) (accessMode (hartOf s.dev ↑h)) 1 (xReg (hartOf s.dev ↑h) ↑rs1 / 64 * 64) 64 true none = Tr.ok pa ent fill ∧
          isMain (trLeft (↑h) (accessMode (hartOf s.dev ↑h)) 1 [{ va := xReg (hartOf s.dev ↑h) ↑rs1 / 64 * 64, ent := ent, fill := fill }] s.dev) pa =
          true) ∧
    (∃ (h : HartN) (rs1 : RegN) (s : State) (cop : CboOp) (i : Instr) (pa : ℕ) (ent : Option Tlb) (fill : Option WalkAcc),
       HartReady s.dev ↑h ∧
        (i = Instr.cboClean h rs1 ∧ cboCheck (hartOf s.dev ↑h) CboOp.clean = 2 ∧ cop = CboOp.clean ∨
          i = Instr.cboFlush h rs1 ∧ cboCheck (hartOf s.dev ↑h) CboOp.flush = 2 ∧ cop = CboOp.flush ∨
          i = Instr.cboInval h rs1 ∧ cboCheck (hartOf s.dev ↑h) CboOp.inval = 2 ∧ cop = CboOp.inval ∨
          i = Instr.cboInval h rs1 ∧ cboCheck (hartOf s.dev ↑h) CboOp.inval = 3 ∧ cop = CboOp.flush) ∧
         Machine.translate s.dev (↑h) (accessMode (hartOf s.dev ↑h)) 1 (xReg (hartOf s.dev ↑h) ↑rs1 / 64 * 64) 64 true none = Tr.ok pa ent fill ∧
          isMain (trLeft (↑h) (accessMode (hartOf s.dev ↑h)) 1 [{ va := xReg (hartOf s.dev ↑h) ↑rs1 / 64 * 64, ent := ent, fill := fill }] s.dev) pa =
          false) ∧
    (∃ (h : HartN) (rs1 : RegN) (s : State) (cop : CboOp) (i : Instr) (pa : ℕ) (ent : Option Tlb) (fill : Option WalkAcc),
       HartReady s.dev ↑h ∧
        (i = Instr.cboClean h rs1 ∧ cboCheck (hartOf s.dev ↑h) CboOp.clean = 2 ∧ cop = CboOp.clean ∨
          i = Instr.cboFlush h rs1 ∧ cboCheck (hartOf s.dev ↑h) CboOp.flush = 2 ∧ cop = CboOp.flush ∨
          i = Instr.cboInval h rs1 ∧ cboCheck (hartOf s.dev ↑h) CboOp.inval = 2 ∧ cop = CboOp.inval ∨
          i = Instr.cboInval h rs1 ∧ cboCheck (hartOf s.dev ↑h) CboOp.inval = 3 ∧ cop = CboOp.flush) ∧
         Machine.translate s.dev (↑h) (accessMode (hartOf s.dev ↑h)) 1 (xReg (hartOf s.dev ↑h) ↑rs1 / 64 * 64) 64 true none = Tr.ok pa ent fill ∧
          isMain (trLeft (↑h) (accessMode (hartOf s.dev ↑h)) 1 [{ va := xReg (hartOf s.dev ↑h) ↑rs1 / 64 * 64, ent := ent, fill := fill }] s.dev) pa =
          true) ∧
    (∃ (h : HartN) (rs1 : RegN) (s : State) (cop : CboOp) (i : Instr) (pa : ℕ) (ent : Option Tlb) (fill : Option WalkAcc),
       HartReady s.dev ↑h ∧
        (i = Instr.cboClean h rs1 ∧ cboCheck (hartOf s.dev ↑h) CboOp.clean = 2 ∧ cop = CboOp.clean ∨
          i = Instr.cboFlush h rs1 ∧ cboCheck (hartOf s.dev ↑h) CboOp.flush = 2 ∧ cop = CboOp.flush ∨
          i = Instr.cboInval h rs1 ∧ cboCheck (hartOf s.dev ↑h) CboOp.inval = 2 ∧ cop = CboOp.inval ∨
          i = Instr.cboInval h rs1 ∧ cboCheck (hartOf s.dev ↑h) CboOp.inval = 3 ∧ cop = CboOp.flush) ∧
         Machine.translate s.dev (↑h) (accessMode (hartOf s.dev ↑h)) 1 (xReg (hartOf s.dev ↑h) ↑rs1 / 64 * 64) 64 true none = Tr.ok pa ent fill ∧
          isMain (trLeft (↑h) (accessMode (hartOf s.dev ↑h)) 1 [{ va := xReg (hartOf s.dev ↑h) ↑rs1 / 64 * 64, ent := ent, fill := fill }] s.dev) pa =
          true) ∧
    (∃ (h : HartN) (rs1 : RegN) (s : State) (cop : CboOp) (i : Instr) (pa : ℕ) (ent : Option Tlb) (fill : Option WalkAcc),
       HartReady s.dev ↑h ∧
        (i = Instr.cboClean h rs1 ∧ cboCheck (hartOf s.dev ↑h) CboOp.clean = 2 ∧ cop = CboOp.clean ∨
          i = Instr.cboFlush h rs1 ∧ cboCheck (hartOf s.dev ↑h) CboOp.flush = 2 ∧ cop = CboOp.flush ∨
          i = Instr.cboInval h rs1 ∧ cboCheck (hartOf s.dev ↑h) CboOp.inval = 2 ∧ cop = CboOp.inval ∨
          i = Instr.cboInval h rs1 ∧ cboCheck (hartOf s.dev ↑h) CboOp.inval = 3 ∧ cop = CboOp.flush) ∧
         Machine.translate s.dev (↑h) (accessMode (hartOf s.dev ↑h)) 1 (xReg (hartOf s.dev ↑h) ↑rs1 / 64 * 64) 64 true none = Tr.ok pa ent fill ∧
          isMain (trLeft (↑h) (accessMode (hartOf s.dev ↑h)) 1 [{ va := xReg (hartOf s.dev ↑h) ↑rs1 / 64 * 64, ent := ent, fill := fill }] s.dev) pa =
          true) ∧
    (∃ (h : HartN) (rs1 : RegN) (s : State) (pa : ℕ) (ent : Option Tlb) (fill : Option WalkAcc),
       HartReady s.dev ↑h ∧
        cboCheck (hartOf s.dev ↑h) CboOp.zero = 2 ∧
         Machine.translate s.dev (↑h) (accessMode (hartOf s.dev ↑h)) 3 (xReg (hartOf s.dev ↑h) ↑rs1 / 64 * 64) 64 true none = Tr.ok pa ent fill ∧
          isMain (trLeft (↑h) (accessMode (hartOf s.dev ↑h)) 3 [{ va := xReg (hartOf s.dev ↑h) ↑rs1 / 64 * 64, ent := ent, fill := fill }] s.dev) pa =
          true ∧
          OwnsLine (trLeft (↑h) (accessMode (hartOf s.dev ↑h)) 3 [{ va := xReg (hartOf s.dev ↑h) ↑rs1 / 64 * 64, ent := ent, fill := fill }] s.dev)
          (dieOfHart ↑h) (lineOf pa) ∧
          (dieOf (trLeft (↑h) (accessMode (hartOf s.dev ↑h)) 3 [{ va := xReg (hartOf s.dev ↑h) ↑rs1 / 64 * 64, ent := ent, fill := fill }] s.dev)
          (dieOfHart ↑h)).deferred =
          []) :=
  ⟨⟨0, 5, st d0, .clean, .cboClean 0 5, 0, none, none, by decide +kernel, (by first | (simp; decide +kernel) | exact ⟨rfl, rfl, rfl, rfl, rfl, rfl, by decide +kernel, all_some rfl rfl⟩ | simp), by decide +kernel, by decide +kernel⟩,
   ⟨0, 5, st (dh (fun x => { x with x := [(5, 0x200000000000)] })), .clean, .cboClean 0 5, 0x200000000000, none, none, by decide +kernel, (by first | (simp; decide +kernel) | exact ⟨rfl, rfl, rfl, rfl, rfl, rfl, by decide +kernel, all_some rfl rfl⟩ | simp), by decide +kernel, by decide +kernel⟩,
   ⟨0, 5, st d0, .flush, .cboFlush 0 5, 0, none, none, by decide +kernel, (by first | (simp; decide +kernel) | exact ⟨rfl, rfl, rfl, rfl, rfl, rfl, by decide +kernel, all_some rfl rfl⟩ | simp), by decide +kernel, by decide +kernel⟩,
   ⟨0, 5, st d0, .inval, .cboInval 0 5, 0, none, none, by decide +kernel, (by first | (simp; decide +kernel) | exact ⟨rfl, rfl, rfl, rfl, rfl, rfl, by decide +kernel, all_some rfl rfl⟩ | simp), by decide +kernel, by decide +kernel⟩,
   ⟨0, 5, st (dh (fun x => { x with mode := .hs, csr := [(menvcfgN, 0x10), (0x3A0, 0x1F), (0x3B0, 0x3FFFFFFFFFFFFF)] })), .flush, .cboInval 0 5, 0, none, none, by decide +kernel, (by first | (simp; decide +kernel) | exact ⟨rfl, rfl, rfl, rfl, rfl, rfl, by decide +kernel, all_some rfl rfl⟩ | simp), by decide +kernel, by decide +kernel⟩,
   ⟨0, 5, st (dc [(0, some { ln .ee with poison := true })]), 0, none, none, by decide +kernel⟩⟩

theorem witness_SystemInstructions :
    (∃ (h : HartN) (rs1 : RegN) (rs2 : RegN) (s : State), HartReady s.dev ↑h ∧ sfenceAllowed (hartOf s.dev ↑h) = 2) ∧
    (∃ (h : HartN) (rs1 : RegN) (rs2 : RegN) (s : State), HartReady s.dev ↑h ∧ hfenceAllowed (hartOf s.dev ↑h) false = 2) ∧
    (∃ (h : HartN) (rs1 : RegN) (rs2 : RegN) (s : State), HartReady s.dev ↑h ∧ hfenceAllowed (hartOf s.dev ↑h) true = 2) ∧
    (∃ (h : HartN) (rs1 : RegN) (rs2 : RegN) (s : State), HartReady s.dev ↑h ∧ sfenceAllowed (hartOf s.dev ↑h) = 2) ∧
    (∃ (h : HartN) (rs1 : RegN) (rs2 : RegN) (s : State), HartReady s.dev ↑h ∧ (hartOf s.dev ↑h).mode ≠ Mode.u ∧ (hartOf s.dev ↑h).mode ≠ Mode.vu) ∧
    (∃ (h : HartN) (rd : RegN) (rs1 : RegN) (s : State) (pa : ℕ) (ent : Option Tlb) (fill : Option WalkAcc),
       HartReady s.dev ↑h ∧
        (hartOf s.dev ↑h).mode ≠ Mode.u ∧
         (hartOf s.dev ↑h).mode ≠ Mode.vu ∧
          Machine.translate s.dev (↑h) (accessMode (hartOf s.dev ↑h)) 1 (xReg (hartOf s.dev ↑h) ↑rs1) 1 false none = Tr.ok pa ent fill) ∧
    (∃ (h : HartN) (rd : RegN) (rs1 : RegN) (s : State), HartReady s.dev ↑h ∧ (hartOf s.dev ↑h).mode = Mode.u) ∧
    (∃ (h : HartN) (rd : RegN) (rs1 : RegN) (s : State), HartReady s.dev ↑h ∧ (hartOf s.dev ↑h).mode = Mode.vu) ∧
    (∃ (h : HartN) (insn : BitVec 32) (v : Word) (s : State), HartReady s.dev ↑h ∧ csrAccess (hartOf s.dev ↑h) 1473 (csrWrites insn.toNat) = 2) ∧
    (∃ (h : HartN) (s : State), HartReady s.dev ↑h ∧ (hartOf s.dev ↑h).mode ≠ Mode.u ∧ (hartOf s.dev ↑h).mode ≠ Mode.vu ∧ (hartOf s.dev ↑h).debts = []) ∧
    (∃ (h : HartN) (s : State), HartReady s.dev ↑h ∧ (hartOf s.dev ↑h).mode = Mode.u) ∧
    (∃ (h : HartN) (s : State), HartReady s.dev ↑h ∧ (hartOf s.dev ↑h).mode = Mode.vu) ∧
    (∃ (h : HartN) (s : State), HartReady s.dev ↑h ∧ (hartOf s.dev ↑h).mode ≠ Mode.u ∧ (hartOf s.dev ↑h).mode ≠ Mode.vu ∧ (hartOf s.dev ↑h).debts ≠ []) :=
  ⟨⟨0, 0, 0, st (dh (fun x => { x with tlb := [tl] })), by decide +kernel⟩,
   ⟨0, 0, 0, st (dh (fun x => { x with tlb := [{ tl with virt := true }] })), by decide +kernel⟩,
   ⟨0, 0, 0, st (dh (fun x => { x with tlb := [{ tl with twoStage := true, virt := true }] })), by decide +kernel⟩,
   ⟨0, 5, 6, st (dh (fun x => { x with tlb := [tl] })), by decide +kernel⟩,
   ⟨0, 0, 0, st (dh (fun x => { x with tlb := [tl], sweeps := [(0, none, none, 0, 0)] })), by decide +kernel⟩,
   ⟨0, 5, 6, st d0, 0, none, none, by decide +kernel⟩,
   ⟨0, 5, 6, st (dh (fun x => { x with mode := .u })), by decide +kernel⟩,
   ⟨0, 5, 6, st (dh (fun x => { x with mode := .vu })), by decide +kernel⟩,
   ⟨0, 0x5C1112F3, 1000, st d0, by decide +kernel⟩,
   ⟨0, st d0, by decide +kernel⟩,
   ⟨0, st (dh (fun x => { x with mode := .u })), by decide +kernel⟩,
   ⟨0, st (dh (fun x => { x with mode := .vu })), by decide +kernel⟩,
   ⟨0, st (dh (fun x => { x with debts := [⟨9, some 3⟩] })), by decide +kernel⟩⟩

theorem witness_RestAndRetirement :
    (∃ (h : HartN) (s : State),
       ((hartOf s.dev ↑h).rest = Rest.retain ∨ (hartOf s.dev ↑h).rest = Rest.fold) ∧
        (linkOf s.dev (dieOfHart ↑h)).state ≠ LinkSt.folded ∧
         (hartOf s.dev ↑h).restSince + 100000 ≤ s.dev.now ∧ testDue s.dev (hartOf s.dev ↑h).testedAt = true) ∧
    (∃ (h : HartN) (s : State) (i : ℕ),
       hartRuns
          { s.dev with harts := (updHart s.dev ↑h fun (x : Hart) => { x with waiting := none }).harts }
          ↑h =
         true ∧
        ncOpen s.dev ↑h = false ∧
         (hartOf s.dev ↑h).haltReq = false ∧ (hartOf s.dev ↑h).eid = 0 ∧ nextIrq s.dev ↑h = some i ∧ trapMode (hartOf s.dev ↑h) i true = Mode.m) ∧
    (∃ (h : HartN) (s : State), (hartOf s.dev ↑h).offline = true) ∧
    (∃ (n : DieN) (s : State), (dieOf s.dev ↑n).snoopBusy = false) ∧
    (∃ (h : HartN) (s : State), (dieOf s.dev (dieOfHart ↑h)).spareTest = true) ∧
    (∃ (h : HartN) (s : State), (hartOf s.dev ↑h).spareMove = 3) ∧
    (∃ (h : HartN) (s : State),
       is204S s.dev = true ∧
        (hartOf s.dev ↑h).spareUsed = false ∧
         testDue s.dev (dieOf s.dev (dieOfHart ↑h)).spareTestedAt = true ∧ (linkOf s.dev (dieOfHart ↑h)).state ≠ LinkSt.folded) ∧
    (∃ (h : HartN) (s : State),
       (hartOf s.dev ↑h).rest ≠ Rest.running ∧
        wakeHolds s.dev ↑h = true ∧
         dieRuns s.dev (dieOfHart ↑h) = true ∧
          packageStopped s.dev = false ∧ (linkOf s.dev (dieOfHart ↑h)).state ≠ LinkSt.folded ∧ (hartOf s.dev ↑h).haltReq = false) ∧
    (∃ (h : HartN) (s : State),
       (hartOf s.dev ↑h).coreTest = true ∧
        (hartOf s.dev ↑h).retirePend = false ∧
         (hartOf s.dev ↑h).offline = false ∧
          (hartOf s.dev ↑h).spareMove = 0 ∧ (is204S s.dev = false ∨ (hartOf s.dev ↑h).spareUsed = true ∨ spareBusy s.dev (dieOfHart ↑h) = true)) ∧
    (∃ (h : HartN) (s : State),
       (hartOf s.dev ↑h).coreTest = true ∧
        (hartOf s.dev ↑h).retirePend = false ∧
         (hartOf s.dev ↑h).offline = false ∧
          (hartOf s.dev ↑h).spareMove = 0 ∧ is204S s.dev = true ∧ (hartOf s.dev ↑h).spareUsed = false ∧ spareBusy s.dev (dieOfHart ↑h) = false) ∧
    (∃ (h : HartN) (s : State), (hartOf s.dev ↑h).coreTest = true) ∧
    (∃ (h : HartN) (s : State),
       (hartOf s.dev ↑h).rest ≠ Rest.running ∧
        wakeHolds s.dev ↑h = true ∧
         dieRuns s.dev (dieOfHart ↑h) = true ∧
          packageStopped s.dev = false ∧ (linkOf s.dev (dieOfHart ↑h)).state ≠ LinkSt.folded ∧ (hartOf s.dev ↑h).haltReq = false) ∧
    (∃ (h : HartN) (s : State) (want : Rest),
       HartReady s.dev ↑h ∧
        wakeHolds s.dev ↑h = false ∧
         ((hartOf s.dev ↑h).mode = Mode.m ∧ want = restFromMode (hartOf s.dev ↑h).srest ∨
          (hartOf s.dev ↑h).mode = Mode.hs ∧
          getBit (csr (hartOf s.dev ↑h) mstatusN) 21 = false ∧ want = restFromMode (min (hartOf s.dev ↑h).srest (hartOf s.dev ↑h).restMax) ∨
          (hartOf s.dev ↑h).mode = Mode.vs ∧
          getBit (csr (hartOf s.dev ↑h) mstatusN) 21 = false ∧ getBit (csr (hartOf s.dev ↑h) hstatusN) 21 = false ∧ want = Rest.idle) ∧
          ((coreHeld s.dev ↑h || dieHeld s.dev (dieOfHart ↑h)) && normalHart s.dev (hartOf s.dev ↑h) && decide (2 ≤ restRank want)) = false ∧
          want = Rest.fold ∧ mirrorEnabled s.dev = false ∧ ∃ k ∈ liveHarts s.dev (dieOfHart ↑h), k ≠ ↑h ∧ (hartOf s.dev k).rest = Rest.running) ∧
    (∃ (h : HartN) (s : State), HartReady s.dev ↑h ∧ wakeHolds s.dev ↑h = true) ∧
    (∃ (h : HartN) (s : State) (want : Rest),
       HartReady s.dev ↑h ∧
        wakeHolds s.dev ↑h = false ∧
         ((hartOf s.dev ↑h).mode = Mode.m ∧ want = restFromMode (hartOf s.dev ↑h).srest ∨
          (hartOf s.dev ↑h).mode = Mode.hs ∧
          getBit (csr (hartOf s.dev ↑h) mstatusN) 21 = false ∧ want = restFromMode (min (hartOf s.dev ↑h).srest (hartOf s.dev ↑h).restMax) ∨
          (hartOf s.dev ↑h).mode = Mode.vs ∧
          getBit (csr (hartOf s.dev ↑h) mstatusN) 21 = false ∧ getBit (csr (hartOf s.dev ↑h) hstatusN) 21 = false ∧ want = Rest.idle) ∧
          ((coreHeld s.dev ↑h || dieHeld s.dev (dieOfHart ↑h)) && normalHart s.dev (hartOf s.dev ↑h) && decide (2 ≤ restRank want)) = true) ∧
    (∃ (h : HartN) (s : State) (want : Rest),
       HartReady s.dev ↑h ∧
        wakeHolds s.dev ↑h = false ∧
         ((hartOf s.dev ↑h).mode = Mode.m ∧ want = restFromMode (hartOf s.dev ↑h).srest ∨
          (hartOf s.dev ↑h).mode = Mode.hs ∧
          getBit (csr (hartOf s.dev ↑h) mstatusN) 21 = false ∧ want = restFromMode (min (hartOf s.dev ↑h).srest (hartOf s.dev ↑h).restMax) ∨
          (hartOf s.dev ↑h).mode = Mode.vs ∧
          getBit (csr (hartOf s.dev ↑h) mstatusN) 21 = false ∧ getBit (csr (hartOf s.dev ↑h) hstatusN) 21 = false ∧ want = Rest.idle) ∧
          ((coreHeld s.dev ↑h || dieHeld s.dev (dieOfHart ↑h)) && normalHart s.dev (hartOf s.dev ↑h) && decide (2 ≤ restRank want)) = false ∧
          want ≠ Rest.fold ∧ (want = Rest.idle ∨ mirrorEnabled s.dev = false)) ∧
    (∃ (h : HartN) (s : State) (want : Rest),
       HartReady s.dev ↑h ∧
        wakeHolds s.dev ↑h = false ∧
         ((hartOf s.dev ↑h).mode = Mode.m ∧ want = restFromMode (hartOf s.dev ↑h).srest ∨
          (hartOf s.dev ↑h).mode = Mode.hs ∧
          getBit (csr (hartOf s.dev ↑h) mstatusN) 21 = false ∧ want = restFromMode (min (hartOf s.dev ↑h).srest (hartOf s.dev ↑h).restMax) ∨
          (hartOf s.dev ↑h).mode = Mode.vs ∧
          getBit (csr (hartOf s.dev ↑h) mstatusN) 21 = false ∧ getBit (csr (hartOf s.dev ↑h) hstatusN) 21 = false ∧ want = Rest.idle) ∧
          ((coreHeld s.dev ↑h || dieHeld s.dev (dieOfHart ↑h)) && normalHart s.dev (hartOf s.dev ↑h) && decide (2 ≤ restRank want)) = false ∧
          want ≠ Rest.fold ∧ (want = Rest.idle ∨ mirrorEnabled s.dev = false)) ∧
    (∃ (h : HartN) (s : State) (want : Rest),
       HartReady s.dev ↑h ∧
        wakeHolds s.dev ↑h = false ∧
         ((hartOf s.dev ↑h).mode = Mode.m ∧ want = restFromMode (hartOf s.dev ↑h).srest ∨
          (hartOf s.dev ↑h).mode = Mode.hs ∧
          getBit (csr (hartOf s.dev ↑h) mstatusN) 21 = false ∧ want = restFromMode (min (hartOf s.dev ↑h).srest (hartOf s.dev ↑h).restMax) ∨
          (hartOf s.dev ↑h).mode = Mode.vs ∧
          getBit (csr (hartOf s.dev ↑h) mstatusN) 21 = false ∧ getBit (csr (hartOf s.dev ↑h) hstatusN) 21 = false ∧ want = Rest.idle) ∧
          ((coreHeld s.dev ↑h || dieHeld s.dev (dieOfHart ↑h)) && normalHart s.dev (hartOf s.dev ↑h) && decide (2 ≤ restRank want)) = false ∧
          want ≠ Rest.fold ∧ (want = Rest.idle ∨ mirrorEnabled s.dev = false)) :=
  ⟨⟨0, st (dspare (fun x => { x with rest := .retain })), by decide +kernel⟩,
   ⟨0, st (dh (fun x => { x with csr := [(mstatusN, 8), (mieN, 2 ^ 11), (mtvecN, 0x101)], irqPending := [11] })), 11, by decide +kernel⟩,
   ⟨0, st (updHart (dc [(1, some (ln .mm)), (2, some (ln .ss))]) 0 (fun x => { x with offline := true })), by decide +kernel⟩,
   ⟨11, st d0, by decide +kernel⟩,
   ⟨0, st (updDie d0 0 (fun y => { y with spareTest := true })), by decide +kernel⟩,
   ⟨0, st (dh (fun x => { x with spareMove := 3 })), by decide +kernel⟩,
   ⟨0, st (dspare (fun x => { x with spareUsed := false })), by decide +kernel⟩,
   ⟨0, st (dh (fun x => { x with rest := .retain, parked := true, pc := 0x80, csr := [(mieN, 2 ^ 11)], irqPending := [11] })), by decide +kernel⟩,
   ⟨0, st (dh (fun x => { x with coreTest := true, rest := .retain })), by decide +kernel⟩,
   ⟨0, st (dspare (fun x => { x with coreTest := true, rest := .retain, spareUsed := false })), by decide +kernel⟩,
   ⟨0, st (dh (fun x => { x with coreTest := true, rest := .retain })), by decide +kernel⟩,
   ⟨0, st (dh (fun x => { x with rest := .retain, csr := [(mieN, 2 ^ 11)], irqPending := [11] })), by decide +kernel⟩,
   ⟨0, st { d0 with harts := [(0, { hartInit with released := true, srest := 2 }), (1, { hartInit with released := true })] }, .fold, by decide +kernel⟩,
   ⟨0, st (dh (fun x => { x with csr := [(mieN, 2 ^ 11)], irqPending := [11] })), by decide +kernel⟩,
   ⟨0, st { dsec with holdUnits := 1, harts := [(0, { hartInit with released := true, mode := .hs, srest := 1 })], list := { dsec.list with cur := dsec.list.cur ++ [(ekey 0x7022 1, some (.num 0xFFF))] } }, .retain, by decide +kernel⟩,
   ⟨0, st d0, .idle, by decide +kernel⟩,
   ⟨0, st (dh (fun x => { x with mode := .hs, srest := 1 })), .retain, by decide +kernel⟩,
   ⟨0, st (dh (fun x => { x with mode := .vs })), .idle, by decide +kernel⟩⟩

theorem witness_EnclaveEntryAndExit :
    (∃ (h : HartN) (rs1 : RegN) (s : State) (k : ℕ) (sl : Slot),
       HartReady s.dev ↑h ∧
        ((hartOf s.dev ↑h).mode = Mode.hs ∨ (hartOf s.dev ↑h).mode = Mode.u ∨ (hartOf s.dev ↑h).mode = Mode.vu) ∧
         (hartOf s.dev ↑h).eid = 0 ∧
          xReg (hartOf s.dev ↑h) ↑rs1 ≠ 0 ∧
          xReg (hartOf s.dev ↑h) ↑rs1 < 4096 ∧
          (enclOf s.dev (xReg (hartOf s.dev ↑h) ↑rs1)).state = 2 ∧
          getBit (enclOf s.dev (xReg (hartOf s.dev ↑h) ↑rs1)).attr 2 = (secureExists s.dev && (hartOf s.dev ↑h).lowerSecure) ∧
          List.find?
          (fun (k : ℕ) =>
          match tabGet none (enclOf s.dev (xReg (hartOf s.dev ↑h) ↑rs1)).slots k with
          | some s => s.hart == ↑h && s.interrupted
          | none => false)
          (List.range (getBits (enclOf s.dev (xReg (hartOf s.dev ↑h) ↑rs1)).attr 8 8)) =
          some k ∧
          tabGet none (enclOf s.dev (xReg (hartOf s.dev ↑h) ↑rs1)).slots k = some sl) ∧
    (∃ (h : HartN) (rs1 : RegN) (s : State),
       HartReady s.dev ↑h ∧
        ((hartOf s.dev ↑h).mode = Mode.hs ∨ (hartOf s.dev ↑h).mode = Mode.u ∨ (hartOf s.dev ↑h).mode = Mode.vu) ∧ (hartOf s.dev ↑h).eid ≠ 0) ∧
    (∃ (h : HartN) (rs1 : RegN) (s : State) (k : ℕ),
       HartReady s.dev ↑h ∧
        ((hartOf s.dev ↑h).mode = Mode.hs ∨ (hartOf s.dev ↑h).mode = Mode.u ∨ (hartOf s.dev ↑h).mode = Mode.vu) ∧
         (hartOf s.dev ↑h).eid = 0 ∧
          xReg (hartOf s.dev ↑h) ↑rs1 ≠ 0 ∧
          xReg (hartOf s.dev ↑h) ↑rs1 < 4096 ∧
          (enclOf s.dev (xReg (hartOf s.dev ↑h) ↑rs1)).state = 2 ∧
          getBit (enclOf s.dev (xReg (hartOf s.dev ↑h) ↑rs1)).attr 2 = (secureExists s.dev && (hartOf s.dev ↑h).lowerSecure) ∧
          List.find?
          (fun (k : ℕ) =>
          match tabGet none (enclOf s.dev (xReg (hartOf s.dev ↑h) ↑rs1)).slots k with
          | some s => s.hart == ↑h && s.interrupted
          | none => false)
          (List.range (getBits (enclOf s.dev (xReg (hartOf s.dev ↑h) ↑rs1)).attr 8 8)) =
          none ∧
          List.find? (fun (k : ℕ) => (tabGet none (enclOf s.dev (xReg (hartOf s.dev ↑h) ↑rs1)).slots k).isNone)
          (List.range (getBits (enclOf s.dev (xReg (hartOf s.dev ↑h) ↑rs1)).attr 8 8)) =
          some k) ∧
    (∃ (h : HartN) (s : State) (sl : Slot),
       HartReady s.dev ↑h ∧ (hartOf s.dev ↑h).eid ≠ 0 ∧ tabGet none (enclOf s.dev (hartOf s.dev ↑h).eid).slots (hartOf s.dev ↑h).slot = some sl) ∧
    (∃ (h : HartN) (rs1 : RegN) (s : State),
       HartReady s.dev ↑h ∧
        ((hartOf s.dev ↑h).mode = Mode.hs ∨ (hartOf s.dev ↑h).mode = Mode.u ∨ (hartOf s.dev ↑h).mode = Mode.vu) ∧
         (hartOf s.dev ↑h).eid = 0 ∧
          xReg (hartOf s.dev ↑h) ↑rs1 ≠ 0 ∧
          xReg (hartOf s.dev ↑h) ↑rs1 < 4096 ∧
          (enclOf s.dev (xReg (hartOf s.dev ↑h) ↑rs1)).state = 2 ∧
          getBit (enclOf s.dev (xReg (hartOf s.dev ↑h) ↑rs1)).attr 2 = (secureExists s.dev && (hartOf s.dev ↑h).lowerSecure) ∧
          List.find?
          (fun (k : ℕ) =>
          match tabGet none (enclOf s.dev (xReg (hartOf s.dev ↑h) ↑rs1)).slots k with
          | some s => s.hart == ↑h && s.interrupted
          | none => false)
          (List.range (getBits (enclOf s.dev (xReg (hartOf s.dev ↑h) ↑rs1)).attr 8 8)) =
          none ∧
          List.find? (fun (k : ℕ) => (tabGet none (enclOf s.dev (xReg (hartOf s.dev ↑h) ↑rs1)).slots k).isNone)
          (List.range (getBits (enclOf s.dev (xReg (hartOf s.dev ↑h) ↑rs1)).attr 8 8)) =
          none) ∧
    (∃ (h : HartN) (rs1 : RegN) (s : State),
       HartReady s.dev ↑h ∧
        ((hartOf s.dev ↑h).mode = Mode.hs ∨ (hartOf s.dev ↑h).mode = Mode.u ∨ (hartOf s.dev ↑h).mode = Mode.vu) ∧
         (hartOf s.dev ↑h).eid = 0 ∧
          (xReg (hartOf s.dev ↑h) ↑rs1 = 0 ∨ 4096 ≤ xReg (hartOf s.dev ↑h) ↑rs1 ∨ (enclOf s.dev (xReg (hartOf s.dev ↑h) ↑rs1)).state ≠ 2)) ∧
    (∃ (h : HartN) (rs1 : RegN) (s : State),
       HartReady s.dev ↑h ∧
        (hartOf s.dev ↑h).mode = Mode.m ∧
         secureExists s.dev = true ∧
          xReg (hartOf s.dev ↑h) ↑rs1 % 4096 = 0 ∧
          isMain s.dev (xReg (hartOf s.dev ↑h) ↑rs1) = true ∧ potClass (potEntry s.dev (xReg (hartOf s.dev ↑h) ↑rs1)) = 1) ∧
    (∃ (h : HartN) (rs1 : RegN) (s : State),
       HartReady s.dev ↑h ∧
        ((hartOf s.dev ↑h).mode = Mode.hs ∨ (hartOf s.dev ↑h).mode = Mode.u ∨ (hartOf s.dev ↑h).mode = Mode.vu) ∧
         (hartOf s.dev ↑h).eid = 0 ∧
          xReg (hartOf s.dev ↑h) ↑rs1 ≠ 0 ∧
          xReg (hartOf s.dev ↑h) ↑rs1 < 4096 ∧
          (enclOf s.dev (xReg (hartOf s.dev ↑h) ↑rs1)).state = 2 ∧
          getBit (enclOf s.dev (xReg (hartOf s.dev ↑h) ↑rs1)).attr 2 ≠ (secureExists s.dev && (hartOf s.dev ↑h).lowerSecure)) :=
  ⟨⟨0, 5, st { dh (fun x => { x with mode := .hs, x := [(5, 7), (10, 3), (31, 9)] }) with encl := [(7, { enclaveInit with state := 2, entry := 0x80, attr := 0x200, slots := [(1, some { sl with interrupted := true })] })] }, 1, { sl with interrupted := true }, by decide +kernel⟩,
   ⟨0, 5, st (dh (fun x => { x with mode := .hs, eid := 7 })), by decide +kernel⟩,
   ⟨0, 5, st { dh (fun x => { x with mode := .hs, x := [(5, 7), (10, 3), (31, 9)] }) with encl := [(7, { enclaveInit with state := 2, entry := 0x80, attr := 0x200, slots := [(0, some { sl with hart := 3 })] })] }, 1, by decide +kernel⟩,
   ⟨0, st { dh (fun x => { x with mode := .u, eid := 7, slot := 2, x := [(10, 3)] }) with encl := [(7, { enclaveInit with state := 2, slots := [(2, some sl)] })] }, sl, by decide +kernel⟩,
   ⟨0, 5, st { dh (fun x => { x with mode := .vu, x := [(5, 7)] }) with encl := [(7, { enclaveInit with state := 2, entry := 0x80, attr := 0x100, slots := [(0, some { sl with hart := 3 })] })] }, by decide +kernel⟩,
   ⟨0, 5, st (dh (fun x => { x with mode := .hs, x := [(5, 7)] })), by decide +kernel⟩,
   ⟨0, 5, st dsec, by decide +kernel⟩,
   ⟨0, 5, st { dh (fun x => { x with mode := .u, x := [(5, 7)] }) with encl := [(7, { enclaveInit with state := 2, entry := 0x80, attr := 0x104 })] }, by decide +kernel⟩⟩

theorem witness_TrackerEntries :
    (∃ (who : AgentId) (addr : ℕ) (s : State) (i : Instr) (op : AgentOp) (pool : Bool),
       (i = Instr.agentRead who addr ∧ op = AgentOp.read ∨
         (∃ (x : Line) (k : ℕ), i = Instr.agentWrite who addr x k ∧ op = AgentOp.write x (k % 2 ^ 64)) ∨
          ∃ (o : ℕ) (a : ℕ) (b : ℕ), i = Instr.agentAtomic who addr o a b ∧ op = AgentOp.atomic (addr % 64 / 8 * 8) o (a % 2 ^ 64) (b % 2 ^ 64)) ∧
        isMain s.dev addr = true ∧
         (∀ (rp tag : ℕ) (t : IoTr), who ≠ AgentId.device rp tag (some t)) ∧
          (∀ (rp tag : ℕ), who = AgentId.device rp tag none → getBit (potRights (potEntry s.dev addr) Ident.normal) (b2n (opWrites op)) = true) ∧
          (∀ e ∈ (sliceOf_ s.dev (homeSlice s.dev (lineOf addr * 64))).ingress, e.1 ≠ holderOf who ∧ e.2.1 ≠ lineOf addr) ∧
          entryFor s.dev (homeSlice s.dev (lineOf addr * 64)) (holderOf who) = some pool) ∧
    (∃ (who : AgentId) (addr : ℕ) (s : State) (i : Instr) (op : AgentOp) (pool : Bool),
       (i = Instr.agentRead who addr ∧ op = AgentOp.read ∨
         (∃ (x : Line) (k : ℕ), i = Instr.agentWrite who addr x k ∧ op = AgentOp.write x (k % 2 ^ 64)) ∨
          ∃ (o : ℕ) (a : ℕ) (b : ℕ), i = Instr.agentAtomic who addr o a b ∧ op = AgentOp.atomic (addr % 64 / 8 * 8) o (a % 2 ^ 64) (b % 2 ^ 64)) ∧
        isMain s.dev addr = true ∧
         (∀ (rp tag : ℕ) (t : IoTr), who ≠ AgentId.device rp tag (some t)) ∧
          (∀ (rp tag : ℕ), who = AgentId.device rp tag none → getBit (potRights (potEntry s.dev addr) Ident.normal) (b2n (opWrites op)) = true) ∧
          (∀ e ∈ (sliceOf_ s.dev (homeSlice s.dev (lineOf addr * 64))).ingress, e.1 ≠ holderOf who ∧ e.2.1 ≠ lineOf addr) ∧
          entryFor s.dev (homeSlice s.dev (lineOf addr * 64)) (holderOf who) = some pool) ∧
    (∃ (m : FMsg) (s : State) (i : Instr) (op : Op) (pool : Bool) (e : DirEnt),
       (i = Instr.rds m ∧ op = Op.rds ∨
         i = Instr.rdc m ∧ op = Op.rdc ∨
          i = Instr.rdw m ∧ op = Op.rdw ∨
          i = Instr.rdx m ∧ op = Op.rdx ∨
          i = Instr.upg m ∧ op = Op.upg ∨
          i = Instr.zro m ∧ op = Op.zro ∨ i = Instr.cln m ∧ op = Op.cln ∨ i = Instr.fls m ∧ op = Op.fls ∨ i = Instr.inv m ∧ op = Op.inv) ∧
        InService s.dev m ∧
         isMain s.dev m.addr = true ∧
          m.die < 12 ∧
          Passes s.dev m.die ∧
          (∀ e ∈ (sliceOf_ s.dev (homeSlice s.dev (lineOf m.addr * 64))).ingress, e.1 ≠ m.die ∧ e.2.1 ≠ lineOf m.addr) ∧
          entryFor s.dev (homeSlice s.dev (lineOf m.addr * 64)) m.die = some pool ∧
          SliceIdle s.dev (lineOf m.addr) ∧ dirOf s.dev (lineOf m.addr) = some e ∧ (e.st = DState.x ∨ e.st = DState.o) ∧ e.owner ≠ m.die) ∧
    (∃ (who : AgentId) (addr : ℕ) (s : State) (i : Instr) (op : AgentOp) (pool : Bool) (rp : ℕ) (tag : ℕ),
       (i = Instr.agentRead who addr ∧ op = AgentOp.read ∨
         (∃ (x : Line) (k : ℕ), i = Instr.agentWrite who addr x k ∧ op = AgentOp.write x (k % 2 ^ 64)) ∨
          ∃ (o : ℕ) (a : ℕ) (b : ℕ), i = Instr.agentAtomic who addr o a b ∧ op = AgentOp.atomic (addr % 64 / 8 * 8) o (a % 2 ^ 64) (b % 2 ^ 64)) ∧
        isMain s.dev addr = true ∧
         who = AgentId.device rp tag none ∧
          ¬getBit (potRights (potEntry s.dev addr) Ident.normal) (b2n (opWrites op)) = true ∧
          potClass (potEntry s.dev addr) ≠ 5 ∧ potClass (potEntry s.dev addr) ≠ 7) ∧
    (∃ (m : FMsg) (s : State) (i : Instr) (op : Op) (pool : Bool) (e : DirEnt),
       (i = Instr.rds m ∧ op = Op.rds ∨
         i = Instr.rdc m ∧ op = Op.rdc ∨
          i = Instr.rdw m ∧ op = Op.rdw ∨
          i = Instr.rdx m ∧ op = Op.rdx ∨
          i = Instr.upg m ∧ op = Op.upg ∨
          i = Instr.zro m ∧ op = Op.zro ∨ i = Instr.cln m ∧ op = Op.cln ∨ i = Instr.fls m ∧ op = Op.fls ∨ i = Instr.inv m ∧ op = Op.inv) ∧
        InService s.dev m ∧
         isMain s.dev m.addr = true ∧
          m.die < 12 ∧
          Passes s.dev m.die ∧
          (∀ e ∈ (sliceOf_ s.dev (homeSlice s.dev (lineOf m.addr * 64))).ingress, e.1 ≠ m.die ∧ e.2.1 ≠ lineOf m.addr) ∧
          entryFor s.dev (homeSlice s.dev (lineOf m.addr * 64)) m.die = some pool ∧
          SliceIdle s.dev (lineOf m.addr) ∧ dirOf s.dev (lineOf m.addr) = some e ∧ (e.st = DState.x ∨ e.st = DState.o) ∧ e.owner ≠ m.die) ∧
    (∃ (m : FMsg) (s : State) (i : Instr) (op : Op) (pool : Bool) (e : DirEnt),
       (i = Instr.rds m ∧ op = Op.rds ∨
         i = Instr.rdc m ∧ op = Op.rdc ∨
          i = Instr.rdw m ∧ op = Op.rdw ∨
          i = Instr.rdx m ∧ op = Op.rdx ∨
          i = Instr.upg m ∧ op = Op.upg ∨
          i = Instr.zro m ∧ op = Op.zro ∨ i = Instr.cln m ∧ op = Op.cln ∨ i = Instr.fls m ∧ op = Op.fls ∨ i = Instr.inv m ∧ op = Op.inv) ∧
        InService s.dev m ∧
         isMain s.dev m.addr = true ∧
          m.die < 12 ∧
          Passes s.dev m.die ∧
          (∀ e ∈ (sliceOf_ s.dev (homeSlice s.dev (lineOf m.addr * 64))).ingress, e.1 ≠ m.die ∧ e.2.1 ≠ lineOf m.addr) ∧
          entryFor s.dev (homeSlice s.dev (lineOf m.addr * 64)) m.die = some pool ∧
          SliceIdle s.dev (lineOf m.addr) ∧ dirOf s.dev (lineOf m.addr) = some e ∧ (e.st = DState.x ∨ e.st = DState.o) ∧ e.owner ≠ m.die) ∧
    (∃ (m : FMsg) (s : State) (i : Instr) (op : Op) (pool : Bool) (e : DirEnt),
       (i = Instr.rds m ∧ op = Op.rds ∨
         i = Instr.rdc m ∧ op = Op.rdc ∨
          i = Instr.rdw m ∧ op = Op.rdw ∨
          i = Instr.rdx m ∧ op = Op.rdx ∨
          i = Instr.upg m ∧ op = Op.upg ∨
          i = Instr.zro m ∧ op = Op.zro ∨ i = Instr.cln m ∧ op = Op.cln ∨ i = Instr.fls m ∧ op = Op.fls ∨ i = Instr.inv m ∧ op = Op.inv) ∧
        InService s.dev m ∧
         isMain s.dev m.addr = true ∧
          m.die < 12 ∧
          Passes s.dev m.die ∧
          (∀ e ∈ (sliceOf_ s.dev (homeSlice s.dev (lineOf m.addr * 64))).ingress, e.1 ≠ m.die ∧ e.2.1 ≠ lineOf m.addr) ∧
          entryFor s.dev (homeSlice s.dev (lineOf m.addr * 64)) m.die = some pool ∧
          SliceIdle s.dev (lineOf m.addr) ∧ dirOf s.dev (lineOf m.addr) = some e ∧ (e.st = DState.x ∨ e.st = DState.o) ∧ e.owner ≠ m.die) ∧
    (∃ (m : FMsg) (s : State) (i : Instr) (op : Op) (pool : Bool),
       (i = Instr.rds m ∧ op = Op.rds ∨
         i = Instr.rdc m ∧ op = Op.rdc ∨
          i = Instr.rdw m ∧ op = Op.rdw ∨
          i = Instr.rdx m ∧ op = Op.rdx ∨
          i = Instr.upg m ∧ op = Op.upg ∨
          i = Instr.zro m ∧ op = Op.zro ∨ i = Instr.cln m ∧ op = Op.cln ∨ i = Instr.fls m ∧ op = Op.fls ∨ i = Instr.inv m ∧ op = Op.inv) ∧
        InService s.dev m ∧
         isMain s.dev m.addr = true ∧
          m.die < 12 ∧
          Passes s.dev m.die ∧
          (∀ e ∈ (sliceOf_ s.dev (homeSlice s.dev (lineOf m.addr * 64))).ingress, e.1 ≠ m.die ∧ e.2.1 ≠ lineOf m.addr) ∧
          entryFor s.dev (homeSlice s.dev (lineOf m.addr * 64)) m.die = some pool) :=
  ⟨⟨.hub 0, 0x48, st d0, .agentAtomic (.hub 0) 0x48 0 1 2, .atomic 8 0 1 2, true, (by first | (simp; decide +kernel) | exact ⟨rfl, rfl, rfl, rfl, rfl, rfl, by decide +kernel, all_some rfl rfl⟩ | simp), by decide +kernel, (by first | decide +kernel | exact all_some rfl (by decide +kernel) | simp), (by first | decide +kernel | exact all_some rfl (by decide +kernel) | simp), by decide +kernel, by decide +kernel⟩,
   ⟨.bench 3 0, 0x40, st d0, .agentRead (.bench 3 0) 0x40, .read, false, (by first | (simp; decide +kernel) | exact ⟨rfl, rfl, rfl, rfl, rfl, rfl, by decide +kernel, all_some rfl rfl⟩ | simp), by decide +kernel, (by first | decide +kernel | exact all_some rfl (by decide +kernel) | simp), (by first | decide +kernel | exact all_some rfl (by decide +kernel) | simp), by decide +kernel, by decide +kernel⟩,
   ⟨{ fm .rds 0x40 with die := 1 }, st { d0 with slices := [(0, { sliceInit with dir := [(1, some ⟨.x, 0, 1, 0, 0⟩)] })] }, .cln { fm .rds 0x40 with die := 1 }, .cln, false, ⟨.x, 0, 1, 0, 0⟩, (by first | (simp; decide +kernel) | exact ⟨rfl, rfl, rfl, rfl, rfl, rfl, by decide +kernel, all_some rfl rfl⟩ | simp), by decide +kernel, by decide +kernel, by decide +kernel, by decide +kernel, by decide +kernel, by decide +kernel, (by first | (simp; decide +kernel) | exact ⟨rfl, rfl, rfl, rfl, rfl, rfl, by decide +kernel, all_some rfl rfl⟩ | simp), by decide +kernel, by decide +kernel, by decide +kernel⟩,
   ⟨.device 0 5 none, 0, st dsec, .agentWrite (.device 0 5 none) 0 0 1, .write 0 1, false, 0, 5, (by first | (simp; decide +kernel) | exact ⟨rfl, rfl, rfl, rfl, rfl, rfl, by decide +kernel, all_some rfl rfl⟩ | simp), by decide +kernel, by decide +kernel, by decide +kernel, by decide +kernel, by decide +kernel⟩,
   ⟨{ fm .rds 0x40 with die := 1 }, st { d0 with slices := [(0, { sliceInit with dir := [(1, some ⟨.o, 0, 5, 0, 0⟩)] })] }, .inv { fm .rds 0x40 with die := 1 }, .inv, false, ⟨.o, 0, 5, 0, 0⟩, (by first | (simp; decide +kernel) | exact ⟨rfl, rfl, rfl, rfl, rfl, rfl, by decide +kernel, all_some rfl rfl⟩ | simp), by decide +kernel, by decide +kernel, by decide +kernel, by decide +kernel, by decide +kernel, by decide +kernel, (by first | (simp; decide +kernel) | exact ⟨rfl, rfl, rfl, rfl, rfl, rfl, by decide +kernel, all_some rfl rfl⟩ | simp), by decide +kernel, by decide +kernel, by decide +kernel⟩,
   ⟨{ fm .rds 0x40 with die := 1 }, st { d0 with slices := [(0, { sliceInit with dir := [(1, some ⟨.x, 0, 1, 0, 0⟩)] })] }, .rds { fm .rds 0x40 with die := 1 }, .rds, false, ⟨.x, 0, 1, 0, 0⟩, (by first | (simp; decide +kernel) | exact ⟨rfl, rfl, rfl, rfl, rfl, rfl, by decide +kernel, all_some rfl rfl⟩ | simp), by decide +kernel, by decide +kernel, by decide +kernel, by decide +kernel, by decide +kernel, by decide +kernel, (by first | (simp; decide +kernel) | exact ⟨rfl, rfl, rfl, rfl, rfl, rfl, by decide +kernel, all_some rfl rfl⟩ | simp), by decide +kernel, by decide +kernel, by decide +kernel⟩,
   ⟨{ fm .rds 0x40 with die := 1 }, st { d0 with slices := [(0, { sliceInit with dir := [(1, some ⟨.o, 0, 5, 0, 0⟩)] })] }, .rdx { fm .rds 0x40 with die := 1 }, .rdx, false, ⟨.o, 0, 5, 0, 0⟩, (by first | (simp; decide +kernel) | exact ⟨rfl, rfl, rfl, rfl, rfl, rfl, by decide +kernel, all_some rfl rfl⟩ | simp), by decide +kernel, by decide +kernel, by decide +kernel, by decide +kernel, by decide +kernel, by decide +kernel, (by first | (simp; decide +kernel) | exact ⟨rfl, rfl, rfl, rfl, rfl, rfl, by decide +kernel, all_some rfl rfl⟩ | simp), by decide +kernel, by decide +kernel, by decide +kernel⟩,
   ⟨fm .rds 0x40, st d0, .rds (fm .rds 0x40), .rds, false, (by first | (simp; decide +kernel) | exact ⟨rfl, rfl, rfl, rfl, rfl, rfl, by decide +kernel, all_some rfl rfl⟩ | simp), by decide +kernel, by decide +kernel, by decide +kernel, by decide +kernel, by decide +kernel, by decide +kernel⟩⟩

theorem witness_StaleMessagesAreDropped :
    (∃ (m : FMsg) (file : Fin 9) (s : State) (i : Instr),
       Passes s.dev m.die ∧
        m.inc ≠ (dieOf s.dev m.die).inc ∧
         (i ∈
          [Instr.cmp m, Instr.kdone m, Instr.wbAck m, Instr.wbXack m, Instr.dataNc m, Instr.fwdS m, Instr.fwdX m, Instr.snpInv m, Instr.snpPeek m,
          Instr.snpClean m, Instr.snpFlush m, Instr.binv m] ∨
          m.up = false ∧ i ∈ [Instr.dataS m, Instr.dataE m, Instr.dataM m] ∨ i = Instr.imsw m file ∧ (dieOf s.dev m.die).retired = false)) ∧
    (∃ (m : FMsg) (s : State) (i : Instr),
       Passes s.dev m.die ∧
        (m.inc ≠ (dieOf s.dev m.die).inc ∨ (dieOf s.dev m.die).retired = true) ∧
         (i ∈
          [Instr.rds m, Instr.rdc m, Instr.rdw m, Instr.rdx m, Instr.upg m, Instr.zro m, Instr.cln m, Instr.fls m, Instr.inv m, Instr.snpAck m,
          Instr.fwdAck m, Instr.killDone m, Instr.protEnd m, Instr.dataSnp m, Instr.wbM m, Instr.wbP m, Instr.evn m] ∨
          m.up = true ∧ i ∈ [Instr.dataS m, Instr.dataE m, Instr.dataM m])) ∧
    (∃ (m : FMsg) (s : State) (i : Instr),
       Passes s.dev m.die ∧
        (m.inc ≠ (dieOf s.dev m.die).inc ∨ (dieOf s.dev m.die).retired = true) ∧
         (i ∈
          [Instr.rds m, Instr.rdc m, Instr.rdw m, Instr.rdx m, Instr.upg m, Instr.zro m, Instr.cln m, Instr.fls m, Instr.inv m, Instr.snpAck m,
          Instr.fwdAck m, Instr.killDone m, Instr.protEnd m, Instr.dataSnp m, Instr.wbM m, Instr.wbP m, Instr.evn m] ∨
          m.up = true ∧ i ∈ [Instr.dataS m, Instr.dataE m, Instr.dataM m])) ∧
    (∃ (m : FMsg) (file : Fin 9) (s : State) (i : Instr),
       linkStalls (linkOf s.dev m.die) = true ∧
        i ∈
         [Instr.rds m, Instr.rdc m, Instr.rdw m, Instr.rdx m, Instr.upg m, Instr.zro m, Instr.cln m, Instr.fls m, Instr.inv m, Instr.snpAck m,
          Instr.fwdAck m, Instr.killDone m, Instr.protEnd m, Instr.dataSnp m, Instr.wbM m, Instr.wbP m, Instr.evn m, Instr.dataS m, Instr.dataE m,
          Instr.dataM m, Instr.cmp m, Instr.kdone m, Instr.wbAck m, Instr.wbXack m, Instr.dataNc m, Instr.fwdS m, Instr.fwdX m, Instr.snpInv m,
          Instr.snpPeek m, Instr.snpClean m, Instr.snpFlush m, Instr.binv m, Instr.imsw m file]) :=
  ⟨⟨{ fm .rds 0 with inc := 2, up := false }, 0, st d0, .kdone { fm .rds 0 with inc := 2, up := false }, by decide +kernel, by decide +kernel, (by first | (simp; decide +kernel) | exact ⟨rfl, rfl, rfl, rfl, rfl, rfl, by decide +kernel, all_some rfl rfl⟩ | simp)⟩,
   ⟨{ fm .rds 0 with inc := 2 }, st d0, .wbP { fm .rds 0 with inc := 2 }, by decide +kernel, by decide +kernel, (by first | (simp; decide +kernel) | exact ⟨rfl, rfl, rfl, rfl, rfl, rfl, by decide +kernel, all_some rfl rfl⟩ | simp)⟩,
   ⟨{ fm .rds 0 with die := 11 }, st (updDie d0 11 (fun x => { x with retired := true })), .rds { fm .rds 0 with die := 11 }, by decide +kernel, by decide +kernel, (by first | (simp; decide +kernel) | exact ⟨rfl, rfl, rfl, rfl, rfl, rfl, by decide +kernel, all_some rfl rfl⟩ | simp)⟩,
   ⟨fm .rds 0, 0, st { d0 with links := [(0, { linkInit with state := .training })] }, .cmp (fm .rds 0), by decide +kernel, (by first | (simp; decide +kernel) | exact ⟨rfl, rfl, rfl, rfl, rfl, rfl, by decide +kernel, all_some rfl rfl⟩ | simp)⟩⟩

theorem witness_SnoopsChangeTheCopy :
    (∃ (m : FMsg) (s : State) (l : DLine),
       m.inc = (dieOf s.dev m.die).inc ∧
        Passes s.dev m.die ∧
         missOf s.dev m.die (lineOf m.addr) = none ∧
          resvDefers s.dev m.die (lineOf m.addr) = none ∧
          dieLine s.dev m.die (lineOf m.addr) = some l ∧
          wbOf s.dev m.die (lineOf m.addr) = none ∧
          (linkOf s.dev m.die).state ≠ LinkSt.folded ∧ ∀ h ∈ hartsOfDie m.die, (hartOf s.dev h).rest ≠ Rest.retain) ∧
    (∃ (m : FMsg) (s : State) (l : DLine),
       m.inc = (dieOf s.dev m.die).inc ∧
        Passes s.dev m.die ∧
         missOf s.dev m.die (lineOf m.addr) = none ∧
          resvDefers s.dev m.die (lineOf m.addr) = none ∧
          dieLine s.dev m.die (lineOf m.addr) = some l ∧
          wbOf s.dev m.die (lineOf m.addr) = none ∧
          (linkOf s.dev m.die).state ≠ LinkSt.folded ∧ ∀ h ∈ hartsOfDie m.die, (hartOf s.dev h).rest ≠ Rest.retain) :=
  ⟨⟨{ fm .rds 0x40 with up := false }, st (dc [(1, some { ln .mm with walked := 1 })]), { ln .mm with walked := 1 }, by decide +kernel⟩,
   ⟨{ fm .rds 0x7F with up := false }, st (dc [(1, some (ln .ss))]), ln .ss, by decide +kernel⟩⟩

theorem witness_AnswersMoveTheTracker :
    (∃ (m : FMsg) (s : State), InService s.dev m ∧ Passes s.dev m.die) ∧
    (∃ (m : FMsg) (s : State) (t : Trk) (w : AgentId) (op : AgentOp),
       InService s.dev m ∧ Passes s.dev m.die ∧ trkOf s.dev m.txid = some t ∧ t.victims = [] ∧ t.req = Req.agent w op) ∧
    (∃ (m : FMsg) (s : State) (t : Trk) (q : FMsg) (e : DirEnt),
       InService s.dev m ∧
        Passes s.dev m.die ∧
         trkOf s.dev m.txid = some t ∧ t.victims = [] ∧ t.req = Req.die q ∧ q.op = Op.cln ∧ m.dirty = true ∧ dirOf s.dev t.line = some e) ∧
    (∃ (m : FMsg) (s : State) (t : Trk), InService s.dev m ∧ Passes s.dev m.die ∧ trkOf s.dev m.txid = some t ∧ m.held = false) ∧
    (∃ (m : FMsg) (s : State) (t : Trk) (q : FMsg) (e : DirEnt),
       InService s.dev m ∧
        Passes s.dev m.die ∧
         trkOf s.dev m.txid = some t ∧
          t.req = Req.die q ∧
          (q.op = Op.rds ∨ q.op = Op.rdc ∨ q.op = Op.rdw) ∧
          m.held = true ∧
          t.late = false ∧
          t.holder < 12 ∧
          (dieOf s.dev t.holder).retired = false ∧ dirOf s.dev t.line = some e ∧ e.owner = m.die ∧ (e.st = DState.x ∨ e.st = DState.o)) ∧
    (∃ (m : FMsg) (s : State), InService s.dev m ∧ Passes s.dev m.die) ∧
    (∃ (m : FMsg) (s : State), InService s.dev m ∧ Passes s.dev m.die) ∧
    (∃ (m : FMsg) (s : State) (line : ℕ) (n : ℕ),
       InService s.dev m ∧
        Passes s.dev m.die ∧ List.find? (fun (e : ℕ × ℕ) => e.1 == line) (sliceOf_ s.dev (homeSlice s.dev (line * 64))).protect = some (line, n)) ∧
    (∃ (m : FMsg) (s : State) (t : Trk) (q : FMsg),
       InService s.dev m ∧ Passes s.dev m.die ∧ trkOf s.dev m.txid = some t ∧ t.victims = [] ∧ t.req = Req.die q ∧ (q.op = Op.fls ∨ q.op = Op.inv)) ∧
    (∃ (m : FMsg) (s : State) (t : Trk) (v : ℕ),
       InService s.dev m ∧ Passes s.dev m.die ∧ trkOf s.dev m.txid = some t ∧ t.victim = some v ∧ m.die ∈ t.victims) :=
  ⟨⟨fm .snpAck 0, st { d0 with slices := [(0, { sliceInit with trk := [{ tk with acks := [0, 2], fwdTo := none }] })] }, by decide +kernel⟩,
   ⟨{ fm .dataSnp 0x40 with dirty := true }, st { d0 with slices := [(0, { sliceInit with trk := [{ tk with holder := 12, req := .agent (.bench 0 0) .read, fwdTo := none }], dir := [(1, some ⟨.o, 0, 5, 0, 0⟩)] })] }, { tk with holder := 12, req := .agent (.bench 0 0) .read, fwdTo := none }, .bench 0 0, .read, by decide +kernel⟩,
   ⟨{ fm .dataSnp 0x40 with dirty := true }, st { d0 with slices := [(0, { sliceInit with trk := [{ tk with req := .die (fm .cln 0x40), fwdTo := none }], dir := [(1, some ⟨.o, 0, 5, 0, 0⟩)] })] }, { tk with req := .die (fm .cln 0x40), fwdTo := none }, fm .cln 0x40, ⟨.o, 0, 5, 0, 0⟩, by decide +kernel⟩,
   ⟨{ fm .fwdAck 0x40 with held := false }, st { dc [(1, some (ln .mm))] with slices := [(0, { sliceInit with trk := [tk], dir := [(1, some ⟨.x, 0, 1, 0, 0⟩)] })] }, tk, by decide +kernel⟩,
   ⟨{ fm .fwdAck 0x40 with held := true }, st { d0 with slices := [(0, { sliceInit with trk := [tk], dir := [(1, some ⟨.x, 0, 1, 0, 0⟩)] })] }, tk, { fm .rds 0x40 with die := 1 }, ⟨.x, 0, 1, 0, 0⟩, by decide +kernel⟩,
   ⟨fm .killDone 0, st { d0 with slices := [(0, { sliceInit with trk := [{ tk with acks := [], kills := [0, 2], hadKills := true, fwdTo := none }] })] }, by decide +kernel⟩,
   ⟨fm .protEnd 0x40, st { d0 with slices := [(0, { sliceInit with protect := [(1, 0), (1, 1), (2, 0)] })] }, by decide +kernel⟩,
   ⟨fm .snpAck 0, st { d0 with slices := [(0, { sliceInit with protect := [(1, 0), (1, 1), (2, 0)] })] }, 1, 0, by decide +kernel⟩,
   ⟨{ fm .dataSnp 0x40 with dirty := true }, st { d0 with slices := [(0, { sliceInit with trk := [{ tk with req := .die (fm .inv 0x40), fwdTo := none }] })] }, { tk with req := .die (fm .inv 0x40), fwdTo := none }, fm .inv 0x40, by decide +kernel⟩,
   ⟨{ fm .dataSnp 0x80 with dirty := true }, st { d0 with slices := [(0, { sliceInit with trk := [{ tk with acks := [], fwdTo := none, victims := [0], victim := some 2, started := true, acted := false }], dir := [(2, some ⟨.x, 0, 1, 0, 0⟩)] })] }, { tk with acks := [], fwdTo := none, victims := [0], victim := some 2, started := true, acted := false }, 2, by decide +kernel⟩⟩

theorem witness_FillsInstallLines :
    (∃ (m : FMsg) (s : State) (ms : Miss) (l : DLine),
       m.inc = (dieOf s.dev m.die).inc ∧
        Passes s.dev m.die ∧
         missByTag s.dev m.die m.rtag = some ms ∧
          (ms.op = Op.upg ∨ ms.op = Op.rdx) ∧
          ms.gotData = false ∧
          (∀ k ∈ s.dev.flight ++ List.flatMap (fun (e : ℕ × Link) => e.2.up.queue ++ e.2.down.queue) s.dev.links ++ (linkOf s.dev m.die).down.queue,
          isDataOp k.op = false) ∧
          dieLine s.dev m.die ms.line = some l ∧ DieQuiet s.dev m.die ∧ ms.queued = [] ∧ ms.core < 18) ∧
    (∃ (m : FMsg) (s : State) (ms : Miss) (w : Waiting),
       m.inc = (dieOf s.dev m.die).inc ∧
        Passes s.dev m.die ∧
         missByTag s.dev m.die m.rtag = some ms ∧
          fillOp ms.op = false ∧
          ms.core < 18 ∧
          (hartOf s.dev (18 * m.die + ms.core)).waiting = some w ∧
          w.line = ms.line ∧
          ((∃ (va : ℕ) (op : CboOp), w.op = MemOp.cbo va op) ∨ ∃ (va : ℕ) (size : ℕ) (v : ℕ) (len : ℕ), w.op = MemOp.store va size v len) ∧
          (hartOf s.dev (18 * m.die + ms.core)).haltReq = false ∧
          waitLen s.dev (18 * m.die + ms.core) ≠ 0 ∧
          (dieOf s.dev m.die).owed = [] ∧ ∀ k ∈ hartsOfDie m.die, ∀ e ∈ (hartOf s.dev k).debts, e.rtag ≠ none) ∧
    (∃ (m : FMsg) (s : State) (ms : Miss) (w : Waiting),
       m.inc = (dieOf s.dev m.die).inc ∧
        Passes s.dev m.die ∧
         missByTag s.dev m.die m.rtag = some ms ∧
          fillOp ms.op = false ∧
          ms.core < 18 ∧
          (hartOf s.dev (18 * m.die + ms.core)).waiting = some w ∧
          w.line = ms.line ∧
          ((∃ (va : ℕ) (op : CboOp), w.op = MemOp.cbo va op) ∨ ∃ (va : ℕ) (size : ℕ) (v : ℕ) (len : ℕ), w.op = MemOp.store va size v len) ∧
          (hartOf s.dev (18 * m.die + ms.core)).haltReq = false ∧
          waitLen s.dev (18 * m.die + ms.core) ≠ 0 ∧
          (dieOf s.dev m.die).owed = [] ∧ ∀ k ∈ hartsOfDie m.die, ∀ e ∈ (hartOf s.dev k).debts, e.rtag ≠ none) ∧
    (∃ (m : FMsg) (s : State) (ms : Miss) (i : Instr) (st : Moesi),
       (i = Instr.dataS m ∧ st = Moesi.ss ∨ i = Instr.dataE m ∧ st = Moesi.ee ∨ i = Instr.dataM m ∧ st = Moesi.mm) ∧
        m.up = false ∧
         m.inc = (dieOf s.dev m.die).inc ∧
          Passes s.dev m.die ∧
          missByTag s.dev m.die m.rtag = some ms ∧
          (∀ (t : Trk), trkOf s.dev m.txid = some t → t.needCmp = false) ∧
          (∀ k ∈ s.dev.flight ++ (linkOf s.dev m.die).down.queue, k.op ≠ Op.cmp) ∧ DieQuiet s.dev m.die ∧ ms.queued = [] ∧ ms.core < 18) ∧
    (∃ (m : FMsg) (s : State) (ms : Miss) (i : Instr) (st : Moesi),
       (i = Instr.dataS m ∧ st = Moesi.ss ∨ i = Instr.dataE m ∧ st = Moesi.ee ∨ i = Instr.dataM m ∧ st = Moesi.mm) ∧
        m.up = false ∧
         m.inc = (dieOf s.dev m.die).inc ∧
          Passes s.dev m.die ∧
          missByTag s.dev m.die m.rtag = some ms ∧
          (∀ (t : Trk), trkOf s.dev m.txid = some t → t.needCmp = false) ∧
          (∀ k ∈ s.dev.flight ++ (linkOf s.dev m.die).down.queue, k.op ≠ Op.cmp) ∧ DieQuiet s.dev m.die ∧ ms.queued = [] ∧ ms.core < 18) ∧
    (∃ (m : FMsg) (s : State) (ms : Miss) (w : Waiting) (va : ℕ) (size : ℕ) (dst : Dst) (sg : Bool) (len : ℕ),
       m.inc = (dieOf s.dev m.die).inc ∧
        Passes s.dev m.die ∧
         missByTag s.dev m.die m.rtag = some ms ∧
          fillOp ms.op = false ∧
          ms.core < 18 ∧
          (hartOf s.dev (18 * m.die + ms.core)).waiting = some w ∧
          w.line = ms.line ∧
          w.op = MemOp.load va size dst sg len ∧
          dst ≠ Dst.inst ∧
          len ≠ 0 ∧
          m.poison = false ∧
          (hartOf s.dev (18 * m.die + ms.core)).haltReq = false ∧
          (dieOf s.dev m.die).owed = [] ∧ ∀ k ∈ hartsOfDie m.die, ∀ e ∈ (hartOf s.dev k).debts, e.rtag ≠ none) ∧
    (∃ (m : FMsg) (s : State) (ms : Miss) (i : Instr) (st : Moesi),
       (i = Instr.dataS m ∧ st = Moesi.ss ∨ i = Instr.dataE m ∧ st = Moesi.ee ∨ i = Instr.dataM m ∧ st = Moesi.mm) ∧
        m.up = false ∧
         m.inc = (dieOf s.dev m.die).inc ∧
          Passes s.dev m.die ∧
          missByTag s.dev m.die m.rtag = some ms ∧
          (∀ (t : Trk), trkOf s.dev m.txid = some t → t.needCmp = false) ∧
          (∀ k ∈ s.dev.flight ++ (linkOf s.dev m.die).down.queue, k.op ≠ Op.cmp) ∧ DieQuiet s.dev m.die ∧ ms.queued = [] ∧ ms.core < 18) ∧
    (∃ (m : FMsg) (s : State), m.inc = (dieOf s.dev m.die).inc ∧ Passes s.dev m.die ∧ ∀ h ∈ hartsOfDie m.die, (hartOf s.dev h).waiting = none) ∧
    (∃ (m : FMsg) (s : State) (h : HartN) (w : Waiting),
       dieOfHart ↑h = m.die ∧
        m.inc = (dieOf s.dev m.die).inc ∧
         Passes s.dev m.die ∧
          (hartOf s.dev ↑h).waiting = some w ∧
          w = waitingFor MemOp.tsync ∧
          (hartOf s.dev ↑h).debts ≠ [] ∧
          (∀ e ∈ (hartOf s.dev ↑h).debts, e.rtag = some m.rtag) ∧
          (∀ k ∈ hartsOfDie m.die, k ≠ ↑h → (hartOf s.dev k).waiting = none) ∧ (hartOf s.dev ↑h).haltReq = false) ∧
    (∃ (m : FMsg) (s : State) (r : ℕ) (tag : ℕ) (i : Instr) (op : Op),
       (i = Instr.dataS m ∧ op = Op.dataS ∨ i = Instr.dataE m ∧ op = Op.dataE ∨ i = Instr.dataM m ∧ op = Op.dataM) ∧
        m.up = true ∧ InService s.dev m ∧ Passes s.dev m.die ∧ trkFrom s.dev m.txid = some (r, tag) ∧ (dieOf s.dev r).retired = false) ∧
    (∃ (m : FMsg) (s : State) (e : WbEnt) (i : Instr),
       (i = Instr.wbAck m ∨ i = Instr.wbXack m) ∧
        m.inc = (dieOf s.dev m.die).inc ∧
         Passes s.dev m.die ∧
          (∀ h ∈ hartsOfDie m.die, (hartOf s.dev h).waiting = none) ∧
          (dieOf s.dev m.die).phase ≠ DiePhase.draining ∧
          List.filter (fun (y : WbEnt) => y.line == lineOf m.addr) (dieOf s.dev m.die).wb = [e] ∧
          snoopComing
          { s.dev with flight := s.dev.flight.erase { m with op := if i = Instr.wbAck m then Op.wbAck else Op.wbXack, up := false } }
          m.die (lineOf m.addr) =
          false ∧
          dieLine s.dev m.die (lineOf m.addr) = none ∧ (l3Lines s.dev m.die).length < 786432) ∧
    (∃ (m : FMsg) (s : State) (e : WbEnt) (i : Instr),
       (i = Instr.wbAck m ∨ i = Instr.wbXack m) ∧
        m.inc = (dieOf s.dev m.die).inc ∧
         Passes s.dev m.die ∧
          (∀ h ∈ hartsOfDie m.die, (hartOf s.dev h).waiting = none) ∧
          (dieOf s.dev m.die).phase ≠ DiePhase.draining ∧
          List.filter (fun (y : WbEnt) => y.line == lineOf m.addr) (dieOf s.dev m.die).wb = [e] ∧
          snoopComing
          { s.dev with flight := s.dev.flight.erase { m with op := if i = Instr.wbAck m then Op.wbAck else Op.wbXack, up := false } }
          m.die (lineOf m.addr) =
          false ∧
          dieLine s.dev m.die (lineOf m.addr) = none ∧ (l3Lines s.dev m.die).length < 786432) :=
  ⟨⟨{ fm .snpAck 0 with up := false }, st (updDie (dm (ms .upg)) 0 (fun x => { x with cache := [(1, some (ln .oo))] })), ms .upg, ln .oo, by decide +kernel⟩,
   ⟨{ fm .snpAck 0 with up := false }, st (updHart (dm { ms .cln with kind := 3 }) 0 (fun x => { x with waiting := some { waitingFor (.cbo 0x40 .clean) with line := 1 } })), { ms .cln with kind := 3 }, { waitingFor (.cbo 0x40 .clean) with line := 1 }, by decide +kernel, by decide +kernel, by decide +kernel, by decide +kernel, by decide +kernel, by decide +kernel, by decide +kernel, Or.inl ⟨_, _, rfl⟩, by decide +kernel, by decide +kernel, by decide +kernel, by decide +kernel⟩,
   ⟨{ fm .snpAck 0 with up := false }, st (updHart (dm { ms .ncwr with kind := 5 }) 0 (fun x => { x with waiting := some { waitingFor (.store 0xC00000000000 8 0 4) with line := 1 } })), { ms .ncwr with kind := 5 }, { waitingFor (.store 0xC00000000000 8 0 4) with line := 1 }, by decide +kernel, by decide +kernel, by decide +kernel, by decide +kernel, by decide +kernel, by decide +kernel, by decide +kernel, Or.inr ⟨_, _, _, _, rfl⟩, by decide +kernel, by decide +kernel, by decide +kernel, by decide +kernel⟩,
   ⟨{ fm .snpAck 0 with up := false }, Sys2Proof.Tests.st (dm { ms .rdw with core := 17, kind := 2 }), { ms .rdw with core := 17, kind := 2 }, .dataE ({ fm .snpAck 0 with up := false }), .ee, (by first | (simp; decide +kernel) | exact ⟨rfl, rfl, rfl, rfl, rfl, rfl, by decide +kernel, all_some rfl rfl⟩ | simp), by decide +kernel, by decide +kernel, by decide +kernel, by decide +kernel, by decide +kernel, by decide +kernel, by decide +kernel, by decide +kernel, by decide +kernel⟩,
   ⟨{ fm .snpAck 0 with up := false, kp := true }, Sys2Proof.Tests.st (dm (ms .zro)), ms .zro, .dataM ({ fm .snpAck 0 with up := false, kp := true }), .mm, (by first | (simp; decide +kernel) | exact ⟨rfl, rfl, rfl, rfl, rfl, rfl, by decide +kernel, all_some rfl rfl⟩ | simp), by decide +kernel, by decide +kernel, by decide +kernel, by decide +kernel, by decide +kernel, by decide +kernel, by decide +kernel, by decide +kernel, by decide +kernel⟩,
   ⟨{ fm .snpAck 0 with up := false }, Sys2Proof.Tests.st (updHart (dm { ms .ncrd with op := .ncrd, kind := 5, line := 0x30000000000 }) 0 (fun x => { x with waiting := some { waitingFor (.load 0xC00000000000 8 (.x 5) false 4) with line := 0x30000000000 } })), { ms .ncrd with op := .ncrd, kind := 5, line := 0x30000000000 }, { waitingFor (.load 0xC00000000000 8 (.x 5) false 4) with line := 0x30000000000 }, 0xC00000000000, 8, .x 5, false, 4, by decide +kernel⟩,
   ⟨{ fm .snpAck 0 with up := false }, Sys2Proof.Tests.st (dm (ms .rds)), ms .rds, .dataS ({ fm .snpAck 0 with up := false }), .ss, (by first | (simp; decide +kernel) | exact ⟨rfl, rfl, rfl, rfl, rfl, rfl, by decide +kernel, all_some rfl rfl⟩ | simp), by decide +kernel, by decide +kernel, by decide +kernel, by decide +kernel, by decide +kernel, by decide +kernel, by decide +kernel, by decide +kernel, by decide +kernel⟩,
   ⟨{ fm .snpAck 0 with up := false }, st (updDie (dh (fun x => { x with debts := [⟨1, some 0⟩, ⟨2, some 3⟩, ⟨4, none⟩] })) 0 (fun y => { y with misses := [ms .upg] })), by decide +kernel⟩,
   ⟨{ fm .snpAck 0 with up := false }, st (dh (fun x => { x with debts := [⟨1, some 0⟩], waiting := some (waitingFor .tsync) })), 0, waitingFor .tsync, by decide +kernel⟩,
   ⟨fm .dataS 0x40, st { d0 with slices := [(0, { sliceInit with trk := [tk] })] }, 1, 0, .dataS (fm .dataS 0x40), .dataS, (by first | (simp; decide +kernel) | exact ⟨rfl, rfl, rfl, rfl, rfl, rfl, by decide +kernel, all_some rfl rfl⟩ | simp), by decide +kernel, by decide +kernel, by decide +kernel, by decide +kernel, by decide +kernel⟩,
   ⟨{ fm .snpAck 0x40 with up := false }, st (dw .mm), we .mm, .wbAck ({ fm .snpAck 0x40 with up := false }), (by first | (simp; decide +kernel) | exact ⟨rfl, rfl, rfl, rfl, rfl, rfl, by decide +kernel, all_some rfl rfl⟩ | simp), by decide +kernel, by decide +kernel, by decide +kernel, by decide +kernel, by decide +kernel, (by first | (simp; decide +kernel) | exact ⟨rfl, rfl, rfl, rfl, rfl, rfl, by decide +kernel, all_some rfl rfl⟩ | simp), by decide +kernel, by decide +kernel⟩,
   ⟨{ fm .wbXack 0x40 with up := false }, st (dw .oo), we .oo, .wbXack ({ fm .wbXack 0x40 with up := false }), (by first | (simp; decide +kernel) | exact ⟨rfl, rfl, rfl, rfl, rfl, rfl, by decide +kernel, all_some rfl rfl⟩ | simp), by decide +kernel, by decide +kernel, by decide +kernel, by decide +kernel, by decide +kernel, (by first | (simp; decide +kernel) | exact ⟨rfl, rfl, rfl, rfl, rfl, rfl, by decide +kernel, all_some rfl rfl⟩ | simp), by decide +kernel, by decide +kernel⟩⟩

theorem witness_WriteBacksAndReleases :
    (∃ (sl : SliceN) (set : ℕ) (s : State) (tx : ℕ) (t : Trk),
       List.find?
          (fun (tx : ℕ) =>
          match trkOf s.dev tx with
          | some t => dirSet t.line == set
          | none => false)
          (sliceOf_ s.dev ↑sl).setWait =
         some tx ∧
        trkOf s.dev tx = some t) ∧
    (∃ (m : FMsg) (s : State) (e : DirEnt),
       InService s.dev m ∧
        Passes s.dev m.die ∧
         s.dev.flight.contains
          { m with op := Op.evn, up := true } =
          true ∧
          dieLine s.dev m.die (lineOf m.addr) = none ∧
          dirOf s.dev (lineOf m.addr) = some e ∧ getBit e.pres m.die = true ∧ snoopOpen s.dev m.die (lineOf m.addr) = false ∧ e.st = DState.s) ∧
    (∃ (m : FMsg) (s : State) (e : DirEnt),
       InService s.dev m ∧
        Passes s.dev m.die ∧
         s.dev.flight.contains
          { m with op := Op.evn, up := true } =
          true ∧
          dieLine s.dev m.die (lineOf m.addr) = none ∧
          dirOf s.dev (lineOf m.addr) = some e ∧ getBit e.pres m.die = true ∧ snoopOpen s.dev m.die (lineOf m.addr) = true) ∧
    (∃ (sl : SliceN) (s : State) (e : ℕ × ℕ × Req × ℕ) (pool : Bool),
       nextWaiting s.dev ↑sl [] (sliceOf_ s.dev ↑sl).ingress = some e ∧ entryFor s.dev (↑sl) e.1 = some pool) ∧
    (∃ (line : ℕ) (s : State) (x : Line) (p : Bool),
       List.find? (fun (h : ℕ × Line × Bool) => h.1 == line) (sliceOf_ s.dev (homeSlice s.dev (line * 64))).hLine = some (line, x, p)) ∧
    (∃ (m : FMsg) (s : State) (i : Instr) (op : Op) (e : WbEnt),
       (i = Instr.wbM m ∧ op = Op.wbM ∨ i = Instr.wbP m ∧ op = Op.wbP) ∧
        InService s.dev m ∧
         Passes s.dev m.die ∧
          s.dev.flight.contains
          { m with op := op, up := true } =
          true ∧
          dieLine s.dev m.die (lineOf m.addr) = none ∧
          wbOf s.dev m.die (lineOf m.addr) = some e ∧
          ¬((dstate s.dev (lineOf m.addr) = DState.x ∨ dstate s.dev (lineOf m.addr) = DState.o) ∧
          ownerOf s.dev (lineOf m.addr) = m.die ∧ snoopOpen s.dev m.die (lineOf m.addr) = false)) ∧
    (∃ (m : FMsg) (s : State) (i : Instr) (op : Op) (e : WbEnt),
       (i = Instr.wbM m ∧ op = Op.wbM ∨ i = Instr.wbP m ∧ op = Op.wbP) ∧
        InService s.dev m ∧
         Passes s.dev m.die ∧
          s.dev.flight.contains
          { m with op := op, up := true } =
          true ∧
          dieLine s.dev m.die (lineOf m.addr) = none ∧
          wbOf s.dev m.die (lineOf m.addr) = some e ∧
          ((dstate s.dev (lineOf m.addr) = DState.x ∨ dstate s.dev (lineOf m.addr) = DState.o) ∧
          ownerOf s.dev (lineOf m.addr) = m.die ∧ snoopOpen s.dev m.die (lineOf m.addr) = false) ∧
          (dstate s.dev (lineOf m.addr) = DState.x ∨
          ∀ (x : DirEnt), dirOf s.dev (lineOf m.addr) = some x → setBit x.pres m.die false = 0 ∧ x.bpres = 0)) ∧
    (∃ (m : FMsg) (s : State) (i : Instr) (op : Op) (e : WbEnt) (x : DirEnt),
       (i = Instr.wbM m ∧ op = Op.wbM ∨ i = Instr.wbP m ∧ op = Op.wbP) ∧
        InService s.dev m ∧
         Passes s.dev m.die ∧
          s.dev.flight.contains
          { m with op := op, up := true } =
          true ∧
          dieLine s.dev m.die (lineOf m.addr) = none ∧
          wbOf s.dev m.die (lineOf m.addr) = some e ∧
          ((dstate s.dev (lineOf m.addr) = DState.x ∨ dstate s.dev (lineOf m.addr) = DState.o) ∧
          ownerOf s.dev (lineOf m.addr) = m.die ∧ snoopOpen s.dev m.die (lineOf m.addr) = false) ∧
          dstate s.dev (lineOf m.addr) = DState.o ∧ dirOf s.dev (lineOf m.addr) = some x ∧ (setBit x.pres m.die false ≠ 0 ∨ x.bpres ≠ 0)) ∧
    (∃ (m : FMsg) (s : State) (i : Instr) (op : Op) (e : WbEnt),
       (i = Instr.wbM m ∧ op = Op.wbM ∨ i = Instr.wbP m ∧ op = Op.wbP) ∧
        InService s.dev m ∧
         Passes s.dev m.die ∧
          s.dev.flight.contains
          { m with op := op, up := true } =
          true ∧
          dieLine s.dev m.die (lineOf m.addr) = none ∧
          wbOf s.dev m.die (lineOf m.addr) = some e ∧
          ((dstate s.dev (lineOf m.addr) = DState.x ∨ dstate s.dev (lineOf m.addr) = DState.o) ∧
          ownerOf s.dev (lineOf m.addr) = m.die ∧ snoopOpen s.dev m.die (lineOf m.addr) = false) ∧
          (dstate s.dev (lineOf m.addr) = DState.x ∨
          ∀ (x : DirEnt), dirOf s.dev (lineOf m.addr) = some x → setBit x.pres m.die false = 0 ∧ x.bpres = 0)) :=
  ⟨⟨0, 1, st { d0 with slices := [(0, { sliceInit with setWait := [0], trk := [tk] })] }, 0, tk, by decide +kernel⟩,
   ⟨fm .evn 0x40, st { dw .ss with flight := [fm .evn 0x40], slices := [(0, { sliceInit with dir := [(1, some ⟨.s, 0, 3, 0, 0⟩)] })] }, ⟨.s, 0, 3, 0, 0⟩, by decide +kernel⟩,
   ⟨fm .evn 0x40, st { dw .ee with flight := [fm .evn 0x40], slices := [(0, { sliceInit with trk := [tk], dir := [(1, some ⟨.x, 0, 1, 0, 0⟩)] })] }, ⟨.x, 0, 1, 0, 0⟩, by decide +kernel⟩,
   ⟨0, st { d0 with slices := [(0, { sliceInit with ingress := [(12, 1, .agent (.bench 0 0) .read, 0)] })] }, (12, 1, .agent (.bench 0 0) .read, 0), false, by decide +kernel⟩,
   ⟨1, st { d0 with slices := [(0, { sliceInit with hLine := [(1, 5, true)] })] }, 5, true, by decide +kernel⟩,
   ⟨fm .wbP 0x40, st { dw .mm with flight := [fm .wbP 0x40], slices := [(0, { sliceInit with dir := [(1, some ⟨.x, 1, 2, 0, 0⟩)] })] }, .wbP (fm .wbP 0x40), .wbP, we .mm, (by first | (simp; decide +kernel) | exact ⟨rfl, rfl, rfl, rfl, rfl, rfl, by decide +kernel, all_some rfl rfl⟩ | simp), by decide +kernel, by decide +kernel, by decide +kernel, by decide +kernel, by decide +kernel, by decide +kernel⟩,
   ⟨fm .wbM 0x40, st { dw .mm with flight := [fm .wbM 0x40], slices := [(0, { sliceInit with dir := [(1, some ⟨.x, 0, 1, 0, 0⟩)] })] }, .wbM (fm .wbM 0x40), .wbM, we .mm, (by first | (simp; decide +kernel) | exact ⟨rfl, rfl, rfl, rfl, rfl, rfl, by decide +kernel, all_some rfl rfl⟩ | simp), by decide +kernel, by decide +kernel, by decide +kernel, by decide +kernel, by decide +kernel, by decide +kernel, by decide +kernel⟩,
   ⟨fm .wbM 0x40, st { dw .oo with flight := [fm .wbM 0x40], slices := [(0, { sliceInit with dir := [(1, some ⟨.o, 0, 5, 0, 0⟩)] })] }, .wbM (fm .wbM 0x40), .wbM, we .oo, ⟨.o, 0, 5, 0, 0⟩, (by first | (simp; decide +kernel) | exact ⟨rfl, rfl, rfl, rfl, rfl, rfl, by decide +kernel, all_some rfl rfl⟩ | simp), by decide +kernel, by decide +kernel, by decide +kernel, by decide +kernel, by decide +kernel, by decide +kernel, by decide +kernel, by decide +kernel, by decide +kernel⟩,
   ⟨fm .wbP 0x40, st { dw .mm with flight := [fm .wbP 0x40], slices := [(0, { sliceInit with dir := [(1, some ⟨.x, 0, 1, 0, 0⟩)] })] }, .wbP (fm .wbP 0x40), .wbP, we .mm, (by first | (simp; decide +kernel) | exact ⟨rfl, rfl, rfl, rfl, rfl, rfl, by decide +kernel, all_some rfl rfl⟩ | simp), by decide +kernel, by decide +kernel, by decide +kernel, by decide +kernel, by decide +kernel, by decide +kernel, by decide +kernel⟩⟩

theorem witness_LossAndWithdrawOfDies :
    (∃ (n : DieN) (s : State), (dieOf s.dev ↑n).phase = DiePhase.readmitting ∧ (linkOf s.dev ↑n).state ≠ LinkSt.up) ∧
    (∃ (n : DieN) (s : State), (linkOf s.dev ↑n).state = LinkSt.folded ∧ (linkOf s.dev ↑n).wakeSent = true) ∧
    (∃ (n : DieN) (s : State), (linkOf s.dev ↑n).state = LinkSt.up ∧ (List.any s.dev.slices fun (x : ℕ × SliceSt) => x.2.trk.any (awaitsDie ↑n)) = true) ∧
    (∃ (n : DieN) (s : State), (dieOf s.dev ↑n).phase = DiePhase.draining) ∧
    (∃ (n : DieN) (s : State) (l : ℕ),
       (dieOf s.dev ↑n).phase = DiePhase.inService ∧
        ent s.dev 24576 8 < 2 * dirtyCount s.dev ↑n ∧
         List.find? (fun (l : ℕ) => !(dieOf s.dev ↑n).misses.any fun (m : Miss) => m.line == l) (dieOf s.dev ↑n).dirtyOrder = some l) ∧
    (∃ (n : DieN) (cause : ℕ) (d : Dev),
       inPair d = false ∧ ((dieOf d ↑n).phase = DiePhase.inService ∨ (dieOf d ↑n).phase = DiePhase.draining ∨ (dieOf d ↑n).phase = DiePhase.readmitting)) ∧
    (∃ (n : DieN) (s : State), (dieOf s.dev ↑n).phase = DiePhase.sweeping) ∧
    (∃ (n : DieN) (s : State), (dieOf s.dev ↑n).phase = DiePhase.draining ∧ drained s.dev ↑n = true) :=
  ⟨⟨1, st (updDie d0 1 (fun x => { x with phase := .readmitting })), by decide +kernel⟩,
   ⟨0, st (updLink d0 0 (fun x => { x with state := .folded, wakeSent := true })), by decide +kernel⟩,
   ⟨0, st { d0 with slices := [(0, { sliceInit with trk := [tk] })] }, by decide +kernel⟩,
   ⟨0, st (updDie d0 0 (fun x => { x with phase := .draining })), by decide +kernel⟩,
   ⟨0, st { updDie (dc [(9, some (ln .mm))]) 0 (fun x => { x with dirtyOrder := [9] }) with list := { d0.list with cur := [(ekey 0x6000 8, some (.num 1))] } }, 9, by decide +kernel⟩,
   ⟨0, 300, updDie (dc [(9, some (ln .mm))]) 0 (fun x => { x with fences := 255 }), by decide +kernel⟩,
   ⟨11, st (updDie d0 11 (fun x => { x with phase := .sweeping })), by decide +kernel⟩,
   ⟨0, st (updDie d0 0 (fun x => { x with phase := .draining })), by decide +kernel⟩⟩

theorem witness_DieLossInAPairStopsThePackage :
    (∃ (n : ℕ) (cause : ℕ) (d : Dev),
       inPair d = true ∧ ((dieOf d n).phase = DiePhase.inService ∨ (dieOf d n).phase = DiePhase.draining ∨ (dieOf d n).phase = DiePhase.readmitting)) ∧
    (∃ (n : ℕ) (cause : ℕ) (d : Dev),
       inPair d = true ∧ ((dieOf d n).phase = DiePhase.inService ∨ (dieOf d n).phase = DiePhase.draining ∨ (dieOf d n).phase = DiePhase.readmitting)) :=
  ⟨⟨0, 4, dp 1 2, by decide +kernel⟩,
   ⟨11, 255, updDie (dp 2 5) 11 (fun x => { x with phase := .readmitting }), by decide +kernel⟩⟩

theorem witness_MscCommands :
    (∃ (n : SliceN) (s : State) (e : ℕ × Line × Bool) (r : List (ℕ × Line × Bool)),
       (mscOf s.dev ↑n).evb = e :: r ∧ (subOf s.dev (subKey s.dev e.1)).wq.length < 64) ∧
    (∃ (n : SliceN) (s : State), (mscOf s.dev ↑n).state = 2) ∧
    (∃ (s : State), s.dev.maint.busy = true ∧ ((maintSlices s.dev.maint).any fun (n : ℕ) => (mscOf s.dev n).state == 2) = false ∧ maintWaits s.dev = false) ∧
    (∃ (n : SliceN) (i : ℕ) (s : State), (mscOf s.dev ↑n).state = 1) ∧
    (∃ (n : SliceN) (i : ℕ) (s : State) (e : MscLine),
       (mscOf s.dev ↑n).state = 1 ∧ tabGet none s.dev.msc (↑n * 2 ^ 19 + i % 2 ^ 19) = some e ∧ e.dirty = true) ∧
    (∃ (n : SliceN) (i : ℕ) (s : State), (mscOf s.dev ↑n).state = 1 ∧ inPair s.dev = false) ∧
    (∃ (n : SliceN) (i : ℕ) (s : State), (mscOf s.dev ↑n).state = 1) ∧
    (∃ (n : SliceN) (i : ℕ) (s : State) (e : MscLine),
       (mscOf s.dev ↑n).state = 1 ∧ tabGet none s.dev.msc (↑n * 2 ^ 19 + i % 2 ^ 19) = some e ∧ e.dirty = false) :=
  ⟨⟨0, st { d0 with mscs := [(0, { mscInit with evb := [(1, 5, true)] })] }, (1, 5, true), [], by decide +kernel⟩,
   ⟨15, st { d0 with mscs := [(15, { mscInit with state := 2 })] }, by decide +kernel⟩,
   ⟨st { d0 with maint := { maintInit with busy := true, op := 2 } }, by decide +kernel⟩,
   ⟨0, 0, st { d0 with mscs := [(0, { mscInit with state := 1 })] }, by decide +kernel⟩,
   ⟨0, 2, st { d0 with mscs := [(0, { mscInit with state := 1 })], msc := [(2, some ⟨2, 5, true, false⟩)] }, ⟨2, 5, true, false⟩, by decide +kernel⟩,
   ⟨0, 2, st { d0 with mscs := [(0, { mscInit with state := 1 })] }, by decide +kernel⟩,
   ⟨0, 0, st { d0 with mscs := [(0, { mscInit with state := 1 })] }, by decide +kernel⟩,
   ⟨0, 2, st { d0 with mscs := [(0, { mscInit with state := 1 })], msc := [(2, some ⟨2, 5, false, false⟩)] }, ⟨2, 5, false, false⟩, by decide +kernel⟩⟩

theorem witness_DramTraffic :
    (∃ (n : SliceN) (s : State), (chanOf s.dev ↑n).switching = false) ∧
    (∃ (n : SliceN) (s : State), (chanOf s.dev ↑n).switching = false) ∧
    (∃ (n : SliceN) (rank : ℕ) (s : State), chanLive (chanOf s.dev ↑n) = true ∧ rank < (chanOf s.dev ↑n).dimm.ranks) ∧
    (∃ (n : SliceN) (b : Bool) (s : State) (e : RdEnt), chanLive (chanOf s.dev ↑n) = true ∧ nextRead s.dev (2 * ↑n + b2n b) = some e) ∧
    (∃ (n : SliceN) (rank : ℕ) (s : State), chanLive (chanOf s.dev ↑n) = true ∧ rank < (chanOf s.dev ↑n).dimm.ranks) ∧
    (∃ (n : SliceN) (s : State),
       chanLive (chanOf s.dev ↑n) = true ∧ ent s.dev 16422 0 ≠ 0 ∧ (subOf s.dev (2 * ↑n)).rq = [] ∧ (subOf s.dev (2 * ↑n + 1)).rq = []) ∧
    (∃ (n : SliceN) (b : Bool) (s : State) (w : WrEnt) (r : List WrEnt),
       chanLive (chanOf s.dev ↑n) = true ∧
        (subOf s.dev (2 * ↑n + b2n b)).wq = w :: r ∧
         ((subOf s.dev (2 * ↑n + b2n b)).draining = true ∨ w.at_ + 2000 ≤ s.dev.now ∨ (subOf s.dev (2 * ↑n + b2n b)).rq = [])) :=
  ⟨⟨0, st (updChan d0 0 (fun x => { x with selfRefresh := true })), by decide +kernel⟩,
   ⟨0, st (updChan d0 0 (fun x => { x with selfRefresh := true, pauseDue := 1 })), by decide +kernel⟩,
   ⟨0, 0, st { d0 with subs := [(1, { subInit with openRow := [(3, some (3, 4))] })] }, by decide +kernel⟩,
   ⟨0, false, st { d0 with slices := [(0, { sliceInit with trk := [{ tk with acks := [], fwdTo := none, reading := true, granted := false }] })], subs := [(0, { subInit with rq := [⟨0, 0, 1, 0⟩] })] }, ⟨0, 0, 1, 0⟩, by decide +kernel⟩,
   ⟨0, 0, st { d0 with subs := [(1, { subInit with openRow := [(3, some (3, 4))] })] }, by decide +kernel⟩,
   ⟨0, st { d0 with list := { d0.list with cur := d0.list.cur ++ [(ekey 0x4026 0, some (.num 1))] }, subs := [(1, { subInit with wq := [⟨2, 5, true, 0⟩] })] }, by decide +kernel⟩,
   ⟨0, true, st { d0 with subs := [(1, { subInit with wq := [⟨2, 5, true, 0⟩] })] }, ⟨2, 5, true, 0⟩, [], by decide +kernel⟩⟩

theorem witness_DramMaintenance :
    (∃ (w : Fin 16) (line : ℕ) (tx : ℕ) (s : State), s.dev.cxlWait = [(tx, line)] ∧ cxlWindow s.dev (line * 64) = some ↑w) ∧
    (∃ (n : SliceN) (s : State), (chanOf s.dev ↑n).state = 2) ∧
    (∃ (n : SliceN) (b : Bool) (s : State),
       (chanOf s.dev ↑n).state = 2 ∧
        pauseAllowed s.dev ↑n = true ∧ mayPause s.dev ↑n = true ∧ (subOf s.dev (2 * ↑n + b2n b)).lastPause < (chanOf s.dev ↑n).dimm.pranks) ∧
    (∃ (n : SliceN) (b : Bool) (s : State), (chanOf s.dev ↑n).state = 2 ∧ pauseAllowed s.dev ↑n = true ∧ mayPause s.dev ↑n = false) ∧
    (∃ (line : ℕ) (s : State), isDram s.dev (line * 64) = true) ∧
    (∃ (line : ℕ) (s : State),
       isDram s.dev (line * 64) = true ∧
        tabGet false s.dev.poison line = false ∧
         ((chanOf s.dev (chanOfPa s.dev (line * 64))).mapOff = true ∨
          tabGet false (chanOf s.dev (chanOfPa s.dev (line * 64))).granules (granuleOf s.dev line) = true)) ∧
    (∃ (n : SliceN) (s : State), (chanOf s.dev ↑n).switching = true ∧ (chanOf s.dev ↑n).pauseDue = 0) ∧
    (∃ (n : SliceN) (temp : ℕ) (s : State), (chanOf s.dev ↑n).state = 2) ∧
    (∃ (n : SliceN) (s : State), (chanOf s.dev ↑n).state = 2 ∧ (chanOf s.dev ↑n).mapOff = false ∧ (chanOf s.dev ↑n).zeroDone = false) :=
  ⟨⟨0, 0x4000000000, 5, st { d0 with cxlWait := [(5, 0x4000000000)], cxlState := [(0, 1)], list := { d0.list with cur := d0.list.cur ++ [(ekey 0x4030 1, some (.num 0x100000000000)), (ekey 0x4031 1, some (.num 0x10000000))] } }, by decide +kernel⟩,
   ⟨0, st (updChan d0 0 (fun x => { x with pauseDue := 1 })), by decide +kernel⟩,
   ⟨0, false, st (updChan d0 0 (fun x => { x with pauseDue := 1, dimm := { x.dimm with pranks := 2 } })), by decide +kernel⟩,
   ⟨0, false, st (updChan d0 0 (fun x => { x with selfRefresh := true, dimm := { x.dimm with pranks := 2 } })), by decide +kernel⟩,
   ⟨0, st d0, by decide +kernel⟩,
   ⟨0, st (updChan d0 0 (fun x => { x with mapOff := true })), by decide +kernel⟩,
   ⟨0, st (updChan d0 0 (fun x => { x with switching := true, swapSlot := 3 })), by decide +kernel⟩,
   ⟨0, 300, st d0, by decide +kernel⟩,
   ⟨0, st (updChan d0 0 (fun x => { x with zeroNext := 1023 })), by decide +kernel⟩⟩

theorem witness_MessageFlitReceiver :
    (∃ (n : DieN) (up : Bool) (f : List Byte) (s : State), (linkOf s.dev ↑n).state = LinkSt.up ∧ flitOk f = false) ∧
    (∃ (n : DieN) (up : Bool) (f : List Byte) (s : State) (o : Op),
       (linkOf s.dev ↑n).state = LinkSt.up ∧
        flitOk f = true ∧
         getBits (leAt f 72 4) 29 3 = 1 ∧
          getBits (leAt f 72 4) 14 12 = (bundleOf (linkOf (ackBundle (↑n) (!up) (getBits (leAt f 72 4) 2 12) s.dev) ↑n) up).rxSeq ∧
          Option.filter (opGoes up) (opOf (getBits (leAt f 64 8) 56 8)) = some o) ∧
    (∃ (n : DieN) (up : Bool) (f : List Byte) (s : State) (o : Op),
       (linkOf s.dev ↑n).state = LinkSt.up ∧
        flitOk f = true ∧
         getBits (leAt f 72 4) 29 3 = 1 ∧
          getBits (leAt f 72 4) 14 12 = (bundleOf (linkOf (ackBundle (↑n) (!up) (getBits (leAt f 72 4) 2 12) s.dev) ↑n) up).rxSeq ∧
          Option.filter (opGoes up) (opOf (getBits (leAt f 64 8) 56 8)) = some o) ∧
    (∃ (n : DieN) (up : Bool) (f : List Byte) (s : State),
       (linkOf s.dev ↑n).state = LinkSt.up ∧
        flitOk f = true ∧
         getBits (leAt f 72 4) 29 3 = 1 ∧
          getBits (leAt f 72 4) 14 12 ≠ (bundleOf (linkOf (ackBundle (↑n) (!up) (getBits (leAt f 72 4) 2 12) s.dev) ↑n) up).rxSeq) ∧
    (∃ (m : FMsg) (seq : ℕ) (ack : ℕ), flitFits m ∧ seq < 4096 ∧ ack < 4096) ∧
    (∃ (m : FMsg) (seq : ℕ) (ack : ℕ), flitFits m ∧ seq < 4096 ∧ ack < 4096) ∧
    (∃ (m : FMsg) (seq : ℕ) (ack : ℕ), flitFits m ∧ seq < 4096 ∧ ack < 4096) ∧
    (∃ (n : DieN) (up : Bool) (f : List Byte) (s : State),
       (linkOf s.dev ↑n).state = LinkSt.up ∧
        flitOk f = true ∧
         getBits (leAt f 72 4) 29 3 = 1 ∧
          getBits (leAt f 72 4) 14 12 = (bundleOf (linkOf (ackBundle (↑n) (!up) (getBits (leAt f 72 4) 2 12) s.dev) ↑n) up).rxSeq ∧
          Option.filter (opGoes up) (opOf (getBits (leAt f 64 8) 56 8)) = none) :=
  ⟨⟨0, true, [1], st (updLink d0 0 (fun x => { x with up := { bundleInit with rxSeq := 4095 } })), by decide +kernel⟩,
   ⟨0, false, flitBytes 4095 4095 (ff .kdone 0x40), st (updLink d0 0 (fun x => { x with down := { bundleInit with rxSeq := 4095 } })), .kdone, by decide +kernel⟩,
   ⟨0, true, flitBytes 4095 4095 (ff .rds 0x40), st (updLink d0 0 (fun x => { x with up := { bundleInit with rxSeq := 4095 } })), .rds, by decide +kernel⟩,
   ⟨0, true, flitBytes 3 4095 (ff .rds 0x40), st (updLink d0 0 (fun x => { x with up := { bundleInit with rxSeq := 4095 } })), by decide +kernel⟩,
   ⟨{ ff .dataE 0 with data := 99, up := false, poison := true, kp := true, held := true, dirty := true }, 1, 4095, (by first | decide +kernel | (unfold flitFits; decide +kernel))⟩,
   ⟨ff .rds 0x40, 4095, 0, (by first | decide +kernel | (unfold flitFits; decide +kernel))⟩,
   ⟨{ ff .wbM (2 ^ 56 - 64) with data := 99 }, 1, 4095, (by first | decide +kernel | (unfold flitFits; decide +kernel))⟩,
   ⟨0, true, flitBytes 4095 4095 (ff .kdone 0x40), st (updLink d0 0 (fun x => { x with up := { bundleInit with rxSeq := 4095 } })), by decide +kernel⟩⟩

theorem witness_ReplayAndRecovery :
    (∃ (n : DieN) (up : Bool) (f : List Byte) (s : State), (linkOf s.dev ↑n).state = LinkSt.up ∧ flitOk f = true ∧ getBits (leAt f 72 4) 29 3 = 2) ∧
    (∃ (n : DieN) (up : Bool) (s : State) (e : ℕ × FMsg) (r : List (ℕ × FMsg)),
       (linkOf s.dev ↑n).state = LinkSt.up ∧
        (bundleOf (linkOf s.dev ↑n) up).unacked = e :: r ∧
         8 ≤ if (bundleOf (linkOf s.dev ↑n) up).replaySeq = some e.1 then (bundleOf (linkOf s.dev ↑n) up).failedReplays + 1 else 0) ∧
    (∃ (n : DieN) (up : LaneTest) (down : LaneTest) (s : State),
       (linkOf s.dev ↑n).state = LinkSt.up ∧
        (recentRecoveries s.dev (linkOf s.dev ↑n)).length < 5 ∧
         (buildSheet (linkOf s.dev ↑n).hubUp (linkOf s.dev ↑n).upBad up = none ∨
          buildSheet (linkOf s.dev ↑n).hubDown (linkOf s.dev ↑n).downBad down = none)) ∧
    (∃ (n : DieN) (up : LaneTest) (down : LaneTest) (s : State),
       (linkOf s.dev ↑n).state = LinkSt.up ∧ 5 ≤ (recentRecoveries s.dev (linkOf s.dev ↑n)).length) ∧
    (∃ (n : DieN) (supply : Bool) (s : State), (linkOf s.dev ↑n).state = LinkSt.recovery) ∧
    (∃ (n : DieN) (up : LaneTest) (down : LaneTest) (s : State) (u : ℕ × ℕ) (v : ℕ × ℕ),
       (linkOf s.dev ↑n).state = LinkSt.up ∧
        (recentRecoveries s.dev (linkOf s.dev ↑n)).length < 5 ∧
         buildSheet (linkOf s.dev ↑n).hubUp (linkOf s.dev ↑n).upBad up = some u ∧
          buildSheet (linkOf s.dev ↑n).hubDown (linkOf s.dev ↑n).downBad down = some v) ∧
    (∃ (n : DieN) (up : Bool) (s : State) (e : ℕ × FMsg) (r : List (ℕ × FMsg)),
       (linkOf s.dev ↑n).state = LinkSt.up ∧
        (bundleOf (linkOf s.dev ↑n) up).unacked = e :: r ∧
         (if (bundleOf (linkOf s.dev ↑n) up).replaySeq = some e.1 then (bundleOf (linkOf s.dev ↑n) up).failedReplays + 1 else 0) < 8) ∧
    (∃ (n : DieN) (up : Bool) (f : List Byte) (s : State), (linkOf s.dev ↑n).state = LinkSt.up ∧ flitOk f = true ∧ getBits (leAt f 72 4) 29 3 = 2) :=
  ⟨⟨0, true, controlBytes [65535, 2, 3, 4, 5] none 7, st (updLink d0 0 (fun x => { x with down := { bundleInit with txSeq := 5, unacked := [(3, fm .cmp 0), (4, fm .cmp 0)], queue := [fm .cmp 0x40] } })), by decide +kernel⟩,
   ⟨0, true, st (updLink d0 0 (fun x => { x with up := { bundleInit with unacked := [(0, fm .rds 0)], replaySeq := some 0, failedReplays := 7 } })), (0, fm .rds 0), [], by decide +kernel⟩,
   ⟨0, cleanTest, { cleanTest with clocks := 3 }, st (updLink d0 0 (fun x => { x with hubUp := sheetClean, hubDown := sheetClean, dieUp := sheetClean, dieDown := sheetClean })), by decide +kernel⟩,
   ⟨0, cleanTest, cleanTest, st (updLink d0 0 (fun x => { x with recoveries := [0, 0, 0, 0] })), by decide +kernel⟩,
   ⟨0, false, st (updLink d0 0 (fun x => { x with state := .recovery })), by decide +kernel⟩,
   ⟨0, cleanTest, { cleanTest with data := 1 }, st (updLink d0 0 (fun x => { x with hubUp := sheetClean, hubDown := sheetClean, dieUp := sheetClean, dieDown := sheetClean })), (buildSheet sheetClean 0 cleanTest).getD (0, 0), (buildSheet sheetClean 0 { cleanTest with data := 1 }).getD (0, 0), by decide +kernel⟩,
   ⟨0, true, st (updLink d0 0 (fun x => { x with up := { bundleInit with unacked := [(0, fm .rds 0)], replaySeq := some 0, failedReplays := 6 } })), (0, fm .rds 0), [], by decide +kernel⟩,
   ⟨0, true, controlBytes [65535, 2, 3, 4, 5] (some 3) 7, st (updLink d0 0 (fun x => { x with down := { bundleInit with txSeq := 5, unacked := [(3, fm .cmp 0), (4, fm .cmp 0)], queue := [fm .cmp 0x40] } })), by decide +kernel⟩⟩

theorem witness_TrainingWakeAndJig :
    (∃ (n : DieN) (ud : ℕ) (dd : ℕ) (ok : Bool) (s : State),
       ok = true ∧
        (linkOf s.dev ↑n).idMismatch = false ∧
         ((linkOf s.dev ↑n).state = LinkSt.training ∨ (linkOf s.dev ↑n).state = LinkSt.recovery) ∧
          idWrong s.dev ↑n = false ∧
          ud = sheetDigest (linkOf s.dev ↑n).hubUp ∧
          dd = sheetDigest (linkOf s.dev ↑n).hubDown ∧ ((linkOf s.dev ↑n).agreeUp < 2 ∨ (linkOf s.dev ↑n).agreeDown < 2)) ∧
    (∃ (n : DieN) (ud : ℕ) (dd : ℕ) (ok : Bool) (s : State),
       ok = false ∨ (linkOf s.dev ↑n).idMismatch = true ∨ (linkOf s.dev ↑n).state ≠ LinkSt.training ∧ (linkOf s.dev ↑n).state ≠ LinkSt.recovery) ∧
    (∃ (n : DieN) (ud : ℕ) (dd : ℕ) (ok : Bool) (s : State),
       ok = true ∧
        (linkOf s.dev ↑n).idMismatch = false ∧
         ((linkOf s.dev ↑n).state = LinkSt.training ∨ (linkOf s.dev ↑n).state = LinkSt.recovery) ∧
          idWrong s.dev ↑n = false ∧
          ud ≠ sheetDigest (linkOf s.dev ↑n).hubUp ∧
          narrowSheet (linkOf s.dev ↑n).hubUp (linkOf s.dev ↑n).dieUp (linkOf s.dev ↑n).upBad = none ∧
          dd = sheetDigest (linkOf s.dev ↑n).hubDown ∧ inPair s.dev = true ∧ (dieOf s.dev ↑n).phase = DiePhase.inService) ∧
    (∃ (n : Fin 13) (s : State), s.dev.pins.pkgReset = true) ∧
    (∃ (n : Fin 13) (s : State), s.dev.pins.pkgReset = false) ∧
    (∃ (n : DieN) (ud : ℕ) (dd : ℕ) (ok : Bool) (s : State),
       ok = true ∧
        (linkOf s.dev ↑n).idMismatch = false ∧
         ((linkOf s.dev ↑n).state = LinkSt.training ∨ (linkOf s.dev ↑n).state = LinkSt.recovery) ∧
          idWrong s.dev ↑n = false ∧
          ud = sheetDigest (linkOf s.dev ↑n).hubUp ∧
          dd = sheetDigest (linkOf s.dev ↑n).hubDown ∧ 2 ≤ (linkOf s.dev ↑n).agreeUp ∧ 2 ≤ (linkOf s.dev ↑n).agreeDown) ∧
    (∃ (n : Fin 13) (dr : BitVec 32) (es : List ℕ) (s : State), (jigOf s.dev ↑n).inJig = true ∧ jigPortOk (↑n) (getBits dr.toNat 8 8) = true) ∧
    (∃ (n : DieN) (ud : ℕ) (dd : ℕ) (ok : Bool) (s : State) (sh : ℕ),
       ok = true ∧
        (linkOf s.dev ↑n).idMismatch = false ∧
         ((linkOf s.dev ↑n).state = LinkSt.training ∨ (linkOf s.dev ↑n).state = LinkSt.recovery) ∧
          idWrong s.dev ↑n = false ∧
          ud ≠ sheetDigest (linkOf s.dev ↑n).hubUp ∧
          dd = sheetDigest (linkOf s.dev ↑n).hubDown ∧ narrowSheet (linkOf s.dev ↑n).hubUp (linkOf s.dev ↑n).dieUp (linkOf s.dev ↑n).upBad = some sh) ∧
    (∃ (n : DieN) (o : LinkObs) (s : State),
       (linkOf s.dev ↑n).state = LinkSt.training ∧
        (o.pll = false ∨
         buildSheet (if (linkOf s.dev ↑n).hubUp = 0 then (fusedSheets s.dev ↑n).upSheet else (linkOf s.dev ↑n).hubUp) (linkOf s.dev ↑n).upBad o.up =
          none ∨
          buildSheet (if (linkOf s.dev ↑n).hubDown = 0 then (fusedSheets s.dev ↑n).downSheet else (linkOf s.dev ↑n).hubDown) (linkOf s.dev ↑n).downBad
          o.down =
          none)) ∧
    (∃ (n : Fin 13) (s : State), (jigOf s.dev ↑n).inJig = true) ∧
    (∃ (n : Fin 13) (s : State), (jigOf s.dev ↑n).inJig = true) ∧
    (∃ (n : DieN) (ud : ℕ) (dd : ℕ) (ok : Bool) (s : State),
       ok = true ∧
        (linkOf s.dev ↑n).idMismatch = false ∧
         ((linkOf s.dev ↑n).state = LinkSt.training ∨ (linkOf s.dev ↑n).state = LinkSt.recovery) ∧ idWrong s.dev ↑n = true) ∧
    (∃ (n : DieN) (o : LinkObs) (s : State) (u : ℕ × ℕ) (v : ℕ × ℕ),
       (linkOf s.dev ↑n).state = LinkSt.training ∧
        o.pll = true ∧
         buildSheet (if (linkOf s.dev ↑n).hubUp = 0 then (fusedSheets s.dev ↑n).upSheet else (linkOf s.dev ↑n).hubUp) (linkOf s.dev ↑n).upBad o.up =
          some u ∧
          buildSheet (if (linkOf s.dev ↑n).hubDown = 0 then (fusedSheets s.dev ↑n).downSheet else (linkOf s.dev ↑n).hubDown) (linkOf s.dev ↑n).downBad
          o.down =
          some v) ∧
    (∃ (n : DieN) (byHub : Bool) (s : State), (linkOf s.dev ↑n).state = LinkSt.folded) :=
  ⟨⟨0, sheetDigest sheetClean, sheetDigest sheetClean, true, st (updLink d0 0 (fun x => { x with state := .training, hubUp := sheetClean, hubDown := sheetClean, dieUp := sheetClean, dieDown := sheetClean, agreeUp := 1, agreeDown := 2 })), by decide +kernel⟩,
   ⟨0, 1, 2, false, st (updLink d0 0 (fun x => { x with state := .training })), by decide +kernel⟩,
   ⟨0, 0, sheetDigest sheetClean, true, st { (updLink d0 0 (fun x => { x with state := .training, hubUp := setBits sheetClean 42 2 1, hubDown := sheetClean, dieUp := sheetClean, dieDown := sheetClean, agreeUp := 1, agreeDown := 2 })) with mirror := { mirrorInit with role := 1, phase := 2 } }, by decide +kernel⟩,
   ⟨12, st (packageReset d0), by decide +kernel⟩,
   ⟨12, st d0, by decide +kernel⟩,
   ⟨0, sheetDigest sheetClean, sheetDigest sheetClean, true, st (updLink d0 0 (fun x => { x with state := .training, hubUp := sheetClean, hubDown := sheetClean, dieUp := sheetClean, dieDown := sheetClean, agreeUp := 2, agreeDown := 2 })), by decide +kernel⟩,
   ⟨0, 0, [65536, 3], st { d0 with jig := [(0, { jigInit with inJig := true })] }, by decide +kernel⟩,
   ⟨0, 0, sheetDigest sheetClean, true, st (updLink d0 0 (fun x => { x with state := .training, hubUp := sheetClean, hubDown := sheetClean, dieUp := sheetClean, dieDown := sheetClean, agreeUp := 1, agreeDown := 2 })), (narrowSheet sheetClean sheetClean 0).getD 0, by decide +kernel⟩,
   ⟨0, { pll := false, up := cleanTest, down := cleanTest }, st (updLink d0 0 (fun x => { x with state := .training })), by decide +kernel⟩,
   ⟨12, st { d0 with jig := [(12, { inJig := true, port := 0, result := [1, 2] })] }, by decide +kernel⟩,
   ⟨11, st { d0 with jig := [(11, { jigInit with inJig := true })] }, by decide +kernel⟩,
   ⟨0, 1, 2, true, st { (updLink d0 0 (fun x => { x with state := .training })) with fuses := { d0.fuses with die := [(0, { dieFusesInit with ident := 5 })] } }, by decide +kernel⟩,
   ⟨0, { pll := true, up := cleanTest, down := { cleanTest with data := 3 } }, st (updLink d0 0 (fun x => { x with state := .training })), (buildSheet sheetClean 0 cleanTest).getD (0, 0), (buildSheet sheetClean 0 { cleanTest with data := 3 }).getD (0, 0), by decide +kernel⟩,
   ⟨0, true, st (updHart (updLink d0 0 (fun x => { x with state := .folded })) 3 (fun x => { x with rest := .fold })), by decide +kernel⟩⟩

theorem witness_InlayRequests :
    (∃ (x : SiteN) (hdr : BitVec 128) (s : State) (attr : ℕ) (a : ℕ) (b : ℕ),
       siteEnabled s.dev ↑x = true ∧
        (siteOf s.dev ↑x).cause = 0 ∧
         (inlayHdr hdr).rsvd = 0 ∧
          0 < (siteOf s.dev ↑x).credits ∧
          placeOk
          (updSite (refill (↑x) s.dev) ↑x fun (y : SiteSt) =>
          { y with credits := y.credits - 1, tokens := y.tokens - 6400 })
          attr (inlayHdr hdr).addr =
          true ∧
          ownerOk
          (updSite (refill (↑x) s.dev) ↑x fun (y : SiteSt) =>
          { y with credits := y.credits - 1, tokens := y.tokens - 6400 })
          attr (inlayHdr hdr).addr =
          true ∧
          (inlayHdr hdr).op = 5 ∧
          (inlayHdr hdr).addr % 8 = 0 ∧
          (inlayHdr hdr).subop ≤ 4 ∧
          windowFor
          (updSite (refill (↑x) s.dev) ↑x fun (y : SiteSt) =>
          { y with credits := y.credits - 1, tokens := y.tokens - 6400 })
          (↑x) (inlayHdr hdr).addr 3 =
          some attr) ∧
    (∃ (x : SiteN) (hdr : BitVec 128) (i : Instr) (code : ℕ) (perm : ℕ) (align : ℕ) (zeros : ℕ) (s : State),
       (i = Instr.rd64 x hdr ∧ code = 1 ∧ perm = 1 ∧ align = 64 ∧ zeros = 64 ∨
         i = Instr.rdf64 x hdr ∧ code = 2 ∧ perm = 4 ∧ align = 64 ∧ zeros = 64 ∨
          (∃ (data : Line), i = Instr.wr64 x hdr data ∧ code = 3 ∧ perm = 2 ∧ align = 64 ∧ zeros = 0) ∨
          (∃ (data : Line) (mask : ℕ), i = Instr.wrp64 x hdr data mask ∧ code = 4 ∧ perm = 2 ∧ align = 64 ∧ zeros = 0) ∨
          (∃ (a : ℕ) (b : ℕ), i = Instr.inlayAmo x hdr a b ∧ code = 5 ∧ perm = 3 ∧ align = 8 ∧ zeros = 8 ∧ (inlayHdr hdr).subop ≤ 4) ∨
          ∃ (data : ℕ), i = Instr.inlayMsi x hdr data ∧ code = 6 ∧ perm = 2 ∧ align = 4 ∧ zeros = 0) ∧
        (inlayHdr hdr).op = code ∧
         siteEnabled s.dev ↑x = true ∧
          (siteOf s.dev ↑x).cause = 0 ∧
          ((inlayHdr hdr).rsvd = 0 ∧ (inlayHdr hdr).addr % align = 0 ∧ 0 < (siteOf s.dev ↑x).credits) ∧
          windowFor s.dev (↑x) (inlayHdr hdr).addr perm = none ∧ ent s.dev 41223 (↑x + 1) ≤ (siteOf s.dev ↑x).violations + 1) ∧
    (∃ (x : SiteN) (hdr : BitVec 128) (i : Instr) (code : ℕ) (perm : ℕ) (align : ℕ) (zeros : ℕ) (s : State),
       (i = Instr.rd64 x hdr ∧ code = 1 ∧ perm = 1 ∧ align = 64 ∧ zeros = 64 ∨
         i = Instr.rdf64 x hdr ∧ code = 2 ∧ perm = 4 ∧ align = 64 ∧ zeros = 64 ∨
          (∃ (data : Line), i = Instr.wr64 x hdr data ∧ code = 3 ∧ perm = 2 ∧ align = 64 ∧ zeros = 0) ∨
          (∃ (data : Line) (mask : ℕ), i = Instr.wrp64 x hdr data mask ∧ code = 4 ∧ perm = 2 ∧ align = 64 ∧ zeros = 0) ∨
          (∃ (a : ℕ) (b : ℕ), i = Instr.inlayAmo x hdr a b ∧ code = 5 ∧ perm = 3 ∧ align = 8 ∧ zeros = 8 ∧ (inlayHdr hdr).subop ≤ 4) ∨
          ∃ (data : ℕ), i = Instr.inlayMsi x hdr data ∧ code = 6 ∧ perm = 2 ∧ align = 4 ∧ zeros = 0) ∧
        (inlayHdr hdr).op = code ∧
         siteEnabled s.dev ↑x = true ∧
          (siteOf s.dev ↑x).cause = 0 ∧
          ((inlayHdr hdr).rsvd = 0 ∧ (inlayHdr hdr).addr % align = 0 ∧ 0 < (siteOf s.dev ↑x).credits) ∧
          windowFor s.dev (↑x) (inlayHdr hdr).addr perm = none ∧ ent s.dev 41223 (↑x + 1) ≤ (siteOf s.dev ↑x).violations + 1) ∧
    (∃ (x : SiteN) (hdr : BitVec 128) (i : Instr) (code : ℕ) (perm : ℕ) (align : ℕ) (zeros : ℕ) (s : State),
       (i = Instr.rd64 x hdr ∧ code = 1 ∧ perm = 1 ∧ align = 64 ∧ zeros = 64 ∨
         i = Instr.rdf64 x hdr ∧ code = 2 ∧ perm = 4 ∧ align = 64 ∧ zeros = 64 ∨
          (∃ (data : Line), i = Instr.wr64 x hdr data ∧ code = 3 ∧ perm = 2 ∧ align = 64 ∧ zeros = 0) ∨
          (∃ (data : Line) (mask : ℕ), i = Instr.wrp64 x hdr data mask ∧ code = 4 ∧ perm = 2 ∧ align = 64 ∧ zeros = 0) ∨
          (∃ (a : ℕ) (b : ℕ), i = Instr.inlayAmo x hdr a b ∧ code = 5 ∧ perm = 3 ∧ align = 8 ∧ zeros = 8 ∧ (inlayHdr hdr).subop ≤ 4) ∨
          ∃ (data : ℕ), i = Instr.inlayMsi x hdr data ∧ code = 6 ∧ perm = 2 ∧ align = 4 ∧ zeros = 0) ∧
        (inlayHdr hdr).op = code ∧
         siteEnabled s.dev ↑x = true ∧
          (siteOf s.dev ↑x).cause = 0 ∧
          ((inlayHdr hdr).rsvd = 0 ∧ (inlayHdr hdr).addr % align = 0 ∧ 0 < (siteOf s.dev ↑x).credits) ∧
          windowFor s.dev (↑x) (inlayHdr hdr).addr perm = none ∧ (siteOf s.dev ↑x).violations + 1 < ent s.dev 41223 (↑x + 1)) ∧
    (∃ (x : SiteN) (hdr : BitVec 128) (i : Instr) (code : ℕ) (perm : ℕ) (align : ℕ) (zeros : ℕ) (s : State),
       (i = Instr.rd64 x hdr ∧ code = 1 ∧ perm = 1 ∧ align = 64 ∧ zeros = 64 ∨
         i = Instr.rdf64 x hdr ∧ code = 2 ∧ perm = 4 ∧ align = 64 ∧ zeros = 64 ∨
          (∃ (data : Line), i = Instr.wr64 x hdr data ∧ code = 3 ∧ perm = 2 ∧ align = 64 ∧ zeros = 0) ∨
          (∃ (data : Line) (mask : ℕ), i = Instr.wrp64 x hdr data mask ∧ code = 4 ∧ perm = 2 ∧ align = 64 ∧ zeros = 0) ∨
          (∃ (a : ℕ) (b : ℕ), i = Instr.inlayAmo x hdr a b ∧ code = 5 ∧ perm = 3 ∧ align = 8 ∧ zeros = 8 ∧ (inlayHdr hdr).subop ≤ 4) ∨
          ∃ (data : ℕ), i = Instr.inlayMsi x hdr data ∧ code = 6 ∧ perm = 2 ∧ align = 4 ∧ zeros = 0) ∧
        (inlayHdr hdr).op = code ∧
         siteEnabled s.dev ↑x = true ∧
          (siteOf s.dev ↑x).cause = 0 ∧
          ((inlayHdr hdr).rsvd = 0 ∧ (inlayHdr hdr).addr % align = 0 ∧ 0 < (siteOf s.dev ↑x).credits) ∧
          windowFor s.dev (↑x) (inlayHdr hdr).addr perm = none ∧ (siteOf s.dev ↑x).violations + 1 < ent s.dev 41223 (↑x + 1)) ∧
    (∃ (x : SiteN) (hdr : BitVec 128) (i : Instr) (code : ℕ) (perm : ℕ) (align : ℕ) (zeros : ℕ) (s : State),
       (i = Instr.rd64 x hdr ∧ code = 1 ∧ perm = 1 ∧ align = 64 ∧ zeros = 64 ∨
         i = Instr.rdf64 x hdr ∧ code = 2 ∧ perm = 4 ∧ align = 64 ∧ zeros = 64 ∨
          (∃ (data : Line), i = Instr.wr64 x hdr data ∧ code = 3 ∧ perm = 2 ∧ align = 64 ∧ zeros = 0) ∨
          (∃ (data : Line) (mask : ℕ), i = Instr.wrp64 x hdr data mask ∧ code = 4 ∧ perm = 2 ∧ align = 64 ∧ zeros = 0) ∨
          (∃ (a : ℕ) (b : ℕ), i = Instr.inlayAmo x hdr a b ∧ code = 5 ∧ perm = 3 ∧ align = 8 ∧ zeros = 8 ∧ (inlayHdr hdr).subop ≤ 4) ∨
          ∃ (data : ℕ), i = Instr.inlayMsi x hdr data ∧ code = 6 ∧ perm = 2 ∧ align = 4 ∧ zeros = 0) ∧
        (inlayHdr hdr).op = code ∧ (siteEnabled s.dev ↑x = false ∨ (siteOf s.dev ↑x).cause ≠ 0)) ∧
    (∃ (x : SiteN) (hdr : BitVec 128) (i : Instr) (code : ℕ) (perm : ℕ) (align : ℕ) (zeros : ℕ) (s : State),
       (i = Instr.rd64 x hdr ∧ code = 1 ∧ perm = 1 ∧ align = 64 ∧ zeros = 64 ∨
         i = Instr.rdf64 x hdr ∧ code = 2 ∧ perm = 4 ∧ align = 64 ∧ zeros = 64 ∨
          (∃ (data : Line), i = Instr.wr64 x hdr data ∧ code = 3 ∧ perm = 2 ∧ align = 64 ∧ zeros = 0) ∨
          (∃ (data : Line) (mask : ℕ), i = Instr.wrp64 x hdr data mask ∧ code = 4 ∧ perm = 2 ∧ align = 64 ∧ zeros = 0) ∨
          (∃ (a : ℕ) (b : ℕ), i = Instr.inlayAmo x hdr a b ∧ code = 5 ∧ perm = 3 ∧ align = 8 ∧ zeros = 8 ∧ (inlayHdr hdr).subop ≤ 4) ∨
          ∃ (data : ℕ), i = Instr.inlayMsi x hdr data ∧ code = 6 ∧ perm = 2 ∧ align = 4 ∧ zeros = 0) ∧
        (inlayHdr hdr).op = code ∧ (siteEnabled s.dev ↑x = false ∨ (siteOf s.dev ↑x).cause ≠ 0)) ∧
    (∃ (x : SiteN) (hdr : BitVec 128) (i : Instr) (code : ℕ) (perm : ℕ) (align : ℕ) (zeros : ℕ) (s : State),
       (i = Instr.rd64 x hdr ∧ code = 1 ∧ perm = 1 ∧ align = 64 ∧ zeros = 64 ∨
         i = Instr.rdf64 x hdr ∧ code = 2 ∧ perm = 4 ∧ align = 64 ∧ zeros = 64 ∨
          (∃ (data : Line), i = Instr.wr64 x hdr data ∧ code = 3 ∧ perm = 2 ∧ align = 64 ∧ zeros = 0) ∨
          (∃ (data : Line) (mask : ℕ), i = Instr.wrp64 x hdr data mask ∧ code = 4 ∧ perm = 2 ∧ align = 64 ∧ zeros = 0) ∨
          (∃ (a : ℕ) (b : ℕ), i = Instr.inlayAmo x hdr a b ∧ code = 5 ∧ perm = 3 ∧ align = 8 ∧ zeros = 8 ∧ (inlayHdr hdr).subop ≤ 4) ∨
          ∃ (data : ℕ), i = Instr.inlayMsi x hdr data ∧ code = 6 ∧ perm = 2 ∧ align = 4 ∧ zeros = 0) ∧
        siteEnabled s.dev ↑x = true ∧
         (siteOf s.dev ↑x).cause = 0 ∧
          (siteOf s.dev ↑x).mmrd = [] ∧
          ((inlayHdr hdr).op = code ∧ ¬((inlayHdr hdr).rsvd = 0 ∧ (inlayHdr hdr).addr % align = 0 ∧ 0 < (siteOf s.dev ↑x).credits) ∨
          (inlayHdr hdr).op ≠ code ∧ upOpcode (inlayHdr hdr).op = false)) ∧
    (∃ (x : SiteN) (hdr : BitVec 128) (i : Instr) (code : ℕ) (perm : ℕ) (align : ℕ) (zeros : ℕ) (s : State),
       (i = Instr.rd64 x hdr ∧ code = 1 ∧ perm = 1 ∧ align = 64 ∧ zeros = 64 ∨
         i = Instr.rdf64 x hdr ∧ code = 2 ∧ perm = 4 ∧ align = 64 ∧ zeros = 64 ∨
          (∃ (data : Line), i = Instr.wr64 x hdr data ∧ code = 3 ∧ perm = 2 ∧ align = 64 ∧ zeros = 0) ∨
          (∃ (data : Line) (mask : ℕ), i = Instr.wrp64 x hdr data mask ∧ code = 4 ∧ perm = 2 ∧ align = 64 ∧ zeros = 0) ∨
          (∃ (a : ℕ) (b : ℕ), i = Instr.inlayAmo x hdr a b ∧ code = 5 ∧ perm = 3 ∧ align = 8 ∧ zeros = 8 ∧ (inlayHdr hdr).subop ≤ 4) ∨
          ∃ (data : ℕ), i = Instr.inlayMsi x hdr data ∧ code = 6 ∧ perm = 2 ∧ align = 4 ∧ zeros = 0) ∧
        siteEnabled s.dev ↑x = true ∧
         (siteOf s.dev ↑x).cause = 0 ∧
          (siteOf s.dev ↑x).mmrd = [] ∧
          ((inlayHdr hdr).op = code ∧ ¬((inlayHdr hdr).rsvd = 0 ∧ (inlayHdr hdr).addr % align = 0 ∧ 0 < (siteOf s.dev ↑x).credits) ∨
          (inlayHdr hdr).op ≠ code ∧ upOpcode (inlayHdr hdr).op = false)) ∧
    (∃ (x : SiteN) (hdr : BitVec 128) (s : State) (attr : ℕ) (data : ℕ),
       siteEnabled s.dev ↑x = true ∧
        (siteOf s.dev ↑x).cause = 0 ∧
         (inlayHdr hdr).rsvd = 0 ∧
          0 < (siteOf s.dev ↑x).credits ∧
          (inlayHdr hdr).op = 6 ∧
          getBit attr 30 = true ∧
          (inlayHdr hdr).addr % 4 = 0 ∧
          windowFor
          (updSite (refill (↑x) s.dev) ↑x fun (y : SiteSt) =>
          { y with credits := y.credits - 1, tokens := y.tokens - 6400 })
          (↑x) (inlayHdr hdr).addr 2 =
          some attr) ∧
    (∃ (x : SiteN) (hdr : BitVec 128) (s : State) (attr : ℕ),
       siteEnabled s.dev ↑x = true ∧
        (siteOf s.dev ↑x).cause = 0 ∧
         (inlayHdr hdr).rsvd = 0 ∧
          0 < (siteOf s.dev ↑x).credits ∧
          placeOk
          (updSite (refill (↑x) s.dev) ↑x fun (y : SiteSt) =>
          { y with credits := y.credits - 1, tokens := y.tokens - 6400 })
          attr (inlayHdr hdr).addr =
          true ∧
          ownerOk
          (updSite (refill (↑x) s.dev) ↑x fun (y : SiteSt) =>
          { y with credits := y.credits - 1, tokens := y.tokens - 6400 })
          attr (inlayHdr hdr).addr =
          true ∧
          (inlayHdr hdr).op = 1 ∧
          (inlayHdr hdr).addr % 64 = 0 ∧
          windowFor
          (updSite (refill (↑x) s.dev) ↑x fun (y : SiteSt) =>
          { y with credits := y.credits - 1, tokens := y.tokens - 6400 })
          (↑x) (inlayHdr hdr).addr 1 =
          some attr) ∧
    (∃ (x : SiteN) (hdr : BitVec 128) (s : State) (attr : ℕ),
       siteEnabled s.dev ↑x = true ∧
        (siteOf s.dev ↑x).cause = 0 ∧
         (inlayHdr hdr).rsvd = 0 ∧
          0 < (siteOf s.dev ↑x).credits ∧
          placeOk
          (updSite (refill (↑x) s.dev) ↑x fun (y : SiteSt) =>
          { y with credits := y.credits - 1, tokens := y.tokens - 6400 })
          attr (inlayHdr hdr).addr =
          true ∧
          ownerOk
          (updSite (refill (↑x) s.dev) ↑x fun (y : SiteSt) =>
          { y with credits := y.credits - 1, tokens := y.tokens - 6400 })
          attr (inlayHdr hdr).addr =
          true ∧
          (inlayHdr hdr).op = 2 ∧
          (inlayHdr hdr).addr % 64 = 0 ∧
          windowFor
          (updSite (refill (↑x) s.dev) ↑x fun (y : SiteSt) =>
          { y with credits := y.credits - 1, tokens := y.tokens - 6400 })
          (↑x) (inlayHdr hdr).addr 4 =
          some attr) ∧
    (∃ (x : SiteN) (hdr : BitVec 128) (s : State) (attr : ℕ) (data : Line),
       siteEnabled s.dev ↑x = true ∧
        (siteOf s.dev ↑x).cause = 0 ∧
         (inlayHdr hdr).rsvd = 0 ∧
          0 < (siteOf s.dev ↑x).credits ∧
          placeOk
          (updSite (refill (↑x) s.dev) ↑x fun (y : SiteSt) =>
          { y with credits := y.credits - 1, tokens := y.tokens - 6400 })
          attr (inlayHdr hdr).addr =
          true ∧
          ownerOk
          (updSite (refill (↑x) s.dev) ↑x fun (y : SiteSt) =>
          { y with credits := y.credits - 1, tokens := y.tokens - 6400 })
          attr (inlayHdr hdr).addr =
          true ∧
          (inlayHdr hdr).op = 3 ∧
          (inlayHdr hdr).addr % 64 = 0 ∧
          windowFor
          (updSite (refill (↑x) s.dev) ↑x fun (y : SiteSt) =>
          { y with credits := y.credits - 1, tokens := y.tokens - 6400 })
          (↑x) (inlayHdr hdr).addr 2 =
          some attr) ∧
    (∃ (x : SiteN) (hdr : BitVec 128) (s : State) (attr : ℕ) (data : Line) (mask : ℕ),
       siteEnabled s.dev ↑x = true ∧
        (siteOf s.dev ↑x).cause = 0 ∧
         (inlayHdr hdr).rsvd = 0 ∧
          0 < (siteOf s.dev ↑x).credits ∧
          placeOk
          (updSite (refill (↑x) s.dev) ↑x fun (y : SiteSt) =>
          { y with credits := y.credits - 1, tokens := y.tokens - 6400 })
          attr (inlayHdr hdr).addr =
          true ∧
          ownerOk
          (updSite (refill (↑x) s.dev) ↑x fun (y : SiteSt) =>
          { y with credits := y.credits - 1, tokens := y.tokens - 6400 })
          attr (inlayHdr hdr).addr =
          true ∧
          (inlayHdr hdr).op = 4 ∧
          (inlayHdr hdr).addr % 64 = 0 ∧
          windowFor
          (updSite (refill (↑x) s.dev) ↑x fun (y : SiteSt) =>
          { y with credits := y.credits - 1, tokens := y.tokens - 6400 })
          (↑x) (inlayHdr hdr).addr 2 =
          some attr) :=
  ⟨⟨0, ih 5 0x48, st (dx memW id), memW, 7, 1, by decide +kernel⟩,
   ⟨0, ih 1 0x1000, .rd64 0 (ih 1 0x1000), 1, 1, 64, 64, st { dx memW id with list := { (dx memW id).list with cur := (dx memW id).list.cur ++ [(ekey 0xA107 1, some (.num 1))] } }, (by first | (simp; decide +kernel) | exact ⟨rfl, rfl, rfl, rfl, rfl, rfl, by decide +kernel, all_some rfl rfl⟩ | simp), by decide +kernel, by decide +kernel, by decide +kernel, by decide +kernel, by decide +kernel, by decide +kernel⟩,
   ⟨0, ih 2 0x1000, .rdf64 0 (ih 2 0x1000), 2, 4, 64, 64, st { dx memW id with list := { (dx memW id).list with cur := (dx memW id).list.cur ++ [(ekey 0xA107 1, some (.num 1))] } }, (by first | (simp; decide +kernel) | exact ⟨rfl, rfl, rfl, rfl, rfl, rfl, by decide +kernel, all_some rfl rfl⟩ | simp), by decide +kernel, by decide +kernel, by decide +kernel, by decide +kernel, by decide +kernel, by decide +kernel⟩,
   ⟨0, ih 1 0x1000, .rd64 0 (ih 1 0x1000), 1, 1, 64, 64, st { dx memW id with list := { (dx memW id).list with cur := (dx memW id).list.cur ++ [(ekey 0xA107 1, some (.num 2))] } }, (by first | (simp; decide +kernel) | exact ⟨rfl, rfl, rfl, rfl, rfl, rfl, by decide +kernel, all_some rfl rfl⟩ | simp), by decide +kernel, by decide +kernel, by decide +kernel, by decide +kernel, by decide +kernel, by decide +kernel⟩,
   ⟨0, ih 2 0x1000, .rdf64 0 (ih 2 0x1000), 2, 4, 64, 64, st { dx memW id with list := { (dx memW id).list with cur := (dx memW id).list.cur ++ [(ekey 0xA107 1, some (.num 2))] } }, (by first | (simp; decide +kernel) | exact ⟨rfl, rfl, rfl, rfl, rfl, rfl, by decide +kernel, all_some rfl rfl⟩ | simp), by decide +kernel, by decide +kernel, by decide +kernel, by decide +kernel, by decide +kernel, by decide +kernel⟩,
   ⟨0, ih 1 0, .rd64 0 (ih 1 0), 1, 1, 64, 64, st (dx memW (fun x => { x with cause := 2 })), (by first | (simp; decide +kernel) | exact ⟨rfl, rfl, rfl, rfl, rfl, rfl, by decide +kernel, all_some rfl rfl⟩ | simp), by decide +kernel, by decide +kernel⟩,
   ⟨0, ih 2 0, .rdf64 0 (ih 2 0), 2, 4, 64, 64, st (dx memW (fun x => { x with cause := 2 })), (by first | (simp; decide +kernel) | exact ⟨rfl, rfl, rfl, rfl, rfl, rfl, by decide +kernel, all_some rfl rfl⟩ | simp), by decide +kernel, by decide +kernel⟩,
   ⟨0, ih 1 1, .rd64 0 (ih 1 1), 1, 1, 64, 64, st (dx memW id), (by first | (simp; decide +kernel) | exact ⟨rfl, rfl, rfl, rfl, rfl, rfl, by decide +kernel, all_some rfl rfl⟩ | simp), by decide +kernel, by decide +kernel, by decide +kernel, by decide +kernel⟩,
   ⟨0, ih 2 1, .rdf64 0 (ih 2 1), 2, 4, 64, 64, st (dx memW id), (by first | (simp; decide +kernel) | exact ⟨rfl, rfl, rfl, rfl, rfl, rfl, by decide +kernel, all_some rfl rfl⟩ | simp), by decide +kernel, by decide +kernel, by decide +kernel, by decide +kernel⟩,
   ⟨0, ih 6 0x44, st { dx mmioW id with chans := [] }, mmioW, 3, by decide +kernel⟩,
   ⟨0, ih 1 0, st (dx memW id), memW, by decide +kernel⟩,
   ⟨0, ih 2 0x40, st (dx memW id), memW, by decide +kernel⟩,
   ⟨0, ih 3 0x40, st (dx memW id), memW, 7, by decide +kernel⟩,
   ⟨0, ih 4 0x40, st (dx memW id), memW, 7, 1, by decide +kernel⟩⟩

theorem witness_InlayDownstream :
    (∃ (x : SiteN) (s : State), (siteOf s.dev ↑x).cause = 0 ∧ sitePopulated s.dev ↑x = true) ∧
    (∃ (x : SiteN) (s : State) (tag : ℕ) (st : ℕ) (b : List Byte) (r : List (ℕ × ℕ × List Byte)), (siteOf s.dev ↑x).done = (tag, st, b) :: r) ∧
    (∃ (x : SiteN) (hdr : BitVec 128) (data : ℕ) (m : FMsg) (s : State),
       (inlayHdr hdr).op = 8 ∧ List.find? (fun (e : ℕ × FMsg) => e.1 == (inlayHdr hdr).tag) (siteOf s.dev ↑x).mmrd = some ((inlayHdr hdr).tag, m)) ∧
    (∃ (x : SiteN) (hdr : BitVec 128) (data : ℕ) (m : FMsg) (s : State),
       (inlayHdr hdr).op = 8 ∧ List.find? (fun (e : ℕ × FMsg) => e.1 == (inlayHdr hdr).tag) (siteOf s.dev ↑x).mmrd = some ((inlayHdr hdr).tag, m)) ∧
    (∃ (x : SiteN) (hdr : BitVec 128) (data : ℕ) (m : FMsg) (s : State),
       (inlayHdr hdr).op = 8 ∧ List.find? (fun (e : ℕ × FMsg) => e.1 == (inlayHdr hdr).tag) (siteOf s.dev ↑x).mmrd = some ((inlayHdr hdr).tag, m)) ∧
    (∃ (x : SiteN) (n : ℕ) (s : State),
       siteEnabled s.dev ↑x = true ∧ 1 ≤ n ∧ n ≤ 255 ∧ n ≤ creditRoom (refill (↑x) s.dev) ↑x ∧ 0 < (siteOf (refill (↑x) s.dev) ↑x).tokens) ∧
    (∃ (x : SiteN) (s : State), (siteOf s.dev ↑x).cause = 0 ∧ (siteOf s.dev ↑x).uState = 3) ∧
    (∃ (x : SiteN) (m : FMsg) (s : State), InService s.dev m ∧ siteEnabled s.dev ↑x = true ∧ (siteOf s.dev ↑x).cause = 0) ∧
    (∃ (x : SiteN) (m : FMsg) (s : State), InService s.dev m) ∧
    (∃ (x : SiteN) (s : State), (siteOf s.dev ↑x).cause = 0 ∧ (siteOf s.dev ↑x).mmrd ≠ []) :=
  ⟨⟨0, st { dx memW id with fuses := { d0.fuses with ordering := 2, inlayIdent := [(0, [1])] } }, by decide +kernel⟩,
   ⟨1, st (updSite d0 1 (fun x => { x with done := [(3, 0, [1, 2])] })), 3, 0, [1, 2], [], by decide +kernel⟩,
   ⟨0, BitVec.ofNat 128 (8 + 3 * 2 ^ 8 + 0 * 2 ^ 20), 9, fm .ncrd 0x48, st (dx memW (fun x => { x with mmrd := [(3, fm .ncrd 0x48)] })), by decide +kernel⟩,
   ⟨0, BitVec.ofNat 128 (8 + 3 * 2 ^ 8 + 1 * 2 ^ 20), 9, fm .ncrd 0x48, st (dx memW (fun x => { x with mmrd := [(3, fm .ncrd 0x48)] })), by decide +kernel⟩,
   ⟨0, BitVec.ofNat 128 (8 + 3 * 2 ^ 8 + 2 * 2 ^ 20), 9, fm .ncrd 0x48, st (dx memW (fun x => { x with mmrd := [(3, fm .ncrd 0x48)] })), by decide +kernel⟩,
   ⟨0, 254, st (dx memW (fun x => { x with tokens := 1 })), by decide +kernel⟩,
   ⟨0, st (dx memW (fun x => { x with uState := 3 })), by decide +kernel⟩,
   ⟨0, fm .ncrd 0x48, st (dx memW id), by decide +kernel⟩,
   ⟨0, fm .ncwr 0x48, st (dx memW (fun x => { x with nextTag := 4095 })), by decide +kernel⟩,
   ⟨0, st (dx memW (fun x => { x with mmrd := [(3, fm .ncrd 0x48)] })), by decide +kernel⟩⟩

theorem witness_ReadAnswersValue :
    (∃ (m : ListMsg) (n : SessN) (x : Session) (s : State) (r : EntryRow),
       ListMsgIn s.dev m n x ∧
        m.body.length = 4 ∧
         leAt m.body 3 1 < 2 ∧
          entryRow (leAt m.body 0 2) (leAt m.body 2 1) = some r ∧ targetCode s.dev x.role false false (leAt m.body 0 2) (leAt m.body 2 1) [] = abOk) ∧
    (∃ (m : ListMsg) (n : SessN) (x : Session) (s : State),
       ListMsgIn s.dev m n x ∧ m.body.length = 4 ∧ leAt m.body 3 1 < 2 ∧ targetCode s.dev x.role false false (leAt m.body 0 2) (leAt m.body 2 1) [] ≠ abOk) ∧
    (∃ (m : ListMsg) (n : SessN) (x : Session) (s : State), ListMsgIn s.dev m n x ∧ m.body.length = 4 ∧ 2 ≤ leAt m.body 3 1) ∧
    (∃ (m : ListMsg) (n : SessN) (x : Session) (s : State), ListMsgIn s.dev m n x ∧ m.body.length ≠ 4) ∧
    (∃ (m : ListMsg) (n : SessN) (x : Session) (s : State) (r : EntryRow),
       ListMsgIn s.dev m n x ∧
        m.body.length = 4 ∧
         leAt m.body 3 1 < 2 ∧
          entryRow (leAt m.body 0 2) (leAt m.body 2 1) = some r ∧ targetCode s.dev x.role false false (leAt m.body 0 2) (leAt m.body 2 1) [] = abOk) :=
  ⟨⟨lm (leBytes 2 0x2000 ++ [1, 0]), 0, ses, st d0, row 0x2000 1, by decide +kernel⟩,
   ⟨lm [0, 0x20, 0xFF, 0], 0, ses, st d0, by decide +kernel⟩,
   ⟨lm [0, 0x20, 1, 2], 0, ses, st d0, by decide +kernel⟩,
   ⟨lm [0, 0x20, 1], 0, ses, st d0, by decide +kernel⟩,
   ⟨lm (leBytes 2 0x2000 ++ [1, 1]), 0, ses, st (setStg d0 0x2000 1 (some (.num 2000))), row 0x2000 1, by decide +kernel⟩⟩

theorem witness_WritesAndAborts :
    (∃ (m : ListMsg) (p : PartnerObs) (u : UcieObs) (s : State) (k : ℕ) (x : Session) (r : EntryRow),
       spdmUp s.dev = true ∧
        m.vendor = s.dev.fuses.vendorId ∧
         s.dev.kerf.step1 = none ∧
          openSess s.dev m = some (k, x) ∧
          m.version = 1 ∧
          6 ≤ m.body.length ∧
          (List.drop 6 m.body).length = leAt m.body 4 2 ∧
          leAt m.body 3 1 = 0 ∧ entryRow (leAt m.body 0 2) (leAt m.body 2 1) = some r ∧ r.typ ≠ EType.domain ∧ r.swap = Swap.boot) ∧
    (∃ (m : ListMsg) (p : PartnerObs) (u : UcieObs) (s : State) (k : ℕ) (x : Session) (r : EntryRow),
       spdmUp s.dev = true ∧
        m.vendor = s.dev.fuses.vendorId ∧
         s.dev.kerf.step1 = none ∧
          openSess s.dev m = some (k, x) ∧
          m.version = 1 ∧
          6 ≤ m.body.length ∧
          (List.drop 6 m.body).length = leAt m.body 4 2 ∧
          leAt m.body 3 1 = 0 ∧ entryRow (leAt m.body 0 2) (leAt m.body 2 1) = some r ∧ r.typ = EType.domain) ∧
    (∃ (m : ListMsg) (p : PartnerObs) (u : UcieObs) (n : SessN) (x : Session) (r : EntryRow) (s : State) (st : ℕ × ℕ) (f : Fit) (ph : Fit),
       ListMsgIn s.dev m n x ∧
        6 ≤ m.body.length ∧
         (List.drop 6 m.body).length = leAt m.body 4 2 ∧
          leAt m.body 3 1 = 0 ∧
          entryRow (leAt m.body 0 2) (leAt m.body 2 1) = some r ∧
          r.swap = Swap.kerf ∧
          MayWrite s.dev n x (leAt m.body 0 2) (leAt m.body 2 1) (List.drop 6 m.body) ∧
          leAt m.body 0 2 ≠ 20512 ∧
          enableOf s.dev p (leAt m.body 0 2) (leAt m.body 2 1) = some (st, f, ph) ∧
          leAt m.body 0 2 ≠ 16640 ∧
          leNat (List.drop 6 m.body) = 1 ∧
          ent s.dev (leAt m.body 0 2) (leAt m.body 2 1) = 0 ∧ (dryOf s.dev st.1 st.2).pend = false ∧ f.1 = 0) ∧
    (∃ (m : ListMsg) (p : PartnerObs) (u : UcieObs) (s : State) (k : ℕ) (x : Session),
       spdmUp s.dev = true ∧
        m.vendor = s.dev.fuses.vendorId ∧
         s.dev.kerf.step1 = none ∧
          openSess s.dev m = some (k, x) ∧
          m.version = 1 ∧
          6 ≤ m.body.length ∧
          (List.drop 6 m.body).length = leAt m.body 4 2 ∧ leAt m.body 3 1 = 0 ∧ entryRow (leAt m.body 0 2) (leAt m.body 2 1) = none) ∧
    (∃ (m : ListMsg) (p : PartnerObs) (u : UcieObs) (s : State) (k : ℕ) (x : Session),
       spdmUp s.dev = true ∧
        m.vendor = s.dev.fuses.vendorId ∧
         s.dev.kerf.step1 = none ∧ openSess s.dev m = some (k, x) ∧ m.version = 1 ∧ (m.body.length < 6 ∨ (List.drop 6 m.body).length ≠ leAt m.body 4 2)) ∧
    (∃ (m : ListMsg) (p : PartnerObs) (u : UcieObs) (s : State) (k : ℕ) (x : Session),
       spdmUp s.dev = true ∧
        m.vendor = s.dev.fuses.vendorId ∧
         s.dev.kerf.step1 = none ∧ openSess s.dev m = some (k, x) ∧ m.version = 1 ∧ (m.body.length < 6 ∨ (List.drop 6 m.body).length ≠ leAt m.body 4 2)) ∧
    (∃ (m : ListMsg) (p : PartnerObs) (u : UcieObs) (s : State),
       spdmUp s.dev = true ∧ m.vendor = s.dev.fuses.vendorId ∧ s.dev.kerf.step1 = none ∧ openSess s.dev m = none) ∧
    (∃ (m : ListMsg) (p : PartnerObs) (u : UcieObs) (s : State) (k : ℕ) (x : Session) (r : EntryRow),
       spdmUp s.dev = true ∧
        m.vendor = s.dev.fuses.vendorId ∧
         s.dev.kerf.step1 = none ∧
          openSess s.dev m = some (k, x) ∧
          m.version = 1 ∧
          6 ≤ m.body.length ∧
          (List.drop 6 m.body).length = leAt m.body 4 2 ∧
          leAt m.body 3 1 = 0 ∧
          entryRow (leAt m.body 0 2) (leAt m.body 2 1) = some r ∧
          r.typ ≠ EType.domain ∧
          r.swap ≠ Swap.sealed_ ∧
          r.swap ≠ Swap.boot ∧
          mayWrite r x.role = true ∧
          narrowOk s.dev x.role (leAt m.body 0 2) (leAt m.body 2 1) (List.drop 6 m.body) = true ∧
          pairedHere s.dev (leAt m.body 0 2) (leAt m.body 2 1) = true) ∧
    (∃ (m : ListMsg) (p : PartnerObs) (u : UcieObs) (n : SessN) (x : Session) (r : EntryRow) (s : State) (st : ℕ × ℕ) (f : Fit) (ph : Fit),
       ListMsgIn s.dev m n x ∧
        6 ≤ m.body.length ∧
         (List.drop 6 m.body).length = leAt m.body 4 2 ∧
          leAt m.body 3 1 = 0 ∧
          entryRow (leAt m.body 0 2) (leAt m.body 2 1) = some r ∧
          r.swap = Swap.kerf ∧
          MayWrite s.dev n x (leAt m.body 0 2) (leAt m.body 2 1) (List.drop 6 m.body) ∧
          leAt m.body 0 2 ≠ 20512 ∧
          enableOf s.dev p (leAt m.body 0 2) (leAt m.body 2 1) = some (st, f, ph) ∧
          leAt m.body 0 2 ≠ 16640 ∧
          leNat (List.drop 6 m.body) = 1 ∧
          ent s.dev (leAt m.body 0 2) (leAt m.body 2 1) = 0 ∧ (dryOf s.dev st.1 st.2).pend = false ∧ f.1 ≠ 0) ∧
    (∃ (m : ListMsg) (p : PartnerObs) (u : UcieObs) (n : SessN) (x : Session) (r : EntryRow) (s : State),
       ListMsgIn s.dev m n x ∧
        6 ≤ m.body.length ∧
         (List.drop 6 m.body).length = leAt m.body 4 2 ∧
          leAt m.body 3 1 = 0 ∧
          entryRow (leAt m.body 0 2) (leAt m.body 2 1) = some r ∧
          r.swap = Swap.kerf ∧
          MayWrite s.dev n x (leAt m.body 0 2) (leAt m.body 2 1) (List.drop 6 m.body) ∧
          leAt m.body 0 2 ≠ 20512 ∧
          enableOf s.dev p (leAt m.body 0 2) (leAt m.body 2 1) = none ∧
          ∃
          f ∈
          dependents (setStg s.dev (leAt m.body 0 2) (leAt m.body 2 1) (some (valOf r (List.drop 6 m.body)))) p (leAt m.body 0 2)
          (leAt m.body 2 1),
          f.2.2.1 ≠ 0) ∧
    (∃ (m : ListMsg) (p : PartnerObs) (u : UcieObs) (s : State) (k : ℕ) (x : Session),
       spdmUp s.dev = true ∧
        m.vendor = s.dev.fuses.vendorId ∧
         s.dev.kerf.step1 = none ∧
          openSess s.dev m = some (k, x) ∧ m.version = 1 ∧ 6 ≤ m.body.length ∧ (List.drop 6 m.body).length = leAt m.body 4 2 ∧ leAt m.body 3 1 ≠ 0) ∧
    (∃ (m : ListMsg) (p : PartnerObs) (u : UcieObs) (s : State) (k : ℕ) (x : Session) (r : EntryRow),
       spdmUp s.dev = true ∧
        m.vendor = s.dev.fuses.vendorId ∧
         s.dev.kerf.step1 = none ∧
          openSess s.dev m = some (k, x) ∧
          m.version = 1 ∧
          6 ≤ m.body.length ∧
          (List.drop 6 m.body).length = leAt m.body 4 2 ∧
          leAt m.body 3 1 = 0 ∧
          entryRow (leAt m.body 0 2) (leAt m.body 2 1) = some r ∧
          r.typ ≠ EType.domain ∧
          r.swap ≠ Swap.sealed_ ∧
          r.swap ≠ Swap.boot ∧
          (mayWrite r x.role = false ∨ narrowOk s.dev x.role (leAt m.body 0 2) (leAt m.body 2 1) (List.drop 6 m.body) = false)) ∧
    (∃ (m : ListMsg) (p : PartnerObs) (u : UcieObs) (s : State) (k : ℕ) (x : Session) (r : EntryRow),
       spdmUp s.dev = true ∧
        m.vendor = s.dev.fuses.vendorId ∧
         s.dev.kerf.step1 = none ∧
          openSess s.dev m = some (k, x) ∧
          m.version = 1 ∧
          6 ≤ m.body.length ∧
          (List.drop 6 m.body).length = leAt m.body 4 2 ∧
          leAt m.body 3 1 = 0 ∧ entryRow (leAt m.body 0 2) (leAt m.body 2 1) = some r ∧ r.typ ≠ EType.domain ∧ r.swap = Swap.sealed_) ∧
    (∃ (m : ListMsg) (p : PartnerObs) (u : UcieObs) (n : SessN) (x : Session) (r : EntryRow) (s : State),
       ListMsgIn s.dev m n x ∧
        6 ≤ m.body.length ∧
         (List.drop 6 m.body).length = leAt m.body 4 2 ∧
          leAt m.body 3 1 = 0 ∧
          entryRow (leAt m.body 0 2) (leAt m.body 2 1) = some r ∧
          r.swap = Swap.kerf ∧
          MayWrite s.dev n x (leAt m.body 0 2) (leAt m.body 2 1) (List.drop 6 m.body) ∧
          leAt m.body 0 2 ≠ 20512 ∧
          enableOf s.dev p (leAt m.body 0 2) (leAt m.body 2 1) = none ∧
          ∀
          f ∈
          dependents (setStg s.dev (leAt m.body 0 2) (leAt m.body 2 1) (some (valOf r (List.drop 6 m.body)))) p (leAt m.body 0 2)
          (leAt m.body 2 1),
          f.2.2.1 = 0) ∧
    (∃ (m : ListMsg) (p : PartnerObs) (u : UcieObs) (s : State) (k : ℕ) (x : Session),
       spdmUp s.dev = true ∧
        m.vendor = s.dev.fuses.vendorId ∧
         s.dev.kerf.step1 = none ∧
          openSess s.dev m = some (k, x) ∧
          m.version = 1 ∧
          6 ≤ m.body.length ∧
          (List.drop 6 m.body).length = leAt m.body 4 2 ∧ leAt m.body 3 1 = 0 ∧ entryRow (leAt m.body 0 2) (leAt m.body 2 1) = none) ∧
    (∃ (m : ListMsg) (p : PartnerObs) (u : UcieObs) (s : State) (k : ℕ) (x : Session) (r : EntryRow),
       spdmUp s.dev = true ∧
        m.vendor = s.dev.fuses.vendorId ∧
         s.dev.kerf.step1 = none ∧
          openSess s.dev m = some (k, x) ∧
          m.version = 1 ∧
          6 ≤ m.body.length ∧
          (List.drop 6 m.body).length = leAt m.body 4 2 ∧
          leAt m.body 3 1 = 0 ∧
          entryRow (leAt m.body 0 2) (leAt m.body 2 1) = some r ∧
          r.typ ≠ EType.domain ∧
          r.swap ≠ Swap.sealed_ ∧
          r.swap ≠ Swap.boot ∧
          mayWrite r x.role = true ∧
          narrowOk s.dev x.role (leAt m.body 0 2) (leAt m.body 2 1) (List.drop 6 m.body) = true ∧
          pairedHere s.dev (leAt m.body 0 2) (leAt m.body 2 1) = false ∧
          valueCode s.dev r (leAt m.body 0 2) (leAt m.body 2 1) (List.drop 6 m.body) ≠ abOk) ∧
    (∃ (m : ListMsg) (p : PartnerObs) (u : UcieObs) (s : State) (k : ℕ) (x : Session),
       spdmUp s.dev = true ∧ m.vendor = s.dev.fuses.vendorId ∧ s.dev.kerf.step1 = none ∧ openSess s.dev m = some (k, x) ∧ m.version ≠ 1) :=
  ⟨⟨lm (wb 0x4000 1 []), noP, noU, st d0, 0, ses, row 0x4000 1, by decide +kernel⟩,
   ⟨lm (wb 0x7030 1 []), noP, noU, st d0, 0, ses, row 0x7030 1, by decide +kernel⟩,
   ⟨lm (wb 0xA100 1 [1]), noP, noU, 0, ses, row 0xA100 1, st dsite, ((enableOf dsite noP 0xA100 1).getD ((0, 0), (0, none), (0, none))).1, ((enableOf dsite noP 0xA100 1).getD ((0, 0), (0, none), (0, none))).2.1,
    ((enableOf dsite noP 0xA100 1).getD ((0, 0), (0, none), (0, none))).2.2, (by first | decide +kernel | (unfold ListMsgIn; decide +kernel)), (by first | decide +kernel | (unfold ListMsgIn; decide +kernel)), (by first | decide +kernel | (unfold ListMsgIn; decide +kernel)), (by first | decide +kernel | (unfold ListMsgIn; decide +kernel)), (by first | decide +kernel | (unfold ListMsgIn; decide +kernel)), (by first | decide +kernel | (unfold ListMsgIn; decide +kernel)),
    (by first | decide +kernel | (unfold ListMsgIn; decide +kernel)), (by first | decide +kernel | (unfold ListMsgIn; decide +kernel)), (by first | decide +kernel | (unfold ListMsgIn; decide +kernel)), (by first | decide +kernel | (unfold ListMsgIn; decide +kernel)), (by first | decide +kernel | (unfold ListMsgIn; decide +kernel)), (by first | decide +kernel | (unfold ListMsgIn; decide +kernel)), (by first | decide +kernel | (unfold ListMsgIn; decide +kernel)), (by first | decide +kernel | (unfold ListMsgIn; decide +kernel))⟩,
   ⟨lm (wb 0xFFFF 0 []), noP, noU, st d0, 0, ses, by decide +kernel⟩,
   ⟨lm [1, 2, 3, 4, 5], noP, noU, st d0, 0, ses, by decide +kernel⟩,
   ⟨lm [1, 2, 3, 4, 5, 6], noP, noU, st d0, 0, ses, by decide +kernel⟩,
   ⟨{ lm [] with sess := none }, noP, noU, st d0, by decide +kernel⟩,
   ⟨lm (wb 0x2000 1 (leBytes 4 2000)), noP, noU, st (dp 2 3), 0, ses, row 0x2000 1, by decide +kernel⟩,
   ⟨lm (wb 0xA100 1 [1]), noP, noU, 0, ses, row 0xA100 1, st (d0), ((enableOf (d0) noP 0xA100 1).getD ((0, 0), (0, none), (0, none))).1, ((enableOf (d0) noP 0xA100 1).getD ((0, 0), (0, none), (0, none))).2.1, ((enableOf (d0) noP 0xA100 1).getD ((0, 0), (0, none), (0, none))).2.2, (by first | decide +kernel | (unfold ListMsgIn; decide +kernel))⟩,
   ⟨lm (wb 0xA110 1 (leBytes 8 0x2000)), noP, noU, 0, ses, row 0xA110 1, st (dx memW id), (by first | decide +kernel | (unfold ListMsgIn; decide +kernel))⟩,
   ⟨lm [0, 0x20, 1, 1, 0, 0], noP, noU, st d0, 0, ses, by decide +kernel⟩,
   ⟨lm (wb 0x2000 1 []), noP, noU, st (dl { ses with role := .observer }), 0, { ses with role := .observer }, row 0x2000 1, by decide +kernel⟩,
   ⟨lm (wb 0x2000 2 []), noP, noU, st d0, 0, ses, row 0x2000 2, by decide +kernel⟩,
   ⟨lm (wb 0xA108 1 (leBytes 4 1000)), noP, noU, 0, ses, row 0xA108 1, st d0, (by first | decide +kernel | (unfold ListMsgIn; decide +kernel))⟩,
   ⟨lm (wb 0x2000 0xFF []), noP, noU, st d0, 0, ses, by decide +kernel⟩,
   ⟨lm (wb 0x2000 1 [1]), noP, noU, st d0, 0, ses, row 0x2000 1, by decide +kernel⟩,
   ⟨{ lm [] with version := 0 }, noP, noU, st d0, 0, ses, by decide +kernel⟩⟩

theorem witness_DomainTransfers :
    (∃ (m : ListMsg) (n : SessN) (x : Session) (s : State) (r : EntryRow),
       ListMsgIn s.dev m n x ∧
        m.body.length = 8 ∧
         leAt m.body 3 1 = 0 ∧
          entryRow (leAt m.body 0 2) (leAt m.body 2 1) = some r ∧
          targetCode s.dev x.role true true (leAt m.body 0 2) (leAt m.body 2 1) [] = abOk ∧
          ownWrite x = false ∧
          entryBusy s.dev (↑n) (leAt m.body 0 2) (leAt m.body 2 1) = false ∧ totalCode r (leAt m.body 0 2) (leAt m.body 4 4) = abOk) ∧
    (∃ (m : ListMsg) (n : SessN) (x : Session) (s : State) (r : EntryRow),
       ListMsgIn s.dev m n x ∧
        m.body.length = 8 ∧
         leAt m.body 3 1 = 0 ∧
          entryRow (leAt m.body 0 2) (leAt m.body 2 1) = some r ∧
          targetCode s.dev x.role true true (leAt m.body 0 2) (leAt m.body 2 1) [] = abOk ∧
          (ownWrite x = true ∨ entryBusy s.dev (↑n) (leAt m.body 0 2) (leAt m.body 2 1) = true)) ∧
    (∃ (m : ListMsg) (n : SessN) (x : Session) (s : State), ListMsgIn s.dev m n x ∧ m.body = [] ∧ x.transfer.isSome = true) ∧
    (∃ (m : ListMsg) (n : SessN) (x : Session) (s : State), ListMsgIn s.dev m n x ∧ m.body = [] ∧ x.transfer = none) ∧
    (∃ (m : ListMsg) (n : SessN) (x : Session) (s : State) (t : Transfer),
       ListMsgIn s.dev m n x ∧
        6 ≤ m.body.length ∧
         m.body.length = 6 + leAt m.body 4 2 ∧
          x.transfer = some t ∧
          t.write = true ∧
          t.data.length + leAt m.body 4 2 ≤ t.total ∧ leAt m.body 0 4 = t.data.length ∧ (leAt m.body 4 2 = 0 ∨ 1024 < leAt m.body 4 2)) ∧
    (∃ (m : ListMsg) (n : SessN) (x : Session) (s : State) (t : Transfer) (r : EntryRow) (p : PartnerObs),
       ListMsgIn s.dev m n x ∧
        m.body = [] ∧
         x.transfer = some t ∧
          t.write = true ∧
          entryRow t.idx t.sub = some r ∧
          narrowOk s.dev x.role t.idx t.sub t.data = true ∧
          t.data.length = t.total ∧
          octetsCode
          (updSess s.dev ↑n fun (x : Session) =>
          { x with transfer := none })
          r t.idx t.data =
          abOk ∧
          r.swap = Swap.kerf ∧
          ∃
          f ∈
          if t.idx = 20512 then
          [(20481, t.sub,
          microcodeFit
          (updSess s.dev ↑n fun (x : Session) =>
          { x with transfer := none })
          t.data)]
          else
          dependents
          (setStg
          (updSess s.dev ↑n fun (x : Session) =>
          { x with transfer := none })
          t.idx t.sub (some (Val.bytes t.data)))
          p t.idx t.sub,
          f.2.2.1 ≠ 0) ∧
    (∃ (m : ListMsg) (n : SessN) (x : Session) (s : State) (t : Transfer) (r : EntryRow) (p : PartnerObs),
       ListMsgIn s.dev m n x ∧
        m.body = [] ∧
         x.transfer = some t ∧
          t.write = true ∧
          entryRow t.idx t.sub = some r ∧
          narrowOk s.dev x.role t.idx t.sub t.data = true ∧
          t.data.length = t.total ∧
          octetsCode
          (updSess s.dev ↑n fun (x : Session) =>
          { x with transfer := none })
          r t.idx t.data =
          abOk ∧
          r.swap = Swap.kerf ∧
          ∀
          f ∈
          if t.idx = 20512 then
          [(20481, t.sub,
          microcodeFit
          (updSess s.dev ↑n fun (x : Session) =>
          { x with transfer := none })
          t.data)]
          else
          dependents
          (setStg
          (updSess s.dev ↑n fun (x : Session) =>
          { x with transfer := none })
          t.idx t.sub (some (Val.bytes t.data)))
          p t.idx t.sub,
          f.2.2.1 = 0) ∧
    (∃ (m : ListMsg) (n : SessN) (x : Session) (s : State) (t : Transfer) (r : EntryRow) (p : PartnerObs),
       ListMsgIn s.dev m n x ∧
        m.body = [] ∧
         x.transfer = some t ∧ t.write = true ∧ entryRow t.idx t.sub = some r ∧ narrowOk s.dev x.role t.idx t.sub t.data = true ∧ t.data.length ≠ t.total) ∧
    (∃ (m : ListMsg) (n : SessN) (x : Session) (s : State), ListMsgIn s.dev m n x ∧ x.transfer.isSome = true) ∧
    (∃ (m : ListMsg) (n : SessN) (x : Session) (s : State) (t : Transfer),
       ListMsgIn s.dev m n x ∧
        6 ≤ m.body.length ∧
         m.body.length = 6 + leAt m.body 4 2 ∧
          x.transfer = some t ∧ t.write = true ∧ t.data.length + leAt m.body 4 2 ≤ t.total ∧ leAt m.body 0 4 ≠ t.data.length) ∧
    (∃ (m : ListMsg) (n : SessN) (x : Session) (s : State) (r : EntryRow),
       ListMsgIn s.dev m n x ∧
        m.body.length = 4 ∧
         leAt m.body 3 1 < 2 ∧
          entryRow (leAt m.body 0 2) (leAt m.body 2 1) = some r ∧
          targetCode s.dev x.role false true (leAt m.body 0 2) (leAt m.body 2 1) [] = abOk ∧ ownWrite x = false) ∧
    (∃ (m : ListMsg) (n : SessN) (x : Session) (s : State) (t : Transfer) (r : EntryRow),
       ListMsgIn s.dev m n x ∧
        m.body.length = 6 ∧
         x.transfer = some t ∧
          t.write = false ∧
          1 ≤ leAt m.body 4 2 ∧
          leAt m.body 4 2 ≤ 1024 ∧ leAt m.body 0 4 + leAt m.body 4 2 ≤ t.total ∧ t.idx ≠ 32784 ∧ t.live = true ∧ entryRow t.idx t.sub = some r) ∧
    (∃ (m : ListMsg) (n : SessN) (x : Session) (s : State) (t : Transfer),
       ListMsgIn s.dev m n x ∧
        m.body.length = 6 ∧
         x.transfer = some t ∧ t.write = false ∧ (leAt m.body 4 2 = 0 ∨ 1024 < leAt m.body 4 2 ∨ t.total < leAt m.body 0 4 + leAt m.body 4 2)) ∧
    (∃ (m : ListMsg) (n : SessN) (x : Session) (s : State) (t : Transfer),
       ListMsgIn s.dev m n x ∧
        m.body.length = 6 ∧
         x.transfer = some t ∧
          t.write = false ∧ 1 ≤ leAt m.body 4 2 ∧ leAt m.body 4 2 ≤ 1024 ∧ leAt m.body 0 4 + leAt m.body 4 2 ≤ t.total ∧ t.idx = 32784) ∧
    (∃ (m : ListMsg) (n : SessN) (x : Session) (s : State) (t : Transfer),
       ListMsgIn s.dev m n x ∧
        m.body.length = 6 ∧
         x.transfer = some t ∧
          t.write = false ∧ 1 ≤ leAt m.body 4 2 ∧ leAt m.body 4 2 ≤ 1024 ∧ leAt m.body 0 4 + leAt m.body 4 2 ≤ t.total ∧ t.idx ≠ 32784 ∧ t.live = false) ∧
    (∃ (m : ListMsg) (n : SessN) (x : Session) (s : State) (t : Transfer),
       ListMsgIn s.dev m n x ∧
        6 ≤ m.body.length ∧
         m.body.length = 6 + leAt m.body 4 2 ∧
          x.transfer = some t ∧
          t.write = true ∧ t.data.length + leAt m.body 4 2 ≤ t.total ∧ leAt m.body 0 4 = t.data.length ∧ 1 ≤ leAt m.body 4 2 ∧ leAt m.body 4 2 ≤ 1024) ∧
    (∃ (m : ListMsg) (n : SessN) (x : Session) (s : State) (t : Transfer),
       ListMsgIn s.dev m n x ∧
        6 ≤ m.body.length ∧
         m.body.length = 6 + leAt m.body 4 2 ∧
          x.transfer = some t ∧
          t.write = true ∧ t.data.length + leAt m.body 4 2 ≤ t.total ∧ leAt m.body 0 4 = t.data.length ∧ 1 ≤ leAt m.body 4 2 ∧ leAt m.body 4 2 ≤ 1024) ∧
    (∃ (m : ListMsg) (n : SessN) (x : Session) (s : State) (t : Transfer),
       ListMsgIn s.dev m n x ∧
        6 ≤ m.body.length ∧ m.body.length = 6 + leAt m.body 4 2 ∧ x.transfer = some t ∧ t.write = true ∧ t.total < t.data.length + leAt m.body 4 2) :=
  ⟨⟨lm (leBytes 2 0x4014 ++ [16, 0] ++ leBytes 4 64), 0, ses, st d0, row 0x4014 16, by decide +kernel⟩,
   ⟨lm (leBytes 2 0x4014 ++ [16, 0] ++ leBytes 4 64), 0, { ses with transfer := some ⟨true, 0x4014, 1, 3, [1, 2], false, false⟩ }, st (dl { ses with transfer := some ⟨true, 0x4014, 1, 3, [1, 2], false, false⟩ }), row 0x4014 16, by decide +kernel⟩,
   ⟨lm [], 0, { ses with transfer := some ⟨true, 0x4014, 1, 3, [1, 2], false, false⟩ }, st (dl { ses with transfer := some ⟨true, 0x4014, 1, 3, [1, 2], false, false⟩ }), by decide +kernel⟩,
   ⟨lm [], 0, ses, st d0, by decide +kernel⟩,
   ⟨lm (leBytes 4 2 ++ leBytes 2 0), 0, { ses with transfer := some ⟨true, 0x4014, 1, 3, [1, 2], false, false⟩ }, st (dl { ses with transfer := some ⟨true, 0x4014, 1, 3, [1, 2], false, false⟩ }), ⟨true, 0x4014, 1, 3, [1, 2], false, false⟩, by decide +kernel⟩,
   ⟨lm [], 0, { ses with transfer := some ⟨true, 0x5020, 1, 3, [1, 2, 3], false, false⟩ }, st (dl { ses with transfer := some ⟨true, 0x5020, 1, 3, [1, 2, 3], false, false⟩ }), ⟨true, 0x5020, 1, 3, [1, 2, 3], false, false⟩, row 0x5020 1, noP, by decide +kernel⟩,
   ⟨lm [], 0, { ses with transfer := some ⟨true, 0x4014, 2, 64, tim, false, false⟩ }, st (dl { ses with transfer := some ⟨true, 0x4014, 2, 64, tim, false, false⟩ }), ⟨true, 0x4014, 2, 64, tim, false, false⟩, row 0x4014 2, noP, by decide +kernel⟩,
   ⟨lm [], 0, { ses with transfer := some ⟨true, 0x4014, 1, 3, [1, 2], false, false⟩ }, st (dl { ses with transfer := some ⟨true, 0x4014, 1, 3, [1, 2], false, false⟩ }), ⟨true, 0x4014, 1, 3, [1, 2], false, false⟩, row 0x4014 1, noP, by decide +kernel⟩,
   ⟨lm [], 0, { ses with transfer := some ⟨true, 0x4014, 1, 3, [1, 2], false, false⟩ }, st (dl { ses with transfer := some ⟨true, 0x4014, 1, 3, [1, 2], false, false⟩ }), by decide +kernel⟩,
   ⟨lm (leBytes 4 1 ++ leBytes 2 1 ++ [9]), 0, { ses with transfer := some ⟨true, 0x4014, 1, 3, [1, 2], false, false⟩ }, st (dl { ses with transfer := some ⟨true, 0x4014, 1, 3, [1, 2], false, false⟩ }), ⟨true, 0x4014, 1, 3, [1, 2], false, false⟩, by decide +kernel⟩,
   ⟨lm (leBytes 2 0x6000 ++ [5, 0]), 0, ses, st d0, row 0x6000 5, by decide +kernel⟩,
   ⟨lm (leBytes 4 0 ++ leBytes 2 2), 0, { ses with transfer := some ⟨false, 0x5020, 1, 3, [1, 2, 3], true, false⟩ }, st (dl { ses with transfer := some ⟨false, 0x5020, 1, 3, [1, 2, 3], true, false⟩ }), ⟨false, 0x5020, 1, 3, [1, 2, 3], true, false⟩, row 0x5020 1, by decide +kernel⟩,
   ⟨lm (leBytes 4 2 ++ leBytes 2 2), 0, { ses with transfer := some ⟨false, 0x4014, 1, 3, [1, 2, 3], false, false⟩ }, st (dl { ses with transfer := some ⟨false, 0x4014, 1, 3, [1, 2, 3], false, false⟩ }), ⟨false, 0x4014, 1, 3, [1, 2, 3], false, false⟩, by decide +kernel⟩,
   ⟨lm (leBytes 4 1 ++ leBytes 2 2), 0, { ses with transfer := some ⟨false, 0x8010, 0, 3000, [], true, false⟩ }, st (dl { ses with transfer := some ⟨false, 0x8010, 0, 3000, [], true, false⟩ }), ⟨false, 0x8010, 0, 3000, [], true, false⟩, by decide +kernel⟩,
   ⟨lm (leBytes 4 1 ++ leBytes 2 2), 0, { ses with transfer := some ⟨false, 0x4014, 1, 3, [1, 2, 3], false, false⟩ }, st (dl { ses with transfer := some ⟨false, 0x4014, 1, 3, [1, 2, 3], false, false⟩ }), ⟨false, 0x4014, 1, 3, [1, 2, 3], false, false⟩, by decide +kernel⟩,
   ⟨lm (leBytes 4 2 ++ leBytes 2 1 ++ [9]), 0, { ses with transfer := some ⟨true, 0x4014, 1, 3, [1, 2], false, false⟩ }, st (dl { ses with transfer := some ⟨true, 0x4014, 1, 3, [1, 2], false, false⟩ }), ⟨true, 0x4014, 1, 3, [1, 2], false, false⟩, by decide +kernel⟩,
   ⟨lm (leBytes 4 0 ++ leBytes 2 1024 ++ List.replicate 1024 7), 0, { ses with transfer := some ⟨true, 0x5020, 1, 1024, [], false, false⟩ }, st (dl { ses with transfer := some ⟨true, 0x5020, 1, 1024, [], false, false⟩ }), ⟨true, 0x5020, 1, 1024, [], false, false⟩, by decide +kernel⟩,
   ⟨lm (leBytes 4 2 ++ leBytes 2 2 ++ [9, 8]), 0, { ses with transfer := some ⟨true, 0x4014, 1, 3, [1, 2], false, false⟩ }, st (dl { ses with transfer := some ⟨true, 0x4014, 1, 3, [1, 2], false, false⟩ }), ⟨true, 0x4014, 1, 3, [1, 2], false, false⟩, by decide +kernel⟩⟩

theorem witness_KerfCutsAndWaits :
    (∃ (m : ListMsg) (n : SessN) (x : Session) (s : State),
       SessionServed s.dev n x ∧
        ListMsgIn s.dev m n x ∧ m.body.length = 8 ∧ x.parked = none ∧ leNat m.body ≤ s.dev.kerf.counter + 10000 ∧ leNat m.body ≤ s.dev.kerf.lastSeq) ∧
    (∃ (o : KerfObs) (s : State),
       s.dev.boot.phase = BootPhase.released ∧
        awaitsEdge s.dev = false ∧
         sealWaits s.dev = false ∧ s.dev.kerf.step1 = none ∧ step1Waits (mirrorKerfRec (s.dev.kerf.counter + 1) (cut o s.dev)) = false) ∧
    (∃ (m : ListMsg) (n : SessN) (x : Session) (s : State),
       SessionServed s.dev n x ∧ ListMsgIn s.dev m n x ∧ m.body.length = 8 ∧ x.parked = none ∧ s.dev.kerf.counter + 10000 < leNat m.body) ∧
    (∃ (o : KerfObs) (s : State) (i : Instr) (m : ListMsg) (p : PartnerObs) (u : UcieObs) (j : ListJob),
       s.dev.kerf.step1.isSome = true ∧
        (i = Instr.read m ∧ j = ListJob.msg 1 m noPartner noUcie ∨
         i = Instr.write m p u ∧ j = ListJob.msg 2 m p u ∨
          i = Instr.domainWriteBegin m ∧ j = ListJob.msg 3 m noPartner noUcie ∨
          i = Instr.domainWriteSegment m ∧ j = ListJob.msg 4 m noPartner noUcie ∨
          i = Instr.domainWriteEnd m p ∧ j = ListJob.msg 5 m p noUcie ∨
          i = Instr.domainReadBegin m ∧ j = ListJob.msg 6 m noPartner noUcie ∨
          i = Instr.domainReadSegment m ∧ j = ListJob.msg 7 m noPartner noUcie ∨
          i = Instr.transferCancel m ∧ j = ListJob.msg 8 m noPartner noUcie ∨ i = Instr.kerfWait m ∧ j = ListJob.msg 9 m noPartner noUcie)) ∧
    (∃ (o : KerfObs) (s : State), s.dev.boot.phase ≠ BootPhase.released ∨ awaitsEdge s.dev = true) ∧
    (∃ (m : ListMsg) (n : SessN) (x : Session) (s : State),
       SessionServed s.dev n x ∧
        ListMsgIn s.dev m n x ∧ m.body.length = 8 ∧ x.parked = none ∧ leNat m.body ≤ s.dev.kerf.counter + 10000 ∧ s.dev.kerf.lastSeq < leNat m.body) ∧
    (∃ (m : ListMsg) (n : SessN) (x : Session) (s : State) (tag : ℕ) (target : ℕ),
       SessionServed s.dev n x ∧ x.parked = some (tag, target) ∧ target ≤ s.dev.kerf.lastSeq) ∧
    (∃ (m : ListMsg) (n : SessN) (x : Session) (s : State), SessionServed s.dev n x ∧ ListMsgIn s.dev m n x ∧ m.body.length = 8 ∧ x.parked.isSome = true) ∧
    (∃ (o : KerfObs) (s : State),
       s.dev.boot.phase = BootPhase.released ∧
        awaitsEdge s.dev = false ∧
         sealWaits s.dev = false ∧ s.dev.kerf.step1 = none ∧ step1Waits (mirrorKerfRec (s.dev.kerf.counter + 1) (cut o s.dev)) = true) ∧
    (∃ (o : KerfObs) (s : State),
       s.dev.boot.phase = BootPhase.released ∧ awaitsEdge s.dev = false ∧ (sealWaits s.dev = true ∨ s.dev.kerf.step1.isSome = true)) :=
  ⟨⟨lm (leBytes 8 0), 0, ses, st d0, by decide +kernel⟩,
   ⟨ko, st d0, by decide +kernel⟩,
   ⟨lm (leBytes 8 10001), 0, ses, st d0, by decide +kernel⟩,
   ⟨ko, st { d0 with kerf := { d0.kerf with step1 := some ko } }, .read (lm []), lm [], noP, noU, .msg 1 (lm []) noPartner noUcie, by decide +kernel, (by first | (simp; decide +kernel) | exact ⟨rfl, rfl, rfl, rfl, rfl, rfl, by decide +kernel, all_some rfl rfl⟩ | simp)⟩,
   ⟨ko, st { d0 with boot := { d0.boot with phase := .held } }, by decide +kernel⟩,
   ⟨lm (leBytes 8 10000), 0, ses, st d0, by decide +kernel⟩,
   ⟨lm [], 0, { ses with parked := some (4, 0) }, st (dl { ses with parked := some (4, 0) }), 4, 0, by decide +kernel⟩,
   ⟨lm (leBytes 8 0), 0, { ses with parked := some (4, 0) }, st (dl { ses with parked := some (4, 0) }), by decide +kernel⟩,
   ⟨ko, st { updLink (dlog 1 2) 0 (fun x => { x with state := .recovery }) with kerf := d0.kerf }, by decide +kernel⟩,
   ⟨ko, st { d0 with mirror := { mirrorInit with role := 1, phase := 2, unacked := List.range 64 } }, by decide +kernel⟩⟩

theorem witness_ActingWrites :
    (∃ (n : SessN) (x : Session) (tag : ℕ) (sl : SliceN) (s : State) (scope : Bool) (sls : BitVec 16) (i : Instr) (op : ℕ),
       (i = Instr.mscMaintClean (some n) tag scope sls ∧ op = 1 ∨
         i = Instr.mscMaintInvalidate (some n) tag scope sls ∧ op = 2 ∨ i = Instr.mscMaintCleanInvalidate (some n) tag scope sls ∧ op = 3) ∧
        MayWrite s.dev n x 16656 2 (leBytes 8 (maintCmd op scope sls))) ∧
    (∃ (n : SessN) (x : Session) (tag : ℕ) (sl : SliceN) (s : State) (scope : Bool) (sls : BitVec 16) (i : Instr) (op : ℕ),
       (i = Instr.mscMaintClean (some n) tag scope sls ∧ op = 1 ∨
         i = Instr.mscMaintInvalidate (some n) tag scope sls ∧ op = 2 ∨ i = Instr.mscMaintCleanInvalidate (some n) tag scope sls ∧ op = 3) ∧
        MayWrite s.dev n x 16656 2 (leBytes 8 (maintCmd op scope sls))) ∧
    (∃ (n : SessN) (x : Session) (tag : ℕ) (s : State), MayWrite s.dev n x 8192 6 (leBytes 1 1)) ∧
    (∃ (n : SessN) (x : Session) (tag : ℕ) (s : State) (v : BitVec 16),
       MayWrite s.dev n x 12288 2 (leBytes 2 v.toNat) ∧ (ledgerFit (setCurNat s.dev 12288 2 v.toNat)).1 = 0) ∧
    (∃ (n : SessN) (x : Session) (tag : ℕ) (s : State) (v : BitVec 16),
       MayWrite s.dev n x 12288 2 (leBytes 2 v.toNat) ∧ (ledgerFit (setCurNat s.dev 12288 2 v.toNat)).1 ≠ 0) ∧
    (∃ (n : SessN) (x : Session) (tag : ℕ) (sl : SliceN) (s : State) (scope : Bool) (sls : BitVec 16) (i : Instr) (op : ℕ),
       (i = Instr.mscMaintClean (some n) tag scope sls ∧ op = 1 ∨
         i = Instr.mscMaintInvalidate (some n) tag scope sls ∧ op = 2 ∨ i = Instr.mscMaintCleanInvalidate (some n) tag scope sls ∧ op = 3) ∧
        MayWrite s.dev n x 16656 2 (leBytes 8 (maintCmd op scope sls))) ∧
    (∃ (n : SessN) (x : Session) (tag : ℕ) (sl : SliceN) (s : State), MayWrite s.dev n x 16640 (↑sl + 1) (leBytes 2 2) ∧ ent s.dev 16640 (↑sl + 1) = 1) ∧
    (∃ (n : SessN) (x : Session) (tag : ℕ) (sl : SliceN) (s : State), MayWrite s.dev n x 16640 (↑sl + 1) (leBytes 2 2) ∧ ent s.dev 16640 (↑sl + 1) ≠ 1) ∧
    (∃ (n : SessN) (x : Session) (tag : ℕ) (sl : SliceN) (s : State), MayWrite s.dev n x 16640 (↑sl + 1) (leBytes 2 0) ∧ (mscFit0 s.dev ↑sl).1 = 0) ∧
    (∃ (n : SessN) (x : Session) (tag : ℕ) (sl : SliceN) (s : State), MayWrite s.dev n x 16640 (↑sl + 1) (leBytes 2 0) ∧ (mscFit0 s.dev ↑sl).1 ≠ 0) ∧
    (∃ (n : SessN) (x : Session) (tag : ℕ) (sl : SliceN) (s : State),
       MayWrite s.dev n x 16640 (↑sl + 1) (leBytes 2 1) ∧ ent s.dev 16640 (↑sl + 1) = 0 ∧ entNext s.dev 16640 (↑sl + 1) = 0 ∧ (mscFit1 s.dev ↑sl).1 = 0) ∧
    (∃ (n : SessN) (x : Session) (tag : ℕ) (sl : SliceN) (s : State),
       MayWrite s.dev n x 16640 (↑sl + 1) (leBytes 2 1) ∧ (ent s.dev 16640 (↑sl + 1) ≠ 0 ∨ entNext s.dev 16640 (↑sl + 1) ≠ 0)) ∧
    (∃ (n : SessN) (x : Session) (tag : ℕ) (sl : SliceN) (s : State),
       MayWrite s.dev n x 16640 (↑sl + 1) (leBytes 2 1) ∧ ent s.dev 16640 (↑sl + 1) = 0 ∧ entNext s.dev 16640 (↑sl + 1) = 0 ∧ (mscFit1 s.dev ↑sl).1 ≠ 0) ∧
    (∃ (n : SessN) (x : Session) (tag : ℕ) (s : State) (i : Instr) (idx : ℕ) (sub : ℕ),
       MayWrite s.dev n x idx sub (leBytes 1 0) ∧
        (i = Instr.stagedDiscard (some n) tag 0 ∧ (idx, sub) = (8192, 6) ∨
         (∃ (die : DieN), i = Instr.linkRetrain (some n) tag die 0 ∧ (idx, sub) = (40961, die.val + 1)) ∨
          (∃ (site : SiteN) (u : UcieObs), i = Instr.ucieRetrain (some n) tag site 0 u ∧ (idx, sub) = (41219, site.val + 1)) ∨
          (∃ (die : DieN), i = Instr.dieReadmit (some n) tag die 0 ∧ (idx, sub) = (41009, die.val + 1)) ∨
          (∃ (ch : SliceN), i = Instr.dramRetrainNow (some n) tag ch 0 ∧ (idx, sub) = (16388, ch.val + 1)) ∨
          (∃ (b : BenchN), i = Instr.benchZeroise (some n) tag b 0 ∧ (idx, sub) = (20497, b.val + 1)) ∨
          i = Instr.forcePromote (some n) tag 0 ∧ (idx, sub) = (24576, 6) ∨
          (∃ (k : Fin 32), i = Instr.takeoverOpen (some n) tag k 0 ∧ (idx, sub) = (24625, k.val + 1)) ∨
          i = Instr.ovfClear (some n) tag 0 ∧ (idx, sub) = (36912, 0))) ∧
    (∃ (n : SessN) (x : Session) (tag : ℕ) (s : State), MayWrite s.dev n x 36912 0 (leBytes 1 1)) ∧
    (∃ (n : SessN) (x : Session) (tag : ℕ) (s : State), MayWrite s.dev n x 24576 6 (leBytes 1 1) ∧ s.dev.mirror.phase = 7) ∧
    (∃ (n : SessN) (x : Session) (tag : ℕ) (s : State) (die : DieN), MayWrite s.dev n x 41009 (die.val + 1) (leBytes 1 1)) ∧
    (∃ (n : SessN) (x : Session) (tag : ℕ) (s : State) (die : DieN), MayWrite s.dev n x 40961 (die.val + 1) (leBytes 1 1)) ∧
    (∃ (n : SessN) (x : Session) (tag : ℕ) (s : State) (ch : SliceN), MayWrite s.dev n x 16388 (ch.val + 1) (leBytes 1 1)) ∧
    (∃ (n : SessN) (x : Session) (tag : ℕ) (s : State) (k : Fin 32), MayWrite s.dev n x 24625 (k.val + 1) (leBytes 1 1)) ∧
    (∃ (n : SessN) (x : Session) (tag : ℕ) (s : State) (site : SiteN) (u : UcieObs), MayWrite s.dev n x 41219 (site.val + 1) (leBytes 1 1)) ∧
    (∃ (n : SessN) (x : Session) (tag : ℕ) (s : State) (b : BenchN), MayWrite s.dev n x 20497 (b.val + 1) (leBytes 1 1)) :=
  ⟨⟨0, ses, 9, 0, st d0, true, 0xFFFF, .mscMaintClean (some 0) 9 true 0xFFFF, 1, (by first | (simp; decide +kernel) | exact ⟨rfl, rfl, rfl, rfl, rfl, rfl, by decide +kernel, all_some rfl rfl⟩ | simp), by decide +kernel⟩,
   ⟨0, ses, 9, 0, st d0, true, 1, .mscMaintCleanInvalidate (some 0) 9 true 1, 3, (by first | (simp; decide +kernel) | exact ⟨rfl, rfl, rfl, rfl, rfl, rfl, by decide +kernel, all_some rfl rfl⟩ | simp), by decide +kernel⟩,
   ⟨0, ses, 9, st (setStg d0 0x2000 1 (some (.num 2000))), by decide +kernel⟩,
   ⟨0, ses, 9, st d0, 700, by decide +kernel⟩,
   ⟨0, ses, 9, st d0, 1, by decide +kernel⟩,
   ⟨0, ses, 9, 0, st d0, false, 0, .mscMaintInvalidate (some 0) 9 false 0, 2, (by first | (simp; decide +kernel) | exact ⟨rfl, rfl, rfl, rfl, rfl, rfl, by decide +kernel, all_some rfl rfl⟩ | simp), by decide +kernel⟩,
   ⟨0, ses, 9, 0, st (setCurNat { d0 with mscs := [(0, { mscInit with state := 1 })] } 0x4100 1 1), by decide +kernel⟩,
   ⟨0, ses, 9, 15, st (setCurNat d0 0x4100 16 0), by decide +kernel⟩,
   ⟨0, ses, 9, 15, st d0, by decide +kernel⟩,
   ⟨0, ses, 9, 0, st (setCurNat { d0 with mscs := [(0, { mscInit with state := 1 })], msc := [(2, some ⟨2, 5, true, false⟩)] } 0x4100 1 1), by decide +kernel⟩,
   ⟨0, ses, 9, 0, st (setCurNat d0 0x4100 1 0), by decide +kernel⟩,
   ⟨0, ses, 9, 0, st (setCurNat { d0 with mscs := [(0, { mscInit with state := 1 })] } 0x4100 1 1), by decide +kernel⟩,
   ⟨0, ses, 9, 5, st (setCurNat d0 0x4100 6 0), by decide +kernel⟩,
   ⟨0, ses, 9, st d0, .linkRetrain (some 0) 9 11 0, 0xA001, 12, by decide +kernel, Or.inr (Or.inl ⟨11, rfl, rfl⟩)⟩,
   ⟨0, ses, 9, st { d0 with obs := { obsInit with ctr := [(5, 2 ^ 48 + 3)] } }, by decide +kernel⟩,
   ⟨0, ses, 9, st (dp 2 7), by decide +kernel⟩,
   ⟨0, ses, 9, st (updDie d0 11 (fun x => { x with phase := .withdrawn, inc := 63 })), 11, by decide +kernel⟩,
   ⟨0, ses, 9, st (updLink d0 11 (fun x => { x with state := .up })), 11, by decide +kernel⟩,
   ⟨0, ses, 9, st d0, 0, by decide +kernel⟩,
   ⟨0, ses, 9, st { d0 with seg := { segInit with state := 3 }, takeover := [(32, { takeoverInit with state := 2 })] }, 31, by decide +kernel⟩,
   ⟨0, ses, 9, st d0, 1, { ok := true, rate := 2, width := 16 }, by decide +kernel⟩,
   ⟨0, ses, 9, st d0, 3, by decide +kernel⟩⟩

theorem witness_DomainWritesWhole :
    (∃ (n : SessN) (x : Session) (tag : ℕ) (s : State) (k : ℕ), MayWriteDomain s.dev n x 28738 0 (fuseValue 4 k []) ∧ k < 4) ∧
    (∃ (n : SessN) (x : Session) (tag : ℕ) (s : State) (k : ℕ) (hash : List Byte), MayWriteDomain s.dev n x 28738 0 (fuseValue 1 k hash) ∧ k < 4) ∧
    (∃ (n : SessN) (x : Session) (tag : ℕ) (s : State) (r : EntryRow) (v : List Byte),
       SessionServed s.dev n x ∧
        ownWrite x = false ∧
         entryRow 28688 1 = some r ∧ targetCode s.dev x.role false true 28688 1 [] = abOk ∧ curBytes s.dev (↑n) x.role r 28688 1 = v ∧ v.length = 320) ∧
    (∃ (n : SessN) (x : Session) (tag : ℕ) (s : State) (eid : BitVec 16) (nonce : List Byte),
       MayWriteDomain s.dev n x 28688 0 (leBytes 2 eid.toNat ++ padTo 32 nonce)) ∧
    (∃ (n : SessN) (x : Session) (tag : ℕ) (s : State) (k : ℕ), MayWriteDomain s.dev n x 28738 0 (fuseValue 2 k []) ∧ k < 4) ∧
    (∃ (n : SessN) (x : Session) (tag : ℕ) (s : State) (k : ℕ), MayWriteDomain s.dev n x 28738 0 (fuseValue 3 k []) ∧ k < 4) ∧
    (∃ (n : SessN) (x : Session) (tag : ℕ) (s : State) (k : Fin 16) (hash : List Byte) (role : ℕ),
       MayWriteDomain s.dev n x 28720 (↑k + 1) (roleValue (some (hash, role)))) ∧
    (∃ (n : SessN) (x : Session) (tag : ℕ) (s : State) (k : Fin 16), MayWriteDomain s.dev n x 28720 (↑k + 1) []) :=
  ⟨⟨0, ses, 9, st (setCurNat d0 0x7002 3 1), 3, by decide +kernel⟩,
   ⟨0, ses, 9, st d0, 3, List.replicate 64 7, by decide +kernel⟩,
   ⟨0, ses, 9, st drep, row 0x7010 1, _, by decide +kernel, by decide +kernel, by decide +kernel, by decide +kernel, rfl, report_length⟩,
   ⟨0, ses, 9, st d0, 4095, List.replicate 32 1, by decide +kernel⟩,
   ⟨0, ses, 9, st { d0 with fuses := { d0.fuses with ownerHash := [(0, [1]), (3, [2])] } }, 3, by decide +kernel⟩,
   ⟨0, ses, 9, st { d0 with fuses := { d0.fuses with vendorHash := [(0, [1]), (3, [2])] } }, 0, by decide +kernel⟩,
   ⟨0, ses, 9, st d0, 15, List.replicate 64 7, 3, by decide +kernel⟩,
   ⟨0, ses, 9, st { d0 with list := { d0.list with cur := d0.list.cur ++ [(ekey 0x7030 16, some (.bytes [1, 2]))] } }, 15, by decide +kernel⟩⟩

theorem witness_HubAndIommuCommands :
    (∃ (h : HartN) (s : State) (c : ℕ × Instr),
       (hartRuns s.dev ↑h = false ∨ (hartOf s.dev ↑h).mode ≠ Mode.m ∨ (cmdOf s.dev ↑h).busy = true) ∧
        c ∈
         [(1, Instr.setOwner h), (2, Instr.ecreate h), (3, Instr.eadd h), (4, Instr.einit h), (5, Instr.estop h), (6, Instr.eremove h),
          (7, Instr.equery h)]) ∧
    (∃ (h : HartN) (s : State),
       hartRuns s.dev ↑h = true ∧
        (hartOf s.dev ↑h).mode = Mode.m ∧
         (cmdOf s.dev ↑h).busy = false ∧
          (1 ≤ (cmdOf s.dev ↑h).a0 ∧ (cmdOf s.dev ↑h).a0 < 4096) ∧
          ((enclOf s.dev (cmdOf s.dev ↑h).a0).state = 1 ∨
          (enclOf s.dev (cmdOf s.dev ↑h).a0).state = 2 ∧ (cmdOf s.dev ↑h).a2 = 0 ∧ getBits (cmdOf s.dev ↑h).a3 1 3 = 0) ∧
          accessPending s.dev (cmdPages 3 (cmdOf s.dev ↑h) s.dev) = false ∧
          (cmdOf s.dev ↑h).a1 % 4096 = 0 ∧
          (cmdOf s.dev ↑h).a2 % 4096 = 0 ∧
          getBits (cmdOf s.dev ↑h).a3 4 8 = 0 ∧
          getBit (cmdOf s.dev ↑h).a3 0 = false ∧
          (cmdOf s.dev ↑h).a1 ≠ (cmdOf s.dev ↑h).a2 ∧
          (getBit (cmdOf s.dev ↑h).a3 2 = true → (enclOf s.dev (cmdOf s.dev ↑h).a0).report = none) ∧
          pageCode s.dev (fun (c : ℕ) => c == 0 || c == 6) (cmdOf s.dev ↑h).a1 = 0 ∧
          ((cmdOf s.dev ↑h).a2 ≠ 0 →
          isDram s.dev (cmdOf s.dev ↑h).a2 = true ∧
          (cmdOf s.dev ↑h).a2 < s.dev.pot.cover ∧
          (potClass (potEntry s.dev (cmdOf s.dev ↑h).a2) = 0 ∨ potClass (potEntry s.dev (cmdOf s.dev ↑h).a2) = 1))) ∧
    (∃ (h : HartN) (s : State),
       hartRuns s.dev ↑h = true ∧
        (hartOf s.dev ↑h).mode = Mode.m ∧
         (cmdOf s.dev ↑h).busy = false ∧
          (1 ≤ (cmdOf s.dev ↑h).a0 ∧ (cmdOf s.dev ↑h).a0 < 4096) ∧
          (enclOf s.dev (cmdOf s.dev ↑h).a0).state = 0 ∧
          accessPending s.dev (cmdPages 2 (cmdOf s.dev ↑h) s.dev) = false ∧
          (cmdOf s.dev ↑h).a1 % 4096 = 0 ∧
          (cmdOf s.dev ↑h).a3 % 4 = 0 ∧
          1 ≤ getBits (cmdOf s.dev ↑h).a2 8 8 ∧
          getBits (cmdOf s.dev ↑h).a2 8 8 ≤ 64 ∧
          getBits (cmdOf s.dev ↑h).a2 16 48 = 0 ∧
          getBits (cmdOf s.dev ↑h).a2 6 2 = 0 ∧
          getBit (cmdOf s.dev ↑h).a2 3 = false ∧
          getBits (cmdOf s.dev ↑h).a2 4 2 ≠ 3 ∧
          (getBit (cmdOf s.dev ↑h).a2 2 = true → secureExists s.dev = true) ∧
          ∀ p ∈ pagesFrom (cmdOf s.dev ↑h).a1 (1 + getBits (cmdOf s.dev ↑h).a2 8 8),
          pageCode s.dev (fun (c : ℕ) => c == 0 || c == 6) p = 0) ∧
    (∃ (h : HartN) (s : State),
       hartRuns s.dev ↑h = true ∧
        (hartOf s.dev ↑h).mode = Mode.m ∧
         (cmdOf s.dev ↑h).busy = false ∧
          (1 ≤ (cmdOf s.dev ↑h).a0 ∧ (cmdOf s.dev ↑h).a0 < 4096) ∧
          (enclOf s.dev (cmdOf s.dev ↑h).a0).state = 1 ∧ (enclOf s.dev (cmdOf s.dev ↑h).a0).roots.length = 1) ∧
    (∃ (h : HartN) (s : State) (c : ℕ × Instr),
       hartRuns s.dev ↑h = true ∧
        (hartOf s.dev ↑h).mode = Mode.m ∧
         (cmdOf s.dev ↑h).busy = false ∧
          c ∈
          [(1, Instr.setOwner h), (2, Instr.ecreate h), (3, Instr.eadd h), (4, Instr.einit h), (5, Instr.estop h), (6, Instr.eremove h),
          (7, Instr.equery h)] ∧
          accessPending s.dev (cmdPages c.1 (cmdOf s.dev ↑h) s.dev) = false) ∧
    (∃ (h : HartN) (s : State),
       hartRuns s.dev ↑h = true ∧
        (hartOf s.dev ↑h).mode = Mode.m ∧
         (cmdOf s.dev ↑h).busy = false ∧
          (1 ≤ (cmdOf s.dev ↑h).a0 ∧ (cmdOf s.dev ↑h).a0 < 4096) ∧
          1 ≤ (enclOf s.dev (cmdOf s.dev ↑h).a0).state ∧ (enclOf s.dev (cmdOf s.dev ↑h).a0).state ≤ 4) ∧
    (∃ (h : HartN) (s : State),
       hartRuns s.dev ↑h = true ∧
        (hartOf s.dev ↑h).mode = Mode.m ∧
         (cmdOf s.dev ↑h).busy = false ∧
          (1 ≤ (cmdOf s.dev ↑h).a0 ∧ (cmdOf s.dev ↑h).a0 < 4096) ∧
          ((enclOf s.dev (cmdOf s.dev ↑h).a0).state = 1 ∨
          (enclOf s.dev (cmdOf s.dev ↑h).a0).state = 3 ∨ (enclOf s.dev (cmdOf s.dev ↑h).a0).state = 4) ∧
          hartInside s.dev (cmdOf s.dev ↑h).a0 = false ∧
          accessPending s.dev (cmdPages 6 (cmdOf s.dev ↑h) s.dev) = false ∧
          (cmdOf s.dev ↑h).a1 % 4096 = 0 ∧
          isDram s.dev (cmdOf s.dev ↑h).a1 = true ∧
          (cmdOf s.dev ↑h).a1 < s.dev.pot.cover ∧
          (cmdOf s.dev ↑h).a1 = (enclOf s.dev (cmdOf s.dev ↑h).a0).ctrl ∧ (enclOf s.dev (cmdOf s.dev ↑h).a0).pages = 0) ∧
    (∃ (h : HartN) (s : State),
       hartRuns s.dev ↑h = true ∧
        (hartOf s.dev ↑h).mode = Mode.m ∧
         (cmdOf s.dev ↑h).busy = false ∧
          (1 ≤ (cmdOf s.dev ↑h).a0 ∧ (cmdOf s.dev ↑h).a0 < 4096) ∧
          ((enclOf s.dev (cmdOf s.dev ↑h).a0).state = 1 ∨
          (enclOf s.dev (cmdOf s.dev ↑h).a0).state = 3 ∨ (enclOf s.dev (cmdOf s.dev ↑h).a0).state = 4) ∧
          hartInside s.dev (cmdOf s.dev ↑h).a0 = false ∧
          accessPending s.dev (cmdPages 6 (cmdOf s.dev ↑h) s.dev) = false ∧
          (cmdOf s.dev ↑h).a1 % 4096 = 0 ∧
          isDram s.dev (cmdOf s.dev ↑h).a1 = true ∧
          (cmdOf s.dev ↑h).a1 < s.dev.pot.cover ∧
          (cmdOf s.dev ↑h).a1 ≠ (enclOf s.dev (cmdOf s.dev ↑h).a0).ctrl ∧
          potClass (potEntry s.dev (cmdOf s.dev ↑h).a1) = 2 ∧ potOid (potEntry s.dev (cmdOf s.dev ↑h).a1) = (cmdOf s.dev ↑h).a0) ∧
    (∃ (h : HartN) (s : State),
       hartRuns s.dev ↑h = true ∧
        (hartOf s.dev ↑h).mode = Mode.m ∧
         (cmdOf s.dev ↑h).busy = false ∧
          (1 ≤ (cmdOf s.dev ↑h).a0 ∧ (cmdOf s.dev ↑h).a0 < 4096) ∧
          1 ≤ (enclOf s.dev (cmdOf s.dev ↑h).a0).state ∧ (enclOf s.dev (cmdOf s.dev ↑h).a0).state ≤ 4 ∧ hartInside s.dev (cmdOf s.dev ↑h).a0 = false) ∧
    (∃ (addr : ℕ) (data : ℕ) (s : State), isMain s.dev addr = true) ∧
    (∃ (addr : ℕ) (data : ℕ) (s : State), isMain s.dev addr = false) ∧
    (∃ (h : HartN) (s : State) (c : ℕ × Instr),
       hartRuns s.dev ↑h = true ∧
        (hartOf s.dev ↑h).mode = Mode.m ∧
         (cmdOf s.dev ↑h).busy = false ∧
          c ∈
          [(1, Instr.setOwner h), (2, Instr.ecreate h), (3, Instr.eadd h), (4, Instr.einit h), (5, Instr.estop h), (6, Instr.eremove h),
          (7, Instr.equery h)] ∧
          accessPending s.dev (cmdPages c.1 (cmdOf s.dev ↑h) s.dev) = true) ∧
    (∃ (h : HartN) (s : State) (new : ℕ),
       hartRuns s.dev ↑h = true ∧
        (hartOf s.dev ↑h).mode = Mode.m ∧
         (cmdOf s.dev ↑h).busy = false ∧
          accessPending s.dev (cmdPages 1 (cmdOf s.dev ↑h) s.dev) = false ∧
          (cmdOf s.dev ↑h).a2 = new ∧
          (cmdOf s.dev ↑h).a0 % 4096 = 0 ∧
          1 ≤ (cmdOf s.dev ↑h).a1 ∧
          (cmdOf s.dev ↑h).a1 ≤ 512 ∧
          new < 65536 ∧
          potLocked new = false ∧
          ¬(potClass new = 6 ∧ potOid new ≠ 0) ∧
          (potClass new = 0 ∨
          potClass new = 1 ∧ secureExists s.dev = true ∨ potClass new = 3 ∧ instanceExists (potOid new) = true ∨ potClass new = 6) ∧
          (firstBad (pageCode s.dev fun (c : ℕ) => c == 0 || c == 1 || c == 3 || c == 6) 0
          (pagesFrom (cmdOf s.dev ↑h).a0 (cmdOf s.dev ↑h).a1)).1 =
          0) ∧
    (∃ (h : HartN) (s : State),
       hartRuns s.dev ↑h = true ∧
        (hartOf s.dev ↑h).mode = Mode.m ∧
         (cmdOf s.dev ↑h).busy = false ∧ accessPending s.dev (cmdPages 1 (cmdOf s.dev ↑h) s.dev) = false ∧ (cmdOf s.dev ↑h).a0 % 4096 ≠ 0) ∧
    (∃ (h : HartN) (s : State) (new : ℕ),
       hartRuns s.dev ↑h = true ∧
        (hartOf s.dev ↑h).mode = Mode.m ∧
         (cmdOf s.dev ↑h).busy = false ∧
          accessPending s.dev (cmdPages 1 (cmdOf s.dev ↑h) s.dev) = false ∧
          (cmdOf s.dev ↑h).a2 = new ∧
          (cmdOf s.dev ↑h).a0 % 4096 = 0 ∧
          1 ≤ (cmdOf s.dev ↑h).a1 ∧
          (cmdOf s.dev ↑h).a1 ≤ 512 ∧
          new < 65536 ∧
          potLocked new = false ∧
          ¬(potClass new = 6 ∧ potOid new ≠ 0) ∧
          (potClass new = 0 ∨
          potClass new = 1 ∧ secureExists s.dev = true ∨ potClass new = 3 ∧ instanceExists (potOid new) = true ∨ potClass new = 6) ∧
          (firstBad (pageCode s.dev fun (c : ℕ) => c == 0 || c == 1 || c == 3 || c == 6) 0
          (pagesFrom (cmdOf s.dev ↑h).a0 (cmdOf s.dev ↑h).a1)).1 ≠
          0) :=
  ⟨⟨0, st { d0 with cmds := [(0, { cmdSlotInit with busy := true })] }, (1, .setOwner 0), by decide +kernel⟩,
   ⟨0, st (dcmd 1 0x3000 0 0 { enclaveInit with state := 1 }), by decide +kernel⟩,
   ⟨0, st (dcmd 1 0x2000 256 0x400 enclaveInit), by decide +kernel⟩,
   ⟨0, st (dcmd 1 0 0 0 { enclaveInit with state := 1, roots := [0x3000] }), by decide +kernel⟩,
   ⟨0, st (dcmd 0x1001 1 0 0 enclaveInit), (1, .setOwner 0), by decide +kernel⟩,
   ⟨0, st (dcmd 1 0 0 0 { enclaveInit with state := 1, pages := 9, slots := [(0, some sl)] }), by decide +kernel⟩,
   ⟨0, st (dcmd 1 0x2000 0 0 { enclaveInit with state := 4, ctrl := 0x2000 }), by decide +kernel⟩,
   ⟨0, st { dcmd 1 0x3000 0 0 { enclaveInit with state := 1, ctrl := 0x2000, pages := 1, roots := [0x3000], report := some 0x3000 } with mem := [(0x3FF80006, 1), (0x3FF80007, 0xA0)] }, by decide +kernel⟩,
   ⟨0, st (dcmd 1 0 0 0 { enclaveInit with state := 4 }), by decide +kernel⟩,
   ⟨0x44, 9, st d0, by decide +kernel⟩,
   ⟨0x3FF000000000, 9, st d0, by decide +kernel⟩,
   ⟨0, st { dcmd 0x1000 1 0 0 enclaveInit with slices := [(0, { sliceInit with trk := [{ tk with line := 64, req := .agent (.inlay 0 3) .read }] })] }, (1, .setOwner 0), by decide +kernel⟩,
   ⟨0, st (dcmd 0x1000 2 0 0 enclaveInit), 0, by decide +kernel⟩,
   ⟨0, st (dcmd 0x1001 1 0 0 enclaveInit), by decide +kernel⟩,
   ⟨0, st (dcmd 0x3FF80000 1 0 0 enclaveInit), 0, by decide +kernel⟩⟩

theorem witness_HubRegisters :
    (∃ (h : HartN) (b : BenchN) (f : FnN) (k : RingN) (w : Fin 68) (v : Word) (s : State),
       ∃
        t ∈
         [RegTarget.sqBase h b f k, RegTarget.cqBase h b f k, RegTarget.fchMemAddr h b f k, RegTarget.fchSpadOff h b f k, RegTarget.fchCount h b f k,
          RegTarget.fchCtl h b f k, RegTarget.msix h b f w],
        fnExists s.dev ↑b ↑f = false) ∧
    (∃ (h : HartN) (insn : BitVec 32) (v : Word) (s : State),
       HartReady s.dev ↑h ∧
        (writableCsr (insn.toNat / 2 ^ 20 % 4096) = true ∨ readOnlyCsr (insn.toNat / 2 ^ 20 % 4096) = true) ∧
         satpTrap (hartOf s.dev ↑h) (insn.toNat / 2 ^ 20 % 4096) = none ∧
          insn.toNat / 2 ^ 20 % 4096 ≠ 1730 ∧ csrAccess (hartOf s.dev ↑h) (insn.toNat / 2 ^ 20 % 4096) (csrWrites insn.toNat) = 0) ∧
    (∃ (h : HartN) (b : BenchN) (f : FnN) (c : RingN) (v : Word) (s : State),
       BarServed s.dev ↑b ↑f ↑h ∧ chanOwnerOf s.dev ↑b ↑c = ↑f ∧ (feedOf s.dev ↑b ↑c).state ≠ 1 ∧ (feedOf s.dev ↑b ↑c).state ≠ 4) ∧
    (∃ (h : HartN) (b : BenchN) (f : FnN) (c : RingN) (v : Word) (s : State),
       BarServed s.dev ↑b ↑f ↑h ∧ chanOwnerOf s.dev ↑b ↑c = ↑f ∧ (feedOf s.dev ↑b ↑c).state ≠ 1 ∧ (feedOf s.dev ↑b ↑c).state ≠ 4) ∧
    (∃ (h : HartN) (b : BenchN) (f : FnN) (c : RingN) (v : Word) (s : State),
       BarServed s.dev ↑b ↑f ↑h ∧ chanOwnerOf s.dev ↑b ↑c = ↑f ∧ (feedOf s.dev ↑b ↑c).state ≠ 1 ∧ (feedOf s.dev ↑b ↑c).state ≠ 4) ∧
    (∃ (h : HartN) (b : BenchN) (f : FnN) (c : RingN) (v : Word) (s : State),
       BarServed s.dev ↑b ↑f ↑h ∧
        chanOwnerOf s.dev ↑b ↑c = ↑f ∧ (feedOf s.dev ↑b ↑c).state ≠ 1 ∧ (feedOf s.dev ↑b ↑c).state ≠ 4 ∧ getBits (BitVec.toNat v) 0 3 = 0) ∧
    (∃ (h : HartN) (b : BenchN) (f : FnN) (c : RingN) (v : Word) (s : State) (t : RegTarget),
       BarServed s.dev ↑b ↑f ↑h ∧
        (chanOwnerOf s.dev ↑b ↑c ≠ ↑f ∨ (feedOf s.dev ↑b ↑c).state = 1 ∨ (feedOf s.dev ↑b ↑c).state = 4) ∧
         t ∈ [RegTarget.fchMemAddr h b f c, RegTarget.fchSpadOff h b f c, RegTarget.fchCount h b f c]) ∧
    (∃ (h : HartN) (b : BenchN) (f : FnN) (i : Fin 5) (v : Word) (s : State), BarServed s.dev (↑b) 0 ↑h) ∧
    (∃ (h : HartN) (b : BenchN) (f : FnN) (i : Fin 5) (v : Word) (s : State),
       BarServed s.dev (↑b) 0 ↑h ∧ ((fnOf s.dev ↑b ↑f).qstate ≠ 0 ∨ anyRingEnabled s.dev (↑b) (↑f) 0 = false)) ∧
    (∃ (h : HartN) (b : BenchN) (f : FnN) (i : Fin 5) (v : Word) (s : State), BarServed s.dev (↑b) 0 ↑h) ∧
    (∃ (h : HartN) (b : BenchN) (f : FnN) (i : Fin 5) (v : Word) (s : State),
       BarServed s.dev (↑b) 0 ↑h ∧ (fnOf s.dev ↑b ↑f).qstate = 0 ∧ anyRingEnabled s.dev (↑b) (↑f) 0 = true) ∧
    (∃ (h : HartN) (r : Fin 5) (v : Word) (s : State), hartRuns s.dev ↑h = false ∨ (hartOf s.dev ↑h).mode ≠ Mode.m ∨ secureExists s.dev = false) ∧
    (∃ (h : HartN) (r : Fin 5) (v : Word) (s : State), hartRuns s.dev ↑h = true ∧ (hartOf s.dev ↑h).mode = Mode.m ∧ secureExists s.dev = true) ∧
    (∃ (m : FMsg) (file : Fin 9) (s : State),
       Passes s.dev m.die ∧
        m.inc = (dieOf s.dev m.die).inc ∧
         (dieOf s.dev m.die).phase = DiePhase.inService ∧
          (dieOf s.dev m.die).retired = false ∧
          (linkOf s.dev m.die).state ≠ LinkSt.folded ∧
          (hartOf s.dev (18 * m.die + m.core % 18)).rest ≠ Rest.retain ∧ (hartOf s.dev (18 * m.die + m.core % 18)).offline = false) ∧
    (∃ (m : FMsg) (file : Fin 9) (s : State),
       Passes s.dev m.die ∧
        m.inc = (dieOf s.dev m.die).inc ∧ (dieOf s.dev m.die).phase = DiePhase.withdrawn ∧ (hartOf s.dev (18 * m.die + m.core % 18)).offline = false) ∧
    (∃ (m : FMsg) (file : Fin 9) (s : State),
       Passes s.dev m.die ∧ m.inc = (dieOf s.dev m.die).inc ∧ (dieOf s.dev m.die).retired = true ∧ (dieOf s.dev m.die).phase ≠ DiePhase.withdrawn) ∧
    (∃ (m : FMsg) (file : Fin 9) (s : State),
       Passes s.dev m.die ∧
        m.inc = (dieOf s.dev m.die).inc ∧ (dieOf s.dev m.die).retired = false ∧ (hartOf s.dev (18 * m.die + m.core % 18)).offline = true) ∧
    (∃ (h : HartN) (b : BenchN) (f : FnN) (w : Fin 68) (v : Word) (s : State), BarServed s.dev ↑b ↑f ↑h) ∧
    (∃ (m : FMsg) (s : State) (v : ℕ),
       InService s.dev m ∧ Passes s.dev m.die ∧ inHubRange m.addr = true ∧ hubReg s.dev (18 * m.die + m.core % 18) (m.addr - hubBase) = some v) ∧
    (∃ (m : FMsg) (s : State),
       InService s.dev m ∧
        Passes s.dev m.die ∧ inHubRange m.addr = false ∧ inGaugeWindow m.addr = false ∧ ∀ e ∈ s.dev.mirror.clamp, e.rp ≠ Config.rootPort m.addr % 16) ∧
    (∃ (m : FMsg) (s : State), InService s.dev m ∧ Passes s.dev m.die ∧ inHubRange m.addr = false ∧ inGaugeWindow m.addr = true) ∧
    (∃ (m : FMsg) (s : State),
       InService s.dev m ∧ Passes s.dev m.die ∧ inHubRange m.addr = true ∧ hubReg s.dev (18 * m.die + m.core % 18) (m.addr - hubBase) = none) ∧
    (∃ (m : FMsg) (s : State), InService s.dev m ∧ Passes s.dev m.die ∧ inHubRange m.addr = false ∧ inGaugeWindow m.addr = false ∧ clampHolds s.dev = false) ∧
    (∃ (m : FMsg) (s : State), InService s.dev m ∧ Passes s.dev m.die ∧ inHubRange m.addr = false ∧ inGaugeWindow m.addr = true) ∧
    (∃ (m : FMsg) (s : State), InService s.dev m ∧ Passes s.dev m.die ∧ inHubRange m.addr = true) ∧
    (∃ (h : HartN) (insn : BitVec 32) (v : Word) (s : State),
       HartReady s.dev ↑h ∧ writableCsr (insn.toNat / 2 ^ 20 % 4096) = false ∧ readOnlyCsr (insn.toNat / 2 ^ 20 % 4096) = false) ∧
    (∃ (b : BenchN) (f : FnN) (v : Word) (s : State), v = 0) ∧
    (∃ (b : BenchN) (f : FnN) (v : Word) (s : State), v = 3 ∧ (fnOf s.dev ↑b ↑f).qstate ≠ 0) ∧
    (∃ (b : BenchN) (f : FnN) (v : Word) (s : State), v ≠ 0 ∧ v ≠ 3) ∧
    (∃ (b : BenchN) (f : FnN) (v : Word) (s : State), v = 3 ∧ (fnOf s.dev ↑b ↑f).qstate = 0) ∧
    (∃ (h : HartN) (insn : BitVec 32) (v : Word) (s : State),
       HartReady s.dev ↑h ∧
        (writableCsr (insn.toNat / 2 ^ 20 % 4096) = true ∨ readOnlyCsr (insn.toNat / 2 ^ 20 % 4096) = true) ∧
         satpTrap (hartOf s.dev ↑h) (insn.toNat / 2 ^ 20 % 4096) = none ∧
          insn.toNat / 2 ^ 20 % 4096 ≠ 1730 ∧
          csrAccess (hartOf s.dev ↑h) (insn.toNat / 2 ^ 20 % 4096) (csrWrites insn.toNat) = 2 ∧
          ¬(2818 ≤ insn.toNat / 2 ^ 20 % 4096 ∧ insn.toNat / 2 ^ 20 % 4096 ≤ 2847)) ∧
    (∃ (h : HartN) (v : Word) (s : State), (hartOf s.dev ↑h).halted = true) ∧
    (∃ (h : HartN) (v : Word) (s : State), (hartOf s.dev ↑h).halted = false) ∧
    (∃ (h : HartN) (b : BenchN) (f : FnN) (r : RingN) (v : Word) (s : State), BarServed s.dev ↑b ↑f ↑h ∧ ↑r < (fnOf s.dev ↑b ↑f).rings) ∧
    (∃ (h : HartN) (b : BenchN) (f : FnN) (r : RingN) (v : Word) (s : State), BarServed s.dev ↑b ↑f ↑h ∧ (fnOf s.dev ↑b ↑f).rings ≤ ↑r) ∧
    (∃ (h : HartN) (v : Word) (k : Fin 4) (s : State), hartRuns s.dev ↑h = true ∧ (hartOf s.dev ↑h).mode = Mode.m) ∧
    (∃ (h : HartN) (v : Word) (k : Fin 4) (s : State), hartRuns s.dev ↑h = true ∧ (hartOf s.dev ↑h).mode ≠ Mode.m) ∧
    (∃ (h : HartN) (b : BenchN) (f : FnN) (k : RingN) (w : Fin 68) (v : Word) (s : State),
       ∃
        t ∈
         [RegTarget.sqBase h b f k, RegTarget.cqBase h b f k, RegTarget.fchMemAddr h b f k, RegTarget.fchSpadOff h b f k, RegTarget.fchCount h b f k,
          RegTarget.fchCtl h b f k, RegTarget.msix h b f w],
        fnExists s.dev ↑b ↑f = true ∧ hartServed s.dev ↑b ↑f ↑h = false) ∧
    (∃ (b : BenchN) (f : FnN) (v : Word) (s : State), BitVec.toNat v ≤ 256 ∧ (benchOf s.dev ↑b).vfs = 0) ∧
    (∃ (b : BenchN) (f : FnN) (v : Word) (s : State), 256 < BitVec.toNat v ∨ (benchOf s.dev ↑b).vfs ≠ 0) ∧
    (∃ (h : HartN) (insn : BitVec 32) (v : Word) (s : State),
       HartReady s.dev ↑h ∧
        (writableCsr (insn.toNat / 2 ^ 20 % 4096) = true ∨ readOnlyCsr (insn.toNat / 2 ^ 20 % 4096) = true) ∧
         satpTrap (hartOf s.dev ↑h) (insn.toNat / 2 ^ 20 % 4096) = none ∧
          insn.toNat / 2 ^ 20 % 4096 ≠ 1730 ∧ csrAccess (hartOf s.dev ↑h) (insn.toNat / 2 ^ 20 % 4096) (csrWrites insn.toNat) = 1) :=
  ⟨⟨0, 3, 256, 15, 67, 7, st d0, .msix 0 3 256 67, by decide +kernel⟩,
   ⟨0, 805475187, 7, st (dh (fun x => { x with mode := .u })), by decide +kernel⟩,
   ⟨0, 3, 0, 15, 0xFFFFFFFFFFFFFFF0, st d0, by decide +kernel⟩,
   ⟨0, 3, 0, 15, 0xFFFFFFFFFFFFFFF0, st d0, by decide +kernel⟩,
   ⟨0, 3, 0, 15, 0xFFFFFFFFFFFFFFF0, st d0, by decide +kernel⟩,
   ⟨0, 3, 0, 15, 0xFFFFFFFFFFFFFFF8, st d0, by decide +kernel⟩,
   ⟨0, 3, 0, 15, 7, st (updFeed 3 15 (fun x => { x with state := 1 }) d0), .fchCount 0 3 0 15, by decide +kernel⟩,
   ⟨0, 3, 256, 4, 0xFFFFFFFFFFFFFFFF, st (updBench d0 3 (fun x => { x with qdone := 2 ^ 257 + 5 })), by decide +kernel⟩,
   ⟨0, 3, 256, 4, 0xFFFFFFFFFFFFFFFF, st (updBench d0 3 (fun x => { x with qdone := 2 ^ 257 + 5 })), by decide +kernel⟩,
   ⟨0, 3, 256, 4, 0xFFFFFFFFFFFFFFFF, st (updBench d0 3 (fun x => { x with qdone := 2 ^ 257 + 5 })), by decide +kernel⟩,
   ⟨0, 3, 256, 0, 0xFFFFFFFFFFFFFFFF, st (updRing 3 256 5 (fun r => { r with enable := true }) d0), by decide +kernel⟩,
   ⟨0, 0, 7, st d0, by decide +kernel⟩,
   ⟨0, 2, 0xFFFFFFFFFFFFFFFF, st dsec, by decide +kernel⟩,
   ⟨{ fm .imsw 0 with data := 255 }, 0, st d0, by decide +kernel⟩,
   ⟨{ fm .imsw 0 with data := 1 }, 1, st (updDie d0 0 (fun x => { x with phase := .withdrawn, retired := true })), by decide +kernel⟩,
   ⟨{ fm .imsw 0 with data := 1 }, 1, st (updDie d0 0 (fun x => { x with phase := .fenced, retired := true })), by decide +kernel⟩,
   ⟨{ fm .imsw 0 with data := 1 }, 1, st (dh (fun x => { x with offline := true })), by decide +kernel⟩,
   ⟨0, 3, 0, 67, 7, st d0, by decide +kernel⟩,
   ⟨fm .ncrd 0x3FF000001000, st d0, 0, by decide +kernel⟩,
   ⟨fm .ncrd 0xC0000000, st d0, by decide +kernel⟩,
   ⟨fm .ncrd 0x3FF001000000, st d0, by decide +kernel⟩,
   ⟨fm .ncrd 0x3FF000002000, st d0, by decide +kernel⟩,
   ⟨fm .ncwr 0xC0000000, st d0, by decide +kernel⟩,
   ⟨fm .ncwr 0x3FF001800FF8, st d0, by decide +kernel⟩,
   ⟨fm .ncwr 0x3FF000100000, st d0, by decide +kernel⟩,
   ⟨0, 1609732979, 7, st d0, by decide +kernel⟩,
   ⟨3, 1, 0, st (updFn 3 1 (fun x => { x with d3 := true, qstate := 2 }) d0), by decide +kernel⟩,
   ⟨3, 1, 3, st (updFn 3 1 (fun x => { x with qstate := 2 }) d0), by decide +kernel⟩,
   ⟨3, 1, 5, st d0, by decide +kernel⟩,
   ⟨3, 1, 3, st d0, by decide +kernel⟩,
   ⟨0, 872584051, 7, st d0, by decide +kernel⟩,
   ⟨0, 7, st (dh (fun x => { x with halted := true, csr := [(0x7B0, 4)] })), by decide +kernel⟩,
   ⟨0, 7, st d0, by decide +kernel⟩,
   ⟨0, 3, 0, 15, 0x12345678, st d0, by decide +kernel⟩,
   ⟨0, 3, 0, 15, 0x12345678, st (updFn 3 0 (fun x => { x with rings := 15 }) d0), by decide +kernel⟩,
   ⟨0, 9, 3, st d0, by decide +kernel⟩,
   ⟨0, 9, 3, st (dh (fun x => { x with mode := .u })), by decide +kernel⟩,
   ⟨0, 3, 0, 15, 67, 7, st (dbn id |> updFn 3 0 (fun x => { x with bindClass := 2 })), .sqBase 0 3 0 15, by decide +kernel⟩,
   ⟨3, 256, 256, st d0, by decide +kernel⟩,
   ⟨3, 256, 257, st d0, by decide +kernel⟩,
   ⟨0, 268604275, 7, st (dh (fun x => { x with mode := .vu })), by decide +kernel⟩⟩

theorem witness_DebugAccess :
    (∃ (h : HartN) (regno : ℕ) (w : Bool) (v : Word) (s : State), (hartOf s.dev ↑h).halted = true ∧ regno < 4160 ∧ dbgClosed s.dev (↑h) regno = true) ∧
    (∃ (h : HartN) (s : State), (hartOf s.dev ↑h).halted = true ∧ (hartOf s.dev ↑h).haltReq = false) ∧
    (∃ (h : HartN) (s : State),
       (hartOf s.dev ↑h).halted = false ∧
        (hartOf s.dev ↑h).released = true ∧
         (hartOf s.dev ↑h).powered = true ∧
          (hartOf s.dev ↑h).offline = false ∧
          dieRuns s.dev (dieOfHart ↑h) = true ∧
          packageStopped s.dev = false ∧
          (hartOf s.dev ↑h).rest = Rest.running ∧
          ((hartOf s.dev ↑h).waiting = none ∨ ∃ (w : Waiting), (hartOf s.dev ↑h).waiting = some w ∧ w.op = MemOp.tsync) ∧
          ctxInvasive s.dev (hartOf s.dev ↑h) (hartOf s.dev ↑h).mode = true) ∧
    (∃ (h : HartN) (regno : ℕ) (w : Bool) (v : Word) (s : State), (hartOf s.dev ↑h).halted = true ∧ 4160 ≤ regno) ∧
    (∃ (h : HartN) (ops : List PbOp) (s : State) (d : Dev), (hartOf s.dev ↑h).halted = true ∧ pbRun (↑h) (List.take 8 ops) s.dev = (false, d)) ∧
    (∃ (h : HartN) (ops : List PbOp) (s : State) (d : Dev), (hartOf s.dev ↑h).halted = true ∧ pbRun (↑h) (List.take 8 ops) s.dev = (true, d)) ∧
    (∃ (h : HartN) (ops : List PbOp) (s : State), (hartOf s.dev ↑h).halted = false) ∧
    (∃ (h : HartN) (regno : ℕ) (w : Bool) (v : Word) (s : State),
       (hartOf s.dev ↑h).halted = true ∧ regno < 4160 ∧ dbgClosed s.dev (↑h) regno = false ∧ w = false ∧ dbgRead s.dev (↑h) regno = none) ∧
    (∃ (h : HartN) (regno : ℕ) (w : Bool) (v : Word) (s : State) (r : ℕ),
       (hartOf s.dev ↑h).halted = true ∧ regno < 4160 ∧ dbgClosed s.dev (↑h) regno = false ∧ w = false ∧ dbgRead s.dev (↑h) regno = some r) ∧
    (∃ (h : HartN) (r : RegN) (v : Word) (s : State), (hartOf s.dev ↑h).halted = true) ∧
    (∃ (h : HartN) (regno : ℕ) (w : Bool) (v : Word) (s : State), (hartOf s.dev ↑h).halted = false) ∧
    (∃ (addr : ℕ) (size : ℕ) (w : Bool) (v : Word) (s : State), accSize size = true ∧ addr % size ≠ 0) ∧
    (∃ (addr : ℕ) (size : ℕ) (w : Bool) (v : Word) (s : State),
       accSize size = true ∧ addr % size = 0 ∧ isMain s.dev addr = true ∧ sbAllowed (potRecord addr s.dev) addr = false) ∧
    (∃ (addr : ℕ) (size : ℕ) (w : Bool) (v : Word) (s : State),
       accSize size = true ∧ addr % size = 0 ∧ isMain s.dev addr = false ∧ (inGaugeWindow addr = false ∨ w = true)) ∧
    (∃ (addr : ℕ) (size : ℕ) (w : Bool) (v : Word) (s : State),
       accSize size = true ∧ addr % size = 0 ∧ isMain s.dev addr = false ∧ inGaugeWindow addr = true) ∧
    (∃ (addr : ℕ) (size : ℕ) (w : Bool) (v : Word) (s : State),
       accSize size = true ∧
        addr % size = 0 ∧ isMain s.dev addr = true ∧ sbAllowed (potRecord addr s.dev) addr = true ∧ cohPoison (potRecord addr s.dev) addr size = true) ∧
    (∃ (addr : ℕ) (size : ℕ) (w : Bool) (v : Word) (s : State),
       accSize size = true ∧
        addr % size = 0 ∧ isMain s.dev addr = true ∧ sbAllowed (potRecord addr s.dev) addr = true ∧ cohPoison (potRecord addr s.dev) addr size = false) ∧
    (∃ (addr : ℕ) (size : ℕ) (w : Bool) (v : Word) (s : State), accSize size = false) ∧
    (∃ (addr : ℕ) (size : ℕ) (w : Bool) (v : Word) (s : State),
       accSize size = true ∧ addr % size = 0 ∧ isMain s.dev addr = true ∧ sbAllowed (potRecord addr s.dev) addr = true) ∧
    (∃ (h : HartN) (s : State), HartReady s.dev ↑h ∧ ctxInvasive s.dev (hartOf s.dev ↑h) (hartOf s.dev ↑h).mode = false) ∧
    (∃ (h : HartN) (regno : ℕ) (w : Bool) (v : Word) (s : State),
       (hartOf s.dev ↑h).halted = true ∧ regno < 4160 ∧ dbgClosed s.dev (↑h) regno = false ∧ w = true ∧ dbgWrite (↑h) regno (BitVec.toNat v) s.dev = none) ∧
    (∃ (h : HartN) (regno : ℕ) (w : Bool) (v : Word) (s : State) (d : Dev),
       (hartOf s.dev ↑h).halted = true ∧ regno < 4160 ∧ dbgClosed s.dev (↑h) regno = false ∧ w = true ∧ dbgWrite (↑h) regno (BitVec.toNat v) s.dev = some d) :=
  ⟨⟨0, 0x300, true, 7, st (updHart dsec 0 (fun x => { x with halted := true, haltMode := .hs })), by decide +kernel⟩,
   ⟨0, st (dh (fun x => { x with halted := true })), by decide +kernel⟩,
   ⟨0, st ddbg, by decide +kernel⟩,
   ⟨0, 0x1040, true, 7, st (dh (fun x => { x with halted := true })), by decide +kernel⟩,
   ⟨0, [.csrRead 5 0x5ff, .ebreak], st (dh (fun x => { x with halted := true })), (pbRun 0 [.csrRead 5 0x5ff, .ebreak] (dh (fun x => { x with halted := true }))).2, by decide +kernel⟩,
   ⟨0, [.csrRead 5 0x300, .ebreak], st (dh (fun x => { x with halted := true })), (pbRun 0 [.csrRead 5 0x300, .ebreak] (dh (fun x => { x with halted := true }))).2, by decide +kernel⟩,
   ⟨0, [.ebreak], st d0, by decide +kernel⟩,
   ⟨0, 0x5FF, false, 7, st (dh (fun x => { x with halted := true })), by decide +kernel⟩,
   ⟨0, 0x340, false, 7, st (dh (fun x => { x with halted := true })), 0, by decide +kernel⟩,
   ⟨0, 31, 7, st (dh (fun x => { x with halted := true })), by decide +kernel⟩,
   ⟨0, 0x1001, true, 7, st d0, by decide +kernel⟩,
   ⟨0x49, 8, true, 7, st ddbg, by decide +kernel⟩,
   ⟨0x4F, 1, false, 7, st d0, by decide +kernel⟩,
   ⟨0xC0000000, 8, false, 7, st ddbg, by decide +kernel⟩,
   ⟨0x3FF001000000, 8, false, 7, st ddbg, by decide +kernel⟩,
   ⟨0x48, 8, false, 7, st { ddbg with poison := [(1, true)] }, by decide +kernel⟩,
   ⟨0x48, 8, false, 7, st ddbg, by decide +kernel⟩,
   ⟨0x48, 3, true, 7, st ddbg, by decide +kernel⟩,
   ⟨0x48, 8, true, 7, st ddbg, by decide +kernel⟩,
   ⟨0, st d0, by decide +kernel⟩,
   ⟨0, 0x5FF, true, 7, st (dh (fun x => { x with halted := true })), by decide +kernel⟩,
   ⟨0, 0x340, true, 7, st (dh (fun x => { x with halted := true })), (dbgWrite 0 0x340 7 (dh (fun x => { x with halted := true }))).getD d0, by decide +kernel⟩⟩

theorem witness_RingRegisters :
    (∃ (h : HartN) (b : BenchN) (f : FnN) (r : RingN) (v : ℕ) (s : State) (i : Instr),
       BarServed s.dev ↑b ↑f ↑h ∧
        (fnOf s.dev ↑b ↑f).rings ≤ ↑r ∧
         i ∈ [Instr.sqTailWrite h b f r v, Instr.cqHeadWrite h b f r v, Instr.ringEnable h b f r v, Instr.ringDisable h b f r v]) ∧
    (∃ (h : HartN) (b : BenchN) (f : FnN) (r : RingN) (v : ℕ) (s : State) (i : Instr),
       fnExists s.dev ↑b ↑f = false ∧
        i ∈ [Instr.sqTailWrite h b f r v, Instr.cqHeadWrite h b f r v, Instr.ringEnable h b f r v, Instr.ringDisable h b f r v]) ∧
    (∃ (h : HartN) (b : BenchN) (f : FnN) (r : RingN) (v : ℕ) (s : State) (i : Instr),
       fnExists s.dev ↑b ↑f = true ∧
        hartServed s.dev ↑b ↑f ↑h = false ∧
         i ∈ [Instr.sqTailWrite h b f r v, Instr.cqHeadWrite h b f r v, Instr.ringEnable h b f r v, Instr.ringDisable h b f r v]) ∧
    (∃ (b : BenchN) (f : FnN) (r : RingN) (s : State), (ringOf s.dev ↑b ↑f ↑r).msiDue = true) ∧
    (∃ (b : BenchN) (f : FnN) (r : RingN) (s : State), (ringOf s.dev ↑b ↑f ↑r).msiDue = false) ∧
    (∃ (h : HartN) (b : BenchN) (f : FnN) (r : RingN) (v : ℕ) (s : State), BarServed s.dev ↑b ↑f ↑h ∧ ↑r < (fnOf s.dev ↑b ↑f).rings) :=
  ⟨⟨0, 0, 0, 1, 1, st (updFn 0 0 (fun x => { x with rings := 1 }) (dbn id)), (.ringEnable 0 0 0 1 1), by decide +kernel, by decide +kernel, (by first | (simp; decide +kernel) | exact ⟨rfl, rfl, rfl, rfl, rfl, rfl, by decide +kernel, all_some rfl rfl⟩ | simp)⟩,
   ⟨0, 0, 1, 0, 1, st (dbn id), (.sqTailWrite 0 0 1 0 1), by decide +kernel, (by first | (simp; decide +kernel) | exact ⟨rfl, rfl, rfl, rfl, rfl, rfl, by decide +kernel, all_some rfl rfl⟩ | simp)⟩,
   ⟨0, 0, 0, 0, 1, st (updFn 0 0 (fun x => { x with bindClass := 3, bindId := 5 }) (dbn id)), (.sqTailWrite 0 0 0 0 1), by decide +kernel, by decide +kernel, (by first | (simp; decide +kernel) | exact ⟨rfl, rfl, rfl, rfl, rfl, rfl, by decide +kernel, all_some rfl rfl⟩ | simp)⟩,
   ⟨3, 256, 15, st (updRing 3 256 15 (fun r => { r with msiDue := true }) d0), by decide +kernel⟩,
   ⟨3, 256, 15, st d0, by decide +kernel⟩,
   ⟨0, 0, 0, 0, 64, st (dbn id), by decide +kernel⟩⟩

theorem witness_DescriptorsInAndOut :
    (∃ (b : BenchN) (id : ℕ) (s : State) (j : Job),
       jobOf s.dev (↑b) id = some j ∧
        ((∃ (r : JobRes), j.res = some r ∧ destroyWaits s.dev (↑b) j = false) ∨
          j.res = none ∧ mayStart s.dev (↑b) j = true ∧ ∃ (e : ℕ × ℕ), checkJob s.dev (↑b) j = Except.error e) ∧
         (ringOf s.dev (↑b) j.fn j.ring).cause = 0) ∧
    (∃ (b : BenchN) (s : State) (f : ℕ) (left : ℕ) (r : ℕ) (bytes : List Byte) (pa : ℕ),
       ((benchOf s.dev ↑b).state = 1 ∨ (benchOf s.dev ↑b).state = 3) ∧
        standbyOf s.dev = false ∧
         (benchOf s.dev ↑b).jobs.length < 4096 ∧
          pickFetch s.dev ↑b = some (f, left, r) ∧
          (descRead (↑b) f ((ringOf s.dev (↑b) f r).sqBase + (ringOf s.dev (↑b) f r).sqHead * 128) s.dev).1 = Except.ok (bytes, pa) ∧
          ringPageOk
          (updFn (↑b) f
          (fun (y : Fn) =>
          { y with nextRing := (r + 1) % 16 })
          (updBench (descRead (↑b) f ((ringOf s.dev (↑b) f r).sqBase + (ringOf s.dev (↑b) f r).sqHead * 128) s.dev).2 ↑b fun (x : BenchSt) =>
          { x with rrFn := f, rrLeft := left - 1 }))
          (↑b) f pa =
          true) ∧
    (∃ (b : BenchN) (s : State),
       ((benchOf s.dev ↑b).state = 1 ∨ (benchOf s.dev ↑b).state = 3) ∧ standbyOf s.dev = false ∧ 4096 ≤ (benchOf s.dev ↑b).jobs.length) ∧
    (∃ (b : BenchN) (s : State), ¬((benchOf s.dev ↑b).state = 1 ∨ (benchOf s.dev ↑b).state = 3) ∨ standbyOf s.dev = true) ∧
    (∃ (b : BenchN) (s : State) (f : ℕ) (left : ℕ) (r : ℕ),
       ((benchOf s.dev ↑b).state = 1 ∨ (benchOf s.dev ↑b).state = 3) ∧
        standbyOf s.dev = false ∧
         (benchOf s.dev ↑b).jobs.length < 4096 ∧
          pickFetch s.dev ↑b = some (f, left, r) ∧
          ((∃ (e : ℕ), (descRead (↑b) f ((ringOf s.dev (↑b) f r).sqBase + (ringOf s.dev (↑b) f r).sqHead * 128) s.dev).1 = Except.error e) ∨
          ∃ (bytes : List Byte) (pa : ℕ),
          (descRead (↑b) f ((ringOf s.dev (↑b) f r).sqBase + (ringOf s.dev (↑b) f r).sqHead * 128) s.dev).1 = Except.ok (bytes, pa) ∧
          ringPageOk
          (updFn (↑b) f
          (fun (y : Fn) =>
          { y with nextRing := (r + 1) % 16 })
          (updBench (descRead (↑b) f ((ringOf s.dev (↑b) f r).sqBase + (ringOf s.dev (↑b) f r).sqHead * 128) s.dev).2 ↑b
          fun (x : BenchSt) =>
          { x with rrFn := f, rrLeft := left - 1 }))
          (↑b) f pa =
          false)) :=
  ⟨⟨0, 7, st (dj ({ jHash 0 with res := some { status := 0, detail := 0, out := [], engine := 96 } })), { jHash 0 with res := some { status := 0, detail := 0, out := [], engine := 96 } }, by decide +kernel, by first | exact Or.inl ⟨_, rfl⟩ | exact Or.inl ⟨_, rfl, rfl⟩ | exact Or.inr ⟨rfl, rfl, _, rfl⟩ | exact Or.inr ⟨rfl, by decide +kernel, _, rfl⟩ | exact Or.inl ⟨_, _, rfl⟩ | exact Or.inr ⟨_, _, _, _, rfl⟩ | exact Or.inr (Or.inl ⟨_, _, rfl⟩) | exact Or.inr (Or.inr ⟨_, _, _, rfl⟩), by decide +kernel⟩,
   ⟨0, st (dbn id), 0, 16, 0, (((descRead 0 0 0x1000 (dbn id)).1.toOption.getD ([], 0)).1), (((descRead 0 0 0x1000 (dbn id)).1.toOption.getD ([], 0)).2), by decide +kernel⟩,
   ⟨0, st (dbn (fun x => { x with jobs := List.replicate 4096 (jHash 0) })), by decide +kernel⟩,
   ⟨0, st d0, by decide +kernel⟩,
   ⟨0, st (updRing 0 0 0 (fun r => { r with sqBase := 0x10000000000 }) (dbn id)), 0, 16, 0, by decide +kernel, by decide +kernel, by decide +kernel, by decide +kernel, Or.inl ⟨_, rfl⟩⟩⟩

theorem witness_BenchOperationsRun :
    (∃ (b : BenchN) (id : ℕ) (obs : EngObs) (s : State) (i : Instr) (code : ℕ) (j : Job) (r : OpRow) (ks : List (ℕ × KeyRec)) (eng : ℕ),
       (i, code) ∈
         [(Instr.hash b id obs, 257), (Instr.hmacGen b id obs, 258), (Instr.hmacVerify b id obs, 259), (Instr.cmacGen b id obs, 260),
          (Instr.cmacVerify b id obs, 261), (Instr.mac3Gen b id obs, 262), (Instr.mac3Verify b id obs, 263), (Instr.aesEnc b id obs, 513),
          (Instr.aesDec b id obs, 514), (Instr.gcmEnc b id obs, 515), (Instr.gcmDec b id obs, 516), (Instr.tdesEnc b id obs, 517),
          (Instr.tdesDec b id obs, 518), (Instr.kwWrap b id obs, 519), (Instr.kwUnwrap b id obs, 520), (Instr.edSign b id obs, 769),
          (Instr.edVerify b id obs, 770), (Instr.ecdsaSign b id obs, 771), (Instr.ecdsaVerify b id obs, 772), (Instr.rsaSign b id obs, 773),
          (Instr.rsaVerify b id obs, 774), (Instr.x25519 b id obs, 775), (Instr.ecdh b id obs, 776), (Instr.pinTranslate b id obs, 1025),
          (Instr.pinVerify b id obs, 1026), (Instr.keyGen b id obs, 1281), (Instr.keyDestroy b id obs, 1282), (Instr.keyImportKw b id obs, 1283),
          (Instr.keyImportPub b id obs, 1284), (Instr.keyExportPub b id obs, 1285), (Instr.keyImportBlock b id obs, 1286),
          (Instr.keyExportBlock b id obs, 1287), (Instr.keyDerive b id obs, 1288)] ∧
        jobOf s.dev (↑b) id = some j ∧
         jOp j = code ∧
          mayStart s.dev (↑b) j = true ∧
          checkJob s.dev (↑b) j = Except.ok (r, ks) ∧
          idleEngine s.dev (↑b)
          (engineClass r j
          (match (bufRead (↑b) j.fn (jSrc j) (jLen j) s.dev).1 with
          | Except.ok x => x
          | Except.error a => [])) =
          some eng ∧
          (if j.admitted = true then (true, s.dev)
          else
          chargeIn (↑b) (jClass j)
          (scaleCost s.dev (↑b)
          (baseCost j (Option.map (fun (k : ℕ × KeyRec) => k.2) ks.head?)
          (if code = 1281 then
          match (bufRead (↑b) j.fn (jSrc j) (jLen j) s.dev).1 with
          | Except.ok x => x
          | Except.error a => []
          else [])))
          s.dev).1 =
          false ∧
          jClass j = 1 ∧ j.deferred = true) ∧
    (∃ (b : BenchN) (id : ℕ) (obs : EngObs) (s : State) (i : Instr) (code : ℕ) (j : Job) (r : OpRow) (ks : List (ℕ × KeyRec)) (eng : ℕ),
       (i, code) ∈
         [(Instr.hash b id obs, 257), (Instr.hmacGen b id obs, 258), (Instr.hmacVerify b id obs, 259), (Instr.cmacGen b id obs, 260),
          (Instr.cmacVerify b id obs, 261), (Instr.mac3Gen b id obs, 262), (Instr.mac3Verify b id obs, 263), (Instr.aesEnc b id obs, 513),
          (Instr.aesDec b id obs, 514), (Instr.gcmEnc b id obs, 515), (Instr.gcmDec b id obs, 516), (Instr.tdesEnc b id obs, 517),
          (Instr.tdesDec b id obs, 518), (Instr.kwWrap b id obs, 519), (Instr.kwUnwrap b id obs, 520), (Instr.edSign b id obs, 769),
          (Instr.edVerify b id obs, 770), (Instr.ecdsaSign b id obs, 771), (Instr.ecdsaVerify b id obs, 772), (Instr.rsaSign b id obs, 773),
          (Instr.rsaVerify b id obs, 774), (Instr.x25519 b id obs, 775), (Instr.ecdh b id obs, 776), (Instr.pinTranslate b id obs, 1025),
          (Instr.pinVerify b id obs, 1026), (Instr.keyGen b id obs, 1281), (Instr.keyDestroy b id obs, 1282), (Instr.keyImportKw b id obs, 1283),
          (Instr.keyImportPub b id obs, 1284), (Instr.keyExportPub b id obs, 1285), (Instr.keyImportBlock b id obs, 1286),
          (Instr.keyExportBlock b id obs, 1287), (Instr.keyDerive b id obs, 1288)] ∧
        jobOf s.dev (↑b) id = some j ∧
         jOp j = code ∧
          mayStart s.dev (↑b) j = true ∧
          checkJob s.dev (↑b) j = Except.ok (r, ks) ∧
          idleEngine s.dev (↑b)
          (engineClass r j
          (match (bufRead (↑b) j.fn (jSrc j) (jLen j) s.dev).1 with
          | Except.ok x => x
          | Except.error a => [])) =
          some eng ∧
          (if j.admitted = true then (true, s.dev)
          else
          chargeIn (↑b) (jClass j)
          (scaleCost s.dev (↑b)
          (baseCost j (Option.map (fun (k : ℕ × KeyRec) => k.2) ks.head?)
          (if code = 1281 then
          match (bufRead (↑b) j.fn (jSrc j) (jLen j) s.dev).1 with
          | Except.ok x => x
          | Except.error a => []
          else [])))
          s.dev).1 =
          false ∧
          jClass j = 1 ∧ j.deferred = false) ∧
    (∃ (b : BenchN) (id : ℕ) (obs : EngObs) (s : State) (i : Instr) (code : ℕ) (j : Job) (e : ℕ × ℕ),
       (i, code) ∈
         [(Instr.hash b id obs, 257), (Instr.hmacGen b id obs, 258), (Instr.hmacVerify b id obs, 259), (Instr.cmacGen b id obs, 260),
          (Instr.cmacVerify b id obs, 261), (Instr.mac3Gen b id obs, 262), (Instr.mac3Verify b id obs, 263), (Instr.aesEnc b id obs, 513),
          (Instr.aesDec b id obs, 514), (Instr.gcmEnc b id obs, 515), (Instr.gcmDec b id obs, 516), (Instr.tdesEnc b id obs, 517),
          (Instr.tdesDec b id obs, 518), (Instr.kwWrap b id obs, 519), (Instr.kwUnwrap b id obs, 520), (Instr.edSign b id obs, 769),
          (Instr.edVerify b id obs, 770), (Instr.ecdsaSign b id obs, 771), (Instr.ecdsaVerify b id obs, 772), (Instr.rsaSign b id obs, 773),
          (Instr.rsaVerify b id obs, 774), (Instr.x25519 b id obs, 775), (Instr.ecdh b id obs, 776), (Instr.pinTranslate b id obs, 1025),
          (Instr.pinVerify b id obs, 1026), (Instr.keyGen b id obs, 1281), (Instr.keyDestroy b id obs, 1282), (Instr.keyImportKw b id obs, 1283),
          (Instr.keyImportPub b id obs, 1284), (Instr.keyExportPub b id obs, 1285), (Instr.keyImportBlock b id obs, 1286),
          (Instr.keyExportBlock b id obs, 1287), (Instr.keyDerive b id obs, 1288)] ∧
        jobOf s.dev (↑b) id = some j ∧ jOp j = code ∧ mayStart s.dev (↑b) j = true ∧ checkJob s.dev (↑b) j = Except.error e) ∧
    (∃ (b : BenchN) (id : ℕ) (obs : EngObs) (s : State) (i : Instr) (code : ℕ) (j : Job) (r : OpRow) (ks : List (ℕ × KeyRec)) (eng : ℕ),
       (i, code) ∈
         [(Instr.hash b id obs, 257), (Instr.hmacGen b id obs, 258), (Instr.hmacVerify b id obs, 259), (Instr.cmacGen b id obs, 260),
          (Instr.cmacVerify b id obs, 261), (Instr.mac3Gen b id obs, 262), (Instr.mac3Verify b id obs, 263), (Instr.aesEnc b id obs, 513),
          (Instr.aesDec b id obs, 514), (Instr.gcmEnc b id obs, 515), (Instr.gcmDec b id obs, 516), (Instr.tdesEnc b id obs, 517),
          (Instr.tdesDec b id obs, 518), (Instr.kwWrap b id obs, 519), (Instr.kwUnwrap b id obs, 520), (Instr.edSign b id obs, 769),
          (Instr.edVerify b id obs, 770), (Instr.ecdsaSign b id obs, 771), (Instr.ecdsaVerify b id obs, 772), (Instr.rsaSign b id obs, 773),
          (Instr.rsaVerify b id obs, 774), (Instr.x25519 b id obs, 775), (Instr.ecdh b id obs, 776), (Instr.pinTranslate b id obs, 1025),
          (Instr.pinVerify b id obs, 1026), (Instr.keyGen b id obs, 1281), (Instr.keyDestroy b id obs, 1282), (Instr.keyImportKw b id obs, 1283),
          (Instr.keyImportPub b id obs, 1284), (Instr.keyExportPub b id obs, 1285), (Instr.keyImportBlock b id obs, 1286),
          (Instr.keyExportBlock b id obs, 1287), (Instr.keyDerive b id obs, 1288)] ∧
        jobOf s.dev (↑b) id = some j ∧
         jOp j = code ∧
          mayStart s.dev (↑b) j = true ∧
          checkJob s.dev (↑b) j = Except.ok (r, ks) ∧
          idleEngine s.dev (↑b)
          (engineClass r j
          (match (bufRead (↑b) j.fn (jSrc j) (jLen j) s.dev).1 with
          | Except.ok x => x
          | Except.error a => [])) =
          some eng ∧
          (if j.admitted = true then (true, s.dev)
          else
          chargeIn (↑b) (jClass j)
          (scaleCost s.dev (↑b)
          (baseCost j (Option.map (fun (k : ℕ × KeyRec) => k.2) ks.head?)
          (if code = 1281 then
          match (bufRead (↑b) j.fn (jSrc j) (jLen j) s.dev).1 with
          | Except.ok x => x
          | Except.error a => []
          else [])))
          s.dev).1 =
          true ∧
          obs = EngObs.fault) ∧
    (∃ (b : BenchN) (id : ℕ) (obs : EngObs) (s : State) (i : Instr) (code : ℕ) (j : Job) (r : OpRow) (ks : List (ℕ × KeyRec)),
       (i, code) ∈
         [(Instr.hash b id obs, 257), (Instr.hmacGen b id obs, 258), (Instr.hmacVerify b id obs, 259), (Instr.cmacGen b id obs, 260),
          (Instr.cmacVerify b id obs, 261), (Instr.mac3Gen b id obs, 262), (Instr.mac3Verify b id obs, 263), (Instr.aesEnc b id obs, 513),
          (Instr.aesDec b id obs, 514), (Instr.gcmEnc b id obs, 515), (Instr.gcmDec b id obs, 516), (Instr.tdesEnc b id obs, 517),
          (Instr.tdesDec b id obs, 518), (Instr.kwWrap b id obs, 519), (Instr.kwUnwrap b id obs, 520), (Instr.edSign b id obs, 769),
          (Instr.edVerify b id obs, 770), (Instr.ecdsaSign b id obs, 771), (Instr.ecdsaVerify b id obs, 772), (Instr.rsaSign b id obs, 773),
          (Instr.rsaVerify b id obs, 774), (Instr.x25519 b id obs, 775), (Instr.ecdh b id obs, 776), (Instr.pinTranslate b id obs, 1025),
          (Instr.pinVerify b id obs, 1026), (Instr.keyGen b id obs, 1281), (Instr.keyDestroy b id obs, 1282), (Instr.keyImportKw b id obs, 1283),
          (Instr.keyImportPub b id obs, 1284), (Instr.keyExportPub b id obs, 1285), (Instr.keyImportBlock b id obs, 1286),
          (Instr.keyExportBlock b id obs, 1287), (Instr.keyDerive b id obs, 1288)] ∧
        jobOf s.dev (↑b) id = some j ∧
         jOp j = code ∧
          mayStart s.dev (↑b) j = true ∧
          checkJob s.dev (↑b) j = Except.ok (r, ks) ∧
          idleEngine s.dev (↑b)
          (engineClass r j
          (match (bufRead (↑b) j.fn (jSrc j) (jLen j) s.dev).1 with
          | Except.ok x => x
          | Except.error a => [])) =
          none) ∧
    (∃ (b : BenchN) (id : ℕ) (obs : EngObs) (s : State) (i : Instr) (code : ℕ) (j : Job),
       (i, code) ∈
         [(Instr.hash b id obs, 257), (Instr.hmacGen b id obs, 258), (Instr.hmacVerify b id obs, 259), (Instr.cmacGen b id obs, 260),
          (Instr.cmacVerify b id obs, 261), (Instr.mac3Gen b id obs, 262), (Instr.mac3Verify b id obs, 263), (Instr.aesEnc b id obs, 513),
          (Instr.aesDec b id obs, 514), (Instr.gcmEnc b id obs, 515), (Instr.gcmDec b id obs, 516), (Instr.tdesEnc b id obs, 517),
          (Instr.tdesDec b id obs, 518), (Instr.kwWrap b id obs, 519), (Instr.kwUnwrap b id obs, 520), (Instr.edSign b id obs, 769),
          (Instr.edVerify b id obs, 770), (Instr.ecdsaSign b id obs, 771), (Instr.ecdsaVerify b id obs, 772), (Instr.rsaSign b id obs, 773),
          (Instr.rsaVerify b id obs, 774), (Instr.x25519 b id obs, 775), (Instr.ecdh b id obs, 776), (Instr.pinTranslate b id obs, 1025),
          (Instr.pinVerify b id obs, 1026), (Instr.keyGen b id obs, 1281), (Instr.keyDestroy b id obs, 1282), (Instr.keyImportKw b id obs, 1283),
          (Instr.keyImportPub b id obs, 1284), (Instr.keyExportPub b id obs, 1285), (Instr.keyImportBlock b id obs, 1286),
          (Instr.keyExportBlock b id obs, 1287), (Instr.keyDerive b id obs, 1288)] ∧
        jobOf s.dev (↑b) id = some j ∧ (jOp j ≠ code ∨ mayStart s.dev (↑b) j = false)) ∧
    (∃ (b : BenchN) (id : ℕ) (obs : EngObs) (s : State) (i : Instr) (code : ℕ) (j : Job) (r : OpRow) (ks : List (ℕ × KeyRec)) (eng : ℕ) (off : ℕ),
       (i, code) ∈
         [(Instr.hash b id obs, 257), (Instr.hmacGen b id obs, 258), (Instr.hmacVerify b id obs, 259), (Instr.cmacGen b id obs, 260),
          (Instr.cmacVerify b id obs, 261), (Instr.mac3Gen b id obs, 262), (Instr.mac3Verify b id obs, 263), (Instr.aesEnc b id obs, 513),
          (Instr.aesDec b id obs, 514), (Instr.gcmEnc b id obs, 515), (Instr.gcmDec b id obs, 516), (Instr.tdesEnc b id obs, 517),
          (Instr.tdesDec b id obs, 518), (Instr.kwWrap b id obs, 519), (Instr.kwUnwrap b id obs, 520), (Instr.edSign b id obs, 769),
          (Instr.edVerify b id obs, 770), (Instr.ecdsaSign b id obs, 771), (Instr.ecdsaVerify b id obs, 772), (Instr.rsaSign b id obs, 773),
          (Instr.rsaVerify b id obs, 774), (Instr.x25519 b id obs, 775), (Instr.ecdh b id obs, 776), (Instr.pinTranslate b id obs, 1025),
          (Instr.pinVerify b id obs, 1026), (Instr.keyGen b id obs, 1281), (Instr.keyDestroy b id obs, 1282), (Instr.keyImportKw b id obs, 1283),
          (Instr.keyImportPub b id obs, 1284), (Instr.keyExportPub b id obs, 1285), (Instr.keyImportBlock b id obs, 1286),
          (Instr.keyExportBlock b id obs, 1287), (Instr.keyDerive b id obs, 1288)] ∧
        jobOf s.dev (↑b) id = some j ∧
         jOp j = code ∧
          mayStart s.dev (↑b) j = true ∧
          checkJob s.dev (↑b) j = Except.ok (r, ks) ∧
          idleEngine s.dev (↑b)
          (engineClass r j
          (match (bufRead (↑b) j.fn (jSrc j) (jLen j) s.dev).1 with
          | Except.ok x => x
          | Except.error a => [])) =
          some eng ∧
          (if j.admitted = true then (true, s.dev)
          else
          chargeIn (↑b) (jClass j)
          (scaleCost s.dev (↑b)
          (baseCost j (Option.map (fun (k : ℕ × KeyRec) => k.2) ks.head?)
          (if code = 1281 then
          match (bufRead (↑b) j.fn (jSrc j) (jLen j) s.dev).1 with
          | Except.ok x => x
          | Except.error a => []
          else [])))
          s.dev).1 =
          true ∧
          obs = EngObs.spadPoison off) ∧
    (∃ (b : BenchN) (id : ℕ) (obs : EngObs) (s : State) (i : Instr) (code : ℕ) (j : Job) (r : OpRow) (ks : List (ℕ × KeyRec)) (eng : ℕ),
       (i, code) ∈
         [(Instr.hash b id obs, 257), (Instr.hmacGen b id obs, 258), (Instr.hmacVerify b id obs, 259), (Instr.cmacGen b id obs, 260),
          (Instr.cmacVerify b id obs, 261), (Instr.mac3Gen b id obs, 262), (Instr.mac3Verify b id obs, 263), (Instr.aesEnc b id obs, 513),
          (Instr.aesDec b id obs, 514), (Instr.gcmEnc b id obs, 515), (Instr.gcmDec b id obs, 516), (Instr.tdesEnc b id obs, 517),
          (Instr.tdesDec b id obs, 518), (Instr.kwWrap b id obs, 519), (Instr.kwUnwrap b id obs, 520), (Instr.edSign b id obs, 769),
          (Instr.edVerify b id obs, 770), (Instr.ecdsaSign b id obs, 771), (Instr.ecdsaVerify b id obs, 772), (Instr.rsaSign b id obs, 773),
          (Instr.rsaVerify b id obs, 774), (Instr.x25519 b id obs, 775), (Instr.ecdh b id obs, 776), (Instr.pinTranslate b id obs, 1025),
          (Instr.pinVerify b id obs, 1026), (Instr.keyGen b id obs, 1281), (Instr.keyDestroy b id obs, 1282), (Instr.keyImportKw b id obs, 1283),
          (Instr.keyImportPub b id obs, 1284), (Instr.keyExportPub b id obs, 1285), (Instr.keyImportBlock b id obs, 1286),
          (Instr.keyExportBlock b id obs, 1287), (Instr.keyDerive b id obs, 1288)] ∧
        jobOf s.dev (↑b) id = some j ∧
         jOp j = code ∧
          mayStart s.dev (↑b) j = true ∧
          checkJob s.dev (↑b) j = Except.ok (r, ks) ∧
          idleEngine s.dev (↑b)
          (engineClass r j
          (match (bufRead (↑b) j.fn (jSrc j) (jLen j) s.dev).1 with
          | Except.ok x => x
          | Except.error a => [])) =
          some eng ∧
          (if j.admitted = true then (true, s.dev)
          else
          chargeIn (↑b) (jClass j)
          (scaleCost s.dev (↑b)
          (baseCost j (Option.map (fun (k : ℕ × KeyRec) => k.2) ks.head?)
          (if code = 1281 then
          match (bufRead (↑b) j.fn (jSrc j) (jLen j) s.dev).1 with
          | Except.ok x => x
          | Except.error a => []
          else [])))
          s.dev).1 =
          false ∧
          jClass j = 2) ∧
    (∃ (b : BenchN) (id : ℕ) (obs : EngObs) (s : State) (i : Instr) (code : ℕ) (j : Job) (r : OpRow) (ks : List (ℕ × KeyRec)) (eng : ℕ) (e : ℕ × ℕ) (d2 :
       Dev),
       (i, code) ∈
         [(Instr.hash b id obs, 257), (Instr.hmacGen b id obs, 258), (Instr.hmacVerify b id obs, 259), (Instr.cmacGen b id obs, 260),
          (Instr.cmacVerify b id obs, 261), (Instr.mac3Gen b id obs, 262), (Instr.mac3Verify b id obs, 263), (Instr.aesEnc b id obs, 513),
          (Instr.aesDec b id obs, 514), (Instr.gcmEnc b id obs, 515), (Instr.gcmDec b id obs, 516), (Instr.tdesEnc b id obs, 517),
          (Instr.tdesDec b id obs, 518), (Instr.kwWrap b id obs, 519), (Instr.kwUnwrap b id obs, 520), (Instr.edSign b id obs, 769),
          (Instr.edVerify b id obs, 770), (Instr.ecdsaSign b id obs, 771), (Instr.ecdsaVerify b id obs, 772), (Instr.rsaSign b id obs, 773),
          (Instr.rsaVerify b id obs, 774), (Instr.x25519 b id obs, 775), (Instr.ecdh b id obs, 776), (Instr.pinTranslate b id obs, 1025),
          (Instr.pinVerify b id obs, 1026), (Instr.keyGen b id obs, 1281), (Instr.keyDestroy b id obs, 1282), (Instr.keyImportKw b id obs, 1283),
          (Instr.keyImportPub b id obs, 1284), (Instr.keyExportPub b id obs, 1285), (Instr.keyImportBlock b id obs, 1286),
          (Instr.keyExportBlock b id obs, 1287), (Instr.keyDerive b id obs, 1288)] ∧
        jobOf s.dev (↑b) id = some j ∧
         jOp j = code ∧
          mayStart s.dev (↑b) j = true ∧
          checkJob s.dev (↑b) j = Except.ok (r, ks) ∧
          idleEngine s.dev (↑b)
          (engineClass r j
          (match (bufRead (↑b) j.fn (jSrc j) (jLen j) s.dev).1 with
          | Except.ok x => x
          | Except.error a => [])) =
          some eng ∧
          (if j.admitted = true then (true, s.dev)
          else
          chargeIn (↑b) (jClass j)
          (scaleCost s.dev (↑b)
          (baseCost j (Option.map (fun (k : ℕ × KeyRec) => k.2) ks.head?)
          (if code = 1281 then
          match (bufRead (↑b) j.fn (jSrc j) (jLen j) s.dev).1 with
          | Except.ok x => x
          | Except.error a => []
          else [])))
          s.dev).1 =
          true ∧
          (obs = EngObs.ok ∨ obs = EngObs.spadCorrected) ∧
          bufRead (↑b) j.fn (jSrc j) (jLen j)
          (if obs = EngObs.spadCorrected then
          spadCorrected (↑b)
          (List.foldl (fun (d : Dev) (k : ℕ × KeyRec) => loadKey (↑b) k.1 d)
          (updJob (↑b) id
          (fun (j_1 : Job) =>
          { j_1 with started := true, admitted := true, startAt := s.dev.now, base := baseCost j (Option.map (fun (k : ℕ × KeyRec) => k.2) ks.head?) (if code = 1281 then match (bufRead (↑b) j.fn (jSrc j) (jLen j) s.dev).1 with | Except.ok x => x | Except.error a => [] else []), keys := List.map (fun (k : ℕ × KeyRec) => k.1) ks })
          (if j.admitted = true then (true, s.dev)
          else
          chargeIn (↑b) (jClass j)
          (scaleCost s.dev (↑b)
          (baseCost j (Option.map (fun (k : ℕ × KeyRec) => k.2) ks.head?)
          (if code = 1281 then
          match (bufRead (↑b) j.fn (jSrc j) (jLen j) s.dev).1 with
          | Except.ok x => x
          | Except.error a => []
          else [])))
          s.dev).2)
          ks)
          else
          List.foldl (fun (d : Dev) (k : ℕ × KeyRec) => loadKey (↑b) k.1 d)
          (updJob (↑b) id
          (fun (j_1 : Job) =>
          { j_1 with started := true, admitted := true, startAt := s.dev.now, base := baseCost j (Option.map (fun (k : ℕ × KeyRec) => k.2) ks.head?) (if code = 1281 then match (bufRead (↑b) j.fn (jSrc j) (jLen j) s.dev).1 with | Except.ok x => x | Except.error a => [] else []), keys := List.map (fun (k : ℕ × KeyRec) => k.1) ks })
          (if j.admitted = true then (true, s.dev)
          else
          chargeIn (↑b) (jClass j)
          (scaleCost s.dev (↑b)
          (baseCost j (Option.map (fun (k : ℕ × KeyRec) => k.2) ks.head?)
          (if code = 1281 then
          match (bufRead (↑b) j.fn (jSrc j) (jLen j) s.dev).1 with
          | Except.ok x => x
          | Except.error a => []
          else [])))
          s.dev).2)
          ks) =
          (Except.error e, d2)) :=
  ⟨⟨0, 7, .ok, st (dj ({ jHash64 0x10 with deferred := true })), .hash 0 7 .ok, 0x0101, { jHash64 0x10 with deferred := true }, (opRow 0x0101).getD ⟨0, 0, [], 0, [], 0, false, false, false, false, false⟩, [], 96, by decide +kernel⟩,
   ⟨0, 7, .ok, st (dj (jHash64 0x10)), .hash 0 7 .ok, 0x0101, jHash64 0x10, (opRow 0x0101).getD ⟨0, 0, [], 0, [], 0, false, false, false, false, false⟩, [], 96, by decide +kernel⟩,
   ⟨0, 7, .ok, st (dj (jo (jb 0x0101 0 0 0 0 0x4000 31 0))), .hash 0 7 .ok, 0x0101, jo (jb 0x0101 0 0 0 0 0x4000 31 0), (0x0106, 0), by decide +kernel⟩,
   ⟨0, 7, .fault, st (dj (jHash 0x20)), .hash 0 7 .fault, 0x0101, jHash 0x20, (opRow 0x0101).getD ⟨0, 0, [], 0, [], 0, false, false, false, false, false⟩, [], 96, by decide +kernel⟩,
   ⟨0, 7, .ok, st (dbn (fun x => { x with jobs := jHash 0 :: (List.range 32).map (fun k => { jHash 0 with id := k + 10, started := true, res := some { status := 0, detail := 0, out := [], engine := k + 96 } }) })), .hash 0 7 .ok, 0x0101, jHash 0, (opRow 0x0101).getD ⟨0, 0, [], 0, [], 0, false, false, false, false, false⟩, [], by decide +kernel⟩,
   ⟨0, 7, .ok, st (dj (jo (jb 0x0102 0 0 0 0 0x4000 31 0))), .hash 0 7 .ok, 0x0101, jo (jb 0x0102 0 0 0 0 0x4000 31 0), by decide +kernel⟩,
   ⟨0, 7, .spadPoison 5, st (dj (jHash 0x20)), .hash 0 7 (.spadPoison 5), 0x0101, jHash 0x20, (opRow 0x0101).getD ⟨0, 0, [], 0, [], 0, false, false, false, false, false⟩, [], 96, 5, by decide +kernel⟩,
   ⟨0, 7, .ok, st (dj (jHash64 0x20)), .hash 0 7 .ok, 0x0101, jHash64 0x20, (opRow 0x0101).getD ⟨0, 0, [], 0, [], 0, false, false, false, false, false⟩, [], 96, by decide +kernel⟩,
   ⟨0, 7, .ok, st (dj (jo (jb 0x0101 0 64 64 0x10000000000 0x4000 32 0))), .hash 0 7 .ok, 0x0101, jo (jb 0x0101 0 64 64 0x10000000000 0x4000 32 0), (opRow 0x0101).getD ⟨0, 0, [], 0, [], 0, false, false, false, false, false⟩, [], 96, ((match (bufRead 0 0 0x10000000000 (jLen (jo (jb 0x0101 0 64 64 0x10000000000 0x4000 32 0))) (updJob 0 7 (fun j => { j with started := true, startAt := d0.now, admitted := true, base := baseCost (jo (jb 0x0101 0 64 64 0x10000000000 0x4000 32 0)) none [], keys := [] }) ((chargeIn 0 0 (scaleCost (dj (jo (jb 0x0101 0 64 64 0x10000000000 0x4000 32 0))) 0 (baseCost (jo (jb 0x0101 0 64 64 0x10000000000 0x4000 32 0)) none [])) (dj (jo (jb 0x0101 0 64 64 0x10000000000 0x4000 32 0)))).2))).1 with | .error e => e | .ok _ => (0, 0))), (bufRead 0 0 0x10000000000 (jLen (jo (jb 0x0101 0 64 64 0x10000000000 0x4000 32 0))) (updJob 0 7 (fun j => { j with started := true, startAt := d0.now, admitted := true, base := baseCost (jo (jb 0x0101 0 64 64 0x10000000000 0x4000 32 0)) none [], keys := [] }) ((chargeIn 0 0 (scaleCost (dj (jo (jb 0x0101 0 64 64 0x10000000000 0x4000 32 0))) 0 (baseCost (jo (jb 0x0101 0 64 64 0x10000000000 0x4000 32 0)) none [])) (dj (jo (jb 0x0101 0 64 64 0x10000000000 0x4000 32 0)))).2))).2, by decide +kernel⟩⟩

theorem witness_BenchResults :
    (∃ (b : BenchN) (f : ℕ) (h : ℕ) (k : KeyRec) (d : Dev) (d' : Dev),
       createKey (↑b) k d = (some h, d') ∧ storeCap d ↑b ≤ 2 ^ 32 ∧ ∀ (i : ℕ), tabGet 0 (benchOf d ↑b).lostGen i ≤ tabGet 0 (benchOf d ↑b).gens i) ∧
    (∃ (b : BenchN) (f : ℕ) (id : ℕ) (eng : ℕ) (j : Job) (r : OpRow) (ks : List (ℕ × KeyRec)) (src : List Byte) (aux : List Byte) (l : List ℕ) (d : Dev) (h
       : ℕ) (x : ℕ × KeyRec),
       r.code = 1282 ∧ destroyList d (↑b) j.fn src (jLen j / 8) = Except.ok l ∧ findKey (perform (↑b) id eng j r ks src aux d) (↑b) f h = Except.ok x) ∧
    (∃ (b : BenchN) (j : Job) (r : OpRow) (ks : List (ℕ × KeyRec)) (src : List Byte) (aux : List Byte) (d : Dev) (d' : Dev),
       checkJob d' (↑b) j = Except.ok (r, ks) ∧ (runOp (↑b) j (List.map (fun (k : ℕ × KeyRec) => k.2) ks) src aux d).1.1 = 0) ∧
    (∃ (b : BenchN) (j : Job) (ks : List KeyRec) (src : List Byte) (aux : List Byte) (d : Dev), jOp j ∈ [259, 261, 263, 770, 772, 774, 1026]) :=
  ⟨⟨0, 0, handleOf 0 0 1, ky, setCurNat d0 0x5004 1 0x100000, (createKey ((0 : BenchN) : Nat) ky (setCurNat d0 0x5004 1 0x100000)).2,
    Prod.ext (show (createKey ((0 : BenchN) : Nat) ky (setCurNat d0 0x5004 1 0x100000)).1 = some (handleOf 0 0 1) by decide +kernel) rfl, by decide +kernel, fun _ => Nat.zero_le _⟩,
   ⟨0, 0, 7, 32, (jo (jb 0x0502 0 8 8 0x3000 0 0 0)), ((opRow 0x0502).getD ⟨0, 0, [], 0, [], 0, false, false, false, false, false⟩), [], leBytes 8 (handleOf 0 0 1), [], [0], (dbn (fun x => { x with gens := [(0, 1), (1, 1)], keys := [(0, some { ky with ownId := instanceNo 0 0 }), (1, some { ky with ownId := instanceNo 0 0 })] })), handleOf 0 1 1, (1, { ky with ownId := instanceNo 0 0 }), by decide +kernel⟩,
   ⟨0, jHash64 0, (opRow 0x0101).getD ⟨0, 0, [], 0, [], 0, false, false, false, false, false⟩, [], List.replicate 64 0, [], dj (jHash64 0), dj (jHash64 0), by decide +kernel⟩,
   ⟨0, jo (jb 0x0103 0 0 0 0 0 0 0), [], [], [], d0, by decide +kernel⟩⟩

theorem witness_FeedChannels :
    (∃ (h : HartN) (b : BenchN) (f : FnN) (c : RingN) (ctl : ℕ) (s : State),
       BarServed s.dev ↑b ↑f ↑h ∧ chanOwnerOf s.dev ↑b ↑c = ↑f ∧ getBits (setBit ctl 2 true) 0 3 = 4) ∧
    (∃ (h : HartN) (b : BenchN) (f : FnN) (c : RingN) (ctl : ℕ) (s : State),
       BarServed s.dev ↑b ↑f ↑h ∧ (chanOwnerOf s.dev ↑b ↑c ≠ ↑f ∨ getBits (setBit ctl 2 true) 0 3 ≠ 4)) ∧
    (∃ (b : BenchN) (c : RingN) (s : State), (feedOf s.dev ↑b ↑c).state = 1 ∧ (feedOf s.dev ↑b ↑c).pos = (feedOf s.dev ↑b ↑c).count) ∧
    (∃ (b : BenchN) (c : RingN) (s : State), ¬((feedOf s.dev ↑b ↑c).state = 1 ∧ (feedOf s.dev ↑b ↑c).pos = (feedOf s.dev ↑b ↑c).count)) ∧
    (∃ (h : HartN) (b : BenchN) (f : FnN) (c : RingN) (ctl : ℕ) (s : State),
       BarServed s.dev ↑b ↑f ↑h ∧ chanOwnerOf s.dev ↑b ↑c = ↑f ∧ getBits (setBit ctl 1 true) 0 3 = 2) ∧
    (∃ (h : HartN) (b : BenchN) (f : FnN) (c : RingN) (ctl : ℕ) (s : State),
       BarServed s.dev ↑b ↑f ↑h ∧ (chanOwnerOf s.dev ↑b ↑c ≠ ↑f ∨ getBits (setBit ctl 1 true) 0 3 ≠ 2)) ∧
    (∃ (h : HartN) (b : BenchN) (f : FnN) (c : RingN) (ctl : ℕ) (s : State),
       BarServed s.dev ↑b ↑f ↑h ∧ chanOwnerOf s.dev ↑b ↑c = ↑f ∧ getBits (setBit ctl 0 true) 0 3 = 1) ∧
    (∃ (h : HartN) (b : BenchN) (f : FnN) (c : RingN) (ctl : ℕ) (s : State),
       BarServed s.dev ↑b ↑f ↑h ∧ (chanOwnerOf s.dev ↑b ↑c ≠ ↑f ∨ getBits (setBit ctl 0 true) 0 3 ≠ 1)) ∧
    (∃ (b : BenchN) (line : ℕ) (poison : Bool) (reading : ℕ) (s : State), ∃ c < 16, (feedOf s.dev (↑b) c).state = 1) ∧
    (∃ (b : BenchN) (line : ℕ) (poison : Bool) (reading : ℕ) (s : State), ∀ c < 16, (feedOf s.dev (↑b) c).state ≠ 1) ∧
    (∃ (b : BenchN) (c : RingN) (err : MemErr) (s : State) (a : ℕ),
       (feedOf s.dev ↑b ↑c).state = 1 ∧
        (feedOf s.dev ↑b ↑c).pos < (feedOf s.dev ↑b ↑c).count ∧
         (benchOf s.dev ↑b).supply = true ∧
          segAddr s.dev (↑b) (chanOwnerOf s.dev ↑b ↑c) (unitOff (feedOf s.dev ↑b ↑c) (feedOf s.dev ↑b ↑c).pos) = some a ∧
          (feedOf s.dev ↑b ↑c).dir ≠ 0 ∧ (err = MemErr.uncorrectable ∨ err = MemErr.badMeta)) ∧
    (∃ (b : BenchN) (c : RingN) (err : MemErr) (s : State) (a : ℕ) (e : BtuEnt) (d1 : Dev),
       (feedOf s.dev ↑b ↑c).state = 1 ∧
        (feedOf s.dev ↑b ↑c).pos < (feedOf s.dev ↑b ↑c).count ∧
         (benchOf s.dev ↑b).supply = true ∧
          segAddr s.dev (↑b) (chanOwnerOf s.dev ↑b ↑c) (unitOff (feedOf s.dev ↑b ↑c) (feedOf s.dev ↑b ↑c).pos) = some a ∧
          (feedOf s.dev ↑b ↑c).dir = 0 ∧
          btuLookup (↑b) (chanOwnerOf s.dev ↑b ↑c) ((feedOf s.dev ↑b ↑c).mem + 64 * (feedOf s.dev ↑b ↑c).pos) false (spadTouch (↑b) a s.dev) =
          (Except.ok e, d1) ∧
          isMain d1 (e.pa + ((feedOf s.dev ↑b ↑c).mem + 64 * (feedOf s.dev ↑b ↑c).pos - e.va)) = false) ∧
    (∃ (b : BenchN) (c : RingN) (err : MemErr) (s : State),
       (feedOf s.dev ↑b ↑c).state ≠ 1 ∨ (feedOf s.dev ↑b ↑c).count ≤ (feedOf s.dev ↑b ↑c).pos ∨ (benchOf s.dev ↑b).supply = false) ∧
    (∃ (b : BenchN) (c : RingN) (err : MemErr) (s : State) (a : ℕ) (e : BtuEnt) (d1 : Dev),
       (feedOf s.dev ↑b ↑c).state = 1 ∧
        (feedOf s.dev ↑b ↑c).pos < (feedOf s.dev ↑b ↑c).count ∧
         (benchOf s.dev ↑b).supply = true ∧
          segAddr s.dev (↑b) (chanOwnerOf s.dev ↑b ↑c) (unitOff (feedOf s.dev ↑b ↑c) (feedOf s.dev ↑b ↑c).pos) = some a ∧
          (feedOf s.dev ↑b ↑c).dir = 0 ∧
          btuLookup (↑b) (chanOwnerOf s.dev ↑b ↑c) ((feedOf s.dev ↑b ↑c).mem + 64 * (feedOf s.dev ↑b ↑c).pos) false (spadTouch (↑b) a s.dev) =
          (Except.ok e, d1) ∧
          isMain d1 (e.pa + ((feedOf s.dev ↑b ↑c).mem + 64 * (feedOf s.dev ↑b ↑c).pos - e.va)) = true ∧
          (cohRead d1 (lineOf (e.pa + ((feedOf s.dev ↑b ↑c).mem + 64 * (feedOf s.dev ↑b ↑c).pos - e.va)))).2 = false) ∧
    (∃ (b : BenchN) (c : RingN) (err : MemErr) (s : State) (a : ℕ) (e : ℕ) (d1 : Dev),
       (feedOf s.dev ↑b ↑c).state = 1 ∧
        (feedOf s.dev ↑b ↑c).pos < (feedOf s.dev ↑b ↑c).count ∧
         (benchOf s.dev ↑b).supply = true ∧
          segAddr s.dev (↑b) (chanOwnerOf s.dev ↑b ↑c) (unitOff (feedOf s.dev ↑b ↑c) (feedOf s.dev ↑b ↑c).pos) = some a ∧
          (feedOf s.dev ↑b ↑c).dir = 0 ∧
          btuLookup (↑b) (chanOwnerOf s.dev ↑b ↑c) ((feedOf s.dev ↑b ↑c).mem + 64 * (feedOf s.dev ↑b ↑c).pos) false (spadTouch (↑b) a s.dev) =
          (Except.error e, d1)) ∧
    (∃ (b : BenchN) (c : RingN) (err : MemErr) (s : State) (a : ℕ) (d2 : Dev),
       (feedOf s.dev ↑b ↑c).state = 1 ∧
        (feedOf s.dev ↑b ↑c).pos < (feedOf s.dev ↑b ↑c).count ∧
         (benchOf s.dev ↑b).supply = true ∧
          segAddr s.dev (↑b) (chanOwnerOf s.dev ↑b ↑c) (unitOff (feedOf s.dev ↑b ↑c) (feedOf s.dev ↑b ↑c).pos) = some a ∧
          (feedOf s.dev ↑b ↑c).dir ≠ 0 ∧
          (err = MemErr.none ∨ err = MemErr.corrected) ∧
          chunkWrite (↑b) (chanOwnerOf s.dev ↑b ↑c) ((feedOf s.dev ↑b ↑c).mem + 64 * (feedOf s.dev ↑b ↑c).pos) (spadBytes s.dev (↑b) a 64)
          (if err = MemErr.corrected then spadCorrected (↑b) (spadTouch (↑b) a s.dev) else spadTouch (↑b) a s.dev) =
          (none, d2)) ∧
    (∃ (b : BenchN) (c : RingN) (err : MemErr) (s : State) (a : ℕ) (e : ℕ) (d2 : Dev),
       (feedOf s.dev ↑b ↑c).state = 1 ∧
        (feedOf s.dev ↑b ↑c).pos < (feedOf s.dev ↑b ↑c).count ∧
         (benchOf s.dev ↑b).supply = true ∧
          segAddr s.dev (↑b) (chanOwnerOf s.dev ↑b ↑c) (unitOff (feedOf s.dev ↑b ↑c) (feedOf s.dev ↑b ↑c).pos) = some a ∧
          (feedOf s.dev ↑b ↑c).dir ≠ 0 ∧
          (err = MemErr.none ∨ err = MemErr.corrected) ∧
          chunkWrite (↑b) (chanOwnerOf s.dev ↑b ↑c) ((feedOf s.dev ↑b ↑c).mem + 64 * (feedOf s.dev ↑b ↑c).pos) (spadBytes s.dev (↑b) a 64)
          (if err = MemErr.corrected then spadCorrected (↑b) (spadTouch (↑b) a s.dev) else spadTouch (↑b) a s.dev) =
          (some e, d2)) ∧
    (∃ (b : BenchN) (c : RingN) (err : MemErr) (s : State),
       (feedOf s.dev ↑b ↑c).state = 1 ∧
        (feedOf s.dev ↑b ↑c).pos < (feedOf s.dev ↑b ↑c).count ∧
         (benchOf s.dev ↑b).supply = true ∧ segAddr s.dev (↑b) (chanOwnerOf s.dev ↑b ↑c) (unitOff (feedOf s.dev ↑b ↑c) (feedOf s.dev ↑b ↑c).pos) = none) ∧
    (∃ (b : BenchN) (c : RingN) (err : MemErr) (s : State) (a : ℕ) (e : BtuEnt) (d1 : Dev),
       (feedOf s.dev ↑b ↑c).state = 1 ∧
        (feedOf s.dev ↑b ↑c).pos < (feedOf s.dev ↑b ↑c).count ∧
         (benchOf s.dev ↑b).supply = true ∧
          segAddr s.dev (↑b) (chanOwnerOf s.dev ↑b ↑c) (unitOff (feedOf s.dev ↑b ↑c) (feedOf s.dev ↑b ↑c).pos) = some a ∧
          (feedOf s.dev ↑b ↑c).dir = 0 ∧
          btuLookup (↑b) (chanOwnerOf s.dev ↑b ↑c) ((feedOf s.dev ↑b ↑c).mem + 64 * (feedOf s.dev ↑b ↑c).pos) false (spadTouch (↑b) a s.dev) =
          (Except.ok e, d1) ∧
          isMain d1 (e.pa + ((feedOf s.dev ↑b ↑c).mem + 64 * (feedOf s.dev ↑b ↑c).pos - e.va)) = true ∧
          (cohRead d1 (lineOf (e.pa + ((feedOf s.dev ↑b ↑c).mem + 64 * (feedOf s.dev ↑b ↑c).pos - e.va)))).2 = true) :=
  ⟨⟨0, 0, 0, 15, 4, st (updFeed 0 15 (fun x => { x with mem := 0x1000, count := 1, state := 1 }) (dbn id)), by decide +kernel⟩,
   ⟨0, 0, 0, 15, 1, st (dbn id), by decide +kernel⟩,
   ⟨3, 15, st (updFeed 3 15 (fun x => { x with state := 1, pos := 4, count := 4 }) d0), by decide +kernel⟩,
   ⟨3, 15, st d0, by decide +kernel⟩,
   ⟨0, 0, 0, 15, 2, st (updFeed 0 15 (fun x => { x with mem := 0x1000, count := 1, state := 4 }) (dbn id)), by decide +kernel⟩,
   ⟨0, 0, 0, 15, 1, st (dbn id), by decide +kernel⟩,
   ⟨0, 0, 0, 15, 0x101, st (updFeed 0 15 (fun x => { x with mem := 0x1000, count := 1 }) (dbn id)), by decide +kernel⟩,
   ⟨0, 0, 0, 15, 2, st (dbn id), by decide +kernel⟩,
   ⟨3, 1, true, 0, st (updFeed 3 15 (fun x => { x with state := 1, pos := 4, count := 4 }) d0), by decide +kernel⟩,
   ⟨3, 1, true, 0, st d0, (by first | decide +kernel | exact all_some rfl (by decide +kernel) | simp)⟩,
   ⟨0, 0, .badMeta, st (updFeed 0 0 (fun x => { x with dir := 1 }) dfeed), 0, by decide +kernel⟩,
   ⟨0, 0, .none, st (updFeed 0 0 (fun x => { x with mem := 0x10000000000 }) dfeed), 0, (((btuLookup 0 0 0x10000000000 false (spadTouch 0 0 (updFeed 0 0 (fun x => { x with mem := 0x10000000000 }) dfeed)))).1.toOption.getD (dfe 0)), ((btuLookup 0 0 0x10000000000 false (spadTouch 0 0 (updFeed 0 0 (fun x => { x with mem := 0x10000000000 }) dfeed)))).2, by decide +kernel⟩,
   ⟨0, 0, .none, st d0, by decide +kernel⟩,
   ⟨0, 0, .none, st (updFeed 0 0 (fun x => { x with mem := 0x1000 }) dfeed), 0, (((btuLookup 0 0 0x1000 false (spadTouch 0 0 (updFeed 0 0 (fun x => { x with mem := 0x1000 }) dfeed)))).1.toOption.getD (dfe 0)), ((btuLookup 0 0 0x1000 false (spadTouch 0 0 (updFeed 0 0 (fun x => { x with mem := 0x1000 }) dfeed)))).2, by decide +kernel⟩,
   ⟨0, 0, .none, st (updFeed 0 0 (fun x => { x with mem := 0x100000000000000 }) dfeed), 0, ((match ((btuLookup 0 0 0x100000000000000 false (spadTouch 0 0 (updFeed 0 0 (fun x => { x with mem := 0x100000000000000 }) dfeed)))).1 with | .error e => e | .ok _ => 0)), (btuLookup 0 0 0x100000000000000 false (spadTouch 0 0 (updFeed 0 0 (fun x => { x with mem := 0x100000000000000 }) dfeed))).2, by decide +kernel⟩,
   ⟨0, 0, .none, st (updFeed 0 0 (fun x => { x with dir := 1 }) dfeed), 0, ((chunkWrite 0 0 0x1000 (spadBytes (updFeed 0 0 (fun x => { x with dir := 1 }) dfeed) 0 0 64) (spadTouch 0 0 (updFeed 0 0 (fun x => { x with dir := 1 }) dfeed)))).2, by decide +kernel⟩,
   ⟨0, 0, .none, st (updFeed 0 0 (fun x => { x with dir := 1, mem := 0x100000000000000 }) dfeed), 0, ((chunkWrite 0 0 0x100000000000000 (spadBytes (updFeed 0 0 (fun x => { x with dir := 1, mem := 0x100000000000000 }) dfeed) 0 0 64) (spadTouch 0 0 (updFeed 0 0 (fun x => { x with dir := 1, mem := 0x100000000000000 }) dfeed))).1.getD 0), ((chunkWrite 0 0 0x100000000000000 (spadBytes (updFeed 0 0 (fun x => { x with dir := 1, mem := 0x100000000000000 }) dfeed) 0 0 64) (spadTouch 0 0 (updFeed 0 0 (fun x => { x with dir := 1, mem := 0x100000000000000 }) dfeed)))).2, by decide +kernel⟩,
   ⟨0, 0, .none, st (updFeed 0 0 (fun x => { x with off := 0x800000 }) dfeed), by decide +kernel⟩,
   ⟨0, 0, .none, st { dfeed with poison := [(64, true)] }, 0, (((btuLookup 0 0 0x1000 false (spadTouch 0 0 { dfeed with poison := [(64, true)] }))).1.toOption.getD (dfe 0)), ((btuLookup 0 0 0x1000 false (spadTouch 0 0 { dfeed with poison := [(64, true)] }))).2, by decide +kernel⟩⟩

theorem witness_ScratchpadAndSupply :
    (∃ (h : HartN) (b : BenchN) (f : FnN) (off : ℕ) (size : ℕ) (data : ℕ) (err : MemErr) (s : State) (a : ℕ),
       fnExists s.dev ↑b ↑f = true ∧
        (size = 1 ∨ size = 2 ∨ size = 4 ∨ size = 8) ∧
         off % size = 0 ∧ hartServed s.dev ↑b ↑f ↑h = true ∧ segAddr s.dev (↑b) (↑f) off = some a ∧ err = MemErr.none) ∧
    (∃ (h : HartN) (b : BenchN) (f : FnN) (off : ℕ) (size : ℕ) (data : ℕ) (err : MemErr) (s : State) (a : ℕ),
       fnExists s.dev ↑b ↑f = true ∧
        (size = 1 ∨ size = 2 ∨ size = 4 ∨ size = 8) ∧
         off % size = 0 ∧ hartServed s.dev ↑b ↑f ↑h = true ∧ segAddr s.dev (↑b) (↑f) off = some a ∧ err = MemErr.corrected) ∧
    (∃ (h : HartN) (b : BenchN) (f : FnN) (off : ℕ) (size : ℕ) (data : ℕ) (err : MemErr) (s : State) (a : ℕ),
       fnExists s.dev ↑b ↑f = true ∧
        (size = 1 ∨ size = 2 ∨ size = 4 ∨ size = 8) ∧
         off % size = 0 ∧ hartServed s.dev ↑b ↑f ↑h = true ∧ segAddr s.dev (↑b) (↑f) off = some a ∧ (err = MemErr.uncorrectable ∨ err = MemErr.badMeta)) ∧
    (∃ (h : HartN) (b : BenchN) (f : FnN) (off : ℕ) (size : ℕ) (data : ℕ) (err : MemErr) (s : State) (a : ℕ),
       fnExists s.dev ↑b ↑f = true ∧
        (size = 1 ∨ size = 2 ∨ size = 4 ∨ size = 8) ∧ off % size = 0 ∧ hartServed s.dev ↑b ↑f ↑h = true ∧ segAddr s.dev (↑b) (↑f) off = some a) ∧
    (∃ (h : HartN) (b : BenchN) (f : FnN) (off : ℕ) (size : ℕ) (data : ℕ) (err : MemErr) (s : State),
       fnExists s.dev ↑b ↑f = true ∧
        (size = 1 ∨ size = 2 ∨ size = 4 ∨ size = 8) ∧ off % size = 0 ∧ hartServed s.dev ↑b ↑f ↑h = true ∧ segAddr s.dev (↑b) (↑f) off = none) ∧
    (∃ (h : HartN) (b : BenchN) (c : RingN) (v : ℕ) (s : State),
       BarServed s.dev (↑b) 0 ↑h ∧ v < 65536 ∧ v ≤ 256 ∧ chanOwnerOf s.dev ↑b ↑c ≠ v ∧ (feedOf s.dev ↑b ↑c).state ≠ 1 ∧ (feedOf s.dev ↑b ↑c).state ≠ 4) ∧
    (∃ (h : HartN) (b : BenchN) (c : RingN) (v : ℕ) (s : State),
       BarServed s.dev (↑b) 0 ↑h ∧ v < 65536 ∧ (256 < v ∨ chanOwnerOf s.dev ↑b ↑c = v ∨ (feedOf s.dev ↑b ↑c).state = 1 ∨ (feedOf s.dev ↑b ↑c).state = 4)) ∧
    (∃ (b : BenchN) (s : State), (benchOf s.dev ↑b).supply = false) ∧
    (∃ (h : HartN) (b : BenchN) (f : FnN) (off : ℕ) (size : ℕ) (data : ℕ) (err : MemErr) (s : State),
       fnExists s.dev ↑b ↑f = true ∧ (size = 1 ∨ size = 2 ∨ size = 4 ∨ size = 8) ∧ off % size = 0 ∧ hartServed s.dev ↑b ↑f ↑h = false) ∧
    (∃ (h : HartN) (b : BenchN) (g : Fin 124) (v : ℕ) (s : State),
       BarServed s.dev (↑b) 0 ↑h ∧ v < 65536 ∧ (v ≤ 256 ∨ v = 65535) ∧ tabGet 0 (benchOf s.dev ↑b).granOwner ↑g ≠ v) ∧
    (∃ (h : HartN) (b : BenchN) (g : Fin 124) (v : ℕ) (s : State),
       BarServed s.dev (↑b) 0 ↑h ∧ v < 65536 ∧ (¬(v ≤ 256 ∨ v = 65535) ∨ tabGet 0 (benchOf s.dev ↑b).granOwner ↑g = v)) ∧
    (∃ (b : BenchN) (s : State), (benchOf s.dev ↑b).supply = false) ∧
    (∃ (b : BenchN) (s : State), (benchOf s.dev ↑b).supply = true) ∧
    (∃ (b : BenchN) (g : Fin 124) (s : State), ↑g ∈ (benchOf s.dev ↑b).zeroing) ∧
    (∃ (b : BenchN) (g : Fin 124) (s : State), ↑g ∉ (benchOf s.dev ↑b).zeroing) :=
  ⟨⟨0, 3, 0, 8126456, 8, 0xFFFFFFFFFFFFFFFF, .none, st { d0 with spad := [(0x1fbfff8, 4)] }, 8126456, by decide +kernel⟩,
   ⟨0, 3, 0, 8126456, 4, 0xFFFFFFFFFFFFFFFF, .corrected, st { d0 with spad := [(0x1fbfff8, 4)] }, 8126456, by decide +kernel⟩,
   ⟨0, 3, 0, 65538, 2, 0xFFFFFFFFFFFFFFFF, .uncorrectable, st { d0 with spad := [(0x1810002, 4)] }, 65538, by decide +kernel⟩,
   ⟨0, 3, 0, 8126463, 1, 0xFFFFFFFFFFFFFFFF, .none, st { d0 with spad := [(0x1fbffff, 4)] }, 8126463, by decide +kernel⟩,
   ⟨0, 3, 0, 0x7C0000, 1, 0xFF, .none, st d0, by decide +kernel⟩,
   ⟨0, 3, 15, 256, st d0, by decide +kernel⟩,
   ⟨0, 3, 15, 257, st d0, by decide +kernel⟩,
   ⟨3, st (updBench d0 3 (fun x => { x with supply := false })), by decide +kernel⟩,
   ⟨0, 0, 0, 0x7BFFF8, 8, 1, .none, st (updFn 0 0 (fun x => { x with bindClass := 3, bindId := 5 }) d0), by decide +kernel⟩,
   ⟨0, 0, 123, 0xFFFF, st d0, by decide +kernel⟩,
   ⟨0, 0, 123, 257, st d0, by decide +kernel⟩,
   ⟨3, st (updBench d0 3 (fun x => { x with supply := false })), by decide +kernel⟩,
   ⟨3, st d0, by decide +kernel⟩,
   ⟨3, 123, st (updBench d0 3 (fun x => { x with zeroing := [5, 123, 123] })), by decide +kernel⟩,
   ⟨3, 123, st d0, by decide +kernel⟩⟩

theorem witness_QuiesceAndBinding :
    (∃ (h : HartN) (b : BenchN) (f : FnN) (ctl : ℕ) (s : State), BarServed s.dev (↑b) 0 ↑h ∧ (fnOf s.dev ↑b ↑f).qstate = 0) ∧
    (∃ (h : HartN) (b : BenchN) (f : FnN) (ctl : ℕ) (s : State),
       BarServed s.dev (↑b) 0 ↑h ∧
        (fnOf s.dev ↑b ↑f).qstate = 2 ∧
         anyRingEnabled s.dev (↑b) (↑f) 0 = false ∧
          getBits ctl 16 2 < 2 ∧ (getBits ctl 16 2 ≠ (fnOf s.dev ↑b ↑f).bindClass ∨ (fnOf s.dev ↑b ↑f).bindId ≠ 0)) ∧
    (∃ (h : HartN) (b : BenchN) (f : FnN) (ctl : ℕ) (s : State),
       BarServed s.dev (↑b) 0 ↑h ∧
        (fnOf s.dev ↑b ↑f).qstate = 2 ∧
         anyRingEnabled s.dev (↑b) (↑f) 0 = false ∧
          2 ≤ getBits ctl 16 2 ∧
          (getBits ctl 16 2 ≠ (fnOf s.dev ↑b ↑f).bindClass ∨ (if getBits ctl 16 2 = 3 then getBits ctl 20 12 else 0) ≠ (fnOf s.dev ↑b ↑f).bindId) ∧
          ↑f ≠ 0) ∧
    (∃ (h : HartN) (b : BenchN) (f : FnN) (s : State),
       fnExists s.dev ↑b ↑f = true ∧
        ((fnOf s.dev ↑b ↑f).bindPending = false ∨
         (if (fnOf s.dev ↑b ↑f).bindClassReq = 2 then getBit (tworldOf s.dev (hartOf s.dev ↑h)) 15
          else
          (fnOf s.dev ↑b ↑f).bindClassReq == 3 && getBits (tworldOf s.dev (hartOf s.dev ↑h)) 0 12 == (fnOf s.dev ↑b ↑f).bindIdReq &&
          (fnOf s.dev ↑b ↑f).bindIdReq != 0) =
          false)) ∧
    (∃ (h : HartN) (b : BenchN) (f : FnN) (s : State),
       fnExists s.dev ↑b ↑f = true ∧
        (fnOf s.dev ↑b ↑f).bindPending = true ∧
         (if (fnOf s.dev ↑b ↑f).bindClassReq = 2 then getBit (tworldOf s.dev (hartOf s.dev ↑h)) 15
          else
          (fnOf s.dev ↑b ↑f).bindClassReq == 3 && getBits (tworldOf s.dev (hartOf s.dev ↑h)) 0 12 == (fnOf s.dev ↑b ↑f).bindIdReq &&
          (fnOf s.dev ↑b ↑f).bindIdReq != 0) =
          true) ∧
    (∃ (b : BenchN) (f : FnN) (s : State), (fnOf s.dev ↑b ↑f).qstate = 1 ∧ fnBusy s.dev ↑b ↑f = false ∧ (fnOf s.dev ↑b ↑f).flrHeld = false) ∧
    (∃ (b : BenchN) (f : FnN) (s : State), (fnOf s.dev ↑b ↑f).qstate = 1 ∧ fnBusy s.dev ↑b ↑f = false ∧ (fnOf s.dev ↑b ↑f).flrHeld = true) ∧
    (∃ (b : BenchN) (f : FnN) (s : State), fnExists s.dev ↑b ↑f = true) ∧
    (∃ (b : BenchN) (f : FnN) (s : State), fnExists s.dev ↑b ↑f = false) ∧
    (∃ (h : HartN) (b : BenchN) (f : FnN) (ctl : ℕ) (s : State), BarServed s.dev (↑b) 0 ↑h ∧ (fnOf s.dev ↑b ↑f).qstate = 0) ∧
    (∃ (h : HartN) (b : BenchN) (f : FnN) (ctl : ℕ) (s : State), BarServed s.dev (↑b) 0 ↑h) ∧
    (∃ (b : BenchN) (f : FnN) (s : State), (fnOf s.dev ↑b ↑f).qstate ≠ 1 ∨ fnBusy s.dev ↑b ↑f = true) ∧
    (∃ (h : HartN) (b : BenchN) (f : FnN) (ctl : ℕ) (s : State), BarServed s.dev (↑b) 0 ↑h ∧ (fnOf s.dev ↑b ↑f).qstate = 2) ∧
    (∃ (h : HartN) (b : BenchN) (f : FnN) (ctl : ℕ) (s : State), BarServed s.dev (↑b) 0 ↑h) ∧
    (∃ (h : HartN) (b : BenchN) (f : FnN) (ctl : ℕ) (s : State), BarServed s.dev (↑b) 0 ↑h ∧ (fnOf s.dev ↑b ↑f).qstate = 1 ∧ (fnOf s.dev ↑b ↑f).quiesce = 2) :=
  ⟨⟨0, 0, 0, 0xFFFFFFFF, st (dj (jHash 0)), by decide +kernel⟩,
   ⟨0, 0, 256, 0x10000, st (updFn 0 256 (fun x => { x with qstate := 2 }) (updBench d0 0 (fun x => { x with vfs := 256 }))), by decide +kernel⟩,
   ⟨0, 0, 256, 0x20000, st (updFn 0 256 (fun x => { x with qstate := 2 }) (updBench d0 0 (fun x => { x with vfs := 256 }))), by decide +kernel⟩,
   ⟨0, 0, 0, st d0, by decide +kernel⟩,
   ⟨0, 0, 0, st (updFn 0 0 (fun x => { x with bindPending := true, bindClassReq := 2 }) { dsec with spad := [(5, 5)] }), by decide +kernel⟩,
   ⟨3, 256, st (updFn 3 256 (fun x => { x with qstate := 1 }) d0), by decide +kernel⟩,
   ⟨3, 256, st (updFn 3 256 (fun x => { x with qstate := 1, flrHeld := true }) d0), by decide +kernel⟩,
   ⟨0, 256, st (updBench d0 0 (fun x => { x with vfs := 256 })), by decide +kernel⟩,
   ⟨0, 256, st d0, by decide +kernel⟩,
   ⟨0, 0, 256, 0xFFFFFFFF, st (updFn 0 256 (fun x => { x with qstate := 0 }) (updBench d0 0 (fun x => { x with vfs := 256 }))), by decide +kernel⟩,
   ⟨0, 0, 256, 0xFFFFFFFF, st (updFn 0 256 (fun x => { x with overflow := true }) (updBench d0 0 (fun x => { x with vfs := 256 }))), by decide +kernel⟩,
   ⟨3, 256, st d0, by decide +kernel⟩,
   ⟨0, 0, 256, 0xFFFFFFFF, st (updFn 0 256 (fun x => { x with qstate := 2, quiesce := 1 }) (updBench d0 0 (fun x => { x with vfs := 256 }))), by decide +kernel⟩,
   ⟨0, 0, 256, 0xFFFFFFFF, st d0, by decide +kernel⟩,
   ⟨0, 0, 256, 0xFFFFFFFF, st (updFn 0 256 (fun x => { x with qstate := 1, quiesce := 2 }) (updBench d0 0 (fun x => { x with vfs := 256 }))), by decide +kernel⟩⟩

theorem witness_FunctionResets :
    (∃ (b : BenchN) (f : FnN) (s : State), ↑f = 0 ∨ fnExists s.dev ↑b ↑f = false ∨ (fnOf s.dev ↑b ↑f).flrHeld = true) ∧
    (∃ (b : BenchN) (f : FnN) (s : State), ↑f ≠ 0 ∧ fnExists s.dev ↑b ↑f = true ∧ (fnOf s.dev ↑b ↑f).flrHeld = false ∧ fnBusy s.dev ↑b ↑f = true) ∧
    (∃ (b : BenchN) (f : FnN) (s : State), ↑f ≠ 0 ∧ fnExists s.dev ↑b ↑f = true ∧ (fnOf s.dev ↑b ↑f).flrHeld = false ∧ fnBusy s.dev ↑b ↑f = false) ∧
    (∃ (h : HartN) (b : BenchN) (f : FnN) (s : State), BarServed s.dev (↑b) 0 ↑h ∧ (benchOf s.dev ↑b).invalBusy = false) ∧
    (∃ (h : HartN) (b : BenchN) (f : FnN) (s : State) (i : Instr),
       BarServed s.dev (↑b) 0 ↑h ∧
        (benchOf s.dev ↑b).invalBusy = true ∧ i ∈ [Instr.btuInvalAll h b, Instr.btuInvalFunction h b f, Instr.btuInvalPage h b f]) ∧
    (∃ (b : BenchN) (s : State), (benchOf s.dev ↑b).invalBusy = true) ∧
    (∃ (b : BenchN) (s : State), (benchOf s.dev ↑b).invalBusy = false) ∧
    (∃ (b : BenchN) (ok : Bool) (s : State) (v : ℕ),
       (benchOf s.dev ↑b).newVersion = some v ∧
        ¬((benchOf s.dev ↑b).state = 3 ∧ ((benchOf s.dev ↑b).jobs.any fun (j : Job) => j.started) = true) ∧ ok = false) ∧
    (∃ (b : BenchN) (ok : Bool) (s : State),
       (benchOf s.dev ↑b).newVersion = none ∨ (benchOf s.dev ↑b).state = 3 ∧ ((benchOf s.dev ↑b).jobs.any fun (j : Job) => j.started) = true) ∧
    (∃ (b : BenchN) (ok : Bool) (s : State) (v : ℕ),
       (benchOf s.dev ↑b).newVersion = some v ∧
        ¬((benchOf s.dev ↑b).state = 3 ∧ ((benchOf s.dev ↑b).jobs.any fun (j : Job) => j.started) = true) ∧ ok = true) ∧
    (∃ (b : BenchN) (f : FnN) (s : State), (fnOf s.dev ↑b ↑f).flrHeld = false ∨ (fnOf s.dev ↑b ↑f).qstate = 2) ∧
    (∃ (b : BenchN) (f : FnN) (s : State), (fnOf s.dev ↑b ↑f).flrHeld = true ∧ (fnOf s.dev ↑b ↑f).qstate ≠ 2) :=
  ⟨⟨3, 256, st d0, by decide +kernel⟩,
   ⟨0, 1, st (updBench (dj { jHash 0 with fn := 1 }) 0 (fun x => { x with vfs := 1 })), by decide +kernel⟩,
   ⟨0, 256, st (updFn 0 256 (fun x => { x with bindClass := 1 }) (updBench d0 0 (fun x => { x with vfs := 256 }))), by decide +kernel⟩,
   ⟨0, 3, 256, st (updBench d0 3 (fun x => { x with btu := [dfe 0x1000, { dfe 0x1000 with fn := 256 }], invalIova := 0x1FFF })), by decide +kernel⟩,
   ⟨0, 3, 256, st (updBench d0 3 (fun x => { x with invalBusy := true })), (.btuInvalFunction 0 3 256), by decide +kernel, by decide +kernel, (by first | (simp; decide +kernel) | exact ⟨rfl, rfl, rfl, rfl, rfl, rfl, by decide +kernel, all_some rfl rfl⟩ | simp)⟩,
   ⟨3, st (updBench d0 3 (fun x => { x with invalBusy := true })), by decide +kernel⟩,
   ⟨3, st d0, by decide +kernel⟩,
   ⟨3, false, st (updBench d0 3 (fun x => { x with newVersion := some 9, state := 3 })), 9, by decide +kernel⟩,
   ⟨3, true, st d0, by decide +kernel⟩,
   ⟨3, true, st (updBench d0 3 (fun x => { x with newVersion := some 9, state := 3 })), 9, by decide +kernel⟩,
   ⟨3, 256, st d0, by decide +kernel⟩,
   ⟨0, 1, st (updFn 0 1 (fun x => { x with flrHeld := true }) (updBench (dj { jHash 0 with fn := 1 }) 0 (fun x => { x with vfs := 1 }))), by decide +kernel⟩⟩

theorem witness_LedgerAndHeat :
    (∃ (b : BenchN) (s : State),
       (acctOf s.dev (216 + ↑b)).isOver = false ∧
        s.dev.kerf.step1 = none ∧ (acctOf s.dev (216 + ↑b)).grant * 1000 + (acctOf s.dev (216 + ↑b)).drawn ≤ (acctOf s.dev (216 + ↑b)).spend) ∧
    (∃ (b : BenchN) (s : State),
       (acctOf s.dev (216 + ↑b)).spend < (acctOf s.dev (216 + ↑b)).grant * 1000 + (acctOf s.dev (216 + ↑b)).drawn ∨
        (acctOf s.dev (216 + ↑b)).isOver = true ∨ s.dev.kerf.step1.isSome = true) ∧
    (∃ (temp : ℕ) (s : State), temp < 105) ∧
    (∃ (temp : ℕ) (s : State), temp ≤ 100 ∧ s.dev.ledger.throttle = true) ∧
    (∃ (h : HartN) (s : State),
       (acctOf s.dev ↑h).spend < (acctOf s.dev ↑h).grant * 1000 ∨
        (acctOf s.dev ↑h).isOver = true ∨ acctInactive s.dev ↑h = true ∨ s.dev.kerf.step1.isSome = true) ∧
    (∃ (h : HartN) (s : State),
       acctInactive s.dev ↑h = false ∧
        (acctOf s.dev ↑h).isOver = false ∧ s.dev.kerf.step1 = none ∧ (acctOf s.dev ↑h).grant * 1000 ≤ (acctOf s.dev ↑h).spend) ∧
    (∃ (temp : ℕ) (s : State), 100 < temp) :=
  ⟨⟨3, st (updAcct d0 219 (fun x => { x with grant := 1, spend := 1005, drawn := 5 })), by decide +kernel⟩,
   ⟨3, st (updAcct d0 219 (fun x => { x with grant := 1, spend := 1004, drawn := 5 })), by decide +kernel⟩,
   ⟨104, st d0, by decide +kernel⟩,
   ⟨100, st { d0 with ledger := { d0.ledger with throttle := true, hot := true } }, by decide +kernel⟩,
   ⟨215, st (updAcct d0 215 (fun x => { x with grant := 1, spend := 999 })), by decide +kernel⟩,
   ⟨0, st (updAcct d0 0 (fun x => { x with grant := 1, spend := 1000 })), by decide +kernel⟩,
   ⟨101, st d0, by decide +kernel⟩⟩

theorem witness_StandbyTakesRecords :
    (∃ (epoch : ℕ) (line : ℕ) (poison : Bool) (data : Line) (s : State), s.dev.mirror.role = 2 ∧ s.dev.mirror.phase = 1) ∧
    (∃ (epoch : ℕ) (line : ℕ) (poison : Bool) (data : Line) (s : State), ¬(s.dev.mirror.role = 2 ∧ s.dev.mirror.phase = 1)) ∧
    (∃ (idx : ℕ) (sub : ℕ) (total : ℕ) (off : ℕ) (v : List Byte) (s : State),
       v.length ≤ 200 ∧
        standbyTakes s.dev = true ∧
         logRoom s.dev (entryRec idx sub total off v).length = true ∧
          (s.dev.mirror.pendSeal = none ∨
          ∃ (p : List Byte),
          s.dev.mirror.pendSeal = some p ∧
          sealReady
          (updMirror s.dev fun (x : MirrorSt) =>
          { x with log := x.log ++ [(16, entryRec idx sub total off v)] })
          p =
          false)) ∧
    (∃ (idx : ℕ) (sub : ℕ) (total : ℕ) (off : ℕ) (v : List Byte) (s : State),
       v.length ≤ 200 ∧ (standbyTakes s.dev = false ∨ logRoom s.dev (entryRec idx sub total off v).length = false)) ∧
    (∃ (idx : ℕ) (sub : ℕ) (total : ℕ) (off : ℕ) (v : List Byte) (s : State) (p : List Byte),
       v.length ≤ 200 ∧
        standbyTakes s.dev = true ∧
         logRoom s.dev (entryRec idx sub total off v).length = true ∧
          s.dev.mirror.pendSeal = some p ∧
          sealReady
          (updMirror s.dev fun (x : MirrorSt) =>
          { x with log := x.log ++ [(16, entryRec idx sub total off v)] })
          p =
          true) ∧
    (∃ (kerf : ℕ) (time : ℕ) (s : State), s.dev.mirror.role = 2 ∧ s.dev.mirror.phase ≠ 1) ∧
    (∃ (kerf : ℕ) (time : ℕ) (s : State), s.dev.mirror.role = 2 ∧ s.dev.mirror.phase = 1) ∧
    (∃ (kerf : ℕ) (time : ℕ) (s : State), s.dev.mirror.role ≠ 2) ∧
    (∃ (b : BenchN) (gen : ℕ) (key : List Byte) (s : State), s.dev.mirror.role = 2) ∧
    (∃ (b : BenchN) (gen : ℕ) (key : List Byte) (s : State), s.dev.mirror.role ≠ 2) ∧
    (∃ (epoch : ℕ) (line : ℕ) (poison : Bool) (data : Line) (s : State),
       standbyTakes s.dev = true ∧
        logRoom s.dev 72 = true ∧
         (s.dev.mirror.pendSeal = none ∨
          ∃ (p : List Byte),
          s.dev.mirror.pendSeal = some p ∧
          sealReady
          (updMirror (if s.dev.mirror.phase = 1 then placeLine (lineRecBytes 1 epoch line data poison) s.dev else s.dev) fun (x : MirrorSt) =>
          { x with log := x.log ++ [(homeSlice s.dev (line * 64), lineRecBytes 1 epoch line data poison)] })
          p =
          false)) ∧
    (∃ (epoch : ℕ) (line : ℕ) (poison : Bool) (data : Line) (s : State) (p : List Byte),
       standbyTakes s.dev = true ∧
        logRoom s.dev 72 = true ∧
         s.dev.mirror.pendSeal = some p ∧
          sealReady
          (updMirror (if s.dev.mirror.phase = 1 then placeLine (lineRecBytes 1 epoch line data poison) s.dev else s.dev) fun (x : MirrorSt) =>
          { x with log := x.log ++ [(homeSlice s.dev (line * 64), lineRecBytes 1 epoch line data poison)] })
          p =
          true) ∧
    (∃ (epoch : ℕ) (line : ℕ) (poison : Bool) (data : Line) (s : State), standbyTakes s.dev = false ∨ logRoom s.dev 72 = false) ∧
    (∃ (rp : ℕ) (kind : ℕ) (oseq : ℕ) (addr : ℕ) (data : List Byte) (s : State),
       data.length ≤ 192 ∧
        standbyTakes s.dev = true ∧
         logRoom s.dev (outputRec { oseq := oseq, rp := rp, kind := kind, addr := addr, data := data, kerf := 0 }).length = true ∧
          (s.dev.mirror.pendSeal = none ∨
          ∃ (p : List Byte),
          s.dev.mirror.pendSeal = some p ∧
          sealReady
          (updMirror s.dev fun (x : MirrorSt) =>
          { x with log := x.log ++ [(16, outputRec { oseq := oseq, rp := rp, kind := kind, addr := addr, data := data, kerf := 0 })] })
          p =
          false)) ∧
    (∃ (rp : ℕ) (kind : ℕ) (oseq : ℕ) (addr : ℕ) (data : List Byte) (s : State),
       data.length ≤ 192 ∧
        standbyTakes s.dev = true ∧
         logRoom s.dev (outputRec { oseq := oseq, rp := rp, kind := kind, addr := addr, data := data, kerf := 0 }).length = true ∧
          (s.dev.mirror.pendSeal = none ∨
          ∃ (p : List Byte),
          s.dev.mirror.pendSeal = some p ∧
          sealReady
          (updMirror s.dev fun (x : MirrorSt) =>
          { x with log := x.log ++ [(16, outputRec { oseq := oseq, rp := rp, kind := kind, addr := addr, data := data, kerf := 0 })] })
          p =
          false)) ∧
    (∃ (rp : ℕ) (kind : ℕ) (oseq : ℕ) (addr : ℕ) (data : List Byte) (s : State),
       data.length ≤ 192 ∧
        (standbyTakes s.dev = false ∨
         logRoom s.dev (outputRec { oseq := oseq, rp := rp, kind := kind, addr := addr, data := data, kerf := 0 }).length = false)) ∧
    (∃ (rp : ℕ) (kind : ℕ) (oseq : ℕ) (addr : ℕ) (data : List Byte) (s : State) (p : List Byte),
       data.length ≤ 192 ∧
        standbyTakes s.dev = true ∧
         logRoom s.dev (outputRec { oseq := oseq, rp := rp, kind := kind, addr := addr, data := data, kerf := 0 }).length = true ∧
          s.dev.mirror.pendSeal = some p ∧
          sealReady
          (updMirror s.dev fun (x : MirrorSt) =>
          { x with log := x.log ++ [(16, outputRec { oseq := oseq, rp := rp, kind := kind, addr := addr, data := data, kerf := 0 })] })
          p =
          true) ∧
    (∃ (kerf : ℕ) (counts : List ℕ) (outs : ℕ) (digest : List Byte) (offline : List HartN) (s : State),
       standbyTakes s.dev = true ∧
        kerf < 2 ^ 64 ∧
         outs < 2 ^ 32 ∧
          digest.length = 64 ∧
          (∀ (k : ℕ), counts.getD k 0 < 2 ^ 32) ∧
          ((∀ k < 16, counts.getD k 0 ≤ (epochLines s.dev kerf k).length) ∧ outs ≤ (logOuts s.dev).length) ∧
          sealDigest kerf (fun (k : ℕ) => List.take (counts.getD k 0) (epochLines s.dev kerf k)) (List.take outs (logOuts s.dev)) ≠ digest) ∧
    (∃ (kerf : ℕ) (counts : List ℕ) (outs : ℕ) (digest : List Byte) (offline : List HartN) (s : State),
       standbyTakes s.dev = true ∧
        kerf < 2 ^ 64 ∧
         outs < 2 ^ 32 ∧
          digest.length = 64 ∧
          (∀ (k : ℕ), counts.getD k 0 < 2 ^ 32) ∧
          ((∀ k < 16, counts.getD k 0 ≤ (epochLines s.dev kerf k).length) ∧ outs ≤ (logOuts s.dev).length) ∧
          sealDigest kerf (fun (k : ℕ) => List.take (counts.getD k 0) (epochLines s.dev kerf k)) (List.take outs (logOuts s.dev)) = digest) ∧
    (∃ (kerf : ℕ) (counts : List ℕ) (outs : ℕ) (digest : List Byte) (offline : List HartN) (s : State), standbyTakes s.dev = false) ∧
    (∃ (kerf : ℕ) (counts : List ℕ) (outs : ℕ) (digest : List Byte) (offline : List HartN) (s : State),
       standbyTakes s.dev = true ∧
        kerf < 2 ^ 64 ∧
         outs < 2 ^ 32 ∧
          digest.length = 64 ∧
          (∀ (k : ℕ), counts.getD k 0 < 2 ^ 32) ∧ ¬((∀ k < 16, counts.getD k 0 ≤ (epochLines s.dev kerf k).length) ∧ outs ≤ (logOuts s.dev).length)) :=
  ⟨⟨5, 1, true, 7, st (dlog 2 1), by decide +kernel⟩,
   ⟨5, 1, true, 7, st (dlog 2 2), by decide +kernel⟩,
   ⟨0x3000, 2, 8, 0, List.replicate 8 1, st (dlog 2 2), by decide +kernel⟩,
   ⟨0x3000, 2, 8, 0, List.replicate 8 1, st d0, by decide +kernel⟩,
   ⟨0x3000, 2, 8, 0, List.replicate 8 1, st (sealArrives 6 ([]) 1 (List.replicate 64 0) [3] (dlog 2 2)), ((sealArrives 6 ([]) 1 (List.replicate 64 0) [3] (dlog 2 2)).mirror.pendSeal.getD []), by decide +kernel⟩,
   ⟨5, 77, st (dlog 2 2), by decide +kernel⟩,
   ⟨9, 77, st ({ dlog 2 1 with mirror := { (dlog 2 1).mirror with log := [(homeSlice d0 64, lineRecBytes 1 5 1 7 false), (16, outputRec ⟨9, 3, 1, 0x1000, [1, 2], 0⟩), (16, entryRec 0x3000 2 8 0 [1])] } }), by decide +kernel⟩,
   ⟨5, 77, st (dlog 1 2), by decide +kernel⟩,
   ⟨3, 9, List.replicate 32 7, st (dlog 2 1), by decide +kernel⟩,
   ⟨3, 9, List.replicate 32 7, st (dlog 1 1), by decide +kernel⟩,
   ⟨5, 1, false, 7, st (dlog 2 2), by decide +kernel⟩,
   ⟨5, 1, false, 7, st (sealArrives 6 (((List.range 16).map (fun k => if k = homeSlice d0 64 then 1 else 0))) 0 (List.replicate 64 0) [3] (dlog 2 2)), ((sealArrives 6 (((List.range 16).map (fun k => if k = homeSlice d0 64 then 1 else 0))) 0 (List.replicate 64 0) [3] (dlog 2 2)).mirror.pendSeal.getD []), by decide +kernel⟩,
   ⟨5, 1, false, 7, st (dlog 1 2), by decide +kernel⟩,
   ⟨3, 1, 9, 0x1000, [1, 2, 3], st (dlog 2 2), by decide +kernel⟩,
   ⟨3, 1, 9, 0x1000, List.replicate 192 7, st (dlog 2 3), by decide +kernel⟩,
   ⟨3, 1, 9, 0x1000, [1, 2, 3], st (dlog 2 4), by decide +kernel⟩,
   ⟨3, 1, 9, 0x1000, [1, 2, 3], st (sealArrives 6 ([]) 1 (List.replicate 64 0) [3] (dlog 2 2)), ((sealArrives 6 ([]) 1 (List.replicate 64 0) [3] (dlog 2 2)).mirror.pendSeal.getD []), by decide +kernel⟩,
   (let ⟨y, hl, hn⟩ := other_of (sealDigest 6 (fun k => (epochLines (dlog 2 2) 6 k).take (([] : List Nat).getD k 0)) ((logOuts (dlog 2 2)).take 0))
    ⟨6, [], 0, y, [3], st (dlog 2 2), by decide +kernel, by decide +kernel, by decide +kernel, hl, (fun k => by simp), ⟨fun k _ => (by first | (simp; decide +kernel) | exact ⟨rfl, rfl, rfl, rfl, rfl, rfl, by decide +kernel, all_some rfl rfl⟩ | simp), by decide +kernel⟩, hn⟩),
   ⟨6, [], 0, _, [3], st (dlog 2 2), by decide +kernel, by decide +kernel, by decide +kernel, sha512_length _, (fun k => by simp), ⟨fun k _ => (by first | (simp; decide +kernel) | exact ⟨rfl, rfl, rfl, rfl, rfl, rfl, by decide +kernel, all_some rfl rfl⟩ | simp), by decide +kernel⟩, rfl⟩,
   ⟨5, [], 1, List.replicate 64 0, [], st (dlog 1 2), by decide +kernel⟩,
   ⟨5, [], 1, List.replicate 64 0, [7], st (dlog 2 2), by decide +kernel, by decide +kernel, by decide +kernel, by decide +kernel, (by first | decide +kernel | exact all_some rfl (by decide +kernel) | simp), (by first | (simp; decide +kernel) | exact ⟨rfl, rfl, rfl, rfl, rfl, rfl, by decide +kernel, all_some rfl rfl⟩ | simp)⟩⟩

theorem witness_SealsHeartbeatsAndLoss :
    (∃ (k : ℕ) (s : State), s.dev.mirror.role = 1 ∧ k ∈ s.dev.mirror.unacked ∧ s.dev.mirror.phase ≠ 1 ∧ s.dev.mirror.phase ≠ 2) ∧
    (∃ (k : ℕ) (s : State), ¬(s.dev.mirror.role = 1 ∧ k ∈ s.dev.mirror.unacked)) ∧
    (∃ (k : ℕ) (s : State),
       s.dev.mirror.role = 1 ∧
        k ∈ s.dev.mirror.unacked ∧
         (s.dev.mirror.phase = 1 ∨ s.dev.mirror.phase = 2) ∧ s.dev.obs.ceFailover = false ∧ s.dev.mirror.stalled = [] ∧ s.dev.mirror.waitReads = []) ∧
    (∃ (role : ℕ) (phase : ℕ) (kerf : ℕ) (lastAck : ℕ) (released : ℕ) (time : ℕ) (s : State), s.dev.mirror.role ≠ 0 ∧ 2 ≤ s.dev.mirror.phase) ∧
    (∃ (role : ℕ) (phase : ℕ) (kerf : ℕ) (lastAck : ℕ) (released : ℕ) (time : ℕ) (s : State), s.dev.mirror.role ≠ 0 ∧ s.dev.mirror.phase = 1) ∧
    (∃ (role : ℕ) (phase : ℕ) (kerf : ℕ) (lastAck : ℕ) (released : ℕ) (time : ℕ) (s : State), s.dev.mirror.role = 0) ∧
    (∃ (role : ℕ) (phase : ℕ) (kerf : ℕ) (lastAck : ℕ) (released : ℕ) (time : ℕ) (s : State),
       s.dev.mirror.role ≠ 0 ∧ s.dev.mirror.phase = 0 ∧ ¬(s.dev.mirror.role = 1 ∧ role = 2 ∧ phase = 1)) ∧
    (∃ (s : State), s.dev.mirror.phase = 3 ∨ s.dev.mirror.phase = 4) ∧
    (∃ (s : State), s.dev.mirror.phase ≠ 3 ∧ s.dev.mirror.phase ≠ 4) ∧
    (∃ (cause : ℕ) (kerf : ℕ) (s : State), s.dev.mirror.role ≠ 0 ∧ 1 ≤ s.dev.mirror.phase ∧ s.dev.mirror.phase ≠ 6 ∧ s.dev.mirror.phase ≠ 8) ∧
    (∃ (cause : ℕ) (kerf : ℕ) (s : State), ¬(s.dev.mirror.role ≠ 0 ∧ 1 ≤ s.dev.mirror.phase ∧ s.dev.mirror.phase ≠ 6 ∧ s.dev.mirror.phase ≠ 8)) ∧
    (∃ (k : ℕ) (s : State), s.dev.mirror.role = 1 ∧ k ∈ s.dev.mirror.unacked) ∧
    (∃ (line : ℕ) (s : State), s.dev.mirror.role = 1) ∧
    (∃ (line : ℕ) (s : State), s.dev.mirror.role ≠ 1) ∧
    (∃ (s : State), s.dev.mirror.role ≠ 0 ∧ (s.dev.mirror.phase = 3 ∨ s.dev.mirror.phase = 7)) ∧
    (∃ (s : State), ¬(s.dev.mirror.role ≠ 0 ∧ (s.dev.mirror.phase = 3 ∨ s.dev.mirror.phase = 7))) ∧
    (∃ (s : State), s.dev.mirror.role ≠ 0 ∧ s.dev.mirror.phase ≠ 8) ∧
    (∃ (s : State), s.dev.mirror.role = 0 ∨ s.dev.mirror.phase = 8) ∧
    (∃ (s : State), s.dev.mirror.role ≠ 0 ∧ (s.dev.mirror.phase = 1 ∨ s.dev.mirror.phase = 2)) ∧
    (∃ (s : State), ¬(s.dev.mirror.role ≠ 0 ∧ (s.dev.mirror.phase = 1 ∨ s.dev.mirror.phase = 2))) :=
  ⟨⟨5, st { dlog 1 6 with mirror := { (dlog 1 6).mirror with unacked := [5, 6] } }, by decide +kernel⟩,
   ⟨5, st { dlog 1 2 with mirror := { (dlog 1 2).mirror with unacked := [6] } }, by decide +kernel⟩,
   ⟨5, st { dlog 1 1 with mirror := { (dlog 1 1).mirror with unacked := [5, 6] } }, by decide +kernel⟩,
   ⟨2, 2, 5, 4, 4, 9, st { dlog 2 2 with mirror := { (dlog 2 2).mirror with committedOut := [⟨3, 1, 0, 0x1000, [1], 4⟩, ⟨4, 1, 0, 0x1000, [1], 4⟩] } }, by decide +kernel⟩,
   ⟨2, 1, 5, 4, 3, 9, st (dlog 1 1), by decide +kernel⟩,
   ⟨2, 2, 5, 4, 3, 9, st d0, by decide +kernel⟩,
   ⟨1, 1, 5, 4, 3, 9, st (dlog 1 0), by decide +kernel⟩,
   ⟨st (dlog 1 4), by decide +kernel⟩,
   ⟨st (dlog 1 2), by decide +kernel⟩,
   ⟨3, 5, st { dlog 1 2 with mirror := { (dlog 1 2).mirror with unacked := [4, 5, 6], clamp := [⟨3, 1, 0, 0x80000000000, [1, 2], 4⟩, ⟨4, 1, 0, 0x80000000000, [1], 5⟩] } }, by decide +kernel⟩,
   ⟨3, 5, st (dlog 1 6), by decide +kernel⟩,
   ⟨5, st { dlog 1 2 with mirror := { (dlog 1 2).mirror with unacked := [5, 6] } }, by decide +kernel⟩,
   ⟨5, st (dlog 1 2), by decide +kernel⟩,
   ⟨5, st (dlog 2 2), by decide +kernel⟩,
   ⟨st (dlog 1 3), by decide +kernel⟩,
   ⟨st (dlog 1 2), by decide +kernel⟩,
   ⟨st { dlog 1 2 with mirror := { (dlog 1 2).mirror with w0 := 1, w1 := 3 } }, by decide +kernel⟩,
   ⟨st (dlog 1 8), by decide +kernel⟩,
   ⟨st (dlog 1 2), by decide +kernel⟩,
   ⟨st (dlog 1 3), by decide +kernel⟩⟩

theorem witness_TakeoverService :
    (∃ (x : SegHdr) (q : TakeReq) (s : State), segRuns s.dev = true ∧ hdrOk x 3 = false) ∧
    (∃ (x : SegHdr) (m : ℕ) (a : TakeAns) (s : State), segRuns s.dev = true ∧ hdrOk x 4 = false) ∧
    (Config.stdOk .requestVerify [sn.chain.aliasKey, leBytes 1 0 ++ leBytes 1 1 ++ leBytes 1 2 ++ leBytes 1 0 ++ leBytes 8 9, []] = true →
    ∃ (x : SegHdr) (m : ℕ) (a : TakeAns) (s : State),
       segRuns s.dev = true ∧
        hdrOk x 4 = true ∧
         (∃ (v : SegNode),
          tabGet none s.dev.seg.nodes m = some v ∧
          v.chain.ok = true ∧
          Config.stdOk Config.Std.requestVerify
          [v.chain.aliasKey, leBytes 1 a.pair ++ leBytes 1 a.result ++ leBytes 1 a.winner ++ leBytes 1 a.dest ++ leBytes 8 a.seqEcho, a.sig] =
          true) ∧
          (s.dev.seg.reqSeq = some a.seqEcho ∧ a.dest = nodeId s.dev ∧ a.pair = ent s.dev 24576 4) ∧
          (s.dev.mirror.phase = 3 ∨ s.dev.mirror.phase = 4 ∨ s.dev.mirror.phase = 7) ∧ a.result = 1 ∧ (s.dev.mirror.role = 1 ∨ s.dev.mirror.role = 2)) ∧
    (∃ (x : SegHdr) (q : TakeReq) (s : State), segRuns s.dev = true ∧ hdrOk x 3 = true ∧ segService s.dev = true ∧ takeValid s.dev q = false) ∧
    (∃ (k : Fin 32) (s : State),
       segService s.dev = false ∨
        (takeOf s.dev (↑k + 1)).state ≠ 0 ∨ (takeOf s.dev (↑k + 1)).primaryAsked = true ∨ (takeOf s.dev (↑k + 1)).standbyAsked = none) ∧
    (∃ (x : SegHdr) (q : TakeReq) (s : State), segRuns s.dev = true ∧ hdrOk x 3 = true ∧ segService s.dev = false) ∧
    (Config.stdOk .requestVerify [sn.chain.aliasKey, takeReqBytes (tq 1), (tq 1).sig] = true →
    ∃ (x : SegHdr) (q : TakeReq) (s : State), segRuns s.dev = true ∧ hdrOk x 3 = true ∧ segService s.dev = true ∧ takeValid s.dev q = true) ∧
    (Config.stdOk .requestVerify [sn.chain.aliasKey, leBytes 1 0 ++ leBytes 1 2 ++ leBytes 1 2 ++ leBytes 1 0 ++ leBytes 8 9, []] = true →
    ∃ (x : SegHdr) (m : ℕ) (a : TakeAns) (s : State),
       segRuns s.dev = true ∧
        hdrOk x 4 = true ∧
         (∃ (v : SegNode),
          tabGet none s.dev.seg.nodes m = some v ∧
          v.chain.ok = true ∧
          Config.stdOk Config.Std.requestVerify
          [v.chain.aliasKey, leBytes 1 a.pair ++ leBytes 1 a.result ++ leBytes 1 a.winner ++ leBytes 1 a.dest ++ leBytes 8 a.seqEcho, a.sig] =
          true) ∧
          (s.dev.seg.reqSeq = some a.seqEcho ∧ a.dest = nodeId s.dev ∧ a.pair = ent s.dev 24576 4) ∧
          (s.dev.mirror.phase = 3 ∨ s.dev.mirror.phase = 4 ∨ s.dev.mirror.phase = 7) ∧ a.result = 2) ∧
    (∃ (k : Fin 32) (s : State) (node : ℕ),
       segRuns s.dev = true ∧
        segService s.dev = true ∧
         (takeOf s.dev (↑k + 1)).state = 0 ∧ (takeOf s.dev (↑k + 1)).primaryAsked = false ∧ (takeOf s.dev (↑k + 1)).standbyAsked = some node) ∧
    (∃ (x : SegHdr) (m : ℕ) (a : TakeAns) (s : State),
       segRuns s.dev = true ∧
        hdrOk x 4 = true ∧
         ¬((∃ (v : SegNode),
          tabGet none s.dev.seg.nodes m = some v ∧
          v.chain.ok = true ∧
          Config.stdOk Config.Std.requestVerify
          [v.chain.aliasKey, leBytes 1 a.pair ++ leBytes 1 a.result ++ leBytes 1 a.winner ++ leBytes 1 a.dest ++ leBytes 8 a.seqEcho,
          a.sig] =
          true) ∧
          (s.dev.seg.reqSeq = some a.seqEcho ∧ a.dest = nodeId s.dev ∧ a.pair = ent s.dev 24576 4) ∧
          (s.dev.mirror.phase = 3 ∨ s.dev.mirror.phase = 4 ∨ s.dev.mirror.phase = 7) ∧ (a.result = 1 ∨ a.result = 2))) :=
  ⟨⟨sh 2, tq 1, st (dtake takeoverInit), by decide +kernel⟩,
   ⟨sh 3, 2, ta 1, st (dtake takeoverInit), by decide +kernel⟩,
   fun h => ⟨sh 4, 2, ta 1, st { dtake takeoverInit with mirror := { mirrorInit with role := 1, phase := 3 } },
    by decide +kernel, by decide +kernel, ⟨sn, rfl, rfl, h⟩, by decide +kernel, by decide +kernel, rfl, Or.inl rfl⟩,
   ⟨sh 3, { tq 1 with node := 9 }, st (dtake takeoverInit), by decide +kernel⟩,
   ⟨0, st (dtake takeoverInit), by decide +kernel⟩,
   ⟨sh 3, tq 1, st { dtake takeoverInit with seg := { (dtake takeoverInit).seg with state := 2 } }, by decide +kernel⟩,
   fun h => ⟨sh 3, tq 1, st (dtake takeoverInit), by decide +kernel, by decide +kernel, by decide +kernel, valid_of_check h⟩,
   fun h => ⟨sh 4, 2, ta 2, st { dtake takeoverInit with mirror := { mirrorInit with role := 1, phase := 3 } },
    by decide +kernel, by decide +kernel, ⟨sn, rfl, rfl, h⟩, by decide +kernel, by decide +kernel, rfl⟩,
   ⟨0, st (dtake { takeoverInit with standbyAsked := some 2 }), 2, by decide +kernel⟩,
   ⟨sh 4, 3, ta 1, st (dtake takeoverInit), by decide +kernel⟩⟩

theorem witness_SegmentNodes :
    (∃ (x : SegHdr) (a : Announce) (c : ChainObs) (s : State), segRuns s.dev = true ∧ hdrOk x 2 = true) ∧
    (∃ (s : State), segRuns s.dev = true ∧ s.dev.pins.segRole = 2 ∧ s.dev.seg.state = 2 ∧ s.dev.seg.beaconHeard = true) ∧
    (∃ (x : SegHdr) (a : Announce) (c : ChainObs) (s : State), segRuns s.dev = true ∧ hdrOk x 2 = false) ∧
    (∃ (s : State), segRuns s.dev = true) ∧
    (∃ (s : State), segRuns s.dev = true ∧ s.dev.pins.segRole = 1 ∧ (s.dev.seg.state = 1 ∨ s.dev.seg.state = 5)) ∧
    (∃ (d : Dev) (f : Option ℕ × SegKind × List Byte), nextFrame d.seg.queue = some f) ∧
    (∃ (d : Dev) (f : Option ℕ × SegKind × List Byte) (g : Option ℕ × SegKind × List Byte), nextFrame d.seg.queue = some f ∧ g ∈ d.seg.queue) ∧
    (∃ (d : Dev) (f : Option ℕ × SegKind × List Byte), nextFrame d.seg.queue = some f ∧ segSends d = true) ∧
    (∃ (d : Dev) (f : Option ℕ × SegKind × List Byte), nextFrame d.seg.queue = some f ∧ segSends d = false) ∧
    (∃ (s : State), segRuns s.dev = true ∧ s.dev.seg.state = 2) ∧
    (∃ (s : State), segRuns s.dev = true ∧ (s.dev.seg.state = 3 ∨ s.dev.seg.state = 4)) ∧
    (∃ (s : State), segRuns s.dev = true ∧ ¬(s.dev.pins.segRole = 2 ∧ s.dev.seg.state = 2 ∧ s.dev.seg.beaconHeard = true)) ∧
    (∃ (s : State), segRuns s.dev = true ∧ ¬(s.dev.pins.segRole = 1 ∧ (s.dev.seg.state = 1 ∨ s.dev.seg.state = 5))) ∧
    (∃ (x : SegHdr) (q : TakeReq) (m : ℕ) (t : TakeAns) (a : Announce) (c : ChainObs) (k : Fin 32) (s : State) (i : Instr),
       segRuns s.dev = false ∧
        i ∈
         [Instr.announce x a c, Instr.announceSend, Instr.masterListenExpiry, Instr.backupTakeover, Instr.plcaBeacon, Instr.takeoverReq x q,
          Instr.takeoverStandbyGrant k, Instr.takeoverAns x m t]) ∧
    (∃ (s : State), segRuns s.dev = true ∧ segSends s.dev = false) :=
  ⟨⟨sh 2, sn.announce, sn.chain, st dseg, by decide +kernel⟩,
   ⟨st { dseg with seg := { segInit with state := 2, beaconHeard := true, masterSeq := 8, grants := [0x42, 0x81] }, pins := { dseg.pins with segRole := 2 } }, by decide +kernel⟩,
   ⟨sh 1, sn.announce, sn.chain, st dseg, by decide +kernel⟩,
   ⟨st { dseg with seg := { segInit with state := 1 }, pins := { dseg.pins with segRole := 1 } }, by decide +kernel⟩,
   ⟨st { dseg with seg := { segInit with state := 5 }, pins := { dseg.pins with segRole := 1 } }, by decide +kernel⟩,
   ⟨{ dseg with seg := { dseg.seg with queue := [(none, .mctp, [1]), (none, .announce, [2]), (none, .takeoverAns, [3]), (none, .takeoverReq, [4])] } }, (none, .takeoverAns, [3]), by decide +kernel⟩,
   ⟨{ dseg with seg := { dseg.seg with queue := [(none, .mctp, [1]), (none, .announce, [2]), (none, .takeoverAns, [3]), (none, .takeoverReq, [4])] } }, (none, .takeoverAns, [3]), (none, .mctp, [1]), by decide +kernel⟩,
   ⟨{ dseg with seg := { dseg.seg with queue := [(none, .mctp, [1]), (none, .announce, [2]), (none, .takeoverAns, [3]), (none, .takeoverReq, [4])] } }, (none, .takeoverAns, [3]), by decide +kernel⟩,
   ⟨{ dseg with seg := { segInit with state := 1, queue := [(none, .mctp, [1])] } }, (none, .mctp, [1]), by decide +kernel⟩,
   ⟨st { dseg with seg := { segInit with state := 2 } }, by decide +kernel⟩,
   ⟨st dseg, by decide +kernel⟩,
   ⟨st dseg, by decide +kernel⟩,
   ⟨st dseg, by decide +kernel⟩,
   ⟨sh 2, tq 1, 2, ta 1, sn.announce, sn.chain, 0, st { dseg with seg := segInit }, (.plcaBeacon), by decide +kernel, (by first | (simp; decide +kernel) | exact ⟨rfl, rfl, rfl, rfl, rfl, rfl, by decide +kernel, all_some rfl rfl⟩ | simp)⟩,
   ⟨st { dseg with seg := { segInit with state := 1 } }, by decide +kernel⟩⟩

theorem witness_EndpointsAndKerfSync :
    (∃ (src : ℕ) (dst : ℕ) (typ : ℕ) (body : List Byte) (sess : Option SessN) (p : PartnerObs) (u : UcieObs) (s : State) (b : McBinding) (n : ℕ),
       (hubJig s.dev = false ∧ s.dev.boot.phase ≠ BootPhase.off) ∧
        dst ≠ 0 ∧ dst ≠ ownEid s.dev ∧ bindingNo b = some n ∧ segService s.dev = true ∧ 16 ≤ dst ∧ dst ≤ 79) ∧
    (∃ (src : ℕ) (dst : ℕ) (typ : ℕ) (body : List Byte) (sess : Option SessN) (p : PartnerObs) (u : UcieObs) (s : State) (b : McBinding) (n : ℕ),
       (hubJig s.dev = false ∧ s.dev.boot.phase ≠ BootPhase.off) ∧
        dst ≠ 0 ∧ dst ≠ ownEid s.dev ∧ bindingNo b = some n ∧ ¬(segService s.dev = true ∧ 16 ≤ dst ∧ dst ≤ 79)) ∧
    (∃ (t : ℕ) (since : ℕ) (cut : Option ℕ) (s : State),
       ¬(ent s.dev 8208 1 = 2 ∧
         s.dev.boot.phase = BootPhase.released ∧
          (∀ (e : ℕ), s.dev.sync.lastEdge = some e → e + periodNs s.dev / 2 ≤ t) ∧ (s.dev.sync.lastEdge = none → 100000 ≤ since))) ∧
    (∃ (eid : ℕ) (s : State), hubJig s.dev = false ∧ s.dev.boot.phase ≠ BootPhase.off) ∧
    (∃ (addr : ℕ) (s : State), hubJig s.dev = false ∧ s.dev.boot.phase ≠ BootPhase.off) ∧
    (∃ (t : ℕ) (since : ℕ) (cut : Option ℕ) (s : State),
       ent s.dev 8208 1 = 2 ∧
        s.dev.boot.phase = BootPhase.released ∧
         (∀ (e : ℕ), s.dev.sync.lastEdge = some e → e + periodNs s.dev / 2 ≤ t) ∧ (s.dev.sync.lastEdge = none → 100000 ≤ since)) ∧
    (∃ (b : McBinding) (src : ℕ) (dst : ℕ) (typ : ℕ) (body : List Byte) (sess : Option SessN) (p : PartnerObs) (u : UcieObs) (s : State) (x : SegHdr),
       (hubJig s.dev = false ∧ s.dev.boot.phase ≠ BootPhase.off) ∧ b = McBinding.segment x ∧ segRuns s.dev = true ∧ hdrOk x 1 = false) ∧
    (∃ (t : ℕ) (s : State), ent s.dev 8208 1 ≠ 2) ∧
    (∃ (t : ℕ) (s : State), ent s.dev 8208 1 = 2) ∧
    (∃ (b : McBinding) (eid : ℕ) (src : ℕ) (dst : ℕ) (typ : ℕ) (addr : ℕ) (body : List Byte) (sess : Option SessN) (p : PartnerObs) (u : UcieObs) (s :
       State) (i : Instr),
       ¬(hubJig s.dev = false ∧ s.dev.boot.phase ≠ BootPhase.off) ∧
        i ∈ [Instr.setEndpointId eid, Instr.getEndpointId, Instr.entdaa addr, Instr.getstatus, Instr.mctp b src dst typ body sess p u]) ∧
    (∃ (b : McBinding) (src : ℕ) (dst : ℕ) (typ : ℕ) (body : List Byte) (sess : Option SessN) (p : PartnerObs) (u : UcieObs) (s : State),
       (hubJig s.dev = false ∧ s.dev.boot.phase ≠ BootPhase.off) ∧
        (dst = ownEid s.dev ∨ dst = 0) ∧
         (∀ (x : SegHdr), b = McBinding.segment x → segRuns s.dev = true ∧ hdrOk x 1 = true) ∧ typ ≠ 127 ∧ ¬(typ = 6 ∧ sess.isSome = true)) ∧
    (∃ (b : McBinding) (src : ℕ) (dst : ℕ) (typ : ℕ) (body : List Byte) (sess : Option SessN) (p : PartnerObs) (u : UcieObs) (s : State) (x : SegHdr),
       (hubJig s.dev = false ∧ s.dev.boot.phase ≠ BootPhase.off) ∧ b = McBinding.segment x ∧ segRuns s.dev = false) ∧
    (∃ (src : ℕ) (dst : ℕ) (typ : ℕ) (body : List Byte) (sess : Option SessN) (p : PartnerObs) (u : UcieObs) (s : State) (x : SegHdr) (r : ℕ × ℕ × ℕ),
       (hubJig s.dev = false ∧ s.dev.boot.phase ≠ BootPhase.off) ∧
        dst ≠ 0 ∧
         dst ≠ ownEid s.dev ∧
          segRuns s.dev = true ∧
          hdrOk x 1 = true ∧
          segService s.dev = true ∧
          List.find? (fun (r : ℕ × ℕ × ℕ) => r.1 == dst && decide (s.dev.now ≤ r.2.2 + 60 * tickSec)) s.dev.seg.routes = some r) ∧
    (∃ (s : State), hubJig s.dev = false ∧ s.dev.boot.phase ≠ BootPhase.off) ∧
    (∃ (src : ℕ) (dst : ℕ) (typ : ℕ) (body : List Byte) (sess : Option SessN) (p : PartnerObs) (u : UcieObs) (s : State) (x : SegHdr),
       (hubJig s.dev = false ∧ s.dev.boot.phase ≠ BootPhase.off) ∧
        dst ≠ 0 ∧
         dst ≠ ownEid s.dev ∧
          segRuns s.dev = true ∧ hdrOk x 1 = true ∧ (segService s.dev = false ∨ ∀ r ∈ s.dev.seg.routes, r.1 = dst → r.2.2 + 60 * tickSec < s.dev.now)) :=
  ⟨⟨0x99, 0x4F, 5, [1, 2], none, noP, noU, st dseg, .vdm 0, 0, by decide +kernel⟩,
   ⟨0x99, 0x50, 5, [1, 2], none, noP, noU, st dseg, .vdm 0, 0, by decide +kernel⟩,
   ⟨1499999, 0, none, st (dsync (fun x => { x with lastEdge := some 1000000 })), by decide +kernel⟩,
   ⟨0x11, st d0, by decide +kernel⟩,
   ⟨0x1FF, st d0, by decide +kernel⟩,
   ⟨200000, 100000, some 5, st (dsync id), by decide +kernel⟩,
   ⟨.segment (sh 2), 0x11, 0x10, 5, [1], none, noP, noU, st dseg, sh 2, by decide +kernel⟩,
   ⟨9, st d0, by decide +kernel⟩,
   ⟨9, st (dsync (fun x => { x with misses := 0xFFFFFFFF, locked := true })), by decide +kernel⟩,
   ⟨.vdm 0, 0x10, 0x99, 0x4F, 5, 1, [1], none, noP, noU, st State.reset.dev, (.getEndpointId), by decide +kernel, (by first | (simp; decide +kernel) | exact ⟨rfl, rfl, rfl, rfl, rfl, rfl, by decide +kernel, all_some rfl rfl⟩ | simp)⟩,
   ⟨.vdm 0, 0x11, 0, 5, [], none, noP, noU, st dseg, by decide +kernel, by decide +kernel, (by first | decide +kernel | exact all_some rfl (by decide +kernel) | simp), by decide +kernel, by decide +kernel⟩,
   ⟨.segment (sh 1), 0x11, 0x10, 5, [1], none, noP, noU, st d0, sh 1, by decide +kernel⟩,
   ⟨0x11, 0x99, 5, [1, 2], none, noP, noU, st ({ dseg with seg := { dseg.seg with routes := [(0x99, 0, 0)] } }), sh 1, (0x99, 0, 0), by decide +kernel⟩,
   ⟨st d0, by decide +kernel⟩,
   ⟨0x11, 0x99, 5, [1, 2], none, noP, noU, st dseg, sh 1, by decide +kernel⟩⟩

theorem witness_GaugeMeasures :
    (Config.stdOk .calVerify [[1]] = true →
    ∃ (verify : Bool) (pkg : List Byte) (calib : Option (List Byte)) (rom : Option (Fin 4)) (s : State),
       (gaugePresent s.dev = true ∧ s.dev.pins.pkgReset = true ∧ verify = true ∧ Config.stdOk Config.Std.calVerify [pkg] = true) ∧
        s.dev.fuses.gaugeSeal < 64) ∧
    (Config.stdOk .calVerify [[1]] = true →
    ∃ (verify : Bool) (pkg : List Byte) (calib : Option (List Byte)) (rom : Option (Fin 4)) (s : State),
       (gaugePresent s.dev = true ∧ s.dev.pins.pkgReset = true ∧ verify = true ∧ Config.stdOk Config.Std.calVerify [pkg] = true) ∧
        64 ≤ s.dev.fuses.gaugeSeal) ∧
    (∃ (verify : Bool) (pkg : List Byte) (calib : Option (List Byte)) (rom : Option (Fin 4)) (s : State),
       ¬(gaugePresent s.dev = true ∧ s.dev.pins.pkgReset = true ∧ verify = true ∧ Config.stdOk Config.Std.calVerify [pkg] = true)) ∧
    (∃ (low : Bool) (s : State), low = true ∧ gaugePresent s.dev = true) ∧
    (∃ (low : Bool) (s : State), low = false ∨ gaugePresent s.dev = false) ∧
    (∃ (charges : List ℕ) (ref : ℕ) (s : State), gaugePresent s.dev = false) ∧
    (∃ (s : State), s.dev.pins.vgauge = false) ∧
    (∃ (s : State), s.dev.pins.vgauge = true) ∧
    (∃ (s : State), gaugePresent s.dev = false) :=
  ⟨fun h => ⟨true, [1], some [5], some 3, st { d0 with pins := { d0.pins with vgauge := true, pkgReset := true }, fuses := { d0.fuses with gaugeSeal := 63 } }, ⟨by decide +kernel, rfl, rfl, h⟩, by decide +kernel⟩,
   fun h => ⟨true, [1], some [5], some 3, st { d0 with pins := { d0.pins with vgauge := true, pkgReset := true }, fuses := { d0.fuses with gaugeSeal := 64 } }, ⟨by decide +kernel, rfl, rfl, h⟩, by decide +kernel⟩,
   ⟨true, [1], some [5], some 3, st ({ d0 with pins := { d0.pins with vgauge := true }, gauge := { gaugeInit with openKind := 1 } }), by decide +kernel⟩,
   ⟨true, st ({ d0 with pins := { d0.pins with vgauge := true }, gauge := { gaugeInit with openKind := 1 } }), by decide +kernel⟩,
   ⟨false, st ({ d0 with pins := { d0.pins with vgauge := true }, gauge := { gaugeInit with openKind := 1 } }), by decide +kernel⟩,
   ⟨[], 0, st d0, by decide +kernel⟩,
   ⟨st d0, by decide +kernel⟩,
   ⟨st { d0 with pins := { d0.pins with vgauge := true } }, by decide +kernel⟩,
   ⟨st d0, by decide +kernel⟩⟩

theorem witness_SamplingAndWindows :
    (∃ (h : HartN) (s : State), hartRuns s.dev ↑h = true ∧ (hartOf s.dev ↑h).hsEn = true ∧ sampledNow s.dev (hartOf s.dev ↑h) = true) ∧
    (∃ (h : HartN) (s : State), hartRuns s.dev ↑h = true ∧ ¬((hartOf s.dev ↑h).hsEn = true ∧ sampledNow s.dev (hartOf s.dev ↑h) = true)) ∧
    (∃ (h : HartN) (insn : BitVec 32) (v : Word) (s : State), HartReady s.dev ↑h ∧ csrAccess (hartOf s.dev ↑h) 1730 (csrWrites insn.toNat) = 2) ∧
    (∃ (h : HartN) (insn : BitVec 32) (v : Word) (s : State), HartReady s.dev ↑h ∧ csrAccess (hartOf s.dev ↑h) 1730 (csrWrites insn.toNat) ≠ 2) ∧
    (∃ (h : HartN) (o : SampleObs) (s : State),
       hartRuns s.dev ↑h = true ∧
        (hartOf s.dev ↑h).hsTagged = true ∧
         (hartOf s.dev ↑h).hsEn = true ∧
          (hartOf s.dev ↑h).hsPos < sampleSlots (hartOf s.dev ↑h) ∧
          isMain s.dev ((hartOf s.dev ↑h).hsBase + 64 * (hartOf s.dev ↑h).hsPos) = true ∧
          getBit (potRights (potEntry s.dev ((hartOf s.dev ↑h).hsBase + 64 * (hartOf s.dev ↑h).hsPos)) (sampleIdent s.dev (hartOf s.dev ↑h))) 1 =
          false) ∧
    (∃ (h : HartN) (o : SampleObs) (s : State),
       hartRuns s.dev ↑h = true ∧
        (hartOf s.dev ↑h).hsTagged = true ∧
         (hartOf s.dev ↑h).hsEn = true ∧ sampleSlots (hartOf s.dev ↑h) ≤ (hartOf s.dev ↑h).hsPos ∧ (hartOf s.dev ↑h).hsWrap = false) ∧
    (∃ (h : HartN) (insn : BitVec 32) (v : Word) (o : SampleObs) (s : State), hartRuns s.dev ↑h = false) ∧
    (∃ (h : HartN) (o : SampleObs) (s : State),
       hartRuns s.dev ↑h = true ∧
        (hartOf s.dev ↑h).hsTagged = true ∧
         (hartOf s.dev ↑h).hsEn = true ∧
          (hartOf s.dev ↑h).hsPos < sampleSlots (hartOf s.dev ↑h) ∧ isMain s.dev ((hartOf s.dev ↑h).hsBase + 64 * (hartOf s.dev ↑h).hsPos) = false) ∧
    (∃ (v : ℕ) (r : ℕ) (x : Hart), getBit v 0 = true ∧ x.hsEn = false) ∧
    (∃ (v : ℕ) (r : ℕ) (x : Hart), ¬(getBit v 0 = true ∧ x.hsEn = false)) ∧
    (∃ (h : HartN) (o : SampleObs) (s : State), hartRuns s.dev ↑h = true ∧ (hartOf s.dev ↑h).hsTagged = true ∧ (hartOf s.dev ↑h).hsEn = false) ∧
    (∃ (h : HartN) (o : SampleObs) (s : State), hartRuns s.dev ↑h = true ∧ (hartOf s.dev ↑h).hsTagged = false) ∧
    (∃ (port : Fin 32) (s : State), s.dev.boot.phase = BootPhase.released) ∧
    (∃ (port : Fin 32) (s : State) (target : Option (HartN × Fin 9 × Fin 256)), s.dev.boot.phase ≠ BootPhase.released) ∧
    (∃ (h : HartN) (o : SampleObs) (s : State),
       hartRuns s.dev ↑h = true ∧
        (hartOf s.dev ↑h).hsTagged = true ∧
         (hartOf s.dev ↑h).hsEn = true ∧ sampleSlots (hartOf s.dev ↑h) ≤ (hartOf s.dev ↑h).hsPos ∧ (hartOf s.dev ↑h).hsWrap = true) :=
  ⟨⟨0, st (dsamp (fun x => { x with hsTagged := false })), by decide +kernel⟩,
   ⟨0, st d0, by decide +kernel⟩,
   ⟨0, 0x6c2092f3, 0xFFFFFFFFFFFFFFFF, st (dh (fun x => { x with mode := .hs })), by decide +kernel⟩,
   ⟨0, 0x6c2092f3, 0xFFFFFFFFFFFFFFFF, st (dh (fun x => { x with mode := .u })), by decide +kernel⟩,
   ⟨0, so, st (updHart { dpot with mem := [(0x3FF80003, 0x40)] } 0 (fun x => { x with mode := .hs, hsEn := true, hsPeriod := 256, hsSize := 4, hsBase := 0x1000, hsTagged := true })), by decide +kernel⟩,
   ⟨0, so, st (updHart (dsamp id) 0 (fun x => { x with hsPos := 1024 })), by decide +kernel⟩,
   ⟨1, 0x6C2012F3, 5, so, st (updHart d0 1 (fun x => { x with halted := true })), by decide +kernel⟩,
   ⟨0, so, st (updHart (dsamp id) 0 (fun x => { x with hsBase := 0x3FF000000000 })), by decide +kernel⟩,
   ⟨0xFF00000D, 77, { hartInit with hsEn := false, hsStop := 2 }, by decide +kernel⟩,
   ⟨0xFF000000, 77, { hartInit with hsEn := false, hsStop := 2 }, by decide +kernel⟩,
   ⟨0, so, st (updHart (dsamp id) 0 (fun x => { x with hsEn := false })), by decide +kernel⟩,
   ⟨0, so, st (updHart (dsamp id) 0 (fun x => { x with hsTagged := false })), by decide +kernel⟩,
   ⟨31, st d0, by decide +kernel⟩,
   ⟨31, st State.reset.dev, none, by decide +kernel⟩,
   ⟨0, so, st (updHart (dsamp id) 0 (fun x => { x with hsPos := 1024, hsWrap := true, hsIrq := true })), by decide +kernel⟩⟩

theorem witness_SpdmResponder :
    (∃ (n : SessN) (s : State) (x : Session), spdmUp s.dev = true ∧ sessOf s.dev ↑n = some x) ∧
    (∃ (o : Option SessN) (slot : ℕ) (off : ℕ) (len : ℕ) (s : State), spdmUp s.dev = true ∧ slot = 0 ∧ off ≤ (certChain s.dev).length) ∧
    (∃ (o : Option SessN) (slot : ℕ) (off : ℕ) (len : ℕ) (s : State), spdmUp s.dev = true ∧ (slot ≠ 0 ∨ (certChain s.dev).length < off)) ∧
    (∃ (slot : ℕ) (nonce : List Byte) (s : State), spdmUp s.dev = true ∧ slot = 0) ∧
    (∃ (slot : ℕ) (nonce : List Byte) (s : State), spdmUp s.dev = true ∧ slot ≠ 0) ∧
    (∃ (n : SessN) (leaf : Option (List Byte)) (req : List Byte) (s : State) (x : Session),
       spdmUp s.dev = true ∧ sessOf s.dev ↑n = some x ∧ x.finished = true) ∧
    (Config.stdOk .spdm [[1], [0xEE]] = false →
    ∃ (n : SessN) (leaf : Option (List Byte)) (req : List Byte) (s : State) (x : Session),
       spdmUp s.dev = true ∧ sessOf s.dev ↑n = some x ∧ x.finished = false ∧ Config.stdOk Config.Std.spdm [leaf.getD [], req] = false) ∧
    (∃ (n : SessN) (leaf : Option (List Byte)) (req : List Byte) (s : State), spdmUp s.dev = true ∧ sessOf s.dev ↑n = none) ∧
    (Config.stdOk .spdm [[1], []] = true →
    ∃ (n : SessN) (leaf : Option (List Byte)) (req : List Byte) (s : State) (x : Session),
       spdmUp s.dev = true ∧ sessOf s.dev ↑n = some x ∧ x.finished = false ∧ Config.stdOk Config.Std.spdm [leaf.getD [], req] = true) ∧
    (∃ (req : List Byte) (s : State), spdmUp s.dev = true ∧ ∀ n < 8, (sessOf s.dev n).isSome = true) ∧
    (∃ (o : Option SessN) (k : ℕ) (sg : Bool) (nonce : List Byte) (s : State), spdmUp s.dev = true ∧ (k ≤ 11 ∨ k = 255)) ∧
    (∃ (o : Option SessN) (k : ℕ) (sg : Bool) (nonce : List Byte) (s : State), spdmUp s.dev = true ∧ 11 < k ∧ k ≠ 255) ∧
    (∃ (n : SessN) (s : State) (i : Instr),
       spdmUp s.dev = true ∧ sessOf s.dev ↑n = none ∧ i ∈ [Instr.spdmHeartbeat n, Instr.spdmKeyUpdate n, Instr.spdmEndSession n]) ∧
    (∃ (n : SessN) (o : Option SessN) (l : Option (List Byte)) (req : List Byte) (nonce : List Byte) (a : ℕ) (b : ℕ) (c : ℕ) (sg : Bool) (s : State) (i :
       Instr),
       spdmUp s.dev = false ∧
        i ∈
         [Instr.spdmKeyExchange req, Instr.spdmFinish n l req, Instr.spdmGetMeasurements o a sg nonce, Instr.spdmGetCertificate o a b c,
          Instr.spdmHeartbeat n, Instr.spdmEndSession n, Instr.spdmChallenge a nonce, Instr.spdmKeyUpdate n]) :=
  ⟨⟨0, st d0, ses, by decide +kernel⟩,
   ⟨none, 0, 0, 16, st d0, by decide +kernel⟩,
   ⟨none, 1, 0, 16, st d0, by decide +kernel⟩,
   ⟨0, [], st d0, by decide +kernel⟩,
   ⟨1, [], st d0, by decide +kernel⟩,
   ⟨0, none, [], st d0, ses, by decide +kernel⟩,
   fun h => ⟨0, some [1], [0xEE], st (dl { ses with finished := false }), { ses with finished := false }, by decide +kernel, by decide +kernel, rfl, h⟩,
   ⟨1, none, [], st d0, by decide +kernel⟩,
   fun h => ⟨0, some [1], [], st (dl { ses with finished := false }), { ses with finished := false }, by decide +kernel, by decide +kernel, rfl, h⟩,
   ⟨[], st { d0 with list := { d0.list with sessions := (List.range 8).map (fun k => (k, some sessInit)) } }, by decide +kernel, (by first | decide +kernel | exact all_some rfl (by decide +kernel) | simp)⟩,
   ⟨none, 11, false, [], st d0, by decide +kernel⟩,
   ⟨none, 12, false, [], st d0, by decide +kernel⟩,
   ⟨1, st d0, (.spdmHeartbeat 1), by decide +kernel, by decide +kernel, (by first | (simp; decide +kernel) | exact ⟨rfl, rfl, rfl, rfl, rfl, rfl, by decide +kernel, all_some rfl rfl⟩ | simp)⟩,
   ⟨0, none, none, [], [], 0, 0, 0, false, st State.reset.dev, (.spdmHeartbeat 0), by decide +kernel, (by first | (simp; decide +kernel) | exact ⟨rfl, rfl, rfl, rfl, rfl, rfl, by decide +kernel, all_some rfl rfl⟩ | simp)⟩⟩

end Sys2Proof.Tests
end

section
namespace Sys2Proof.Proofs

open Sys2Proof.Machine

/-! ### Memory: a run of bytes -/

/-- Masking a byte with what an unlisted byte reads, and reading it back, gives the byte. -/
theorem xor_memBase_cancel (d : Dev) (k : Nat) (b : Byte) : b ^^^ memBase d k ^^^ memBase d k = b := by
  rw [BitVec.xor_assoc, BitVec.xor_self, BitVec.xor_zero]

/-- One byte after a write of a run: inside the run what was written there, outside it what stood there. -/
theorem memByte_setMem (d : Dev) (a : Nat) (bs : List Byte) (k : Nat) :
    memByte (setMem a bs d) k = if h : a ≤ k ∧ k < a + bs.length then bs[k - a] else memByte d k := by
  have hbase : memBase (setMem a bs d) k = memBase d k := rfl
  have hget : tabGet 0 (setMem a bs d).mem k = _ := tabGet_tabSetMany 0 (bs.mapIdx (fun i b => b ^^^ memBase d (a + i))) d.mem a k
  unfold memByte
  rw [hget, hbase]
  simp only [List.length_mapIdx, List.getElem_mapIdx]
  split
  next h => rw [Nat.add_sub_cancel' h.1, xor_memBase_cancel]
  next => rfl

theorem memByte_setMem_inside (d : Dev) (a : Nat) (bs : List Byte) (i : Nat) (h : i < bs.length) :
    memByte (setMem a bs d) (a + i) = bs[i] := by
  rw [memByte_setMem, dif_pos (by omega)]
  simp

theorem memByte_setMem_outside (d : Dev) (a : Nat) (bs : List Byte) (k : Nat) (h : k < a ∨ a + bs.length ≤ k) :
    memByte (setMem a bs d) k = memByte d k := by
  rw [memByte_setMem, dif_neg (by omega)]

theorem memBytes_setMem (d : Dev) (a : Nat) (bs : List Byte) : memBytes (setMem a bs d) a bs.length = bs := by
  apply List.ext_getElem
  · simp [memBytes]
  · intro i _ h
    simp only [memBytes, List.getElem_map, List.getElem_range]
    exact memByte_setMem_inside d a bs i h

/-- Settles O5: a byte is stored masked with what an unlisted byte reads, so it reads back through the table's read-after-write rule. -/
theorem memoryReadsLastWrite : Obligations.MemoryReadsLastWrite := by
  intro d a bs
  refine ⟨memBytes_setMem d a bs, memByte_setMem_outside d a bs, rfl, ?_⟩
  exact tabWf_tabSetMany 0 _ d.mem a

/-! ### The queue and the table of words -/

/-- Settles O1: a queue with a front command is the first branch of `step`. -/
theorem stepRunsFrontCommand : Obligations.StepRunsFrontCommand := by
  intro s c r h
  unfold step
  rw [h]

/-- Settles O6: no row gives bits, so `decodeTableWord` spells nothing and nothing is queued. -/
theorem noWordSpellsACommand : Obligations.NoWordSpellsACommand := by
  intro s nbits w
  have h : decodeTableWord nbits w = none := rfl
  refine ⟨h, ?_⟩
  unfold State.withFetchWord
  rw [h]

end Sys2Proof.Proofs
end

section
namespace Sys2Proof.Proofs

open Sys2Proof.Machine

/-! ### Bytes and numbers -/

@[simp] theorem length_leBytes (k n : Nat) : (leBytes k n).length = k := by
  induction k generalizing n with
  | zero => rfl
  | succ k ih => simp [leBytes, ih]

@[simp] theorem length_padTo (k : Nat) (bs : List Byte) : (padTo k bs).length = k := by
  simp [padTo]
  omega

theorem padTo_of_length {k : Nat} {bs : List Byte} (h : bs.length = k) : padTo k bs = bs := by
  simp [padTo, ← h]

/-- The body of DOMAIN_WRITE_BEGIN, with flags 0 (R48). -/
def beginBody (idx sub total : Nat) : List Byte := leBytes 2 idx ++ leBytes 1 sub ++ [0] ++ leBytes 4 total
/-- The body of the DOMAIN_WRITE_SEGMENT that carries a whole value (R48). -/
def segmentBody (v : List Byte) : List Byte := leBytes 4 0 ++ leBytes 2 v.length ++ v

/-- The body of DOMAIN_WRITE_BEGIN gives back its fields (R48). -/
theorem beginBody_fields {idx sub total : Nat} (hi : idx < 2 ^ 16) (hs : sub < 2 ^ 8) (ht : total < 2 ^ 32) :
    let b := beginBody idx sub total
    b.length = 8 ∧ leAt b 0 2 = idx ∧ leAt b 2 1 = sub ∧ leAt b 3 1 = 0 ∧ leAt b 4 4 = total := by
  simp [beginBody, leAt, sliceOf, leBytes, leNat]
  omega

/-- The body of DOMAIN_WRITE_SEGMENT gives back its offset, its length and the bytes it carries (R48). -/
theorem segmentBody_fields {v : List Byte} (hv : v.length < 2 ^ 16) :
    let b := segmentBody v
    b.length = 6 + v.length ∧ leAt b 0 4 = 0 ∧ leAt b 4 2 = v.length ∧ b.drop 6 = v := by
  simp [segmentBody, leAt, sliceOf, leBytes, leNat]
  omega

/-! ### The list's side of the package -/

/-- The package with other sessions and with `os` sent: all that a message of an accepted transfer changes. -/
def listSide (ss : Tab (Option Session)) (os : List Out) (d : Dev) : Dev :=
  { d with list := { d.list with sessions := ss }, out := d.out ++ os }

theorem listSide_self (d : Dev) : listSide d.list.sessions [] d = d := by
  simp [listSide]

/-- The answer of session `n` to a message of TAG `tag`. -/
def answerOf (d : Dev) (n : SessN) (tag op : Nat) (body : List Byte) : Out := .listResp d.fuses.vendorId (some n.val) op tag abOk body

/-- A message from session `n` in this protocol's version. -/
def listMsg (d : Dev) (n : SessN) (tag : Nat) (body : List Byte) : ListMsg :=
  { vendor := d.fuses.vendorId, sess := some n, version := 1, tag := tag, body := body }

theorem reply_ok_listSide (d : Dev) (n : SessN) (tag op : Nat) (b body : List Byte) (ss : Tab (Option Session)) (os : List Out) :
    reply (listMsg d n tag b) op abOk body (listSide ss os d) = listSide ss (os ++ [answerOf d n tag (op + 128) body]) d := by
  simp [reply, emit, listSide, listMsg, answerOf, abOk]

theorem withSess_listSide (n : Nat) (f : Session → Session) (ss : Tab (Option Session)) (os : List Out) (d : Dev) :
    withSess n f (listSide ss os d) = listSide (tabUpd none ss n (Option.map f)) os d := rfl

/-- A message of a session whose handshake is finished finds it. -/
theorem openSess_listSide {d : Dev} {n : SessN} {ss : Tab (Option Session)} {x : Session} (hx : tabGet none ss n = some x) (hfin : x.finished = true)
    (tag : Nat) (b : List Byte) (os : List Out) : openSess (listSide ss os d) (listMsg d n tag b) = some (n.val, x) := by
  have : sessOf (listSide ss os d) n = some x := hx
  simp [openSess, listMsg, this, hfin]

/-- Rows 1 and 2 of R503 pass for a served session's message. -/
theorem onList_listSide {d : Dev} {n : SessN} {ss : Tab (Option Session)} {x : Session} (hup : spdmUp d = true)
    (hx : tabGet none ss n = some x) (hfin : x.finished = true) (tag op : Nat) (b : List Byte) (os : List Out) (f : Nat → Session → Dev → Dev) :
    onList (listMsg d n tag b) op f (listSide ss os d) = f n x (listSide ss os d) := by
  have hup' : spdmUp (listSide ss os d) = true := hup
  have hven : ((listMsg d n tag b).vendor == (listSide ss os d).fuses.vendorId) = true := by simp [listMsg, listSide]
  unfold onList
  rw [hup', hven, openSess_listSide hx hfin]
  rfl

/-! ### A DOMAIN value written whole (R48) -/

/-- A session with a write transfer open on an entry, of `total` bytes of which `data` have come. -/
def writing (idx sub total : Nat) (data : List Byte) (x : Session) : Session :=
  { x with transfer := some { write := true, idx := idx, sub := sub, total := total, data := data, live := false, staged := false }, report := none }

/-- DOMAIN_WRITE_BEGIN of a value that may be written opens the transfer. -/
theorem writeBegin_opens {d : Dev} {n : SessN} {x : Session} {idx sub : Nat} {v : List Byte} {r : EntryRow} (hmay : MayWriteDomain d n x idx sub v)
    (hr : entryRow idx sub = some r) (hi : idx < 2 ^ 16) (hs : sub < 2 ^ 8) (tag : Nat) :
    let m := listMsg d n tag (beginBody idx sub v.length)
    writeBegin m n x d = reply m 3 abOk [] (withSess n (writing idx sub v.length []) d) := by
  obtain ⟨-, hnone, hlen, htarget, -, hbusy, hrow⟩ := hmay
  obtain ⟨hb, hidx, hsub, hflag, htot⟩ := beginBody_fields (total := v.length) hi hs (by omega)
  have hown : ownWrite x = false := by simp [ownWrite, hnone]
  have htotal : totalCode r idx v.length = abOk := by
    simp [hr] at hrow
    exact hrow.1
  intro m
  have hm : m.body = beginBody idx sub v.length := rfl
  unfold writeBegin
  simp only [hm, hidx, hsub, hr, hb, hflag, htot, htarget, hown, hbusy, htotal]
  rfl

/-- DOMAIN_WRITE_SEGMENT of the whole value, the first of its transfer. -/
theorem writeSegment_takes {x : Session} {v : List Byte} (idx sub : Nat) (hv : v ≠ []) (hlen : v.length ≤ 1024) (d d' : Dev) (n : SessN) (tag : Nat) :
    let m := listMsg d n tag (segmentBody v)
    writeSegment m n (writing idx sub v.length [] x) d' = reply m 4 abOk [] (withSess n (fun x => { x with
      transfer := some { write := true, idx := idx, sub := sub, total := v.length, data := v, live := false, staged := false } }) d') := by
  obtain ⟨hb, hoff, hl, hdrop⟩ := segmentBody_fields (v := v) (by omega)
  have hpos : v.length ≠ 0 := by simpa using hv
  intro m
  have hm : m.body = segmentBody v := rfl
  have ht : transferOf (writing idx sub v.length [] x) true =
      some { write := true, idx := idx, sub := sub, total := v.length, data := [], live := false, staged := false } := rfl
  have hwhole : ¬(6 + v.length < 6 ∨ 6 + v.length ≠ 6 + v.length) := by omega
  have hroom : ¬v.length < [].length (α := Byte) + v.length := by simp
  have hsize : ¬(v.length = 0 ∨ 1024 < v.length) := by omega
  unfold writeSegment
  simp only [hm, hb, hoff, hl, hdrop, ht, if_neg hwhole, if_neg hroom, if_neg hsize]
  rfl

/-- DOMAIN_WRITE_END of a whole value that may be written to an immediate entry that no dry fit depends on: the value takes effect. -/
theorem writeEnd_acts {d : Dev} {n : SessN} {x : Session} {idx sub : Nat} {v : List Byte} {r : EntryRow} (hmay : MayWriteDomain d n x idx sub v)
    (hr : entryRow idx sub = some r) (himm : r.swap = .imm) (hcode : idx ≠ 0x5020) (hfit : ∀ e, dependents e noPartner idx sub = [])
    (tag : Nat) (ss : Tab (Option Session)) (os : List Out) :
    let m := listMsg d n tag []
    ∃ ss', writeEnd m noPartner n (writing idx sub v.length v x) (listSide ss os d) =
      reply m 5 abOk (leBytes 8 d.kerf.counter) (immBytes n idx sub v (listSide ss' os d)) := by
  obtain ⟨-, -, -, -, hnarrow, -, hrow⟩ := hmay
  have hoct : octetsCode d r idx v = abOk := by
    simp [hr] at hrow
    exact hrow.2
  intro m
  have ht : transferOf (writing idx sub v.length v x) true =
      some { write := true, idx := idx, sub := sub, total := v.length, data := v, live := false, staged := false } := rfl
  refine ⟨tabUpd none ss n (Option.map (fun x => { x with transfer := none })), ?_⟩
  generalize hd : listSide (tabUpd none ss n (Option.map (fun x => { x with transfer := none }))) os d = d'
  have hn : narrowOk d' (writing idx sub v.length v x).role idx sub v = true := by rw [← hd]; exact hnarrow
  have ho : octetsCode d' r idx v = abOk := by rw [← hd]; exact hoct
  have hk : d'.kerf = d.kerf := by rw [← hd]; rfl
  have hplain : writePlain n noPartner { ok := false, rate := 0, width := 0 } r idx sub (.bytes v) d' =
      (abOk, d.kerf.counter, immBytes n idx sub v d') := by
    simp [writePlain, himm, hcode, hfit, runFits, hk]
  unfold writeEnd
  simp only [withSess_listSide, hd, ht, hr, hn, ho, hplain]
  simp [m, listMsg, firstCode, orCode, abOk]

/-- What a whole write of a value sends before its END: the answers to BEGIN, and to its segment where it has bytes. -/
def wholeAnswers (d : Dev) (n : SessN) (tag : Nat) (v : List Byte) : List Out :=
  answerOf d n tag 0x83 [] :: if v = [] then [] else [answerOf d n tag 0x84 []]

/-- A DOMAIN value that may be written, written whole to an immediate entry that no dry fit depends on, takes effect (R48). -/
theorem writeWhole_acts {d : Dev} {n : SessN} {x : Session} {idx sub : Nat} {v : List Byte} {r : EntryRow} (hmay : MayWriteDomain d n x idx sub v)
    (hr : entryRow idx sub = some r) (himm : r.swap = .imm) (hi : idx < 2 ^ 16) (hs : sub < 2 ^ 8) (hcode : idx ≠ 0x5020)
    (hfit : ∀ e, dependents e noPartner idx sub = []) (tag : Nat) :
    ∃ ss, writeWhole (some n) tag idx sub v d =
      reply (listMsg d n tag []) 5 abOk (leBytes 8 d.kerf.counter) (immBytes n idx sub v (listSide ss (wholeAnswers d n tag v) d)) := by
  obtain ⟨hup, hx, hfin, -⟩ := hmay.1
  have hlen := hmay.2.2.1
  -- BEGIN
  let ss₁ := tabUpd none d.list.sessions n (Option.map (writing idx sub v.length []))
  have hbegin : onList (listMsg d n tag (beginBody idx sub v.length)) 3
      (writeBegin (listMsg d n tag (beginBody idx sub v.length))) d = listSide ss₁ [answerOf d n tag 0x83 []] d := by
    have h := onList_listSide hup hx hfin tag 3 (beginBody idx sub v.length) []
      (writeBegin (listMsg d n tag (beginBody idx sub v.length)))
    rw [listSide_self] at h
    rw [h, writeBegin_opens hmay hr hi hs]
    conv_lhs => rw [← listSide_self d]
    rw [withSess_listSide]
    exact reply_ok_listSide ..
  have hx₁ : tabGet none ss₁ n = some (writing idx sub v.length [] x) := by
    have hx' : tabGet none d.list.sessions n = some x := hx
    simp [ss₁, hx']
  have hmsg (b : List Byte) : ({ vendor := d.fuses.vendorId, sess := some n, version := 1, tag := tag, body := b } : ListMsg) = listMsg d n tag b := rfl
  have hbody₃ : leBytes 2 idx ++ leBytes 1 sub ++ [0] ++ leBytes 4 v.length = beginBody idx sub v.length := rfl
  have hbody₄ : leBytes 4 0 ++ leBytes 2 v.length ++ v = segmentBody v := rfl
  have ht : transferOf (writing idx sub v.length [] x) true =
      some { write := true, idx := idx, sub := sub, total := v.length, data := [], live := false, staged := false } := rfl
  have hopen := openSess_listSide (d := d) hx₁ hfin tag (beginBody idx sub v.length) [answerOf d n tag 0x83 []]
  -- the segment, where the value has bytes
  have hsegment : ∃ ss₂, tabGet none ss₂ n = some (writing idx sub v.length v x) ∧
      (if v = [] then listSide ss₁ [answerOf d n tag 0x83 []] d
       else onList (listMsg d n tag (segmentBody v)) 4 (writeSegment (listMsg d n tag (segmentBody v))) (listSide ss₁ [answerOf d n tag 0x83 []] d)) =
        listSide ss₂ (wholeAnswers d n tag v) d := by
    by_cases hv : v = []
    · subst hv
      exact ⟨ss₁, hx₁, by simp [wholeAnswers]⟩
    · rw [if_neg hv, onList_listSide hup hx₁ hfin, writeSegment_takes idx sub hv hlen d, withSess_listSide, reply_ok_listSide]
      refine ⟨_, ?_, by simp [wholeAnswers, hv]; rfl⟩
      rw [tabGet_tabUpd_same, hx₁]
      rfl
  obtain ⟨ss₂, hx₂, hsegment⟩ := hsegment
  -- END
  obtain ⟨ss', hend⟩ := writeEnd_acts hmay hr himm hcode hfit tag ss₂ (wholeAnswers d n tag v)
  refine ⟨ss', ?_⟩
  rw [← hend]
  unfold writeWhole
  simp only [hmsg, hbody₃, hbody₄, hbegin, hopen, ht, and_self, if_true, hsegment]
  exact onList_listSide hup hx₂ hfin ..


/-- A command that is a whole write ends at once, with the value in effect and its END answered. -/
theorem exec_wholeWrite {s : State} {i : Instr} {n : SessN} {x : Session} {idx sub : Nat} {v : List Byte} {r : EntryRow} {tag : Nat}
    (hexec : exec i s = onDev (listJob (.whole (some n) tag idx sub v)) s) (hmay : MayWriteDomain s.dev n x idx sub v)
    (hr : entryRow idx sub = some r) (himm : r.swap = .imm) (hi : idx < 2 ^ 16) (hs : sub < 2 ^ 8) (hcode : idx ≠ 0x5020)
    (hfit : ∀ e, dependents e noPartner idx sub = []) :
    ∃ ss, exec i s = .next { s with
      dev := reply (listMsg s.dev n tag []) 5 abOk (leBytes 8 s.dev.kerf.counter) (immBytes n idx sub v (listSide ss (wholeAnswers s.dev n tag v) s.dev)) } := by
  obtain ⟨ss, h⟩ := writeWhole_acts hmay hr himm hi hs hcode hfit tag
  have hstep1 : s.dev.kerf.step1 = none := hmay.1.2.2.2
  refine ⟨ss, ?_⟩
  rw [hexec, ← h]
  simp [onDev, listJob, hstep1, runJob]

/-! ### The entries (R383, R394, R397) -/

theorem entryRow_fuseRequest : ∃ r, entryRow 0x7042 0 = some r ∧ r.swap = .imm := ⟨_, rfl, rfl⟩
theorem entryRow_reportRequest : ∃ r, entryRow 0x7010 0 = some r ∧ r.swap = .imm := ⟨_, rfl, rfl⟩
theorem entryRow_report : ∃ r, entryRow 0x7010 1 = some r ∧ r.max = 320 := ⟨_, rfl, rfl⟩
theorem entryRow_roleKey (k : Fin 16) : ∃ r, entryRow 0x7030 (k + 1) = some r ∧ r.swap = .imm := by
  have h : ∀ k : Fin 16, entryRow 0x7030 (k + 1) = entryRow 0x7030 1 := by decide +kernel
  rw [h k]
  exact ⟨_, rfl, rfl⟩

theorem dependents_fuseRequest (d : Dev) (p : PartnerObs) : dependents d p 0x7042 0 = [] := by simp [dependents]
theorem dependents_reportRequest (d : Dev) (p : PartnerObs) : dependents d p 0x7010 0 = [] := by simp [dependents]
theorem dependents_roleKey (d : Dev) (p : PartnerObs) (sub : Nat) : dependents d p 0x7030 sub = [] := by simp [dependents]

theorem fuseValue_fields {act k : Nat} (ha : act < 2 ^ 8) (hk : k < 2 ^ 8) (hash : List Byte) :
    leAt (fuseValue act k hash) 0 1 = act ∧ leAt (fuseValue act k hash) 1 1 = k ∧ sliceOf (fuseValue act k hash) 2 64 = padTo 64 hash := by
  have hp : (padTo 64 hash).take 64 = padTo 64 hash := List.take_of_length_le (by simp)
  simp [fuseValue, leAt, sliceOf, leBytes, leNat, hp]
  omega


/-- The three answers of a whole write of a value with bytes: to BEGIN, to its segment, to END. -/
theorem wholeAnswers_end {v : List Byte} (hv : v ≠ []) (d : Dev) (n : SessN) (tag : Nat) (body : List Byte) :
    d.out ++ wholeAnswers d n tag v ++ [answerOf d n tag 0x85 body] = d.out ++ [answerOf d n tag 0x83 [], answerOf d n tag 0x84 [], answerOf d n tag 0x85 body] := by
  simp [wholeAnswers, hv]

theorem fuseValue_ne_nil (act k : Nat) (hash : List Byte) : fuseValue act k hash ≠ [] := by simp [fuseValue, leBytes]

/-- What octets do to FUSE_REQUEST: the value is held, and the request is carried out (R394). -/
theorem immBytes_fuseRequest (n : Nat) (v : List Byte) (d : Dev) : immBytes n 0x7042 0 v d = blowFuse v (setCur d 0x7042 0 (some (.bytes v))) := rfl

theorem blowFuse_ownerSlot {k : Nat} (hk : k < 4) (hash : List Byte) (d : Dev) :
    blowFuse (fuseValue 1 k hash) d = { d with fuses := { d.fuses with ownerHash := tabSet [] d.fuses.ownerHash k (padTo 64 hash) } } := by
  obtain ⟨hact, hslot, hbytes⟩ := fuseValue_fields (act := 1) (k := k) (by omega) (by omega) hash
  simp [blowFuse, hact, hslot, hbytes]

theorem blowFuse_revokeOwner {k : Nat} (hk : k < 4) (d : Dev) :
    blowFuse (fuseValue 2 k []) d = { d with fuses := { d.fuses with ownerRevoked := d.fuses.ownerRevoked ++ [k] } } := by
  obtain ⟨hact, hslot, -⟩ := fuseValue_fields (act := 2) (k := k) (by omega) (by omega) []
  simp [blowFuse, hact, hslot]

theorem blowFuse_revokeVendor {k : Nat} (hk : k < 4) (d : Dev) :
    blowFuse (fuseValue 3 k []) d = { d with fuses := { d.fuses with vendorRevoked := d.fuses.vendorRevoked ++ [k] } } := by
  obtain ⟨hact, hslot, -⟩ := fuseValue_fields (act := 3) (k := k) (by omega) (by omega) []
  simp [blowFuse, hact, hslot]

/-- Each bit of DEBUG_FUSES is the bit of one enable of 0x7002 (R401). -/
theorem debugFuseBit_onto {k : Nat} (hk : k < 4) : ∃ e, e < 4 ∧ debugFuseBit e = k := by
  have h : ∀ k : Fin 4, ∃ e : Fin 4, debugFuseBit e = k := by decide
  obtain ⟨e, he⟩ := h ⟨k, hk⟩
  exact ⟨e, e.isLt, he⟩
theorem debugFuseBit_inj {e e' : Nat} (he : e < 4) (he' : e' < 4) (h : debugFuseBit e = debugFuseBit e') : e = e' := by
  have hall : ∀ e e' : Fin 4, debugFuseBit e = debugFuseBit e' → e = e' := by decide
  exact congrArg Fin.val (hall ⟨e, he⟩ ⟨e', he'⟩ h)

/-- A forbidden enable: its fuse is blown, it reads 0 and nothing is staged for it (R394). -/
theorem blowFuse_forbidDebug {e : Nat} (he : e < 4) (d : Dev) :
    blowFuse (fuseValue 4 (debugFuseBit e) []) d = setStg (setCurNat
      { d with fuses := { d.fuses with debugOff := setBit d.fuses.debugOff (debugFuseBit e) true } } 0x7002 (e + 1) 0) 0x7002 (e + 1) none := by
  have hbit : debugFuseBit e < 2 ^ 8 := by unfold debugFuseBit; split <;> decide
  obtain ⟨hact, hslot, -⟩ := fuseValue_fields (act := 4) (by omega) hbit []
  have hone (f : Nat → Dev → Dev) (d : Dev) :
      (List.range 4).foldl (fun d e' => if debugFuseBit e' = debugFuseBit e then f e' d else d) d = f e d := by
    have h4 : List.range 4 = [0, 1, 2, 3] := rfl
    rw [h4]
    interval_cases e <;> rfl
  simp only [blowFuse, hact, hslot]
  exact hone (fun e d => setStg (setCurNat d 0x7002 (e + 1) 0) 0x7002 (e + 1) none) _


/-- An answer to a session's message goes to the log of outputs, and nothing else moves. -/
theorem reply_out (d d' : Dev) (n : SessN) (tag op : Nat) (b body : List Byte) :
    reply (listMsg d n tag b) op abOk body d' = { d' with out := d'.out ++ [.listResp d'.fuses.vendorId (some n.val) (op + 128) tag abOk body] } := by
  simp [reply, emit, listMsg, abOk]

/-- The command `i` writes a DOMAIN value whole and comes to `d`: BEGIN, one segment and END are answered, and only the list, the fuses and the report
requests differ beside them. -/
def WritesWhole (n : SessN) (tag : Nat) (s : State) (i : Instr) (d : Dev) : Prop :=
  exec i s = .next { s with dev := d } ∧
    d.out = s.dev.out ++ [answerOf s.dev n tag 0x83 [], answerOf s.dev n tag 0x84 [], answerOf s.dev n tag 0x85 (leBytes 8 s.dev.kerf.counter)] ∧
    { d with list := s.dev.list, fuses := s.dev.fuses, reports := s.dev.reports, out := s.dev.out } = s.dev

section fuseRequest
variable {n : SessN} {x : Session} {tag : Nat} {s : State} {k : Nat}

/-- A fuse request is a whole write whose value is carried out (R394). -/
theorem exec_fuseRequest {i : Instr} {v : List Byte} (hexec : exec i s = onDev (listJob (.whole (some n) tag 0x7042 0 v)) s)
    (hmay : MayWriteDomain s.dev n x 0x7042 0 v) : ∃ ss, exec i s = .next { s with
      dev := reply (listMsg s.dev n tag []) 5 abOk (leBytes 8 s.dev.kerf.counter)
               (blowFuse v (setCur (listSide ss (wholeAnswers s.dev n tag v) s.dev) 0x7042 0 (some (.bytes v)))) } := by
  obtain ⟨r, hr, himm⟩ := entryRow_fuseRequest
  exact exec_wholeWrite hexec hmay hr himm (by omega) (by omega) (by omega) (fun e => dependents_fuseRequest e _)

theorem fuseOwnerSlot_blows {hash : List Byte} (hmay : MayWriteDomain s.dev n x 0x7042 0 (fuseValue 1 k hash)) (hk : k < 4) :
    ∃ d, WritesWhole n tag s (.fuseOwnerSlot (some n) tag k hash) d ∧ tabGet [] d.fuses.ownerHash k = padTo 64 hash ∧
      (∀ j, j ≠ k → tabGet [] d.fuses.ownerHash j = tabGet [] s.dev.fuses.ownerHash j) ∧
      { d.fuses with ownerHash := s.dev.fuses.ownerHash } = s.dev.fuses ∧ d.reports = s.dev.reports := by
  obtain ⟨ss, h⟩ := exec_fuseRequest (i := .fuseOwnerSlot (some n) tag k hash) rfl hmay
  rw [blowFuse_ownerSlot hk, reply_out] at h
  refine ⟨_, ⟨h, ?_, rfl⟩, tabGet_tabSet_same .., fun j hj => tabGet_tabSet_other _ _ _ hj, rfl, rfl⟩
  exact wholeAnswers_end (fuseValue_ne_nil 1 k hash) ..

theorem revokeOwnerSlot_blows (hmay : MayWriteDomain s.dev n x 0x7042 0 (fuseValue 2 k [])) (hk : k < 4) :
    ∃ d, WritesWhole n tag s (.revokeOwnerSlot (some n) tag k) d ∧
      d.fuses = { s.dev.fuses with ownerRevoked := s.dev.fuses.ownerRevoked ++ [k] } ∧ d.reports = s.dev.reports := by
  obtain ⟨ss, h⟩ := exec_fuseRequest (i := .revokeOwnerSlot (some n) tag k) rfl hmay
  rw [blowFuse_revokeOwner hk, reply_out] at h
  refine ⟨_, ⟨h, ?_, rfl⟩, rfl, rfl⟩
  exact wholeAnswers_end (fuseValue_ne_nil 2 k []) ..

theorem revokeVendorSlot_blows (hmay : MayWriteDomain s.dev n x 0x7042 0 (fuseValue 3 k [])) (hk : k < 4) :
    ∃ d, WritesWhole n tag s (.revokeVendorSlot (some n) tag k) d ∧
      d.fuses = { s.dev.fuses with vendorRevoked := s.dev.fuses.vendorRevoked ++ [k] } ∧ d.reports = s.dev.reports := by
  obtain ⟨ss, h⟩ := exec_fuseRequest (i := .revokeVendorSlot (some n) tag k) rfl hmay
  rw [blowFuse_revokeVendor hk, reply_out] at h
  refine ⟨_, ⟨h, ?_, rfl⟩, rfl, rfl⟩
  exact wholeAnswers_end (fuseValue_ne_nil 3 k []) ..

theorem forbidDebugEnable_blows (hmay : MayWriteDomain s.dev n x 0x7042 0 (fuseValue 4 k [])) (hk : k < 4) :
    ∃ d, WritesWhole n tag s (.forbidDebugEnable (some n) tag k) d ∧
      d.fuses = { s.dev.fuses with debugOff := setBit s.dev.fuses.debugOff k true } ∧ d.reports = s.dev.reports ∧
      (∀ e, e < 4 → debugFuseBit e = k → ent d 0x7002 (e + 1) = 0 ∧ isStaged d 0x7002 (e + 1) = false) := by
  obtain ⟨e, he, rfl⟩ := debugFuseBit_onto hk
  obtain ⟨ss, h⟩ := exec_fuseRequest (i := .forbidDebugEnable (some n) tag (debugFuseBit e)) rfl hmay
  rw [blowFuse_forbidDebug he, reply_out] at h
  refine ⟨_, ⟨h, ?_, rfl⟩, rfl, rfl, ?_⟩
  · exact wholeAnswers_end (fuseValue_ne_nil 4 (debugFuseBit e) []) ..
  · intro e' he' hbit
    obtain rfl := debugFuseBit_inj he' he hbit
    simp [ent, isStaged, setStg, setCurNat, setCur]

end fuseRequest

section otherEntries
variable {n : SessN} {x : Session} {tag : Nat} {s : State}

theorem length_roleValue_some (hash : List Byte) (role : Nat) : (roleValue (some (hash, role))).length = 65 := by simp [roleValue]

/-- A role key is a whole write of its entry, which holds the value then (R397). -/
theorem exec_roleKey {k : Fin 16} {key : Option (List Byte × Nat)} (hmay : MayWriteDomain s.dev n x 0x7030 (k + 1) (roleValue key)) :
    ∃ ss, exec (.roleKey (some n) tag k key) s = .next { s with
      dev := reply (listMsg s.dev n tag []) 5 abOk (leBytes 8 s.dev.kerf.counter)
               (setCur (listSide ss (wholeAnswers s.dev n tag (roleValue key)) s.dev) 0x7030 (k + 1) (some (.bytes (roleValue key)))) } := by
  obtain ⟨r, hr, himm⟩ := entryRow_roleKey k
  exact exec_wholeWrite (i := .roleKey (some n) tag k key) rfl hmay hr himm (by omega) (by omega) (by omega) (fun e => dependents_roleKey e _ _)

theorem entBytes_setCur (d : Dev) (idx sub : Nat) (v : List Byte) : entBytes (setCur d idx sub (some (.bytes v))) idx sub = v := by
  simp [entBytes, setCur]

theorem roleKey_stored {k : Fin 16} {hash : List Byte} {role : Nat} (hmay : MayWriteDomain s.dev n x 0x7030 (k + 1) (roleValue (some (hash, role)))) :
    ∃ d, WritesWhole n tag s (.roleKey (some n) tag k (some (hash, role))) d ∧ entBytes d 0x7030 (k + 1) = padTo 64 hash ++ leBytes 1 role ∧
      d.fuses = s.dev.fuses ∧ d.reports = s.dev.reports := by
  obtain ⟨ss, h⟩ := exec_roleKey (tag := tag) hmay
  rw [reply_out] at h
  refine ⟨_, ⟨h, ?_, rfl⟩, entBytes_setCur .., rfl, rfl⟩
  have hne : roleValue (some (hash, role)) ≠ [] := by
    intro h0
    have := length_roleValue_some hash role
    simp [h0] at this
  exact wholeAnswers_end hne ..

theorem roleKey_emptied {k : Fin 16} (hmay : MayWriteDomain s.dev n x 0x7030 (k + 1) []) :
    ∃ d, exec (.roleKey (some n) tag k none) s = .next { s with dev := d } ∧ entBytes d 0x7030 (k + 1) = [] ∧
      d.out = s.dev.out ++ [answerOf s.dev n tag 0x83 [], answerOf s.dev n tag 0x85 (leBytes 8 s.dev.kerf.counter)] ∧
      { d with list := s.dev.list, out := s.dev.out } = s.dev := by
  obtain ⟨ss, h⟩ := exec_roleKey (tag := tag) (key := none) hmay
  rw [reply_out] at h
  refine ⟨_, h, entBytes_setCur .., ?_, rfl⟩
  exact List.append_assoc ..

/-- What octets do to ENCLAVE_REPORT_REQ: the value is held, and so are its EID and nonce for the session (R383). -/
theorem immBytes_reportRequest (n : Nat) (v : List Byte) (d : Dev) : immBytes n 0x7010 0 v d =
    { d with
      list := (setCur d 0x7010 0 (some (.bytes v))).list
      reports := tabSet none d.reports n (some (leAt v 0 2, padTo 32 (v.drop 2))) } := rfl

theorem reportValue_fields (eid : BitVec 16) (nonce : List Byte) : leAt (leBytes 2 eid.toNat ++ padTo 32 nonce) 0 2 = eid.toNat ∧
    padTo 32 ((leBytes 2 eid.toNat ++ padTo 32 nonce).drop 2) = padTo 32 nonce := by
  simp [leAt, sliceOf, leBytes, leNat, padTo_of_length]
  omega

theorem enclaveReportReq_stored {eid : BitVec 16} {nonce : List Byte}
    (hmay : MayWriteDomain s.dev n x 0x7010 0 (leBytes 2 eid.toNat ++ padTo 32 nonce)) :
    ∃ d, WritesWhole n tag s (.enclaveReportReq (some n) tag eid nonce) d ∧ tabGet none d.reports n = some (eid.toNat, padTo 32 nonce) ∧
      (∀ k, k ≠ n.val → tabGet none d.reports k = tabGet none s.dev.reports k) ∧ d.fuses = s.dev.fuses := by
  obtain ⟨r, hr, himm⟩ := entryRow_reportRequest
  obtain ⟨ss, h⟩ := exec_wholeWrite (i := .enclaveReportReq (some n) tag eid nonce) rfl hmay hr himm (by omega) (by omega) (by omega)
    (fun e => dependents_reportRequest e _)
  obtain ⟨heid, hnonce⟩ := reportValue_fields eid nonce
  rw [immBytes_reportRequest, heid, hnonce, reply_out] at h
  refine ⟨_, ⟨h, ?_, rfl⟩, ?_, ?_, rfl⟩
  · exact wholeAnswers_end (by simp [leBytes]) ..
  · show tabGet none (tabSet none s.dev.reports n (some (eid.toNat, padTo 32 nonce))) n = _
    exact tabGet_tabSet_same ..
  · intro k hk
    show tabGet none (tabSet none s.dev.reports n (some (eid.toNat, padTo 32 nonce))) k = _
    exact tabGet_tabSet_other _ _ _ hk

/-- A session with the report's read transfer open. -/
def readingReport (v : List Byte) (x : Session) : Session :=
  { x with transfer := some { write := false, idx := 0x7010, sub := 1, total := 320, data := v, live := false, staged := false }, report := none }

theorem readBegin_report {r : EntryRow} {v : List Byte} {d : Dev} (hown : ownWrite x = false) (hr : entryRow 0x7010 1 = some r) (hmax : r.max = 320)
    (htarget : targetCode d x.role false true 0x7010 1 [] = abOk) (hv : curBytes d n x.role r 0x7010 1 = v) (hlen : v.length = 320) :
    let m := listMsg d n tag (leBytes 2 0x7010 ++ [1, 0])
    readBegin m n x d = reply m 6 abOk (leBytes 4 320) (withSess n (readingReport v) d) := by
  intro m
  have hb : m.body.length = 4 ∧ leAt m.body 0 2 = 0x7010 ∧ leAt m.body 2 1 = 1 ∧ leAt m.body 3 1 = 0 := ⟨rfl, rfl, rfl, rfl⟩
  obtain ⟨hl, hidx, hsub, hflag⟩ := hb
  unfold readBegin
  simp [hl, hidx, hsub, hflag, hr, htarget, hown, hv, hlen, hmax, firstCode, orCode, abOk]
  rfl

theorem readSegment_report {v : List Byte} (hlen : v.length = 320) (d d' : Dev) :
    let m := listMsg d n tag (leBytes 4 0 ++ leBytes 2 320)
    readSegment m n (readingReport v x) d' = reply m 7 abOk (leBytes 2 320 ++ v) d' := by
  intro m
  have hb : m.body.length = 6 ∧ leAt m.body 0 4 = 0 ∧ leAt m.body 4 2 = 320 := ⟨rfl, rfl, rfl⟩
  obtain ⟨hl, hoff, hsize⟩ := hb
  have ht : transferOf (readingReport v x) false =
      some { write := false, idx := 0x7010, sub := 1, total := 320, data := v, live := false, staged := false } := rfl
  have htake : v.take 320 = v := List.take_of_length_le (by omega)
  unfold readSegment
  simp [hl, hoff, hsize, ht, segmentBytes, sliceOf, htake]

theorem enclaveReport_read {r : EntryRow} {v : List Byte} (hserved : SessionServed s.dev n x) (hown : ownWrite x = false)
    (hr : entryRow 0x7010 1 = some r) (htarget : targetCode s.dev x.role false true 0x7010 1 [] = abOk)
    (hv : curBytes s.dev n x.role r 0x7010 1 = v) (hlen : v.length = 320) :
    ∃ d, exec (.enclaveReport (some n) tag) s = .next { s with dev := d } ∧ { d with list := s.dev.list, out := s.dev.out } = s.dev ∧
      d.out = s.dev.out ++ [answerOf s.dev n tag 0x86 (leBytes 4 320), answerOf s.dev n tag 0x87 (leBytes 2 320 ++ v)] := by
  obtain ⟨hup, hx, hfin, hstep1⟩ := hserved
  obtain ⟨r', hr', hmax⟩ := entryRow_report
  obtain rfl : r' = r := Option.some.inj (hr'.symm.trans hr)
  let ss := tabUpd none s.dev.list.sessions n (Option.map (readingReport v))
  let os := [answerOf s.dev n tag 0x86 (leBytes 4 320)]
  let m₆ := listMsg s.dev n tag (leBytes 2 0x7010 ++ [1, 0])
  have hbegin : onList m₆ 6 (readBegin m₆) s.dev = listSide ss os s.dev := by
    have h := onList_listSide hup hx hfin tag 6 (leBytes 2 0x7010 ++ [1, 0]) [] (readBegin m₆)
    rw [listSide_self] at h
    rw [h, readBegin_report hown hr hmax htarget hv hlen]
    conv_lhs => rw [← listSide_self s.dev]
    rw [withSess_listSide]
    exact reply_ok_listSide ..
  have hx₁ : tabGet none ss n = some (readingReport v x) := by
    have hx' : tabGet none s.dev.list.sessions n = some x := hx
    simp [ss, hx']
  have hopen := openSess_listSide (d := s.dev) hx₁ hfin tag (leBytes 2 0x7010 ++ [1, 0]) os
  have ht : transferOf (readingReport v x) false =
      some { write := false, idx := 0x7010, sub := 1, total := 320, data := v, live := false, staged := false } := rfl
  have hread : reportRead (some n) tag s.dev = listSide ss (os ++ [answerOf s.dev n tag 0x87 (leBytes 2 320 ++ v)]) s.dev := by
    have hmsg (b : List Byte) : ({ vendor := s.dev.fuses.vendorId, sess := some n, version := 1, tag := tag, body := b } : ListMsg) = listMsg s.dev n tag b := rfl
    unfold reportRead
    simp only [hmsg]
    rw [hbegin, hopen]
    simp only [ht, and_self, if_true]
    rw [onList_listSide hup hx₁ hfin, readSegment_report hlen, reply_ok_listSide]
  refine ⟨listSide ss (os ++ [answerOf s.dev n tag 0x87 (leBytes 2 320 ++ v)]) s.dev, ?_, rfl, rfl⟩
  have hexec : exec (.enclaveReport (some n) tag) s = onDev (listJob (.report (some n) tag)) s := rfl
  rw [hexec, ← hread]
  simp [onDev, listJob, hstep1, runJob]

end otherEntries

/-- Settles O40: each command is a DOMAIN value written whole, whose END carries out the request, or a report read whole. -/
theorem domainWritesWhole : Obligations.DomainWritesWhole := by
  intro n x tag s
  exact ⟨fun k hash h hk => fuseOwnerSlot_blows h hk, fun k h hk => revokeOwnerSlot_blows h hk, fun k h hk => revokeVendorSlot_blows h hk,
    fun k h hk => forbidDebugEnable_blows h hk, fun k hash role h => roleKey_stored h, fun k h => roleKey_emptied h,
    fun eid nonce h => enclaveReportReq_stored h, fun r v h hown hr htarget hv hlen => enclaveReport_read h hown hr htarget hv hlen⟩

end Sys2Proof.Proofs
end

section
namespace Sys2Proof.Proofs

open Sys2Proof.Machine

/-! ### Bit fields -/

theorem getBit_eq_testBit (n i : Nat) : getBit n i = n.testBit i := by
  rw [Nat.testBit_eq_decide_div_mod_eq]
  rfl

theorem testBit_getBits (n lo w j : Nat) : (getBits n lo w).testBit j = (decide (j < w) && n.testBit (lo + j)) := by
  rw [getBits, Nat.testBit_mod_two_pow, Nat.testBit_div_two_pow, Nat.add_comm]

/-- A number with a field replaced, as what stands above the field, the field, and what stands below it. -/
theorem setBits_eq (n lo w v : Nat) : setBits n lo w v = 2 ^ lo * (2 ^ w * (n / 2 ^ lo / 2 ^ w) + v % 2 ^ w) + n % 2 ^ lo := by
  have hn : n = 2 ^ lo * (2 ^ w * (n / 2 ^ lo / 2 ^ w)) + n / 2 ^ lo % 2 ^ w * 2 ^ lo + n % 2 ^ lo := by
    conv_lhs => rw [← Nat.div_add_mod n (2 ^ lo), ← Nat.div_add_mod (n / 2 ^ lo) (2 ^ w)]
    ring
  have hr : 2 ^ lo * (2 ^ w * (n / 2 ^ lo / 2 ^ w) + v % 2 ^ w) = 2 ^ lo * (2 ^ w * (n / 2 ^ lo / 2 ^ w)) + v % 2 ^ w * 2 ^ lo := by ring
  unfold setBits getBits
  omega

theorem testBit_setBits (n lo w v j : Nat) :
    (setBits n lo w v).testBit j = if lo ≤ j ∧ j < lo + w then v.testBit (j - lo) else n.testBit j := by
  rw [setBits_eq, Nat.testBit_two_pow_mul_add _ (Nat.mod_lt _ (Nat.two_pow_pos lo))]
  by_cases hlo : j < lo
  · rw [if_pos hlo, if_neg (by omega), Nat.testBit_mod_two_pow]
    simp [hlo]
  · rw [if_neg hlo, Nat.testBit_two_pow_mul_add _ (Nat.mod_lt _ (Nat.two_pow_pos w))]
    by_cases hw : j - lo < w
    · rw [if_pos hw, if_pos (by omega), Nat.testBit_mod_two_pow]
      simp [hw]
    · rw [if_neg hw, if_neg (by omega), Nat.testBit_div_two_pow, Nat.testBit_div_two_pow]
      congr 1
      omega

/-- A field reads what was written to it. -/
theorem getBits_setBits_same (n lo w v : Nat) : getBits (setBits n lo w v) lo w = v % 2 ^ w := by
  apply Nat.eq_of_testBit_eq
  intro j
  rw [testBit_getBits, testBit_setBits, Nat.testBit_mod_two_pow]
  by_cases hj : j < w
  · simp [hj]
  · simp [hj]

/-- A write of one field leaves every other. -/
theorem getBits_setBits_other (n : Nat) {lo w lo' w' : Nat} (v : Nat) (h : lo' + w' ≤ lo ∨ lo + w ≤ lo') :
    getBits (setBits n lo w v) lo' w' = getBits n lo' w' := by
  apply Nat.eq_of_testBit_eq
  intro j
  rw [testBit_getBits, testBit_getBits, testBit_setBits]
  by_cases hj : j < w'
  · rw [if_neg (by omega)]
  · simp [hj]

/-- Clearing the bits of a mask, bit by bit. -/
theorem testBit_sub_and (a v j : Nat) : (a - (a &&& v)).testBit j = (a.testBit j && !v.testBit j) := by
  induction j generalizing a v with
  | zero =>
    have hle : a &&& v ≤ a := Nat.and_le_left
    have hodd : ((a &&& v) % 2 = 1) ↔ (a % 2 = 1 ∧ v % 2 = 1) := by
      simp
    rw [Bool.eq_iff_iff]
    simp only [Nat.testBit_zero, Bool.and_eq_true, Bool.not_eq_true', decide_eq_true_eq, decide_eq_false_iff_not]
    omega
  | succ j ih =>
    have hle : a &&& v ≤ a := Nat.and_le_left
    have hhalf : (a &&& v) / 2 = a / 2 &&& v / 2 := Nat.and_div_two
    have hodd : (a &&& v) % 2 ≤ a % 2 := by
      have h : (a &&& v) % 2 = a % 2 &&& v % 2 := Nat.and_mod_two_pow (n := 1)
      rw [h]
      exact Nat.and_le_left
    have hsub : (a - (a &&& v)) / 2 = a / 2 - (a / 2 &&& v / 2) := by omega
    rw [Nat.testBit_succ, Nat.testBit_succ, Nat.testBit_succ, hsub, ih]

/-! ### Holds (R390) -/

/-- What a write of a hold register does before harts are released: the register's own bits. -/
def holdPut (r v : Nat) (d : Dev) : Dev :=
  match r with
  | 0 => { d with holds := setBits d.holds 0 64 v }
  | 1 => { d with holds := setBits d.holds 64 64 v }
  | 2 => { d with holds := setBits d.holds 128 64 v }
  | 3 => { d with holds := setBits d.holds 192 24 v }
  | _ => { d with holdUnits := packFields [(v, 0, 12), (getBits v 16 4, 16, 4)] }

theorem holdWrite_eq {d : Dev} (hsec : secureExists d = true) (r v : Nat) : holdWrite r v d = releaseRest (holdPut r v d) := by
  unfold holdWrite
  rw [if_pos hsec]
  rfl

theorem holdWrite_absent {d : Dev} (hsec : secureExists d = false) (r v : Nat) : holdWrite r v d = d := by
  unfold holdWrite
  rw [hsec]
  rfl

/-- Registers 0 to 3 are the fields of `holds`, the last of them 24 bits wide. -/
theorem holdPut_of_lt {r : Nat} (hr : r < 4) (v : Nat) (d : Dev) :
    holdPut r v d = { d with holds := setBits d.holds (64 * r) (if r = 3 then 24 else 64) v } := by
  interval_cases r <;> rfl

theorem holdPut_four (v : Nat) (d : Dev) : holdPut 4 v d = { d with holdUnits := packFields [(v, 0, 12), (getBits v 16 4, 16, 4)] } := rfl

theorem holdRead_of_secure {d : Dev} (hsec : secureExists d = true) {k : Nat} (hk : k < 4) : holdRead d k = getBits d.holds (64 * k) 64 := by
  simp [holdRead, hsec, hk]

/-- A write of a hold register that takes it: its bits, no other hold register's, and no other unit before resting harts are let go. -/
theorem holdRegisterWrite_puts {h : HartN} (r : Fin 5) (v : Word) {s : State} (hruns : hartRuns s.dev h = true) (hm : (hartOf s.dev h).mode = .m)
    (hsec : secureExists s.dev = true) :
    ∃ d, exec (.holdRegisterWrite h r v) s = .next { s with dev := releaseRest d } ∧ { d with holds := s.dev.holds, holdUnits := s.dev.holdUnits } = s.dev ∧
      (∀ k, k < 4 → k ≠ r.val → holdRead d k = holdRead s.dev k) ∧ (r.val < 3 → holdRead d r = v.toNat) ∧
      (r.val = 3 → getBits d.holds 192 24 = v.toNat % 2 ^ 24) ∧ (r.val < 4 → d.holdUnits = s.dev.holdUnits) ∧
      (r.val = 4 → d.holds = s.dev.holds ∧ d.holdUnits = packFields [(v.toNat, 0, 12), (getBits v.toNat 16 4, 16, 4)]) := by
  have hexec : exec (.holdRegisterWrite h r v) s = .next { s with dev := releaseRest (holdPut r v.toNat s.dev) } := by
    have h0 : exec (.holdRegisterWrite h r v) s =
        onDev (onHart h (fun d => if (hartOf d h).mode = .m then holdWrite r v.toNat d else d)) s := rfl
    rw [h0]
    simp [onDev, onHart, hruns, hm, holdWrite_eq hsec]
  refine ⟨_, hexec, ?_⟩
  by_cases hr : r.val < 4
  · rw [holdPut_of_lt hr]
    generalize hH : setBits s.dev.holds (64 * r.val) (if r.val = 3 then 24 else 64) v.toNat = H
    have hsec' : secureExists { s.dev with holds := H } = true := hsec
    refine ⟨rfl, fun k hk hne => ?_, fun h3 => ?_, fun h3 => ?_, fun _ => rfl, fun h4 => absurd h4 (by omega)⟩
    · rw [holdRead_of_secure hsec' hk, holdRead_of_secure hsec hk, ← hH]
      exact getBits_setBits_other _ _ (by split <;> omega)
    · rw [holdRead_of_secure hsec' (by omega), ← hH, if_neg (by omega), getBits_setBits_same]
      exact Nat.mod_eq_of_lt v.isLt
    · subst hH
      simp only [h3]
      exact getBits_setBits_same ..
  · have h4 : r.val = 4 := by omega
    rw [h4, holdPut_four]
    generalize packFields [(v.toNat, 0, 12), (getBits v.toNat 16 4, 16, 4)] = U
    have hsec' : secureExists { s.dev with holdUnits := U } = true := hsec
    refine ⟨rfl, fun k hk _ => ?_, fun h => absurd h (by omega), fun h => absurd h (by omega), fun h => absurd h (by omega), fun _ => ⟨rfl, rfl⟩⟩
    rw [holdRead_of_secure hsec' hk, holdRead_of_secure hsec hk]

end Sys2Proof.Proofs
end

section
namespace Sys2Proof.Proofs

open Sys2Proof.Machine

/-! ### Uncached accesses (R197, R371, R446) -/

/-- What travels over a die's link leaves the mirror as it is. -/
theorem sendWake_mirror (n : Nat) (d : Dev) : (sendWake n d).mirror = d.mirror := by
  unfold sendWake
  split
  · rw [emit_mirror, updLink_mirror]
  · rfl

theorem drainBundle_mirror (n : Nat) (up : Bool) (d : Dev) : (drainBundle n up d).mirror = d.mirror := by
  by_cases h : linkStalls (linkOf d n) = true
  · simp only [drainBundle, h, if_true]
  · simp only [drainBundle, h]
    rfl

theorem updBundle_mirror (n : Nat) (up : Bool) (f : Bundle → Bundle) (d : Dev) : (updBundle n up f d).mirror = d.mirror := updLink_mirror ..

theorem countDie_if_mirror (c : Bool) (n slot : Nat) (d : Dev) : (if c then countDie n slot d else d).mirror = d.mirror := by
  split
  · exact countDie_mirror ..
  · rfl

theorem send_mirror (up : Bool) (m : FMsg) (d : Dev) : (send up m d).mirror = d.mirror := by
  unfold send
  rw [countDie_if_mirror, drainBundle_mirror, updBundle_mirror, countDie_mirror]
  split
  · rfl
  · exact sendWake_mirror ..

theorem ackWrite_mirror (req : Option FMsg) (d : Dev) : (ackWrite req d).mirror = d.mirror := by
  cases req with
  | none => rfl
  | some m => exact send_mirror ..

section messages
variable {m : FMsg} {s : State}

/-- A message that passes and is of the die's incarnation in service is handled as it arrives. -/
theorem not_staleFrom_arrive (hin : InService s.dev m) (op : Op) : staleFrom (arrive { m with op := op } s.dev) { m with op := op } = false := by
  obtain ⟨hinc, hret⟩ := hin
  simp [staleFrom, hinc, hret]

theorem exec_ncrd (hpass : Passes s.dev m.die) : exec (.ncrd m) s = .next { s with dev := ncrdArrives m s.dev } := by
  have hexec : exec (.ncrd m) s = onDev (overLink m (ncrdArrives m)) s := rfl
  have hpass' : linkStalls (linkOf s.dev m.die) = false := hpass
  rw [hexec]
  simp [onDev, overLink, hpass']

theorem exec_ncwr (hpass : Passes s.dev m.die) : exec (.ncwr m) s = .next { s with dev := ncwrArrives m s.dev } := by
  have hexec : exec (.ncwr m) s = onDev (overLink m (ncwrArrives m)) s := rfl
  have hpass' : linkStalls (linkOf s.dev m.die) = false := hpass
  rw [hexec]
  simp [onDev, overLink, hpass']

/-- A device answers a read at once where no write is held back on its root port (R418). -/
theorem deviceRead_of_no_clamp {m : FMsg} {d : Dev} (h : ∀ e ∈ d.mirror.clamp, e.rp ≠ Config.rootPort m.addr % 16) : deviceRead m d = serveRead m d := by
  have hnone : d.mirror.clamp.filter (fun e => e.rp == Config.rootPort m.addr % 16) = [] := by
    rw [List.filter_eq_nil_iff]
    intro e he
    simpa using h e he
  simp [deviceRead, hnone]

/-- A write leaves the package at once where no pair holds it, and is acknowledged (R417). -/
theorem outbound_of_not_held {d : Dev} (h : clampHolds d = false) (addr : Nat) (data : List Byte) (req : Option FMsg) :
    outbound addr data req d = ackWrite req (emit (.device true addr data.length (leNat data)) d) := by
  have hplace (e : Held) : place e req d = ackWrite req (emit (.device true e.addr e.data.length (leNat e.data)) d) := by
    unfold place
    rw [h]
    rfl
  have hstalled : (ackWrite req (emit (.device true addr data.length (leNat data)) d)).mirror.stalled.length - d.mirror.stalled.length = 0 := by
    rw [ackWrite_mirror, emit_mirror, Nat.sub_self]
  unfold outbound
  simp only [hplace, hstalled]
  generalize ackWrite req (emit (.device true addr data.length (leNat data)) d) = e
  rfl

theorem hubReg_arrive (q : FMsg) (d : Dev) (h off : Nat) : hubReg (arrive q d) h off = hubReg d h off := by
  have hhold (r : Nat) : holdRead (arrive q d) r = holdRead d r := rfl
  unfold hubReg
  simp only [hhold, cmdOf_arrive]

/-- A read of the hub control range: the register's bytes, or a free value where no rule places one. (Opened as a function: at an address, unfolding would
have the kernel count down from `hubBase`.) -/
theorem hubRead_cases (d : Dev) (h addr size : Nat) :
    (∀ v, hubReg d h (addr - hubBase) = some v → hubRead h addr size d = (v / 2 ^ (8 * ((addr - hubBase) % 8)) % 2 ^ (8 * size), d)) ∧
    (hubReg d h (addr - hubBase) = none → hubRead h addr size d = (freeVal d % 2 ^ (8 * size), drawn d)) := by
  generalize hf : hubRead = f
  delta hubRead at hf
  subst hf
  beta_reduce
  generalize addr - hubBase = off
  constructor
  · intro v hv
    simp only [hv]
  · intro hv
    simp only [hv]

/-- An NCRD that is served: a register of the hub, a free value where there is none, the Gauge's window, or a device. -/
theorem ncrdArrives_hub (hin : InService s.dev m) (hhub : inHubRange m.addr = true) {v : Nat} {d : Dev}
    (hread : hubRead (18 * m.die + m.core % 18) m.addr m.size (arrive { m with op := .ncrd } s.dev) = (v, d)) :
    ncrdArrives m s.dev = ncReply { m with op := .ncrd } v d := by
  unfold ncrdArrives
  dsimp only
  rw [not_staleFrom_arrive hin, hhub, hread]
  simp only [Bool.false_eq_true, if_false, if_true]

theorem ncrdArrives_gaugeWindow (hin : InService s.dev m) (hhub : inHubRange m.addr = false) (hwin : inGaugeWindow m.addr = true) :
    ncrdArrives m s.dev = ncReply { m with op := .ncrd } (windowRead s.dev m.addr m.size) (arrive { m with op := .ncrd } s.dev) := by
  have hread : windowRead (arrive { m with op := .ncrd } s.dev) m.addr m.size = windowRead s.dev m.addr m.size := rfl
  simp only [ncrdArrives, if_true, if_false, Bool.false_eq_true, not_staleFrom_arrive hin, hhub, hwin, hread]

theorem ncrdArrives_device (hin : InService s.dev m) (hhub : inHubRange m.addr = false) (hwin : inGaugeWindow m.addr = false)
    (hclamp : ∀ e ∈ s.dev.mirror.clamp, e.rp ≠ Config.rootPort m.addr % 16) :
    ncrdArrives m s.dev = serveRead { m with op := .ncrd } (arrive { m with op := .ncrd } s.dev) := by
  have hread := deviceRead_of_no_clamp (m := { m with op := .ncrd }) (d := arrive { m with op := .ncrd } s.dev) hclamp
  simp only [ncrdArrives, if_false, Bool.false_eq_true, not_staleFrom_arrive hin, hhub, hwin, hread]

/-- An NCWR that is served: a register of the hub, the Gauge's window, or a device. -/
theorem ncwrArrives_hub (hin : InService s.dev m) (hhub : inHubRange m.addr = true) : ncwrArrives m s.dev =
      hubWrite (18 * m.die + m.core % 18) m.addr m.size (m.data.toNat % 2 ^ (8 * m.size))
        (ackWrite (some { m with op := .ncwr }) (arrive { m with op := .ncwr } s.dev)) := by
  simp only [ncwrArrives, if_true, if_false, Bool.false_eq_true, not_staleFrom_arrive hin, hhub]

theorem ncwrArrives_gaugeWindow (hin : InService s.dev m) (hhub : inHubRange m.addr = false) (hwin : inGaugeWindow m.addr = true) :
    ncwrArrives m s.dev = countPkg pkgGaugeWrite (ackWrite (some { m with op := .ncwr }) (arrive { m with op := .ncwr } s.dev)) := by
  simp only [ncwrArrives, if_true, if_false, Bool.false_eq_true, not_staleFrom_arrive hin, hhub, hwin]

theorem ncwrArrives_device (hin : InService s.dev m) (hhub : inHubRange m.addr = false) (hwin : inGaugeWindow m.addr = false)
    (hclamp : clampHolds s.dev = false) : ncwrArrives m s.dev = ackWrite (some { m with op := .ncwr })
      (emit (.device true m.addr m.size (leNat (leBytes m.size m.data.toNat))) (arrive { m with op := .ncwr } s.dev)) := by
  have hclamp' : clampHolds (arrive { m with op := .ncwr } s.dev) = false := hclamp
  simp only [ncwrArrives, if_false, Bool.false_eq_true, not_staleFrom_arrive hin, hhub, hwin, outbound_of_not_held hclamp', length_leBytes]

end messages

/-! ### IMSW (R103, R215) -/

/-- The die and core of a hart by its number. -/
theorem dieOfHart_mk (n k : Nat) : dieOfHart (18 * n + k % 18) = n := by unfold dieOfHart; omega
theorem coreOfHart_mk (n k : Nat) : coreOfHart (18 * n + k % 18) = k % 18 := by unfold coreOfHart; omega

/-- A hart that needs no waking, on a link that is not folded, wakes nothing (R103). -/
theorem wakeForSnoop_awake {d : Dev} {n k : Nat} (hlink : (linkOf d n).state ≠ .folded) (hk : k < 18) (hrest : (hartOf d (18 * n + k)).rest ≠ .retain) :
    wakeForSnoop n (fun j => j == k) d = d := by
  have hnone : (hartsOfDie n).filter (fun h => (coreOfHart h == k) && (hartOf d h).rest == .retain && !(hartOf d h).domainUp) = [] := by
    rw [List.filter_eq_nil_iff]
    intro h hh
    simp only [hartsOfDie, List.mem_map, List.mem_range] at hh
    obtain ⟨j, hj, rfl⟩ := hh
    have hcore : coreOfHart (18 * n + j) = j := by unfold coreOfHart; omega
    by_cases hjk : j = k
    · subst hjk
      simp [hrest]
    · simp [hcore, hjk]
  unfold wakeForSnoop
  simp only [if_neg hlink, hnone]
  rfl

theorem hartOnly_updHart (d : Dev) (h : Nat) (f : Hart → Hart) : HartOnly d (updHart d h f) h (f (hartOf d h)) :=
  ⟨hartOf_updHart_same .., fun _ hk => hartOf_updHart_other d f hk, rfl⟩

/-- An identity from 1 to 255 written to a file of the machine or supervisor level is pending there. -/
theorem imsicSet_pending {file v : Nat} (x : Hart) (h1 : 1 ≤ v) (h255 : v ≤ 255) :
    (file = 0 → v ∈ (imsicSet file v x).imsicM.pending) ∧ (file = 1 → v ∈ (imsicSet file v x).imsicS.pending) := by
  have hput (p : List Nat) : v ∈ (if 1 ≤ v ∧ v ≤ 255 ∧ !p.contains v then v :: p else p) := by
    by_cases hp : v ∈ p <;> simp [h1, h255, hp]
  constructor
  · rintro rfl
    simp only [imsicSet, apply_ite ImsicFile.pending]
    exact hput _
  · rintro rfl
    simp only [imsicSet, apply_ite ImsicFile.pending]
    exact hput _

section imsw
variable {m : FMsg} {file : Fin 9} {s : State}

theorem exec_imsw (hpass : Passes s.dev m.die) : exec (.imsw m file) s = .next { s with dev := imswArrives m file s.dev } := by
  have hexec : exec (.imsw m file) s = onDev (overLink m (imswArrives m file)) s := rfl
  have hpass' : linkStalls (linkOf s.dev m.die) = false := hpass
  rw [hexec]
  simp [onDev, overLink, hpass']

/-- An IMSW for a die that is gone is lost, and counted (R215). -/
theorem imswArrives_lost (hret : (dieOf s.dev m.die).retired = true) (hph : (dieOf s.dev m.die).phase ≠ .withdrawn) :
    imswArrives m file s.dev = countPkg pkgImswLost (arrive { m with op := .imsw, up := false } s.dev) := by
  simp [imswArrives, hret, hph]

/-- An IMSW of the die's incarnation, not lost, is a write of the hart's interrupt file. -/
theorem imswArrives_writes (hinc : m.inc = (dieOf s.dev m.die).inc) (hin : (dieOf s.dev m.die).retired = false ∨ (dieOf s.dev m.die).phase = .withdrawn) :
    imswArrives m file s.dev =
      imsicWrite (18 * m.die + m.core % 18) file (m.data.toNat % 2 ^ 32) (arrive { m with op := .imsw, up := false } s.dev) := by
  have hkeep : ((dieOf s.dev m.die).retired && (dieOf s.dev m.die).phase != .withdrawn) = false := by
    rcases hin with h | h <;> simp [h]
  unfold imswArrives
  simp only [dieOf_arrive, hkeep, Bool.false_eq_true, if_false, hinc, ne_eq, not_true]

/-- A write of the file of a hart taken offline is lost, and counted (R109). -/
theorem imsicWrite_offline {d : Dev} {h : Nat} (hoff : (hartOf d h).offline = true) (file v : Nat) : imsicWrite h file v d = countPkg pkgMsiOffline d := by
  simp [imsicWrite, hoff]

/-- A write of the file of an awake hart of a die in service, or of a withdrawn die, sets it. -/
theorem imsicWrite_sets {d : Dev} {n k : Nat} (hoff : (hartOf d (18 * n + k % 18)).offline = false)
    (hph : (dieOf d n).phase = .withdrawn ∨ ((dieOf d n).phase = .inService ∧ (linkOf d n).state ≠ .folded ∧ (hartOf d (18 * n + k % 18)).rest ≠ .retain))
    (file v : Nat) : imsicWrite (18 * n + k % 18) file v d =
      updHart d (18 * n + k % 18) (fun x => { imsicSet file v x with ckptCurrent := false }) := by
  rcases hph with hw | ⟨hs, hlink, hrest⟩
  · simp [imsicWrite, hoff, dieOfHart_mk, hw]
  · simp [imsicWrite, hoff, dieOfHart_mk, hs, coreOfHart_mk, wakeForSnoop_awake hlink (Nat.mod_lt k (by omega)) hrest]

/-- What an IMSW that is delivered sets: the identity in the file, which is pending then, and the hart's checkpoint is no longer current. -/
theorem imsw_sets (hpass : Passes s.dev m.die) (hinc : m.inc = (dieOf s.dev m.die).inc)
    (hoff : (hartOf s.dev (18 * m.die + m.core % 18)).offline = false)
    (hph : (dieOf s.dev m.die).phase = .withdrawn ∨ ((dieOf s.dev m.die).phase = .inService ∧ (dieOf s.dev m.die).retired = false ∧
      (linkOf s.dev m.die).state ≠ .folded ∧ (hartOf s.dev (18 * m.die + m.core % 18)).rest ≠ .retain)) :
    let h := 18 * m.die + m.core % 18
    let v := m.data.toNat % 2 ^ 32
    ∃ d, exec (.imsw m file) s = .next { s with dev := d } ∧
      HartOnly (arrive { m with op := .imsw, up := false } s.dev) d h { imsicSet file v (hartOf s.dev h) with ckptCurrent := false } ∧
      (1 ≤ v → v ≤ 255 → (file = 0 → v ∈ (hartOf d h).imsicM.pending) ∧ (file = 1 → v ∈ (hartOf d h).imsicS.pending)) := by
  intro h v
  have hin : (dieOf s.dev m.die).retired = false ∨ (dieOf s.dev m.die).phase = .withdrawn := by
    rcases hph with hw | ⟨-, hr, -⟩
    · exact Or.inr hw
    · exact Or.inl hr
  have hset : imswArrives m file s.dev =
      updHart (arrive { m with op := .imsw, up := false } s.dev) h (fun x => { imsicSet file v x with ckptCurrent := false }) := by
    rw [imswArrives_writes hinc hin]
    refine imsicWrite_sets (d := arrive { m with op := .imsw, up := false } s.dev) hoff ?_ file v
    rcases hph with hw | ⟨hs, -, hl, hr⟩
    · exact Or.inl hw
    · exact Or.inr ⟨hs, hl, hr⟩
  have hkeeps := hartOnly_updHart (arrive { m with op := .imsw, up := false } s.dev) h (fun x => { imsicSet file v x with ckptCurrent := false })
  rw [hartOf_arrive] at hkeeps
  refine ⟨_, exec_imsw hpass, ?_, fun h1 h255 => ?_⟩
  · rw [hset]
    exact hkeeps
  · rw [hset, hkeeps.1]
    obtain ⟨hm, hs⟩ := imsicSet_pending (file := file) (hartOf s.dev h) h1 h255
    exact ⟨fun hf => hm (congrArg Fin.val hf), fun hf => hs (congrArg Fin.val hf)⟩

end imsw

end Sys2Proof.Proofs
end

section
namespace Sys2Proof.Proofs

open Sys2Proof.Machine

/-! ### What counting moves (R79, R469–R471) -/

/-- Hart `y` is hart `x` but for its mhpmcounters, the overflow bits of its mhpmevents and the pending bit of local interrupt 13. -/
def HpmMoved (x y : Hart) : Prop :=
  ∃ c q, y = { x with csr := c, irqPending := q } ∧ (∀ n, ¬(0xB03 ≤ n ∧ n ≤ 0xB1F) → ¬(0x323 ≤ n ∧ n ≤ 0x33F) → tabGet 0 c n = tabGet 0 x.csr n) ∧
    ∀ i, i ≠ 13 → (i ∈ q ↔ i ∈ x.irqPending)

theorem HpmMoved.refl (x : Hart) : HpmMoved x x := ⟨x.csr, x.irqPending, rfl, fun _ _ _ => rfl, fun _ _ => Iff.rfl⟩

theorem HpmMoved.trans {x y z : Hart} (hxy : HpmMoved x y) (hyz : HpmMoved y z) : HpmMoved x z := by
  obtain ⟨c, q, rfl, hc, hq⟩ := hxy
  obtain ⟨c', q', rfl, hc', hq'⟩ := hyz
  exact ⟨c', q', rfl, fun n h1 h2 => (hc' n h1 h2).trans (hc n h1 h2), fun i hi => (hq' i hi).trans (hq i hi)⟩

theorem mem_nubNat (l : List Nat) (i : Nat) : i ∈ nubNat l ↔ i ∈ l := by
  induction l with
  | nil => rfl
  | cons x l ih =>
    simp only [nubNat, List.mem_cons, List.mem_filter, ih]
    by_cases h : i = x <;> simp [h]

theorem hpmStep_moved (c n : Nat) (x : Hart) : HpmMoved x (hpmStep c n x) := by
  have hfold (l : List Nat) (hl : ∀ i ∈ l, i < 29) (f : Hart → Nat → Hart) (hf : ∀ y i, i < 29 → HpmMoved y (f y i)) (y : Hart) :
      HpmMoved y (l.foldl f y) := by
    induction l generalizing y with
    | nil => exact HpmMoved.refl y
    | cons i l ih =>
      exact (hf y i (hl i (by simp))).trans (ih (fun j hj => hl j (by simp [hj])) (f y i))
  refine hfold _ (fun i hi => by simpa using hi) _ (fun y i hi => ?_) x
  dsimp only
  split
  · split
    · refine ⟨_, _, rfl, fun n h1 h2 => ?_, fun j hj => ?_⟩
      · rw [tabGet_tabSet_other _ _ _ (by omega), tabGet_tabSet_other _ _ _ (by omega)]
      · rw [mem_nubNat]
        simp [hj]
    · refine ⟨_, y.irqPending, rfl, fun n h1 h2 => ?_, fun _ _ => Iff.rfl⟩
      rw [tabGet_tabSet_other _ _ _ (by omega)]
  · exact HpmMoved.refl y

/-- From `d` to `d'` only event counters have moved, and those hart `h` keeps itself. -/
def CountsOnly (d d' : Dev) (h : Nat) : Prop :=
  HpmMoved (hartOf d h) (hartOf d' h) ∧ (∀ k, k ≠ h → hartOf d' k = hartOf d k) ∧ { d' with harts := d.harts, obs := { d'.obs with ctr := d.obs.ctr } } = d

theorem count_eq (bank unit slot n : Nat) (d : Dev) : ∃ t, count bank unit slot n d = { d with obs := { d.obs with ctr := t } } := ⟨_, rfl⟩

theorem updHart_eq (d : Dev) (h : Nat) (f : Hart → Hart) : ∃ t, updHart d h f = { d with harts := t } := ⟨_, rfl⟩

theorem countHartN_countsOnly (h c n : Nat) (d : Dev) : CountsOnly d (countHartN h c n d) h := by
  unfold countHartN
  split
  · exact ⟨HpmMoved.refl _, fun _ _ => rfl, rfl⟩
  · next b _ =>
    obtain ⟨t, ht⟩ := count_eq b h (c - 1) n d
    rw [ht]
    dsimp only
    split
    · refine ⟨?_, fun k hk => hartOf_updHart_other _ _ hk, ?_⟩
      · rw [hartOf_updHart_same]
        exact hpmStep_moved ..
      · obtain ⟨hs, hhs⟩ := updHart_eq { d with obs := { d.obs with ctr := t } } h (hpmStep c n)
        rw [hhs]
    · exact ⟨HpmMoved.refl _, fun _ _ => rfl, rfl⟩

theorem tabGet_retire_other (x : Hart) {n : Nat} (hn : n ≠ 0xB02) : tabGet 0 (retire x).csr n = tabGet 0 x.csr n := by
  unfold retire
  split
  · rfl
  · exact tabGet_tabSet_other _ _ _ hn

theorem retire_eq (x : Hart) : retire x = { x with csr := (retire x).csr } := by
  unfold retire
  split <;> rfl

theorem csr_retire (x : Hart) : csr (retire x) 0xB02 = (if getBit (csr x 0x320) 2 then csr x 0xB02 else (csr x 0xB02 + 1) % 2 ^ 64) := by
  unfold retire
  split
  · rfl
  · simp [csr, setCsr]

/-- The hart completes an instruction (R79): its pc moves on, minstret counts it, and nothing else differs but counters. -/
theorem advance_steps {d : Dev} {h n : Nat} (hn : n ≠ 0) (hreq : (hartOf d h).haltReq = false) (hwait : (hartOf d h).waiting = none) :
    HartSteps d (advance h n d) h { hartOf d h with pc := ((hartOf d h).pc + n) % 2 ^ 64 } := by
  obtain ⟨⟨c, q, hy, hc, hq⟩, hother, hframe⟩ := countHartN_countsOnly h 0x02 1 d
  have hadv : advance h n d =
      updHart (countHart h 0x02 d) h (fun x => retire { x with pc := (x.pc + n) % 2 ^ 64, waiting := none }) := by
    have hnow : (hartOf (updHart (countHart h 0x02 d) h (fun x => retire { x with pc := (x.pc + n) % 2 ^ 64, waiting := none })) h).haltReq = false := by
      rw [hartOf_updHart_same, retire_eq]
      exact (congrArg Hart.haltReq hy).trans hreq
    unfold advance haltIfDue
    simp only [if_neg hn, hnow]
    simp
  rw [hadv]
  have hx : hartOf (updHart (countHart h 0x02 d) h (fun x => retire { x with pc := (x.pc + n) % 2 ^ 64, waiting := none })) h =
      retire { hartOf d h with csr := c, irqPending := q, pc := ((hartOf d h).pc + n) % 2 ^ 64 } := by
    have hy' : hartOf (countHart h 0x02 d) h = { hartOf d h with csr := c, irqPending := q } := hy
    rw [hartOf_updHart_same, hy', ← hwait]
  have hkept (k : Nat) (h1 : ¬(0xB03 ≤ k ∧ k ≤ 0xB1F)) (h2 : ¬(0x323 ≤ k ∧ k ≤ 0x33F)) :
      csr { hartOf d h with csr := c, irqPending := q, pc := ((hartOf d h).pc + n) % 2 ^ 64 } k = csr (hartOf d h) k :=
    congrArg BitVec.toNat (hc k h1 h2)
  refine ⟨⟨⟨?_, fun k hk => ?_, fun i hi => ?_⟩, fun k hk => ?_, ?_⟩, ?_⟩
  · rw [hx, retire_eq]
  · have hk' : ¬(0xB02 ≤ k ∧ k ≤ 0xB1F) ∧ ¬(0x323 ≤ k ∧ k ≤ 0x33F) := by
      simp only [countedCsr, Bool.or_eq_false_iff, Bool.and_eq_false_iff, decide_eq_false_iff_not] at hk
      omega
    rw [hx, tabGet_retire_other _ (by omega)]
    exact hc k (by omega) hk'.2
  · rw [hx, retire_eq]
    exact hq i hi
  · rw [hartOf_updHart_other _ _ hk]
    exact hother k hk
  · exact hframe
  · rw [Retired, hx, csr_retire]
    rw [hkept 0x320 (by omega) (by omega), hkept 0xB02 (by omega) (by omega)]
    rfl

/-! ### CSR instructions (R92, R471, R477) -/

/-- What decides where a hart goes on: its pc, what it waits for, and a halt request. -/
def flow (x : Hart) : Nat × Option Waiting × Bool := (x.pc, x.waiting, x.haltReq)

theorem flow_setCsr (n v : Nat) (x : Hart) : flow (setCsr n v x) = flow x := by
  simp only [flow, setCsr]

theorem flow_dirtyState (b : Nat) (x : Hart) : flow (dirtyState b x) = flow x := by
  unfold dirtyState
  dsimp only
  split
  · rw [flow_setCsr, flow_setCsr]
  · rw [flow_setCsr]

theorem flow_setImsic (b : Nat) (f : ImsicFile → ImsicFile) (x : Hart) : flow (setImsic b f x) = flow x := by
  unfold setImsic
  dsimp only
  repeat' split
  all_goals rfl

theorem flow_hsmpctlPut (v r : Nat) (x : Hart) : flow (hsmpctlPut v r x) = flow x := by
  unfold hsmpctlPut
  dsimp only
  split <;> rfl

theorem flow_setX (r v : Nat) (x : Hart) : flow (setX r v x) = flow x := by
  unfold setX
  split <;> rfl

theorem flow_csrPut (n v : Nat) (x : Hart) : flow (csrPut n v x) = flow x := by
  unfold csrPut
  split
  all_goals (repeat' split)
  all_goals simp only [↓flow_dirtyState, ↓flow_setCsr, ↓flow_setImsic, flow]

theorem flow_csrStore (n v r : Nat) (x : Hart) : flow (csrStore n v r x) = flow x := by
  unfold csrStore
  repeat' split
  · exact flow_hsmpctlPut ..
  all_goals simp only [flow_setCsr, flow_csrPut]

/-- An update of a hart changes that hart only: what is measured from it on is measured from before it. -/
theorem hartSteps_updHart {d d' : Dev} {h : Nat} {f : Hart → Hart} {x : Hart} (hs : HartSteps (updHart d h f) d' h x) : HartSteps d d' h x := by
  obtain ⟨⟨hc, hother, hframe⟩, hret⟩ := hs
  refine ⟨⟨hc, fun k hk => (hother k hk).trans (hartOf_updHart_other d f hk), ?_⟩, hret⟩
  exact congrArg (fun e : Dev => { e with harts := d.harts }) hframe

theorem csrWrite_illegal {d : Dev} {h n insn v old : Nat} {f : Nat → Hart → Hart} (hacc : csrAccess (hartOf d h) n (csrWrites insn) = 0) :
    csrWrite h n insn v old f d = trapIllegal h insn d := by
  simp only [csrWrite, hacc]

theorem csrWrite_virtual {d : Dev} {h n insn v old : Nat} {f : Nat → Hart → Hart} (hacc : csrAccess (hartOf d h) n (csrWrites insn) = 1) :
    csrWrite h n insn v old f d = trapVirtual h insn d := by
  simp only [csrWrite, hacc]

/-- A CSR access that is permitted: the old value goes to rd, the new one to the CSR, and the instruction completes. -/
theorem csrWrite_steps {d : Dev} {h n insn v old : Nat} {f : Nat → Hart → Hart} (hacc : csrAccess (hartOf d h) n (csrWrites insn) = 2)
    (hn : ¬(0xB02 ≤ n ∧ n ≤ 0xB1F)) (hreq : (hartOf d h).haltReq = false) (hwait : (hartOf d h).waiting = none) (hf : ∀ u x, flow (f u x) = flow x) :
    HartSteps d (csrWrite h n insn v old f d) h
      (let y := setX (insn / 2 ^ 7 % 32) old (if csrWrites insn then f (csrNew insn old v) (hartOf d h) else hartOf d h)
       { y with pc := ((hartOf d h).pc + 4) % 2 ^ 64 }) := by
  have hw : csrWrite h n insn v old f d = advance h 4 (updHart d h (fun x =>
      setX (insn / 2 ^ 7 % 32) old (if csrWrites insn then f (csrNew insn old v) x else x))) := by
    unfold csrWrite
    rw [hacc]
    simp only [if_neg hn]
  generalize hy : setX (insn / 2 ^ 7 % 32) old (if csrWrites insn then f (csrNew insn old v) (hartOf d h) else hartOf d h) = y
  have hflow : flow y = flow (hartOf d h) := by
    rw [← hy, flow_setX]
    split
    · exact hf ..
    · rfl
  simp only [flow, Prod.mk.injEq] at hflow
  obtain ⟨hpc, hwaits, hreqs⟩ := hflow
  rw [hw]
  apply hartSteps_updHart (f := fun x => setX (insn / 2 ^ 7 % 32) old (if csrWrites insn then f (csrNew insn old v) x else x))
  have hafter : hartOf (updHart d h (fun x => setX (insn / 2 ^ 7 % 32) old (if csrWrites insn then f (csrNew insn old v) x else x))) h = y :=
    (hartOf_updHart_same ..).trans hy
  have hadv := advance_steps (d := updHart d h (fun x => setX (insn / 2 ^ 7 % 32) old (if csrWrites insn then f (csrNew insn old v) x else x)))
    (h := h) (n := 4) (by omega) (by rw [hafter, hreqs, hreq]) (by rw [hafter, hwaits, hwait])
  rw [hafter, hpc] at hadv
  exact hadv

section csr
variable {h : HartN} {insn : BitVec 32} {v : Word} {s : State}

theorem exec_registerWrite (t : RegTarget) (v : Word) (s : State) : exec (.registerWrite t v) s = .next { s with dev := registerWrite t v.toNat s.dev } := rfl

theorem exec_csr (hruns : hartRuns s.dev h = true) :
    exec (.registerWrite (.csr h insn) v) s = .next { s with dev := csrInsn h insn.toNat v.toNat s.dev } := by
  rw [exec_registerWrite]
  simp [registerWrite, onHart, hruns]

theorem waiting_of_hartRuns {d : Dev} {h : Nat} (hruns : hartRuns d h = true) : (hartOf d h).waiting = none := by
  simp only [hartRuns, Bool.and_eq_true, Option.isNone_iff_eq_none] at hruns
  tauto

theorem csrInsn_illegal {d : Dev} {h insn v : Nat} (hw : writableCsr (insn / 2 ^ 20 % 4096) = false) (hr : readOnlyCsr (insn / 2 ^ 20 % 4096) = false) :
    csrInsn h insn v d = trapIllegal h insn d := by
  simp only [csrInsn, hw, hr, Bool.not_false, Bool.and_self, if_true]

/-- A CSR that exists and that no translation trap covers is accessed as its access rules say. -/
theorem csrInsn_accesses {d : Dev} {h insn v : Nat}
    (hn : writableCsr (insn / 2 ^ 20 % 4096) = true ∨ readOnlyCsr (insn / 2 ^ 20 % 4096) = true)
    (hsatp : satpTrap (hartOf d h) (insn / 2 ^ 20 % 4096) = none) (hne : insn / 2 ^ 20 % 4096 ≠ 0x6C2) :
    csrInsn h insn v d = csrWrite h (insn / 2 ^ 20 % 4096) insn v (csrLoad d h (csrHome (hartOf d h) (insn / 2 ^ 20 % 4096)))
      (fun u => csrStore (csrHome (hartOf d h) (insn / 2 ^ 20 % 4096)) u (freeVal d)) d := by
  have hex : (!writableCsr (insn / 2 ^ 20 % 4096) && !readOnlyCsr (insn / 2 ^ 20 % 4096)) = false := by
    rcases hn with hw | hr
    · rw [hw]
      rfl
    · rw [hr, Bool.not_true, Bool.and_false]
  unfold csrInsn
  generalize insn / 2 ^ 20 % 4096 = n at *
  simp only [hex, hsatp, if_neg hne]
  rfl

end csr

end Sys2Proof.Proofs
end

section
namespace Sys2Proof.Proofs

open Sys2Proof.Machine

/-! ### A hart's command slot (R372) -/

/-- An aligned write of all eight bytes replaces the register. -/
theorem spliceReg_whole (old off v : Nat) (hoff : off % 8 = 0) (hv : v < 2 ^ 64) : spliceReg old off 8 v = v := by
  have hold : old % 2 ^ 64 / 2 ^ 64 = 0 := Nat.div_eq_of_lt (Nat.mod_lt _ (by norm_num))
  simp only [spliceReg, hoff, setBits_eq, Nat.mul_zero, Nat.pow_zero, Nat.div_one, Nat.mod_one, hold, Nat.reduceMul, Nat.mul_zero, Nat.zero_add, Nat.one_mul,
    Nat.add_zero, Nat.mod_eq_of_lt hv]

/-- A slot's argument registers stand in the hub control range. -/
theorem inHubRange_slot (h : HartN) (k : Fin 4) : inHubRange (hubBase + slotBase + 0x40 * h + 8 * k) = true := by
  unfold inHubRange hubBase slotBase
  rw [Bool.and_eq_true, decide_eq_true_eq, decide_eq_true_eq]
  omega

/-- An M-mode write of a whole argument register of the hart's own slot. -/
theorem hubWrite_slot {d : Dev} {h : HartN} (k : Fin 4) (hm : (hartOf d h).mode = .m) (v : Nat) :
    hubWrite h (hubBase + slotBase + 0x40 * h + 8 * k) 8 v d = slotWrite h (8 * k) 8 v d := by
  have hoff : hubBase + slotBase + 0x40 * h.val + 8 * k.val - hubBase = slotBase + 0x40 * h.val + 8 * k.val := by omega
  have hbase : slotBase = 0x100000 := rfl
  unfold hubWrite
  rw [hoff]
  generalize ho : slotBase + 0x40 * h.val + 8 * k.val = off
  have hlow : ¬off < 8 := by omega
  have hhold : ¬(0x1000 ≤ off ∧ off < 0x1028) := by omega
  have hslot : slotBase ≤ off ∧ off < slotBase + 0x40 * 216 ∧ (off - slotBase) / 0x40 = h.val := by omega
  have hreg : (off - slotBase) % 0x40 = 8 * k.val := by omega
  simp only [hm, ne_eq, not_true, if_false, if_neg hlow, if_neg hhold, if_pos hslot, hreg]

/-- A write of an argument register of a slot sets it, and the others stay. -/
theorem slotWrite_arg (h : Nat) (k : Fin 4) {v : Nat} (hv : v < 2 ^ 64) (d : Dev) : slotWrite h (8 * k) 8 v d = updCmd d h (fun c => { c with
    a0 := if k = 0 then v else c.a0, a1 := if k = 1 then v else c.a1, a2 := if k = 2 then v else c.a2, a3 := if k = 3 then v else c.a3 }) := by
  have hsplice (old : Nat) : spliceReg old (8 * k.val) 8 v = v := spliceReg_whole old _ v (by omega) hv
  unfold slotWrite
  simp only [hsplice]
  fin_cases k <;> rfl

theorem registerWrite_slot {h : HartN} (k : Fin 4) (v : Word) {s : State} (hruns : hartRuns s.dev h = true) (hm : (hartOf s.dev h).mode = .m) :
    registerWrite (.hub h (hubBase + slotBase + 0x40 * h + 8 * k) 8) v.toNat s.dev = updCmd s.dev h (fun c => { c with
      a0 := if k = 0 then v.toNat else c.a0, a1 := if k = 1 then v.toNat else c.a1, a2 := if k = 2 then v.toNat else c.a2,
      a3 := if k = 3 then v.toNat else c.a3 }) := by
  have hin := inHubRange_slot h k
  have hw := hubWrite_slot k hm v.toNat
  generalize hubBase + slotBase + 0x40 * h.val + 8 * k.val = addr at hin hw ⊢
  have hreg : registerWrite (.hub h addr 8) v.toNat s.dev = if inHubRange addr then onHart h (hubWrite h addr 8 v.toNat) s.dev else s.dev := rfl
  rw [hreg, if_pos hin, onHart, if_pos hruns, hw, slotWrite_arg h k v.isLt]

theorem registerWrite_hub_user {h : HartN} (k : Fin 4) (v : Word) {s : State} (hm : (hartOf s.dev h).mode ≠ .m) :
    registerWrite (.hub h (hubBase + slotBase + 0x40 * h + 8 * k) 8) v.toNat s.dev = s.dev := by
  generalize hubBase + slotBase + 0x40 * h.val + 8 * k.val = addr
  have hreg : registerWrite (.hub h addr 8) v.toNat s.dev = if inHubRange addr then onHart h (hubWrite h addr 8 v.toNat) s.dev else s.dev := rfl
  have hw : hubWrite h addr 8 v.toNat s.dev = s.dev := by simp only [hubWrite, if_pos hm]
  rw [hreg, onHart, hw, ite_self, ite_self]

/-! ### Registers of a bench's functions (R281, R306, R318–R321) -/

theorem benchOnly_updBench (d : Dev) (b : Nat) (f : BenchSt → BenchSt) : BenchOnly d (updBench d b f) b (f (benchOf d b)) :=
  ⟨benchOf_updBench_same .., fun _ hk => benchOf_updBench_other d f hk, rfl⟩

theorem fnOnly_updFn (d : Dev) (b f : Nat) (g : Fn → Fn) : FnOnly d (updFn b f g d) b f (g (fnOf d b f)) := by
  have hb := benchOnly_updBench d b (fun x => { x with fns := tabUpd fnInit x.fns f g })
  have hfns : (benchOf (updFn b f g d) b).fns = tabUpd fnInit (benchOf d b).fns f g := congrArg BenchSt.fns hb.1
  refine ⟨?_, fun k hk => ?_, ?_⟩
  · rw [fnOf, hfns, tabGet_tabUpd_same]
    rfl
  · rw [fnOf, hfns, tabGet_tabUpd_other _ _ _ hk]
    rfl
  · rw [hfns]
    exact hb

theorem ringOnly_updRing (d : Dev) (b f r : Nat) (g : Ring → Ring) : RingOnly d (updRing b f r g d) b f r (g (ringOf d b f r)) := by
  have hb := benchOnly_updBench d b (fun x => { x with rings := tabUpd ringInit x.rings (ringKey f r) g })
  have hrings : (benchOf (updRing b f r g d) b).rings = tabUpd ringInit (benchOf d b).rings (ringKey f r) g := congrArg BenchSt.rings hb.1
  refine ⟨?_, fun k t hk => ?_, ?_⟩
  · rw [ringOf, hrings, tabGet_tabUpd_same]
    rfl
  · rw [ringOf, hrings, tabGet_tabUpd_other _ _ _ hk]
    rfl
  · rw [hrings]
    exact hb

theorem feedOnly_updFeed (d : Dev) (b c : Nat) (g : FeedChan → FeedChan) : FeedOnly d (updFeed b c g d) b c (g (feedOf d b c)) := by
  have hb := benchOnly_updBench d b (fun x => { x with chans := tabUpd feedInit x.chans c g })
  have hchans : (benchOf (updFeed b c g d) b).chans = tabUpd feedInit (benchOf d b).chans c g := congrArg BenchSt.chans hb.1
  refine ⟨?_, fun k hk => ?_, ?_⟩
  · rw [feedOf, hchans, tabGet_tabUpd_same]
    rfl
  · rw [feedOf, hchans, tabGet_tabUpd_other _ _ _ hk]
    rfl
  · rw [hchans]
    exact hb

theorem barWrite_absent {d : Dev} {b f : Nat} (hex : fnExists d b f = false) (h : Nat) (act : Dev → Dev) : barWrite h b f act d = d := by
  simp only [barWrite, hex, Bool.not_false, if_true]

theorem barWrite_denied {d : Dev} {h b f : Nat} (hex : fnExists d b f = true) (hserved : hartServed d b f h = false) (act : Dev → Dev) :
    barWrite h b f act d = countPkg pkgFnDenied d := by
  simp only [barWrite, hex, hserved, Bool.not_true, Bool.false_eq_true, if_false]

theorem barWrite_served {d : Dev} {h b f : Nat} (hbar : BarServed d b f h) (act : Dev → Dev) : barWrite h b f act d = act d := by
  simp only [barWrite, hbar.1, hbar.2, Bool.not_true, Bool.false_eq_true, if_false, if_true]

/-- The registers of a function that its own rings, channels and interrupts have are written through its BAR. -/
theorem registerWrite_bar {h : HartN} {b : BenchN} {f : FnN} {k : RingN} {w : Fin 68} {t : RegTarget}
    (ht : t ∈ [RegTarget.sqBase h b f k, .cqBase h b f k, .fchMemAddr h b f k, .fchSpadOff h b f k, .fchCount h b f k, .fchCtl h b f k, .msix h b f w])
    (v : Nat) (d : Dev) : ∃ act, registerWrite t v d = barWrite h b f act d := by
  simp only [List.mem_cons, List.not_mem_nil, or_false] at ht
  rcases ht with rfl | rfl | rfl | rfl | rfl | rfl | rfl <;> exact ⟨_, rfl⟩

section bar
variable {h : HartN} {b : BenchN} {f : FnN} {s : State}

theorem ringWrite_absent {r : RingN} (hbar : BarServed s.dev b f h) (hr : (fnOf s.dev b f).rings ≤ r.val) (g : Ring → Ring) :
    ringWrite h b f r g s.dev = s.dev := by
  rw [ringWrite, barWrite_served hbar, if_neg (by omega)]

theorem ringWrite_served {r : RingN} (hbar : BarServed s.dev b f h) (hr : r.val < (fnOf s.dev b f).rings) (g : Ring → Ring) :
    ringWrite h b f r g s.dev = updRing b f r g s.dev := by
  rw [ringWrite, barWrite_served hbar, if_pos hr]

/-- SQ_BASE and CQ_BASE take a page address while the ring is not enabled (R281). -/
theorem registerWrite_ringBases (v : Word) (r : RingN) (hbar : BarServed s.dev b f h) :
    let x := ringOf s.dev b f r
    ((fnOf s.dev b f).rings ≤ r.val → exec (.registerWrite (.sqBase h b f r) v) s = .next s ∧ exec (.registerWrite (.cqBase h b f r) v) s = .next s) ∧
    (r.val < (fnOf s.dev b f).rings →
      (∃ d, exec (.registerWrite (.sqBase h b f r) v) s = .next { s with dev := d } ∧
        RingOnly s.dev d b f r { x with sqBase := if x.enable then x.sqBase else v.toNat / 4096 * 4096 }) ∧
      (∃ d, exec (.registerWrite (.cqBase h b f r) v) s = .next { s with dev := d } ∧
        RingOnly s.dev d b f r { x with cqBase := if x.enable then x.cqBase else v.toNat / 4096 * 4096 })) := by
  intro x
  simp only [exec_registerWrite, registerWrite]
  constructor
  · intro hr
    rw [ringWrite_absent hbar hr, ringWrite_absent hbar hr]
    exact ⟨rfl, rfl⟩
  · intro hr
    rw [ringWrite_served hbar hr, ringWrite_served hbar hr]
    have hsq : (if x.enable then x else { x with sqBase := v.toNat / 4096 * 4096 }) =
        { x with sqBase := if x.enable then x.sqBase else v.toNat / 4096 * 4096 } := by split <;> rfl
    have hcq : (if x.enable then x else { x with cqBase := v.toNat / 4096 * 4096 }) =
        { x with cqBase := if x.enable then x.cqBase else v.toNat / 4096 * 4096 } := by split <;> rfl
    exact ⟨⟨_, rfl, hsq ▸ ringOnly_updRing ..⟩, ⟨_, rfl, hcq ▸ ringOnly_updRing ..⟩⟩

theorem feedPut_locked {c : RingN} {d : Dev} (hlock : chanOwnerOf d b c ≠ f.val ∨ (feedOf d b c).state = 1 ∨ (feedOf d b c).state = 4)
    (g : FeedChan → FeedChan) : feedPut b f c g d = d := if_pos hlock

theorem feedPut_open {c : RingN} {d : Dev} (hown : chanOwnerOf d b c = f.val) (h1 : (feedOf d b c).state ≠ 1) (h4 : (feedOf d b c).state ≠ 4)
    (g : FeedChan → FeedChan) : feedPut b f c g d = updFeed b c g d := if_neg (by simp [hown, h1, h4])

/-- A write of FCH_CTL that gives no command sets WRAP and DIR (R307). -/
theorem fchCtl_fields {c : RingN} {d : Dev} {v : Nat} (hown : chanOwnerOf d b c = f.val) (h1 : (feedOf d b c).state ≠ 1)
    (h4 : (feedOf d b c).state ≠ 4) (hv : getBits v 0 3 = 0) :
    fchCtl b f c v d = updFeed b c (fun _ => { feedOf d b c with wrap := getBits v 12 4, dir := getBits v 8 2 }) d := by
  simp [fchCtl, hown, h1, h4, hv, popCount]

/-- A Feed channel's registers are its owner's, and locked while STATE reads 1 or 4 (R306). -/
theorem registerWrite_feed (v : Word) (c : RingN) (hbar : BarServed s.dev b f h) :
    let x := feedOf s.dev b c
    ((chanOwnerOf s.dev b c ≠ f.val ∨ x.state = 1 ∨ x.state = 4) →
      ∀ t ∈ [RegTarget.fchMemAddr h b f c, .fchSpadOff h b f c, .fchCount h b f c], exec (.registerWrite t v) s = .next s) ∧
    (chanOwnerOf s.dev b c = f.val → x.state ≠ 1 → x.state ≠ 4 →
      (∃ d, exec (.registerWrite (.fchMemAddr h b f c) v) s = .next { s with dev := d } ∧ FeedOnly s.dev d b c { x with mem := v.toNat }) ∧
      (∃ d, exec (.registerWrite (.fchSpadOff h b f c) v) s = .next { s with dev := d } ∧ FeedOnly s.dev d b c { x with off := v.toNat % 2 ^ 32 }) ∧
      (∃ d, exec (.registerWrite (.fchCount h b f c) v) s = .next { s with dev := d } ∧ FeedOnly s.dev d b c { x with count := v.toNat % 2 ^ 24 }) ∧
      (getBits v.toNat 0 3 = 0 → ∃ d, exec (.registerWrite (.fchCtl h b f c) v) s = .next { s with dev := d } ∧
        FeedOnly s.dev d b c { x with wrap := getBits v.toNat 12 4, dir := getBits v.toNat 8 2 })) := by
  intro x
  simp only [exec_registerWrite]
  constructor
  · intro hlock t ht
    simp only [List.mem_cons, List.not_mem_nil, or_false] at ht
    rcases ht with rfl | rfl | rfl <;> rw [registerWrite, barWrite_served hbar, feedPut_locked hlock]
  · intro hown h1 h4
    simp only [registerWrite, barWrite_served hbar, feedPut_open hown h1 h4]
    refine ⟨⟨_, rfl, feedOnly_updFeed ..⟩, ⟨_, rfl, feedOnly_updFeed ..⟩, ⟨_, rfl, feedOnly_updFeed ..⟩, fun hv => ?_⟩
    rw [fchCtl_fields hown h1 h4 hv]
    exact ⟨_, rfl, feedOnly_updFeed ..⟩

theorem registerWrite_msix (w : Fin 68) (v : Word) (hbar : BarServed s.dev b f h) :
    ∃ d, exec (.registerWrite (.msix h b f w) v) s = .next { s with dev := d } ∧ FnOnly s.dev d b f { fnOf s.dev b f with msix := (fnOf d b f).msix } ∧
      ∀ k, tabGet 0 (fnOf d b f).msix k = if k = w.val then v else tabGet 0 (fnOf s.dev b f).msix k := by
  simp only [exec_registerWrite, registerWrite, barWrite_served hbar]
  have hfn := fnOnly_updFn s.dev b f (fun x => { x with msix := tabSet 0 x.msix w (BitVec.ofNat 64 v.toNat) })
  have hmsix := congrArg Fn.msix hfn.1
  refine ⟨_, rfl, ?_, fun k => ?_⟩
  · rw [hmsix]
    exact hfn
  · rw [hmsix, BitVec.ofNat_toNat, BitVec.setWidth_eq]
    exact tabGet_tabSet ..

end bar

section pf
variable {h : HartN} {b : BenchN} {f : FnN} {s : State}

/-- PF_QDONE is write-one-to-clear (R321): bit `k` of the 320 stays unless a write of its word has it. -/
theorem getBit_clearWord (q v i k : Nat) :
    getBit (setBits q (64 * i) 64 (getBits q (64 * i) 64 - Nat.land (getBits q (64 * i) 64) v)) k =
      (getBit q k && !(decide (k / 64 = i) && getBit v (k % 64))) := by
  have hand : Nat.land (getBits q (64 * i) 64) v = getBits q (64 * i) 64 &&& v := rfl
  rw [hand]
  simp only [getBit_eq_testBit, testBit_setBits, testBit_sub_and, testBit_getBits]
  by_cases hk : k / 64 = i
  · have hin : 64 * i ≤ k ∧ k < 64 * i + 64 := by omega
    have hpos : 64 * i + (k - 64 * i) = k := by omega
    have hmod : k - 64 * i = k % 64 := by omega
    have hlt : k % 64 < 64 := by omega
    rw [if_pos hin, hpos, hmod]
    simp [hk, hlt]
  · have hout : ¬(64 * i ≤ k ∧ k < 64 * i + 64) := by omega
    simp [hk, if_neg hout]

theorem registerWrite_pfQdone (i : Fin 5) (v : Word) (hbar : BarServed s.dev b 0 h) :
    ∃ d, exec (.registerWrite (.pfQdone h b i) v) s = .next { s with dev := d } ∧
      BenchOnly s.dev d b { benchOf s.dev b with qdone := (benchOf d b).qdone } ∧
      ∀ k, k < 320 → getBit (benchOf d b).qdone k =
        (getBit (benchOf s.dev b).qdone k && !(decide (k / 64 = i.val) && getBit v.toNat (k % 64))) := by
  simp only [exec_registerWrite, registerWrite, barWrite_served hbar]
  have hb := benchOnly_updBench s.dev b (fun x => { x with
    qdone := setBits x.qdone (64 * i) 64 (getBits x.qdone (64 * i) 64 - Nat.land (getBits x.qdone (64 * i) 64) v.toNat) })
  have hq := congrArg BenchSt.qdone hb.1
  refine ⟨_, rfl, ?_, fun k _ => ?_⟩
  · rw [hq]
    exact hb
  · rw [hq]
    exact getBit_clearWord ..

/-- FT_IOATP is locked while the function runs with a ring enabled (R321). -/
theorem registerWrite_ioatp (v : Word) (hbar : BarServed s.dev b 0 h) :
    let x := fnOf s.dev b f
    (x.qstate = 0 → anyRingEnabled s.dev b f 0 = true → exec (.registerWrite (.ftIoatp h b f) v) s = .next s) ∧
    ((x.qstate ≠ 0 ∨ anyRingEnabled s.dev b f 0 = false) → ∃ d, exec (.registerWrite (.ftIoatp h b f) v) s = .next { s with dev := d } ∧
      FnOnly s.dev d b f { x with ioatp := packFields [(getBits v.toNat 60 4, 60, 4), (getBits v.toNat 0 44, 0, 44)] }) := by
  intro x
  simp only [exec_registerWrite, registerWrite, barWrite_served hbar, ioatpPut]
  constructor
  · intro hq hen
    rw [if_pos ⟨hq, hen⟩]
  · intro hopen
    have hno : ¬((fnOf s.dev b f).qstate = 0 ∧ anyRingEnabled s.dev b f 0 = true) := by
      rintro ⟨hq, hen⟩
      rcases hopen with h | h
      · exact h hq
      · rw [hen] at h
        exact absurd h (by decide)
    rw [if_neg hno]
    exact ⟨_, rfl, fnOnly_updFn ..⟩

/-- The registers of a function that its bench's PF has (R318, R321, R334). -/
theorem registerWrite_pfBar (v : Word) (hbar : BarServed s.dev b 0 h) :
    let x := fnOf s.dev b f
    (∃ d, exec (.registerWrite (.ftDlogBase h b f) v) s = .next { s with dev := d } ∧ FnOnly s.dev d b f { x with dlogBase := v.toNat / 4096 * 4096 }) ∧
    (∃ d, exec (.registerWrite (.ftDlogIova h b f) v) s = .next { s with dev := d } ∧ FnOnly s.dev d b f { x with dlogIova := v.toNat / 4096 * 4096 }) ∧
    (∃ d, exec (.registerWrite (.ftDlogPages h b f) v) s = .next { s with dev := d } ∧ FnOnly s.dev d b f { x with dlogPages := min v.toNat (2 ^ 36) }) ∧
    (∃ d, exec (.registerWrite (.ftTenant h b f) v) s = .next { s with dev := d } ∧ FnOnly s.dev d b f { x with tenant := v.toNat % 4096 }) ∧
    (∃ d, exec (.registerWrite (.btuInvalIova h b) v) s = .next { s with dev := d } ∧
      BenchOnly s.dev d b { benchOf s.dev b with invalIova := v.toNat / 4096 * 4096 }) := by
  intro x
  simp only [exec_registerWrite, registerWrite, barWrite_served hbar]
  exact ⟨⟨_, rfl, fnOnly_updFn ..⟩, ⟨_, rfl, fnOnly_updFn ..⟩, ⟨_, rfl, fnOnly_updFn ..⟩, ⟨_, rfl, fnOnly_updFn ..⟩, ⟨_, rfl, benchOnly_updBench ..⟩⟩

end pf

section config
variable {b : BenchN} {f : FnN} {s : State}

/-- NumVFs takes a value of at most 256 while no VF exists (R318). -/
theorem registerWrite_vfEnable (v : Word) :
    (v.toNat ≤ 256 → (benchOf s.dev b).vfs = 0 → ∃ d, exec (.registerWrite (.vfEnable b) v) s = .next { s with dev := d } ∧
      BenchOnly s.dev d b { benchOf s.dev b with vfs := v.toNat }) ∧
    ((256 < v.toNat ∨ (benchOf s.dev b).vfs ≠ 0) → exec (.registerWrite (.vfEnable b) v) s = .next s) := by
  simp only [exec_registerWrite, registerWrite]
  constructor
  · intro hv h0
    rw [if_pos ⟨hv, h0⟩]
    exact ⟨_, rfl, benchOnly_updBench ..⟩
  · intro hno
    rw [if_neg (by omega)]

/-- Two updates that touch the benches only touch the benches only. -/
theorem benchesOnly_trans {d e k : Dev} (hde : { e with benches := d.benches } = d) (hek : { k with benches := e.benches } = e) :
    { k with benches := d.benches } = d :=
  (congrArg (fun z : Dev => { z with benches := d.benches }) hek).trans hde

/-- Where the function runs, D3hot takes it to QSTATE 1: its PF_QDONE bit clears, and a VF's request is told by its vector 33 (R331, log entry 30). -/
theorem leaveRunning_d3 (d : Dev) (hq : (fnOf d b f).qstate = 0) :
    let e := leaveRunning b f (updFn b f (fun x => { x with d3 := true }) d)
    fnOf e b f = { fnOf d b f with d3 := true, qstate := 1 } ∧ getBit (benchOf e b).qdone f = false ∧
      e.out = d.out ++ (if f = 0 then [] else [.msi b f 33]) ∧ { e with benches := d.benches, out := d.out } = d := by
  intro e
  have h₁ := fnOnly_updFn d b f (fun x => { x with d3 := true })
  generalize hd₁ : updFn b f (fun x => { x with d3 := true }) d = d₁ at h₁
  have h₂ := fnOnly_updFn d₁ b f (fun x => { x with qstate := 1 })
  generalize hd₂ : updFn b f (fun x => { x with qstate := 1 }) d₁ = d₂ at h₂
  have h₃ := benchOnly_updBench d₂ b (fun x => { x with qdone := setBit x.qdone f false })
  generalize hd₃ : updBench d₂ b (fun x => { x with qdone := setBit x.qdone f false }) = d₃ at h₃
  have he : e = if f.val = 0 then d₃ else emit (.msi b f 33) d₃ := by
    have hq₁ : (fnOf d₁ b f).qstate = 0 := by
      rw [h₁.1]
      exact hq
    simp only [e, hd₁, leaveRunning, if_pos hq₁, hd₂, hd₃]
  have hfn₃ : fnOf d₃ b f = fnOf d₂ b f := by rw [fnOf, h₃.1]; rfl
  have hbench : benchOf e b = benchOf d₃ b := by rw [he]; split <;> rfl
  have hfn : fnOf e b f = fnOf d₃ b f := by rw [fnOf, hbench]; rfl
  have hframe : { d₃ with benches := d.benches } = d := benchesOnly_trans (benchesOnly_trans h₁.2.2.2.2 h₂.2.2.2.2) h₃.2.2
  have hout : d₃.out = d.out := by
    rw [← hframe]
  refine ⟨?_, ?_, ?_, ?_⟩
  · rw [hfn, hfn₃, h₂.1, h₁.1]
  · rw [hbench, h₃.1, getBit_eq_testBit]
    simp [setBit, testBit_setBits, b2n]
  · rw [he]
    by_cases hf : f = 0
    · simp [hf, hout]
    · have hf' : f.val ≠ 0 := fun h => hf (Fin.ext h)
      simp [hf, hf', hout, emit]
  · rw [he]
    split
    · rw [← hout]
      exact hframe
    · have : ({ emit (.msi b f 33) d₃ with benches := d.benches, out := d₃.out } : Dev) = { d₃ with benches := d.benches } := rfl
      rw [← hout, this]
      exact hframe

/-- D0 brings the function back, and ends QSTATE 1 where no quiesce request holds it (R331). -/
theorem registerWrite_d0 (s : State) : exec (.registerWrite (.powerState b f) 0) s = .next { s with
    dev := updFn b f (fun x => { x with d3 := false, qstate := if x.d3 = true ∧ x.quiesce = 0 then 0 else x.qstate }) s.dev } := rfl

theorem registerWrite_d3 (s : State) : exec (.registerWrite (.powerState b f) 3) s = .next { s with
    dev := leaveRunning b f (updFn b f (fun x => { x with d3 := true }) s.dev) } := rfl

/-- A function that does not run stays as it is on the way to D3hot. -/
theorem leaveRunning_of_qstate {d : Dev} (hq : (fnOf d b f).qstate ≠ 0) : leaveRunning b f d = d := if_neg hq

/-- No other power state exists: such a write is ignored. -/
theorem registerWrite_noPowerState {v : Word} (h0 : v ≠ 0) (h3 : v ≠ 3) : exec (.registerWrite (.powerState b f) v) s = .next s := by
  have h0' : v.toNat ≠ 0 := fun h => h0 (BitVec.eq_of_toNat_eq h)
  have h3' : v.toNat ≠ 3 := fun h => h3 (BitVec.eq_of_toNat_eq h)
  simp only [exec_registerWrite, registerWrite, if_neg h0', if_neg h3']

/-- The power states of PMCSR: D0, D3hot of a function that does not run and of one that does, and no other. -/
theorem registerWrite_powerState (v : Word) :
    let x := fnOf s.dev b f
    (v = 0 → ∃ d, exec (.registerWrite (.powerState b f) v) s = .next { s with dev := d } ∧
      FnOnly s.dev d b f { x with d3 := false, qstate := if x.d3 = true ∧ x.quiesce = 0 then 0 else x.qstate }) ∧
    (v = 3 → x.qstate ≠ 0 → ∃ d, exec (.registerWrite (.powerState b f) v) s = .next { s with dev := d } ∧ FnOnly s.dev d b f { x with d3 := true }) ∧
    (v = 3 → x.qstate = 0 → ∃ d, exec (.registerWrite (.powerState b f) v) s = .next { s with dev := d } ∧ fnOf d b f = { x with d3 := true, qstate := 1 } ∧
      getBit (benchOf d b).qdone f = false ∧ d.out = s.dev.out ++ (if f = 0 then [] else [.msi b f 33]) ∧
      { d with benches := s.dev.benches, out := s.dev.out } = s.dev) ∧
    (v ≠ 0 → v ≠ 3 → exec (.registerWrite (.powerState b f) v) s = .next s) := by
  intro x
  refine ⟨?_, ?_, ?_, registerWrite_noPowerState⟩
  · rintro rfl
    exact ⟨_, registerWrite_d0 s, fnOnly_updFn ..⟩
  · rintro rfl hq
    have hfn := fnOnly_updFn s.dev b f (fun x => { x with d3 := true })
    have hq' : (fnOf (updFn b f (fun x => { x with d3 := true }) s.dev) b f).qstate ≠ 0 := by
      rw [hfn.1]
      exact hq
    refine ⟨_, registerWrite_d3 s, ?_⟩
    rw [leaveRunning_of_qstate hq']
    exact hfn
  · rintro rfl hq
    exact ⟨_, registerWrite_d3 s, leaveRunning_d3 s.dev hq⟩

end config

theorem registerWrite_dmResume (h : HartN) (v : Word) (s : State) :
    ((hartOf s.dev h).halted = true → ∃ d, exec (.registerWrite (.dmResume h) v) s = .next { s with dev := d } ∧
      HartOnly s.dev d h { hartOf s.dev h with halted := false, haltReq := getBit (csr (hartOf s.dev h) 0x7B0) 2 }) ∧
    ((hartOf s.dev h).halted = false → ∃ d, exec (.registerWrite (.dmResume h) v) s = .next { s with dev := d } ∧
      HartOnly s.dev d h (hartOf s.dev h)) := by
  simp only [exec_registerWrite, registerWrite, dmResume]
  have honly := hartOnly_updHart s.dev h (fun x => if x.halted then { x with halted := false, haltReq := getBit (csr x 0x7B0) 2 } else x)
  constructor
  · intro hh
    refine ⟨_, rfl, ?_⟩
    rwa [if_pos hh] at honly
  · intro hh
    refine ⟨_, rfl, ?_⟩
    rwa [if_neg (by simp [hh])] at honly

end Sys2Proof.Proofs
end

section
namespace Sys2Proof.Proofs

open Sys2Proof.Machine

/-! ### O42: registers of the hub, uncached accesses and register writes -/

/-- A hold register refuses a write that is not a running hart's in M-mode, or where no secure world exists. -/
theorem holdRegisterWrite_ignored {h : HartN} (r : Fin 5) (v : Word) {s : State}
    (hno : hartRuns s.dev h = false ∨ (hartOf s.dev h).mode ≠ .m ∨ secureExists s.dev = false) : exec (.holdRegisterWrite h r v) s = .next s := by
  have hexec : exec (.holdRegisterWrite h r v) s = onDev (onHart h (fun d => if (hartOf d h).mode = .m then holdWrite r v.toNat d else d)) s := rfl
  rw [hexec]
  rcases hno with hr | hm | hsec
  · simp [onDev, onHart, hr]
  · simp [onDev, onHart, hm]
  · simp [onDev, onHart, holdWrite_absent hsec]

theorem gaugeWindowWrite_counts (addr : Nat) (v : Word) (s : State) :
    exec (.gaugeWindowWrite addr v) s = .next (if inGaugeWindow addr then { s with dev := countPkg pkgGaugeWrite s.dev } else s) := by
  have hexec : exec (.gaugeWindowWrite addr v) s = onDev (fun d => if inGaugeWindow addr then countPkg pkgGaugeWrite d else d) s := rfl
  rw [hexec, onDev]
  generalize inGaugeWindow addr = c
  cases c <;> rfl

/-- Uncached reads and writes that are served (R197, R371, R417, R446). -/
theorem uncached_served {m : FMsg} {s : State} (hin : InService s.dev m) (hpass : Passes s.dev m.die) :
    let h := 18 * m.die + m.core % 18
    let off := m.addr - hubBase
    let d0 := arrive { m with op := .ncrd } s.dev
    let d1 := arrive { m with op := .ncwr } s.dev
    let bytes := leBytes m.size m.data.toNat
    let q : FMsg := { m with op := .ncwr }
    (inHubRange m.addr = true → ∀ v, hubReg s.dev h off = some v →
      exec (.ncrd m) s = .next { s with dev := ncReply { m with op := .ncrd } (v / 2 ^ (8 * (off % 8)) % 2 ^ (8 * m.size)) d0 }) ∧
    (inHubRange m.addr = true → hubReg s.dev h off = none →
      exec (.ncrd m) s = .next { s with dev := ncReply { m with op := .ncrd } (freeVal s.dev % 2 ^ (8 * m.size)) (drawn d0) }) ∧
    (inHubRange m.addr = false → inGaugeWindow m.addr = true →
      exec (.ncrd m) s = .next { s with dev := ncReply { m with op := .ncrd } (windowRead s.dev m.addr m.size) d0 }) ∧
    (inHubRange m.addr = false → inGaugeWindow m.addr = false → (∀ e ∈ s.dev.mirror.clamp, e.rp ≠ Config.rootPort m.addr % 16) →
      exec (.ncrd m) s = .next { s with dev := serveRead { m with op := .ncrd } d0 }) ∧
    (inHubRange m.addr = true →
      exec (.ncwr m) s = .next { s with dev := hubWrite h m.addr m.size (m.data.toNat % 2 ^ (8 * m.size)) (ackWrite (some q) d1) }) ∧
    (inHubRange m.addr = false → inGaugeWindow m.addr = true →
      exec (.ncwr m) s = .next { s with dev := countPkg pkgGaugeWrite (ackWrite (some q) d1) }) ∧
    (inHubRange m.addr = false → inGaugeWindow m.addr = false → clampHolds s.dev = false →
      exec (.ncwr m) s = .next { s with dev := ackWrite (some q) (emit (.device true m.addr m.size (leNat bytes)) d1) }) := by
  intro h off d0 d1 bytes q
  rw [exec_ncrd hpass, exec_ncwr hpass]
  obtain ⟨hread, hfree⟩ := hubRead_cases d0 h m.addr m.size
  have hfreeVal : freeVal d0 = freeVal s.dev := rfl
  rw [hubReg_arrive] at hread hfree
  rw [hfreeVal] at hfree
  refine ⟨fun hhub v hv => ?_, fun hhub hv => ?_, fun hhub hwin => ?_, fun hhub hwin hclamp => ?_, fun hhub => ?_, fun hhub hwin => ?_,
    fun hhub hwin hclamp => ?_⟩
  · rw [ncrdArrives_hub hin hhub (hread v hv)]
  · rw [ncrdArrives_hub hin hhub (hfree hv)]
  · rw [ncrdArrives_gaugeWindow hin hhub hwin]
  · rw [ncrdArrives_device hin hhub hwin hclamp]
  · rw [ncwrArrives_hub hin hhub]
  · rw [ncwrArrives_gaugeWindow hin hhub hwin]
  · rw [ncwrArrives_device hin hhub hwin hclamp]

/-- IMSW: delivered in service or to a withdrawn die, lost at a hart taken offline or a die that is gone (R103, R109, R215). -/
theorem imsw_delivered_or_lost {m : FMsg} (file : Fin 9) {s : State} (hpass : Passes s.dev m.die) (hinc : m.inc = (dieOf s.dev m.die).inc) :
    let h := 18 * m.die + m.core % 18
    let v := m.data.toNat % 2 ^ 32
    let d0 := arrive { m with op := .imsw, up := false } s.dev
    let sets (d : Dev) : Prop := HartOnly d0 d h { imsicSet file v (hartOf s.dev h) with ckptCurrent := false } ∧
      (1 ≤ v → v ≤ 255 → (file = 0 → v ∈ (hartOf d h).imsicM.pending) ∧ (file = 1 → v ∈ (hartOf d h).imsicS.pending))
    ((dieOf s.dev m.die).phase = .inService → (dieOf s.dev m.die).retired = false → (linkOf s.dev m.die).state ≠ .folded →
      (hartOf s.dev h).rest ≠ .retain → (hartOf s.dev h).offline = false → ∃ d, exec (.imsw m file) s = .next { s with dev := d } ∧ sets d) ∧
    ((dieOf s.dev m.die).phase = .withdrawn → (hartOf s.dev h).offline = false → ∃ d, exec (.imsw m file) s = .next { s with dev := d } ∧ sets d) ∧
    ((dieOf s.dev m.die).retired = false → (hartOf s.dev h).offline = true → exec (.imsw m file) s = .next { s with dev := countPkg pkgMsiOffline d0 }) ∧
    ((dieOf s.dev m.die).retired = true → (dieOf s.dev m.die).phase ≠ .withdrawn → exec (.imsw m file) s = .next { s with dev := countPkg pkgImswLost d0 }) := by
  intro h v d0 sets
  refine ⟨fun hs hret hlink hrest hoff => ?_, fun hw hoff => ?_, fun hret hoff => ?_, fun hret hph => ?_⟩
  · exact imsw_sets hpass hinc hoff (Or.inr ⟨hs, hret, hlink, hrest⟩)
  · exact imsw_sets hpass hinc hoff (Or.inl hw)
  · have hoff' : (hartOf d0 h).offline = true := hoff
    rw [exec_imsw hpass, imswArrives_writes hinc (Or.inl hret), imsicWrite_offline hoff']
  · rw [exec_imsw hpass, imswArrives_lost hret hph]

/-- A CSR instruction of a hart that is ready: illegal for no CSR, else as the access says (R92, R96). -/
theorem registerWrite_csr {h : HartN} (insn : BitVec 32) (v : Word) {s : State} (hready : HartReady s.dev h) :
    let x := hartOf s.dev h
    let n := insn.toNat / 2 ^ 20 % 4096
    let old := csrLoad s.dev h (csrHome x n)
    let w := csrWrites insn.toNat
    ((writableCsr n = false ∧ readOnlyCsr n = false) → exec (.registerWrite (.csr h insn) v) s = .next { s with dev := trapIllegal h insn.toNat s.dev }) ∧
    ((writableCsr n = true ∨ readOnlyCsr n = true) → satpTrap x n = none → n ≠ 0x6C2 →
      (csrAccess x n w = 0 → exec (.registerWrite (.csr h insn) v) s = .next { s with dev := trapIllegal h insn.toNat s.dev }) ∧
      (csrAccess x n w = 1 → exec (.registerWrite (.csr h insn) v) s = .next { s with dev := trapVirtual h insn.toNat s.dev }) ∧
      (csrAccess x n w = 2 → ¬(0xB02 ≤ n ∧ n ≤ 0xB1F) → ∃ d, exec (.registerWrite (.csr h insn) v) s = .next { s with dev := d } ∧
        HartSteps s.dev d h (let y := setX (insn.toNat / 2 ^ 7 % 32) old (if w then csrStore (csrHome x n) (csrNew insn.toNat old v.toNat) (freeVal s.dev) x else x)
          { y with pc := (x.pc + 4) % 2 ^ 64 }))) := by
  intro x n old w
  obtain ⟨hruns, hreq⟩ := hready
  rw [exec_csr hruns]
  refine ⟨fun ⟨hw, hr⟩ => ?_, fun hex hsatp hne => ?_⟩
  · rw [csrInsn_illegal hw hr]
  rw [csrInsn_accesses hex hsatp hne]
  refine ⟨fun hacc => ?_, fun hacc => ?_, fun hacc hn => ⟨_, rfl, ?_⟩⟩
  · rw [csrWrite_illegal hacc]
  · rw [csrWrite_virtual hacc]
  · exact csrWrite_steps hacc hn hreq (waiting_of_hartRuns hruns) (fun u y => flow_csrStore ..)

/-- A hart writes the argument registers of its own command slot in M-mode (R372). -/
theorem registerWrite_slotArg {h : HartN} (v : Word) (k : Fin 4) {s : State} (hruns : hartRuns s.dev h = true) :
    let t : RegTarget := .hub h (hubBase + slotBase + 0x40 * h + 8 * k) 8
    ((hartOf s.dev h).mode ≠ .m → exec (.registerWrite t v) s = .next s) ∧
    ((hartOf s.dev h).mode = .m → ∃ d, exec (.registerWrite t v) s = .next { s with dev := d } ∧ { d with cmds := s.dev.cmds } = s.dev ∧
      (∀ j, j ≠ h.val → cmdOf d j = cmdOf s.dev j) ∧
      cmdOf d h = { cmdOf s.dev h with
        a0 := if k = 0 then v.toNat else (cmdOf s.dev h).a0, a1 := if k = 1 then v.toNat else (cmdOf s.dev h).a1,
        a2 := if k = 2 then v.toNat else (cmdOf s.dev h).a2, a3 := if k = 3 then v.toNat else (cmdOf s.dev h).a3 }) := by
  intro t
  rw [exec_registerWrite]
  constructor
  · intro hm
    rw [registerWrite_hub_user k v hm]
  · intro hm
    rw [registerWrite_slot k v hruns hm]
    exact ⟨_, rfl, rfl, fun j hj => cmdOf_updCmd_other _ _ hj, cmdOf_updCmd_same ..⟩

/-- A register that a function's BAR has ignores the write where the function does not exist, and only counts one of a hart it does not serve. -/
theorem registerWrite_refused {h : HartN} {b : BenchN} {f : FnN} {k : RingN} {w : Fin 68} (v : Word) (s : State) {t : RegTarget}
    (ht : t ∈ [RegTarget.sqBase h b f k, .cqBase h b f k, .fchMemAddr h b f k, .fchSpadOff h b f k, .fchCount h b f k, .fchCtl h b f k, .msix h b f w]) :
    (fnExists s.dev b f = false → exec (.registerWrite t v) s = .next s) ∧
    (fnExists s.dev b f = true → hartServed s.dev b f h = false → exec (.registerWrite t v) s = .next { s with dev := countPkg pkgFnDenied s.dev }) := by
  obtain ⟨act, hact⟩ := registerWrite_bar ht v.toNat s.dev
  rw [exec_registerWrite, hact]
  constructor
  · intro hex
    rw [barWrite_absent hex]
  · intro hex hserved
    rw [barWrite_denied hex hserved]

/-- Settles O42: each register's write is its own lemma above. -/
theorem hubRegisters : Obligations.HubRegisters := by
  unfold Obligations.HubRegisters
  refine ⟨fun h r v s => ⟨holdRegisterWrite_ignored r v, holdRegisterWrite_puts r v⟩, fun m s => uncached_served, fun m file s => imsw_delivered_or_lost file,
    gaugeWindowWrite_counts, fun h insn v s => registerWrite_csr insn v, fun h v k s => registerWrite_slotArg v k,
    fun h b f k w v s t ht => registerWrite_refused v s ht, fun h b f r v s => registerWrite_ringBases v r, fun h b f c v s => registerWrite_feed v c,
    fun h b f w v s => registerWrite_msix w v, fun h b f i v s hbar => ?_, fun b f v s => ?_, registerWrite_dmResume⟩
  · obtain ⟨hdlogBase, hdlogIova, hdlogPages, htenant, hinval⟩ := registerWrite_pfBar (f := f) v hbar
    obtain ⟨hlocked, hopen⟩ := registerWrite_ioatp (f := f) v hbar
    exact ⟨hdlogBase, hdlogIova, hdlogPages, htenant, hlocked, hopen, registerWrite_pfQdone i v hbar, hinval⟩
  · obtain ⟨hvfs, hkept⟩ := registerWrite_vfEnable (b := b) (s := s) v
    exact ⟨hvfs, hkept, registerWrite_powerState v⟩

end Sys2Proof.Proofs
end

section
namespace Sys2Proof.Proofs

open Sys2Proof.Machine

/-! ### Folds over a table -/

section tables
variable {α β : Type} [DecidableEq β]

/-- A run of writes leaves a key that none of them is at. -/
theorem tabGet_foldl_tabSet_other (dflt : β) (key : α → Nat) (val : α → β) {k : Nat} {l : List α} (h : ∀ r ∈ l, key r ≠ k) (t : Tab β) :
    tabGet dflt (l.foldl (fun t r => tabSet dflt t (key r) (val r)) t) k = tabGet dflt t k := by
  induction l generalizing t with
  | nil => rfl
  | cons r l ih =>
    obtain ⟨hr, hl⟩ := List.forall_mem_cons.1 h
    rw [List.foldl_cons, ih hl, tabGet_tabSet_other _ _ _ hr.symm]

/-- A run of writes at different keys: each key reads what was written there. -/
theorem tabGet_foldl_tabSet_mem (dflt : β) (key : α → Nat) (val : α → β) {r : α} {l : List α} (hnd : (l.map key).Nodup) (hr : r ∈ l) (t : Tab β) :
    tabGet dflt (l.foldl (fun t r => tabSet dflt t (key r) (val r)) t) (key r) = val r := by
  induction l generalizing t with
  | nil => cases hr
  | cons q l ih =>
    obtain ⟨hq, hl⟩ := List.nodup_cons.1 hnd
    rw [List.foldl_cons]
    rcases List.mem_cons.1 hr with rfl | hr
    · have hother : ∀ p ∈ l, key p ≠ key r := fun p hp he => hq (he ▸ List.mem_map_of_mem hp)
      rw [tabGet_foldl_tabSet_other _ _ _ hother, tabGet_tabSet_same]
    · exact ih hl hr _

end tables

/-- Counting keys in a table: each reads as often more as it was counted. -/
theorem tabGet_foldl_count (l : List Nat) (t : Tab Nat) (k : Nat) :
    tabGet 0 (l.foldl (fun t k => tabUpd 0 t k (· + 1)) t) k = tabGet 0 t k + l.count k := by
  induction l generalizing t with
  | nil => rfl
  | cons j l ih =>
    rw [List.foldl_cons, ih, tabGet_tabUpd, List.count_cons]
    by_cases h : k = j
    · subst h
      simp
      omega
    · simp [h, Ne.symm h]

theorem nodup_nubNat (l : List Nat) : (nubNat l).Nodup := by
  induction l with
  | nil => exact List.nodup_nil
  | cons x l ih =>
    rw [nubNat, List.nodup_cons]
    exact ⟨by simp, ih.filter _⟩

end Sys2Proof.Proofs
end

section
namespace Sys2Proof.Proofs

open Sys2Proof.Machine

/-! ### What a slot charges (R432–R434, R442) -/

/-- What a part of a slot adds: energy to each domain; energy, slots and bench energy to each tag. -/
structure Charge where
  dom : Nat → Nat
  core : Nat → Nat
  slots : Nat → Nat
  bench : Nat → Nat

/-- Energy of one domain, of no tag. -/
def Charge.ofDom (k n : Nat) : Charge := { dom := fun j => if j = k then n else 0, core := fun _ => 0, slots := fun _ => 0, bench := fun _ => 0 }

/-- Energy and slots of one tag, of no domain. -/
def Charge.ofTag (tag core slots bench : Nat) : Charge := {
  dom := fun _ => 0, core := fun t => if tag = t then core else 0, slots := fun t => if tag = t then slots else 0, bench := fun t => if tag = t then bench else 0 }

def Charge.total (l : List Charge) : Charge := {
  dom := fun n => (l.map (fun u => u.dom n)).sum, core := fun t => (l.map (fun u => u.core t)).sum,
  slots := fun t => (l.map (fun u => u.slots t)).sum, bench := fun t => (l.map (fun u => u.bench t)).sum }

/-- A tag's account with a charge added. -/
def Charge.addTo (u : Charge) (t : Nat) (x : Tenant) : Tenant := { x with core := x.core + u.core t, slots := x.slots + u.slots t, bench := x.bench + u.bench t }

/-- The package with other accounts in the open interval. -/
def withAccounts (x : Tab Nat) (y : Tab Tenant) (d : Dev) : Dev := updGauge d (fun g => { g with dom := x, tenants := y })

/-- `d'` is `d` with the charge added to the open interval's accounts, and nothing else. -/
def Charged (d : Dev) (u : Charge) (d' : Dev) : Prop :=
  ∃ x y, d' = withAccounts x y d ∧ (∀ n, tabGet 0 x n = tabGet 0 d.gauge.dom n + u.dom n) ∧
    ∀ t, tabGet tenantInit y t = u.addTo t (tabGet tenantInit d.gauge.tenants t)

theorem charged_nil (d : Dev) : Charged d (.total []) d := ⟨d.gauge.dom, d.gauge.tenants, rfl, fun _ => rfl, fun _ => rfl⟩

theorem Charged.cons {d d' d'' : Dev} {u : Charge} {l : List Charge} (h : Charged d u d') (h' : Charged d' (.total l) d'') :
    Charged d (.total (u :: l)) d'' := by
  obtain ⟨x, y, rfl, hx, hy⟩ := h
  obtain ⟨x', y', rfl, hx', hy'⟩ := h'
  refine ⟨x', y', rfl, fun n => ?_, fun t => ?_⟩
  · rw [hx' n]
    simp [withAccounts, updGauge, hx n, Charge.total, Nat.add_assoc]
  · rw [hy' t]
    simp [withAccounts, updGauge, hy t, Charge.total, Charge.addTo, Nat.add_assoc]

theorem Charged.verifyOn {d d' : Dev} {u : Charge} (h : Charged d u d') : d'.gauge.verifyOn = d.gauge.verifyOn := by
  obtain ⟨x, y, rfl, -, -⟩ := h
  rfl

/-- The steps of a fold charge what they charge one by one, where each charges the same whatever the accounts hold. -/
theorem charged_foldl {β : Type} {f : Dev → β → Dev} {u : β → Charge} {d : Dev}
    (h : ∀ x y b, Charged (withAccounts x y d) (u b) (f (withAccounts x y d) b)) (l : List β) : Charged d (.total (l.map u)) (l.foldl f d) := by
  induction l generalizing d with
  | nil => exact charged_nil d
  | cons b l ih =>
    have hb : Charged d (u b) (f d b) := h d.gauge.dom d.gauge.tenants b
    refine hb.cons (ih fun x y b' => ?_)
    obtain ⟨x', y', heq, -, -⟩ := hb
    rw [heq]
    exact h x y b'

theorem charged_addDom (k n : Nat) (d : Dev) : Charged d (.ofDom k n) (addDom k n d) := by
  refine ⟨_, d.gauge.tenants, rfl, fun j => ?_, fun _ => rfl⟩
  rw [tabGet_tabUpd]
  by_cases h : j = k <;> simp [Charge.ofDom, h]

theorem charged_updTenant (tag core slots bench : Nat) (d : Dev) :
    Charged d (.ofTag tag core slots bench)
      (updTenant tag (fun t => { t with core := t.core + core, slots := t.slots + slots, bench := t.bench + bench }) d) := by
  refine ⟨d.gauge.dom, _, rfl, fun _ => rfl, fun t => ?_⟩
  rw [tabGet_tabUpd]
  by_cases h : tag = t
  · simp [Charge.ofTag, Charge.addTo, h]
  · simp [Charge.ofTag, Charge.addTo, h, Ne.symm h]

/-- What a hart's slot charges: its die, and where it is present the tag sampled at the slot's start (R432, R433). -/
def hartCharge (d : Dev) (e : Nat → Nat) (h : Nat) : Charge :=
  .total [.ofDom (h / 18) (e h), if hartPresent d h then .ofTag (tabGet 0 d.gauge.hartTag h) (e h) 1 0 else .total []]

/-- A hart's step of a slot, as the model takes it. -/
def hartSlot (e : Nat → Nat) (d : Dev) (h : Nat) : Dev :=
  let d := addDom (h / 18) (e h) d
  if gaugeHart d h then updTenant (tabGet 0 d.gauge.hartTag h) (fun t => { t with core := t.core + e h, slots := t.slots + 1 }) d else d

theorem charged_hartSlot (e : Nat → Nat) (h : Nat) (d : Dev) : Charged d (hartCharge d e h) (hartSlot e d h) := by
  have hsame : gaugeHart (addDom (h / 18) (e h) d) h = hartPresent d h := rfl
  unfold hartSlot hartCharge
  simp only [hsame]
  refine (charged_addDom (h / 18) (e h) d).cons (.cons (d' := _) ?_ (charged_nil _))
  split
  · exact charged_updTenant _ (e h) 1 0 _
  · exact charged_nil _

/-- The samples of a bench in the slot. -/
def sampleTotal (g : GaugeSt) (b : Nat) : Nat := ((benchSamples g b).map (fun x => x.2)).sum

/-- What a bench's slot charges: its domain, and its tags in proportion or the unattributed domain (R434). -/
def benchCharge (g : GaugeSt) (b e : Nat) : Charge :=
  .total [.ofDom (12 + b) e,
    if sampleTotal g b = 0 then .ofDom (21 + b) e else .total ((benchSamples g b).map (fun x => .ofTag x.1 0 0 (e * x.2 / sampleTotal g b)))]

theorem charged_benchSlot (b e : Nat) (d : Dev) : Charged d (benchCharge d.gauge b e) (benchSlot b e d) := by
  have htotal : (benchSamples d.gauge b).foldl (fun n x => n + x.2) 0 = sampleTotal d.gauge b := by
    rw [sampleTotal, List.sum_eq_foldl_nat, List.foldl_map]
  unfold benchSlot benchCharge
  simp only [htotal]
  refine (charged_addDom (12 + b) e d).cons (.cons (d' := _) ?_ (charged_nil _))
  split
  · exact charged_addDom _ _ _
  · exact charged_foldl (fun x y q => charged_updTenant q.1 0 0 _ _) _

/-- What a slot charges in all, of the charges of accounts 0–224 and of the reference load. -/
def slotCharge (d : Dev) (e : Nat → Nat) (ref : Nat) : Charge :=
  .total [.total ((List.range 216).map (hartCharge d e)), .total ((List.range 4).map (fun b => benchCharge d.gauge b (e (216 + b)))),
    .total ((List.range 5).map (fun k => .ofDom (16 + k) (e (220 + k)))), .ofDom 25 (if d.gauge.verifyOn then ref else 0)]

/-- The steps of a slot in an open interval, as the model takes them. -/
def chargedSlot (e : Nat → Nat) (ref : Nat) (d : Dev) : Dev :=
  let d := (List.range 216).foldl (hartSlot e) d
  let d := (List.range 4).foldl (fun d b => benchSlot b (e (216 + b)) d) d
  let d := (List.range 5).foldl (fun d k => addDom (16 + k) (e (220 + k)) d) d
  addDom 25 (if d.gauge.verifyOn then ref else 0) d

theorem charged_harts (e : Nat → Nat) (d : Dev) : Charged d (.total ((List.range 216).map (hartCharge d e))) ((List.range 216).foldl (hartSlot e) d) := by
  refine charged_foldl (fun x y h => ?_) _
  have hsame : hartCharge (withAccounts x y d) e h = hartCharge d e h := rfl
  exact hsame ▸ charged_hartSlot e h (withAccounts x y d)

theorem charged_benches (e : Nat → Nat) (d : Dev) :
    Charged d (.total ((List.range 4).map (fun b => benchCharge d.gauge b (e (216 + b))))) ((List.range 4).foldl (fun d b => benchSlot b (e (216 + b)) d) d) :=
  charged_foldl (fun x y b => charged_benchSlot b (e (216 + b)) (withAccounts x y d)) _

theorem charged_others (e : Nat → Nat) (d : Dev) :
    Charged d (.total ((List.range 5).map (fun k => .ofDom (16 + k) (e (220 + k))))) ((List.range 5).foldl (fun d k => addDom (16 + k) (e (220 + k)) d) d) :=
  charged_foldl (fun x y k => charged_addDom (16 + k) (e (220 + k)) (withAccounts x y d)) _

/-- The accounts are all that moves from part to part, and no part's charge depends on them. -/
theorem chargedSlot_charged (e : Nat → Nat) (ref : Nat) (d : Dev) : Charged d (slotCharge d e ref) (chargedSlot e ref d) := by
  unfold chargedSlot
  extract_lets d1 d2 d3
  have hharts : Charged d _ d1 := charged_harts e d
  have hbenches : Charged d1 _ d2 := charged_benches e d1
  have hothers : Charged d2 _ d3 := charged_others e d2
  have hsamples (b : Nat) : benchCharge d1.gauge b (e (216 + b)) = benchCharge d.gauge b (e (216 + b)) := by
    obtain ⟨x, y, heq, -, -⟩ := hharts
    rw [heq]
    rfl
  have hverify : d3.gauge.verifyOn = d.gauge.verifyOn := hothers.verifyOn.trans (hbenches.verifyOn.trans hharts.verifyOn)
  simp only [hsamples] at hbenches
  rw [hverify]
  exact hharts.cons (hbenches.cons (hothers.cons ((charged_addDom 25 _ d3).cons (charged_nil _))))

/-! ### What the charges of a slot come to -/

@[simp] theorem dom_total (l : List Charge) (n : Nat) : (Charge.total l).dom n = (l.map (fun u => u.dom n)).sum := rfl
@[simp] theorem core_total (l : List Charge) (t : Nat) : (Charge.total l).core t = (l.map (fun u => u.core t)).sum := rfl
@[simp] theorem slots_total (l : List Charge) (t : Nat) : (Charge.total l).slots t = (l.map (fun u => u.slots t)).sum := rfl
@[simp] theorem bench_total (l : List Charge) (t : Nat) : (Charge.total l).bench t = (l.map (fun u => u.bench t)).sum := rfl

@[simp] theorem dom_ofDom (k n j : Nat) : (Charge.ofDom k n).dom j = if j = k then n else 0 := rfl
@[simp] theorem core_ofDom (k n t : Nat) : (Charge.ofDom k n).core t = 0 := rfl
@[simp] theorem slots_ofDom (k n t : Nat) : (Charge.ofDom k n).slots t = 0 := rfl
@[simp] theorem bench_ofDom (k n t : Nat) : (Charge.ofDom k n).bench t = 0 := rfl

@[simp] theorem dom_ofTag (tag c n b j : Nat) : (Charge.ofTag tag c n b).dom j = 0 := rfl
@[simp] theorem core_ofTag (tag c n b t : Nat) : (Charge.ofTag tag c n b).core t = if tag = t then c else 0 := rfl
@[simp] theorem slots_ofTag (tag c n b t : Nat) : (Charge.ofTag tag c n b).slots t = if tag = t then n else 0 := rfl
@[simp] theorem bench_ofTag (tag c n b t : Nat) : (Charge.ofTag tag c n b).bench t = if tag = t then b else 0 := rfl

/-- A sum over the members a test passes is the sum of the filtered list. -/
theorem sum_map_ite_zero {β : Type} (p : β → Bool) (f : β → Nat) (l : List β) :
    (l.map (fun b => if p b then f b else 0)).sum = ((l.filter p).map f).sum := by
  simp [List.sum_map_ite]

/-- The harts' charges in blocks of 18: a die has its own block and no other. -/
theorem sum_hartBlocks (e : Nat → Nat) (n m : Nat) :
    ((List.range (18 * m)).map (fun h => if n = h / 18 then e h else 0)).sum = if n < m then ((List.range 18).map (fun c => e (18 * n + c))).sum else 0 := by
  induction m with
  | zero => rfl
  | succ m ih =>
    have hblock : (List.range 18).map (fun c => if n = (18 * m + c) / 18 then e (18 * m + c) else 0) =
        (List.range 18).map (fun c => if n = m then e (18 * m + c) else 0) := by
      refine List.map_congr_left fun c hc => ?_
      have hdiv : (18 * m + c) / 18 = m := by have := List.mem_range.1 hc; omega
      rw [hdiv]
    rw [Nat.mul_succ, List.range_add, List.map_append, List.sum_append, ih, List.map_map, Function.comp_def, hblock]
    rcases Nat.lt_trichotomy n m with h | rfl | h
    · simp [h, h.ne, Nat.lt_succ_of_lt h]
    · simp
    · simp [h.ne', Nat.not_lt.2 h.le, Nat.not_lt.2 (Nat.succ_le_of_lt h)]

section slot
variable (d : Dev) (e : Nat → Nat) (ref : Nat)

/-- The harts present whose tag is `t`. -/
def tagHarts (t : Nat) : List Nat := (List.range 216).filter (fun h => hartPresent d h && tabGet 0 d.gauge.hartTag h == t)

@[simp] theorem hartCharge_dom (h n : Nat) : (hartCharge d e h).dom n = if n = h / 18 then e h else 0 := by
  unfold hartCharge
  cases hartPresent d h <;> simp

@[simp] theorem hartCharge_core (h t : Nat) :
    (hartCharge d e h).core t = if hartPresent d h && tabGet 0 d.gauge.hartTag h == t then e h else 0 := by
  unfold hartCharge
  cases hartPresent d h <;> simp

@[simp] theorem hartCharge_slots (h t : Nat) :
    (hartCharge d e h).slots t = if hartPresent d h && tabGet 0 d.gauge.hartTag h == t then 1 else 0 := by
  unfold hartCharge
  cases hartPresent d h <;> simp

@[simp] theorem hartCharge_bench (h t : Nat) : (hartCharge d e h).bench t = 0 := by
  unfold hartCharge
  cases hartPresent d h <;> simp

/-- A tag's part of a bench's slot, each share rounded down. -/
def benchShare (g : GaugeSt) (b e t : Nat) : Nat := (((benchSamples g b).filter (fun x => x.1 == t)).map (fun x => e * x.2 / sampleTotal g b)).sum

@[simp] theorem benchCharge_dom (g : GaugeSt) (b c n : Nat) :
    (benchCharge g b c).dom n = (if n = 12 + b then c else 0) + if n = 21 + b then (if sampleTotal g b = 0 then c else 0) else 0 := by
  unfold benchCharge
  by_cases h : sampleTotal g b = 0 <;> simp [h, Function.comp_def]

@[simp] theorem benchCharge_core (g : GaugeSt) (b c t : Nat) : (benchCharge g b c).core t = 0 := by
  unfold benchCharge
  by_cases h : sampleTotal g b = 0 <;> simp [h, Function.comp_def]

@[simp] theorem benchCharge_slots (g : GaugeSt) (b c t : Nat) : (benchCharge g b c).slots t = 0 := by
  unfold benchCharge
  by_cases h : sampleTotal g b = 0 <;> simp [h, Function.comp_def]

/-- Without samples no share is left to divide: each quotient is by 0. -/
@[simp] theorem benchCharge_bench (g : GaugeSt) (b c t : Nat) : (benchCharge g b c).bench t = benchShare g b c t := by
  unfold benchCharge benchShare
  by_cases h : sampleTotal g b = 0
  · simp [h]
  · simp [h, Function.comp_def, ← sum_map_ite_zero]

theorem slotCharge_dom (n : Nat) :
    (slotCharge d e ref).dom n = (if n < 12 then ((List.range 18).map (fun c => e (18 * n + c))).sum else 0) +
      (((List.range 4).map (fun b => (benchCharge d.gauge b (e (216 + b))).dom n)).sum +
      (((List.range 5).map (fun k => if n = 16 + k then e (220 + k) else 0)).sum + if n = 25 then (if d.gauge.verifyOn then ref else 0) else 0)) := by
  have hblocks := sum_hartBlocks e n 12
  simp only [slotCharge, dom_total, List.map_map, Function.comp_def, List.map_cons, List.map_nil, List.sum_cons, List.sum_nil, hartCharge_dom, dom_ofDom,
    Nat.add_zero]
  rw [hblocks]

theorem slotCharge_die {n : Nat} (hn : n < 12) : (slotCharge d e ref).dom n = ((List.range 18).map (fun c => e (18 * n + c))).sum := by
  rw [slotCharge_dom, if_pos hn]
  simp [List.range_succ]
  omega

theorem slotCharge_bench {b : Nat} (hb : b < 4) : (slotCharge d e ref).dom (12 + b) = e (216 + b) := by
  rw [slotCharge_dom, if_neg (by omega)]
  interval_cases b <;> simp [List.range_succ]

theorem slotCharge_unattributed {b : Nat} (hb : b < 4) :
    (slotCharge d e ref).dom (21 + b) = if sampleTotal d.gauge b = 0 then e (216 + b) else 0 := by
  rw [slotCharge_dom, if_neg (by omega)]
  interval_cases b <;> simp [List.range_succ]

theorem slotCharge_other {k : Nat} (hk : k < 5) : (slotCharge d e ref).dom (16 + k) = e (220 + k) := by
  rw [slotCharge_dom, if_neg (by omega)]
  interval_cases k <;> simp [List.range_succ]

theorem slotCharge_reference : (slotCharge d e ref).dom 25 = if d.gauge.verifyOn then ref else 0 := by
  rw [slotCharge_dom, if_neg (by omega)]
  simp [List.range_succ]

theorem slotCharge_core (t : Nat) : (slotCharge d e ref).core t = ((tagHarts d t).map e).sum := by
  simp only [slotCharge, tagHarts, core_total, List.map_map, Function.comp_def, List.map_cons, List.map_nil, List.sum_cons, List.sum_nil, hartCharge_core,
    sum_map_ite_zero, benchCharge_core, core_ofDom, List.sum_map_zero, Nat.add_zero]

theorem slotCharge_slots (t : Nat) : (slotCharge d e ref).slots t = (tagHarts d t).length := by
  simp only [slotCharge, tagHarts, slots_total, List.map_map, Function.comp_def, List.map_cons, List.map_nil, List.sum_cons, List.sum_nil, hartCharge_slots,
    sum_map_ite_zero, benchCharge_slots, slots_ofDom, List.sum_map_zero, Nat.add_zero]
  simp

theorem slotCharge_shares (t : Nat) : (slotCharge d e ref).bench t =
    benchShare d.gauge 0 (e 216) t + benchShare d.gauge 1 (e 217) t + benchShare d.gauge 2 (e 218) t + benchShare d.gauge 3 (e 219) t := by
  simp only [slotCharge, bench_total, List.map_map, Function.comp_def, List.map_cons, List.map_nil, List.sum_cons, List.sum_nil, hartCharge_bench,
    benchCharge_bench, bench_ofDom, List.sum_map_zero, Nat.add_zero]
  simp [List.range_succ, Nat.add_assoc]

end slot

/-! ### A slot of the Gauge -/

/-- The next slot begins: its harts' tags are sampled and it has no samples of functions (R432, R435). -/
def nextSlot (d : Dev) : Dev := updGauge d (fun g => { g with
  hartTag := (List.range 216).foldl (fun t h => tabSet 0 t h ((hartOf d h).htenant % 4096)) [], samples := [], holdSeen := g.holdSeen || d.holdover })

theorem nextSlot_hartTag (d : Dev) {h : Nat} (hh : h < 216) : tabGet 0 (nextSlot d).gauge.hartTag h = (hartOf d h).htenant % 4096 := by
  have hnd : ((List.range 216).map (fun h => h)).Nodup := by
    rw [List.map_id']
    exact List.nodup_range
  exact tabGet_foldl_tabSet_mem 0 (fun h => h) (fun h => (hartOf d h).htenant % 4096) hnd (List.mem_range.2 hh) []

/-- A slot's end, by whether the Gauge is there and an interval open. -/
theorem gaugeSlot_eq (charges : List Nat) (ref : Nat) (d : Dev) : gaugeSlot charges ref d =
    if gaugePresent d then nextSlot (if d.gauge.openKind = 0 then d else chargedSlot (fun a => charges.getD a 0) ref d) else d := by
  unfold gaugeSlot chargedSlot nextSlot hartSlot
  generalize List.range 216 = l
  rfl

/-- A slot of a Gauge that is there: the open interval's accounts get the slot's charges, closed ones stay, and the next slot begins. -/
theorem gaugeSlot_present {d : Dev} (hp : gaugePresent d = true) (charges : List Nat) (ref : Nat) :
    let u := slotCharge d (fun a => charges.getD a 0) ref
    ∃ x y, gaugeSlot charges ref d = nextSlot (withAccounts x y d) ∧ (d.gauge.openKind = 0 → x = d.gauge.dom ∧ y = d.gauge.tenants) ∧
      (d.gauge.openKind ≠ 0 → (∀ n, tabGet 0 x n = tabGet 0 d.gauge.dom n + u.dom n) ∧
        ∀ t, tabGet tenantInit y t = u.addTo t (tabGet tenantInit d.gauge.tenants t)) := by
  intro u
  rw [gaugeSlot_eq, if_pos hp]
  by_cases hk : d.gauge.openKind = 0
  · rw [if_pos hk]
    exact ⟨d.gauge.dom, d.gauge.tenants, rfl, fun _ => ⟨rfl, rfl⟩, fun hne => absurd hk hne⟩
  · obtain ⟨x, y, heq, hdom, htag⟩ := chargedSlot_charged (fun a => charges.getD a 0) ref d
    rw [if_neg hk, heq]
    exact ⟨x, y, rfl, fun h0 => absurd h0 hk, fun _ => ⟨hdom, htag⟩⟩

end Sys2Proof.Proofs
end

section
namespace Sys2Proof.Proofs

open Sys2Proof.Machine

/-! ### Samples of the functions' tags (R435) -/

/-- The tags of a bench's active functions. -/
def activeTags (d : Dev) (b : Nat) : List Nat := (activeFns d b).map (fun f => (fnOf d b f).tenant % 4096)

/-- The keys a microsecond's sample counts for a bench: each of its active tags once. -/
def benchKeys (d : Dev) (b : Nat) : List Nat := (nubNat (activeTags d b)).map (fun t => b * 4096 + t)

def sampledKeys (d : Dev) : List Nat := (List.range 4).flatMap (benchKeys d)

def withSamples (d : Dev) (x : Tab Nat) : Dev := updGauge d (fun g => { g with samples := x })

theorem gaugeSample_present {d : Dev} (hp : gaugePresent d = true) :
    gaugeSample d = withSamples d ((sampledKeys d).foldl (fun t k => tabUpd 0 t k (· + 1)) d.gauge.samples) := by
  unfold gaugeSample sampledKeys
  rw [if_pos hp, List.foldl_flatMap, ← List.foldl_hom (withSamples d)]
  · rfl
  · intro x b
    rw [benchKeys, List.foldl_map, ← List.foldl_hom (withSamples d)]
    · rfl
    · intro x t
      rfl

theorem activeTags_lt {d : Dev} {b t : Nat} (h : t ∈ activeTags d b) : t < 4096 := by
  obtain ⟨f, -, rfl⟩ := List.mem_map.1 h
  exact Nat.mod_lt _ (by decide)

/-- Tags are below 4096, so a bench counts no other bench's key. -/
theorem count_benchKeys (d : Dev) (c b : Nat) {t : Nat} (ht : t < 4096) :
    (benchKeys d c).count (b * 4096 + t) = if c = b then (if t ∈ activeTags d b then 1 else 0) else 0 := by
  by_cases hc : c = b
  · subst hc
    rw [benchKeys, List.count_map_of_injective _ _ (fun x y h => by simpa using h), (nodup_nubNat _).count, if_pos rfl]
    simp only [mem_nubNat]
  · rw [if_neg hc, List.count_eq_zero]
    intro hmem
    obtain ⟨u, hu, heq⟩ := List.mem_map.1 hmem
    have hlt : u < 4096 := activeTags_lt ((mem_nubNat _ _).1 hu)
    omega

theorem count_sampledKeys (d : Dev) {b t : Nat} (hb : b < 4) (ht : t < 4096) :
    (sampledKeys d).count (b * 4096 + t) = if t ∈ activeTags d b then 1 else 0 := by
  rw [sampledKeys, List.count_flatMap]
  simp only [Function.comp_def, count_benchKeys d _ b ht]
  generalize (if t ∈ activeTags d b then 1 else 0) = n
  interval_cases b <;> simp [List.range_succ]

/-! ### Signed records (R440, R445) -/

/-- The slot of the ring a record goes to. -/
def ringSlot (r : List Byte) : Nat := leAt r 0x10 8 % 16384

def ringPut (x : Tab (List Byte)) (l : List (List Byte)) : Tab (List Byte) := l.foldl (fun x r => tabSet [] x (ringSlot r) (r ++ signWith keyGauge r)) x

def signedAfter (n : Nat) (l : List (List Byte)) : Nat := l.foldl (fun _ r => leAt r 0x10 8 + 1) n

def withRing (x : Tab (List Byte)) (n : Nat) (waiting : List (List Byte)) (d : Dev) : Dev :=
  updGauge d (fun g => { g with ring := x, signed := n, closing := waiting })

theorem signedAfter_getLast? {l : List (List Byte)} {r : List Byte} (h : l.getLast? = some r) (n : Nat) : signedAfter n l = leAt r 0x10 8 + 1 := by
  obtain ⟨ys, rfl⟩ := List.getLast?_eq_some_iff.1 h
  rw [signedAfter, List.foldl_append]
  rfl

/-- Signing takes the closed records in their order, and leaves none waiting. -/
theorem gaugeSign_eq (d : Dev) :
    gaugeSign d = withRing (ringPut d.gauge.ring d.gauge.closing) (signedAfter d.gauge.signed d.gauge.closing) [] d := by
  have hrun (l : List (List Byte)) (d : Dev) : l.foldl (fun d r =>
      let n := leAt r 0x10 8
      updGauge d (fun g => { g with ring := tabSet [] g.ring (n % 16384) (r ++ signWith keyGauge r), signed := n + 1, closing := g.closing.drop 1 })) d =
      withRing (ringPut d.gauge.ring l) (signedAfter d.gauge.signed l) (d.gauge.closing.drop l.length) d := by
    induction l generalizing d with
    | nil => rfl
    | cons r l ih =>
      rw [List.foldl_cons, ih, List.length_cons, Nat.add_comm, ← List.drop_drop]
      rfl
  unfold gaugeSign
  rw [hrun, List.drop_length]

end Sys2Proof.Proofs
end

section
namespace Sys2Proof.Proofs

open Sys2Proof.Machine

/-! ### O58: the Gauge -/

theorem next_of_dev_eq {s : State} {d d' : Dev} (h : d = d') :
    (Host.Outcome.next { s with dev := d } : Host.Outcome State Fault Refusal) = .next { s with dev := d' } := by
  rw [h]

theorem gaugeRunStart_again {s : State} (hv : s.dev.pins.vgauge = true) : exec .gaugeRunStart s = .next s := by
  have hsame : gaugeRunStart s.dev = s.dev := if_pos hv
  exact next_of_dev_eq hsame

/-- A run that starts before release opens the bring-up record (R431). -/
theorem gaugeRunStart_fresh {s : State} (hv : s.dev.pins.vgauge = false) : exec .gaugeRunStart s = .next { s with
      dev := { drawn s.dev with
        pins := { s.dev.pins with vgauge := true },
        gauge := { gaugeInit with
          runId := freeVal s.dev % 2 ^ 64, lost := s.dev.gauge.lost, openKind := if s.dev.boot.phase = .released then 0 else 3,
          timeStart := if s.dev.boot.phase = .released then 0 else s.dev.now, holdSeen := if s.dev.boot.phase = .released then false else s.dev.holdover } } } := by
  have hexec : exec .gaugeRunStart s = onDev gaugeRunStart s := rfl
  rw [hexec, onDev, gaugeRunStart, if_neg (by rw [hv]; decide)]
  by_cases hr : s.dev.boot.phase = .released
  · simp only [if_pos hr]
    exact next_of_dev_eq (if_pos hr)
  · simp only [if_neg hr]
    exact next_of_dev_eq (if_neg hr)

/-- GAUGE_RST_N falls in a run: the open interval is lost (R20). -/
theorem gaugeReset_falls {low : Bool} {s : State} (hl : low = true) (hp : gaugePresent s.dev = true) : exec (.gaugeReset low) s = .next { s with
      dev := { s.dev with
        pins := { s.dev.pins with gaugeRst := true },
        gauge := { s.dev.gauge with openKind := 0, gap := s.dev.gauge.gap || s.dev.gauge.openKind != 0, dom := [], tenants := [], samples := [], hartTag := [] } } } := by
  subst hl
  have hexec : exec (.gaugeReset true) s = onDev (gaugeRestart true) s := rfl
  rw [hexec, onDev, gaugeRestart, hp]
  rfl

theorem gaugeReset_keeps {low : Bool} {s : State} (h : low = false ∨ gaugePresent s.dev = false) :
    exec (.gaugeReset low) s = .next { s with dev := { s.dev with pins := { s.dev.pins with gaugeRst := low } } } := by
  have hexec : exec (.gaugeReset low) s = onDev (gaugeRestart low) s := rfl
  have hno : (low && gaugePresent s.dev) = false := by
    rcases h with h | h <;> simp [h]
  rw [hexec, onDev, gaugeRestart, hno]
  rfl

theorem gaugeSlot_absent {s : State} (hp : gaugePresent s.dev = false) (charges : List Nat) (ref : Nat) : exec (.gaugeSlot charges ref) s = .next s := by
  have hsame : gaugeSlot charges ref s.dev = s.dev := if_neg (by rw [hp]; decide)
  exact next_of_dev_eq hsame

theorem gaugeTagSample_absent {s : State} (hp : gaugePresent s.dev = false) : exec .gaugeTagSample s = .next s := by
  have hsame : gaugeSample s.dev = s.dev := if_neg (by rw [hp]; decide)
  exact next_of_dev_eq hsame

theorem gaugeTagSample_counts {s : State} (hp : gaugePresent s.dev = true) :
    ∃ d, exec .gaugeTagSample s = .next { s with dev := d } ∧ { d with gauge := { d.gauge with samples := s.dev.gauge.samples } } = s.dev ∧
      (∀ b t, b < 4 → t < 4096 → tabGet 0 d.gauge.samples (b * 4096 + t) =
        tabGet 0 s.dev.gauge.samples (b * 4096 + t) + (if t ∈ activeTags s.dev b then 1 else 0)) := by
  refine ⟨gaugeSample s.dev, rfl, ?_, fun b t hb ht => ?_⟩
  · rw [gaugeSample_present hp]
    rfl
  · rw [gaugeSample_present hp, ← count_sampledKeys s.dev hb ht]
    exact tabGet_foldl_count ..

theorem gaugeRecordsSigned_inOrder (s : State) :
    ∃ d, exec .gaugeRecordsSigned s = .next { s with dev := d } ∧ d.gauge.closing = [] ∧
      (∀ r, s.dev.gauge.closing.getLast? = some r → d.gauge.signed = leAt r 0x10 8 + 1) ∧
      ((s.dev.gauge.closing.map ringSlot).Nodup → ∀ r ∈ s.dev.gauge.closing, tabGet [] d.gauge.ring (ringSlot r) = r ++ signWith keyGauge r) ∧
      (∀ k, (∀ r ∈ s.dev.gauge.closing, ringSlot r ≠ k) → tabGet [] d.gauge.ring k = tabGet [] s.dev.gauge.ring k) ∧
      (s.dev.gauge.closing = [] → d = s.dev) ∧
      { d with gauge := { d.gauge with closing := s.dev.gauge.closing, ring := s.dev.gauge.ring, signed := s.dev.gauge.signed } } = s.dev := by
  refine ⟨gaugeSign s.dev, rfl, ?_, fun r hr => ?_, fun hnd r hr => ?_, fun k hk => ?_, fun hnil => ?_, ?_⟩
  · rw [gaugeSign_eq]
    rfl
  · rw [gaugeSign_eq]
    exact signedAfter_getLast? hr _
  · rw [gaugeSign_eq]
    exact tabGet_foldl_tabSet_mem [] ringSlot _ hnd hr _
  · rw [gaugeSign_eq]
    exact tabGet_foldl_tabSet_other [] ringSlot _ hk _
  · unfold gaugeSign
    rw [hnil]
    rfl
  · rw [gaugeSign_eq]
    rfl

section calibration
variable {verify : Bool} {pkg : List Byte} {s : State}

/-- A calibration counts: GAUGE_VERIFY is high while PKG_RESET_N is low, and the package verifies (R444). -/
def CalVerified (d : Dev) (verify : Bool) (pkg : List Byte) : Prop :=
  gaugePresent d = true ∧ d.pins.pkgReset = true ∧ verify = true ∧ Config.stdOk .calVerify [pkg] = true

theorem gaugeCal_of_not_verified {d : Dev} (h : ¬CalVerified d verify pkg) (calib : Option (List Byte)) (rom : Option (Fin 4)) :
    gaugeCal verify pkg calib rom d = { d with pins := { d.pins with gaugeVerify := verify } } := by
  refine if_neg fun hc => h ?_
  simp only [Bool.and_eq_true] at hc
  obtain ⟨⟨⟨hpresent, hreset⟩, hverify⟩, hok⟩ := hc
  exact ⟨hpresent, hreset, hverify, hok⟩

theorem gaugeCal_of_verified {d : Dev} (h : CalVerified d verify pkg) (calib : Option (List Byte)) (rom : Option (Fin 4)) :
    gaugeCal verify pkg calib rom d = if 64 ≤ d.fuses.gaugeSeal then emit (.jtag 13 0x0A04) { d with pins := { d.pins with gaugeVerify := verify } } else
      { d with
        pins := { d.pins with gaugeVerify := verify },
        fuses := { d.fuses with
          gaugeSeal := d.fuses.gaugeSeal + 1, gaugeCalib := calib.getD d.fuses.gaugeCalib,
          gaugeRom := match rom with | some r => r.val | none => d.fuses.gaugeRom } } := by
  obtain ⟨hpresent, hreset, hverify, hok⟩ := h
  have hcond : (gaugePresent { d with pins := { d.pins with gaugeVerify := verify } } && d.pins.pkgReset && verify && Config.stdOk .calVerify [pkg]) = true := by
    simp only [Bool.and_eq_true]
    exact ⟨⟨⟨hpresent, hreset⟩, hverify⟩, hok⟩
  refine (if_pos hcond).trans ?_
  cases rom <;> rfl

end calibration

/-- A slot of a Gauge that is there, domain by domain and tag by tag (R432–R434). -/
theorem gaugeSlot_accounts {s : State} (hp : gaugePresent s.dev = true) (charges : List Nat) (ref : Nat) :
    let g := s.dev.gauge
    let e (k : Nat) : Nat := charges.getD k 0
    ∃ d, exec (.gaugeSlot charges ref) s = .next { s with dev := d } ∧
      (∀ h, h < 216 → tabGet 0 d.gauge.hartTag h = (hartOf s.dev h).htenant % 4096) ∧ d.gauge.samples = [] ∧ d.gauge.holdSeen = (g.holdSeen || s.dev.holdover) ∧
      (g.openKind = 0 → d.gauge.dom = g.dom ∧ d.gauge.tenants = g.tenants) ∧
      (g.openKind ≠ 0 →
        (∀ n, n < 12 → tabGet 0 d.gauge.dom n = tabGet 0 g.dom n + ((List.range 18).map (fun c => e (18 * n + c))).sum) ∧
        (∀ b, b < 4 → tabGet 0 d.gauge.dom (12 + b) = tabGet 0 g.dom (12 + b) + e (216 + b) ∧
          tabGet 0 d.gauge.dom (21 + b) = tabGet 0 g.dom (21 + b) + (if sampleTotal g b = 0 then e (216 + b) else 0)) ∧
        (∀ k, k < 5 → tabGet 0 d.gauge.dom (16 + k) = tabGet 0 g.dom (16 + k) + e (220 + k)) ∧
        tabGet 0 d.gauge.dom 25 = tabGet 0 g.dom 25 + (if g.verifyOn then ref else 0) ∧
        (∀ t, let x := tabGet tenantInit g.tenants t
          tabGet tenantInit d.gauge.tenants t = { x with
            core := x.core + ((tagHarts s.dev t).map e).sum, slots := x.slots + (tagHarts s.dev t).length,
            bench := x.bench + benchShare g 0 (e 216) t + benchShare g 1 (e 217) t + benchShare g 2 (e 218) t + benchShare g 3 (e 219) t })) ∧
      { d with gauge := { d.gauge with dom := g.dom, tenants := g.tenants, hartTag := g.hartTag, samples := g.samples, holdSeen := g.holdSeen } } = s.dev := by
  intro g e
  obtain ⟨x, y, heq, hclosed, hopen⟩ := gaugeSlot_present hp charges ref
  have hexec : exec (.gaugeSlot charges ref) s = .next { s with dev := nextSlot (withAccounts x y s.dev) } :=
    next_of_dev_eq heq
  refine ⟨_, hexec, fun h hh => nextSlot_hartTag _ hh, rfl, rfl, hclosed, fun hk => ?_, rfl⟩
  obtain ⟨hdom, htag⟩ := hopen hk
  refine ⟨fun n hn => ?_, fun b hb => ⟨?_, ?_⟩, fun k hk => ?_, ?_, fun t => (htag t).trans ?_⟩
  · rw [← slotCharge_die s.dev e ref hn]
    exact hdom n
  · rw [← slotCharge_bench s.dev e ref hb]
    exact hdom _
  · rw [← slotCharge_unattributed s.dev e ref hb]
    exact hdom _
  · rw [← slotCharge_other s.dev e ref hk]
    exact hdom _
  · rw [← slotCharge_reference s.dev e ref]
    exact hdom _
  · simp only [Charge.addTo, slotCharge_core, slotCharge_slots, slotCharge_shares, ← Nat.add_assoc]
    rfl

/-- Settles O58: a run's start and end and the reset as the model takes them; a slot by the charges of its harts and benches; samples by their keys;
signed records by their slots. -/
theorem gaugeMeasures : Obligations.GaugeMeasures := by
  unfold Obligations.GaugeMeasures
  refine ⟨fun s => ⟨gaugeRunStart_again, gaugeRunStart_fresh⟩, fun s => rfl, fun low s => ⟨gaugeReset_falls, gaugeReset_keeps⟩,
    fun charges ref s => ⟨fun hp => gaugeSlot_absent hp charges ref, fun hp => gaugeSlot_accounts hp charges ref⟩,
    fun s => ⟨gaugeTagSample_absent, gaugeTagSample_counts⟩, gaugeRecordsSigned_inOrder, fun verify pkg calib rom s => ?_⟩
  exact ⟨fun hno => next_of_dev_eq (gaugeCal_of_not_verified hno calib rom),
    fun hver hfull => next_of_dev_eq ((gaugeCal_of_verified hver calib rom).trans (if_pos hfull)),
    fun hver hfree => next_of_dev_eq ((gaugeCal_of_verified hver calib rom).trans (if_neg (Nat.not_le.2 hfree)))⟩

end Sys2Proof.Proofs
end

section
namespace Sys2Proof.Proofs

open Sys2Proof.Machine

/-! ### A list message of a served session (R45, R46) -/

theorem reply_answer (m : ListMsg) (op : Nat) (body : List Byte) (d : Dev) : reply m op abOk body d = emit (listAnswer d m (op + 128) abOk body) d := rfl

theorem reply_abort (m : ListMsg) (op : Nat) {code : Nat} (h : code ≠ abOk) (body : List Byte) (d : Dev) :
    reply m op code body d = emit (listAnswer d m (op + 128) code []) d := by
  simp only [reply, listAnswer, if_neg h]

theorem reply_bare (m : ListMsg) (op code : Nat) (d : Dev) : reply m op code [] d = emit (listAnswer d m (op + 128) code []) d := by
  simp only [reply, listAnswer, ite_self]

theorem listJob_runs {d : Dev} (h : d.kerf.step1 = none) (j : ListJob) : listJob j d = runJob j d := by
  simp [listJob, h]

theorem openSess_listMsgIn {d : Dev} {m : ListMsg} {n : SessN} {x : Session} (h : ListMsgIn d m n x) : openSess d m = some (n.val, x) := by
  obtain ⟨⟨-, hx, hfin, -⟩, hsess, -, -⟩ := h
  simp [openSess, hsess, hx, hfin]

/-- Rows 1 and 2 of R503 pass for a message of a served session. -/
theorem onList_listMsgIn {d : Dev} {m : ListMsg} {n : SessN} {x : Session} (h : ListMsgIn d m n x) (op : Nat) (f : Nat → Session → Dev → Dev) :
    onList m op f d = f n x d := by
  have hopen := openSess_listMsgIn h
  obtain ⟨⟨hup, -, -, -⟩, -, hver, hven⟩ := h
  simp [onList, hup, hven, hopen, hver]

/-- A list message of a served session is processed at once. -/
theorem exec_listMsgIn {i : Instr} {s : State} {m : ListMsg} {n : SessN} {x : Session} {k op : Nat} {p : PartnerObs} {u : UcieObs}
    {f : Nat → Session → Dev → Dev} (h : ListMsgIn s.dev m n x) (hexec : exec i s = onDev (listJob (.msg k m p u)) s)
    (hop : listOp k m p u s.dev = onList m op f s.dev) : exec i s = .next { s with dev := f n x s.dev } := by
  have hstep1 : s.dev.kerf.step1 = none := h.1.2.2.2
  rw [hexec, onDev, listJob_runs hstep1, runJob, hop, onList_listMsgIn h]

/-! ### The target of a message (rows 7 to 11 of R503) -/

theorem firstCode_ok_cons {c : Nat} (h : c = abOk) (cs : List Nat) : firstCode (c :: cs) = firstCode cs := if_pos h
theorem firstCode_abort_cons {c : Nat} (h : c ≠ abOk) (cs : List Nat) : firstCode (c :: cs) = c := if_neg h

theorem targetCode_unlisted {idx sub : Nat} (h : entryRow idx sub = none) (d : Dev) (role : Role) (write domain : Bool) (v : List Byte) :
    targetCode d role write domain idx sub v = if indexExists idx then abSub else abIndex := by
  simp [targetCode, h]

theorem targetCode_unlisted_ne_ok {idx sub : Nat} (h : entryRow idx sub = none) (d : Dev) (role : Role) (write domain : Bool) (v : List Byte) :
    targetCode d role write domain idx sub v ≠ abOk := by
  rw [targetCode_unlisted h]
  split <;> decide

/-- An entry whose target checks pass is listed. -/
theorem entryRow_of_target_ok {d : Dev} {role : Role} {write domain : Bool} {idx sub : Nat} {v : List Byte}
    (h : targetCode d role write domain idx sub v = abOk) : ∃ r, entryRow idx sub = some r :=
  Option.ne_none_iff_exists'.1 fun hnone => targetCode_unlisted_ne_ok hnone d role write domain v h

/-! ### READ (R28, R46) -/

/-- The checks of a READ: rows 4, 5 and 7 to 11 of R503. -/
def readCheck (d : Dev) (m : ListMsg) (x : Session) : Nat :=
  if m.body.length ≠ 4 then abMalformed else if 2 ≤ leAt m.body 3 1 then abRsvd
  else targetCode d x.role false false (leAt m.body 0 2) (leAt m.body 2 1) []

theorem readMsg_refused {d : Dev} {m : ListMsg} {n : Nat} {x : Session} (h : readCheck d m x ≠ abOk) :
    readMsg m n x d = emit (listAnswer d m 0x81 (readCheck d m x) []) d := by
  unfold readMsg
  extract_lets b idx sub flags code
  have hcode : code = readCheck d m x := rfl
  rw [hcode]
  split
  · exact reply_bare ..
  · exact reply_abort _ _ h _ _

theorem readMsg_answers {d : Dev} {m : ListMsg} {n : Nat} {x : Session} {r : EntryRow} (h : readCheck d m x = abOk)
    (hr : entryRow (leAt m.body 0 2) (leAt m.body 2 1) = some r) :
    readMsg m n x d =
      let idx := leAt m.body 0 2
      let sub := leAt m.body 2 1
      let st := leAt m.body 3 1 == 1 && isStaged d idx sub
      let v := if st then stgBytes d r idx sub else curBytes d n x.role r idx sub
      emit (listAnswer d m 0x81 abOk (leBytes 1 (typeCode r.typ) ++ leBytes 1 (b2n st + 2 * b2n (isStaged d idx sub)) ++ leBytes 2 v.length ++ v)) d := by
  unfold readMsg
  extract_lets b idx sub flags code
  have hcode : code = abOk := h
  have hr' : entryRow idx sub = some r := hr
  rw [hcode, hr']
  rfl

/-- Settles O35: the checks of a READ are rows 4, 5 and 7 to 11 of R503, and none of its answers touches the package. -/
theorem readAnswersValue : Obligations.ReadAnswersValue := by
  unfold Obligations.ReadAnswersValue
  intro m n x s hin idx sub fl answer
  have hexec : exec (.read m) s = .next { s with dev := readMsg m n x s.dev } := exec_listMsgIn hin rfl rfl
  have hrefused {c : Nat} (hc : readCheck s.dev m x = c) (hne : c ≠ abOk) : answer c [] := by
    subst hc
    exact hexec.trans (by rw [readMsg_refused hne])
  refine ⟨fun hlen => ?_, fun hlen hfl => ?_, fun hlen hfl htarget => ?_, fun hlen hfl r hr htarget => ?_⟩
  · exact hrefused (if_pos hlen) (by decide)
  · exact hrefused ((if_neg (not_not.2 hlen)).trans (if_pos hfl)) (by decide)
  · exact hrefused ((if_neg (not_not.2 hlen)).trans (if_neg (Nat.not_le.2 hfl))) htarget
  · have hcheck : readCheck s.dev m x = abOk := ((if_neg (not_not.2 hlen)).trans (if_neg (Nat.not_le.2 hfl))).trans htarget
    exact hexec.trans (by rw [readMsg_answers hcheck hr])

end Sys2Proof.Proofs
end

section
namespace Sys2Proof.Proofs

open Sys2Proof.Machine

/-! ### What a WRITE checks (rows 4 to 14 of R503) -/

/-- The checks of a WRITE before those of its value: rows 4, 5 and 7 to 11 of R503. -/
def writeCheck (d : Dev) (m : ListMsg) (x : Session) : Nat :=
  if m.body.length < 6 ∨ (m.body.drop 6).length ≠ leAt m.body 4 2 then abMalformed
  else if leAt m.body 3 1 ≠ 0 then abRsvd
  else targetCode d x.role true false (leAt m.body 0 2) (leAt m.body 2 1) (m.body.drop 6)

section write
variable {d : Dev} {m : ListMsg} {p : PartnerObs} {u : UcieObs} {n : Nat} {x : Session} {r : EntryRow}

theorem writeMsg_refused (h : writeCheck d m x ≠ abOk) : writeMsg m p u n x d = emit (listAnswer d m 0x82 (writeCheck d m x) []) d := by
  unfold writeMsg
  extract_lets b idx sub v code
  have hcode : code = writeCheck d m x := rfl
  rw [hcode]
  split
  · exact reply_bare ..
  · rw [firstCode_abort_cons h]
    extract_lets c
    exact (if_neg h).trans (reply_bare ..)

theorem writeMsg_badValue (hcheck : writeCheck d m x = abOk) (hr : entryRow (leAt m.body 0 2) (leAt m.body 2 1) = some r)
    (hval : valueCode d r (leAt m.body 0 2) (leAt m.body 2 1) (m.body.drop 6) ≠ abOk) :
    writeMsg m p u n x d = emit (listAnswer d m 0x82 (valueCode d r (leAt m.body 0 2) (leAt m.body 2 1) (m.body.drop 6)) []) d := by
  unfold writeMsg
  extract_lets b idx sub v code
  have hcode : code = abOk := hcheck
  have hr' : entryRow idx sub = some r := hr
  rw [hcode, hr']
  have hval' : valueCode d r idx sub v ≠ abOk := hval
  simp only [firstCode_ok_cons, firstCode_abort_cons hval', if_neg hval', reply_bare]
  rfl

theorem writeMsg_writes (hcheck : writeCheck d m x = abOk) (hr : entryRow (leAt m.body 0 2) (leAt m.body 2 1) = some r)
    (hval : valueCode d r (leAt m.body 0 2) (leAt m.body 2 1) (m.body.drop 6) = abOk) :
    writeMsg m p u n x d =
      let w := writeVal n p u r (leAt m.body 0 2) (leAt m.body 2 1) (m.body.drop 6) d
      reply m 2 w.1 (leBytes 8 w.2.1) w.2.2 := by
  unfold writeMsg
  extract_lets b idx sub v code
  have hcode : code = abOk := hcheck
  have hr' : entryRow idx sub = some r := hr
  have hval' : valueCode d r idx sub v = abOk := hval
  rw [hcode, hr']
  simp only [hval', firstCode_ok_cons]
  rfl

/-! ### The order of the refusals -/

variable {role : Role} {idx sub : Nat} {v : List Byte}

theorem targetCode_domain (hr : entryRow idx sub = some r) (h : r.typ = .domain) : targetCode d role true false idx sub v = abType := by
  simp [targetCode, hr, h, firstCode, orCode, abType, abOk]

theorem targetCode_sealed (hr : entryRow idx sub = some r) (htyp : r.typ ≠ .domain) (h : r.swap = .sealed_) :
    targetCode d role true false idx sub v = abSealed := by
  simp [targetCode, hr, htyp, h, firstCode, orCode, abSealed, abOk]

theorem targetCode_boot (hr : entryRow idx sub = some r) (htyp : r.typ ≠ .domain) (h : r.swap = .boot) :
    targetCode d role true false idx sub v = abBoot := by
  simp [targetCode, hr, htyp, h, firstCode, orCode, abBoot, abOk]

/-- Of an entry that a WRITE may name, the role and then the pair decide. -/
theorem targetCode_writable (hr : entryRow idx sub = some r) (htyp : r.typ ≠ .domain) (hsealed : r.swap ≠ .sealed_) (hboot : r.swap ≠ .boot) :
    targetCode d role true false idx sub v =
      firstCode [orCode (mayWrite r role && narrowOk d role idx sub v) abRole, orCode (!pairedHere d idx sub) abPaired] := by
  simp [targetCode, hr, htyp, hsealed, hboot, firstCode, orCode]

end write

end Sys2Proof.Proofs
end

section
namespace Sys2Proof.Proofs

open Sys2Proof.Machine

/-! ### Dry fits and their status entries (R38 to R41) -/

@[simp] theorem dryOf_updDry_same (d : Dev) (i j : Nat) (f : DryStatus → DryStatus) : dryOf (updDry d i j f) i j = f (dryOf d i j) := tabGet_tabUpd_same ..
@[simp] theorem dryOf_setStg (d : Dev) (idx sub : Nat) (v : Option Val) (i j : Nat) : dryOf (setStg d idx sub v) i j = dryOf d i j := rfl

/-- The package with other dry-fit status entries and other staged values. -/
def withStaging (t : Tab DryStatus) (g : Tab (Option Val)) (d : Dev) : Dev := { d with list := { d.list with status := t, stg := g } }

section fits
variable {d : Dev} {f : Fit} {st trig : Nat × Nat} {atKerf : Bool}

theorem dryOf_recordFit_accepts (h : f.1 = 0) :
    dryOf (recordFit st.1 st.2 trig atKerf f d) st.1 st.2 = { dryOf d st.1 st.2 with reason := 0, index := 0, sub := 0, atKerf := false } := by
  simp [recordFit, h]

theorem dryOf_recordFit_refuses (h : f.1 ≠ 0) : dryOf (recordFit st.1 st.2 trig atKerf f d) st.1 st.2 =
    { dryOf d st.1 st.2 with reason := f.1, index := (f.2.getD trig).1, sub := (f.2.getD trig).2, atKerf := atKerf } := by
  simp [recordFit, h]

theorem recordFit_eq (si ss : Nat) (trig : Nat × Nat) (atKerf : Bool) (f : Fit) (d : Dev) :
    ∃ t, recordFit si ss trig atKerf f d = withStaging t d.list.stg d := ⟨_, rfl⟩

/-- Dry fits that a write runs touch their status entries only. -/
theorem runFits_eq (trig : Nat × Nat) (fs : List (Nat × Nat × Fit)) (d : Dev) :
    ∃ t, (runFits trig fs d).2 = withStaging t d.list.stg d ∧ (fs = [] → t = d.list.status) := by
  suffices h : ∀ t, ∃ t', fs.foldl (fun d f => recordFit f.1 f.2.1 trig false f.2.2 d) (withStaging t d.list.stg d) = withStaging t' d.list.stg d ∧
      (fs = [] → t' = t) from h d.list.status
  induction fs with
  | nil => exact fun t => ⟨t, rfl, fun _ => rfl⟩
  | cons f fs ih =>
    intro t
    obtain ⟨t₁, h₁⟩ := recordFit_eq f.1 f.2.1 trig false f.2.2 (withStaging t d.list.stg d)
    obtain ⟨t', h', -⟩ := ih t₁
    refine ⟨t', ?_, fun h => absurd h (List.cons_ne_nil f fs)⟩
    rw [List.foldl_cons, h₁]
    exact h'

theorem runFits_accepts {fs : List (Nat × Nat × Fit)} (h : ∀ f ∈ fs, f.2.2.1 = 0) : (runFits trig fs d).1 = true := by
  simpa [runFits] using h

theorem runFits_refuses {fs : List (Nat × Nat × Fit)} (h : ∃ f ∈ fs, f.2.2.1 ≠ 0) : (runFits trig fs d).1 = false := by
  simpa [runFits] using h

end fits

/-! ### A write of an entry that is no enable (R29, R39) -/

/-- The dry fits that a write of `v` runs on the package that already holds it; a microcode value has its own (R337). -/
def writeFits (tent d : Dev) (p : PartnerObs) (idx sub : Nat) (v : Val) : List (Nat × Nat × Fit) :=
  if idx = 0x5020 then (match v with | .bytes b => [(0x5001, sub, microcodeFit d b)] | .num _ => []) else dependents tent p idx sub

section writePlain
variable {d : Dev} {sess : Nat} {p : PartnerObs} {u : UcieObs} {r : EntryRow} {idx sub : Nat} {v : Val}

theorem writePlain_kerf (h : r.swap = .kerf) : writePlain sess p u r idx sub v d =
    let x := runFits (idx, sub) (writeFits (setStg d idx sub (some v)) d p idx sub v) d
    if x.1 then (abOk, nextKerf d, setStg x.2 idx sub (some v)) else (abDryFit, 0, x.2) := by
  cases v <;> simp only [writePlain, writeFits, h, reduceCtorEq, if_false]

/-- Every dry fit that depends on a KERF entry accepts: the value is staged. -/
theorem writePlain_stages (h : r.swap = .kerf) (hfit : ∀ f ∈ writeFits (setStg d idx sub (some v)) d p idx sub v, f.2.2.1 = 0) :
    ∃ t, writePlain sess p u r idx sub v d = (abOk, nextKerf d, withStaging t (setStg d idx sub (some v)).list.stg d) ∧
      (writeFits (setStg d idx sub (some v)) d p idx sub v = [] → t = d.list.status) := by
  obtain ⟨t, ht, hnil⟩ := runFits_eq (idx, sub) (writeFits (setStg d idx sub (some v)) d p idx sub v) d
  refine ⟨t, ?_, hnil⟩
  simp only [writePlain_kerf h, runFits_accepts hfit, ht, if_true]
  rfl

/-- A dry fit that depends on a KERF entry refuses: nothing is staged. -/
theorem writePlain_refused (h : r.swap = .kerf) (hfit : ∃ f ∈ writeFits (setStg d idx sub (some v)) d p idx sub v, f.2.2.1 ≠ 0) :
    ∃ t, writePlain sess p u r idx sub v d = (abDryFit, 0, withStaging t d.list.stg d) := by
  obtain ⟨t, ht, -⟩ := runFits_eq (idx, sub) (writeFits (setStg d idx sub (some v)) d p idx sub v) d
  refine ⟨t, ?_⟩
  simp only [writePlain_kerf h, runFits_refuses hfit, ht]
  rfl

end writePlain

/-! ### A write of 1 to an enable that reads 0 (R39 to R41) -/

section writeOne
variable {d : Dev} {st : Nat × Nat} {f : Fit} {idx sub : Nat}

/-- What a staged 1 leaves in the enable's status entry. -/
theorem writeOne_accepts (hf : f.1 = 0) : ∃ t, writeOne st f idx sub d = (abOk, nextKerf d, withStaging t (setStg d idx sub (some (.num 1))).list.stg d) ∧
    dryOf (withStaging t (setStg d idx sub (some (.num 1))).list.stg d) st.1 st.2 =
      { dryOf d st.1 st.2 with reason := 0, index := 0, sub := 0, atKerf := false, pend := true } := by
  have hdry := dryOf_recordFit_accepts (d := d) (st := st) (trig := (idx, sub)) (atKerf := false) hf
  refine ⟨(setPend st true (recordFit st.1 st.2 (idx, sub) false f d)).list.status, ?_, ?_⟩
  · simp only [writeOne, if_pos hf]
    rfl
  · calc dryOf (setPend st true (recordFit st.1 st.2 (idx, sub) false f d)) st.1 st.2
        = { dryOf (recordFit st.1 st.2 (idx, sub) false f d) st.1 st.2 with pend := true } := dryOf_updDry_same ..
      _ = _ := by rw [hdry]

theorem writeOne_refused (hf : f.1 ≠ 0) : ∃ t, writeOne st f idx sub d = (abDryFit, 0, withStaging t (setStg d idx sub none).list.stg d) ∧
    dryOf (withStaging t (setStg d idx sub none).list.stg d) st.1 st.2 =
      { dryOf d st.1 st.2 with reason := f.1, index := (f.2.getD (idx, sub)).1, sub := (f.2.getD (idx, sub)).2, atKerf := false } := by
  have hdry := dryOf_recordFit_refuses (d := d) (st := st) (trig := (idx, sub)) (atKerf := false) hf
  refine ⟨(recordFit st.1 st.2 (idx, sub) false f d).list.status, ?_, hdry⟩
  simp only [writeOne, if_neg hf]
  rfl

end writeOne

end Sys2Proof.Proofs
end

section
namespace Sys2Proof.Proofs

open Sys2Proof.Machine

/-! ### WRITE of a KERF entry -/

section kerfWrite
variable {s : State} {m : ListMsg} {n : SessN} {x : Session} {r : EntryRow} {p : PartnerObs} {u : UcieObs} {idx sub : Nat} {v : List Byte}

/-- A message whose fields pass every check writes its value. -/
theorem writeMsg_checked {d : Dev} {k : Nat} (hlen : 6 ≤ m.body.length) (hidx : leAt m.body 0 2 = idx) (hsub : leAt m.body 2 1 = sub)
    (hv : m.body.drop 6 = v) (hvlen : v.length = leAt m.body 4 2) (hrsvd : leAt m.body 3 1 = 0) (hr : entryRow idx sub = some r)
    (htarget : targetCode d x.role true false idx sub v = abOk) (hval : (entryRow idx sub).all (fun r => valueCode d r idx sub v == abOk) = true) :
    writeMsg m p u k x d =
      reply m 2 (writeVal k p u r idx sub v d).1 (leBytes 8 (writeVal k p u r idx sub v d).2.1) (writeVal k p u r idx sub v d).2.2 := by
  subst hidx hsub hv
  have hform : ¬(m.body.length < 6 ∨ (m.body.drop 6).length ≠ leAt m.body 4 2) := by omega
  have hcheck : writeCheck d m x = abOk := ((if_neg hform).trans (if_neg (not_not.2 hrsvd))).trans htarget
  have hcode : valueCode d r (leAt m.body 0 2) (leAt m.body 2 1) (m.body.drop 6) = abOk := by simpa [hr] using hval
  exact writeMsg_writes hcheck hr hcode

/-- A WRITE whose value may be written is carried out. -/
theorem exec_write_checked (hin : ListMsgIn s.dev m n x) (hlen : 6 ≤ m.body.length) (hidx : leAt m.body 0 2 = idx) (hsub : leAt m.body 2 1 = sub)
    (hv : m.body.drop 6 = v) (hvlen : v.length = leAt m.body 4 2) (hrsvd : leAt m.body 3 1 = 0) (hr : entryRow idx sub = some r)
    (hmay : MayWrite s.dev n x idx sub v) :
    exec (.write m p u) s = .next { s with
      dev := reply m 2 (writeVal n p u r idx sub v s.dev).1 (leBytes 8 (writeVal n p u r idx sub v s.dev).2.1) (writeVal n p u r idx sub v s.dev).2.2 } := by
  obtain ⟨-, htarget, hval⟩ := hmay
  have hexec : exec (.write m p u) s = .next { s with dev := writeMsg m p u n x s.dev } := exec_listMsgIn hin rfl rfl
  rw [hexec, writeMsg_checked hlen hidx hsub hv hvlen hrsvd hr htarget hval]

/-- The write has staged: the answer bears the next kerf. -/
theorem reply_staged (hin : ListMsgIn s.dev m n x) (t : Tab DryStatus) (g : Tab (Option Val)) :
    reply m 2 abOk (leBytes 8 (nextKerf s.dev)) (withStaging t g s.dev) =
      emit (writeAnswer s.dev n m.tag (s.dev.kerf.counter + 1)) (withStaging t g s.dev) := by
  obtain ⟨-, hsess, -, -⟩ := hin
  simp only [reply_answer, listAnswer, hsess]
  rfl

theorem writeVal_plain (h : enableOf s.dev p idx sub = none) : writeVal n p u r idx sub v s.dev = writePlain n p u r idx sub (valOf r v) s.dev := by
  have hmsc : idx ≠ 0x4100 := by
    rintro rfl
    simp [enableOf] at h
  simp [writeVal, hmsc, h]

theorem writeVal_one {st : Nat × Nat} {f ph : Fit} (h : enableOf s.dev p idx sub = some (st, f, ph)) (hmsc : idx ≠ 0x4100) (hv : leNat v = 1)
    (hent : ent s.dev idx sub = 0) (hpend : (dryOf s.dev st.1 st.2).pend = false) :
    writeVal n p u r idx sub v s.dev = writeOne st f idx sub s.dev := by
  simp [writeVal, hmsc, h, writeEnable, hv, hent, hpend]

end kerfWrite

/-! ### The refusals of a WRITE in the order of R503 -/

section onList
variable {d : Dev} {m : ListMsg} {op : Nat} {f : Nat → Session → Dev → Dev}

theorem onList_noSession (hup : spdmUp d = true) (hven : m.vendor = d.fuses.vendorId) (hopen : openSess d m = none) :
    onList m op f d = emit (listAnswer d m (op + 128) abNoSession []) d := by
  simp only [onList, hup, hven, hopen, beq_self_eq_true, Bool.and_self, if_true, reply_bare]

theorem onList_badVersion {k : Nat} {x : Session} (hup : spdmUp d = true) (hven : m.vendor = d.fuses.vendorId) (hopen : openSess d m = some (k, x))
    (hver : m.version ≠ 1) : onList m op f d = emit (listAnswer d m (op + 128) abVersion []) d := by
  simp only [onList, hup, hven, hopen, beq_self_eq_true, Bool.and_self, if_true, if_neg hver, reply_bare]

theorem onList_serves {k : Nat} {x : Session} (hup : spdmUp d = true) (hven : m.vendor = d.fuses.vendorId) (hopen : openSess d m = some (k, x))
    (hver : m.version = 1) : onList m op f d = f k x d := by
  simp only [onList, hup, hven, hopen, beq_self_eq_true, Bool.and_self, if_true, if_pos hver]

end onList

theorem exec_write {s : State} (hstep1 : s.dev.kerf.step1 = none) (m : ListMsg) (p : PartnerObs) (u : UcieObs) :
    exec (.write m p u) s = .next { s with dev := onList m 2 (writeMsg m p u) s.dev } := by
  have hexec : exec (.write m p u) s = onDev (listJob (.msg 2 m p u)) s := rfl
  rw [hexec, onDev, listJob_runs hstep1]
  rfl

/-- Settles O36: a staged value by what its dry fits answer; the refusals by the first check that fails. -/
theorem writesAndAborts : Obligations.WritesAndAborts := by
  unfold Obligations.WritesAndAborts
  constructor
  · intro m p u n x r s hin hlen idx sub v fs aborts stages listOnly hvlen hrsvd hr hkerf hmay hcode
    have hexec := exec_write_checked (p := p) (u := u) hin hlen rfl rfl rfl hvlen hrsvd hr hmay
    have haborts {t : Tab DryStatus} {g : Tab (Option Val)} (hw : writeVal n p u r idx sub v s.dev = (abDryFit, 0, withStaging t g s.dev)) :
        aborts (emit (listAnswer s.dev m 0x82 abDryFit []) (withStaging t g s.dev)) := by
      rw [hw] at hexec
      exact ⟨hexec, rfl, rfl⟩
    have hstages {t : Tab DryStatus} {w : Val}
        (hw : writeVal n p u r idx sub v s.dev = (abOk, nextKerf s.dev, withStaging t (setStg s.dev idx sub (some w)).list.stg s.dev)) :
        stages (emit (writeAnswer s.dev n m.tag (s.dev.kerf.counter + 1)) (withStaging t (setStg s.dev idx sub (some w)).list.stg s.dev)) w := by
      rw [hw] at hexec
      exact ⟨hexec.trans (by rw [reply_staged hin]), rfl, rfl, rfl⟩
    refine ⟨fun hplain => ?_, fun st f ph henable hmsc hone hent hpend => ?_⟩
    · have hw : writeVal n p u r idx sub v s.dev = writePlain n p u r idx sub (valOf r v) s.dev := writeVal_plain hplain
      have hfs : writeFits (setStg s.dev idx sub (some (valOf r v))) s.dev p idx sub (valOf r v) = fs := if_neg hcode
      refine ⟨fun hfit => ?_, fun hfit => ?_⟩
      · rw [← hfs] at hfit
        obtain ⟨t, ht, hnil⟩ := writePlain_stages (sess := n) (u := u) hkerf hfit
        exact ⟨_, hstages (hw.trans ht), rfl, fun h => hnil (hfs.trans h)⟩
      · rw [← hfs] at hfit
        obtain ⟨t, ht⟩ := writePlain_refused (sess := n) (u := u) hkerf hfit
        exact ⟨_, haborts (hw.trans ht), rfl, rfl⟩
    · have hw : writeVal n p u r idx sub v s.dev = writeOne st f idx sub s.dev := writeVal_one henable hmsc hone hent hpend
      refine ⟨fun hf => ?_, fun hf => ?_⟩
      · obtain ⟨t, ht, hdry⟩ := writeOne_accepts (d := s.dev) (st := st) (idx := idx) (sub := sub) hf
        exact ⟨_, hstages (hw.trans ht), rfl, hdry⟩
      · obtain ⟨t, ht, hdry⟩ := writeOne_refused (d := s.dev) (st := st) (idx := idx) (sub := sub) hf
        exact ⟨_, haborts (hw.trans ht), rfl, rfl, hdry.trans (by simp only [hpend])⟩
  · intro m p u s hup hven hstep1 answer idx sub v
    have hexec := exec_write hstep1 m p u
    refine ⟨fun hopen => hexec.trans (by rw [onList_noSession hup hven hopen]; rfl), fun k x hopen =>
      ⟨fun hver => hexec.trans (by rw [onList_badVersion hup hven hopen hver]; rfl), fun hver => ?_⟩⟩
    rw [onList_serves hup hven hopen hver] at hexec
    have hrefuses {code : Nat} (hcheck : writeCheck s.dev m x = code) (hcode : code ≠ abOk) : answer code := by
      subst hcheck
      exact hexec.trans (by rw [writeMsg_refused hcode])
    refine ⟨fun hform => hrefuses (if_pos hform) (by decide), fun hlen hvlen => ?_⟩
    have hform : ¬(m.body.length < 6 ∨ v.length ≠ leAt m.body 4 2) := by omega
    refine ⟨fun hrsvd => hrefuses ((if_neg hform).trans (if_pos hrsvd)) (by decide), fun hrsvd hr => ?_, fun hrsvd r hr => ?_⟩
    all_goals have hcheck : writeCheck s.dev m x = targetCode s.dev x.role true false idx sub v := (if_neg hform).trans (if_neg (not_not.2 hrsvd))
    · have hcode := targetCode_unlisted hr s.dev x.role true false v
      exact hrefuses (hcheck.trans hcode) (fun hok => targetCode_unlisted_ne_ok hr s.dev x.role true false v (hcode.trans hok))
    · refine ⟨fun htyp => hrefuses (hcheck.trans (targetCode_domain hr htyp)) (by decide), fun htyp => ?_⟩
      refine ⟨fun hsealed => hrefuses (hcheck.trans (targetCode_sealed hr htyp hsealed)) (by decide),
        fun hboot => hrefuses (hcheck.trans (targetCode_boot hr htyp hboot)) (by decide), fun hsealed hboot => ?_⟩
      rw [targetCode_writable hr htyp hsealed hboot] at hcheck
      refine ⟨fun hrole => hrefuses (hcheck.trans ?_) (by decide : abRole ≠ abOk), fun hmay hnarrow => ?_⟩
      · have hand : (mayWrite r x.role && narrowOk s.dev x.role idx sub v) = false := Bool.and_eq_false_iff.2 hrole
        simp [hand, firstCode, orCode, abRole, abOk]
      · simp only [hmay, hnarrow] at hcheck
        refine ⟨fun hpair => hrefuses (hcheck.trans ?_) (by decide : abPaired ≠ abOk), fun hpair hval => ?_⟩
        · simp [hpair, firstCode, orCode, abPaired, abOk]
        · have hok : writeCheck s.dev m x = abOk := hcheck.trans (by simp [hpair, firstCode, orCode])
          exact hexec.trans (by rw [writeMsg_badValue hok hr hval])

end Sys2Proof.Proofs
end

section
namespace Sys2Proof.Proofs

open Sys2Proof.Machine

/-! ### One session changes -/

@[simp] theorem sessOf_updSess_same (d : Dev) (n : Nat) (f : Session → Session) : sessOf (updSess d n f) n = (sessOf d n).map f := tabGet_tabUpd_same ..
theorem sessOf_updSess_other (d : Dev) {n k : Nat} (f : Session → Session) (h : k ≠ n) : sessOf (updSess d n f) k = sessOf d k := tabGet_tabUpd_other _ _ _ h

section sessions
variable {d : Dev} {n : Nat} {x : Session}

/-- The session stays as it is, and an answer goes out. -/
theorem sessOnly_emit (hx : sessOf d n = some x) (o : Out) : SessOnly d (emit o d) n x := ⟨hx, fun _ _ => rfl, rfl⟩

theorem sessOnly_withSess (hx : sessOf d n = some x) (f : Session → Session) : SessOnly d (withSess n f d) n (f x) :=
  ⟨by simp [withSess, hx], fun _ hk => sessOf_updSess_other d f hk, rfl⟩

theorem sessOnly_emit_withSess (hx : sessOf d n = some x) (f : Session → Session) (o : Out) : SessOnly d (emit o (withSess n f d)) n (f x) :=
  have h := sessOnly_withSess hx f
  ⟨h.1, h.2.1, rfl⟩

end sessions

/-! ### DOMAIN writes (R48) -/

/-- The command is answered, and of the list's state only the session differs, which is `y` now. -/
def AnswersOnly (s : State) (i : Instr) (m : ListMsg) (n : SessN) (op code : Nat) (body : List Byte) (y : Session) : Prop :=
  ∃ d, exec i s = .next { s with dev := d } ∧ d.out = s.dev.out ++ [listAnswer s.dev m op code body] ∧ SessOnly s.dev d n y

section transfers
variable {s : State} {i : Instr} {m : ListMsg} {n : SessN} {x : Session} {op code : Nat} {body : List Byte}

theorem answersOnly_keeps (hx : sessOf s.dev n = some x) (h : exec i s = .next { s with dev := emit (listAnswer s.dev m op code body) s.dev }) :
    AnswersOnly s i m n op code body x := ⟨_, h, rfl, sessOnly_emit hx _⟩

theorem answersOnly_changes (hx : sessOf s.dev n = some x) (f : Session → Session)
    (h : exec i s = .next { s with dev := emit (listAnswer s.dev m op code body) (withSess n f s.dev) }) :
    AnswersOnly s i m n op code body (f x) := ⟨_, h, rfl, sessOnly_emit_withSess hx f _⟩

end transfers

section domainWrite
variable {d : Dev} {m : ListMsg} {n : Nat} {x : Session} {r : EntryRow} {t : Transfer}

theorem writeBegin_accepts (hlen : m.body.length = 8) (hflag : leAt m.body 3 1 = 0) (hr : entryRow (leAt m.body 0 2) (leAt m.body 2 1) = some r)
    (htarget : targetCode d x.role true true (leAt m.body 0 2) (leAt m.body 2 1) [] = abOk) (hown : ownWrite x = false)
    (hbusy : entryBusy d n (leAt m.body 0 2) (leAt m.body 2 1) = false) (htotal : totalCode r (leAt m.body 0 2) (leAt m.body 4 4) = abOk) :
    writeBegin m n x d = emit (listAnswer d m 0x83 abOk []) (withSess n (writing (leAt m.body 0 2) (leAt m.body 2 1) (leAt m.body 4 4) []) d) := by
  simp only [writeBegin, hlen, hflag, hr, htarget, hown, hbusy, htotal]
  rfl

theorem writeBegin_busy (hlen : m.body.length = 8) (hflag : leAt m.body 3 1 = 0) (hr : entryRow (leAt m.body 0 2) (leAt m.body 2 1) = some r)
    (htarget : targetCode d x.role true true (leAt m.body 0 2) (leAt m.body 2 1) [] = abOk)
    (hbusy : ownWrite x = true ∨ entryBusy d n (leAt m.body 0 2) (leAt m.body 2 1) = true) :
    writeBegin m n x d = emit (listAnswer d m 0x83 abBusy []) d := by
  have hfree : (!ownWrite x && !entryBusy d n (leAt m.body 0 2) (leAt m.body 2 1)) = false := by simpa [or_iff_not_imp_left] using hbusy
  simp only [writeBegin, hlen, hflag, hr, htarget, hfree]
  exact reply_bare ..

theorem transferOf_write (ht : x.transfer = some t) (hw : t.write = true) : transferOf x true = some t := by simp [transferOf, ht, hw]
theorem transferOf_read (ht : x.transfer = some t) (hw : t.write = false) : transferOf x false = some t := by simp [transferOf, ht, hw]

/-- What an accepted form of a segment comes to. -/
theorem writeSegment_eq (hlen : 6 ≤ m.body.length) (hlen' : m.body.length = 6 + leAt m.body 4 2) (ht : x.transfer = some t) (hw : t.write = true) :
    writeSegment m n x d =
      if t.total < t.data.length + leAt m.body 4 2 then reply m 4 abTooLong [] (withSess n (fun x => { x with transfer := none }) d)
      else if leAt m.body 0 4 ≠ t.data.length then reply m 4 abOrder [] d
      else if leAt m.body 4 2 = 0 ∨ 1024 < leAt m.body 4 2 then reply m 4 abRange [] d
      else reply m 4 abOk [] (withSess n (fun x => { x with transfer := some { t with data := t.data ++ m.body.drop 6 } }) d) := by
  have hform : ¬(m.body.length < 6 ∨ m.body.length ≠ 6 + leAt m.body 4 2) := by omega
  simp only [writeSegment, if_neg hform, transferOf_write ht hw]

theorem writeEnd_short (hbody : m.body = []) (ht : x.transfer = some t) (hw : t.write = true) (hr : entryRow t.idx t.sub = some r)
    (hnarrow : narrowOk d x.role t.idx t.sub t.data = true) (hlen : t.data.length ≠ t.total) (p : PartnerObs) :
    writeEnd m p n x d = emit (listAnswer d m 0x85 abLength []) (withSess n (fun x => { x with transfer := none }) d) := by
  have hnarrow' : narrowOk (withSess n (fun x => { x with transfer := none }) d) x.role t.idx t.sub t.data = true := hnarrow
  simp only [writeEnd, hbody, transferOf_write ht hw, hr, hnarrow', beq_eq_false_iff_ne.2 hlen]
  exact reply_bare ..

/-- A whole value that passes the checks of END is written as its swap class says. -/
theorem writeEnd_writes (hbody : m.body = []) (ht : x.transfer = some t) (hw : t.write = true) (hr : entryRow t.idx t.sub = some r)
    (hnarrow : narrowOk d x.role t.idx t.sub t.data = true) (hlen : t.data.length = t.total)
    (hoctets : octetsCode (withSess n (fun x => { x with transfer := none }) d) r t.idx t.data = abOk) (p : PartnerObs) :
    writeEnd m p n x d =
      let w := writePlain n p { ok := false, rate := 0, width := 0 } r t.idx t.sub (.bytes t.data) (withSess n (fun x => { x with transfer := none }) d)
      reply m 5 w.1 (leBytes 8 w.2.1) w.2.2 := by
  have hnarrow' : narrowOk (withSess n (fun x => { x with transfer := none }) d) x.role t.idx t.sub t.data = true := hnarrow
  simp only [writeEnd, hbody, transferOf_write ht hw, hr, hnarrow', hoctets, hlen, beq_self_eq_true]
  rfl

end domainWrite

/-! ### DOMAIN reads (R48) -/

section domainRead
variable {d : Dev} {m : ListMsg} {n : Nat} {x : Session} {r : EntryRow} {t : Transfer}

/-- The read transfer that BEGIN opens: the value as it is then, but of the result ring. -/
def readTransfer (d : Dev) (n : Nat) (role : Role) (r : EntryRow) (idx sub fl : Nat) : Transfer :=
  let st := fl == 1 && isStaged d idx sub
  let v := if idx = 0x8010 then [] else if st then stgBytes d r idx sub else curBytes d n role r idx sub
  { write := false, idx := idx, sub := sub, total := if idx = 0x8010 then ringTotal d else v.length, data := v, live := decide (65536 < r.max), staged := st }

theorem readBegin_opens (hlen : m.body.length = 4) (hflag : leAt m.body 3 1 < 2) (hr : entryRow (leAt m.body 0 2) (leAt m.body 2 1) = some r)
    (htarget : targetCode d x.role false true (leAt m.body 0 2) (leAt m.body 2 1) [] = abOk) (hown : ownWrite x = false) :
    let t := readTransfer d n x.role r (leAt m.body 0 2) (leAt m.body 2 1) (leAt m.body 3 1)
    readBegin m n x d = emit (listAnswer d m 0x86 abOk (leBytes 4 t.total)) (withSess n (fun x => { x with transfer := some t, report := none }) d) := by
  simp only [readBegin, hlen, hr, htarget, hown, if_neg (Nat.not_le.2 hflag), readTransfer, beq_iff_eq]
  rfl

theorem readSegment_eq (hlen : m.body.length = 6) (ht : x.transfer = some t) (hw : t.write = false) :
    readSegment m n x d =
      if leAt m.body 4 2 = 0 ∨ 1024 < leAt m.body 4 2 ∨ t.total < leAt m.body 0 4 + leAt m.body 4 2 then reply m 7 abRange [] d
      else reply m 7 abOk (leBytes 2 (leAt m.body 4 2) ++ segmentBytes d n x t (leAt m.body 0 4) (leAt m.body 4 2)) d := by
  simp only [readSegment, hlen, transferOf_read ht hw]
  rfl

theorem segmentBytes_ring (h : t.idx = 0x8010) (off len : Nat) :
    segmentBytes d n x t off len = (List.range len).map (fun i => ringByte d (off + i)) := if_pos h

theorem segmentBytes_captured (h : t.idx ≠ 0x8010) (hlive : t.live = false) (off len : Nat) : segmentBytes d n x t off len = sliceOf t.data off len := by
  simp [segmentBytes, h, hlive]

theorem segmentBytes_live (h : t.idx ≠ 0x8010) (hlive : t.live = true) (hr : entryRow t.idx t.sub = some r) (off len : Nat) :
    segmentBytes d n x t off len =
      padTo len (sliceOf (if t.staged && isStaged d t.idx t.sub then stgBytes d r t.idx t.sub else curBytes d n x.role r t.idx t.sub) off len) := by
  simp [segmentBytes, h, hlive, hr]

end domainRead

end Sys2Proof.Proofs
end

section
namespace Sys2Proof.Proofs

open Sys2Proof.Machine

section transferCommands
variable {s : State} {m : ListMsg} {n : SessN} {x : Session} {t : Transfer}

theorem domainWriteSegment_answers (hin : ListMsgIn s.dev m n x) (hlen : 6 ≤ m.body.length) (hlen' : m.body.length = 6 + leAt m.body 4 2)
    (ht : x.transfer = some t) (hw : t.write = true) :
    (t.total < t.data.length + leAt m.body 4 2 → AnswersOnly s (.domainWriteSegment m) m n 0x84 abTooLong [] { x with transfer := none }) ∧
    (t.data.length + leAt m.body 4 2 ≤ t.total → leAt m.body 0 4 ≠ t.data.length → AnswersOnly s (.domainWriteSegment m) m n 0x84 abOrder [] x) ∧
    (t.data.length + leAt m.body 4 2 ≤ t.total → leAt m.body 0 4 = t.data.length → (leAt m.body 4 2 = 0 ∨ 1024 < leAt m.body 4 2) →
      AnswersOnly s (.domainWriteSegment m) m n 0x84 abRange [] x) ∧
    (t.data.length + leAt m.body 4 2 ≤ t.total → leAt m.body 0 4 = t.data.length → 1 ≤ leAt m.body 4 2 → leAt m.body 4 2 ≤ 1024 →
      AnswersOnly s (.domainWriteSegment m) m n 0x84 abOk [] { x with transfer := some { t with data := t.data ++ m.body.drop 6 } }) := by
  have hx : sessOf s.dev n = some x := hin.1.2.1
  have hexec : exec (.domainWriteSegment m) s = .next { s with dev := writeSegment m n x s.dev } := exec_listMsgIn hin rfl rfl
  rw [writeSegment_eq hlen hlen' ht hw] at hexec
  refine ⟨fun hpast => ?_, fun hroom horder => ?_, fun hroom horder hrange => ?_, fun hroom horder hpos hmax => ?_⟩
  · rw [if_pos hpast, reply_bare] at hexec
    exact answersOnly_changes hx (fun x => { x with transfer := none }) hexec
  · rw [if_neg (Nat.not_lt.2 hroom), if_pos horder, reply_bare] at hexec
    exact answersOnly_keeps hx hexec
  · rw [if_neg (Nat.not_lt.2 hroom), if_neg (not_not.2 horder), if_pos hrange, reply_bare] at hexec
    exact answersOnly_keeps hx hexec
  · rw [if_neg (Nat.not_lt.2 hroom), if_neg (not_not.2 horder), if_neg (by omega), reply_bare] at hexec
    exact answersOnly_changes hx (fun x => { x with transfer := some { t with data := t.data ++ m.body.drop 6 } }) hexec

/-- An END answers with `code` and `body` and closes the transfer; the values staged are `stg` then, and beside the list nothing differs. -/
def EndsWith (s : State) (m : ListMsg) (p : PartnerObs) (n : SessN) (x : Session) (code : Nat) (body : List Byte) (stg : Tab (Option Val)) : Prop :=
  ∃ d, exec (.domainWriteEnd m p) s = .next { s with dev := d } ∧ d.out = s.dev.out ++ [listAnswer s.dev m 0x85 code body] ∧
    sessOf d n = some { x with transfer := none } ∧ (∀ k, k ≠ n.val → sessOf d k = sessOf s.dev k) ∧
    d.list.stg = stg ∧ d.list.cur = s.dev.list.cur ∧ { d with list := s.dev.list, out := s.dev.out } = s.dev

theorem endsWith_of_exec {p : PartnerObs} {code : Nat} {body : List Byte} {status : Tab DryStatus} {stg : Tab (Option Val)} (hx : sessOf s.dev n = some x)
    (h : exec (.domainWriteEnd m p) s = .next { s with
      dev := emit (listAnswer s.dev m 0x85 code body) (withStaging status stg (withSess n (fun x => { x with transfer := none }) s.dev)) }) :
    EndsWith s m p n x code body stg := by
  obtain ⟨hsess, hothers, -⟩ := sessOnly_withSess hx (fun x => { x with transfer := none })
  exact ⟨_, h, rfl, hsess, hothers, rfl, rfl, rfl⟩

theorem domainWriteEnd_short {r : EntryRow} {p : PartnerObs} (hin : ListMsgIn s.dev m n x) (hbody : m.body = []) (ht : x.transfer = some t)
    (hw : t.write = true) (hr : entryRow t.idx t.sub = some r) (hnarrow : narrowOk s.dev x.role t.idx t.sub t.data = true)
    (hlen : t.data.length ≠ t.total) : EndsWith s m p n x abLength [] s.dev.list.stg := by
  have hexec : exec (.domainWriteEnd m p) s = .next { s with dev := writeEnd m p n x s.dev } := exec_listMsgIn hin rfl rfl
  rw [writeEnd_short hbody ht hw hr hnarrow hlen] at hexec
  exact endsWith_of_exec (status := s.dev.list.status) hin.1.2.1 hexec

/-- END of a whole value of swap class KERF: staged where every dry fit accepts, and aborted where one refuses. -/
theorem domainWriteEnd_kerf {r : EntryRow} {p : PartnerObs} (hin : ListMsgIn s.dev m n x) (hbody : m.body = []) (ht : x.transfer = some t)
    (hw : t.write = true) (hr : entryRow t.idx t.sub = some r) (hnarrow : narrowOk s.dev x.role t.idx t.sub t.data = true)
    (hlen : t.data.length = t.total) (hkerf : r.swap = .kerf) :
    let e := updSess s.dev n (fun x => { x with transfer := none })
    let fs := writeFits (setStg e t.idx t.sub (some (.bytes t.data))) e p t.idx t.sub (.bytes t.data)
    octetsCode e r t.idx t.data = abOk →
      ((∀ f ∈ fs, f.2.2.1 = 0) →
        EndsWith s m p n x abOk (leBytes 8 (s.dev.kerf.counter + 1)) (setStg s.dev t.idx t.sub (some (.bytes t.data))).list.stg) ∧
      ((∃ f ∈ fs, f.2.2.1 ≠ 0) → EndsWith s m p n x abDryFit [] s.dev.list.stg) := by
  intro e fs hoctets
  have hexec : exec (.domainWriteEnd m p) s = .next { s with dev := writeEnd m p n x s.dev } := exec_listMsgIn hin rfl rfl
  have hwrite : writeEnd m p n x s.dev =
      let w := writePlain n p { ok := false, rate := 0, width := 0 } r t.idx t.sub (.bytes t.data) e
      reply m 5 w.1 (leBytes 8 w.2.1) w.2.2 := writeEnd_writes hbody ht hw hr hnarrow hlen hoctets p
  have hx : sessOf s.dev n = some x := hin.1.2.1
  refine ⟨fun hfit => ?_, fun hfit => ?_⟩
  · obtain ⟨t', ht', -⟩ := writePlain_stages (sess := n) (u := { ok := false, rate := 0, width := 0 }) hkerf hfit
    exact endsWith_of_exec (status := t') hx (hexec.trans (by rw [hwrite, ht']; rfl))
  · obtain ⟨t', ht'⟩ := writePlain_refused (sess := n) (u := { ok := false, rate := 0, width := 0 }) hkerf hfit
    exact endsWith_of_exec (status := t') hx (hexec.trans (by rw [hwrite, ht']; rfl))

theorem transferCancel_closes (hin : ListMsgIn s.dev m n x) (hbody : m.body = []) (ht : x.transfer.isSome = true) :
    AnswersOnly s (.transferCancel m) m n 0x88 abOk [] { x with transfer := none, report := some .cancelled } := by
  have hexec : exec (.transferCancel m) s = .next { s with dev := transferCancel m n x s.dev } := exec_listMsgIn hin rfl rfl
  refine answersOnly_changes hin.1.2.1 (fun x => { x with transfer := none, report := some .cancelled }) (hexec.trans ?_)
  simp only [transferCancel, hbody, ht]
  rfl

theorem transferCancel_idle (hin : ListMsgIn s.dev m n x) (hbody : m.body = []) (ht : x.transfer = none) :
    AnswersOnly s (.transferCancel m) m n 0x88 abOk [] x := by
  have hexec : exec (.transferCancel m) s = .next { s with dev := transferCancel m n x s.dev } := exec_listMsgIn hin rfl rfl
  refine answersOnly_keeps hin.1.2.1 (hexec.trans ?_)
  simp only [transferCancel, hbody, ht]
  rfl

theorem transferIdleTimeout_closes (hx : sessOf s.dev n = some x) (ht : x.transfer.isSome = true) :
    ∃ d, exec (.transferIdleTimeout n) s = .next { s with dev := d } ∧ d.out = s.dev.out ∧
      SessOnly s.dev d n { x with transfer := none, report := some .timeout } := by
  refine ⟨withSess n (fun x => { x with transfer := none, report := some .timeout }) s.dev, ?_, rfl, sessOnly_withSess hx _⟩
  have hexec : exec (.transferIdleTimeout n) s = .next { s with dev := idleTimeout n s.dev } := rfl
  simp only [hexec, idleTimeout, hx, ht, if_true]

theorem domainReadSegment_answers (hin : ListMsgIn s.dev m n x) (hlen : m.body.length = 6) (ht : x.transfer = some t) (hw : t.write = false)
    (hpos : 1 ≤ leAt m.body 4 2) (hmax : leAt m.body 4 2 ≤ 1024) (hin' : leAt m.body 0 4 + leAt m.body 4 2 ≤ t.total) :
    exec (.domainReadSegment m) s = .next { s with dev := emit (listAnswer s.dev m 0x87 abOk
      (leBytes 2 (leAt m.body 4 2) ++ segmentBytes s.dev n x t (leAt m.body 0 4) (leAt m.body 4 2))) s.dev } := by
  have hexec : exec (.domainReadSegment m) s = .next { s with dev := readSegment m n x s.dev } := exec_listMsgIn hin rfl rfl
  rw [readSegment_eq hlen ht hw, if_neg (by omega)] at hexec
  exact hexec

end transferCommands

/-- Settles O37: each message by the branch of its own meaning; a segment's bytes by what the transfer captured. -/
theorem domainTransfers : Obligations.DomainTransfers := by
  unfold Obligations.DomainTransfers
  constructor
  · intro m n x s hin idx sub answers
    have hx : sessOf s.dev n = some x := hin.1.2.1
    refine ⟨fun r hlen hflag hr htarget => ?_, fun t hlen hlen' ht hw => domainWriteSegment_answers hin hlen hlen' ht hw,
      fun t r p hbody ht hw hr hnarrow => ?_, transferCancel_closes hin, transferCancel_idle hin, transferIdleTimeout_closes hx⟩
    · have hexec : exec (.domainWriteBegin m) s = .next { s with dev := writeBegin m n x s.dev } := exec_listMsgIn hin rfl rfl
      refine ⟨fun hown hbusy htotal => ?_, fun hbusy => ?_⟩
      · rw [writeBegin_accepts hlen hflag hr htarget hown hbusy htotal] at hexec
        exact answersOnly_changes hx _ hexec
      · rw [writeBegin_busy hlen hflag hr htarget hbusy] at hexec
        exact answersOnly_keeps hx hexec
    · exact ⟨domainWriteEnd_short hin hbody ht hw hr hnarrow,
        fun hlen hoctets hkerf => domainWriteEnd_kerf hin hbody ht hw hr hnarrow hlen hkerf hoctets⟩
  · intro m n x s hin
    refine ⟨fun r hlen hflag hr htarget hown => ?_, fun t hlen ht hw => ?_⟩
    · have hexec : exec (.domainReadBegin m) s = .next { s with dev := readBegin m n x s.dev } := exec_listMsgIn hin rfl rfl
      rw [readBegin_opens hlen hflag hr htarget hown] at hexec
      exact answersOnly_changes hin.1.2.1 (fun x => { x with transfer := some _, report := none }) hexec
    · refine ⟨fun hbad => ?_, fun hpos hmax hroom => ?_⟩
      · have hexec : exec (.domainReadSegment m) s = .next { s with dev := readSegment m n x s.dev } := exec_listMsgIn hin rfl rfl
        rw [readSegment_eq hlen ht hw, if_pos hbad, reply_bare] at hexec
        exact hexec
      · have hexec := domainReadSegment_answers hin hlen ht hw hpos hmax hroom
        refine ⟨fun hring => ?_, fun hring hlive => ?_, fun r hring hlive hr => ?_⟩
        · exact hexec.trans (by rw [segmentBytes_ring hring])
        · exact hexec.trans (by rw [segmentBytes_captured hring hlive])
        · exact hexec.trans (by rw [segmentBytes_live hring hlive hr])

end Sys2Proof.Proofs
end

section
namespace Sys2Proof.Proofs

open Sys2Proof.Machine

/-! ### Reset -/

/-- Before the first power-up's contents are lost, memory that lists nothing reads 0 (R74, log entry 21). -/
theorem memByte_unwritten {d : Dev} (hmem : d.mem = []) (hgen : d.memGen = 0) (a : Nat) : memByte d a = 0 := by
  simp [memByte, memBase, hmem, hgen]

/-- Settles O3: the reset state lists no unit in any table, so each reads its initial value (R94, R97, R99; log entries 6 and 7). -/
theorem resetState : Obligations.ResetState := by
  unfold Obligations.ResetState
  refine ⟨⟨rfl, rfl, rfl, rfl, rfl, fun h => ?_, fun a => memByte_unwritten rfl rfl a, rfl, rfl, fun n => ?_, fun b f => ?_⟩, rfl⟩
  · have hinit : hartOf State.reset.dev h = hartInit := tabGet_nil ..
    rw [hinit]
    decide
  · have hinit : linkOf State.reset.dev n = linkInit := tabGet_nil ..
    rw [hinit]
    rfl
  · have hinit : benchOf State.reset.dev b = benchInit := tabGet_nil ..
    rw [hinit]
    rfl

end Sys2Proof.Proofs
end

section
namespace Sys2Proof.Proofs

open Sys2Proof.Machine

/-! ### A WRITE of one entry, as the rows that name one send it -/

theorem leNat_leBytes (k n : Nat) : leNat (leBytes k n) = n % 256 ^ k := by
  induction k generalizing n with
  | zero => simp [leBytes, leNat, Nat.mod_one]
  | succ k ih =>
    have hbyte : (BitVec.ofNat 8 n).toNat = n % 256 := BitVec.toNat_ofNat ..
    rw [leBytes, leNat, ih, hbyte, Nat.pow_succ', Nat.mod_mul]

/-- The body of a WRITE, with flags 0 (R46). -/
def writeBody (idx sub : Nat) (v : List Byte) : List Byte := leBytes 2 idx ++ leBytes 1 sub ++ [0] ++ leBytes 2 v.length ++ v

/-- The body of a WRITE gives back its fields. -/
theorem writeBody_fields {idx sub : Nat} {v : List Byte} (hi : idx < 2 ^ 16) (hs : sub < 2 ^ 8) (hv : v.length < 2 ^ 16) :
    let b := writeBody idx sub v
    6 ≤ b.length ∧ leAt b 0 2 = idx ∧ leAt b 2 1 = sub ∧ leAt b 3 1 = 0 ∧ leAt b 4 2 = v.length ∧ b.drop 6 = v := by
  simp [writeBody, leAt, sliceOf, leBytes, leNat]
  omega

section writeTo
variable {d : Dev} {n : SessN} {x : Session} {idx sub size v : Nat}

theorem listMsgIn_listMsg (h : SessionServed d n x) (tag : Nat) (b : List Byte) : ListMsgIn d (listMsg d n tag b) n x := ⟨h, rfl, rfl, rfl⟩

/-- A value that may be written is written as its entry says. -/
theorem writeTo_writes {r : EntryRow} (hmay : MayWrite d n x idx sub (leBytes size v)) (hr : entryRow idx sub = some r) (hi : idx < 2 ^ 16)
    (hs : sub < 2 ^ 8) (hsize : size < 2 ^ 16) (tag : Nat) (u : UcieObs) :
    writeTo (some n) tag idx sub size v u d =
      let w := writeVal n noPartner u r idx sub (leBytes size v) d
      reply (listMsg d n tag (writeBody idx sub (leBytes size v))) 2 w.1 (leBytes 8 w.2.1) w.2.2 := by
  obtain ⟨hserved, htarget, hval⟩ := hmay
  obtain ⟨hlen, hidx, hsub, hrsvd, hvlen, hv⟩ := writeBody_fields (v := leBytes size v) hi hs (by simpa using hsize)
  have hbody : leBytes 2 idx ++ leBytes 1 sub ++ [0] ++ leBytes 2 size ++ leBytes size v = writeBody idx sub (leBytes size v) := by simp [writeBody]
  have hsend : writeTo (some n) tag idx sub size v u d =
      onList (listMsg d n tag (writeBody idx sub (leBytes size v))) 2 (writeMsg (listMsg d n tag (writeBody idx sub (leBytes size v))) noPartner u) d := by
    rw [← hbody]
    rfl
  rw [hsend, onList_listMsgIn (listMsgIn_listMsg hserved tag _)]
  exact writeMsg_checked hlen hidx hsub hv hvlen.symm hrsvd hr htarget hval

end writeTo

end Sys2Proof.Proofs
end

section
namespace Sys2Proof.Proofs

open Sys2Proof.Machine

/-! ### IMM entries whose numbers act at once (R29) -/

/-- An IMM entry of a number that no dry fit depends on. -/
structure ActsAtOnce (idx sub : Nat) : Prop where
  row : (entryRow idx sub).any (fun r => decide (r.swap = .imm) && !isOctets r.typ) = true
  noEnable : ∀ d p, enableOf d p idx sub = none
  noFit : ∀ d p, dependents d p idx sub = []
  noMicrocode : idx ≠ 0x5020
  idx_lt : idx < 2 ^ 16
  sub_lt : sub < 2 ^ 8

theorem actsAtOnce_stagedDiscard : ActsAtOnce 0x2000 6 := ⟨by decide +kernel, by simp [enableOf], by simp [dependents], by decide, by decide, by decide⟩
theorem actsAtOnce_linkRetrain (die : DieN) : ActsAtOnce 0xA001 (die + 1) :=
  ⟨by revert die; decide +kernel, by simp [enableOf], by simp [dependents], by decide, by decide, by omega⟩
theorem actsAtOnce_ucieRetrain (site : SiteN) : ActsAtOnce 0xA103 (site + 1) :=
  ⟨by revert site; decide +kernel, by simp [enableOf], by simp [dependents], by decide, by decide, by omega⟩
theorem actsAtOnce_dieReadmit (die : DieN) : ActsAtOnce 0xA031 (die + 1) :=
  ⟨by revert die; decide +kernel, by simp [enableOf], by simp [dependents], by decide, by decide, by omega⟩
theorem actsAtOnce_dramRetrainNow (ch : SliceN) : ActsAtOnce 0x4004 (ch + 1) :=
  ⟨by revert ch; decide +kernel, by simp [enableOf], by simp [dependents], by decide, by decide, by omega⟩
theorem actsAtOnce_benchZeroise (b : BenchN) : ActsAtOnce 0x5011 (b + 1) :=
  ⟨by revert b; decide +kernel, by simp [enableOf], by simp [dependents], by decide, by decide, by omega⟩
theorem actsAtOnce_forcePromote : ActsAtOnce 0x6000 6 := ⟨by decide +kernel, by simp [enableOf], by simp [dependents], by decide, by decide, by decide⟩
theorem actsAtOnce_takeoverOpen (k : Fin 32) : ActsAtOnce 0x6031 (k + 1) :=
  ⟨by revert k; decide +kernel, by simp [enableOf], by simp [dependents], by decide, by decide, by omega⟩
theorem actsAtOnce_ovfClear : ActsAtOnce 0x9030 0 := ⟨by decide +kernel, by simp [enableOf], by simp [dependents], by decide, by decide, by decide⟩
theorem actsAtOnce_maintCmd : ActsAtOnce 0x4110 2 := ⟨by decide +kernel, by simp [enableOf], by simp [dependents], by decide, by decide, by decide⟩

theorem ActsAtOnce.entryRow {idx sub : Nat} (h : ActsAtOnce idx sub) : ∃ r, entryRow idx sub = some r ∧ r.swap = .imm ∧ isOctets r.typ = false := by
  have hrow := h.row
  rw [Option.any_eq_true] at hrow
  obtain ⟨r, hr, hprop⟩ := hrow
  exact ⟨r, hr, by simpa using hprop⟩

/-- A write of an entry that acts is accepted at the present kerf, and the number acts. -/
theorem writeVal_atOnce {idx sub : Nat} (h : ActsAtOnce idx sub) {r : EntryRow} (hr : Machine.entryRow idx sub = some r) (sess : Nat) (p : PartnerObs)
    (u : UcieObs) (v : List Byte) (d : Dev) : writeVal sess p u r idx sub v d = (abOk, d.kerf.counter, immNum u idx sub (leNat v) d) := by
  obtain ⟨r', hr', himm, hnum⟩ := h.entryRow
  obtain rfl : r' = r := Option.some.inj (hr'.symm.trans hr)
  have hmsc : idx ≠ 0x4100 := by
    rintro rfl
    simpa [enableOf] using h.noEnable d p
  simp [writeVal, hmsc, h.noEnable, valOf, hnum, writePlain, himm, h.noMicrocode, h.noFit, runFits]

section commands
variable {s : State} {n : SessN} {x : Session} {tag idx sub size v : Nat} {u : UcieObs} {i : Instr}

/-- The command is answered with the present kerf, and the package is `d` but for the answer. -/
def WriteActs (s : State) (n : SessN) (tag : Nat) (i : Instr) (d : Dev) : Prop :=
  exec i s = .next { s with dev := emit (writeAnswer d n tag s.dev.kerf.counter) d }

/-- A row that writes one entry, of a served session, runs at once. -/
theorem exec_writeTo (hmay : MayWrite s.dev n x idx sub (leBytes size v)) (hexec : exec i s = onDev (listJob (.write (some n) tag idx sub size v u)) s) :
    exec i s = .next { s with dev := writeTo (some n) tag idx sub size v u s.dev } := by
  have hstep1 : s.dev.kerf.step1 = none := hmay.1.2.2.2
  rw [hexec, onDev, listJob_runs hstep1]
  rfl

theorem writeActs_immNum (hact : ActsAtOnce idx sub) (hmay : MayWrite s.dev n x idx sub (leBytes size v)) (hsize : size < 2 ^ 16) (hv : v < 256 ^ size)
    (hexec : exec i s = onDev (listJob (.write (some n) tag idx sub size v u)) s) : WriteActs s n tag i (immNum u idx sub v s.dev) := by
  obtain ⟨r, hr, -, -⟩ := hact.entryRow
  refine (exec_writeTo hmay hexec).trans ?_
  rw [writeTo_writes hmay hr hact.idx_lt hact.sub_lt hsize, writeVal_atOnce hact hr, leNat_leBytes, Nat.mod_eq_of_lt hv]
  rfl

end commands

end Sys2Proof.Proofs
end

section
namespace Sys2Proof.Proofs

open Sys2Proof.Machine

/-! ### What an entry that acts does -/

theorem immNum_zero {idx sub : Nat} (h : isTrigger idx sub = true) (u : UcieObs) (d : Dev) : immNum u idx sub 0 d = d := by
  simp only [isTrigger, Bool.or_eq_true, Bool.and_eq_true, beq_iff_eq] at h
  rcases h with ((((((((h | h) | h) | h) | h) | h) | h) | h) | h) <;> simp [immNum, h]

theorem linkOnly_updLink (d : Dev) (n : Nat) (f : Link → Link) : LinkOnly d (updLink d n f) n (f (linkOf d n)) :=
  ⟨linkOf_updLink_same .., fun _ hk => linkOf_updLink_other d f hk, rfl⟩

theorem siteOnly_updSite (d : Dev) (n : Nat) (f : SiteSt → SiteSt) : SiteOnly d (updSite d n f) n (f (siteOf d n)) :=
  ⟨siteOf_updSite_same .., fun _ hk => siteOf_updSite_other d f hk, rfl⟩

theorem chanOnly_updChan (d : Dev) (n : Nat) (f : ChanSt → ChanSt) : ChanOnly d (updChan d n f) n (f (chanOf d n)) :=
  ⟨chanOf_updChan_same .., fun _ hk => chanOf_updChan_other d f hk, rfl⟩

/-! ### A retrain of a link (R151) -/

theorem retrainLink_up {d : Dev} {n : Nat} (h : (linkOf d n).state = .up) :
    LinkOnly d (retrainLink n d) n (linkOf (retrainLink n d) n) ∧ (linkOf (retrainLink n d) n).state = .recovery ∧
      (linkOf (retrainLink n d) n).retrains = min 255 ((linkOf d n).retrains + 1) ∧
      (linkOf (retrainLink n d) n).up = (linkOf d n).up ∧ (linkOf (retrainLink n d) n).down = (linkOf d n).down := by
  unfold retrainLink
  rw [if_pos h, linkOf_updLink_same]
  exact ⟨linkOnly_updLink .., rfl, rfl, rfl, rfl⟩

theorem retrainLink_not_up {d : Dev} {n : Nat} (h : (linkOf d n).state ≠ .up) : retrainLink n d = d := if_neg h

/-! ### Containment of a site (R168) -/

/-- Traps and enclave exits change harts and enclaves only. -/
theorem haltIfDue_eq (h : Nat) (d : Dev) : ∃ hs, haltIfDue h d = { d with harts := hs } := by
  unfold haltIfDue
  extract_lets x
  split
  · exact ⟨_, rfl⟩
  · exact ⟨d.harts, rfl⟩

theorem asyncExit_eq (h : Nat) (d : Dev) : ∃ hs es, asyncExit h d = { d with harts := hs, encl := es } := by
  unfold asyncExit
  extract_lets x
  split
  · exact ⟨_, _, rfl⟩
  · exact ⟨_, d.encl, rfl⟩

theorem takeTrap_eq (h cause : Nat) (irq : Bool) (tval tval2 : Nat) (d : Dev) :
    ∃ hs es, takeTrap h cause irq tval tval2 d = { d with harts := hs, encl := es } := by
  unfold takeTrap
  extract_lets inside d1 tv tv2
  have hd1 : ∃ hs es, d1 = { d with harts := hs, encl := es } := by
    show ∃ hs es, (if inside = true then _ else _) = _
    split
    · obtain ⟨hs, es, h1⟩ := asyncExit_eq h (updHart d h (fun x => { x with waiting := none }))
      obtain ⟨hs', h2⟩ := haltIfDue_eq h (asyncExit h (updHart d h (fun x => { x with waiting := none })))
      exact ⟨hs', es, by rw [h2, h1]; rfl⟩
    · exact ⟨d.harts, d.encl, rfl⟩
  clear_value d1
  obtain ⟨hs, es, rfl⟩ := hd1
  split
  · exact ⟨hs, es, rfl⟩
  · obtain ⟨hs', h2⟩ := haltIfDue_eq h (updHart { d with harts := hs, encl := es } h (fun x =>
      let x := { x with waiting := none }
      match trapMode x cause irq with
      | .vs => trapVS cause irq tv x
      | .hs => trapHS cause irq tv tv2 x
      | _ => trapM cause irq tv tv2 x))
    exact ⟨hs', es, h2⟩

theorem ncFault_sites (m : FMsg) (d : Dev) : (ncFault m d).sites = d.sites := by
  unfold ncFault
  split
  · extract_lets h d'
    split
    · split
      · obtain ⟨hs, es, htrap⟩ := takeTrap_eq h 5 false _ 0 d'
        rw [htrap]
        rfl
      · rfl
    · rfl
  · rfl

theorem siteOf_of_sites {d d' : Dev} (h : d'.sites = d.sites) (n : Nat) : siteOf d' n = siteOf d n := by unfold siteOf; rw [h]

/-- The first cause stands, and the loads that wait for the inlay end. -/
theorem siteOf_containSite {d : Dev} {n : Nat} (h : (siteOf d n).cause = 0) (cause : Nat) :
    siteOf (containSite n cause d) n = { siteOf d n with cause := cause, kerfLow := d.kerf.counter % 2 ^ 32, mmrd := [] } := by
  unfold containSite
  rw [if_neg (not_not.2 h)]
  extract_lets owed d1 d2
  have hfold : d2.sites = d1.sites := foldl_keeps (fun d : Dev => d.sites) _ (fun d e => ncFault_sites e.2 d) owed d1
  calc siteOf (emit (.aplic (.containment n)) (setCurNat d2 0xA100 (n + 1) 0)) n
      = siteOf d1 n := siteOf_of_sites hfold n
    _ = _ := siteOf_updSite_same ..

/-! ### A UCIe training attempt (R161, R162, R169) -/

/-- The attempt ends with the link up at a rate and width the site supports. -/
def ucieGood (u : UcieObs) : Bool := u.ok && decide (1 ≤ u.rate) && decide (u.rate ≤ 6) && (u.width == 8 || u.width == 16)

section trainSite
variable {d : Dev} {n : Nat} {u : UcieObs}

theorem trainSite_unpopulated (h : sitePopulated d n = false) : trainSite n u d = d := by simp [trainSite, h]

theorem trainSite_good (h : sitePopulated d n = true) (hgood : ucieGood u = true) :
    SiteOnly d (trainSite n u d) n { siteOf d n with uState := 3, uRate := u.rate, uWidth := u.width } := by
  have htrain : trainSite n u d = updSite d n (fun x => { x with uState := 3, uRate := u.rate, uWidth := u.width }) := (if_pos h).trans (if_pos hgood)
  rw [htrain]
  exact siteOnly_updSite ..

/-- A failed attempt takes the link down, and contains the site where it was up. -/
theorem trainSite_bad (h : sitePopulated d n = true) (hbad : ucieGood u = false) : trainSite n u d =
    if (siteOf d n).uState = 3 then containSite n 4 (updSite d n (fun x => { x with uState := 1, uRate := 0, uWidth := 0 }))
    else updSite d n (fun x => { x with uState := 1, uRate := 0, uWidth := 0 }) :=
  (if_pos h).trans (if_neg (by rw [← Bool.not_eq_true] at hbad; exact hbad))

theorem trainSite_stays_down (h : sitePopulated d n = true) (hbad : ucieGood u = false) (hdown : (siteOf d n).uState ≠ 3) :
    SiteOnly d (trainSite n u d) n { siteOf d n with uState := 1, uRate := 0, uWidth := 0 } := by
  rw [trainSite_bad h hbad, if_neg hdown]
  exact siteOnly_updSite ..

theorem trainSite_loses (h : sitePopulated d n = true) (hbad : ucieGood u = false) (hup : (siteOf d n).uState = 3) (hcause : (siteOf d n).cause = 0) :
    (siteOf (trainSite n u d) n).uState = 1 ∧ (siteOf (trainSite n u d) n).cause = 4 := by
  have hcause' : (siteOf (updSite d n (fun x => { x with uState := 1, uRate := 0, uWidth := 0 })) n).cause = 0 := by
    rw [siteOf_updSite_same]
    exact hcause
  rw [trainSite_bad h hbad, if_pos hup, siteOf_containSite hcause', siteOf_updSite_same]
  exact ⟨rfl, rfl⟩

end trainSite

/-! ### A readmission (R216) -/

/-- A change of harts one by one leaves dies and links. -/
theorem foldl_updHart_eq (l : List Nat) (f : Nat → Hart → Hart) (d : Dev) :
    ∃ hs, l.foldl (fun d h => updHart d h (f h)) d = { d with harts := hs } := by
  induction l generalizing d with
  | nil => exact ⟨d.harts, rfl⟩
  | cons h l ih =>
    obtain ⟨hs, hl⟩ := ih (updHart d h (f h))
    exact ⟨hs, hl⟩

theorem startReadmit_starts (d : Dev) (n : Nat) :
    (dieOf (startReadmit n d) n).phase = .readmitting ∧ (dieOf (startReadmit n d) n).cache = [] ∧
      (dieOf (startReadmit n d) n).inc = (if (dieOf d n).inc = 63 then 1 else (dieOf d n).inc + 1) ∧ (linkOf (startReadmit n d) n).state = .training ∧
      (∀ k, k ≠ n → dieOf (startReadmit n d) k = dieOf d k ∧ linkOf (startReadmit n d) k = linkOf d k) := by
  unfold startReadmit
  extract_lets from_ d1 f d2
  obtain ⟨hs, hharts⟩ := foldl_updHart_eq (hartsOfDie n) (fun _ x => { x with powered := x.released && !x.offline }) d2
  have hdie (k : Nat) : dieOf { d2 with harts := hs } k = dieOf d1 k := rfl
  have hlink (k : Nat) : linkOf { d2 with harts := hs } k = linkOf d2 k := rfl
  simp only [hharts, hdie, hlink]
  refine ⟨?_, ?_, ?_, ?_, fun k hk => ⟨dieOf_updDie_other d _ hk, linkOf_updLink_other d1 _ hk⟩⟩
  · simp only [d1, dieOf_updDie_same]
  · simp only [d1, dieOf_updDie_same]
  · simp only [d1, dieOf_updDie_same]
  · simp only [d2, linkOf_updLink_same]

/-! ### A retrain round of a DDR5 channel (R254) -/

section roundNow
variable {d : Dev} {n : Nat}

theorem roundNow_untrained (h : (chanOf d n).state ≠ 2) (forced : Bool) : roundNow n forced d = d := by
  rw [roundNow, if_pos h]

theorem roundNow_runs (h : (chanOf d n).state = 2) (hlive : chanLive (chanOf d n) = true) (hstep1 : d.kerf.step1 = none) :
    (chanOf (roundNow n false d) n).lastRound = d.now ∧ (chanOf (roundNow n false d) n).pauseDue = 0 := by
  have hmay : mayPause d n = true := by simp [mayPause, hlive, hstep1]
  have hround : roundNow n false d = roundDone n false d := by
    rw [roundNow, if_neg (not_not.2 h), if_pos hmay]
  simp only [hround, roundDone, chanOf_updChan_same, countChan_now, Bool.false_eq_true, if_false, and_self]

theorem roundNow_owed (h : (chanOf d n).state = 2) (hlive : chanLive (chanOf d n) = false) :
    ChanOnly d (roundNow n false d) n { chanOf d n with pauseDue := max (chanOf d n).pauseDue 1 } := by
  have hmay : ¬mayPause d n = true := by simp [mayPause, hlive]
  have hround : roundNow n false d = updChan d n (fun c => { c with pauseDue := max c.pauseDue 1 }) := by
    rw [roundNow, if_neg (not_not.2 h), if_neg hmay]
    rfl
  rw [hround]
  exact chanOnly_updChan ..

end roundNow

/-! ### Benches, takeovers, counters, maintenance -/

@[simp] theorem ent_setCurNat_same (d : Dev) (idx sub v : Nat) : ent (setCurNat d idx sub v) idx sub = v := by
  simp [ent, setCurNat, setCur]

theorem ent_setCurNat_other (d : Dev) {idx sub i j : Nat} (v : Nat) (h : ekey i j ≠ ekey idx sub) : ent (setCurNat d idx sub v) i j = ent d i j := by
  simp [ent, setCurNat, setCur, tabGet_tabSet_other none d.list.cur (some (Val.num v)) h]

/-- A zeroised bench is in STATE 4 and disabled (R314). -/
theorem benchZeroise_disables (b : Nat) (d : Dev) : (benchOf (benchZeroise b d) b).state = 4 ∧ ent (benchZeroise b d) 0x5000 (b + 1) = 0 := by
  unfold benchZeroise
  extract_lets d1 e d2 d3
  refine ⟨?_, ent_setCurNat_same ..⟩
  calc (benchOf (setCurNat (loseArrays b d3) 0x5000 (b + 1) 0) b).state
      = (benchOf (updBench d3 b (fun x => { x with keyed := false, ksKey := [], window := [], keys := [], lostGen := x.gens })) b).state := rfl
    _ = (benchOf d3 b).state := by rw [benchOf_updBench_same]
    _ = 4 := by simp only [d3, benchOf_updBench_same]

theorem mem_tabMap {α : Type} [DecidableEq α] (dflt : α) (f : Nat → α → α) (t : Tab α) (k : Nat) (v : α) :
    (k, v) ∈ tabMap dflt f t ↔ v ≠ dflt ∧ ∃ w, (k, w) ∈ t ∧ v = f k w := by
  simp only [tabMap, List.mem_filter, List.mem_map, Prod.mk.injEq, decide_eq_true_eq, Prod.exists]
  constructor
  · rintro ⟨⟨k', w, hw, rfl, rfl⟩, hne⟩
    exact ⟨hne, w, hw, rfl⟩
  · rintro ⟨hne, w, hw, rfl⟩
    exact ⟨⟨k, w, hw, rfl, rfl⟩, hne⟩

/-- Every key of a mapped table reads a mapped entry, or the default that the map keeps. -/
theorem tabGet_tabMap_pred {α : Type} [DecidableEq α] {dflt : α} {f : Nat → α → α} {P : α → Prop} (hd : P dflt) (hf : ∀ k v, P (f k v)) (t : Tab α) (k : Nat) :
    P (tabGet dflt (tabMap dflt f t) k) := by
  induction t with
  | nil => exact hd
  | cons e t ih =>
    obtain ⟨j, w⟩ := e
    by_cases h : f j w = dflt
    · have hdrop : tabMap dflt f ((j, w) :: t) = tabMap dflt f t := by simp [tabMap, h]
      rw [hdrop]
      exact ih
    · have hkeep : tabMap dflt f ((j, w) :: t) = (j, f j w) :: tabMap dflt f t := by simp [tabMap, h]
      rw [hkeep, tabGet]
      split
      · exact hf j w
      · exact ih

/-- With every staged value discarded, no accepted enable is pending (R37). -/
theorem pend_discardStaged (d : Dev) (i j : Nat) : (dryOf (discardStaged d) i j).pend = false := by
  let clear (_ : Nat) (x : DryStatus) : DryStatus := { x with pend := false }
  exact tabGet_tabMap_pred (dflt := dryInit) (f := clear) (P := fun x : DryStatus => x.pend = false) rfl (fun _ _ => rfl) d.list.status (ekey i j)

theorem getBits_maintCmd {op : Nat} (hop : op < 4) (scope : Bool) (sls : BitVec 16) :
    getBits (maintCmd op scope sls) 0 2 = op ∧ getBit (maintCmd op scope sls) 8 = scope ∧ getBits (maintCmd op scope sls) 16 16 = sls.toNat ∧
      maintCmd op scope sls < 2 ^ 64 := by
  have hs := sls.isLt
  cases scope <;> simp only [maintCmd, packFields, getBits, getBit, b2n, beq_iff_eq, beq_eq_false_iff_ne] <;> simp <;> omega

/-- A maintenance command takes its fields and its range, and runs unless its range is empty (R233, R234). -/
theorem maintStart_fields (v : Nat) (d : Dev) {m : MaintSt} (hm : (maintStart v d).maint = m) :
    m.op = getBits v 0 2 ∧ m.scopeAll = getBit v 8 ∧ m.slices = getBits v 16 16 ∧ m.base = ent d 0x4110 0 ∧ m.limit = ent d 0x4110 1 ∧
      (if getBit v 8 = false ∧ ent d 0x4110 1 < ent d 0x4110 0 then m.busy = false ∧ m.done = true else m.busy = true ∧ m.done = false) := by
  subst hm
  have hempty : (!getBit v 8 && decide (ent d 0x4110 1 < ent d 0x4110 0)) = true ↔ getBit v 8 = false ∧ ent d 0x4110 1 < ent d 0x4110 0 := by simp
  by_cases h : getBit v 8 = false ∧ ent d 0x4110 1 < ent d 0x4110 0
  · simp only [maintStart, if_pos (hempty.2 h), if_pos h, and_self]
  · simp only [maintStart, if_neg (mt hempty.1 h), if_neg h, and_self]

end Sys2Proof.Proofs
end

section
namespace Sys2Proof.Proofs

open Sys2Proof.Machine

section actingWrites
variable {s : State} {n : SessN} {x : Session} {tag : Nat}

/-- A 0 to an entry that acts does nothing. -/
theorem writeActs_zero {i : Instr} {idx sub : Nat} {u : UcieObs} (hact : ActsAtOnce idx sub) (htrig : isTrigger idx sub = true)
    (hmay : MayWrite s.dev n x idx sub (leBytes 1 0)) (hexec : exec i s = onDev (listJob (.write (some n) tag idx sub 1 0 u)) s) :
    WriteActs s n tag i s.dev := by
  have h := writeActs_immNum hact hmay (by decide) (by decide) hexec
  rwa [immNum_zero htrig] at h

/-- A 1 to an entry that acts does what `f` does. -/
theorem writeActs_one {i : Instr} {idx sub : Nat} {u : UcieObs} {f : Dev → Dev} (hact : ActsAtOnce idx sub)
    (hmay : MayWrite s.dev n x idx sub (leBytes 1 1)) (hexec : exec i s = onDev (listJob (.write (some n) tag idx sub 1 1 u)) s)
    (hf : immNum u idx sub 1 s.dev = f s.dev) : WriteActs s n tag i (f s.dev) := by
  have h := writeActs_immNum hact hmay (by decide) (by decide) hexec
  rwa [hf] at h

/-! ### HARD_LIMIT (R29) -/

theorem entryRow_hardLimit : ∃ r, entryRow 0x3000 2 = some r ∧ r.swap = .imm ∧ isOctets r.typ = false := ⟨_, rfl, rfl, rfl⟩

/-- HARD_LIMIT takes effect where the ledger's dry fit accepts the value. -/
theorem writeVal_hardLimit {r : EntryRow} (himm : r.swap = .imm) (hnum : isOctets r.typ = false) (sess : Nat) (u : UcieObs) (v : List Byte) (d : Dev) :
    let f := ledgerFit (setCurNat d 0x3000 2 (leNat v))
    let e := recordFit 0x3001 0 (0x3000, 2) false f d
    writeVal sess noPartner u r 0x3000 2 v d = if f.1 = 0 then (abOk, d.kerf.counter, setCurNat e 0x3000 2 (leNat v)) else (abDryFit, 0, e) := by
  intro f e
  have hfits : dependents (setCurNat d 0x3000 2 (leNat v)) noPartner 0x3000 2 = [(0x3001, 0, f)] := by simp [dependents, f]
  have hplain : writeVal sess noPartner u r 0x3000 2 v d = writePlain sess noPartner u r 0x3000 2 (.num (leNat v)) d := by
    simp [writeVal, enableOf, valOf, hnum]
  have hruns : runFits (0x3000, 2) [(0x3001, 0, f)] d = (f.1 == 0, e) := by simp [runFits, e]
  have htent : setCur d 0x3000 2 (some (.num (leNat v))) = setCurNat d 0x3000 2 (leNat v) := rfl
  have hmicro : ¬((0x3000 : Nat) = 0x5020) := by decide
  rw [hplain]
  simp only [writePlain, himm, if_true, htent, hfits, if_neg hmicro, hruns, beq_iff_eq]
  rfl

theorem exec_hardLimit (v : BitVec 16) (hmay : MayWrite s.dev n x 0x3000 2 (leBytes 2 v.toNat)) :
    let f := ledgerFit (setCurNat s.dev 0x3000 2 v.toNat)
    let e := recordFit 0x3001 0 (0x3000, 2) false f s.dev
    (f.1 = 0 → WriteActs s n tag (.hardLimitW (some n) tag v) (setCurNat e 0x3000 2 v.toNat)) ∧
    (f.1 ≠ 0 → exec (.hardLimitW (some n) tag v) s = .next { s with dev := emit (.listResp s.dev.fuses.vendorId (some n.val) 0x82 tag abDryFit []) e }) := by
  intro f e
  obtain ⟨r, hr, himm, hnum⟩ := entryRow_hardLimit
  have hexec := exec_writeTo (i := .hardLimitW (some n) tag v) (tag := tag) (u := noUcie) hmay rfl
  have hv : leNat (leBytes 2 v.toNat) = v.toNat := by
    rw [leNat_leBytes]
    exact Nat.mod_eq_of_lt v.isLt
  have hwrite := writeVal_hardLimit himm hnum n noUcie (leBytes 2 v.toNat) s.dev
  rw [hv] at hwrite
  rw [writeTo_writes hmay hr (by decide) (by decide) (by decide), hwrite] at hexec
  refine ⟨fun hf => ?_, fun hf => ?_⟩
  · refine hexec.trans ?_
    rw [if_pos hf]
    rfl
  · refine hexec.trans ?_
    rw [if_neg hf]
    rfl

/-! ### MSC_ENABLE (R229) -/

theorem entryRow_mscEnable (sl : SliceN) : ∃ r, entryRow 0x4100 (sl + 1) = some r := by
  have h : ∀ sl : SliceN, (entryRow 0x4100 (sl + 1)).isSome = true := by decide +kernel
  exact Option.isSome_iff_exists.1 (h sl)

/-- A row that writes MSC_ENABLE is what `writeMsc` comes to. -/
theorem exec_mscEnable {i : Instr} {sl : SliceN} {v : Nat} (hv : v < 256 ^ 2) (hmay : MayWrite s.dev n x 0x4100 (sl + 1) (leBytes 2 v))
    (hexec : exec i s = onDev (listJob (.write (some n) tag 0x4100 (sl + 1) 2 v noUcie)) s) {w : Wrote} (hw : writeMsc (sl + 1) v s.dev = w) :
    exec i s = .next { s with
      dev := emit (.listResp w.2.2.fuses.vendorId (some n.val) 0x82 tag w.1 (if w.1 = abOk then leBytes 8 w.2.1 else [])) w.2.2 } := by
  obtain ⟨r, hr⟩ := entryRow_mscEnable sl
  have hval : writeVal n noPartner noUcie r 0x4100 (sl + 1) (leBytes 2 v) s.dev = w := by
    rw [writeVal, if_pos rfl, leNat_leBytes, Nat.mod_eq_of_lt hv, hw]
  have h := exec_writeTo hmay hexec
  rw [writeTo_writes hmay hr (by decide) (by omega) (by decide), hval] at h
  exact h

/-- A write of MSC_ENABLE stages `v`, for the next kerf. -/
def StagesMsc (s : State) (n : SessN) (tag : Nat) (sl : SliceN) (i : Instr) (v : Nat) : Prop :=
  ∃ d, exec i s = .next { s with dev := d } ∧ d.out = s.dev.out ++ [writeAnswer s.dev n tag (s.dev.kerf.counter + 1)] ∧
    d.list.stg = (setStg s.dev 0x4100 (sl + 1) (some (.num v))).list.stg ∧ (v ≠ 0 → (dryOf d 0x4101 (sl + 1)).pend = true) ∧
    { d with list := { d.list with stg := s.dev.list.stg, status := s.dev.list.status }, out := s.dev.out } = s.dev

/-- A write of MSC_ENABLE is refused by its dry fit. -/
def RefusesMsc (s : State) (n : SessN) (tag : Nat) (sl : SliceN) (i : Instr) (reason : Nat) (stg : Tab (Option Val)) : Prop :=
  ∃ d, exec i s = .next { s with dev := d } ∧ d.out = s.dev.out ++ [.listResp s.dev.fuses.vendorId (some n.val) 0x82 tag abDryFit []] ∧
    (dryOf d 0x4101 (sl + 1)).reason = reason ∧ d.list.stg = stg ∧
    { d with list := { d.list with stg := s.dev.list.stg, status := s.dev.list.status }, out := s.dev.out } = s.dev

section msc
variable {i : Instr} {sl : SliceN} {v : Nat} {t : Tab DryStatus}

theorem stagesMsc_of_writeMsc (hv : v < 256 ^ 2) (hmay : MayWrite s.dev n x 0x4100 (sl + 1) (leBytes 2 v))
    (hexec : exec i s = onDev (listJob (.write (some n) tag 0x4100 (sl + 1) 2 v noUcie)) s)
    (hw : writeMsc (sl + 1) v s.dev = (abOk, nextKerf s.dev, withStaging t (setStg s.dev 0x4100 (sl + 1) (some (.num v))).list.stg s.dev))
    (hpend : v ≠ 0 → (dryOf (withStaging t (setStg s.dev 0x4100 (sl + 1) (some (.num v))).list.stg s.dev) 0x4101 (sl + 1)).pend = true) :
    StagesMsc s n tag sl i v :=
  ⟨_, exec_mscEnable hv hmay hexec hw, rfl, rfl, hpend, rfl⟩

theorem refusesMsc_of_writeMsc {g : Tab (Option Val)} {reason : Nat} (hv : v < 256 ^ 2) (hmay : MayWrite s.dev n x 0x4100 (sl + 1) (leBytes 2 v))
    (hexec : exec i s = onDev (listJob (.write (some n) tag 0x4100 (sl + 1) 2 v noUcie)) s)
    (hw : writeMsc (sl + 1) v s.dev = (abDryFit, 0, withStaging t g s.dev))
    (hreason : (dryOf (withStaging t g s.dev) 0x4101 (sl + 1)).reason = reason) : RefusesMsc s n tag sl i reason g :=
  ⟨_, exec_mscEnable hv hmay hexec hw, rfl, hreason, rfl, rfl⟩

theorem mscEnable_stagesOrRefuses (hmay : MayWrite s.dev n x 0x4100 (sl + 1) (leBytes 2 1)) (hent : ent s.dev 0x4100 (sl + 1) = 0)
    (hnext : entNext s.dev 0x4100 (sl + 1) = 0) :
    ((mscFit1 s.dev sl).1 = 0 → StagesMsc s n tag sl (.mscEnable (some n) tag sl) 1) ∧
    ((mscFit1 s.dev sl).1 ≠ 0 →
      RefusesMsc s n tag sl (.mscEnable (some n) tag sl) (mscFit1 s.dev sl).1 (setStg s.dev 0x4100 (sl + 1) none).list.stg) := by
  have hw : writeMsc (sl + 1) 1 s.dev = writeOne (0x4101, sl + 1) (mscFit1 s.dev sl) 0x4100 (sl + 1) s.dev := by
    simp [writeMsc, hent, hnext]
  refine ⟨fun hf => ?_, fun hf => ?_⟩
  · obtain ⟨t, ht, hdry⟩ := writeOne_accepts (st := (0x4101, sl.val + 1)) (idx := 0x4100) (sub := sl.val + 1) hf
    exact stagesMsc_of_writeMsc (by decide) hmay rfl (hw.trans ht) fun _ => congrArg DryStatus.pend hdry
  · obtain ⟨t, ht, hdry⟩ := writeOne_refused (st := (0x4101, sl.val + 1)) (idx := 0x4100) (sub := sl.val + 1) hf
    exact refusesMsc_of_writeMsc (by decide) hmay rfl (hw.trans ht) (congrArg DryStatus.reason hdry)

theorem mscEnable_again (hmay : MayWrite s.dev n x 0x4100 (sl + 1) (leBytes 2 1))
    (hon : ent s.dev 0x4100 (sl + 1) ≠ 0 ∨ entNext s.dev 0x4100 (sl + 1) ≠ 0) :
    exec (.mscEnable (some n) tag sl) s = .next { s with
      dev := emit (writeAnswer s.dev n tag (s.dev.kerf.counter + 1))
        (if ent s.dev 0x4100 (sl + 1) = 1 then setPend (0x4101, sl + 1) false (setStg s.dev 0x4100 (sl + 1) (some (.num 1))) else s.dev) } := by
  have hw : writeMsc (sl + 1) 1 s.dev = (abOk, nextKerf s.dev,
      if ent s.dev 0x4100 (sl + 1) = 1 then setPend (0x4101, sl + 1) false (setStg s.dev 0x4100 (sl + 1) (some (.num 1))) else s.dev) := by
    simp [writeMsc, not_and_or.2 hon]
  refine (exec_mscEnable (by decide) hmay rfl hw).trans ?_
  split <;> rfl

theorem mscDisable_stagesOrRefuses (hmay : MayWrite s.dev n x 0x4100 (sl + 1) (leBytes 2 0)) :
    ((mscFit0 s.dev sl).1 = 0 → StagesMsc s n tag sl (.mscDisable (some n) tag sl) 0) ∧
    ((mscFit0 s.dev sl).1 ≠ 0 → RefusesMsc s n tag sl (.mscDisable (some n) tag sl) (mscFit0 s.dev sl).1 s.dev.list.stg) := by
  obtain ⟨t, ht⟩ := recordFit_eq 0x4101 (sl + 1) (0x4100, sl + 1) false (mscFit0 s.dev sl) s.dev
  refine ⟨fun hf => ?_, fun hf => ?_⟩
  · have hw : ∃ t, writeMsc (sl + 1) 0 s.dev =
        (abOk, nextKerf s.dev, withStaging t (setStg s.dev 0x4100 (sl + 1) (some (.num 0))).list.stg s.dev) := by
      simp only [writeMsc, Nat.add_sub_cancel, if_pos hf, ht]
      split
      · exact ⟨t, rfl⟩
      · exact ⟨(setPend (0x4101, sl + 1) false (withStaging t s.dev.list.stg s.dev)).list.status, rfl⟩
    obtain ⟨t', ht'⟩ := hw
    exact stagesMsc_of_writeMsc (by decide) hmay rfl ht' fun h => absurd rfl h
  · have hdry := dryOf_recordFit_refuses (d := s.dev) (st := (0x4101, sl.val + 1)) (trig := (0x4100, sl.val + 1)) (atKerf := false) hf
    have hw : writeMsc (sl + 1) 0 s.dev = (abDryFit, 0, withStaging t s.dev.list.stg s.dev) := by
      simp only [writeMsc, Nat.add_sub_cancel, if_neg hf, ht]
    refine refusesMsc_of_writeMsc (by decide) hmay rfl hw ?_
    rw [← ht]
    exact congrArg DryStatus.reason hdry

theorem mscFlush_stages (hmay : MayWrite s.dev n x 0x4100 (sl + 1) (leBytes 2 2)) (hent : ent s.dev 0x4100 (sl + 1) = 1) :
    StagesMsc s n tag sl (.mscFlushThenDisable (some n) tag sl) 2 := by
  have hw : writeMsc (sl + 1) 2 s.dev = (abOk, nextKerf s.dev, setPend (0x4101, sl + 1) true (setStg s.dev 0x4100 (sl + 1) (some (.num 2)))) := by
    simp [writeMsc, hent]
  exact stagesMsc_of_writeMsc (by decide) hmay rfl hw fun _ => congrArg DryStatus.pend (dryOf_updDry_same ..)

theorem mscFlush_ignored (hmay : MayWrite s.dev n x 0x4100 (sl + 1) (leBytes 2 2)) (hent : ent s.dev 0x4100 (sl + 1) ≠ 1) :
    exec (.mscFlushThenDisable (some n) tag sl) s = .next { s with dev := emit (writeAnswer s.dev n tag s.dev.kerf.counter) s.dev } := by
  have hw : writeMsc (sl + 1) 2 s.dev = (abOk, s.dev.kerf.counter, s.dev) := by simp [writeMsc, hent]
  exact exec_mscEnable (by decide) hmay rfl hw

end msc

/-! ### A maintenance command (R233) -/

theorem mscMaint_starts {i : Instr} {op : Nat} {scope : Bool} {sls : BitVec 16} (hop : op < 4)
    (hexec : exec i s = onDev (listJob (.write (some n) tag 0x4110 2 8 (maintCmd op scope sls) noUcie)) s)
    (hmay : MayWrite s.dev n x 0x4110 2 (leBytes 8 (maintCmd op scope sls))) :
    let d := maintStart (maintCmd op scope sls) (setCurNat s.dev 0x4110 2 (maintCmd op scope sls))
    WriteActs s n tag i d ∧ d.maint.op = op ∧ d.maint.scopeAll = scope ∧ d.maint.slices = sls.toNat ∧
      d.maint.base = ent s.dev 0x4110 0 ∧ d.maint.limit = ent s.dev 0x4110 1 ∧
      (if scope = false ∧ ent s.dev 0x4110 1 < ent s.dev 0x4110 0 then d.maint.busy = false ∧ d.maint.done = true
        else d.maint.busy = true ∧ d.maint.done = false) := by
  intro d
  obtain ⟨hop', hscope, hsls, hlt⟩ := getBits_maintCmd hop scope sls
  have hfields := maintStart_fields (maintCmd op scope sls) (setCurNat s.dev 0x4110 2 (maintCmd op scope sls)) rfl
  rw [hop', hscope, hsls, ent_setCurNat_other s.dev _ (by decide), ent_setCurNat_other s.dev _ (by decide)] at hfields
  refine ⟨?_, hfields⟩
  have hacts := writeActs_immNum actsAtOnce_maintCmd hmay (by decide) hlt hexec
  have himm : immNum noUcie 0x4110 2 (maintCmd op scope sls) s.dev = d := by simp [immNum, d]
  rwa [himm] at hacts

end actingWrites

/-- Settles O39: a write of an IMM entry comes to its act, one of HARD_LIMIT and of MSC_ENABLE to what its dry fit answers; each act by its own lemma. -/
theorem actingWrites : Obligations.ActingWrites := by
  unfold Obligations.ActingWrites
  constructor
  · intro n x tag s did
    refine ⟨fun i idx sub hmay hzero => ?_, fun hmay => ?_, fun v hmay => exec_hardLimit v hmay, fun die hmay => ?_, fun site u hmay => ?_,
      fun die hmay => ?_, fun ch hmay => ?_, fun b hmay => ?_, fun hmay => ?_, fun k hmay => ?_, fun hmay => ?_⟩
    · rcases hzero with ⟨rfl, h⟩ | ⟨die, rfl, h⟩ | ⟨site, u, rfl, h⟩ | ⟨die, rfl, h⟩ | ⟨ch, rfl, h⟩ | ⟨b, rfl, h⟩ | ⟨rfl, h⟩ | ⟨k, rfl, h⟩ | ⟨rfl, h⟩
      all_goals obtain ⟨rfl, rfl⟩ := Prod.mk.inj h
      · exact writeActs_zero actsAtOnce_stagedDiscard rfl hmay rfl
      · exact writeActs_zero (actsAtOnce_linkRetrain die) rfl hmay rfl
      · exact writeActs_zero (actsAtOnce_ucieRetrain site) rfl hmay rfl
      · exact writeActs_zero (actsAtOnce_dieReadmit die) rfl hmay rfl
      · exact writeActs_zero (actsAtOnce_dramRetrainNow ch) rfl hmay rfl
      · exact writeActs_zero (actsAtOnce_benchZeroise b) rfl hmay rfl
      · exact writeActs_zero actsAtOnce_forcePromote rfl hmay rfl
      · exact writeActs_zero (actsAtOnce_takeoverOpen k) rfl hmay rfl
      · exact writeActs_zero actsAtOnce_ovfClear rfl hmay rfl
    · refine ⟨writeActs_one actsAtOnce_stagedDiscard hmay rfl rfl, rfl, fun i j => ?_, rfl⟩
      exact pend_discardStaged s.dev i j
    · exact ⟨writeActs_one (actsAtOnce_linkRetrain die) hmay rfl rfl, retrainLink_up, retrainLink_not_up⟩
    · exact ⟨writeActs_one (actsAtOnce_ucieRetrain site) hmay rfl rfl, trainSite_unpopulated, trainSite_good, trainSite_stays_down,
        fun hpop hbad hup _ hcause => trainSite_loses hpop hbad hup hcause⟩
    · exact ⟨writeActs_one (actsAtOnce_dieReadmit die) hmay rfl rfl, startReadmit_starts s.dev die⟩
    · exact ⟨writeActs_one (actsAtOnce_dramRetrainNow ch) hmay rfl rfl, fun h => roundNow_untrained h false,
        fun h hlive => roundNow_runs h hlive hmay.1.2.2.2, roundNow_owed⟩
    · exact ⟨writeActs_one (actsAtOnce_benchZeroise b) hmay rfl rfl, benchZeroise_disables b s.dev⟩
    · have hforce : WriteActs s n tag (.forcePromote (some n) tag 1) (forcePromote s.dev) := writeActs_one actsAtOnce_forcePromote hmay rfl rfl
      refine ⟨fun hphase => ?_, fun hphase => ?_⟩
      · rwa [forcePromote, if_pos hphase] at hforce
      · rwa [forcePromote, if_neg hphase] at hforce
    · exact ⟨writeActs_one (actsAtOnce_takeoverOpen k) hmay rfl rfl, takeOf_updTake_same .., fun j hj => takeOf_updTake_other s.dev _ hj⟩
    · exact ⟨writeActs_one actsAtOnce_ovfClear hmay rfl rfl, rfl, fun k v => mem_tabMap 0 (fun _ v => v % 2 ^ 48) s.dev.obs.ctr k v⟩
  · intro n x tag sl s staged refused
    refine ⟨mscEnable_stagesOrRefuses, mscEnable_again, mscDisable_stagesOrRefuses, fun hmay => ⟨mscFlush_stages hmay, mscFlush_ignored hmay⟩,
      fun scope sls i op hi hmay => ?_⟩
    rcases hi with ⟨rfl, rfl⟩ | ⟨rfl, rfl⟩ | ⟨rfl, rfl⟩
    · exact mscMaint_starts (by decide) rfl hmay
    · exact mscMaint_starts (by decide) rfl hmay
    · exact mscMaint_starts (by decide) rfl hmay

end Sys2Proof.Proofs
end

section
/-!
PROOFS (O38). The kerf's record has few writers: what the steps of a kerf sequence call leaves it as it is (R34).
-/

namespace Sys2Proof.Proofs

open Sys2Proof.Machine

@[simp] theorem foldl_kerf {β : Type} {f : Dev → β → Dev} (h : ∀ d b, (f d b).kerf = d.kerf) (l : List β) (d : Dev) : (l.foldl f d).kerf = d.kerf :=
  foldl_keeps Dev.kerf f h l d
@[simp] theorem ite_kerf (c : Prop) [Decidable c] (a b : Dev) : (if c then a else b).kerf = if c then a.kerf else b.kerf := apply_ite Dev.kerf c a b

/-! ### What harts, events and kills leave -/

@[simp] theorem cutAccounts_kerf (d : Dev) : (cutAccounts d).kerf = d.kerf := by simp [cutAccounts]
@[simp] theorem emitAll_kerf (os : List Out) (d : Dev) : (emitAll os d).kerf = d.kerf := by simp [emitAll]
@[simp] theorem sendDowel_kerf (typ : Nat) (body : List Byte) (d : Dev) : (sendDowel typ body d).kerf = d.kerf := by simp [sendDowel]
@[simp] theorem mirrorKerfRec_kerf (k : Nat) (d : Dev) : (mirrorKerfRec k d).kerf = d.kerf := by simp [mirrorKerfRec]
@[simp] theorem atRest_kerf (h : Nat) (d : Dev) : (atRest h d).kerf = d.kerf := by simp [atRest]
@[simp] theorem asyncExit_kerf (h : Nat) (d : Dev) : (asyncExit h d).kerf = d.kerf := by
  unfold asyncExit
  dsimp only
  split <;> simp
@[simp] theorem countHartN_kerf (h c n : Nat) (d : Dev) : (countHartN h c n d).kerf = d.kerf := by
  unfold countHartN
  split <;> simp
@[simp] theorem countHart_kerf (h c : Nat) (d : Dev) : (countHart h c d).kerf = d.kerf := by simp [countHart]
@[simp] theorem killCore_kerf (h line : Nat) (d : Dev) : (killCore h line d).kerf = d.kerf := by simp [killCore]
@[simp] theorem killLine_kerf (n line : Nat) (d : Dev) : (killLine n line d).kerf = d.kerf := by simp [killLine]
@[simp] theorem loseResv_kerf (n line : Nat) (but : Option Nat) (d : Dev) : (loseResv n line but d).kerf = d.kerf := by
  refine foldl_kerf (fun d h => ?_) _ _
  split
  · simp
  · rfl
@[simp] theorem clearBpres_kerf (line : Nat) (d : Dev) : (clearBpres line d).kerf = d.kerf := by
  unfold clearBpres
  split <;> simp

/-! ### Memory, its channels and the MSC -/

@[simp] theorem setMem_kerf (a : Nat) (bs : List Byte) (d : Dev) : (setMem a bs d).kerf = d.kerf := by simp [setMem]
@[simp] theorem dramStore_kerf (line : Nat) (data : Line) (poison : Bool) (d : Dev) : (dramStore line data poison d).kerf = d.kerf := by simp [dramStore]
@[simp] theorem mirrorLine_kerf (line : Nat) (data : Line) (poison : Bool) (d : Dev) : (mirrorLine line data poison d).kerf = d.kerf := by simp [mirrorLine]
@[simp] theorem wqIssueOldest_kerf (k : Nat) (d : Dev) : (wqIssueOldest k d).kerf = d.kerf := by
  unfold wqIssueOldest
  split <;> simp
@[simp] theorem wqMark_kerf (k : Nat) (d : Dev) : (wqMark k d).kerf = d.kerf := by simp [wqMark]
@[simp] theorem chanWrite_kerf (line : Nat) (data : Line) (poison : Bool) (d : Dev) : (chanWrite line data poison d).kerf = d.kerf := by simp [chanWrite]
@[simp] theorem evbDrainOne_kerf (n : Nat) (d : Dev) : (evbDrainOne n d).kerf = d.kerf := by
  unfold evbDrainOne
  split <;> simp
@[simp] theorem mscVictim_kerf (e : MscLine) (d : Dev) : (mscVictim e d).kerf = d.kerf := by simp [mscVictim]
@[simp] theorem mscPut_kerf (line : Nat) (e : Option MscLine) (d : Dev) : (mscPut line e d).kerf = d.kerf := by simp [mscPut]
@[simp] theorem mscPlace_kerf (line : Nat) (data : Line) (dirty poison : Bool) (d : Dev) : (mscPlace line data dirty poison d).kerf = d.kerf := by
  unfold mscPlace
  split <;> simp
@[simp] theorem evbFree_kerf (line : Nat) (d : Dev) : (evbFree line d).kerf = d.kerf := by simp [evbFree]
@[simp] theorem mscWrite_kerf (line : Nat) (data : Line) (poison : Bool) (d : Dev) : (mscWrite line data poison d).kerf = d.kerf := by
  unfold mscWrite
  split
  · simp
  · dsimp only
    split <;> simp
@[simp] theorem memWrite_kerf (line : Nat) (data : Line) (poison : Bool) (d : Dev) : (memWrite line data poison d).kerf = d.kerf := by
  unfold memWrite
  split <;> simp
@[simp] theorem patchLine_kerf (line : Nat) (x : Line) (poison : Bool) (d : Dev) : (patchLine line x poison d).kerf = d.kerf := by
  unfold patchLine
  extract_lets sl msg d1 d2
  have h1 : d1.kerf = d.kerf := by
    refine (foldl_kerf (fun d n => ?_) _ _).trans (clearBpres_kerf ..)
    rw [updDie_kerf]
    split <;> simp
  have h2 : d2.kerf = d1.kerf := updSlice_kerf ..
  clear_value d2 d1
  exact (memWrite_kerf ..).trans (h2.trans h1)

/-! ### Lines, links and snoops of a die -/

@[simp] theorem dropDieLine_kerf (n line : Nat) (d : Dev) : (dropDieLine n line d).kerf = d.kerf := by
  unfold dropDieLine
  split <;> simp
@[simp] theorem setHeldState_kerf (n line : Nat) (st : Moesi) (d : Dev) : (setHeldState n line st d).kerf = d.kerf := by
  unfold setHeldState
  dsimp only
  split <;> simp
@[simp] theorem takeLine_kerf (line : Nat) (d : Dev) : (takeLine line d).kerf = d.kerf := by simp [takeLine]
@[simp] theorem linkWakes_kerf (n : Nat) (d : Dev) : (linkWakes n d).kerf = d.kerf := by simp [linkWakes]
@[simp] theorem sendWake_kerf (n : Nat) (d : Dev) : (sendWake n d).kerf = d.kerf := by simp [sendWake]
@[simp] theorem wakeForSnoop_kerf (n : Nat) (needs : Nat → Bool) (d : Dev) : (wakeForSnoop n needs d).kerf = d.kerf := by simp [wakeForSnoop]
@[simp] theorem tagWalks_kerf (n line : Nat) (d : Dev) : (tagWalks n line d).kerf = d.kerf := by simp [tagWalks]
@[simp] theorem wbRelease_kerf (n line : Nat) (d : Dev) : (wbRelease n line d).kerf = d.kerf := by
  unfold wbRelease
  split <;> simp
@[simp] theorem updBundle_kerf (n : Nat) (up : Bool) (f : Bundle → Bundle) (d : Dev) : (updBundle n up f d).kerf = d.kerf := by simp [updBundle]
@[simp] theorem drainBundle_kerf (n : Nat) (up : Bool) (d : Dev) : (drainBundle n up d).kerf = d.kerf := by simp [drainBundle]
@[simp] theorem send_kerf (up : Bool) (m : FMsg) (d : Dev) : (send up m d).kerf = d.kerf := by simp [send]
@[simp] theorem ownerData_kerf (n : Nat) (op : Op) (m : FMsg) (x : Line) (poison dirty kp : Bool) (d : Dev) :
    (ownerData n op m x poison dirty kp d).kerf = d.kerf := by
  simp [ownerData]
@[simp] theorem killDone_kerf (n txid line : Nat) (d : Dev) : (killDone n txid line d).kerf = d.kerf := by simp [killDone]
@[simp] theorem answerAck_kerf (n : Nat) (m : FMsg) (op : Op) (held dirty kp : Bool) (d : Dev) : (answerAck n m op held dirty kp d).kerf = d.kerf := by
  simp [answerAck]
@[simp] theorem answerData_kerf (n : Nat) (m : FMsg) (data : Line) (poison dirty kp : Bool) (d : Dev) : (answerData n m data poison dirty kp d).kerf = d.kerf := by
  simp [answerData]
@[simp] theorem dieServe_kerf (n : Nat) (m : FMsg) (d : Dev) : (dieServe n m d).kerf = d.kerf := by
  unfold dieServe
  dsimp only
  split <;> simp
@[simp] theorem serveOrDefer_kerf (n : Nat) (m : FMsg) (d : Dev) : (serveOrDefer n m d).kerf = d.kerf := by
  unfold serveOrDefer
  dsimp only
  split <;> simp
@[simp] theorem dieSnoop_kerf (n : Nat) (m : FMsg) (d : Dev) : (dieSnoop n m d).kerf = d.kerf := by
  unfold dieSnoop
  split
  · rfl
  · dsimp only
    split <;> simp
@[simp] theorem flushDeferred_kerf (n : Nat) (d : Dev) : (flushDeferred n d).kerf = d.kerf := by simp [flushDeferred]

/-! ### Coherent writes and what the mirror writes at a cut -/

@[simp] theorem writeNow_kerf (line : Nat) (x : Line) (poison : Bool) (d : Dev) : (writeNow line x poison d).kerf = d.kerf := by simp [writeNow]
@[simp] theorem cohWriteLine_kerf (line : Nat) (data : Line) (d : Dev) : (cohWriteLine line data d).kerf = d.kerf := by simp [cohWriteLine]
@[simp] theorem cohMerge_kerf (line off : Nat) (bs : List Byte) (d : Dev) : (cohMerge line off bs d).kerf = d.kerf := by simp [cohMerge]
@[simp] theorem cohWrite_kerf (a : Nat) (bs : List Byte) (d : Dev) : (cohWrite a bs d).kerf = d.kerf := by simp [cohWrite]
@[simp] theorem writeChanged_kerf (a : Nat) (bs : List Byte) (d : Dev) : (writeChanged a bs d).kerf = d.kerf := by simp [writeChanged]
@[simp] theorem cutCkpt_kerf (kerf : Nat) (full : Bool) (h : Nat) (d : Dev) : (cutCkpt kerf full h d).kerf = d.kerf := by simp [cutCkpt]
@[simp] theorem discardHeld_kerf (d : Dev) : (discardHeld d).kerf = d.kerf := by simp [discardHeld]
/-- The bytes written are arguments here, so that the kernel has no snapshot to evaluate. -/
theorem foldl_writeChanged_kerf (a : Dev → Nat → Nat) (bs : Dev → Nat → List Byte) (l : List Nat) (d : Dev) :
    (l.foldl (fun d b => writeChanged (a d b) (bs d b) d) d).kerf = d.kerf := foldl_kerf (fun _ _ => writeChanged_kerf ..) l d
@[simp] theorem writeSnaps_kerf (d : Dev) : (writeSnaps d).kerf = d.kerf := by
  rw [writeSnaps, foldl_writeChanged_kerf benchSnapBase, writeChanged_kerf]
@[simp] theorem writeSlots_kerf (d : Dev) : (writeSlots d).kerf = d.kerf := by
  rw [writeSlots]
  refine foldl_kerf (fun d e => ?_) _ _
  rw [foldl_kerf (fun d s => ?_)]
  · split
    · rfl
    · exact writeChanged_kerf ..
  · split
    · exact writeChanged_kerf ..
    · rfl

/-! ### The lines and translations of a core -/

@[simp] theorem l3Evict_kerf (n line : Nat) (d : Dev) : (l3Evict n line d).kerf = d.kerf := by
  unfold l3Evict
  split <;> simp
@[simp] theorem l3Trim_kerf (n : Nat) (d : Dev) : (l3Trim n d).kerf = d.kerf := by simp [l3Trim]
@[simp] theorem l2Drop_kerf (n k line : Nat) (d : Dev) : (l2Drop n k line d).kerf = d.kerf := by
  unfold l2Drop
  dsimp only
  split
  · split
    · rfl
    · rw [l3Trim_kerf, setDieLine_kerf]
      split <;> simp
  · rfl
@[simp] theorem filterEvict_kerf (n line : Nat) (d : Dev) : (filterEvict n line d).kerf = d.kerf := by
  unfold filterEvict
  split <;> simp
@[simp] theorem makeRoom_kerf (n k line : Nat) (fetch : Bool) (d : Dev) : (makeRoom n k line fetch d).kerf = d.kerf := by
  unfold makeRoom
  extract_lets l2 d1 l1 v d2 fl
  have h1 : d1.kerf = d.kerf := by simp [d1]
  have h2 : d2.kerf = d1.kerf := by
    unfold d2
    split
    · split <;> simp
    · rfl
  simp [h2, h1]
@[simp] theorem countMiss_kerf (h : Nat) (fetch l2 l3 : Bool) (d : Dev) : (countMiss h fetch l2 l3 d).kerf = d.kerf := by simp [countMiss]
@[simp] theorem touchCore_kerf (h line : Nat) (fetch : Bool) (d : Dev) : (touchCore h line fetch d).kerf = d.kerf := by
  unfold touchCore
  dsimp only
  split <;> simp
@[simp] theorem markWalked_kerf (h line : Nat) (d : Dev) : (markWalked h line d).kerf = d.kerf := by
  unfold markWalked
  dsimp only
  split <;> simp
@[simp] theorem dropTlb_kerf (h va : Nat) (md : Mode) (d : Dev) : (dropTlb h va md d).kerf = d.kerf := by simp [dropTlb]
@[simp] theorem fillTlb_kerf (h : Nat) (md : Mode) (acc va : Nat) (ent : Option Tlb) (fill : Option WalkAcc) (d : Dev) :
    (fillTlb h md acc va ent fill d).kerf = d.kerf := by
  unfold fillTlb
  split
  · rfl
  · dsimp only
    split <;> simp

/-! ### Accesses of a hart and their traps -/

@[simp] theorem endProtected_kerf (h : Nat) (lines : List Nat) (d : Dev) : (endProtected h lines d).kerf = d.kerf := by simp [endProtected]
@[simp] theorem haltIfDue_kerf (h : Nat) (d : Dev) : (haltIfDue h d).kerf = d.kerf := by simp [haltIfDue]
@[simp] theorem advance_kerf (h n : Nat) (d : Dev) : (advance h n d).kerf = d.kerf := by simp [advance]
@[simp] theorem park_kerf (h : Nat) (w : Waiting) (d : Dev) : (park h w d).kerf = d.kerf := by simp [park]
@[simp] theorem sendReq_kerf (h : Nat) (op : Op) (kind addr size : Nat) (prot : Bool) (data : Line) (d : Dev) :
    (sendReq h op kind addr size prot data d).kerf = d.kerf := by
  simp [sendReq]
@[simp] theorem walkMiss_kerf (h : Nat) (w : Waiting) (line : Nat) (read : List Nat) (d : Dev) : (walkMiss h w line read d).kerf = d.kerf := by
  simp [walkMiss]
@[simp] theorem mcWrite_kerf (e : McEvent) (d : Dev) : (mcWrite e d).kerf = d.kerf := by simp [mcWrite]
@[simp] theorem takeTrap_kerf (h cause : Nat) (irq : Bool) (tval tval2 : Nat) (d : Dev) : (takeTrap h cause irq tval tval2 d).kerf = d.kerf := by
  simp [takeTrap]
@[simp] theorem raiseTr_kerf (h : Nat) (md : Mode) (acc va : Nat) (t : Tr) (d : Dev) : (raiseTr h md acc va t d).kerf = d.kerf := by
  unfold raiseTr
  split
  · split <;> simp
  · simp
  · rfl
@[simp] theorem stopped_kerf (h : Nat) (w : Waiting) (md : Mode) (acc : Nat) (t : Tr) (va : Nat) (d : Dev) : (stopped h w md acc t va d).kerf = d.kerf := by
  unfold stopped
  split <;> simp
@[simp] theorem parkOn_kerf (h : Nat) (op : MemOp) (line : Nat) (d : Dev) : (parkOn h op line d).kerf = d.kerf := by simp [parkOn]
theorem gatherLines_kerf {h : Nat} {op : MemOp} {excl : Bool} {rd : Op} {kind : Nat} {d : Dev} {ps : List (Nat × Nat × Nat)} {d' : Dev}
    (hg : gatherLines h op excl rd kind d ps = some d') : d'.kerf = d.kerf := by
  induction ps with
  | nil => simp [gatherLines] at hg
  | cons p r ih =>
    simp only [gatherLines] at hg
    split at hg
    · exact ih hg
    · obtain rfl := Option.some.inj hg
      rw [parkOn_kerf]
      split
      · exact sendReq_kerf ..
      · rfl
@[simp] theorem machineCheckAt_kerf (h va : Nat) (line : Option Nat) (d : Dev) : (machineCheckAt h va line d).kerf = d.kerf := by simp [machineCheckAt]
@[simp] theorem machineCheck_kerf (h va line : Nat) (d : Dev) : (machineCheck h va line d).kerf = d.kerf := by simp [machineCheck]
@[simp] theorem touchParts_kerf (h : Nat) (fetch : Bool) (ps : List (Nat × Nat × Nat)) (d : Dev) : (touchParts h fetch ps d).kerf = d.kerf := by
  simp [touchParts]
@[simp] theorem ncAccess_kerf (h : Nat) (op : MemOp) (write : Bool) (va size : Nat) (ps : List (Nat × Nat × Nat)) (deps : List Tlb) (val : Nat) (d : Dev) :
    (ncAccess h op write va size ps deps val d).kerf = d.kerf := by
  unfold ncAccess
  split <;> simp
@[simp] theorem noteDirty_kerf (n line : Nat) (d : Dev) : (noteDirty n line d).kerf = d.kerf := by simp [noteDirty]
@[simp] theorem storeLine_kerf (h line off : Nat) (bs : List Byte) (d : Dev) : (storeLine h line off bs d).kerf = d.kerf := by
  unfold storeLine
  dsimp only
  split <;> simp
@[simp] theorem storeParts_kerf (h : Nat) (bs : List Byte) (ps : List (Nat × Nat × Nat)) (d : Dev) : (storeParts h bs ps d).kerf = d.kerf := by
  simp [storeParts]
@[simp] theorem clearResv_kerf (h : Nat) (d : Dev) : (clearResv h d).kerf = d.kerf := by
  unfold clearResv
  split <;> simp
/-- An access goes on with what it does once the die holds its lines, or with the requests it sent for them. -/
theorem gathered_kerf {h : Nat} {op : MemOp} {excl : Bool} {rd : Op} {kind : Nat} {d e : Dev} {ps : List (Nat × Nat × Nat)} (he : e.kerf = d.kerf) :
    (match gatherLines h op excl rd kind d ps with | some d' => d' | none => e).kerf = d.kerf := by
  split
  · exact gatherLines_kerf ‹_›
  · exact he
/-- An attempt at an access is a translation, then the lines, then the access itself; no step of it is the kerf's. -/
@[simp] theorem attempt_kerf (h : Nat) (w : Waiting) (d : Dev) : (attempt h w d).kerf = d.kerf := by
  unfold attempt
  extract_lets d1 again d2 w1 w2 x n op prot fill ents md mk
  have h1 : d2.kerf = d.kerf := by simp [d2, d1]
  have hfill (md : Mode) (acc : Nat) (fs : List PartTr) (d : Dev) : (fill md acc fs d).kerf = d.kerf := by simp [fill]
  refine Eq.trans ?_ h1
  clear_value mk md ents fill prot op n x w2 d2
  split
  case h_1 => simp
  case h_2 va size dst signed len =>
    extract_lets +onlyGivenNames md acc
    split
    · exact stopped_kerf ..
    · extract_lets +onlyGivenNames d3
      refine Eq.trans ?_ (hfill .. : d3.kerf = d2.kerf)
      split
      · refine gathered_kerf ?_
        split <;> simp
      · exact ncAccess_kerf ..
  case h_3 va size val len =>
    split
    · exact stopped_kerf ..
    · extract_lets +onlyGivenNames d3
      refine Eq.trans ?_ (hfill .. : d3.kerf = d2.kerf)
      split
      · refine gathered_kerf ?_
        split <;> simp
      · exact ncAccess_kerf ..
  case h_4 va size aop val expected rd =>
    split
    · exact takeTrap_kerf ..
    split
    · exact stopped_kerf ..
    · extract_lets +onlyGivenNames d3
      refine Eq.trans ?_ (hfill .. : d3.kerf = d2.kerf)
      split
      · exact takeTrap_kerf ..
      · refine gathered_kerf ?_
        split <;> simp
  case h_5 va size rd =>
    split
    · exact takeTrap_kerf ..
    split
    · exact stopped_kerf ..
    · extract_lets +onlyGivenNames d3
      refine Eq.trans ?_ ((clearResv_kerf ..).trans (hfill ..) : d3.kerf = d2.kerf)
      split
      · exact takeTrap_kerf ..
      · refine gathered_kerf ?_
        split <;> simp
  case h_6 va size val rd =>
    split
    · exact takeTrap_kerf ..
    split
    · exact stopped_kerf ..
    · extract_lets +onlyGivenNames d3 pa good
      refine Eq.trans ?_ (hfill .. : d3.kerf = d2.kerf)
      split
      · exact gathered_kerf (by simp)
      · simp [d3]
  case h_7 va cop =>
    extract_lets +onlyGivenNames acc line
    split
    · extract_lets +onlyGivenNames d3
      refine Eq.trans ?_ (hfill .. : d3.kerf = d2.kerf)
      split
      · split <;> simp [d3]
      split
      · split
        · rw [advance_kerf]
          split <;> simp [d3]
        · exact parkOn_kerf ..
        · simp [d3]
      · simp [d3]
    · simp
    · exact stopped_kerf ..
  case h_8 va rd =>
    split
    · simp [hfill]
    · exact stopped_kerf ..

/-! ### The mirror's steps and the re-check -/

@[simp] theorem retryHart_kerf (h : Nat) (d : Dev) : (retryHart h d).kerf = d.kerf := by
  unfold retryHart
  split <;> simp
@[simp] theorem reissue_kerf (ms : List FMsg) (d : Dev) : (reissue ms d).kerf = d.kerf := by simp [reissue]
@[simp] theorem cleanDie_kerf (n : Nat) (d : Dev) : (cleanDie n d).kerf = d.kerf := by
  rw [cleanDie, updDie_kerf, foldl_kerf (fun d l => ?_), foldl_kerf (fun d e => memWrite_kerf ..)]
  split
  · simp
  · rfl
@[simp] theorem mirrorStep1_kerf (k : Nat) (d : Dev) : (mirrorStep1 k d).kerf = d.kerf := by simp [mirrorStep1]
@[simp] theorem recordFit_kerf (si ss : Nat) (trig : Nat × Nat) (atKerf : Bool) (f : Fit) (d : Dev) : (recordFit si ss trig atKerf f d).kerf = d.kerf := by
  simp [recordFit]
@[simp] theorem setPend_kerf (st : Nat × Nat) (b : Bool) (d : Dev) : (setPend st b d).kerf = d.kerf := by simp [setPend]
@[simp] theorem recheck_kerf (p : PartnerObs) (k : Nat × Nat) (d : Dev) : (recheck p k d).kerf = d.kerf := by
  unfold recheck
  split <;> simp
@[simp] theorem mirrorSeal_kerf (k : Nat) (d : Dev) : (mirrorSeal k d).kerf = d.kerf := by simp [mirrorSeal]
@[simp] theorem pairedEntry_kerf (idx sub : Nat) (v : List Byte) (d : Dev) : (pairedEntry idx sub v d).kerf = d.kerf := by simp [pairedEntry]
@[simp] theorem sendPaired_kerf (d : Dev) : (sendPaired d).kerf = d.kerf := by
  refine foldl_kerf (fun d e => ?_) _ _
  dsimp only
  split
  · simp
  · rfl
@[simp] theorem mirrorSteps_kerf (o : KerfObs) (d : Dev) : (mirrorSteps o d).kerf = d.kerf := by simp [mirrorSteps]

/-! ### What a swapped value sets in motion -/

@[simp] theorem mscSwap_kerf (n v : Nat) (d : Dev) : (mscSwap n v d).kerf = d.kerf := by simp [mscSwap]
@[simp] theorem btuKill_kerf (b : Nat) (p : BtuEnt → Bool) (d : Dev) : (btuKill b p d).kerf = d.kerf := by simp [btuKill]
@[simp] theorem potStore_kerf (page v : Nat) (d : Dev) : (potStore page v d).kerf = d.kerf := by simp [potStore]
@[simp] theorem zeroPage_kerf (page : Nat) (d : Dev) : (zeroPage page d).kerf = d.kerf := by simp [zeroPage]
@[simp] theorem changePage_kerf (v : Nat) (zero : Bool) (page : Nat) (d : Dev) : (changePage v zero page d).kerf = d.kerf := by simp [changePage]
@[simp] theorem keyStore_kerf (b : Nat) (d : Dev) : (keyStore b d).kerf = d.kerf := by simp [keyStore]
@[simp] theorem benchOn_kerf (b : Nat) (d : Dev) : (benchOn b d).kerf = d.kerf := by simp [benchOn]
@[simp] theorem microcodeSwap_kerf (b version : Nat) (d : Dev) : (microcodeSwap b version d).kerf = d.kerf := by simp [microcodeSwap]
@[simp] theorem enableSite_kerf (s : Nat) (d : Dev) : (enableSite s d).kerf = d.kerf := by simp [enableSite]
@[simp] theorem purgeTranslations_kerf (d : Dev) : (purgeTranslations d).kerf = d.kerf := by simp [purgeTranslations]
@[simp] theorem sendKeys_kerf (d : Dev) : (sendKeys d).kerf = d.kerf := by simp [sendKeys]
@[simp] theorem startForming_kerf (d : Dev) : (startForming d).kerf = d.kerf := by simp [startForming]
@[simp] theorem mirrorOn_kerf (p : PartnerObs) (d : Dev) : (mirrorOn p d).kerf = d.kerf := by simp [mirrorOn]
@[simp] theorem ackWrite_kerf (req : Option FMsg) (d : Dev) : (ackWrite req d).kerf = d.kerf := by
  unfold ackWrite
  split <;> simp
@[simp] theorem clampAccept_kerf (h : Held) (req : Option FMsg) (d : Dev) : (clampAccept h req d).kerf = d.kerf := by simp [clampAccept]
@[simp] theorem place_kerf (h : Held) (req : Option FMsg) (d : Dev) : (place h req d).kerf = d.kerf := by simp [place]
@[simp] theorem unstall_kerf (d : Dev) : (unstall d).kerf = d.kerf := by simp [unstall]
@[simp] theorem serveRead_kerf (m : FMsg) (d : Dev) : (serveRead m d).kerf = d.kerf := by simp [serveRead]
@[simp] theorem clampRelease_kerf (p : Held → Bool) (d : Dev) : (clampRelease p d).kerf = d.kerf := by simp [clampRelease]
@[simp] theorem mirrorOff_kerf (d : Dev) : (mirrorOff d).kerf = d.kerf := by simp [mirrorOff]
@[simp] theorem wqDrain_kerf (k : Nat) (d : Dev) : (wqDrain k d).kerf = d.kerf := by simp [wqDrain]
@[simp] theorem closeAll_kerf (n : Nat) (d : Dev) : (closeAll n d).kerf = d.kerf := by simp [closeAll]
@[simp] theorem settleChan_kerf (n : Nat) (d : Dev) : (settleChan n d).kerf = d.kerf := by simp [settleChan]
@[simp] theorem startSwitch_kerf (n slot : Nat) (d : Dev) : (startSwitch n slot d).kerf = d.kerf := by simp [startSwitch]
@[simp] theorem swapEffect_kerf (p : PartnerObs) (old : Dev) (idx sub : Nat) (v : Val) (d : Dev) : (swapEffect p old idx sub v d).kerf = d.kerf := by
  unfold swapEffect
  dsimp only
  split <;> split <;> simp
@[simp] theorem countHolds_kerf (stg : Tab (Option Val)) (d : Dev) : (countHolds stg d).kerf = d.kerf := by simp [countHolds]

/-! ### The swap -/

@[simp] theorem swapValues_kerf (p : PartnerObs) (d : Dev) : (swapValues p d).kerf = d.kerf := by
  rw [swapValues, foldl_kerf (fun d e => ?_)]
  · simp
  · split <;> simp
@[simp] theorem takePaired_kerf (d : Dev) : (takePaired d).kerf = d.kerf := by simp [takePaired]
@[simp] theorem benchStops_kerf (b : Nat) (d : Dev) : (benchStops b d).kerf = d.kerf := by simp [benchStops]
@[simp] theorem refillDie_kerf (n : Nat) (d : Dev) : (refillDie n d).kerf = d.kerf := by simp [refillDie]
@[simp] theorem evictToBuffer_kerf (n line : Nat) (d : Dev) : (evictToBuffer n line d).kerf = d.kerf := by
  unfold evictToBuffer
  split <;> simp
@[simp] theorem drainLines_kerf (n : Nat) (d : Dev) : (drainLines n d).kerf = d.kerf := by
  refine foldl_kerf (fun d e => ?_) _ _
  split <;> simp
@[simp] theorem startWithdraw_kerf (n : Nat) (reset : Bool) (d : Dev) : (startWithdraw n reset d).kerf = d.kerf := by simp [startWithdraw]
@[simp] theorem dieWithdraws_kerf (n : Nat) (d : Dev) : (dieWithdraws n d).kerf = d.kerf := by simp [dieWithdraws]
@[simp] theorem tryFold_kerf (n : Nat) (d : Dev) : (tryFold n d).kerf = d.kerf := by simp [tryFold]
@[simp] theorem takeOffline_kerf (h : Nat) (d : Dev) : (takeOffline h d).kerf = d.kerf := by simp [takeOffline]
@[simp] theorem stopRetiring_kerf (h : Nat) (d : Dev) : (stopRetiring h d).kerf = d.kerf := by simp [stopRetiring]
@[simp] theorem emptyCore_kerf (h : Nat) (d : Dev) : (emptyCore h d).kerf = d.kerf := by simp [emptyCore]
@[simp] theorem moveToSpare_kerf (h : Nat) (d : Dev) : (moveToSpare h d).kerf = d.kerf := by simp [moveToSpare]
@[simp] theorem swap_kerf (p : PartnerObs) (d : Dev) : (swap p d).kerf = d.kerf := by simp [swap]

/-! ### The plan -/

@[simp] theorem closeEpoch_kerf (tLast : Nat) (d : Dev) : (closeEpoch tLast d).kerf = d.kerf := by simp [closeEpoch]
@[simp] theorem setMv_kerf (a mv : Nat) (d : Dev) : (setMv a mv d).kerf = d.kerf := by simp [setMv]
@[simp] theorem applyMv_kerf (d : Dev) : (applyMv d).kerf = d.kerf := by simp [applyMv]
@[simp] theorem plan_kerf (first : Bool) (t : Nat) (tLast : Nat) (obs : Nat → CoreObs) (tjHub : Nat) (deferred : Nat → Nat) (d : Dev) :
    (plan first t tLast obs tjHub deferred d).kerf = d.kerf := by
  simp [plan]
@[simp] theorem updJob_kerf (b id : Nat) (g : Job → Job) (d : Dev) : (updJob b id g d).kerf = d.kerf := by simp [updJob]
@[simp] theorem admitDeferred_kerf (b : Nat) (d : Dev) : (admitDeferred b d).kerf = d.kerf := by simp [admitDeferred]

/-! ### The Gauge and the snapshots -/

@[simp] theorem gaugeLost_kerf (d : Dev) : (gaugeLost d).kerf = d.kerf := by simp [gaugeLost]
@[simp] theorem gaugeClose_kerf (part : Bool) (kerfLast : Nat) (d : Dev) : (gaugeClose part kerfLast d).kerf = d.kerf := by simp [gaugeClose]
@[simp] theorem gaugeOpen_kerf (kind kerf : Nat) (d : Dev) : (gaugeOpen kind kerf d).kerf = d.kerf := by simp [gaugeOpen]
@[simp] theorem gaugeKerf_kerf (d : Dev) : (gaugeKerf d).kerf = d.kerf := by simp [gaugeKerf]
@[simp] theorem gaugeStep_kerf (o : KerfObs) (d : Dev) : (gaugeStep o d).kerf = d.kerf := by simp [gaugeStep]
@[simp] theorem snapBank_kerf (bank : Nat) (d : Dev) : (snapBank bank d).kerf = d.kerf := by simp [snapBank]
@[simp] theorem snapshots_kerf (d : Dev) : (snapshots d).kerf = d.kerf := by simp [snapshots]

end Sys2Proof.Proofs
end

section
/-!
PROOFS (O38). The cut and its sequence (R33–R36, R415), the messages queued meanwhile, and KERF_WAIT (R47).
-/

namespace Sys2Proof.Proofs

open Sys2Proof.Machine

/-! ### What the steps do to the kerf's record -/

/-- The cut advances the counter, counts the overrun its observation reports and notes its instant. -/
def cutRecord (o : KerfObs) (d : Dev) : KerfSt :=
  { d.kerf with counter := d.kerf.counter + 1, overruns := d.kerf.overruns + b2n o.overrun, cutAt := d.now }

theorem cut_kerf (o : KerfObs) (d : Dev) : (cut o d).kerf = cutRecord o d := by simp [cut, cutRecord]

theorem cut_counter (o : KerfObs) (d : Dev) : (cut o d).kerf.counter = d.kerf.counter + 1 := by
  rw [cut_kerf]
  rfl

theorem planStep_kerf (o : KerfObs) (d : Dev) : (planStep o d).kerf = { d.kerf with epochUs := max 1 (ent d 0x2000 1 - o.late) } := by
  simp [planStep]

theorem snapshots_snapKerf (d : Dev) : (snapshots d).obs.snapKerf = d.kerf.counter := by simp [snapshots]

/-- Steps 1 to 6. -/
def stepsToSix (o : KerfObs) (d : Dev) : Dev := snapshots (gaugeStep o (planStep o (swap o.partner (mirrorSteps o d))))

theorem afterCut_eq (o : KerfObs) (d : Dev) : afterCut o d = runHeld (stepSeven o (stepsToSix o d)) := rfl

/-- Of the kerf's record steps 1 to 6 set the length of the epoch alone. -/
theorem stepsToSix_kerf (o : KerfObs) (d : Dev) : ∃ t, (stepsToSix o d).kerf = { d.kerf with epochUs := t } := by
  refine ⟨max 1 (ent (swap o.partner (mirrorSteps o d)) 0x2000 1 - o.late), ?_⟩
  rw [stepsToSix, snapshots_kerf, gaugeStep_kerf, planStep_kerf, swap_kerf, mirrorSteps_kerf]

theorem stepsToSix_snapKerf (o : KerfObs) (d : Dev) : (stepsToSix o d).obs.snapKerf = (stepsToSix o d).kerf.counter := by
  simp [stepsToSix, snapshots_snapKerf]

/-! ### KERF_CUT -/

theorem exec_kerfCut (o : KerfObs) (s : State) : exec (.kerfCut o) s = .next { s with dev := kerfCut o s.dev } := rfl

/-- A cut sequence waits in step 1, or goes on. -/
def goesOrWaits (o : KerfObs) (c : Dev) : Dev := if step1Waits c then { c with kerf := { c.kerf with step1 := some o } } else afterCut o c

theorem kerfCut_eq (o : KerfObs) (d : Dev) :
    kerfCut o d = if d.boot.phase ≠ .released ∨ awaitsEdge d = true then d
      else if sealWaits d || d.kerf.step1.isSome then { d with kerf := { d.kerf with overruns := d.kerf.overruns + 1 } }
      else goesOrWaits o (mirrorKerfRec (cut o d).kerf.counter (cut o d)) := rfl

theorem kerfCut_awaits {o : KerfObs} {d : Dev} (h : d.boot.phase ≠ .released ∨ awaitsEdge d = true) : kerfCut o d = d := if_pos h

section cuts
variable {o : KerfObs} {d : Dev} (hrel : d.boot.phase = .released) (hedge : awaitsEdge d = false)
include hrel hedge

theorem kerfCut_overruns (h : sealWaits d = true ∨ d.kerf.step1.isSome = true) :
    kerfCut o d = { d with kerf := { d.kerf with overruns := d.kerf.overruns + 1 } } := by
  simp [kerfCut, hrel, hedge, h]

theorem kerfCut_cuts (hseal : sealWaits d = false) (hstep1 : d.kerf.step1 = none) :
    kerfCut o d = goesOrWaits o (mirrorKerfRec (d.kerf.counter + 1) (cut o d)) := by
  have hserves : ¬(d.boot.phase ≠ .released ∨ awaitsEdge d = true) := by simp [hrel, hedge]
  have hfree : ¬(sealWaits d || d.kerf.step1.isSome) = true := by simp [hseal, hstep1]
  rw [kerfCut_eq, if_neg hserves, if_neg hfree, cut_counter]

end cuts

/-- The counter has advanced by one, and the instant of the cut is kept. -/
def Advanced (o : KerfObs) (d d' : Dev) : Prop :=
  d'.kerf.counter = d.kerf.counter + 1 ∧ d'.kerf.overruns = d.kerf.overruns + b2n o.overrun ∧ d'.kerf.cutAt = d.now

/-- The sequence of a cut has reached its step 7, and the snapshot bears the new kerf. -/
def Sequenced (o : KerfObs) (d d' : Dev) : Prop :=
  Advanced o d d' ∧ d'.kerf.lastSeq = d'.kerf.counter ∧ d'.kerf.seqEnd = d'.now ∧
    d'.kerf.seqMax = max d.kerf.seqMax (o.seqNs % 2 ^ 32) ∧ d'.obs.snapKerf = d'.kerf.counter

theorem stepSeven_sequenced {o : KerfObs} {d e : Dev} {t : Nat} (hk : e.kerf = { cutRecord o d with epochUs := t }) (hsnap : e.obs.snapKerf = e.kerf.counter) :
    Sequenced o d (stepSeven o e) := by
  refine ⟨⟨?_, ?_, ?_⟩, rfl, rfl, ?_, hsnap⟩ <;> simp [stepSeven, hk, cutRecord]

theorem stepsToSeven_sequenced {o : KerfObs} {d c : Dev} (hc : c.kerf = cutRecord o d) : Sequenced o d (stepSeven o (stepsToSix o c)) := by
  obtain ⟨t, hk⟩ := stepsToSix_kerf o c
  exact stepSeven_sequenced (hc ▸ hk) (stepsToSix_snapKerf o c)

/-- The sequence runs to its step 7, or the cut waits in step 1. -/
theorem kerfCut_advances {o : KerfObs} {s : State} (hrel : s.dev.boot.phase = .released) (hedge : awaitsEdge s.dev = false) (hseal : sealWaits s.dev = false)
    (hstep1 : s.dev.kerf.step1 = none) :
    let c := mirrorKerfRec (s.dev.kerf.counter + 1) (cut o s.dev)
    (step1Waits c = false → ∃ d, exec (.kerfCut o) s = .next { s with dev := runHeld d } ∧ Sequenced o s.dev d) ∧
    (step1Waits c = true → ∃ d, exec (.kerfCut o) s = .next { s with dev := d } ∧ Advanced o s.dev d ∧ d.kerf.step1 = some o ∧
      d.kerf.lastSeq = s.dev.kerf.lastSeq) := by
  have hcut := kerfCut_cuts (o := o) hrel hedge hseal hstep1
  have hc : (mirrorKerfRec (s.dev.kerf.counter + 1) (cut o s.dev)).kerf = cutRecord o s.dev := (mirrorKerfRec_kerf ..).trans (cut_kerf ..)
  generalize mirrorKerfRec (s.dev.kerf.counter + 1) (cut o s.dev) = c at hcut hc
  refine ⟨fun hgoes => ⟨stepSeven o (stepsToSix o c), ?_, stepsToSeven_sequenced hc⟩, fun hwaits => ⟨{ c with kerf := { c.kerf with step1 := some o } }, ?_, ?_, rfl, ?_⟩⟩
  · rw [exec_kerfCut, hcut, goesOrWaits, if_neg (by simp [hgoes]), afterCut_eq]
  · rw [exec_kerfCut, hcut, goesOrWaits, if_pos hwaits]
  · simp [Advanced, hc, cutRecord]
  · simp [hc, cutRecord]

/-! ### A list message while a sequence waits in step 1 (R36) -/

theorem listJob_queues {d : Dev} (h : d.kerf.step1.isSome = true) (j : ListJob) : listJob j d = { d with list := { d.list with held := d.list.held ++ [j] } } :=
  if_pos h

/-! ### KERF_WAIT -/

section waits
variable {d : Dev} {m : ListMsg} {n : Nat} {x : Session} (hlen : m.body.length = 8)
include hlen

theorem kerfWait_second (h : x.parked.isSome = true) : kerfWait m n x d = emit (listAnswer d m 0x89 abWaitBusy []) d := by
  simp only [kerfWait, hlen, h]
  exact reply_bare ..

theorem kerfWait_tooFar (hp : x.parked = none) (h : d.kerf.counter + 10000 < leNat m.body) : kerfWait m n x d = emit (listAnswer d m 0x89 abRange []) d := by
  simp only [kerfWait, hlen, hp, h]
  exact reply_bare ..

section inRange
variable (hp : x.parked = none) (hnear : leNat m.body ≤ d.kerf.counter + 10000)
include hp hnear

theorem kerfWait_completed (h : leNat m.body ≤ d.kerf.lastSeq) : kerfWait m n x d = emit (listAnswer d m 0x89 abOk (leBytes 8 d.kerf.counter)) d := by
  simp only [kerfWait, hlen, hp, Nat.not_lt.2 hnear, h]
  exact reply_answer ..

theorem kerfWait_parks (h : d.kerf.lastSeq < leNat m.body) : kerfWait m n x d = withSess n (fun x => { x with parked := some (m.tag, leNat m.body) }) d := by
  simp only [kerfWait, hlen, hp, Nat.not_lt.2 hnear, Nat.not_le.2 h]
  rfl

end inRange

end waits

theorem kerfWaitResponse_answers {d : Dev} {n : Nat} {x : Session} {tag target : Nat} (hx : sessOf d n = some x) (hp : x.parked = some (tag, target))
    (h : target ≤ d.kerf.lastSeq) :
    kerfWaitResponse n d = emit (.listResp d.fuses.vendorId (some n) 0x89 tag abOk (leBytes 8 d.kerf.counter)) (withSess n (fun x => { x with parked := none }) d) := by
  simp only [kerfWaitResponse, hx, hp, if_pos h]

theorem exec_kerfWait {s : State} {m : ListMsg} {n : SessN} {x : Session} (hin : ListMsgIn s.dev m n x) :
    exec (.kerfWait m) s = .next { s with dev := kerfWait m n x s.dev } := exec_listMsgIn hin rfl rfl

/-- Each of the nine list messages is a job of the list. -/
theorem exec_of_listJob {i : Instr} {m : ListMsg} {p : PartnerObs} {u : UcieObs} {j : ListJob}
    (hij : (i = .read m ∧ j = .msg 1 m noPartner noUcie) ∨ (i = .write m p u ∧ j = .msg 2 m p u) ∨ (i = .domainWriteBegin m ∧ j = .msg 3 m noPartner noUcie) ∨
      (i = .domainWriteSegment m ∧ j = .msg 4 m noPartner noUcie) ∨ (i = .domainWriteEnd m p ∧ j = .msg 5 m p noUcie) ∨
      (i = .domainReadBegin m ∧ j = .msg 6 m noPartner noUcie) ∨ (i = .domainReadSegment m ∧ j = .msg 7 m noPartner noUcie) ∨
      (i = .transferCancel m ∧ j = .msg 8 m noPartner noUcie) ∨ (i = .kerfWait m ∧ j = .msg 9 m noPartner noUcie)) (s : State) :
    exec i s = .next { s with dev := listJob j s.dev } := by
  rcases hij with ⟨rfl, rfl⟩ | ⟨rfl, rfl⟩ | ⟨rfl, rfl⟩ | ⟨rfl, rfl⟩ | ⟨rfl, rfl⟩ | ⟨rfl, rfl⟩ | ⟨rfl, rfl⟩ | ⟨rfl, rfl⟩ | ⟨rfl, rfl⟩ <;> rfl

theorem exec_kerfWaitResponse (n : SessN) (s : State) : exec (.kerfWaitResponse n) s = .next { s with dev := kerfWaitResponse n s.dev } := rfl

/-- Settles O38: no step of a sequence but the cut, the plan and step 7 writes the kerf's record; the other clauses are the branches of KERF_CUT and KERF_WAIT. -/
theorem kerfCutsAndWaits : Obligations.KerfCutsAndWaits := by
  unfold Obligations.KerfCutsAndWaits
  refine ⟨fun o s => ⟨fun h => ?_, fun hrel hedge => ⟨fun h => ?_, fun hseal hstep1 => ?_⟩, fun hstep1 i m p u j hij => ?_⟩,
    fun m n x s hserved => ⟨fun hin hlen => ⟨fun hp => ?_, fun hp hfar => ?_, fun hp hnear => ⟨fun hdone => ?_, fun hahead => ?_⟩⟩, fun tag target hp hdone => ?_⟩⟩
  · rw [exec_kerfCut, kerfCut_awaits h]
  · rw [exec_kerfCut, kerfCut_overruns hrel hedge h]
  · exact kerfCut_advances hrel hedge hseal hstep1
  · rw [exec_of_listJob hij, listJob_queues hstep1]
  · rw [exec_kerfWait hin, kerfWait_second hlen hp]
  · rw [exec_kerfWait hin, kerfWait_tooFar hlen hp hfar]
  · rw [exec_kerfWait hin, kerfWait_completed hlen hp hnear hdone]
  · refine ⟨_, exec_kerfWait hin, ?_⟩
    rw [kerfWait_parks hlen hp hnear hahead]
    exact ⟨rfl, sessOnly_withSess hserved.2.1 _⟩
  · refine ⟨_, exec_kerfWaitResponse n s, ?_⟩
    rw [kerfWaitResponse_answers hserved.2.1 hp hdone]
    exact ⟨sessOnly_emit_withSess hserved.2.1 _ _, rfl⟩

end Sys2Proof.Proofs
end

section
namespace Sys2Proof.Proofs

open Sys2Proof.Machine

/-! ### What leaves memory alone, one lemma for each function of the model, in the order of its files -/
@[simp] theorem foldl_mem {β : Type} {f : Dev → β → Dev} (h : ∀ d b, (f d b).mem = d.mem) (l : List β) (d : Dev) : (l.foldl f d).mem = d.mem :=
  foldl_keeps Dev.mem f h l d
@[simp] theorem ite_mem (c : Prop) [Decidable c] (a b : Dev) : (if c then a else b).mem = if c then a.mem else b.mem := apply_ite Dev.mem c a b
@[simp] theorem foldr_mem {β : Type} {f : β → Dev → Dev} (h : ∀ b d, (f b d).mem = d.mem) (l : List β) (d : Dev) : (l.foldr f d).mem = d.mem := by
  induction l with
  | nil => rfl
  | cons b l ih => rw [List.foldr_cons, h, ih]

/-! #### Shared operations -/

@[simp] theorem emitAll_mem (os : List Out) (d : Dev) : (emitAll os d).mem = d.mem := by rfl
@[simp] theorem countHartN_mem (h c n : Nat) (d : Dev) : (countHartN h c n d).mem = d.mem := by
  unfold countHartN
  split <;> simp
@[simp] theorem countHart_mem (h c : Nat) (d : Dev) : (countHart h c d).mem = d.mem := by simp [countHart]
@[simp] theorem mcWrite_mem (e : McEvent) (d : Dev) : (mcWrite e d).mem = d.mem := by simp [mcWrite]
@[simp] theorem sampleStop_mem (h code : Nat) (d : Dev) : (sampleStop h code d).mem = d.mem := by rfl

/-! #### The Dowel -/

@[simp] theorem sendDowel_mem (typ : Nat) (body : List Byte) (d : Dev) : (sendDowel typ body d).mem = d.mem := by rfl
@[simp] theorem mirrorLine_mem (line : Nat) (data : Line) (poison : Bool) (d : Dev) :
    (mirrorLine line data poison d).mem = d.mem := by simp [mirrorLine]

/-! #### Memory -/

@[simp] theorem wqMark_mem (k : Nat) (d : Dev) : (wqMark k d).mem = d.mem := by simp [wqMark]
@[simp] theorem mscPut_mem (line : Nat) (e : Option MscLine) (d : Dev) : (mscPut line e d).mem = d.mem := by rfl
@[simp] theorem evbFree_mem (line : Nat) (d : Dev) : (evbFree line d).mem = d.mem := by rfl

/-! #### The cache of a die -/

@[simp] theorem updBundle_mem (n : Nat) (up : Bool) (f : Bundle → Bundle) (d : Dev) : (updBundle n up f d).mem = d.mem := by rfl
@[simp] theorem drainBundle_mem (n : Nat) (up : Bool) (d : Dev) : (drainBundle n up d).mem = d.mem := by simp [drainBundle]
@[simp] theorem sendWake_mem (n : Nat) (d : Dev) : (sendWake n d).mem = d.mem := by simp [sendWake]
@[simp] theorem send_mem (up : Bool) (m : FMsg) (d : Dev) : (send up m d).mem = d.mem := by simp [send]
@[simp] theorem wbRelease_mem (n line : Nat) (d : Dev) : (wbRelease n line d).mem = d.mem := by
  unfold wbRelease
  split <;> simp
@[simp] theorem killCore_mem (h line : Nat) (d : Dev) : (killCore h line d).mem = d.mem := by simp [killCore]
@[simp] theorem killLine_mem (n line : Nat) (d : Dev) : (killLine n line d).mem = d.mem := by simp [killLine]
@[simp] theorem loseResv_mem (n line : Nat) (but : Option Nat) (d : Dev) : (loseResv n line but d).mem = d.mem := by
  refine foldl_mem (fun d h => ?_) _ _
  split
  · simp
  · rfl
@[simp] theorem dropDieLine_mem (n line : Nat) (d : Dev) : (dropDieLine n line d).mem = d.mem := by
  unfold dropDieLine
  split <;> simp
@[simp] theorem l3Evict_mem (n line : Nat) (d : Dev) : (l3Evict n line d).mem = d.mem := by
  unfold l3Evict
  split <;> simp
@[simp] theorem l3Trim_mem (n : Nat) (d : Dev) : (l3Trim n d).mem = d.mem := by simp [l3Trim]
@[simp] theorem l2Drop_mem (n k line : Nat) (d : Dev) : (l2Drop n k line d).mem = d.mem := by
  unfold l2Drop
  dsimp only
  (repeat' split) <;> simp
@[simp] theorem filterEvict_mem (n line : Nat) (d : Dev) : (filterEvict n line d).mem = d.mem := by
  unfold filterEvict
  split <;> simp
@[simp] theorem makeRoom_mem (n k line : Nat) (fetch : Bool) (d : Dev) : (makeRoom n k line fetch d).mem = d.mem := by
  unfold makeRoom
  extract_lets l2 d1 l1 v d2 fl
  have h1 : d1.mem = d.mem := by simp [d1]
  have h2 : d2.mem = d1.mem := by
    unfold d2
    split
    · split <;> simp
    · rfl
  simp [h2, h1]
@[simp] theorem countMiss_mem (h : Nat) (fetch l2 l3 : Bool) (d : Dev) : (countMiss h fetch l2 l3 d).mem = d.mem := by simp [countMiss]
@[simp] theorem touchCore_mem (h line : Nat) (fetch : Bool) (d : Dev) : (touchCore h line fetch d).mem = d.mem := by
  unfold touchCore
  dsimp only
  split <;> simp
@[simp] theorem linkWakes_mem (n : Nat) (d : Dev) : (linkWakes n d).mem = d.mem := by simp [linkWakes]
@[simp] theorem wakeForSnoop_mem (n : Nat) (needs : Nat → Bool) (d : Dev) : (wakeForSnoop n needs d).mem = d.mem := by simp [wakeForSnoop]

/-! #### The fabric: messages, trackers and the directory -/

@[simp] theorem killDone_mem (n txid line : Nat) (d : Dev) : (killDone n txid line d).mem = d.mem := by simp [killDone]
@[simp] theorem answerAck_mem (n : Nat) (m : FMsg) (op : Op) (held dirty kp : Bool) (d : Dev) : (answerAck n m op held dirty kp d).mem = d.mem := by
  simp [answerAck]
@[simp] theorem answerData_mem (n : Nat) (m : FMsg) (data : Line) (poison dirty kp : Bool) (d : Dev) :
    (answerData n m data poison dirty kp d).mem = d.mem := by
  simp [answerData]
@[simp] theorem forgetDie_mem (n line : Nat) (d : Dev) : (forgetDie n line d).mem = d.mem := by
  unfold forgetDie
  split <;> simp
@[simp] theorem setHeldState_mem (n line : Nat) (st : Moesi) (d : Dev) : (setHeldState n line st d).mem = d.mem := by
  unfold setHeldState
  dsimp only
  split <;> simp
@[simp] theorem ownerData_mem (n : Nat) (op : Op) (m : FMsg) (x : Line) (poison dirty kp : Bool) (d : Dev) :
    (ownerData n op m x poison dirty kp d).mem = d.mem := by
  simp [ownerData]
@[simp] theorem dieServe_mem (n : Nat) (m : FMsg) (d : Dev) : (dieServe n m d).mem = d.mem := by
  unfold dieServe
  dsimp only
  split <;> simp
@[simp] theorem tagWalks_mem (n line : Nat) (d : Dev) : (tagWalks n line d).mem = d.mem := by simp [tagWalks]
@[simp] theorem serveOrDefer_mem (n : Nat) (m : FMsg) (d : Dev) : (serveOrDefer n m d).mem = d.mem := by
  unfold serveOrDefer
  dsimp only
  split <;> simp
@[simp] theorem dieSnoop_mem (n : Nat) (m : FMsg) (d : Dev) : (dieSnoop n m d).mem = d.mem := by
  unfold dieSnoop; dsimp only; split <;> [rfl; split] <;> simp
@[simp] theorem flushDeferred_mem (n : Nat) (d : Dev) : (flushDeferred n d).mem = d.mem := by simp [flushDeferred]
@[simp] theorem touchWay_mem (line way : Nat) (d : Dev) : (touchWay line way d).mem = d.mem := by rfl
@[simp] theorem putDir_mem (line : Nat) (st : DState) (owner pres bpres : Nat) (d : Dev) : (putDir line st owner pres bpres d).mem = d.mem := by
  unfold putDir
  (repeat' split) <;> simp
@[simp] theorem dropBench_mem (b line : Nat) (d : Dev) : (dropBench b line d).mem = d.mem := by
  unfold dropBench
  dsimp only
  split <;> simp
@[simp] theorem clearBpres_mem (line : Nat) (d : Dev) : (clearBpres line d).mem = d.mem := by
  unfold clearBpres
  split <;> simp
@[simp] theorem dropStale_mem (m : FMsg) (d : Dev) : (dropStale m d).mem = d.mem := by rfl
@[simp] theorem newTrk_mem (sl holder line : Nat) (pool : Bool) (order : Nat) (req : Req) (d : Dev) :
    (newTrk sl holder line pool order req d).mem = d.mem := by
  rfl
@[simp] theorem sendSnoop_mem (op : Op) (txid line reqDie n : Nat) (d : Dev) : (sendSnoop op txid line reqDie n d).mem = d.mem := by simp [sendSnoop]
@[simp] theorem sendSnoops_mem (op : Op) (txid line reqDie : Nat) (ns : List Nat) (d : Dev) : (sendSnoops op txid line reqDie ns d).mem = d.mem := by
  simp [sendSnoops]
@[simp] theorem countFill_mem (txid c : Nat) (d : Dev) : (countFill txid c d).mem = d.mem := by
  unfold countFill
  (repeat' split) <;> simp
@[simp] theorem takeFromReaders_mem (sl line : Nat) (d : Dev) : (takeFromReaders sl line d).mem = d.mem := by rfl
@[simp] theorem actDie_mem (sl : Nat) (t : Trk) (m : FMsg) (d : Dev) : (actDie sl t m d).mem = d.mem := by
  unfold actDie
  dsimp only
  (repeat' split) <;> simp
@[simp] theorem actAgent_mem (sl : Nat) (t : Trk) (op : AgentOp) (d : Dev) : (actAgent sl t op d).mem = d.mem := by
  unfold actAgent
  split <;> simp
@[simp] theorem takeLine_mem (line : Nat) (d : Dev) : (takeLine line d).mem = d.mem := by simp [takeLine]

/-! #### Harts: traps, counters and the program counter -/

@[simp] theorem haltIfDue_mem (h : Nat) (d : Dev) : (haltIfDue h d).mem = d.mem := by simp [haltIfDue]
@[simp] theorem advance_mem (h n : Nat) (d : Dev) : (advance h n d).mem = d.mem := by simp [advance]
@[simp] theorem asyncExit_mem (h : Nat) (d : Dev) : (asyncExit h d).mem = d.mem := by
  unfold asyncExit
  dsimp only
  split <;> simp
@[simp] theorem takeTrap_mem (h cause : Nat) (irq : Bool) (tval tval2 : Nat) (d : Dev) :
    (takeTrap h cause irq tval tval2 d).mem = d.mem := by simp [takeTrap]
@[simp] theorem trapIllegal_mem (h w : Nat) (d : Dev) : (trapIllegal h w d).mem = d.mem := by simp [trapIllegal]
@[simp] theorem trapVirtual_mem (h w : Nat) (d : Dev) : (trapVirtual h w d).mem = d.mem := by simp [trapVirtual]
@[simp] theorem potRecord_mem (pa : Nat) (d : Dev) : (potRecord pa d).mem = d.mem := by simp [potRecord]

/-! #### Address translation -/

@[simp] theorem markWalked_mem (h line : Nat) (d : Dev) : (markWalked h line d).mem = d.mem := by
  unfold markWalked
  dsimp only
  split <;> simp
@[simp] theorem dropTlb_mem (h va : Nat) (md : Mode) (d : Dev) : (dropTlb h va md d).mem = d.mem := by rfl
@[simp] theorem fillTlb_mem (h : Nat) (md : Mode) (acc va : Nat) (ent : Option Tlb) (fill : Option WalkAcc) (d : Dev) :
    (fillTlb h md acc va ent fill d).mem = d.mem := by
  unfold fillTlb; dsimp only; split <;> [rfl; split] <;> simp
@[simp] theorem raiseTr_mem (h : Nat) (md : Mode) (acc va : Nat) (t : Tr) (d : Dev) : (raiseTr h md acc va t d).mem = d.mem := by
  unfold raiseTr
  (repeat' split) <;> simp

/-! #### Accesses of a hart -/

@[simp] theorem sendReq_mem (h : Nat) (op : Op) (kind addr size : Nat) (prot : Bool) (data : Line) (d : Dev) :
    (sendReq h op kind addr size prot data d).mem = d.mem := by
  simp [sendReq]
@[simp] theorem park_mem (h : Nat) (w : Waiting) (d : Dev) : (park h w d).mem = d.mem := by rfl
@[simp] theorem parkOn_mem (h : Nat) (op : MemOp) (line : Nat) (d : Dev) : (parkOn h op line d).mem = d.mem := by rfl
@[simp] theorem endProtected_mem (h : Nat) (lines : List Nat) (d : Dev) : (endProtected h lines d).mem = d.mem := by simp [endProtected]
@[simp] theorem walkMiss_mem (h : Nat) (w : Waiting) (line : Nat) (read : List Nat) (d : Dev) :
    (walkMiss h w line read d).mem = d.mem := by simp [walkMiss]
@[simp] theorem stopped_mem (h : Nat) (w : Waiting) (md : Mode) (acc : Nat) (t : Tr) (va : Nat) (d : Dev) :
    (stopped h w md acc t va d).mem = d.mem := by
  unfold stopped
  split <;> simp
theorem gatherLines_mem {h : Nat} {op : MemOp} {excl : Bool} {rd : Op} {kind : Nat} {d : Dev} {ps : List (Nat × Nat × Nat)} {d' : Dev}
    (hg : gatherLines h op excl rd kind d ps = some d') : d'.mem = d.mem := by
  induction ps with
  | nil => simp [gatherLines] at hg
  | cons p r ih =>
    simp only [gatherLines] at hg
    split at hg
    · exact ih hg
    · obtain rfl := Option.some.inj hg
      rw [parkOn_mem]
      split
      · exact sendReq_mem ..
      · rfl
@[simp] theorem noteDirty_mem (n line : Nat) (d : Dev) : (noteDirty n line d).mem = d.mem := by simp [noteDirty]
@[simp] theorem storeLine_mem (h line off : Nat) (bs : List Byte) (d : Dev) : (storeLine h line off bs d).mem = d.mem := by
  unfold storeLine
  dsimp only
  split <;> simp
@[simp] theorem touchParts_mem (h : Nat) (fetch : Bool) (ps : List (Nat × Nat × Nat)) (d : Dev) :
    (touchParts h fetch ps d).mem = d.mem := by simp [touchParts]
@[simp] theorem storeParts_mem (h : Nat) (bs : List Byte) (ps : List (Nat × Nat × Nat)) (d : Dev) :
    (storeParts h bs ps d).mem = d.mem := by simp [storeParts]
@[simp] theorem machineCheckAt_mem (h va : Nat) (line : Option Nat) (d : Dev) : (machineCheckAt h va line d).mem = d.mem := by simp [machineCheckAt]
@[simp] theorem machineCheck_mem (h va line : Nat) (d : Dev) : (machineCheck h va line d).mem = d.mem := by simp [machineCheck]
@[simp] theorem clearResv_mem (h : Nat) (d : Dev) : (clearResv h d).mem = d.mem := by
  unfold clearResv
  split <;> simp
@[simp] theorem ncAccess_mem (h : Nat) (op : MemOp) (write : Bool) (va size : Nat) (ps : List (Nat × Nat × Nat)) (deps : List Tlb) (val : Nat)
    (d : Dev) :
    (ncAccess h op write va size ps deps val d).mem = d.mem := by
  unfold ncAccess
  split <;> simp
@[simp] theorem attempt_mem (h : Nat) (w : Waiting) (d : Dev) : (attempt h w d).mem = d.mem := by
  unfold attempt
  extract_lets d1 again d2 w1 w2 x n op prot fill ents md mk
  have h1 : d2.mem = d.mem := by simp [d2, d1]
  have hfill (md : Mode) (acc : Nat) (fs : List PartTr) (d : Dev) : (fill md acc fs d).mem = d.mem := by simp [fill]
  refine Eq.trans ?_ h1
  clear_value mk md ents fill prot op n x w2 d2
  split
  case h_1 => simp
  case h_7 =>
    dsimp only
    (repeat' split) <;> simp [hfill]
  case h_8 =>
    split <;> simp [hfill]
  all_goals
    dsimp only
    (repeat' split) <;> (try rw [gatherLines_mem ‹_›]) <;> simp [hfill]
@[simp] theorem attemptNew_mem (h : Nat) (op : MemOp) (d : Dev) : (attemptNew h op d).mem = d.mem := by simp [attemptNew]
@[simp] theorem retryHart_mem (h : Nat) (d : Dev) : (retryHart h d).mem = d.mem := by
  unfold retryHart
  split <;> simp
@[simp] theorem retryAll_mem (n : Nat) (d : Dev) : (retryAll n d).mem = d.mem := by simp [retryAll]
@[simp] theorem retryLine_mem (n line first : Nat) (d : Dev) : (retryLine n line first d).mem = d.mem := by
  refine foldl_mem (fun d h => ?_) _ _
  split
  · simp
  · rfl
@[simp] theorem settleKills_mem (n : Nat) (d : Dev) : (settleKills n d).mem = d.mem := by
  unfold settleKills
  extract_lets free due d1 d2
  refine (foldl_mem (fun d h => ?_) _ _).trans (by simp [d2, d1] : d2.mem = d.mem)
  dsimp only
  split
  · split <;> simp
  · rfl

/-! #### Requests and replies at the home slice -/

@[simp] theorem openMiss_mem (m : FMsg) (d : Dev) : (openMiss m d).mem = d.mem := by simp [openMiss]
@[simp] theorem returnCredits_mem (n : Nat) (up : Bool) (d : Dev) : (returnCredits n up d).mem = d.mem := by simp [returnCredits]
@[simp] theorem dieForward_mem (op : Op) (m : FMsg) (d : Dev) : (dieForward op m d).mem = d.mem := by simp [dieForward]
@[simp] theorem answered_mem (txid n : Nat) (kp : Bool) (d : Dev) : (answered txid n kp d).mem = d.mem := by rfl
@[simp] theorem evictToBuffer_mem (n line : Nat) (d : Dev) : (evictToBuffer n line d).mem = d.mem := by
  unfold evictToBuffer
  split <;> simp
@[simp] theorem drainLines_mem (n : Nat) (d : Dev) : (drainLines n d).mem = d.mem := by
  refine foldl_mem (fun d e => ?_) _ _
  split <;> simp
@[simp] theorem wbAnswer_mem (op : Op) (n line : Nat) (d : Dev) : (wbAnswer op n line d).mem = d.mem := by simp [wbAnswer]
@[simp] theorem deviceFault_mem (rp tag pa : Nat) (write : Bool) (d : Dev) : (deviceFault rp tag pa write d).mem = d.mem := by simp [deviceFault]

/-! #### Replies at the die -/

@[simp] theorem updMiss_mem (n rtag : Nat) (f : Miss → Miss) (d : Dev) : (updMiss n rtag f d).mem = d.mem := by rfl
@[simp] theorem dropMiss_mem (n rtag : Nat) (d : Dev) : (dropMiss n rtag d).mem = d.mem := by rfl
@[simp] theorem oweKills_mem (n : Nat) (ms : Miss) (kp : Bool) (d : Dev) : (oweKills n ms kp d).mem = d.mem := by simp [oweKills]
@[simp] theorem finishFill_mem (n : Nat) (ms : Miss) (d : Dev) : (finishFill n ms d).mem = d.mem := by simp [finishFill]
@[simp] theorem fillLine_mem (n : Nat) (ms : Miss) (l : DLine) (d : Dev) : (fillLine n ms l d).mem = d.mem := by simp [fillLine]
@[simp] theorem killWalked_mem (n line : Nat) (d : Dev) : (killWalked n line d).mem = d.mem := by
  unfold killWalked
  split <;> simp
@[simp] theorem dataArrives_mem (op : Op) (m : FMsg) (d : Dev) : (dataArrives op m d).mem = d.mem := by
  unfold dataArrives; dsimp only; split <;> [rfl; split] <;> simp
@[simp] theorem completeOp_mem (n : Nat) (ms : Miss) (len : Nat) (d : Dev) : (completeOp n ms len d).mem = d.mem := by
  unfold completeOp
  dsimp only
  split <;> simp
@[simp] theorem cmpArrives_mem (m : FMsg) (d : Dev) : (cmpArrives m d).mem = d.mem := by
  unfold cmpArrives
  dsimp only
  (repeat' split) <;> simp
@[simp] theorem kdoneArrives_mem (m : FMsg) (d : Dev) : (kdoneArrives m d).mem = d.mem := by
  unfold kdoneArrives
  dsimp only
  split
  · simp
  · rw [foldl_mem (fun d h => ?_)]
    · simp
    · split
      · split <;> simp
      · rfl
@[simp] theorem wbAckArrives_mem (op : Op) (m : FMsg) (d : Dev) : (wbAckArrives op m d).mem = d.mem := by simp [wbAckArrives]
@[simp] theorem dataNcArrives_mem (m : FMsg) (d : Dev) : (dataNcArrives m d).mem = d.mem := by
  unfold dataNcArrives
  dsimp only
  (repeat' split) <;> simp
@[simp] theorem imsicWrite_mem (h file ident : Nat) (d : Dev) : (imsicWrite h file ident d).mem = d.mem := by
  unfold imsicWrite
  dsimp only
  (repeat' split) <;> simp
@[simp] theorem imswArrives_mem (m : FMsg) (file : Nat) (d : Dev) : (imswArrives m file d).mem = d.mem := by simp [imswArrives]

/-! #### Instructions of a hart -/

@[simp] theorem fpIllegal_mem (h : Nat) (store : Bool) (r rs1 : Nat) (imm : BitVec 12) (size : Nat) (compressed : Bool) (d : Dev) :
    (fpIllegal h store r rs1 imm size compressed d).mem = d.mem := by
  simp [fpIllegal]
@[simp] theorem hartLoad_mem (h : Nat) (dst : Dst) (rs1 : Nat) (imm : BitVec 12) (size : Nat) (signed compressed : Bool) (d : Dev) :
    (hartLoad h dst rs1 imm size signed compressed d).mem = d.mem := by
  unfold hartLoad; dsimp only; split <;> [rfl; split] <;> simp
@[simp] theorem hartStore_mem (h : Nat) (fp : Bool) (rs2 rs1 : Nat) (imm : BitVec 12) (size : Nat) (compressed : Bool) (d : Dev) :
    (hartStore h fp rs2 rs1 imm size compressed d).mem = d.mem := by
  simp [hartStore]
@[simp] theorem hartAmo_mem (h : Nat) (op : AmoOp) (rd rs1 rs2 size : Nat) (d : Dev) :
    (hartAmo h op rd rs1 rs2 size d).mem = d.mem := by simp [hartAmo]
@[simp] theorem hartLr_mem (h rd rs1 size : Nat) (d : Dev) : (hartLr h rd rs1 size d).mem = d.mem := by simp [hartLr]
@[simp] theorem hartSc_mem (h rd rs1 rs2 size : Nat) (d : Dev) : (hartSc h rd rs1 rs2 size d).mem = d.mem := by simp [hartSc]
@[simp] theorem lrTimeout_mem (h : Nat) (d : Dev) : (lrTimeout h d).mem = d.mem := by
  unfold lrTimeout
  split <;> simp
@[simp] theorem hartTsync_mem (h : Nat) (d : Dev) : (hartTsync h d).mem = d.mem := by
  unfold hartTsync
  split <;> simp
@[simp] theorem hartPoq_mem (h rd rs1 : Nat) (d : Dev) : (hartPoq h rd rs1 d).mem = d.mem := by
  unfold hartPoq
  split <;> simp
@[simp] theorem hartCbo_mem (h : Nat) (op : CboOp) (rs1 : Nat) (d : Dev) : (hartCbo h op rs1 d).mem = d.mem := by
  unfold hartCbo
  dsimp only
  split <;> simp
@[simp] theorem sweepTlb_mem (h : Nat) (virt byVmid : Bool) (eid vmid : Nat) (va id : Option Nat) (d : Dev) :
    (sweepTlb h virt byVmid eid vmid va id d).mem = d.mem := by
  rfl
@[simp] theorem runSweeps_mem (h : Nat) (d : Dev) : (runSweeps h d).mem = d.mem := by simp [runSweeps]
@[simp] theorem csrWrite_mem (h n insn v old : Nat) (f : Nat → Hart → Hart) (d : Dev) : (csrWrite h n insn v old f d).mem = d.mem := by
  unfold csrWrite
  split <;> simp

/-! #### Setpoints -/

@[simp] theorem setMv_mem (a mv : Nat) (d : Dev) : (setMv a mv d).mem = d.mem := by simp [setMv]

/-! #### Rest, core tests and retirement -/

@[simp] theorem atRest_mem (h : Nat) (d : Dev) : (atRest h d).mem = d.mem := by rfl
@[simp] theorem tryFold_mem (n : Nat) (d : Dev) : (tryFold n d).mem = d.mem := by simp [tryFold]
@[simp] theorem unfold_mem (n : Nat) (d : Dev) : (unfold n d).mem = d.mem := by simp [unfold]
@[simp] theorem wakeHart_mem (h : Nat) (d : Dev) : (wakeHart h d).mem = d.mem := by simp [wakeHart]
@[simp] theorem hartInterrupt_mem (h : Nat) (d : Dev) : (hartInterrupt h d).mem = d.mem := by
  unfold hartInterrupt
  split <;> simp
@[simp] theorem retentionIdle_mem (n : Nat) (d : Dev) : (retentionIdle n d).mem = d.mem := by simp [retentionIdle]
@[simp] theorem retireCore_mem (h : Nat) (d : Dev) : (retireCore h d).mem = d.mem := by simp [retireCore]
@[simp] theorem markSpareUsed_mem (n : Nat) (d : Dev) : (markSpareUsed n d).mem = d.mem := by simp [markSpareUsed]
@[simp] theorem coreTest_mem (h : Nat) (spare : Bool) (evt : TestEvt) (d : Dev) : (coreTest h spare evt d).mem = d.mem := by
  unfold coreTest
  (repeat' split) <;> simp
@[simp] theorem emptyCore_mem (h : Nat) (d : Dev) : (emptyCore h d).mem = d.mem := by simp [emptyCore]
@[simp] theorem spareMoveComplete_mem (h : Nat) (d : Dev) : (spareMoveComplete h d).mem = d.mem := by simp [spareMoveComplete]
@[simp] theorem offlinePowerOff_mem (h : Nat) (d : Dev) : (offlinePowerOff h d).mem = d.mem := by simp [offlinePowerOff]

/-! #### Enclave entry and world switches -/

@[simp] theorem eenterFails_mem (h k : Nat) (d : Dev) : (eenterFails h k d).mem = d.mem := by simp [eenterFails]
@[simp] theorem hartEenter_mem (h rs1 : Nat) (d : Dev) : (hartEenter h rs1 d).mem = d.mem := by
  unfold hartEenter
  dsimp only
  (repeat' split) <;> simp
@[simp] theorem leaveEnclave_mem (h : Nat) (args : List Nat) (d : Dev) : (leaveEnclave h args d).mem = d.mem := by
  unfold leaveEnclave
  dsimp only
  split <;> simp
@[simp] theorem hartEexit_mem (h : Nat) (d : Dev) : (hartEexit h d).mem = d.mem := by simp [hartEexit]
@[simp] theorem breakEnclave_mem (eid : Nat) (d : Dev) : (breakEnclave eid d).mem = d.mem := by simp [breakEnclave]
@[simp] theorem linePoisoned_mem (line : Nat) (d : Dev) : (linePoisoned line d).mem = d.mem := by
  unfold linePoisoned
  split <;> simp

/-! #### Loss, withdrawal and readmission of a die -/

@[simp] theorem lossStop_mem (cause : Nat) (d : Dev) : (lossStop cause d).mem = d.mem := by rfl
@[simp] theorem loseImsw_mem (n : Nat) (d : Dev) : (loseImsw n d).mem = d.mem := by simp [loseImsw]
@[simp] theorem dropRequests_mem (n : Nat) (held : List Nat) (d : Dev) : (dropRequests n held d).mem = d.mem := by rfl
@[simp] theorem startWithdraw_mem (n : Nat) (reset : Bool) (d : Dev) : (startWithdraw n reset d).mem = d.mem := by simp [startWithdraw]
@[simp] theorem withdrawComplete_mem (n : Nat) (d : Dev) : (withdrawComplete n d).mem = d.mem := by simp [withdrawComplete]
@[simp] theorem startReadmit_mem (n : Nat) (d : Dev) : (startReadmit n d).mem = d.mem := by simp [startReadmit]
@[simp] theorem mirrorCleaner_mem (n : Nat) (d : Dev) : (mirrorCleaner n d).mem = d.mem := by
  unfold mirrorCleaner
  (repeat' split) <;> simp

/-! #### Checks -/

@[simp] theorem fatalStop_mem (d : Dev) : (fatalStop d).mem = d.mem := by simp [fatalStop]
@[simp] theorem corrected_mem (src unit bank unitNo recSource recUnit : Nat) (line : Option Nat) (d : Dev) :
    (corrected src unit bank unitNo recSource recUnit line d).mem = d.mem := by
  simp [corrected]
@[simp] theorem poisonFound_mem (e : McEvent) (line : Nat) (d : Dev) : (poisonFound e line d).mem = d.mem := by simp [poisonFound]

/-! #### The memory-side cache -/

@[simp] theorem maintStart_mem (v : Nat) (d : Dev) : (maintStart v d).mem = d.mem := by simp [maintStart]
@[simp] theorem mscScrub_mem (n index : Nat) (err : MemErr) (d : Dev) : (mscScrub n index err d).mem = d.mem := by
  unfold mscScrub
  dsimp only
  (repeat' split) <;> simp
@[simp] theorem mscSwap_mem (n v : Nat) (d : Dev) : (mscSwap n v d).mem = d.mem := by rfl

/-! #### DRAM channels -/

@[simp] theorem touchRow_mem (line : Nat) (d : Dev) : (touchRow line d).mem = d.mem := by simp [touchRow]
@[simp] theorem closeRank_mem (n rank : Nat) (d : Dev) : (closeRank n rank d).mem = d.mem := by rfl
@[simp] theorem closeAll_mem (n : Nat) (d : Dev) : (closeAll n d).mem = d.mem := by rfl
@[simp] theorem countErr_mem (n : Nat) (scrub ue : Bool) (d : Dev) : (countErr n scrub ue d).mem = d.mem := by simp [countErr]
@[simp] theorem eccCheck_mem (line : Nat) (err : MemErr) (scrub : Bool) (d : Dev) : (eccCheck line err scrub d).mem = d.mem := by
  unfold eccCheck
  split <;> simp
@[simp] theorem refreshDue_mem (n rank : Nat) (d : Dev) : (refreshDue n rank d).mem = d.mem := by simp [refreshDue]
@[simp] theorem refresh_mem (n rank : Nat) (d : Dev) : (refresh n rank d).mem = d.mem := by simp [refresh]
@[simp] theorem powerDown_mem (n rank : Nat) (d : Dev) : (powerDown n rank d).mem = d.mem := by simp [powerDown]
@[simp] theorem tempRead_mem (n temp : Nat) (d : Dev) : (tempRead n temp d).mem = d.mem := by simp [tempRead]
@[simp] theorem roundDone_mem (n : Nat) (forced : Bool) (d : Dev) : (roundDone n forced d).mem = d.mem := by simp [roundDone]
@[simp] theorem roundNow_mem (n : Nat) (forced : Bool) (d : Dev) : (roundNow n forced d).mem = d.mem := by simp [roundNow]
@[simp] theorem dueRound_mem (n : Nat) (d : Dev) : (dueRound n d).mem = d.mem := by simp [dueRound]
@[simp] theorem selfRefreshOut_mem (n : Nat) (d : Dev) : (selfRefreshOut n d).mem = d.mem := by simp [selfRefreshOut]
@[simp] theorem retrainPause_mem (n : Nat) (b : Bool) (d : Dev) : (retrainPause n b d).mem = d.mem := by simp [retrainPause]
@[simp] theorem switchDone_mem (n : Nat) (d : Dev) : (switchDone n d).mem = d.mem := by simp [switchDone]
@[simp] theorem granuleZero_mem (n : Nat) (d : Dev) : (granuleZero n d).mem = d.mem := by simp [granuleZero]
@[simp] theorem dramScrub_mem (line : Nat) (err : MemErr) (d : Dev) : (dramScrub line err d).mem = d.mem := by simp [dramScrub]

/-! #### The ledger -/

@[simp] theorem applyMv_mem (d : Dev) : (applyMv d).mem = d.mem := by simp [applyMv]
@[simp] theorem throttleOn_mem (f : LedgerSt → LedgerSt) (d : Dev) : (throttleOn f d).mem = d.mem := by simp [throttleOn]
@[simp] theorem throttleOff_mem (f : LedgerSt → LedgerSt) (d : Dev) : (throttleOff f d).mem = d.mem := by simp [throttleOff]
@[simp] theorem overspend_mem (h : Nat) (d : Dev) : (overspend h d).mem = d.mem := by simp [overspend]
@[simp] theorem benchOverspend_mem (b : Nat) (d : Dev) : (benchOverspend b d).mem = d.mem := by simp [benchOverspend]
@[simp] theorem charge_mem (a n : Nat) (d : Dev) : (charge a n d).mem = d.mem := by simp [charge]
@[simp] theorem sumTick_mem (l : List Nat) (d : Dev) : (sumTick l d).mem = d.mem := by
  unfold sumTick
  extract_lets sum d1 d2 limit d3
  have h3 : d3.mem = d.mem := by simp [d3, d2, d1]
  clear_value d3
  simp [h3]
@[simp] theorem sensorFail_mem (a : Nat) (d : Dev) : (sensorFail a d).mem = d.mem := by simp [sensorFail]
@[simp] theorem thermtrip_mem (die core : Nat) (d : Dev) : (thermtrip die core d).mem = d.mem := by simp [thermtrip]
@[simp] theorem cutAccounts_mem (d : Dev) : (cutAccounts d).mem = d.mem := by simp [cutAccounts]
@[simp] theorem closeEpoch_mem (tLast : Nat) (d : Dev) : (closeEpoch tLast d).mem = d.mem := by simp [closeEpoch]
@[simp] theorem plan_mem (first : Bool) (t tLast : Nat) (obs : Nat → CoreObs) (tjHub : Nat) (deferred : Nat → Nat) (d : Dev) :
    (plan first t tLast obs tjHub deferred d).mem = d.mem := by
  simp [plan]

/-! #### The benches' translation unit -/

@[simp] theorem btuLookup_mem (b f va : Nat) (write : Bool) (d : Dev) : (btuLookup b f va write d).2.mem = d.mem := by
  unfold btuLookup
  grind [updBench_mem, countBench_mem]
@[simp] theorem bankWake_mem (b bank : Nat) (d : Dev) : (bankWake b bank d).mem = d.mem := by rfl
@[simp] theorem spadTouch_mem (b a : Nat) (d : Dev) : (spadTouch b a d).mem = d.mem := by rfl
@[simp] theorem setSpad_mem (b a : Nat) (v : List Byte) (d : Dev) : (setSpad b a v d).mem = d.mem := by rfl
@[simp] theorem zeroSpad_mem (b a n : Nat) (d : Dev) : (zeroSpad b a n d).mem = d.mem := by rfl
@[simp] theorem btuKill_mem (b : Nat) (p : BtuEnt → Bool) (d : Dev) : (btuKill b p d).mem = d.mem := by rfl

/-! #### Checks of a bench operation -/

@[simp] theorem loadKey_mem (b i : Nat) (d : Dev) : (loadKey b i d).mem = d.mem := by simp [loadKey]
@[simp] theorem dropKey_mem (b i : Nat) (d : Dev) : (dropKey b i d).mem = d.mem := by rfl

/-! #### Operations of a bench -/

@[simp] theorem updJob_mem (b id : Nat) (g : Job → Job) (d : Dev) : (updJob b id g d).mem = d.mem := by rfl
@[simp] theorem deferJob_mem (b : Nat) (j : Job) (d : Dev) : (deferJob b j d).mem = d.mem := by rfl
@[simp] theorem finishJob_mem (b id : Nat) (r : JobRes) (d : Dev) : (finishJob b id r d).mem = d.mem := by rfl
@[simp] theorem spadCorrected_mem (b : Nat) (d : Dev) : (spadCorrected b d).mem = d.mem := by simp [spadCorrected]

/-! #### The Gauge -/

@[simp] theorem gaugeOpen_mem (kind kerf : Nat) (d : Dev) : (gaugeOpen kind kerf d).mem = d.mem := by rfl
@[simp] theorem gaugeClose_mem (part : Bool) (kerfLast : Nat) (d : Dev) : (gaugeClose part kerfLast d).mem = d.mem := by simp [gaugeClose]
@[simp] theorem gaugeSign_mem (d : Dev) : (gaugeSign d).mem = d.mem := by simp [gaugeSign]
@[simp] theorem gaugeRunStart_mem (d : Dev) : (gaugeRunStart d).mem = d.mem := by simp [gaugeRunStart]
@[simp] theorem gaugeRunEnd_mem (d : Dev) : (gaugeRunEnd d).mem = d.mem := by rfl
@[simp] theorem gaugeRestart_mem (low : Bool) (d : Dev) : (gaugeRestart low d).mem = d.mem := by simp [gaugeRestart]
@[simp] theorem gaugeOnReset_mem (d : Dev) : (gaugeOnReset d).mem = d.mem := by simp [gaugeOnReset]
@[simp] theorem addDom_mem (k n : Nat) (d : Dev) : (addDom k n d).mem = d.mem := by rfl
@[simp] theorem updTenant_mem (tag : Nat) (f : Tenant → Tenant) (d : Dev) : (updTenant tag f d).mem = d.mem := by rfl
@[simp] theorem benchSlot_mem (b e : Nat) (d : Dev) : (benchSlot b e d).mem = d.mem := by simp [benchSlot]
@[simp] theorem gaugeSlot_mem (charges : List Nat) (ref : Nat) (d : Dev) : (gaugeSlot charges ref d).mem = d.mem := by simp [gaugeSlot]
@[simp] theorem gaugeSample_mem (d : Dev) : (gaugeSample d).mem = d.mem := by simp [gaugeSample]
@[simp] theorem gaugeCount_mem (b : Nat) (j : Job) (st : Nat) (d : Dev) : (gaugeCount b j st d).mem = d.mem := by simp [gaugeCount]
@[simp] theorem gaugeLost_mem (d : Dev) : (gaugeLost d).mem = d.mem := by simp [gaugeLost]
@[simp] theorem gaugeKerf_mem (d : Dev) : (gaugeKerf d).mem = d.mem := by simp [gaugeKerf]
@[simp] theorem gaugeCal_mem (verify : Bool) (pkg : List Byte) (calib : Option (List Byte)) (rom : Option (Fin 4)) (d : Dev) :
    (gaugeCal verify pkg calib rom d).mem = d.mem := by
  simp [gaugeCal]

/-! #### Rings -/

@[simp] theorem barWrite_mem (h b f : Nat) {act : Dev → Dev} {d : Dev} (ha : (act d).mem = d.mem) :
    (barWrite h b f act d).mem = d.mem := by simp [barWrite, ha]
@[simp] theorem ringWrite_mem (h b f r : Nat) (g : Ring → Ring) (d : Dev) : (ringWrite h b f r g d).mem = d.mem := by simp [ringWrite]
@[simp] theorem ringDisable_mem (h b f r cfg : Nat) (d : Dev) : (ringDisable h b f r cfg d).mem = d.mem := by simp [ringDisable]
@[simp] theorem descKeep_mem (b line : Nat) (x : Line) (d : Dev) : (descKeep b line x d).mem = d.mem := by
  unfold descKeep
  dsimp only
  (repeat' split) <;> simp
@[simp] theorem descRead_mem (b f va : Nat) (d : Dev) : (descRead b f va d).2.mem = d.mem := by
  unfold descRead
  rcases hb : btuLookup b f va false d with ⟨_ | e, d1⟩
  all_goals have hd1 : d1.mem = d.mem := by simpa [hb] using btuLookup_mem b f va false d
  · exact hd1
  · dsimp only
    split
    · exact hd1
    · generalize hr' : List.foldl _ _ _ = r
      have hr : r.2.mem = d1.mem := by
        rw [← hr']
        refine foldl_keeps (fun r : Option (List Byte) × Dev => r.2.mem) _ (fun r l => ?_) _ _
        split
        · rfl
        · split <;> simp
        · rfl
      split <;> exact hr.trans hd1
@[simp] theorem fetch_mem (b : Nat) (d : Dev) : (fetch b d).mem = d.mem := by
  unfold fetch
  extract_lets x
  split
  · rfl
  split
  · simp
  split
  · split <;> simp
  · extract_lets ring va rd d1 d2
    have h2 : d2.mem = d.mem := by
      simp [d2, d1, rd, descRead_mem]
    split
    · dsimp only
      split <;> simp [h2]
    · simp [h2]
@[simp] theorem settleRing_mem (b f r : Nat) (d : Dev) : (settleRing b f r d).mem = d.mem := by simp [settleRing]
@[simp] theorem ringIrq_mem (b f r : Nat) (d : Dev) : (ringIrq b f r d).mem = d.mem := by simp [ringIrq]
@[simp] theorem holdoffEnds_mem (b f r : Nat) (d : Dev) : (holdoffEnds b f r d).mem = d.mem := by simp [holdoffEnds]
@[simp] theorem admitDeferred_mem (b : Nat) (d : Dev) : (admitDeferred b d).mem = d.mem := by simp [admitDeferred]

/-! #### The feed channels -/

@[simp] theorem feedErrors_mem (b : Nat) (cs : List Nat) (d : Dev) : (feedErrors b cs d).mem = d.mem := by rfl
@[simp] theorem stopChan_mem (b c cause : Nat) (d : Dev) : (stopChan b c cause d).mem = d.mem := by rfl
@[simp] theorem fchCtl_mem (b f c v : Nat) (d : Dev) : (fchCtl b f c v d).mem = d.mem := by
  unfold fchCtl
  dsimp only
  (repeat' split) <;> simp
@[simp] theorem feedStop_mem (b line : Nat) (poison : Bool) (reading : Nat) (d : Dev) :
    (feedStop b line poison reading d).mem = d.mem := by simp [feedStop]
@[simp] theorem unitDone_mem (b c : Nat) (d : Dev) : (unitDone b c d).mem = d.mem := by rfl
@[simp] theorem feedDone_mem (b c : Nat) (d : Dev) : (feedDone b c d).mem = d.mem := by simp [feedDone]
@[simp] theorem spadOwner_mem (b g v : Nat) (d : Dev) : (spadOwner b g v d).mem = d.mem := by simp [spadOwner]
@[simp] theorem granuleZeroed_mem (b g : Nat) (d : Dev) : (granuleZeroed b g d).mem = d.mem := by simp [granuleZeroed]
@[simp] theorem fchOwner_mem (b c v : Nat) (d : Dev) : (fchOwner b c v d).mem = d.mem := by simp [fchOwner]
@[simp] theorem bar2_mem (h b f : Nat) (write : Bool) (off size data : Nat) (err : MemErr) (d : Dev) :
    (bar2 h b f write off size data err d).mem = d.mem := by
  unfold bar2
  (repeat' split) <;> simp
@[simp] theorem endChans_mem (b cause : Nat) (p : Nat → Bool) (d : Dev) : (endChans b cause p d).2.mem = d.mem := by simp [endChans]
@[simp] theorem loseArrays_mem (b : Nat) (d : Dev) : (loseArrays b d).mem = d.mem := by rfl
@[simp] theorem supplyCollapse_mem (b : Nat) (d : Dev) : (supplyCollapse b d).mem = d.mem := by simp [supplyCollapse]

/-! #### Functions of a bench -/

@[simp] theorem zeroGranules_mem (b f : Nat) (d : Dev) : (zeroGranules b f d).mem = d.mem := by simp [zeroGranules]
@[simp] theorem bindNow_mem (b f cls id : Nat) (d : Dev) : (bindNow b f cls id d).mem = d.mem := by simp [bindNow]
@[simp] theorem leaveRunning_mem (b f : Nat) (d : Dev) : (leaveRunning b f d).mem = d.mem := by simp [leaveRunning]
@[simp] theorem fnClaim_mem (h b f v : Nat) (d : Dev) : (fnClaim h b f v d).mem = d.mem := by simp [fnClaim]
@[simp] theorem revokeFn_mem (b f : Nat) (d : Dev) : (revokeFn b f d).mem = d.mem := by
  unfold revokeFn
  dsimp only
  rw [endChans_mem]
  simp
@[simp] theorem btuInval_mem (b v : Nat) (p : BtuEnt → Bool) (d : Dev) : (btuInval b v p d).mem = d.mem := by simp [btuInval]
@[simp] theorem btuInvalPage_mem (b f : Nat) (d : Dev) : (btuInvalPage b f d).mem = d.mem := by simp [btuInvalPage]
@[simp] theorem microcodeSwap_mem (b version : Nat) (d : Dev) : (microcodeSwap b version d).mem = d.mem := by rfl
@[simp] theorem microcodeLoad_mem (b : Nat) (ok : Bool) (d : Dev) : (microcodeLoad b ok d).mem = d.mem := by
  unfold microcodeLoad
  split <;> simp

/-! #### Windows of the hub -/

@[simp] theorem ackWrite_mem (req : Option FMsg) (d : Dev) : (ackWrite req d).mem = d.mem := by
  unfold ackWrite
  split <;> simp
@[simp] theorem clampAccept_mem (h : Held) (req : Option FMsg) (d : Dev) : (clampAccept h req d).mem = d.mem := by simp [clampAccept]
@[simp] theorem place_mem (h : Held) (req : Option FMsg) (d : Dev) : (place h req d).mem = d.mem := by simp [place]
@[simp] theorem outbound_mem (addr : Nat) (data : List Byte) (req : Option FMsg) (d : Dev) :
    (outbound addr data req d).mem = d.mem := by simp [outbound]
@[simp] theorem serveRead_mem (m : FMsg) (d : Dev) : (serveRead m d).mem = d.mem := by simp [serveRead]
@[simp] theorem deviceRead_mem (m : FMsg) (d : Dev) : (deviceRead m d).mem = d.mem := by
  unfold deviceRead
  dsimp only
  split <;> simp
@[simp] theorem unstall_mem (d : Dev) : (unstall d).mem = d.mem := by simp [unstall]
@[simp] theorem clampRelease_mem (p : Held → Bool) (d : Dev) : (clampRelease p d).mem = d.mem := by simp [clampRelease]

/-! #### The Inlay -/

@[simp] theorem ncFault_mem (m : FMsg) (d : Dev) : (ncFault m d).mem = d.mem := by
  unfold ncFault
  dsimp only
  (repeat' split) <;> simp
@[simp] theorem containSite_mem (s cause : Nat) (d : Dev) : (containSite s cause d).mem = d.mem := by simp [containSite]
@[simp] theorem refill_mem (s : Nat) (d : Dev) : (refill s d).mem = d.mem := by rfl
@[simp] theorem siteDone_mem (s tag status : Nat) (data : List Byte) (d : Dev) : (siteDone s tag status data d).mem = d.mem := by rfl
@[simp] theorem violate_mem (s : Nat) (q : InlayHdr) (zeros : Nat) (d : Dev) : (violate s q zeros d).mem = d.mem := by simp [violate]
@[simp] theorem upstream_mem (s : Nat) (q : InlayHdr) (perm align : Nat) (well target mmioOnly : Bool) (zeros : Nat) {act : Nat → Dev → Dev} (d : Dev)
    (ha : ∀ a d, (act a d).mem = d.mem) : (upstream s q perm align well target mmioOnly zeros act d).mem = d.mem := by
  unfold upstream
  dsimp only
  (repeat' split) <;> simp [ha]
@[simp] theorem inlayDevice_mem (s : Nat) (q : InlayHdr) (op : AgentOp) (size data n : Nat) (d : Dev) :
    (inlayDevice s q op size data n d).mem = d.mem := by
  unfold inlayDevice
  split <;> simp
@[simp] theorem inlayMsi_mem (s data : Nat) (q : InlayHdr) (d : Dev) : (inlayMsi s data q d).mem = d.mem := by
  unfold inlayMsi
  refine upstream_mem _ _ _ _ _ _ _ _ _ (fun a d => ?_)
  split <;> simp
@[simp] theorem cplDown_mem (s : Nat) (d : Dev) : (cplDown s d).mem = d.mem := by
  unfold cplDown
  split <;> rfl
@[simp] theorem grantCredits_mem (s n : Nat) (d : Dev) : (grantCredits s n d).mem = d.mem := by simp [grantCredits]
@[simp] theorem mmrdArrives_mem (s : Nat) (m : FMsg) (d : Dev) : (mmrdArrives s m d).mem = d.mem := by simp [mmrdArrives]
@[simp] theorem mmwrArrives_mem (s : Nat) (m : FMsg) (d : Dev) : (mmwrArrives s m d).mem = d.mem := by simp [mmwrArrives]
@[simp] theorem cplUp_mem (s : Nat) (q : InlayHdr) (data : Nat) (d : Dev) : (cplUp s q data d).mem = d.mem := by
  unfold cplUp; split <;> [rfl; split] <;> simp
@[simp] theorem linkLost_mem (s : Nat) (d : Dev) : (linkLost s d).mem = d.mem := by simp [linkLost]
@[simp] theorem trainSite_mem (s : Nat) (o : UcieObs) (d : Dev) : (trainSite s o d).mem = d.mem := by simp [trainSite]
@[simp] theorem enableSite_mem (s : Nat) (d : Dev) : (enableSite s d).mem = d.mem := by rfl

/-! #### The Tenon links -/

@[simp] theorem ackBundle_mem (n : Nat) (up : Bool) (ack : Nat) (d : Dev) : (ackBundle n up ack d).mem = d.mem := by simp [ackBundle]
@[simp] theorem resend_mem (n : Nat) (up : Bool) (seq : Nat) (d : Dev) : (resend n up seq d).mem = d.mem := by simp [resend]
@[simp] theorem startTraining_mem (n : Nat) (o : LinkObs) (d : Dev) : (startTraining n o d).mem = d.mem := by
  unfold startTraining; dsimp only; split <;> [rfl; split] <;> simp
@[simp] theorem sendFrame_mem (n : Nat) (d : Dev) : (sendFrame n d).mem = d.mem := by rfl
@[simp] theorem resumeBundle_mem (n : Nat) (up : Bool) (d : Dev) : (resumeBundle n up d).mem = d.mem := by
  unfold resumeBundle
  split <;> simp
@[simp] theorem lockLink_mem (n : Nat) (d : Dev) : (lockLink n d).mem = d.mem := by simp [lockLink]
@[simp] theorem linkTraining_mem (n : Nat) (o : LinkObs) (d : Dev) : (linkTraining n o d).mem = d.mem := by simp [linkTraining]
@[simp] theorem retrainLink_mem (n : Nat) (d : Dev) : (retrainLink n d).mem = d.mem := by simp [retrainLink]
@[simp] theorem wakePattern_mem (n : Nat) (byHub : Bool) (d : Dev) : (wakePattern n byHub d).mem = d.mem := by simp [wakePattern]
@[simp] theorem jigEnter_mem (n : Nat) (d : Dev) : (jigEnter n d).mem = d.mem := by simp [jigEnter]
@[simp] theorem jigLoop_mem (n dr : Nat) (errors : List Nat) (d : Dev) : (jigLoop n dr errors d).mem = d.mem := by simp [jigLoop]

/-! #### Counters, records and samples -/

@[simp] theorem hsmpctlWrite_mem (h insn v : Nat) (d : Dev) : (hsmpctlWrite h insn v d).mem = d.mem := by simp [hsmpctlWrite]
@[simp] theorem sampleCountdown_mem (h : Nat) (d : Dev) : (sampleCountdown h d).mem = d.mem := by simp [sampleCountdown]
@[simp] theorem sampleIrq_mem (h : Nat) (d : Dev) : (sampleIrq h d).mem = d.mem := by rfl
@[simp] theorem sampleAdvance_mem (h : Nat) (d : Dev) : (sampleAdvance h d).mem = d.mem := by simp [sampleAdvance]
@[simp] theorem ceWindowRoll_mem (d : Dev) : (ceWindowRoll d).mem = d.mem := by rfl
@[simp] theorem ovfClear_mem (d : Dev) : (ovfClear d).mem = d.mem := by rfl

/-! #### Page owners and enclave commands -/

@[simp] theorem iotinvalVma_mem (gv : Bool) (gscid : Nat) (av : Bool) (addr : Nat) (pscv : Bool) (pscid : Nat) (d : Dev) :
    (iotinvalVma gv gscid av addr pscv pscid d).mem = d.mem := by
  rfl
@[simp] theorem iotinvalGvma_mem (gv : Bool) (gscid : Nat) (av : Bool) (addr : Nat) (d : Dev) :
    (iotinvalGvma gv gscid av addr d).mem = d.mem := by rfl

/-! #### Checkpoints and snapshots -/

@[simp] theorem benchRestore_mem (b : Nat) (bs : List Byte) (d : Dev) : (benchRestore b bs d).mem = d.mem := by rfl
@[simp] theorem keysRestore_mem (b : Nat) (d : Dev) : (keysRestore b d).mem = d.mem := by
  unfold keysRestore
  dsimp only
  rw [foldl_mem (fun d h => ?_)]
  · simp
  · split <;> simp
@[simp] theorem hubRestore_mem (bs : List Byte) (d : Dev) : (hubRestore bs d).mem = d.mem := by simp [hubRestore]
@[simp] theorem purgeTranslations_mem (d : Dev) : (purgeTranslations d).mem = d.mem := by simp [purgeTranslations]

/-! #### Operations of the segment -/

@[simp] theorem noteRole_mem (d : Dev) : (noteRole d).mem = d.mem := by simp [noteRole]
@[simp] theorem sendSeg_mem (dst : Option Nat) (kind : SegKind) (body : List Byte) (d : Dev) :
    (sendSeg dst kind body d).mem = d.mem := by simp [sendSeg]
@[simp] theorem transmit_mem (d : Dev) : (transmit d).mem = d.mem := by
  unfold transmit
  split <;> simp
@[simp] theorem segDrop_mem (d : Dev) : (segDrop d).mem = d.mem := by rfl
@[simp] theorem askTakeover_mem (d : Dev) : (askTakeover d).mem = d.mem := by simp [askTakeover]

/-! #### The mirror -/

@[simp] theorem sendKeys_mem (d : Dev) : (sendKeys d).mem = d.mem := by simp [sendKeys]
@[simp] theorem startForming_mem (d : Dev) : (startForming d).mem = d.mem := by simp [startForming]
@[simp] theorem copyStep_mem (d : Dev) : (copyStep d).mem = d.mem := by
  unfold copyStep
  dsimp only
  (repeat' split) <;> simp
@[simp] theorem mirrorOn_mem (p : PartnerObs) (d : Dev) : (mirrorOn p d).mem = d.mem := by simp [mirrorOn]
@[simp] theorem mirrorOff_mem (d : Dev) : (mirrorOff d).mem = d.mem := by simp [mirrorOff]
@[simp] theorem entrySeg_mem (b : List Byte) (d : Dev) : (entrySeg b d).mem = d.mem := by simp [entrySeg]
@[simp] theorem kerfArrives_mem (kerf time : Nat) (d : Dev) : (kerfArrives kerf time d).mem = d.mem := by simp [kerfArrives]
@[simp] theorem keysArrive_mem (b gen : Nat) (key : List Byte) (d : Dev) : (keysArrive b gen key d).mem = d.mem := by simp [keysArrive]
@[simp] theorem repairArrives_mem (line : Nat) (d : Dev) : (repairArrives line d).mem = d.mem := by simp [repairArrives]
@[simp] theorem discardHeld_mem (d : Dev) : (discardHeld d).mem = d.mem := by simp [discardHeld]
@[simp] theorem reissue_mem (ms : List FMsg) (d : Dev) : (reissue ms d).mem = d.mem := by simp [reissue]
@[simp] theorem mirrorSeal_mem (k : Nat) (d : Dev) : (mirrorSeal k d).mem = d.mem := by simp [mirrorSeal]
@[simp] theorem mirrorKerfRec_mem (k : Nat) (d : Dev) : (mirrorKerfRec k d).mem = d.mem := by simp [mirrorKerfRec]
@[simp] theorem pairedEntry_mem (idx sub : Nat) (v : List Byte) (d : Dev) : (pairedEntry idx sub v d).mem = d.mem := by simp [pairedEntry]
@[simp] theorem goAlone_mem (d : Dev) : (goAlone d).mem = d.mem := by simp [goAlone]
@[simp] theorem ackArrives_mem (k : Nat) (d : Dev) : (ackArrives k d).mem = d.mem := by simp [ackArrives]
@[simp] theorem nakArrives_mem (k : Nat) (d : Dev) : (nakArrives k d).mem = d.mem := by simp [nakArrives]
@[simp] theorem heartbeatSend_mem (d : Dev) : (heartbeatSend d).mem = d.mem := by simp [heartbeatSend]
@[simp] theorem heartbeatArrives_mem (role phase kerf lastAck released time : Nat) (d : Dev) :
    (heartbeatArrives role phase kerf lastAck released time d).mem = d.mem := by
  simp [heartbeatArrives]
@[simp] theorem suspect_mem (d : Dev) : (suspect d).mem = d.mem := by simp [suspect]
@[simp] theorem applyPaired_mem (d : Dev) : (applyPaired d).mem = d.mem := by simp [applyPaired]
@[simp] theorem discardWork_mem (d : Dev) : (discardWork d).mem = d.mem := by simp [discardWork]
@[simp] theorem dropSetLines_mem (d : Dev) : (dropSetLines d).mem = d.mem := by simp [dropSetLines]
@[simp] theorem resumeFromSlot_mem (h : Nat) (d : Dev) : (resumeFromSlot h d).mem = d.mem := by simp [resumeFromSlot]
@[simp] theorem promote_mem (d : Dev) : (promote d).mem = d.mem := by simp [promote]
@[simp] theorem lossArrives_mem (cause kerf : Nat) (d : Dev) : (lossArrives cause kerf d).mem = d.mem := by simp [lossArrives]
@[simp] theorem takeoverResult_mem (grant : Bool) (d : Dev) : (takeoverResult grant d).mem = d.mem := by simp [takeoverResult]
@[simp] theorem forcePromote_mem (d : Dev) : (forcePromote d).mem = d.mem := by simp [forcePromote]

/-! #### The segment -/

@[simp] theorem answerTake_mem (pair result winner to_ seqEcho : Nat) (d : Dev) :
    (answerTake pair result winner to_ seqEcho d).mem = d.mem := by simp [answerTake]
@[simp] theorem grantTake_mem (q : TakeReq) (d : Dev) : (grantTake q d).mem = d.mem := by simp [grantTake]
@[simp] theorem takeoverReq_mem (x : SegHdr) (q : TakeReq) (d : Dev) : (takeoverReq x q d).mem = d.mem := by
  unfold takeoverReq
  dsimp only
  (repeat' split) <;> simp
@[simp] theorem standbyGrant_mem (pair : Nat) (d : Dev) : (standbyGrant pair d).mem = d.mem := by
  unfold standbyGrant
  dsimp only
  split <;> simp
@[simp] theorem takeoverAns_mem (x : SegHdr) (master : Nat) (a : TakeAns) (d : Dev) : (takeoverAns x master a d).mem = d.mem := by simp [takeoverAns]
@[simp] theorem takeoverOpen_mem (n : Nat) (d : Dev) : (takeoverOpen n d).mem = d.mem := by rfl
@[simp] theorem announce_mem (x : SegHdr) (a : Announce) (c : ChainObs) (d : Dev) : (announce x a c d).mem = d.mem := by simp [announce]
@[simp] theorem announceSend_mem (d : Dev) : (announceSend d).mem = d.mem := by simp [announceSend]
@[simp] theorem segStart_mem (d : Dev) : (segStart d).mem = d.mem := by simp [segStart]
@[simp] theorem masterExpiry_mem (d : Dev) : (masterExpiry d).mem = d.mem := by simp [masterExpiry]
@[simp] theorem backupTakeover_mem (d : Dev) : (backupTakeover d).mem = d.mem := by simp [backupTakeover]
@[simp] theorem beacon_mem (d : Dev) : (beacon d).mem = d.mem := by rfl
@[simp] theorem syncEdge_mem (t sinceRelease : Nat) (cut : Option Nat) (d : Dev) : (syncEdge t sinceRelease cut d).mem = d.mem := by simp [syncEdge]
@[simp] theorem syncMiss_mem (t : Nat) (d : Dev) : (syncMiss t d).mem = d.mem := by simp [syncMiss]

/-! #### Dry fits -/

@[simp] theorem recordFit_mem (si ss : Nat) (trig : Nat × Nat) (atKerf : Bool) (f : Fit) (d : Dev) :
    (recordFit si ss trig atKerf f d).mem = d.mem := by
  simp [recordFit]

/-! #### Identity and sessions -/

@[simp] theorem putSess_mem (n : Nat) (v : Option Session) (d : Dev) : (putSess n v d).mem = d.mem := by rfl
@[simp] theorem endSess_mem (n : Nat) (d : Dev) : (endSess n d).mem = d.mem := by rfl
@[simp] theorem keyExchange_mem (req : List Byte) (d : Dev) : (keyExchange req d).mem = d.mem := by
  unfold keyExchange
  split <;> rfl
@[simp] theorem finish_mem (n : Nat) (leaf : Option (List Byte)) (req : List Byte) (d : Dev) : (finish n leaf req d).mem = d.mem := by
  unfold finish
  split <;> simp
@[simp] theorem getMeasurements_mem (sess : Option Nat) (index : Nat) (sign : Bool) (nonce : List Byte) (d : Dev) :
    (getMeasurements sess index sign nonce d).mem = d.mem := by
  simp [getMeasurements]
@[simp] theorem getCertificate_mem (sess : Option Nat) (slot off len : Nat) (d : Dev) : (getCertificate sess slot off len d).mem = d.mem := by
  simp [getCertificate]
@[simp] theorem challenge_mem (slot : Nat) (nonce : List Byte) (d : Dev) : (challenge slot nonce d).mem = d.mem := by simp [challenge]

/-! #### Rules of the list -/

@[simp] theorem discardStaged_mem (d : Dev) : (discardStaged d).mem = d.mem := by rfl
@[simp] theorem blowFuse_mem (v : List Byte) (d : Dev) : (blowFuse v d).mem = d.mem := by
  unfold blowFuse
  split <;> simp
@[simp] theorem immBytes_mem (sess idx sub : Nat) (v : List Byte) (d : Dev) : (immBytes sess idx sub v d).mem = d.mem := by simp [immBytes]

/-! #### The list server -/

@[simp] theorem reply_mem (m : ListMsg) (op code : Nat) (body : List Byte) (d : Dev) : (reply m op code body d).mem = d.mem := by rfl
@[simp] theorem onList_mem (m : ListMsg) (op : Nat) {f : Nat → Session → Dev → Dev} {d : Dev} (hf : ∀ n x, (f n x d).mem = d.mem) :
    (onList m op f d).mem = d.mem := by
  unfold onList
  split
  · split
    · simp
    · split <;> simp [hf]
  · rfl
@[simp] theorem readMsg_mem (m : ListMsg) (n : Nat) (x : Session) (d : Dev) : (readMsg m n x d).mem = d.mem := by
  unfold readMsg
  dsimp only
  split <;> simp
@[simp] theorem setPend_mem (st : Nat × Nat) (b : Bool) (d : Dev) : (setPend st b d).mem = d.mem := by rfl
@[simp] theorem withSess_mem (n : Nat) (f : Session → Session) (d : Dev) : (withSess n f d).mem = d.mem := by rfl
@[simp] theorem writeBegin_mem (m : ListMsg) (n : Nat) (x : Session) (d : Dev) : (writeBegin m n x d).mem = d.mem := by
  unfold writeBegin
  dsimp only
  split <;> simp
@[simp] theorem noTransfer_mem (m : ListMsg) (op n : Nat) (x : Session) (d : Dev) : (noTransfer m op n x d).mem = d.mem := by
  unfold noTransfer
  split <;> rfl
@[simp] theorem writeSegment_mem (m : ListMsg) (n : Nat) (x : Session) (d : Dev) : (writeSegment m n x d).mem = d.mem := by
  unfold writeSegment
  split <;> simp
@[simp] theorem readBegin_mem (m : ListMsg) (n : Nat) (x : Session) (d : Dev) : (readBegin m n x d).mem = d.mem := by
  unfold readBegin
  dsimp only
  split <;> simp
@[simp] theorem readSegment_mem (m : ListMsg) (n : Nat) (x : Session) (d : Dev) : (readSegment m n x d).mem = d.mem := by
  unfold readSegment
  split <;> simp
@[simp] theorem transferCancel_mem (m : ListMsg) (n : Nat) (x : Session) (d : Dev) : (transferCancel m n x d).mem = d.mem := by simp [transferCancel]
@[simp] theorem idleTimeout_mem (n : Nat) (d : Dev) : (idleTimeout n d).mem = d.mem := by
  unfold idleTimeout
  split <;> simp
@[simp] theorem kerfWait_mem (m : ListMsg) (n : Nat) (x : Session) (d : Dev) : (kerfWait m n x d).mem = d.mem := by simp [kerfWait]
@[simp] theorem kerfWaitResponse_mem (n : Nat) (d : Dev) : (kerfWaitResponse n d).mem = d.mem := by
  unfold kerfWaitResponse
  (repeat' split) <;> simp
@[simp] theorem reportRead_mem (sess : Option SessN) (tag : Nat) (d : Dev) : (reportRead sess tag d).mem = d.mem := by
  unfold reportRead
  dsimp only
  split
  · split
    · split <;> simp
    · simp
  · simp

/-! #### The kerf -/

@[simp] theorem recheck_mem (p : PartnerObs) (k : Nat × Nat) (d : Dev) : (recheck p k d).mem = d.mem := by
  unfold recheck
  split <;> simp
@[simp] theorem benchStops_mem (b : Nat) (d : Dev) : (benchStops b d).mem = d.mem := by simp [benchStops]
@[simp] theorem dieWithdraws_mem (n : Nat) (d : Dev) : (dieWithdraws n d).mem = d.mem := by simp [dieWithdraws]
@[simp] theorem countHolds_mem (stg : Tab (Option Val)) (d : Dev) : (countHolds stg d).mem = d.mem := by simp [countHolds]
@[simp] theorem sendPaired_mem (d : Dev) : (sendPaired d).mem = d.mem := by
  refine foldl_mem (fun d e => ?_) _ _
  dsimp only
  split
  · simp
  · rfl
@[simp] theorem takePaired_mem (d : Dev) : (takePaired d).mem = d.mem := by simp [takePaired]
@[simp] theorem refillDie_mem (n : Nat) (d : Dev) : (refillDie n d).mem = d.mem := by simp [refillDie]
@[simp] theorem moveToSpare_mem (h : Nat) (d : Dev) : (moveToSpare h d).mem = d.mem := by simp [moveToSpare]
@[simp] theorem snapBank_mem (bank : Nat) (d : Dev) : (snapBank bank d).mem = d.mem := by rfl
@[simp] theorem snapshots_mem (d : Dev) : (snapshots d).mem = d.mem := by simp [snapshots]
@[simp] theorem cut_mem (o : KerfObs) (d : Dev) : (cut o d).mem = d.mem := by simp [cut]
@[simp] theorem planStep_mem (o : KerfObs) (d : Dev) : (planStep o d).mem = d.mem := by simp [planStep]
@[simp] theorem gaugeStep_mem (o : KerfObs) (d : Dev) : (gaugeStep o d).mem = d.mem := by simp [gaugeStep]
@[simp] theorem stepSeven_mem (o : KerfObs) (d : Dev) : (stepSeven o d).mem = d.mem := by rfl

/-! #### Stages of the bring-up -/

@[simp] theorem stageDone_mem (n : Nat) (d : Dev) : (stageDone n d).mem = d.mem := by rfl
@[simp] theorem stageFail_mem (n reason : Nat) (d : Dev) : (stageFail n reason d).mem = d.mem := by rfl
@[simp] theorem slotFails_mem (n reason : Nat) (d : Dev) : (slotFails n reason d).mem = d.mem := by simp [slotFails]
@[simp] theorem startInstant_mem (segId segRole failed : Nat) (d : Dev) : (startInstant segId segRole failed d).mem = d.mem := by simp [startInstant]
@[simp] theorem timeBaseLocked_mem (d : Dev) : (timeBaseLocked d).mem = d.mem := by simp [timeBaseLocked]
@[simp] theorem bootRom_mem (locked : Bool) (d : Dev) : (bootRom locked d).mem = d.mem := by simp [bootRom]
@[simp] theorem imageRead_mem (o : FlashObs) (d : Dev) : (imageRead o d).mem = d.mem := by simp [imageRead]
@[simp] theorem imageCheck_mem (d : Dev) : (imageCheck d).mem = d.mem := by simp [imageCheck]
@[simp] theorem seeDimm_mem (n : Nat) (o : DimmSeen) (d : Dev) : (seeDimm n o d).mem = d.mem := by rfl
@[simp] theorem pcieStage_mem (ports : List PortObs) (w0 w1 : Nat) (sites : List UcieObs) (d : Dev) :
    (pcieStage ports w0 w1 sites d).mem = d.mem := by
  simp [pcieStage]
@[simp] theorem releaseLedger_mem (d : Dev) : (releaseLedger d).mem = d.mem := by
  unfold releaseLedger
  dsimp only
  split <;> simp
@[simp] theorem planZero_mem (cores : List CoreObs) (tjHub : Nat) (d : Dev) : (planZero cores tjHub d).mem = d.mem := by simp [planZero]
@[simp] theorem sinceRelease_mem (d : Dev) : (sinceRelease d).mem = d.mem := by simp [sinceRelease]
@[simp] theorem releaseHarts_mem (d : Dev) : (releaseHarts d).mem = d.mem := by simp [releaseHarts]
@[simp] theorem stageTimeout_mem (n : Nat) (locked : Bool) (d : Dev) : (stageTimeout n locked d).mem = d.mem := by
  unfold stageTimeout
  split <;> simp
@[simp] theorem heldFold_mem (n : Nat) (d : Dev) : (heldFold n d).mem = d.mem := by simp [heldFold]
@[simp] theorem rollbackCommit_mem (d : Dev) : (rollbackCommit d).mem = d.mem := by
  unfold rollbackCommit
  split <;> simp

/-! #### Resets -/

@[simp] theorem pcieWake_mem (port : Nat) (target : Option (HartN × Fin 9 × Fin 256)) (d : Dev) : (pcieWake port target d).mem = d.mem := by
  unfold pcieWake
  (repeat' split) <;> simp

/-! #### Accesses to the hub -/

@[simp] theorem hubRead_mem (h addr size : Nat) (d : Dev) : (hubRead h addr size d).2.mem = d.mem := by
  obtain ⟨hread, hfree⟩ := hubRead_cases d h addr size
  cases hv : hubReg d h (addr - hubBase) with
  | some v => rw [hread v hv]
  | none =>
    rw [hfree hv]
    exact drawn_mem d
@[simp] theorem ncReply_mem (m : FMsg) (v : Nat) (d : Dev) : (ncReply m v d).mem = d.mem := by simp [ncReply]
@[simp] theorem ncrdArrives_mem (m : FMsg) (d : Dev) : (ncrdArrives m d).mem = d.mem := by simp [ncrdArrives]
@[simp] theorem csrInsn_mem (h insn v : Nat) (d : Dev) : (csrInsn h insn v d).mem = d.mem := by
  unfold csrInsn
  dsimp only
  (repeat' split) <;> simp
@[simp] theorem feedPut_mem (b f c : Nat) (g : FeedChan → FeedChan) (d : Dev) : (feedPut b f c g d).mem = d.mem := by simp [feedPut]
@[simp] theorem ioatpPut_mem (b f v : Nat) (d : Dev) : (ioatpPut b f v d).mem = d.mem := by simp [ioatpPut]
@[simp] theorem dmResume_mem (h : Nat) (d : Dev) : (dmResume h d).mem = d.mem := by rfl

/-! #### The debug module -/

@[simp] theorem haltRequest_mem (h : Nat) (d : Dev) : (haltRequest h d).mem = d.mem := by
  unfold haltRequest
  dsimp only
  (repeat' split) <;> simp
theorem dbgWrite_mem {h regno v : Nat} {d d' : Dev} (hw : dbgWrite h regno v d = some d') : d'.mem = d.mem := by
  unfold dbgWrite at hw
  grind [updHart_mem, drawn_mem]
@[simp] theorem abstractAccess_mem (h regno : Nat) (write : Bool) (v : Nat) (d : Dev) : (abstractAccess h regno write v d).mem = d.mem := by
  unfold abstractAccess
  grind [emit_mem, dbgWrite_mem]
@[simp] theorem lendLine_mem (h line : Nat) (d : Dev) : (lendLine h line d).mem = d.mem := by rfl

/-! #### Flits -/

@[simp] theorem retryRequest_mem (n : Nat) (up : Bool) (d : Dev) : (retryRequest n up d).mem = d.mem := by rfl

/-! #### An idle step -/

@[simp] theorem tickCounts_mem (d0 : Dev) (h : Nat) (d : Dev) : (tickCounts d0 h d).mem = d.mem := by
  unfold tickCounts
  dsimp only
  split <;> simp
@[simp] theorem tickHarts_mem (d : Dev) : (tickHarts d).mem = d.mem := by simp [tickHarts]
@[simp] theorem tickJunctions_mem (d : Dev) : (tickJunctions d).mem = d.mem := by simp [tickJunctions]
@[simp] theorem tickSegment_mem (d : Dev) : (tickSegment d).mem = d.mem := by simp [tickSegment]

end Sys2Proof.Proofs
end

section
namespace Sys2Proof.Proofs

open Sys2Proof.Machine

/-! ### What keeps a canonical memory canonical: every function of the model that can reach a writer of memory -/

/-- The canonical form of a memory. -/
def Canonical (m : Tab Byte) : Prop := tabWf 0 m = true

/-- A step that may not be taken leaves a canonical memory where it is taken. -/
def OptCanonical (o : Option Dev) : Prop := ∀ d ∈ o, Canonical d.mem

theorem memCanonical_iff (d : Dev) : MemCanonical d ↔ Canonical d.mem := Iff.rfl

@[simp] theorem canonical_nil : Canonical [] := rfl
@[simp] theorem optCanonical_none : OptCanonical none := fun _ h => nomatch h
@[simp] theorem optCanonical_some (d : Dev) : OptCanonical (some d) ↔ Canonical d.mem := by simp [OptCanonical]
@[simp] theorem ite_canonical (c : Prop) [Decidable c] {a b : Tab Byte} (ha : Canonical a) (hb : Canonical b) : Canonical (if c then a else b) := by
  split <;> assumption
theorem foldl_canonical {β : Type} {f : Dev → β → Dev} (h : ∀ d b, Canonical d.mem → Canonical (f d b).mem) (l : List β) {d : Dev}
    (hc : Canonical d.mem) :
    Canonical (l.foldl f d).mem := List.foldlRecOn l f hc (motive := fun d => Canonical d.mem) (fun d hd b _ => h d b hd)

/-! #### Memory -/

@[simp] theorem setMem_canonical (a : Nat) (bs : List Byte) {d : Dev} (hc : Canonical d.mem) : Canonical (setMem a bs d).mem :=
  tabWf_tabSetMany 0 _ d.mem a hc

@[simp] theorem dramStore_canonical (line : Nat) (data : Line) (poison : Bool) {d : Dev} (hc : Canonical d.mem) :
    Canonical (dramStore line data poison d).mem := by
  simp [dramStore, hc]
@[simp] theorem wqIssueOldest_canonical (k : Nat) {d : Dev} (hc : Canonical d.mem) : Canonical (wqIssueOldest k d).mem := by
  unfold wqIssueOldest; split <;> simp [hc]
@[simp] theorem wqDrain_canonical (k : Nat) {d : Dev} (hc : Canonical d.mem) : Canonical (wqDrain k d).mem :=
  foldl_canonical (fun _ _ => wqIssueOldest_canonical k) _ hc
@[simp] theorem chanWrite_canonical (line : Nat) (data : Line) (poison : Bool) {d : Dev} (hc : Canonical d.mem) :
    Canonical (chanWrite line data poison d).mem := by
  unfold chanWrite; dsimp only; split <;> simp [hc]
@[simp] theorem evbDrainOne_canonical (n : Nat) {d : Dev} (hc : Canonical d.mem) : Canonical (evbDrainOne n d).mem := by
  unfold evbDrainOne; split <;> simp [hc]
@[simp] theorem mscVictim_canonical (e : MscLine) {d : Dev} (hc : Canonical d.mem) : Canonical (mscVictim e d).mem := by
  unfold mscVictim; dsimp only; split <;> simp [hc]
@[simp] theorem mscPlace_canonical (line : Nat) (data : Line) (dirty poison : Bool) {d : Dev} (hc : Canonical d.mem) :
    Canonical (mscPlace line data dirty poison d).mem := by
  unfold mscPlace; split <;> simp [hc]
@[simp] theorem mscServe_canonical {line : Nat} {d : Dev} {r : (Line × Bool) × Dev} (hc : Canonical d.mem) (hs : mscServe line d = some r) :
    Canonical r.2.mem := by
  unfold mscServe at hs
  grind [countSlice_mem, mscPlace_canonical, evbFree_mem]
@[simp] theorem mscFill_canonical (line : Nat) (data : Line) (poison : Bool) {d : Dev} (hc : Canonical d.mem) :
    Canonical (mscFill line data poison d).mem := by
  simp [mscFill, hc]
@[simp] theorem mscWrite_canonical (line : Nat) (data : Line) (poison : Bool) {d : Dev} (hc : Canonical d.mem) :
    Canonical (mscWrite line data poison d).mem := by
  unfold mscWrite; dsimp only; (repeat' split) <;> simp [hc]
@[simp] theorem memWrite_canonical (line : Nat) (data : Line) (poison : Bool) {d : Dev} (hc : Canonical d.mem) :
    Canonical (memWrite line data poison d).mem := by
  unfold memWrite; split <;> simp [hc]

/-! #### The fabric: messages, trackers and the directory -/

@[simp] theorem dirError_canonical (line : Nat) {d : Dev} (hc : Canonical d.mem) : Canonical (dirError line d).mem := by
  simp [dirError, hc]
@[simp] theorem checkEntry_canonical (line : Nat) {d : Dev} (hc : Canonical d.mem) : Canonical (checkEntry line d).mem := by
  unfold checkEntry; split <;> simp [hc]
@[simp] theorem resolveFenced_canonical (n line : Nat) {d : Dev} (hc : Canonical d.mem) : Canonical (resolveFenced n line d).mem := by
  unfold resolveFenced; dsimp only; (repeat' split) <;> simp [hc]
@[simp] theorem resolveLine_canonical (line : Nat) {d : Dev} (hc : Canonical d.mem) : Canonical (resolveLine line d).mem := by
  refine foldl_canonical (fun d n hd => ?_) _ hc
  split <;> simp [hd]
@[simp] theorem noteWait_canonical (t : Trk) {f : Dev → Dev} {d : Dev} (hf : ∀ d, (f d).mem = d.mem) (hc : Canonical d.mem) :
    OptCanonical (noteWait t f d) := by
  unfold noteWait
  split <;> simp [hf, hc]
@[simp] theorem startRead_canonical (t : Trk) {d : Dev} (hc : Canonical d.mem) : OptCanonical (startRead t d) := by
  unfold startRead
  split
  · split <;> simp [hc]
  split
  next hs => simp [mscServe_canonical hc hs]
  · split
    · simp [hc]
    · dsimp only
      split <;> simp [hc]
@[simp] theorem evictVictim_canonical (sl : Nat) (t : Trk) (way v : Nat) {d : Dev} (hc : Canonical d.mem) :
    Canonical (evictVictim sl t way v d).mem := by
  unfold evictVictim; dsimp only; split <;> simp [hc]
@[simp] theorem waitForSet_canonical (sl : Nat) (t : Trk) {d : Dev} (hc : Canonical d.mem) : OptCanonical (waitForSet sl t d) := by
  unfold waitForSet
  split <;> simp [hc]
@[simp] theorem startTrk_canonical (sl : Nat) (t : Trk) {d : Dev} (hc : Canonical d.mem) : OptCanonical (startTrk sl t d) := by
  unfold startTrk
  extract_lets set d1 counted start here s cands
  have h1 : Canonical d1.mem := checkEntry_canonical _ (resolveLine_canonical _ hc)
  clear_value d1
  split
  · simp [h1]
  split
  · simp [h1]
  split
  · clear_value cands
    split
    · simp [start, h1]
    · cases cands <;> simp [start, h1]
  · simp [start, h1]
@[simp] theorem grantTrk_canonical (sl : Nat) (t : Trk) {d : Dev} (hc : Canonical d.mem) : OptCanonical (grantTrk sl t d) := by
  unfold grantTrk
  extract_lets line
  split
  · extract_lets r reply
    have hreply (op : Op) (x : Line) (p : Bool) {d : Dev} (hd : Canonical d.mem) : Canonical (reply op x p d).mem := by
      simp only [reply]
      split <;> simp [hd]
    clear_value reply
    (repeat' split) <;> simp [hreply, hc]
  · extract_lets finish
    have hfinish (x : List Byte) (p : Bool) {d : Dev} (hd : Canonical d.mem) : Canonical (finish x p d).mem := by
      simp only [finish]
      split <;> simp [hd]
    clear_value finish
    dsimp only
    (repeat' split) <;> simp [hfinish, hc]
@[simp] theorem stepTrk_canonical (sl : Nat) (t : Trk) {d : Dev} (hc : Canonical d.mem) : OptCanonical (stepTrk sl t d) := by
  unfold stepTrk
  dsimp only
  (repeat' split) <;> simp [hc]
theorem pumpOnce_canonical (sl line : Nat) {d : Dev} (hc : Canonical d.mem) : OptCanonical (pumpOnce sl line d) := by
  intro d' hd'
  obtain ⟨t, -, ht⟩ := List.exists_of_findSome?_eq_some hd'
  exact stepTrk_canonical sl t hc d' ht
@[simp] theorem pumpFuel_canonical (k sl line : Nat) {d : Dev} (hc : Canonical d.mem) : Canonical (pumpFuel k sl line d).mem := by
  induction k generalizing d with
  | zero => exact hc
  | succ k ih =>
    unfold pumpFuel
    split
    next hp => exact ih (pumpOnce_canonical sl line hc _ hp)
    · exact hc
@[simp] theorem pumpLine_canonical (line : Nat) {d : Dev} (hc : Canonical d.mem) : Canonical (pumpLine line d).mem := by
  simp [pumpLine, hc]
@[simp] theorem pump_canonical (line : Nat) {d : Dev} (hc : Canonical d.mem) : Canonical (pump line d).mem := by
  have hlines (l : List Nat) {d : Dev} (hd : Canonical d.mem) : Canonical (l.foldl (fun d v => pumpLine v d) d).mem :=
    foldl_canonical (fun _ v => pumpLine_canonical v) _ hd
  exact foldl_canonical (fun d _ => hlines (siteLines d)) _ (hlines _ (pumpLine_canonical line hc))
@[simp] theorem takeReqAt_canonical (holder line order : Nat) (req : Req) {d : Dev} (hc : Canonical d.mem) :
    Canonical (takeReqAt holder line order req d).mem := by
  unfold takeReqAt; dsimp only; split <;> simp [hc]
@[simp] theorem takeReq_canonical (holder line : Nat) (req : Req) {d : Dev} (hc : Canonical d.mem) : Canonical (takeReq holder line req d).mem := by
  simp [takeReq, hc]
@[simp] theorem patchLine_canonical (line : Nat) (x : Line) (poison : Bool) {d : Dev} (hc : Canonical d.mem) :
    Canonical (patchLine line x poison d).mem := by
  unfold patchLine
  extract_lets sl msg d1 d2
  have h1 : d1.mem = d.mem := by
    refine (foldl_mem (fun d n => ?_) _ _).trans (clearBpres_mem ..)
    rw [updDie_mem]
    split <;> simp
  have h2 : d2.mem = d1.mem := updSlice_mem ..
  refine memWrite_canonical _ _ _ ?_
  clear_value d2 d1
  exact (h2.trans h1) ▸ hc
@[simp] theorem writeNow_canonical (line : Nat) (x : Line) (poison : Bool) {d : Dev} (hc : Canonical d.mem) :
    Canonical (writeNow line x poison d).mem := by
  simp [writeNow, hc]
@[simp] theorem cohWriteLine_canonical (line : Nat) (data : Line) {d : Dev} (hc : Canonical d.mem) : Canonical (cohWriteLine line data d).mem := by
  simp [cohWriteLine, hc]
@[simp] theorem cohMerge_canonical (line off : Nat) (bs : List Byte) {d : Dev} (hc : Canonical d.mem) : Canonical (cohMerge line off bs d).mem := by
  simp [cohMerge, hc]
@[simp] theorem cohWrite_canonical (a : Nat) (bs : List Byte) {d : Dev} (hc : Canonical d.mem) : Canonical (cohWrite a bs d).mem :=
  foldl_canonical (fun _ _ => cohMerge_canonical _ _ _) _ hc

/-! #### Requests and replies at the home slice -/

@[simp] theorem dieRequest_canonical (op : Op) (m : FMsg) {d : Dev} (hc : Canonical d.mem) : Canonical (dieRequest op m d).mem := by
  unfold dieRequest; dsimp only; split <;> simp [hc]
@[simp] theorem snpAckArrives_canonical (m : FMsg) {d : Dev} (hc : Canonical d.mem) : Canonical (snpAckArrives m d).mem := by
  simp [snpAckArrives, hc]
@[simp] theorem fwdAckArrives_canonical (m : FMsg) {d : Dev} (hc : Canonical d.mem) : Canonical (fwdAckArrives m d).mem := by
  unfold fwdAckArrives; dsimp only; (repeat' split) <;> simp [hc]
@[simp] theorem killDoneArrives_canonical (m : FMsg) {d : Dev} (hc : Canonical d.mem) : Canonical (killDoneArrives m d).mem := by
  simp [killDoneArrives, hc]
@[simp] theorem endProtect_canonical (line : Nat) (p : Nat × Nat → Bool) {d : Dev} (hc : Canonical d.mem) : Canonical (endProtect line p d).mem := by
  unfold endProtect
  refine foldl_canonical (fun _ t hd => pump_canonical t.line hd) _ (pump_canonical line ?_)
  simp [hc]
@[simp] theorem protEndArrives_canonical (m : FMsg) {d : Dev} (hc : Canonical d.mem) : Canonical (protEndArrives m d).mem := by
  simp [protEndArrives, hc]
@[simp] theorem protTimeout_canonical (line : Nat) {d : Dev} (hc : Canonical d.mem) : Canonical (protTimeout line d).mem := by
  unfold protTimeout; split <;> simp [hc]
@[simp] theorem dataSnpArrives_canonical (m : FMsg) {d : Dev} (hc : Canonical d.mem) : Canonical (dataSnpArrives m d).mem := by
  unfold dataSnpArrives; dsimp only; (repeat' split) <;> simp [hc]
@[simp] theorem dataUp_canonical (op : Op) (m : FMsg) {d : Dev} (hc : Canonical d.mem) : Canonical (dataUp op m d).mem := by
  unfold dataUp; dsimp only; (repeat' split) <;> simp [hc]
@[simp] theorem wbArrives_canonical (op : Op) (m : FMsg) {d : Dev} (hc : Canonical d.mem) : Canonical (wbArrives op m d).mem := by
  unfold wbArrives; dsimp only; (repeat' split) <;> simp [hc]
@[simp] theorem evnArrives_canonical (m : FMsg) {d : Dev} (hc : Canonical d.mem) : Canonical (evnArrives m d).mem := by
  unfold evnArrives; dsimp only; (repeat' split) <;> simp [hc]
@[simp] theorem ioTranslate_mem (tr : Option IoTr) (addr : Nat) (d : Dev) : (ioTranslate tr addr d).2.mem = d.mem := by
  unfold ioTranslate
  (repeat' split) <;> rfl
@[simp] theorem deviceAccess_canonical (rp tag : Nat) (tr : Option IoTr) (addr : Nat) (op : AgentOp) {d : Dev} (hc : Canonical d.mem) :
    Canonical (deviceAccess rp tag tr addr op d).mem := by
  unfold deviceAccess
  dsimp only
  (repeat' split) <;> simp [hc]
@[simp] theorem agentAccess_canonical (who : AgentId) (addr : Nat) (op : AgentOp) {d : Dev} (hc : Canonical d.mem) :
    Canonical (agentAccess who addr op d).mem := by
  unfold agentAccess; split <;> simp [hc]
@[simp] theorem releaseH_canonical (line : Nat) {d : Dev} (hc : Canonical d.mem) : Canonical (releaseH line d).mem := by
  unfold releaseH; dsimp only; split <;> simp [hc]
@[simp] theorem takeWaiting_canonical (sl : Nat) {d : Dev} (hc : Canonical d.mem) : Canonical (takeWaiting sl d).mem := by
  unfold takeWaiting; (repeat' split) <;> simp [hc]
@[simp] theorem retrySet_canonical (sl set : Nat) {d : Dev} (hc : Canonical d.mem) : Canonical (retrySet sl set d).mem := by
  unfold retrySet; split <;> simp [hc]

/-! #### Replies at the die -/

@[simp] theorem dataMsg_canonical (op : Op) (m : FMsg) {d : Dev} (hc : Canonical d.mem) : Canonical (dataMsg op m d).mem := by
  simp [dataMsg, hc]

/-! #### Rest, core tests and retirement -/

@[simp] theorem writeChanged_canonical (a : Nat) (bs : List Byte) {d : Dev} (hc : Canonical d.mem) : Canonical (writeChanged a bs d).mem := by
  refine foldl_canonical (fun d i hd => ?_) _ hc
  dsimp only
  split <;> simp [hd]
@[simp] theorem writeCkpt_canonical (h : Nat) {d : Dev} (hc : Canonical d.mem) : Canonical (writeCkpt h d).mem := by
  simp [writeCkpt, hc]
@[simp] theorem settleRest_canonical (h : Nat) {d : Dev} (hc : Canonical d.mem) : Canonical (settleRest h d).mem := by
  simp [settleRest, hc]
@[simp] theorem enterRest_canonical (h : Nat) (want : Rest) {d : Dev} (hc : Canonical d.mem) : Canonical (enterRest h want d).mem := by
  simp [enterRest, hc]
@[simp] theorem releaseRest_canonical {d : Dev} (hc : Canonical d.mem) : Canonical (releaseRest d).mem := by
  refine foldl_canonical (fun d h hd => ?_) _ hc
  dsimp only
  (repeat' split) <;> simp [hd]
@[simp] theorem hartWfi_canonical (h : Nat) {d : Dev} (hc : Canonical d.mem) : Canonical (hartWfi h d).mem := by
  unfold hartWfi; dsimp only; (repeat' split) <;> simp [hc]
@[simp] theorem takeOffline_canonical (h : Nat) {d : Dev} (hc : Canonical d.mem) : Canonical (takeOffline h d).mem := by
  simp [takeOffline, hc]

/-! #### Enclave entry and world switches -/

@[simp] theorem hartWswitch_canonical (h rs1 : Nat) {d : Dev} (hc : Canonical d.mem) : Canonical (hartWswitch h rs1 d).mem := by
  unfold hartWswitch; dsimp only; split <;> simp [hc]

/-! #### Loss, withdrawal and readmission of a die -/

@[simp] theorem recoverLine_canonical (n line : Nat) {d : Dev} (hc : Canonical d.mem) : Canonical (recoverLine n line d).mem := by
  unfold recoverLine; (repeat' split) <;> simp [hc]
@[simp] theorem lostResponse_canonical (n : Nat) (t : Trk) {d : Dev} (hc : Canonical d.mem) : Canonical (lostResponse n t d).mem := by
  unfold lostResponse; dsimp only; (repeat' split) <;> simp [hc]
@[simp] theorem saveData_canonical (n : Nat) {d : Dev} (hc : Canonical d.mem) : Canonical (saveData n d).mem :=
  foldl_canonical (fun _ _ hd => memWrite_canonical _ _ _ (by simpa using hd)) _ hc
@[simp] theorem fenceNow_canonical (n cause : Nat) {d : Dev} (hc : Canonical d.mem) : Canonical (fenceNow n cause d).mem := by
  unfold fenceNow
  extract_lets broken held d1 d2 d3 d4 d5 waits d6 d7 d8 d9 d10
  have h5 : Canonical d5.mem := by simp [d5, d4, d3, d2, d1, hc]
  have h6 : Canonical d6.mem := foldl_canonical (fun _ t => lostResponse_canonical n t) _ h5
  have h10 : d10.mem = d6.mem := by simp [d10, d9, d8, d7]
  exact foldl_canonical (fun _ l => pump_canonical l) _ (by rwa [h10])
@[simp] theorem fenceDie_canonical (n cause : Nat) {d : Dev} (hc : Canonical d.mem) : Canonical (fenceDie n cause d).mem := by
  unfold fenceDie; split <;> simp [hc]
@[simp] theorem sweepComplete_canonical (n : Nat) {d : Dev} (hc : Canonical d.mem) : Canonical (sweepComplete n d).mem := by
  unfold sweepComplete
  split
  · rw [updDie_mem]
    exact foldl_canonical (fun _ l => resolveFenced_canonical n l) _ hc
  · exact hc
@[simp] theorem respTimeout_canonical (n : Nat) {d : Dev} (hc : Canonical d.mem) : Canonical (respTimeout n d).mem := by
  simp [respTimeout, hc]
@[simp] theorem foldTimeout_canonical (n : Nat) {d : Dev} (hc : Canonical d.mem) : Canonical (foldTimeout n d).mem := by
  simp [foldTimeout, hc]
@[simp] theorem withdrawTimeout_canonical (n : Nat) {d : Dev} (hc : Canonical d.mem) : Canonical (withdrawTimeout n d).mem := by
  unfold withdrawTimeout; split <;> simp [hc]
@[simp] theorem readmitTimeout_canonical (n : Nat) {d : Dev} (hc : Canonical d.mem) : Canonical (readmitTimeout n d).mem := by
  simp [readmitTimeout, hc]

/-! #### The memory-side cache -/

@[simp] theorem mscWriteBack_canonical (key : Nat) (keep : Bool) {d : Dev} (hc : Canonical d.mem) : Canonical (mscWriteBack key keep d).mem := by
  unfold mscWriteBack; split <;> simp [hc]
@[simp] theorem evbDrainAll_canonical (n : Nat) {d : Dev} (hc : Canonical d.mem) : Canonical (evbDrainAll n d).mem :=
  foldl_canonical (fun _ _ => evbDrainOne_canonical n) _ hc
@[simp] theorem flushComplete_canonical (n : Nat) {d : Dev} (hc : Canonical d.mem) : Canonical (flushComplete n d).mem := by
  unfold flushComplete
  split
  · dsimp only
    rw [updDry_mem, updMsc_mem]
    refine evbDrainAll_canonical _ (foldl_canonical (fun d e hd => ?_) _ hc)
    split <;> simp [hd]
  · exact hc
@[simp] theorem evbDrain_canonical (n : Nat) {d : Dev} (hc : Canonical d.mem) : Canonical (evbDrain n d).mem := by
  unfold evbDrain; split <;> simp [hc]
theorem maintSlice_canonical (m : MaintSt) (n : Nat) {x : Nat × Dev} (hc : Canonical x.2.mem) : Canonical (maintSlice m n x).2.mem := by
  unfold maintSlice
  dsimp only
  rw [updMsc_mem]
  refine foldl_canonical (fun d e hd => by simp [hd]) _ (foldl_canonical (fun d e hd => by simp [hd]) _ hc)
@[simp] theorem maintDone_canonical {d : Dev} (hc : Canonical d.mem) : Canonical (maintDone d).mem := by
  unfold maintDone
  dsimp only
  split
  · exact hc
  · exact List.foldlRecOn _ _ hc (motive := fun x : Nat × Dev => Canonical x.2.mem) (fun _ hx n _ => maintSlice_canonical _ n hx)

/-! #### DRAM channels -/

@[simp] theorem readIssue_canonical (n : Nat) (b : Bool) (err : MemErr) {d : Dev} (hc : Canonical d.mem) : Canonical (readIssue n b err d).mem := by
  unfold readIssue
  dsimp only
  split
  · exact hc
  · refine foldl_canonical (fun _ l => pump_canonical l) _ (pump_canonical _ ?_)
    simp [hc]
@[simp] theorem writeIssue_canonical (n : Nat) (b : Bool) {d : Dev} (hc : Canonical d.mem) : Canonical (writeIssue n b d).mem := by
  unfold writeIssue; dsimp only; split <;> simp [hc]
@[simp] theorem settleChan_canonical (n : Nat) {d : Dev} (hc : Canonical d.mem) : Canonical (settleChan n d).mem := by
  simp [settleChan, hc]
@[simp] theorem selfRefreshIn_canonical (n : Nat) {d : Dev} (hc : Canonical d.mem) : Canonical (selfRefreshIn n d).mem := by
  simp [selfRefreshIn, hc]
@[simp] theorem startSwitch_canonical (n slot : Nat) {d : Dev} (hc : Canonical d.mem) : Canonical (startSwitch n slot d).mem := by
  simp [startSwitch, hc]
@[simp] theorem cxlAnswer_canonical (txid line : Nat) (poison : Bool) {d : Dev} (hc : Canonical d.mem) :
    Canonical (cxlAnswer txid line poison d).mem := by
  simp [cxlAnswer, hc]
@[simp] theorem cxlTimeout_canonical (w line : Nat) {d : Dev} (hc : Canonical d.mem) : Canonical (cxlTimeout w line d).mem := by
  unfold cxlTimeout
  dsimp only
  split
  · have hstep (d : Dev) (e : Nat × Nat) (hd : Canonical d.mem) := cxlAnswer_canonical e.1 e.2 true hd
    refine foldl_canonical hstep _ ?_
    rw [mcWrite_mem]
    exact hc
  · exact hc

/-! #### The benches' translation unit -/

@[simp] theorem dirtyLog_canonical (b f va : Nat) (e : BtuEnt) {d : Dev} (hc : Canonical d.mem) : Canonical (dirtyLog b f va e d).mem := by
  unfold dirtyLog; dsimp only; split <;> simp [hc]
theorem snd_mem {α : Type} {x : α × Dev} {r : α} {d e : Dev} (he : x.2.mem = e.mem) (hx : x = (r, d)) : d.mem = e.mem := by
  subst hx
  exact he
theorem snd_canonical {α : Type} {x : α × Dev} {r : α} {d : Dev} (hc : Canonical x.2.mem) (hx : x = (r, d)) : Canonical d.mem := by
  subst hx
  exact hc
@[simp] theorem memWriteVa_canonical (b f va : Nat) (x : List Byte) {d : Dev} (hc : Canonical d.mem) : Canonical (memWriteVa b f va x d).2.mem := by
  unfold memWriteVa
  have hb : Canonical (btuLookup b f va true d).2.mem := by rwa [btuLookup_mem]
  split
  next heq => exact snd_canonical hb heq
  next heq =>
    have hd := snd_canonical hb heq
    dsimp only
    split
    · exact cohWrite_canonical _ _ (dirtyLog_canonical _ _ _ _ hd)
    · exact hd
@[simp] theorem chunkWrite_canonical (b f va : Nat) (x : List Byte) {d : Dev} (hc : Canonical d.mem) : Canonical (chunkWrite b f va x d).2.mem := by
  unfold chunkWrite
  (repeat' split) <;> simp [hc]
@[simp] theorem bufWrite_canonical (b f va : Nat) (x : List Byte) {d : Dev} (hc : Canonical d.mem) : Canonical (bufWrite b f va x d).2.mem := by
  refine List.foldlRecOn _ _ hc (motive := fun r : Option (Nat × Nat) × Dev => Canonical r.2.mem) (fun r hr c _ => ?_)
  obtain ⟨_ | e, d⟩ := r
  · have hw := chunkWrite_canonical b f c.2.1 (sliceOf x c.1 c.2.2) hr
    dsimp only
    split
    all_goals
      next heq => exact snd_canonical hw heq
  · exact hr

/-! #### Checks of a bench operation -/

@[simp] theorem storeKey_canonical (b i : Nat) (k : KeyRec) {d : Dev} (hc : Canonical d.mem) : Canonical (storeKey b i k d).mem := by
  simp [storeKey, hc]
@[simp] theorem createKey_canonical (b : Nat) (k : KeyRec) {d : Dev} (hc : Canonical d.mem) : Canonical (createKey b k d).2.mem := by
  unfold createKey
  split <;> simp [hc]
@[simp] theorem wipeKey_canonical (b i : Nat) {d : Dev} (hc : Canonical d.mem) : Canonical (wipeKey b i d).mem := cohWrite_canonical _ _ hc

/-! #### Operations of a bench -/

@[simp] theorem newKey_canonical (b : Nat) (k : KeyRec) {d : Dev} (hc : Canonical d.mem) : Canonical (newKey b k d).2.mem := by
  have hk := createKey_canonical b k hc
  unfold newKey
  split
  all_goals
    next heq => exact snd_canonical hk heq
@[simp] theorem agreeKey_canonical (b f : Nat) (secret : List Byte) {d : Dev} (hc : Canonical d.mem) : Canonical (agreeKey b f secret d).2.mem :=
  newKey_canonical _ _ hc
@[simp] theorem genKeys_canonical (b f : Nat) (src : List Byte) (n : Nat) {d : Dev} (hc : Canonical d.mem) :
    Canonical (genKeys b f src n d).2.mem := by
  unfold genKeys
  extract_lets recs
  split
  · exact hc
  · rename_i r _
    have hr : Canonical r.2.mem := by
      refine List.foldlRecOn _ _ hc (motive := fun r : Option (List Byte) × Dev => Canonical r.2.mem) (fun r hr a _ => ?_)
      obtain ⟨_ | hs, d⟩ := r
      · exact hr
      · dsimp only
        split
        all_goals
          next heq => exact snd_canonical (createKey_canonical _ _ (by simpa using hr)) heq
    clear_value r
    obtain ⟨_ | hs, d'⟩ := r
    · exact hc
    · exact hr
@[simp] theorem okWith_snd (out : List Byte) (d : Dev) : (okWith out d).2 = d := rfl
@[simp] theorem fails_snd (st : Nat) (d : Dev) : (fails st d).2 = d := rfl
@[simp] theorem verdict_snd (ok : Bool) (d : Dev) : (verdict ok d).2 = d := by
  unfold verdict
  split <;> rfl
@[simp] theorem runOp_canonical (b : Nat) (j : Job) (ks : List KeyRec) (src aux : List Byte) {d : Dev} (hc : Canonical d.mem) :
    Canonical (runOp b j ks src aux d).2.mem := by
  unfold runOp
  extract_lets z k k1 key p0 p1 n iv pan rnd pre
  clear_value pre rnd pan iv n p1 p0 key k1 k z
  dsimp only
  (repeat' split) <;> simp [hc]
@[simp] theorem chunkCheck_mem (b f va : Nat) (d : Dev) : (chunkCheck b f va d).2.mem = d.mem := by
  have hb := btuLookup_mem b f va true d
  unfold chunkCheck
  split
  · rfl
  · split
    all_goals
      next heq => exact snd_mem hb heq
@[simp] theorem bufCheck_mem (b f va len : Nat) (d : Dev) : (bufCheck b f va len d).2.mem = d.mem := by
  refine foldl_keeps (fun r : Option (Nat × Nat) × Dev => r.2.mem) _ (fun r c => ?_) _ _
  obtain ⟨_ | e, d⟩ := r
  · have hk := chunkCheck_mem b f c.2.1 d
    dsimp only
    split
    all_goals
      next heq => exact snd_mem hk heq
  · rfl
@[simp] theorem perform_canonical (b id eng : Nat) (j : Job) (r : OpRow) (ks : List (Nat × KeyRec)) (src aux : List Byte) {d : Dev}
    (hc : Canonical d.mem) :
    Canonical (perform b id eng j r ks src aux d).mem := by
  unfold perform
  split
  · split <;> simp [hc]
  · extract_lets chk
    have hchk : Canonical chk.2.mem := by
      unfold chk
      split <;> simp [hc]
    clear_value chk
    obtain ⟨_ | e, d'⟩ := chk <;> simp [show Canonical d'.mem from hchk]
@[simp] theorem chargeIn_mem (b cls cost : Nat) (d : Dev) : (chargeIn b cls cost d).2.mem = d.mem := by
  unfold chargeIn
  dsimp only
  (repeat' split) <;> simp
@[simp] theorem memRead_mem (b f va n : Nat) (d : Dev) : (memRead b f va n d).2.mem = d.mem := by
  have hb := btuLookup_mem b f va false d
  unfold memRead
  split
  next heq => exact snd_mem hb heq
  next heq =>
    dsimp only
    (repeat' split) <;> exact snd_mem hb heq
@[simp] theorem chunkRead_mem (b f va n : Nat) (d : Dev) : (chunkRead b f va n d).2.mem = d.mem := by
  unfold chunkRead
  (repeat' split) <;> simp
@[simp] theorem bufRead_mem (b f va len : Nat) (d : Dev) : (bufRead b f va len d).2.mem = d.mem := by
  refine foldl_keeps (fun r : Except (Nat × Nat) (List Byte) × Dev => r.2.mem) _ (fun r c => ?_) _ _
  obtain ⟨_ | acc, d⟩ := r
  · rfl
  · have hk := chunkRead_mem b f c.2.1 c.2.2 d
    dsimp only
    split
    all_goals
      next heq => exact snd_mem hk heq
@[simp] theorem benchOp_canonical (code b id : Nat) (obs : EngObs) {d : Dev} (hc : Canonical d.mem) : Canonical (benchOp code b id obs d).mem := by
  unfold benchOp
  split
  · exact hc
  split
  · exact hc
  split
  · simp [hc]
  extract_lets rd peek base cls
  split
  · exact hc
  rename_i adm d1 d2 d3 d4 _ eng _
  have h1 : Canonical d1.mem := by
    unfold d1 adm
    split <;> simp [hc]
  have h3 : Canonical d3.mem := by simp [d3, d2, h1]
  have h4 : Canonical d4.mem := by
    unfold d4
    split <;> simp [h3]
  clear_value d4 d3 d2 d1
  split
  · (repeat' split) <;> simp [h1]
  split
  · simp [h3]
  · simp [h3]
  · split
    next hsrc =>
      have h5 := snd_canonical (by rwa [bufRead_mem]) hsrc
      simp [h5]
    next hsrc =>
      have h5 := snd_canonical (by rwa [bufRead_mem]) hsrc
      split
      all_goals
        next haux =>
          have h6 := snd_canonical (by rwa [bufRead_mem]) haux
          simp [h6]

/-! #### Rings -/

@[simp] theorem writeOut_canonical (b : Nat) (j : Job) (r : JobRes) {d : Dev} (hc : Canonical d.mem) : Canonical (writeOut b j r d).2.mem := by
  unfold writeOut
  split
  · exact hc
  extract_lets pre
  have hpre : Canonical pre.2.mem := by
    unfold pre
    split <;> simp [hc]
  clear_value pre
  obtain ⟨_ | e, d1⟩ := pre
  · have hw := bufWrite_canonical b j.fn (jDst j) r.out hpre
    dsimp only
    generalize bufWrite b j.fn (jDst j) r.out d1 = w at hw
    obtain ⟨_ | e, d2⟩ := w
    · exact hw
    · dsimp only
      split
      · exact bufWrite_canonical _ _ _ _ hw
      · exact hw
  · exact hpre
@[simp] theorem putRecord_canonical (b : Nat) (j : Job) (r : JobRes) {d : Dev} (hc : Canonical d.mem) : Canonical (putRecord b j r d).mem := by
  unfold putRecord
  extract_lets ring drop lost va rlen d1
  have hlost {d : Dev} (hd : Canonical d.mem) : Canonical (lost d).mem := by simp [lost, hd]
  have hdrop : Canonical drop.mem := by simp [drop, hc]
  rw [settleRing_mem]
  unfold d1
  clear_value lost drop
  split
  · exact hlost hdrop
  have hb : Canonical (btuLookup b j.fn va true drop).2.mem := by rwa [btuLookup_mem]
  split
  next heq => exact hlost (snd_canonical hb heq)
  next heq =>
    have h2 := snd_canonical hb heq
    split
    · exact hlost h2
    split
    next heq => exact hlost (snd_canonical (memWriteVa_canonical _ _ _ _ h2) heq)
    next heq =>
      have h3 := snd_canonical (memWriteVa_canonical _ _ _ _ h2) heq
      dsimp only
      (repeat' split) <;> simp [h3]
@[simp] theorem completeJob_canonical (b id : Nat) {d : Dev} (hc : Canonical d.mem) : Canonical (completeJob b id d).mem := by
  unfold completeJob
  split
  · exact hc
  extract_lets go
  have hgo (r : JobRes) : Canonical (go r d).mem := by
    simp only [go]
    split
    · exact putRecord_canonical _ _ _ (foldl_canonical (fun _ i hd => wipeKey_canonical b i hd) _ (writeOut_canonical b _ r hc))
    · exact putRecord_canonical _ _ _ (writeOut_canonical b _ r hc)
  clear_value go
  (repeat' split) <;> simp [hgo, hc]

/-! #### The feed channels -/

@[simp] theorem feedUnit_canonical (b c : Nat) (err : MemErr) {d : Dev} (hc : Canonical d.mem) : Canonical (feedUnit b c err d).mem := by
  unfold feedUnit
  extract_lets x f
  split
  · exact hc
  rename_i va _
  split
  · simp [hc]
  extract_lets d1
  have h1 : Canonical d1.mem := by simp [d1, hc]
  clear_value d1
  split
  · have hb : Canonical (btuLookup b f va false d1).2.mem := by rwa [btuLookup_mem]
    split
    next heq => simp [snd_canonical hb heq]
    next heq =>
      have h2 := snd_canonical hb heq
      dsimp only
      (repeat' split) <;> simp [h2]
  · split
    · simp [h1]
    · simp [h1]
    · rename_i d2 _ _ _ _
      have h2 : Canonical d2.mem := by
        unfold d2
        split <;> simp [h1]
      split
      all_goals
        next heq => simp [snd_canonical (chunkWrite_canonical _ _ _ _ h2) heq]
@[simp] theorem endJob_canonical (b st : Nat) (j : Job) {d : Dev} (hc : Canonical d.mem) : Canonical (endJob b st j d).mem := by
  simp [endJob, hc]
@[simp] theorem benchZeroise_canonical (b : Nat) {d : Dev} (hc : Canonical d.mem) : Canonical (benchZeroise b d).mem := by
  unfold benchZeroise
  extract_lets d1 e d2 d3
  have h1 : Canonical d1.mem := foldl_canonical (fun _ j hd => endJob_canonical b _ j hd) _ hc
  have he : e.2.mem = d1.mem := endChans_mem ..
  simp [d3, d2, he, h1]
@[simp] theorem benchPowerUp_canonical (b : Nat) {d : Dev} (hc : Canonical d.mem) : Canonical (benchPowerUp b d).mem := by
  simp [benchPowerUp, hc]

/-! #### Functions of a bench -/

@[simp] theorem abandonFn_canonical (b f : Nat) {d : Dev} (hc : Canonical d.mem) : Canonical (abandonFn b f d).mem := by
  unfold abandonFn
  dsimp only
  rw [endChans_mem, updBench_mem]
  exact foldl_canonical (fun _ j hd => by simp [hd]) _ hc
@[simp] theorem ftCtl_canonical (b f v : Nat) {d : Dev} (hc : Canonical d.mem) : Canonical (ftCtl b f v d).mem := by
  unfold ftCtl
  extract_lets x w cap rings cls id q qs d1 d2 d3 d4
  have h2 : Canonical d2.mem := by
    unfold d2
    split <;> simp [d1, hc]
  have h4 : Canonical d4.mem := by
    unfold d4
    split
    · split <;> simp [d3, h2]
    · exact h2
  clear_value d4 d3 d2 d1 qs q
  (repeat' split) <;> simp [h4]
@[simp] theorem dropInstanceKeys_canonical (b f : Nat) {d : Dev} (hc : Canonical d.mem) : Canonical (dropInstanceKeys b f d).mem :=
  foldl_canonical (fun _ _ hd => wipeKey_canonical _ _ (by simpa using hd)) _ hc
@[simp] theorem resetFn_canonical (b f : Nat) {d : Dev} (hc : Canonical d.mem) : Canonical (resetFn b f d).mem := by
  simp [resetFn, hc]
@[simp] theorem startFlr_canonical (b f : Nat) {d : Dev} (hc : Canonical d.mem) : Canonical (startFlr b f d).mem := by
  unfold startFlr; split <;> simp [hc]
@[simp] theorem quiesceComplete_canonical (b f : Nat) {d : Dev} (hc : Canonical d.mem) : Canonical (quiesceComplete b f d).mem := by
  unfold quiesceComplete; split <;> simp [hc]
@[simp] theorem flrRevoke_canonical (b f : Nat) {d : Dev} (hc : Canonical d.mem) : Canonical (flrRevoke b f d).mem := by
  simp [flrRevoke, hc]
@[simp] theorem pfFlr_canonical (b : Nat) {d : Dev} (hc : Canonical d.mem) : Canonical (pfFlr b d).mem := by
  unfold pfFlr
  dsimp only
  rw [updBench_mem]
  refine foldl_canonical (fun d f hd => resetFn_canonical b f ?_) _ hc
  split <;> simp [hd]
@[simp] theorem vfClear_canonical (b : Nat) {d : Dev} (hc : Canonical d.mem) : Canonical (vfClear b d).mem := by
  unfold vfClear
  dsimp only
  rw [updBench_mem]
  exact foldl_canonical (fun _ f hd => startFlr_canonical b f hd) _ hc

/-! #### The Inlay -/

@[simp] theorem inlayAccess_canonical (s : Nat) (q : InlayHdr) (op : AgentOp) (size data n attr : Nat) {d : Dev} (hc : Canonical d.mem) :
    Canonical (inlayAccess s q op size data n attr d).mem := by
  simp [inlayAccess, hc]
@[simp] theorem upstream_canonical (s : Nat) (q : InlayHdr) (perm align : Nat) (well target mmioOnly : Bool) (zeros : Nat)
    {act : Nat → Dev → Dev} {d : Dev}
    (ha : ∀ a {d : Dev}, Canonical d.mem → Canonical (act a d).mem) (hc : Canonical d.mem) :
    Canonical (upstream s q perm align well target mmioOnly zeros act d).mem := by
  unfold upstream
  dsimp only
  (repeat' split) <;> simp [ha, hc]
@[simp] theorem rd64_canonical (s : Nat) (q : InlayHdr) {d : Dev} (hc : Canonical d.mem) : Canonical (rd64 s q d).mem :=
  upstream_canonical _ _ _ _ _ _ _ _ (fun _ _ => inlayAccess_canonical _ _ _ _ _ _ _) hc
@[simp] theorem rdf64_canonical (s : Nat) (q : InlayHdr) {d : Dev} (hc : Canonical d.mem) : Canonical (rdf64 s q d).mem :=
  upstream_canonical _ _ _ _ _ _ _ _ (fun _ _ => inlayAccess_canonical _ _ _ _ _ _ _) hc
@[simp] theorem wr64_canonical (s : Nat) (data : Line) (q : InlayHdr) {d : Dev} (hc : Canonical d.mem) : Canonical (wr64 s data q d).mem :=
  upstream_canonical _ _ _ _ _ _ _ _ (fun _ _ => inlayAccess_canonical _ _ _ _ _ _ _) hc
@[simp] theorem wrp64_canonical (s : Nat) (data : Line) (mask : Nat) (q : InlayHdr) {d : Dev} (hc : Canonical d.mem) :
    Canonical (wrp64 s data mask q d).mem :=
  upstream_canonical _ _ _ _ _ _ _ _ (fun _ _ => inlayAccess_canonical _ _ _ _ _ _ _) hc
@[simp] theorem inlayAmo_canonical (s a b : Nat) (q : InlayHdr) {d : Dev} (hc : Canonical d.mem) : Canonical (inlayAmo s a b q d).mem :=
  upstream_canonical _ _ _ _ _ _ _ _ (fun _ _ => inlayAccess_canonical _ _ _ _ _ _ _) hc

/-! #### The Tenon links -/

@[simp] theorem enterRecovery_canonical (n : Nat) (up down : LaneTest) {d : Dev} (hc : Canonical d.mem) :
    Canonical (enterRecovery n up down d).mem := by
  unfold enterRecovery; dsimp only; (repeat' split) <;> simp [hc]
@[simp] theorem replayFrom_canonical (n : Nat) (up : Bool) (seq : Nat) {d : Dev} (hc : Canonical d.mem) : Canonical (replayFrom n up seq d).mem := by
  unfold replayFrom; dsimp only; split <;> simp [hc]
@[simp] theorem replayTimeout_canonical (n : Nat) (up : Bool) {d : Dev} (hc : Canonical d.mem) : Canonical (replayTimeout n up d).mem := by
  unfold replayTimeout; split <;> simp [hc]
@[simp] theorem recoveryTimeout_canonical (n : Nat) (supply : Bool) {d : Dev} (hc : Canonical d.mem) :
    Canonical (recoveryTimeout n supply d).mem := by
  simp [recoveryTimeout, hc]
@[simp] theorem disagree_canonical (n : Nat) (up : Bool) {d : Dev} (hc : Canonical d.mem) : Canonical (disagree n up d).mem := by
  unfold disagree; dsimp only; split <;> simp [hc]
@[simp] theorem trainingFrame_canonical (n upDigest downDigest : Nat) (crcOk : Bool) {d : Dev} (hc : Canonical d.mem) :
    Canonical (trainingFrame n upDigest downDigest crcOk d).mem := by
  unfold trainingFrame; dsimp only; (repeat' split) <;> simp [hc]
@[simp] theorem settle_canonical {n : Nat} {up : Bool} {k : Nat} {d d' : Dev} (hc : Canonical d.mem) (hs : settle n up k d = .ok d') :
    Canonical d'.mem := by
  induction k generalizing d with
  | zero =>
    unfold settle at hs
    exact (Except.ok.inj hs) ▸ hc
  | succ k ih =>
    unfold settle at hs
    extract_lets l h e at hs
    generalize (if up then l.upBad else l.downBad) = bad at hs
    split at hs
    · exact (Except.ok.inj hs) ▸ hc
    split at hs
    · nomatch hs
    · exact ih (disagree_canonical n up hc) hs
@[simp] theorem bringUpFence_mem (n c : Nat) (d : Dev) : (bringUpFence n c d).1.mem = d.mem := by
  simp [bringUpFence]
@[simp] theorem trainLink_canonical (n : Nat) (o : LinkObs) {d : Dev} (hc : Canonical d.mem) : Canonical (trainLink n o d).1.mem := by
  unfold trainLink
  split
  · simp [hc]
  extract_lets d1
  have h1 : Canonical d1.mem := by simp [d1, hc]
  clear_value d1
  split
  · exact h1
  split
  · simp [h1]
  split
  · simp [h1]
  next hup =>
    have h2 := settle_canonical h1 hup
    split
    · simp [h2]
    next hdown => simp [settle_canonical h2 hdown]

/-! #### Counters, records and samples -/

@[simp] theorem sampleRecord_canonical (h : Nat) (o : SampleObs) {d : Dev} (hc : Canonical d.mem) : Canonical (sampleRecord h o d).mem := by
  unfold sampleRecord; dsimp only; (repeat' split) <;> simp [hc]

/-! #### Page owners and enclave commands -/

@[simp] theorem potStore_canonical (page v : Nat) {d : Dev} (hc : Canonical d.mem) : Canonical (potStore page v d).mem := by
  simp [potStore, hc]
@[simp] theorem zeroPage_canonical (page : Nat) {d : Dev} (hc : Canonical d.mem) : Canonical (zeroPage page d).mem :=
  foldl_canonical (fun _ i hd => cohWriteLine_canonical (page / 64 + i) 0 hd) _ hc
@[simp] theorem copyPage_canonical (src dst : Nat) {d : Dev} (hc : Canonical d.mem) : Canonical (copyPage src dst d).mem :=
  foldl_canonical (fun _ i hd => memWrite_canonical (dst / 64 + i) _ _ (by simpa using hd)) _ hc
@[simp] theorem changePage_canonical (v : Nat) (zero : Bool) (page : Nat) {d : Dev} (hc : Canonical d.mem) :
    Canonical (changePage v zero page d).mem := by
  have h1 : Canonical (potStore page 0x6000 d).mem := potStore_canonical page _ hc
  unfold changePage
  generalize potStore page 0x6000 d = d1 at h1
  cases zero <;> dsimp only <;> split <;> simp [h1]
@[simp] theorem refuse_dev (code result : Nat) (d : Dev) : (refuse code result d).2.2 = d := by simp [refuse]
@[simp] theorem done_dev (d : Dev) : (done d).2.2 = d := by simp [done]
@[simp] theorem cmdSetOwner_canonical (a : CmdSlot) {d : Dev} (hc : Canonical d.mem) : Canonical (cmdSetOwner a d).2.2.mem := by
  unfold cmdSetOwner
  dsimp only
  (repeat' split) <;> simp [hc]
  exact foldl_canonical (fun _ p hd => changePage_canonical _ _ p hd) _ hc
@[simp] theorem cmdEcreate_canonical (a : CmdSlot) {d : Dev} (hc : Canonical d.mem) : Canonical (cmdEcreate a d).2.2.mem := by
  unfold cmdEcreate
  dsimp only
  (repeat' split) <;> simp [hc]
  exact foldl_canonical (fun _ p hd => changePage_canonical _ _ p hd) _ hc
theorem dev_ite_canonical (c : Prop) [Decidable c] {a b : Dev} (ha : Canonical a.mem) (hb : Canonical b.mem) :
    Canonical (if c then a else b).mem := by
  split <;> assumption
@[simp] theorem cmdEadd_canonical (a : CmdSlot) {d : Dev} (hc : Canonical d.mem) : Canonical (cmdEadd a d).2.2.mem := by
  unfold cmdEadd
  extract_lets eid e ec root rep meas bad src d1 d2 d3 page
  have h1 : Canonical d1.mem := potStore_canonical _ _ hc
  have h3 : Canonical d3.mem := potStore_canonical _ _ (dev_ite_canonical _ (zeroPage_canonical _ h1) (copyPage_canonical _ _ h1))
  clear_value page d3
  (repeat' split) <;> simp [hc, h3]
theorem changePages_canonical (v : Nat) (zero : Bool) (pages : List Nat) {d : Dev} (hc : Canonical d.mem) :
    Canonical (pages.foldl (fun d p => changePage v zero p d) d).mem :=
  foldl_canonical (fun _ p hd => changePage_canonical _ _ p hd) _ hc
@[simp] theorem cmdEremove_canonical (a : CmdSlot) {d : Dev} (hc : Canonical d.mem) : Canonical (cmdEremove a d).2.2.mem := by
  unfold cmdEremove
  dsimp only
  (repeat' split) <;> simp only [refuse_dev, done_dev, updEncl_mem, hc]
  · exact changePages_canonical _ _ _ hc
  · exact changePage_canonical _ _ _ hc
@[simp] theorem cmdEinit_mem (a : CmdSlot) (d : Dev) : (cmdEinit a d).2.2.mem = d.mem := by
  unfold cmdEinit
  dsimp only
  (repeat' split) <;> simp
@[simp] theorem cmdEstop_mem (a : CmdSlot) (d : Dev) : (cmdEstop a d).2.2.mem = d.mem := by
  unfold cmdEstop
  dsimp only
  (repeat' split) <;> simp
@[simp] theorem cmdEquery_mem (a : CmdSlot) (d : Dev) : (cmdEquery a d).2.2.mem = d.mem := by
  unfold cmdEquery
  dsimp only
  split <;> simp
@[simp] theorem finishCmd_canonical (h cmd : Nat) (a : CmdSlot) {d : Dev} (hc : Canonical d.mem) : Canonical (finishCmd h cmd a d).mem := by
  unfold finishCmd
  dsimp only
  rw [updCmd_mem]
  split <;> simp [hc]
@[simp] theorem runCmd_canonical (h cmd : Nat) {d : Dev} (hc : Canonical d.mem) : Canonical (runCmd h cmd d).mem := by
  unfold runCmd; dsimp only; split <;> simp [hc]
@[simp] theorem finishCmds_canonical {d : Dev} (hc : Canonical d.mem) : Canonical (finishCmds d).mem := by
  refine foldl_canonical (fun d e hd => ?_) _ hc
  dsimp only
  split <;> simp [hd]
@[simp] theorem onHart_canonical (h : Nat) {f : Dev → Dev} {d : Dev} (hf : Canonical (f d).mem) (hc : Canonical d.mem) :
    Canonical (onHart h f d).mem := by
  unfold onHart
  split <;> assumption
@[simp] theorem hartCmd_canonical (h cmd : Nat) {d : Dev} (hc : Canonical d.mem) : Canonical (hartCmd h cmd d).mem := by
  refine onHart_canonical h ?_ hc
  split <;> simp [hc]
@[simp] theorem holdWrite_canonical (r v : Nat) {d : Dev} (hc : Canonical d.mem) : Canonical (holdWrite r v d).mem := by
  unfold holdWrite
  split
  · refine releaseRest_canonical ?_
    split <;> exact hc
  · exact hc
@[simp] theorem iofence_canonical (av : Bool) (addr data : Nat) {d : Dev} (hc : Canonical d.mem) : Canonical (iofence av addr data d).mem := by
  simp [iofence, hc]

/-! #### Checkpoints and snapshots -/

@[simp] theorem writeSlots_canonical {d : Dev} (hc : Canonical d.mem) : Canonical (writeSlots d).mem := by
  refine foldl_canonical (fun d e hd => foldl_canonical (fun d s hd => ?_) _ ?_) _ hc
  · split <;> simp [hd]
  · split <;> simp [hd]
/-- The bytes written are arguments here, so that the kernel has no snapshot to evaluate. -/
theorem foldl_writeChanged_canonical (a : Dev → Nat → Nat) (bs : Dev → Nat → List Byte) (l : List Nat) {d : Dev} (hc : Canonical d.mem) :
    Canonical (l.foldl (fun d b => writeChanged (a d b) (bs d b) d) d).mem := foldl_canonical (fun _ _ => writeChanged_canonical _ _) l hc
@[simp] theorem writeSnaps_canonical {d : Dev} (hc : Canonical d.mem) : Canonical (writeSnaps d).mem := by
  rw [writeSnaps]
  exact foldl_writeChanged_canonical benchSnapBase _ _ (writeChanged_canonical _ _ hc)

/-! #### The mirror -/

@[simp] theorem placeLine_canonical (b : List Byte) {d : Dev} (hc : Canonical d.mem) : Canonical (placeLine b d).mem := by
  simp [placeLine, hc]
@[simp] theorem applyRec_canonical (kerf : Nat) (r : Nat × List Byte) {d : Dev} (hc : Canonical d.mem) : Canonical (applyRec kerf r d).mem := by
  simp [applyRec, hc]
@[simp] theorem judgeSeal_canonical (b : List Byte) {d : Dev} (hc : Canonical d.mem) : Canonical (judgeSeal b d).mem := by
  unfold judgeSeal
  extract_lets k lines outs off d1 mine rest1 rest2 d2 d3 d4 d5 d6
  have h1 : d1.mem = d.mem := updMirror_mem ..
  split
  · have h2 : Canonical d2.mem := by rwa [updMirror_mem, h1]
    have h3 : Canonical d3.mem := foldl_canonical (fun _ s hd => foldl_canonical (fun _ r hd => applyRec_canonical k (s, r) hd) _ hd) _ h2
    have h4 : Canonical d4.mem := foldl_canonical (fun _ r hd => applyRec_canonical k (16, r) hd) _ h3
    rw [sendDowel_mem]
    exact foldl_canonical (fun _ h hd => takeOffline_canonical h hd) _ h4
  · simp [d6, h1, hc]
@[simp] theorem logRec_canonical (key : Nat) (b : List Byte) {d : Dev} (hc : Canonical d.mem) : Canonical (logRec key b d).mem := by
  unfold logRec; dsimp only; split <;> simp [hc]
@[simp] theorem lineArrives_canonical (epoch line : Nat) (poison : Bool) (data : Line) {d : Dev} (hc : Canonical d.mem) :
    Canonical (lineArrives epoch line poison data d).mem := by
  unfold lineArrives; (repeat' split) <;> simp [hc]
@[simp] theorem copyArrives_canonical (epoch line : Nat) (poison : Bool) (data : Line) {d : Dev} (hc : Canonical d.mem) :
    Canonical (copyArrives epoch line poison data d).mem := by
  simp [copyArrives, hc]
@[simp] theorem outputArrives_canonical (rp kind oseq addr : Nat) (data : List Byte) {d : Dev} (hc : Canonical d.mem) :
    Canonical (outputArrives rp kind oseq addr data d).mem := by
  simp [outputArrives, hc]
@[simp] theorem entryArrives_canonical (idx sub total off : Nat) (v : List Byte) {d : Dev} (hc : Canonical d.mem) :
    Canonical (entryArrives idx sub total off v d).mem := by
  simp [entryArrives, hc]
@[simp] theorem sealArrives_canonical (kerf : Nat) (counts : List Nat) (outs : Nat) (digest : List Byte) (offline : List Nat) {d : Dev}
    (hc : Canonical d.mem) :
    Canonical (sealArrives kerf counts outs digest offline d).mem := by
  unfold sealArrives; split <;> simp [hc]
@[simp] theorem cutCkpt_canonical (kerf : Nat) (full : Bool) (h : Nat) {d : Dev} (hc : Canonical d.mem) : Canonical (cutCkpt kerf full h d).mem := by
  unfold cutCkpt; split <;> simp [hc]
@[simp] theorem cleanDie_canonical (n : Nat) {d : Dev} (hc : Canonical d.mem) : Canonical (cleanDie n d).mem := by
  rw [cleanDie, updDie_mem]
  refine foldl_canonical (fun d l hd => ?_) _ (foldl_canonical (fun d e hd => memWrite_canonical _ _ _ hd) _ hc)
  split
  · split <;> simp [hd]
  · exact hd
@[simp] theorem mirrorStep1_canonical (k : Nat) {d : Dev} (hc : Canonical d.mem) : Canonical (mirrorStep1 k d).mem := by
  unfold mirrorStep1
  split
  · dsimp only
    rw [reissue_mem]
    refine foldl_canonical (fun _ n hd => cleanDie_canonical n hd) _ (writeSnaps_canonical (writeSlots_canonical ?_))
    exact foldl_canonical (fun _ h hd => cutCkpt_canonical _ _ h hd) _ (by simpa using hc)
  · exact hc

/-! #### Rules of the list -/

@[simp] theorem immNum_canonical (u : UcieObs) (idx sub v : Nat) {d : Dev} (hc : Canonical d.mem) : Canonical (immNum u idx sub v d).mem := by
  unfold immNum
  extract_lets on
  have hon {f : Dev → Dev} (hf : Canonical (f d).mem) : Canonical (on f).mem := by
    simp only [on]
    split <;> assumption
  clear_value on
  (repeat' split) <;> simp [hon, hc]

/-! #### The list server -/

@[simp] theorem runFits_mem (trig : Nat × Nat) (fs : List (Nat × Nat × Fit)) (d : Dev) : (runFits trig fs d).2.mem = d.mem :=
  foldl_mem (fun _ _ => recordFit_mem ..) fs d
@[simp] theorem writePlain_canonical (sess : Nat) (p : PartnerObs) (u : UcieObs) (r : EntryRow) (idx sub : Nat) (v : Val) {d : Dev}
    (hc : Canonical d.mem) :
    Canonical (writePlain sess p u r idx sub v d).2.2.mem := by
  unfold writePlain
  extract_lets tent fs x
  have hx : Canonical x.2.mem := by simp [x, hc]
  clear_value x fs
  (repeat' split) <;> simp [hx]
@[simp] theorem writeOne_mem (st : Nat × Nat) (f : Fit) (idx sub : Nat) (d : Dev) : (writeOne st f idx sub d).2.2.mem = d.mem := by
  unfold writeOne
  dsimp only
  split <;> simp
@[simp] theorem writeEnable_mem (st : Nat × Nat) (f : Fit) (idx sub v : Nat) (d : Dev) : (writeEnable st f idx sub v d).2.2.mem = d.mem := by
  unfold writeEnable
  split <;> simp
@[simp] theorem writeMsc_mem (sub v : Nat) (d : Dev) : (writeMsc sub v d).2.2.mem = d.mem := by
  unfold writeMsc
  dsimp only
  (repeat' split) <;> simp
@[simp] theorem writeVal_canonical (sess : Nat) (p : PartnerObs) (u : UcieObs) (r : EntryRow) (idx sub : Nat) (v : List Byte)
    {d : Dev} (hc : Canonical d.mem) :
    Canonical (writeVal sess p u r idx sub v d).2.2.mem := by
  unfold writeVal
  split
  · simp [hc]
  · split <;> simp [hc]
@[simp] theorem writeMsg_canonical (m : ListMsg) (p : PartnerObs) (u : UcieObs) (n : Nat) (x : Session) {d : Dev} (hc : Canonical d.mem) :
    Canonical (writeMsg m p u n x d).mem := by
  unfold writeMsg
  extract_lets b idx sub v code
  clear_value code v sub idx
  (repeat' split) <;> simp [hc]
@[simp] theorem writeEnd_canonical (m : ListMsg) (p : PartnerObs) (n : Nat) (x : Session) {d : Dev} (hc : Canonical d.mem) :
    Canonical (writeEnd m p n x d).mem := by
  unfold writeEnd
  dsimp only
  (repeat' split) <;> simp [hc]
@[simp] theorem onList_canonical (m : ListMsg) (op : Nat) {f : Nat → Session → Dev → Dev} {d : Dev}
    (hf : ∀ n x, Canonical (f n x d).mem) (hc : Canonical d.mem) :
    Canonical (onList m op f d).mem := by
  unfold onList
  (repeat' split) <;> simp [hf, hc]
@[simp] theorem writeTo_canonical (sess : Option SessN) (tag idx sub size v : Nat) (u : UcieObs) {d : Dev} (hc : Canonical d.mem) :
    Canonical (writeTo sess tag idx sub size v u d).mem := onList_canonical _ _ (fun n x => writeMsg_canonical _ _ _ n x hc) hc
@[simp] theorem writeWhole_canonical (sess : Option SessN) (tag idx sub : Nat) (v : List Byte) {d : Dev} (hc : Canonical d.mem) :
    Canonical (writeWhole sess tag idx sub v d).mem := by
  unfold writeWhole
  extract_lets vendor msg m3 d1 m4 d2
  have h1 : Canonical d1.mem := by simp [d1, hc]
  have h2 : Canonical d2.mem := by
    unfold d2
    split <;> simp [h1]
  clear_value d2 d1
  split
  · split
    · split
      · exact onList_canonical _ _ (fun n x => writeEnd_canonical _ _ n x h2) h2
      · exact h1
    · exact h1
  · exact h1
@[simp] theorem listOp_canonical (op : Nat) (m : ListMsg) (p : PartnerObs) (u : UcieObs) {d : Dev} (hc : Canonical d.mem) :
    Canonical (listOp op m p u d).mem := by
  unfold listOp
  split <;> simp [hc]
@[simp] theorem runJob_canonical (j : ListJob) {d : Dev} (hc : Canonical d.mem) : Canonical (runJob j d).mem := by
  unfold runJob; split <;> simp [hc]
@[simp] theorem listJob_canonical (j : ListJob) {d : Dev} (hc : Canonical d.mem) : Canonical (listJob j d).mem := by
  simp [listJob, hc]
@[simp] theorem runHeld_canonical {d : Dev} (hc : Canonical d.mem) : Canonical (runHeld d).mem :=
  foldl_canonical (fun _ j hd => runJob_canonical j hd) _ hc

/-! #### MCTP -/

@[simp] theorem mctpOwn_canonical (typ : Nat) (body : List Byte) (sess : Option SessN) (p : PartnerObs) (u : UcieObs) {d : Dev}
    (hc : Canonical d.mem) :
    Canonical (mctpOwn typ body sess p u d).mem := by
  unfold mctpOwn; split <;> simp [hc]
@[simp] theorem mctp_canonical (b : McBinding) (src dst typ : Nat) (body : List Byte) (sess : Option SessN) (p : PartnerObs) (u : UcieObs)
    {d : Dev} (hc : Canonical d.mem) :
    Canonical (mctp b src dst typ body sess p u d).mem := by
  unfold mctp; (repeat' split) <;> simp [hc]

/-! #### The kerf -/

@[simp] theorem keyStore_canonical (b : Nat) {d : Dev} (hc : Canonical d.mem) : Canonical (keyStore b d).mem := by
  unfold keyStore
  split
  · simp [hc]
  · extract_lets d1 d2 x
    have h1 : d1.mem = d.mem := by simp [d1]
    have h2 : Canonical d2.mem := foldl_canonical (fun _ g hd => changePage_canonical _ _ g hd) _ (h1 ▸ hc)
    split <;> simp [h2]
@[simp] theorem benchOn_canonical (b : Nat) {d : Dev} (hc : Canonical d.mem) : Canonical (benchOn b d).mem := by
  unfold benchOn; split <;> simp [hc]
@[simp] theorem swapEffect_canonical (p : PartnerObs) (old : Dev) (idx sub : Nat) (v : Val) {d : Dev} (hc : Canonical d.mem) :
    Canonical (swapEffect p old idx sub v d).mem := by
  unfold swapEffect; (repeat' split) <;> simp [hc]
@[simp] theorem swapValues_canonical (p : PartnerObs) {d : Dev} (hc : Canonical d.mem) : Canonical (swapValues p d).mem := by
  unfold swapValues
  refine foldl_canonical (fun x e hx => ?_) _ ?_
  · split <;> simp [hx]
  · simp [hc]
@[simp] theorem stopRetiring_canonical (h : Nat) {d : Dev} (hc : Canonical d.mem) : Canonical (stopRetiring h d).mem := by
  simp [stopRetiring, hc]
@[simp] theorem swap_canonical (p : PartnerObs) {d : Dev} (hc : Canonical d.mem) : Canonical (swap p d).mem := by
  unfold swap
  refine foldl_canonical (fun d h hd => stopRetiring_canonical h (by simpa using hd)) _ ?_
  have h1 : Canonical (swapValues p (takePaired d)).mem := swapValues_canonical p (by simpa using hc)
  simp [h1]
@[simp] theorem mirrorSteps_canonical (o : KerfObs) {d : Dev} (hc : Canonical d.mem) : Canonical (mirrorSteps o d).mem := by
  simp [mirrorSteps, hc]
@[simp] theorem afterCut_canonical (o : KerfObs) {d : Dev} (hc : Canonical d.mem) : Canonical (afterCut o d).mem := by
  refine runHeld_canonical ?_
  rw [stepSeven_mem, snapshots_mem, gaugeStep_mem, planStep_mem]
  exact swap_canonical _ (mirrorSteps_canonical o hc)
@[simp] theorem kerfCut_canonical (o : KerfObs) {d : Dev} (hc : Canonical d.mem) : Canonical (kerfCut o d).mem := by
  unfold kerfCut; (repeat' split) <;> simp [hc]
@[simp] theorem resumeCut_canonical {d : Dev} (hc : Canonical d.mem) : Canonical (resumeCut d).mem := by
  unfold resumeCut; split <;> simp [hc]

/-! #### Stages of the bring-up -/

@[simp] theorem applyImageRec_canonical (r : ImgRec) {d : Dev} (hc : Canonical d.mem) : Canonical (applyImageRec r d).mem := by
  unfold applyImageRec; (repeat' split) <;> simp [hc]
@[simp] theorem apply_canonical {d : Dev} (hc : Canonical d.mem) : Canonical (apply d).mem := by
  unfold apply
  split
  · simp [hc]
  · extract_lets cleared d0 keys d1 mc d2 d3
    split
    · have h1 : Canonical d1.mem := foldl_canonical (fun _ r hd => applyImageRec_canonical r hd) _ hc
      simp [d3, d2, h1]
    · simp [hc]
@[simp] theorem tenonStage_canonical (obs : List LinkObs) {d : Dev} (hc : Canonical d.mem) : Canonical (tenonStage obs d).mem := by
  unfold tenonStage
  extract_lets one r
  have hr : Canonical r.1.mem :=
    List.foldlRecOn _ one hc (motive := fun r : Dev × Option Nat => Canonical r.1.mem) (fun r hr n _ => trainLink_canonical n _ hr)
  split <;> simp [hr]
@[simp] theorem freshDram_canonical {d : Dev} (hc : Canonical d.mem) : Canonical (freshDram d).mem := by
  unfold freshDram
  (repeat' split) <;> simp [hc]
@[simp] theorem trainChan_mem (n : Nat) (eye : Bool) (d : Dev) : (trainChan n eye d).1.mem = d.mem := by
  unfold trainChan
  dsimp only
  (repeat' split) <;> simp
@[simp] theorem dramStage_canonical (obs : List DimmSeen) {d : Dev} (hc : Canonical d.mem) : Canonical (dramStage obs d).mem := by
  unfold dramStage
  extract_lets seen d1 one r
  have h1 : Canonical d1.mem := by simp [d1, hc]
  have hr : Canonical r.1.mem := by
    refine List.foldlRecOn _ one h1 (motive := fun r : Dev × Nat => Canonical r.1.mem) (fun r hr n _ => ?_)
    simpa [one] using hr
  split <;> simp [hr]
@[simp] theorem clearPot_canonical (base size : Nat) {d : Dev} (hc : Canonical d.mem) : Canonical (clearPot base size d).mem := by
  unfold clearPot
  dsimp only
  split
  · exact tabWfFrom_filter (0 : Byte) _ d.mem 0 hc
  · exact setMem_canonical _ _ hc
@[simp] theorem hubStores_canonical (faults : List HubFault) {d : Dev} (hc : Canonical d.mem) : Canonical (hubStores faults d).mem := by
  simp [hubStores, hc]
@[simp] theorem loadSections_canonical {d : Dev} (hc : Canonical d.mem) : Canonical (loadSections d).mem := by
  unfold loadSections
  dsimp only
  split
  · rw [stageDone_mem]
    exact foldl_canonical (fun _ s hd => cohWrite_canonical _ _ hd) _ hc
  · simp [hc]
@[simp] theorem releaseWorlds_canonical {d : Dev} (hc : Canonical d.mem) : Canonical (releaseWorlds d).1.mem := by
  unfold releaseWorlds
  extract_lets f d1
  have h1 : Canonical d1.mem := by simp [d1, hc]
  clear_value d1
  split
  · split
    · exact h1
    · exact foldl_canonical (fun _ r hd => foldl_canonical (fun _ p hd => changePage_canonical _ _ p hd) _ hd) _ h1
  · simp [h1]
@[simp] theorem releaseEnable_canonical (p : PartnerObs) (k : Nat × Nat) {d : Dev} (hc : Canonical d.mem) : Canonical (releaseEnable p k d).mem := by
  unfold releaseEnable; (repeat' split) <;> simp [hc]
@[simp] theorem release_canonical (cores : List CoreObs) (tjHub : Nat) (p : PartnerObs) {d : Dev} (hc : Canonical d.mem) :
    Canonical (release cores tjHub p d).mem := by
  unfold release
  have h1 : Canonical (releaseWorlds (planZero cores tjHub (releaseLedger d))).1.mem := by simp [hc]
  dsimp only
  split
  · simp [h1]
  · rw [releaseHarts_mem]
    exact foldl_canonical (fun _ k hd => releaseEnable_canonical p k hd) _ h1
@[simp] theorem heldState_canonical {d : Dev} (hc : Canonical d.mem) : Canonical (heldState d).mem := by
  unfold heldState
  split
  · extract_lets hi d1 d2 d3 d4
    have h1 : Canonical d1.mem := foldl_canonical (fun _ b hd => benchZeroise_canonical b hd) _ hc
    have h2 : Canonical d2.mem := by
      refine foldl_canonical (fun d n hd => ?_) _ h1
      split <;> simp [hd]
    have h4 : Canonical d4.mem := by simp [d4, d3, h2]
    split <;> simp [h4]
  · exact hc

/-! #### Resets -/

@[simp] theorem clearPackage_canonical (phase : BootPhase) (d : Dev) : Canonical (clearPackage phase d).mem := rfl
@[simp] theorem powerOff_canonical (d : Dev) : Canonical (powerOff d).mem := by
  simp [powerOff]
@[simp] theorem resetPackage_canonical {d : Dev} (hc : Canonical d.mem) : Canonical (resetPackage d).mem := by
  simp [resetPackage, hc]
@[simp] theorem packageReset_canonical {d : Dev} (hc : Canonical d.mem) : Canonical (packageReset d).mem := by
  simp [packageReset, hc]
@[simp] theorem warmBench_canonical (b : Nat) {d : Dev} (hc : Canonical d.mem) : Canonical (warmBench b d).mem := by
  simp [warmBench, hc]
@[simp] theorem writeBackAll_canonical {d : Dev} (hc : Canonical d.mem) : Canonical (writeBackAll d).mem :=
  foldl_canonical (fun _ l hx => dramStore_canonical l _ _ hx) _ hc
@[simp] theorem zeroProtected_canonical {d : Dev} (hc : Canonical d.mem) : Canonical (zeroProtected d).mem := by
  refine foldl_canonical (fun d p hd => setMem_canonical p _ ?_) _ hc
  exact hd
@[simp] theorem warmReset_canonical {d : Dev} (hc : Canonical d.mem) : Canonical (warmReset d).mem := by
  unfold warmReset
  extract_lets d1 d2 d3
  have h1 : Canonical d1.mem := by simp [d1, hc]
  have h2 : Canonical d2.mem := foldl_canonical (fun _ b hd => warmBench_canonical b hd) _ h1
  have h3 : Canonical d3.mem := zeroProtected_canonical (writeBackAll_canonical h2)
  clear_value d3
  exact h3
@[simp] theorem warmRequest_canonical {d : Dev} (hc : Canonical d.mem) : Canonical (warmRequest d).mem := by
  simp [warmRequest, hc]
@[simp] theorem hubResetWrite_canonical (h v : Nat) {d : Dev} (hc : Canonical d.mem) : Canonical (hubResetWrite h v d).mem := by
  unfold hubResetWrite; (repeat' split) <;> simp [hc]

/-! #### Accesses to the hub -/

@[simp] theorem slotWrite_canonical (h off size v : Nat) {d : Dev} (hc : Canonical d.mem) : Canonical (slotWrite h off size v d).mem := by
  unfold slotWrite; split <;> simp [hc]
@[simp] theorem hubWrite_canonical (h addr size v : Nat) {d : Dev} (hc : Canonical d.mem) : Canonical (hubWrite h addr size v d).mem := by
  unfold hubWrite; dsimp only; (repeat' split) <;> simp [hc]
@[simp] theorem ncwrArrives_canonical (m : FMsg) {d : Dev} (hc : Canonical d.mem) : Canonical (ncwrArrives m d).mem := by
  unfold ncwrArrives; dsimp only; split <;> simp [hc]
@[simp] theorem registerWrite_canonical (t : RegTarget) (v : Nat) {d : Dev} (hc : Canonical d.mem) : Canonical (registerWrite t v d).mem := by
  unfold registerWrite
  split
  case h_2 =>
    split
    · exact onHart_canonical _ (hubWrite_canonical _ _ _ _ hc) hc
    · exact hc
  all_goals (repeat' split) <;> simp [hc]

/-! #### The debug module -/

@[simp] theorem pbAccess_canonical {h : Nat} {write : Bool} {va size val : Nat} {d : Dev} {r : Nat × Dev} (hc : Canonical d.mem)
    (hp : pbAccess h write va size val d = some r) : Canonical r.2.mem := by
  unfold pbAccess at hp
  dsimp only at hp
  (repeat' split at hp) <;> simp only [Option.some.injEq, reduceCtorEq] at hp <;> subst hp <;> simp [hc]
@[simp] theorem pbStep_canonical {h : Nat} {op : PbOp} {d d' : Dev} (hc : Canonical d.mem) (hp : pbStep h op d = some d') : Canonical d'.mem := by
  unfold pbStep at hp
  cases op with
  | load rd rs1 imm size signed =>
    obtain ⟨r, hr, rfl⟩ := Option.map_eq_some_iff.1 hp
    simp [pbAccess_canonical hc hr]
  | store rs2 rs1 imm size =>
    obtain ⟨r, hr, rfl⟩ := Option.map_eq_some_iff.1 hp
    exact pbAccess_canonical hc hr
  | csrRead rd n =>
    obtain ⟨-, h⟩ := Option.ite_none_right_eq_some.1 hp
    obtain rfl := Option.some.inj h
    simp [hc]
  | csrWrite rs1 n =>
    obtain ⟨-, h⟩ := Option.ite_none_right_eq_some.1 hp
    obtain rfl := Option.some.inj h
    simp [hc]
  | ebreak =>
    obtain rfl := Option.some.inj hp
    exact hc
@[simp] theorem pbRun_canonical (h : Nat) (ops : List PbOp) {d : Dev} (hc : Canonical d.mem) : Canonical (pbRun h ops d).2.mem := by
  induction ops generalizing d with
  | nil => exact hc
  | cons op r ih =>
    cases op
    case ebreak => exact hc
    all_goals
      simp only [pbRun]
      split
      next hs => exact ih (pbStep_canonical hc hs)
      · exact hc
@[simp] theorem programBuffer_canonical (h : Nat) (ops : List PbOp) {d : Dev} (hc : Canonical d.mem) : Canonical (programBuffer h ops d).mem := by
  unfold programBuffer
  split <;> simp [hc]
@[simp] theorem systemBus_canonical (addr size : Nat) (write : Bool) (v : Nat) {d : Dev} (hc : Canonical d.mem) :
    Canonical (systemBus addr size write v d).mem := by
  unfold systemBus; (repeat' split) <;> simp [hc]

/-! #### Flits -/

@[simp] theorem deliverMsg_canonical (m : FMsg) {d : Dev} (hc : Canonical d.mem) : Canonical (deliverMsg m d).mem := by
  unfold deliverMsg; split <;> simp [hc]
@[simp] theorem messageFlit_canonical (n : Nat) (up : Bool) (f : List Byte) {d : Dev} (hc : Canonical d.mem) :
    Canonical (messageFlit n up f d).mem := by
  unfold messageFlit; split <;> simp [hc]
@[simp] theorem controlFlit_canonical (n : Nat) (up : Bool) (f : List Byte) {d : Dev} (hc : Canonical d.mem) :
    Canonical (controlFlit n up f d).mem := by
  simp [controlFlit, hc]
@[simp] theorem flitArrives_canonical (n : Nat) (up : Bool) (f : List Byte) {d : Dev} (hc : Canonical d.mem) :
    Canonical (flitArrives n up f d).mem := by
  unfold flitArrives; dsimp only; (repeat' split) <;> simp [hc]

/-! #### An idle step -/

@[simp] theorem cxlAnswers_canonical {d : Dev} (hc : Canonical d.mem) : Canonical (cxlAnswers d).mem :=
  have hstep (d : Dev) (e : Nat × Nat) (hd : Canonical d.mem) := cxlAnswer_canonical e.1 e.2 false hd
  foldl_canonical hstep _ hc
@[simp] theorem tickKerf_canonical {d : Dev} (hc : Canonical d.mem) : Canonical (tickKerf d).mem := by
  unfold tickKerf; dsimp only; split <;> simp [hc]
@[simp] theorem idle_canonical {d : Dev} (hc : Canonical d.mem) : Canonical (idle d).mem := by
  unfold idle
  split
  · exact hc
  · refine tickKerf_canonical ?_
    rw [tickSegment_mem, tickJunctions_mem, tickHarts_mem]
    refine finishCmds_canonical ?_
    rw [copyStep_mem]
    exact cxlAnswers_canonical hc

end Sys2Proof.Proofs
end

section
namespace Sys2Proof.Proofs

open Sys2Proof.Machine

/-! ### Memory through every command -/

@[simp] theorem overLink_canonical (m : FMsg) {f : Dev → Dev} {d : Dev} (hf : Canonical (f d).mem) (hc : Canonical d.mem) :
    Canonical (overLink m f d).mem := by unfold overLink; split <;> assumption
@[simp] theorem onStage_canonical (n : Nat) {f : Dev → Dev} {d : Dev} (hf : Canonical (f d).mem) (hc : Canonical d.mem) :
    Canonical (onStage n f d).mem := by unfold onStage; split <;> assumption
@[simp] theorem onTarget_canonical {f : Dev → Dev} {d : Dev} (hf : Canonical (f d).mem) (hc : Canonical d.mem) :
    Canonical (onTarget f d).mem := by unfold onTarget; split <;> assumption
@[simp] theorem onSegment_canonical {f : Dev → Dev} {d : Dev} (hf : Canonical (f d).mem) (hc : Canonical d.mem) :
    Canonical (onSegment f d).mem := by unfold onSegment; split <;> assumption
@[simp] theorem onSpdm_canonical {f : Dev → Dev} {d : Dev} (hf : Canonical (f d).mem) (hc : Canonical d.mem) :
    Canonical (onSpdm f d).mem := by unfold onSpdm; split <;> assumption
@[simp] theorem inSess_canonical (n : Nat) {f : Session → Dev → Dev} {d : Dev} (hf : ∀ x, Canonical (f x d).mem) (hc : Canonical d.mem) :
    Canonical (inSess n f d).mem := by
  unfold inSess
  refine onSpdm_canonical ?_ hc
  split <;> simp [hf, hc]
@[simp] theorem barWrite_canonical (h b f : Nat) {act : Dev → Dev} {d : Dev} (ha : Canonical (act d).mem) (hc : Canonical d.mem) :
    Canonical (barWrite h b f act d).mem := by
  unfold barWrite; (repeat' split) <;> simp [ha, hc]
@[simp] theorem fenceDo_canonical (h ok w : Nat) {f : Dev → Dev} {d : Dev} (hf : Canonical (f (countHart h 0x16 d)).mem) (hc : Canonical d.mem) :
    Canonical (fenceDo h ok w f d).mem := by
  unfold fenceDo; split <;> simp [hf, hc]
@[simp] theorem invalFence_canonical (h w : Nat) {f : Dev → Dev} {d : Dev} (hf : Canonical (f d).mem) (hc : Canonical d.mem) :
    Canonical (invalFence h w f d).mem := by
  unfold invalFence; split <;> simp [hf, hc]
@[simp] theorem inlayUp_canonical (s op : Nat) (hdr : BitVec 128) {f : InlayHdr → Dev → Dev} {d : Dev}
    (hf : ∀ q, Canonical (f q d).mem) (hc : Canonical d.mem) :
    Canonical (inlayUp s op hdr f d).mem := by
  unfold inlayUp; dsimp only; (repeat' split) <;> simp [hf, hc]

theorem onDev_canonical {f : Dev → Dev} {s t : State} (hf : Canonical (f s.dev).mem) (h : onDev f s = .next t) : Canonical t.dev.mem := by
  cases h
  exact hf

/-- A command is its meaning applied to the device (`onDev`), and each meaning keeps the canonical form by the lemma about it. -/
theorem exec_canonical (i : Instr) {s t : State} (hc : Canonical s.dev.mem) (h : exec i s = .next t) : Canonical t.dev.mem := by
  cases i <;> dsimp only [exec] at h <;> refine onDev_canonical ?_ h
  case warmReset => refine onHart_canonical _ ?_ hc; split <;> simp [hc]
  case packageResetRequest => refine onHart_canonical _ ?_ hc; split <;> simp [hc]
  case holdRegisterWrite => refine onHart_canonical _ ?_ hc; split <;> simp [hc]
  all_goals simp [hc]

/-- Settles O4: a step is the front command, or the idle step of an empty queue, and both keep the canonical form. -/
theorem everyStepKeepsMemoryCanonical : Obligations.EveryStepKeepsMemoryCanonical := by
  unfold Obligations.EveryStepKeepsMemoryCanonical
  intro s t hc h
  rw [memCanonical_iff] at hc ⊢
  unfold step at h
  split at h
  · refine exec_canonical _ ?_ h
    exact hc
  · cases h
    exact idle_canonical hc

end Sys2Proof.Proofs
end

section
namespace Sys2Proof.Proofs

open Sys2Proof.Machine

/-! ### What leaves the record of the bring-up alone -/
/-- Where the step may be taken, it leaves the bring-up record `b`. -/
def OptBoot (b : Boot) (o : Option Dev) : Prop := ∀ d ∈ o, d.boot = b
@[simp] theorem foldl_boot {β : Type} {f : Dev → β → Dev} (h : ∀ d b, (f d b).boot = d.boot) (l : List β) (d : Dev) : (l.foldl f d).boot = d.boot :=
  foldl_keeps Dev.boot f h l d
@[simp] theorem ite_boot (c : Prop) [Decidable c] (a b : Dev) : (if c then a else b).boot = if c then a.boot else b.boot := apply_ite Dev.boot c a b
@[simp] theorem foldr_boot {β : Type} {f : β → Dev → Dev} (h : ∀ b d, (f b d).boot = d.boot) (l : List β) (d : Dev) :
    (l.foldr f d).boot = d.boot := by
  induction l with
  | nil => rfl
  | cons b l ih => rw [List.foldr_cons, h, ih]

/-! #### Shared operations -/

@[simp] theorem emitAll_boot (os : List Out) (d : Dev) : (emitAll os d).boot = d.boot := by rfl
@[simp] theorem countHartN_boot (h c n : Nat) (d : Dev) : (countHartN h c n d).boot = d.boot := by
  unfold countHartN
  split <;> simp
@[simp] theorem countHart_boot (h c : Nat) (d : Dev) : (countHart h c d).boot = d.boot := by simp [countHart]
@[simp] theorem mcWrite_boot (e : McEvent) (d : Dev) : (mcWrite e d).boot = d.boot := by simp [mcWrite]

/-! #### The Dowel -/

@[simp] theorem sendDowel_boot (typ : Nat) (body : List Byte) (d : Dev) : (sendDowel typ body d).boot = d.boot := by rfl
@[simp] theorem mirrorLine_boot (line : Nat) (data : Line) (poison : Bool) (d : Dev) :
    (mirrorLine line data poison d).boot = d.boot := by simp [mirrorLine]

/-! #### Memory -/

@[simp] theorem setMem_boot (a : Nat) (bs : List Byte) (d : Dev) : (setMem a bs d).boot = d.boot := by simp [setMem]
@[simp] theorem dramStore_boot (line : Nat) (data : Line) (poison : Bool) (d : Dev) :
    (dramStore line data poison d).boot = d.boot := by simp [dramStore]
@[simp] theorem wqIssueOldest_boot (k : Nat) (d : Dev) : (wqIssueOldest k d).boot = d.boot := by
  unfold wqIssueOldest
  split <;> simp
@[simp] theorem wqMark_boot (k : Nat) (d : Dev) : (wqMark k d).boot = d.boot := by simp [wqMark]
@[simp] theorem chanWrite_boot (line : Nat) (data : Line) (poison : Bool) (d : Dev) :
    (chanWrite line data poison d).boot = d.boot := by simp [chanWrite]
@[simp] theorem mscPut_boot (line : Nat) (e : Option MscLine) (d : Dev) : (mscPut line e d).boot = d.boot := by rfl
@[simp] theorem evbFree_boot (line : Nat) (d : Dev) : (evbFree line d).boot = d.boot := by rfl
@[simp] theorem evbDrainOne_boot (n : Nat) (d : Dev) : (evbDrainOne n d).boot = d.boot := by
  unfold evbDrainOne
  split <;> simp
@[simp] theorem mscVictim_boot (e : MscLine) (d : Dev) : (mscVictim e d).boot = d.boot := by simp [mscVictim]
@[simp] theorem mscPlace_boot (line : Nat) (data : Line) (dirty poison : Bool) (d : Dev) : (mscPlace line data dirty poison d).boot = d.boot := by
  unfold mscPlace
  split <;> simp
@[simp] theorem mscServe_boot {line : Nat} {d : Dev} {r : (Line × Bool) × Dev} (hs : mscServe line d = some r) : r.2.boot = d.boot := by
  unfold mscServe at hs
  grind [countSlice_boot, mscPlace_boot, evbFree_boot]
@[simp] theorem mscFill_boot (line : Nat) (data : Line) (poison : Bool) (d : Dev) : (mscFill line data poison d).boot = d.boot := by
  simp [mscFill]
@[simp] theorem mscWrite_boot (line : Nat) (data : Line) (poison : Bool) (d : Dev) : (mscWrite line data poison d).boot = d.boot := by
  unfold mscWrite
  split
  · simp
  · dsimp only
    split <;> simp
@[simp] theorem memWrite_boot (line : Nat) (data : Line) (poison : Bool) (d : Dev) : (memWrite line data poison d).boot = d.boot := by
  unfold memWrite
  split <;> simp

/-! #### The cache of a die -/

@[simp] theorem updBundle_boot (n : Nat) (up : Bool) (f : Bundle → Bundle) (d : Dev) : (updBundle n up f d).boot = d.boot := by rfl
@[simp] theorem drainBundle_boot (n : Nat) (up : Bool) (d : Dev) : (drainBundle n up d).boot = d.boot := by simp [drainBundle]
@[simp] theorem sendWake_boot (n : Nat) (d : Dev) : (sendWake n d).boot = d.boot := by simp [sendWake]
@[simp] theorem send_boot (up : Bool) (m : FMsg) (d : Dev) : (send up m d).boot = d.boot := by simp [send]
@[simp] theorem wbRelease_boot (n line : Nat) (d : Dev) : (wbRelease n line d).boot = d.boot := by
  unfold wbRelease
  split <;> simp
@[simp] theorem killCore_boot (h line : Nat) (d : Dev) : (killCore h line d).boot = d.boot := by simp [killCore]
@[simp] theorem killLine_boot (n line : Nat) (d : Dev) : (killLine n line d).boot = d.boot := by simp [killLine]
@[simp] theorem loseResv_boot (n line : Nat) (but : Option Nat) (d : Dev) : (loseResv n line but d).boot = d.boot := by
  refine foldl_boot (fun d h => ?_) _ _
  split
  · simp
  · rfl
@[simp] theorem dropDieLine_boot (n line : Nat) (d : Dev) : (dropDieLine n line d).boot = d.boot := by
  unfold dropDieLine
  split <;> simp
@[simp] theorem linkWakes_boot (n : Nat) (d : Dev) : (linkWakes n d).boot = d.boot := by simp [linkWakes]
@[simp] theorem wakeForSnoop_boot (n : Nat) (needs : Nat → Bool) (d : Dev) : (wakeForSnoop n needs d).boot = d.boot := by simp [wakeForSnoop]

/-! #### The fabric: messages, trackers and the directory -/

@[simp] theorem killDone_boot (n txid line : Nat) (d : Dev) : (killDone n txid line d).boot = d.boot := by simp [killDone]
@[simp] theorem answerAck_boot (n : Nat) (m : FMsg) (op : Op) (held dirty kp : Bool) (d : Dev) :
    (answerAck n m op held dirty kp d).boot = d.boot := by
  simp [answerAck]
@[simp] theorem answerData_boot (n : Nat) (m : FMsg) (data : Line) (poison dirty kp : Bool) (d : Dev) :
    (answerData n m data poison dirty kp d).boot = d.boot := by
  simp [answerData]
@[simp] theorem forgetDie_boot (n line : Nat) (d : Dev) : (forgetDie n line d).boot = d.boot := by
  unfold forgetDie
  split <;> simp
@[simp] theorem setHeldState_boot (n line : Nat) (st : Moesi) (d : Dev) : (setHeldState n line st d).boot = d.boot := by
  unfold setHeldState
  dsimp only
  split <;> simp
@[simp] theorem ownerData_boot (n : Nat) (op : Op) (m : FMsg) (x : Line) (poison dirty kp : Bool) (d : Dev) :
    (ownerData n op m x poison dirty kp d).boot = d.boot := by
  simp [ownerData]
@[simp] theorem dieServe_boot (n : Nat) (m : FMsg) (d : Dev) : (dieServe n m d).boot = d.boot := by
  unfold dieServe
  dsimp only
  split <;> simp
@[simp] theorem tagWalks_boot (n line : Nat) (d : Dev) : (tagWalks n line d).boot = d.boot := by simp [tagWalks]
@[simp] theorem serveOrDefer_boot (n : Nat) (m : FMsg) (d : Dev) : (serveOrDefer n m d).boot = d.boot := by
  unfold serveOrDefer
  dsimp only
  split <;> simp
@[simp] theorem dieSnoop_boot (n : Nat) (m : FMsg) (d : Dev) : (dieSnoop n m d).boot = d.boot := by
  unfold dieSnoop; dsimp only; split <;> [rfl; split] <;> simp
@[simp] theorem flushDeferred_boot (n : Nat) (d : Dev) : (flushDeferred n d).boot = d.boot := by simp [flushDeferred]
@[simp] theorem touchWay_boot (line way : Nat) (d : Dev) : (touchWay line way d).boot = d.boot := by rfl
@[simp] theorem putDir_boot (line : Nat) (st : DState) (owner pres bpres : Nat) (d : Dev) : (putDir line st owner pres bpres d).boot = d.boot := by
  unfold putDir
  (repeat' split) <;> simp
@[simp] theorem clearBpres_boot (line : Nat) (d : Dev) : (clearBpres line d).boot = d.boot := by
  unfold clearBpres
  split <;> simp
@[simp] theorem dirError_boot (line : Nat) (d : Dev) : (dirError line d).boot = d.boot := by
  simp [dirError]
@[simp] theorem checkEntry_boot (line : Nat) (d : Dev) : (checkEntry line d).boot = d.boot := by
  unfold checkEntry; split <;> simp
@[simp] theorem resolveFenced_boot (n line : Nat) (d : Dev) : (resolveFenced n line d).boot = d.boot := by
  unfold resolveFenced; dsimp only; (repeat' split) <;> simp
@[simp] theorem resolveLine_boot (line : Nat) (d : Dev) : (resolveLine line d).boot = d.boot := by
  simp [resolveLine]
@[simp] theorem sendSnoop_boot (op : Op) (txid line reqDie n : Nat) (d : Dev) :
    (sendSnoop op txid line reqDie n d).boot = d.boot := by simp [sendSnoop]
@[simp] theorem sendSnoops_boot (op : Op) (txid line reqDie : Nat) (ns : List Nat) (d : Dev) :
    (sendSnoops op txid line reqDie ns d).boot = d.boot := by
  simp [sendSnoops]
@[simp] theorem countFill_boot (txid c : Nat) (d : Dev) : (countFill txid c d).boot = d.boot := by
  unfold countFill
  (repeat' split) <;> simp
@[simp] theorem optBoot_none (b : Boot) : OptBoot b none := fun _ h => nomatch h
@[simp] theorem optBoot_some (b : Boot) (d : Dev) : OptBoot b (some d) ↔ d.boot = b := by simp [OptBoot]
@[simp] theorem noteWait_boot (t : Trk) {f : Dev → Dev} {d : Dev} {b : Boot} (hf : ∀ d, (f d).boot = d.boot) (hb : d.boot = b) :
    OptBoot b (noteWait t f d) := by
  unfold noteWait
  split <;> simp [hf, hb]
@[simp] theorem startRead_boot (t : Trk) {d : Dev} {b : Boot} (hb : d.boot = b) : OptBoot b (startRead t d) := by
  unfold startRead
  split
  · split <;> simp [hb]
  split
  next hs => simpa using (mscServe_boot hs).trans hb
  · split
    · simp [hb]
    · dsimp only
      split <;> split <;> simp [hb]
@[simp] theorem takeFromReaders_boot (sl line : Nat) (d : Dev) : (takeFromReaders sl line d).boot = d.boot := by rfl
@[simp] theorem actDie_boot (sl : Nat) (t : Trk) (m : FMsg) (d : Dev) : (actDie sl t m d).boot = d.boot := by
  unfold actDie
  dsimp only
  (repeat' split) <;> simp
@[simp] theorem actAgent_boot (sl : Nat) (t : Trk) (op : AgentOp) (d : Dev) : (actAgent sl t op d).boot = d.boot := by
  unfold actAgent
  split <;> simp
@[simp] theorem waitForSet_boot (sl : Nat) (t : Trk) {d : Dev} {b : Boot} (hb : d.boot = b) : OptBoot b (waitForSet sl t d) := by
  unfold waitForSet
  split <;> simp [hb]
@[simp] theorem evictVictim_boot (sl : Nat) (t : Trk) (way v : Nat) (d : Dev) : (evictVictim sl t way v d).boot = d.boot := by
  unfold evictVictim; dsimp only; split <;> simp
@[simp] theorem startTrk_boot (sl : Nat) (t : Trk) {d : Dev} {b : Boot} (hb : d.boot = b) : OptBoot b (startTrk sl t d) := by
  unfold startTrk
  extract_lets set d1 counted start here s cands
  have h1 : d1.boot = b := by simp [d1, hb]
  clear_value d1
  split
  · simp [h1]
  split
  · simp [h1]
  split
  · clear_value cands
    split
    · simp [start, h1]
    · cases cands <;> simp [start, h1]
  · simp [start, h1]
@[simp] theorem grantTrk_boot (sl : Nat) (t : Trk) {d : Dev} {b : Boot} (hb : d.boot = b) : OptBoot b (grantTrk sl t d) := by
  unfold grantTrk
  extract_lets line
  split
  · extract_lets r reply
    have hreply (op : Op) (x : Line) (p : Bool) (d : Dev) : (reply op x p d).boot = d.boot := by
      simp only [reply]
      split <;> simp
    clear_value reply
    (repeat' split) <;> simp [hreply, hb]
  · extract_lets finish
    have hfinish (x : List Byte) (p : Bool) (d : Dev) : (finish x p d).boot = d.boot := by
      simp only [finish]
      split <;> simp
    clear_value finish
    dsimp only
    (repeat' split) <;> simp [hfinish, hb]
@[simp] theorem stepTrk_boot (sl : Nat) (t : Trk) {d : Dev} {b : Boot} (hb : d.boot = b) : OptBoot b (stepTrk sl t d) := by
  unfold stepTrk
  dsimp only
  (repeat' split) <;> simp [hb]
theorem pumpOnce_boot (sl line : Nat) (d : Dev) : OptBoot d.boot (pumpOnce sl line d) := by
  intro d' hd'
  obtain ⟨t, -, ht⟩ := List.exists_of_findSome?_eq_some hd'
  exact stepTrk_boot sl t rfl d' ht
@[simp] theorem pumpFuel_boot (k sl line : Nat) (d : Dev) : (pumpFuel k sl line d).boot = d.boot := by
  induction k generalizing d with
  | zero => rfl
  | succ k ih =>
    unfold pumpFuel
    split
    next hp => exact (ih _).trans (pumpOnce_boot sl line d _ hp)
    · rfl
@[simp] theorem pumpLine_boot (line : Nat) (d : Dev) : (pumpLine line d).boot = d.boot := by
  simp [pumpLine]
@[simp] theorem pump_boot (line : Nat) (d : Dev) : (pump line d).boot = d.boot := by
  simp [pump]
@[simp] theorem takeLine_boot (line : Nat) (d : Dev) : (takeLine line d).boot = d.boot := by simp [takeLine]
@[simp] theorem patchLine_boot (line : Nat) (x : Line) (poison : Bool) (d : Dev) : (patchLine line x poison d).boot = d.boot := by
  unfold patchLine
  extract_lets sl msg d1 d2
  have h1 : d1.boot = d.boot := by
    refine (foldl_boot (fun d n => ?_) _ _).trans (clearBpres_boot ..)
    rw [updDie_boot]
    split <;> simp
  have h2 : d2.boot = d1.boot := updSlice_boot ..
  clear_value d2 d1
  exact (memWrite_boot ..).trans (h2.trans h1)
@[simp] theorem writeNow_boot (line : Nat) (x : Line) (poison : Bool) (d : Dev) : (writeNow line x poison d).boot = d.boot := by simp [writeNow]
@[simp] theorem cohWriteLine_boot (line : Nat) (data : Line) (d : Dev) : (cohWriteLine line data d).boot = d.boot := by simp [cohWriteLine]
@[simp] theorem cohMerge_boot (line off : Nat) (bs : List Byte) (d : Dev) : (cohMerge line off bs d).boot = d.boot := by simp [cohMerge]
@[simp] theorem cohWrite_boot (a : Nat) (bs : List Byte) (d : Dev) : (cohWrite a bs d).boot = d.boot := by simp [cohWrite]

/-! #### Harts: traps, counters and the program counter -/

@[simp] theorem haltIfDue_boot (h : Nat) (d : Dev) : (haltIfDue h d).boot = d.boot := by simp [haltIfDue]
@[simp] theorem advance_boot (h n : Nat) (d : Dev) : (advance h n d).boot = d.boot := by simp [advance]
@[simp] theorem asyncExit_boot (h : Nat) (d : Dev) : (asyncExit h d).boot = d.boot := by
  unfold asyncExit
  dsimp only
  split <;> simp
@[simp] theorem takeTrap_boot (h cause : Nat) (irq : Bool) (tval tval2 : Nat) (d : Dev) :
    (takeTrap h cause irq tval tval2 d).boot = d.boot := by simp [takeTrap]

/-! #### Replies at the die -/

@[simp] theorem dropMiss_boot (n rtag : Nat) (d : Dev) : (dropMiss n rtag d).boot = d.boot := by rfl

/-! #### Setpoints -/

@[simp] theorem setMv_boot (a mv : Nat) (d : Dev) : (setMv a mv d).boot = d.boot := by simp [setMv]

/-! #### Enclave entry and world switches -/

@[simp] theorem leaveEnclave_boot (h : Nat) (args : List Nat) (d : Dev) : (leaveEnclave h args d).boot = d.boot := by
  unfold leaveEnclave
  dsimp only
  split <;> simp
@[simp] theorem breakEnclave_boot (eid : Nat) (d : Dev) : (breakEnclave eid d).boot = d.boot := by simp [breakEnclave]

/-! #### Loss, withdrawal and readmission of a die -/

@[simp] theorem lossStop_boot (cause : Nat) (d : Dev) : (lossStop cause d).boot = d.boot := by rfl
@[simp] theorem recoverLine_boot (n line : Nat) (d : Dev) : (recoverLine n line d).boot = d.boot := by
  unfold recoverLine; (repeat' split) <;> simp
@[simp] theorem lostResponse_boot (n : Nat) (t : Trk) (d : Dev) : (lostResponse n t d).boot = d.boot := by
  unfold lostResponse; dsimp only; (repeat' split) <;> simp
@[simp] theorem saveData_boot (n : Nat) (d : Dev) : (saveData n d).boot = d.boot := by
  simp [saveData]
@[simp] theorem loseImsw_boot (n : Nat) (d : Dev) : (loseImsw n d).boot = d.boot := by simp [loseImsw]
@[simp] theorem dropRequests_boot (n : Nat) (held : List Nat) (d : Dev) : (dropRequests n held d).boot = d.boot := by rfl
@[simp] theorem fenceNow_boot (n cause : Nat) (d : Dev) : (fenceNow n cause d).boot = d.boot := by
  simp [fenceNow]
@[simp] theorem fenceDie_boot (n cause : Nat) (d : Dev) : (fenceDie n cause d).boot = d.boot := by
  unfold fenceDie; split <;> simp
@[simp] theorem startReadmit_boot (n : Nat) (d : Dev) : (startReadmit n d).boot = d.boot := by simp [startReadmit]

/-! #### The memory-side cache -/

@[simp] theorem maintStart_boot (v : Nat) (d : Dev) : (maintStart v d).boot = d.boot := by simp [maintStart]

/-! #### DRAM channels -/

@[simp] theorem roundDone_boot (n : Nat) (forced : Bool) (d : Dev) : (roundDone n forced d).boot = d.boot := by simp [roundDone]
@[simp] theorem roundNow_boot (n : Nat) (forced : Bool) (d : Dev) : (roundNow n forced d).boot = d.boot := by simp [roundNow]

/-! #### The ledger -/

@[simp] theorem applyMv_boot (d : Dev) : (applyMv d).boot = d.boot := by simp [applyMv]
@[simp] theorem cutAccounts_boot (d : Dev) : (cutAccounts d).boot = d.boot := by simp [cutAccounts]
@[simp] theorem closeEpoch_boot (tLast : Nat) (d : Dev) : (closeEpoch tLast d).boot = d.boot := by simp [closeEpoch]
@[simp] theorem plan_boot (first : Bool) (t tLast : Nat) (obs : Nat → CoreObs) (tjHub : Nat) (deferred : Nat → Nat) (d : Dev) :
    (plan first t tLast obs tjHub deferred d).boot = d.boot := by
  simp [plan]

/-! #### The benches' translation unit -/

@[simp] theorem btuLookup_boot (b f va : Nat) (write : Bool) (d : Dev) : (btuLookup b f va write d).2.boot = d.boot := by
  unfold btuLookup
  grind [updBench_boot, countBench_boot]
@[simp] theorem dirtyLog_boot (b f va : Nat) (e : BtuEnt) (d : Dev) : (dirtyLog b f va e d).boot = d.boot := by
  simp [dirtyLog]
@[simp] theorem zeroSpad_boot (b a n : Nat) (d : Dev) : (zeroSpad b a n d).boot = d.boot := by rfl
theorem snd_boot {α : Type} {x : α × Dev} {r : α} {d e : Dev} (he : x.2.boot = e.boot) (hx : x = (r, d)) : d.boot = e.boot := by
  subst hx
  exact he
@[simp] theorem memWriteVa_boot (b f va : Nat) (x : List Byte) (d : Dev) : (memWriteVa b f va x d).2.boot = d.boot := by
  unfold memWriteVa
  have hb := btuLookup_boot b f va true d
  split
  next heq => exact snd_boot hb heq
  next heq =>
    have hd := snd_boot hb heq
    dsimp only
    split <;> simp [hd]
@[simp] theorem btuKill_boot (b : Nat) (p : BtuEnt → Bool) (d : Dev) : (btuKill b p d).boot = d.boot := by rfl

/-! #### The Gauge -/

@[simp] theorem updTenant_boot (tag : Nat) (f : Tenant → Tenant) (d : Dev) : (updTenant tag f d).boot = d.boot := by rfl
@[simp] theorem gaugeCount_boot (b : Nat) (j : Job) (st : Nat) (d : Dev) : (gaugeCount b j st d).boot = d.boot := by simp [gaugeCount]

/-! #### Rings -/

@[simp] theorem settleRing_boot (b f r : Nat) (d : Dev) : (settleRing b f r d).boot = d.boot := by simp [settleRing]
@[simp] theorem ringIrq_boot (b f r : Nat) (d : Dev) : (ringIrq b f r d).boot = d.boot := by simp [ringIrq]
@[simp] theorem putRecord_boot (b : Nat) (j : Job) (r : JobRes) (d : Dev) : (putRecord b j r d).boot = d.boot := by
  unfold putRecord
  extract_lets ring drop lost va rlen d1
  have hlost (d : Dev) : (lost d).boot = d.boot := by simp [lost]
  have hdrop : drop.boot = d.boot := by simp [drop]
  rw [settleRing_boot]
  unfold d1
  clear_value lost drop
  split
  · rw [hlost, hdrop]
  have hb := btuLookup_boot b j.fn va true drop
  split
  next heq => rw [hlost, snd_boot hb heq, hdrop]
  next heq =>
    have h2 := snd_boot hb heq
    split
    · rw [hlost, h2, hdrop]
    split
    next heq => rw [hlost, snd_boot (memWriteVa_boot ..) heq, h2, hdrop]
    next heq =>
      have h3 := snd_boot (memWriteVa_boot ..) heq
      dsimp only
      (repeat' split) <;> simp [h3, h2, hdrop]

/-! #### The feed channels -/

@[simp] theorem feedErrors_boot (b : Nat) (cs : List Nat) (d : Dev) : (feedErrors b cs d).boot = d.boot := by rfl
@[simp] theorem endJob_boot (b st : Nat) (j : Job) (d : Dev) : (endJob b st j d).boot = d.boot := by
  simp [endJob]
@[simp] theorem endChans_boot (b cause : Nat) (p : Nat → Bool) (d : Dev) : (endChans b cause p d).2.boot = d.boot := by simp [endChans]
@[simp] theorem loseArrays_boot (b : Nat) (d : Dev) : (loseArrays b d).boot = d.boot := by rfl
@[simp] theorem benchZeroise_boot (b : Nat) (d : Dev) : (benchZeroise b d).boot = d.boot := by
  simp [benchZeroise]

/-! #### Windows of the hub -/

@[simp] theorem ackWrite_boot (req : Option FMsg) (d : Dev) : (ackWrite req d).boot = d.boot := by
  unfold ackWrite
  split <;> simp
@[simp] theorem clampAccept_boot (h : Held) (req : Option FMsg) (d : Dev) : (clampAccept h req d).boot = d.boot := by simp [clampAccept]
@[simp] theorem place_boot (h : Held) (req : Option FMsg) (d : Dev) : (place h req d).boot = d.boot := by simp [place]
@[simp] theorem serveRead_boot (m : FMsg) (d : Dev) : (serveRead m d).boot = d.boot := by simp [serveRead]
@[simp] theorem unstall_boot (d : Dev) : (unstall d).boot = d.boot := by simp [unstall]
@[simp] theorem clampRelease_boot (p : Held → Bool) (d : Dev) : (clampRelease p d).boot = d.boot := by simp [clampRelease]

/-! #### The Inlay -/

@[simp] theorem ncFault_boot (m : FMsg) (d : Dev) : (ncFault m d).boot = d.boot := by
  unfold ncFault
  dsimp only
  (repeat' split) <;> simp
@[simp] theorem containSite_boot (s cause : Nat) (d : Dev) : (containSite s cause d).boot = d.boot := by simp [containSite]
@[simp] theorem trainSite_boot (s : Nat) (o : UcieObs) (d : Dev) : (trainSite s o d).boot = d.boot := by simp [trainSite]

/-! #### The Tenon links -/

@[simp] theorem resend_boot (n : Nat) (up : Bool) (seq : Nat) (d : Dev) : (resend n up seq d).boot = d.boot := by simp [resend]
@[simp] theorem startTraining_boot (n : Nat) (o : LinkObs) (d : Dev) : (startTraining n o d).boot = d.boot := by
  unfold startTraining; dsimp only; split <;> [rfl; split] <;> simp
@[simp] theorem resumeBundle_boot (n : Nat) (up : Bool) (d : Dev) : (resumeBundle n up d).boot = d.boot := by
  unfold resumeBundle
  split <;> simp
@[simp] theorem lockLink_boot (n : Nat) (d : Dev) : (lockLink n d).boot = d.boot := by simp [lockLink]
@[simp] theorem disagree_boot (n : Nat) (up : Bool) (d : Dev) : (disagree n up d).boot = d.boot := by
  unfold disagree; dsimp only; split <;> simp
theorem settle_boot {n : Nat} {up : Bool} {k : Nat} {d d' : Dev} (hs : settle n up k d = .ok d') : d'.boot = d.boot := by
  induction k generalizing d with
  | zero =>
    unfold settle at hs
    exact (Except.ok.inj hs) ▸ rfl
  | succ k ih =>
    unfold settle at hs
    extract_lets l h e at hs
    generalize (if up then l.upBad else l.downBad) = bad at hs
    split at hs
    · exact (Except.ok.inj hs) ▸ rfl
    split at hs
    · nomatch hs
    · exact (ih hs).trans (disagree_boot n up d)
@[simp] theorem bringUpFence_boot (n c : Nat) (d : Dev) : (bringUpFence n c d).1.boot = d.boot := by
  simp [bringUpFence]
@[simp] theorem trainLink_boot (n : Nat) (o : LinkObs) (d : Dev) : (trainLink n o d).1.boot = d.boot := by
  unfold trainLink
  split
  · simp
  extract_lets d1
  have h1 : d1.boot = d.boot := by simp [d1]
  clear_value d1
  split
  · exact h1
  split
  · simp [h1]
  split
  · simp [h1]
  next hup =>
    have h2 := (settle_boot hup).trans h1
    split
    · simp [h2]
    next hdown => simp [(settle_boot hdown).trans h2]
@[simp] theorem retrainLink_boot (n : Nat) (d : Dev) : (retrainLink n d).boot = d.boot := by simp [retrainLink]

/-! #### Counters, records and samples -/

@[simp] theorem ovfClear_boot (d : Dev) : (ovfClear d).boot = d.boot := by rfl

/-! #### Page owners and enclave commands -/

@[simp] theorem potStore_boot (page v : Nat) (d : Dev) : (potStore page v d).boot = d.boot := by simp [potStore]
@[simp] theorem zeroPage_boot (page : Nat) (d : Dev) : (zeroPage page d).boot = d.boot := by simp [zeroPage]
@[simp] theorem changePage_boot (v : Nat) (zero : Bool) (page : Nat) (d : Dev) : (changePage v zero page d).boot = d.boot := by simp [changePage]

/-! #### Checkpoints and snapshots -/

@[simp] theorem benchRestore_boot (b : Nat) (bs : List Byte) (d : Dev) : (benchRestore b bs d).boot = d.boot := by rfl
@[simp] theorem keysRestore_boot (b : Nat) (d : Dev) : (keysRestore b d).boot = d.boot := by
  unfold keysRestore
  dsimp only
  rw [foldl_boot (fun d h => ?_)]
  · simp
  · split <;> simp
@[simp] theorem hubRestore_boot (bs : List Byte) (d : Dev) : (hubRestore bs d).boot = d.boot := by simp [hubRestore]
@[simp] theorem purgeTranslations_boot (d : Dev) : (purgeTranslations d).boot = d.boot := by simp [purgeTranslations]

/-! #### Operations of the segment -/

@[simp] theorem noteRole_boot (d : Dev) : (noteRole d).boot = d.boot := by simp [noteRole]

/-! #### The mirror -/

@[simp] theorem goAlone_boot (d : Dev) : (goAlone d).boot = d.boot := by simp [goAlone]
@[simp] theorem applyPaired_boot (d : Dev) : (applyPaired d).boot = d.boot := by simp [applyPaired]
@[simp] theorem discardWork_boot (d : Dev) : (discardWork d).boot = d.boot := by simp [discardWork]
@[simp] theorem dropSetLines_boot (d : Dev) : (dropSetLines d).boot = d.boot := by simp [dropSetLines]
@[simp] theorem resumeFromSlot_boot (h : Nat) (d : Dev) : (resumeFromSlot h d).boot = d.boot := by simp [resumeFromSlot]
@[simp] theorem promote_boot (d : Dev) : (promote d).boot = d.boot := by simp [promote]
@[simp] theorem takeoverResult_boot (grant : Bool) (d : Dev) : (takeoverResult grant d).boot = d.boot := by simp [takeoverResult]
@[simp] theorem forcePromote_boot (d : Dev) : (forcePromote d).boot = d.boot := by simp [forcePromote]

/-! #### The segment -/

@[simp] theorem takeoverOpen_boot (n : Nat) (d : Dev) : (takeoverOpen n d).boot = d.boot := by rfl

/-! #### Dry fits -/

@[simp] theorem recordFit_boot (si ss : Nat) (trig : Nat × Nat) (atKerf : Bool) (f : Fit) (d : Dev) :
    (recordFit si ss trig atKerf f d).boot = d.boot := by
  simp [recordFit]

/-! #### Rules of the list -/

@[simp] theorem discardStaged_boot (d : Dev) : (discardStaged d).boot = d.boot := by rfl
@[simp] theorem blowFuse_boot (v : List Byte) (d : Dev) : (blowFuse v d).boot = d.boot := by
  unfold blowFuse
  split <;> simp
@[simp] theorem immNum_boot (u : UcieObs) (idx sub v : Nat) (d : Dev) : (immNum u idx sub v d).boot = d.boot := by
  simp [immNum]
@[simp] theorem immBytes_boot (sess idx sub : Nat) (v : List Byte) (d : Dev) : (immBytes sess idx sub v d).boot = d.boot := by simp [immBytes]

/-! #### Stages of the bring-up -/

@[simp] theorem applyImageRec_boot (r : ImgRec) (d : Dev) : (applyImageRec r d).boot = d.boot := by
  unfold applyImageRec; split <;> [rfl; split] <;> simp
@[simp] theorem seeDimm_boot (n : Nat) (o : DimmSeen) (d : Dev) : (seeDimm n o d).boot = d.boot := by rfl
@[simp] theorem trainChan_boot (n : Nat) (eye : Bool) (d : Dev) : (trainChan n eye d).1.boot = d.boot := by
  unfold trainChan
  dsimp only
  (repeat' split) <;> simp
@[simp] theorem clearPot_boot (base size : Nat) (d : Dev) : (clearPot base size d).boot = d.boot := by
  simp [clearPot]
@[simp] theorem releaseLedger_boot (d : Dev) : (releaseLedger d).boot = d.boot := by
  unfold releaseLedger
  dsimp only
  split <;> simp
@[simp] theorem planZero_boot (cores : List CoreObs) (tjHub : Nat) (d : Dev) : (planZero cores tjHub d).boot = d.boot := by simp [planZero]
@[simp] theorem releaseWorlds_boot (d : Dev) : (releaseWorlds d).1.boot = d.boot := by
  unfold releaseWorlds
  extract_lets f d1
  have h1 : d1.boot = d.boot := by simp [d1]
  clear_value d1
  split
  · split <;> simp [h1]
  · simp [h1]

end Sys2Proof.Proofs
end

section
namespace Sys2Proof.Proofs

open Sys2Proof.Machine

/-! ### The configuration stage -/

/-! #### Stages -/

theorem onStage_runs {d : Dev} {n : Nat} (h : stageRuns d n = true) (f : Dev → Dev) : onStage n f d = f d := by
  rw [onStage, if_pos h]

theorem onDev_onStage {s : State} {n : Nat} (h : stageRuns s.dev n = true) (f : Dev → Dev) :
    onDev (onStage n f) s = .next { s with dev := f s.dev } := by
  rw [onDev, onStage_runs h]

@[simp] theorem stageDone_done (n : Nat) (d : Dev) : (stageDone n d).boot.done = d.boot.done ++ [n] := rfl

theorem stageDone_boot_congr {d e : Dev} (n : Nat) (h : d.boot = e.boot) : (stageDone n d).boot = (stageDone n e).boot := by
  simp only [stageDone, updBoot, h]

theorem stageDone_running {d : Dev} (h : d.boot.phase = .running) (n : Nat) :
    (stageDone n d).boot.running = d.boot.running.erase n ++ nextStages (d.boot.done ++ [n]) n := by
  show d.boot.running.erase n ++ (if d.boot.phase = .running then nextStages (d.boot.done ++ [n]) n else []) = _
  rw [if_pos h]

/-- The first failure names its stage and reason (R58). -/
theorem stageFail_running {d : Dev} (h : d.boot.phase = .running) (n reason : Nat) :
    stageFail n reason d =
      { d with boot := { d.boot with phase := .failing, failStage := n, failReason := reason, running := d.boot.running.erase n } } := by
  simp [stageFail, updBoot, h]

/-! #### Stage 0x05 -/

theorem nodup_of_nubNat_length {l : List Nat} (h : (nubNat l).length = l.length) : l.Nodup := by
  have hset : l.toFinset = (nubNat l).toFinset := by
    ext i
    simp [mem_nubNat]
  have hlen : l.dedup.length = l.length := by
    rw [← List.card_toFinset, hset, List.toFinset_card_of_nodup (nodup_nubNat l), h]
  exact (List.dedup_sublist l).eq_of_length hlen ▸ List.nodup_dedup l

/-- The image's record becomes the entry's current value. -/
theorem applyImageRec_kerf {r : ImgRec} {e : EntryRow} (he : entryRow r.idx r.sub = some e) (hswap : e.swap ≠ .imm)
    (hidx : r.idx ≠ 0x4100) (d : Dev) :
    applyImageRec r d = setCur d r.idx r.sub (some (valOf e r.val)) := by
  simp only [applyImageRec, he]
  cases hv : valOf e r.val <;> simp [hswap, hidx, setCurNat]

/-- The value a record of the image gives its entry. -/
def imageVal (r : ImgRec) : Option Val := (entryRow r.idx r.sub).map (fun e => valOf e r.val)

/-- The configuration lists a run of records of the image leaves, where each is of swap class KERF or BOOT and none is MSC_ENABLE. -/
theorem foldl_applyImageRec_list {rs : List ImgRec} (hsome : ∀ r ∈ rs, ∃ e, entryRow r.idx r.sub = some e)
    (hkind : ∀ r ∈ rs, r.idx ≠ 0x4100 ∧ ∀ e, entryRow r.idx r.sub = some e → e.swap ≠ .imm) (d : Dev) :
    (rs.foldl (fun d r => applyImageRec r d) d).list =
      { d.list with cur := rs.foldl (fun t r => tabSet none t (ekey r.idx r.sub) (imageVal r)) d.list.cur } := by
  induction rs generalizing d with
  | nil => rfl
  | cons r rs ih =>
    obtain ⟨⟨e, he⟩, hsome⟩ := List.forall_mem_cons.1 hsome
    obtain ⟨⟨hidx, hswap⟩, hkind⟩ := List.forall_mem_cons.1 hkind
    rw [List.foldl_cons, List.foldl_cons, ih hsome hkind, applyImageRec_kerf he (hswap e he) hidx, imageVal, he]
    rfl

theorem exists_entryRow_of_recordOk {d : Dev} {r : ImgRec} (h : recordOk d r = true) : ∃ e, entryRow r.idx r.sub = some e := by
  unfold recordOk at h
  split at h
  · cases h
  next e he => exact ⟨e, he⟩

@[simp] theorem noteRole_list (d : Dev) : (noteRole d).list = d.list := by
  unfold noteRole
  split <;> simp

/-- What stage 0x05 judges: every record keeps its rule, no entry is named twice, every entry the image must name is named (R64). -/
def imageGood (d : Dev) (rs : List ImgRec) : Bool :=
  rs.all (recordOk { d with list := { d.list with cur := [], stg := [] } }) &&
    (nubNat (rs.map (fun r => ekey r.idx r.sub))).length == rs.length && imageComplete rs

/-- What stage 0x05 does once the records are judged good, up to the role's check. -/
def imageApplied (rs : List ImgRec) (d : Dev) : Dev :=
  let d := rs.foldl (fun d r => applyImageRec r d) { d with list := { d.list with cur := [], stg := [] } }
  let mc := imageMicrocode d
  let d := (List.range 4).foldl (fun d b => updBench d b (fun x => { x with version := match mc with | some c => leAt c 0 4 | none => 0 })) d
  stageDone 5 (updBoot d (fun b => { b with microcode := mc, pendingCommit := if getBit (imgFlags b.image) 0 then some (imgSecurity b.image) else none }))

section apply

variable {d : Dev} {rs : List ImgRec}

theorem apply_eq (himg : imgRecs d.boot.image = some rs) : apply d =
    if imageGood d rs then
      noteRole { imageApplied rs d with seg := { (imageApplied rs d).seg with
        plcaId := if (imageApplied rs d).seg.state = 3 ∨ (imageApplied rs d).seg.state = 4 then (imageApplied rs d).seg.plcaId else nodeId (imageApplied rs d) } }
    else stageFail 5 0x0103 d := by
  unfold imageGood
  rw [← List.length_map (as := rs) (fun r => ekey r.idx r.sub)]
  unfold apply
  rw [himg]
  rfl

theorem apply_fails (h : imgRecs d.boot.image = none ∨ ∃ rs, imgRecs d.boot.image = some rs ∧ imageGood d rs = false) :
    apply d = stageFail 5 0x0103 d := by
  obtain h | ⟨rs, h, hbad⟩ := h
  · unfold apply
    rw [h]
  · rw [apply_eq h, hbad]
    rfl

theorem imageApplied_list (rs : List ImgRec) (d : Dev) :
    (imageApplied rs d).list = (rs.foldl (fun d r => applyImageRec r d) { d with list := { d.list with cur := [], stg := [] } }).list :=
  foldl_keeps Dev.list _ (fun _ _ => updBench_list ..) _ _

/-- Stage 0x05 done: beside the stages only the microcode and the pending floor change in the record of the bring-up. -/
theorem imageApplied_boot (rs : List ImgRec) (d : Dev) :
    ∃ mc pc, (imageApplied rs d).boot = (stageDone 5 { d with boot := { d.boot with microcode := mc, pendingCommit := pc } }).boot := by
  unfold imageApplied
  extract_lets l d1 mc d2
  have h2 : d2.boot = d.boot := by simp [d2, d1]
  exact ⟨mc, _, stageDone_boot_congr 5 (congrArg (fun b : Boot => { b with
    microcode := mc, pendingCommit := if getBit (imgFlags b.image) 0 then some (imgSecurity b.image) else none }) h2)⟩

variable (himg : imgRecs d.boot.image = some rs) (hgood : imageGood d rs = true)
include himg hgood

theorem apply_list : (apply d).list = (imageApplied rs d).list := by
  rw [apply_eq himg, if_pos hgood, noteRole_list]

theorem apply_boot : (apply d).boot = (imageApplied rs d).boot := by
  rw [apply_eq himg, if_pos hgood, noteRole_boot]

end apply

theorem exec_apply {s : State} (h : stageRuns s.dev 5 = true) : exec .apply s = .next { s with dev := apply s.dev } :=
  onDev_onStage h apply

/-- Settles O8: the records are judged before any of them acts, and each then writes its own key of the table of current values. -/
theorem configurationStage : Obligations.ConfigurationStage := by
  unfold Obligations.ConfigurationStage
  intro s hruns
  have hexec := exec_apply hruns
  refine ⟨fun rs himg hgood => ⟨_, hexec, ?_, fun hphase => ?_, fun hkind => ?_⟩, fun hbad hphase => ?_⟩
  · obtain ⟨mc, pc, hboot⟩ := imageApplied_boot rs s.dev
    rw [apply_boot himg hgood, hboot]
    rfl
  · obtain ⟨mc, pc, hboot⟩ := imageApplied_boot rs s.dev
    rw [apply_boot himg hgood, hboot]
    exact stageDone_running hphase 5
  · have hok : (∀ r ∈ rs, ∃ e, entryRow r.idx r.sub = some e) ∧ (rs.map (fun r => ekey r.idx r.sub)).Nodup := by
      simp only [Bool.and_eq_true, List.all_eq_true, beq_iff_eq] at hgood
      obtain ⟨⟨hrec, hnub⟩, -⟩ := hgood
      exact ⟨fun r hr => exists_entryRow_of_recordOk (hrec r hr), nodup_of_nubNat_length (by rw [hnub, List.length_map])⟩
    obtain ⟨hsome, hnodup⟩ := hok
    rw [apply_list himg hgood, imageApplied_list, foldl_applyImageRec_list hsome hkind]
    refine ⟨rfl, fun r hr e he => ?_, fun k hk => ?_⟩
    · rw [tabGet_foldl_tabSet_mem none (fun r : ImgRec => ekey r.idx r.sub) imageVal hnodup hr, imageVal, he]
      rfl
    · have hother : ∀ r ∈ rs, ekey r.idx r.sub ≠ k := fun r hr he => hk (List.mem_map.2 ⟨r, hr, he⟩)
      exact tabGet_foldl_tabSet_other none (fun r : ImgRec => ekey r.idx r.sub) imageVal hother []
  · rw [hexec, apply_fails hbad, stageFail_running hphase]

end Sys2Proof.Proofs
end

section
namespace Sys2Proof.Proofs

open Sys2Proof.Machine

/-! ### The SPDM responder -/

/-! #### The responder runs -/

theorem onSpdm_up {d : Dev} (h : spdmUp d = true) (f : Dev → Dev) : onSpdm f d = f d := by
  rw [onSpdm, if_pos h]

theorem onDev_onSpdm {s : State} (h : spdmUp s.dev = true) (f : Dev → Dev) : onDev (onSpdm f) s = .next { s with dev := f s.dev } := by
  rw [onDev, onSpdm_up h]

theorem onDev_onSpdm_down {s : State} (h : spdmUp s.dev = false) (f : Dev → Dev) : onDev (onSpdm f) s = .next s := by
  simp [onDev, onSpdm, h]

theorem onDev_inSess {s : State} {n : Nat} {x : Session} (h : spdmUp s.dev = true) (hx : sessOf s.dev n = some x) (f : Session → Dev → Dev) :
    onDev (inSess n f) s = .next { s with dev := f x s.dev } := by
  rw [onDev, inSess, onSpdm_up h, hx]

theorem onDev_inSess_none {s : State} {n : Nat} (h : spdmUp s.dev = true) (hx : sessOf s.dev n = none) (f : Session → Dev → Dev) :
    onDev (inSess n f) s = .next { s with dev := emit (.spdm none .errUnspecified []) s.dev } := by
  rw [onDev, inSess, onSpdm_up h, hx]

/-! #### Sessions open and end -/

@[simp] theorem sessOf_putSess_same (n : Nat) (v : Option Session) (d : Dev) : sessOf (putSess n v d) n = v := tabGet_tabSet_same ..
theorem sessOf_putSess_other {n k : Nat} (h : k ≠ n) (v : Option Session) (d : Dev) : sessOf (putSess n v d) k = sessOf d k :=
  tabGet_tabSet_other none d.list.sessions v h

theorem sessOnly_putSess (n : Nat) (x : Session) (d : Dev) : SessOnly d (putSess n (some x) d) n x :=
  ⟨sessOf_putSess_same .., fun _ hk => sessOf_putSess_other hk .., rfl⟩

/-- Session `n` has ended, with its report request; nothing else of the package differs (R398). -/
def SessEnded (n : Nat) (d d' : Dev) : Prop :=
  sessOf d' n = none ∧ (∀ k, k ≠ n → sessOf d' k = sessOf d k) ∧ tabGet none d'.reports n = none ∧
    (∀ k, k ≠ n → tabGet none d'.reports k = tabGet none d.reports k) ∧
    { d' with list := { d'.list with sessions := d.list.sessions }, reports := d.reports } = d

theorem sessEnded_endSess (n : Nat) (d : Dev) : SessEnded n d (endSess n d) :=
  ⟨sessOf_putSess_same n none d, fun _ hk => sessOf_putSess_other hk none d, tabGet_tabSet_same none d.reports n none,
    fun _ hk => tabGet_tabSet_other none d.reports none hk, rfl⟩

/-! #### Key exchange and finish -/

section handshake

variable {d : Dev} {n : Nat}

theorem freeSess_eq_none (h : ∀ n, n < 8 → (sessOf d n).isSome = true) : freeSess d = none := by
  simpa [freeSess, Option.isSome_iff_ne_none] using h

theorem freeSess_eq_some (hn : n < 8) (hfree : sessOf d n = none) (hbelow : ∀ k, k < n → (sessOf d k).isSome = true) : freeSess d = some n := by
  rw [freeSess, List.find?_range_eq_some]
  refine ⟨by simp [hfree], List.mem_range.2 hn, fun k hk => ?_⟩
  simpa [Option.isSome_iff_ne_none] using hbelow k hk

variable {x : Session} (leaf : Option (List Byte)) (req : List Byte)

theorem finish_closed (hx : sessOf d n = none) : finish n leaf req d = emit (.spdm none .errUnspecified []) d := by
  rw [finish, hx]

theorem finish_again (hx : sessOf d n = some x) (hf : x.finished = true) : finish n leaf req d = emit (.spdm (some n) .errUnspecified []) d := by
  simp only [finish, hx, hf, if_true]

theorem finish_verifies (hx : sessOf d n = some x) (hf : x.finished = false) (hok : Config.stdOk .spdm [leaf.getD [], req] = true) :
    finish n leaf req d =
      emit (.spdm (some n) .finish []) (putSess n (some { x with finished := true, role := roleFor d leaf, keyHash := leaf.map sha512 }) d) := by
  simp only [finish, hx, hf, hok, if_true, Bool.false_eq_true, if_false]

theorem finish_refused (hx : sessOf d n = some x) (hf : x.finished = false) (hbad : Config.stdOk .spdm [leaf.getD [], req] = false) :
    finish n leaf req d = emit (.spdm (some n) .errUnspecified []) (endSess n d) := by
  simp only [finish, hx, hf, hbad, Bool.false_eq_true, if_false]

end handshake

/-! #### Measurements and certificates -/

theorem length_sliceOf (l : List Byte) (off len : Nat) : (sliceOf l off len).length = min len (l.length - off) := by
  simp [sliceOf]

theorem getMeasurements_answers {d : Dev} {k : Nat} (hk : k ≤ 11 ∨ k = 255) (o : Option Nat) (sg : Bool) (nonce : List Byte) :
    let body := leBytes 1 (if k = 0 then 11 else (measureBlocks k).length) ++ (measureBlocks k).flatMap (measureBlock d)
    getMeasurements o k sg nonce d =
      emit (.spdm o .measurements (if sg then body ++ signWith (keyTop d) (nonce ++ body) else body)) d := by
  intro body
  rw [getMeasurements, if_pos hk]
  cases sg
  · simp [body]
  · rfl

theorem getCertificate_answers {d : Dev} {slot off : Nat} (hslot : slot = 0) (hoff : off ≤ (certChain d).length) (o : Option Nat) (len : Nat) :
    let part := sliceOf (certChain d) off len
    getCertificate o slot off len d =
      emit (.spdm o .certificate (leBytes 2 part.length ++ leBytes 2 ((certChain d).length - off - part.length) ++ part)) d := by
  rw [getCertificate, if_pos ⟨hslot, hoff⟩]

theorem getCertificate_refuses {d : Dev} {slot off : Nat} (h : slot ≠ 0 ∨ (certChain d).length < off) (o : Option Nat) (len : Nat) :
    getCertificate o slot off len d = emit (.spdm o .errUnspecified []) d := by
  rw [getCertificate, if_neg (by omega)]

/-! #### The commands -/

/-- What a command of the responder does where the responder runs, sessions aside (R395–R398). -/
def spdmMeaning : Instr → Option (Dev → Dev)
  | .spdmKeyExchange req => some (keyExchange req)
  | .spdmFinish n leaf req => some (finish n leaf req)
  | .spdmGetMeasurements o k sg nonce => some (getMeasurements (o.map (fun n => n.val)) k sg nonce)
  | .spdmGetCertificate o slot off len => some (getCertificate (o.map (fun n => n.val)) slot off len)
  | .spdmChallenge slot nonce => some (challenge slot nonce)
  | _ => none

theorem exec_spdm {i : Instr} {f : Dev → Dev} {s : State} (hup : spdmUp s.dev = true) (hi : spdmMeaning i = some f) :
    exec i s = .next { s with dev := f s.dev } := by
  cases i <;> cases hi <;> exact onDev_onSpdm hup _

/-- Settles O60: each command answers by the branch of its meaning that the session's state picks. -/
theorem spdmResponder : Obligations.SpdmResponder := by
  unfold Obligations.SpdmResponder
  refine ⟨fun n o l req nonce a b c sg s hdown i hi => ?_, fun req s hup => ⟨fun hfull => ?_, fun n hn hfree hbelow => ?_⟩,
    fun n leaf req s hup => ⟨fun hnone => ?_, fun x hx => ⟨fun hf => ?_, fun hf hok => ?_, fun hf hbad => ?_⟩⟩,
    fun n s hup => ⟨fun hnone i hi => ?_, fun x hx => ⟨?_, ?_, ?_⟩⟩, fun n s => ⟨_, rfl, sessEnded_endSess n s.dev⟩,
    fun o k sg nonce s hup => ⟨fun hk => ?_, fun hlow hhigh => ?_⟩,
    fun o slot off len s hup => ⟨fun hslot hoff => ⟨?_, length_sliceOf ..⟩, fun h => ?_⟩,
    fun slot nonce s hup => ⟨fun hslot => ?_, fun hslot => ?_⟩⟩
  · simp only [List.mem_cons, List.not_mem_nil, or_false] at hi
    obtain rfl | rfl | rfl | rfl | rfl | rfl | rfl | rfl := hi
    all_goals exact onDev_onSpdm_down hdown _
  · rw [exec_spdm hup rfl, keyExchange, freeSess_eq_none hfull]
  · refine ⟨_, ?_, sessOnly_putSess n sessInit s.dev⟩
    rw [exec_spdm hup rfl, keyExchange, freeSess_eq_some hn hfree hbelow]
  · rw [exec_spdm hup rfl, finish_closed leaf req hnone]
  · rw [exec_spdm hup rfl, finish_again leaf req hx hf]
  · refine ⟨_, ?_, sessOnly_putSess n _ s.dev⟩
    rw [exec_spdm hup rfl, finish_verifies leaf req hx hf hok]
  · refine ⟨_, ?_, sessEnded_endSess n s.dev⟩
    rw [exec_spdm hup rfl, finish_refused leaf req hx hf hbad]
  · simp only [List.mem_cons, List.not_mem_nil, or_false] at hi
    obtain rfl | rfl | rfl := hi
    all_goals exact onDev_inSess_none hup hnone _
  · exact onDev_inSess hup hx _
  · exact ⟨_, onDev_inSess hup hx _, sessOnly_putSess n _ s.dev⟩
  · exact ⟨_, onDev_inSess hup hx _, sessEnded_endSess n s.dev⟩
  · rw [exec_spdm hup rfl, getMeasurements_answers hk]
    rfl
  · rw [exec_spdm hup rfl, getMeasurements, if_neg (by omega)]
  · rw [exec_spdm hup rfl, getCertificate_answers hslot hoff]
  · rw [exec_spdm hup rfl, getCertificate_refuses h]
  · rw [exec_spdm hup rfl, challenge, if_pos hslot]
  · rw [exec_spdm hup rfl, challenge, if_neg hslot]

end Sys2Proof.Proofs
end

section
namespace Sys2Proof.Proofs

open Sys2Proof.Machine

/-! ### T0 and stages 0x01 to 0x04 -/

/-! #### The dies whose fuses do not load -/

/-- The set of the numbers below `k` that `p` holds of, as a number of one bit each. -/
def bitSet (p : Nat → Bool) (k : Nat) : Nat := ((List.range k).filter p).foldl (fun a n => a + 2 ^ n) 0

theorem bitSet_succ (p : Nat → Bool) (k : Nat) : bitSet p (k + 1) = bitSet p k + if p k then 2 ^ k else 0 := by
  rw [bitSet, List.range_succ, List.filter_append, List.foldl_append, bitSet]
  cases h : p k <;> simp [h]

theorem bitSet_lt (p : Nat → Bool) (k : Nat) : bitSet p k < 2 ^ k := by
  induction k with
  | zero => simp [bitSet]
  | succ k ih =>
    rw [bitSet_succ, Nat.pow_succ]
    split <;> omega

theorem testBit_bitSet (p : Nat → Bool) (k n : Nat) : (bitSet p k).testBit n = (decide (n < k) && p n) := by
  induction k with
  | zero => simp [bitSet]
  | succ k ih =>
    have hlt := bitSet_lt p k
    have hhigh : ∀ j, k ≤ j → (bitSet p k).testBit j = false := fun j hj =>
      Nat.testBit_lt_two_pow (hlt.trans_le (Nat.pow_le_pow_right (by decide) hj))
    rw [bitSet_succ, Nat.add_comm]
    obtain hn | rfl | hn := lt_trichotomy n k
    · have hn' : n < k + 1 := by omega
      split
      · rw [Nat.testBit_two_pow_add_gt hn, ih]
        simp [hn, hn']
      · rw [Nat.zero_add, ih]
        simp [hn, hn']
    · split
      next hp => simp [Nat.testBit_two_pow_add_eq, hhigh n le_rfl, hp]
      next hp => simp [hhigh n le_rfl, hp]
    · have hbound : bitSet p (k + 1) < 2 ^ n := (bitSet_lt p (k + 1)).trans_le (Nat.pow_le_pow_right (by decide) hn)
      rw [Nat.add_comm, ← bitSet_succ, Nat.testBit_lt_two_pow hbound]
      simp [show ¬n < k + 1 by omega]

theorem bitSet_eq_zero (p : Nat → Bool) (k : Nat) : bitSet p k = 0 ↔ ∀ n, n < k → p n = false := by
  constructor
  · intro h n hn
    have htest := testBit_bitSet p k n
    simpa [h, hn] using htest.symm
  · intro h
    refine Nat.eq_of_testBit_eq fun n => ?_
    rw [testBit_bitSet, Nat.zero_testBit]
    by_cases hn : n < k <;> simp [hn, h]

/-! #### T0 -/

@[simp] theorem hartOf_stageDone (n : Nat) (d : Dev) (h : Nat) : hartOf (stageDone n d) h = hartOf d h := rfl

/-- Harts 0 to n − 1 learn whether their die has a usable spare (R3). -/
def noteSpares (n : Nat) (d : Dev) : Dev :=
  (List.range n).foldl (fun d h => updHart d h (fun x => { x with spareUsed := !spareUsable d (dieOfHart h) })) d

theorem noteSpares_succ (n : Nat) (d : Dev) :
    noteSpares (n + 1) d = updHart (noteSpares n d) n (fun x => { x with spareUsed := !spareUsable (noteSpares n d) (dieOfHart n) }) := by
  rw [noteSpares, List.range_succ, List.foldl_append]
  rfl

theorem noteSpares_frame (n : Nat) (d : Dev) : { noteSpares n d with harts := d.harts } = d := by
  induction n with
  | zero => rfl
  | succ n ih =>
    rw [noteSpares_succ]
    exact ih

theorem noteSpares_boot (n : Nat) (d : Dev) : (noteSpares n d).boot = d.boot := foldl_keeps Dev.boot _ (fun _ _ => updHart_boot ..) _ _
theorem noteSpares_fuses (n : Nat) (d : Dev) : (noteSpares n d).fuses = d.fuses := foldl_keeps Dev.fuses _ (fun _ _ => updHart_fuses ..) _ _

theorem spareUsable_congr {d e : Dev} (h : d.fuses = e.fuses) : spareUsable d = spareUsable e := by
  funext n
  simp only [spareUsable, is204S, fusedSheets, h]

theorem hartOf_noteSpares (n : Nat) (d : Dev) (h : Nat) :
    hartOf (noteSpares n d) h = if h < n then { hartOf d h with spareUsed := !spareUsable d (dieOfHart h) } else hartOf d h := by
  induction n with
  | zero => rfl
  | succ n ih =>
    have hspare : spareUsable (noteSpares n d) = spareUsable d := spareUsable_congr (noteSpares_fuses n d)
    rw [noteSpares_succ, hspare]
    by_cases hn : h = n
    · subst hn
      rw [hartOf_updHart_same, ih, if_neg (Nat.lt_irrefl h), if_pos (Nat.lt_succ_self h)]
    · rw [hartOf_updHart_other _ _ hn, ih]
      by_cases hlt : h < n
      · rw [if_pos hlt, if_pos (by omega)]
      · rw [if_neg hlt, if_neg (by omega)]

/-- T0 with the straps sampled: the record of the bring-up begins anew, with the dies whose fuses do not load noted. -/
def strapped (segId segRole failed : Nat) (d : Dev) : Dev :=
  { d with
    pins := { d.pins with pwrGood := true, pkgReset := false, segId := segId, segRole := segRole },
    boot := { bootInit with phase := .running, running := [1], flashHighZ := false, fuseBad := bitSet (fuseLoadFails d failed) 13 } }

theorem startInstant_eq {d : Dev} (hphase : d.boot.phase = .off ∨ d.boot.phase = .inReset) (hjig : (jigOf d 12).inJig = false)
    (segId segRole failed : Nat) :
    startInstant segId segRole failed d =
      if bitSet (fuseLoadFails d failed) 13 = 0 then stageDone 1 (noteSpares 216 (strapped segId segRole failed d))
      else stageFail 1 0x0106 (strapped segId segRole failed d) := by
  unfold startInstant
  exact if_pos ⟨hphase, hjig⟩

/-! #### Stages 0x02 to 0x04 -/

section stages

variable {d : Dev}

theorem noteRole_seg (d : Dev) : ∃ r, noteRole d = updSeg d (fun x => { x with reason := r }) := by
  unfold noteRole
  split
  · exact ⟨d.seg.reason, rfl⟩
  · exact ⟨0x0903, rfl⟩

/-- With the time base locked the segment port starts, listening as the strap says (R55, R67). -/
theorem timeBaseLocked_eq (d : Dev) : ∃ sg : SegSt, sg.state = (if d.pins.segRole = 1 then 1 else 2) ∧ sg.nodes = [] ∧ sg.queue = [] ∧
    timeBaseLocked d = { d with holdover := false, seg := sg, boot := { d.boot with lockedTimeBase := true } } := by
  obtain ⟨r, hr⟩ := noteRole_seg (updSeg (updBoot { d with holdover := false } (fun b => { b with lockedTimeBase := true }))
    (fun s => { segInit with
      state := if d.pins.segRole = 1 then 1 else 2, plcaId := nodeId d, drops := s.drops, dynAddr := s.dynAddr, routes := s.routes, reason := s.reason }))
  exact ⟨{ segInit with
    state := if d.pins.segRole = 1 then 1 else 2, plcaId := nodeId d, drops := d.seg.drops, dynAddr := d.seg.dynAddr, routes := d.seg.routes,
    reason := r }, rfl, rfl, rfl, hr⟩

theorem bootRom_locked (d : Dev) : ∃ sg : SegSt, sg.state = (if d.pins.segRole = 1 then 1 else 2) ∧ sg.nodes = [] ∧ sg.queue = [] ∧
    bootRom true d = { d with
      holdover := false, seg := sg,
      boot := { d.boot with
        lockedTimeBase := true, done := d.boot.done ++ [2], running := d.boot.running.erase 2 ++ (if d.boot.phase = .running then [3] else []),
        slotBegun := d.boot.phase == .running } } := by
  obtain ⟨sg, hstate, hnodes, hqueue, hlock⟩ := timeBaseLocked_eq d
  refine ⟨sg, hstate, hnodes, hqueue, ?_⟩
  rw [bootRom, if_pos rfl, hlock]
  rfl

theorem bootRom_unlocked (hphase : d.boot.phase = .running) :
    bootRom false d = { d with boot := { d.boot with
      phase := .failing, failStage := 2, failReason := 0x010A, running := d.boot.running.erase 2 } } :=
  stageFail_running hphase 2 0x010A

/-- A failure of slot A in stage 0x03 or 0x04 (R60). -/
theorem slotFails_slotA (h : d.boot.slotB = false) (n reason : Nat) :
    slotFails n reason d = { d with boot := { d.boot with slotB := true, image := [], done := d.boot.done.filter (· != 3), running := [3] } } := by
  rw [slotFails, if_neg (by simp [h])]
  rfl

theorem slotFails_slotB (h : d.boot.slotB = true) (hphase : d.boot.phase = .running) (n reason : Nat) :
    slotFails n reason d =
      { d with boot := { d.boot with phase := .failing, failStage := n, failReason := reason, running := d.boot.running.erase n } } := by
  rw [slotFails, if_pos h, stageFail_running hphase]

/-- Where the image slot in use begins. -/
def slotBase (d : Dev) : Nat := if d.boot.slotB then 0x2000000 else 0

/-- The flash answers, its image's header is right, and the image fits the flash (R60, R61). -/
def imageFits (o : FlashObs) (d : Dev) : Bool :=
  o.answers && decide (slotBase d + 0xA0 ≤ o.capacity) && (headerReason (padErased 0xA0 o.bytes) == 0) &&
    decide (slotBase d + imgLength (padErased 0xA0 o.bytes) ≤ o.capacity)

/-- The reason of stage 0x03 where the image does not fit. -/
def imageReadReason (o : FlashObs) (d : Dev) : Nat :=
  if o.answers && decide (slotBase d + 0xA0 ≤ o.capacity) && (headerReason (padErased 0xA0 o.bytes) != 0) then headerReason (padErased 0xA0 o.bytes)
  else 0x0101

theorem imageRead_eq (o : FlashObs) (d : Dev) : imageRead o d =
    if imageFits o d then stageDone 3 { d with boot := { d.boot with image := padErased (imgLength (padErased 0xA0 o.bytes)) o.bytes } }
    else slotFails 3 (imageReadReason o d) d := by
  simp only [imageRead, imageFits, imageReadReason, slotBase, updBoot]
  by_cases ha : o.answers = true
  swap
  · simp [ha]
  by_cases hhead : (if d.boot.slotB then 0x2000000 else 0) + 0xA0 ≤ o.capacity
  · by_cases hreason : headerReason (padErased 0xA0 o.bytes) = 0
    · by_cases hlen : (if d.boot.slotB then 0x2000000 else 0) + imgLength (padErased 0xA0 o.bytes) ≤ o.capacity
      · simp [ha, Nat.not_lt.2 hhead, hhead, hreason, Nat.not_lt.2 hlen, hlen]
      · simp [ha, Nat.not_lt.2 hhead, hhead, hreason, Nat.not_le.1 hlen, hlen]
    · simp [ha, Nat.not_lt.2 hhead, hhead, hreason]
  · simp [ha, hhead, Nat.not_le.1 hhead]

/-- The image passes stage 0x04 (R63). -/
theorem imageCheck_accepts (hformat : formatOk d.boot.image = true) (hkey : keyReason d d.boot.image = 0) :
    imageCheck d = stageDone 4 { d with boot := { d.boot with
      signerSlot := b2n ((List.range 4).any (fun k => tabGet [] d.fuses.ownerHash k != [])), resetVector := imgReset d.boot.image } } := by
  simp only [imageCheck, hformat, hkey, ne_eq, not_true, if_false, Bool.true_eq_false]
  rfl

theorem imageCheck_refuses (h : formatOk d.boot.image = false ∨ keyReason d d.boot.image ≠ 0) :
    imageCheck d = slotFails 4 (if formatOk d.boot.image = false then 0x0103 else keyReason d d.boot.image) d := by
  cases hf : formatOk d.boot.image
  · simp [imageCheck, hf]
  · have hkey := h.resolve_left (by simp [hf])
    simp [imageCheck, hf, hkey]

end stages

/-- The commands of the stages: the stage each belongs to, and what it does there. -/
def stageMeaning : Instr → Option (Nat × (Dev → Dev))
  | .bootRom locked => some (2, bootRom locked)
  | .imageRead o => some (3, imageRead o)
  | .imageCheck => some (4, imageCheck)
  | .tenonStage obs => some (6, tenonStage obs)
  | .dramStage obs => some (7, dramStage obs)
  | .hubStores faults => some (8, hubStores faults)
  | .pcieStage ports w0 w1 sites => some (9, pcieStage ports w0 w1 sites)
  | .loadSections => some (10, loadSections)
  | .release cores tjHub partner => some (11, release cores tjHub partner)
  | .stageTimeout n locked => some (n, stageTimeout n locked)
  | _ => none

theorem exec_stage {i : Instr} {n : Nat} {f : Dev → Dev} {s : State} (hi : stageMeaning i = some (n, f)) (hruns : stageRuns s.dev n = true) :
    exec i s = .next { s with dev := f s.dev } := by
  cases i <;> cases hi <;> exact onDev_onStage hruns _

/-- Settles O7: each clause is a branch of the stage's meaning. -/
theorem earlyBringUp : Obligations.EarlyBringUp := by
  unfold Obligations.EarlyBringUp
  refine ⟨fun id role failed s hphase hjig => ⟨fun hgood => ?_, fun hbad => ?_⟩, fun s hruns => ⟨?_, fun hphase => ?_⟩,
    fun o s hruns => ⟨fun hfits => ?_, fun hfits hslot => ?_, fun hfits hslot hphase => ?_⟩,
    fun s hruns => ⟨fun hformat hkey => ?_, fun hbad hslot hphase => ?_⟩⟩
  · have hload := (bitSet_eq_zero (fuseLoadFails s.dev failed.toNat) 13).2 hgood
    have hexec : exec (.t0 id role failed) s = .next { s with dev := startInstant id role failed.toNat s.dev } := rfl
    rw [startInstant_eq hphase hjig, if_pos hload] at hexec
    have hframe := noteSpares_frame 216 (strapped id role failed.toNat s.dev)
    refine ⟨_, hexec, congrArg Dev.pins hframe, ?_, fun h hh => ?_, ?_⟩
    · rw [stageDone_boot_congr 1 (noteSpares_boot 216 _)]
      simp [stageDone, updBoot, strapped, bootInit, hload, nextStages]
    · rw [hartOf_stageDone, hartOf_noteSpares, if_pos hh]
      rfl
    · exact congrArg (fun e => { e with pins := s.dev.pins, boot := s.dev.boot }) hframe
  · have hload : bitSet (fuseLoadFails s.dev failed.toNat) 13 ≠ 0 := by
      obtain ⟨n, hn, hfail⟩ := hbad
      intro h
      simp [(bitSet_eq_zero _ _).1 h n hn] at hfail
    have hexec : exec (.t0 id role failed) s = .next { s with dev := startInstant id role failed.toNat s.dev } := rfl
    rw [startInstant_eq hphase hjig, if_neg hload] at hexec
    refine ⟨_, hexec, rfl, rfl, fun n hn => ?_, rfl⟩
    show getBit (bitSet (fuseLoadFails s.dev failed.toNat) 13) n = _
    rw [getBit_eq_testBit, testBit_bitSet]
    simp [hn]
  · obtain ⟨sg, hstate, hnodes, hqueue, hrom⟩ := bootRom_locked s.dev
    rw [exec_stage rfl hruns, hrom]
    exact ⟨_, rfl, rfl, rfl, hstate, hnodes, hqueue, rfl⟩
  · rw [exec_stage rfl hruns, bootRom_unlocked hphase]
  · rw [exec_stage rfl hruns, imageRead_eq, if_pos (show imageFits o s.dev = true from hfits)]
    rfl
  · rw [exec_stage rfl hruns, imageRead_eq, if_neg (Bool.eq_false_iff.1 (show imageFits o s.dev = false from hfits)), slotFails_slotA hslot]
  · rw [exec_stage rfl hruns, imageRead_eq, if_neg (Bool.eq_false_iff.1 (show imageFits o s.dev = false from hfits)), slotFails_slotB hslot hphase]
    rfl
  · rw [exec_stage rfl hruns, imageCheck_accepts hformat hkey]
    rfl
  · rw [exec_stage rfl hruns, imageCheck_refuses hbad, slotFails_slotB hslot hphase]

end Sys2Proof.Proofs
end

section
namespace Sys2Proof.Proofs

open Sys2Proof.Machine

/-! ### HUB_RESET_CTL and the tables of the state -/

/-- A released package whose table of harts lists hart 5 twice. The hart reads as the first entry; a warm reset maps that entry to the default,
which a table does not list, and the second entry shows. -/
def twiceListed : Dev :=
  { devInit with
    boot := { bootInit with phase := .released, done := [1, 2, 3, 4, 5, 6, 7, 8, 9, 10, 11] },
    harts := [(0, { hartInit with released := true }), (5, { hartInit with pc := 1 }), (5, { hartInit with tenergy := 7 })] }

theorem twiceListed_runs : hartRuns twiceListed (0 : HartN).val = true := by rfl

/-- A write of HUB_RESET_CTL with WARM alone, in machine mode and outside a kerf sequence (R73, R74). -/
theorem exec_warmReset {h : HartN} {v : Word} {s : State} (hruns : hartRuns s.dev h = true) (hmode : (hartOf s.dev h).mode = .m)
    (hphase : s.dev.boot.phase = .released) (hbits : resetBits v.toNat = some 1) (hkerf : s.dev.kerf.step1 = none) :
    exec (.warmReset h v) s = .next { s with dev := warmReset s.dev } := by
  show onDev (onHart h (fun d => if resetBits v.toNat = some 1 then hubResetWrite h v.toNat d else d)) s = _
  rw [onDev, onHart, if_pos hruns, if_pos hbits, hubResetWrite, if_pos ⟨hmode, hphase⟩, hbits]
  simp only [warmRequest, hkerf, Option.isSome_none, Bool.false_eq_true, if_false]

theorem dev_inj_of_next {p : List Instr} {d e : Dev}
    (h : (Host.Outcome.next { pending := p, dev := d } : Host.Outcome State Fault Refusal) = .next { pending := p, dev := e }) :
    d = e := by
  cases h
  rfl

theorem tenergy_twiceListed : (hartOf twiceListed 5).tenergy = 0 := by rfl

theorem tenergy_warmReset_twiceListed : (hartOf (warmReset twiceListed) 5).tenergy = 7 := by decide +kernel

/-- Refutes O11: the energy total of a hart does not stand over a warm reset where the table of harts lists the hart twice. The statement is about every
state; a state in which no table lists a key twice is not its counterexample. -/
theorem not_powerAndResets : ¬ Obligations.PowerAndResets := by
  unfold Obligations.PowerAndResets
  rintro ⟨-, hreset⟩
  obtain ⟨hmachine, -⟩ := hreset 0 { pending := [], dev := twiceListed } twiceListed_runs
  obtain ⟨hwarm, -⟩ := hmachine rfl
  obtain ⟨d, hexec, -, -, -, hkept, -⟩ := hwarm 0x57540001 (by decide) rfl
  rw [exec_warmReset twiceListed_runs rfl rfl (by decide) rfl] at hexec
  obtain rfl := dev_inj_of_next hexec
  have henergy : (hartOf (warmReset twiceListed) 5).tenergy = (hartOf twiceListed 5).tenergy := (hkept 5).1
  rw [tenergy_warmReset_twiceListed, tenergy_twiceListed] at henergy
  cases henergy

end Sys2Proof.Proofs
end

section
namespace Sys2Proof.Proofs

open Sys2Proof.Machine

/-! ### What leaves STATE 4 and the keys of the benches alone -/

/-- Whether each bench is in STATE 4, and whether it is keyed. -/
def powerOf (t : Tab BenchSt) (b : Nat) : Bool × Bool := ((tabGet benchInit t b).state == 4, (tabGet benchInit t b).keyed)
@[simp] theorem foldl_power {β : Type} {f : Dev → β → Dev} (h : ∀ d b, powerOf (f d b).benches = powerOf d.benches) (l : List β) (d : Dev) :
    powerOf (l.foldl f d).benches = powerOf d.benches :=
  foldl_keeps (fun d : Dev => powerOf d.benches) f h l d
@[simp] theorem ite_power (c : Prop) [Decidable c] (a b : Dev) :
    powerOf (if c then a else b).benches = if c then powerOf a.benches else powerOf b.benches :=
  apply_ite (fun d : Dev => powerOf d.benches) c a b
theorem updBench_power_at (d : Dev) (b : Nat) {f : BenchSt → BenchSt}
    (hf : ((f (benchOf d b)).state == 4) = ((benchOf d b).state == 4) ∧ (f (benchOf d b)).keyed = (benchOf d b).keyed) :
    powerOf (updBench d b f).benches = powerOf d.benches := by
  funext n
  by_cases h : n = b
  · subst h
    obtain ⟨hstate, hkeyed⟩ := hf
    have hsame : tabGet benchInit (updBench d n f).benches n = f (benchOf d n) := benchOf_updBench_same ..
    rw [powerOf, hsame, hstate, hkeyed]
    rfl
  · have hother : tabGet benchInit (updBench d b f).benches n = benchOf d n := benchOf_updBench_other _ _ h
    rw [powerOf, hother]
    rfl
@[simp] theorem updBench_power (d : Dev) (b : Nat) {f : BenchSt → BenchSt} (hf : ∀ x, (f x).state = x.state ∧ (f x).keyed = x.keyed) :
    powerOf (updBench d b f).benches = powerOf d.benches := by
  obtain ⟨hstate, hkeyed⟩ := hf (benchOf d b)
  exact updBench_power_at d b ⟨by rw [hstate], hkeyed⟩
@[simp] theorem updFn_power (b f : Nat) (g : Fn → Fn) (d : Dev) : powerOf (updFn b f g d).benches = powerOf d.benches := by simp [updFn]
@[simp] theorem updRing_power (b f r : Nat) (g : Machine.Ring → Machine.Ring) (d : Dev) :
    powerOf (updRing b f r g d).benches = powerOf d.benches := by simp [updRing]
@[simp] theorem updFeed_power (b c : Nat) (g : FeedChan → FeedChan) (d : Dev) :
    powerOf (updFeed b c g d).benches = powerOf d.benches := by simp [updFeed]

/-! #### Shared operations -/

@[simp] theorem emitAll_power (os : List Out) (d : Dev) : powerOf (emitAll os d).benches = powerOf d.benches := by rfl
@[simp] theorem countHartN_power (h c n : Nat) (d : Dev) : powerOf (countHartN h c n d).benches = powerOf d.benches := by
  unfold countHartN
  split <;> simp
@[simp] theorem countHart_power (h c : Nat) (d : Dev) : powerOf (countHart h c d).benches = powerOf d.benches := by simp [countHart]

/-! #### The Dowel -/

@[simp] theorem mirrorLine_power (line : Nat) (data : Line) (poison : Bool) (d : Dev) :
    powerOf (mirrorLine line data poison d).benches = powerOf d.benches := by simp [mirrorLine]

/-! #### Memory -/

@[simp] theorem setMem_power (a : Nat) (bs : List Byte) (d : Dev) : powerOf (setMem a bs d).benches = powerOf d.benches := by simp [setMem]
@[simp] theorem dramStore_power (line : Nat) (data : Line) (poison : Bool) (d : Dev) :
    powerOf (dramStore line data poison d).benches = powerOf d.benches := by simp [dramStore]
@[simp] theorem wqIssueOldest_power (k : Nat) (d : Dev) : powerOf (wqIssueOldest k d).benches = powerOf d.benches := by
  unfold wqIssueOldest
  split <;> simp
@[simp] theorem wqMark_power (k : Nat) (d : Dev) : powerOf (wqMark k d).benches = powerOf d.benches := by simp [wqMark]
@[simp] theorem chanWrite_power (line : Nat) (data : Line) (poison : Bool) (d : Dev) :
    powerOf (chanWrite line data poison d).benches = powerOf d.benches := by simp [chanWrite]
@[simp] theorem mscPut_power (line : Nat) (e : Option MscLine) (d : Dev) : powerOf (mscPut line e d).benches = powerOf d.benches := by rfl
@[simp] theorem evbFree_power (line : Nat) (d : Dev) : powerOf (evbFree line d).benches = powerOf d.benches := by rfl
@[simp] theorem evbDrainOne_power (n : Nat) (d : Dev) : powerOf (evbDrainOne n d).benches = powerOf d.benches := by
  unfold evbDrainOne
  split <;> simp
@[simp] theorem mscVictim_power (e : MscLine) (d : Dev) : powerOf (mscVictim e d).benches = powerOf d.benches := by simp [mscVictim]
@[simp] theorem mscPlace_power (line : Nat) (data : Line) (dirty poison : Bool) (d : Dev) :
    powerOf (mscPlace line data dirty poison d).benches = powerOf d.benches := by
  unfold mscPlace
  split <;> simp
@[simp] theorem mscWrite_power (line : Nat) (data : Line) (poison : Bool) (d : Dev) :
    powerOf (mscWrite line data poison d).benches = powerOf d.benches := by
  unfold mscWrite
  split
  · simp
  · dsimp only
    split <;> simp
@[simp] theorem memWrite_power (line : Nat) (data : Line) (poison : Bool) (d : Dev) :
    powerOf (memWrite line data poison d).benches = powerOf d.benches := by
  unfold memWrite
  split <;> simp

/-! #### The cache of a die -/

@[simp] theorem updBundle_power (n : Nat) (up : Bool) (f : Bundle → Bundle) (d : Dev) :
    powerOf (updBundle n up f d).benches = powerOf d.benches := by rfl
@[simp] theorem drainBundle_power (n : Nat) (up : Bool) (d : Dev) : powerOf (drainBundle n up d).benches = powerOf d.benches := by simp [drainBundle]
@[simp] theorem sendWake_power (n : Nat) (d : Dev) : powerOf (sendWake n d).benches = powerOf d.benches := by simp [sendWake]
@[simp] theorem send_power (up : Bool) (m : FMsg) (d : Dev) : powerOf (send up m d).benches = powerOf d.benches := by simp [send]
@[simp] theorem wbRelease_power (n line : Nat) (d : Dev) : powerOf (wbRelease n line d).benches = powerOf d.benches := by
  unfold wbRelease
  split <;> simp
@[simp] theorem killCore_power (h line : Nat) (d : Dev) : powerOf (killCore h line d).benches = powerOf d.benches := by simp [killCore]
@[simp] theorem killLine_power (n line : Nat) (d : Dev) : powerOf (killLine n line d).benches = powerOf d.benches := by simp [killLine]
@[simp] theorem loseResv_power (n line : Nat) (but : Option Nat) (d : Dev) : powerOf (loseResv n line but d).benches = powerOf d.benches := by
  refine foldl_power (fun d h => ?_) _ _
  split
  · simp
  · rfl
@[simp] theorem dropDieLine_power (n line : Nat) (d : Dev) : powerOf (dropDieLine n line d).benches = powerOf d.benches := by
  unfold dropDieLine
  split <;> simp
@[simp] theorem linkWakes_power (n : Nat) (d : Dev) : powerOf (linkWakes n d).benches = powerOf d.benches := by simp [linkWakes]
@[simp] theorem wakeForSnoop_power (n : Nat) (needs : Nat → Bool) (d : Dev) :
    powerOf (wakeForSnoop n needs d).benches = powerOf d.benches := by simp [wakeForSnoop]

/-! #### The fabric: messages, trackers and the directory -/

@[simp] theorem killDone_power (n txid line : Nat) (d : Dev) : powerOf (killDone n txid line d).benches = powerOf d.benches := by simp [killDone]
@[simp] theorem answerAck_power (n : Nat) (m : FMsg) (op : Op) (held dirty kp : Bool) (d : Dev) :
    powerOf (answerAck n m op held dirty kp d).benches = powerOf d.benches := by
  simp [answerAck]
@[simp] theorem answerData_power (n : Nat) (m : FMsg) (data : Line) (poison dirty kp : Bool) (d : Dev) :
    powerOf (answerData n m data poison dirty kp d).benches = powerOf d.benches := by
  simp [answerData]
@[simp] theorem setHeldState_power (n line : Nat) (st : Moesi) (d : Dev) : powerOf (setHeldState n line st d).benches = powerOf d.benches := by
  unfold setHeldState
  dsimp only
  split <;> simp
@[simp] theorem ownerData_power (n : Nat) (op : Op) (m : FMsg) (x : Line) (poison dirty kp : Bool) (d : Dev) :
    powerOf (ownerData n op m x poison dirty kp d).benches = powerOf d.benches := by
  simp [ownerData]
@[simp] theorem dieServe_power (n : Nat) (m : FMsg) (d : Dev) : powerOf (dieServe n m d).benches = powerOf d.benches := by
  unfold dieServe
  dsimp only
  split <;> simp
@[simp] theorem tagWalks_power (n line : Nat) (d : Dev) : powerOf (tagWalks n line d).benches = powerOf d.benches := by simp [tagWalks]
@[simp] theorem serveOrDefer_power (n : Nat) (m : FMsg) (d : Dev) : powerOf (serveOrDefer n m d).benches = powerOf d.benches := by
  unfold serveOrDefer
  dsimp only
  split <;> simp
@[simp] theorem dieSnoop_power (n : Nat) (m : FMsg) (d : Dev) : powerOf (dieSnoop n m d).benches = powerOf d.benches := by
  unfold dieSnoop; dsimp only; split <;> [rfl; split] <;> simp
@[simp] theorem flushDeferred_power (n : Nat) (d : Dev) : powerOf (flushDeferred n d).benches = powerOf d.benches := by simp [flushDeferred]
@[simp] theorem clearBpres_power (line : Nat) (d : Dev) : powerOf (clearBpres line d).benches = powerOf d.benches := by
  unfold clearBpres
  split
  · split
    · rfl
    · rw [setDir_benches]
      refine foldl_power (fun d b => ?_) _ _
      exact updBench_power d b (fun _ => ⟨rfl, rfl⟩)
  · rfl
@[simp] theorem takeLine_power (line : Nat) (d : Dev) : powerOf (takeLine line d).benches = powerOf d.benches := by simp [takeLine]
@[simp] theorem patchLine_power (line : Nat) (x : Line) (poison : Bool) (d : Dev) :
    powerOf (patchLine line x poison d).benches = powerOf d.benches := by
  unfold patchLine
  extract_lets sl msg d1 d2
  have h1 : powerOf d1.benches = powerOf d.benches := by
    refine (foldl_power (fun d n => ?_) _ _).trans (clearBpres_power ..)
    rw [updDie_benches]
    split <;> simp
  have h2 : d2.benches = d1.benches := updSlice_benches ..
  clear_value d2 d1
  rw [memWrite_power, h2, h1]
@[simp] theorem writeNow_power (line : Nat) (x : Line) (poison : Bool) (d : Dev) :
    powerOf (writeNow line x poison d).benches = powerOf d.benches := by simp [writeNow]
@[simp] theorem cohWriteLine_power (line : Nat) (data : Line) (d : Dev) :
    powerOf (cohWriteLine line data d).benches = powerOf d.benches := by simp [cohWriteLine]
@[simp] theorem cohMerge_power (line off : Nat) (bs : List Byte) (d : Dev) :
    powerOf (cohMerge line off bs d).benches = powerOf d.benches := by simp [cohMerge]
@[simp] theorem cohWrite_power (a : Nat) (bs : List Byte) (d : Dev) : powerOf (cohWrite a bs d).benches = powerOf d.benches := by simp [cohWrite]

/-! #### The benches' translation unit -/

@[simp] theorem btuLookup_power (b f va : Nat) (write : Bool) (d : Dev) :
    powerOf (btuLookup b f va write d).2.benches = powerOf d.benches := by
  unfold btuLookup
  dsimp only
  (repeat' split) <;> simp
@[simp] theorem dirtyLog_power (b f va : Nat) (e : BtuEnt) (d : Dev) : powerOf (dirtyLog b f va e d).benches = powerOf d.benches := by
  simp [dirtyLog]
@[simp] theorem zeroSpad_power (b a n : Nat) (d : Dev) : powerOf (zeroSpad b a n d).benches = powerOf d.benches := by rfl
theorem snd_power {α : Type} {x : α × Dev} {r : α} {d e : Dev} (he : powerOf x.2.benches = powerOf e.benches) (hx : x = (r, d)) :
    powerOf d.benches = powerOf e.benches := by
  subst hx
  exact he
@[simp] theorem memWriteVa_power (b f va : Nat) (x : List Byte) (d : Dev) :
    powerOf (memWriteVa b f va x d).2.benches = powerOf d.benches := by
  unfold memWriteVa
  have hb := btuLookup_power b f va true d
  split
  next heq => exact snd_power hb heq
  next heq =>
    have hd := snd_power hb heq
    dsimp only
    split <;> simp [hd]

/-! #### The Gauge -/

@[simp] theorem updTenant_power (tag : Nat) (f : Tenant → Tenant) (d : Dev) : powerOf (updTenant tag f d).benches = powerOf d.benches := by rfl
@[simp] theorem gaugeCount_power (b : Nat) (j : Job) (st : Nat) (d : Dev) :
    powerOf (gaugeCount b j st d).benches = powerOf d.benches := by simp [gaugeCount]

/-! #### Rings -/

@[simp] theorem settleRing_power (b f r : Nat) (d : Dev) : powerOf (settleRing b f r d).benches = powerOf d.benches := by
  unfold settleRing
  extract_lets d1
  have h1 : powerOf d1.benches = powerOf d.benches := by
    unfold d1
    split <;> simp
  clear_value d1
  split
  next h => rw [updBench_power_at d1 b ⟨by simp [h.1], rfl⟩, h1]
  · exact h1
@[simp] theorem ringIrq_power (b f r : Nat) (d : Dev) : powerOf (ringIrq b f r d).benches = powerOf d.benches := by simp [ringIrq]
@[simp] theorem putRecord_power (b : Nat) (j : Job) (r : JobRes) (d : Dev) : powerOf (putRecord b j r d).benches = powerOf d.benches := by
  unfold putRecord
  extract_lets ring drop lost va rlen d1
  have hlost (d : Dev) : powerOf (lost d).benches = powerOf d.benches := by simp [lost]
  have hdrop : powerOf drop.benches = powerOf d.benches := by simp [drop]
  rw [settleRing_power]
  unfold d1
  clear_value lost drop
  split
  · rw [hlost, hdrop]
  have hb := btuLookup_power b j.fn va true drop
  split
  next heq => rw [hlost, snd_power hb heq, hdrop]
  next heq =>
    have h2 := snd_power hb heq
    split
    · rw [hlost, h2, hdrop]
    split
    next heq => rw [hlost, snd_power (memWriteVa_power ..) heq, h2, hdrop]
    next heq =>
      have h3 := snd_power (memWriteVa_power ..) heq
      dsimp only
      (repeat' split) <;> simp [h3, h2, hdrop]

/-! #### The feed channels -/

@[simp] theorem feedErrors_power (b : Nat) (cs : List Nat) (d : Dev) : powerOf (feedErrors b cs d).benches = powerOf d.benches := by rfl
@[simp] theorem endJob_power (b st : Nat) (j : Job) (d : Dev) : powerOf (endJob b st j d).benches = powerOf d.benches := by
  simp [endJob]
@[simp] theorem endChans_power (b cause : Nat) (p : Nat → Bool) (d : Dev) :
    powerOf (endChans b cause p d).2.benches = powerOf d.benches := by simp [endChans]

end Sys2Proof.Proofs
end

section
namespace Sys2Proof.Proofs

open Sys2Proof.Machine

/-! ### Release, stage timeouts, the held state and the rollback floor -/

/-! #### Release -/

/-- The harts of a list start, each with what its bring-up leaves it (R71). -/
def startHarts (l : List Nat) (d : Dev) : Dev := l.foldl (fun d h => updHart d h (startHart d h (h == 0))) d

theorem startHarts_offline (l : List Nat) (d : Dev) (h : Nat) : (hartOf (startHarts l d) h).offline = (hartOf d h).offline := by
  induction l generalizing d with
  | nil => rfl
  | cons k l ih =>
    refine (ih _).trans ?_
    by_cases hk : h = k
    · subst hk
      rw [hartOf_updHart_same]
      rfl
    · rw [hartOf_updHart_other _ _ hk]

theorem startHarts_released {l : List Nat} {d : Dev} {h : Nat} (hl : h ∈ l ∨ (hartOf d h).released = true) :
    (hartOf (startHarts l d) h).released = true := by
  induction l generalizing d with
  | nil => exact hl.resolve_left List.not_mem_nil
  | cons k l ih =>
    refine ih ?_
    by_cases hk : h = k
    · subst hk
      rw [hartOf_updHart_same]
      exact .inr rfl
    · rw [hartOf_updHart_other _ _ hk]
      exact hl.imp_left fun hm => (List.mem_cons.1 hm).resolve_left hk

theorem startHarts_fuses (l : List Nat) (d : Dev) : (startHarts l d).fuses = d.fuses := foldl_keeps Dev.fuses _ (fun _ _ => updHart_fuses ..) _ _

theorem hartPresent_congr {d e : Dev} (h : d.fuses = e.fuses) : hartPresent d = hartPresent e := by
  funext k
  unfold hartPresent coresPresent usableCores is204S
  rw [h]

theorem foldl_updLink_eq (l : List Nat) (f : Link → Link) (d : Dev) : ∃ ls, l.foldl (fun d n => updLink d n f) d = { d with links := ls } := by
  induction l generalizing d with
  | nil => exact ⟨d.links, rfl⟩
  | cons n l ih =>
    obtain ⟨ls, hls⟩ := ih (updLink d n f)
    exact ⟨ls, hls⟩

theorem foldl_updBench_eq (l : List Nat) (f : BenchSt → BenchSt) (d : Dev) :
    ∃ bs, l.foldl (fun d b => updBench d b f) d = { d with benches := bs } := by
  induction l generalizing d with
  | nil => exact ⟨d.benches, rfl⟩
  | cons b l ih =>
    obtain ⟨bs, hbs⟩ := ih (updBench d b f)
    exact ⟨bs, hbs⟩

/-- The counts since release begin anew; harts and fuses are not among them. -/
theorem sinceRelease_keeps (d : Dev) : (sinceRelease d).harts = d.harts ∧ (sinceRelease d).fuses = d.fuses := by
  unfold sinceRelease
  extract_lets d1 d2
  obtain ⟨ls, hls⟩ : ∃ ls, d1 = { d with links := ls } := foldl_updLink_eq ..
  obtain ⟨bs, hbs⟩ : ∃ bs, d2 = { d1 with benches := bs } := foldl_updBench_eq ..
  clear_value d2 d1
  subst hbs hls
  exact ⟨rfl, rfl⟩

/-- The harts that start: those present and not offline. -/
def upHarts (d : Dev) : List Nat := (List.range 216).filter (fun h => hartPresent d h && !(hartOf d h).offline)

theorem releaseHarts_eq (d : Dev) : releaseHarts d =
    updBoot (sinceRelease (setCurNat (startHarts (upHarts d) d) 0x1000 3 (upHarts d).length))
      (fun b => { b with phase := .released, done := b.done ++ [11], running := [] }) := rfl

theorem releaseHarts_released (d : Dev) {h : Nat} (hh : h < 216) (hpresent : hartPresent (releaseHarts d) h = true)
    (honline : (hartOf (releaseHarts d) h).offline = false) : (hartOf (releaseHarts d) h).released = true := by
  have hharts : (releaseHarts d).harts = (startHarts (upHarts d) d).harts := by
    rw [releaseHarts_eq, updBoot_harts, (sinceRelease_keeps _).1, setCurNat_harts]
  have hfuses : (releaseHarts d).fuses = d.fuses := by
    rw [releaseHarts_eq, updBoot_fuses, (sinceRelease_keeps _).2, setCurNat_fuses, startHarts_fuses]
  have hhart : hartOf (releaseHarts d) h = hartOf (startHarts (upHarts d) d) h := by rw [hartOf, hharts, hartOf]
  rw [hartPresent_congr hfuses] at hpresent
  rw [hhart, startHarts_offline] at honline
  rw [hhart]
  refine startHarts_released (.inl ?_)
  simp [upHarts, hh, hpresent, honline]

theorem release_eq (cores : List CoreObs) (tj : Nat) (p : PartnerObs) (d : Dev) :
    release cores tj p d =
      if (releaseWorlds (planZero cores tj (releaseLedger d))).2 ≠ 0 then
        stageFail 11 (releaseWorlds (planZero cores tj (releaseLedger d))).2 (releaseWorlds (planZero cores tj (releaseLedger d))).1
      else releaseHarts (kerfEnables.foldl (fun d k => releaseEnable p k d) (releaseWorlds (planZero cores tj (releaseLedger d))).1) := rfl

theorem release_refused_phase {d : Dev} (h : d.boot.phase = .running) (cores : List CoreObs) (tj : Nat) :
    (releaseWorlds (planZero cores tj (releaseLedger d))).1.boot.phase = .running := by
  rw [releaseWorlds_boot, planZero_boot, releaseLedger_boot, h]

/-! #### Stage timeouts -/

theorem stageFail_fails {d : Dev} (h : d.boot.phase = .running) (n reason : Nat) :
    (stageFail n reason d).boot.phase = .failing ∧ (stageFail n reason d).boot.failStage = n ∧ (stageFail n reason d).boot.failReason = reason := by
  rw [stageFail_running h]
  exact ⟨rfl, rfl, rfl⟩

theorem stageRuns_of_running {d : Dev} {n : Nat} (hphase : d.boot.phase = .running) (hn : d.boot.running.contains n = true) :
    stageRuns d n = true := by
  rw [stageRuns, hphase, hn]
  rfl

/-- Stage 0x01 has its own code; every other stage but 0x02, 0x03 and 0x04 fails with 0x0107 (R58). -/
theorem stageTimeout_plain {n : Nat} (h1 : n ≠ 1) (h2 : n ≠ 2) (h3 : n ≠ 3) (h4 : n ≠ 4) (locked : Bool) (d : Dev) :
    stageTimeout n locked d = stageFail n 0x0107 d := by
  match n with
  | 1 => exact absurd rfl h1
  | 2 => exact absurd rfl h2
  | 3 => exact absurd rfl h3
  | 4 => exact absurd rfl h4
  | 0 => rfl
  | n + 5 => rfl

theorem stageTimeout_bootRom (locked : Bool) (d : Dev) : stageTimeout 2 locked d = stageFail 2 0x0107 (bif locked then timeBaseLocked d else d) := by
  cases locked <;> rfl

theorem stageTimeout_image {n : Nat} (h : n = 3 ∨ n = 4) (locked : Bool) (d : Dev) : stageTimeout n locked d = slotFails n 0x0107 d := by
  obtain rfl | rfl := h <;> rfl

/-! #### The held state -/

/-- The bench is in STATE 4 and has no key. -/
def Zeroised (d : Dev) (b : Nat) : Prop := powerOf d.benches b = (true, false)

theorem zeroised_iff (d : Dev) (b : Nat) : Zeroised d b ↔ (benchOf d b).state = 4 ∧ (benchOf d b).keyed = false := by
  show ((benchOf d b).state == 4, (benchOf d b).keyed) = (true, false) ↔ _
  simp

theorem benchZeroise_keyed (b : Nat) (d : Dev) : (benchOf (benchZeroise b d) b).keyed = false := by
  unfold benchZeroise
  extract_lets d1 e d2 d3
  show (benchOf (updBench d3 b (fun x => { x with keyed := false, ksKey := [], window := [], keys := [], lostGen := x.gens })) b).keyed = false
  rw [benchOf_updBench_same]

theorem benchZeroise_zeroises (b : Nat) (d : Dev) : Zeroised (benchZeroise b d) b :=
  (zeroised_iff ..).2 ⟨(benchZeroise_disables b d).1, benchZeroise_keyed b d⟩

/-- Another bench is as it was. -/
theorem powerOf_benchZeroise_other {b n : Nat} (h : n ≠ b) (d : Dev) : powerOf (benchZeroise b d).benches n = powerOf d.benches n := by
  unfold benchZeroise
  extract_lets d1 e d2 d3
  have h1 : powerOf d1.benches = powerOf d.benches := foldl_power (fun _ _ => endJob_power ..) _ _
  have h2 : powerOf d2.benches = powerOf d1.benches := by simp [d2, e]
  have h3 : powerOf d3.benches n = powerOf d2.benches n := by simp only [powerOf, d3, updBench, tabGet_tabUpd_other _ _ _ h]
  calc powerOf (setCurNat (loseArrays b d3) 0x5000 (b + 1) 0).benches n
      = powerOf (updBench d3 b (fun x => { x with keyed := false, ksKey := [], window := [], keys := [], lostGen := x.gens })).benches n := rfl
    _ = powerOf d3.benches n := by simp only [powerOf, updBench, tabGet_tabUpd_other _ _ _ h]
    _ = powerOf d.benches n := by rw [h3, h2, h1]

theorem foldl_benchZeroise {l : List Nat} {n : Nat} {d : Dev} (h : n ∈ l ∨ Zeroised d n) : Zeroised (l.foldl (fun d b => benchZeroise b d) d) n := by
  induction l generalizing d with
  | nil => exact h.resolve_left List.not_mem_nil
  | cons b l ih =>
    refine ih ?_
    by_cases hb : n = b
    · subst hb
      exact .inr (benchZeroise_zeroises n d)
    · exact h.imp (fun hm => (List.mem_cons.1 hm).resolve_left hb) (fun hz => (powerOf_benchZeroise_other hb d).trans hz)

@[simp] theorem settleChan_power (n : Nat) (d : Dev) : powerOf (settleChan n d).benches = powerOf d.benches := by
  simp [settleChan, wqDrain, closeAll]

@[simp] theorem heldFold_power (n : Nat) (d : Dev) : powerOf (heldFold n d).benches = powerOf d.benches := by
  unfold heldFold
  rw [updLink_benches]
  exact foldl_power (fun d h => by rw [updHart_benches]) _ _

/-- The package enters the held state with every bench zeroised (R66). -/
theorem heldState_holds {d : Dev} (hphase : d.boot.phase = .failing) (hstopped : d.boot.running = []) :
    (heldState d).boot.phase = .held ∧ (heldState d).boot.flashHighZ = (d.boot.failStage == 3 || d.boot.failStage == 4) ∧
      ∀ b, b < 4 → Zeroised (heldState d) b := by
  unfold heldState
  rw [if_pos ⟨hphase, hstopped⟩]
  extract_lets hi d1 d2 d3 d4
  have h1 (b : Nat) (hb : b < 4) : Zeroised d1 b := foldl_benchZeroise (.inl (List.mem_range.2 hb))
  have h2 : powerOf d2.benches = powerOf d1.benches := by
    refine foldl_power (fun d n => ?_) _ _
    split <;> simp
  have h3 : powerOf d3.benches = powerOf d2.benches := foldl_power (fun _ _ => heldFold_power ..) _ _
  have h4 (b : Nat) (hb : b < 4) : Zeroised d4 b := (congrFun (h3.trans h2) b).trans (h1 b hb)
  split
  · exact ⟨rfl, rfl, h4⟩
  · exact ⟨rfl, rfl, h4⟩

/-! #### The rollback floor -/

theorem rollbackCommit_burns {d : Dev} {v : Nat} (hv : d.boot.pendingCommit = some v) (hphase : d.boot.phase = .released)
    (hfloor : d.fuses.floor < v) :
    rollbackCommit d = { d with
      fuses := { d.fuses with floor := d.fuses.floor + 1 },
      boot := if v ≤ d.fuses.floor + 1 then { d.boot with pendingCommit := none } else d.boot } := by
  by_cases hlast : v ≤ d.fuses.floor + 1 <;> simp [rollbackCommit, updBoot, hv, hphase, hfloor, hlast]

/-- Settles O10: each clause is a branch of the command's meaning; the held state rests on the benches that zeroising another bench leaves zeroised. -/
theorem releaseAndHeldState : Obligations.ReleaseAndHeldState := by
  unfold Obligations.ReleaseAndHeldState
  refine ⟨fun cores tj p s hruns => ⟨fun hfit => ?_, fun hfit hphase => ?_⟩,
    fun n s hphase hn => ⟨fun h1 b => ?_, fun h1 h2 h3 h4 b => ?_, fun h2 => ?_, fun h b => ?_⟩,
    fun s hphase hstopped => ?_, fun v s hv hphase hfloor => ?_⟩
  · refine ⟨_, exec_stage rfl hruns, ?_⟩
    rw [release_eq, if_neg (not_not.2 hfit)]
    exact ⟨rfl, rfl, List.mem_append_right _ (List.mem_singleton_self 11), rfl, rfl, rfl, rfl, fun h hh => releaseHarts_released _ hh⟩
  · refine ⟨_, exec_stage rfl hruns, ?_⟩
    rw [release_eq, if_pos hfit]
    exact stageFail_fails (release_refused_phase hphase cores tj) ..
  · rw [exec_stage rfl (stageRuns_of_running hphase hn), h1, stageTimeout, stageFail_running hphase]
  · rw [exec_stage rfl (stageRuns_of_running hphase hn), stageTimeout_plain h1 h2 h3 h4, stageFail_running hphase]
  · have hexec (b : Bool) := exec_stage (i := .stageTimeout n b) rfl (stageRuns_of_running hphase hn)
    obtain ⟨sg, hstate, -, -, hlock⟩ := timeBaseLocked_eq s.dev
    rw [hexec, hexec, h2, stageTimeout_bootRom, stageTimeout_bootRom, cond_false, cond_true, hlock, stageFail_running hphase]
    refine ⟨rfl, _, rfl, (congrArg Dev.boot (stageFail_running ?_ 2 0x0107)).trans ?_, hstate⟩
    · exact hphase
    · rfl
  · rw [exec_stage rfl (stageRuns_of_running hphase hn), stageTimeout_image h]
    cases hslot : s.dev.boot.slotB
    · rw [slotFails_slotA hslot]
      rfl
    · rw [slotFails_slotB hslot hphase]
      rfl
  · obtain ⟨hheld, hpins, hbench⟩ := heldState_holds hphase hstopped
    exact ⟨_, rfl, hheld, hpins, fun b hb => (zeroised_iff ..).1 (hbench b hb)⟩
  · exact congrArg (fun d => Host.Outcome.next { s with dev := d }) (rollbackCommit_burns hv hphase hfloor)

end Sys2Proof.Proofs
end

section
namespace Sys2Proof.Proofs

open Sys2Proof.Machine

/-! ### Stage 0x06: training one link after another -/

/-! #### Training touches one link -/

/-- Of links only link `n` differs, and beside it only the dies, the messages in flight and what has left the package. -/
def OnlyLink (n : Nat) (d d' : Dev) : Prop :=
  (∀ m, m ≠ n → linkOf d' m = linkOf d m) ∧ { d' with links := d.links, dies := d.dies, flight := d.flight, out := d.out } = d

theorem OnlyLink.refl (n : Nat) (d : Dev) : OnlyLink n d d := ⟨fun _ _ => rfl, rfl⟩

theorem OnlyLink.trans {n : Nat} {d d' d'' : Dev} (h : OnlyLink n d d') (h' : OnlyLink n d' d'') : OnlyLink n d d'' := by
  obtain ⟨hlink, hrest⟩ := h
  obtain ⟨hlink', hrest'⟩ := h'
  refine ⟨fun m hm => (hlink' m hm).trans (hlink m hm), ?_⟩
  rw [← hrest'] at hrest
  exact hrest

theorem onlyLink_updLink (n : Nat) (f : Link → Link) (d : Dev) : OnlyLink n d (updLink d n f) := ⟨fun _ hm => linkOf_updLink_other _ _ hm, rfl⟩
theorem onlyLink_updDie (n k : Nat) (f : Die → Die) (d : Dev) : OnlyLink n d (updDie d k f) := ⟨fun _ _ => rfl, rfl⟩
theorem onlyLink_emit (n : Nat) (o : Out) (d : Dev) : OnlyLink n d (emit o d) := ⟨fun _ _ => rfl, rfl⟩

theorem OnlyLink.jigOf {n : Nat} {d d' : Dev} (h : OnlyLink n d d') (m : Nat) :
    jigOf d' m = jigOf d m := (congrArg (fun e => Machine.jigOf e m) h.2 :)
theorem OnlyLink.fuses {n : Nat} {d d' : Dev} (h : OnlyLink n d d') : d'.fuses = d.fuses := (congrArg Dev.fuses h.2 :)
theorem OnlyLink.boot {n : Nat} {d d' : Dev} (h : OnlyLink n d d') : d'.boot = d.boot := (congrArg Dev.boot h.2 :)

theorem onlyLink_startTraining (n : Nat) (o : LinkObs) (d : Dev) : OnlyLink n d (startTraining n o d) := by
  unfold startTraining
  dsimp only
  (repeat' split) <;> exact onlyLink_updLink ..

theorem onlyLink_bringUpFence (n c : Nat) (d : Dev) : OnlyLink n d (bringUpFence n c d).1 :=
  (onlyLink_updDie n n _ d).trans (onlyLink_updLink n _ _)

theorem onlyLink_drainBundle (n : Nat) (up : Bool) (d : Dev) : OnlyLink n d (drainBundle n up d) := by
  unfold drainBundle
  dsimp only
  split
  · exact .refl n d
  · exact ⟨fun m hm => linkOf_updLink_other d (fun l => if up then { l with up := _ } else { l with down := _ }) hm, rfl⟩

theorem onlyLink_resumeBundle (n : Nat) (up : Bool) (d : Dev) : OnlyLink n d (resumeBundle n up d) := by
  unfold resumeBundle
  extract_lets d1
  refine OnlyLink.trans ?_ (onlyLink_drainBundle n up d1)
  unfold d1
  split
  · unfold resend
    dsimp only
    split
    · exact .refl n d
    · exact (onlyLink_updLink n _ d).trans (onlyLink_emit ..)
  · exact .refl n d

theorem onlyLink_lockLink (n : Nat) (d : Dev) : OnlyLink n d (lockLink n d) :=
  ((onlyLink_updLink n _ d).trans (onlyLink_updDie n n _ _)).trans ((onlyLink_resumeBundle ..).trans (onlyLink_resumeBundle ..))

/-- A narrower sheet that both ends can use, from what the hub and the die hold. -/
def agreedSheet (up : Bool) (l : Link) : Option Nat :=
  if up then narrowSheet l.hubUp l.dieUp l.upBad else narrowSheet l.hubDown l.dieDown l.downBad

/-- The link takes the narrower sheet. -/
def takeSheet (up : Bool) (s : Nat) (l : Link) : Link :=
  if up then { l with hubUp := s, dieUp := s, upAdopted := true, agreeUp := 0 }
  else { l with hubDown := s, dieDown := s, downAdopted := true, agreeDown := 0 }

theorem disagree_narrows {n : Nat} {up : Bool} {d : Dev} {s : Nat} (h : agreedSheet up (linkOf d n) = some s) :
    disagree n up d = updLink (emit (.sheet n up (if up then (linkOf d n).hubUp else (linkOf d n).hubDown)) d) n (takeSheet up s) := by
  unfold disagree
  dsimp only
  rw [agreedSheet] at h
  rw [h]
  rfl

/-- The two ends' sheets agree. -/
def sheetsAgree (up : Bool) (l : Link) : Bool :=
  sheetDigest (if up then l.hubUp else l.hubDown) == sheetDigest (if up then l.dieUp else l.dieDown)

theorem narrowSheet_narrow {hub : Nat} (h : sheetWidth hub ≤ 1) (die bad : Nat) : narrowSheet hub die bad = none := by
  rw [narrowSheet, if_pos h]

theorem settle_agrees {n : Nat} {up : Bool} {d : Dev} (h : sheetsAgree up (linkOf d n) = true) (k : Nat) : settle n up k d = .ok d := by
  cases k with
  | zero => rfl
  | succ k =>
    unfold settle
    exact if_pos (beq_iff_eq.1 h)

theorem settle_stuck {n : Nat} {up : Bool} {d : Dev} (h : sheetsAgree up (linkOf d n) = false)
    (hnone : agreedSheet up (linkOf d n) = none) (k : Nat) :
    settle n up (k + 1) d = .error 0x0803 := by
  unfold settle
  refine (if_neg (beq_eq_false_iff_ne.1 h)).trans (if_pos (.inr ?_))
  cases up <;> simpa [agreedSheet] using hnone

theorem settle_narrows {n : Nat} {up : Bool} {d : Dev} {s : Nat} (h : sheetsAgree up (linkOf d n) = false)
    (hsome : agreedSheet up (linkOf d n) = some s)
    (k : Nat) : settle n up (k + 1) d = settle n up k (disagree n up d) := by
  have hnarrow : narrowSheet (if up then (linkOf d n).hubUp else (linkOf d n).hubDown) (if up then (linkOf d n).dieUp else (linkOf d n).dieDown)
      (if up then (linkOf d n).upBad else (linkOf d n).downBad) = some s := by
    cases up <;> simpa [agreedSheet] using hsome
  conv_lhs => unfold settle
  refine (if_neg (beq_eq_false_iff_ne.1 h)).trans (if_neg ?_)
  rintro (hwidth | hnone)
  · rw [narrowSheet_narrow hwidth] at hnarrow
    cases hnarrow
  · rw [hnarrow] at hnone
    cases hnone

/-- Settling a direction reads and writes nothing but the link: on devices that agree about it, the outcomes agree. -/
theorem settle_congr {n : Nat} (up : Bool) (k : Nat) {d e : Dev} (h : linkOf d n = linkOf e n) :
    (settle n up k d = .error 0x0803 ∧ settle n up k e = .error 0x0803) ∨
      ∃ d' e', settle n up k d = .ok d' ∧ settle n up k e = .ok e' ∧ linkOf d' n = linkOf e' n ∧ (linkOf d' n).state = (linkOf d n).state ∧
        OnlyLink n d d' ∧ OnlyLink n e e' := by
  induction k generalizing d e with
  | zero => exact .inr ⟨d, e, rfl, rfl, h, rfl, .refl n d, .refl n e⟩
  | succ k ih =>
    cases hagree : sheetsAgree up (linkOf d n) with
    | true => exact .inr ⟨d, e, settle_agrees hagree _, settle_agrees (h ▸ hagree) _, h, rfl, .refl n d, .refl n e⟩
    | false =>
      cases hsheet : agreedSheet up (linkOf d n) with
      | none => exact .inl ⟨settle_stuck hagree hsheet k, settle_stuck (h ▸ hagree) (h ▸ hsheet) k⟩
      | some s =>
        rw [settle_narrows hagree hsheet, settle_narrows (h ▸ hagree) (h ▸ hsheet)]
        have hd := disagree_narrows hsheet
        have he := disagree_narrows (d := e) (h ▸ hsheet)
        have hd' : linkOf (disagree n up d) n = takeSheet up s (linkOf d n) := by rw [hd, linkOf_updLink_same]; rfl
        have he' : linkOf (disagree n up e) n = takeSheet up s (linkOf e n) := by rw [he, linkOf_updLink_same]; rfl
        have hstate : (takeSheet up s (linkOf d n)).state = (linkOf d n).state := by cases up <;> rfl
        have hdonly : OnlyLink n d (disagree n up d) := hd ▸ (onlyLink_emit n _ d).trans (onlyLink_updLink ..)
        have heonly : OnlyLink n e (disagree n up e) := he ▸ (onlyLink_emit n _ e).trans (onlyLink_updLink ..)
        obtain hbad | ⟨d', e', hsd, hse, hlink, hst, hod, hoe⟩ := ih (d := disagree n up d) (e := disagree n up e) (by rw [hd', he', h])
        · exact .inl hbad
        · exact .inr ⟨d', e', hsd, hse, hlink, by rw [hst, hd', hstate], hdonly.trans hod, heonly.trans hoe⟩

theorem startTraining_congr {n : Nat} {d e : Dev} (hfuses : d.fuses = e.fuses) (hlink : linkOf d n = linkOf e n) (o : LinkObs) :
    linkOf (startTraining n o d) n = linkOf (startTraining n o e) n := by
  have hsheets : fusedSheets d n = fusedSheets e n := by rw [fusedSheets, hfuses, fusedSheets]
  unfold startTraining
  rw [hsheets, hlink]
  dsimp only
  split
  · simp [hlink]
  · split <;> simp [hlink]

theorem idWrong_congr {d e : Dev} (hfuses : d.fuses = e.fuses) (n : Nat) : idWrong d n = idWrong e n := by
  rw [idWrong, fusedSheets, hubBinding, hfuses, idWrong, fusedSheets, hubBinding]

/-! #### A trained link is up -/

theorem linkOf_resumeBundle {n : Nat} {up : Bool} {d : Dev} (h : bundleOf (linkOf d n) up = bundleInit) :
    linkOf (resumeBundle n up d) n = linkOf d n := by
  unfold resumeBundle
  rw [h]
  show linkOf (drainBundle n up d) n = linkOf d n
  unfold drainBundle
  dsimp only
  split
  · rfl
  · rw [h]
    show linkOf (updBundle n up (fun _ => bundleInit) d) n = linkOf d n
    rw [updBundle, linkOf_updLink_same]
    cases up
    · exact congrArg (fun b => { linkOf d n with down := b }) h.symm
    · exact congrArg (fun b => { linkOf d n with up := b }) h.symm

/-- What a link that was training shows once it has trained. -/
def lockedLink (l : Link) : Link :=
  { l with
    state := .up, upWidth := sheetWidth l.hubUp, downWidth := sheetWidth l.hubDown, agreeUp := 0, agreeDown := 0,
    up := bundleInit, down := bundleInit }

theorem linkOf_lockLink {n : Nat} {d : Dev} (h : (linkOf d n).state = .training) : linkOf (lockLink n d) n = lockedLink (linkOf d n) := by
  unfold lockLink
  extract_lets fresh d1 d2
  have hlink : linkOf d2 n = lockedLink (linkOf d n) := by
    show linkOf d1 n = _
    simp only [d1, fresh, linkOf_updLink_same, h]
    rfl
  have hup : bundleOf (linkOf d2 n) true = bundleInit := by rw [hlink]; rfl
  have hresume := linkOf_resumeBundle hup
  have hdown : bundleOf (linkOf (resumeBundle n true d2) n) false = bundleInit := by rw [hresume, hlink]; rfl
  rw [linkOf_resumeBundle hdown, hresume, hlink]

theorem linkOf_bringUpFence (n c : Nat) (d : Dev) : linkOf (bringUpFence n c d).1 n = { linkOf d n with reason := c, state := .fenced } :=
  linkOf_updLink_same ..

/-- What training of link `n` leaves of it, and the reason it fails with, read nothing but the link, its die's jig mode and the fuses; a link that
trains is up. -/
theorem trainLink_congr {n : Nat} {d e : Dev} (hjig : jigOf d n = jigOf e n) (hfuses : d.fuses = e.fuses)
    (hlink : linkOf d n = linkOf e n) (o : LinkObs) :
    linkOf (trainLink n o d).1 n = linkOf (trainLink n o e).1 n ∧ (trainLink n o d).2 = (trainLink n o e).2 ∧
      ((trainLink n o d).2 = none → (linkOf (trainLink n o d).1 n).state = .up) ∧ OnlyLink n d (trainLink n o d).1 := by
  have hstart := startTraining_congr hfuses hlink o
  have hid : idWrong (startTraining n o d) n = idWrong (startTraining n o e) n := idWrong_congr (by
    rw [(onlyLink_startTraining n o d).fuses, (onlyLink_startTraining n o e).fuses, hfuses]) n
  have honly := onlyLink_startTraining n o d
  unfold trainLink
  rw [hjig]
  split
  · exact ⟨by simp [hlink], rfl, nofun, onlyLink_updLink ..⟩
  dsimp only
  rw [← hstart, ← hid]
  generalize startTraining n o d = d1 at *
  generalize startTraining n o e = e1 at *
  split
  · exact ⟨hstart, rfl, nofun, honly⟩
  next htrain =>
    split
    · exact ⟨by simp [hstart], rfl, nofun, honly.trans (onlyLink_updLink ..)⟩
    have hfence {d' e' : Dev} (h : linkOf d' n = linkOf e' n) :
        linkOf (bringUpFence n 0x0803 d').1 n = linkOf (bringUpFence n 0x0803 e').1 n := by
      rw [linkOf_bringUpFence, linkOf_bringUpFence, h]
    obtain ⟨hd, he⟩ | ⟨d2, e2, hd, he, h2, hst2, honly2, -⟩ := settle_congr true 3 hstart
    · rw [hd, he]
      exact ⟨hfence hstart, rfl, nofun, honly.trans (onlyLink_bringUpFence ..)⟩
    rw [hd, he]
    dsimp only
    obtain ⟨hd, he⟩ | ⟨d3, e3, hd, he, h3, hst3, honly3, -⟩ := settle_congr false 3 h2
    · rw [hd, he]
      exact ⟨hfence h2, rfl, nofun, (honly.trans honly2).trans (onlyLink_bringUpFence ..)⟩
    rw [hd, he]
    have htrain3 : (linkOf d3 n).state = .training := by rw [hst3, hst2, not_not.1 htrain]
    refine ⟨?_, rfl, fun _ => ?_, ((honly.trans honly2).trans honly3).trans (onlyLink_lockLink ..)⟩
    · rw [linkOf_lockLink htrain3, linkOf_lockLink (h3 ▸ htrain3), h3]
    · rw [linkOf_lockLink htrain3]
      rfl

/-! #### Stage 0x06 -/

/-- What the stage sees of link `n`. -/
def linkSeen (obs : List LinkObs) (n : Nat) : LinkObs := obs.getD n { pll := false, up := cleanTest, down := cleanTest }

/-- The links of a list train one after another; the reason of the first that fails is kept. -/
def trainLinks (obs : List LinkObs) (l : List Nat) (a : Dev × Option Nat) : Dev × Option Nat :=
  l.foldl (fun a n => ((trainLink n (linkSeen obs n) a.1).1, a.2.or (trainLink n (linkSeen obs n) a.1).2)) a

theorem tenonStage_cold {d : Dev} (hwarm : d.boot.warm = false) (obs : List LinkObs) :
    tenonStage obs d = match (trainLinks obs (List.range 12) (d, none)).2 with
      | none => stageDone 6 (trainLinks obs (List.range 12) (d, none)).1
      | some c => stageFail 6 c (trainLinks obs (List.range 12) (d, none)).1 := by
  simp only [tenonStage, hwarm, Bool.false_eq_true, if_false]
  rfl

/-- After links 0 to k − 1 trained, each is as if it alone had trained, the later links are as before, and so are jig modes, fuses and the record of the
bring-up; the reason kept is that of the lowest-numbered link that failed. -/
theorem trainLinks_range (obs : List LinkObs) (d : Dev) (k : Nat) :
    let r := trainLinks obs (List.range k) (d, none)
    (∀ n, linkOf r.1 n = if n < k then linkOf (trainLink n (linkSeen obs n) d).1 n else linkOf d n) ∧ (∀ n, jigOf r.1 n = jigOf d n) ∧
      r.1.fuses = d.fuses ∧ r.1.boot = d.boot ∧ r.2 = (List.range k).findSome? (fun n => (trainLink n (linkSeen obs n) d).2) := by
  induction k with
  | zero => exact ⟨fun n => rfl, fun n => rfl, rfl, rfl, rfl⟩
  | succ k ih =>
    obtain ⟨hlink, hjig, hfuses, hboot, hreason⟩ := ih
    have hstep : trainLinks obs (List.range (k + 1)) (d, none) =
        ((trainLink k (linkSeen obs k) (trainLinks obs (List.range k) (d, none)).1).1,
          (trainLinks obs (List.range k) (d, none)).2.or (trainLink k (linkSeen obs k) (trainLinks obs (List.range k) (d, none)).1).2) := by
      rw [trainLinks, List.range_succ, List.foldl_append]
      rfl
    have hk : linkOf (trainLinks obs (List.range k) (d, none)).1 k = linkOf d k := by rw [hlink, if_neg (Nat.lt_irrefl k)]
    obtain ⟨hsame, hout, -, honly⟩ := trainLink_congr (hjig k) hfuses hk (linkSeen obs k)
    rw [hstep]
    refine ⟨fun n => ?_, fun n => (honly.jigOf n).trans (hjig n), honly.fuses.trans hfuses, honly.boot.trans hboot, ?_⟩
    · obtain hn | rfl | hn := lt_trichotomy n k
      · rw [honly.1 n (by omega), hlink, if_pos hn, if_pos (by omega)]
      · rw [hsame, if_pos (by omega)]
      · rw [honly.1 n (by omega), hlink, if_neg (by omega), if_neg (by omega)]
    · rw [hout, hreason, List.range_succ, List.findSome?_append]
      simp

end Sys2Proof.Proofs
end

section
namespace Sys2Proof.Proofs

open Sys2Proof.Machine

/-! ### Stages 0x08 and 0x09: hub stores and ports -/

/-! #### Stage 0x08 -/

section clearPot

variable (base size : Nat) (d : Dev)

theorem tabGet_tabFilter {α : Type} (dflt : α) (p : Nat → Bool) (t : Tab α) (k : Nat) :
    tabGet dflt (tabFilter (fun i _ => p i) t) k = if p k then tabGet dflt t k else dflt := by
  induction t with
  | nil => simp [tabFilter, tabGet]
  | cons e t ih =>
    obtain ⟨j, v⟩ := e
    have hcons : tabFilter (fun i _ => p i) ((j, v) :: t) = if p j then (j, v) :: tabFilter (fun i _ => p i) t else tabFilter (fun i _ => p i) t := by
      simp only [tabFilter, List.filter_cons]
    rw [hcons]
    by_cases hk : k = j
    · subst hk
      by_cases hp : p k = true
      · simp [hp, tabGet]
      · rw [if_neg hp, ih, if_neg hp, if_neg hp]
    · by_cases hp : p j = true
      · rw [if_pos hp]
        simpa [tabGet, hk] using ih
      · rw [if_neg hp, ih]
        simp [tabGet, hk]

/-- The table's bytes read 0 and every other byte as before (R70). -/
theorem memByte_clearPot (a : Nat) : memByte (clearPot base size d) a = if base ≤ a ∧ a < base + size then 0 else memByte d a := by
  unfold clearPot
  extract_lets d1
  have hbytes (k : Nat) : memByte d1 k = memByte d k := rfl
  split
  next hgen =>
    have hgen : d.memGen = 0 := hgen
    show tabGet 0 (tabFilter (fun a _ => !(decide (base ≤ a) && decide (a < base + size))) d.mem) a ^^^ (if d.memGen = 0 then 0 else _) = _
    rw [tabGet_tabFilter 0 (fun a => !(decide (base ≤ a) && decide (a < base + size))), if_pos hgen, memByte, memBase, if_pos hgen]
    by_cases hin : base ≤ a ∧ a < base + size
    · simp [hin]
    · rw [if_neg hin, if_pos (by simp; omega)]
  · by_cases hin : base ≤ a ∧ a < base + size
    · obtain ⟨i, rfl⟩ := Nat.exists_eq_add_of_le hin.1
      have hi : i < (List.replicate size (0 : Byte)).length := by rw [List.length_replicate]; omega
      rw [if_pos hin, memByte_setMem_inside _ _ _ _ hi, List.getElem_replicate]
    · rw [if_neg hin, memByte_setMem_outside _ _ _ _ (by rw [List.length_replicate]; omega), hbytes]

theorem clearPot_frame : { clearPot base size d with mem := d.mem, poison := d.poison } = d := by
  unfold clearPot
  dsimp only
  split <;> rfl

end clearPot

/-- The hub's stores as stage 0x08 leaves them, the Page Owner Table cleared where it lies. -/
def clearedStores (d : Dev) : Dev :=
  clearPot (potPlace d).1 (potPlace d).2 { d with msc := [], mscs := [], maint := maintInit, slices := [] }

theorem clearedStores_frame (d : Dev) :
    { clearedStores d with mem := d.mem, poison := d.poison } = { d with msc := [], mscs := [], maint := maintInit, slices := [] } :=
  clearPot_frame ..

theorem hubStores_clean (d : Dev) : hubStores [] d =
    stageDone 8 { clearedStores d with pot := { base := (potPlace d).1, size := (potPlace d).2, cover := (potPlace d).2 * 2048, ready := true } } := rfl

theorem hubStores_faulty (f : HubFault) (fs : List HubFault) (d : Dev) :
    hubStores (f :: fs) d = (f :: fs).foldl (fun d f => mcWrite (hubFaultEvent f) d) (clearedStores d) := rfl

theorem mcWrite_mcSeq (e : McEvent) (d : Dev) : (mcWrite e d).obs.mcSeq = d.obs.mcSeq + 1 := by
  unfold mcWrite
  dsimp only
  (repeat' split) <;> rfl

theorem foldl_mcWrite_mcSeq (fs : List HubFault) (d : Dev) :
    (fs.foldl (fun d f => mcWrite (hubFaultEvent f) d) d).obs.mcSeq = d.obs.mcSeq + fs.length := by
  induction fs generalizing d with
  | nil => rfl
  | cons f fs ih => rw [List.foldl_cons, ih, mcWrite_mcSeq, List.length_cons]; omega

/-! #### Stage 0x09 -/

/-- Only harts, enclaves and dies differ. -/
def OnlyHarts (d d' : Dev) : Prop := { d' with harts := d.harts, encl := d.encl, dies := d.dies } = d

theorem OnlyHarts.refl (d : Dev) : OnlyHarts d d := rfl

theorem OnlyHarts.trans {d d' d'' : Dev} (h : OnlyHarts d d') (h' : OnlyHarts d' d'') : OnlyHarts d d'' := by
  unfold OnlyHarts at *
  rw [← h'] at h
  exact h

theorem onlyHarts_updHart (d : Dev) (h : Nat) (f : Hart → Hart) : OnlyHarts d (updHart d h f) := rfl
theorem onlyHarts_updEncl (d : Dev) (e : Nat) (f : Enclave → Enclave) : OnlyHarts d (updEncl d e f) := rfl
theorem onlyHarts_dropMiss (n rtag : Nat) (d : Dev) : OnlyHarts d (dropMiss n rtag d) := rfl
theorem onlyHarts_haltIfDue (h : Nat) (d : Dev) : OnlyHarts d (haltIfDue h d) := by
  unfold haltIfDue
  dsimp only
  split <;> rfl

theorem onlyHarts_asyncExit (h : Nat) (d : Dev) : OnlyHarts d (asyncExit h d) := by
  unfold asyncExit
  dsimp only
  split <;> rfl

theorem onlyHarts_takeTrap (h cause : Nat) (irq : Bool) (tval tval2 : Nat) (d : Dev) : OnlyHarts d (takeTrap h cause irq tval tval2 d) := by
  unfold takeTrap
  extract_lets inside d1 tv tv2
  have h1 : OnlyHarts d d1 := by
    unfold d1
    split
    · exact ((onlyHarts_updHart ..).trans (onlyHarts_asyncExit ..)).trans (onlyHarts_haltIfDue ..)
    · exact .refl d
  clear_value d1
  split
  · exact h1
  · exact h1.trans ((onlyHarts_updHart ..).trans (onlyHarts_haltIfDue ..))

theorem onlyHarts_ncFault (m : FMsg) (d : Dev) : OnlyHarts d (ncFault m d) := by
  unfold ncFault
  split
  · dsimp only
    split
    · split
      · exact (onlyHarts_dropMiss ..).trans (onlyHarts_takeTrap ..)
      · exact onlyHarts_dropMiss ..
    · exact onlyHarts_dropMiss ..
  · exact .refl d

/-- Training of the Inlay's sites leaves the root ports, the mirror, the CXL windows, the record of the bring-up, and every entry of the list but
the sites' own. -/
structure PortsStand (d d' : Dev) : Prop where
  rootPorts : d'.rootPorts = d.rootPorts
  mirror : d'.mirror = d.mirror
  cxlState : d'.cxlState = d.cxlState
  boot : d'.boot = d.boot
  ent : ∀ i j, i ≠ 0xA100 → j < 256 → ent d' i j = ent d i j

theorem PortsStand.refl (d : Dev) : PortsStand d d := ⟨rfl, rfl, rfl, rfl, fun _ _ _ _ => rfl⟩

theorem PortsStand.trans {d d' d'' : Dev} (h : PortsStand d d') (h' : PortsStand d' d'') : PortsStand d d'' :=
  ⟨h'.rootPorts.trans h.rootPorts, h'.mirror.trans h.mirror, h'.cxlState.trans h.cxlState, h'.boot.trans h.boot,
    fun i j hi hj => (h'.ent i j hi hj).trans (h.ent i j hi hj)⟩

theorem OnlyHarts.portsStand {d d' : Dev} (h : OnlyHarts d d') : PortsStand d d' := by
  unfold OnlyHarts at h
  exact ⟨(congrArg Dev.rootPorts h :), (congrArg Dev.mirror h :), (congrArg Dev.cxlState h :), (congrArg Dev.boot h :),
    fun i j _ _ => (congrArg (fun e => Machine.ent e i j) h :)⟩

theorem portsStand_updSite (d : Dev) (s : Nat) (f : SiteSt → SiteSt) : PortsStand d (updSite d s f) := ⟨rfl, rfl, rfl, rfl, fun _ _ _ _ => rfl⟩

theorem portsStand_emit (o : Out) (d : Dev) : PortsStand d (emit o d) := ⟨rfl, rfl, rfl, rfl, fun _ _ _ _ => rfl⟩

theorem portsStand_setCurNat (d : Dev) {s : Nat} (hs : s < 256) (v : Nat) : PortsStand d (setCurNat d 0xA100 s v) := by
  refine ⟨rfl, rfl, rfl, rfl, fun i j hi hj => ent_setCurNat_other d v ?_⟩
  simp only [ekey]
  omega

theorem portsStand_containSite {s : Nat} (hs : s < 2) (cause : Nat) (d : Dev) : PortsStand d (containSite s cause d) := by
  unfold containSite
  split
  · exact .refl d
  extract_lets owed d1 d2
  have h1 : PortsStand d d1 := portsStand_updSite ..
  have h2 (l : List (Nat × FMsg)) (d : Dev) : PortsStand d (l.foldl (fun d e => ncFault e.2 d) d) := by
    induction l generalizing d with
    | nil => exact .refl d
    | cons e l ih => exact (onlyHarts_ncFault e.2 d).portsStand.trans (ih _)
  have h3 : PortsStand d2 (setCurNat d2 0xA100 (s + 1) 0) := portsStand_setCurNat d2 (by omega) 0
  exact ((h1.trans (h2 owed d1)).trans h3).trans (portsStand_emit ..)

theorem portsStand_trainSite {s : Nat} (hs : s < 2) (o : UcieObs) (d : Dev) : PortsStand d (trainSite s o d) := by
  unfold trainSite
  split
  · split
    · exact portsStand_updSite ..
    · extract_lets was d1
      have h1 : PortsStand d d1 := portsStand_updSite ..
      clear_value d1
      split
      · exact h1.trans (portsStand_containSite hs 4 d1)
      · exact h1
  · exact .refl d

theorem windowOk_congr {d d' : Dev} (h : PortsStand d d') {i : Nat} (hi : i < 16) : windowOk d' i = windowOk d i := by
  have hent (idx : Nat) (hidx : idx ≠ 0xA100) (k : Nat) (hk : k < 16) : ent d' idx (k + 1) = ent d idx (k + 1) := h.ent idx _ hidx (by omega)
  have hothers : (List.range 16).filter (fun k => k != i && ent d' 0x4031 (k + 1) != 0) =
      (List.range 16).filter (fun k => k != i && ent d 0x4031 (k + 1) != 0) :=
    List.filter_congr fun k hk => by rw [hent 0x4031 (by decide) k (List.mem_range.1 hk)]
  unfold windowOk
  dsimp only
  rw [hothers, hent 0x4030 (by decide) i hi, hent 0x4031 (by decide) i hi, hent 0x4032 (by decide) i hi]
  congr 1
  rw [Bool.eq_iff_iff, List.all_eq_true, List.all_eq_true]
  refine forall₂_congr fun k hk => ?_
  have hk : k < 16 := List.mem_range.1 (List.mem_filter.1 hk).1
  rw [hent 0x4030 (by decide) k hk, hent 0x4031 (by decide) k hk]

theorem windowState_congr {d d' : Dev} (h : PortsStand d d') {i : Nat} (hi : i < 16) : windowState d' i = windowState d i := by
  unfold windowState
  rw [windowOk_congr h hi, h.cxlState, h.rootPorts, h.ent 0x4031 (i + 1) (by decide) (by omega), h.ent 0x4032 (i + 1) (by decide) (by omega)]

theorem portExists_congr {d d' : Dev} (h : PortsStand d d') {n : Nat} (hn : n < 32) : portExists d' n = portExists d n := by
  unfold portExists
  rw [h.ent 0xB000 (n / 4 + 1) (by decide) (by omega)]

/-- What the stage sees at root port `n`. -/
def portSeen (ports : List PortObs) (n : Nat) : PortObs := ports.getD n { pllFailed := false, device := false, protocol := 0, rate := 0, width := 0 }

/-- The states of the root ports as training finds them. -/
def portStates (ports : List PortObs) (d : Dev) : Tab Nat := (List.range 32).foldl (fun t n => tabSet 0 t n (portState d n (portSeen ports n))) []

/-- The root ports, the Dowel's sub-links and the Inlay's sites after training. -/
def portsTrained (ports : List PortObs) (w0 w1 : Nat) (sites : List UcieObs) (d : Dev) : Dev :=
  (List.range 2).foldl (fun d s => trainSite s (sites.getD s { ok := false, rate := 0, width := 0 }) d)
    (updMirror { d with rootPorts := portStates ports d } (fun x => { x with w0 := w0, w1 := w1 }))

theorem pcieStage_eq (ports : List PortObs) (w0 w1 : Nat) (sites : List UcieObs) (d : Dev) :
    let r := portsTrained ports w0 w1 sites d
    let r' := { r with cxlState := (List.range 16).foldl (fun t i => tabSet 0 t i (windowState r i)) [] }
    pcieStage ports w0 w1 sites d =
      if (List.range 32).any (fun n => portExists r n && (portSeen ports n).pllFailed) then stageFail 9 0x0107 r' else stageDone 9 r' := rfl

theorem tabGet_foldl_range {α : Type} [DecidableEq α] (dflt : α) (f : Nat → α) {n k : Nat} (h : n < k) :
    tabGet dflt ((List.range k).foldl (fun t i => tabSet dflt t i (f i)) []) n = f n := by
  have hnodup : ((List.range k).map id).Nodup := by simpa using List.nodup_range
  exact tabGet_foldl_tabSet_mem dflt id f hnodup (List.mem_range.2 h) []

theorem portsStand_portsTrained (ports : List PortObs) (w0 w1 : Nat) (sites : List UcieObs) (d : Dev) :
    PortsStand { d with rootPorts := portStates ports d, mirror := { d.mirror with w0 := w0, w1 := w1 } } (portsTrained ports w0 w1 sites d) := by
  have h (l : List Nat) (hl : ∀ s ∈ l, s < 2) (d : Dev) :
      PortsStand d (l.foldl (fun d s => trainSite s (sites.getD s { ok := false, rate := 0, width := 0 }) d) d) := by
    induction l generalizing d with
    | nil => exact .refl d
    | cons s l ih =>
      obtain ⟨hs, hl⟩ := List.forall_mem_cons.1 hl
      exact (portsStand_trainSite hs _ d).trans (ih hl _)
  exact h (List.range 2) (fun s hs => List.mem_range.1 hs) _

end Sys2Proof.Proofs
end

section
namespace Sys2Proof.Proofs

open Sys2Proof.Machine

/-! ### Stages 0x07 and 0x0A, and the outcome of each stage -/

/-! #### Stage 0x07 -/

/-- Only the channels and the statuses of dry fits differ. -/
def OnlyChans (d d' : Dev) : Prop := { d' with chans := d.chans, list := { d'.list with status := d.list.status } } = d

theorem OnlyChans.refl (d : Dev) : OnlyChans d d := rfl

theorem OnlyChans.trans {d d' d'' : Dev} (h : OnlyChans d d') (h' : OnlyChans d' d'') : OnlyChans d d'' := by
  unfold OnlyChans at *
  rw [← h'] at h
  exact h

theorem OnlyChans.memByte {d d' : Dev} (h : OnlyChans d d') (a : Nat) : memByte d' a = memByte d a := (congrArg (fun e => Machine.memByte e a) h :)
theorem OnlyChans.boot {d d' : Dev} (h : OnlyChans d d') : d'.boot = d.boot := (congrArg Dev.boot h :)
theorem OnlyChans.ent {d d' : Dev} (h : OnlyChans d d') (i j : Nat) : ent d' i j = ent d i j := (congrArg (fun e => Machine.ent e i j) h :)

theorem OnlyChans.slotSpeed {d d' : Dev} (h : OnlyChans d d') (n k : Nat) : slotSpeed d' n k = slotSpeed d n k := h.ent ..

theorem onlyChans_updChan (d : Dev) (n : Nat) (f : ChanSt → ChanSt) : OnlyChans d (updChan d n f) := rfl
theorem onlyChans_recordFit (si ss : Nat) (trig : Nat × Nat) (atKerf : Bool) (f : Fit) (d : Dev) :
    OnlyChans d (recordFit si ss trig atKerf f d) := rfl

theorem chanOf_recordFit (si ss : Nat) (trig : Nat × Nat) (atKerf : Bool) (f : Fit) (d : Dev) (n : Nat) :
    chanOf (recordFit si ss trig atKerf f d) n = chanOf d n := rfl

/-! ##### DIMMs -/

theorem chanOf_seeDimm_same (n : Nat) (o : DimmSeen) (d : Dev) : (chanOf (seeDimm n o d) n).dimm = dimmOf o := by
  rw [seeDimm, chanOf_updChan_same]
theorem chanOf_seeDimm_other {n k : Nat} (h : k ≠ n) (o : DimmSeen) (d : Dev) : chanOf (seeDimm n o d) k = chanOf d k := chanOf_updChan_other _ _ h

section seeDimms

variable (seen : Nat → DimmSeen) (l : List Nat) (d : Dev)

theorem onlyChans_seeDimms : OnlyChans d (l.foldl (fun d n => seeDimm n (seen n) d) d) := by
  induction l generalizing d with
  | nil => exact .refl d
  | cons n l ih => exact (onlyChans_updChan ..).trans (ih (seeDimm n (seen n) d))

variable {n : Nat}

theorem seeDimms_dimm (h : n ∈ l ∨ (chanOf d n).dimm = dimmOf (seen n)) :
    (chanOf (l.foldl (fun d n => seeDimm n (seen n) d) d) n).dimm = dimmOf (seen n) := by
  induction l generalizing d with
  | nil => exact h.resolve_left List.not_mem_nil
  | cons k l ih =>
    refine ih (seeDimm k (seen k) d) ?_
    by_cases hk : n = k
    · subst hk
      exact .inr (chanOf_seeDimm_same ..)
    · rw [chanOf_seeDimm_other hk]
      exact h.imp_left fun hm => (List.mem_cons.1 hm).resolve_left hk

end seeDimms

/-! ##### Training -/

section trainChan

variable (n : Nat) (eye : Bool) (d : Dev)

/-- The dry fit's refusal, a closed eye, or a trained channel (R240, R258). -/
theorem trainChan_cases :
    ((trainChan n eye d).2 ≠ 0 ∧ OnlyChans d (trainChan n eye d).1 ∧ ∃ st, ∀ m,
        chanOf (trainChan n eye d).1 m = if m = n then { chanOf d n with state := st } else chanOf d m) ∨
      ((trainChan n eye d).2 = 0 ∧ OnlyChans d (trainChan n eye d).1 ∧ (∀ m, m ≠ n → chanOf (trainChan n eye d).1 m = chanOf d m) ∧
        (chanOf (trainChan n eye d).1 n).dimm = (chanOf d n).dimm ∧ (chanOf (trainChan n eye d).1 n).state = 2 ∧
        (chanOf (trainChan n eye d).1 n).speed = slotSpeed d n (ent d 0x4003 (n + 1))) := by
  unfold trainChan
  extract_lets f d1 slot warm key slots
  have h1 : OnlyChans d d1 := onlyChans_recordFit ..
  have hchan (m : Nat) : chanOf d1 m = chanOf d m := chanOf_recordFit ..
  clear_value d1
  split
  next hfit => exact .inl ⟨hfit, h1, (chanOf d n).state, fun m => by
      rw [hchan]
      split
      next hm => rw [hm]
      · rfl⟩
  · split
    · refine .inl ⟨by simp, h1.trans ((onlyChans_updChan ..).trans (onlyChans_recordFit ..)), 3, fun m => ?_⟩
      rw [chanOf_recordFit]
      by_cases hm : m = n
      · subst hm
        rw [if_pos rfl, chanOf_updChan_same, hchan]
      · rw [if_neg hm, chanOf_updChan_other _ _ hm, hchan]
    · refine .inr ⟨rfl, h1.trans (onlyChans_updChan ..), fun m hm => ?_, ?_, ?_, ?_⟩
      · rw [chanOf_updChan_other _ _ hm, hchan]
      · rw [chanOf_updChan_same, hchan]
      · rw [chanOf_updChan_same]
      · rw [chanOf_updChan_same]
        exact (h1.slotSpeed n slot).trans (by rw [show slot = _ from h1.ent ..])

theorem onlyChans_trainChan : OnlyChans d (trainChan n eye d).1 := by
  obtain ⟨-, h, -⟩ | ⟨-, h, -⟩ := trainChan_cases n eye d
  all_goals exact h

theorem trainChan_dimm (m : Nat) : (chanOf (trainChan n eye d).1 m).dimm = (chanOf d m).dimm := by
  obtain ⟨-, -, st, h⟩ | ⟨-, -, hother, hdimm, -⟩ := trainChan_cases n eye d
  · rw [h]
    split <;> simp [*]
  · by_cases hm : m = n
    · subst hm
      exact hdimm
    · rw [hother m hm]

theorem trainChan_other {m : Nat} (hm : m ≠ n) : chanOf (trainChan n eye d).1 m = chanOf d m := by
  obtain ⟨-, -, st, h⟩ | ⟨-, -, hother, -⟩ := trainChan_cases n eye d
  · rw [h, if_neg hm]
  · exact hother m hm

theorem trainChan_passes (h : (trainChan n eye d).2 = 0) :
    (chanOf (trainChan n eye d).1 n).state = 2 ∧ (chanOf (trainChan n eye d).1 n).speed = slotSpeed d n (ent d 0x4003 (n + 1)) := by
  obtain ⟨hbad, -⟩ | ⟨-, -, -, -, hpass⟩ := trainChan_cases n eye d
  · exact absurd h hbad
  · exact hpass

end trainChan

/-- The channels of a list train one after another; the reason of the first that fails is kept. -/
def trainChans (seen : Nat → DimmSeen) (l : List Nat) (a : Dev × Nat) : Dev × Nat :=
  l.foldl (fun a n => ((trainChan n (seen n).eye a.1).1, if a.2 = 0 then (trainChan n (seen n).eye a.1).2 else a.2)) a

theorem trainChans_trained (seen : Nat → DimmSeen) (l : List Nat) (a : Dev × Nat) :
    let r := trainChans seen l a
    OnlyChans a.1 r.1 ∧ (∀ m, (chanOf r.1 m).dimm = (chanOf a.1 m).dimm) ∧ (∀ m, m ∉ l → chanOf r.1 m = chanOf a.1 m) ∧
      (r.2 = 0 → a.2 = 0 ∧ ∀ n ∈ l, (chanOf r.1 n).state = 2 ∧ (chanOf r.1 n).speed = slotSpeed a.1 n (ent a.1 0x4003 (n + 1))) := by
  induction l generalizing a with
  | nil => exact ⟨.refl _, fun _ => rfl, fun _ _ => rfl, fun h => ⟨h, nofun⟩⟩
  | cons k l ih =>
    obtain ⟨honly, hdimm, hother, hgood⟩ := ih ((trainChan k (seen k).eye a.1).1, if a.2 = 0 then (trainChan k (seen k).eye a.1).2 else a.2)
    have hk := onlyChans_trainChan k (seen k).eye a.1
    refine ⟨hk.trans honly, fun m => (hdimm m).trans (trainChan_dimm ..), fun m hm => ?_, fun h => ?_⟩
    · obtain ⟨hmk, hml⟩ := not_or.1 (mt List.mem_cons.2 hm)
      exact (hother m hml).trans (trainChan_other _ _ _ hmk)
    · obtain ⟨hzero, hl⟩ := hgood h
      have hzero : (if a.2 = 0 then (trainChan k (seen k).eye a.1).2 else a.2) = 0 := hzero
      obtain ⟨ha, hpass⟩ : a.2 = 0 ∧ (trainChan k (seen k).eye a.1).2 = 0 := by
        split at hzero
        next ha => exact ⟨ha, hzero⟩
        next ha => exact absurd hzero ha
      refine ⟨ha, fun n hn => ?_⟩
      by_cases hnl : n ∈ l
      · obtain ⟨hstate, hspeed⟩ := hl n hnl
        exact ⟨hstate, hspeed.trans (by rw [hk.slotSpeed, hk.ent])⟩
      · obtain rfl := (List.mem_cons.1 hn).resolve_right hnl
        rw [show chanOf (trainChans seen (n :: l) a).1 n = _ from hother n hnl]
        exact trainChan_passes n (seen n).eye a.1 hpass

/-- What the stage sees on channel `n`. -/
def dimmSeen (obs : List DimmSeen) (n : Nat) : DimmSeen := obs.getD n { answers := false, dimms := [], spd := [], eye := false }

/-- The package with every channel showing its DIMMs. -/
def dimmsShown (obs : List DimmSeen) (d : Dev) : Dev := (List.range 16).foldl (fun d n => seeDimm n (dimmSeen obs n) d) (freshDram d)

theorem dramStage_eq (obs : List DimmSeen) (d : Dev) :
    let d0 := dimmsShown obs d
    let r := trainChans (dimmSeen obs) (enabledChans d0) (d0, 0)
    dramStage obs d = if r.2 = 0 then stageDone 7 r.1 else stageFail 7 r.2 r.1 := rfl

theorem freshDram_boot (d : Dev) : (freshDram d).boot = d.boot := by
  unfold freshDram
  (repeat' split) <;> rfl

theorem memByte_freshDram {d : Dev} (hwarm : d.boot.warm = false) (a : Nat) : memByte (freshDram d) a = 0 := by
  rw [freshDram, if_neg (by simp [hwarm])]
  exact memByte_unwritten rfl rfl a

theorem memByte_stageDone (n : Nat) (d : Dev) (a : Nat) : memByte (stageDone n d) a = memByte d a := rfl
theorem memByte_stageFail (n reason : Nat) (d : Dev) (a : Nat) : memByte (stageFail n reason d) a = memByte d a := rfl

/-! #### Stage 0x0A -/

theorem stageDone_frame (n : Nat) (d : Dev) {b : Boot} (h : d.boot = b) : { stageDone n d with boot := b } = d := by
  subst h
  rfl

theorem stageFail_frame (n reason : Nat) (d : Dev) {b : Boot} (h : d.boot = b) : { stageFail n reason d with boot := b } = d := by
  subst h
  rfl

theorem sections_boot (i : List Byte) (ss : List Sect) (d : Dev) : (ss.foldl (fun d x => cohWrite x.load (sectBytes i x) d) d).boot = d.boot :=
  foldl_boot (fun _ _ => cohWrite_boot ..) ss d

/-! #### Each stage's outcome -/

section outcome

variable {d : Dev}

theorem tenonStage_outcome (hwarm : d.boot.warm = false) (obs : List LinkObs) :
    let bad := (List.range 12).findSome? (fun n => (trainLink n (linkSeen obs n) d).2)
    (∀ n, n < 12 → linkOf (tenonStage obs d) n = linkOf (trainLink n (linkSeen obs n) d).1 n) ∧
      (bad = none → (tenonStage obs d).boot.done = d.boot.done ++ [6] ∧ ∀ n, n < 12 → (linkOf (tenonStage obs d) n).state = .up) ∧
      (∀ c, bad = some c → d.boot.phase = .running →
        (tenonStage obs d).boot.phase = .failing ∧ (tenonStage obs d).boot.failStage = 6 ∧ (tenonStage obs d).boot.failReason = c) := by
  intro bad
  have hstage := tenonStage_cold hwarm obs
  obtain ⟨hlink, -, -, hboot, hreason⟩ := trainLinks_range obs d 12
  generalize trainLinks obs (List.range 12) (d, none) = r at *
  have hlinks (n : Nat) (hn : n < 12) : linkOf (tenonStage obs d) n = linkOf (trainLink n (linkSeen obs n) d).1 n := by
    have hr : linkOf (tenonStage obs d) n = linkOf r.1 n := by
      rw [hstage]
      split <;> rfl
    rw [hr, hlink, if_pos hn]
  refine ⟨hlinks, fun hbad => ⟨?_, fun n hn => ?_⟩, fun c hbad hphase => ?_⟩
  · rw [hstage, hreason.trans hbad, stageDone_done, hboot]
  · rw [hlinks n hn]
    exact (trainLink_congr (n := n) (d := d) rfl rfl rfl _).2.2.1 (List.findSome?_eq_none_iff.1 hbad n (List.mem_range.2 hn))
  · rw [hstage, hreason.trans hbad]
    exact stageFail_fails (by rw [hboot, hphase]) 6 c

theorem pcieStage_outcome (ports : List PortObs) (w0 w1 : Nat) (sites : List UcieObs) :
    let d' := pcieStage ports w0 w1 sites d
    (∀ n, n < 32 → tabGet 0 d'.rootPorts n = portState d n (portSeen ports n)) ∧ d'.mirror = { d.mirror with w0 := w0, w1 := w1 } ∧
      (∀ i, i < 16 → tabGet 0 d'.cxlState i = windowState { d with rootPorts := d'.rootPorts } i) ∧
      ((∀ n, n < 32 → portExists d n = true → (portSeen ports n).pllFailed = false) → 9 ∈ d'.boot.done) ∧
      ((∃ n, n < 32 ∧ portExists d n = true ∧ (portSeen ports n).pllFailed = true) → d.boot.phase = .running →
        d'.boot.phase = .failing ∧ d'.boot.failStage = 9 ∧ d'.boot.failReason = 0x0107) := by
  intro d'
  have hstand := portsStand_portsTrained ports w0 w1 sites d
  have hd' : d' = _ := pcieStage_eq ports w0 w1 sites d
  generalize portsTrained ports w0 w1 sites d = r at *
  have hports : d'.rootPorts = portStates ports d := by
    rw [hd']
    split <;> exact hstand.rootPorts
  have hany : (List.range 32).any (fun n => portExists r n && (portSeen ports n).pllFailed) = true ↔
      ∃ n, n < 32 ∧ portExists d n = true ∧ (portSeen ports n).pllFailed = true := by
    rw [List.any_eq_true]
    refine exists_congr fun n => ?_
    rw [List.mem_range, Bool.and_eq_true]
    exact and_congr_right fun hn => by rw [portExists_congr hstand hn]; rfl
  refine ⟨fun n hn => ?_, ?_, fun i hi => ?_, fun hgood => ?_, fun hbad hphase => ?_⟩
  · rw [hports, portStates, tabGet_foldl_range 0 (fun n => portState d n (portSeen ports n)) hn]
  · rw [hd']
    split <;> exact hstand.mirror
  · have hstate : d'.cxlState = (List.range 16).foldl (fun t i => tabSet 0 t i (windowState r i)) [] := by rw [hd']; split <;> rfl
    rw [hstate, tabGet_foldl_range 0 (windowState r) hi, windowState_congr hstand hi, hports]
    rfl
  · rw [hd', if_neg (mt hany.1 (by rintro ⟨n, hn, hexists, hpll⟩; rw [hgood n hn hexists] at hpll; cases hpll))]
    exact List.mem_append_right _ (List.mem_singleton_self 9)
  · rw [hd', if_pos (hany.2 hbad)]
    refine stageFail_fails ?_ 9 0x0107
    exact (congrArg Boot.phase hstand.boot).trans hphase

theorem dramStage_outcome (obs : List DimmSeen) :
    let d0 := dimmsShown obs d
    let r := trainChans (dimmSeen obs) (enabledChans d0) (d0, 0)
    let d' := dramStage obs d
    (∀ n, n < 16 → (chanOf d' n).dimm = dimmOf (dimmSeen obs n)) ∧ (d.boot.warm = false → ∀ a, memByte d' a = 0) ∧
      (r.2 = 0 → d'.boot.done = d.boot.done ++ [7] ∧
        ∀ n ∈ enabledChans d0, (chanOf d' n).state = 2 ∧ (chanOf d' n).speed = slotSpeed d0 n (ent d0 0x4003 (n + 1))) ∧
      (r.2 ≠ 0 → d.boot.phase = .running → d'.boot.phase = .failing ∧ d'.boot.failStage = 7 ∧ d'.boot.failReason = r.2) := by
  intro d0 r d'
  have hseen : OnlyChans (freshDram d) d0 := onlyChans_seeDimms (dimmSeen obs) (List.range 16) (freshDram d)
  obtain ⟨honly, hdimm, -, hgood⟩ := trainChans_trained (dimmSeen obs) (enabledChans d0) (d0, 0)
  have hboot : r.1.boot = d.boot := (hseen.trans honly).boot.trans (freshDram_boot d)
  have hd' : d' = if r.2 = 0 then stageDone 7 r.1 else stageFail 7 r.2 r.1 := dramStage_eq obs d
  have hchan (n : Nat) : chanOf d' n = chanOf r.1 n := by rw [hd']; split <;> rfl
  have hmem (a : Nat) : memByte d' a = memByte r.1 a := by rw [hd']; split <;> rfl
  refine ⟨fun n hn => ?_, fun hwarm a => ?_, fun hr => ⟨?_, fun n hn => ?_⟩, fun hr hphase => ?_⟩
  · rw [hchan, hdimm]
    exact seeDimms_dimm _ _ _ (.inl (List.mem_range.2 hn))
  · rw [hmem, honly.memByte, hseen.memByte, memByte_freshDram hwarm]
  · rw [hd', if_pos hr, stageDone_done, hboot]
  · rw [hchan]
    exact (hgood hr).2 n hn
  · rw [hd', if_neg hr]
    exact stageFail_fails (by rw [hboot, hphase]) 7 r.2

end outcome

/-- Settles O9: links and channels train one at a time, each from what is its own; the other stages are branches of their meanings. -/
theorem hardwareBringUp : Obligations.HardwareBringUp := by
  unfold Obligations.HardwareBringUp
  refine ⟨fun obs s hruns hwarm => ?_, fun s hruns => ?_, fun f fs s hruns => ?_, fun ports w0 w1 sites s hruns => ?_,
    fun s hruns => ⟨fun hfit => ?_, fun hfit hphase => ?_⟩, fun obs s hruns => ?_⟩
  · exact ⟨_, exec_stage rfl hruns, tenonStage_outcome hwarm obs⟩
  · have hframe := clearedStores_frame s.dev
    refine ⟨_, exec_stage rfl hruns, ?_, rfl, rfl, rfl, rfl, (congrArg Dev.msc hframe :), (congrArg Dev.mscs hframe :), (congrArg Dev.slices hframe :),
      fun a hlo hhi => ?_, fun a ha => ?_⟩
    · rw [hubStores_clean, stageDone_done]
      exact congrArg (· ++ [8]) (congrArg (fun d => d.boot.done) hframe :)
    · exact (memByte_clearPot ..).trans (if_pos ⟨hlo, hhi⟩)
    · have ha : a < (potPlace s.dev).1 ∨ (potPlace s.dev).1 + (potPlace s.dev).2 ≤ a := ha
      exact (memByte_clearPot ..).trans (if_neg (by omega))
  · refine ⟨_, exec_stage rfl hruns, ?_, ?_⟩
    · rw [hubStores_faulty, foldl_boot (fun _ _ => mcWrite_boot ..)]
      exact (congrArg Dev.boot (clearedStores_frame s.dev) :)
    · rw [hubStores_faulty, foldl_mcWrite_mcSeq, List.length_cons]
      exact congrArg (· + (fs.length + 1)) (congrArg (fun d => d.obs.mcSeq) (clearedStores_frame s.dev) :)
  · exact ⟨_, exec_stage rfl hruns, pcieStage_outcome ports w0 w1 sites⟩
  · refine ⟨_, exec_stage rfl hruns, ?_, ?_⟩
    · rw [loadSections, if_pos hfit, stageDone_done, sections_boot]
    · rw [loadSections, if_pos hfit]
      exact stageDone_frame 10 _ (sections_boot ..)
  · refine ⟨_, exec_stage rfl hruns, ?_⟩
    rw [loadSections, if_neg (Bool.eq_false_iff.1 hfit)]
    obtain ⟨h1, h2, h3⟩ := stageFail_fails hphase 10 0x0103
    exact ⟨h1, h2, h3, stageFail_frame 10 _ _ rfl⟩
  · exact ⟨_, exec_stage rfl hruns, dramStage_outcome obs⟩

end Sys2Proof.Proofs
end

section
namespace Sys2Proof.Proofs

open Sys2Proof.Machine

/-! ### WFI and wakes -/

/-! #### Counts and one hart -/

theorem HpmMoved.counted {x y : Hart} (h : HpmMoved x y) : Counted x y := by
  obtain ⟨c, q, rfl, hc, hq⟩ := h
  refine ⟨rfl, fun n hn => ?_, hq⟩
  simp only [countedCsr, Bool.or_eq_false_iff, Bool.and_eq_false_iff, decide_eq_false_iff_not] at hn
  exact hc n (by omega) (by omega)

theorem CountsOnly.trans {d e e' : Dev} {h : Nat} (hde : CountsOnly d e h) (hee : CountsOnly e e' h) : CountsOnly d e' h := by
  obtain ⟨hx, ho, hf⟩ := hde
  obtain ⟨hx', ho', hf'⟩ := hee
  refine ⟨hx.trans hx', fun k hk => (ho' k hk).trans (ho k hk), ?_⟩
  rw [← hf'] at hf
  exact hf

theorem count_countsOnly (bank unit slot n : Nat) (d : Dev) (h : Nat) : CountsOnly d (count bank unit slot n d) h := by
  obtain ⟨t, ht⟩ := count_eq bank unit slot n d
  rw [ht]
  exact ⟨HpmMoved.refl _, fun _ _ => rfl, rfl⟩

theorem hartMoves_of_counts {d e : Dev} {h : Nat} (hc : CountsOnly d e h) : HartMoves d e h (hartOf d h) := by
  obtain ⟨hx, ho, hf⟩ := hc
  exact ⟨hx.counted, ho, hf⟩

/-- An update that touches neither CSRs nor pending interrupts is the same on a hart whose counters have moved. -/
theorem hartMoves_updHart {d e : Dev} {h : Nat} {x : Hart} (hm : HartMoves d e h x) {g : Hart → Hart}
    (hg : ∀ c q, g { x with csr := c, irqPending := q } = { g x with csr := c, irqPending := q }) : HartMoves d (updHart e h g) h (g x) := by
  obtain ⟨⟨hx, hcsr, hirq⟩, ho, hf⟩ := hm
  have hy : hartOf e h = { x with csr := (hartOf e h).csr, irqPending := (hartOf e h).irqPending } := by rw [← hx]
  have hgx : g x = { g x with csr := x.csr, irqPending := x.irqPending } := hg x.csr x.irqPending
  have hnew : hartOf (updHart e h g) h = { g x with csr := (hartOf e h).csr, irqPending := (hartOf e h).irqPending } := by
    rw [hartOf_updHart_same, hy]
    exact hg _ _
  refine ⟨?_, fun k hk => (hartOf_updHart_other e g hk).trans (ho k hk), hf⟩
  rw [hnew]
  refine ⟨rfl, fun n hn => ?_, fun i hi => ?_⟩
  · rw [congrArg Hart.csr hgx]
    exact hcsr n hn
  · rw [congrArg Hart.irqPending hgx]
    exact hirq i hi

theorem hartMoves_now {d e : Dev} {h : Nat} {x : Hart} (hm : HartMoves d e h x) : e.now = d.now := (congrArg Dev.now hm.2.2 :)
theorem hartMoves_list {d e : Dev} {h : Nat} {x : Hart} (hm : HartMoves d e h x) : e.list = d.list := (congrArg Dev.list hm.2.2 :)

theorem mirrorEnabled_congr {d e : Dev} (h : e.list = d.list) : mirrorEnabled e = mirrorEnabled d := by
  simp only [mirrorEnabled, ent, h]

/-! #### WFI -/

/-- A hold of the hart's core or die keeps it in idle in place of a deeper mode (R391). -/
def restHeld (d : Dev) (h : Nat) (want : Rest) : Bool :=
  (coreHeld d h || dieHeld d (dieOfHart h)) && normalHart d (hartOf d h) && decide (2 ≤ restRank want)

/-- The hart as it begins to rest with effective mode `want`, in mode `r` (R99). -/
def resting (d : Dev) (h : Nat) (want r : Rest) : Hart :=
  { hartOf d h with rest := r, wantRest := want, bHeldSecure := restHeld d h want, restSince := d.now, domainUp := false }

theorem enterRest_begins (h : Nat) (want : Rest) (d : Dev) :
    ∃ e, HartMoves d e h (resting d h want .idle) ∧ enterRest h want d = if restHeld d h want then e else settleRest h e := by
  have hcounts (c : Nat) : CountsOnly d
      (if restHeld d h want then countPkg pkgHoldDeferrals (countHart h 0x1A (countHart h c d)) else countHart h c d) h := by
    split
    · exact ((countHartN_countsOnly h c 1 d).trans (countHartN_countsOnly h 0x1A 1 _)).trans (count_countsOnly ..)
    · exact countHartN_countsOnly h c 1 d
  have hm := hartMoves_of_counts (hcounts (if want = .fold then 0x19 else if want = .retain then 0x18 else 0x17))
  refine ⟨_, (hartMoves_updHart hm (g := fun x => { x with
    rest := .idle, wantRest := want, bHeldSecure := restHeld d h want, restSince := d.now, domainUp := false }) fun _ _ => rfl), ?_⟩
  rw [← hartMoves_now hm]
  rfl

theorem settleRest_of_ne_fold {d e : Dev} {h : Nat} {want : Rest} (hm : HartMoves d e h (resting d h want .idle)) (hfold : want ≠ .fold)
    (hmirror : want = .idle ∨ mirrorEnabled d = false) : HartMoves d (settleRest h e) h (resting d h want want) := by
  have hwant : (hartOf e h).wantRest = want := congrArg Hart.wantRest hm.1.1
  have hm' := hartMoves_updHart hm (g := fun x => { x with rest := want, domainUp := false }) fun _ _ => rfl
  have hmir := (mirrorEnabled_congr (hartMoves_list hm'))
  have hskip : ¬(want ≠ .idle ∧ mirrorEnabled (updHart e h fun x => { x with rest := want, domainUp := false }) = true) := by
    rw [hmir]
    rintro ⟨hidle, hmirror'⟩
    simp_all
  unfold settleRest
  simp only [hwant, if_neg hfold, if_neg hskip]
  exact hm'

theorem tryFold_of_running {d : Dev} {n k : Nat} (hk : k ∈ liveHarts d n) (hrun : (hartOf d k).rest = .running) : tryFold n d = d := by
  unfold tryFold
  refine if_neg fun hall => ?_
  have := List.all_eq_true.1 hall.2 k hk
  simp [hrun] at this

theorem mem_liveHarts {d : Dev} {n k : Nat} :
    k ∈ liveHarts d n ↔ k ∈ hartsOfDie n ∧ (hartOf d k).released = true ∧ (hartOf d k).offline = false := by
  simp [liveHarts]

theorem settleRest_of_fold {d e : Dev} {h k : Nat} (hm : HartMoves d e h (resting d h .fold .idle)) (hmirror : mirrorEnabled d = false)
    (hk : k ∈ liveHarts d (dieOfHart h)) (hne : k ≠ h) (hrun : (hartOf d k).rest = .running) :
    HartMoves d (settleRest h e) h (resting d h .fold .retain) := by
  have hwant : (hartOf e h).wantRest = .fold := congrArg Hart.wantRest hm.1.1
  have hm' := hartMoves_updHart hm (g := fun x => { x with rest := .retain, domainUp := false }) fun _ _ => rfl
  have hsame : hartOf (updHart e h fun x => { x with rest := .retain, domainUp := false }) k = hartOf d k := hm'.2.1 k hne
  have hskip : ¬(Rest.retain ≠ .idle ∧ mirrorEnabled (updHart e h fun x => { x with rest := .retain, domainUp := false }) = true) := by
    rw [mirrorEnabled_congr (hartMoves_list hm'), hmirror]
    simp
  unfold settleRest
  simp only [hwant, if_true, if_neg hskip]
  rw [tryFold_of_running (k := k)]
  · exact hm'
  · rw [mem_liveHarts] at hk ⊢
    rw [hsame]
    exact hk
  · rw [hsame, hrun]

theorem exec_wfi {h : HartN} {s : State} (hruns : hartRuns s.dev h = true) : exec (.wfi h) s = .next { s with dev := hartWfi h s.dev } := by
  show Host.Outcome.next _ = _
  rw [onHart, if_pos hruns]

/-- The mode a hart in WFI rests in, where nothing wakes it and the instruction does not trap (R99). -/
def WfiRests (x : Hart) (want : Rest) : Prop :=
  (x.mode = .m ∧ want = restFromMode x.srest) ∨ (x.mode = .hs ∧ getBit (csr x mstatusN) 21 = false ∧ want = restFromMode (min x.srest x.restMax)) ∨
    (x.mode = .vs ∧ getBit (csr x mstatusN) 21 = false ∧ getBit (csr x hstatusN) 21 = false ∧ want = .idle)

theorem hartWfi_of_wake {d : Dev} {h : Nat} (hwake : wakeHolds d h = true) : hartWfi h d = advance h 4 d := if_pos hwake

theorem hartWfi_rests {d : Dev} {h : Nat} {want : Rest} (hwake : wakeHolds d h = false) (hwant : WfiRests (hartOf d h) want) :
    hartWfi h d = enterRest h want d := by
  unfold hartWfi
  simp only [hwake]
  rcases hwant with ⟨hmode, rfl⟩ | ⟨hmode, htw, rfl⟩ | ⟨hmode, htw, hvtw, rfl⟩
  · simp [hmode]
  · simp [hmode, htw]
  · simp [hmode, htw, hvtw]

theorem wfi_rests {h : HartN} {s : State} {want : Rest} (hready : HartReady s.dev h) (hwake : wakeHolds s.dev h = false)
    (hwant : WfiRests (hartOf s.dev h) want) :
    (restHeld s.dev h want = true → ∃ d, exec (.wfi h) s = .next { s with dev := d } ∧ HartMoves s.dev d h (resting s.dev h want .idle)) ∧
    (restHeld s.dev h want = false → want ≠ .fold → (want = .idle ∨ mirrorEnabled s.dev = false) →
      ∃ d, exec (.wfi h) s = .next { s with dev := d } ∧ HartMoves s.dev d h (resting s.dev h want want)) ∧
    (restHeld s.dev h want = false → want = .fold → mirrorEnabled s.dev = false →
      (∃ k ∈ liveHarts s.dev (dieOfHart h), k ≠ h.val ∧ (hartOf s.dev k).rest = .running) →
      ∃ d, exec (.wfi h) s = .next { s with dev := d } ∧ HartMoves s.dev d h (resting s.dev h want .retain)) := by
  obtain ⟨e, hm, he⟩ := enterRest_begins h want s.dev
  refine ⟨fun hheld => ⟨_, exec_wfi hready.1, ?_⟩, fun hheld hfold hmirror => ⟨_, exec_wfi hready.1, ?_⟩,
    fun hheld hfold hmirror ⟨k, hk, hne, hrun⟩ => ⟨_, exec_wfi hready.1, ?_⟩⟩
  · rw [hartWfi_rests hwake hwant, he, if_pos hheld]
    exact hm
  · rw [hartWfi_rests hwake hwant, he, hheld]
    exact settleRest_of_ne_fold hm hfold hmirror
  · subst hfold
    rw [hartWfi_rests hwake hwant, he, hheld]
    exact settleRest_of_fold hm hmirror hk hne hrun

/-! #### A wake -/

/-- The hart out of WFI, before its setpoint is set (R101). -/
def wokenHart (x : Hart) : Hart :=
  let y := { x with rest := .running, wantRest := .running, domainUp := false, coreTest := false, ckptCurrent := false, parked := false }
  if x.parked then y else retire { y with pc := (x.pc + 4) % 2 ^ 64 }

theorem wokenHart_eq (x : Hart) : wokenHart x = { x with
    rest := .running, wantRest := .running, domainUp := false, coreTest := false, ckptCurrent := false, parked := false,
    pc := if x.parked then x.pc else (x.pc + 4) % 2 ^ 64, csr := (wokenHart x).csr } := by
  unfold wokenHart
  cases x.parked
  · exact retire_eq _
  · rfl

theorem wokenHart_csr_other (x : Hart) {n : Nat} (hn : n ≠ 0xB02) : tabGet 0 (wokenHart x).csr n = tabGet 0 x.csr n := by
  unfold wokenHart
  cases x.parked
  · exact tabGet_retire_other _ hn
  · rfl

theorem wokenHart_retired {x : Hart} (hparked : x.parked = false) (mv : Nat) : Retired x { wokenHart x with vset := mv } := by
  show csr (wokenHart x) 0xB02 = _
  unfold wokenHart
  rw [hparked]
  exact csr_retire _

theorem haltIfDue_of_no_request {d : Dev} {h : Nat} (hreq : (hartOf d h).haltReq = false) : haltIfDue h d = d := by
  unfold haltIfDue
  simp [hreq]

/-- A running hart has its setpoint noted with its account. -/
theorem setMv_running {d : Dev} {h : HartN} (mv : Nat) (hrun : (hartOf d h).rest = .running) :
    setMv h mv d = updHart (updAcct d h (fun a => { a with vset := mv })) h (fun x => { x with vset := mv }) := by
  unfold setMv
  simp [hrun, h.isLt]

theorem wakeHart_eq {d : Dev} {h : HartN} (hlink : (linkOf d (dieOfHart h)).state ≠ .folded) (hreq : (hartOf d h).haltReq = false) :
    wakeHart h d = updHart (updAcct (updHart d h wokenHart) h (fun a => { a with vset := dueMv d h })) h (fun x => { x with vset := dueMv d h }) := by
  have hrun : (hartOf (updHart d h wokenHart) h).rest = .running := by rw [hartOf_updHart_same, wokenHart_eq]
  have hdue : dueMv (updHart d h wokenHart) h = dueMv d h := rfl
  have hunfold : unfold (dieOfHart h) d = d := if_neg hlink
  unfold wakeHart
  rw [hunfold]
  show haltIfDue h (setMv h (dueMv (updHart d h wokenHart) h) (updHart d h wokenHart)) = _
  rw [hdue, setMv_running _ hrun, haltIfDue_of_no_request]
  rw [hartOf_updHart_same, hartOf_updAcct, hartOf_updHart_same, wokenHart_eq]
  exact hreq

theorem hartWake_outcome {h : HartN} {s : State} (hrest : (hartOf s.dev h).rest ≠ .running) (hwake : wakeHolds s.dev h = true)
    (hruns : dieRuns s.dev (dieOfHart h) = true) (hstop : packageStopped s.dev = false) (hlink : (linkOf s.dev (dieOfHart h)).state ≠ .folded)
    (hreq : (hartOf s.dev h).haltReq = false) :
    let x := hartOf s.dev h
    let y := { x with
      rest := .running, wantRest := .running, domainUp := false, coreTest := false, ckptCurrent := false, parked := false, vset := dueMv s.dev h,
      pc := if x.parked then x.pc else (x.pc + 4) % 2 ^ 64 }
    ∃ d, exec (.hartWake h) s = .next { s with dev := d } ∧ Counted y (hartOf d h) ∧ (x.parked = false → Retired x (hartOf d h)) ∧
      (acctOf d h).vset = dueMv s.dev h ∧ (∀ k, k ≠ h.val → hartOf d k = hartOf s.dev k) ∧
      { d with harts := s.dev.harts, ledger := { d.ledger with accts := s.dev.ledger.accts } } = s.dev := by
  intro x y
  have hexec : exec (.hartWake h) s = .next { s with dev := wakeHart h s.dev } := by
    show Host.Outcome.next { s with dev := if _ then wakeHart h s.dev else s.dev } = _
    rw [if_pos ⟨hrest, hwake, hruns, hstop⟩]
  have hx : hartOf (wakeHart h s.dev) h = { wokenHart x with vset := dueMv s.dev h } := by
    rw [wakeHart_eq hlink hreq, hartOf_updHart_same, hartOf_updAcct, hartOf_updHart_same]
  refine ⟨_, hexec, ⟨?_, fun n hn => ?_, fun i _ => ?_⟩, fun hparked => ?_, ?_, fun k hk => ?_, ?_⟩
  · rw [hx, wokenHart_eq]
  · rw [hx]
    refine wokenHart_csr_other x fun h2 => ?_
    subst h2
    exact absurd hn (by decide)
  · rw [hx, wokenHart_eq]
  · rw [hx]
    exact wokenHart_retired hparked _
  · rw [wakeHart_eq hlink hreq]
    exact congrArg Acct.vset (acctOf_updAcct_same ..)
  · rw [wakeHart_eq hlink hreq, hartOf_updHart_other _ _ hk, hartOf_updAcct, hartOf_updHart_other _ _ hk]
  · rw [wakeHart_eq hlink hreq]
    generalize dueMv s.dev h = mv
    obtain ⟨hs, h1⟩ := updHart_eq s.dev h wokenHart
    rw [h1]
    rfl

end Sys2Proof.Proofs
end

section
namespace Sys2Proof.Proofs

open Sys2Proof.Machine

/-! ### Interrupts, retention, core tests and the spare -/

/-! #### An interrupt to machine mode -/

theorem csr_setCsr_same (n v : Nat) (x : Hart) : csr (setCsr n v x) n = v % 2 ^ 64 := by
  simp [csr, setCsr]

theorem csr_setCsr_other {n k : Nat} (v : Nat) (x : Hart) (hk : k ≠ n) : csr (setCsr n v x) k = csr x k :=
  congrArg BitVec.toNat (tabGet_tabSet_other _ _ _ hk)

/-- A 64-bit register keeps every field that lies in it. -/
theorem getBits_mod_word (n : Nat) {lo w : Nat} (h : lo + w ≤ 64) : getBits (n % 2 ^ 64) lo w = getBits n lo w := by
  apply Nat.eq_of_testBit_eq
  intro j
  rw [testBit_getBits, testBit_getBits, Nat.testBit_mod_two_pow]
  by_cases hj : j < w
  · rw [decide_eq_true (by omega : lo + j < 64), Bool.true_and]
  · simp [hj]

theorem getBit_mod_word (n : Nat) {i : Nat} (h : i < 64) : getBit (n % 2 ^ 64) i = getBit n i := by
  rw [getBit_eq_testBit, getBit_eq_testBit, Nat.testBit_mod_two_pow, decide_eq_true h, Bool.true_and]

theorem getBit_setBit_same (n i : Nat) (b : Bool) : getBit (setBit n i b) i = b := by
  rw [getBit_eq_testBit, setBit, testBit_setBits, if_pos (by omega), Nat.sub_self]
  cases b <;> rfl

theorem getBit_setBit_other (n : Nat) {i j : Nat} (b : Bool) (h : j ≠ i) : getBit (setBit n i b) j = getBit n j := by
  rw [getBit_eq_testBit, getBit_eq_testBit, setBit, testBit_setBits, if_neg (by omega)]

theorem getBits_setBit_other (n : Nat) {i lo w : Nat} (b : Bool) (h : lo + w ≤ i ∨ i + 1 ≤ lo) : getBits (setBit n i b) lo w = getBits n lo w :=
  getBits_setBits_other n _ h

theorem getBit_setBits_other (n : Nat) {i lo w : Nat} (v : Nat) (h : i < lo ∨ lo + w ≤ i) : getBit (setBits n lo w v) i = getBit n i := by
  rw [getBit_eq_testBit, getBit_eq_testBit, testBit_setBits, if_neg (by omega)]

/-- mstatus in a trap to machine mode: where the hart came from, MPIE from MIE, and MIE 0. -/
def trapMStatus (tval : Nat) (x : Hart) : Nat :=
  let st := setBits (csr x mstatusN) 11 2 (modePriv x.mode)
  let st := setBit st 39 (modeV x.mode)
  let st := setBit st 38 (modeV x.mode && tval != 0)
  setBit (setBit st 7 (getBit st 3)) 3 false

theorem trapMStatus_mpp (tval : Nat) (x : Hart) : getBits (trapMStatus tval x) 11 2 = modePriv x.mode := by
  unfold trapMStatus
  rw [getBits_setBit_other _ _ (by omega), getBits_setBit_other _ _ (by omega), getBits_setBit_other _ _ (by omega),
    getBits_setBit_other _ _ (by omega), getBits_setBits_same]
  cases x.mode <;> rfl

theorem trapMStatus_mie (tval : Nat) (x : Hart) : getBit (trapMStatus tval x) 3 = false := getBit_setBit_same ..

theorem trapMStatus_mpie (tval : Nat) (x : Hart) : getBit (trapMStatus tval x) 7 = getBit (csr x mstatusN) 3 := by
  unfold trapMStatus
  rw [getBit_setBit_other _ _ (by omega), getBit_setBit_same, getBit_setBit_other _ _ (by omega), getBit_setBit_other _ _ (by omega),
    getBit_setBits_other _ _ (by omega)]

/-- The CSRs that a trap to machine mode writes. -/
def trapMCsrs (cause : Nat) (irq : Bool) (tval tval2 : Nat) (x : Hart) : Hart :=
  setCsr mstatusN (trapMStatus tval x)
    (setCsr mepcN x.pc (setCsr mcauseN (causeWord cause irq) (setCsr mtvalN tval (setCsr mtval2N tval2 (setCsr mtinstN 0 x)))))

theorem trapMCsrs_other (cause : Nat) (irq : Bool) (tval tval2 : Nat) (x : Hart) {n : Nat}
    (hn : n ∉ [mepcN, mcauseN, mtvalN, mtval2N, mtinstN, mstatusN]) : csr (trapMCsrs cause irq tval tval2 x) n = csr x n := by
  simp only [List.mem_cons, List.not_mem_nil, or_false, not_or] at hn
  obtain ⟨h1, h2, h3, h4, h5, h6⟩ := hn
  unfold trapMCsrs
  rw [csr_setCsr_other _ _ h6, csr_setCsr_other _ _ h1, csr_setCsr_other _ _ h2, csr_setCsr_other _ _ h3, csr_setCsr_other _ _ h4,
    csr_setCsr_other _ _ h5]

theorem setCsr_kept {x y : Hart} (n v : Nat) (h : ∃ c, x = { y with csr := c }) : ∃ c, setCsr n v x = { y with csr := c } := by
  obtain ⟨c, rfl⟩ := h
  exact ⟨_, rfl⟩

theorem trapMCsrs_frame (cause : Nat) (irq : Bool) (tval tval2 : Nat) (x : Hart) :
    trapMCsrs cause irq tval tval2 x = { x with csr := (trapMCsrs cause irq tval tval2 x).csr } := by
  obtain ⟨c, hc⟩ : ∃ c, trapMCsrs cause irq tval tval2 x = { x with csr := c } :=
    setCsr_kept _ _ (setCsr_kept _ _ (setCsr_kept _ _ (setCsr_kept _ _ (setCsr_kept _ _ (setCsr_kept _ _ ⟨x.csr, rfl⟩)))))
  rw [hc]

theorem trapM_eq (cause : Nat) (irq : Bool) (tval tval2 : Nat) (x : Hart) : trapM cause irq tval tval2 x =
    { x with mode := .m, pc := tvecTarget (csr x mtvecN) cause irq, csr := (trapMCsrs cause irq tval tval2 x).csr } := by
  have hvec : csr (trapMCsrs cause irq tval tval2 x) mtvecN = csr x mtvecN := trapMCsrs_other cause irq tval tval2 x (by decide)
  have htrap : trapM cause irq tval tval2 x =
      { trapMCsrs cause irq tval tval2 x with mode := .m, pc := tvecTarget (csr (trapMCsrs cause irq tval tval2 x) mtvecN) cause irq } := rfl
  rw [htrap, hvec, trapMCsrs_frame]

theorem trapMCsrs_mepc (cause : Nat) (irq : Bool) (tval tval2 : Nat) (x : Hart) : csr (trapMCsrs cause irq tval tval2 x) mepcN = x.pc % 2 ^ 64 := by
  unfold trapMCsrs
  rw [csr_setCsr_other _ _ (by decide), csr_setCsr_same]

theorem trapMCsrs_mcause (cause : Nat) (irq : Bool) (tval tval2 : Nat) (x : Hart) :
    csr (trapMCsrs cause irq tval tval2 x) mcauseN = causeWord cause irq % 2 ^ 64 := by
  unfold trapMCsrs
  rw [csr_setCsr_other _ _ (by decide), csr_setCsr_other _ _ (by decide), csr_setCsr_same]

theorem trapMCsrs_mtval (cause : Nat) (irq : Bool) (tval tval2 : Nat) (x : Hart) : csr (trapMCsrs cause irq tval tval2 x) mtvalN = tval % 2 ^ 64 := by
  unfold trapMCsrs
  rw [csr_setCsr_other _ _ (by decide), csr_setCsr_other _ _ (by decide), csr_setCsr_other _ _ (by decide), csr_setCsr_same]

theorem trapMCsrs_mstatus (cause : Nat) (irq : Bool) (tval tval2 : Nat) (x : Hart) :
    csr (trapMCsrs cause irq tval tval2 x) mstatusN = trapMStatus tval x % 2 ^ 64 := csr_setCsr_same ..

/-- The hart after a trap, in the mode that takes it. -/
def trapped (cause : Nat) (irq : Bool) (tval tval2 : Nat) (x : Hart) : Hart :=
  let x := { x with waiting := none }
  match trapMode x cause irq with
  | .vs => trapVS cause irq tval x
  | .hs => trapHS cause irq tval tval2 x
  | _ => trapM cause irq tval tval2 x

theorem trapped_machine {cause : Nat} {irq : Bool} {x : Hart} (tval tval2 : Nat) (hmode : trapMode x cause irq = .m) :
    trapped cause irq tval tval2 x = trapM cause irq tval tval2 { x with waiting := none } := by
  have hmode' : trapMode { x with waiting := none } cause irq = .m := hmode
  unfold trapped
  simp only [hmode']

/-- Outside an enclave and with no halt requested, a trap changes its hart only. -/
theorem takeTrap_machine {d : Dev} {h cause : Nat} {irq : Bool} (tval tval2 : Nat) (heid : (hartOf d h).eid = 0) (hreq : (hartOf d h).haltReq = false)
    (hmode : trapMode (hartOf d h) cause irq = .m) : takeTrap h cause irq tval tval2 d = updHart d h (trapped cause irq tval tval2) := by
  have htrap : takeTrap h cause irq tval tval2 d = haltIfDue h (updHart d h (trapped cause irq tval tval2)) := by
    unfold takeTrap
    simp only [heid, ne_eq, not_true_eq_false, decide_false, Bool.false_eq_true, if_false, Bool.false_and]
    rfl
  rw [htrap, haltIfDue_of_no_request]
  rw [hartOf_updHart_same, trapped_machine _ _ hmode, trapM_eq]
  exact hreq

theorem exec_hartInterrupt {h : HartN} {s : State} {i : Nat}
    (hruns : hartRuns (updHart s.dev h (fun x => { x with waiting := none })) h = true) (hnc : ncOpen s.dev h = false)
    (hirq : nextIrq s.dev h = some i) : exec (.hartInterrupt h) s = .next { s with dev := takeTrap h i true 0 0 s.dev } := by
  have hgo : hartInterrupt h s.dev = takeTrap h i true 0 0 s.dev := by
    simp only [hartRuns, hartOf_updHart_same, Bool.and_eq_true, Bool.not_eq_true'] at hruns
    obtain ⟨⟨⟨⟨⟨⟨⟨h1, h2⟩, h3⟩, h4⟩, h5⟩, -⟩, h6⟩, h7⟩ := hruns
    have h6' : dieRuns s.dev (dieOfHart h) = true := h6
    have h7' : packageStopped s.dev = false := h7
    unfold hartInterrupt
    simp only [h1, h2, h3, h4, h5, h6', h7', hnc, hirq, Bool.not_false, Bool.and_self, if_true]
  rw [← hgo]
  rfl

theorem hartInterrupt_outcome {h : HartN} {s : State} {i : Nat}
    (hruns : hartRuns { s.dev with harts := (updHart s.dev h (fun x => { x with waiting := none })).harts } h = true) (hnc : ncOpen s.dev h = false) :
    let x := hartOf s.dev h
    x.haltReq = false → x.eid = 0 → nextIrq s.dev h = some i → trapMode x i true = .m →
    ∃ d, exec (.hartInterrupt h) s = .next { s with dev := d } ∧
      HartOnly s.dev d h { x with mode := .m, waiting := none, pc := tvecTarget (csr x mtvecN) i true, csr := (hartOf d h).csr } ∧
      csr (hartOf d h) mepcN = x.pc % 2 ^ 64 ∧ csr (hartOf d h) mcauseN = (i + 2 ^ 63) % 2 ^ 64 ∧ csr (hartOf d h) mtvalN = 0 ∧
      getBits (csr (hartOf d h) mstatusN) 11 2 = modePriv x.mode ∧ getBit (csr (hartOf d h) mstatusN) 7 = getBit (csr x mstatusN) 3 ∧
      getBit (csr (hartOf d h) mstatusN) 3 = false ∧
      (∀ n, n ∉ [mepcN, mcauseN, mtvalN, mtval2N, mtinstN, mstatusN] → csr (hartOf d h) n = csr x n) := by
  intro x hreq heid hirq hmode
  have hx : hartOf (updHart s.dev h (trapped i true 0 0)) h = { x with
      mode := .m, waiting := none, pc := tvecTarget (csr x mtvecN) i true, csr := (trapMCsrs i true 0 0 { x with waiting := none }).csr } := by
    rw [hartOf_updHart_same, trapped_machine _ _ hmode, trapM_eq]
    rfl
  have hcsr (n : Nat) : csr (hartOf (updHart s.dev h (trapped i true 0 0)) h) n = csr (trapMCsrs i true 0 0 { x with waiting := none }) n :=
    congrArg (fun c => (tabGet 0 c n).toNat) (congrArg Hart.csr hx)
  have hexec := exec_hartInterrupt hruns hnc hirq
  rw [takeTrap_machine 0 0 heid hreq hmode] at hexec
  obtain ⟨-, hother, hframe⟩ := hartOnly_updHart s.dev h (trapped i true 0 0)
  refine ⟨_, hexec, ⟨?_, hother, hframe⟩, ?_, ?_, ?_, ?_, ?_, ?_, fun n hn => ?_⟩
  · rw [hx]
  · rw [hcsr, trapMCsrs_mepc]
  · rw [hcsr, trapMCsrs_mcause]
    rfl
  · rw [hcsr, trapMCsrs_mtval, Nat.zero_mod]
  · rw [hcsr, trapMCsrs_mstatus, getBits_mod_word _ (by omega), trapMStatus_mpp]
  · rw [hcsr, trapMCsrs_mstatus, getBit_mod_word _ (by omega), trapMStatus_mpie]
    rfl
  · rw [hcsr, trapMCsrs_mstatus, getBit_mod_word _ (by omega), trapMStatus_mie]
  · rw [hcsr, trapMCsrs_other _ _ _ _ _ hn]
    rfl

/-! #### The harts of a die -/

theorem mem_hartsOfDie {n h : Nat} : h ∈ hartsOfDie n ↔ dieOfHart h = n := by
  simp only [hartsOfDie, dieOfHart, List.mem_map, List.mem_range]
  constructor
  · rintro ⟨k, hk, rfl⟩
    omega
  · rintro rfl
    exact ⟨h % 18, Nat.mod_lt _ (by omega), by omega⟩

/-- An update that changes nothing the second time, made at each hart of a list, is made once at each. -/
theorem hartOf_foldl_updHart {f : Hart → Hart} (hf : ∀ x, f (f x) = f x) (l : List Nat) (d : Dev) (k : Nat) :
    hartOf (l.foldl (fun d h => updHart d h f) d) k = if k ∈ l then f (hartOf d k) else hartOf d k := by
  induction l generalizing d with
  | nil => rfl
  | cons h l ih =>
    rw [List.foldl_cons, ih]
    by_cases hk : k = h
    · subst hk
      rw [hartOf_updHart_same, hf, if_pos List.mem_cons_self, ite_self]
    · rw [hartOf_updHart_other _ _ hk]
      simp [hk]

theorem hartOf_foldl_die {f : Hart → Hart} (hf : ∀ x, f (f x) = f x) (n : Nat) (d : Dev) (k : Nat) :
    hartOf ((hartsOfDie n).foldl (fun d h => updHart d h f) d) k = if dieOfHart k = n then f (hartOf d k) else hartOf d k := by
  rw [hartOf_foldl_updHart hf]
  simp only [mem_hartsOfDie]

theorem foldl_updHart_frame (l : List Nat) (f : Hart → Hart) (d : Dev) : { l.foldl (fun d h => updHart d h f) d with harts := d.harts } = d := by
  obtain ⟨hs, h⟩ := foldl_updHart_eq l (fun _ => f) d
  rw [h]

theorem dieOf_foldl_updHart (l : List Nat) (f : Hart → Hart) (d : Dev) (n : Nat) : dieOf (l.foldl (fun d h => updHart d h f) d) n = dieOf d n := by
  obtain ⟨hs, h⟩ := foldl_updHart_eq l (fun _ => f) d
  rw [h]
  rfl

theorem retentionIdle_eq {d : Dev} {n : Nat} (hbusy : (dieOf d n).snoopBusy = false) :
    retentionIdle n d = (hartsOfDie n).foldl (fun d h => updHart d h (fun x => { x with domainUp := false })) d :=
  if_neg (by rw [dieOf_foldl_updHart, hbusy]; simp)

theorem retentionIdle_outcome {n : DieN} {s : State} (hbusy : (dieOf s.dev n).snoopBusy = false) :
    ∃ d, exec (.retentionIdle n) s = .next { s with dev := d } ∧
      (∀ h, hartOf d h = if dieOfHart h = n.val then { hartOf s.dev h with domainUp := false } else hartOf s.dev h) ∧
        { d with harts := s.dev.harts } = s.dev := by
  refine ⟨retentionIdle n s.dev, rfl, fun h => ?_, ?_⟩
  · rw [retentionIdle_eq hbusy]
    exact hartOf_foldl_die (f := fun x => { x with domainUp := false }) (fun _ => rfl) n s.dev h
  · rw [retentionIdle_eq hbusy]
    exact foldl_updHart_frame ..

/-! #### Core tests -/

theorem sendWake_of_not_folded {d : Dev} {n : Nat} (hlink : (linkOf d n).state ≠ .folded) : sendWake n d = d := if_neg fun h => hlink h.1

section tests
variable {h : Nat} {d : Dev}

theorem coreTest_start (hrest : (hartOf d h).rest = .retain ∨ (hartOf d h).rest = .fold) (hlink : (linkOf d (dieOfHart h)).state ≠ .folded)
    (hsince : (hartOf d h).restSince + 100000 ≤ d.now) (hdue : testDue d (hartOf d h).testedAt = true) :
    coreTest h false .start d = updHart d h (fun x => { x with coreTest := true }) := by
  have hr : ((hartOf d h).rest == .retain || (hartOf d h).rest == .fold) = true := by rcases hrest with h | h <;> rw [h] <;> rfl
  unfold coreTest
  simp only [hr, hsince, hdue, decide_true, Bool.and_self, if_true, Bool.false_eq_true, if_false, sendWake_of_not_folded hlink]

/-- The test on the core ends (R105). -/
def testEnded (h : Nat) (d : Dev) : Dev := updHart d h (fun x => { x with coreTest := false, testedAt := d.now })

theorem coreTest_pass (htest : (hartOf d h).coreTest = true) : coreTest h false .pass d = testEnded h d := by
  unfold coreTest
  simp [htest, testEnded]

theorem coreTest_fail (htest : (hartOf d h).coreTest = true) : coreTest h false .fail d = retireCore h (testEnded h d) := by
  unfold coreTest
  simp [htest, testEnded]

theorem hartOf_testEnded : hartOf (testEnded h d) h = { hartOf d h with coreTest := false, testedAt := d.now } := hartOf_updHart_same ..

theorem spareBusy_testEnded (n : Nat) : spareBusy (testEnded h d) n = spareBusy d n := by
  unfold spareBusy
  congr 1
  funext k
  by_cases hk : k = h
  · subst hk
    rw [hartOf_testEnded]
  · rw [testEnded, hartOf_updHart_other _ _ hk]

/-- With no usable spare free, the core's hart is to go offline after its grace (R109). -/
theorem retireCore_offline (hpend : (hartOf d h).retirePend = false) (hoff : (hartOf d h).offline = false) (hmove : (hartOf d h).spareMove = 0)
    (hspare : is204S d = false ∨ (hartOf d h).spareUsed = true ∨ spareBusy d (dieOfHart h) = true) :
    retireCore h d = updHart d h (fun x =>
      { x with retirePend := true, grace := 1000, irqPending := nubNat (x.irqPending ++ [24]), ckptCurrent := false }) := by
  have hno : (is204S d && !(hartOf d h).spareUsed && !spareBusy d (dieOfHart h)) = false := by
    rcases hspare with h | h | h <;> simp [h]
  unfold retireCore
  simp [hpend, hoff, hmove, hno]

theorem retireCore_spare (hpend : (hartOf d h).retirePend = false) (hoff : (hartOf d h).offline = false) (hmove : (hartOf d h).spareMove = 0)
    (h204 : is204S d = true) (hused : (hartOf d h).spareUsed = false) (hbusy : spareBusy d (dieOfHart h) = false) :
    retireCore h d =
      wakeForSnoop (dieOfHart h) (fun k => k == coreOfHart h) (updHart d h (fun x => { x with spareMove := 1, spareAt := d.now })) := by
  unfold retireCore
  simp [hpend, hoff, hmove, h204, hused, hbusy]

end tests

/-- What a move to the spare and a core test leave with the hart. -/
def testState (x : Hart) : Nat × Nat × Bool := (x.spareMove, x.spareAt, x.coreTest)

theorem testState_updHart {f : Hart → Hart} (hf : ∀ x, testState (f x) = testState x) (d : Dev) (h k : Nat) :
    testState (hartOf (updHart d h f) k) = testState (hartOf d k) := by
  by_cases hk : k = h
  · subst hk
    rw [hartOf_updHart_same, hf]
  · rw [hartOf_updHart_other _ _ hk]

theorem testState_foldl {g : Dev → Nat → Dev} {k : Nat} (hg : ∀ d h, testState (hartOf (g d h) k) = testState (hartOf d k)) (l : List Nat) (d : Dev) :
    testState (hartOf (l.foldl g d) k) = testState (hartOf d k) := by
  induction l generalizing d with
  | nil => rfl
  | cons h l ih => rw [List.foldl_cons, ih, hg]

theorem testState_countHart (h c : Nat) (d : Dev) (k : Nat) : testState (hartOf (countHart h c d) k) = testState (hartOf d k) := by
  obtain ⟨⟨c', q, hy, -⟩, hother, -⟩ := countHartN_countsOnly h c 1 d
  by_cases hk : k = h
  · subst hk
    exact (congrArg testState hy).trans rfl
  · exact congrArg testState (hother k hk)

theorem testState_linkWakes (n : Nat) (d : Dev) (k : Nat) : testState (hartOf (linkWakes n d) k) = testState (hartOf d k) := by
  unfold linkWakes
  dsimp only
  rw [testState_foldl fun d h => testState_updHart (fun x => by split <;> rfl) d h k]
  simp

/-- The domains of a die's cores that a snoop needs come up (R103). -/
def wakeDomains (n : Nat) (needs : Nat → Bool) (d : Dev) : Dev :=
  let sleeping := (hartsOfDie n).filter (fun h => needs (coreOfHart h) && (hartOf d h).rest == .retain && !(hartOf d h).domainUp)
  if sleeping = [] then d
  else sleeping.foldl (fun d h => updHart (countHart h 0x1B d) h (fun x => { x with domainUp := true })) (countDie n 13 d)

theorem wakeForSnoop_eq (n : Nat) (needs : Nat → Bool) (d : Dev) : wakeForSnoop n needs d =
    wakeDomains n needs
      (if (linkOf d n).state = .folded then updDie (linkWakes n (sendWake n d)) n (fun x => { x with snoopBusy := true }) else d) := rfl

theorem testState_wakeDomains (n : Nat) (needs : Nat → Bool) (d : Dev) (k : Nat) :
    testState (hartOf (wakeDomains n needs d) k) = testState (hartOf d k) := by
  unfold wakeDomains
  dsimp only
  split
  · rfl
  · rw [testState_foldl fun d h => (testState_updHart (f := fun x => { x with domainUp := true }) (fun _ => rfl) _ h k).trans
      (testState_countHart h 0x1B d k), hartOf_countDie]

theorem hartOf_sendWake (n : Nat) (d : Dev) (k : Nat) : hartOf (sendWake n d) k = hartOf d k := by
  unfold sendWake
  split
  · rw [hartOf_emit, hartOf_updLink]
  · rfl

theorem testState_wakeForSnoop (n : Nat) (needs : Nat → Bool) (d : Dev) (k : Nat) :
    testState (hartOf (wakeForSnoop n needs d) k) = testState (hartOf d k) := by
  rw [wakeForSnoop_eq, testState_wakeDomains]
  split
  · rw [hartOf_updDie, testState_linkWakes, hartOf_sendWake]
  · rfl

theorem hartOnly_updHart_after {d e : Dev} {h : Nat} {x : Hart} (he : HartOnly d e h x) (f : Hart → Hart) : HartOnly d (updHart e h f) h (f x) := by
  obtain ⟨rfl, hother, hframe⟩ := he
  exact ⟨hartOf_updHart_same .., fun k hk => (hartOf_updHart_other e f hk).trans (hother k hk), hframe⟩

theorem coreTest_outcome (h : HartN) (s : State) :
    let x := hartOf s.dev h
    ((x.rest = .retain ∨ x.rest = .fold) → (linkOf s.dev (dieOfHart h)).state ≠ .folded → x.restSince + 100000 ≤ s.dev.now →
      testDue s.dev x.testedAt = true →
      ∃ d, exec (.coreTest h false .start) s = .next { s with dev := d } ∧ HartOnly s.dev d h { x with coreTest := true }) ∧
    (x.coreTest = true → ∃ d, exec (.coreTest h false .pass) s = .next { s with dev := d } ∧
      HartOnly s.dev d h { x with coreTest := false, testedAt := s.dev.now }) ∧
    (x.coreTest = true → x.retirePend = false → x.offline = false → x.spareMove = 0 →
      (is204S s.dev = false ∨ x.spareUsed = true ∨ spareBusy s.dev (dieOfHart h) = true) →
      ∃ d, exec (.coreTest h false .fail) s = .next { s with dev := d } ∧ HartOnly s.dev d h { x with
        coreTest := false, testedAt := s.dev.now, retirePend := true, grace := 1000, irqPending := nubNat (x.irqPending ++ [24]),
        ckptCurrent := false }) ∧
    (x.coreTest = true → x.retirePend = false → x.offline = false → x.spareMove = 0 → is204S s.dev = true → x.spareUsed = false →
      spareBusy s.dev (dieOfHart h) = false →
      ∃ d, exec (.coreTest h false .fail) s = .next { s with dev := d } ∧ (hartOf d h).spareMove = 1 ∧ (hartOf d h).spareAt = s.dev.now ∧
        (hartOf d h).coreTest = false) := by
  intro x
  have hexec (evt : TestEvt) : exec (.coreTest h false evt) s = .next { s with dev := coreTest h false evt s.dev } := rfl
  refine ⟨fun hrest hlink hsince hdue => ⟨_, hexec .start, ?_⟩, fun htest => ⟨_, hexec .pass, ?_⟩,
    fun htest hpend hoff hmove hspare => ⟨_, hexec .fail, ?_⟩, fun htest hpend hoff hmove h204 hused hbusy => ⟨_, hexec .fail, ?_⟩⟩
  · rw [coreTest_start hrest hlink hsince hdue]
    exact hartOnly_updHart ..
  · rw [coreTest_pass htest]
    exact hartOnly_updHart ..
  · have hended : hartOf (testEnded h s.dev) h = { x with coreTest := false, testedAt := s.dev.now } := hartOf_testEnded
    rw [coreTest_fail htest, retireCore_offline (by rw [hended]; exact hpend) (by rw [hended]; exact hoff) (by rw [hended]; exact hmove)
      (by rw [hended, spareBusy_testEnded]; exact hspare)]
    exact hartOnly_updHart_after (hartOnly_updHart ..) _
  · have hended : hartOf (testEnded h s.dev) h = { x with coreTest := false, testedAt := s.dev.now } := hartOf_testEnded
    have hstate : testState (hartOf (coreTest h false .fail s.dev) h) = (1, s.dev.now, false) := by
      rw [coreTest_fail htest, retireCore_spare (d := testEnded h s.dev) (by rw [hended]; exact hpend) (by rw [hended]; exact hoff)
        (by rw [hended]; exact hmove)
        h204 (by rw [hended]; exact hused) (by rw [spareBusy_testEnded]; exact hbusy), testState_wakeForSnoop, hartOf_updHart_same, hended]
      rfl
    simp only [testState, Prod.mk.injEq] at hstate
    exact hstate

/-! #### The spare core -/

theorem dieOnly_updDie (d : Dev) (n : Nat) (f : Die → Die) : DieOnly d (updDie d n f) n (f (dieOf d n)) :=
  ⟨dieOf_updDie_same .., fun _ hk => dieOf_updDie_other d f hk, rfl⟩

/-- The test on a die's spare ends (R105). -/
def spareTestEnded (n : Nat) (d : Dev) : Dev := updDie d n (fun y => { y with spareTest := false, spareTestedAt := d.now })

section spares
variable {h : Nat} {d : Dev}

theorem coreTest_spare_start (h204 : is204S d = true) (hused : (hartOf d h).spareUsed = false)
    (hdue : testDue d (dieOf d (dieOfHart h)).spareTestedAt = true) (hlink : (linkOf d (dieOfHart h)).state ≠ .folded) :
    coreTest h true .start d = updDie d (dieOfHart h) (fun y => { y with spareTest := true }) := by
  unfold coreTest
  simp [h204, hused, hdue, sendWake_of_not_folded hlink]

theorem coreTest_spare_pass (htest : (dieOf d (dieOfHart h)).spareTest = true) : coreTest h true .pass d = spareTestEnded (dieOfHart h) d := by
  unfold coreTest
  simp [htest, spareTestEnded]

theorem coreTest_spare_fail (htest : (dieOf d (dieOfHart h)).spareTest = true) :
    coreTest h true .fail d = markSpareUsed (dieOfHart h) (spareTestEnded (dieOfHart h) d) := by
  unfold coreTest
  simp [htest, spareTestEnded]

end spares

theorem hartOf_markSpareUsed (n : Nat) (d : Dev) (k : Nat) :
    hartOf (markSpareUsed n d) k = if dieOfHart k = n then { hartOf d k with spareUsed := true } else hartOf d k :=
  hartOf_foldl_die (f := fun x => { x with spareUsed := true }) (fun _ => rfl) n d k

theorem markSpareUsed_frame (n : Nat) (d : Dev) : { markSpareUsed n d with harts := d.harts } = d := foldl_updHart_frame ..

theorem spareTest_outcome (h : HartN) (s : State) :
    let n := dieOfHart h
    (is204S s.dev = true → (hartOf s.dev h).spareUsed = false → testDue s.dev (dieOf s.dev n).spareTestedAt = true →
      (linkOf s.dev n).state ≠ .folded →
      ∃ d, exec (.coreTest h true .start) s = .next { s with dev := d } ∧ DieOnly s.dev d n { dieOf s.dev n with spareTest := true }) ∧
    ((dieOf s.dev n).spareTest = true →
      (∃ d, exec (.coreTest h true .pass) s = .next { s with dev := d } ∧
        DieOnly s.dev d n { dieOf s.dev n with spareTest := false, spareTestedAt := s.dev.now }) ∧
      ∃ d, exec (.coreTest h true .fail) s = .next { s with dev := d } ∧
        (∀ k, hartOf d k = if dieOfHart k = n then { hartOf s.dev k with spareUsed := true } else hartOf s.dev k) ∧
        DieOnly s.dev { d with harts := s.dev.harts } n { dieOf s.dev n with spareTest := false, spareTestedAt := s.dev.now }) := by
  intro n
  have hexec (evt : TestEvt) : exec (.coreTest h true evt) s = .next { s with dev := coreTest h true evt s.dev } := rfl
  refine ⟨fun h204 hused hdue hlink => ⟨_, hexec .start, ?_⟩, fun htest => ⟨⟨_, hexec .pass, ?_⟩, _, hexec .fail, fun k => ?_, ?_⟩⟩
  · rw [coreTest_spare_start h204 hused hdue hlink]
    exact dieOnly_updDie ..
  · rw [coreTest_spare_pass htest]
    exact dieOnly_updDie ..
  · rw [coreTest_spare_fail htest]
    exact hartOf_markSpareUsed ..
  · rw [coreTest_spare_fail htest]
    have hframe : { markSpareUsed n (spareTestEnded n s.dev) with harts := s.dev.harts } = spareTestEnded n s.dev :=
      markSpareUsed_frame n (spareTestEnded n s.dev)
    rw [hframe]
    exact dieOnly_updDie ..

/-- The hart whose move to the spare is complete (R108 step 4). -/
def movedToSpare (x : Hart) : Hart := { x with spareMove := 0, spared := true }

/-- Only the observations and what leaves the package differ. -/
def ObsOut (d d' : Dev) : Prop := { d' with obs := d.obs, out := d.out } = d

theorem ObsOut.trans {d e e' : Dev} (h : ObsOut d e) (h' : ObsOut e e') : ObsOut d e' := by
  unfold ObsOut at *
  rw [← h'] at h
  exact h

theorem obsOut_obs (d : Dev) (o : ObsSt) : ObsOut d { d with obs := o } := rfl
theorem obsOut_countPkg (slot : Nat) (d : Dev) : ObsOut d (countPkg slot d) := by
  obtain ⟨t, ht⟩ := count_eq 0x9014 0 slot 1 d
  rw [countPkg, ht]
  rfl
theorem obsOut_emit (o : Out) (d : Dev) : ObsOut d (emit o d) := rfl

theorem obsOut_mcWrite (e : McEvent) (d : Dev) : ObsOut d (mcWrite e d) := by
  unfold mcWrite
  extract_lets key ring full r o d1 d2 d3
  have h1 : ObsOut d d1 := obsOut_obs ..
  have h2 : ObsOut d d2 := h1.trans (obsOut_countPkg pkgMcRecords _)
  have h3 : ObsOut d d3 := by
    unfold d3
    split
    · exact h2.trans (obsOut_countPkg ..)
    · exact h2
  split
  · exact h3
  · exact h3.trans (obsOut_emit ..)

theorem hartOf_mcWrite (e : McEvent) (d : Dev) (k : Nat) : hartOf (mcWrite e d) k = hartOf d k := by
  have h := obsOut_mcWrite e d
  unfold ObsOut at h
  exact (congrArg (fun d => hartOf d k) h :)

/-- The record of a move to the spare core (R108 step 4). -/
def spareMoveEvent (h : Nat) : McEvent :=
  { bank := 0x9200, unitNo := dieOfHart h, severity := 4, source := 1, unit := dieOfHart h + 256 * coreOfHart h, hart := h }

theorem spareMoveComplete_eq {h : Nat} {d : Dev} (hmove : (hartOf d h).spareMove = 3) :
    spareMoveComplete h d = mcWrite (spareMoveEvent h) (markSpareUsed (dieOfHart h) (updHart d h movedToSpare)) := if_pos hmove

theorem spareMoveComplete_frame {h : Nat} {d : Dev} (hmove : (hartOf d h).spareMove = 3) :
    { spareMoveComplete h d with harts := d.harts, obs := d.obs, out := d.out } = d := by
  rw [spareMoveComplete_eq hmove]
  obtain ⟨hs, hmark⟩ : ∃ hs, markSpareUsed (dieOfHart h) (updHart d h movedToSpare) = { d with harts := hs } := foldl_updHart_eq ..
  rw [hmark]
  have hmc : ObsOut { d with harts := hs } (mcWrite (spareMoveEvent h) { d with harts := hs }) := obsOut_mcWrite ..
  generalize mcWrite (spareMoveEvent h) { d with harts := hs } = e at hmc ⊢
  exact (congrArg (fun e : Dev => { e with harts := d.harts }) hmc :)

theorem spareMoveComplete_mcSeq {h : Nat} {d : Dev} (hmove : (hartOf d h).spareMove = 3) : (spareMoveComplete h d).obs.mcSeq = d.obs.mcSeq + 1 := by
  rw [spareMoveComplete_eq hmove, mcWrite_mcSeq]
  obtain ⟨hs, hmark⟩ : ∃ hs, markSpareUsed (dieOfHart h) (updHart d h movedToSpare) = { d with harts := hs } := foldl_updHart_eq ..
  rw [hmark]

theorem updHart_movedToSpare (d : Dev) (h k : Nat) :
    (hartOf (updHart d h movedToSpare) k).x = (hartOf d k).x ∧ (hartOf (updHart d h movedToSpare) k).pc = (hartOf d k).pc := by
  by_cases hk : k = h
  · subst hk
    rw [hartOf_updHart_same]
    exact ⟨rfl, rfl⟩
  · rw [hartOf_updHart_other _ _ hk]
    exact ⟨rfl, rfl⟩

theorem spareMoveComplete_outcome {h : HartN} {s : State} (hmove : (hartOf s.dev h).spareMove = 3) :
    ∃ d, exec (.spareMoveComplete h) s = .next { s with dev := d } ∧ (hartOf d h).spareMove = 0 ∧ (hartOf d h).spared = true ∧
      (∀ k, dieOfHart k = dieOfHart h → (hartOf d k).spareUsed = true) ∧
        (∀ k, (hartOf d k).x = (hartOf s.dev k).x ∧ (hartOf d k).pc = (hartOf s.dev k).pc) ∧
      d.obs.mcSeq = s.dev.obs.mcSeq + 1 ∧ { d with harts := s.dev.harts, obs := s.dev.obs, out := s.dev.out } = s.dev := by
  have hhart (k : Nat) : hartOf (spareMoveComplete h s.dev) k =
      if dieOfHart k = dieOfHart h then { hartOf (updHart s.dev h movedToSpare) k with spareUsed := true }
      else hartOf (updHart s.dev h movedToSpare) k := by
    rw [spareMoveComplete_eq hmove, hartOf_mcWrite, hartOf_markSpareUsed]
  have hself : hartOf (spareMoveComplete h s.dev) h = { movedToSpare (hartOf s.dev h) with spareUsed := true } := by
    rw [hhart, if_pos rfl, hartOf_updHart_same]
  refine ⟨spareMoveComplete h s.dev, rfl, ?_, ?_, fun k hk => ?_, fun k => ?_, spareMoveComplete_mcSeq hmove, spareMoveComplete_frame hmove⟩
  · rw [hself]
    rfl
  · rw [hself]
    rfl
  · rw [hhart, if_pos hk]
  · rw [hhart]
    split <;> exact updHart_movedToSpare ..

end Sys2Proof.Proofs
end

section
namespace Sys2Proof.Proofs

open Sys2Proof.Machine

/-! ### What a die keeps as a core empties -/

/-! #### What moves in a die's caches -/

theorem CacheKept.refl (x : Hart) : CacheKept x x := ⟨rfl, fun _ _ => rfl, fun _ _ => Iff.rfl⟩

theorem cacheKept_trans {x y z : Hart} (hxy : CacheKept x y) (hyz : CacheKept y z) : CacheKept x z := by
  obtain ⟨h, hcsr, hirq⟩ := hxy
  obtain ⟨h', hcsr', hirq'⟩ := hyz
  refine ⟨?_, fun n hn => (hcsr' n hn).trans (hcsr n hn), fun i hi => (hirq' i hi).trans (hirq i hi)⟩
  have h1 := congrArg (fun w : Hart => { w with csr := x.csr, irqPending := x.irqPending }) h'
  have h2 := congrArg (fun w : Hart => { w with
    itlb := z.itlb, dtlb := z.dtlb, tlb := z.tlb, wcache := z.wcache, gcache := z.gcache, resv := z.resv, debts := z.debts, waiting := z.waiting }) h
  exact h1.trans h2

theorem HpmMoved.cacheKept {x y : Hart} (h : HpmMoved x y) : CacheKept x y := by
  obtain ⟨hx, hcsr, hirq⟩ := h.counted
  refine ⟨?_, hcsr, hirq⟩
  obtain ⟨c, q, rfl, -⟩ := h
  rfl

theorem cacheKept_keepTlb (p : Tlb → Bool) (x : Hart) : CacheKept x (keepTlb p x) := ⟨rfl, fun _ _ => rfl, fun _ _ => Iff.rfl⟩

/-- Harts have lost cached state and events are counted: nothing else differs. -/
def HartCaches (d e : Dev) : Prop :=
  (∀ k, CacheKept (hartOf d k) (hartOf e k)) ∧ { e with harts := d.harts, obs := { e.obs with ctr := d.obs.ctr } } = d

theorem HartCaches.refl (d : Dev) : HartCaches d d := ⟨fun _ => CacheKept.refl _, rfl⟩

theorem HartCaches.trans {d e e' : Dev} (h : HartCaches d e) (h' : HartCaches e e') : HartCaches d e' := by
  obtain ⟨hk, hf⟩ := h
  obtain ⟨hk', hf'⟩ := h'
  refine ⟨fun k => cacheKept_trans (hk k) (hk' k), ?_⟩
  rw [← hf'] at hf
  exact hf

theorem hartCaches_updHart {f : Hart → Hart} (hf : ∀ x, CacheKept x (f x)) (d : Dev) (h : Nat) : HartCaches d (updHart d h f) := by
  refine ⟨fun k => ?_, rfl⟩
  by_cases hk : k = h
  · subst hk
    rw [hartOf_updHart_same]
    exact hf _
  · rw [hartOf_updHart_other _ _ hk]
    exact CacheKept.refl _

theorem hartCaches_of_counts {d e : Dev} {h : Nat} (hc : CountsOnly d e h) : HartCaches d e := by
  obtain ⟨hx, hother, hframe⟩ := hc
  refine ⟨fun k => ?_, hframe⟩
  by_cases hk : k = h
  · subst hk
    exact hx.cacheKept
  · rw [hother k hk]
    exact CacheKept.refl _

theorem hartCaches_foldl {g : Dev → Nat → Dev} (hg : ∀ d h, HartCaches d (g d h)) (l : List Nat) (d : Dev) : HartCaches d (l.foldl g d) := by
  induction l generalizing d with
  | nil => exact HartCaches.refl d
  | cons h l ih => exact (hg d h).trans (ih (g d h))

theorem hartCaches_killCore (h line : Nat) (d : Dev) : HartCaches d (killCore h line d) := by
  have hwait (e : Dev) : HartCaches e (updHart e h (fun x =>
    { x with waiting := x.waiting.map (fun w => { w with gen := w.gen || w.walked.contains line }) })) :=
    hartCaches_updHart (f := fun x => { x with waiting := x.waiting.map (fun w => { w with gen := w.gen || w.walked.contains line }) })
      (fun _ => ⟨rfl, fun _ _ => rfl, fun _ _ => Iff.rfl⟩) e h
  unfold killCore
  split
  · exact ((hartCaches_updHart (cacheKept_keepTlb _) d h).trans (hartCaches_of_counts (countHartN_countsOnly h 0x13 1 _))).trans (hwait _)
  · exact hwait d

theorem hartCaches_killLine (n line : Nat) (d : Dev) : HartCaches d (killLine n line d) :=
  hartCaches_foldl (fun d h => hartCaches_killCore h line d) _ d

theorem hartCaches_dropResv (h : Nat) (d : Dev) : HartCaches d (updHart d h (fun x => { x with resv := none })) :=
  hartCaches_updHart (f := fun x => { x with resv := none }) (fun _ => ⟨rfl, fun _ _ => rfl, fun _ _ => Iff.rfl⟩) d h

theorem hartCaches_loseResv (n line : Nat) (but : Option Nat) (d : Dev) : HartCaches d (loseResv n line but d) := by
  refine hartCaches_foldl (fun d h => ?_) _ d
  split
  · split
    · exact hartCaches_dropResv h d
    · exact HartCaches.refl d
  · exact HartCaches.refl d

theorem cacheOnly_trans {d e e' : Dev} (h : CacheOnly d e) (h' : CacheOnly e e') : CacheOnly d e' := by
  obtain ⟨hk, hf⟩ := h
  obtain ⟨hk', hf'⟩ := h'
  refine ⟨fun k => cacheKept_trans (hk k) (hk' k), ?_⟩
  rw [← hf'] at hf
  exact hf

theorem HartCaches.cacheOnly {d e : Dev} (h : HartCaches d e) : CacheOnly d e :=
  ⟨h.1, (congrArg (fun e : Dev => { e with
    dies := d.dies, links := d.links, flight := d.flight, out := d.out, freeCtr := d.freeCtr }) h.2 :)⟩

theorem HartCaches.dies {d e : Dev} (h : HartCaches d e) : e.dies = d.dies := (congrArg Dev.dies h.2 :)

/-- No line of die `n` gains core `k` as a holder, and only cached state moves. -/
def Purges (n k : Nat) (d e : Dev) : Prop :=
  CacheOnly d e ∧ ∀ l y, dieLine e n l = some y → getBit y.cores k = true → ∃ x, dieLine d n l = some x ∧ getBit x.cores k = true

section purges
variable {n k : Nat}

theorem Purges.trans {d e e' : Dev} (h : Purges n k d e) (h' : Purges n k e e') : Purges n k d e' := by
  refine ⟨cacheOnly_trans h.1 h'.1, fun l y hy hbit => ?_⟩
  obtain ⟨x, hx, hbit'⟩ := h'.2 l y hy hbit
  exact h.2 l x hx hbit'

theorem purges_of_lines {d e : Dev} (hc : CacheOnly d e) (hl : ∀ l, dieLine e n l = dieLine d n l) : Purges n k d e :=
  ⟨hc, fun l y hy hbit => ⟨y, (hl l).symm.trans hy, hbit⟩⟩

theorem HartCaches.purges {d e : Dev} (h : HartCaches d e) : Purges n k d e :=
  purges_of_lines h.cacheOnly fun l => by rw [dieLine, dieOf, h.dies]; rfl

theorem Purges.refl (d : Dev) : Purges n k d d := (HartCaches.refl d).purges

theorem cacheOnly_updDie (d : Dev) (f : Die → Die) : CacheOnly d (updDie d n f) := ⟨fun _ => CacheKept.refl _, rfl⟩

theorem purges_updDie {f : Die → Die} (hf : ∀ x, (f x).cache = x.cache) (d : Dev) : Purges n k d (updDie d n f) :=
  purges_of_lines (cacheOnly_updDie d f) fun l => by rw [dieLine, dieOf_updDie_same, hf]; rfl

theorem dieLine_setDieLine (line : Nat) (v : Option DLine) (d : Dev) (l : Nat) :
    dieLine (setDieLine n line v d) n l = if l = line then v else dieLine d n l := by
  rw [dieLine, setDieLine, dieOf_updDie_same]
  exact tabGet_tabSet ..

theorem purges_setDieLine {d : Dev} {line : Nat} {v : Option DLine}
    (hv : ∀ y, v = some y → getBit y.cores k = true → ∃ x, dieLine d n line = some x ∧ getBit x.cores k = true) :
    Purges n k d (setDieLine n line v d) := by
  refine ⟨cacheOnly_updDie d _, fun l y hy hbit => ?_⟩
  rw [dieLine_setDieLine] at hy
  by_cases hl : l = line
  · subst hl
    rw [if_pos rfl] at hy
    exact hv y hy hbit
  · rw [if_neg hl] at hy
    exact ⟨y, hy, hbit⟩

theorem purges_countDie (m slot : Nat) (d : Dev) : Purges n k d (countDie m slot d) := by
  obtain ⟨t, ht⟩ := count_eq 0x9013 m slot 1 d
  rw [countDie, ht]
  exact purges_of_lines ⟨fun _ => CacheKept.refl _, rfl⟩ fun _ => rfl

theorem purges_drawn (d : Dev) : Purges n k d (drawn d) := purges_of_lines ⟨fun _ => CacheKept.refl _, rfl⟩ fun _ => rfl

theorem purges_updLink (m : Nat) (f : Link → Link) (d : Dev) : Purges n k d (updLink d m f) :=
  purges_of_lines ⟨fun _ => CacheKept.refl _, rfl⟩ fun _ => rfl

theorem purges_updBundle (m : Nat) (up : Bool) (f : Bundle → Bundle) (d : Dev) : Purges n k d (updBundle m up f d) := purges_updLink ..

theorem purges_sends (fs : List FMsg) (os : List Out) (d : Dev) : Purges n k d (emitAll os { d with flight := d.flight ++ fs }) :=
  purges_of_lines ⟨fun _ => CacheKept.refl _, rfl⟩ fun _ => rfl

theorem purges_drainBundle (m : Nat) (up : Bool) (d : Dev) : Purges n k d (drainBundle m up d) := by
  unfold drainBundle
  extract_lets l b r e
  split
  · exact Purges.refl d
  · exact (purges_updBundle ..).trans (purges_sends ..)

theorem purges_send (m : FMsg) (d : Dev) : Purges n k d (send true m d) := by
  unfold send
  extract_lets m' c d1 d2
  have h2 : Purges n k d d2 := ((purges_countDie c 0 d).trans (purges_updBundle c true (fun b => { b with queue := b.queue ++ [m'] }) d1)).trans
    (purges_drainBundle ..)
  split
  · exact h2.trans (purges_countDie ..)
  · exact h2

theorem purges_dropDieLine (line : Nat) (d : Dev) : Purges n k d (dropDieLine n line d) := by
  unfold dropDieLine
  extract_lets d1 d2 d3
  have h1 : Purges n k d d1 := by
    unfold d1
    split
    · split
      · exact (hartCaches_killLine ..).purges
      · exact Purges.refl d
    · exact Purges.refl d
  have h2 : Purges n k d1 d2 := purges_setDieLine fun _ hy => nomatch hy
  have h3 : Purges n k d2 d3 := purges_updDie (f := fun x => { x with dirtyOrder := x.dirtyOrder.filter (· != line) }) (fun _ => rfl) d2
  exact ((h1.trans h2).trans h3).trans (hartCaches_loseResv ..).purges

theorem purges_postWb (w : WbEnt) (d : Dev) : Purges n k d (updDie d n (fun x => { x with wb := x.wb ++ [w] })) :=
  purges_updDie (f := fun x => { x with wb := x.wb ++ [w] }) (fun _ => rfl) d

theorem purges_l3Evict (line : Nat) (d : Dev) : Purges n k d (l3Evict n line d) := by
  unfold l3Evict
  split
  · next l hl =>
    split
    · refine purges_setDieLine fun y hy hbit => ⟨l, hl, ?_⟩
      cases hy
      exact hbit
    · split
      · exact purges_countDie ..
      · exact ((purges_dropDieLine line d).trans (purges_postWb ..)).trans (purges_send ..)
  · exact Purges.refl d

theorem purges_l3Trim (d : Dev) : Purges n k d (l3Trim n d) := by
  unfold l3Trim
  extract_lets ls
  split
  · exact (purges_drawn d).trans (purges_l3Evict ..)
  · exact Purges.refl d

/-- Core `k` does not hold the line. -/
def LineClear (n k l : Nat) (d : Dev) : Prop := ∀ y, dieLine d n l = some y → getBit y.cores k = false

theorem Purges.lineClear {d e : Dev} (h : Purges n k d e) {l : Nat} (hc : LineClear n k l d) : LineClear n k l e := by
  intro y hy
  rw [Bool.eq_false_iff]
  intro hbit
  obtain ⟨x, hx, hbit'⟩ := h.2 l y hy hbit
  exact Bool.eq_false_iff.1 (hc x hx) hbit'

/-- The die's line with core `k` no longer among its holders, kept in the L3. -/
def l2Dropped (k : Nat) (l : DLine) : DLine :=
  { l with cores := setBit l.cores k false, walked := setBit l.walked k false, l1i := setBit l.l1i k false, l1d := setBit l.l1d k false,
           l3 := true, owner := if l.owner = k then 18 else l.owner }

theorem setDieLine_clears {v : DLine} (line : Nat) (d : Dev) (hv : getBit v.cores k = false) :
    Purges n k d (setDieLine n line (some v) d) ∧ LineClear n k line (setDieLine n line (some v) d) := by
  refine ⟨purges_setDieLine fun y hy hbit => ?_, fun y hy => ?_⟩
  · cases hy
    exact absurd hbit (Bool.eq_false_iff.1 hv)
  · rw [dieLine_setDieLine, if_pos rfl] at hy
    cases hy
    exact hv

theorem l2Drop_clears (line : Nat) (d : Dev) : Purges n k d (l2Drop n k line d) ∧ LineClear n k line (l2Drop n k line d) := by
  unfold l2Drop
  split
  · next l hl =>
    split
    · next hbit =>
      refine ⟨Purges.refl d, fun y hy => ?_⟩
      rw [hl] at hy
      cases hy
      simpa using hbit
    · extract_lets d1 d2
      have h1 : HartCaches d d1 := by
        unfold d1
        split
        · exact hartCaches_killCore ..
        · exact HartCaches.refl d
      have h2 : HartCaches d1 d2 := by
        unfold d2
        split
        · split
          · exact hartCaches_dropResv ..
          · exact HartCaches.refl d1
        · exact HartCaches.refl d1
      obtain ⟨hset, hclear⟩ := setDieLine_clears (n := n) (k := k) (v := l2Dropped k l) line d2 (getBit_setBit_same ..)
      exact ⟨((h1.trans h2).purges.trans hset).trans (purges_l3Trim _), (purges_l3Trim _).lineClear hclear⟩
  · next hnone =>
    refine ⟨Purges.refl d, fun y hy => ?_⟩
    rw [hnone] at hy
    cases hy

theorem foldl_l2Drop_clears (ls : List Nat) (d : Dev) :
    Purges n k d (ls.foldl (fun d line => l2Drop n k line d) d) ∧ ∀ l ∈ ls, LineClear n k l (ls.foldl (fun d line => l2Drop n k line d) d) := by
  induction ls generalizing d with
  | nil => exact ⟨Purges.refl d, fun l hl => nomatch hl⟩
  | cons line ls ih =>
    obtain ⟨hp, hclear⟩ := l2Drop_clears (n := n) (k := k) line d
    obtain ⟨hps, hclears⟩ := ih (l2Drop n k line d)
    refine ⟨hp.trans hps, fun l hl => ?_⟩
    rcases List.mem_cons.1 hl with rfl | hl
    · exact hps.lineClear hclear
    · exact hclears l hl

end purges

theorem mem_of_tabGet {α : Type} {t : Tab (Option α)} {i : Nat} {v : α} (h : tabGet none t i = some v) : (i, some v) ∈ t := by
  induction t with
  | nil => cases h
  | cons e t ih =>
    obtain ⟨j, w⟩ := e
    by_cases hij : i = j
    · subst hij
      rw [tabGet, if_pos rfl] at h
      rw [h]
      exact List.mem_cons_self
    · rw [tabGet, if_neg hij] at h
      exact List.mem_cons_of_mem _ (ih h)

theorem mem_linesWhere {d : Dev} {n l : Nat} {x : DLine} {p : Nat → DLine → Bool} (hx : dieLine d n l = some x) (hp : p l x = true) :
    l ∈ linesWhere d n p := by
  unfold linesWhere
  rw [List.mem_filterMap]
  exact ⟨(l, some x), mem_of_tabGet hx, by simp [hp]⟩

/-! #### An offline hart's core powers off -/

/-- The core's lines pass to its die's L3 (R109 step 4). -/
def dropLines (h : Nat) (d : Dev) : Dev :=
  (linesWhere d (dieOfHart h) (fun _ l => getBit l.cores (coreOfHart h))).foldl (fun d line => l2Drop (dieOfHart h) (coreOfHart h) line d) d

theorem dropLines_cacheOnly (h : Nat) (d : Dev) : CacheOnly d (dropLines h d) := (foldl_l2Drop_clears ..).1.1

theorem dropLines_clear (h : Nat) (d : Dev) (l : Nat) : LineClear (dieOfHart h) (coreOfHart h) l (dropLines h d) := by
  obtain ⟨hp, hclear⟩ := foldl_l2Drop_clears (n := dieOfHart h) (k := coreOfHart h)
    (linesWhere d (dieOfHart h) (fun _ l => getBit l.cores (coreOfHart h))) d
  by_cases hl : l ∈ linesWhere d (dieOfHart h) (fun _ l => getBit l.cores (coreOfHart h))
  · exact hclear l hl
  · refine hp.lineClear fun y hy => ?_
    rw [Bool.eq_false_iff]
    exact fun hbit => hl (mem_linesWhere hy hbit)

/-- A core without translations, off. -/
def coreOff (x : Hart) : Hart := { keepTlb (fun _ => false) x with sweeps := [], powered := false }

theorem offlinePowerOff_only {d : Dev} {h : Nat} (hoff : (hartOf d h).offline = true) :
    HartOnly (dropLines h d) (offlinePowerOff h d) h (coreOff (hartOf (dropLines h d) h)) := by
  have heq : offlinePowerOff h d =
      updHart (updHart (dropLines h d) h (fun x => { keepTlb (fun _ => false) x with sweeps := [] })) h (fun x => { x with powered := false }) :=
        if_pos hoff
  rw [heq]
  exact hartOnly_updHart_after (hartOnly_updHart ..) _

theorem cacheKept_coreOff {x y : Hart} (h : CacheKept x y) : CacheKept { x with powered := false, sweeps := [] } (coreOff y) := by
  obtain ⟨hx, hcsr, hirq⟩ := h
  refine ⟨?_, hcsr, hirq⟩
  have hoff := congrArg (fun w : Hart => { w with
    powered := false, sweeps := [], itlb := (coreOff y).itlb, dtlb := (coreOff y).dtlb, tlb := (coreOff y).tlb,
    wcache := (coreOff y).wcache, gcache := (coreOff y).gcache }) hx
  exact hoff

theorem cacheOnly_updHart {d e e' : Dev} {h : Nat} {f : Hart → Hart} {y : Hart} (hc : CacheOnly d e) (he : HartOnly e e' h y)
    (hy : CacheKept (f (hartOf d h)) y) : CacheOnly (updHart d h f) e' := by
  obtain ⟨rfl, hother, hframe⟩ := he
  refine ⟨fun k => ?_, ?_⟩
  · by_cases hk : k = h
    · subst hk
      rw [hartOf_updHart_same]
      exact hy
    · rw [hartOf_updHart_other _ _ hk, hother k hk]
      exact hc.1 k
  · obtain ⟨hs, hd⟩ := updHart_eq d h f
    have hc' := hc.2
    rw [← hframe] at hc'
    rw [hd]
    exact (congrArg (fun d : Dev => { d with harts := hs }) hc' :)

theorem offlinePowerOff_outcome {h : HartN} {s : State} (hoff : (hartOf s.dev h).offline = true) :
    ∃ d, exec (.offlinePowerOff h) s = .next { s with dev := d } ∧ (hartOf d h).powered = false ∧ (hartOf d h).tlb = [] ∧ (hartOf d h).itlb = [] ∧
      (hartOf d h).dtlb = [] ∧
      (∀ l e, dieLine d (dieOfHart h) l = some e → getBit e.cores (coreOfHart h) = false) ∧
      CacheOnly (updHart s.dev h (fun x => { x with powered := false, sweeps := [] })) d := by
  have honly := offlinePowerOff_only hoff
  have hcache := cacheOnly_updHart (f := fun x => { x with powered := false, sweeps := [] }) (dropLines_cacheOnly h s.dev) honly
    (cacheKept_coreOff ((dropLines_cacheOnly h s.dev).1 h))
  obtain ⟨hx, -, hframe⟩ := honly
  have hnone (ts : List Tlb) : ts.filter (fun _ => false) = [] := List.filter_false ts
  refine ⟨_, rfl, ?_, ?_, ?_, ?_, fun l y hy => dropLines_clear h s.dev l y ?_, hcache⟩
  · rw [hx, coreOff]
  · rw [hx]
    exact hnone _
  · rw [hx]
    exact hnone _
  · rw [hx]
    exact hnone _
  · rw [← hy]
    exact (congrArg (fun d => dieLine d (dieOfHart h) l) hframe).symm

/-- Settles O17. A wait rests, a wake and an interrupt move one hart; tests and retirement change the hart or die they concern; and of the lines of a
core that powers off none stays with it, since what makes room in the L3 never adds a holder. -/
theorem restAndRetirement : Obligations.RestAndRetirement := by
  refine ⟨fun h s hready hwake => ⟨_, exec_wfi hready.1, ?_⟩, fun h s want hready hwake hwant => wfi_rests hready hwake hwant,
    fun h s hrest hwake hruns hstop hlink hreq => hartWake_outcome hrest hwake hruns hstop hlink hreq,
    fun h s i hruns hnc => hartInterrupt_outcome hruns hnc, fun n s hbusy => retentionIdle_outcome hbusy,
    fun h s => coreTest_outcome h s, fun h s => spareTest_outcome h s, fun h s hmove => spareMoveComplete_outcome hmove,
    fun h s hoff => offlinePowerOff_outcome hoff⟩
  rw [hartWfi_of_wake hwake]
  exact advance_steps (by omega) hready.2 (waiting_of_hartRuns hready.1)

end Sys2Proof.Proofs
end

section
namespace Sys2Proof.Proofs

open Sys2Proof.Machine

/-! ### Every command goes on -/

/-- The meaning of a command is a function of the device: it neither stops nor reads the queue. -/
theorem exec_eq_onDev (i : Instr) (s : State) : ∃ f : Dev → Dev, exec i s = onDev f s := by
  cases i <;> dsimp only [exec] <;> exact ⟨_, rfl⟩

theorem exec_goes_on (i : Instr) (s : State) : ∃ d, exec i s = .next { s with dev := d } := by
  obtain ⟨f, hf⟩ := exec_eq_onDev i s
  exact ⟨f s.dev, hf⟩

/-- A step takes one command, the oldest, from the queue. -/
theorem step_takes_front (s : State) : ∃ d, step s = .next ⟨s.pending.drop 1, d⟩ := by
  obtain ⟨pending, dev⟩ := s
  cases pending with
  | nil => exact ⟨_, rfl⟩
  | cons c r => exact exec_goes_on c ⟨r, dev⟩

theorem runsFor_all (n : Nat) (s : State) : RunsFor n s := by
  induction n generalizing s with
  | zero => trivial
  | succ n ih =>
    obtain ⟨d, hd⟩ := step_takes_front s
    exact ⟨_, hd, ih _⟩

theorem run_succ_of_step {M : Host.Core} {s t : M.State} (n : Nat) (h : M.step s = .next t) : M.run (n + 1) s = M.run n t := by
  rw [Host.Core.run, h]

theorem run_drops_queue {n : Nat} {s t : State} (h : Host.Core.run Sys2Proof.core n s = .next t) : t.pending = s.pending.drop n := by
  induction n generalizing s with
  | zero =>
    cases h
    rfl
  | succ n ih =>
    obtain ⟨d, hd⟩ := step_takes_front s
    rw [ih ((run_succ_of_step (M := Sys2Proof.core) n hd).symm.trans h), List.drop_drop, Nat.add_comm]

/-! ### A tick of the harts (R79, R98, R470) -/

/-- Hart `y` is hart `x` a tick later: its counters, mcycle, pace and temperature may have moved. -/
def Ticked (x y : Hart) : Prop :=
  ∃ c q p t, y = { x with csr := c, irqPending := q, tpace := p, tj := t } ∧
    (∀ n, n ≠ 0xB00 → countedCsr n = false → tabGet 0 c n = tabGet 0 x.csr n) ∧ ∀ i, i ≠ 13 → (i ∈ q ↔ i ∈ x.irqPending)

theorem Ticked.refl (x : Hart) : Ticked x x := ⟨x.csr, x.irqPending, x.tpace, x.tj, rfl, fun _ _ _ => rfl, fun _ _ => Iff.rfl⟩

theorem Ticked.trans {x y z : Hart} (hxy : Ticked x y) (hyz : Ticked y z) : Ticked x z := by
  obtain ⟨c, q, p, t, rfl, hc, hq⟩ := hxy
  obtain ⟨c', q', p', t', rfl, hc', hq'⟩ := hyz
  exact ⟨c', q', p', t', rfl, fun n h0 hn => (hc' n h0 hn).trans (hc n h0 hn), fun i hi => (hq' i hi).trans (hq i hi)⟩

theorem HpmMoved.ticked {x y : Hart} (h : HpmMoved x y) : Ticked x y := by
  obtain ⟨-, hcsr, hirq⟩ := h.counted
  obtain ⟨c, q, rfl, -⟩ := h
  exact ⟨c, q, x.tpace, x.tj, rfl, fun n _ hn => hcsr n hn, hirq⟩

/-- But for what counting moves by itself, a tick moves mcycle, the pace and the temperature alone. -/
theorem Ticked.counted {x y : Hart} (h : Ticked x y) :
    Counted x { y with csr := tabSet 0 y.csr 0xB00 (tabGet 0 x.csr 0xB00), tpace := x.tpace, tj := x.tj } := by
  obtain ⟨c, q, p, t, rfl, hc, hq⟩ := h
  refine ⟨rfl, fun n hn => ?_, hq⟩
  by_cases h0 : n = 0xB00
  · rw [h0]
    exact tabGet_tabSet_same ..
  · exact (tabGet_tabSet_other _ _ _ h0).trans (hc n h0 hn)

/-- From `d` to `e` harts have ticked and events are counted: nothing else differs. -/
def HartsTick (d e : Dev) : Prop :=
  (∀ k, Ticked (hartOf d k) (hartOf e k)) ∧ { e with harts := d.harts, obs := { e.obs with ctr := d.obs.ctr } } = d

theorem HartsTick.refl (d : Dev) : HartsTick d d := ⟨fun _ => Ticked.refl _, rfl⟩

theorem HartsTick.trans {d e e' : Dev} (h : HartsTick d e) (h' : HartsTick e e') : HartsTick d e' := by
  obtain ⟨hk, hf⟩ := h
  obtain ⟨hk', hf'⟩ := h'
  refine ⟨fun k => (hk k).trans (hk' k), ?_⟩
  rw [← hf'] at hf
  exact hf

theorem hartsTick_foldl {g : Dev → Nat → Dev} (hg : ∀ d h, HartsTick d (g d h)) (l : List Nat) (d : Dev) : HartsTick d (l.foldl g d) := by
  induction l generalizing d with
  | nil => exact HartsTick.refl d
  | cons h l ih => exact (hg d h).trans (ih (g d h))

theorem hartsTick_updHart {f : Hart → Hart} (hf : ∀ x, Ticked x (f x)) (d : Dev) (h : Nat) : HartsTick d (updHart d h f) := by
  refine ⟨fun k => ?_, rfl⟩
  by_cases hk : k = h
  · rw [hk, hartOf_updHart_same]
    exact hf _
  · rw [hartOf_updHart_other _ _ hk]
    exact Ticked.refl _

theorem hartsTick_countHartN (h c n : Nat) (d : Dev) : HartsTick d (countHartN h c n d) := by
  obtain ⟨hx, hother, hframe⟩ := countHartN_countsOnly h c n d
  refine ⟨fun k => ?_, hframe⟩
  by_cases hk : k = h
  · rw [hk]
    exact hx.ticked
  · rw [hother k hk]
    exact Ticked.refl _

theorem tickHart_ticked (d : Dev) (h : Nat) (x : Hart) : Ticked x (tickHart d h x) := by
  unfold tickHart
  dsimp only
  split
  · exact ⟨x.csr, x.irqPending, _, x.tj, rfl, fun _ _ _ => rfl, fun _ _ => Iff.rfl⟩
  · exact ⟨_, x.irqPending, _, x.tj, rfl, fun n h0 _ => tabGet_tabSet_other _ _ _ h0, fun _ _ => Iff.rfl⟩

theorem hartsTick_tickCounts (d0 : Dev) (h : Nat) (d : Dev) : HartsTick d (tickCounts d0 h d) := by
  unfold tickCounts
  extract_lets n d1
  have h1 : HartsTick d d1 := hartsTick_countHartN ..
  split
  · split
    · exact h1.trans (hartsTick_countHartN ..)
    · exact h1
  · exact h1

theorem hartsTick_tickHarts (d : Dev) : HartsTick d (tickHarts d) :=
  hartsTick_foldl (fun e h => (hartsTick_updHart (tickHart_ticked d h) e h).trans (hartsTick_tickCounts d h _)) _ d

theorem hartsTick_tickJunctions (d : Dev) : HartsTick d (tickJunctions d) := by
  unfold tickJunctions
  split
  · refine hartsTick_foldl (fun e h => hartsTick_updHart (f := fun x => { x with tj := Config.junction h e.now % 256 }) (fun x => ?_) e h) _ d
    exact ⟨x.csr, x.irqPending, x.tpace, _, rfl, fun _ _ _ => rfl, fun _ _ => Iff.rfl⟩
  · exact HartsTick.refl d

/-! ### The idle step (log entry 2) -/

/-- At a transmit opportunity at most one queued frame leaves, on a port that transmits (R458). -/
theorem tickSegment_outcome (d : Dev) : tickSegment d = d ∨ ∃ f, nextFrame d.seg.queue = some f ∧ segSends d = true ∧
    tickSegment d = { d with seg := { d.seg with queue := d.seg.queue.erase f }, out := d.out ++ [.seg f.1 f.2.1 f.2.2] } := by
  unfold tickSegment transmit
  split
  · split
    · next f hf =>
      split
      · next hs => exact Or.inr ⟨f, hf, hs, rfl⟩
      · exact Or.inl rfl
    · exact Or.inl rfl
  · exact Or.inl rfl

theorem finishCmds_idle {d : Dev} (h : ∀ e ∈ d.cmds, e.2.busy = false) : finishCmds d = d := by
  unfold finishCmds
  rw [List.foldl_ext _ (fun e _ => e) d fun e c hc => ?_]
  · exact List.foldl_fixed _
  · simp [h c hc]

theorem tickKerf_idle {d : Dev} (hstep1 : d.kerf.step1 = none) (hwarm : d.kerf.warmDue = false) : tickKerf d = d := by
  unfold tickKerf resumeCut
  simp [hstep1, hwarm]

/-- The harts' part of a tick. -/
def tickedHarts (d : Dev) : Dev := tickJunctions (tickHarts { d with now := d.now + 1 })

theorem tickedHarts_tick (d : Dev) : HartsTick { d with now := d.now + 1 } (tickedHarts d) :=
  (hartsTick_tickHarts _).trans (hartsTick_tickJunctions _)

/-- With nothing under way a tick moves the harts' counters and sends at most one frame. -/
theorem idle_eq {d : Dev} (hon : d.boot.phase ≠ .off) (hcxl : d.cxlWait = []) (hmirror : d.mirror.phase ≠ 1) (hcmds : ∀ e ∈ d.cmds, e.2.busy = false)
    (hstep1 : d.kerf.step1 = none) (hwarm : d.kerf.warmDue = false) : idle d = tickSegment (tickedHarts d) := by
  have hans : cxlAnswers { d with now := d.now + 1 } = { d with now := d.now + 1 } := by
    unfold cxlAnswers
    rw [hcxl]
    rfl
  have hcopy : copyStep { d with now := d.now + 1 } = { d with now := d.now + 1 } := if_neg fun h => hmirror h.2.1
  have hfinish : finishCmds { d with now := d.now + 1 } = { d with now := d.now + 1 } := finishCmds_idle hcmds
  have hkerf : (tickedHarts d).kerf = d.kerf := (congrArg Dev.kerf (tickedHarts_tick d).2 :)
  have hkerf' : (tickSegment (tickedHarts d)).kerf = d.kerf := by
    rcases tickSegment_outcome (tickedHarts d) with h | ⟨f, -, -, h⟩
    · rw [h, hkerf]
    · rw [h]
      exact hkerf
  unfold idle
  rw [if_neg hon, hans, hcopy, hfinish]
  exact tickKerf_idle ((congrArg KerfSt.step1 hkerf').trans hstep1) ((congrArg KerfSt.warmDue hkerf').trans hwarm)

theorem step_off {s : State} (hp : s.pending = []) (hoff : s.dev.boot.phase = .off) : step s = .next s := by
  obtain ⟨pending, dev⟩ := s
  cases hp
  have hidle : idle dev = dev := if_pos hoff
  exact congrArg (fun d => Host.Outcome.next (State.mk [] d)) hidle

theorem step_idle {s : State} (hp : s.pending = []) : step s = .next { s with dev := idle s.dev } := by
  unfold step
  rw [hp]

/-- Settles O2. Every command is a function of the device, so no step stops; and the tick of an idle step is the harts' counting and at most one frame. -/
theorem runsGoOn : Obligations.RunsGoOn := by
  refine ⟨exec_goes_on, fun n s => ⟨runsFor_all n s, fun t => run_drops_queue⟩, fun s hp => ⟨step_off hp, ?_⟩⟩
  intro hon hcxl hmirror hcmds hstep1 hwarm
  obtain ⟨hharts, hframe⟩ := tickedHarts_tick s.dev
  have hnow : (tickedHarts s.dev).now = s.dev.now + 1 := (congrArg Dev.now hframe :)
  have hseg : (tickedHarts s.dev).seg = s.dev.seg := (congrArg Dev.seg hframe :)
  have hout : (tickedHarts s.dev).out = s.dev.out := (congrArg Dev.out hframe :)
  have hrest := congrArg (fun d : Dev => { d with now := s.dev.now }) hframe
  refine ⟨_, step_idle hp, ?_⟩
  rw [idle_eq hon hcxl hmirror hcmds hstep1 hwarm]
  rcases tickSegment_outcome (tickedHarts s.dev) with h | ⟨f, hf, hs, h⟩
  · rw [h]
    refine ⟨hnow, fun k => (hharts k).counted, Or.inl ⟨hseg, hout⟩, ?_⟩
    rw [← hseg, ← hout]
    exact hrest
  · rw [h]
    have hsends : segSends s.dev = true := by
      rw [segSends, ← hseg]
      exact hs
    refine ⟨hnow, fun k => (hharts k).counted, Or.inr ⟨f, ?_, hsends, ?_, ?_⟩, ?_⟩
    · rw [← hseg]
      exact hf
    · rw [hseg]
    · rw [hout]
    · rw [← hseg, ← hout]
      exact hrest

end Sys2Proof.Proofs
end

section
namespace Sys2Proof.Proofs

open Sys2Proof.Machine

/-! ### One hart, events counted -/

/-- From `d` to `e` hart `h` has become `x`, its mhpmcounters may have counted, and nothing differs beside it but event counters. -/
def HartCounts (d e : Dev) (h : Nat) (x : Hart) : Prop :=
  HpmMoved x (hartOf e h) ∧ (∀ k, k ≠ h → hartOf e k = hartOf d k) ∧ { e with harts := d.harts, obs := { e.obs with ctr := d.obs.ctr } } = d

section hartCounts
variable {d e : Dev} {h : Nat} {x : Hart}

theorem HartCounts.refl (d : Dev) (h : Nat) : HartCounts d d h (hartOf d h) := ⟨HpmMoved.refl _, fun _ _ => rfl, rfl⟩

theorem HartCounts.moves (hc : HartCounts d e h x) : HartMoves d e h x := ⟨hc.1.counted, hc.2⟩

/-- What counting leaves of a hart reads as before. -/
theorem HartCounts.reads {α : Type} {f : Hart → α} (hc : HartCounts d e h x) (hf : ∀ c q, f { x with csr := c, irqPending := q } = f x) :
    f (hartOf e h) = f x := by
  obtain ⟨⟨c, q, hx, -⟩, -⟩ := hc
  rw [hx]
  exact hf c q

theorem hartCounts_updHart (hc : HartCounts d e h x) {g : Hart → Hart}
    (hg : ∀ c q, g { x with csr := c, irqPending := q } = { g x with csr := c, irqPending := q }) : HartCounts d (updHart e h g) h (g x) := by
  obtain ⟨⟨c, q, hx, hcsr, hirq⟩, ho, hf⟩ := hc
  have hgx : g x = { g x with csr := x.csr, irqPending := x.irqPending } := hg x.csr x.irqPending
  refine ⟨⟨c, q, ?_, fun n h1 h2 => ?_, fun i hi => ?_⟩, fun k hk => (hartOf_updHart_other e g hk).trans (ho k hk), hf⟩
  · rw [hartOf_updHart_same, hx]
    exact hg c q
  · rw [congrArg Hart.csr hgx]
    exact hcsr n h1 h2
  · rw [congrArg Hart.irqPending hgx]
    exact hirq i hi

theorem hartCounts_countHartN (hc : HartCounts d e h x) (c n : Nat) : HartCounts d (countHartN h c n e) h x := by
  obtain ⟨hx, ho, hf⟩ := hc
  obtain ⟨hx', ho', hf'⟩ := countHartN_countsOnly h c n e
  refine ⟨hx.trans hx', fun k hk => (ho' k hk).trans (ho k hk), ?_⟩
  rw [← hf'] at hf
  exact hf

/-- The hart then completes an instruction of `n` bytes (R79). -/
theorem hartCounts_advance (hc : HartCounts d e h x) {n : Nat} (hn : n ≠ 0) (hreq : x.haltReq = false) (hwait : x.waiting = none) :
    HartSteps d (advance h n e) h { x with pc := (x.pc + n) % 2 ^ 64 } := by
  obtain ⟨⟨c, q, hx, hcsr, hirq⟩, ho, hf⟩ := hc
  obtain ⟨⟨⟨hy, hycsr, hyirq⟩, hyo, hyf⟩, hyret⟩ := advance_steps (d := e) (h := h) (n := n) hn (by rw [hx, hreq]) (by rw [hx, hwait])
  rw [hx] at hy hycsr hyirq hyret
  refine ⟨⟨⟨?_, fun k hk => (hycsr k hk).trans ?_, fun i hi => (hyirq i hi).trans (hirq i hi)⟩, fun k hk => (hyo k hk).trans (ho k hk), ?_⟩, ?_⟩
  · exact congrArg (fun w : Hart => { w with csr := x.csr, irqPending := x.irqPending }) hy
  · simp only [countedCsr, Bool.or_eq_false_iff, Bool.and_eq_false_iff, decide_eq_false_iff_not] at hk
    exact hcsr k (by omega) (by omega)
  · rw [← hyf] at hf
    exact hf
  · unfold Retired csr at hyret ⊢
    rw [← hcsr 0x320 (by omega) (by omega), ← hcsr 0xB02 (by omega) (by omega)]
    exact hyret

end hartCounts

/-! ### Translation fences (R127) -/

/-- A hart without the entries a sweep takes; the G-stage walk cache loses its own only to a sweep by VMID. -/
def swept (gone : Tlb → Bool) (g : Bool) (x : Hart) : Hart :=
  { x with itlb := x.itlb.filter (fun t => !gone t), dtlb := x.dtlb.filter (fun t => !gone t), tlb := x.tlb.filter (fun t => !gone t),
           wcache := x.wcache.filter (fun t => !gone t), gcache := if g then x.gcache.filter (fun t => !gone t) else x.gcache }

theorem sweepTlb_eq (h : Nat) (virt byVmid : Bool) (eid vmid : Nat) (va id : Option Nat) (d : Dev) :
    sweepTlb h virt byVmid eid vmid va id d = updHart d h (swept (tlbMatches virt byVmid eid vmid va id) byVmid) := rfl

theorem swept_none (x : Hart) : swept (fun _ => false) false x = x := by simp [swept]

theorem swept_swept (p q : Tlb → Bool) (x : Hart) : swept q false (swept p false x) = swept (fun t => p t || q t) false x := by
  simp [swept, List.filter_filter, Bool.and_comm]

theorem hartCounts_sweepTlb {d e : Dev} {h : Nat} {x : Hart} (hc : HartCounts d e h x) (virt byVmid : Bool) (eid vmid : Nat) (va id : Option Nat) :
    HartCounts d (sweepTlb h virt byVmid eid vmid va id e) h (swept (tlbMatches virt byVmid eid vmid va id) byVmid x) := by
  rw [sweepTlb_eq]
  exact hartCounts_updHart hc fun _ _ => rfl

/-- Some queued sweep takes the entry. -/
def queuedFor (l : List (Nat × Option Nat × Option Nat × Nat × Nat)) (t : Tlb) : Bool :=
  l.any (fun q => tlbMatches (q.1 == 1) false q.2.2.2.1 q.2.2.2.2 q.2.1 q.2.2.1 t)

theorem hartCounts_sweeps {d e : Dev} {h : Nat} {x : Hart} (hc : HartCounts d e h x) (l : List (Nat × Option Nat × Option Nat × Nat × Nat)) :
    HartCounts d (l.foldl (fun d q => sweepTlb h (q.1 == 1) false q.2.2.2.1 q.2.2.2.2 q.2.1 q.2.2.1 d) e) h (swept (queuedFor l) false x) := by
  induction l generalizing e x with
  | nil =>
    have hnone : swept (queuedFor []) false x = x := swept_none x
    rw [hnone]
    exact hc
  | cons q l ih =>
    have hcons : queuedFor (q :: l) =
      fun t => tlbMatches (q.1 == 1) false q.2.2.2.1 q.2.2.2.2 q.2.1 q.2.2.1 t || queuedFor l t := rfl
    rw [List.foldl_cons, hcons, ← swept_swept]
    exact ih (hartCounts_sweepTlb hc ..)

theorem hartCounts_runSweeps (d : Dev) (h : Nat) :
    HartCounts d (runSweeps h d) h { swept (queuedFor (hartOf d h).sweeps) false (hartOf d h) with sweeps := [] } :=
  hartCounts_updHart (g := fun x => { x with sweeps := [] }) (hartCounts_sweeps (HartCounts.refl d h) _) fun _ _ => rfl

/-- A fence that its mode may execute does what it does, and the hart goes on. -/
theorem fenceDo_steps {d : Dev} {h ok : Nat} (w : Nat) {f : Dev → Dev} {y : Hart} (hok : ok = 2) (hreq : y.haltReq = false) (hwait : y.waiting = none)
    (hf : ∀ e, HartCounts d e h (hartOf d h) → HartCounts d (f e) h y) :
    HartSteps d (fenceDo h ok w f d) h { y with pc := (y.pc + 4) % 2 ^ 64 } := by
  subst hok
  show HartSteps d (advance h 4 (f (countHart h 0x16 d))) h _
  exact hartCounts_advance (hf _ (hartCounts_countHartN (HartCounts.refl d h) 0x16 1)) (by omega) hreq hwait

theorem invalFence_steps {d : Dev} {h : Nat} (w : Nat) {f : Dev → Dev} {y : Hart} (hu : (hartOf d h).mode ≠ .u) (hvu : (hartOf d h).mode ≠ .vu)
    (hreq : y.haltReq = false) (hwait : y.waiting = none) (hf : HartCounts d (f d) h y) :
    HartSteps d (invalFence h w f d) h { y with pc := (y.pc + 4) % 2 ^ 64 } := by
  have heq : invalFence h w f d = advance h 4 (f d) := by
    unfold invalFence
    split
    · next hm => exact absurd hm hu
    · next hm => exact absurd hm hvu
    · rfl
  rw [heq]
  exact hartCounts_advance hf (by omega) hreq hwait

theorem exec_onHart {h : HartN} {i : Instr} {s : State} {f : Dev → Dev} (hexec : exec i s = onDev (onHart h f) s) (hruns : hartRuns s.dev h = true) :
    exec i s = .next { s with dev := f s.dev } := by
  rw [hexec, onDev, onHart, if_pos hruns]

section fences
variable {h : HartN} {s : State} (rs1 rs2 : RegN)

/-- The hart executes one instruction and is `y` but for its pc, which moves on. -/
def Does (s : State) (h : HartN) (i : Instr) (y : Hart) : Prop :=
  ∃ d, exec i s = .next { s with dev := d } ∧ HartSteps s.dev d h { y with pc := ((hartOf s.dev h).pc + 4) % 2 ^ 64 }

theorem does_sfenceVma (hready : HartReady s.dev h) (hok : sfenceAllowed (hartOf s.dev h) = 2) :
    let x := hartOf s.dev h
    Does s h (.sfenceVma h rs1 rs2) (swept (tlbMatches (virtCtx x x.mode) false x.eid (hartVmid x) (fenceReg x rs1) ((fenceReg x rs2).map (· % 2 ^ 16))) false x) :=
  ⟨_, exec_onHart rfl hready.1, fenceDo_steps _ hok hready.2 (waiting_of_hartRuns hready.1) fun _ hc => hartCounts_sweepTlb hc ..⟩

theorem does_hfenceVvma (hready : HartReady s.dev h) (hok : hfenceAllowed (hartOf s.dev h) false = 2) :
    let x := hartOf s.dev h
    Does s h (.hfenceVvma h rs1 rs2) (swept (tlbMatches true false 0 (hartVmid x) (fenceReg x rs1) ((fenceReg x rs2).map (· % 2 ^ 16))) false x) :=
  ⟨_, exec_onHart rfl hready.1, fenceDo_steps _ hok hready.2 (waiting_of_hartRuns hready.1) fun _ hc => hartCounts_sweepTlb hc ..⟩

theorem does_hfenceGvma (hready : HartReady s.dev h) (hok : hfenceAllowed (hartOf s.dev h) true = 2) :
    let x := hartOf s.dev h
    Does s h (.hfenceGvma h rs1 rs2) (swept (tlbMatches true true 0 (hartVmid x) none ((fenceReg x rs2).map (· % 2 ^ 14))) true x) :=
  ⟨_, exec_onHart rfl hready.1, fenceDo_steps _ hok hready.2 (waiting_of_hartRuns hready.1) fun _ hc => hartCounts_sweepTlb hc ..⟩

theorem does_sinvalVma (hready : HartReady s.dev h) (hok : sfenceAllowed (hartOf s.dev h) = 2) :
    let x := hartOf s.dev h
    Does s h (.sinvalVma h rs1 rs2) { x with
      sweeps := x.sweeps ++ [(b2n (virtCtx x x.mode), fenceReg x rs1, (fenceReg x rs2).map (· % 2 ^ 16), x.eid, hartVmid x)] } := by
  refine ⟨_, exec_onHart rfl hready.1, fenceDo_steps _ hok hready.2 (waiting_of_hartRuns hready.1) fun e hc => ?_⟩
  exact hartCounts_updHart hc fun _ _ => rfl

theorem does_sfenceWInval (hready : HartReady s.dev h) (hu : (hartOf s.dev h).mode ≠ .u) (hvu : (hartOf s.dev h).mode ≠ .vu) :
    Does s h (.sfenceWInval h) (hartOf s.dev h) :=
  ⟨_, exec_onHart rfl hready.1, invalFence_steps _ hu hvu hready.2 (waiting_of_hartRuns hready.1) (HartCounts.refl ..)⟩

theorem does_sfenceInvalIr (hready : HartReady s.dev h) (hu : (hartOf s.dev h).mode ≠ .u) (hvu : (hartOf s.dev h).mode ≠ .vu) :
    Does s h (.sfenceInvalIr h) { swept (queuedFor (hartOf s.dev h).sweeps) false (hartOf s.dev h) with sweeps := [] } :=
  ⟨_, exec_onHart rfl hready.1, invalFence_steps _ hu hvu hready.2 (waiting_of_hartRuns hready.1) (hartCounts_runSweeps ..)⟩

end fences

/-! ### TSYNC (R90, R120) -/

theorem attemptNew_tsync {d : Dev} {h : Nat} (hwait : (hartOf d h).waiting = none) :
    attemptNew h .tsync d = if (hartOf d h).debts = [] then advance h 4 d else park h (waitingFor .tsync) d := by
  unfold attemptNew attempt
  simp [hwait, waitingFor, restarted]

section tsync
variable {d : Dev} {h : Nat}

theorem hartTsync_u (hm : (hartOf d h).mode = .u) : hartTsync h d = trapIllegal h 0x0000000B d := by simp [hartTsync, hm]
theorem hartTsync_vu (hm : (hartOf d h).mode = .vu) : hartTsync h d = trapVirtual h 0x0000000B d := by simp [hartTsync, hm]

theorem hartTsync_attempts (hu : (hartOf d h).mode ≠ .u) (hvu : (hartOf d h).mode ≠ .vu) :
    hartTsync h d = attemptNew h .tsync (countHart h 0x14 d) := by
  unfold hartTsync
  split
  · next hm => exact absurd hm hu
  · next hm => exact absurd hm hvu
  · rfl

theorem hartTsync_eq (hu : (hartOf d h).mode ≠ .u) (hvu : (hartOf d h).mode ≠ .vu) (hwait : (hartOf d h).waiting = none) :
    hartTsync h d = if (hartOf d h).debts = [] then advance h 4 (countHart h 0x14 d) else park h (waitingFor .tsync) (countHart h 0x14 d) := by
  have hc := hartCounts_countHartN (HartCounts.refl d h) 0x14 1
  have hwait' : (hartOf (countHart h 0x14 d) h).waiting = none := (hc.reads (f := Hart.waiting) fun _ _ => rfl).trans hwait
  have hdebts : (hartOf (countHart h 0x14 d) h).debts = (hartOf d h).debts := hc.reads (f := Hart.debts) fun _ _ => rfl
  rw [hartTsync_attempts hu hvu, attemptNew_tsync hwait', hdebts]

theorem hartTsync_steps (hu : (hartOf d h).mode ≠ .u) (hvu : (hartOf d h).mode ≠ .vu) (hwait : (hartOf d h).waiting = none)
    (hreq : (hartOf d h).haltReq = false) (hdebts : (hartOf d h).debts = []) :
    HartSteps d (hartTsync h d) h { hartOf d h with pc := ((hartOf d h).pc + 4) % 2 ^ 64 } := by
  rw [hartTsync_eq hu hvu hwait, if_pos hdebts]
  exact hartCounts_advance (hartCounts_countHartN (HartCounts.refl d h) 0x14 1) (by omega) hreq hwait

theorem hartTsync_waits (hu : (hartOf d h).mode ≠ .u) (hvu : (hartOf d h).mode ≠ .vu) (hwait : (hartOf d h).waiting = none)
    (hdebts : (hartOf d h).debts ≠ []) :
    HartMoves d (hartTsync h d) h { hartOf d h with waiting := some (waitingFor .tsync) } := by
  rw [hartTsync_eq hu hvu hwait, if_neg hdebts]
  exact (hartCounts_updHart (g := fun x => { x with waiting := some (waitingFor .tsync) })
    (hartCounts_countHartN (HartCounts.refl d h) 0x14 1) fun _ _ => rfl).moves

end tsync

/-! ### POQ (R90, R91) -/

/-! #### No hart comes to wait -/

/-- A hart that does not wait in `d` does not wait in `e`. -/
structure NoWait (d e : Dev) : Prop where
  keeps : ∀ k, (hartOf d k).waiting = none → (hartOf e k).waiting = none

theorem NoWait.refl (d : Dev) : NoWait d d := ⟨fun _ h => h⟩
theorem NoWait.trans {d e e' : Dev} (h : NoWait d e) (h' : NoWait e e') : NoWait d e' := ⟨fun k hk => h'.keeps k (h.keeps k hk)⟩

theorem noWait_of_harts {d e : Dev} (h : e.harts = d.harts) : NoWait d e := ⟨fun k hk => by
  unfold hartOf
  rw [h]
  exact hk⟩

theorem noWait_updDie (d : Dev) (n : Nat) (f : Die → Die) : NoWait d (updDie d n f) := noWait_of_harts rfl
theorem noWait_setDieLine (n line : Nat) (v : Option DLine) (d : Dev) : NoWait d (setDieLine n line v d) := noWait_updDie ..
theorem noWait_drawn (d : Dev) : NoWait d (drawn d) := noWait_of_harts rfl

theorem noWait_updHart {f : Hart → Hart} (hf : ∀ x, x.waiting = none → (f x).waiting = none) (d : Dev) (h : Nat) : NoWait d (updHart d h f) := by
  refine ⟨fun k hk => ?_⟩
  by_cases hkh : k = h
  · subst hkh
    rw [hartOf_updHart_same]
    exact hf _ hk
  · rwa [hartOf_updHart_other _ _ hkh]

theorem noWait_foldl {β : Type} {g : Dev → β → Dev} (hg : ∀ d b, NoWait d (g d b)) (l : List β) (d : Dev) : NoWait d (l.foldl g d) := by
  induction l generalizing d with
  | nil => exact NoWait.refl d
  | cons b l ih => exact (hg d b).trans (ih (g d b))

theorem noWait_countHart (h c : Nat) (d : Dev) : NoWait d (countHart h c d) := by
  obtain ⟨⟨_, _, hx, -⟩, ho, -⟩ := countHartN_countsOnly h c 1 d
  refine ⟨fun k hk => ?_⟩
  by_cases hkh : k = h
  · subst hkh
    rw [countHart, hx]
    exact hk
  · rwa [countHart, ho k hkh]

theorem noWait_dropResv (h : Nat) (d : Dev) : NoWait d (updHart d h (fun x => { x with resv := none })) :=
  noWait_updHart (f := fun x => { x with resv := none }) (fun _ hx => hx) d h

theorem noWait_killCore (h line : Nat) (d : Dev) : NoWait d (killCore h line d) := by
  have hmap (e : Dev) : NoWait e (updHart e h (fun x =>
      { x with waiting := x.waiting.map (fun w => { w with gen := w.gen || w.walked.contains line }) })) :=
    noWait_updHart (f := fun x => { x with waiting := x.waiting.map (fun w => { w with gen := w.gen || w.walked.contains line }) })
      (fun _ hx => congrArg (Option.map _) hx) e h
  unfold killCore
  split
  · exact ((noWait_updHart (f := keepTlb (fun t => !derived line t)) (fun _ hx => hx) d h).trans (noWait_countHart ..)).trans (hmap _)
  · exact hmap d

theorem noWait_killLine (n line : Nat) (d : Dev) : NoWait d (killLine n line d) := noWait_foldl (fun d h => noWait_killCore h line d) _ d

theorem noWait_loseResv (n line : Nat) (but : Option Nat) (d : Dev) : NoWait d (loseResv n line but d) := by
  refine noWait_foldl (fun d h => ?_) _ d
  split
  · split
    · exact noWait_dropResv h d
    · exact NoWait.refl d
  · exact NoWait.refl d

theorem noWait_dropDieLine (n line : Nat) (d : Dev) : NoWait d (dropDieLine n line d) := by
  unfold dropDieLine
  extract_lets d1 d2 d3
  have h1 : NoWait d d1 := by
    unfold d1
    split
    · split
      · exact noWait_killLine ..
      · exact NoWait.refl d
    · exact NoWait.refl d
  have h3 : NoWait d1 d3 := (noWait_setDieLine ..).trans (noWait_updDie ..)
  exact (h1.trans h3).trans (noWait_loseResv ..)

theorem updBundle_harts (n : Nat) (up : Bool) (f : Bundle → Bundle) (d : Dev) : (updBundle n up f d).harts = d.harts := updLink_harts ..

theorem drainBundle_harts (n : Nat) (up : Bool) (d : Dev) : (drainBundle n up d).harts = d.harts := by
  simp [drainBundle, emitAll, updBundle_harts, apply_ite]

theorem sendWake_harts (n : Nat) (d : Dev) : (sendWake n d).harts = d.harts := by simp [sendWake, apply_ite]

theorem send_harts (up : Bool) (m : FMsg) (d : Dev) : (send up m d).harts = d.harts := by
  simp only [send, apply_ite Dev.harts, countDie_harts, drainBundle_harts, updBundle_harts, sendWake_harts, ite_self]

theorem noWait_l3Evict (n line : Nat) (d : Dev) : NoWait d (l3Evict n line d) := by
  unfold l3Evict
  split
  · split
    · exact noWait_setDieLine ..
    · split
      · exact noWait_of_harts (countDie_harts ..)
      · exact ((noWait_dropDieLine n line d).trans (noWait_updDie ..)).trans (noWait_of_harts (send_harts ..))
  · exact NoWait.refl d

theorem noWait_l3Trim (n : Nat) (d : Dev) : NoWait d (l3Trim n d) := by
  unfold l3Trim
  extract_lets ls
  split
  · exact (noWait_drawn d).trans (noWait_l3Evict ..)
  · exact NoWait.refl d

theorem noWait_l2Drop (n k line : Nat) (d : Dev) : NoWait d (l2Drop n k line d) := by
  unfold l2Drop
  split
  · split
    · exact NoWait.refl d
    · extract_lets d1 d2
      have h1 : NoWait d d1 := by
        unfold d1
        split
        · exact noWait_killCore ..
        · exact NoWait.refl d
      have h2 : NoWait d1 d2 := by
        unfold d2
        split
        · split
          · exact noWait_dropResv ..
          · exact NoWait.refl d1
        · exact NoWait.refl d1
      exact ((h1.trans h2).trans (noWait_setDieLine ..)).trans (noWait_l3Trim n _)
  · exact NoWait.refl d

/-! #### What a translation leaves (R114, R117) -/

/-- Only where lines are cached differs, and no hart has come to wait. -/
def CacheFills (d e : Dev) : Prop := CacheOnly d e ∧ NoWait d e

theorem CacheFills.refl (d : Dev) : CacheFills d d := ⟨(HartCaches.refl d).cacheOnly, NoWait.refl d⟩
theorem CacheFills.trans {d e e' : Dev} (h : CacheFills d e) (h' : CacheFills e e') : CacheFills d e' :=
  ⟨cacheOnly_trans h.1 h'.1, h.2.trans h'.2⟩

theorem cacheFills_foldl {β : Type} {g : Dev → β → Dev} (hg : ∀ d b, CacheFills d (g d b)) (l : List β) (d : Dev) : CacheFills d (l.foldl g d) := by
  induction l generalizing d with
  | nil => exact CacheFills.refl d
  | cons b l ih => exact (hg d b).trans (ih (g d b))

theorem cacheFills_ite {c : Prop} [Decidable c] {d a b : Dev} (ha : CacheFills d a) (hb : CacheFills d b) : CacheFills d (if c then a else b) := by
  split
  · exact ha
  · exact hb

theorem cacheFills_updDie (n : Nat) (f : Die → Die) (d : Dev) : CacheFills d (updDie d n f) := ⟨cacheOnly_updDie d f, noWait_updDie ..⟩
theorem cacheFills_setDieLine (n line : Nat) (v : Option DLine) (d : Dev) : CacheFills d (setDieLine n line v d) := cacheFills_updDie ..
theorem cacheFills_drawn (d : Dev) : CacheFills d (drawn d) := ⟨(purges_drawn (n := 0) (k := 0) d).1, noWait_drawn d⟩
theorem cacheFills_countDie (n slot : Nat) (d : Dev) : CacheFills d (countDie n slot d) :=
  ⟨(purges_countDie (n := 0) (k := 0) n slot d).1, noWait_of_harts (countDie_harts ..)⟩
theorem cacheFills_countHart (h c : Nat) (d : Dev) : CacheFills d (countHart h c d) :=
  ⟨(hartCaches_of_counts (countHartN_countsOnly h c 1 d)).cacheOnly, noWait_countHart h c d⟩
theorem cacheFills_l2Drop (n k line : Nat) (d : Dev) : CacheFills d (l2Drop n k line d) := ⟨(l2Drop_clears line d).1.1, noWait_l2Drop n k line d⟩

theorem cacheFills_updHart {f : Hart → Hart} (hf : ∀ x, CacheKept x (f x)) (hw : ∀ x, (f x).waiting = x.waiting) (d : Dev) (h : Nat) :
    CacheFills d (updHart d h f) :=
  ⟨(hartCaches_updHart hf d h).cacheOnly, noWait_updHart (fun x hx => (hw x).trans hx) d h⟩

theorem cacheFills_filterEvict (n line : Nat) (d : Dev) : CacheFills d (filterEvict n line d) := by
  unfold filterEvict
  split
  · exact (cacheFills_countDie n 7 d).trans (cacheFills_foldl (fun d k => cacheFills_l2Drop n k line d) _ _)
  · exact CacheFills.refl d

theorem cacheFills_makeRoom (n k line : Nat) (fetch : Bool) (d : Dev) : CacheFills d (makeRoom n k line fetch d) := by
  unfold makeRoom
  extract_lets l2 d1 l1 v d2 fl
  have h1 : CacheFills d d1 := by
    unfold d1
    split
    · exact (cacheFills_drawn d).trans (cacheFills_l2Drop ..)
    · exact CacheFills.refl d
  have h2 : CacheFills d1 d2 := by
    unfold d2
    split
    · split
      · exact (cacheFills_drawn d1).trans (cacheFills_updDie ..)
      · exact CacheFills.refl d1
    · exact CacheFills.refl d1
  split
  · exact ((h1.trans h2).trans (cacheFills_drawn d2)).trans (cacheFills_filterEvict ..)
  · exact h1.trans h2

theorem cacheFills_countMiss (h : Nat) (fetch l2 l3 : Bool) (d : Dev) : CacheFills d (countMiss h fetch l2 l3 d) := by
  unfold countMiss
  extract_lets d1 d2
  have h1 : CacheFills d d1 := cacheFills_countHart ..
  have h2 : CacheFills d d2 := h1.trans (cacheFills_countHart ..)
  split
  · exact h1
  · split
    · exact h2.trans (cacheFills_countDie ..)
    · exact (h2.trans (cacheFills_countHart ..)).trans (cacheFills_countDie ..)

theorem cacheFills_touchCore (h line : Nat) (fetch : Bool) (d : Dev) : CacheFills d (touchCore h line fetch d) := by
  unfold touchCore
  extract_lets n k
  split
  · exact cacheFills_ite (CacheFills.refl d) (((cacheFills_countMiss ..).trans (cacheFills_setDieLine ..)).trans (cacheFills_makeRoom ..))
  · exact CacheFills.refl d

theorem cacheFills_markWalked (h line : Nat) (d : Dev) : CacheFills d (markWalked h line d) := by
  unfold markWalked
  extract_lets d1
  have h1 : CacheFills d d1 := cacheFills_touchCore ..
  split
  · exact h1.trans (cacheFills_setDieLine ..)
  · exact h1

theorem cacheFills_dropTlb (h va : Nat) (md : Mode) (d : Dev) : CacheFills d (dropTlb h va md d) :=
  cacheFills_updHart (f := fun x => { x with
      itlb := x.itlb.filter (fun t => !tlbHits d x md va t), dtlb := x.dtlb.filter (fun t => !tlbHits d x md va t),
      tlb := x.tlb.filter (fun t => !tlbHits d x md va t) })
    (fun _ => ⟨rfl, fun _ _ => rfl, fun _ _ => Iff.rfl⟩) (fun _ => rfl) d h

/-- The hart with entry `t` in the L1 an access looks up. -/
def l1Filled (acc : Nat) (t : Tlb) (x : Hart) : Hart :=
  if acc = 0 then { x with itlb := pushTlb 64 t x.itlb } else { x with dtlb := pushTlb 96 t x.dtlb }

theorem l1Filled_kept (acc : Nat) (t : Tlb) (x : Hart) : CacheKept x (l1Filled acc t x) ∧ (l1Filled acc t x).waiting = x.waiting := by
  unfold l1Filled
  split <;> exact ⟨⟨rfl, fun _ _ => rfl, fun _ _ => Iff.rfl⟩, rfl⟩

/-- The hart with what a completed walk of `va` leaves. -/
def walkFilled (acc va : Nat) (t : Tlb) (w : WalkAcc) (x : Hart) : Hart :=
  l1Filled acc t { x with tlb := pushL2 va t x.tlb, wcache := w.steps.foldr (pushTlb 64) x.wcache, gcache := w.gsteps.foldr (pushTlb 32) x.gcache }

theorem walkFilled_kept (acc va : Nat) (t : Tlb) (w : WalkAcc) (x : Hart) :
    CacheKept x (walkFilled acc va t w x) ∧ (walkFilled acc va t w x).waiting = x.waiting := by
  obtain ⟨hk, hw⟩ := l1Filled_kept acc t
    { x with tlb := pushL2 va t x.tlb, wcache := w.steps.foldr (pushTlb 64) x.wcache, gcache := w.gsteps.foldr (pushTlb 32) x.gcache }
  exact ⟨cacheKept_trans ⟨rfl, fun _ _ => rfl, fun _ _ => Iff.rfl⟩ hk, hw⟩

theorem cacheFills_fillTlb (h : Nat) (md : Mode) (acc va : Nat) (ent : Option Tlb) (fill : Option WalkAcc) (d : Dev) :
    CacheFills d (fillTlb h md acc va ent fill d) := by
  have hl1 (t : Tlb) (e : Dev) : CacheFills e (updHart e h (l1Filled acc t)) :=
    cacheFills_updHart (fun x => (l1Filled_kept acc t x).1) (fun x => (l1Filled_kept acc t x).2) e h
  have hwalk (t : Tlb) (w : WalkAcc) (e : Dev) : CacheFills e (updHart e h (walkFilled acc va t w)) :=
    cacheFills_updHart (fun x => (walkFilled_kept acc va t w x).1) (fun x => (walkFilled_kept acc va t w x).2) e h
  unfold fillTlb
  split
  · exact CacheFills.refl d
  · next t =>
    extract_lets l1
    split
    · exact (cacheFills_ite (CacheFills.refl d) (cacheFills_countHart ..)).trans (hl1 t _)
    · next w =>
      extract_lets d1
      have h1 : CacheFills d d1 := (cacheFills_dropTlb h va md d).trans (cacheFills_foldl (fun d l => cacheFills_markWalked h l d) _ _)
      exact (((h1.trans (hwalk t w d1)).trans (cacheFills_countHart ..)).trans (cacheFills_countHart ..)).trans (cacheFills_countHart ..)

theorem cacheFills_trLeft (h : Nat) (md : Mode) (acc : Nat) (fs : List PartTr) (d : Dev) : CacheFills d (trLeft h md acc fs d) := by
  unfold trLeft
  exact cacheFills_foldl (fun d (t : PartTr) => cacheFills_fillTlb h md acc t.va t.ent t.fill d) fs d

/-! #### The instruction -/

section poq
variable {d : Dev} {h : Nat}

theorem attemptNew_poq {va rd pa : Nat} {ent : Option Tlb} {fill : Option WalkAcc} (hwait : (hartOf d h).waiting = none)
    (htr : translate d h (accessMode (hartOf d h)) 1 va 1 false none = .ok pa ent fill) :
    let d0 := trLeft h (accessMode (hartOf d h)) 1 [{ va := va, ent := ent, fill := fill }] d
    attemptNew h (.poq va rd) d = advance h 4 (updHart d0 h (fun x => setX rd (poqValue d0 x pa) x)) := by
  unfold attemptNew attempt
  simp [hwait, waitingFor, restarted, protLines, htr, endProtected, nubNat, trLeft]

theorem hartPoq_u (rd rs1 : Nat) (hm : (hartOf d h).mode = .u) : hartPoq h rd rs1 d = trapIllegal h (poqWord rd rs1) d := by simp [hartPoq, hm]
theorem hartPoq_vu (rd rs1 : Nat) (hm : (hartOf d h).mode = .vu) : hartPoq h rd rs1 d = trapVirtual h (poqWord rd rs1) d := by simp [hartPoq, hm]

theorem hartPoq_attempts (rd rs1 : Nat) (hu : (hartOf d h).mode ≠ .u) (hvu : (hartOf d h).mode ≠ .vu) :
    hartPoq h rd rs1 d = attemptNew h (.poq (xReg (hartOf d h) rs1) rd) d := by
  unfold hartPoq
  split
  · next hm => exact absurd hm hu
  · next hm => exact absurd hm hvu
  · rfl

/-- POQ puts the page's owner entry in rd (R91). -/
theorem hartPoq_steps {rd rs1 pa : Nat} {ent : Option Tlb} {fill : Option WalkAcc} (hu : (hartOf d h).mode ≠ .u) (hvu : (hartOf d h).mode ≠ .vu)
    (hwait : (hartOf d h).waiting = none) (hreq : (hartOf d h).haltReq = false)
    (htr : translate d h (accessMode (hartOf d h)) 1 (xReg (hartOf d h) rs1) 1 false none = .ok pa ent fill) :
    let d0 := trLeft h (accessMode (hartOf d h)) 1 [{ va := xReg (hartOf d h) rs1, ent := ent, fill := fill }] d
    CacheOnly d d0 ∧
      HartSteps d0 (hartPoq h rd rs1 d) h { setX rd (poqValue d0 (hartOf d0 h) pa) (hartOf d0 h) with pc := ((hartOf d0 h).pc + 4) % 2 ^ 64 } := by
  intro d0
  obtain ⟨hcache, hno⟩ := cacheFills_trLeft h (accessMode (hartOf d h)) 1 [{ va := xReg (hartOf d h) rs1, ent := ent, fill := fill }] d
  have hreq0 : (hartOf d0 h).haltReq = false := (congrArg Hart.haltReq (hcache.1 h).1).trans hreq
  refine ⟨hcache, ?_⟩
  rw [hartPoq_attempts rd rs1 hu hvu, attemptNew_poq hwait htr]
  apply hartSteps_updHart (f := fun x => setX rd (poqValue d0 x pa) x)
  have hafter : hartOf (updHart d0 h (fun x => setX rd (poqValue d0 x pa) x)) h = setX rd (poqValue d0 (hartOf d0 h) pa) (hartOf d0 h) :=
    hartOf_updHart_same ..
  have hflow := flow_setX rd (poqValue d0 (hartOf d0 h) pa) (hartOf d0 h)
  simp only [flow, Prod.mk.injEq] at hflow
  obtain ⟨hpc, hwaits, hreqs⟩ := hflow
  have hadv := advance_steps (d := updHart d0 h (fun x => setX rd (poqValue d0 x pa) x)) (h := h) (n := 4) (by omega)
    (by rw [hafter, hreqs, hreq0]) (by rw [hafter, hwaits]; exact hno.keeps h hwait)
  rw [hafter, hpc] at hadv
  exact hadv

end poq

/-! ### svreq (R97) -/

theorem svreqWrite_steps {h : HartN} {insn : BitVec 32} {v : Word} {s : State} (hready : HartReady s.dev h)
    (hacc : csrAccess (hartOf s.dev h) 0x5C1 (csrWrites insn.toNat) = 2) :
    let x := hartOf s.dev h
    let y := setX (insn.toNat / 2 ^ 7 % 32) x.vceil (if csrWrites insn.toNat then { x with vceil := vceilOf (csrNew insn.toNat x.vceil v.toNat) } else x)
    ∃ d, exec (.svreqWrite h insn v) s = .next { s with dev := d } ∧ HartSteps s.dev d h { y with pc := (x.pc + 4) % 2 ^ 64 } :=
  ⟨_, exec_onHart rfl hready.1, csrWrite_steps (f := fun v x => { x with vceil := vceilOf v }) hacc (by omega) hready.2
    (waiting_of_hartRuns hready.1) fun _ _ => rfl⟩

theorem vceilOf_on_grid (v : Nat) : 550 ≤ vceilOf v ∧ vceilOf v ≤ 950 ∧ vceilOf v % 5 = 0 := by
  unfold vceilOf
  dsimp only
  split
  · omega
  · split <;> omega

/-- Settles O16. TSYNC and POQ are one attempt each, a CSR write is `csrWrite`, and a fence filters the hart's translations before the hart goes on. -/
theorem systemInstructions : Obligations.SystemInstructions := by
  refine ⟨fun h s hready => ?_, fun h rd rs1 s hready => ?_, fun h insn v s hready hacc => svreqWrite_steps hready hacc, vceilOf_on_grid,
    fun h rs1 rs2 s hready => ?_⟩
  · have hwait := waiting_of_hartRuns hready.1
    have hexec : exec (.tsync h) s = .next { s with dev := hartTsync h s.dev } := exec_onHart rfl hready.1
    rw [hexec]
    exact ⟨fun hu hvu hdebts => ⟨_, rfl, hartTsync_steps hu hvu hwait hready.2 hdebts⟩, fun hu hvu hdebts => ⟨_, rfl, hartTsync_waits hu hvu hwait hdebts⟩,
      fun hm => by rw [hartTsync_u hm], fun hm => by rw [hartTsync_vu hm]⟩
  · have hwait := waiting_of_hartRuns hready.1
    have hexec : exec (.poq h rd rs1) s = .next { s with dev := hartPoq h rd rs1 s.dev } := exec_onHart rfl hready.1
    rw [hexec]
    exact ⟨fun pa ent fill hu hvu htr => ⟨_, rfl, hartPoq_steps hu hvu hwait hready.2 htr⟩,
      fun hm => by rw [hartPoq_u _ _ hm], fun hm => by rw [hartPoq_vu _ _ hm]⟩
  · exact ⟨does_sfenceVma rs1 rs2 hready, does_hfenceVvma rs1 rs2 hready, does_hfenceGvma rs1 rs2 hready, does_sinvalVma rs1 rs2 hready,
      fun hu hvu => ⟨does_sfenceWInval hready hu hvu, does_sfenceInvalIr hready hu hvu⟩⟩

end Sys2Proof.Proofs
end

section
namespace Sys2Proof.Proofs

open Sys2Proof.Machine

/-! ### One account and its core -/

/-- What the ledger's steps read and change: one account, the hart of its number, and the package beside the accounts and the harts. -/
structure AcctView where
  acct : Acct
  hart : Hart
  rest : Dev

/-- The package but for its accounts and its harts. -/
def beside (d : Dev) : Dev := { d with ledger := { d.ledger with accts := [] }, harts := [] }

def acctView (d : Dev) (a : Nat) : AcctView := { acct := acctOf d a, hart := hartOf d a, rest := beside d }

/-- A step on account `a`: its view changes as `F` says and no other account's does. -/
structure ActsOn (g : Dev → Nat → Dev) (F : Nat → AcctView → AcctView) : Prop where
  same : ∀ d a, acctView (g d a) a = F a (acctView d a)
  other : ∀ d a k, k ≠ a → acctView (g d a) k = acctView d k

/-- Steps on the accounts below `n`, one after another. -/
theorem acctView_foldl {g : Dev → Nat → Dev} {F : Nat → AcctView → AcctView} (hg : ActsOn g F) (n : Nat) (d : Dev) (k : Nat) :
    acctView ((List.range n).foldl g d) k = if k < n then F k (acctView d k) else acctView d k := by
  induction n with
  | zero => rfl
  | succ n ih =>
    rw [List.range_succ, List.foldl_append, List.foldl_cons, List.foldl_nil]
    by_cases hk : k = n
    · subst hk
      rw [hg.same, ih, if_neg (Nat.lt_irrefl k), if_pos (Nat.lt_succ_self k)]
    · rw [hg.other _ _ _ hk, ih]
      exact if_congr (by omega) rfl rfl

theorem acctView_updAcct_same (d : Dev) (a : Nat) (f : Acct → Acct) :
    acctView (updAcct d a f) a = { acctView d a with acct := f (acctOf d a) } := by
  unfold acctView
  rw [acctOf_updAcct_same]
  rfl

theorem acctView_updAcct_other (d : Dev) {a k : Nat} (f : Acct → Acct) (hk : k ≠ a) : acctView (updAcct d a f) k = acctView d k := by
  unfold acctView
  rw [acctOf_updAcct_other d f hk]
  rfl

theorem acctView_updHart_same (d : Dev) (a : Nat) (f : Hart → Hart) :
    acctView (updHart d a f) a = { acctView d a with hart := f (hartOf d a) } := by
  unfold acctView
  rw [hartOf_updHart_same]
  rfl

theorem acctView_updHart_other (d : Dev) {a k : Nat} (f : Hart → Hart) (hk : k ≠ a) : acctView (updHart d a f) k = acctView d k := by
  unfold acctView
  rw [hartOf_updHart_other d f hk]
  rfl

theorem actsOn_updAcct (f : Acct → Acct) : ActsOn (fun d a => updAcct d a f) (fun _ v => { v with acct := f v.acct }) :=
  ⟨fun d a => acctView_updAcct_same d a f, fun d _ _ hk => acctView_updAcct_other d f hk⟩

theorem actsOn_updHart (f : Hart → Hart) : ActsOn (fun d a => updHart d a f) (fun _ v => { v with hart := f v.hart }) :=
  ⟨fun d a => acctView_updHart_same d a f, fun d _ _ hk => acctView_updHart_other d f hk⟩

/-! ### Setpoints (R85, R354, R357) -/

/-- Setpoint `mv` put in force; one of a core that rests waits for its wake (R85). -/
def mvSet (a mv : Nat) (v : AcctView) : AcctView :=
  if a < 216 then if v.hart.rest = .running then { v with acct := { v.acct with vset := mv }, hart := { v.hart with vset := mv } } else v
  else { v with acct := { v.acct with vset := mv } }

theorem setMv_of_resting {d : Dev} {a : Nat} (mv : Nat) (ha : a < 216) (hrest : (hartOf d a).rest ≠ .running) : setMv a mv d = d := by
  unfold setMv
  simp [ha, hrest]

theorem setMv_of_running {d : Dev} {a : Nat} (mv : Nat) (ha : a < 216) (hrun : (hartOf d a).rest = .running) :
    setMv a mv d = updHart (updAcct d a (fun x => { x with vset := mv })) a (fun x => { x with vset := mv }) := setMv_running (h := ⟨a, ha⟩) mv hrun

theorem setMv_of_bench {d : Dev} {a : Nat} (mv : Nat) (ha : 216 ≤ a) : setMv a mv d = updAcct d a (fun x => { x with vset := mv }) := by
  unfold setMv
  simp [Nat.not_lt.2 ha]

theorem acctView_setMv_same (d : Dev) (a mv : Nat) : acctView (setMv a mv d) a = mvSet a mv (acctView d a) := by
  unfold mvSet
  split
  · next ha =>
    split
    · next hrun =>
      rw [setMv_of_running mv ha hrun, acctView_updHart_same, acctView_updAcct_same, hartOf_updAcct]
      rfl
    · next hrest => rw [setMv_of_resting mv ha hrest]
  · next ha => exact (congrArg (acctView · a) (setMv_of_bench mv (Nat.not_lt.1 ha))).trans (acctView_updAcct_same ..)

theorem acctView_setMv_other (d : Dev) {a k : Nat} (mv : Nat) (hk : k ≠ a) : acctView (setMv a mv d) k = acctView d k := by
  by_cases ha : a < 216
  · by_cases hrun : (hartOf d a).rest = .running
    · rw [setMv_of_running mv ha hrun, acctView_updHart_other _ _ hk, acctView_updAcct_other _ _ hk]
    · rw [setMv_of_resting mv ha hrun]
  · rw [setMv_of_bench mv (Nat.not_lt.1 ha), acctView_updAcct_other _ _ hk]

/-- The setpoint an account is due. -/
def dueOf (a : Nat) (v : AcctView) : Nat := if throttling v.rest || v.acct.isOver then slowMv a else v.acct.plan

theorem acctView_applyMv {d : Dev} {k : Nat} (hk : k < 220) : acctView (applyMv d) k = mvSet k (dueOf k (acctView d k)) (acctView d k) := by
  have hacts : ActsOn (fun d a => setMv a (dueMv d a) d) (fun a v => mvSet a (dueOf a v) v) :=
    ⟨fun d a => acctView_setMv_same d a _, fun d _ _ hk => acctView_setMv_other d _ hk⟩
  exact (acctView_foldl hacts 220 d k).trans (if_pos hk)

theorem mvSet_of_bench {a : Nat} (mv : Nat) (v : AcctView) (ha : 216 ≤ a) : mvSet a mv v = { v with acct := { v.acct with vset := mv } } :=
  if_neg (Nat.not_lt.2 ha)

theorem mvSet_of_running {a : Nat} (mv : Nat) {v : AcctView} (ha : a < 216) (hrun : v.hart.rest = .running) :
    mvSet a mv v = { v with acct := { v.acct with vset := mv }, hart := { v.hart with vset := mv } } := (if_pos ha).trans (if_pos hrun)

theorem mvSet_of_resting {a : Nat} (mv : Nat) {v : AcctView} (ha : a < 216) (hrest : v.hart.rest ≠ .running) : mvSet a mv v = v :=
  (if_pos ha).trans (if_neg hrest)

theorem mvSet_rest (a mv : Nat) (v : AcctView) : (mvSet a mv v).rest = v.rest := by
  unfold mvSet
  split
  · split <;> rfl
  · rfl

theorem mvSet_bThrottle (a mv : Nat) (v : AcctView) : (mvSet a mv v).hart.bThrottle = v.hart.bThrottle := by
  unfold mvSet
  split
  · split <;> rfl
  · rfl

/-- Nothing but the ledger and the harts has changed. -/
theorem restOfLedger_frame {d e : Dev} (h : restOfLedger e = restOfLedger d) : { e with ledger := d.ledger, harts := d.harts } = d :=
  (congrArg (fun r : Dev => { r with ledger := d.ledger, harts := d.harts }) h :)

/-! ### The throttle (R357, R497) -/

theorem restOfLedger_throttleOn (f : LedgerSt → LedgerSt) (d : Dev) : restOfLedger (throttleOn f d) = restOfLedger d := by
  unfold throttleOn
  extract_lets began d1 d2
  have h2 : restOfLedger d2 = restOfLedger d :=
    (foldl_keeps restOfLedger _ (fun _ _ => restOfLedger_updAcct ..) _ _).trans (restOfLedger_updLedger ..)
  rw [restOfLedger_applyMv, foldl_keeps restOfLedger _ (fun _ _ => restOfLedger_updHart ..), h2]

theorem restOfLedger_throttleOff (f : LedgerSt → LedgerSt) (d : Dev) : restOfLedger (throttleOff f d) = restOfLedger d := by
  unfold throttleOff
  extract_lets d1
  have h1 : restOfLedger d1 = restOfLedger d := restOfLedger_updLedger ..
  split
  · exact h1
  · rw [restOfLedger_applyMv, foldl_keeps restOfLedger _ (fun _ _ => restOfLedger_updHart ..), h1]

/-- The ledger where the throttle has begun to act. -/
def throttleBegun (f : LedgerSt → LedgerSt) (d : Dev) : Dev :=
  updLedger d (fun l => { f l with throttles := if !throttling d then l.throttles + 1 else l.throttles })

/-- The view of an account as the throttle marks it. -/
def throttleMarked (k : Nat) (v : AcctView) : AcctView :=
  { v with acct := { v.acct with throttled := true }, hart := if k < 216 then { v.hart with bThrottle := true } else v.hart }

theorem acctView_throttleOn (f : LedgerSt → LedgerSt) (d : Dev) {k : Nat} (hk : k < 220) :
    let v := throttleMarked k (acctView (throttleBegun f d) k)
    acctView (throttleOn f d) k = mvSet k (dueOf k v) v := by
  intro v
  have hv : acctView ((List.range 216).foldl (fun d h => updHart d h (fun x => { x with bThrottle := true }))
      ((List.range 220).foldl (fun d a => updAcct d a (fun x => { x with throttled := true })) (throttleBegun f d))) k = v := by
    rw [acctView_foldl (actsOn_updHart _), acctView_foldl (actsOn_updAcct _), if_pos hk]
    unfold v throttleMarked
    split <;> rfl
  rw [← hv]
  exact acctView_applyMv hk

theorem acctView_throttleOff {f : LedgerSt → LedgerSt} {d : Dev} (hoff : throttling (updLedger d f) = false) {k : Nat} (hk : k < 220) :
    let v := acctView (updLedger d f) k
    let v' : AcctView := { v with hart := if k < 216 then { v.hart with bThrottle := false } else v.hart }
    acctView (throttleOff f d) k = mvSet k (dueOf k v') v' := by
  intro v v'
  have hv : acctView ((List.range 216).foldl (fun d h => updHart d h (fun x => { x with bThrottle := false })) (updLedger d f)) k = v' := by
    rw [acctView_foldl (actsOn_updHart _)]
    unfold v' v
    split <;> rfl
  have heq : throttleOff f d = applyMv ((List.range 216).foldl (fun d h => updHart d h (fun x => { x with bThrottle := false })) (updLedger d f)) :=
    if_neg (by rw [hoff]; exact Bool.false_ne_true)
  rw [heq, ← hv]
  exact acctView_applyMv hk

theorem acctOf_eq_view (d : Dev) (a : Nat) : acctOf d a = (acctView d a).acct := rfl
theorem hartOf_eq_view (d : Dev) (a : Nat) : hartOf d a = (acctView d a).hart := rfl
theorem hot_eq_view (d : Dev) (a : Nat) : d.ledger.hot = (acctView d a).rest.ledger.hot := rfl

section hot
variable (d : Dev)

/-- The ledger where heat has slowed the package. -/
def madeHot (l : LedgerSt) : LedgerSt := { l with hot := true }
def madeCool (l : LedgerSt) : LedgerSt := { l with hot := false }

theorem dueOf_hot (k : Nat) : dueOf k (throttleMarked k (acctView (throttleBegun madeHot d) k)) = slowMv k :=
  if_pos (by
    show (throttling (throttleBegun madeHot d) || _) = true
    simp [throttling, throttleBegun, updLedger, madeHot])

theorem throttleOn_hot_view {k : Nat} (hk : k < 220) :
    acctView (throttleOn madeHot d) k = mvSet k (slowMv k) (throttleMarked k (acctView (throttleBegun madeHot d) k)) := by
  rw [acctView_throttleOn madeHot d hk, dueOf_hot]

theorem throttleOn_hot : (throttleOn madeHot d).ledger.hot = true := by
  rw [hot_eq_view _ 0, throttleOn_hot_view d (by omega), mvSet_rest]
  rfl

theorem throttleOn_hot_bench {a : Nat} (hlo : 216 ≤ a) (hhi : a < 220) : (acctOf (throttleOn madeHot d) a).vset = 650 := by
  rw [acctOf_eq_view, throttleOn_hot_view d hhi, mvSet_of_bench _ _ hlo]
  exact if_neg (Nat.not_lt.2 hlo)

theorem throttleMarked_core {a : Nat} (ha : a < 216) :
    (throttleMarked a (acctView (throttleBegun madeHot d) a)).hart = { hartOf d a with bThrottle := true } := if_pos ha

theorem throttleOn_hot_core {a : Nat} (ha : a < 216) :
    (hartOf (throttleOn madeHot d) a).bThrottle = true ∧
      ((hartOf d a).rest = .running → (hartOf (throttleOn madeHot d) a).vset = 550 ∧ (acctOf (throttleOn madeHot d) a).vset = 550) ∧
      ((hartOf d a).rest ≠ .running → (hartOf (throttleOn madeHot d) a).vset = (hartOf d a).vset) := by
  have hslow : slowMv a = 550 := if_pos ha
  have hmark := throttleMarked_core d ha
  rw [acctOf_eq_view, hartOf_eq_view, throttleOn_hot_view d (by omega)]
  refine ⟨?_, fun hrun => ?_, fun hrest => ?_⟩
  · rw [mvSet_bThrottle, hmark]
  · rw [mvSet_of_running _ ha (by rw [hmark]; exact hrun)]
    exact ⟨hslow, hslow⟩
  · rw [mvSet_of_resting _ ha (by rw [hmark]; exact hrest), hmark]

end hot

section cool
variable {d : Dev} (hkeep : d.ledger.throttle = false)
include hkeep

theorem throttling_cool : throttling (updLedger d madeCool) = false := by simp [throttling, updLedger, madeCool, hkeep]

theorem dueOf_cool (k : Nat) (x : Hart) :
    dueOf k { acctView (updLedger d madeCool) k with hart := x } = if (acctOf d k).isOver then slowMv k else (acctOf d k).plan := by
  show (if throttling (updLedger d madeCool) || (acctOf d k).isOver then _ else _) = _
  rw [throttling_cool hkeep, Bool.false_or]
  rfl

theorem throttleOff_cool_view {k : Nat} (hk : k < 220) :
    acctView (throttleOff madeCool d) k = mvSet k (if (acctOf d k).isOver then slowMv k else (acctOf d k).plan)
      { acctView (updLedger d madeCool) k with hart := if k < 216 then { hartOf d k with bThrottle := false } else hartOf d k } := by
  rw [acctView_throttleOff (throttling_cool hkeep) hk, dueOf_cool hkeep]
  rfl

theorem throttleOff_cool : (throttleOff madeCool d).ledger.hot = false := by
  rw [hot_eq_view _ 0, throttleOff_cool_view hkeep (by omega), mvSet_rest]
  rfl

theorem throttleOff_cool_bench {a : Nat} (hlo : 216 ≤ a) (hhi : a < 220) :
    (acctOf (throttleOff madeCool d) a).vset = if (acctOf d a).isOver then 650 else (acctOf d a).plan := by
  have hslow : slowMv a = 650 := if_neg (Nat.not_lt.2 hlo)
  rw [acctOf_eq_view, throttleOff_cool_view hkeep hhi, mvSet_of_bench _ _ hlo, hslow]

theorem throttleOff_cool_core {a : Nat} (ha : a < 216) :
    (hartOf (throttleOff madeCool d) a).bThrottle = false ∧
      ((hartOf d a).rest = .running → (hartOf (throttleOff madeCool d) a).vset = if (acctOf d a).isOver then 550 else (acctOf d a).plan) := by
  have hslow : slowMv a = 550 := if_pos ha
  rw [hartOf_eq_view, throttleOff_cool_view hkeep (by omega), if_pos ha, hslow]
  refine ⟨?_, fun hrun => ?_⟩
  · rw [mvSet_bThrottle]
  · rw [mvSet_of_running _ ha hrun]

end cool

/-- What still throttles keeps every setpoint. -/
theorem throttleOff_kept {f : LedgerSt → LedgerSt} {d : Dev} (h : throttling (updLedger d f) = true) : throttleOff f d = updLedger d f := if_pos h

theorem exec_thermalThrottle (temp : Nat) (s : State) :
    exec (.thermalThrottle temp) s = .next { s with dev := if 105 ≤ temp then throttleOn madeHot s.dev else s.dev } := rfl
theorem exec_thermalThrottleRelease (temp : Nat) (s : State) :
    exec (.thermalThrottleRelease temp) s = .next { s with dev := if temp ≤ 100 then throttleOff madeCool s.dev else s.dev } := rfl

theorem exec_overspendStepDown (h : HartN) (s : State) : exec (.overspendStepDown h) s = .next { s with dev := overspend h s.dev } := rfl
theorem exec_benchOverspend (b : BenchN) (s : State) : exec (.benchOverspend b) s = .next { s with dev := benchOverspend b s.dev } := rfl
theorem exec_ledgerSumTick (charges : List Nat) (s : State) : exec (.ledgerSumTick charges) s = .next { s with dev := sumTick charges s.dev } := rfl
theorem exec_sensorFail (a : AcctN) (s : State) : exec (.sensorFail a) s = .next { s with dev := sensorFail a s.dev } := rfl
theorem exec_thermtrip (die core : Nat) (s : State) : exec (.thermtrip die core) s = .next { s with dev := thermtrip die core s.dev } := rfl

/-! ### Overspend (R354, R355) -/

theorem acctOf_countHart (h c : Nat) (d : Dev) (a : Nat) : acctOf (countHart h c d) a = acctOf d a := by
  obtain ⟨-, -, hf⟩ := countHartN_countsOnly h c 1 d
  exact (congrArg (fun e => acctOf e a) hf :)

theorem overspend_idle {h : Nat} {d : Dev}
    (hidle : (acctOf d h).spend < (acctOf d h).grant * 1000 ∨ (acctOf d h).isOver = true ∨ acctInactive d h = true ∨ d.kerf.step1.isSome = true) :
    overspend h d = d := by
  refine if_neg ?_
  rintro ⟨hspent, hover, hact, hstep⟩
  rw [hover, hact, hstep] at hidle
  simp [Nat.not_lt.2 hspent] at hidle

/-- A hart that has overspent, its setpoint down where it runs. -/
def overspent (x : Hart) : Hart := { x with bOverspend := true, vset := if x.rest = .running then 550 else x.vset }

theorem hartMoves_overspend {d : Dev} {h : HartN} :
    let e := setMv h 550 (updHart (updAcct d h (fun x => { x with isOver := true })) h (fun x => { x with bOverspend := true }))
    acctOf e h = { acctOf d h with isOver := true, vset := if (hartOf d h).rest = .running then 550 else (acctOf d h).vset } ∧
      (∀ k, k ≠ h.val → acctOf e k = acctOf d k) ∧ HartCounts { d with ledger := e.ledger } e h (overspent (hartOf d h)) := by
  intro e
  have hbefore : acctView (updHart (updAcct d h (fun x => { x with isOver := true })) h (fun x => { x with bOverspend := true })) h =
      { acctView d h with acct := { acctOf d h with isOver := true }, hart := { hartOf d h with bOverspend := true } } := by
    rw [acctView_updHart_same, acctView_updAcct_same, hartOf_updAcct]
  have hview : acctView e h = _ := (acctView_setMv_same ..).trans (congrArg (mvSet h 550) hbefore)
  have hother (k : Nat) (hk : k ≠ h.val) : acctView e k = acctView d k := by
    rw [acctView_setMv_other _ _ hk, acctView_updHart_other _ _ hk, acctView_updAcct_other _ _ hk]
  have hrest : restOfLedger e = restOfLedger d := by rw [restOfLedger_setMv, restOfLedger_updHart, restOfLedger_updAcct]
  have hframe : { e with ledger := e.ledger, harts := d.harts, obs := { e.obs with ctr := d.obs.ctr } } = { d with ledger := e.ledger } :=
    (congrArg (fun r : Dev => { r with ledger := e.ledger, harts := d.harts, obs := { r.obs with ctr := d.obs.ctr } }) hrest :)
  rw [acctOf_eq_view e h]
  by_cases hrun : (hartOf d h).rest = .running
  · rw [mvSet_of_running 550 h.isLt (by exact hrun)] at hview
    refine ⟨?_, fun k hk => congrArg AcctView.acct (hother k hk), ?_, fun k hk => congrArg AcctView.hart (hother k hk), hframe⟩
    · rw [hview, if_pos hrun]
    · rw [hartOf_eq_view e h, hview, overspent, if_pos hrun]
      exact HpmMoved.refl _
  · rw [mvSet_of_resting 550 h.isLt (by exact hrun)] at hview
    refine ⟨?_, fun k hk => congrArg AcctView.acct (hother k hk), ?_, fun k hk => congrArg AcctView.hart (hother k hk), hframe⟩
    · rw [hview, if_neg hrun]
    · rw [hartOf_eq_view e h, hview, overspent, if_neg hrun]
      exact HpmMoved.refl _

theorem ledger_countHart (h c : Nat) (d : Dev) : (countHart h c d).ledger = d.ledger := by
  obtain ⟨-, -, hf⟩ := countHartN_countsOnly h c 1 d
  exact (congrArg Dev.ledger hf :)

theorem overspend_slows {h : HartN} {d : Dev} (hact : acctInactive d h = false) (hover : (acctOf d h).isOver = false) (hstep : d.kerf.step1 = none)
    (hspent : (acctOf d h).grant * 1000 ≤ (acctOf d h).spend) :
    acctOf (overspend h d) h = { acctOf d h with isOver := true, vset := if (hartOf d h).rest = .running then 550 else (acctOf d h).vset } ∧
      (∀ k, k ≠ h.val → acctOf (overspend h d) k = acctOf d k) ∧
      HartMoves { d with ledger := (overspend h d).ledger } (overspend h d) h (overspent (hartOf d h)) := by
  have heq : overspend h d = countHart h 0x1C _ := if_pos ⟨hspent, hover, hact, hstep⟩
  obtain ⟨hacct, hother, hcounts⟩ := hartMoves_overspend (d := d) (h := h)
  rw [heq, ledger_countHart]
  refine ⟨(acctOf_countHart ..).trans hacct, fun k hk => (acctOf_countHart ..).trans (hother k hk), (hartCounts_countHartN hcounts 0x1C 1).moves⟩

theorem benchOverspend_idle {b : Nat} {d : Dev}
    (hidle : (acctOf d (216 + b)).spend < (acctOf d (216 + b)).grant * 1000 + (acctOf d (216 + b)).drawn ∨ (acctOf d (216 + b)).isOver = true ∨
      d.kerf.step1.isSome = true) : benchOverspend b d = d := by
  refine if_neg ?_
  rintro ⟨hspent, hover, hstep⟩
  rw [hover, hstep] at hidle
  simp [Nat.not_lt.2 hspent] at hidle

theorem benchOverspend_eq {b : Nat} {d : Dev} (hover : (acctOf d (216 + b)).isOver = false) (hstep : d.kerf.step1 = none)
    (hspent : (acctOf d (216 + b)).grant * 1000 + (acctOf d (216 + b)).drawn ≤ (acctOf d (216 + b)).spend) :
    benchOverspend b d = updAcct (updAcct d (216 + b) (fun x => { x with isOver := true })) (216 + b) (fun x => { x with vset := 650 }) :=
  (if_pos ⟨hspent, hover, hstep⟩).trans (setMv_of_bench 650 (Nat.le_add_right ..))

theorem ledgerOnly_updAcct (d : Dev) (a : Nat) (f : Acct → Acct) : { updAcct d a f with ledger := d.ledger } = d := rfl

theorem benchOverspend_slows {b : Nat} {d : Dev} (hover : (acctOf d (216 + b)).isOver = false) (hstep : d.kerf.step1 = none)
    (hspent : (acctOf d (216 + b)).grant * 1000 + (acctOf d (216 + b)).drawn ≤ (acctOf d (216 + b)).spend) :
    acctOf (benchOverspend b d) (216 + b) = { acctOf d (216 + b) with isOver := true, vset := 650 } ∧
      (∀ k, k ≠ 216 + b → acctOf (benchOverspend b d) k = acctOf d k) ∧ { benchOverspend b d with ledger := d.ledger } = d := by
  rw [benchOverspend_eq hover hstep hspent]
  refine ⟨?_, fun k hk => ?_, ?_⟩
  · rw [acctOf_updAcct_same, acctOf_updAcct_same]
  · rw [acctOf_updAcct_other _ _ hk, acctOf_updAcct_other _ _ hk]
  · have hfirst := ledgerOnly_updAcct d (216 + b) (fun x => { x with isOver := true })
    generalize updAcct d (216 + b) (fun x => { x with isOver := true }) = e at hfirst ⊢
    exact (congrArg (fun f : Dev => { f with ledger := d.ledger }) (ledgerOnly_updAcct e (216 + b) (fun x => { x with vset := 650 }))).trans hfirst

/-! ### Charging (R343, R358) -/

/-- What an account is charged, from its view. -/
def viewCharge (charges : List Nat) (a : Nat) (v : AcctView) : Nat :=
  if chargeStops v.rest a then 0 else if v.acct.sensorFail then v.acct.grant * 1000 / max 1 v.rest.kerf.epochUs else charges.getD a 0

theorem chargeOf_eq (d : Dev) (charges : List Nat) (a : Nat) : chargeOf d charges a = viewCharge charges a (acctView d a) := rfl

def charged (a n : Nat) (v : AcctView) : AcctView :=
  { v with acct := { v.acct with spend := v.acct.spend + n, total := v.acct.total + n },
           hart := if a < 216 then { v.hart with tenergy := (v.acct.total + n) / 1000 } else v.hart }

theorem charge_eq (a n : Nat) (d : Dev) : charge a n d =
    let d := updAcct d a (fun x => { x with spend := x.spend + n, total := x.total + n })
    if a < 216 then updHart d a (fun x => { x with tenergy := (acctOf d a).total / 1000 }) else d := rfl

theorem actsOn_charge (charges : List Nat) : ActsOn (fun d a => charge a (chargeOf d charges a) d) (fun a v => charged a (viewCharge charges a v) v) := by
  refine ⟨fun d a => ?_, fun d a k hk => ?_⟩
  · rw [chargeOf_eq, charge_eq, charged]
    dsimp only
    split
    · rw [acctView_updHart_same, acctView_updAcct_same, hartOf_updAcct, acctOf_updAcct_same]
      rfl
    · rw [acctView_updAcct_same]
      rfl
  · rw [charge_eq]
    dsimp only
    split
    · rw [acctView_updHart_other _ _ hk, acctView_updAcct_other _ _ hk]
    · rw [acctView_updAcct_other _ _ hk]

/-- What charging counts up: an account's spend and total beside its grant, and its core's tenergy. -/
def meter (a : Nat) (d : Dev) : Nat × Nat × Nat × Nat := ((acctOf d a).spend, (acctOf d a).total, (acctOf d a).grant, (hartOf d a).tenergy)

theorem meter_of_view {d e : Dev} {a : Nat} (h : acctView e a = acctView d a) : meter a e = meter a d := by
  unfold meter
  rw [acctOf_eq_view, hartOf_eq_view, h]
  rfl

theorem meter_updAcct {f : Acct → Acct} (hf : ∀ x, (f x).spend = x.spend ∧ (f x).total = x.total ∧ (f x).grant = x.grant) (a k : Nat) (d : Dev) :
    meter a (updAcct d k f) = meter a d := by
  by_cases hk : a = k
  · subst hk
    unfold meter
    obtain ⟨h1, h2, h3⟩ := hf (acctOf d a)
    rw [acctOf_updAcct_same, hartOf_updAcct, h1, h2, h3]
  · exact meter_of_view (acctView_updAcct_other d f hk)

theorem meter_updHart {f : Hart → Hart} (hf : ∀ x, (f x).tenergy = x.tenergy) (a k : Nat) (d : Dev) : meter a (updHart d k f) = meter a d := by
  by_cases hk : a = k
  · subst hk
    unfold meter
    rw [acctOf_updHart, hartOf_updHart_same, hf]
  · exact meter_of_view (acctView_updHart_other d f hk)

theorem meter_setMv (a k mv : Nat) (d : Dev) : meter a (setMv k mv d) = meter a d := by
  by_cases hk : k < 216
  · by_cases hrun : (hartOf d k).rest = .running
    · rw [setMv_of_running mv hk hrun]
      exact (meter_updHart (fun _ => by rfl) a k _).trans (meter_updAcct (fun _ => by exact ⟨rfl, rfl, rfl⟩) a k d)
    · rw [setMv_of_resting mv hk hrun]
  · rw [setMv_of_bench mv (Nat.not_lt.1 hk)]
    exact meter_updAcct (fun _ => by exact ⟨rfl, rfl, rfl⟩) a k d

theorem meter_countHart (a h c : Nat) (d : Dev) : meter a (countHart h c d) = meter a d := by
  obtain ⟨⟨_, _, hx, -⟩, ho, -⟩ := countHartN_countsOnly h c 1 d
  unfold meter
  rw [acctOf_countHart]
  by_cases hk : a = h
  · subst hk
    rw [countHart, hx]
  · rw [countHart, ho a hk]

theorem meter_applyMv (a : Nat) (d : Dev) : meter a (applyMv d) = meter a d := foldl_keeps (meter a) _ (fun _ _ => meter_setMv ..) _ d

theorem meter_updLedger {f : LedgerSt → LedgerSt} (hf : ∀ l, (f l).accts = l.accts) (a : Nat) (d : Dev) : meter a (updLedger d f) = meter a d := by
  unfold meter acctOf updLedger
  rw [hf]
  rfl

theorem meter_throttleOn {f : LedgerSt → LedgerSt} (hf : ∀ l, (f l).accts = l.accts) (a : Nat) (d : Dev) : meter a (throttleOn f d) = meter a d := by
  have hbegun (b : LedgerSt → Nat) : meter a (updLedger d (fun l => { f l with throttles := b l })) = meter a d := meter_updLedger (fun l => hf l) a d
  unfold throttleOn
  generalize List.range 220 = l
  generalize List.range 216 = l'
  extract_lets began d1 d2
  have h2 : meter a d2 = meter a d :=
    (foldl_keeps (meter a) _ (fun d k => meter_updAcct (fun _ => by exact ⟨rfl, rfl, rfl⟩) a k d) l d1).trans (hbegun _)
  rw [meter_applyMv]
  exact (foldl_keeps (meter a) _ (fun d k => meter_updHart (fun _ => by rfl) a k d) l' d2).trans h2

theorem meter_throttleOff {f : LedgerSt → LedgerSt} (hf : ∀ l, (f l).accts = l.accts) (a : Nat) (d : Dev) : meter a (throttleOff f d) = meter a d := by
  unfold throttleOff
  generalize List.range 216 = l
  extract_lets d1
  have h1 : meter a d1 = meter a d := meter_updLedger hf a d
  split
  · exact h1
  · rw [meter_applyMv]
    exact (foldl_keeps (meter a) _ (fun d k => meter_updHart (fun _ => by rfl) a k d) l d1).trans h1

/-- What the throttle does at a tick leaves what was charged. -/
theorem meter_sumTick (charges : List Nat) (a : Nat) (d : Dev) :
    meter a (sumTick charges d) = meter a ((List.range 225).foldl (fun d a => charge a (chargeOf d charges a) d) d) := by
  unfold sumTick
  extract_lets sum d1 d2 limit d3
  have h2 : meter a d2 = meter a d1 := by
    unfold d2
    split
    · exact foldl_keeps (meter a) _ (fun d k => meter_countHart a k 0x1D d) _ d1
    · rfl
  have h3 : meter a d3 = meter a d1 := (meter_updLedger (fun _ => by rfl) a d2).trans h2
  clear_value d3
  split
  · exact (meter_throttleOn (fun _ => by rfl) a d3).trans h3
  · split
    · exact (meter_throttleOff (fun _ => by rfl) a d3).trans h3
    · exact h3

theorem sumTick_charges (charges : List Nat) (d : Dev) {a : Nat} (ha : a < 225) :
    (acctOf (sumTick charges d) a).spend = (acctOf d a).spend + chargeOf d charges a ∧
      (acctOf (sumTick charges d) a).total = (acctOf d a).total + chargeOf d charges a ∧
      (acctOf (sumTick charges d) a).grant = (acctOf d a).grant ∧
      (a < 216 → (hartOf (sumTick charges d) a).tenergy = (acctOf (sumTick charges d) a).total / 1000) := by
  have hmeter := meter_sumTick charges a d
  unfold meter at hmeter
  rw [acctOf_eq_view ((List.range 225).foldl _ d), hartOf_eq_view ((List.range 225).foldl _ d), acctView_foldl (actsOn_charge charges), if_pos ha,
    ← chargeOf_eq] at hmeter
  simp only [Prod.mk.injEq] at hmeter
  obtain ⟨hspend, htotal, hgrant, henergy⟩ := hmeter
  refine ⟨hspend, htotal, hgrant, fun hcore => ?_⟩
  rw [henergy, htotal, charged, if_pos hcore]

/-! ### A failed sensor (R358) and THERMTRIP (R497) -/

theorem ledger_of_obsOut {d e : Dev} (h : ObsOut d e) : e.ledger = d.ledger := (congrArg Dev.ledger h :)
theorem mirror_of_obsOut {d e : Dev} (h : ObsOut d e) : e.mirror = d.mirror := (congrArg Dev.mirror h :)

theorem sensorFail_leaves (a : Nat) (d : Dev) :
    { sensorFail a d with ledger := d.ledger, obs := d.obs, out := d.out } = d :=
  (congrArg (fun e : Dev => { e with ledger := d.ledger })
    (obsOut_mcWrite { bank := 0x9203, unitNo := 0, severity := 4, source := 12, unit := a } (updAcct d a (fun x => { x with sensorFail := true }))) :)

theorem acctOf_sensorFail (a k : Nat) (d : Dev) : acctOf (sensorFail a d) k = acctOf (updAcct d a (fun x => { x with sensorFail := true })) k :=
  congrArg (fun l : LedgerSt => tabGet acctInit l.accts k) (ledger_of_obsOut (obsOut_mcWrite ..))

theorem hartRuns_of_fatal {d : Dev} (h : Nat) (hfatal : d.fatal = true) : hartRuns d h = false := by
  simp [hartRuns, packageStopped, hfatal]

/-- A tripped package tells its partner, if it is paired (R497). -/
def tellLoss (d : Dev) : Dev := if d.mirror.phase = 2 then lossStop 2 d else d

theorem tellLoss_leaves (d : Dev) : { tellLoss d with mirror := d.mirror, out := d.out } = d := by
  unfold tellLoss
  split <;> rfl

theorem tellLoss_paired {d : Dev} (h : d.mirror.phase = 2) : (tellLoss d).mirror.phase = 8 ∧ (tellLoss d).mirror.lossCause = 2 := by
  rw [tellLoss, if_pos h]
  exact ⟨rfl, rfl⟩

theorem tellLoss_alone {d : Dev} (h : d.mirror.phase ≠ 2) : tellLoss d = d := if_neg h

/-- The record of a thermal trip. -/
def thermEvent (die core : Nat) : McEvent :=
  { bank := if die < 12 then 0x9200 else 0x9203, unitNo := if die < 12 then die else 0, severity := 3, source := 15, unit := die % 256 + 256 * (core % 256) }

theorem thermtrip_eq (die core : Nat) (d : Dev) :
    thermtrip die core d = emit (.pin .thermtripN 0)
      { tellLoss (mcWrite (thermEvent die core) d) with
        fatal := true, pins := { (tellLoss (mcWrite (thermEvent die core) d)).pins with thermtrip := true } } := rfl

theorem thermtrip_stops (die core : Nat) (d : Dev) :
    let e := thermtrip die core d
    e.fatal = true ∧ e.pins.thermtrip = true ∧ (∀ h, hartRuns e h = false) ∧ e.obs.mcSeq = d.obs.mcSeq + 1 ∧
      (d.mirror.phase = 2 → e.mirror.phase = 8 ∧ e.mirror.lossCause = 2) ∧ (d.mirror.phase ≠ 2 → e.mirror = d.mirror) ∧ Out.pin .thermtripN 0 ∈ e.out ∧
      { e with fatal := d.fatal, pins := d.pins, mirror := d.mirror, obs := d.obs, out := d.out } = d := by
  have hrec := obsOut_mcWrite (thermEvent die core) d
  have hseq := mcWrite_mcSeq (thermEvent die core) d
  have htell := tellLoss_leaves (mcWrite (thermEvent die core) d)
  have hmirror : (mcWrite (thermEvent die core) d).mirror = d.mirror := mirror_of_obsOut hrec
  intro e
  have he : e = emit _ _ := thermtrip_eq die core d
  clear_value e
  subst he
  generalize mcWrite (thermEvent die core) d = r at *
  refine ⟨rfl, rfl, fun h => hartRuns_of_fatal h rfl, ?_, fun hpair => ?_, fun halone => ?_, ?_, ?_⟩
  · exact (congrArg (fun x : Dev => x.obs.mcSeq) htell).trans hseq
  · exact tellLoss_paired (hmirror ▸ hpair)
  · exact (congrArg Dev.mirror (tellLoss_alone (by rw [hmirror]; exact halone))).trans hmirror
  · exact List.mem_append_right _ (List.mem_singleton_self _)
  · have h1 := congrArg (fun x : Dev => { x with fatal := d.fatal, pins := d.pins, mirror := d.mirror, obs := d.obs, out := d.out }) htell
    have h2 := congrArg (fun x : Dev => { x with fatal := d.fatal, pins := d.pins, mirror := d.mirror }) hrec
    exact h1.trans h2

/-- Settles O52. Every account is seen by itself: a step of the ledger acts on one account and its core, so a fold over the accounts acts on each of them once. -/
theorem ledgerAndHeat : Obligations.LedgerAndHeat := by
  refine ⟨fun h s => ⟨fun hidle => ?_, fun hact hover hstep hspent => ⟨_, exec_overspendStepDown h s, overspend_slows hact hover hstep hspent⟩⟩,
    fun b s => ⟨fun hidle => ?_, fun hover hstep hspent => ⟨_, exec_benchOverspend b s, benchOverspend_slows hover hstep hspent⟩⟩,
    fun charges s => ⟨_, exec_ledgerSumTick charges s, fun a ha => sumTick_charges charges s.dev ha, sumTick_mem ..⟩,
    fun a s => ⟨_, exec_sensorFail a s, ?_, mcWrite_mcSeq .., fun k hk => ?_, sensorFail_leaves ..⟩,
    fun temp s => ⟨fun hcool => ?_, fun hhot => ⟨throttleOn madeHot s.dev, ?_, ?_⟩⟩,
    fun temp s => ⟨fun hhot => ?_, fun hcool hkept => ?_, fun hcool hfree => ⟨throttleOff madeCool s.dev, ?_, ?_⟩⟩,
    fun die core s => ⟨_, exec_thermtrip die core s, thermtrip_stops die core s.dev⟩⟩
  · rw [exec_overspendStepDown, overspend_idle hidle]
  · rw [exec_benchOverspend, benchOverspend_idle hidle]
  · exact (acctOf_sensorFail ..).trans (acctOf_updAcct_same ..)
  · exact (acctOf_sensorFail ..).trans (acctOf_updAcct_other _ _ hk)
  · rw [exec_thermalThrottle, if_neg (Nat.not_le.2 hcool)]
  · rw [exec_thermalThrottle, if_pos hhot]
  · exact ⟨throttleOn_hot _, fun a hlo hhi => throttleOn_hot_bench _ hlo hhi, fun a ha => throttleOn_hot_core _ ha,
      restOfLedger_frame (restOfLedger_throttleOn ..)⟩
  · rw [exec_thermalThrottleRelease, if_neg (Nat.not_le.2 hhot)]
  · have hstill : throttling (updLedger s.dev madeCool) = true := by simp [throttling, updLedger, madeCool, hkept]
    rw [exec_thermalThrottleRelease, if_pos hcool, throttleOff_kept hstill]
    rfl
  · rw [exec_thermalThrottleRelease, if_pos hcool]
  · exact ⟨throttleOff_cool hfree, fun a hlo hhi => throttleOff_cool_bench hfree hlo hhi, fun a ha => throttleOff_cool_core hfree ha,
      restOfLedger_frame (restOfLedger_throttleOff ..)⟩

end Sys2Proof.Proofs
end

section
namespace Sys2Proof.Proofs

open Sys2Proof.Machine

/-! ### What writes, snoops and evictions of lines leave alone -/

/-- Whether a hart is offline, and its sampling buffer (R110, R475). -/
def shell (x : Hart) : Bool × Nat × Nat × Bool × Bool := (x.offline, x.hsPos, x.hsSize, x.hsWrap, x.hsIrq)

/-- What no write, snoop or eviction of a line changes: the harts' shells, the mirror but for what it streams and has lost, the list and the kerf. -/
def steady (d : Dev) : (Nat → Bool × Nat × Nat × Bool × Bool) × MirrorSt × ListSt × KerfSt :=
  (fun k => shell (hartOf d k), { d.mirror with lineLog := [], lost := [] }, d.list, d.kerf)

section steady
variable {d e : Dev} (h : steady e = steady d)
include h

theorem shell_of_steady (k : Nat) : shell (hartOf e k) = shell (hartOf d k) := congrArg (fun v => v.1 k) h
theorem mirror_of_steady : { e.mirror with lineLog := [], lost := [] } = { d.mirror with lineLog := [], lost := [] } := congrArg (fun v => v.2.1) h
theorem list_of_steady : e.list = d.list := congrArg (fun v => v.2.2.1) h

end steady

/-! #### The state's own operations -/

theorem steady_foldl {β : Type} {f : Dev → β → Dev} (h : ∀ d b, steady (f d b) = steady d) (l : List β) (d : Dev) : steady (l.foldl f d) = steady d :=
  foldl_keeps steady f h l d

theorem steady_updHart {f : Hart → Hart} (hf : ∀ x, shell (f x) = shell x) (d : Dev) (h : Nat) : steady (updHart d h f) = steady d := by
  have hshell : (fun k => shell (hartOf (updHart d h f) k)) = fun k => shell (hartOf d k) := by
    funext k
    by_cases hk : k = h
    · subst hk
      rw [hartOf_updHart_same, hf]
    · rw [hartOf_updHart_other d f hk]
  exact congrArg (fun v => (v, { d.mirror with lineLog := [], lost := [] }, d.list, d.kerf)) hshell

@[simp] theorem steady_updLink (d : Dev) (n : Nat) (f : Link → Link) : steady (updLink d n f) = steady d := rfl
@[simp] theorem steady_updDie (d : Dev) (n : Nat) (f : Die → Die) : steady (updDie d n f) = steady d := rfl
@[simp] theorem steady_updSlice (d : Dev) (n : Nat) (f : SliceSt → SliceSt) : steady (updSlice d n f) = steady d := rfl
@[simp] theorem steady_updMsc (d : Dev) (n : Nat) (f : MscSt → MscSt) : steady (updMsc d n f) = steady d := rfl
@[simp] theorem steady_updChan (d : Dev) (n : Nat) (f : ChanSt → ChanSt) : steady (updChan d n f) = steady d := rfl
@[simp] theorem steady_updSub (d : Dev) (n : Nat) (f : SubSt → SubSt) : steady (updSub d n f) = steady d := rfl
@[simp] theorem steady_updEncl (d : Dev) (n : Nat) (f : Enclave → Enclave) : steady (updEncl d n f) = steady d := rfl
@[simp] theorem steady_emit (o : Out) (d : Dev) : steady (emit o d) = steady d := rfl
@[simp] theorem steady_setDieLine (n line : Nat) (v : Option DLine) (d : Dev) : steady (setDieLine n line v d) = steady d := rfl
@[simp] theorem steady_setDir (line : Nat) (e : Option DirEnt) (d : Dev) : steady (setDir line e d) = steady d := rfl
@[simp] theorem steady_updBundle (n : Nat) (up : Bool) (f : Bundle → Bundle) (d : Dev) : steady (updBundle n up f d) = steady d := rfl

@[simp] theorem steady_count (bank unit slot n : Nat) (d : Dev) : steady (count bank unit slot n d) = steady d := by
  obtain ⟨t, ht⟩ := count_eq bank unit slot n d
  rw [ht]
  rfl
@[simp] theorem steady_countDie (n slot : Nat) (d : Dev) : steady (countDie n slot d) = steady d := steady_count ..
@[simp] theorem steady_countSlice (n slot : Nat) (d : Dev) : steady (countSlice n slot d) = steady d := steady_count ..
@[simp] theorem steady_countChan (n slot : Nat) (d : Dev) : steady (countChan n slot d) = steady d := steady_count ..

@[simp] theorem steady_countHart (h c : Nat) (d : Dev) : steady (countHart h c d) = steady d := by
  obtain ⟨⟨_, _, hx, -⟩, ho, hf⟩ := countHartN_countsOnly h c 1 d
  have hshell : (fun k => shell (hartOf (countHart h c d) k)) = fun k => shell (hartOf d k) := by
    funext k
    by_cases hk : k = h
    · subst hk
      rw [countHart, hx]
      rfl
    · rw [countHart, ho k hk]
  have hrest : (steady (countHart h c d)).2 = (steady d).2 :=
    congrArg (fun e : Dev => ({ e.mirror with lineLog := [], lost := [] }, e.list, e.kerf)) hf
  exact Prod.ext hshell hrest

/-! #### Memory -/

@[simp] theorem steady_mirrorLine (line : Nat) (data : Line) (poison : Bool) (d : Dev) : steady (mirrorLine line data poison d) = steady d := by
  unfold mirrorLine
  split <;> rfl
theorem steady_setMem (a : Nat) (bs : List Byte) (d : Dev) : steady (setMem a bs d) = steady d := rfl
theorem steady_poison (d : Dev) (v : Tab Bool) : steady { d with poison := v } = steady d := rfl
theorem steady_moving (d : Dev) (fl : List FMsg) (ls : Tab Link) : steady { d with flight := fl, links := ls } = steady d := rfl
theorem steady_benches (d : Dev) (v : Tab BenchSt) : steady { d with benches := v } = steady d := rfl
@[simp] theorem steady_dramStore (line : Nat) (data : Line) (poison : Bool) (d : Dev) : steady (dramStore line data poison d) = steady d := by
  unfold dramStore
  rw [apply_ite steady, steady_updChan, steady_poison, steady_setMem, ite_self]
@[simp] theorem steady_wqIssueOldest (k : Nat) (d : Dev) : steady (wqIssueOldest k d) = steady d := by
  unfold wqIssueOldest
  split
  · rfl
  · simp
@[simp] theorem steady_wqMark (k : Nat) (d : Dev) : steady (wqMark k d) = steady d := by
  unfold wqMark
  dsimp only
  repeat' split
  all_goals simp
@[simp] theorem steady_chanWrite (line : Nat) (data : Line) (poison : Bool) (d : Dev) : steady (chanWrite line data poison d) = steady d := by
  unfold chanWrite
  dsimp only
  split
  · simp
  · rw [steady_wqMark, steady_updSub]
    split <;> simp
@[simp] theorem steady_evbDrainOne (n : Nat) (d : Dev) : steady (evbDrainOne n d) = steady d := by
  unfold evbDrainOne
  split
  · rfl
  · simp
@[simp] theorem steady_mscVictim (e : MscLine) (d : Dev) : steady (mscVictim e d) = steady d := by
  unfold mscVictim
  dsimp only
  split
  · simp
  · rw [steady_updMsc]
    split <;> simp
@[simp] theorem steady_mscPut (line : Nat) (e : Option MscLine) (d : Dev) : steady (mscPut line e d) = steady d := rfl
@[simp] theorem steady_mscPlace (line : Nat) (data : Line) (dirty poison : Bool) (d : Dev) : steady (mscPlace line data dirty poison d) = steady d := by
  unfold mscPlace
  rw [steady_mscPut]
  split
  · split
    · simp
    · rfl
  · rfl
@[simp] theorem steady_evbFree (line : Nat) (d : Dev) : steady (evbFree line d) = steady d := rfl
@[simp] theorem steady_mscWrite (line : Nat) (data : Line) (poison : Bool) (d : Dev) : steady (mscWrite line data poison d) = steady d := by
  unfold mscWrite
  split
  · simp
  · dsimp only
    split
    · simp
    · simp
    · repeat' split
      all_goals simp
@[simp] theorem steady_memWrite (line : Nat) (data : Line) (poison : Bool) (d : Dev) : steady (memWrite line data poison d) = steady d := by
  unfold memWrite
  split
  · split
    · rfl
    · simp
  · simp

/-! #### Lines of a die -/

@[simp] theorem steady_killCore (h line : Nat) (d : Dev) : steady (killCore h line d) = steady d := by
  unfold killCore
  extract_lets d1
  have h1 : steady d1 = steady d := by
    unfold d1
    split
    · exact (steady_countHart ..).trans (steady_updHart (fun _ => by rfl) d h)
    · rfl
  exact (steady_updHart (fun _ => by rfl) d1 h).trans h1
@[simp] theorem steady_killLine (n line : Nat) (d : Dev) : steady (killLine n line d) = steady d := steady_foldl (fun _ _ => steady_killCore ..) _ _
@[simp] theorem steady_loseResv (n line : Nat) (but : Option Nat) (d : Dev) : steady (loseResv n line but d) = steady d := by
  refine steady_foldl (fun d h => ?_) _ _
  split
  · split
    · exact steady_updHart (fun _ => by rfl) d h
    · rfl
  · rfl
@[simp] theorem steady_dropDieLine (n line : Nat) (d : Dev) : steady (dropDieLine n line d) = steady d := by
  unfold dropDieLine
  dsimp only
  rw [steady_loseResv, steady_updDie, steady_setDieLine]
  split
  · split <;> simp
  · rfl
@[simp] theorem steady_setHeldState (n line : Nat) (st : Moesi) (d : Dev) : steady (setHeldState n line st d) = steady d := by
  unfold setHeldState
  extract_lets d1
  have h1 : steady d1 = steady d := by
    unfold d1
    split <;> simp
  split
  · split <;> simpa using h1
  · simpa using h1
@[simp] theorem steady_clearBpres (line : Nat) (d : Dev) : steady (clearBpres line d) = steady d := by
  unfold clearBpres
  split
  · split
    · rfl
    · rw [steady_setDir]
      exact steady_foldl (fun _ _ => steady_benches ..) _ d
  · rfl
@[simp] theorem steady_takeLine (line : Nat) (d : Dev) : steady (takeLine line d) = steady d := by
  unfold takeLine
  dsimp only
  rw [steady_updSlice, steady_setDir, steady_foldl, steady_clearBpres]
  intro d n
  split
  · simp
  · split <;> simp
@[simp] theorem steady_patchLine (line : Nat) (x : Line) (poison : Bool) (d : Dev) : steady (patchLine line x poison d) = steady d := by
  unfold patchLine
  extract_lets sl msg d1 d2
  have h1 : steady d1 = steady d := by
    refine (steady_foldl (fun d n => ?_) _ _).trans (steady_clearBpres ..)
    extract_lets e e'
    have he : steady e = steady d := by
      unfold e
      split <;> simp
    have he' : steady e' = steady e := by
      unfold e'
      split <;> simp
    exact (steady_updDie ..).trans (he'.trans he)
  have h2 : steady d2 = steady d1 := steady_updSlice ..
  clear_value d2 d1
  rw [steady_memWrite, steady_moving, h2, h1]

/-! #### Links and snoops -/

@[simp] theorem steady_drainBundle (n : Nat) (up : Bool) (d : Dev) : steady (drainBundle n up d) = steady d := by
  unfold drainBundle
  dsimp only
  split <;> rfl
@[simp] theorem steady_sendWake (n : Nat) (d : Dev) : steady (sendWake n d) = steady d := by
  unfold sendWake
  split <;> rfl
@[simp] theorem steady_send (up : Bool) (m : FMsg) (d : Dev) : steady (send up m d) = steady d := by
  unfold send
  extract_lets m' n d1 d2
  have h1 : steady d1 = steady d := by
    unfold d1
    split <;> simp
  have h2 : steady d2 = steady d1 := (steady_drainBundle ..).trans (steady_updBundle ..)
  split
  · rw [steady_countDie, h2, h1]
  · rw [h2, h1]
@[simp] theorem steady_linkWakes (n : Nat) (d : Dev) : steady (linkWakes n d) = steady d := by
  unfold linkWakes
  dsimp only
  refine (steady_foldl (fun d h => steady_updHart (fun x => ?_) d h) _ _).trans ?_
  · split <;> rfl
  · rw [steady_countDie, steady_updLink]
@[simp] theorem steady_wakeForSnoop (n : Nat) (needs : Nat → Bool) (d : Dev) : steady (wakeForSnoop n needs d) = steady d := by
  unfold wakeForSnoop
  extract_lets d1 sleeping
  have h1 : steady d1 = steady d := by
    unfold d1
    split <;> simp
  clear_value sleeping d1
  split
  · exact h1
  · refine (steady_foldl (fun d h => ?_) _ _).trans ((steady_countDie ..).trans h1)
    exact (steady_updHart (fun _ => by rfl) _ h).trans (steady_countHart ..)
@[simp] theorem steady_tagWalks (n line : Nat) (d : Dev) : steady (tagWalks n line d) = steady d :=
  steady_foldl (fun d h => steady_updHart (fun _ => by rfl) d h) _ _
@[simp] theorem steady_wbRelease (n line : Nat) (d : Dev) : steady (wbRelease n line d) = steady d := by
  unfold wbRelease
  split
  · dsimp only
    repeat' split
    all_goals simp
  · rfl
@[simp] theorem steady_killDone (n txid line : Nat) (d : Dev) : steady (killDone n txid line d) = steady d := by
  unfold killDone
  split <;> simp
@[simp] theorem steady_ownerData (n : Nat) (op : Op) (m : FMsg) (x : Line) (poison dirty kp : Bool) (d : Dev) :
    steady (ownerData n op m x poison dirty kp d) = steady d := by
  simp [ownerData]
@[simp] theorem steady_answerAck (n : Nat) (m : FMsg) (op : Op) (held dirty kp : Bool) (d : Dev) :
    steady (answerAck n m op held dirty kp d) = steady d := by
  unfold answerAck
  dsimp only
  split <;> simp
@[simp] theorem steady_answerData (n : Nat) (m : FMsg) (data : Line) (poison dirty kp : Bool) (d : Dev) :
    steady (answerData n m data poison dirty kp d) = steady d := by
  unfold answerData
  dsimp only
  split <;> simp
@[simp] theorem steady_dieServe (n : Nat) (m : FMsg) (d : Dev) : steady (dieServe n m d) = steady d := by
  unfold dieServe
  dsimp only
  split
  all_goals (try split)
  all_goals simp
@[simp] theorem steady_serveOrDefer (n : Nat) (m : FMsg) (d : Dev) : steady (serveOrDefer n m d) = steady d := by
  unfold serveOrDefer
  dsimp only
  split <;> simp
@[simp] theorem steady_dieSnoop (n : Nat) (m : FMsg) (d : Dev) : steady (dieSnoop n m d) = steady d := by
  unfold dieSnoop
  split
  · rfl
  · extract_lets line d1 d2
    have h2 : steady d2 = steady d := by
      unfold d2
      split <;> simp [d1]
    clear_value d2
    split
    · split <;> simp [h2]
    · simp [h2]
@[simp] theorem steady_flushDeferred (n : Nat) (d : Dev) : steady (flushDeferred n d) = steady d := by
  unfold flushDeferred
  dsimp only
  split
  · rfl
  · rw [steady_foldl (fun _ _ => steady_dieSnoop ..), steady_updDie]

/-! #### Coherent writes and rest -/

@[simp] theorem steady_writeNow (line : Nat) (x : Line) (poison : Bool) (d : Dev) : steady (writeNow line x poison d) = steady d := by
  unfold writeNow
  dsimp only
  rw [steady_foldl (fun _ _ => steady_flushDeferred ..)]
  split <;> simp
@[simp] theorem steady_cohWriteLine (line : Nat) (data : Line) (d : Dev) : steady (cohWriteLine line data d) = steady d := steady_writeNow ..
@[simp] theorem steady_cohMerge (line off : Nat) (bs : List Byte) (d : Dev) : steady (cohMerge line off bs d) = steady d := by
  unfold cohMerge
  dsimp only
  split <;> simp
@[simp] theorem steady_cohWrite (a : Nat) (bs : List Byte) (d : Dev) : steady (cohWrite a bs d) = steady d := steady_foldl (fun _ _ => steady_cohMerge ..) _ _
@[simp] theorem steady_clearResv (h : Nat) (d : Dev) : steady (clearResv h d) = steady d := by
  unfold clearResv
  split
  · exact (steady_flushDeferred ..).trans (steady_updHart (fun _ => by rfl) d h)
  · rfl
@[simp] theorem steady_tryFold (n : Nat) (d : Dev) : steady (tryFold n d) = steady d := by
  unfold tryFold
  dsimp only
  split
  · split
    · refine steady_foldl (fun d h => ?_) _ d
      split
      · exact steady_updHart (fun _ => by rfl) d h
      · rfl
    · rw [steady_countDie, steady_updDie, steady_updLink]
      exact steady_foldl (fun d h => steady_updHart (fun _ => by rfl) d h) _ d
  · rfl
@[simp] theorem steady_asyncExit (h : Nat) (d : Dev) : steady (asyncExit h d) = steady d := by
  unfold asyncExit
  dsimp only
  split
  · exact (steady_updHart (fun _ => by rfl) _ h).trans (steady_updEncl ..)
  · exact steady_updHart (fun _ => by rfl) d h

end Sys2Proof.Proofs
end

section
namespace Sys2Proof.Proofs

open Sys2Proof.Machine

/-! ### The fields of a SEAL (R403) -/

theorem sliceOf_field {a v r : List Byte} {off n : Nat} (ha : a.length = off) (hv : v.length = n) : sliceOf (a ++ (v ++ r)) off n = v := by
  rw [sliceOf, List.drop_left' ha, List.take_left' hv]

theorem sliceOf_append_left {a r : List Byte} {off n : Nat} (h : off + n ≤ a.length) : sliceOf (a ++ r) off n = sliceOf a off n := by
  rw [sliceOf, sliceOf, List.drop_append_of_le_length (by omega), List.take_append_of_le_length (by rw [List.length_drop]; omega)]

theorem length_flatMap_blocks {f : Nat → List Byte} {w : Nat} (hf : ∀ k, (f k).length = w) (n : Nat) : ((List.range n).flatMap f).length = w * n := by
  induction n with
  | zero => rfl
  | succ n ih => rw [List.range_succ, List.flatMap_append, List.length_append, ih, List.flatMap_singleton, hf, Nat.mul_succ]

/-- Block `k` of equal blocks. -/
theorem sliceOf_flatMap_blocks {f : Nat → List Byte} {w : Nat} (hf : ∀ k, (f k).length = w) {n k : Nat} (hk : k < n) :
    sliceOf ((List.range n).flatMap f) (w * k) w = f k := by
  induction n with
  | zero => omega
  | succ n ih =>
    have hlen := length_flatMap_blocks hf n
    rw [List.range_succ, List.flatMap_append, List.flatMap_singleton]
    by_cases hkn : k = n
    · subst hkn
      have hcut := sliceOf_field (r := []) hlen (hf k)
      rwa [List.append_nil] at hcut
    · have hlt : k + 1 ≤ n := by omega
      rw [sliceOf_append_left (by rw [hlen, ← Nat.mul_succ]; exact Nat.mul_le_mul_left w hlt)]
      exact ih (by omega)

/-- The bytes of a SEAL record. -/
def sealBytes (kerf : Nat) (counts : List Nat) (outs : Nat) (digest : List Byte) : List Byte :=
  [0x30] ++ leBytes 7 0 ++ leBytes 8 kerf ++ (List.range 16).flatMap (fun s => leBytes 4 (counts.getD s 0)) ++ leBytes 4 outs ++ leBytes 4 0 ++ padTo 64 digest

section sealFields
variable {kerf : Nat} {counts : List Nat} {outs : Nat} {digest : List Byte}

theorem length_sealCounts : ((List.range 16).flatMap (fun s => leBytes 4 (counts.getD s 0))).length = 64 :=
  length_flatMap_blocks (fun _ => length_leBytes 4 _) 16

theorem sealKerf_sealBytes (hk : kerf < 2 ^ 64) : sealKerf (sealBytes kerf counts outs digest) = kerf := by
  have hcut : sliceOf (sealBytes kerf counts outs digest) 8 8 = leBytes 8 kerf := by
    simp only [sealBytes, List.append_assoc]
    rw [← List.append_assoc [0x30]]
    exact sliceOf_field (by simp) (length_leBytes 8 kerf)
  rw [sealKerf, leAt, hcut, leNat_leBytes, Nat.mod_eq_of_lt (by simpa using hk)]

theorem sealCount_sealBytes (hc : ∀ k, counts.getD k 0 < 2 ^ 32) {k : Nat} (hk : k < 16) :
    sealCount (sealBytes kerf counts outs digest) k = counts.getD k 0 := by
  have hcut : sliceOf (sealBytes kerf counts outs digest) (16 + 4 * k) 4 = leBytes 4 (counts.getD k 0) := by
    have hdrop : sliceOf (sealBytes kerf counts outs digest) (16 + 4 * k) 4 =
        sliceOf ((List.range 16).flatMap (fun s => leBytes 4 (counts.getD s 0)) ++ (leBytes 4 outs ++ leBytes 4 0 ++ padTo 64 digest)) (4 * k) 4 := by
      rw [sliceOf, sliceOf, ← List.drop_drop, sealBytes]
      simp only [List.append_assoc]
      rw [← List.append_assoc [0x30], ← List.append_assoc ([0x30] ++ leBytes 7 0), List.drop_left' (by simp)]
    rw [hdrop, sliceOf_append_left (by rw [length_sealCounts]; omega)]
    exact sliceOf_flatMap_blocks (fun k => length_leBytes 4 _) hk
  rw [sealCount, leAt, hcut, leNat_leBytes, Nat.mod_eq_of_lt (by simpa using hc k)]

theorem sealOuts_sealBytes (ho : outs < 2 ^ 32) : sealOuts (sealBytes kerf counts outs digest) = outs := by
  have hcut : sliceOf (sealBytes kerf counts outs digest) 80 4 = leBytes 4 outs := by
    rw [sealBytes, List.append_assoc _ (leBytes 4 0), List.append_assoc _ (leBytes 4 outs)]
    refine sliceOf_field ?_ (length_leBytes 4 outs)
    rw [List.length_append, length_sealCounts]
    simp
  rw [sealOuts, leAt, hcut, leNat_leBytes, Nat.mod_eq_of_lt (by simpa using ho)]

theorem sliceOf_sealBytes (hd : digest.length = 64) : sliceOf (sealBytes kerf counts outs digest) 88 64 = digest := by
  rw [sealBytes, padTo_of_length hd]
  conv_lhs => rw [← List.append_nil digest]
  refine sliceOf_field ?_ hd
  rw [List.length_append, List.length_append, List.length_append, length_sealCounts]
  simp

end sealFields

/-! ### Lines and copies (R407, R416) -/

theorem homeSlice_of_list {d e : Dev} (h : e.list = d.list) (pa : Nat) : homeSlice e pa = homeSlice d pa := by
  unfold homeSlice chanOfPa maskOf ent
  rw [h]

theorem steady_placeLine (b : List Byte) (d : Dev) : steady (placeLine b d) = steady d := by
  have hlost (l : List Nat → List Nat) (e : Dev) : steady (updMirror e (fun x => { x with lost := l x.lost })) = steady e := rfl
  exact (hlost _ _).trans ((steady_memWrite ..).trans (steady_takeLine ..))

theorem pendSeal_of_steady {d e : Dev} (h : steady e = steady d) : e.mirror.pendSeal = d.mirror.pendSeal := (congrArg MirrorSt.pendSeal (mirror_of_steady h) :)

/-- A record joins the log; a seal that it completes is judged. -/
def joined (key : Nat) (b : List Byte) (d : Dev) : Dev := updMirror d (fun x => { x with log := x.log ++ [(key, b)] })

theorem logRec_joins {key : Nat} {b : List Byte} {d : Dev}
    (h : d.mirror.pendSeal = none ∨ ∃ p, d.mirror.pendSeal = some p ∧ sealReady (joined key b d) p = false) : logRec key b d = joined key b d := by
  show (match d.mirror.pendSeal with | some s => if sealReady (joined key b d) s then judgeSeal s (joined key b d) else joined key b d | none => joined key b d) = _
  obtain h | ⟨p, h, hready⟩ := h
  · rw [h]
  · rw [h]
    exact if_neg (by rw [hready]; exact Bool.false_ne_true)

theorem logRec_completes {key : Nat} {b p : List Byte} {d : Dev} (h : d.mirror.pendSeal = some p) (hready : sealReady (joined key b d) p = true) :
    logRec key b d = judgeSeal p (joined key b d) := by
  show (match d.mirror.pendSeal with | some s => if sealReady (joined key b d) s then judgeSeal s (joined key b d) else joined key b d | none => joined key b d) = _
  rw [h]
  exact if_pos hready

/-- What an instruction does whose record joins the log of `d`. -/
def Joins (i : Instr) (key : Nat) (b : List Byte) (d : Dev) (s : State) : Prop :=
  ((s.dev.mirror.pendSeal = none ∨ ∃ p, s.dev.mirror.pendSeal = some p ∧ sealReady (joined key b d) p = false) →
    exec i s = .next { s with dev := joined key b d }) ∧
  (∀ p, s.dev.mirror.pendSeal = some p → sealReady (joined key b d) p = true → exec i s = .next { s with dev := judgeSeal p (joined key b d) })

theorem joins_of_exec {i : Instr} {key : Nat} {b : List Byte} {d : Dev} {s : State} (hp : d.mirror.pendSeal = s.dev.mirror.pendSeal)
    (hexec : exec i s = .next { s with dev := logRec key b d }) : Joins i key b d s := by
  refine ⟨fun h => ?_, fun p h hready => ?_⟩
  · rw [hexec, logRec_joins (by rw [hp]; exact h)]
  · rw [hexec, logRec_completes (hp.trans h) hready]

/-- The package where a LINE record goes into place as it arrives, while the pair forms. -/
def linePlaced (b : List Byte) (d : Dev) : Dev := if d.mirror.phase = 1 then placeLine b d else d

theorem steady_linePlaced (b : List Byte) (d : Dev) : steady (linePlaced b d) = steady d := by
  unfold linePlaced
  split
  · exact steady_placeLine ..
  · rfl

section records
variable {s : State}

theorem exec_lineRec {epoch line : Nat} {poison : Bool} {data : Line} :
    let b := lineRecBytes 1 epoch line data poison
    exec (.lineRec epoch line poison data) s = .next { s with dev := (
      if standbyTakes s.dev && logRoom s.dev 72 then logRec (homeSlice (linePlaced b s.dev) (line * 64)) b (linePlaced b s.dev) else s.dev) } := rfl

theorem exec_outputRec {rp kind oseq addr : Nat} {data : List Byte} (hlen : data.length ≤ 192) :
    let b := outputRec { oseq := oseq, rp := rp, kind := kind, addr := addr, data := data, kerf := 0 }
    exec (.outputRec rp kind oseq addr data) s = .next { s with dev := if standbyTakes s.dev && logRoom s.dev b.length then logRec 16 b s.dev else s.dev } := by
  intro b
  have hb : b = outputRec { oseq := oseq, rp := rp, kind := kind, addr := addr, data := data.take 192, kerf := 0 } := by rw [List.take_of_length_le hlen]
  rw [hb]
  rfl

theorem exec_entryRec {idx sub total off : Nat} {v : List Byte} (hlen : v.length ≤ 200) :
    let b := entryRec idx sub total off v
    exec (.entryRec idx sub total off v) s = .next { s with dev := if standbyTakes s.dev && logRoom s.dev b.length then logRec 16 b s.dev else s.dev } := by
  intro b
  have hb : b = entryRec idx sub total off (v.take 200) := by rw [List.take_of_length_le hlen]
  rw [hb]
  rfl

/-- A record that the STANDBY does not take, or has no room for, changes nothing. -/
theorem not_taken {a r : Bool} {e d : Dev} (h : a = false ∨ r = false) : (if (a && r) = true then e else d) = d :=
  if_neg (by rcases h with rfl | rfl <;> simp)

theorem taken {a r : Bool} {e d : Dev} (ha : a = true) (hr : r = true) : (if (a && r) = true then e else d) = e := if_pos (by simp [ha, hr])

theorem joins_lineRec {epoch line : Nat} {poison : Bool} {data : Line} (htakes : standbyTakes s.dev = true) (hroom : logRoom s.dev 72 = true) :
    let b := lineRecBytes 1 epoch line data poison
    Joins (.lineRec epoch line poison data) (homeSlice s.dev (line * 64)) b (linePlaced b s.dev) s := by
  intro b
  have hsteady := steady_linePlaced b s.dev
  refine joins_of_exec (pendSeal_of_steady hsteady) ?_
  rw [← homeSlice_of_list (list_of_steady hsteady), exec_lineRec, taken htakes hroom]

theorem joins_outputRec {rp kind oseq addr : Nat} {data : List Byte} (hlen : data.length ≤ 192) (htakes : standbyTakes s.dev = true) :
    let b := outputRec { oseq := oseq, rp := rp, kind := kind, addr := addr, data := data, kerf := 0 }
    logRoom s.dev b.length = true → Joins (.outputRec rp kind oseq addr data) 16 b s.dev s := fun hroom =>
  joins_of_exec rfl (by rw [exec_outputRec hlen, taken htakes hroom])

theorem joins_entryRec {idx sub total off : Nat} {v : List Byte} (hlen : v.length ≤ 200) (htakes : standbyTakes s.dev = true)
    (hroom : logRoom s.dev (entryRec idx sub total off v).length = true) :
    Joins (.entryRec idx sub total off v) 16 (entryRec idx sub total off v) s.dev s :=
  joins_of_exec rfl (by rw [exec_entryRec hlen, taken htakes hroom])

theorem exec_copyRec {epoch line : Nat} {poison : Bool} {data : Line} :
    exec (.copyRec epoch line poison data) s = .next { s with dev := (
      if s.dev.mirror.role = 2 ∧ s.dev.mirror.phase = 1 then placeLine (lineRecBytes 0xA epoch line data poison) s.dev else s.dev) } := rfl

end records

/-! ### SEAL (R415, R416, R110) -/

/-- The digest counts the lines of the sixteen slices. -/
theorem sealDigest_congr {kerf : Nat} {lines lines' : Nat → List (List Byte)} (h : ∀ k, k < 16 → lines k = lines' k) (outs : List (List Byte)) :
    sealDigest kerf lines outs = sealDigest kerf lines' outs := by
  have hslices : (List.range 16).flatMap (fun s => sha512 ((lines s).flatMap id)) = (List.range 16).flatMap (fun s => sha512 ((lines' s).flatMap id)) :=
    List.flatMap_congr fun k hk => by rw [h k (List.mem_range.1 hk)]
  have hcounts : (List.range 16).flatMap (fun s => leBytes 4 (lines s).length) = (List.range 16).flatMap (fun s => leBytes 4 (lines' s).length) :=
    List.flatMap_congr fun k hk => by rw [h k (List.mem_range.1 hk)]
  unfold sealDigest
  rw [hslices, hcounts]

/-- What a commit keeps: the harts' shells, the mirror but for what records fill, and the kerf. -/
def sealView (d : Dev) : MirrorSt × KerfSt :=
  ({ d.mirror with lineLog := [], lost := [], committedOut := [], entrySegs := [], pairedVals := [] }, d.kerf)

theorem sealView_of_steady {d e : Dev} (h : steady e = steady d) : sealView e = sealView d :=
  congrArg (fun v => ({ v.2.1 with committedOut := [], entrySegs := [], pairedVals := [] }, v.2.2.2)) h

theorem committedOut_of_steady {d e : Dev} (h : steady e = steady d) : e.mirror.committedOut = d.mirror.committedOut :=
  (congrArg MirrorSt.committedOut (mirror_of_steady h) :)

theorem offline_of_steady {d e : Dev} (h : steady e = steady d) (k : Nat) : (hartOf e k).offline = (hartOf d k).offline :=
  congrArg Prod.fst (shell_of_steady h k)

theorem applyRec_line {kerf : Nat} {r : Nat × List Byte} (d : Dev) (h : r.1 < 16) : applyRec kerf r d = placeLine r.2 d := if_pos h

/-- The LINE records of a commit go into place. -/
theorem steady_applyLines (kerf : Nat) (lines : Nat → List (List Byte)) (d : Dev) :
    steady ((List.range 16).foldl (fun d s => (lines s).foldl (fun d r => applyRec kerf (s, r) d) d) d) = steady d := by
  have hrec (k : Nat) (hk : k < 16) (d : Dev) (r : List Byte) : steady (applyRec kerf (k, r) d) = steady d := by
    rw [applyRec_line (r := (k, r)) d hk, steady_placeLine]
  have hslice (k : Nat) (hk : k < 16) (l : List (List Byte)) (d : Dev) : steady (l.foldl (fun d r => applyRec kerf (k, r) d) d) = steady d :=
    steady_foldl (hrec k hk) l d
  have hall (l : List Nat) (hl : ∀ k ∈ l, k < 16) (d : Dev) :
      steady (l.foldl (fun d s => (lines s).foldl (fun d r => applyRec kerf (s, r) d) d) d) = steady d := by
    induction l generalizing d with
    | nil => rfl
    | cons k l ih => exact (ih (fun j hj => hl j (List.mem_cons_of_mem k hj)) _).trans (hslice k (hl k List.mem_cons_self) _ d)
  exact hall _ (fun k hk => List.mem_range.1 hk) d

theorem entrySeg_keeps (b : List Byte) (d : Dev) :
    sealView (entrySeg b d) = sealView d ∧ (entrySeg b d).mirror.committedOut = d.mirror.committedOut ∧ (entrySeg b d).harts = d.harts := by
  unfold entrySeg
  extract_lets key total off seg old v rest
  split <;> exact ⟨rfl, rfl, rfl⟩

/-- An OUTPUT record of a commit joins the committed writes; an ENTRY record does not. -/
theorem applyRec_out (kerf : Nat) (r : List Byte) (d : Dev) :
    sealView (applyRec kerf (16, r) d) = sealView d ∧
      (applyRec kerf (16, r) d).mirror.committedOut = d.mirror.committedOut ++ ([r].filter (fun r => leAt r 0 1 / 16 == 2)).map (heldOf kerf) ∧
      (applyRec kerf (16, r) d).harts = d.harts := by
  have heq : applyRec kerf (16, r) d = if leAt r 0 1 / 16 = 2 then updMirror d (fun x => { x with committedOut := x.committedOut ++ [heldOf kerf r] })
      else entrySeg r d := if_neg (Nat.lt_irrefl 16)
  rw [heq]
  by_cases hout : leAt r 0 1 / 16 = 2
  · have hone : [r].filter (fun r => leAt r 0 1 / 16 == 2) = [r] := by simp [hout]
    rw [if_pos hout, hone]
    exact ⟨rfl, rfl, rfl⟩
  · have hnone : [r].filter (fun r => leAt r 0 1 / 16 == 2) = [] := by simp [hout]
    rw [if_neg hout, hnone, List.map_nil, List.append_nil]
    exact entrySeg_keeps r d

theorem applyOuts_keeps (kerf : Nat) (outs : List (List Byte)) (d : Dev) :
    let e := outs.foldl (fun d r => applyRec kerf (16, r) d) d
    sealView e = sealView d ∧ e.mirror.committedOut = d.mirror.committedOut ++ (outs.filter (fun r => leAt r 0 1 / 16 == 2)).map (heldOf kerf) ∧
      e.harts = d.harts := by
  induction outs generalizing d with
  | nil => exact ⟨rfl, (List.append_nil _).symm, rfl⟩
  | cons r outs ih =>
    obtain ⟨hview, hout, hharts⟩ := applyRec_out kerf r d
    obtain ⟨hview', hout', hharts'⟩ := ih (applyRec kerf (16, r) d)
    refine ⟨hview'.trans hview, ?_, hharts'.trans hharts⟩
    have hcons : (r :: outs).filter (fun r => leAt r 0 1 / 16 == 2) =
        [r].filter (fun r => leAt r 0 1 / 16 == 2) ++ outs.filter (fun r => leAt r 0 1 / 16 == 2) := List.filter_append [r] outs
    rw [hcons, List.map_append, ← List.append_assoc, ← hout]
    exact hout'

/-- A hart taken offline is offline; nothing that a commit keeps changes (R110). -/
theorem takeOffline_keeps (h : Nat) (d : Dev) :
    (steady (takeOffline h d)).2 = (steady d).2 ∧
      ∀ k, (hartOf (takeOffline h d) k).offline = if k = h then true else (hartOf d k).offline := by
  unfold takeOffline
  extract_lets ran d1 x d2 d3
  have h1 : steady d1 = steady d := by
    unfold d1
    split
    · exact steady_asyncExit ..
    · rfl
  have h2 : steady d2 = steady d := by
    refine Eq.trans ?_ h1
    unfold d2
    split
    · exact steady_cohWrite ..
    · rfl
  have hclear : steady (clearResv h d2) = steady d := (steady_clearResv ..).trans h2
  have hfold : steady (tryFold (dieOfHart h) d3) = steady d3 := steady_tryFold ..
  refine ⟨?_, fun k => ?_⟩
  · rw [hfold]
    exact (congrArg Prod.snd hclear :)
  · rw [offline_of_steady hfold, ← offline_of_steady hclear]
    by_cases hk : k = h
    · subst hk
      rw [if_pos rfl]
      unfold d3
      rw [hartOf_updHart_same]
    · rw [if_neg hk]
      unfold d3
      rw [hartOf_updHart_other _ _ hk]

theorem takeAllOffline_keeps (off : List Nat) (d : Dev) :
    let e := off.foldl (fun d h => takeOffline h d) d
    (steady e).2 = (steady d).2 ∧ ∀ k, k ∈ off ∨ (hartOf d k).offline = true → (hartOf e k).offline = true := by
  induction off generalizing d with
  | nil => exact ⟨rfl, fun k hk => hk.resolve_left (List.not_mem_nil)⟩
  | cons h off ih =>
    obtain ⟨hkept, hoff⟩ := takeOffline_keeps h d
    obtain ⟨hkept', hoff'⟩ := ih (takeOffline h d)
    refine ⟨hkept'.trans hkept, fun k hk => hoff' k ?_⟩
    rw [hoff k]
    by_cases hkh : k = h
    · exact .inr (if_pos hkh)
    · rw [if_neg hkh]
      exact hk.imp_left fun hmem => (List.mem_cons.1 hmem).resolve_left hkh

/-! #### The judgement -/

section judge
variable {b : List Byte} {d : Dev}

/-- The records that a seal counts. -/
def sealedLines (b : List Byte) (d : Dev) (k : Nat) : List (List Byte) := (epochLines d (sealKerf b) k).take (sealCount b k)
def sealedOuts (b : List Byte) (d : Dev) : List (List Byte) := (logOuts d).take (sealOuts b)

/-- The harts of a seal that are not offline yet. -/
def sealedOffline (d : Dev) : List Nat := d.mirror.pendOff.filter (fun h => !(hartOf d h).offline)

/-- The log without the records that a seal counts. -/
def logAfterSeal (b : List Byte) (d : Dev) : List (Nat × List Byte) :=
  dropFirst (fun r => r.1 == 16) (sealOuts b)
    ((List.range 16).foldl (fun l s => dropFirst (fun r => r.1 == s && leAt r.2 1 1 == (sealKerf b - 1) % 256) (sealCount b s) l) d.mirror.log)

/-- The STANDBY as it commits, before any record is applied. -/
def sealCommitted (b : List Byte) (d : Dev) : Dev :=
  updMirror d (fun x => { x with
    pendSeal := none, pendOff := [], log := logAfterSeal b d, lastCommit := sealKerf b, phase := if x.phase = 1 then 2 else x.phase })

/-- The STANDBY with every record of a seal applied. -/
def sealApplied (b : List Byte) (d : Dev) : Dev :=
  (sealedOuts b d).foldl (fun e r => applyRec (sealKerf b) (16, r) e)
    ((List.range 16).foldl (fun e s => (sealedLines b d s).foldl (fun e r => applyRec (sealKerf b) (s, r) e) e) (sealCommitted b d))

theorem judgeSeal_commits (h : sealDigest (sealKerf b) (sealedLines b d) (sealedOuts b d) = sliceOf b 88 64) :
    judgeSeal b d = sendDowel 4 ([0x40, 0] ++ leBytes 6 0 ++ leBytes 8 (sealKerf b))
      ((sealedOffline d).foldl (fun e h => takeOffline h e) (sealApplied b d)) := if_pos h

theorem judgeSeal_breaks (h : sealDigest (sealKerf b) (sealedLines b d) (sealedOuts b d) ≠ sliceOf b 88 64) :
    judgeSeal b d = sendDowel 5 ([0x50, 1] ++ leBytes 6 0 ++ leBytes 8 (sealKerf b))
      (updMirror d (fun x => { x with pendSeal := none, pendOff := [], log := [], entrySegs := [], phase := 7, sealNaks := x.sealNaks + 1 })) := if_neg h

theorem sealApplied_keeps (b : List Byte) (d : Dev) :
    sealView (sealApplied b d) = sealView (sealCommitted b d) ∧
      (sealApplied b d).mirror.committedOut =
        d.mirror.committedOut ++ ((sealedOuts b d).filter (fun r => leAt r 0 1 / 16 == 2)).map (heldOf (sealKerf b)) ∧
      ∀ k, (hartOf (sealApplied b d) k).offline = (hartOf d k).offline := by
  have hlines := steady_applyLines (sealKerf b) (sealedLines b d) (sealCommitted b d)
  obtain ⟨hview, hout, hharts⟩ := applyOuts_keeps (sealKerf b) (sealedOuts b d)
    ((List.range 16).foldl (fun e s => (sealedLines b d s).foldl (fun e r => applyRec (sealKerf b) (s, r) e) e) (sealCommitted b d))
  refine ⟨hview.trans (sealView_of_steady hlines), ?_, fun k => ?_⟩
  · rw [committedOut_of_steady hlines] at hout
    exact hout
  · exact (congrArg (fun t => (tabGet hartInit t k).offline) hharts).trans (offline_of_steady hlines k)

/-- A seal that agrees: what it leaves of the mirror, the harts it took offline, and its acknowledgement (R110, R416). -/
theorem judgeSeal_committed (h : sealDigest (sealKerf b) (sealedLines b d) (sealedOuts b d) = sliceOf b 88 64) :
    let e := judgeSeal b d
    e.mirror.lastCommit = sealKerf b ∧ e.mirror.phase = (if d.mirror.phase = 1 then 2 else d.mirror.phase) ∧ e.mirror.role = d.mirror.role ∧
      e.mirror.pendSeal = none ∧
      e.mirror.committedOut = d.mirror.committedOut ++ ((sealedOuts b d).filter (fun r => leAt r 0 1 / 16 == 2)).map (heldOf (sealKerf b)) ∧
      (∀ k ∈ d.mirror.pendOff, (hartOf e k).offline = true) ∧
      e.out.getLast? = some (.dowel (subLinkMain d) 4 d.kerf.counter ([0x40, 0] ++ leBytes 6 0 ++ leBytes 8 (sealKerf b))) := by
  obtain ⟨hview, hout, hharts⟩ := sealApplied_keeps b d
  obtain ⟨hkept, hoff⟩ := takeAllOffline_keeps (sealedOffline d) (sealApplied b d)
  rw [judgeSeal_commits h]
  generalize (sealedOffline d).foldl (fun e h => takeOffline h e) (sealApplied b d) = e at hkept hoff
  have hseal : sealView e = sealView (sealCommitted b d) :=
    (congrArg (fun v => ({ v.1 with committedOut := [], entrySegs := [], pairedVals := [] }, v.2.2)) hkept).trans hview
  have hcommit : e.mirror.committedOut = (sealApplied b d).mirror.committedOut := congrArg (fun v => v.1.committedOut) hkept
  have hw0 : e.mirror.w0 = d.mirror.w0 := congrArg (fun v => v.1.w0) hseal
  have hkerf : e.kerf = d.kerf := congrArg Prod.snd hseal
  refine ⟨congrArg (fun v => v.1.lastCommit) hseal, congrArg (fun v => v.1.phase) hseal, congrArg (fun v => v.1.role) hseal,
    congrArg (fun v => v.1.pendSeal) hseal, hcommit.trans hout, fun k hk => hoff k ?_, ?_⟩
  · rw [hharts k]
    by_cases hgone : (hartOf d k).offline = true
    · exact .inr hgone
    · exact .inl (List.mem_filter.2 ⟨hk, by simp [hgone]⟩)
  · have hlast : (sendDowel 4 ([0x40, 0] ++ leBytes 6 0 ++ leBytes 8 (sealKerf b)) e).out.getLast? =
        some (.dowel (subLinkMain e) 4 e.kerf.counter ([0x40, 0] ++ leBytes 6 0 ++ leBytes 8 (sealKerf b))) := List.getLast?_concat
    rw [hlast, hkerf, subLinkMain, hw0, subLinkMain]

end judge

section sealArrives
variable {kerf : Nat} {counts : List Nat} {outs : Nat} {digest : List Byte} {d : Dev}

/-- The STANDBY with a seal that waits. -/
def sealPending (b : List Byte) (off : List Nat) (d : Dev) : Dev := updMirror d (fun x => { x with pendSeal := some b, pendOff := off })

theorem sealArrives_eq {off : List Nat} (htakes : standbyTakes d = true) :
    let b := sealBytes kerf counts outs digest
    sealArrives kerf counts outs digest off d =
      if sealReady (sealPending b off d) b then judgeSeal b (sealPending b off d) else sealPending b off d := if_pos htakes

/-- Every record that a seal counts is in the log. -/
def SealHere (kerf : Nat) (counts : List Nat) (outs : Nat) (d : Dev) : Prop :=
  (∀ k, k < 16 → counts.getD k 0 ≤ (epochLines d kerf k).length) ∧ outs ≤ (logOuts d).length

variable (hk : kerf < 2 ^ 64) (ho : outs < 2 ^ 32) (hc : ∀ k, counts.getD k 0 < 2 ^ 32)
include hk ho hc

theorem sealReady_iff (off : List Nat) :
    sealReady (sealPending (sealBytes kerf counts outs digest) off d) (sealBytes kerf counts outs digest) = true ↔ SealHere kerf counts outs d := by
  unfold sealReady SealHere
  rw [sealKerf_sealBytes hk, sealOuts_sealBytes ho, Bool.and_eq_true, List.all_eq_true]
  simp only [decide_eq_true_eq, List.mem_range]
  refine and_congr (forall₂_congr fun k hk16 => ?_) Iff.rfl
  rw [sealCount_sealBytes hc hk16]
  rfl

omit ho in
theorem sealedLines_pending (off : List Nat) {k : Nat} (hk16 : k < 16) :
    sealedLines (sealBytes kerf counts outs digest) (sealPending (sealBytes kerf counts outs digest) off d) k =
      (epochLines d kerf k).take (counts.getD k 0) := by
  rw [sealedLines, sealKerf_sealBytes hk, sealCount_sealBytes hc hk16]
  rfl

omit hk hc in
theorem sealedOuts_pending (off : List Nat) :
    sealedOuts (sealBytes kerf counts outs digest) (sealPending (sealBytes kerf counts outs digest) off d) = (logOuts d).take outs := by
  rw [sealedOuts, sealOuts_sealBytes ho]
  rfl

theorem sealDigest_pending (off : List Nat) :
    let b := sealBytes kerf counts outs digest
    sealDigest (sealKerf b) (sealedLines b (sealPending b off d)) (sealedOuts b (sealPending b off d)) =
      sealDigest kerf (fun k => (epochLines d kerf k).take (counts.getD k 0)) ((logOuts d).take outs) := by
  intro b
  rw [sealedOuts_pending ho, sealKerf_sealBytes hk]
  exact sealDigest_congr (fun k hk16 => sealedLines_pending hk hc off hk16) _

end sealArrives

theorem exec_sealRec (kerf : Nat) (counts : List Nat) (outs : Nat) (digest : List Byte) (offline : List HartN) (s : State) :
    exec (.sealRec kerf counts outs digest offline) s =
      .next { s with dev := sealArrives kerf counts outs digest (offline.map (fun h => h.val)) s.dev } := rfl

theorem sealArrives_not_taken {kerf : Nat} {counts : List Nat} {outs : Nat} {digest : List Byte} {off : List Nat} {d : Dev} (h : standbyTakes d = false) :
    sealArrives kerf counts outs digest off d = d := if_neg (by rw [h]; exact Bool.false_ne_true)

theorem role_of_takes {d : Dev} (h : standbyTakes d = true) : d.mirror.role = 2 := by
  simp only [standbyTakes, Bool.and_eq_true, beq_iff_eq] at h
  exact h.1

/-! ### KERF and KEYS (R406, R407, R427) -/

theorem exec_kerfRec (kerf time : Nat) (s : State) : exec (.kerfRec kerf time) s = .next { s with dev := kerfArrives kerf time s.dev } := rfl

theorem kerfArrives_other {kerf time : Nat} {d : Dev} (h : d.mirror.role ≠ 2) : kerfArrives kerf time d = d := if_neg h

/-- The record is of the epoch that KERF opens or of the one before, or is of no epoch. -/
def staysInLog (kerf : Nat) (r : Nat × List Byte) : Bool := r.1 == 16 || leAt r.2 1 1 == (kerf - 1) % 256 || leAt r.2 1 1 == kerf % 256

theorem kerfArrives_running {kerf time : Nat} {d : Dev} (hrole : d.mirror.role = 2) (hphase : d.mirror.phase ≠ 1) :
    kerfArrives kerf time d = updMirror d (fun x => { x with kerfTime := time }) := by
  unfold kerfArrives
  simp [hrole, updMirror, hphase]

theorem kerfArrives_forming {kerf time : Nat} {d : Dev} (hrole : d.mirror.role = 2) (hphase : d.mirror.phase = 1) :
    kerfArrives kerf time d =
      { d with now := max d.now time, mirror := { d.mirror with kerfTime := time, log := d.mirror.log.filter (staysInLog kerf) } } := by
  unfold kerfArrives
  rw [if_pos hrole]
  simp only [updMirror, hphase, true_and, if_true]
  split
  · next h => rw [Nat.max_eq_right h.le]; rfl
  · next h => rw [Nat.max_eq_left (Nat.not_lt.1 h)]; rfl

theorem exec_keysRec (b : BenchN) (gen : Nat) (key : List Byte) (s : State) : exec (.keysRec b gen key) s = .next { s with dev := keysArrive b gen key s.dev } := rfl

theorem keysArrive_standby {b gen : Nat} {key : List Byte} {d : Dev} (h : d.mirror.role = 2) :
    keysArrive b gen key d = updBench (updMirror d (fun x => { x with keys := tabSet [] x.keys b (padTo 32 key), keyGen := tabSet 0 x.keyGen b gen })) b
      (fun x => { x with ksKey := padTo 32 key, keyed := true }) := if_pos h

theorem keysArrive_other {b gen : Nat} {key : List Byte} {d : Dev} (h : d.mirror.role ≠ 2) : keysArrive b gen key d = d := if_neg h

/-- Settles O53. A record joins the log and completes a seal or not; a seal is judged by its digest; lines placed and harts taken offline leave what the commit has set. -/
theorem standbyTakesRecords : Obligations.StandbyTakesRecords := by
  refine ⟨fun epoch line poison data s => ⟨fun h => ?_, fun htakes hroom => joins_lineRec htakes hroom⟩,
    fun epoch line poison data s => ⟨fun hrole hphase => ?_, fun h => ?_⟩,
    fun rp kind oseq addr data s hlen => ⟨fun h => ?_, fun htakes hroom => joins_outputRec hlen htakes hroom⟩,
    fun idx sub total off v s hlen => ⟨fun h => ?_, fun htakes hroom => joins_entryRec hlen htakes hroom⟩,
    fun kerf counts outs digest offline s => ⟨fun h => ?_, fun htakes hk ho hd hc => ?_⟩,
    fun kerf time s => ⟨fun h => ?_, fun hrole => ⟨fun hphase => ?_, fun hphase => ?_⟩⟩,
    fun b gen key s => ⟨fun h => ?_, fun hrole => ?_⟩⟩
  · rw [exec_lineRec, not_taken h]
  · rw [exec_copyRec, if_pos ⟨hrole, hphase⟩]
  · rw [exec_copyRec, if_neg h]
  · rw [exec_outputRec hlen, not_taken h]
  · rw [exec_entryRec hlen, not_taken h]
  · rw [exec_sealRec, sealArrives_not_taken h]
  · intro recs taken here
    have hready := sealReady_iff (digest := digest) (d := s.dev) hk ho hc (offline.map (fun h => h.val))
    have hdigest := sealDigest_pending (digest := digest) (d := s.dev) hk ho hc (offline.map (fun h => h.val))
    have hfield : sliceOf (sealBytes kerf counts outs digest) 88 64 = digest := sliceOf_sealBytes hd
    rw [exec_sealRec, sealArrives_eq htakes]
    refine ⟨fun hhere hagree => ⟨_, rfl, ?_⟩, fun hhere hdiffer => ?_, fun hmissing => ?_⟩
    · obtain ⟨hlast, hphase, hrole, hpend, hout, hoff, hack⟩ := judgeSeal_committed ((hdigest.trans hagree).trans hfield.symm)
      rw [sealKerf_sealBytes hk] at hlast hout hack
      rw [sealedOuts_pending ho] at hout
      rw [if_pos (hready.2 hhere)]
      exact ⟨hlast, hphase, hrole.trans (role_of_takes htakes), hpend, hout, fun h hh => hoff h (List.mem_map_of_mem hh), hack⟩
    · rw [if_pos (hready.2 hhere), judgeSeal_breaks (by rw [hdigest, hfield]; exact hdiffer), sealKerf_sealBytes hk]
      rfl
    · rw [if_neg (fun h => hmissing (hready.1 h))]
      exact ⟨_, rfl, sealKerf_sealBytes hk, fun k hk16 => sealCount_sealBytes hc hk16, sealOuts_sealBytes ho, hfield⟩
  · rw [exec_kerfRec, kerfArrives_other h]
  · rw [exec_kerfRec, kerfArrives_running hrole hphase]
  · rw [exec_kerfRec, kerfArrives_forming hrole hphase]
    refine ⟨_, rfl, rfl, rfl, fun r hr => ?_, rfl⟩
    show r ∈ s.dev.mirror.log.filter (staysInLog kerf) ↔ _
    simp [List.mem_filter, hr, staysInLog, or_assoc]
  · rw [exec_keysRec, keysArrive_other h]
  · rw [exec_keysRec, keysArrive_standby hrole]
    exact ⟨_, rfl, tabGet_tabSet_same .., tabGet_tabSet_same .., benchOnly_updBench .., rfl⟩

end Sys2Proof.Proofs
end

section
namespace Sys2Proof.Proofs

open Sys2Proof.Machine

/-! ### hsmpctl (R477) -/

theorem csrAccess_hsmpctl (x : Hart) (w : Bool) : csrAccess x 0x6C2 w = if x.mode = .m ∨ x.mode = .hs then 2 else 0 := by
  cases hm : x.mode <;> simp [csrAccess, csrLevel, hm]

theorem hsmpctlWrite_refused {h : Nat} {insn v : Nat} {d : Dev} (hacc : csrAccess (hartOf d h) 0x6C2 (csrWrites insn) ≠ 2) :
    hsmpctlWrite h insn v d = trapIllegal h insn (drawn d) := by
  have hzero : csrAccess (hartOf d h) 0x6C2 (csrWrites insn) = 0 := by
    rw [csrAccess_hsmpctl] at hacc ⊢
    exact if_neg fun hm => hacc (if_pos hm)
  exact csrWrite_illegal (d := drawn d) hzero

theorem hsmpctlPut_eq (v r : Nat) (x : Hart) :
    hsmpctlPut v r x = { x with
      hsJitter := getBits v 40 4, hsPeriod := max 256 (getBits v 16 24), hsIrq := getBit v 3, hsWrap := getBit v 2, hsEn := getBit v 0,
      hsStop := if getBit v 0 then 0 else x.hsStop,
      hsCount := if getBit v 0 && !x.hsEn then max 256 (getBits v 16 24) + r % 2 ^ getBits v 40 4 else x.hsCount } := by
  unfold hsmpctlPut reloadCount
  dsimp only
  split <;> rfl

theorem hsmpctlPut_starts {v : Nat} (r : Nat) {x : Hart} (hen : getBit v 0 = true) (hoff : x.hsEn = false) :
    (hsmpctlPut v r x).hsPeriod ≤ (hsmpctlPut v r x).hsCount ∧
      (hsmpctlPut v r x).hsCount < (hsmpctlPut v r x).hsPeriod + 2 ^ (hsmpctlPut v r x).hsJitter := by
  have hrand : r % 2 ^ getBits v 40 4 < 2 ^ getBits v 40 4 := Nat.mod_lt _ (Nat.two_pow_pos _)
  rw [hsmpctlPut_eq]
  simp only [hen, hoff, Bool.not_false, Bool.and_self, if_true]
  omega

theorem hsmpctlPut_goes_on {v : Nat} (r : Nat) {x : Hart} (h : ¬(getBit v 0 = true ∧ x.hsEn = false)) : (hsmpctlPut v r x).hsCount = x.hsCount := by
  rw [hsmpctlPut_eq]
  exact if_neg (by simpa using h)

/-! ### The countdown (R475) -/

theorem hartMoves_countHart {d e : Dev} {h : Nat} {x : Hart} (hm : HartMoves d e h x) (c : Nat) : HartMoves d (countHart h c e) h x := by
  obtain ⟨⟨hx, hcsr, hirq⟩, ho, hf⟩ := hm
  obtain ⟨⟨hx', hcsr', hirq'⟩, ho', hf'⟩ := hartMoves_of_counts (countHartN_countsOnly h c 1 e)
  refine ⟨⟨?_, fun n hn => (hcsr' n hn).trans (hcsr n hn), fun i hi => (hirq' i hi).trans (hirq i hi)⟩, fun k hk => (ho' k hk).trans (ho k hk), ?_⟩
  · exact (congrArg (fun y : Hart => { y with csr := x.csr, irqPending := x.irqPending }) hx').trans hx
  · rw [← hf'] at hf
    exact hf

theorem hartMoves_refl (d : Dev) (h : Nat) : HartMoves d d h (hartOf d h) := (HartCounts.refl d h).moves

section countdown
variable {h : Nat} {d : Dev}

theorem sampleCountdown_idle (hidle : ¬((hartOf d h).hsEn = true ∧ sampledNow d (hartOf d h) = true)) : sampleCountdown h d = d :=
  if_neg (by simpa using hidle)

theorem sampleCountdown_tags (hen : (hartOf d h).hsEn = true) (hnow : sampledNow d (hartOf d h) = true) (htag : (hartOf d h).hsTagged = false) :
    sampleCountdown h d = updHart (updHart (drawn d) h (fun x => { x with hsTagged := true })) h (fun x => { x with hsCount := reloadCount x (freeVal d) }) := by
  unfold sampleCountdown
  simp only [hen, hnow, htag, Bool.and_self, if_true, Bool.false_eq_true, if_false]
  rfl

theorem sampleCountdown_drops (hen : (hartOf d h).hsEn = true) (hnow : sampledNow d (hartOf d h) = true) (htag : (hartOf d h).hsTagged = true) :
    sampleCountdown h d = updHart (drawn (countHart h 0x25 d)) h (fun x => { x with hsCount := reloadCount x (freeVal (countHart h 0x25 d)) }) := by
  unfold sampleCountdown
  simp only [hen, hnow, htag, Bool.and_self, if_true]

theorem reloadCount_bounds (x : Hart) (r : Nat) : x.hsPeriod ≤ reloadCount x r ∧ reloadCount x r < x.hsPeriod + 2 ^ x.hsJitter :=
  ⟨Nat.le_add_right .., Nat.add_lt_add_left (Nat.mod_lt _ (Nat.two_pow_pos _)) _⟩

theorem hartMoves_drawn {d e : Dev} {x : Hart} (hm : HartMoves d e h x) : HartMoves (drawn d) (drawn e) h x := by
  obtain ⟨hx, ho, hf⟩ := hm
  exact ⟨hx, ho, (congrArg (fun f : Dev => { f with freeCtr := f.freeCtr + 1 }) hf :)⟩

theorem freeVal_countHart (c : Nat) (d : Dev) : freeVal (countHart h c d) = freeVal d := by
  obtain ⟨-, -, hf⟩ := countHartN_countsOnly h c 1 d
  exact (congrArg freeVal hf :)

theorem sampleCountdown_outcome (hen : (hartOf d h).hsEn = true) (hnow : sampledNow d (hartOf d h) = true) :
    let x := hartOf d h
    let n := reloadCount x (freeVal d)
    (x.hsTagged = false → HartOnly (drawn d) (sampleCountdown h d) h { x with hsTagged := true, hsCount := n }) ∧
      (x.hsTagged = true → HartMoves (drawn d) (sampleCountdown h d) h { x with hsCount := n } ∧
        (sampleCountdown h d).obs = (countHart h 0x25 d).obs) := by
  intro x n
  refine ⟨fun htag => ?_, fun htag => ?_⟩
  · rw [sampleCountdown_tags hen hnow htag]
    exact hartOnly_updHart_after (hartOnly_updHart (drawn d) h _) _
  · have hcount := hartMoves_drawn (hartMoves_countHart (hartMoves_refl d h) 0x25)
    rw [sampleCountdown_drops hen hnow htag, freeVal_countHart]
    exact ⟨hartMoves_updHart (g := fun x => { x with hsCount := reloadCount x (freeVal d) }) hcount fun _ _ => rfl, rfl⟩

end countdown

/-! ### The record of a tagged micro-operation (R478, R479) -/

/-- Pending interrupts with interrupt 25, where IRQ asks for it. -/
def irqSent (irq : Bool) (l : List Nat) : List Nat := if irq then nubNat (l ++ [25]) else l

theorem mem_irqSent {irq : Bool} {l l' : List Nat} {i : Nat} (h : i ∈ l ↔ i ∈ l') : i ∈ irqSent irq l ↔ i ∈ irqSent irq l' := by
  unfold irqSent
  split
  · rw [mem_nubNat, mem_nubNat, List.mem_append, List.mem_append, h]
  · exact h

/-- The hart's interrupt 25 is sent, where IRQ asks for it. -/
def sampleNoted (x : Hart) : Hart := { x with irqPending := irqSent x.hsIrq x.irqPending }

theorem sampleIrq_eq (h : Nat) (d : Dev) : sampleIrq h d = updHart d h sampleNoted := by
  unfold sampleIrq
  congr 1
  funext x
  unfold sampleNoted irqSent
  split <;> rfl

/-- Counting does not disturb the interrupt. -/
theorem counted_sampleNoted {x y : Hart} (hc : Counted x y) : Counted (sampleNoted x) (sampleNoted y) := by
  obtain ⟨hx, hcsr, hirq⟩ := hc
  have hsame : y.hsIrq = x.hsIrq := (congrArg Hart.hsIrq hx :)
  refine ⟨(congrArg (fun z : Hart => { z with irqPending := irqSent x.hsIrq x.irqPending }) hx :), hcsr, fun i hi => ?_⟩
  show i ∈ irqSent y.hsIrq y.irqPending ↔ _
  rw [hsame]
  exact mem_irqSent (hirq i hi)

section moves
variable {d e : Dev} {h : Nat} {x : Hart} (hm : HartMoves d e h x)
include hm

/-- What counting leaves of a hart reads as before. -/
theorem hartMoves_reads {α : Type} {f : Hart → α} (hf : ∀ y c q, f { y with csr := c, irqPending := q } = f y) : f (hartOf e h) = f x := by
  obtain ⟨⟨hx, -⟩, -⟩ := hm
  exact (hf _ x.csr x.irqPending).symm.trans (congrArg f hx)

/-- An update that counting does not disturb. -/
theorem hartMoves_updHart_counted {g : Hart → Hart} (hg : ∀ y, Counted x y → Counted (g x) (g y)) : HartMoves d (updHart e h g) h (g x) := by
  obtain ⟨hx, ho, hf⟩ := hm
  refine ⟨?_, fun k hk => (hartOf_updHart_other e g hk).trans (ho k hk), hf⟩
  rw [hartOf_updHart_same]
  exact hg _ hx

theorem hartMoves_sampleIrq : HartMoves d (sampleIrq h e) h (sampleNoted x) := by
  rw [sampleIrq_eq]
  exact hartMoves_updHart_counted hm fun y hy => counted_sampleNoted hy

theorem hartMoves_countPkg (slot : Nat) : HartMoves d (countPkg slot e) h x := by
  obtain ⟨t, ht⟩ := count_eq 0x9014 0 slot 1 e
  rw [countPkg, ht]
  exact hm

/-- Sampling stops (R479). -/
theorem hartMoves_sampleStop (code : Nat) : HartMoves d (sampleStop h code e) h { sampleNoted x with hsEn := false, hsStop := code } := by
  refine hartMoves_countPkg (hartMoves_updHart_counted (g := fun x => { sampleNoted x with hsEn := false, hsStop := code }) hm fun y hy => ?_) pkgSampleStops
  obtain ⟨hx, hcsr, hirq⟩ := counted_sampleNoted hy
  exact ⟨congrArg (fun z : Hart => { z with hsEn := false, hsStop := code }) hx, hcsr, hirq⟩

theorem hartMoves_sampleWrap : HartMoves d (sampleIrq h (updHart e h (fun x => { x with hsPos := 0 }))) h { sampleNoted x with hsPos := 0 } :=
  hartMoves_sampleIrq (hartMoves_updHart (g := fun x => { x with hsPos := 0 }) hm fun _ _ => rfl)

theorem hartMoves_nextSlot : HartMoves d (updHart e h (fun x => { x with hsPos := x.hsPos + 1 })) h { x with hsPos := x.hsPos + 1 } :=
  hartMoves_updHart (g := fun x => { x with hsPos := x.hsPos + 1 }) hm fun _ _ => rfl

/-- INDEX advances to a slot within the buffer; the record at its half is announced. -/
theorem sampleAdvance_within (hpos : x.hsPos + 1 < sampleSlots x) :
    HartMoves d (sampleAdvance h e) h { x with
      hsPos := x.hsPos + 1, irqPending := if x.hsPos + 1 = sampleSlots x / 2 then irqSent x.hsIrq x.irqPending else x.irqPending } := by
  have hnext := hartMoves_nextSlot hm
  have hread : (hartOf (updHart e h (fun x => { x with hsPos := x.hsPos + 1 })) h).hsPos = x.hsPos + 1 := hartMoves_reads hnext (f := Hart.hsPos) fun _ _ _ => rfl
  have hslots : sampleSlots (hartOf (updHart e h (fun x => { x with hsPos := x.hsPos + 1 })) h) = sampleSlots x := hartMoves_reads hnext (f := sampleSlots) fun _ _ _ => rfl
  unfold sampleAdvance
  dsimp only
  rw [hread, hslots, if_neg (Nat.not_le.2 hpos)]
  split
  · exact hartMoves_sampleIrq hnext
  · exact hnext

/-- INDEX at the capacity wraps, or sampling stops there. -/
theorem sampleAdvance_full (hpos : x.hsPos + 1 = sampleSlots x) :
    (x.hsWrap = true → HartMoves d (sampleAdvance h e) h { sampleNoted x with hsPos := 0 }) ∧
      (x.hsWrap = false → HartMoves d (sampleAdvance h e) h { sampleNoted x with hsPos := x.hsPos + 1, hsEn := false, hsStop := 1 }) := by
  have hnext := hartMoves_nextSlot hm
  have hread : (hartOf (updHart e h (fun x => { x with hsPos := x.hsPos + 1 })) h).hsPos = x.hsPos + 1 := hartMoves_reads hnext (f := Hart.hsPos) fun _ _ _ => rfl
  have hslots : sampleSlots (hartOf (updHart e h (fun x => { x with hsPos := x.hsPos + 1 })) h) = sampleSlots x := hartMoves_reads hnext (f := sampleSlots) fun _ _ _ => rfl
  have hwrap : (hartOf (updHart e h (fun x => { x with hsPos := x.hsPos + 1 })) h).hsWrap = x.hsWrap := hartMoves_reads hnext (f := Hart.hsWrap) fun _ _ _ => rfl
  unfold sampleAdvance
  dsimp only
  rw [hread, hslots, if_pos hpos.ge, hwrap]
  refine ⟨fun hw => ?_, fun hw => ?_⟩
  · rw [if_pos hw]
    have hwrapped := hartMoves_sampleWrap hnext
    exact hwrapped
  · rw [if_neg (by rw [hw]; exact Bool.false_ne_true)]
    exact hartMoves_sampleStop hnext 1

end moves

section record
variable {h : Nat} {o : SampleObs} {d : Dev}

/-- The package where the tagged micro-operation has left. -/
def untagged (h : Nat) (d : Dev) : Dev := updHart d h (fun x => { x with hsTagged := false })

theorem hartOf_untagged (h : Nat) (d : Dev) : hartOf (untagged h d) h = { hartOf d h with hsTagged := false } := hartOf_updHart_same ..
theorem hsIrq_untagged (h : Nat) (d : Dev) : (hartOf (untagged h d) h).hsIrq = (hartOf d h).hsIrq := (congrArg Hart.hsIrq (hartOf_untagged h d) :)
theorem isMain_untagged (a : Nat) : isMain (untagged h d) a = isMain d a := rfl
theorem potEntry_untagged (a : Nat) : potEntry (untagged h d) a = potEntry d a := by
  unfold potEntry
  rfl

theorem sampleBytes_untagged : sampleBytes (untagged h d) h o = sampleBytes d h o := by
  unfold sampleBytes
  rw [hartOf_untagged]
  rfl

theorem sampleRecord_untagged (htag : (hartOf d h).hsTagged = false) : sampleRecord h o d = d := if_neg (by rw [htag]; exact Bool.false_ne_true)

/-- What becomes of a tagged micro-operation's record. -/
theorem sampleRecord_eq (htag : (hartOf d h).hsTagged = true) :
    sampleRecord h o d =
      let x := hartOf d h
      let a := x.hsBase + 64 * x.hsPos
      if !x.hsEn then untagged h d
      else if sampleSlots x ≤ x.hsPos then
        (if x.hsWrap then sampleIrq h (updHart (untagged h d) h (fun x => { x with hsPos := 0 })) else sampleStop h 1 (untagged h d))
      else if !isMain d a then sampleStop h 3 (untagged h d)
      else if !getBit (potRights (potEntry d a) (sampleIdent d x)) 1 then sampleStop h 2 (potRecord a (untagged h d))
      else sampleAdvance h (countHart h 0x24 (cohWriteLine (a / 64) (bytesLine (sampleBytes d h o)) (untagged h d))) := by
  dsimp only
  rw [← sampleBytes_untagged, ← isMain_untagged (h := h) (d := d), ← potEntry_untagged (h := h) (d := d)]
  exact if_pos htag

theorem hartOf_potRecord (a : Nat) (d : Dev) (k : Nat) : hartOf (potRecord a d) k = hartOf d k := by
  unfold potRecord
  split
  · exact hartOf_mcWrite ..
  · rfl

/-- What a record's write leaves of the hart's sampling buffer. -/
theorem buffer_kept (line : Nat) (data : Line) :
    let y := hartOf (cohWriteLine line data (untagged h d)) h
    y.hsPos = (hartOf d h).hsPos ∧ sampleSlots y = sampleSlots (hartOf d h) ∧ y.hsWrap = (hartOf d h).hsWrap ∧ y.hsIrq = (hartOf d h).hsIrq := by
  intro y
  have hshell : shell y = shell (hartOf d h) := by
    unfold y
    rw [shell_of_steady (steady_cohWriteLine line data (untagged h d)), hartOf_untagged]
    rfl
  simp only [shell, Prod.mk.injEq] at hshell
  obtain ⟨-, hpos, hsize, hwrap, hirq⟩ := hshell
  exact ⟨hpos, congrArg (fun n => 64 * 2 ^ n) hsize, hwrap, hirq⟩

end record

/-- INDEX after a record has been written, where the write has left the hart's buffer. -/
theorem sampleAdvance_written {h : Nat} {w : Dev} {x : Hart} (hpos : (hartOf w h).hsPos = x.hsPos) (hslots : sampleSlots (hartOf w h) = sampleSlots x)
    (hwrap : (hartOf w h).hsWrap = x.hsWrap) (hirq : (hartOf w h).hsIrq = x.hsIrq) :
    let y := hartOf w h
    let e := sampleAdvance h (countHart h 0x24 w)
    (x.hsPos + 1 < sampleSlots x → HartMoves w e h { y with
      hsPos := x.hsPos + 1, irqPending := if x.hsPos + 1 = sampleSlots x / 2 then irqSent x.hsIrq y.irqPending else y.irqPending }) ∧
    (x.hsPos + 1 = sampleSlots x →
      (x.hsWrap = true → HartMoves w e h { y with hsPos := 0, irqPending := irqSent x.hsIrq y.irqPending }) ∧
      (x.hsWrap = false → HartMoves w e h { y with
        hsPos := x.hsPos + 1, hsEn := false, hsStop := 1, irqPending := irqSent x.hsIrq y.irqPending })) := by
  rw [← hpos, ← hslots, ← hwrap, ← hirq]
  have hcount := hartMoves_countHart (hartMoves_refl w h) 0x24
  exact ⟨sampleAdvance_within hcount, sampleAdvance_full hcount⟩

/-! ### Outcomes -/

section outcomes
variable {h : HartN} {o : SampleObs} {s : State} (hruns : hartRuns s.dev h = true) (htag : (hartOf s.dev h).hsTagged = true)
include hruns htag

theorem exec_sampleRecord_off (hen : (hartOf s.dev h).hsEn = false) : exec (.sampleRecord h o) s = .next { s with dev := untagged h s.dev } := by
  rw [exec_onHart rfl hruns, sampleRecord_eq htag]
  simp only [hen, Bool.not_false, if_true]

theorem exec_sampleRecord_full (hen : (hartOf s.dev h).hsEn = true) (hfull : sampleSlots (hartOf s.dev h) ≤ (hartOf s.dev h).hsPos) :
    ((hartOf s.dev h).hsWrap = true →
      exec (.sampleRecord h o) s = .next { s with dev := sampleIrq h (updHart (untagged h s.dev) h (fun x => { x with hsPos := 0 })) }) ∧
    ((hartOf s.dev h).hsWrap = false → exec (.sampleRecord h o) s = .next { s with dev := sampleStop h 1 (untagged h s.dev) }) := by
  rw [exec_onHart rfl hruns, sampleRecord_eq htag]
  simp only [hen, Bool.not_true, Bool.false_eq_true, if_false, if_pos hfull]
  refine ⟨fun hwrap => ?_, fun hwrap => ?_⟩
  · rw [hwrap, if_pos rfl]
  · rw [hwrap, if_neg Bool.false_ne_true]

section slot
variable {a : Nat} (ha : (hartOf s.dev h).hsBase + 64 * (hartOf s.dev h).hsPos = a) (hen : (hartOf s.dev h).hsEn = true)
  (hroom : (hartOf s.dev h).hsPos < sampleSlots (hartOf s.dev h))
include ha hen hroom

theorem exec_sampleRecord_slot :
    exec (.sampleRecord h o) s = .next { s with dev := (
      if !isMain s.dev a then sampleStop h 3 (untagged h s.dev)
      else if !getBit (potRights (potEntry s.dev a) (sampleIdent s.dev (hartOf s.dev h))) 1 then sampleStop h 2 (potRecord a (untagged h s.dev))
      else sampleAdvance h (countHart h 0x24 (cohWriteLine (a / 64) (bytesLine (sampleBytes s.dev h o)) (untagged h s.dev)))) } := by
  subst ha
  rw [exec_onHart rfl hruns, sampleRecord_eq htag]
  simp only [hen, Bool.not_true, Bool.false_eq_true, if_false, if_neg (Nat.not_le.2 hroom)]

theorem exec_sampleRecord_outside (hmain : isMain s.dev a = false) :
    exec (.sampleRecord h o) s = .next { s with dev := sampleStop h 3 (untagged h s.dev) } := by
  rw [exec_sampleRecord_slot hruns htag ha hen hroom, if_pos (by rw [hmain]; rfl)]

variable (hmain : isMain s.dev a = true)
include hmain

theorem exec_sampleRecord_denied (hright : getBit (potRights (potEntry s.dev a) (sampleIdent s.dev (hartOf s.dev h))) 1 = false) :
    exec (.sampleRecord h o) s = .next { s with dev := sampleStop h 2 (potRecord a (untagged h s.dev)) } := by
  rw [exec_sampleRecord_slot hruns htag ha hen hroom, if_neg (by rw [hmain]; exact Bool.false_ne_true), if_pos (by rw [hright]; rfl)]

theorem exec_sampleRecord_written (hright : getBit (potRights (potEntry s.dev a) (sampleIdent s.dev (hartOf s.dev h))) 1 = true) :
    exec (.sampleRecord h o) s = .next { s with
      dev := sampleAdvance h (countHart h 0x24 (cohWriteLine (a / 64) (bytesLine (sampleBytes s.dev h o)) (untagged h s.dev))) } := by
  rw [exec_sampleRecord_slot hruns htag ha hen hroom, if_neg (by rw [hmain]; exact Bool.false_ne_true),
    if_neg (by rw [hright]; exact Bool.false_ne_true)]

end slot

end outcomes

section irq
variable {h : Nat} {w : Dev} {irq : Bool} (hirq : (hartOf w h).hsIrq = irq)
include hirq

/-- Sampling stops; interrupt 25 follows where IRQ stood. -/
theorem sampleStop_outcome (code : Nat) : HartMoves w (sampleStop h code w) h { hartOf w h with
    hsEn := false, hsStop := code, irqPending := irqSent irq (hartOf w h).irqPending } := by
  rw [← hirq]
  exact hartMoves_sampleStop (hartMoves_refl w h) code

theorem sampleWrap_outcome : HartMoves w (sampleIrq h (updHart w h (fun x => { x with hsPos := 0 }))) h { hartOf w h with
    hsPos := 0, irqPending := irqSent irq (hartOf w h).irqPending } := by
  rw [← hirq]
  exact hartMoves_sampleWrap (hartMoves_refl w h)

end irq

theorem hsIrq_potRecord_untagged (a h : Nat) (d : Dev) : (hartOf (potRecord a (untagged h d)) h).hsIrq = (hartOf d h).hsIrq := by
  rw [hartOf_potRecord, hsIrq_untagged]

/-- INDEX after a record has been written to its slot of the hart's buffer. -/
theorem sampleAdvance_recorded {h : Nat} {d : Dev} (line : Nat) (data : Line) :
    let x := hartOf d h
    let w := cohWriteLine line data (untagged h d)
    let y := hartOf w h
    let e := sampleAdvance h (countHart h 0x24 w)
    (x.hsPos + 1 < sampleSlots x → HartMoves w e h { y with
      hsPos := x.hsPos + 1, irqPending := if x.hsPos + 1 = sampleSlots x / 2 then irqSent x.hsIrq y.irqPending else y.irqPending }) ∧
    (x.hsPos + 1 = sampleSlots x →
      (x.hsWrap = true → HartMoves w e h { y with hsPos := 0, irqPending := irqSent x.hsIrq y.irqPending }) ∧
      (x.hsWrap = false → HartMoves w e h { y with
        hsPos := x.hsPos + 1, hsEn := false, hsStop := 1, irqPending := irqSent x.hsIrq y.irqPending })) := by
  obtain ⟨hpos, hslots, hwrap, hirq⟩ := buffer_kept (h := h) (d := d) line data
  exact sampleAdvance_written hpos hslots hwrap hirq

theorem exec_onHart_stopped {h : HartN} {i : Instr} {s : State} {f : Dev → Dev} (hexec : exec i s = onDev (onHart h f) s)
    (hstop : hartRuns s.dev h = false) : exec i s = .next s := by
  rw [hexec, onDev, onHart, if_neg (by rw [hstop]; exact Bool.false_ne_true)]

/-- Settles O59. The countdown and a record are one hart's own steps; a record's write of its slot leaves the hart's buffer, so INDEX advances from where it stood. -/
theorem samplingAndWindows : Obligations.SamplingAndWindows := by
  refine ⟨fun h insn v o s hstop => ⟨exec_onHart_stopped rfl hstop, exec_onHart_stopped rfl hstop, exec_onHart_stopped rfl hstop⟩,
    fun h insn v s hready => ⟨fun hacc => ?_, fun hacc => ⟨_, exec_onHart rfl hready.1, ?_⟩⟩, fun v r x => ?_,
    fun h s hruns => ⟨fun hidle => ?_, fun hen hnow => ?_⟩, fun h o s hruns => ⟨fun htag => ?_, fun htag => ⟨fun hen => ?_, fun hen hfull => ?_, fun hen hroom => ?_⟩⟩,
    fun s => rfl, fun port s => ⟨fun target hphase => ?_, fun hphase => ⟨?_, fun t => ?_⟩⟩⟩
  · rw [exec_onHart (f := hsmpctlWrite h insn.toNat v.toNat) rfl hready.1, hsmpctlWrite_refused hacc]
  · exact csrWrite_steps (d := drawn s.dev) hacc (by omega) hready.2 (waiting_of_hartRuns hready.1) fun _ _ => flow_hsmpctlPut ..
  · refine ⟨?_, ?_, ?_, ?_, ?_, ?_, hsmpctlPut_starts r, hsmpctlPut_goes_on r, ?_⟩ <;> rw [hsmpctlPut_eq]
  · rw [exec_onHart (f := sampleCountdown h) rfl hruns, sampleCountdown_idle hidle]
  · exact ⟨_, _, exec_onHart rfl hruns, (reloadCount_bounds _ _).1, (reloadCount_bounds _ _).2, sampleCountdown_outcome hen hnow⟩
  · rw [exec_onHart (f := sampleRecord h o) rfl hruns, sampleRecord_untagged htag]
  · exact ⟨_, exec_sampleRecord_off hruns htag hen, hartOnly_updHart ..⟩
  · obtain ⟨hwrapped, hstopped⟩ := exec_sampleRecord_full (o := o) hruns htag hen hfull
    exact ⟨fun hwrap => ⟨_, hwrapped hwrap, sampleWrap_outcome (hsIrq_untagged ..)⟩, fun hwrap => ⟨_, hstopped hwrap, sampleStop_outcome (hsIrq_untagged ..) 1⟩⟩
  · refine ⟨fun hmain => ⟨_, exec_sampleRecord_outside hruns htag rfl hen hroom hmain, sampleStop_outcome (hsIrq_untagged ..) 3⟩,
      fun hmain hright => ⟨_, exec_sampleRecord_denied hruns htag rfl hen hroom hmain hright, sampleStop_outcome (hsIrq_potRecord_untagged ..) 2⟩,
      fun hmain hright => ?_⟩
    have hexec := exec_sampleRecord_written (o := o) hruns htag rfl hen hroom hmain hright
    obtain ⟨hwithin, hfull⟩ := sampleAdvance_recorded (h := h) (d := s.dev) (((hartOf s.dev h).hsBase + 64 * (hartOf s.dev h).hsPos) / 64)
      (bytesLine (sampleBytes s.dev h o))
    exact ⟨fun hnext => ⟨_, hexec, hwithin hnext⟩, fun hnext => ⟨fun hw => ⟨_, hexec, (hfull hnext).1 hw⟩, fun hw => ⟨_, hexec, (hfull hnext).2 hw⟩⟩⟩
  · show onDev (pcieWake port target) s = _
    rw [onDev, pcieWake, if_neg hphase]
  · show onDev (pcieWake port none) s = _
    rw [onDev, pcieWake, if_pos hphase]
  · show onDev (pcieWake port (some t)) s = _
    rw [onDev, pcieWake, if_pos hphase]

end Sys2Proof.Proofs
end

section
namespace Sys2Proof.Proofs

open Sys2Proof.Machine

/-! ### One link, and what is sent -/

/-- From `d` to `e` only link `n` differs, and it is `l` now; and `os` have left the package. -/
structure LinkSends (d e : Dev) (n : Nat) (l : Link) (os : List Out) : Prop where
  only : LinkOnly { d with out := e.out } e n l
  out : e.out = d.out ++ os

section sends
variable {d e : Dev} {n : Nat} {l : Link} {os : List Out}

theorem linkSends_refl (d : Dev) (n : Nat) : LinkSends d d n (linkOf d n) [] := ⟨⟨rfl, fun _ _ => rfl, rfl⟩, (List.append_nil _).symm⟩

theorem linkSends_updLink (h : LinkSends d e n l os) (f : Link → Link) : LinkSends d (updLink e n f) n (f l) os := by
  obtain ⟨⟨rfl, hother, hframe⟩, hout⟩ := h
  exact ⟨⟨linkOf_updLink_same .., fun k hk => (linkOf_updLink_other e f hk).trans (hother k hk), hframe⟩, hout⟩

theorem linkSends_emit (h : LinkSends d e n l os) (o : Out) : LinkSends d (emit o e) n l (os ++ [o]) := by
  obtain ⟨⟨hl, hother, hframe⟩, hout⟩ := h
  refine ⟨⟨hl, hother, (congrArg (fun x : Dev => { x with out := e.out ++ [o] }) hframe :)⟩, ?_⟩
  show e.out ++ [o] = _
  rw [hout, List.append_assoc]

theorem linkSends_sendFrame (h : LinkSends d e n l os) :
    LinkSends d (sendFrame n e) n l (os ++ [.training n (sheetDigest l.hubUp) (sheetDigest l.hubDown)]) := by
  have hl : linkOf e n = l := h.only.1
  unfold sendFrame
  rw [hl]
  exact linkSends_emit h _

theorem frame_of_sends (h : LinkSends d e n l os) : { e with links := d.links, out := d.out } = d := by
  obtain ⟨-, -, hframe⟩ := h.only
  exact (congrArg (fun x : Dev => { x with out := d.out }) hframe :)

end sends

/-! ### The start of a link (R147, R148) -/

section start
variable {n : Nat} {o : LinkObs} {d : Dev}

/-- The sheet the hub starts from: the one it keeps, or the die's fused one. -/
def hubSheet (kept fused : Nat) : Nat := if kept = 0 then fused else kept

/-- The link as it trains, with the sheets built. -/
def startedLink (d : Dev) (n : Nat) (o : LinkObs) (u v : Nat × Nat) (l : Link) : Link :=
  { l with state := .training, hubUp := u.1, upBad := u.2, hubDown := v.1, downBad := v.2,
           dieUp := ((buildSheet (fusedSheets d n).upSheet l.upBad o.up).map (fun r => r.1)).getD (fusedSheets d n).upSheet,
           dieDown := ((buildSheet (fusedSheets d n).downSheet l.downBad o.down).map (fun r => r.1)).getD (fusedSheets d n).downSheet,
           reason := if sheetWidth u.1 < 3 ∨ sheetWidth v.1 < 3 then 0x0801 else 0, agreeUp := 0, agreeDown := 0, idMismatch := false,
           upAdopted := false, downAdopted := false }

theorem startTraining_eq (n : Nat) (o : LinkObs) (d : Dev) : startTraining n o d =
    if !o.pll then updLink d n (fun l => { l with state := .untrained, reason := 0x0802 })
    else match buildSheet (hubSheet (linkOf d n).hubUp (fusedSheets d n).upSheet) (linkOf d n).upBad o.up,
        buildSheet (hubSheet (linkOf d n).hubDown (fusedSheets d n).downSheet) (linkOf d n).downBad o.down with
      | some u, some v => updLink d n (startedLink d n o u v)
      | _, _ => updLink d n (fun l => { l with state := .untrained, reason := 0x0802 }) := rfl

theorem startTraining_untrained
    (h : o.pll = false ∨ buildSheet (hubSheet (linkOf d n).hubUp (fusedSheets d n).upSheet) (linkOf d n).upBad o.up = none ∨
      buildSheet (hubSheet (linkOf d n).hubDown (fusedSheets d n).downSheet) (linkOf d n).downBad o.down = none) :
    startTraining n o d = updLink d n (fun l => { l with state := .untrained, reason := 0x0802 }) := by
  rw [startTraining_eq]
  split
  · rfl
  · next hpll =>
    rcases h with h | h | h
    · rw [h] at hpll
      exact absurd rfl hpll
    · rw [h]
    · rw [h]
      split
      · next hv => cases hv
      · rfl

theorem startTraining_trains {u v : Nat × Nat} (hpll : o.pll = true)
    (hu : buildSheet (hubSheet (linkOf d n).hubUp (fusedSheets d n).upSheet) (linkOf d n).upBad o.up = some u)
    (hv : buildSheet (hubSheet (linkOf d n).hubDown (fusedSheets d n).downSheet) (linkOf d n).downBad o.down = some v) :
    startTraining n o d = updLink d n (startedLink d n o u v) := by
  rw [startTraining_eq, hpll, hu, hv]
  rfl

theorem exec_linkTraining (n : DieN) (o : LinkObs) (s : State) (h : (linkOf s.dev n).state = .training) :
    exec (.linkTraining n o) s = .next { s with dev := sendFrame n (startTraining n o s.dev) } := by
  show onDev (linkTraining n o) s = _
  rw [onDev, linkTraining, if_pos h]

end start

/-! ### A frame from the die (R149, R150) -/

section frames
variable {n ud dd : Nat} {ok : Bool} {d : Dev}

/-- Flit lock, where three frames in a row have agreed on both bundles. -/
def lockIfAgreed (n : Nat) (d : Dev) : Dev :=
  if ((linkOf d n).state == .training || (linkOf d n).state == .recovery) && decide (3 ≤ (linkOf d n).agreeUp) && decide (3 ≤ (linkOf d n).agreeDown)
  then lockLink n d else d

/-- The frame's up digest judged, then its down digest. -/
def judgedUp (n ud : Nat) (d : Dev) : Dev :=
  if ud = sheetDigest (linkOf d n).hubUp then updLink d n (fun l => { l with agreeUp := l.agreeUp + 1 }) else disagree n true d

theorem trainingFrame_ignored (h : ok = false ∨ (linkOf d n).idMismatch = true ∨ ((linkOf d n).state ≠ .training ∧ (linkOf d n).state ≠ .recovery)) :
    trainingFrame n ud dd ok d = d := by
  refine if_pos ?_
  rcases h with rfl | h | ⟨h, h'⟩
  · rfl
  · simp [h]
  · simp [h, h']

variable (hok : ok = true) (hid : (linkOf d n).idMismatch = false) (hst : (linkOf d n).state = .training ∨ (linkOf d n).state = .recovery)
include hok hid hst

theorem trainingFrame_heard :
    trainingFrame n ud dd ok d = if idWrong d n then updLink d n (fun l => { l with idMismatch := true, reason := 0x0802 })
      else lockIfAgreed n (sendFrame n (
        if dd = sheetDigest (linkOf d n).hubDown then updLink (judgedUp n ud d) n (fun l => { l with agreeDown := l.agreeDown + 1 })
        else disagree n false (judgedUp n ud d))) := by
  refine if_neg ?_
  rcases hst with h | h <;> simp [hok, hid, h]

theorem trainingFrame_wrongIdentity (hwrong : idWrong d n = true) :
    trainingFrame n ud dd ok d = updLink d n (fun l => { l with idMismatch := true, reason := 0x0802 }) := by
  rw [trainingFrame_heard hok hid hst, if_pos hwrong]

theorem trainingFrame_downAgrees (hright : idWrong d n = false) (hdown : dd = sheetDigest (linkOf d n).hubDown) :
    trainingFrame n ud dd ok d = lockIfAgreed n (sendFrame n (updLink (judgedUp n ud d) n (fun l => { l with agreeDown := l.agreeDown + 1 }))) := by
  rw [trainingFrame_heard hok hid hst, if_neg (by rw [hright]; exact Bool.false_ne_true), if_pos hdown]

end frames

theorem lockIfAgreed_few {n : Nat} {d : Dev} (h : (linkOf d n).agreeUp < 3 ∨ (linkOf d n).agreeDown < 3) : lockIfAgreed n d = d := by
  refine if_neg ?_
  rcases h with h | h <;> simp [Nat.not_le.2 h]

theorem lockIfAgreed_other {n : Nat} {d : Dev} (h : (linkOf d n).state ≠ .training) (h' : (linkOf d n).state ≠ .recovery) : lockIfAgreed n d = d :=
  if_neg (by simp [h, h'])

theorem lockIfAgreed_locks {n : Nat} {d : Dev} (hst : (linkOf d n).state = .training ∨ (linkOf d n).state = .recovery) (hu : 3 ≤ (linkOf d n).agreeUp)
    (hd : 3 ≤ (linkOf d n).agreeDown) : lockIfAgreed n d = lockLink n d :=
  if_pos (by rcases hst with h | h <;> simp [h, hu, hd])

theorem judgedUp_agrees {n ud : Nat} {d : Dev} (h : ud = sheetDigest (linkOf d n).hubUp) :
    judgedUp n ud d = updLink d n (fun l => { l with agreeUp := l.agreeUp + 1 }) := if_pos h

theorem judgedUp_differs {n ud : Nat} {d : Dev} (h : ud ≠ sheetDigest (linkOf d n).hubUp) : judgedUp n ud d = disagree n true d := if_neg h

/-- Both bundles agree: the link before it may lock. -/
theorem agreed_sends (d : Dev) (n : Nat) :
    let l := linkOf d n
    LinkSends d (sendFrame n (updLink (updLink d n (fun l => { l with agreeUp := l.agreeUp + 1 })) n (fun l => { l with agreeDown := l.agreeDown + 1 }))) n
      { l with agreeUp := l.agreeUp + 1, agreeDown := l.agreeDown + 1 } [.training n (sheetDigest l.hubUp) (sheetDigest l.hubDown)] :=
  linkSends_sendFrame (linkSends_updLink (linkSends_updLink (linkSends_refl d n) _) _)

/-- The up bundle falls to the next narrower width (R149). -/
theorem disagreeUp_narrows {n sh : Nat} {d : Dev} (h : narrowSheet (linkOf d n).hubUp (linkOf d n).dieUp (linkOf d n).upBad = some sh) :
    LinkSends d (disagree n true d) n { linkOf d n with hubUp := sh, dieUp := sh, upAdopted := true, agreeUp := 0 } [.sheet n true (linkOf d n).hubUp] := by
  rw [disagree_narrows (up := true) h]
  exact linkSends_updLink (linkSends_emit (linkSends_refl d n) _) _

theorem disagreeUp_fences {n : Nat} {d : Dev} (h : narrowSheet (linkOf d n).hubUp (linkOf d n).dieUp (linkOf d n).upBad = none) :
    disagree n true d = fenceDie n 2 (updLink (emit (.sheet n true (linkOf d n).hubUp) d) n (fun l => { l with reason := 0x0803 })) := by
  unfold disagree
  simp only [if_true, h]

/-- The loss of a die in a pair stops the package, with its link fenced (R217). -/
theorem fenceDie_inPair {n cause : Nat} {d : Dev} (hphase : (dieOf d n).phase = .inService) (hpair : inPair d = true) :
    (dieOf (fenceDie n cause d) n).phase = .fenced ∧ (dieOf (fenceDie n cause d) n).cause = cause ∧
      linkOf (fenceDie n cause d) n = { linkOf d n with state := .fenced } := by
  have heq : fenceDie n cause d =
      let e := updLink (updDie d n (fun x =>
        { x with phase := .fenced, cause := cause, retired := true, fences := min 255 (x.fences + 1), poisoned := 0, fenceTime := d.now })) n
          (fun l => { l with state := .fenced })
      lossStop 1 (mcWrite { bank := 0x9200, unitNo := n, severity := 3, source := 9, unit := n, detail0 := dieState e n } e) := by
    unfold fenceDie
    rw [hphase]
    exact if_pos hpair
  rw [heq]
  extract_lets e
  have hrec := obsOut_mcWrite { bank := 0x9200, unitNo := n, severity := 3, source := 9, unit := n, detail0 := dieState e n } e
  generalize mcWrite { bank := 0x9200, unitNo := n, severity := 3, source := 9, unit := n, detail0 := dieState e n } e = r at hrec ⊢
  have hdie : dieOf (lossStop 1 r) n = dieOf e n := (congrArg (fun x => dieOf x n) hrec :)
  have hlink : linkOf (lossStop 1 r) n = linkOf e n := (congrArg (fun x => linkOf x n) hrec :)
  have hfenced : dieOf e n = { dieOf d n with
      phase := .fenced, cause := cause, retired := true, fences := min 255 ((dieOf d n).fences + 1), poisoned := 0, fenceTime := d.now } :=
    (dieOf_updLink ..).trans (dieOf_updDie_same ..)
  have hdown : linkOf e n = { linkOf d n with state := .fenced } := (linkOf_updLink_same ..).trans (congrArg (fun l => { l with state := .fenced }) (linkOf_updDie ..))
  rw [hdie, hlink, hfenced]
  exact ⟨rfl, rfl, hdown⟩

/-! #### Flit lock (R143, R148) -/

/-- A link but for its bundles and its count of replays. -/
def linkShape (l : Link) : Link := { l with up := bundleInit, down := bundleInit, replays := 0 }

theorem linkShape_bundle (up : Bool) (f : Bundle → Bundle) (l : Link) :
    linkShape (if up then { l with up := f l.up } else { l with down := f l.down }) = linkShape l := by
  split <;> rfl

theorem linkShape_updLink {f : Link → Link} (hf : ∀ l, linkShape (f l) = linkShape l) (d : Dev) (n : Nat) :
    linkShape (linkOf (updLink d n f) n) = linkShape (linkOf d n) := (congrArg linkShape (linkOf_updLink_same ..)).trans (hf _)

theorem linkShape_resend (n : Nat) (up : Bool) (seq : Nat) (d : Dev) : linkShape (linkOf (resend n up seq d) n) = linkShape (linkOf d n) := by
  unfold resend
  extract_lets k
  split
  · rfl
  · rw [linkOf_emit]
    exact linkShape_updLink (fun _ => by rfl) d n

theorem linkShape_drainBundle (n : Nat) (up : Bool) (d : Dev) : linkShape (linkOf (drainBundle n up d) n) = linkShape (linkOf d n) := by
  unfold drainBundle
  extract_lets l b r d1
  split
  · rfl
  · show linkShape (linkOf (updBundle n up (fun _ => r.1) d) n) = _
    exact linkShape_updLink (linkShape_bundle up (fun _ => r.1)) d n

theorem linkShape_resumeBundle (n : Nat) (up : Bool) (d : Dev) : linkShape (linkOf (resumeBundle n up d) n) = linkShape (linkOf d n) := by
  unfold resumeBundle
  extract_lets d1
  refine (linkShape_drainBundle n up d1).trans ?_
  unfold d1
  split
  · exact linkShape_resend ..
  · rfl

/-- A bundle that has nothing to send sends nothing. -/
theorem flight_resumeBundle {n : Nat} {up : Bool} {d : Dev} (h : bundleOf (linkOf d n) up = bundleInit) : (resumeBundle n up d).flight = d.flight := by
  unfold resumeBundle
  rw [h]
  show (drainBundle n up d).flight = d.flight
  unfold drainBundle
  dsimp only
  split
  · rfl
  · rw [h]
    exact List.append_nil _

/-- The package at flit lock, before its bundles resume. -/
def unresumed (n : Nat) (d : Dev) : Dev :=
  let fresh := (linkOf d n).state != .recovery
  updDie (updLink d n (fun l =>
    { l with state := .up, upWidth := sheetWidth l.hubUp, downWidth := sheetWidth l.hubDown, agreeUp := 0, agreeDown := 0,
             up := if fresh then bundleInit else { l.up with replaySeq := none, failedReplays := 0, discarding := false },
             down := if fresh then bundleInit else { l.down with replaySeq := none, failedReplays := 0, discarding := false } }))
    n (fun x => { x with linkUpSinceReadmit := x.phase == .readmitting })

theorem lockLink_eq (n : Nat) (d : Dev) : lockLink n d = resumeBundle n false (resumeBundle n true (unresumed n d)) := rfl

theorem linkShape_unresumed (n : Nat) (d : Dev) : linkShape (linkOf (unresumed n d) n) =
    linkShape { linkOf d n with state := .up, upWidth := sheetWidth (linkOf d n).hubUp, downWidth := sheetWidth (linkOf d n).hubDown, agreeUp := 0, agreeDown := 0 } := by
  unfold unresumed
  rw [linkOf_updDie, linkOf_updLink_same]
  rfl

theorem lockLink_locks (n : Nat) (d : Dev) :
    (linkOf (lockLink n d) n).state = .up ∧ (linkOf (lockLink n d) n).upWidth = sheetWidth (linkOf d n).hubUp ∧
      (linkOf (lockLink n d) n).downWidth = sheetWidth (linkOf d n).hubDown := by
  have hshape := ((linkShape_resumeBundle n false _).trans (linkShape_resumeBundle n true (unresumed n d))).trans (linkShape_unresumed n d)
  rw [← lockLink_eq] at hshape
  generalize linkOf (lockLink n d) n = l at hshape ⊢
  exact ⟨(congrArg Link.state hshape :), (congrArg Link.upWidth hshape :), (congrArg Link.downWidth hshape :)⟩

/-- At a link start every bundle is as new. -/
theorem lockLink_fresh {n : Nat} {d : Dev} (h : (linkOf d n).state = .training) :
    (linkOf (lockLink n d) n).up = bundleInit ∧ (linkOf (lockLink n d) n).down = bundleInit ∧ (lockLink n d).flight = d.flight := by
  have hlink : linkOf (unresumed n d) n = lockedLink (linkOf d n) := by
    unfold unresumed
    rw [linkOf_updDie, linkOf_updLink_same, h]
    rfl
  have hup : bundleOf (linkOf (unresumed n d) n) true = bundleInit := by rw [hlink]; rfl
  have hdown : bundleOf (linkOf (resumeBundle n true (unresumed n d)) n) false = bundleInit := by rw [linkOf_resumeBundle hup, hlink]; rfl
  have hflight : (lockLink n d).flight = (unresumed n d).flight := (flight_resumeBundle hdown).trans (flight_resumeBundle hup)
  rw [linkOf_lockLink h, hflight]
  exact ⟨rfl, rfl, rfl⟩

/-! #### What becomes of a frame -/

section heard
variable {n : DieN} {ud dd : Nat} {ok : Bool} {s : State}

theorem exec_trainingFrame (n : DieN) (ud dd : Nat) (ok : Bool) (s : State) :
    exec (.trainingFrame n ud dd ok) s = .next { s with dev := trainingFrame n ud dd ok s.dev } := rfl

variable {d : Dev} (hok : ok = true) (hid : (linkOf d n).idMismatch = false) (hst : (linkOf d n).state = .training ∨ (linkOf d n).state = .recovery)
  (hright : idWrong d n = false) (hdown : dd = sheetDigest (linkOf d n).hubDown)
include hok hid hst hright hdown

theorem trainingFrame_counts (hup : ud = sheetDigest (linkOf d n).hubUp) (hfew : (linkOf d n).agreeUp < 2 ∨ (linkOf d n).agreeDown < 2) :
    let l := linkOf d n
    LinkSends d (trainingFrame n ud dd ok d) n { l with agreeUp := l.agreeUp + 1, agreeDown := l.agreeDown + 1 }
      [.training n (sheetDigest l.hubUp) (sheetDigest l.hubDown)] := by
  have hsent := agreed_sends d n
  rw [trainingFrame_downAgrees hok hid hst hright hdown, judgedUp_agrees hup, lockIfAgreed_few]
  · exact hsent
  · rw [hsent.only.1]
    exact hfew.imp Nat.succ_lt_succ Nat.succ_lt_succ

theorem trainingFrame_locks (hup : ud = sheetDigest (linkOf d n).hubUp) (hu : 2 ≤ (linkOf d n).agreeUp) (hd : 2 ≤ (linkOf d n).agreeDown) :
    let e := trainingFrame n ud dd ok d
    (linkOf e n).state = .up ∧ (linkOf e n).upWidth = sheetWidth (linkOf d n).hubUp ∧ (linkOf e n).downWidth = sheetWidth (linkOf d n).hubDown ∧
      ((linkOf d n).state = .training → (linkOf e n).up = bundleInit ∧ (linkOf e n).down = bundleInit ∧ e.flight = d.flight) ∧
      (∀ k, k ≠ n.val → linkOf e k = linkOf d k) ∧ e.mem = d.mem ∧ e.harts = d.harts := by
  have hsent := agreed_sends d n
  have heq := trainingFrame_downAgrees (ud := ud) hok hid hst hright hdown
  rw [judgedUp_agrees hup] at heq
  generalize sendFrame n (updLink (updLink d n (fun l => { l with agreeUp := l.agreeUp + 1 })) n (fun l => { l with agreeDown := l.agreeDown + 1 })) = f at hsent heq
  have hframe := frame_of_sends hsent
  obtain ⟨⟨hl, hother, -⟩, -⟩ := hsent
  have hlock : lockIfAgreed n f = lockLink n f := lockIfAgreed_locks (by rw [hl]; exact hst) (by rw [hl]; exact Nat.succ_le_succ hu) (by rw [hl]; exact Nat.succ_le_succ hd)
  obtain ⟨hstate, hwu, hwd⟩ := lockLink_locks n f
  obtain ⟨hothers, hrest⟩ := onlyLink_lockLink n f
  rw [hl] at hwu hwd
  rw [heq, hlock]
  refine ⟨hstate, hwu, hwd, fun htrain => ?_, fun k hk => (hothers k hk).trans (hother k hk),
    (congrArg Dev.mem hrest :).trans (congrArg Dev.mem hframe :), (congrArg Dev.harts hrest :).trans (congrArg Dev.harts hframe :)⟩
  obtain ⟨hnewUp, hnewDown, hflight⟩ := lockLink_fresh (n := n) (d := f) (by rw [hl]; exact htrain)
  exact ⟨hnewUp, hnewDown, hflight.trans (congrArg Dev.flight hframe :)⟩

theorem trainingFrame_narrows {sh : Nat} (hup : ud ≠ sheetDigest (linkOf d n).hubUp)
    (hsh : narrowSheet (linkOf d n).hubUp (linkOf d n).dieUp (linkOf d n).upBad = some sh) :
    let l := linkOf d n
    LinkSends d (trainingFrame n ud dd ok d) n { l with hubUp := sh, dieUp := sh, upAdopted := true, agreeUp := 0, agreeDown := l.agreeDown + 1 }
      [.sheet n true l.hubUp, .training n (sheetDigest sh) (sheetDigest l.hubDown)] := by
  have hsent := linkSends_sendFrame (linkSends_updLink (disagreeUp_narrows hsh) (fun l => { l with agreeDown := l.agreeDown + 1 }))
  rw [trainingFrame_downAgrees hok hid hst hright hdown, judgedUp_differs hup, lockIfAgreed_few]
  · exact hsent
  · rw [hsent.only.1]
    exact .inl (Nat.zero_lt_succ 2)

theorem trainingFrame_fences (hup : ud ≠ sheetDigest (linkOf d n).hubUp) (hsh : narrowSheet (linkOf d n).hubUp (linkOf d n).dieUp (linkOf d n).upBad = none)
    (hpair : inPair d = true) (hphase : (dieOf d n).phase = .inService) :
    let e := trainingFrame n ud dd ok d
    (dieOf e n).phase = .fenced ∧ (dieOf e n).cause = 2 ∧ (linkOf e n).reason = 0x0803 := by
  have hblamed : linkOf (updLink (emit (.sheet n true (linkOf d n).hubUp) d) n (fun l => { l with reason := 0x0803 })) n = { linkOf d n with reason := 0x0803 } :=
    linkOf_updLink_same ..
  obtain ⟨hfenced, hcause, hlink⟩ := fenceDie_inPair (n := n) (cause := 2)
    (d := updLink (emit (.sheet n true (linkOf d n).hubUp) d) n (fun l => { l with reason := 0x0803 })) hphase hpair
  rw [trainingFrame_downAgrees hok hid hst hright hdown, judgedUp_differs hup, disagreeUp_fences hsh]
  generalize fenceDie n 2 _ = f at hfenced hcause hlink ⊢
  have hsent := linkSends_sendFrame (linkSends_updLink (linkSends_refl f n) (fun l => { l with agreeDown := l.agreeDown + 1 }))
  rw [hlink, hblamed] at hsent
  have hdies := congrArg (fun x : Dev => dieOf x n) (frame_of_sends hsent)
  rw [lockIfAgreed_other]
  · exact ⟨(congrArg Die.phase hdies).trans hfenced, (congrArg Die.cause hdies).trans hcause, congrArg Link.reason hsent.only.1⟩
  · rw [hsent.only.1]
    exact LinkSt.noConfusion
  · rw [hsent.only.1]
    exact LinkSt.noConfusion

end heard

/-! ### The wake pattern (R153) -/

section wakes
variable {n : Nat} {d : Dev}

/-- A hart of a die that comes out of fold. -/
def unfoldedHart (x : Hart) : Hart := if x.rest = .fold then { x with rest := .retain } else x

theorem unfoldedHart_idem (x : Hart) : unfoldedHart (unfoldedHart x) = unfoldedHart x := by
  by_cases h : x.rest = .fold
  · simp [unfoldedHart, h]
  · have hsame : unfoldedHart x = x := if_neg h
    rw [hsame, hsame]

/-- A link that comes out of fold. -/
def wokenLink (l : Link) : Link :=
  { l with state := if sheetDigest l.hubUp == sheetDigest l.dieUp && sheetDigest l.hubDown == sheetDigest l.dieDown then .up else .recovery,
           wakeSent := false, agreeUp := 0, agreeDown := 0 }

theorem linkWakes_eq (n : Nat) (d : Dev) :
    linkWakes n d = (hartsOfDie n).foldl (fun d h => updHart d h unfoldedHart) (countDie n 12 (updLink d n (fun l =>
      { l with state := (wokenLink (linkOf d n)).state, wakeSent := false, agreeUp := 0, agreeDown := 0 }))) := rfl

theorem linkWakes_outcome (n : Nat) (d : Dev) :
    let e := linkWakes n d
    linkOf e n = wokenLink (linkOf d n) ∧ (∀ k, k ≠ n → linkOf e k = linkOf d k) ∧
      (∀ h, hartOf e h = if dieOfHart h = n then unfoldedHart (hartOf d h) else hartOf d h) ∧
      { e with links := d.links, harts := d.harts, obs := { e.obs with ctr := d.obs.ctr } } = d := by
  have he := linkWakes_eq n d
  generalize linkWakes n d = e at he ⊢
  have honly := linkOnly_updLink d n (fun l => { l with state := (wokenLink (linkOf d n)).state, wakeSent := false, agreeUp := 0, agreeDown := 0 })
  generalize updLink d n (fun l => { l with state := (wokenLink (linkOf d n)).state, wakeSent := false, agreeUp := 0, agreeDown := 0 }) = f at he honly
  obtain ⟨t, ht⟩ := count_eq 0x9013 n 12 1 f
  rw [countDie, ht] at he
  obtain ⟨hlink, hother, hframe⟩ := honly
  have hfold := foldl_updHart_frame (hartsOfDie n) unfoldedHart { f with obs := { f.obs with ctr := t } }
  rw [← he] at hfold
  have hlinks : e.links = f.links := (congrArg Dev.links hfold :)
  refine ⟨?_, fun k hk => ?_, fun h => ?_, ?_⟩
  · exact (congrArg (fun t => tabGet linkInit t n) hlinks).trans hlink
  · exact (congrArg (fun t => tabGet linkInit t k) hlinks).trans (hother k hk)
  · rw [he, hartOf_foldl_die unfoldedHart_idem]
    exact (congrArg (fun x => if dieOfHart h = n then unfoldedHart (hartOf x h) else hartOf x h) hframe :)
  · have h1 := congrArg (fun x : Dev => { x with links := d.links, harts := d.harts, obs := { x.obs with ctr := d.obs.ctr } }) hfold
    have h2 := congrArg (fun x : Dev => { x with harts := d.harts, obs := { x.obs with ctr := d.obs.ctr } }) hframe
    exact h1.trans h2

/-- The package as a wake pattern reaches a folded die: the die answers a pattern of the hub's. -/
def patternHeard (n : Nat) (byHub : Bool) (d : Dev) : Dev :=
  updDie (if byHub then d else emit (.wake n false) d) n (fun x => { x with snoopBusy := true })

theorem dieOf_patternHeard (byHub : Bool) : dieOf (patternHeard n byHub d) n = { dieOf d n with snoopBusy := true } := by
  cases byHub <;> exact dieOf_updDie_same ..

theorem out_patternHeard (byHub : Bool) : (patternHeard n byHub d).out = d.out ++ (if byHub then [] else [.wake n false]) := by
  cases byHub
  · rfl
  · exact (List.append_nil _).symm

theorem patternHeard_frame (byHub : Bool) : { patternHeard n byHub d with dies := d.dies, out := d.out } = d := by
  cases byHub <;> rfl

theorem links_of_heard {p : Dev} (h : { p with dies := d.dies, out := d.out } = d) : p.links = d.links := (congrArg Dev.links h :)
theorem harts_of_heard {p : Dev} (h : { p with dies := d.dies, out := d.out } = d) : p.harts = d.harts := (congrArg Dev.harts h :)

theorem wakePattern_eq (byHub : Bool) (h : (linkOf d n).state = .folded) : wakePattern n byHub d = linkWakes n (patternHeard n byHub d) := by
  have hlinks := links_of_heard (patternHeard_frame (n := n) (d := d) byHub)
  have hfolded : (linkOf (patternHeard n byHub d) n).state = .folded := (congrArg (fun t => (tabGet linkInit t n).state) hlinks).trans h
  exact (if_pos h).trans (if_pos hfolded)

/-- The package `e` with everything that a wake pattern may change put back as `d` has it. -/
def wokenFrame (d e : Dev) : Dev :=
  { e with links := d.links, harts := d.harts, dies := d.dies, out := d.out, obs := { e.obs with ctr := d.obs.ctr } }

theorem wokenFrame_of_links {e p : Dev} (h : { e with links := p.links, harts := p.harts, obs := { e.obs with ctr := p.obs.ctr } } = p) :
    wokenFrame d e = wokenFrame d p :=
  (congrArg (wokenFrame d) h :)

theorem wokenFrame_of_heard {p : Dev} (h : { p with dies := d.dies, out := d.out } = d) : wokenFrame d p = d :=
  (congrArg (wokenFrame d) h :)

/-- What comes out of fold from a package that differs in its dies and outputs only. -/
theorem linkWakes_after {p : Dev} (hheard : { p with dies := d.dies, out := d.out } = d) :
    let e := linkWakes n p
    linkOf e n = wokenLink (linkOf d n) ∧ (∀ k, k ≠ n → linkOf e k = linkOf d k) ∧
      (∀ h, hartOf e h = if dieOfHart h = n ∧ (hartOf d h).rest = .fold then { hartOf d h with rest := .retain } else hartOf d h) ∧
      dieOf e n = dieOf p n ∧ e.out = p.out ∧ wokenFrame d e = d := by
  obtain ⟨hlink, hother, hharts, hframe⟩ := linkWakes_outcome n p
  generalize linkWakes n p = e at hlink hother hharts hframe ⊢
  have hlinks (k : Nat) : linkOf p k = linkOf d k := congrArg (fun t => tabGet linkInit t k) (links_of_heard hheard)
  have hhart (k : Nat) : hartOf p k = hartOf d k := congrArg (fun t => tabGet hartInit t k) (harts_of_heard hheard)
  refine ⟨?_, fun k hk => ?_, fun k => ?_, (congrArg (fun x => dieOf x n) hframe :), (congrArg Dev.out hframe :), ?_⟩
  · rw [hlink, hlinks]
  · rw [hother k hk, hlinks]
  · rw [hharts k, hhart, unfoldedHart]
    by_cases hk : dieOfHart k = n
    · simp only [hk, true_and, if_true]
    · simp only [hk, false_and, if_false]
  · exact (wokenFrame_of_links hframe).trans (wokenFrame_of_heard hheard)

theorem wakePattern_outcome (byHub : Bool) (h : (linkOf d n).state = .folded) :
    let e := wakePattern n byHub d
    linkOf e n = wokenLink (linkOf d n) ∧ (∀ k, k ≠ n → linkOf e k = linkOf d k) ∧
      (∀ h, hartOf e h = if dieOfHart h = n ∧ (hartOf d h).rest = .fold then { hartOf d h with rest := .retain } else hartOf d h) ∧
      dieOf e n = { dieOf d n with snoopBusy := true } ∧ e.out = d.out ++ (if byHub then [] else [.wake n false]) ∧
      { e with links := d.links, harts := d.harts, dies := d.dies, out := d.out, obs := { e.obs with ctr := d.obs.ctr } } = d := by
  rw [wakePattern_eq byHub h, ← dieOf_patternHeard byHub, ← out_patternHeard byHub]
  exact linkWakes_after (patternHeard_frame byHub)

end wakes

/-! ### Jig mode (R156–R158) -/

section jig
variable {n : Nat} {d : Dev}

/-- One unit's jig state changes. -/
def updJig (d : Dev) (n : Nat) (f : JigSt → JigSt) : Dev := { d with jig := tabUpd jigInit d.jig n f }

theorem jigOf_updJig_same (d : Dev) (n : Nat) (f : JigSt → JigSt) : jigOf (updJig d n f) n = f (jigOf d n) := tabGet_tabUpd_same ..
theorem jigOf_updJig_other (d : Dev) {n k : Nat} (f : JigSt → JigSt) (hk : k ≠ n) : jigOf (updJig d n f) k = jigOf d k := tabGet_tabUpd_other _ _ _ hk

/-- The unit in jig mode. -/
def jigSet (n : Nat) (d : Dev) : Dev := updJig d n (fun j => { j with inJig := true })

theorem jigOf_jigSet (n : Nat) (d : Dev) : jigOf (jigSet n d) n = { jigOf d n with inJig := true } := jigOf_updJig_same ..

theorem jigEnter_idle (h : d.pins.pkgReset = false) : jigEnter n d = d := if_neg (by rw [h]; exact Bool.false_ne_true)

theorem jigEnter_die (h : d.pins.pkgReset = true) (hn : n < 12) :
    jigEnter n d = updLink (updDie (jigSet n d) n (fun x => { x with cache := [], wb := [] })) n (fun l => { l with state := .jig }) :=
  (if_pos h).trans (if_pos hn)

theorem jigEnter_hub (h : d.pins.pkgReset = true) (hn : ¬n < 12) : jigEnter n d = { jigSet n d with msc := [], slices := [], spad := [] } :=
  (if_pos h).trans (if_neg hn)

theorem jigEnter_outcome (h : d.pins.pkgReset = true) :
    let e := jigEnter n d
    jigOf e n = { jigOf d n with inJig := true } ∧
      (n < 12 → DieOnly { d with jig := e.jig, links := e.links } e n { dieOf d n with cache := [], wb := [] } ∧
        linkOf e n = { linkOf d n with state := .jig }) ∧
      (n = 12 → e = { d with jig := e.jig, spad := [], msc := [], slices := [] }) := by
  intro e
  by_cases hn : n < 12
  · have he : e = _ := jigEnter_die h hn
    rw [he]
    refine ⟨jigOf_jigSet .., fun _ => ⟨⟨?_, fun k hk => ?_, rfl⟩, ?_⟩, fun h12 => absurd hn (by omega)⟩
    · rw [dieOf_updLink, dieOf_updDie_same]
      rfl
    · rw [dieOf_updLink, dieOf_updDie_other _ _ hk]
      rfl
    · rw [linkOf_updLink_same, linkOf_updDie]
      rfl
  · have he : e = _ := jigEnter_hub h hn
    rw [he]
    exact ⟨jigOf_jigSet .., fun hlt => absurd hlt hn, fun _ => rfl⟩

/-- The loop counts errors: it is internal, or goes through a far unit in jig mode too. -/
def loopRuns (n dr : Nat) (d : Dev) : Bool := dr % 4 == 0 || (dr % 4 == 1 && (jigOf d (jigFar n (getBits dr 8 8))).inJig)

/-- The 70 counts, saturated at 16 bits. -/
def loopCounts (es : List Nat) : List Nat := (List.range 70).map (fun i => min 65535 (es.getD i 0))

theorem getD_loopCounts (es : List Nat) {i : Nat} (hi : i < 70) : (loopCounts es).getD i 0 = min 65535 (es.getD i 0) := by
  simp [loopCounts, List.getD_eq_getElem?_getD, hi]

theorem jigLoop_eq {dr : Nat} (es : List Nat) (hjig : (jigOf d n).inJig = true) (hport : jigPortOk n (getBits dr 8 8) = true) :
    jigLoop n dr es d = updJig d n (fun j =>
      { j with port := getBits dr 8 8, result := if loopRuns n dr d then loopCounts es else j.result }) :=
  if_pos (by rw [hjig, hport]; rfl)

theorem loopRuns_iff {dr : Nat} : loopRuns n dr d = true ↔ dr % 4 = 0 ∨ (dr % 4 = 1 ∧ (jigOf d (jigFar n (getBits dr 8 8))).inJig = true) := by
  simp [loopRuns]

theorem jigLoop_outcome {dr : Nat} (es : List Nat) (hjig : (jigOf d n).inJig = true) (hport : jigPortOk n (getBits dr 8 8) = true) :
    let e := jigLoop n dr es d
    let runs := dr % 4 = 0 ∨ (dr % 4 = 1 ∧ (jigOf d (jigFar n (getBits dr 8 8))).inJig = true)
    (jigOf e n).inJig = true ∧ (jigOf e n).port = getBits dr 8 8 ∧ (runs → ∀ i, i < 70 → (jigOf e n).result.getD i 0 = min 65535 (es.getD i 0)) ∧
      (¬runs → (jigOf e n).result = (jigOf d n).result) ∧ (∀ k, k ≠ n → jigOf e k = jigOf d k) ∧ { e with jig := d.jig } = d := by
  intro e runs
  have he : e = _ := jigLoop_eq es hjig hport
  have hsame : jigOf e n = { jigOf d n with port := getBits dr 8 8, result := if loopRuns n dr d then loopCounts es else (jigOf d n).result } := by
    rw [he, jigOf_updJig_same]
  rw [hsame]
  refine ⟨hjig, rfl, fun hruns i hi => ?_, fun hruns => ?_, fun k hk => ?_, ?_⟩
  · show (if loopRuns n dr d = true then loopCounts es else _).getD i 0 = _
    rw [if_pos (loopRuns_iff.2 hruns), getD_loopCounts es hi]
  · exact if_neg fun h => hruns (loopRuns_iff.1 h)
  · rw [he, jigOf_updJig_other _ _ hk]
  · rw [he]
    rfl

end jig

theorem exec_jigResult (n : Fin 13) (s : State) :
    exec (.jigResult n) s = .next { s with dev := (if (jigOf s.dev n).inJig then
      emit (.jtag n ((List.range 70).foldl (fun a i => a + (jigOf s.dev n).result.getD i 0 * 2 ^ (16 * i)) 0)) s.dev else s.dev) } := rfl

theorem exec_jigSheet (n : Fin 13) (s : State) :
    let f := fusedSheets s.dev (if n.val = 12 then (jigOf s.dev 12).port else n.val)
    exec (.jigSheet n) s = .next { s with dev := (if (jigOf s.dev n).inJig then emit (.jtag n (f.upSheet + 2 ^ 64 * f.downSheet)) s.dev else s.dev) } := rfl

theorem exec_jigEnter (n : Fin 13) (s : State) : exec (.jigEnter n) s = .next { s with dev := jigEnter n s.dev } := rfl
theorem exec_wakePattern (n : DieN) (byHub : Bool) (s : State) : exec (.wakePattern n byHub) s = .next { s with dev := wakePattern n byHub s.dev } := rfl
theorem exec_jigLoop (n : Fin 13) (dr : BitVec 32) (es : List Nat) (s : State) :
    exec (.jigLoop n dr es) s = .next { s with dev := jigLoop n dr.toNat es s.dev } := rfl

/-- Settles O32. A frame judges one bundle, then the other, and locks the link at the third agreement; what a lock or a wake leaves is its link's and its die's own. -/
theorem trainingWakeAndJig : Obligations.TrainingWakeAndJig := by
  refine ⟨fun n o s htrain => ⟨fun hbad => ?_, fun u v hpll hu hv => ?_⟩, fun n ud dd ok s => ⟨fun hignored => ?_, fun hok hid hst => ⟨fun hwrong => ?_, fun hright => ?_⟩⟩,
    fun n byHub s hfolded => ⟨_, exec_wakePattern n byHub s, wakePattern_outcome byHub hfolded⟩, fun n s => ⟨_, rfl, linkOnly_updLink ..⟩, fun s => rfl, fun s => rfl,
    fun n s => ⟨fun hreset => ?_, fun hreset => ⟨_, exec_jigEnter n s, jigEnter_outcome hreset⟩⟩,
    fun n dr es s hjig hport => ⟨_, exec_jigLoop n dr es s, jigLoop_outcome es hjig hport⟩, fun n s hjig => ?_, fun n s hjig => ?_⟩
  · rw [exec_linkTraining n o s htrain, startTraining_untrained hbad]
    have hsent := linkSends_sendFrame (linkSends_updLink (linkSends_refl s.dev n) (fun l => { l with state := .untrained, reason := 0x0802 }))
    exact ⟨_, rfl, hsent.only, hsent.out⟩
  · rw [exec_linkTraining n o s htrain, startTraining_trains hpll hu hv]
    have hsent := linkSends_sendFrame (linkSends_updLink (linkSends_refl s.dev n) (startedLink s.dev n o u v))
    obtain ⟨hlink, hother, -⟩ := hsent.only
    refine ⟨_, rfl, ?_, ?_, ?_, ?_, ?_, ?_, ?_, ?_, ?_, hother, hsent.out, frame_of_sends hsent⟩ <;> rw [hlink] <;> rfl
  · rw [exec_trainingFrame, trainingFrame_ignored hignored]
  · rw [exec_trainingFrame, trainingFrame_wrongIdentity hok hid hst hwrong]
    exact ⟨_, rfl, linkOnly_updLink ..⟩
  · rw [exec_trainingFrame]
    refine ⟨fun hup hdown => ⟨fun hfew => ⟨_, rfl, ?_⟩, fun h2 h2' => ⟨_, rfl, trainingFrame_locks hok hid hst hright hdown hup h2 h2'⟩⟩,
      fun sh hup hdown hsh => ⟨_, rfl, ?_⟩, fun hup hsh hdown hpair hphase => ⟨_, rfl, trainingFrame_fences hok hid hst hright hdown hup hsh hpair hphase⟩⟩
    · have hsent := trainingFrame_counts hok hid hst hright hdown hup hfew
      exact ⟨hsent.only, hsent.out⟩
    · have hsent := trainingFrame_narrows hok hid hst hright hdown hup hsh
      exact ⟨hsent.only, hsent.out⟩
  · rw [exec_jigEnter, jigEnter_idle hreset]
  · rw [exec_jigResult, if_pos hjig]
  · rw [exec_jigSheet, if_pos hjig]

end Sys2Proof.Proofs
end
